-- ==== Sys2Proof/Word.lean ====
section
/-!
DEFINITION. The words of the register interface: every register of the map is 32 bits wide (R379, R446), a byte is 8 bits.
-/

namespace Sys2Proof

/-- A register word. -/
abbrev Word := BitVec 32

/-- A byte of DRAM, of host memory or of a frame. -/
abbrev Byte := BitVec 8

end Sys2Proof
end

