-- ==== Sys2Proof/Syntax.lean ====
section
/-!
DEFINITION. The commands of the block: one constructor of `Instr` per row of spec/opcode_table.json, with its operands, and the
types of the operands. What the outside world decides and the manual does not compute (a measured value, a verdict of a
signature check, the outcome of a bus transaction) is an operand and may have any value.
-/

namespace Sys2Proof

/-- A half-bridge slot, 0–23 (R1). -/
abbrev Slot := Fin 24
/-- A cluster, 0–11 (R1). -/
abbrev Clu := Fin 12
/-- A region, 0–1 (R1). -/
abbrev Rgn := Fin 2
/-- A Tightrope monitor, 0–255 (R17). -/
abbrev Mon := Fin 256
/-- A triplet: 0–3 are LT0–LT3, 4 is MT (R298). -/
abbrev Trip := Fin 5
/-- A CAN controller (R360). -/
abbrev CanC := Fin 6
/-- A host ring, 0–31 (R383). -/
abbrev Ring := Fin 32
/-- A mailbox channel, 0–15 (R408). -/
abbrev Chan := Fin 16
/-- A safety output SO0–SO7 (R332). -/
abbrev SoOut := Fin 8
/-- An auxiliary drive (R280). -/
abbrev AuxD := Fin 4
/-- A feedback interface (R288). -/
abbrev FbI := Fin 4
/-- A service-regulator controller (R270). -/
abbrev Svr := Fin 4
/-- A SAR core pair (R239). -/
abbrev Pair := Fin 4
/-- A modulator input (R249). -/
abbrev ModIn := Fin 24
/-- An Ethernet port (R344). -/
abbrev Port := Fin 2

/-- A base address register with single-word registers (R380). -/
inductive Bar where
  | bar0 | bar2
  deriving DecidableEq, Repr

/-- A party of the module that writes, commands or posts (R408). -/
inductive Party where
  | host | mt | lt (i : Fin 4) | ringmaster | device
  deriving DecidableEq, Repr

/-- The configuration registers of a Tightrope monitor (R21, R22). -/
inductive TrReg where
  | cfg | deadline | releaseLo | releaseHi | period
  deriving DecidableEq, Repr

/-- A triplicated group of self-timed stages (R24): that of a triplet, or another group of a die. -/
inductive Stage where
  | triplet (t : Trip)
  | control (group : Nat)
  | measurement (group : Nat)
  deriving DecidableEq, Repr

/-- An adaptive core rail (R25). -/
inductive Rail where
  | cd | md
  deriving DecidableEq, Repr

/-- A writable slack-controller register (R27). -/
inductive SlackReg where
  | target | window | limits
  deriving DecidableEq, Repr

/-- Who receives an uncorrectable DRAM error (R28): a host read through BAR4, a capture ring, the waveform capture, one copy of a triplet, or
all three copies of one alike (R304). -/
inductive DramReader where
  | bar4 | capture (c : Fin 4) | waveform | copy (t : Trip) (c : Fin 3) | triplet (t : Trip)
  deriving DecidableEq, Repr

/-- A supervised supply (R51). -/
inductive Supply where
  | vauxA | vauxB | vso | vio (x : Fin 6)
  deriving DecidableEq, Repr

/-- A die whose internal rail is supervised (R59). -/
inductive DieRail where
  | control | measurement | dram | store | driver (n : Slot) | ringmaster
  deriving DecidableEq, Repr

/-- What is inside its window again (R34): a supply of R50, or an internal rail of R59. -/
inductive Returned where
  | supply (s : Supply) | rail (d : DieRail)
  deriving DecidableEq, Repr

/-- A channel of a half-bridge slot. -/
inductive Side where
  | high | low
  deriving DecidableEq, Repr

/-- A kind of firmware image (R69). -/
inductive ImgKind where
  | rm | hv | lt (t : Fin 4)
  deriving DecidableEq, Repr

/-- What the signature and key check of R69 says of copies A and B of one kind of image. -/
structure Verdicts where
  a : Bool
  b : Bool
  deriving DecidableEq, Repr

/-- What the dies find as they leave reset for BOOT: a reserved pin driven (R43), the commissioning-lock record readable (R65), and the levels
of MODID3–MODID0 (R42). -/
structure BootIn where
  pinFault : Bool
  lockOk   : Bool
  modid    : Fin 16
  deriving DecidableEq, Repr

/-- An authorisation presented under R83: the key slot it names, the nonce it signs, and whether the signature verifies. -/
structure Auth where
  key   : Fin 4
  nonce : Nat
  sigOk : Bool
  deriving DecidableEq, Repr

/-- A configuration image (R72): register offsets and values, and the 64-word safety parameter set (R338). -/
structure ConfigImage where
  writes : List (Nat × Word)
  pars   : List Word
  deriving DecidableEq, Repr

/-- A measurement source (R238): a SAR input, a modulator input or a precision channel. -/
inductive SrcId where
  | sar (i : Fin 64) | mod (i : Fin 24) | pm (m : Fin 8)
  deriving DecidableEq, Repr

/-- A sample record on its way to its consumers (R102, R238): source, 48-bit stamp in fine steps, code, and its flags. -/
structure Sample where
  src   : SrcId
  stamp : Nat
  code  : Int
  ovr   : Bool
  xcf   : Bool
  deriving DecidableEq, Repr

/-- What bears on the loss of carrier alignment (R114): an alignment error as found now, in ps, or an absent sync bus. -/
inductive AlignLoss where
  | error (ps : Int) | bus
  deriving DecidableEq, Repr

/-- How a phase of an edge profile ends (R121): VGS past PRE_VTH, the time limit, the end of the transition, no transition, and, after a turn-off,
VGS below VGN + 2.0 V (R129). -/
inductive PhaseEnd where
  | vth | tmax | transEnd | noTrans | off
  deriving DecidableEq, Repr

/-- The fields of a transaction that Mirror Hall compares (R299). -/
structure TxFields where
  kind : Nat
  addr : Nat
  size : Nat
  be   : Nat
  data : Nat
  mode : Nat
  pmp  : Nat
  deriving DecidableEq, Repr

/-- A transaction presented by a copy (R299, R303, R305): its index and epoch tag, the compared fields, whether it is a signature
transaction (R302), and the retired-instruction count reported with it. -/
structure TripTx where
  index  : Nat
  epoch  : Nat
  fields : TxFields
  sig    : Bool
  icount : Nat
  deriving DecidableEq, Repr

/-- A request on the debug port other than a halt (R309–R312). -/
inductive DbgReq where
  | resume (t : Trip) | setBreak (t : Trip) (addr : Nat) | clearBreak (t : Trip) (addr : Nat) | inspect (t : Trip)
  deriving DecidableEq, Repr

/-- What a grid measurement unit finds at an update (R160): frequency in mHz and ROCOF in mHz/s, without any phase jump; the angle of
phase A in 2^-16 turn; sequence magnitudes in codes; the crossing found since the last update, TB in fine steps; the phase magnitudes, in
codes, where the owner's job calls its RIDE block on this update (R166). -/
structure GmuOut where
  freq  : Nat
  rocof : Int
  angle : Nat
  pos   : Nat
  neg   : Nat
  zc    : Option Nat
  mags  : Option (Nat × Nat × Nat)
  deriving DecidableEq, Repr

/-- The parameters of a VIMP block (R165), as the control code gives them: I_TH, I_MAX and KVI in 2^-14 pu, XR in 2^-8. -/
structure VimpPar where
  iTh  : Nat
  iMax : Nat
  kvi  : Nat
  xr   : Nat
  deriving DecidableEq, Repr

/-- The parameters of a RIDE block (R166): up to eight points of each voltage boundary, a phase magnitude in codes and its time in ms; the
momentary-cessation thresholds and CESS_MODE; up to four frequency bands, in mHz, with their durations in ms; RAMP_RATE in per cent per second. -/
structure RidePar where
  low      : List (Nat × Nat)
  high     : List (Nat × Nat)
  cessLow  : Nat
  cessHigh : Nat
  cessMode : Bool
  bands    : List (Nat × Nat × Nat)
  rate     : Nat
  deriving DecidableEq, Repr

/-- The runtime blocks that a control code uses for one cluster (R164). -/
structure BlockPar where
  k    : Clu
  vimp : Option VimpPar
  ride : Option RidePar
  deriving DecidableEq, Repr

/-- A current or voltage in the dq frame, in 2^-14 pu. -/
structure Dq where
  d : Int
  q : Int
  deriving DecidableEq, Repr

/-- A call of VIMP (R165): the current reference and the voltage reference. -/
structure VimpCall where
  i : Dq
  v : Dq
  deriving DecidableEq, Repr

/-- Segment A of a sync-bus cycle (R168). -/
structure SyncHdr where
  cidx    : Nat
  lid     : Fin 16
  sepoch  : Nat
  members : Nat
  deriving DecidableEq, Repr

/-- One group's reference in segment B (R168, R172). -/
structure SyncRef where
  valid : Bool
  angle : Nat
  id    : Int
  iq    : Int
  deriving DecidableEq, Repr

/-- Segment C: a module's status slot (R168). -/
structure SyncSlot where
  modid  : Fin 16
  mepoch : Nat
  state  : Nat
  flags  : Nat
  deriving DecidableEq, Repr

/-- A sync-bus cycle as a module sees it (R168–R174): what stands on the bus in segments A, B and C, the first bit the most significant, nothing
where no module drives it; the references of this module's own outer loop, and the magnitude of each group cluster's current, in 2^-7 pu. -/
structure SyncIn where
  segA  : Option (BitVec 128)
  segB  : Option (BitVec 120)
  segC  : Option (BitVec 64)
  own   : SyncRef × SyncRef
  share : Nat × Nat
  deriving DecidableEq, Repr

/-- A CAN frame (R371, R373): identifier (a standard one in bits 28:18), flags, DLC, data bytes, TB tick of its start of frame. -/
structure CanFrame where
  id    : Nat
  ide   : Bool
  rtr   : Bool
  fdf   : Bool
  brs   : Bool
  esi   : Bool
  dlc   : Fin 16
  data  : List Byte
  stamp : Nat
  deriving DecidableEq, Repr

/-- The conversions of one input in a scan (R243, R256), in codes before any correction; the over-range comparator. -/
structure SarCode where
  input : Fin 64
  xs    : List Int
  ovr   : Bool
  deriving DecidableEq, Repr

/-- A thermal reading cycle (R263): on-die readings by location 0x00–0x2B in 0.1 °C, none outside the sensor range, and the NTC
resistances by slot in 0.1 Ω. -/
structure ThermalIn where
  dies : List (Option Int)
  ntcs : List Nat
  deriving DecidableEq, Repr

/-- What a service-regulator controller senses in a period (R273): VSNS and the peak of each IMON, in mV. -/
structure SvrIn where
  vsns : Nat
  imon : List Nat
  deriving DecidableEq, Repr

/-- The levels of a feedback interface after an edge, and its stamp, TB tick (R288). -/
structure FbIn where
  a     : Bool
  b     : Bool
  z     : Bool
  stamp : Nat
  deriving DecidableEq, Repr

/-- What each core of Ringmaster commands in a decision (R318): lines released and outputs energised. -/
structure RmVotes where
  lines : List Nat
  outs  : List Nat
  deriving DecidableEq, Repr

/-- A driver die's return frame (R325, R327): CRC verdict, H_ILINE, EREMOVED, junction in 0.1 °C, NTC in 0.1 °C or none when it is open
or shorted. -/
structure RetFrame where
  crcOk    : Bool
  iline    : Bool
  eremoved : Bool
  tj       : Int
  ntc      : Option Int
  deriving DecidableEq, Repr

/-- A received Ethernet frame (R344, R345, R359): size with tag and FCS, FCS verdict, whether the receiver had room for it, VID of its tag. -/
structure EthFrame where
  size  : Nat
  fcsOk : Bool
  room  : Bool
  vid   : Option Nat
  deriving DecidableEq, Repr

/-- A received frame that a MAC may pass to Ringmaster (R349, R350): VID of its tag, EtherType, addresses, the 42 bytes of its PDU, and its ingress
PTP stamp. -/
structure SafetyPdu where
  vid   : Option Nat
  etype : Nat
  dst   : Nat
  src   : Nat
  bytes : List Byte
  sec   : Nat
  ns    : Nat
  deriving DecidableEq, Repr

/-- How a transmission attempt ends (R363, R367, R370): sent, with the delay measured where the frame had BRS; arbitration lost; an error,
in the data field after arbitration or elsewhere, that raises TEC or, under the standard's exceptions, does not. -/
inductive TxEnd where
  | sent (tdcv : Option Nat) | lostArb | error (inData : Bool) (counts : Bool) (tdcv : Option Nat)
  deriving DecidableEq, Repr

/-- The outcome of the host-memory read of a descriptor's data (R394). -/
structure DmaRes where
  ok : Bool
  deriving DecidableEq, Repr


/-- The commands: every row of spec/opcode_table.json. -/
inductive Instr where
  /-- REGISTER_WRITE (R446). A host write to a register that has no row of its own, under its block's access and direct-write rules. -/
  | registerWrite (off : Nat) (v : Word)
  /-- BAD_ACCESS (R380). A BAR0 or BAR2 access that is not a single aligned 32-bit access sets BADACC; reads complete with Unsupported Request and writes are dropped. -/
  | badAccess (bar : Bar) (write : Bool)
  /-- BAR4_WRITE (R381). A host write through BAR4 is accepted inside the shared window, or dropped with BAR4WP outside it. -/
  | bar4Write (off : Nat) (data : List Byte)
  /-- BAR4_READ (R381). A host read through BAR4 returns DRAM data, poisoned on an uncorrectable error; single-bit errors in its bursts are corrected. -/
  | bar4Read (off : Nat) (len : Nat) (corrected : Nat) (uncorrectable : Bool)
  /-- TB_LO_READ (R453). A read of CLK_TB_LO latches TB bits 63:32 into CLK_TB_HI. -/
  | tbLoRead
  /-- CNTSUB (R449). A write to GLB_CNTSUB subtracts its bytes, floored at 0, from the counters of the register selected in GLB_CNTSEL, or is refused with CNTERR. -/
  | cntsub (v : Word)
  /-- MSI_HOLDOFF_END (R456). The 1 µs spacing of messages on a vector ends and a withheld message is issued. -/
  | msiHoldoffEnd (v : Fin 64)
  /-- BUS_MASTER_ENABLE (R456). Bus mastering is enabled again and one withheld message is issued per vector. -/
  | busMasterEnable
  /-- CLOCK_LOSS (R12). Loss of a timing domain's clock is detected, its loss flag is set and the domain's reaction follows. -/
  | clockLoss (d : Fin 14) (groups : Fin 16)
  /-- CLOCK_RETURN (R12). A lost clock returns and its domain resumes, for example CAN integrating afresh or metering resuming. -/
  | clockReturn (d : Fin 14)
  /-- TB_DEVIATION_WINDOW (R13). At the end of each 10 µs TD12 window Ringmaster measures TB and orders the package safe state after 16 consecutive deviations beyond 5 %. -/
  | tbDeviationWindow (dev : Int)
  /-- JOB_RELEASE (R20). A Tightrope monitor releases a job at its release time and increments SEQ. -/
  | jobRelease (m : Mon)
  /-- COMPLETION_WRITE (R18). A write to CLK_TRm_DONE ends the open job or is discarded with BADWR. -/
  | completionWrite (who : Party) (m : Mon) (v : Word)
  /-- DEADLINE_FAULT (R17). A job not completed by its deadline ends by fault at the next tick and its fault class is applied. -/
  | deadlineFault (m : Mon)
  /-- TIGHTROPE_CFG_WRITE (R21). A write to CLK_TRm_CFG, DEADLINE, RELEASE or PERIOD is accepted, or refused with CFGERR. -/
  | tightropeCfgWrite (who : Party) (m : Mon) (r : TrReg) (v : Word)
  /-- STALL (R23). A self-timed stage's handshake exceeds its stall bound and the copy is fenced or the die faulted. -/
  | stall (st : Stage) (copy : Fin 3)
  /-- SLACK_WINDOW_END (R26). At the end of a slack window an adaptive core rail moves one 5 mV step. -/
  | slackWindowEnd (rail : Rail)
  /-- SLACK_PARAM_WRITE (R27). A write to a slack-controller limit or window is clamped to its allowed range with VCLAMP. -/
  | slackParamWrite (rail : Rail) (r : SlackReg) (v : Word)
  /-- DRAM_UNCORRECTABLE (R28). An uncorrectable LPDDR5 error is returned to the reader as an error response. -/
  | dramUncorrectable (rd : DramReader)
  /-- SUPPLY_EXCURSION (R51). A supervised supply crosses a threshold for its filter time and sets its PWR_FLAGS bit. -/
  | supplyExcursion (sup : Supply) (above : Bool) (crossed : Bool) (beyond : Bool)
  /-- SUPPLY_RETURN (R34). A supply or an internal rail has been inside its window for the filter time and SUPPLY_OUT clears. -/
  | supplyReturn (r : Returned)
  /-- VIO_ENTER_WINDOW (R52). A VIO bank has stayed in its window for 1 ms and VIO_OK is set. -/
  | vioEnterWindow (x : Fin 6)
  /-- VIO_LEAVE_WINDOW (R52). A VIO bank leaves its window, its outputs go high-impedance and VIO_OUT is set. -/
  | vioLeaveWindow (x : Fin 6)
  /-- VAUX_B_RISE (R68). VAUX_B rises above 17.0 V and Ringmaster starts from its ROM. -/
  | vauxBRise
  /-- RINGMASTER_READY (R68). Ringmaster finishes firmware verification and core self-test and signals ready or failed. -/
  | ringmasterReady (v : Verdicts) (selfTest : Bool)
  /-- VAUX_A_RISE (R53). VAUX_A rises above its rising threshold; SEQERR is set if VAUX_B is absent. -/
  | vauxARise
  /-- BOOT_ENTRY (R65). The control, measurement and memory dies leave reset, TB starts at 0 and persistent values are loaded. -/
  | bootEntry (b : BootIn)
  /-- SECURE_BOOT_COMPLETE (R69). Secure boot ends and the device enters CONFIG, or LOCKOUT on failure. -/
  | secureBootComplete (v : Verdicts) (keySlot : Fin 2)
  /-- CONFIG_IMAGE_APPLY (R72). In CONFIG the configuration image is validated and applied as one immediate transaction. -/
  | configImageApply
  /-- CONFIG_COMPLETE (R72). The device leaves CONFIG for DIAG by itself once every condition of R72 holds. -/
  | configComplete
  /-- MEAS_SELF_TEST_DONE (R74). The measurement self-test of DIAG step 1 ends, passing or leading to SAFE with cause 0x05. -/
  | measSelfTestDone (ok : Bool)
  /-- BIAS_START (R74). The bias converters of the next slot start during DIAG step 2. -/
  | biasStart (n : Slot)
  /-- BIAS_START_TIMEOUT (R120). A channel whose BIASOK has not become 1 within 20 ms gets H_BIAS and its slot is marked failed. -/
  | biasStartTimeout (n : Slot) (side : Side)
  /-- OFF_STATE_DIAG_DONE (R143). An off-state diagnosis of a slot ends and its result is classified; voltages at the tap, in µV (R142). -/
  | offStateDiagDone (n : Slot) (v0 : Int) (dPlus : Int) (dMinus : Int)
  /-- SAFETY_IO_TEST_DONE (R74). Ringmaster's safety-output and input test of DIAG step 4 ends. -/
  | safetyIoTestDone (ok : Bool)
  /-- PRECHARGE_START (R77). The precharge output of a region is energised at tp. -/
  | prechargeStart (g : Rgn)
  /-- PRECHARGE_READING (R77). The 1 ms link-voltage reading of precharge is checked against the precharge limits. -/
  | prechargeReading (g : Rgn) (v : Nat)
  /-- PRECHARGE_T_CHECK (R77). At tp + PRE_T_CHECK the link voltage must have reached PRE_V_CHECK. -/
  | prechargeTCheck (g : Rgn)
  /-- PRECHARGE_T_MAX (R77). At tp + PRE_T_MAX precharge fails as slow if PRE_V_DONE has not been reached. -/
  | prechargeTMax (g : Rgn)
  /-- PRECHARGE_OVERLAP_END (R77). After PRE_OVERLAP the precharge output de-energises and the drop check is made. -/
  | prechargeOverlapEnd (g : Rgn)
  /-- DIAG_COMPLETE (R65). Diagnostics and precharge of every configured region are complete and the device enters STANDBY. -/
  | diagComplete
  /-- ARM (R79). Host command ARM releases the interlock lines and enters ARMED if its conditions hold. -/
  | arm
  /-- DISARM (R65). Host command DISARM returns the device from ARMED to STANDBY. -/
  | disarm
  /-- DIAG (R65). Host command DIAG re-enters DIAG from STANDBY and diagnoses every assigned slot. -/
  | diag
  /-- RELOAD (R86). Host command RELOAD de-energises the precharge and main outputs and enters CONFIG. -/
  | reload
  /-- SAFE (R66). Host command SAFE orders the package safe state at once. -/
  | safe
  /-- SET_LOCK (R85). Host command SET_LOCK sets the commissioning lock and ends the COMMISSION session. -/
  | setLock
  /-- DERATE_EXPIRY (R67). A cluster's DERATE clears when no cause has been active for it for 1 s. -/
  | derateExpiry (k : Clu)
  /-- VAUX_A_LOSS (R54). VAUX_A undervoltage is confirmed and the hold-up power-loss sequence starts. -/
  | vauxALoss
  /-- RESERVE_POWER_DOWN (R55). Without a charged pack the dies power down once the no-hold-up ledger record is written or 1 ms has passed. -/
  | reservePowerDown
  /-- HOLDUP_SEQUENCE_END (R54). The hold-up sequence ends, the dies power down and the device is in OFF. -/
  | holdupSequenceEnd
  /-- VAUX_B_LOSS (R56). Loss of VAUX_B drops the interlock lines and de-energises every safety output. -/
  | vauxBLoss
  /-- RINGMASTER_ABSENT (R56). The control die detects the absence of Ringmaster and enters SAFE with cause 0x15. -/
  | ringmasterAbsent
  /-- VAUX_B_RETURN (R56). VAUX_B returns, Ringmaster restarts and arms on its stored parameter set. -/
  | vauxBReturn (v : Verdicts) (selfTest : Bool)
  /-- VSO_EXCURSION (R57). VSO outside its window makes Ringmaster de-energise every output and order the package safe state. -/
  | vsoExcursion (above : Bool)
  /-- RAIL_FAULT (R59). An internal die rail leaves its supervision window for 2 µs and its die reacts. -/
  | railFault (die : DieRail)
  /-- STORE_RAIL_RETURN (R59). The persistent-store rail is back in its window and held writes proceed. -/
  | storeRailReturn
  /-- NONCE_READ (R83). Cumor reads a single-use 16-byte nonce from the device. -/
  | nonceRead (nonce : Nat)
  /-- NONCE_EXPIRY (R83). A nonce expires 300 s after issue. -/
  | nonceExpiry
  /-- INSTALL_COMMISSIONING_KEY (R83). A commissioning key is installed, the first one needing proof of presence. -/
  | installCommissioningKey (key : Nat)
  /-- REVOKE_COMMISSIONING_KEY (R83). An installed commissioning key is revoked during a COMMISSION session. -/
  | revokeCommissioningKey (slot : Fin 4)
  /-- PRESENCE_TIMEOUT (R83). No accepted reset press arrived within 60 s of the first-key request. -/
  | presenceTimeout
  /-- COMMISSION (R83). An authorisation of scope COMMISSION opens a commissioning session. -/
  | commission (a : Auth)
  /-- COMMISSION_SESSION_END (R83). The COMMISSION session ends after 8 h, ending overrides and energised debug. -/
  | commissionSessionEnd
  /-- LOCK_RELEASE (R85). An authorisation of scope LOCK_RELEASE clears the commissioning lock. -/
  | lockRelease (a : Auth)
  /-- LOCKOUT_RELEASE (R82). An authorisation of scope LOCKOUT_RELEASE clears the lockout record and restarts from BOOT. -/
  | lockoutRelease (a : Auth) (selfTest : Bool) (b : BootIn)
  /-- RECORDER_CLEAR_AUTH (R83). An authorisation of scope RECORDER_CLEAR permits one recorder CLEAR. -/
  | recorderClearAuth (a : Auth)
  /-- FUSE_OWNER_KEYS (R69). The owner key hashes are fused under COMMISSION authority. -/
  | fuseOwnerKeys (slot : Fin 2) (hash : Nat)
  /-- ANTIROLLBACK_ADVANCE (R70). A Cumor command under COMMISSION advances an anti-rollback counter. -/
  | antirollbackAdvance (kind : ImgKind)
  /-- IMAGE_WRITE (R70). Huavos writes a received image into the copy not marked good, verifies it and marks it trial. -/
  | imageWrite (kind : ImgKind) (ver : Nat) (fw : Word) (sigOk : Bool)
  /-- LOAD_LT_IMAGE (R72). Loop-triplet images loaded through Cumor are verified and started. -/
  | loadLtImage (t : Fin 4) (v : Verdicts) (blocks : List BlockPar)
  /-- LOAD_CONFIG_IMAGE (R72). A new configuration image loaded through Cumor is applied and its safety set delivered. -/
  | loadConfigImage (img : ConfigImage)
  /-- SLOT_OVERRIDE (R75). A failed slot is overridden under COMMISSION authority for the session. -/
  | slotOverride (n : Slot)
  /-- LOAD_BOUNDARY (R92). At a carrier zero or peak a ready shadow set is copied to the active set, phases slew and carrier changes apply. -/
  | loadBoundary (n : Slot)
  /-- CMPA_WRITE (R92). A write to CMPA marks the carrier-based shadow set ready. -/
  | cmpaWrite (who : Party) (n : Slot) (v : Word)
  /-- PE0_WRITE (R92). A write to PE0 marks the programmed-edge shadow set ready. -/
  | pe0Write (who : Party) (n : Slot) (v : Word)
  /-- COMPARE_EDGE (R91). The pattern calls for a channel change and the edge engine issues its edge after dead time and minimum-pulse rules. -/
  | compareEdge (n : Slot) (t : Nat)
  /-- SLOT_START (R101). A slot starts switching at its first carrier zero or peak 16 ticks after its start conditions are met. -/
  | slotStart (n : Slot)
  /-- SLOT_STOP (R101). A slot stops by normal edges at the next carrier zero or peak. -/
  | slotStop (n : Slot)
  /-- SAMPLE_ARRIVAL (R104). A sample record reaches its consumers: estimates, mode-0 loop updates, peak-current, fast-limit, region and port-open checks. -/
  | sampleArrival (r : Sample)
  /-- ACTING_POINT (R103). An acting point of a slot falls due for an estimate, a mode-1 loop update, neutral-point balancing or the DLC law. -/
  | actingPoint (n : Slot)
  /-- MAXGAP_EXPIRY (R105). No sample after t* arrived by t* + MAXGAP, so a stale estimate is published. -/
  | maxgapExpiry (n : Slot)
  /-- OWNER_REF_WRITE (R109). The owning triplet writes REF.IREF and REF.DFF as one write. -/
  | ownerRefWrite (who : Party) (n : Slot) (v : Word) (call : Option VimpCall)
  /-- PCM_DMAX (R94). A peak-current pulse reaches DMAX × Tsw and ends with PCM_MAX. -/
  | pcmDmax (n : Slot)
  /-- SINC2_VALUE (R251). A fast-path value of a modulator input reaches the edge engines and is compared with LIMIT and TRIP. -/
  | sinc2Value (i : ModIn) (x : Int) (ovr : Bool)
  /-- ALIGNMENT_STEP (R112). A follower measures its offset and steps TB once, moving every future TB time by the step. -/
  | alignmentStep (off : Int)
  /-- ALIGNMENT_LOCK (R113). The alignment error has stayed within 2 ns for 1 ms and the module is locked. -/
  | alignmentLock
  /-- ALIGNMENT_LOSS (R114). Error beyond LIM or an absent sync bus for LOSS_TIME declares alignment lost. -/
  | alignmentLoss (why : AlignLoss)
  /-- LINK_LOSS (R118). No edge-link frame for 400 ticks is a slot-local fault of cause LINK; `up` tells that the frames have come back. -/
  | linkLoss (n : Slot) (up : Bool)
  /-- BIAS_EXCURSION (R120). A bias rail crosses its threshold for 1 µs, a BIAS fault or an H_BIAS hold. -/
  | biasExcursion (n : Slot) (side : Side)
  /-- BIASOK_RETURN (R120). A channel's rails have been in their windows for 1 ms and BIASOK returns to 1. -/
  | biasokReturn (n : Slot) (side : Side)
  /-- GATE_EDGE (R121). An edge command reaches the driver die, which checks the cross-interlock and runs the edge profile or a step-current edge. -/
  | gateEdge (n : Slot)
  /-- EDGE_PHASE_END (R121). A phase of an edge profile ends by threshold, transition end or time limit; of a plateau, the slope of its transition
in 0.5 V/ns and its duration in fine steps (R123). -/
  | edgePhaseEnd (n : Slot) (side : Side) (how : PhaseEnd) (dvdt dur : Nat)
  /-- DSAT_DETECT (R130). The desaturation comparator holds beyond VTH after blanking and a slot-local fault begins the soft turn-off; without
`above` it has fallen back below VTH (R139). -/
  | dsatDetect (n : Slot) (side : Side) (above : Bool)
  /-- SOFT_TURNOFF_STEP2 (R131). SOFT_T after step 1 the gate is sunk toward VGN; `low` names a channel that was at or below VINT at the start of
step 1 and goes straight to step 2. -/
  | softTurnoffStep2 (n : Slot) (low : Option Side)
  /-- SOFT_TURNOFF_STEP3 (R131). The phase-3 sink and clamp are applied, the slot is held and its hold bit set; `below` tells that VGS is below
VGN + 2.0 V. -/
  | softTurnoffStep3 (n : Slot) (below : Bool)
  /-- ILINE_OFF (R136). A driver die declares its interlock line at its off level, turns off softly and opens the gate-energy switch. -/
  | ilineOff (n : Slot)
  /-- ILINE_RELEASE (R137). Ringmaster releases a line and the driver die closes the gate-energy switch. -/
  | ilineRelease (n : Slot)
  /-- ILINE_RELEASE_GUARD_END (R137). 10 µs after a line release the driver die accepts turn-on again. -/
  | ilineReleaseGuardEnd (n : Slot)
  /-- CLEAR_HOLD (R139). Slot command CLEAR_HOLD releases the slot-local holds whose conditions are absent. -/
  | clearHold (who : Party) (n : Slot)
  /-- RUN_DIAG (R144). Slot command RUN_DIAG starts an off-state diagnosis of one slot. -/
  | runDiag (n : Slot)
  /-- ADAPT_RESET (R126). Slot command ADAPT_RESET returns the adapted plateau codes to PLT_INIT. -/
  | adaptReset (n : Slot)
  /-- CLEAR_FAILED (R140). Slot command CLEAR_FAILED clears FCOUNT and H_FAILED under COMMISSION and sets H_DIAG. -/
  | clearFailed (n : Slot)
  /-- ENABLE (R151). Cluster command ENABLE starts the cluster's active slots. -/
  | enable (who : Party) (k : Clu)
  /-- DISABLE (R151). Cluster command DISABLE stops every slot at one carrier zero. -/
  | disable (who : Party) (k : Clu)
  /-- PAUSE (R151). Owner command PAUSE turns both channels of every slot off. -/
  | pause (who : Party) (k : Clu)
  /-- RESUME (R151). Owner command RESUME restarts a paused cluster without step-current edges. -/
  | resume (who : Party) (k : Clu)
  /-- RESTART (R151). Cluster command RESTART clears H_ORDER and returns a safe-stopped cluster to OFF. -/
  | restart (who : Party) (k : Clu)
  /-- REGION_MEAS_TIMEOUT (R154). No link-voltage sample for 4,000 ticks triggers the region reaction. -/
  | regionMeasTimeout (g : Rgn)
  /-- REGION_RESTART (R154). Region command REGION_RESTART clears the region reaction once the voltage is back for 10 ms. -/
  | regionRestart (g : Rgn)
  /-- NP_TARGET_WRITE (R159). The owner writes NP_TARGET, effective at the next acting point. -/
  | npTargetWrite (who : Party) (k : Clu) (v : Int)
  /-- GMU_UPDATE (R160). Every 40,000 ticks the grid measurement unit updates frequency, angle and sequences and reports crossings and jumps. -/
  | gmuUpdate (k : Clu) (u : GmuOut)
  /-- SP_POST (R162). A write to CLU_k_SP_POST copies the staged setpoints into the pending set. -/
  | spPost (k : Clu) (seq : Word)
  /-- SP_PICKUP (R162). At the first carrier zero 16 ticks after a post the pending set becomes active. -/
  | spPickup (k : Clu)
  /-- SYNC_CYCLE (R168). A 32 µs sync-bus cycle: the leader sends segments A and B, module CIDX its status slot, and members apply the shared reference. -/
  | syncCycle (c : SyncIn)
  /-- LEADER_LOSS (R170). LEAD_TO cycles without a valid header declare the leader lost and start the election wait. -/
  | leaderLoss
  /-- ELECTION_WAIT_END (R170). A module's election wait ends without a header and it becomes leader. -/
  | electionWaitEnd
  /-- ISOLATE_EXPIRY (R175). ISOLATE cycles without a valid header make the module fence itself. -/
  | isolateExpiry
  /-- REJOIN (R176). System command REJOIN lets a fenced module set JOIN and rejoin. -/
  | rejoin
  /-- CLUSTER_INSTANT (R181). At a DC cluster instant the port and phase estimates feed the filter, BMU limits, window, overload, plausibility, soft start and charging. -/
  | clusterInstant (k : Clu)
  /-- SHED_DECISION (R184). A shed or add dwell expires and a phase-count change request is delivered to the owner. -/
  | shedDecision (k : Clu)
  /-- DC_SPLIT_ACK (R186). The owner's DC_SPLIT writes the new shares and acknowledges the request. -/
  | dcSplitAck (who : Party) (k : Clu) (shares : List Nat)
  /-- PHASE_COUNT_CHANGE (R186). At the first carrier zero after the acknowledgement the leaving slot stops or the entering slot starts. -/
  | phaseCountChange (k : Clu)
  /-- SHED_REQUEST_TIMEOUT (R186). No acknowledgement within 1 ms withdraws the request with SHED_TO. -/
  | shedRequestTimeout (k : Clu)
  /-- READMIT (R188). DC command READMIT makes an excluded phase healthy and inactive. -/
  | readmit (k : Clu) (pos : Nat)
  /-- SOFT_START_ABORT (R192). Soft start not succeeded within SS_TIME aborts with a cluster safe stop. -/
  | softStartAbort (k : Clu)
  /-- SOFT_START_RETRY (R193). 5 s after an abort the device performs RESTART and ENABLE once, or latches. -/
  | softStartRetry (k : Clu)
  /-- SS_UNLATCH (R193). DC command SS_UNLATCH clears the soft-start latch. -/
  | ssUnlatch (k : Clu)
  /-- MPPT_UPDATE (R196). Every INTERVAL the MPPT law moves VREF_PV. -/
  | mpptUpdate (k : Clu)
  /-- PV_HOLD (R196). The owner's PV_HOLD call freezes MPPT. -/
  | pvHold (who : Party) (k : Clu)
  /-- PV_TRACK (R196). The owner's PV_TRACK call releases MPPT. -/
  | pvTrack (who : Party) (k : Clu)
  /-- SWEEP (R197). DC command SWEEP, or the sweep interval, starts a whole-curve sweep. -/
  | sweep (k : Clu)
  /-- SWEEP_POINT (R197). Every 625 µs the sweep sets the next VREF_PV point and records the previous one. -/
  | sweepPoint (k : Clu)
  /-- SWEEP_END (R197). At tw + 40 ms the sweep picks the maximum-power point and resumes tracking. -/
  | sweepEnd (k : Clu)
  /-- DISCHARGE (R200). DC command DISCHARGE runs the DLC at DMAX until V_DISCH. -/
  | discharge (k : Clu)
  /-- DISCHARGE_STOP (R200). DC command DISCHARGE_STOP ends a discharge. -/
  | dischargeStop (k : Clu)
  /-- BMU_FRAME (R204). A CAN frame passing the engine's filter is checked and becomes the BMU limits. -/
  | bmuFrame (k : Clu) (f : CanFrame)
  /-- BMU_SILENT (R205). No valid BMU frame for BMS_TO zeroes both bounds, ends charge and disables the cluster. -/
  | bmuSilent (k : Clu)
  /-- START (R207). Charge command START enters LI_CC or NI_CC. -/
  | start (who : Party) (k : Clu)
  /-- STOP (R207). Charge command STOP ends a charge with reason 0x0B. -/
  | stop (who : Party) (k : Clu)
  /-- TAPER_DONE (R208). The filtered current has stayed at or below I_TAPER for T_TAPER and the charge ends DONE. -/
  | taperDone (k : Clu)
  /-- CHARGE_WINDOW_END (R209). At the end of each 1 s window the nickel tests and the safety timer are evaluated. -/
  | chargeWindowEnd (k : Clu)
  /-- HEARTBEAT (R214). A write of CHG_HB, or a heartbeat descriptor, proves host presence when its value differs. -/
  | heartbeat (v : Word)
  /-- SN_TIMEOUT (R214). No heartbeat for SN_TO enters Safety Net fallback. -/
  | snTimeout
  /-- SN_EXIT (R216). Command SN_EXIT leaves fallback if a recent heartbeat arrived and the link is up. -/
  | snExit
  /-- PACK_QUALIFY (R218). A pack inside its voltage and NTC range for 2 s is qualified and charging begins. -/
  | packQualify (mv : Nat) (temp : Option Int)
  /-- PACK_CHARGE_WINDOW (R218). A 1 s window of the pack charger evaluates termination, precharge and temperature limits. -/
  | packChargeWindow (mv : Nat) (ma : Int) (temp : Option Int)
  /-- PACK_CHARGE_TIMEOUT (R218). The precharge or fast-charge time limit expires and the charger faults. -/
  | packChargeTimeout
  /-- PACK_PAUSE_END (R218). The pack has been within 5–45 °C for 60 s and charging resumes. -/
  | packPauseEnd
  /-- REMOVAL_PROBE (R219). Every 1 s the charger applies a 10 mA probe to detect removal. -/
  | removalProbe
  /-- PACK_REMOVAL (R219). A terminal step above 6.8 V means removal: Q is 0 and the state ABSENT. -/
  | packRemoval
  /-- SELF_DISCHARGE (R218). Each day Q falls by 1 % of CAP. -/
  | selfDischarge
  /-- RETRY (R223). Pack command RETRY restarts a faulted charger. -/
  | retry
  /-- RECHARGE (R223). Pack command RECHARGE moves MAINT to FAST. -/
  | recharge
  /-- PRECISION_CONVERSION (R253). The precision channels convert together and each account sample is posted to its counters. -/
  | precisionConversion (codes : List Int)
  /-- INTERVAL_CLOSE (R227). At a 1 s boundary the ledger interval closes and the residual is posted. -/
  | intervalClose (g : Rgn)
  /-- JOURNAL_RECORD_WRITE (R230). A closed interval's record is written to the journal, or held or merged in DRAM. -/
  | journalRecordWrite (g : Rgn)
  /-- SAR_SCAN (R241). A SAR pair begins a scan, converts its cross-check and inputs, and produces one record per input. -/
  | sarScan (p : Pair) (xa : Int) (xb : Int) (codes : List SarCode)
  /-- PAIR_RESET (R246). Command PAIR_RESET starts a 64-scan check of a faulted pair. -/
  | pairReset (p : Pair)
  /-- PAIR_RESET_CHECK_END (R246). After 64 observed scans the pair becomes valid or stays invalid. -/
  | pairResetCheckEnd (p : Pair)
  /-- SINC3_RECORD (R250). A modulator input produces a sinc3 record every OSR bits. -/
  | sinc3Record (i : ModIn) (x : Int)
  /-- STUCK_RUN (R252). A run of STUCK identical bits marks a modulator input invalid. -/
  | stuckRun (i : ModIn)
  /-- INPUT_RESET (R252). Command INPUT_RESET revalidates a modulator input. -/
  | inputReset (i : ModIn)
  /-- REFERENCE_CHECK (R258). Every 10 ms the SAR and precision references are compared. -/
  | referenceCheck (dev : Int)
  /-- THERMAL_READING (R263). Every 1 ms every temperature source is read, maxima published and thresholds and foldback applied. -/
  | thermalReading (t : ThermalIn)
  /-- HW_THERMAL_TRIP (R268). A fixed thermal comparator trips, sets every line off and enters SAFE with cause 0x10. -/
  | hwThermalTrip (loc : Nat) (readings : List Int)
  /-- HW_THERMAL_RELEASE (R269). On the IVX-7608 and 7616 the shutdown releases after 10 s below 115 °C. -/
  | hwThermalRelease
  /-- SVR_ENABLE (R271). Setting SVRc_CTRL.EN starts soft start, or is refused with CFGERR. -/
  | svrEnable (c : Svr)
  /-- SVR_DISABLE (R270). Clearing EN takes a service-regulator controller to OFF. -/
  | svrDisable (c : Svr)
  /-- SVR_PERIOD (R273). Once per switching period the controller samples VSNS, computes the duty and applies limits, hiccup, refresh and shedding. -/
  | svrPeriod (c : Svr) (i : SvrIn)
  /-- HICCUP_END (R273). The hiccup OFF time elapses and soft start resumes. -/
  | hiccupEnd (c : Svr)
  /-- SVR_SS_TIMEOUT (R273). A soft start not at 5 % of VREF within SS_TIME + 2 ms is a hiccup event with SSFAIL. -/
  | svrSsTimeout (c : Svr)
  /-- SVR_RETRY_RESET (R273). After 1 s continuously in RUN the retry count returns to 0. -/
  | svrRetryReset (c : Svr)
  /-- SVR_OV (R274). VSNS above the overvoltage limit for 1 µs enters OV_LATCH. -/
  | svrOv (c : Svr)
  /-- SVR_FLT_N (R275). SVRc_FLT_N low holds every high side off until it has been high for one period. -/
  | svrFltN (c : Svr) (low : Bool)
  /-- SVR_SYNC_LOCK (R272). 16 qualifying SVR_SYNC edges lock the period. -/
  | svrSyncLock (c : Svr) (period : Nat)
  /-- SVR_SYNC_LOSS (R272). No SVR_SYNC edge for two periods returns the controller to FSW. -/
  | svrSyncLoss (c : Svr)
  /-- SVR_SHED_DECISION (R276). A service-regulator shed or add dwell expires and a phase is shed or added. -/
  | svrShedDecision (c : Svr)
  /-- AUXD_ENABLE (R282). Setting AUXDi_CTRL.EN starts the drive, or is refused with CFGERR. -/
  | auxdEnable (i : AuxD)
  /-- AUXD_DISABLE (R282). Clearing EN takes the drive to OFF at its next carrier zero. -/
  | auxdDisable (i : AuxD)
  /-- AUXD_DUTYW_WRITE (R283). A write to DUTYW marks the auxiliary duty set ready. -/
  | auxdDutywWrite (i : AuxD) (v : Word)
  /-- AUXD_CARRIER_ZERO (R283). At an auxiliary carrier zero a ready duty set loads. -/
  | auxdCarrierZero (i : AuxD)
  /-- HALL_CHANGE (R284). A Hall state change commutates the HALL6 pattern within 16 ticks. -/
  | hallChange (i : AuxD) (h : Fin 8)
  /-- AUXD_ILIM (R286). Current above ILIM ends a high-side pulse. -/
  | auxdIlim (i : AuxD)
  /-- AUXD_TRIP (R286). Current above TRIP drives all outputs low and enters FAULT. -/
  | auxdTrip (i : AuxD)
  /-- AUXD_BSTUV (R285). A bootstrap undervoltage holds the phase's high side off. -/
  | auxdBstuv (i : AuxD) (ph : Fin 3)
  /-- AUXD_BSTUV_END (R285). The bootstrap is above its rising threshold for one carrier period and the hold ends. -/
  | auxdBstuvEnd (i : AuxD) (ph : Fin 3)
  /-- VM_SAMPLE (R287). Every 10 µs VM is sampled and a drive in RUN goes to VMHOLD outside its window. -/
  | vmSample (i : AuxD) (vm : Nat)
  /-- VMHOLD_END (R282). VM inside its window for 10 ms returns the drive to RUN. -/
  | vmholdEnd (i : AuxD)
  /-- FB_EDGE (R289). A feedback edge is stamped and counted, with reversal, Z capture and compare hit. -/
  | fbEdge (i : FbI) (e : FbIn)
  /-- OBSERVER_UPDATE (R292). Every 10 µs the tracking observer updates position, speed and acceleration. -/
  | observerUpdate (i : FbI)
  /-- FB_CFG_WRITE (R297). A write to FBi_CFG sets KIND, resetting counter and observer, or is ignored. -/
  | fbCfgWrite (i : FbI) (v : Word)
  /-- TRANSACTION_PRESENT (R300). A triplet copy presents a transaction, which Mirror Hall votes, releases or fences on. -/
  | transactionPresent (t : Trip) (c : Fin 3) (tx : TripTx)
  /-- LAG_TIMEOUT (R301). A copy that has not presented a released transaction within LAG_TO is fenced with LAG. -/
  | lagTimeout (t : Trip) (c : Fin 3)
  /-- ASYNC_INPUT (R303). An interrupt, mailbox arrival or debug request is assigned to an instruction count and delivered to all copies. -/
  | asyncInput (t : Trip) (code : Nat)
  /-- COPY_MEMERR (R304). An uncorrectable SRAM or cache error fences the copy with MEMERR; the operand marks one that was corrected. -/
  | copyMemerr (t : Trip) (c : Fin 3) (corrected : Bool)
  /-- BULK_COPY_DONE (R307). The bulk SRAM copy of a resynchronisation completes and the pause is delivered. -/
  | bulkCopyDone (t : Trip)
  /-- RESYNC_PAUSE_END (R307). The resynchronisation pause ends and three-copy voting resumes. -/
  | resyncPauseEnd (t : Trip)
  /-- FENCE_TEST (R315). Triplet command FENCE_TEST fences a named copy and runs resynchronisation. -/
  | fenceTest (t : Trip) (c : Fin 4)
  /-- DEBUG_REQUEST (R309). A debug-port request is accepted under COMMISSION or refused with HALTREF. -/
  | debugRequest (r : DbgReq)
  /-- HALT_REQUEST (R310). A halt request splits the triplet around the debug copy. -/
  | haltRequest (t : Trip) (c : Fin 3)
  /-- ENDBG (R313). Debug command ENDBG starts energised debug under its limits. -/
  | endbg
  /-- EXDBG (R313). Debug command EXDBG ends energised debug. -/
  | exdbg
  /-- REJOIN_DBG (R312). Debug command REJOIN_DBG rebuilds the fenced copies from the debug copy. -/
  | rejoinDbg (t : Trip)
  /-- RM_DECISION (R318). Ringmaster's three cores compute a safety decision and vote the lines and outputs. -/
  | rmDecision (d : RmVotes)
  /-- CORE_REJOIN (R318). A restarted Ringmaster core passes its self-test and rejoins the vote. -/
  | coreRejoin (c : Fin 3) (ok : Bool)
  /-- ALIVE_WORD (R319). The control die's alive word arrives on the status link. -/
  | aliveWord
  /-- ALIVE_TIMEOUT (R319). No alive word for 1 ms orders the package safe state with cause 0x0E. -/
  | aliveTimeout
  /-- RETURN_FRAME (R325). A driver die's return frame reaches Ringmaster and is checked, including over-temperature. -/
  | returnFrame (n : Slot) (f : RetFrame)
  /-- RETFRAME_TIMEOUT (R325). No valid frame from an assigned slot for 30 µs orders the package safe state. -/
  | retframeTimeout (n : Slot)
  /-- EREM_CONFIRM_TIMEOUT (R325). Gate-energy removal not confirmed within 20 µs latches EREM_NOCONF. -/
  | eremConfirmTimeout (n : Slot)
  /-- VLIM_COMPARATOR_TRIP (R326). A safe DC-link comparator trips and demands safe gate off in hardware. -/
  | vlimComparatorTrip (g : Rgn)
  /-- VLINK_SAMPLE (R326). Ringmaster's link converters sample at 100 kS/s and update V_LINK. -/
  | vlinkSample (g : Rgn) (a : Nat) (b : Nat)
  /-- VLINK_DISCREPANCY (R326). The two link channels differ by more than VDISC for 10 ms and the region demands. -/
  | vlinkDiscrepancy (g : Rgn)
  /-- COMPARATOR_TEST (R326). Every 1 s Ringmaster tests each link comparator in turn. -/
  | comparatorTest (g : Rgn) (ch : Fin 2) (ok : Bool)
  /-- SI_SAMPLE (R330). Every 10 µs the safety inputs are sampled, filtered and judged for demands. -/
  | siSample (x : Fin 16) (a : Bool) (b : Bool)
  /-- SI_DISCREPANCY (R330). The channels of a pair disagree longer than SI_DISC and the pair is faulted. -/
  | siDiscrepancy (x : Fin 16)
  /-- SO_TEST_PULSE (R334). Every SO_PER one switch of an energised output opens for SO_PW. -/
  | soTestPulse (y : SoOut)
  /-- SO_PULSE_END (R334). An off-pulse ends and the pin's fall is judged. -/
  | soPulseEnd (y : SoOut) (fell : Bool)
  /-- SO_RETURN_CHECK (R334). 200 µs after a pulse the pin must have returned above VSO − 3 V. -/
  | soReturnCheck (y : SoOut) (returned : Bool)
  /-- SO_SHORT (R334). The output current limit acting for 5 ms faults the output. -/
  | soShort (y : SoOut)
  /-- SO_XV (R334). A de-energised output above 5 V for 1 ms is faulted. -/
  | soXv (y : SoOut)
  /-- RESET_PRESS (R336). Both SRST channels show pressed and the press begins. -/
  | resetPress
  /-- RESET_RELEASE (R337). The release edge of a press is accepted or refused; an accepted edge clears latched demands and may leave SAFE. -/
  | resetRelease
  /-- RESET_DISCREPANCY (R335). SRST channels disagreeing for 20 ms refuse the press. -/
  | resetDiscrepancy
  /-- RESET_STUCK (R336). Either channel pressed for 30 s is a reset-stuck fault. -/
  | resetStuck
  /-- PARAM_SET_DELIVERY (R338). The safety parameter set is delivered in CONFIG and Ringmaster computes its check value. -/
  | paramSetDelivery
  /-- CHK_ENTRY (R339). A mailbox request CHK_ENTRY confirms the check value and arms Ringmaster, or sets CHKMIS. -/
  | chkEntry (c : Chan) (entry : Word)
  /-- HOLD_LINES (R419). A mailbox request HOLD_LINES holds the named slots' lines off. -/
  | holdLines (c : Chan) (mask : Word)
  /-- SO_OFF (R419). A mailbox request SO_OFF de-energises the named outputs. -/
  | soOff (c : Chan) (mask : Word)
  /-- SAFE_REQUEST (R419). A mailbox request SAFE orders the package safe state with cause 0x0E. -/
  | safeRequest (c : Chan)
  /-- END_HOLD (R419). A mailbox request END_HOLD ends the channel's line holds and output-off requests. -/
  | endHold (c : Chan)
  /-- PORT_DOWN (R346). An Ethernet port goes down, sets LINKDN and its safety network is declared lost. -/
  | portDown (p : Port)
  /-- PORT_UP (R346). An Ethernet port's link comes up. -/
  | portUp (p : Port)
  /-- ETH_RX_FRAME (R345). A received Ethernet frame is checked for size, FCS and VID and passed to MT or to Ringmaster. -/
  | ethRxFrame (p : Port) (f : EthFrame)
  /-- SAFETY_COPY (R353). A safety-frame copy reaches Ringmaster, is checked and paired. -/
  | safetyCopy (p : Port) (f : SafetyPdu)
  /-- SKEW_EXPIRY (R353). SKEW expires without the second copy and a miss is counted. -/
  | skewExpiry
  /-- NET_WD_EXPIRY (R357). The network watchdog expires, latching a demand and clearing the baseline. -/
  | netWdExpiry
  /-- STATUS_FRAME (R356). Ringmaster composes a status frame every TX_PER or on a content change and sends it on both ports. -/
  | statusFrame
  /-- PTP_STEP (R348). The Huavos servo steps local PTP time; the second operand is the addend it leaves, in 2^-32 ns per tick. -/
  | ptpStep (delta : Int) (add : Nat)
  /-- PTP_LOCK (R348). PTP has stayed within 1 µs for 16 Sync intervals and becomes LOCKED, with the addend that the servo has reached. -/
  | ptpLock (add : Nat)
  /-- PTP_HOLDOVER (R348). The servo loses its master and PTP enters holdover. -/
  | ptpHoldover
  /-- CAN_ENABLE (R360). Setting CANx_CTRL.EN makes the controller integrate and take part in the bus. -/
  | canEnable (x : CanC)
  /-- CAN_DISABLE (R376). Clearing EN ends the frame in progress and returns owned buffers as FLUSHED. -/
  | canDisable (x : CanC)
  /-- REQ (R364). CAN command REQ hands a buffer to the controller. -/
  | req (x : CanC) (b : Fin 3)
  /-- ABORT (R368). CAN command ABORT returns a buffer, or marks a transmitting one to end ABORTED. -/
  | abort (x : CanC) (b : Fin 3)
  /-- SLEEP (R374). CAN command SLEEP enters sleep after the frame in progress. -/
  | sleep (x : CanC)
  /-- WAKE (R375). CAN command WAKE wakes the controller. -/
  | wake (x : CanC)
  /-- RELEASE (R372). CAN command RELEASE swaps or empties a filter's slots. -/
  | release (x : CanC) (f : Fin 32)
  /-- CAN_TX_END (R367). A transmission attempt ends by success, lost arbitration or error, updating counts and ownership. -/
  | canTxEnd (x : CanC) (b : Fin 3) (how : TxEnd)
  /-- BUSOFF_RECOVERY (R369). After 128 occurrences of 11 recessive bits the controller returns to error-active. -/
  | busoffRecovery (x : CanC)
  /-- CAN_RX_FRAME (R371). A valid received frame is matched to a filter and delivered to slots, ring or charge engines. -/
  | canRxFrame (x : CanC) (f : CanFrame)
  /-- CAN_WAKE_EDGE (R375). A dominant level of 5 µs on RXD wakes a controller in edge mode. -/
  | canWakeEdge (x : CanC)
  /-- CAN_INTEGRATION_DONE (R375). The controller sees 11 recessive bits after enable or wake and resumes. -/
  | canIntegrationDone (x : CanC)
  /-- NUDGE (R386). A write to HIF_NUDGE makes Barker read the doorbell page within 1 µs. -/
  | nudge (v : Word)
  /-- DOORBELL_POLL (R386). POLL µs after the previous read Barker reads the doorbell page. -/
  | doorbellPoll
  /-- DOORBELL_READ_DONE (R386). The doorbell page read completes and new indices are checked, stopping a ring on TAILERR. -/
  | doorbellReadDone (ok : Bool)
  /-- DESCRIPTOR_FETCH (R386). A descriptor fetch read completes and its descriptors are queued for execution. -/
  | descriptorFetch (r : Fin 12) (ok : Bool)
  /-- NOP (R390). Descriptor NOP completes at once. -/
  | nop (r : Fin 12)
  /-- REG_WRITE (R391). Descriptor REG_WRITE writes up to 12 BAR0 words. -/
  | regWrite (r : Fin 12)
  /-- REG_READ (R391). Descriptor REG_READ reads up to 10 BAR0 words into its completion. -/
  | regRead (r : Fin 12)
  /-- SETPOINT (R392). Descriptor SETPOINT stages setpoint words and posts them in one handshake. -/
  | setpoint (r : Fin 12)
  /-- CAN_TX (R394). Descriptor CAN_TX loads a frame into a host-owned buffer of the bound controller. -/
  | canTx (r : Fin 12) (dma : DmaRes)
  /-- LEDGER_READ (R396). Descriptor LEDGER_READ copies journal records into host memory. -/
  | ledgerRead (r : Fin 12) (ok : Bool)
  /-- IRQ_TIMER (R399). TIMER µs after the first unsignalled entry the ring's vector is raised. -/
  | irqTimer (r : Ring)
  /-- RING_ENABLE (R401). Setting HIF_RINGr_CFG.EN enables a ring, adopting or flushing entries after a reset. -/
  | ringEnable (r : Ring)
  /-- RING_DISABLE (R400). Clearing EN lets the executing descriptor finish and flushes the rest. -/
  | ringDisable (r : Ring)
  /-- FLR (R382). A Function Level Reset disables every ring and resets the HIF registers. -/
  | flr
  /-- HOST_LINK_DOWN (R382). A hot reset or link down resets HIF and is a loss of the host link. -/
  | hostLinkDown
  /-- POWER_STATE_CHANGE (R379). The function enters or leaves D3hot, stopping or resuming Barker. -/
  | powerStateChange (d3 : Bool)
  /-- CAPTURE_RECORD (R403). A capture record reaches Barker and is placed in a block, held or dropped. -/
  | captureRecord (r : Ring) (data : List Byte)
  /-- CAPTURE_FLUSH (R403). FLUSH µs after its first record a capture block closes. -/
  | captureFlush (r : Ring)
  /-- NOTICE_POST (R411). A write of MBX_Lc_TX_TAG posts a notice, presented to the receiver within 1 µs. -/
  | noticePost (who : Party) (user : Bool) (c : Chan) (tag : Word)
  /-- RX_TAG_READ (R410). A read of MBX_Lc_RX_TAG sets READ. -/
  | rxTagRead (who : Party) (user : Bool) (c : Chan)
  /-- NOTICE_ACK (R413). A write of MBX_Lc_RX_ACK ends the notice with a normal or STALE code. -/
  | noticeAck (who : Party) (user : Bool) (c : Chan) (v : Word)
  /-- ACK_TIMEOUT (R414). A notice not acknowledged within ACK_TO ends with TIMEOUT and is withdrawn. -/
  | ackTimeout (c : Chan) (dir : Bool)
  /-- CROSSING_TIMEOUT (R415). Both directions unacknowledged for CROSS_TO end with CROSSING. -/
  | crossingTimeout (c : Chan)
  /-- PARTY_RESET (R417). A party resets, its epoch increments and its sent notices end with SENDER_RESET. -/
  | partyReset (who : Party)
  /-- PARTY_UP (R417). A reset or powered-down party comes up and its held notices are re-presented. -/
  | partyUp (who : Party)
  /-- MBX_CFG_WRITE (R408). A write to MBX_CHc_CFG or MBX_CHc_TO is accepted or refused with CFGERR. -/
  | mbxCfgWrite (c : Chan) (timeouts : Bool) (v : Word)
  /-- TXN_BEGIN (R422). BEGIN takes a free transaction slot and returns a TID. -/
  | txnBegin
  /-- TXN_STAGE (R422). STAGE records an offset and value in an open transaction. -/
  | txnStage (v : Word)
  /-- TXN_VALIDATE (R423). VALIDATE checks the state the staged writes would produce. -/
  | txnValidate (tid : Fin 256)
  /-- TXN_COMMIT (R425). COMMIT validates and schedules the landing at its boundary. -/
  | txnCommit (tid : Fin 256)
  /-- TXN_ROLLBACK (R422). ROLLBACK discards the staged writes and frees the slot. -/
  | txnRollback (tid : Fin 256)
  /-- TXN_LAND (R424). At tc all staged writes of a pending transaction land in one handshake. -/
  | txnLand (t : Fin 4)
  /-- TXN_TIMEOUT (R427). An idle transaction for TXN_TO is rolled back with TIMEOUT. -/
  | txnTimeout (t : Fin 4)
  /-- COMMIT_TIMEOUT (R427). A pending transaction whose tc has not come within COMMIT_TO fails. -/
  | commitTimeout (t : Fin 4)
  /-- RECORDER_ENTRY_WRITE (R433). A queued recorder entry is written to the store in SEQ order. -/
  | recorderEntryWrite (verified : Bool)
  /-- FREEZE (R439). Recorder command FREEZE stops the ring from moving. -/
  | freeze
  /-- UNFREEZE (R439). Recorder command UNFREEZE ends a freeze and writes the queue. -/
  | unfreeze
  /-- FREEZE_TIMEOUT (R439). FREEZE_TO seconds after FREEZE the freeze ends with FREEZETO. -/
  | freezeTimeout
  /-- TRIGGER (R434). Recorder command TRIGGER triggers a command-source profile. -/
  | trigger (p : Fin 32)
  /-- REARM (R437). Recorder command REARM arms the waveform capture, or is refused with COND. -/
  | rearm
  /-- CAPTURE_POST_END (R438). POST ms after its trigger the capture enters DONE with CAPDONE. -/
  | capturePostEnd
  /-- COPY (R440). Recorder command COPY starts copying log entries into DRAM. -/
  | copy
  /-- COPY_DONE (R440). A recorder COPY completes and REC_RD_RES is reported. -/
  | copyDone
  /-- CLEAR (R441). Recorder command CLEAR writes a clear-log record and erases the recorder partition. -/
  | clear (written : Bool)
  /-- PTP_SEC_LO_READ (R359). A read of ETH_PTP_SEC_LO latches the PTP time so that the seconds high word and nanoseconds read consistently. -/
  | ptpSecLoRead
  /-- INPUT_RESET_CHECK_END (R252). An INPUT_RESET ends once MCLK reads back correctly and 256 consecutive bits show no stuck run, making the input valid again. -/
  | inputResetCheckEnd (i : ModIn) (ok : Bool)
  /-- SAFE_ENTRY_EXPIRY (R81). A recorded SAFE entry passes out of the 24 h window of VAUX_B-present time and SAFE_CNT falls. -/
  | safeEntryExpiry
  /-- CORE_REJOIN_TIMEOUT (R318). A Ringmaster core taken out of the vote has not rejoined within 25 ms and stays out until VAUX_B is cycled. -/
  | coreRejoinTimeout (c : Fin 3)
  /-- RESET_READY (R336). The reset input has been seen released for 1 s and SAFE_RST moves from awaiting to ready, so a press can count. -/
  | resetReady
  /-- CAN_RX_ERROR (R361). A protocol error detected while receiving raises an error frame, increments REC, sets ERR and may enter error-passive. -/
  | canRxError (x : CanC) (primary : Bool)
  /-- AGE_TEST_HOLDOVER_LIMIT (R354). Local PTP has been in holdover for 60 s, AGEOK clears and every later candidate fails the age test. -/
  | ageTestHoldoverLimit
  deriving DecidableEq, Repr

end Sys2Proof
end

