-- ==== Sys2Proof/Config.lean ====
section
/-!
DEFINITION. The free values of the model: what the manual leaves without a value. Each is an opaque constant, so that a statement about
the model holds whatever it is.
-/

namespace Sys2Proof.Config

/-- The link voltage in mV that a code of a precision channel in a RANGE stands for (R226): the manual gives no scale for the voltage
channel of a region (assumption 30). -/
opaque linkMv (range : Nat) (code : Int) : Int

/-- Values that the manual leaves open, by the number of values taken before: those that assumption 31 lists, such as the trim and the
residual error of carrier alignment, whose size no rule states (R113). -/
opaque freeValue : Nat → Nat

end Sys2Proof.Config
end

