-- ==== Sys2Proof/Machine/Regs.lean ====
section
/-!
DEFINITION. The BAR0 register map (R445, 20_register_map_and_interrupts.md) and the register tables of every chapter:
where each register lies, its value on entry to BOOT (R451) and which of its bits are RW, RWL and W1C (R5).
A register is named by its BAR0 byte offset; `Reg.X i j` is the offset of instance (i, j) of register X.
Every name, offset, reset value and access code is the manual's; index letters are dropped from the names.
A bit that no table lists is reserved: it reads 0 and a write leaves it 0.
-/

namespace Sys2Proof.Machine

namespace Reg

/-! ### GLB -/
/-- GLB_DEVSTATE, RO, reset 0x00000001 (03_startup_states_commissioning.md). -/
def GLB_DEVSTATE : Nat := 0x20
/-- GLB_DEVCMD, WO, reset 0x00000000 (03_startup_states_commissioning.md). -/
def GLB_DEVCMD : Nat := 0x24
/-- GLB_DEVRESULT, RO, reset 0x00000000 (03_startup_states_commissioning.md). -/
def GLB_DEVRESULT : Nat := 0x28
/-- GLB_BOOTSTAT, RO, reset 0x00000000 (03_startup_states_commissioning.md). -/
def GLB_BOOTSTAT : Nat := 0x2C
/-- GLB_COMLOCK, RO, reset 0x00000000 (03_startup_states_commissioning.md). -/
def GLB_COMLOCK : Nat := 0x30
/-- GLB_BOOTSTAT_LT, RO, reset 0x00000000 (03_startup_states_commissioning.md). -/
def GLB_BOOTSTAT_LT : Nat := 0x34
/-- GLB_IDENT, RO, reset 0x76241000 (20_register_map_and_interrupts.md). -/
def GLB_IDENT : Nat := 0x0
/-- GLB_VERSION, RO, reset 0x00000001 (register-map version; the revisions are per part) (20_register_map_and_interrupts.md). -/
def GLB_VERSION : Nat := 0x4
/-- GLB_SERIAL_LO, RO, reset 0x00000000 (20_register_map_and_interrupts.md). -/
def GLB_SERIAL_LO : Nat := 0x8
/-- GLB_SERIAL_HI, RO, reset 0x00000000 (20_register_map_and_interrupts.md). -/
def GLB_SERIAL_HI : Nat := 0xC
/-- GLB_FLAGS, W1C, reset 0x00000000 (20_register_map_and_interrupts.md). -/
def GLB_FLAGS : Nat := 0x10
/-- GLB_CNT0, RO, reset 0x00000000 (20_register_map_and_interrupts.md). -/
def GLB_CNT0 : Nat := 0x14
/-- GLB_UNIMPL_ADDR, RO, reset 0x00000000 (20_register_map_and_interrupts.md). -/
def GLB_UNIMPL_ADDR : Nat := 0x18
/-- GLB_GUARD_CNT2, RO, reset 0x00000000 (20_register_map_and_interrupts.md). -/
def GLB_GUARD_CNT2 : Nat := 0x44
/-- GLB_FWVER_RM, RO, reset 0x00000000 (20_register_map_and_interrupts.md). -/
def GLB_FWVER_RM : Nat := 0x50
/-- GLB_FWVER_HV, RO, reset 0x00000000 (20_register_map_and_interrupts.md). -/
def GLB_FWVER_HV : Nat := 0x54
/-- GLB_FWVER_LTt, RO, reset 0x00000000 (20_register_map_and_interrupts.md; t < 4). -/
def GLB_FWVER_LT (t : Nat) : Nat := 0x58 + 0x4 * t
/-- GLB_PEND, RO, reset 0x00000000 (20_register_map_and_interrupts.md). -/
def GLB_PEND : Nat := 0x70
/-- GLB_CNTSEL, RW, reset 0x00000000 (20_register_map_and_interrupts.md). -/
def GLB_CNTSEL : Nat := 0x80
/-- GLB_CNTSUB, WO, reset 0x00000000 (20_register_map_and_interrupts.md). -/
def GLB_CNTSUB : Nat := 0x84
/-- GLB_ROUTEs, RW, reset 0x00000000 (20_register_map_and_interrupts.md; s < 32). -/
def GLB_ROUTE (s : Nat) : Nat := 0x200 + 0x4 * s
/-- GLB_MASKs, RW, reset 0xFFFFFFFF (20_register_map_and_interrupts.md; s < 32). -/
def GLB_MASK (s : Nat) : Nat := 0x300 + 0x4 * s
/-- GLB_GUARD, W1C, reset 0x00000004 (01_levels_planes_and_time.md). -/
def GLB_GUARD : Nat := 0x40
/-! ### CTU -/
/-- CTU_CFG, RW, reset 0x138803E8 (18_mailboxes_and_transactions.md). -/
def CTU_CFG : Nat := 0x1000
/-- CTU_CMD, WO, reset 0x00000000 (18_mailboxes_and_transactions.md). -/
def CTU_CMD : Nat := 0x1004
/-- CTU_RES, RO, reset 0x00000000 (18_mailboxes_and_transactions.md). -/
def CTU_RES : Nat := 0x1008
/-- CTU_BND, RW, reset 0x00000000 (18_mailboxes_and_transactions.md). -/
def CTU_BND : Nat := 0x100C
/-- CTU_BND_PTPS_LO, RW, reset 0x00000000 (18_mailboxes_and_transactions.md). -/
def CTU_BND_PTPS_LO : Nat := 0x1010
/-- CTU_BND_PTPS_HI, RW, reset 0x00000000 (18_mailboxes_and_transactions.md). -/
def CTU_BND_PTPS_HI : Nat := 0x1014
/-- CTU_BND_PTPNS, RW, reset 0x00000000 (18_mailboxes_and_transactions.md). -/
def CTU_BND_PTPNS : Nat := 0x1018
/-- CTU_STG_OFS, RW, reset 0x00000000 (18_mailboxes_and_transactions.md). -/
def CTU_STG_OFS : Nat := 0x101C
/-- CTU_STG_VAL, WO, reset 0x00000000 (18_mailboxes_and_transactions.md). -/
def CTU_STG_VAL : Nat := 0x1020
/-- CTU_FLAGS, W1C, reset 0x00000000 (18_mailboxes_and_transactions.md). -/
def CTU_FLAGS : Nat := 0x1024
/-- CTU_CNT0, RO, reset 0x00000000 (18_mailboxes_and_transactions.md). -/
def CTU_CNT0 : Nat := 0x1028
/-- CTU_CNT1, RO, reset 0x00000000 (18_mailboxes_and_transactions.md). -/
def CTU_CNT1 : Nat := 0x102C
/-- CTU_Tt_STAT, RO, reset 0x00000000 (18_mailboxes_and_transactions.md; t < 4). -/
def CTU_T_STAT (t : Nat) : Nat := 0x1040 + 0x10 * t
/-- CTU_Tt_ERR, RO, reset 0x00000000 (18_mailboxes_and_transactions.md; t < 4). -/
def CTU_T_ERR (t : Nat) : Nat := 0x1044 + 0x10 * t
/-- CTU_Tt_TC_LO, RO, reset 0x00000000 (18_mailboxes_and_transactions.md; t < 4). -/
def CTU_T_TC_LO (t : Nat) : Nat := 0x1048 + 0x10 * t
/-- CTU_Tt_TC_HI, RO, reset 0x00000000 (18_mailboxes_and_transactions.md; t < 4). -/
def CTU_T_TC_HI (t : Nat) : Nat := 0x104C + 0x10 * t
/-! ### PWR -/
/-- PWR_VCD_TARGET, RW, reset 0x00000FA0 (01_levels_planes_and_time.md). -/
def PWR_VCD_TARGET : Nat := 0x2100
/-- PWR_VCD_WINDOW, RW, reset 0x00000064 (01_levels_planes_and_time.md). -/
def PWR_VCD_WINDOW : Nat := 0x2104
/-- PWR_VCD_LIMITS, RW, reset 0x00004A2E (01_levels_planes_and_time.md). -/
def PWR_VCD_LIMITS : Nat := 0x2108
/-- PWR_VCD_STAT, RO, reset 0x0000004A (01_levels_planes_and_time.md). -/
def PWR_VCD_STAT : Nat := 0x210C
/-- PWR_VMD_TARGET, RW, reset 0x00000FA0 (01_levels_planes_and_time.md). -/
def PWR_VMD_TARGET : Nat := 0x2110
/-- PWR_VMD_WINDOW, RW, reset 0x00000064 (01_levels_planes_and_time.md). -/
def PWR_VMD_WINDOW : Nat := 0x2114
/-- PWR_VMD_LIMITS, RW, reset 0x00005018 (01_levels_planes_and_time.md). -/
def PWR_VMD_LIMITS : Nat := 0x2118
/-- PWR_VMD_STAT, RO, reset 0x00000050 (01_levels_planes_and_time.md). -/
def PWR_VMD_STAT : Nat := 0x211C
/-- PWR_SUPSTAT, RO, reset 0x00000000 (02_module_connectors_supplies.md). -/
def PWR_SUPSTAT : Nat := 0x2000
/-- PWR_FLAGS, W1C, reset 0x00000000 (02_module_connectors_supplies.md). -/
def PWR_FLAGS : Nat := 0x2004
/-- PWR_VIO_CFG, RWL, reset 0x0003FFFF (02_module_connectors_supplies.md). -/
def PWR_VIO_CFG : Nat := 0x2008
/-- PWR_VAUX_MEAS, RO, reset 0x00000000 (02_module_connectors_supplies.md). -/
def PWR_VAUX_MEAS : Nat := 0x2010
/-- PWR_VSO_MEAS, RO, reset 0x00000000 (02_module_connectors_supplies.md). -/
def PWR_VSO_MEAS : Nat := 0x2014
/-- PWR_CNT0, RO, reset 0x00000000 (02_module_connectors_supplies.md). -/
def PWR_CNT0 : Nat := 0x2018
/-- PWR_CNT1, RO, reset 0x00000000 (02_module_connectors_supplies.md). -/
def PWR_CNT1 : Nat := 0x201C
/-- PWR_CNT2, RO, reset 0x00000000 (02_module_connectors_supplies.md). -/
def PWR_CNT2 : Nat := 0x2020
/-- PWR_CNT3, RO, reset 0x00000000 (02_module_connectors_supplies.md). -/
def PWR_CNT3 : Nat := 0x2024
/-- PWR_HU_CFG, RWL, reset 0x001E010A (08_string_charge_engine.md). -/
def PWR_HU_CFG : Nat := 0x2200
/-- PWR_HU_CMD, WO, reset 0x00000000 (08_string_charge_engine.md). -/
def PWR_HU_CMD : Nat := 0x2204
/-- PWR_HU_STAT, RO, reset 0x00000000 (08_string_charge_engine.md). -/
def PWR_HU_STAT : Nat := 0x2208
/-- PWR_HU_FLAGS, W1C, reset 0x00000000 (08_string_charge_engine.md). -/
def PWR_HU_FLAGS : Nat := 0x220C
/-- PWR_HU_CNT0, RO, reset 0x00000000 (08_string_charge_engine.md). -/
def PWR_HU_CNT0 : Nat := 0x2210
/-- PWR_HU_CNT1, RO, reset 0x00000000 (08_string_charge_engine.md). -/
def PWR_HU_CNT1 : Nat := 0x2214
/-- PWR_HU_MEAS, RO, reset 0x00000000 (08_string_charge_engine.md). -/
def PWR_HU_MEAS : Nat := 0x2218
/-- PWR_HU_CURR, RO, reset 0x00000000 (08_string_charge_engine.md). -/
def PWR_HU_CURR : Nat := 0x221C
/-! ### THM -/
/-- THM_JCFG, RWL, reset 0x00027D6E (11_thermal_and_service_regulators.md). -/
def THM_JCFG : Nat := 0x3000
/-- THM_NCFG, RWL, reset 0x7D73645F (11_thermal_and_service_regulators.md). -/
def THM_NCFG : Nat := 0x3004
/-- THM_NMODEL, RWL, reset 0x0D6B03E8 (11_thermal_and_service_regulators.md). -/
def THM_NMODEL : Nat := 0x3008
/-- THM_NCTL, RWL, reset 0x02000040 (11_thermal_and_service_regulators.md). -/
def THM_NCTL : Nat := 0x300C
/-- THM_NTC_EN, RWL, reset 0x00FFFFFF (11_thermal_and_service_regulators.md). -/
def THM_NTC_EN : Nat := 0x3010
/-- THM_STAT, RO, reset 0xFF000000 (11_thermal_and_service_regulators.md). -/
def THM_STAT : Nat := 0x3014
/-- THM_FLAGS, W1C, reset 0x00000000 (11_thermal_and_service_regulators.md). -/
def THM_FLAGS : Nat := 0x3018
/-- THM_CNT0, RO, reset 0x00000000 (11_thermal_and_service_regulators.md). -/
def THM_CNT0 : Nat := 0x301C
/-- THM_CNT1, RO, reset 0x00000000 (11_thermal_and_service_regulators.md). -/
def THM_CNT1 : Nat := 0x3020
/-- THM_PKG_JMAX, RO, reset 0xFF008000 (11_thermal_and_service_regulators.md). -/
def THM_PKG_JMAX : Nat := 0x3024
/-- THM_PKG_NMAX, RO, reset 0xFF008000 (11_thermal_and_service_regulators.md). -/
def THM_PKG_NMAX : Nat := 0x3028
/-- THM_REGg_JMAX, RO, reset 0xFF008000 (11_thermal_and_service_regulators.md; g < 2). -/
def THM_REG_JMAX (g : Nat) : Nat := 0x3030 + 0x8 * g
/-- THM_REGg_NMAX, RO, reset 0xFF008000 (11_thermal_and_service_regulators.md; g < 2). -/
def THM_REG_NMAX (g : Nat) : Nat := 0x3034 + 0x8 * g
/-- THM_CLUk_FOLD, RO, reset 0x00000100 (11_thermal_and_service_regulators.md; k < 12). -/
def THM_CLU_FOLD (k : Nat) : Nat := 0x3040 + 0x4 * k
/-- THM_SENSi, RO, reset 0x00000000 (11_thermal_and_service_regulators.md; i < 44). -/
def THM_SENS (i : Nat) : Nat := 0x3100 + 0x4 * i
/-- THM_NTCn, RO, reset 0x00000000 (11_thermal_and_service_regulators.md; n < 24). -/
def THM_NTC (n : Nat) : Nat := 0x3200 + 0x4 * n
/-! ### CLK -/
/-- CLK_TRm_CFG, RW, reset 0x00000F00 (01_levels_planes_and_time.md; m < 256). -/
def CLK_TR_CFG (m : Nat) : Nat := 0x6000 + 0x20 * m
/-- CLK_TRm_DEADLINE, RW, reset 0x00000000 (01_levels_planes_and_time.md; m < 256). -/
def CLK_TR_DEADLINE (m : Nat) : Nat := 0x6004 + 0x20 * m
/-- CLK_TRm_RELEASE_LO, RW, reset 0x00000000 (01_levels_planes_and_time.md; m < 256). -/
def CLK_TR_RELEASE_LO (m : Nat) : Nat := 0x6008 + 0x20 * m
/-- CLK_TRm_RELEASE_HI, RW, reset 0x00000000 (01_levels_planes_and_time.md; m < 256). -/
def CLK_TR_RELEASE_HI (m : Nat) : Nat := 0x600C + 0x20 * m
/-- CLK_TRm_PERIOD, RW, reset 0x00000000 (01_levels_planes_and_time.md; m < 256). -/
def CLK_TR_PERIOD (m : Nat) : Nat := 0x6010 + 0x20 * m
/-- CLK_TRm_DONE, WO, reset 0x00000000 (01_levels_planes_and_time.md; m < 256). -/
def CLK_TR_DONE (m : Nat) : Nat := 0x6014 + 0x20 * m
/-- CLK_TRm_STAT, RO, W1C, reset 0x00000000 (01_levels_planes_and_time.md; m < 256). -/
def CLK_TR_STAT (m : Nat) : Nat := 0x6018 + 0x20 * m
/-- CLK_TRm_CNT, RO, reset 0x00000000 (01_levels_planes_and_time.md; m < 256). -/
def CLK_TR_CNT (m : Nat) : Nat := 0x601C + 0x20 * m
/-- CLK_STAT, RO, reset 0x00000000 (20_register_map_and_interrupts.md). -/
def CLK_STAT : Nat := 0x4000
/-- CLK_FLAGS, W1C, reset 0x00000000 (20_register_map_and_interrupts.md). -/
def CLK_FLAGS : Nat := 0x4004
/-- CLK_CNT0, RO, reset 0x00000000 (20_register_map_and_interrupts.md). -/
def CLK_CNT0 : Nat := 0x4008
/-- CLK_CNT1, RO, reset 0x00000000 (20_register_map_and_interrupts.md). -/
def CLK_CNT1 : Nat := 0x400C
/-- CLK_CNT2, RO, reset 0x00000000 (20_register_map_and_interrupts.md). -/
def CLK_CNT2 : Nat := 0x4010
/-- CLK_CNT3, RO, reset 0x00000000 (20_register_map_and_interrupts.md). -/
def CLK_CNT3 : Nat := 0x4014
/-- CLK_TB_LO, RO, reset 0x00000000 (20_register_map_and_interrupts.md). -/
def CLK_TB_LO : Nat := 0x4018
/-- CLK_TB_HI, RO, reset 0x00000000 (20_register_map_and_interrupts.md). -/
def CLK_TB_HI : Nat := 0x401C
/-- CLK_REFCFG, RWL, reset 0x00000000 (20_register_map_and_interrupts.md). -/
def CLK_REFCFG : Nat := 0x4020
/-- CLK_HOCOMP, RO, reset 0x00000000 (20_register_map_and_interrupts.md). -/
def CLK_HOCOMP : Nat := 0x4024
/-- CLK_TBDEV, RO, reset 0x00000000 (20_register_map_and_interrupts.md). -/
def CLK_TBDEV : Nat := 0x4028
/-! ### EDG -/
/-- EDG_n_CTRL, RW, reset 0x00000000 (04_slots_and_edge_engines.md; n < 24). -/
def EDG_CTRL (n : Nat) : Nat := 0x10000 + 0x400 * n
/-- EDG_n_CARRIER, RW, reset 0x00080FA0 (04_slots_and_edge_engines.md; n < 24). -/
def EDG_CARRIER (n : Nat) : Nat := 0x10004 + 0x400 * n
/-- EDG_n_PHASE, RO, reset 0x00000000 (04_slots_and_edge_engines.md; n < 24). -/
def EDG_PHASE (n : Nat) : Nat := 0x10008 + 0x400 * n
/-- EDG_n_DEADTIME, RWL, reset 0x7D007D00 (04_slots_and_edge_engines.md; n < 24). -/
def EDG_DEADTIME (n : Nat) : Nat := 0x1000C + 0x400 * n
/-- EDG_n_MINPULSE, RWL, reset 0x00000140 (04_slots_and_edge_engines.md; n < 24). -/
def EDG_MINPULSE (n : Nat) : Nat := 0x10010 + 0x400 * n
/-- EDG_n_CMPA, RW, reset 0x00000000 (04_slots_and_edge_engines.md; n < 24). -/
def EDG_CMPA (n : Nat) : Nat := 0x10014 + 0x400 * n
/-- EDG_n_CMPB, RW, reset 0x00000000 (04_slots_and_edge_engines.md; n < 24). -/
def EDG_CMPB (n : Nat) : Nat := 0x10018 + 0x400 * n
/-- EDG_n_DUTYLIM, RW, reset 0xF3330000 (04_slots_and_edge_engines.md; n < 24). -/
def EDG_DUTYLIM (n : Nat) : Nat := 0x1001C + 0x400 * n
/-- EDG_n_ACTPT, RW, reset 0x00000000 (04_slots_and_edge_engines.md; n < 24). -/
def EDG_ACTPT (n : Nat) : Nat := 0x10020 + 0x400 * n
/-- EDG_n_SRC, RW, reset 0x41900000 (04_slots_and_edge_engines.md; n < 24). -/
def EDG_SRC (n : Nat) : Nat := 0x10024 + 0x400 * n
/-- EDG_n_REF, RO, reset 0x00000000 (04_slots_and_edge_engines.md; n < 24). -/
def EDG_REF (n : Nat) : Nat := 0x10028 + 0x400 * n
/-- EDG_n_KP, RW, reset 0x00000000 (04_slots_and_edge_engines.md; n < 24). -/
def EDG_KP (n : Nat) : Nat := 0x1002C + 0x400 * n
/-- EDG_n_KI, RW, reset 0x00000000 (04_slots_and_edge_engines.md; n < 24). -/
def EDG_KI (n : Nat) : Nat := 0x10030 + 0x400 * n
/-- EDG_n_FCL, RWL, reset 0x00000000 (04_slots_and_edge_engines.md; n < 24). -/
def EDG_FCL (n : Nat) : Nat := 0x10034 + 0x400 * n
/-- EDG_n_FCL_CFG, RWL, reset 0x00000000 (04_slots_and_edge_engines.md; n < 24). -/
def EDG_FCL_CFG (n : Nat) : Nat := 0x10038 + 0x400 * n
/-- EDG_n_PCM, RW, reset 0x00000000 (04_slots_and_edge_engines.md; n < 24). -/
def EDG_PCM (n : Nat) : Nat := 0x1003C + 0x400 * n
/-- EDG_n_ILK_CFG, RWL, reset 0x00006404 (04_slots_and_edge_engines.md; n < 24). -/
def EDG_ILK_CFG (n : Nat) : Nat := 0x10040 + 0x400 * n
/-- EDG_n_PEi, RW, reset 0x00000000 (04_slots_and_edge_engines.md; n < 24; i < 8). -/
def EDG_PE (n i : Nat) : Nat := 0x10080 + 0x400 * n + 0x4 * i
/-- EDG_n_STAT, RO, reset 0x00000000 (04_slots_and_edge_engines.md; n < 24). -/
def EDG_STAT (n : Nat) : Nat := 0x10100 + 0x400 * n
/-- EDG_n_FLAGS, W1C, reset 0x00000000 (04_slots_and_edge_engines.md; n < 24). -/
def EDG_FLAGS (n : Nat) : Nat := 0x10104 + 0x400 * n
/-- EDG_n_CNT0, RO, reset 0x00000000 (04_slots_and_edge_engines.md; n < 24). -/
def EDG_CNT0 (n : Nat) : Nat := 0x10108 + 0x400 * n
/-- EDG_n_CNT1, RO, reset 0x00000000 (04_slots_and_edge_engines.md; n < 24). -/
def EDG_CNT1 (n : Nat) : Nat := 0x1010C + 0x400 * n
/-- EDG_n_CNT2, RO, reset 0x00000000 (04_slots_and_edge_engines.md; n < 24). -/
def EDG_CNT2 (n : Nat) : Nat := 0x10110 + 0x400 * n
/-- EDG_n_CNT3, RO, reset 0x00000000 (04_slots_and_edge_engines.md; n < 24). -/
def EDG_CNT3 (n : Nat) : Nat := 0x10114 + 0x400 * n
/-- EDG_n_EST, RO, reset 0x00000000 (04_slots_and_edge_engines.md; n < 24). -/
def EDG_EST (n : Nat) : Nat := 0x10118 + 0x400 * n
/-- EDG_n_EST_TIME, RO, reset 0x00000000 (04_slots_and_edge_engines.md; n < 24). -/
def EDG_EST_TIME (n : Nat) : Nat := 0x1011C + 0x400 * n
/-- EDG_n_DUTY, RO, reset 0x00000000 (04_slots_and_edge_engines.md; n < 24). -/
def EDG_DUTY (n : Nat) : Nat := 0x10120 + 0x400 * n
/-- EDG_n_ILK_TOT, RO, reset 0x00000000 (04_slots_and_edge_engines.md; n < 24). -/
def EDG_ILK_TOT (n : Nat) : Nat := 0x10124 + 0x400 * n
/-- EDG_ALIGN_CFG, RW, reset 0x0003E820 (04_slots_and_edge_engines.md). -/
def EDG_ALIGN_CFG : Nat := 0x16000
/-- EDG_ALIGN_STAT, RO, reset 0x00000000 (04_slots_and_edge_engines.md). -/
def EDG_ALIGN_STAT : Nat := 0x16004
/-- EDG_ALIGN_STEP_LO, RO, reset 0x00000000 (04_slots_and_edge_engines.md). -/
def EDG_ALIGN_STEP_LO : Nat := 0x16008
/-- EDG_ALIGN_STEP_HI, RO, reset 0x00000000 (04_slots_and_edge_engines.md). -/
def EDG_ALIGN_STEP_HI : Nat := 0x1600C
/-- EDG_ALIGN_TRIM, RO, reset 0x00000000 (04_slots_and_edge_engines.md). -/
def EDG_ALIGN_TRIM : Nat := 0x16010
/-- EDG_ALIGN_FLAGS, W1C, reset 0x00000000 (04_slots_and_edge_engines.md). -/
def EDG_ALIGN_FLAGS : Nat := 0x16014
/-- EDG_ALIGN_CNT, RO, reset 0x00000000 (04_slots_and_edge_engines.md). -/
def EDG_ALIGN_CNT : Nat := 0x16018
/-! ### GDV -/
/-- GDV_n_CTRL, RW, RWL, reset 0x03031000 (05_gate_drive.md; n < 24). -/
def GDV_CTRL (n : Nat) : Nat := 0x18000 + 0x200 * n
/-- GDV_n_BIAS_H, RWL, reset 0x00000818 (05_gate_drive.md; n < 24). -/
def GDV_BIAS_H (n : Nat) : Nat := 0x18004 + 0x200 * n
/-- GDV_n_BIAS_L, RWL, reset 0x00000818 (05_gate_drive.md; n < 24). -/
def GDV_BIAS_L (n : Nat) : Nat := 0x18008 + 0x200 * n
/-- GDV_n_PON_H, RW, reset 0x78101010 (05_gate_drive.md; n < 24). -/
def GDV_PON_H (n : Nat) : Nat := 0x18010 + 0x200 * n
/-- GDV_n_POFF_H, RW, reset 0x78101C14 (05_gate_drive.md; n < 24). -/
def GDV_POFF_H (n : Nat) : Nat := 0x18014 + 0x200 * n
/-- GDV_n_PON_L, RW, reset 0x78101010 (05_gate_drive.md; n < 24). -/
def GDV_PON_L (n : Nat) : Nat := 0x18018 + 0x200 * n
/-- GDV_n_POFF_L, RW, reset 0x78101C14 (05_gate_drive.md; n < 24). -/
def GDV_POFF_L (n : Nat) : Nat := 0x1801C + 0x200 * n
/-- GDV_n_AON_H, RW, reset 0x0FE04028 (05_gate_drive.md; n < 24). -/
def GDV_AON_H (n : Nat) : Nat := 0x18020 + 0x200 * n
/-- GDV_n_AOFF_H, RW, reset 0x0FE04028 (05_gate_drive.md; n < 24). -/
def GDV_AOFF_H (n : Nat) : Nat := 0x18024 + 0x200 * n
/-- GDV_n_AON_L, RW, reset 0x0FE04028 (05_gate_drive.md; n < 24). -/
def GDV_AON_L (n : Nat) : Nat := 0x18028 + 0x200 * n
/-- GDV_n_AOFF_L, RW, reset 0x0FE04028 (05_gate_drive.md; n < 24). -/
def GDV_AOFF_L (n : Nat) : Nat := 0x1802C + 0x200 * n
/-- GDV_n_STEPI, RW, reset 0x0F0F0F0F (05_gate_drive.md; n < 24). -/
def GDV_STEPI (n : Nat) : Nat := 0x18030 + 0x200 * n
/-- GDV_n_DSAT_H, RWL, reset 0x80A01402 (05_gate_drive.md; n < 24). -/
def GDV_DSAT_H (n : Nat) : Nat := 0x18034 + 0x200 * n
/-- GDV_n_DSAT_L, RWL, reset 0x80A01402 (05_gate_drive.md; n < 24). -/
def GDV_DSAT_L (n : Nat) : Nat := 0x18038 + 0x200 * n
/-- GDV_n_SOFT, RWL, reset 0x0700C804 (05_gate_drive.md; n < 24). -/
def GDV_SOFT (n : Nat) : Nat := 0x1803C + 0x200 * n
/-- GDV_n_DIAG_CFG, RWL, reset 0x00032014 (05_gate_drive.md; n < 24). -/
def GDV_DIAG_CFG (n : Nat) : Nat := 0x18040 + 0x200 * n
/-- GDV_n_SNS_DIV, RWL, reset 0x00000190 (05_gate_drive.md; n < 24). -/
def GDV_SNS_DIV (n : Nat) : Nat := 0x18044 + 0x200 * n
/-- GDV_n_CMD, WO, reset 0x00000000 (05_gate_drive.md; n < 24). -/
def GDV_CMD (n : Nat) : Nat := 0x18048 + 0x200 * n
/-- GDV_n_STAT, RO, reset 0x000002E0 (05_gate_drive.md; n < 24). -/
def GDV_STAT (n : Nat) : Nat := 0x18100 + 0x200 * n
/-- GDV_n_FLAGS, W1C, reset 0x00000000 (05_gate_drive.md; n < 24). -/
def GDV_FLAGS (n : Nat) : Nat := 0x18104 + 0x200 * n
/-- GDV_n_CNT0, RO, reset 0x00000000 (05_gate_drive.md; n < 24). -/
def GDV_CNT0 (n : Nat) : Nat := 0x18108 + 0x200 * n
/-- GDV_n_CNT1, RO, reset 0x00000000 (05_gate_drive.md; n < 24). -/
def GDV_CNT1 (n : Nat) : Nat := 0x1810C + 0x200 * n
/-- GDV_n_CNT2, RO, reset 0x00000000 (05_gate_drive.md; n < 24). -/
def GDV_CNT2 (n : Nat) : Nat := 0x18110 + 0x200 * n
/-- GDV_n_CNT3, RO, reset 0x00000000 (05_gate_drive.md; n < 24). -/
def GDV_CNT3 (n : Nat) : Nat := 0x18114 + 0x200 * n
/-- GDV_n_DIAG_RES, RO, reset 0x00000000 (05_gate_drive.md; n < 24). -/
def GDV_DIAG_RES (n : Nat) : Nat := 0x18118 + 0x200 * n
/-- GDV_n_REP_ON_H, RO, reset 0x00000000 (05_gate_drive.md; n < 24). -/
def GDV_REP_ON_H (n : Nat) : Nat := 0x18120 + 0x200 * n
/-- GDV_n_REP_OFF_H, RO, reset 0x00000000 (05_gate_drive.md; n < 24). -/
def GDV_REP_OFF_H (n : Nat) : Nat := 0x18124 + 0x200 * n
/-- GDV_n_REP_ON_L, RO, reset 0x00000000 (05_gate_drive.md; n < 24). -/
def GDV_REP_ON_L (n : Nat) : Nat := 0x18128 + 0x200 * n
/-- GDV_n_REP_OFF_L, RO, reset 0x00000000 (05_gate_drive.md; n < 24). -/
def GDV_REP_OFF_L (n : Nat) : Nat := 0x1812C + 0x200 * n
/-- GDV_n_ADJ_H, RO, reset 0x00000000 (05_gate_drive.md; n < 24). -/
def GDV_ADJ_H (n : Nat) : Nat := 0x18130 + 0x200 * n
/-- GDV_n_ADJ_L, RO, reset 0x00000000 (05_gate_drive.md; n < 24). -/
def GDV_ADJ_L (n : Nat) : Nat := 0x18134 + 0x200 * n
/-- GDV_n_BIASMEAS, RO, reset 0x00000000 (05_gate_drive.md; n < 24). -/
def GDV_BIASMEAS (n : Nat) : Nat := 0x18138 + 0x200 * n
/-- GDV_n_TEMP, RO, reset 0x00000000 (05_gate_drive.md; n < 24). -/
def GDV_TEMP (n : Nat) : Nat := 0x1813C + 0x200 * n
/-! ### CLU -/
/-- CLU_k_CFG, RWL, reset 0x00003200 (06_grid_clusters_and_system.md; k < 12). -/
def CLU_CFG (k : Nat) : Nat := 0x20000 + 0x800 * k
/-- CLU_k_SLOTS, RWL, reset 0x00000000 (06_grid_clusters_and_system.md; k < 12). -/
def CLU_SLOTS (k : Nat) : Nat := 0x20004 + 0x800 * k
/-- CLU_k_ANCHOR_LO, RW, reset 0x00000000 (06_grid_clusters_and_system.md; k < 12). -/
def CLU_ANCHOR_LO (k : Nat) : Nat := 0x20008 + 0x800 * k
/-- CLU_k_ANCHOR_HI, RW, reset 0x00000000 (06_grid_clusters_and_system.md; k < 12). -/
def CLU_ANCHOR_HI (k : Nat) : Nat := 0x2000C + 0x800 * k
/-- CLU_k_CMD, WO, reset 0x00000000 (06_grid_clusters_and_system.md; k < 12). -/
def CLU_CMD (k : Nat) : Nat := 0x20010 + 0x800 * k
/-- CLU_k_STAT, RO, reset 0x00000000 (06_grid_clusters_and_system.md; k < 12). -/
def CLU_STAT (k : Nat) : Nat := 0x20014 + 0x800 * k
/-- CLU_k_FLAGS, W1C, reset 0x00000000 (06_grid_clusters_and_system.md; k < 12). -/
def CLU_FLAGS (k : Nat) : Nat := 0x20018 + 0x800 * k
/-- CLU_k_CNT0, RO, reset 0x00000000 (06_grid_clusters_and_system.md; k < 12). -/
def CLU_CNT0 (k : Nat) : Nat := 0x2001C + 0x800 * k
/-- CLU_k_CNT1, RO, reset 0x00000000 (06_grid_clusters_and_system.md; k < 12). -/
def CLU_CNT1 (k : Nat) : Nat := 0x20020 + 0x800 * k
/-- CLU_k_NP, RWL, reset 0x201A1400 (06_grid_clusters_and_system.md; k < 12). -/
def CLU_NP (k : Nat) : Nat := 0x20030 + 0x800 * k
/-- CLU_k_NPSRC, RWL, reset 0x00000000 (06_grid_clusters_and_system.md; k < 12). -/
def CLU_NPSRC (k : Nat) : Nat := 0x20034 + 0x800 * k
/-- CLU_k_NPTGT, RO, reset 0x00000000 (06_grid_clusters_and_system.md; k < 12). -/
def CLU_NPTGT (k : Nat) : Nat := 0x20038 + 0x800 * k
/-- CLU_k_NPSTAT, RO, reset 0x00000000 (06_grid_clusters_and_system.md; k < 12). -/
def CLU_NPSTAT (k : Nat) : Nat := 0x2003C + 0x800 * k
/-- CLU_k_GMU_CFG, RWL, reset 0x14000000 (06_grid_clusters_and_system.md; k < 12). -/
def CLU_GMU_CFG (k : Nat) : Nat := 0x20040 + 0x800 * k
/-- CLU_k_GMU_FREQ, RO, reset 0x00000000 (06_grid_clusters_and_system.md; k < 12). -/
def CLU_GMU_FREQ (k : Nat) : Nat := 0x20044 + 0x800 * k
/-- CLU_k_GMU_ROCOF, RO, reset 0x00000000 (06_grid_clusters_and_system.md; k < 12). -/
def CLU_GMU_ROCOF (k : Nat) : Nat := 0x20048 + 0x800 * k
/-- CLU_k_GMU_ANGLE, RO, reset 0x00000000 (06_grid_clusters_and_system.md; k < 12). -/
def CLU_GMU_ANGLE (k : Nat) : Nat := 0x2004C + 0x800 * k
/-- CLU_k_GMU_SEQ, RO, reset 0x00000000 (06_grid_clusters_and_system.md; k < 12). -/
def CLU_GMU_SEQ (k : Nat) : Nat := 0x20050 + 0x800 * k
/-- CLU_k_GMU_PJ, RO, reset 0x00000000 (06_grid_clusters_and_system.md; k < 12). -/
def CLU_GMU_PJ (k : Nat) : Nat := 0x20054 + 0x800 * k
/-- CLU_k_GMU_ZC_LO, RO, reset 0x00000000 (06_grid_clusters_and_system.md; k < 12). -/
def CLU_GMU_ZC_LO (k : Nat) : Nat := 0x20058 + 0x800 * k
/-- CLU_k_GMU_ZC_HI, RO, reset 0x00000000 (06_grid_clusters_and_system.md; k < 12). -/
def CLU_GMU_ZC_HI (k : Nat) : Nat := 0x2005C + 0x800 * k
/-- CLU_k_GMU_ZC_PTPS, RO, reset 0x00000000 (06_grid_clusters_and_system.md; k < 12). -/
def CLU_GMU_ZC_PTPS (k : Nat) : Nat := 0x20060 + 0x800 * k
/-- CLU_k_GMU_ZC_PTPN, RO, reset 0x00000000 (06_grid_clusters_and_system.md; k < 12). -/
def CLU_GMU_ZC_PTPN (k : Nat) : Nat := 0x20064 + 0x800 * k
/-- CLU_k_SPi, RW, reset 0x00000000 (06_grid_clusters_and_system.md; k < 12; i < 16). -/
def CLU_SP (k i : Nat) : Nat := 0x20080 + 0x800 * k + 0x4 * i
/-- CLU_k_SP_POST, WO, reset 0x00000000 (06_grid_clusters_and_system.md; k < 12). -/
def CLU_SP_POST (k : Nat) : Nat := 0x200C0 + 0x800 * k
/-- CLU_k_SP_ACK, RO, reset 0x00000000 (06_grid_clusters_and_system.md; k < 12). -/
def CLU_SP_ACK (k : Nat) : Nat := 0x200C4 + 0x800 * k
/-- CLU_k_SP_TIME, RO, reset 0x00000000 (06_grid_clusters_and_system.md; k < 12). -/
def CLU_SP_TIME (k : Nat) : Nat := 0x200C8 + 0x800 * k
/-- CLU_REGg_VCFG, RWL, reset 0x00000000 (06_grid_clusters_and_system.md; g < 2). -/
def CLU_REG_VCFG (g : Nat) : Nat := 0x26000 + 0x40 * g
/-- CLU_REGg_VLIM, RWL, reset 0x00000000 (06_grid_clusters_and_system.md; g < 2). -/
def CLU_REG_VLIM (g : Nat) : Nat := 0x26004 + 0x40 * g
/-- CLU_REGg_CMD, WO, reset 0x00000000 (06_grid_clusters_and_system.md; g < 2). -/
def CLU_REG_CMD (g : Nat) : Nat := 0x26008 + 0x40 * g
/-- CLU_REGg_STAT, RO, reset 0x00000007 (06_grid_clusters_and_system.md; g < 2). -/
def CLU_REG_STAT (g : Nat) : Nat := 0x2600C + 0x40 * g
/-- CLU_SYS_CFG, RWL, reset 0x06400400 (06_grid_clusters_and_system.md). -/
def CLU_SYS_CFG : Nat := 0x27000
/-- CLU_SYS_STAT, RO, reset 0x00000000 (06_grid_clusters_and_system.md). -/
def CLU_SYS_STAT : Nat := 0x27004
/-- CLU_SYS_MEMBERS, RO, reset 0x00000000 (06_grid_clusters_and_system.md). -/
def CLU_SYS_MEMBERS : Nat := 0x27008
/-- CLU_SYS_CMD, WO, reset 0x00000000 (06_grid_clusters_and_system.md). -/
def CLU_SYS_CMD : Nat := 0x2700C
/-- CLU_SYS_RES, RO, reset 0x00000000 (06_grid_clusters_and_system.md). -/
def CLU_SYS_RES : Nat := 0x27010
/-- CLU_SYS_FLAGS, W1C, reset 0x00000000 (06_grid_clusters_and_system.md). -/
def CLU_SYS_FLAGS : Nat := 0x27014
/-- CLU_SYS_CNT0, RO, reset 0x00000000 (06_grid_clusters_and_system.md). -/
def CLU_SYS_CNT0 : Nat := 0x27018
/-- CLU_SYS_CNT1, RO, reset 0x00000000 (06_grid_clusters_and_system.md). -/
def CLU_SYS_CNT1 : Nat := 0x2701C
/-- CLU_k_DC_CFG, RWL, reset 0x0110201C (07_dc_converters.md; k < 12). -/
def CLU_DC_CFG (k : Nat) : Nat := 0x20100 + 0x800 * k
/-- CLU_k_DC_PSRC, RWL, reset 0x00000000 (07_dc_converters.md; k < 12). -/
def CLU_DC_PSRC (k : Nat) : Nat := 0x20104 + 0x800 * k
/-- CLU_k_DC_VSRC, RWL, reset 0x00000000 (07_dc_converters.md; k < 12). -/
def CLU_DC_VSRC (k : Nat) : Nat := 0x20108 + 0x800 * k
/-- CLU_k_DC_PHSCALE, RWL, reset 0x00000000 (07_dc_converters.md; k < 12). -/
def CLU_DC_PHSCALE (k : Nat) : Nat := 0x2010C + 0x800 * k
/-- CLU_k_DC_ILIM, RWL, reset 0x00000000 (07_dc_converters.md; k < 12). -/
def CLU_DC_ILIM (k : Nat) : Nat := 0x20110 + 0x800 * k
/-- CLU_k_DC_PLAUS, RWL, reset 0x0D064032 (07_dc_converters.md; k < 12). -/
def CLU_DC_PLAUS (k : Nat) : Nat := 0x20114 + 0x800 * k
/-- CLU_k_DC_DWELL, RWL, reset 0x00320014 (07_dc_converters.md; k < 12). -/
def CLU_DC_DWELL (k : Nat) : Nat := 0x20118 + 0x800 * k
/-- CLU_k_DC_SS, RWL, reset 0x0641F414 (07_dc_converters.md; k < 12). -/
def CLU_DC_SS (k : Nat) : Nat := 0x2011C + 0x800 * k
/-- CLU_k_DC_SHEDm, RWL, reset 0x00000000 (07_dc_converters.md; k < 12; m < 8). -/
def CLU_DC_SHED (k m : Nat) : Nat := 0x20120 + 0x800 * k + 0x4 * m
/-- CLU_k_DC_OPEN, RWL, reset 0x00C800C8 (07_dc_converters.md; k < 12). -/
def CLU_DC_OPEN (k : Nat) : Nat := 0x20140 + 0x800 * k
/-- CLU_k_DC_SSTGT, RO, reset 0x00000000 (07_dc_converters.md; k < 12). -/
def CLU_DC_SSTGT (k : Nat) : Nat := 0x20144 + 0x800 * k
/-- CLU_k_DC_CMD, WO, reset 0x00000000 (07_dc_converters.md; k < 12). -/
def CLU_DC_CMD (k : Nat) : Nat := 0x20148 + 0x800 * k
/-- CLU_k_DC_STAT, RO, reset 0x00000000 (07_dc_converters.md; k < 12). -/
def CLU_DC_STAT (k : Nat) : Nat := 0x2014C + 0x800 * k
/-- CLU_k_DC_FLAGS, W1C, reset 0x00000000 (07_dc_converters.md; k < 12). -/
def CLU_DC_FLAGS (k : Nat) : Nat := 0x20150 + 0x800 * k
/-- CLU_k_DC_CNT0, RO, reset 0x00000000 (07_dc_converters.md; k < 12). -/
def CLU_DC_CNT0 (k : Nat) : Nat := 0x20154 + 0x800 * k
/-- CLU_k_DC_CNT1, RO, reset 0x00000000 (07_dc_converters.md; k < 12). -/
def CLU_DC_CNT1 (k : Nat) : Nat := 0x20158 + 0x800 * k
/-- CLU_k_DC_CNT2, RO, reset 0x00000000 (07_dc_converters.md; k < 12). -/
def CLU_DC_CNT2 (k : Nat) : Nat := 0x2015C + 0x800 * k
/-- CLU_k_DC_CNT3, RO, reset 0x00000000 (07_dc_converters.md; k < 12). -/
def CLU_DC_CNT3 (k : Nat) : Nat := 0x20160 + 0x800 * k
/-- CLU_k_DC_ILIM_EFF, RO, reset 0x00000000 (07_dc_converters.md; k < 12). -/
def CLU_DC_ILIM_EFF (k : Nat) : Nat := 0x20164 + 0x800 * k
/-- CLU_k_DC_MEAS, RO, reset 0x00000000 (07_dc_converters.md; k < 12). -/
def CLU_DC_MEAS (k : Nat) : Nat := 0x20168 + 0x800 * k
/-- CLU_k_PV_MPPT, RWL, reset 0x46401408 (07_dc_converters.md; k < 12). -/
def CLU_PV_MPPT (k : Nat) : Nat := 0x20200 + 0x800 * k
/-- CLU_k_PV_LIM, RWL, reset 0x00000000 (07_dc_converters.md; k < 12). -/
def CLU_PV_LIM (k : Nat) : Nat := 0x20204 + 0x800 * k
/-- CLU_k_PV_SWEEP, RWL, reset 0x0F0501F4 (07_dc_converters.md; k < 12). -/
def CLU_PV_SWEEP (k : Nat) : Nat := 0x20208 + 0x800 * k
/-- CLU_k_PV_VREF, RO, reset 0x00000000 (07_dc_converters.md; k < 12). -/
def CLU_PV_VREF (k : Nat) : Nat := 0x2020C + 0x800 * k
/-- CLU_k_PV_POWER, RO, reset 0x00000000 (07_dc_converters.md; k < 12). -/
def CLU_PV_POWER (k : Nat) : Nat := 0x20210 + 0x800 * k
/-- CLU_k_PV_SWRES, RO, reset 0x00000000 (07_dc_converters.md; k < 12). -/
def CLU_PV_SWRES (k : Nat) : Nat := 0x20214 + 0x800 * k
/-- CLU_k_DLC_VCFG, RWL, reset 0x00000000 (07_dc_converters.md; k < 12). -/
def CLU_DLC_VCFG (k : Nat) : Nat := 0x20280 + 0x800 * k
/-- CLU_k_DLC_HYS, RWL, reset 0x00000064 (07_dc_converters.md; k < 12). -/
def CLU_DLC_HYS (k : Nat) : Nat := 0x20284 + 0x800 * k
/-- CLU_k_DLC_THERM, RWL, reset 0x00000000 (07_dc_converters.md; k < 12). -/
def CLU_DLC_THERM (k : Nat) : Nat := 0x20288 + 0x800 * k
/-- CLU_k_DLC_DISCH, RW, reset 0x00000000 (07_dc_converters.md; k < 12). -/
def CLU_DLC_DISCH (k : Nat) : Nat := 0x2028C + 0x800 * k
/-- CLU_k_DLC_STAT, RO, reset 0x00000000 (07_dc_converters.md; k < 12). -/
def CLU_DLC_STAT (k : Nat) : Nat := 0x20290 + 0x800 * k
/-- CLU_k_PV_CURVEi, RO, reset 0x00000000 (07_dc_converters.md; k < 12; i < 64). -/
def CLU_PV_CURVE (k i : Nat) : Nat := 0x20300 + 0x800 * k + 0x4 * i
/-! ### CHG -/
/-- CHG_k_CFG, RWL, reset 0x00000000 (08_string_charge_engine.md; k < 12). -/
def CHG_CFG (k : Nat) : Nat := 0x28000 + 0x100 * k
/-- CHG_k_ICHG, RWL, reset 0x00000000 (08_string_charge_engine.md; k < 12). -/
def CHG_ICHG (k : Nat) : Nat := 0x28004 + 0x100 * k
/-- CHG_k_VCV, RWL, reset 0x00640000 (08_string_charge_engine.md; k < 12). -/
def CHG_VCV (k : Nat) : Nat := 0x28008 + 0x100 * k
/-- CHG_k_TIMER, RWL, reset 0x25800258 (08_string_charge_engine.md; k < 12). -/
def CHG_TIMER (k : Nat) : Nat := 0x2800C + 0x100 * k
/-- CHG_k_NI, RWL, reset 0x140A0A3C (08_string_charge_engine.md; k < 12). -/
def CHG_NI (k : Nat) : Nat := 0x28010 + 0x100 * k
/-- CHG_k_NI2, RWL, reset 0x00000002 (08_string_charge_engine.md; k < 12). -/
def CHG_NI2 (k : Nat) : Nat := 0x28014 + 0x100 * k
/-- CHG_k_FOLD, RWL, reset 0x01F40190 (08_string_charge_engine.md; k < 12). -/
def CHG_FOLD (k : Nat) : Nat := 0x28018 + 0x100 * k
/-- CHG_k_BMS, RWL, reset 0x000001F4 (08_string_charge_engine.md; k < 12). -/
def CHG_BMS (k : Nat) : Nat := 0x2801C + 0x100 * k
/-- CHG_k_BMSMAP0, RWL, reset 0x08184080 (08_string_charge_engine.md; k < 12). -/
def CHG_BMSMAP0 (k : Nat) : Nat := 0x28020 + 0x100 * k
/-- CHG_k_BMSMAP1, RWL, reset 0x000012CA (08_string_charge_engine.md; k < 12). -/
def CHG_BMSMAP1 (k : Nat) : Nat := 0x28024 + 0x100 * k
/-- CHG_k_SN, RWL, reset 0x00000000 (08_string_charge_engine.md; k < 12). -/
def CHG_SN (k : Nat) : Nat := 0x28028 + 0x100 * k
/-- CHG_k_SNCTL, RWL, reset 0x0000000F (08_string_charge_engine.md; k < 12). -/
def CHG_SNCTL (k : Nat) : Nat := 0x2802C + 0x100 * k
/-- CHG_k_CMD, WO, reset 0x00000000 (08_string_charge_engine.md; k < 12). -/
def CHG_CMD (k : Nat) : Nat := 0x28030 + 0x100 * k
/-- CHG_k_STAT, RO, reset 0x00000100 (08_string_charge_engine.md; k < 12). -/
def CHG_STAT (k : Nat) : Nat := 0x28034 + 0x100 * k
/-- CHG_k_FLAGS, W1C, reset 0x00000000 (08_string_charge_engine.md; k < 12). -/
def CHG_FLAGS (k : Nat) : Nat := 0x28038 + 0x100 * k
/-- CHG_k_CNT0, RO, reset 0x00000000 (08_string_charge_engine.md; k < 12). -/
def CHG_CNT0 (k : Nat) : Nat := 0x2803C + 0x100 * k
/-- CHG_k_CNT1, RO, reset 0x00000000 (08_string_charge_engine.md; k < 12). -/
def CHG_CNT1 (k : Nat) : Nat := 0x28040 + 0x100 * k
/-- CHG_k_CNT2, RO, reset 0x00000000 (08_string_charge_engine.md; k < 12). -/
def CHG_CNT2 (k : Nat) : Nat := 0x28044 + 0x100 * k
/-- CHG_k_BMSLIM, RO, reset 0x00000000 (08_string_charge_engine.md; k < 12). -/
def CHG_BMSLIM (k : Nat) : Nat := 0x28048 + 0x100 * k
/-- CHG_k_BMSV, RO, reset 0x00000000 (08_string_charge_engine.md; k < 12). -/
def CHG_BMSV (k : Nat) : Nat := 0x2804C + 0x100 * k
/-- CHG_k_BOUND, RO, reset 0x00000000 (08_string_charge_engine.md; k < 12). -/
def CHG_BOUND (k : Nat) : Nat := 0x28050 + 0x100 * k
/-- CHG_k_TIME, RO, reset 0x00000000 (08_string_charge_engine.md; k < 12). -/
def CHG_TIME (k : Nat) : Nat := 0x28054 + 0x100 * k
/-- CHG_k_NIMON, RO, reset 0x00000000 (08_string_charge_engine.md; k < 12). -/
def CHG_NIMON (k : Nat) : Nat := 0x28058 + 0x100 * k
/-- CHG_k_IREF, RO, reset 0x00000000 (08_string_charge_engine.md; k < 12). -/
def CHG_IREF (k : Nat) : Nat := 0x2805C + 0x100 * k
/-- CHG_HB, RW, reset 0x00000000 (08_string_charge_engine.md). -/
def CHG_HB : Nat := 0x28F00
/-- CHG_SN_CFG, RWL, reset 0x00000032 (08_string_charge_engine.md). -/
def CHG_SN_CFG : Nat := 0x28F04
/-- CHG_SN_CMD, WO, reset 0x00000000 (08_string_charge_engine.md). -/
def CHG_SN_CMD : Nat := 0x28F08
/-- CHG_SN_STAT, RO, reset 0x00000101 (08_string_charge_engine.md). -/
def CHG_SN_STAT : Nat := 0x28F0C
/-- CHG_SN_FLAGS, W1C, reset 0x00000000 (08_string_charge_engine.md). -/
def CHG_SN_FLAGS : Nat := 0x28F10
/-- CHG_SN_CNT0, RO, reset 0x00000000 (08_string_charge_engine.md). -/
def CHG_SN_CNT0 : Nat := 0x28F14
/-! ### LDG -/
/-- LDG_g_CFG, RWL, reset 0x00000000 (09_ledger.md; g < 2). -/
def LDG_CFG (g : Nat) : Nat := 0x2C000 + 0x800 * g
/-- LDG_g_CLINK, RWL, reset 0x00000000 (09_ledger.md; g < 2). -/
def LDG_CLINK (g : Nat) : Nat := 0x2C004 + 0x800 * g
/-- LDG_g_RESTH, RWL, reset 0x01F4000A (09_ledger.md; g < 2). -/
def LDG_RESTH (g : Nat) : Nat := 0x2C008 + 0x800 * g
/-- LDG_g_STAT, RO, reset 0x00000000 (09_ledger.md; g < 2). -/
def LDG_STAT (g : Nat) : Nat := 0x2C00C + 0x800 * g
/-- LDG_g_IVL_LO, RO, reset 0x00000000 (09_ledger.md; g < 2). -/
def LDG_IVL_LO (g : Nat) : Nat := 0x2C010 + 0x800 * g
/-- LDG_g_IVL_HI, RO, reset 0x00000000 (09_ledger.md; g < 2). -/
def LDG_IVL_HI (g : Nat) : Nat := 0x2C014 + 0x800 * g
/-- LDG_g_VLINK, RO, reset 0x00000000 (09_ledger.md; g < 2). -/
def LDG_VLINK (g : Nat) : Nat := 0x2C018 + 0x800 * g
/-- LDG_g_FLAGS, W1C, reset 0x00000000 (09_ledger.md; g < 2). -/
def LDG_FLAGS (g : Nat) : Nat := 0x2C01C + 0x800 * g
/-- LDG_g_CNT0, RO, reset 0x00000000 (09_ledger.md; g < 2). -/
def LDG_CNT0 (g : Nat) : Nat := 0x2C020 + 0x800 * g
/-- LDG_g_CNT1, RO, reset 0x00000000 (09_ledger.md; g < 2). -/
def LDG_CNT1 (g : Nat) : Nat := 0x2C024 + 0x800 * g
/-- LDG_g_RES_Q, RO, reset 0x00000000 (09_ledger.md; g < 2). -/
def LDG_RES_Q (g : Nat) : Nat := 0x2C028 + 0x800 * g
/-- LDG_g_RES_E, RO, reset 0x00000000 (09_ledger.md; g < 2). -/
def LDG_RES_E (g : Nat) : Nat := 0x2C02C + 0x800 * g
/-- LDG_g_Aa_CFG, RWL, reset 0x00000000 (09_ledger.md; g < 2; a < 12). -/
def LDG_A_CFG (g a : Nat) : Nat := 0x2C100 + 0x800 * g + 0x40 * a
/-- LDG_g_Aa_SCALE, RWL, reset 0x00000000 (09_ledger.md; g < 2; a < 12). -/
def LDG_A_SCALE (g a : Nat) : Nat := 0x2C104 + 0x800 * g + 0x40 * a
/-- LDG_g_Aa_RATED, RWL, reset 0x00000000 (09_ledger.md; g < 2; a < 12). -/
def LDG_A_RATED (g a : Nat) : Nat := 0x2C108 + 0x800 * g + 0x40 * a
/-- LDG_g_Aa_ILAST, RO, reset 0x00000000 (09_ledger.md; g < 2; a < 12). -/
def LDG_A_ILAST (g a : Nat) : Nat := 0x2C10C + 0x800 * g + 0x40 * a
/-- LDG_g_Aa_INQ_LO, RO, reset 0x00000000 (09_ledger.md; g < 2; a < 12). -/
def LDG_A_INQ_LO (g a : Nat) : Nat := 0x2C110 + 0x800 * g + 0x40 * a
/-- LDG_g_Aa_INQ_MID, RO, reset 0x00000000 (09_ledger.md; g < 2; a < 12). -/
def LDG_A_INQ_MID (g a : Nat) : Nat := 0x2C114 + 0x800 * g + 0x40 * a
/-- LDG_g_Aa_INQ_HI, RO, reset 0x00000000 (09_ledger.md; g < 2; a < 12). -/
def LDG_A_INQ_HI (g a : Nat) : Nat := 0x2C118 + 0x800 * g + 0x40 * a
/-- LDG_g_Aa_OUTQ_LO, RO, reset 0x00000000 (09_ledger.md; g < 2; a < 12). -/
def LDG_A_OUTQ_LO (g a : Nat) : Nat := 0x2C11C + 0x800 * g + 0x40 * a
/-- LDG_g_Aa_OUTQ_MID, RO, reset 0x00000000 (09_ledger.md; g < 2; a < 12). -/
def LDG_A_OUTQ_MID (g a : Nat) : Nat := 0x2C120 + 0x800 * g + 0x40 * a
/-- LDG_g_Aa_OUTQ_HI, RO, reset 0x00000000 (09_ledger.md; g < 2; a < 12). -/
def LDG_A_OUTQ_HI (g a : Nat) : Nat := 0x2C124 + 0x800 * g + 0x40 * a
/-- LDG_g_Aa_INE_LO, RO, reset 0x00000000 (09_ledger.md; g < 2; a < 12). -/
def LDG_A_INE_LO (g a : Nat) : Nat := 0x2C128 + 0x800 * g + 0x40 * a
/-- LDG_g_Aa_INE_MID, RO, reset 0x00000000 (09_ledger.md; g < 2; a < 12). -/
def LDG_A_INE_MID (g a : Nat) : Nat := 0x2C12C + 0x800 * g + 0x40 * a
/-- LDG_g_Aa_INE_HI, RO, reset 0x00000000 (09_ledger.md; g < 2; a < 12). -/
def LDG_A_INE_HI (g a : Nat) : Nat := 0x2C130 + 0x800 * g + 0x40 * a
/-- LDG_g_Aa_OUTE_LO, RO, reset 0x00000000 (09_ledger.md; g < 2; a < 12). -/
def LDG_A_OUTE_LO (g a : Nat) : Nat := 0x2C134 + 0x800 * g + 0x40 * a
/-- LDG_g_Aa_OUTE_MID, RO, reset 0x00000000 (09_ledger.md; g < 2; a < 12). -/
def LDG_A_OUTE_MID (g a : Nat) : Nat := 0x2C138 + 0x800 * g + 0x40 * a
/-- LDG_g_Aa_OUTE_HI, RO, reset 0x00000000 (09_ledger.md; g < 2; a < 12). -/
def LDG_A_OUTE_HI (g a : Nat) : Nat := 0x2C13C + 0x800 * g + 0x40 * a
/-- LDG_g_R_INQ_LO, RO, reset 0x00000000 (09_ledger.md; g < 2). -/
def LDG_R_INQ_LO (g : Nat) : Nat := 0x2C410 + 0x800 * g
/-- LDG_g_R_INQ_MID, RO, reset 0x00000000 (09_ledger.md; g < 2). -/
def LDG_R_INQ_MID (g : Nat) : Nat := 0x2C414 + 0x800 * g
/-- LDG_g_R_INQ_HI, RO, reset 0x00000000 (09_ledger.md; g < 2). -/
def LDG_R_INQ_HI (g : Nat) : Nat := 0x2C418 + 0x800 * g
/-- LDG_g_R_OUTQ_LO, RO, reset 0x00000000 (09_ledger.md; g < 2). -/
def LDG_R_OUTQ_LO (g : Nat) : Nat := 0x2C41C + 0x800 * g
/-- LDG_g_R_OUTQ_MID, RO, reset 0x00000000 (09_ledger.md; g < 2). -/
def LDG_R_OUTQ_MID (g : Nat) : Nat := 0x2C420 + 0x800 * g
/-- LDG_g_R_OUTQ_HI, RO, reset 0x00000000 (09_ledger.md; g < 2). -/
def LDG_R_OUTQ_HI (g : Nat) : Nat := 0x2C424 + 0x800 * g
/-- LDG_g_R_INE_LO, RO, reset 0x00000000 (09_ledger.md; g < 2). -/
def LDG_R_INE_LO (g : Nat) : Nat := 0x2C428 + 0x800 * g
/-- LDG_g_R_INE_MID, RO, reset 0x00000000 (09_ledger.md; g < 2). -/
def LDG_R_INE_MID (g : Nat) : Nat := 0x2C42C + 0x800 * g
/-- LDG_g_R_INE_HI, RO, reset 0x00000000 (09_ledger.md; g < 2). -/
def LDG_R_INE_HI (g : Nat) : Nat := 0x2C430 + 0x800 * g
/-- LDG_g_R_OUTE_LO, RO, reset 0x00000000 (09_ledger.md; g < 2). -/
def LDG_R_OUTE_LO (g : Nat) : Nat := 0x2C434 + 0x800 * g
/-- LDG_g_R_OUTE_MID, RO, reset 0x00000000 (09_ledger.md; g < 2). -/
def LDG_R_OUTE_MID (g : Nat) : Nat := 0x2C438 + 0x800 * g
/-- LDG_g_R_OUTE_HI, RO, reset 0x00000000 (09_ledger.md; g < 2). -/
def LDG_R_OUTE_HI (g : Nat) : Nat := 0x2C43C + 0x800 * g
/-! ### MEAS -/
/-- MEAS_CTRL, RWL, reset 0x00000000 (10_measurement.md). -/
def MEAS_CTRL : Nat := 0x30000
/-- MEAS_STAT, RO, reset 0x00000000 (10_measurement.md). -/
def MEAS_STAT : Nat := 0x30004
/-- MEAS_FLAGS, W1C, reset 0x00000000 (10_measurement.md). -/
def MEAS_FLAGS : Nat := 0x30008
/-- MEAS_CNT0, RO, reset 0x00000000 (10_measurement.md). -/
def MEAS_CNT0 : Nat := 0x3000C
/-- MEAS_CNT1, RO, reset 0x00000000 (10_measurement.md). -/
def MEAS_CNT1 : Nat := 0x30010
/-- MEAS_CMD, WO, reset 0x00000000 (10_measurement.md). -/
def MEAS_CMD : Nat := 0x30014
/-- MEAS_INVAL_SAR0, RO, reset 0x00000000 (10_measurement.md). -/
def MEAS_INVAL_SAR0 : Nat := 0x30018
/-- MEAS_INVAL_SAR1, RO, reset 0x00000000 (10_measurement.md). -/
def MEAS_INVAL_SAR1 : Nat := 0x3001C
/-- MEAS_INVAL_MOD, RO, reset 0x00000000 (10_measurement.md). -/
def MEAS_INVAL_MOD : Nat := 0x30020
/-- MEAS_CALSEQ, RO, reset 0x00000000 (10_measurement.md). -/
def MEAS_CALSEQ : Nat := 0x30024
/-- MEAS_MCLKj, RWL, reset 0x00000010 (10_measurement.md; j < 4). -/
def MEAS_MCLK (j : Nat) : Nat := 0x30030 + 0x4 * j
/-- MEAS_SARc_MASK, RWL, reset 0x00000000 (10_measurement.md; c < 8). -/
def MEAS_SAR_MASK (c : Nat) : Nat := 0x30100 + 0x10 * c
/-- MEAS_SARc_STAT, RO, reset 0x00000001 (10_measurement.md; c < 8). -/
def MEAS_SAR_STAT (c : Nat) : Nat := 0x30104 + 0x10 * c
/-- MEAS_XCp_CFG, RWL, reset 0x08000010 (10_measurement.md; p < 4). -/
def MEAS_XC_CFG (p : Nat) : Nat := 0x30200 + 0x10 * p
/-- MEAS_XCp_STAT, RO, reset 0x00280000 (10_measurement.md; p < 4). -/
def MEAS_XC_STAT (p : Nat) : Nat := 0x30204 + 0x10 * p
/-- MEAS_XCp_CODES, RO, reset 0x00000000 (10_measurement.md; p < 4). -/
def MEAS_XC_CODES (p : Nat) : Nat := 0x30208 + 0x10 * p
/-- MEAS_INi_CFG, RWL, reset 0x00000000 (10_measurement.md; i < 64). -/
def MEAS_IN_CFG (i : Nat) : Nat := 0x30400 + 0x10 * i
/-- MEAS_INi_UCAL, RWL, reset 0x00000000 (10_measurement.md; i < 64). -/
def MEAS_IN_UCAL (i : Nat) : Nat := 0x30404 + 0x10 * i
/-- MEAS_INi_LAST, RO, reset 0x00000000 (10_measurement.md; i < 64). -/
def MEAS_IN_LAST (i : Nat) : Nat := 0x30408 + 0x10 * i
/-- MEAS_MODi_CFG, RWL, reset 0x04400040 (10_measurement.md; i < 24). -/
def MEAS_MOD_CFG (i : Nat) : Nat := 0x30800 + 0x20 * i
/-- MEAS_MODi_FSD, RWL, reset 0x00000CCD (10_measurement.md; i < 24). -/
def MEAS_MOD_FSD (i : Nat) : Nat := 0x30804 + 0x20 * i
/-- MEAS_MODi_ADJ, RWL, reset 0x00000000 (10_measurement.md; i < 24). -/
def MEAS_MOD_ADJ (i : Nat) : Nat := 0x30808 + 0x20 * i
/-- MEAS_MODi_UCAL, RWL, reset 0x00000000 (10_measurement.md; i < 24). -/
def MEAS_MOD_UCAL (i : Nat) : Nat := 0x3080C + 0x20 * i
/-- MEAS_MODi_LAST, RO, reset 0x00000000 (10_measurement.md; i < 24). -/
def MEAS_MOD_LAST (i : Nat) : Nat := 0x30810 + 0x20 * i
/-- MEAS_PMm_CFG, RWL, reset 0x00000000 (10_measurement.md; m < 8). -/
def MEAS_PM_CFG (m : Nat) : Nat := 0x30C00 + 0x10 * m
/-- MEAS_PMm_UCAL, RWL, reset 0x00000000 (10_measurement.md; m < 8). -/
def MEAS_PM_UCAL (m : Nat) : Nat := 0x30C04 + 0x10 * m
/-- MEAS_PMm_LAST, RO, reset 0x00000000 (10_measurement.md; m < 8). -/
def MEAS_PM_LAST (m : Nat) : Nat := 0x30C08 + 0x10 * m
/-! ### AUX -/
/-- SVRc_CTRL, RW, RWL, reset 0x00030000 (11_thermal_and_service_regulators.md; c < 4). -/
def SVR_CTRL (c : Nat) : Nat := 0x3C000 + 0x100 * c
/-- SVRc_FSW, RWL, reset 0x000001F4 (11_thermal_and_service_regulators.md; c < 4). -/
def SVR_FSW (c : Nat) : Nat := 0x3C004 + 0x100 * c
/-- SVRc_VREF, RWL, reset 0x0A000000 (11_thermal_and_service_regulators.md; c < 4). -/
def SVR_VREF (c : Nat) : Nat := 0x3C008 + 0x100 * c
/-- SVRc_LOOP, RWL, reset 0x00000000 (11_thermal_and_service_regulators.md; c < 4). -/
def SVR_LOOP (c : Nat) : Nat := 0x3C00C + 0x100 * c
/-- SVRc_ILIM, RWL, reset 0x00000000 (11_thermal_and_service_regulators.md; c < 4). -/
def SVR_ILIM (c : Nat) : Nat := 0x3C010 + 0x100 * c
/-- SVRc_HICCUP, RWL, reset 0x07300063 (11_thermal_and_service_regulators.md; c < 4). -/
def SVR_HICCUP (c : Nat) : Nat := 0x3C014 + 0x100 * c
/-- SVRc_OVP, RWL, reset 0x0000000F (11_thermal_and_service_regulators.md; c < 4). -/
def SVR_OVP (c : Nat) : Nat := 0x3C018 + 0x100 * c
/-- SVRc_SHED0, RWL, reset 0x00000000 (11_thermal_and_service_regulators.md; c < 4). -/
def SVR_SHED0 (c : Nat) : Nat := 0x3C01C + 0x100 * c
/-- SVRc_SHED1, RWL, reset 0x0A000000 (11_thermal_and_service_regulators.md; c < 4). -/
def SVR_SHED1 (c : Nat) : Nat := 0x3C020 + 0x100 * c
/-- SVRc_STAT, RO, reset 0x00000000 (11_thermal_and_service_regulators.md; c < 4). -/
def SVR_STAT (c : Nat) : Nat := 0x3C024 + 0x100 * c
/-- SVRc_FLAGS, W1C, reset 0x00000000 (11_thermal_and_service_regulators.md; c < 4). -/
def SVR_FLAGS (c : Nat) : Nat := 0x3C028 + 0x100 * c
/-- SVRc_CNT0, RO, reset 0x00000000 (11_thermal_and_service_regulators.md; c < 4). -/
def SVR_CNT0 (c : Nat) : Nat := 0x3C02C + 0x100 * c
/-- SVRc_CNT1, RO, reset 0x00000000 (11_thermal_and_service_regulators.md; c < 4). -/
def SVR_CNT1 (c : Nat) : Nat := 0x3C030 + 0x100 * c
/-- SVRc_MEAS, RO, reset 0x00000000 (11_thermal_and_service_regulators.md; c < 4). -/
def SVR_MEAS (c : Nat) : Nat := 0x3C034 + 0x100 * c
/-- SVRc_REFCNT, RO, reset 0x00000000 (11_thermal_and_service_regulators.md; c < 4). -/
def SVR_REFCNT (c : Nat) : Nat := 0x3C038 + 0x100 * c
/-- AUXDi_CTRL, RW, RWL, reset 0x00000000 (12_aux_drives_and_feedback.md; i < 4). -/
def AUXD_CTRL (i : Nat) : Nat := 0x38000 + 0x100 * i
/-- AUXDi_PWM, RWL, reset 0x00282710 (12_aux_drives_and_feedback.md; i < 4). -/
def AUXD_PWM (i : Nat) : Nat := 0x38004 + 0x100 * i
/-- AUXDi_DUTYUV, RW, reset 0x00000000 (12_aux_drives_and_feedback.md; i < 4). -/
def AUXD_DUTYUV (i : Nat) : Nat := 0x38008 + 0x100 * i
/-- AUXDi_DUTYW, RW, reset 0x00000000 (12_aux_drives_and_feedback.md; i < 4). -/
def AUXD_DUTYW (i : Nat) : Nat := 0x3800C + 0x100 * i
/-- AUXDi_ILIM, RWL, reset 0x00000000 (12_aux_drives_and_feedback.md; i < 4). -/
def AUXD_ILIM (i : Nat) : Nat := 0x38010 + 0x100 * i
/-- AUXDi_VM, RWL, reset 0x0000400A (12_aux_drives_and_feedback.md; i < 4). -/
def AUXD_VM (i : Nat) : Nat := 0x38014 + 0x100 * i
/-- AUXDi_STAT, RO, reset 0x00000000 (12_aux_drives_and_feedback.md; i < 4). -/
def AUXD_STAT (i : Nat) : Nat := 0x38018 + 0x100 * i
/-- AUXDi_FLAGS, W1C, reset 0x00000000 (12_aux_drives_and_feedback.md; i < 4). -/
def AUXD_FLAGS (i : Nat) : Nat := 0x3801C + 0x100 * i
/-- AUXDi_CNT0, RO, reset 0x00000000 (12_aux_drives_and_feedback.md; i < 4). -/
def AUXD_CNT0 (i : Nat) : Nat := 0x38020 + 0x100 * i
/-- AUXDi_CNT1, RO, reset 0x00000000 (12_aux_drives_and_feedback.md; i < 4). -/
def AUXD_CNT1 (i : Nat) : Nat := 0x38024 + 0x100 * i
/-- AUXDi_MEAS, RO, reset 0x00000000 (12_aux_drives_and_feedback.md; i < 4). -/
def AUXD_MEAS (i : Nat) : Nat := 0x38028 + 0x100 * i
/-- AUXDi_BSTCNT, RO, reset 0x00000000 (12_aux_drives_and_feedback.md; i < 4). -/
def AUXD_BSTCNT (i : Nat) : Nat := 0x3802C + 0x100 * i
/-- FBi_CFG, RWL, reset 0x00000000 (12_aux_drives_and_feedback.md; i < 4). -/
def FB_CFG (i : Nat) : Nat := 0x39000 + 0x100 * i
/-- FBi_POS, RO, reset 0x00000000 (12_aux_drives_and_feedback.md; i < 4). -/
def FB_POS (i : Nat) : Nat := 0x39004 + 0x100 * i
/-- FBi_STAT, RO, reset 0x00000000 (12_aux_drives_and_feedback.md; i < 4). -/
def FB_STAT (i : Nat) : Nat := 0x39008 + 0x100 * i
/-- FBi_FLAGS, W1C, reset 0x00000000 (12_aux_drives_and_feedback.md; i < 4). -/
def FB_FLAGS (i : Nat) : Nat := 0x3900C + 0x100 * i
/-- FBi_CNT0, RO, reset 0x00000000 (12_aux_drives_and_feedback.md; i < 4). -/
def FB_CNT0 (i : Nat) : Nat := 0x39010 + 0x100 * i
/-- FBi_ZPOS, RO, reset 0x00000000 (12_aux_drives_and_feedback.md; i < 4). -/
def FB_ZPOS (i : Nat) : Nat := 0x39014 + 0x100 * i
/-- FBi_ZTIME, RO, reset 0x00000000 (12_aux_drives_and_feedback.md; i < 4). -/
def FB_ZTIME (i : Nat) : Nat := 0x39018 + 0x100 * i
/-- FBi_OPOS, RO, reset 0x00000000 (12_aux_drives_and_feedback.md; i < 4). -/
def FB_OPOS (i : Nat) : Nat := 0x3901C + 0x100 * i
/-- FBi_SPEED, RO, reset 0x00000000 (12_aux_drives_and_feedback.md; i < 4). -/
def FB_SPEED (i : Nat) : Nat := 0x39020 + 0x100 * i
/-- FBi_ACC, RO, reset 0x00000000 (12_aux_drives_and_feedback.md; i < 4). -/
def FB_ACC (i : Nat) : Nat := 0x39024 + 0x100 * i
/-- FBi_CMP, RW, reset 0x00000000 (12_aux_drives_and_feedback.md; i < 4). -/
def FB_CMP (i : Nat) : Nat := 0x39028 + 0x100 * i
/-- FBi_STEP, RW, reset 0x00000000 (12_aux_drives_and_feedback.md; i < 4). -/
def FB_STEP (i : Nat) : Nat := 0x3902C + 0x100 * i
/-- FBi_CMPTIME, RO, reset 0x00000000 (12_aux_drives_and_feedback.md; i < 4). -/
def FB_CMPTIME (i : Nat) : Nat := 0x39030 + 0x100 * i
/-- FBi_CMPCNT, RO, reset 0x00000000 (12_aux_drives_and_feedback.md; i < 4). -/
def FB_CMPCNT (i : Nat) : Nat := 0x39034 + 0x100 * i
/-! ### TRP -/
/-- TRPt_CFG, RWL, reset 0x00030FA0 (13_redundant_execution.md; t < 5). -/
def TRP_CFG (t : Nat) : Nat := 0x40000 + 0x100 * t
/-- TRPt_STAT, RO, reset 0x00000000 (13_redundant_execution.md; t < 5). -/
def TRP_STAT (t : Nat) : Nat := 0x40004 + 0x100 * t
/-- TRPt_EPOCH, RO, reset 0x00000000 (13_redundant_execution.md; t < 5). -/
def TRP_EPOCH (t : Nat) : Nat := 0x40008 + 0x100 * t
/-- TRPt_FLAGS, W1C, reset 0x00000000 (13_redundant_execution.md; t < 5). -/
def TRP_FLAGS (t : Nat) : Nat := 0x4000C + 0x100 * t
/-- TRPt_CNT0, RO, reset 0x00000000 (13_redundant_execution.md; t < 5). -/
def TRP_CNT0 (t : Nat) : Nat := 0x40010 + 0x100 * t
/-- TRPt_CNT1, RO, reset 0x00000000 (13_redundant_execution.md; t < 5). -/
def TRP_CNT1 (t : Nat) : Nat := 0x40014 + 0x100 * t
/-- TRPt_CNT2, RO, reset 0x00000000 (13_redundant_execution.md; t < 5). -/
def TRP_CNT2 (t : Nat) : Nat := 0x40018 + 0x100 * t
/-- TRPt_LASTFENCE, RO, reset 0x00000000 (13_redundant_execution.md; t < 5). -/
def TRP_LASTFENCE (t : Nat) : Nat := 0x4001C + 0x100 * t
/-- TRPt_LASTADDR, RO, reset 0x00000000 (13_redundant_execution.md; t < 5). -/
def TRP_LASTADDR (t : Nat) : Nat := 0x40020 + 0x100 * t
/-- TRPt_RELCNT_LO, RO, reset 0x00000000 (13_redundant_execution.md; t < 5). -/
def TRP_RELCNT_LO (t : Nat) : Nat := 0x40024 + 0x100 * t
/-- TRPt_RELCNT_HI, RO, reset 0x00000000 (13_redundant_execution.md; t < 5). -/
def TRP_RELCNT_HI (t : Nat) : Nat := 0x40028 + 0x100 * t
/-- TRPt_STALECNT, RO, reset 0x00000000 (13_redundant_execution.md; t < 5). -/
def TRP_STALECNT (t : Nat) : Nat := 0x4002C + 0x100 * t
/-- TRPt_CMD, WO, reset 0x00000000 (13_redundant_execution.md; t < 5). -/
def TRP_CMD (t : Nat) : Nat := 0x40030 + 0x100 * t
/-! ### SAFE -/
/-- SAFE_PRE0_STAT, RO, reset 0x00000000 (03_startup_states_commissioning.md). -/
def SAFE_PRE0_STAT : Nat := 0x48100
/-- SAFE_PRE1_STAT, RO, reset 0x00000000 (03_startup_states_commissioning.md). -/
def SAFE_PRE1_STAT : Nat := 0x48104
/-- SAFE_STAT, RO, reset 0x00000000 (14_safety_controller.md). -/
def SAFE_STAT : Nat := 0x48000
/-- SAFE_DEMAND, RO, reset 0x00000000 (14_safety_controller.md). -/
def SAFE_DEMAND : Nat := 0x48004
/-- SAFE_FLAGS, RO, reset 0x00000000 (14_safety_controller.md). -/
def SAFE_FLAGS : Nat := 0x48008
/-- SAFE_CNT0, RO, reset 0x00000000 (14_safety_controller.md). -/
def SAFE_CNT0 : Nat := 0x4800C
/-- SAFE_CNT1, RO, reset 0x00000000 (14_safety_controller.md). -/
def SAFE_CNT1 : Nat := 0x48010
/-- SAFE_CNT2, RO, reset 0x00000000 (14_safety_controller.md). -/
def SAFE_CNT2 : Nat := 0x48014
/-- SAFE_CNT3, RO, reset 0x00000000 (14_safety_controller.md). -/
def SAFE_CNT3 : Nat := 0x48018
/-- SAFE_SI, RO, reset 0x00000000 (14_safety_controller.md). -/
def SAFE_SI : Nat := 0x48020
/-- SAFE_SIPAIR, RO, reset 0x00000000 (14_safety_controller.md). -/
def SAFE_SIPAIR : Nat := 0x48024
/-- SAFE_SO, RO, reset 0x00000000 (14_safety_controller.md). -/
def SAFE_SO : Nat := 0x48028
/-- SAFE_RST, RO, reset 0x00000000 (14_safety_controller.md). -/
def SAFE_RST : Nat := 0x4802C
/-- SAFE_CHK_CALC, RO, reset 0x00000000 (14_safety_controller.md). -/
def SAFE_CHK_CALC : Nat := 0x48030
/-- SAFE_CHK_CONF, RO, reset 0x00000000 (14_safety_controller.md). -/
def SAFE_CHK_CONF : Nat := 0x48034
/-- SAFE_LINES, RO, reset 0x00000000 (14_safety_controller.md). -/
def SAFE_LINES : Nat := 0x48038
/-- SAFE_EREM, RO, reset 0x00000000 (14_safety_controller.md). -/
def SAFE_EREM : Nat := 0x4803C
/-- SAFE_VLg, RO, reset 0x00000000 (14_safety_controller.md; g < 2). -/
def SAFE_VL (g : Nat) : Nat := 0x48040 + 0x8 * g
/-- SAFE_NET, RO, reset 0x00000000 (14_safety_controller.md). -/
def SAFE_NET : Nat := 0x48060
/-- SAFE_PARw, RO, reset 0x00000000 (14_safety_controller.md; w < 64). -/
def SAFE_PAR (w : Nat) : Nat := 0x48400 + 0x4 * w
/-! ### ETH -/
/-- ETH_Pp_CFG, RWL, reset 0x80010009 (15_ethernet_ptp_paired_transport.md; p < 2). -/
def ETH_P_CFG (p : Nat) : Nat := 0x50000 + 0x100 * p
/-- ETH_Pp_STAT, RO, reset 0x00000000 (15_ethernet_ptp_paired_transport.md; p < 2). -/
def ETH_P_STAT (p : Nat) : Nat := 0x50004 + 0x100 * p
/-- ETH_Pp_FLAGS, W1C, reset 0x00000000 (15_ethernet_ptp_paired_transport.md; p < 2). -/
def ETH_P_FLAGS (p : Nat) : Nat := 0x50008 + 0x100 * p
/-- ETH_Pp_CNT0, RO, reset 0x00000000 (15_ethernet_ptp_paired_transport.md; p < 2). -/
def ETH_P_CNT0 (p : Nat) : Nat := 0x5000C + 0x100 * p
/-- ETH_Pp_CNT1, RO, reset 0x00000000 (15_ethernet_ptp_paired_transport.md; p < 2). -/
def ETH_P_CNT1 (p : Nat) : Nat := 0x50010 + 0x100 * p
/-- ETH_Pp_MAC_LO, RWL, reset 0x00000000 (15_ethernet_ptp_paired_transport.md; p < 2). -/
def ETH_P_MAC_LO (p : Nat) : Nat := 0x50014 + 0x100 * p
/-- ETH_Pp_MAC_HI, RWL, reset 0x00000000 (15_ethernet_ptp_paired_transport.md; p < 2). -/
def ETH_P_MAC_HI (p : Nat) : Nat := 0x50018 + 0x100 * p
/-- ETH_Pp_LAT, RWL, reset 0x00000000 (15_ethernet_ptp_paired_transport.md; p < 2). -/
def ETH_P_LAT (p : Nat) : Nat := 0x5001C + 0x100 * p
/-- ETH_PTP_STAT, RO, reset 0x00000000 (15_ethernet_ptp_paired_transport.md). -/
def ETH_PTP_STAT : Nat := 0x50400
/-- ETH_PTP_SEC_LO, RO, reset 0x00000000 (15_ethernet_ptp_paired_transport.md). -/
def ETH_PTP_SEC_LO : Nat := 0x50404
/-- ETH_PTP_SEC_HI, RO, reset 0x00000000 (15_ethernet_ptp_paired_transport.md). -/
def ETH_PTP_SEC_HI : Nat := 0x50408
/-- ETH_PTP_NS, RO, reset 0x00000000 (15_ethernet_ptp_paired_transport.md). -/
def ETH_PTP_NS : Nat := 0x5040C
/-- ETH_PTP_OFFSET, RO, reset 0x00000000 (15_ethernet_ptp_paired_transport.md). -/
def ETH_PTP_OFFSET : Nat := 0x50410
/-- ETH_PTP_FLAGS, W1C, reset 0x00000000 (15_ethernet_ptp_paired_transport.md). -/
def ETH_PTP_FLAGS : Nat := 0x50414
/-- ETH_PTP_CNT0, RO, reset 0x00000000 (15_ethernet_ptp_paired_transport.md). -/
def ETH_PTP_CNT0 : Nat := 0x50418
/-- ETH_SNL_CFG, RWL, reset 0x88B57000 (15_ethernet_ptp_paired_transport.md). -/
def ETH_SNL_CFG : Nat := 0x50800
/-- ETH_SNL_RXCID, RWL, reset 0x00000000 (15_ethernet_ptp_paired_transport.md). -/
def ETH_SNL_RXCID : Nat := 0x50804
/-- ETH_SNL_TXCID, RWL, reset 0x00000000 (15_ethernet_ptp_paired_transport.md). -/
def ETH_SNL_TXCID : Nat := 0x50808
/-- ETH_SNL_PEER_LO, RWL, reset 0x00000000 (15_ethernet_ptp_paired_transport.md). -/
def ETH_SNL_PEER_LO : Nat := 0x5080C
/-- ETH_SNL_PEER_HI, RWL, reset 0x00000000 (15_ethernet_ptp_paired_transport.md). -/
def ETH_SNL_PEER_HI : Nat := 0x50810
/-- ETH_SNL_TIMING, RWL, reset 0x0A830064 (15_ethernet_ptp_paired_transport.md). -/
def ETH_SNL_TIMING : Nat := 0x50814
/-- ETH_SNL_STAT, RO, reset 0x00000003 (15_ethernet_ptp_paired_transport.md). -/
def ETH_SNL_STAT : Nat := 0x50818
/-- ETH_SNL_FLAGS, W1C, reset 0x00000000 (15_ethernet_ptp_paired_transport.md). -/
def ETH_SNL_FLAGS : Nat := 0x5081C
/-- ETH_SNL_CNT0, RO, reset 0x00000000 (15_ethernet_ptp_paired_transport.md). -/
def ETH_SNL_CNT0 : Nat := 0x50820
/-- ETH_SNL_CNT1, RO, reset 0x00000000 (15_ethernet_ptp_paired_transport.md). -/
def ETH_SNL_CNT1 : Nat := 0x50824
/-- ETH_SNL_CNT2, RO, reset 0x00000000 (15_ethernet_ptp_paired_transport.md). -/
def ETH_SNL_CNT2 : Nat := 0x50828
/-- ETH_SNL_LASTSEQ, RO, reset 0x00000000 (15_ethernet_ptp_paired_transport.md). -/
def ETH_SNL_LASTSEQ : Nat := 0x5082C
/-- ETH_SNL_AGE, RO, reset 0x00000000 (15_ethernet_ptp_paired_transport.md). -/
def ETH_SNL_AGE : Nat := 0x50830
/-! ### CAN -/
/-- CANx_CTRL, RW, RWL, reset 0x40000300 (16_can_fd.md; x < 6). -/
def CAN_CTRL (x : Nat) : Nat := 0x58000 + 0x1000 * x
/-- CANx_NBT, RWL, reset 0x013E0F0F (16_can_fd.md; x < 6). -/
def CAN_NBT (x : Nat) : Nat := 0x58004 + 0x1000 * x
/-- CANx_DBT, RWL, reset 0x010E0303 (16_can_fd.md; x < 6). -/
def CAN_DBT (x : Nat) : Nat := 0x58008 + 0x1000 * x
/-- CANx_TDC, RWL, reset 0x80000020 (16_can_fd.md; x < 6). -/
def CAN_TDC (x : Nat) : Nat := 0x5800C + 0x1000 * x
/-- CANx_STAT, RO, reset 0x00000000 (16_can_fd.md; x < 6). -/
def CAN_STAT (x : Nat) : Nat := 0x58010 + 0x1000 * x
/-- CANx_FLAGS, W1C, reset 0x00000000 (16_can_fd.md; x < 6). -/
def CAN_FLAGS (x : Nat) : Nat := 0x58014 + 0x1000 * x
/-- CANx_CNT0, RO, reset 0x00000000 (16_can_fd.md; x < 6). -/
def CAN_CNT0 (x : Nat) : Nat := 0x58018 + 0x1000 * x
/-- CANx_CNT1, RO, reset 0x00000000 (16_can_fd.md; x < 6). -/
def CAN_CNT1 (x : Nat) : Nat := 0x5801C + 0x1000 * x
/-- CANx_CNT2, RO, reset 0x00000000 (16_can_fd.md; x < 6). -/
def CAN_CNT2 (x : Nat) : Nat := 0x58020 + 0x1000 * x
/-- CANx_CNT3, RO, reset 0x00000000 (16_can_fd.md; x < 6). -/
def CAN_CNT3 (x : Nat) : Nat := 0x58024 + 0x1000 * x
/-- CANx_ERRCNT, RO, reset 0x00000000 (16_can_fd.md; x < 6). -/
def CAN_ERRCNT (x : Nat) : Nat := 0x58028 + 0x1000 * x
/-- CANx_TDCV, RO, reset 0x00000000 (16_can_fd.md; x < 6). -/
def CAN_TDCV (x : Nat) : Nat := 0x5802C + 0x1000 * x
/-- CANx_CMD, WO, reset 0x00000000 (16_can_fd.md; x < 6). -/
def CAN_CMD (x : Nat) : Nat := 0x58030 + 0x1000 * x
/-- CANx_TXRING, RWL, reset 0x00000000 (16_can_fd.md; x < 6). -/
def CAN_TXRING (x : Nat) : Nat := 0x58034 + 0x1000 * x
/-- CANx_RXR_BASE, RWL, reset 0x00000000 (16_can_fd.md; x < 6). -/
def CAN_RXR_BASE (x : Nat) : Nat := 0x58038 + 0x1000 * x
/-- CANx_RXR_CFG, RWL, reset 0x00000008 (16_can_fd.md; x < 6). -/
def CAN_RXR_CFG (x : Nat) : Nat := 0x5803C + 0x1000 * x
/-- CANx_RXR_WR, RO, reset 0x00000000 (16_can_fd.md; x < 6). -/
def CAN_RXR_WR (x : Nat) : Nat := 0x58040 + 0x1000 * x
/-- CANx_RXR_RD, RW, reset 0x00000000 (16_can_fd.md; x < 6). -/
def CAN_RXR_RD (x : Nat) : Nat := 0x58044 + 0x1000 * x
/-- CANx_WAKE_ID, RWL, reset 0x00000000 (16_can_fd.md; x < 6). -/
def CAN_WAKE_ID (x : Nat) : Nat := 0x58048 + 0x1000 * x
/-- CANx_WAKE_IDM, RWL, reset 0x00000000 (16_can_fd.md; x < 6). -/
def CAN_WAKE_IDM (x : Nat) : Nat := 0x5804C + 0x1000 * x
/-- CANx_WAKE_D0, RWL, reset 0x00000000 (16_can_fd.md; x < 6). -/
def CAN_WAKE_D0 (x : Nat) : Nat := 0x58050 + 0x1000 * x
/-- CANx_WAKE_D1, RWL, reset 0x00000000 (16_can_fd.md; x < 6). -/
def CAN_WAKE_D1 (x : Nat) : Nat := 0x58054 + 0x1000 * x
/-- CANx_WAKE_DM0, RWL, reset 0x00000000 (16_can_fd.md; x < 6). -/
def CAN_WAKE_DM0 (x : Nat) : Nat := 0x58058 + 0x1000 * x
/-- CANx_WAKE_DM1, RWL, reset 0x00000000 (16_can_fd.md; x < 6). -/
def CAN_WAKE_DM1 (x : Nat) : Nat := 0x5805C + 0x1000 * x
/-- CANx_COLLID, RO, reset 0x00000000 (16_can_fd.md; x < 6). -/
def CAN_COLLID (x : Nat) : Nat := 0x58060 + 0x1000 * x
/-- CANx_TBb_ID, RW, reset 0x00000000 (16_can_fd.md; x < 6; b < 3). -/
def CAN_TB_ID (x b : Nat) : Nat := 0x58100 + 0x1000 * x + 0x80 * b
/-- CANx_TBb_CTL, RW, reset 0x00000000 (16_can_fd.md; x < 6; b < 3). -/
def CAN_TB_CTL (x b : Nat) : Nat := 0x58104 + 0x1000 * x + 0x80 * b
/-- CANx_TBb_STAT, RO, reset 0x00000000 (16_can_fd.md; x < 6; b < 3). -/
def CAN_TB_STAT (x b : Nat) : Nat := 0x58108 + 0x1000 * x + 0x80 * b
/-- CANx_TBb_DATAi, RW, reset 0x00000000 (16_can_fd.md; x < 6; b < 3; i < 16). -/
def CAN_TB_DATA (x b i : Nat) : Nat := 0x58110 + 0x1000 * x + 0x80 * b + 0x4 * i
/-- CANx_FIDf, RWL, reset 0x00000000 (16_can_fd.md; x < 6; f < 32). -/
def CAN_FID (x f : Nat) : Nat := 0x58400 + 0x1000 * x + 0x10 * f
/-- CANx_FMASKf, RWL, reset 0x00000000 (16_can_fd.md; x < 6; f < 32). -/
def CAN_FMASK (x f : Nat) : Nat := 0x58404 + 0x1000 * x + 0x10 * f
/-- CANx_FCFGf, RWL, reset 0x00000000 (16_can_fd.md; x < 6; f < 32). -/
def CAN_FCFG (x f : Nat) : Nat := 0x58408 + 0x1000 * x + 0x10 * f
/-- CANx_FSTATf, RO, reset 0x00000000 (16_can_fd.md; x < 6; f < 32). -/
def CAN_FSTAT (x f : Nat) : Nat := 0x5840C + 0x1000 * x + 0x10 * f
/-- CANx_SLOTf, RO, reset 0x00000000 (16_can_fd.md; x < 6; f < 32; w < 20). -/
def CAN_SLOT (x f w : Nat) : Nat := 0x58600 + 0x1000 * x + 0x50 * f + 0x4 * w
/-! ### HIF -/
/-- HIF_CTRL, RW, reset 0x80640000 (17_host_rings_and_doorbells.md). -/
def HIF_CTRL : Nat := 0x60000
/-- HIF_STAT, RO, reset 0x00000000 (17_host_rings_and_doorbells.md). -/
def HIF_STAT : Nat := 0x60004
/-- HIF_FLAGS, W1C, reset 0x00000000 (17_host_rings_and_doorbells.md). -/
def HIF_FLAGS : Nat := 0x60008
/-- HIF_CNT0, RO, reset 0x00000000 (17_host_rings_and_doorbells.md). -/
def HIF_CNT0 : Nat := 0x6000C
/-- HIF_CNT1, RO, reset 0x00000000 (17_host_rings_and_doorbells.md). -/
def HIF_CNT1 : Nat := 0x60010
/-- HIF_EPOCH, RO, reset 0x00000000 (17_host_rings_and_doorbells.md). -/
def HIF_EPOCH : Nat := 0x60014
/-- HIF_DB_BASE_LO, RW, reset 0x00000000 (17_host_rings_and_doorbells.md). -/
def HIF_DB_BASE_LO : Nat := 0x60018
/-- HIF_DB_BASE_HI, RW, reset 0x00000000 (17_host_rings_and_doorbells.md). -/
def HIF_DB_BASE_HI : Nat := 0x6001C
/-- HIF_WB_BASE_LO, RW, reset 0x00000000 (17_host_rings_and_doorbells.md). -/
def HIF_WB_BASE_LO : Nat := 0x60020
/-- HIF_WB_BASE_HI, RW, reset 0x00000000 (17_host_rings_and_doorbells.md). -/
def HIF_WB_BASE_HI : Nat := 0x60024
/-- HIF_SHM_BASE, RW, reset 0x00000000 (17_host_rings_and_doorbells.md). -/
def HIF_SHM_BASE : Nat := 0x60028
/-- HIF_SHM_SIZE, RW, reset 0x00000000 (17_host_rings_and_doorbells.md). -/
def HIF_SHM_SIZE : Nat := 0x6002C
/-- HIF_ERRRING, RO, reset 0x00000000 (17_host_rings_and_doorbells.md). -/
def HIF_ERRRING : Nat := 0x60030
/-- HIF_RINGr_BASE_LO, RW, reset 0x00000000 (17_host_rings_and_doorbells.md; r < 32). -/
def HIF_RING_BASE_LO (r : Nat) : Nat := 0x60100 + 0x20 * r
/-- HIF_RINGr_BASE_HI, RW, reset 0x00000000 (17_host_rings_and_doorbells.md; r < 32). -/
def HIF_RING_BASE_HI (r : Nat) : Nat := 0x60104 + 0x20 * r
/-- HIF_RINGr_CFG, RW, reset 0x00000004 (17_host_rings_and_doorbells.md; r < 32). -/
def HIF_RING_CFG (r : Nat) : Nat := 0x60108 + 0x20 * r
/-- HIF_RINGr_IRQ, RW, reset 0x00010000 (17_host_rings_and_doorbells.md; r < 32). -/
def HIF_RING_IRQ (r : Nat) : Nat := 0x6010C + 0x20 * r
/-- HIF_RINGr_DEVIDX, RO, reset 0x00000000 (17_host_rings_and_doorbells.md; r < 32). -/
def HIF_RING_DEVIDX (r : Nat) : Nat := 0x60110 + 0x20 * r
/-- HIF_RINGr_HOSTIDX, RO, reset 0x00000000 (17_host_rings_and_doorbells.md; r < 32). -/
def HIF_RING_HOSTIDX (r : Nat) : Nat := 0x60114 + 0x20 * r
/-- HIF_RINGr_DONE, RO, reset 0x00000000 (17_host_rings_and_doorbells.md; r < 32). -/
def HIF_RING_DONE (r : Nat) : Nat := 0x60118 + 0x20 * r
/-- HIF_RINGr_STAT, RO, reset 0x00000000 (17_host_rings_and_doorbells.md; r < 32). -/
def HIF_RING_STAT (r : Nat) : Nat := 0x6011C + 0x20 * r
/-- HIF_CAPc_SAR0, RW, reset 0x00000000 (17_host_rings_and_doorbells.md; c < 4). -/
def HIF_CAP_SAR0 (c : Nat) : Nat := 0x60800 + 0x40 * c
/-- HIF_CAPc_SAR1, RW, reset 0x00000000 (17_host_rings_and_doorbells.md; c < 4). -/
def HIF_CAP_SAR1 (c : Nat) : Nat := 0x60804 + 0x40 * c
/-- HIF_CAPc_MOD, RW, reset 0x00000000 (17_host_rings_and_doorbells.md; c < 4). -/
def HIF_CAP_MOD (c : Nat) : Nat := 0x60808 + 0x40 * c
/-- HIF_CAPc_PMFB, RW, reset 0x00000000 (17_host_rings_and_doorbells.md; c < 4). -/
def HIF_CAP_PMFB (c : Nat) : Nat := 0x6080C + 0x40 * c
/-- HIF_CAPc_EREP, RW, reset 0x00000000 (17_host_rings_and_doorbells.md; c < 4). -/
def HIF_CAP_EREP (c : Nat) : Nat := 0x60810 + 0x40 * c
/-- HIF_CAPc_EST, RW, reset 0x00000000 (17_host_rings_and_doorbells.md; c < 4). -/
def HIF_CAP_EST (c : Nat) : Nat := 0x60814 + 0x40 * c
/-- HIF_CAPc_CFG, RW, reset 0x00640000 (17_host_rings_and_doorbells.md; c < 4). -/
def HIF_CAP_CFG (c : Nat) : Nat := 0x60818 + 0x40 * c
/-- HIF_CAPc_RATE, RO, reset 0x00000000 (17_host_rings_and_doorbells.md; c < 4). -/
def HIF_CAP_RATE (c : Nat) : Nat := 0x6081C + 0x40 * c
/-! ### MBX -/
/-- MBX_CHc_CFG, RWL, reset 0x00000000 (18_mailboxes_and_transactions.md; c < 8). -/
def MBX_CH_CFG (c : Nat) : Nat := 0x68000 + 0x10 * c
/-- MBX_CHc_CFG_SEC, RO, reset 0x00000000 (18_mailboxes_and_transactions.md; c < 8). -/
def MBX_CH_CFG_SEC (c : Nat) : Nat := 0x68080 + 0x10 * c
/-- MBX_CHc_TO, RWL, reset 0x03E800C8 (18_mailboxes_and_transactions.md; c < 16). -/
def MBX_CH_TO (c : Nat) : Nat := 0x68004 + 0x10 * c
/-- MBX_CHc_STAT, RO, reset 0x00000000 (18_mailboxes_and_transactions.md; c < 16). -/
def MBX_CH_STAT (c : Nat) : Nat := 0x68008 + 0x10 * c
/-- MBX_EPOCHp, RO, reset 0x00000000 (18_mailboxes_and_transactions.md; p < 7). -/
def MBX_EPOCH (p : Nat) : Nat := 0x68100 + 0x4 * p
/-- MBX_RXPEND, RO, reset 0x00000000 (18_mailboxes_and_transactions.md). -/
def MBX_RXPEND : Nat := 0x68120
/-- MBX_LAST, RO, reset 0x00000000 (18_mailboxes_and_transactions.md). -/
def MBX_LAST : Nat := 0x68124
/-- MBX_FLAGS, W1C, reset 0x00000000 (18_mailboxes_and_transactions.md). -/
def MBX_FLAGS : Nat := 0x68128
/-- MBX_CNT0, RO, reset 0x00000000 (18_mailboxes_and_transactions.md). -/
def MBX_CNT0 : Nat := 0x6812C
/-- MBX_CNT1, RO, reset 0x00000000 (18_mailboxes_and_transactions.md). -/
def MBX_CNT1 : Nat := 0x68130
/-- MBX_CNT2, RO, reset 0x00000000 (18_mailboxes_and_transactions.md). -/
def MBX_CNT2 : Nat := 0x68134
/-- MBX_CNT3, RO, reset 0x00000000 (18_mailboxes_and_transactions.md). -/
def MBX_CNT3 : Nat := 0x68138
/-! ### REC -/
/-- REC_CTRL, RW, reset 0x003C0050 (19_event_recorder.md). -/
def REC_CTRL : Nat := 0x70000
/-- REC_CMD, WO, reset 0x00000000 (19_event_recorder.md). -/
def REC_CMD : Nat := 0x70004
/-- REC_STAT, RO, reset 0x00000000 (19_event_recorder.md). -/
def REC_STAT : Nat := 0x70008
/-- REC_FLAGS, W1C, reset 0x00000000 (19_event_recorder.md). -/
def REC_FLAGS : Nat := 0x7000C
/-- REC_CNT0, RO, reset 0x00000000 (19_event_recorder.md). -/
def REC_CNT0 : Nat := 0x70010
/-- REC_CNT1, RO, reset 0x00000000 (19_event_recorder.md). -/
def REC_CNT1 : Nat := 0x70014
/-- REC_CNT2, RO, reset 0x00000000 (19_event_recorder.md). -/
def REC_CNT2 : Nat := 0x70018
/-- REC_SEQ_LO, RO, reset 0x00000000 (19_event_recorder.md). -/
def REC_SEQ_LO : Nat := 0x70020
/-- REC_SEQ_HI, RO, reset 0x00000000 (19_event_recorder.md). -/
def REC_SEQ_HI : Nat := 0x70024
/-- REC_OLDEST_LO, RO, reset 0x00000000 (19_event_recorder.md). -/
def REC_OLDEST_LO : Nat := 0x70028
/-- REC_OLDEST_HI, RO, reset 0x00000000 (19_event_recorder.md). -/
def REC_OLDEST_HI : Nat := 0x7002C
/-- REC_SUPPTOT, RO, reset 0x00000000 (19_event_recorder.md). -/
def REC_SUPPTOT : Nat := 0x70030
/-- REC_SYSSUPP, RO, reset 0x00000000 (19_event_recorder.md). -/
def REC_SYSSUPP : Nat := 0x70034
/-- REC_WEARx, RO, reset 0x00000000 (19_event_recorder.md; x < 5). -/
def REC_WEAR (x : Nat) : Nat := 0x70040 + 0x4 * x
/-- REC_RD_LOG, RW, reset 0x00000000 (19_event_recorder.md). -/
def REC_RD_LOG : Nat := 0x70060
/-- REC_RD_FIRST_LO, RW, reset 0x00000000 (19_event_recorder.md). -/
def REC_RD_FIRST_LO : Nat := 0x70064
/-- REC_RD_FIRST_HI, RW, reset 0x00000000 (19_event_recorder.md). -/
def REC_RD_FIRST_HI : Nat := 0x70068
/-- REC_RD_BUF, RW, reset 0x00000000 (19_event_recorder.md). -/
def REC_RD_BUF : Nat := 0x7006C
/-- REC_RD_MAX, RW, reset 0x00000040 (19_event_recorder.md). -/
def REC_RD_MAX : Nat := 0x70070
/-- REC_RD_RES, RO, reset 0x00000000 (19_event_recorder.md). -/
def REC_RD_RES : Nat := 0x70074
/-- REC_RD_LAST_LO, RO, reset 0x00000000 (19_event_recorder.md). -/
def REC_RD_LAST_LO : Nat := 0x70078
/-- REC_RD_LAST_HI, RO, reset 0x00000000 (19_event_recorder.md). -/
def REC_RD_LAST_HI : Nat := 0x7007C
/-- REC_CAP_BASE, RW, reset 0x00000000 (19_event_recorder.md). -/
def REC_CAP_BASE : Nat := 0x70100
/-- REC_CAP_SIZE, RW, reset 0x00000000 (19_event_recorder.md). -/
def REC_CAP_SIZE : Nat := 0x70104
/-- REC_CAP_WIN, RW, reset 0x00640064 (19_event_recorder.md). -/
def REC_CAP_WIN : Nat := 0x70108
/-- REC_CAP_RATE, RO, reset 0x00000000 (19_event_recorder.md). -/
def REC_CAP_RATE : Nat := 0x7010C
/-- REC_CAP_SAR0, RW, reset 0x00000000 (19_event_recorder.md). -/
def REC_CAP_SAR0 : Nat := 0x70110
/-- REC_CAP_SAR1, RW, reset 0x00000000 (19_event_recorder.md). -/
def REC_CAP_SAR1 : Nat := 0x70114
/-- REC_CAP_MOD, RW, reset 0x00000000 (19_event_recorder.md). -/
def REC_CAP_MOD : Nat := 0x70118
/-- REC_CAP_PMFB, RW, reset 0x00000000 (19_event_recorder.md). -/
def REC_CAP_PMFB : Nat := 0x7011C
/-- REC_CAP_EREP, RW, reset 0x00000000 (19_event_recorder.md). -/
def REC_CAP_EREP : Nat := 0x70120
/-- REC_CAP_EST, RW, reset 0x00000000 (19_event_recorder.md). -/
def REC_CAP_EST : Nat := 0x70124
/-- REC_CAP_FIRST, RO, reset 0x00000000 (19_event_recorder.md). -/
def REC_CAP_FIRST : Nat := 0x70130
/-- REC_CAP_TRIG, RO, reset 0x00000000 (19_event_recorder.md). -/
def REC_CAP_TRIG : Nat := 0x70134
/-- REC_CAP_END, RO, reset 0x00000000 (19_event_recorder.md). -/
def REC_CAP_END : Nat := 0x70138
/-- REC_CAP_PREACT, RO, reset 0x00000000 (19_event_recorder.md). -/
def REC_CAP_PREACT : Nat := 0x7013C
/-- REC_Pp_CFG, RW, reset 0x00000000 (19_event_recorder.md; p < 32). -/
def REC_P_CFG (p : Nat) : Nat := 0x70200 + 0x10 * p
/-- REC_Pp_SRC, RW, reset 0x00000000 (19_event_recorder.md; p < 32). -/
def REC_P_SRC (p : Nat) : Nat := 0x70204 + 0x10 * p
/-- REC_Pp_LEVEL, RW, reset 0x00000000 (19_event_recorder.md; p < 32). -/
def REC_P_LEVEL (p : Nat) : Nat := 0x70208 + 0x10 * p
/-- REC_Pp_SUPP, RO, reset 0x00000000 (19_event_recorder.md; p < 32). -/
def REC_P_SUPP (p : Nat) : Nat := 0x7020C + 0x10 * p
/-- REC_SLl_i, RW, reset 0x00000000 (19_event_recorder.md; l < 4; i < 64). -/
def REC_SL (l i : Nat) : Nat := 0x70400 + 0x100 * l + 0x4 * i
/-! ### DBG -/
/-- DBG_CMD, WO, reset 0x00000000 (13_redundant_execution.md). -/
def DBG_CMD : Nat := 0x78000
/-- DBG_STAT, RO, reset 0x00000000 (13_redundant_execution.md). -/
def DBG_STAT : Nat := 0x78004
/-- DBG_FLAGS, W1C, reset 0x00000000 (13_redundant_execution.md). -/
def DBG_FLAGS : Nat := 0x78008
/-- DBG_CNT0, RO, reset 0x00000000 (13_redundant_execution.md). -/
def DBG_CNT0 : Nat := 0x7800C
/-- DBG_TRIPn, RWL, reset 0x00000000 (13_redundant_execution.md; n < 24). -/
def DBG_TRIP (n : Nat) : Nat := 0x78100 + 0x4 * n
/-! ### MSIX -/
/-- MSIX_ADDR_LO, RW, reset 0x00000000 (17_host_rings_and_doorbells.md; v < 64). -/
def MSIX_ADDR_LO (v : Nat) : Nat := 0xFE000 + 0x10 * v
/-- MSIX_ADDR_HI, RW, reset 0x00000000 (17_host_rings_and_doorbells.md; v < 64). -/
def MSIX_ADDR_HI (v : Nat) : Nat := 0xFE004 + 0x10 * v
/-- MSIX_DATA, RW, reset 0x00000000 (17_host_rings_and_doorbells.md; v < 64). -/
def MSIX_DATA (v : Nat) : Nat := 0xFE008 + 0x10 * v
/-- MSIX_CTRL, RW, reset 0x00000001 (17_host_rings_and_doorbells.md; v < 64). -/
def MSIX_CTRL (v : Nat) : Nat := 0xFE00C + 0x10 * v
/-- MSIX_PBA, RO, reset 0x00000000 (17_host_rings_and_doorbells.md; h < 2). -/
def MSIX_PBA (h : Nat) : Nat := 0xFF000 + 0x4 * h

end Reg

/-- Which instances of a register a variant has (R1, R2): all of them, or those of the slots, clusters or regions it has. -/
inductive InstKind where
  | any | slot | cluster | region | region1
  deriving DecidableEq, Repr

/-- One row of a register table: base offset, (stride, count) of each index from the outermost, value on entry to BOOT,
the RW, RWL and W1C bits (R5), and which instances a variant has (R2). -/
structure RegRow where
  base  : Nat
  dims  : List (Nat × Nat)
  reset : Word
  rw    : Word
  rwl   : Word
  w1c   : Word
  inst  : InstKind
  deriving DecidableEq, Repr

/-- Whether an offset from the base of a row is one of its instances. -/
def RegRow.hitDims : List (Nat × Nat) → Nat → Bool
  | [], d => d == 0
  | (st, n) :: t, d => Nat.blt (d / st) n && RegRow.hitDims t (d % st)

/-- Whether a BAR0 offset names an instance of the row. -/
def RegRow.hit (r : RegRow) (a : Nat) : Bool := Nat.ble r.base a && RegRow.hitDims r.dims (a - r.base)

/-- The index of the outermost dimension at an offset that the row hits. -/
def RegRow.outer (r : RegRow) (a : Nat) : Nat :=
  match r.dims with
  | [] => 0
  | (st, _) :: _ => (a - r.base) / st

namespace RegTable

/-- The register rows of the GLB block. -/
def rowsGLB : List RegRow :=
  [⟨0x20, [], 0x1, 0x0, 0x0, 0x0, .any⟩, -- GLB_DEVSTATE
   ⟨0x24, [], 0x0, 0x0, 0x0, 0x0, .any⟩, -- GLB_DEVCMD
   ⟨0x28, [], 0x0, 0x0, 0x0, 0x0, .any⟩, -- GLB_DEVRESULT
   ⟨0x2C, [], 0x0, 0x0, 0x0, 0x0, .any⟩, -- GLB_BOOTSTAT
   ⟨0x30, [], 0x0, 0x0, 0x0, 0x0, .any⟩, -- GLB_COMLOCK
   ⟨0x34, [], 0x0, 0x0, 0x0, 0x0, .any⟩, -- GLB_BOOTSTAT_LT
   ⟨0x0, [], 0x76241000, 0x0, 0x0, 0x0, .any⟩, -- GLB_IDENT
   ⟨0x4, [], 0x1, 0x0, 0x0, 0x0, .any⟩, -- GLB_VERSION
   ⟨0x8, [], 0x0, 0x0, 0x0, 0x0, .any⟩, -- GLB_SERIAL_LO
   ⟨0xC, [], 0x0, 0x0, 0x0, 0x0, .any⟩, -- GLB_SERIAL_HI
   ⟨0x10, [], 0x0, 0x0, 0x0, 0xF, .any⟩, -- GLB_FLAGS
   ⟨0x14, [], 0x0, 0x0, 0x0, 0x0, .any⟩, -- GLB_CNT0
   ⟨0x18, [], 0x0, 0x0, 0x0, 0x0, .any⟩, -- GLB_UNIMPL_ADDR
   ⟨0x44, [], 0x0, 0x0, 0x0, 0x0, .any⟩, -- GLB_GUARD_CNT2
   ⟨0x50, [], 0x0, 0x0, 0x0, 0x0, .any⟩, -- GLB_FWVER_RM
   ⟨0x54, [], 0x0, 0x0, 0x0, 0x0, .any⟩, -- GLB_FWVER_HV
   ⟨0x58, [(0x4, 4)], 0x0, 0x0, 0x0, 0x0, .any⟩, -- GLB_FWVER_LT
   ⟨0x70, [], 0x0, 0x0, 0x0, 0x0, .any⟩, -- GLB_PEND
   ⟨0x80, [], 0x0, 0xFFFFF, 0x0, 0x0, .any⟩, -- GLB_CNTSEL
   ⟨0x84, [], 0x0, 0x0, 0x0, 0x0, .any⟩, -- GLB_CNTSUB
   ⟨0x200, [(0x4, 32)], 0x0, 0xF83F0000, 0x0, 0x0, .any⟩, -- GLB_ROUTE
   ⟨0x300, [(0x4, 32)], 0xFFFFFFFF, 0xFFFFFFFF, 0x0, 0x0, .any⟩, -- GLB_MASK
   ⟨0x40, [], 0x4, 0x0, 0x0, 0x300, .any⟩ -- GLB_GUARD
  ]
/-- The register rows of the CTU block. -/
def rowsCTU : List RegRow :=
  [⟨0x1000, [], 0x138803E8, 0xFFFFFFFF, 0x0, 0x0, .any⟩, -- CTU_CFG
   ⟨0x1004, [], 0x0, 0x0, 0x0, 0x0, .any⟩, -- CTU_CMD
   ⟨0x1008, [], 0x0, 0x0, 0x0, 0x0, .any⟩, -- CTU_RES
   ⟨0x100C, [], 0x0, 0xF03, 0x0, 0x0, .any⟩, -- CTU_BND
   ⟨0x1010, [], 0x0, 0xFFFFFFFF, 0x0, 0x0, .any⟩, -- CTU_BND_PTPS_LO
   ⟨0x1014, [], 0x0, 0xFFFF, 0x0, 0x0, .any⟩, -- CTU_BND_PTPS_HI
   ⟨0x1018, [], 0x0, 0x3FFFFFFF, 0x0, 0x0, .any⟩, -- CTU_BND_PTPNS
   ⟨0x101C, [], 0x0, 0xFF0FFFFF, 0x0, 0x0, .any⟩, -- CTU_STG_OFS
   ⟨0x1020, [], 0x0, 0x0, 0x0, 0x0, .any⟩, -- CTU_STG_VAL
   ⟨0x1024, [], 0x0, 0x0, 0x0, 0x3F, .any⟩, -- CTU_FLAGS
   ⟨0x1028, [], 0x0, 0x0, 0x0, 0x0, .any⟩, -- CTU_CNT0
   ⟨0x102C, [], 0x0, 0x0, 0x0, 0x0, .any⟩, -- CTU_CNT1
   ⟨0x1040, [(0x10, 4)], 0x0, 0x0, 0x0, 0x0, .any⟩, -- CTU_T_STAT
   ⟨0x1044, [(0x10, 4)], 0x0, 0x0, 0x0, 0x0, .any⟩, -- CTU_T_ERR
   ⟨0x1048, [(0x10, 4)], 0x0, 0x0, 0x0, 0x0, .any⟩, -- CTU_T_TC_LO
   ⟨0x104C, [(0x10, 4)], 0x0, 0x0, 0x0, 0x0, .any⟩ -- CTU_T_TC_HI
  ]
/-- Rows of the PWR block, part 1. -/
def rowsPWR1 : List RegRow :=
  [⟨0x2100, [], 0xFA0, 0xFFFF, 0x0, 0x0, .any⟩, -- PWR_VCD_TARGET
   ⟨0x2104, [], 0x64, 0x3FF, 0x0, 0x0, .any⟩, -- PWR_VCD_WINDOW
   ⟨0x2108, [], 0x4A2E, 0xFFFF, 0x0, 0x0, .any⟩, -- PWR_VCD_LIMITS
   ⟨0x210C, [], 0x4A, 0x0, 0x0, 0x0, .any⟩, -- PWR_VCD_STAT
   ⟨0x2110, [], 0xFA0, 0xFFFF, 0x0, 0x0, .any⟩, -- PWR_VMD_TARGET
   ⟨0x2114, [], 0x64, 0x3FF, 0x0, 0x0, .any⟩, -- PWR_VMD_WINDOW
   ⟨0x2118, [], 0x5018, 0xFFFF, 0x0, 0x0, .any⟩, -- PWR_VMD_LIMITS
   ⟨0x211C, [], 0x50, 0x0, 0x0, 0x0, .any⟩, -- PWR_VMD_STAT
   ⟨0x2000, [], 0x0, 0x0, 0x0, 0x0, .any⟩, -- PWR_SUPSTAT
   ⟨0x2004, [], 0x0, 0x0, 0x0, 0xFFFF, .any⟩, -- PWR_FLAGS
   ⟨0x2008, [], 0x3FFFF, 0x0, 0x3FFFF, 0x0, .any⟩, -- PWR_VIO_CFG
   ⟨0x200C, [], 0x0, 0x0, 0x0, 0x0, .any⟩, -- reserved, RO
   ⟨0x2010, [], 0x0, 0x0, 0x0, 0x0, .any⟩, -- PWR_VAUX_MEAS
   ⟨0x2014, [], 0x0, 0x0, 0x0, 0x0, .any⟩, -- PWR_VSO_MEAS
   ⟨0x2018, [], 0x0, 0x0, 0x0, 0x0, .any⟩, -- PWR_CNT0
   ⟨0x201C, [], 0x0, 0x0, 0x0, 0x0, .any⟩, -- PWR_CNT1
   ⟨0x2020, [], 0x0, 0x0, 0x0, 0x0, .any⟩, -- PWR_CNT2
   ⟨0x2024, [], 0x0, 0x0, 0x0, 0x0, .any⟩, -- PWR_CNT3
   ⟨0x2200, [], 0x1E010A, 0x0, 0xFF031F, 0x0, .any⟩, -- PWR_HU_CFG
   ⟨0x2204, [], 0x0, 0x0, 0x0, 0x0, .any⟩, -- PWR_HU_CMD
   ⟨0x2208, [], 0x0, 0x0, 0x0, 0x0, .any⟩, -- PWR_HU_STAT
   ⟨0x220C, [], 0x0, 0x0, 0x0, 0x3F, .any⟩, -- PWR_HU_FLAGS
   ⟨0x2210, [], 0x0, 0x0, 0x0, 0x0, .any⟩, -- PWR_HU_CNT0
   ⟨0x2214, [], 0x0, 0x0, 0x0, 0x0, .any⟩, -- PWR_HU_CNT1
   ⟨0x2218, [], 0x0, 0x0, 0x0, 0x0, .any⟩ -- PWR_HU_MEAS
  ]
/-- Rows of the PWR block, part 2. -/
def rowsPWR2 : List RegRow :=
  [⟨0x221C, [], 0x0, 0x0, 0x0, 0x0, .any⟩ -- PWR_HU_CURR
  ]
/-- The register rows of the PWR block. -/
def rowsPWR : List RegRow := rowsPWR1 ++ rowsPWR2
/-- The register rows of the THM block. -/
def rowsTHM : List RegRow :=
  [⟨0x3000, [], 0x27D6E, 0x0, 0x3FFFF, 0x0, .any⟩, -- THM_JCFG
   ⟨0x3004, [], 0x7D73645F, 0x0, 0xFFFFFFFF, 0x0, .any⟩, -- THM_NCFG
   ⟨0x3008, [], 0xD6B03E8, 0x0, 0xFFFFFFFF, 0x0, .any⟩, -- THM_NMODEL
   ⟨0x300C, [], 0x2000040, 0x0, 0x830000FF, 0x0, .any⟩, -- THM_NCTL
   ⟨0x3010, [], 0xFFFFFF, 0x0, 0xFFFFFF, 0x0, .any⟩, -- THM_NTC_EN
   ⟨0x3014, [], 0xFF000000, 0x0, 0x0, 0x0, .any⟩, -- THM_STAT
   ⟨0x3018, [], 0x0, 0x0, 0x0, 0xFF, .any⟩, -- THM_FLAGS
   ⟨0x301C, [], 0x0, 0x0, 0x0, 0x0, .any⟩, -- THM_CNT0
   ⟨0x3020, [], 0x0, 0x0, 0x0, 0x0, .any⟩, -- THM_CNT1
   ⟨0x3024, [], 0xFF008000, 0x0, 0x0, 0x0, .any⟩, -- THM_PKG_JMAX
   ⟨0x3028, [], 0xFF008000, 0x0, 0x0, 0x0, .any⟩, -- THM_PKG_NMAX
   ⟨0x3030, [(0x8, 2)], 0xFF008000, 0x0, 0x0, 0x0, .region⟩, -- THM_REG_JMAX
   ⟨0x3034, [(0x8, 2)], 0xFF008000, 0x0, 0x0, 0x0, .region⟩, -- THM_REG_NMAX
   ⟨0x3040, [(0x4, 12)], 0x100, 0x0, 0x0, 0x0, .cluster⟩, -- THM_CLU_FOLD
   ⟨0x3100, [(0x4, 24)], 0x0, 0x0, 0x0, 0x0, .slot⟩, -- THM_SENS of the driver dies
   ⟨0x3160, [(0x4, 20)], 0x0, 0x0, 0x0, 0x0, .any⟩, -- THM_SENS of the other dies
   ⟨0x3200, [(0x4, 24)], 0x0, 0x0, 0x0, 0x0, .slot⟩ -- THM_NTC
  ]
/-- The register rows of the CLK block. -/
def rowsCLK : List RegRow :=
  [⟨0x6000, [(0x20, 256)], 0xF00, 0xF7F, 0x0, 0x0, .any⟩, -- CLK_TR_CFG
   ⟨0x6004, [(0x20, 256)], 0x0, 0xFFFFFFFF, 0x0, 0x0, .any⟩, -- CLK_TR_DEADLINE
   ⟨0x6008, [(0x20, 256)], 0x0, 0xFFFFFFFF, 0x0, 0x0, .any⟩, -- CLK_TR_RELEASE_LO
   ⟨0x600C, [(0x20, 256)], 0x0, 0xFFFFFFFF, 0x0, 0x0, .any⟩, -- CLK_TR_RELEASE_HI
   ⟨0x6010, [(0x20, 256)], 0x0, 0xFFFFFFFF, 0x0, 0x0, .any⟩, -- CLK_TR_PERIOD
   ⟨0x6014, [(0x20, 256)], 0x0, 0x0, 0x0, 0x0, .any⟩, -- CLK_TR_DONE
   ⟨0x6018, [(0x20, 256)], 0x0, 0x0, 0x0, 0x7000000, .any⟩, -- CLK_TR_STAT
   ⟨0x601C, [(0x20, 256)], 0x0, 0x0, 0x0, 0x0, .any⟩, -- CLK_TR_CNT
   ⟨0x4000, [], 0x0, 0x0, 0x0, 0x0, .any⟩, -- CLK_STAT
   ⟨0x4004, [], 0x0, 0x0, 0x0, 0x3FFF, .any⟩, -- CLK_FLAGS
   ⟨0x4008, [], 0x0, 0x0, 0x0, 0x0, .any⟩, -- CLK_CNT0
   ⟨0x400C, [], 0x0, 0x0, 0x0, 0x0, .any⟩, -- CLK_CNT1
   ⟨0x4010, [], 0x0, 0x0, 0x0, 0x0, .any⟩, -- CLK_CNT2
   ⟨0x4014, [], 0x0, 0x0, 0x0, 0x0, .any⟩, -- CLK_CNT3
   ⟨0x4018, [], 0x0, 0x0, 0x0, 0x0, .any⟩, -- CLK_TB_LO
   ⟨0x401C, [], 0x0, 0x0, 0x0, 0x0, .any⟩, -- CLK_TB_HI
   ⟨0x4020, [], 0x0, 0x0, 0x1, 0x0, .any⟩, -- CLK_REFCFG
   ⟨0x4024, [], 0x0, 0x0, 0x0, 0x0, .any⟩, -- CLK_HOCOMP
   ⟨0x4028, [], 0x0, 0x0, 0x0, 0x0, .any⟩ -- CLK_TBDEV
  ]
/-- Rows of the EDG block, part 1. -/
def rowsEDG1 : List RegRow :=
  [⟨0x10000, [(0x400, 24)], 0x0, 0xFBD, 0x0, 0x0, .slot⟩, -- EDG_CTRL
   ⟨0x10004, [(0x400, 24)], 0x80FA0, 0xFFFFF, 0x0, 0x0, .slot⟩, -- EDG_CARRIER
   ⟨0x10008, [(0x400, 24)], 0x0, 0x0, 0x0, 0x0, .slot⟩, -- EDG_PHASE
   ⟨0x1000C, [(0x400, 24)], 0x7D007D00, 0x0, 0x7FFF7FFF, 0x0, .slot⟩, -- EDG_DEADTIME
   ⟨0x10010, [(0x400, 24)], 0x140, 0x0, 0x17FFF, 0x0, .slot⟩, -- EDG_MINPULSE
   ⟨0x10014, [(0x400, 24)], 0x0, 0xFFFFFF, 0x0, 0x0, .slot⟩, -- EDG_CMPA
   ⟨0x10018, [(0x400, 24)], 0x0, 0xFFFFFF, 0x0, 0x0, .slot⟩, -- EDG_CMPB
   ⟨0x1001C, [(0x400, 24)], 0xF3330000, 0xFFFFFFFF, 0x0, 0x0, .slot⟩, -- EDG_DUTYLIM
   ⟨0x10020, [(0x400, 24)], 0x0, 0xFFFFFF03, 0x0, 0x0, .slot⟩, -- EDG_ACTPT
   ⟨0x10024, [(0x400, 24)], 0x41900000, 0xFFFF007F, 0x0, 0x0, .slot⟩, -- EDG_SRC
   ⟨0x10028, [(0x400, 24)], 0x0, 0x0, 0x0, 0x0, .slot⟩, -- EDG_REF
   ⟨0x1002C, [(0x400, 24)], 0x0, 0xFFFF, 0x0, 0x0, .slot⟩, -- EDG_KP
   ⟨0x10030, [(0x400, 24)], 0x0, 0xFFFF, 0x0, 0x0, .slot⟩, -- EDG_KI
   ⟨0x10034, [(0x400, 24)], 0x0, 0x0, 0xFFFFFFFF, 0x0, .slot⟩, -- EDG_FCL
   ⟨0x10038, [(0x400, 24)], 0x0, 0x0, 0x3F23, 0x0, .slot⟩, -- EDG_FCL_CFG
   ⟨0x1003C, [(0x400, 24)], 0x0, 0xFF00FFFF, 0x0, 0x0, .slot⟩, -- EDG_PCM
   ⟨0x10040, [(0x400, 24)], 0x6404, 0x0, 0xFFFF, 0x0, .slot⟩, -- EDG_ILK_CFG
   ⟨0x10080, [(0x400, 24), (0x4, 8)], 0x0, 0xE0FFFFFF, 0x0, 0x0, .slot⟩, -- EDG_PE
   ⟨0x10100, [(0x400, 24)], 0x0, 0x0, 0x0, 0x0, .slot⟩, -- EDG_STAT
   ⟨0x10104, [(0x400, 24)], 0x0, 0x0, 0x0, 0xFFFF, .slot⟩, -- EDG_FLAGS
   ⟨0x10108, [(0x400, 24)], 0x0, 0x0, 0x0, 0x0, .slot⟩, -- EDG_CNT0
   ⟨0x1010C, [(0x400, 24)], 0x0, 0x0, 0x0, 0x0, .slot⟩, -- EDG_CNT1
   ⟨0x10110, [(0x400, 24)], 0x0, 0x0, 0x0, 0x0, .slot⟩, -- EDG_CNT2
   ⟨0x10114, [(0x400, 24)], 0x0, 0x0, 0x0, 0x0, .slot⟩ -- EDG_CNT3
  ]
/-- Rows of the EDG block, part 2. -/
def rowsEDG2 : List RegRow :=
  [⟨0x10118, [(0x400, 24)], 0x0, 0x0, 0x0, 0x0, .slot⟩, -- EDG_EST
   ⟨0x1011C, [(0x400, 24)], 0x0, 0x0, 0x0, 0x0, .slot⟩, -- EDG_EST_TIME
   ⟨0x10120, [(0x400, 24)], 0x0, 0x0, 0x0, 0x0, .slot⟩, -- EDG_DUTY
   ⟨0x10124, [(0x400, 24)], 0x0, 0x0, 0x0, 0x0, .slot⟩, -- EDG_ILK_TOT
   ⟨0x16000, [], 0x3E820, 0xFFFFFF, 0x0, 0x0, .any⟩, -- EDG_ALIGN_CFG
   ⟨0x16004, [], 0x0, 0x0, 0x0, 0x0, .any⟩, -- EDG_ALIGN_STAT
   ⟨0x16008, [], 0x0, 0x0, 0x0, 0x0, .any⟩, -- EDG_ALIGN_STEP_LO
   ⟨0x1600C, [], 0x0, 0x0, 0x0, 0x0, .any⟩, -- EDG_ALIGN_STEP_HI
   ⟨0x16010, [], 0x0, 0x0, 0x0, 0x0, .any⟩, -- EDG_ALIGN_TRIM
   ⟨0x16014, [], 0x0, 0x0, 0x0, 0x7, .any⟩, -- EDG_ALIGN_FLAGS
   ⟨0x16018, [], 0x0, 0x0, 0x0, 0x0, .any⟩ -- EDG_ALIGN_CNT
  ]
/-- The register rows of the EDG block. -/
def rowsEDG : List RegRow := rowsEDG1 ++ rowsEDG2
/-- Rows of the GDV block, part 1. -/
def rowsGDV1 : List RegRow :=
  [⟨0x18000, [(0x200, 24)], 0x3031000, 0xFF01, 0xF030000, 0x0, .slot⟩, -- GDV_CTRL
   ⟨0x18004, [(0x200, 24)], 0x818, 0x0, 0x3F3F, 0x0, .slot⟩, -- GDV_BIAS_H
   ⟨0x18008, [(0x200, 24)], 0x818, 0x0, 0x3F3F, 0x0, .slot⟩, -- GDV_BIAS_L
   ⟨0x18010, [(0x200, 24)], 0x78101010, 0xFF1F1F3F, 0x0, 0x0, .slot⟩, -- GDV_PON_H
   ⟨0x18014, [(0x200, 24)], 0x78101C14, 0xFF1F1F3F, 0x0, 0x0, .slot⟩, -- GDV_POFF_H
   ⟨0x18018, [(0x200, 24)], 0x78101010, 0xFF1F1F3F, 0x0, 0x0, .slot⟩, -- GDV_PON_L
   ⟨0x1801C, [(0x200, 24)], 0x78101C14, 0xFF1F1F3F, 0x0, 0x0, .slot⟩, -- GDV_POFF_L
   ⟨0x18020, [(0x200, 24)], 0xFE04028, 0xFFFFF0FF, 0x0, 0x0, .slot⟩, -- GDV_AON_H
   ⟨0x18024, [(0x200, 24)], 0xFE04028, 0xFFFFF0FF, 0x0, 0x0, .slot⟩, -- GDV_AOFF_H
   ⟨0x18028, [(0x200, 24)], 0xFE04028, 0xFFFFF0FF, 0x0, 0x0, .slot⟩, -- GDV_AON_L
   ⟨0x1802C, [(0x200, 24)], 0xFE04028, 0xFFFFF0FF, 0x0, 0x0, .slot⟩, -- GDV_AOFF_L
   ⟨0x18030, [(0x200, 24)], 0xF0F0F0F, 0x3F3F3F3F, 0x0, 0x0, .slot⟩, -- GDV_STEPI
   ⟨0x18034, [(0x200, 24)], 0x80A01402, 0x0, 0x83FF3F07, 0x0, .slot⟩, -- GDV_DSAT_H
   ⟨0x18038, [(0x200, 24)], 0x80A01402, 0x0, 0x83FF3F07, 0x0, .slot⟩, -- GDV_DSAT_L
   ⟨0x1803C, [(0x200, 24)], 0x700C804, 0x0, 0x3F03FF0F, 0x0, .slot⟩, -- GDV_SOFT
   ⟨0x18040, [(0x200, 24)], 0x32014, 0x0, 0xE0FFFFFF, 0x0, .slot⟩, -- GDV_DIAG_CFG
   ⟨0x18044, [(0x200, 24)], 0x190, 0x0, 0xFFFF, 0x0, .slot⟩, -- GDV_SNS_DIV
   ⟨0x18048, [(0x200, 24)], 0x0, 0x0, 0x0, 0x0, .slot⟩, -- GDV_CMD
   ⟨0x18100, [(0x200, 24)], 0x2E0, 0x0, 0x0, 0x0, .slot⟩, -- GDV_STAT
   ⟨0x18104, [(0x200, 24)], 0x0, 0x0, 0x0, 0xFFFF, .slot⟩, -- GDV_FLAGS
   ⟨0x18108, [(0x200, 24)], 0x0, 0x0, 0x0, 0x0, .slot⟩, -- GDV_CNT0
   ⟨0x1810C, [(0x200, 24)], 0x0, 0x0, 0x0, 0x0, .slot⟩, -- GDV_CNT1
   ⟨0x18110, [(0x200, 24)], 0x0, 0x0, 0x0, 0x0, .slot⟩, -- GDV_CNT2
   ⟨0x18114, [(0x200, 24)], 0x0, 0x0, 0x0, 0x0, .slot⟩ -- GDV_CNT3
  ]
/-- Rows of the GDV block, part 2. -/
def rowsGDV2 : List RegRow :=
  [⟨0x18118, [(0x200, 24)], 0x0, 0x0, 0x0, 0x0, .slot⟩, -- GDV_DIAG_RES
   ⟨0x18120, [(0x200, 24)], 0x0, 0x0, 0x0, 0x0, .slot⟩, -- GDV_REP_ON_H
   ⟨0x18124, [(0x200, 24)], 0x0, 0x0, 0x0, 0x0, .slot⟩, -- GDV_REP_OFF_H
   ⟨0x18128, [(0x200, 24)], 0x0, 0x0, 0x0, 0x0, .slot⟩, -- GDV_REP_ON_L
   ⟨0x1812C, [(0x200, 24)], 0x0, 0x0, 0x0, 0x0, .slot⟩, -- GDV_REP_OFF_L
   ⟨0x18130, [(0x200, 24)], 0x0, 0x0, 0x0, 0x0, .slot⟩, -- GDV_ADJ_H
   ⟨0x18134, [(0x200, 24)], 0x0, 0x0, 0x0, 0x0, .slot⟩, -- GDV_ADJ_L
   ⟨0x18138, [(0x200, 24)], 0x0, 0x0, 0x0, 0x0, .slot⟩, -- GDV_BIASMEAS
   ⟨0x1813C, [(0x200, 24)], 0x0, 0x0, 0x0, 0x0, .slot⟩ -- GDV_TEMP
  ]
/-- The register rows of the GDV block. -/
def rowsGDV : List RegRow := rowsGDV1 ++ rowsGDV2
/-- Rows of the CLU block, part 1. -/
def rowsCLU1 : List RegRow :=
  [⟨0x20000, [(0x800, 12)], 0x3200, 0x0, 0xF01FF0F, 0x0, .cluster⟩, -- CLU_CFG
   ⟨0x20004, [(0x800, 12)], 0x0, 0x0, 0xFFFFFF, 0x0, .cluster⟩, -- CLU_SLOTS
   ⟨0x20008, [(0x800, 12)], 0x0, 0xFFFFFFFF, 0x0, 0x0, .cluster⟩, -- CLU_ANCHOR_LO
   ⟨0x2000C, [(0x800, 12)], 0x0, 0xFFFFFFFF, 0x0, 0x0, .cluster⟩, -- CLU_ANCHOR_HI
   ⟨0x20010, [(0x800, 12)], 0x0, 0x0, 0x0, 0x0, .cluster⟩, -- CLU_CMD
   ⟨0x20014, [(0x800, 12)], 0x0, 0x0, 0x0, 0x0, .cluster⟩, -- CLU_STAT
   ⟨0x20018, [(0x800, 12)], 0x0, 0x0, 0x0, 0xFF, .cluster⟩, -- CLU_FLAGS
   ⟨0x2001C, [(0x800, 12)], 0x0, 0x0, 0x0, 0x0, .cluster⟩, -- CLU_CNT0
   ⟨0x20020, [(0x800, 12)], 0x0, 0x0, 0x0, 0x0, .cluster⟩, -- CLU_CNT1
   ⟨0x20030, [(0x800, 12)], 0x201A1400, 0x0, 0xFFFFFF00, 0x0, .cluster⟩, -- CLU_NP
   ⟨0x20034, [(0x800, 12)], 0x0, 0x0, 0xFFFF003F, 0x0, .cluster⟩, -- CLU_NPSRC
   ⟨0x20038, [(0x800, 12)], 0x0, 0x0, 0x0, 0x0, .cluster⟩, -- CLU_NPTGT
   ⟨0x2003C, [(0x800, 12)], 0x0, 0x0, 0x0, 0x0, .cluster⟩, -- CLU_NPSTAT
   ⟨0x20040, [(0x800, 12)], 0x14000000, 0x0, 0xFF33FFFF, 0x0, .cluster⟩, -- CLU_GMU_CFG
   ⟨0x20044, [(0x800, 12)], 0x0, 0x0, 0x0, 0x0, .cluster⟩, -- CLU_GMU_FREQ
   ⟨0x20048, [(0x800, 12)], 0x0, 0x0, 0x0, 0x0, .cluster⟩, -- CLU_GMU_ROCOF
   ⟨0x2004C, [(0x800, 12)], 0x0, 0x0, 0x0, 0x0, .cluster⟩, -- CLU_GMU_ANGLE
   ⟨0x20050, [(0x800, 12)], 0x0, 0x0, 0x0, 0x0, .cluster⟩, -- CLU_GMU_SEQ
   ⟨0x20054, [(0x800, 12)], 0x0, 0x0, 0x0, 0x0, .cluster⟩, -- CLU_GMU_PJ
   ⟨0x20058, [(0x800, 12)], 0x0, 0x0, 0x0, 0x0, .cluster⟩, -- CLU_GMU_ZC_LO
   ⟨0x2005C, [(0x800, 12)], 0x0, 0x0, 0x0, 0x0, .cluster⟩, -- CLU_GMU_ZC_HI
   ⟨0x20060, [(0x800, 12)], 0x0, 0x0, 0x0, 0x0, .cluster⟩, -- CLU_GMU_ZC_PTPS
   ⟨0x20064, [(0x800, 12)], 0x0, 0x0, 0x0, 0x0, .cluster⟩, -- CLU_GMU_ZC_PTPN
   ⟨0x20080, [(0x800, 12), (0x4, 16)], 0x0, 0xFFFFFFFF, 0x0, 0x0, .cluster⟩ -- CLU_SP
  ]
/-- Rows of the CLU block, part 2. -/
def rowsCLU2 : List RegRow :=
  [⟨0x200C0, [(0x800, 12)], 0x0, 0x0, 0x0, 0x0, .cluster⟩, -- CLU_SP_POST
   ⟨0x200C4, [(0x800, 12)], 0x0, 0x0, 0x0, 0x0, .cluster⟩, -- CLU_SP_ACK
   ⟨0x200C8, [(0x800, 12)], 0x0, 0x0, 0x0, 0x0, .cluster⟩, -- CLU_SP_TIME
   ⟨0x26000, [(0x40, 2)], 0x0, 0x0, 0xFFFF003F, 0x0, .region⟩, -- CLU_REG_VCFG
   ⟨0x26004, [(0x40, 2)], 0x0, 0x0, 0xFFFFFFFF, 0x0, .region⟩, -- CLU_REG_VLIM
   ⟨0x26008, [(0x40, 2)], 0x0, 0x0, 0x0, 0x0, .region⟩, -- CLU_REG_CMD
   ⟨0x2600C, [(0x40, 2)], 0x7, 0x0, 0x0, 0x0, .region⟩, -- CLU_REG_STAT
   ⟨0x27000, [], 0x6400400, 0x0, 0xFFFFFF03, 0x0, .any⟩, -- CLU_SYS_CFG
   ⟨0x27004, [], 0x0, 0x0, 0x0, 0x0, .any⟩, -- CLU_SYS_STAT
   ⟨0x27008, [], 0x0, 0x0, 0x0, 0x0, .any⟩, -- CLU_SYS_MEMBERS
   ⟨0x2700C, [], 0x0, 0x0, 0x0, 0x0, .any⟩, -- CLU_SYS_CMD
   ⟨0x27010, [], 0x0, 0x0, 0x0, 0x0, .any⟩, -- CLU_SYS_RES
   ⟨0x27014, [], 0x0, 0x0, 0x0, 0xFF, .any⟩, -- CLU_SYS_FLAGS
   ⟨0x27018, [], 0x0, 0x0, 0x0, 0x0, .any⟩, -- CLU_SYS_CNT0
   ⟨0x2701C, [], 0x0, 0x0, 0x0, 0x0, .any⟩, -- CLU_SYS_CNT1
   ⟨0x20100, [(0x800, 12)], 0x110201C, 0x0, 0xFFFF01E, 0x0, .cluster⟩, -- CLU_DC_CFG
   ⟨0x20104, [(0x800, 12)], 0x0, 0x0, 0xFFFF003F, 0x0, .cluster⟩, -- CLU_DC_PSRC
   ⟨0x20108, [(0x800, 12)], 0x0, 0x0, 0xFFFF003F, 0x0, .cluster⟩, -- CLU_DC_VSRC
   ⟨0x2010C, [(0x800, 12)], 0x0, 0x0, 0xFFFF, 0x0, .cluster⟩, -- CLU_DC_PHSCALE
   ⟨0x20110, [(0x800, 12)], 0x0, 0x0, 0xFFFF, 0x0, .cluster⟩, -- CLU_DC_ILIM
   ⟨0x20114, [(0x800, 12)], 0xD064032, 0x0, 0xFFFFFFFF, 0x0, .cluster⟩, -- CLU_DC_PLAUS
   ⟨0x20118, [(0x800, 12)], 0x320014, 0x0, 0xFFFFFFFF, 0x0, .cluster⟩, -- CLU_DC_DWELL
   ⟨0x2011C, [(0x800, 12)], 0x641F414, 0x0, 0xFFFFFFFF, 0x0, .cluster⟩, -- CLU_DC_SS
   ⟨0x20120, [(0x800, 12), (0x4, 8)], 0x0, 0x0, 0xFFFFFFFF, 0x0, .cluster⟩ -- CLU_DC_SHED
  ]
/-- Rows of the CLU block, part 3. -/
def rowsCLU3 : List RegRow :=
  [⟨0x20140, [(0x800, 12)], 0xC800C8, 0x0, 0xFFFFFFFF, 0x0, .cluster⟩, -- CLU_DC_OPEN
   ⟨0x20144, [(0x800, 12)], 0x0, 0x0, 0x0, 0x0, .cluster⟩, -- CLU_DC_SSTGT
   ⟨0x20148, [(0x800, 12)], 0x0, 0x0, 0x0, 0x0, .cluster⟩, -- CLU_DC_CMD
   ⟨0x2014C, [(0x800, 12)], 0x0, 0x0, 0x0, 0x0, .cluster⟩, -- CLU_DC_STAT
   ⟨0x20150, [(0x800, 12)], 0x0, 0x0, 0x0, 0x3FFF, .cluster⟩, -- CLU_DC_FLAGS
   ⟨0x20154, [(0x800, 12)], 0x0, 0x0, 0x0, 0x0, .cluster⟩, -- CLU_DC_CNT0
   ⟨0x20158, [(0x800, 12)], 0x0, 0x0, 0x0, 0x0, .cluster⟩, -- CLU_DC_CNT1
   ⟨0x2015C, [(0x800, 12)], 0x0, 0x0, 0x0, 0x0, .cluster⟩, -- CLU_DC_CNT2
   ⟨0x20160, [(0x800, 12)], 0x0, 0x0, 0x0, 0x0, .cluster⟩, -- CLU_DC_CNT3
   ⟨0x20164, [(0x800, 12)], 0x0, 0x0, 0x0, 0x0, .cluster⟩, -- CLU_DC_ILIM_EFF
   ⟨0x20168, [(0x800, 12)], 0x0, 0x0, 0x0, 0x0, .cluster⟩, -- CLU_DC_MEAS
   ⟨0x20200, [(0x800, 12)], 0x46401408, 0x0, 0xFFFFFFFF, 0x0, .cluster⟩, -- CLU_PV_MPPT
   ⟨0x20204, [(0x800, 12)], 0x0, 0x0, 0xFFFFFFFF, 0x0, .cluster⟩, -- CLU_PV_LIM
   ⟨0x20208, [(0x800, 12)], 0xF0501F4, 0x0, 0xFFFFFFFF, 0x0, .cluster⟩, -- CLU_PV_SWEEP
   ⟨0x2020C, [(0x800, 12)], 0x0, 0x0, 0x0, 0x0, .cluster⟩, -- CLU_PV_VREF
   ⟨0x20210, [(0x800, 12)], 0x0, 0x0, 0x0, 0x0, .cluster⟩, -- CLU_PV_POWER
   ⟨0x20214, [(0x800, 12)], 0x0, 0x0, 0x0, 0x0, .cluster⟩, -- CLU_PV_SWRES
   ⟨0x20280, [(0x800, 12)], 0x0, 0x0, 0xFFFFFFFF, 0x0, .cluster⟩, -- CLU_DLC_VCFG
   ⟨0x20284, [(0x800, 12)], 0x64, 0x0, 0xFFFF, 0x0, .cluster⟩, -- CLU_DLC_HYS
   ⟨0x20288, [(0x800, 12)], 0x0, 0x0, 0xFFFFFFFF, 0x0, .cluster⟩, -- CLU_DLC_THERM
   ⟨0x2028C, [(0x800, 12)], 0x0, 0xFFFF, 0x0, 0x0, .cluster⟩, -- CLU_DLC_DISCH
   ⟨0x20290, [(0x800, 12)], 0x0, 0x0, 0x0, 0x0, .cluster⟩, -- CLU_DLC_STAT
   ⟨0x20300, [(0x800, 12), (0x4, 64)], 0x0, 0x0, 0x0, 0x0, .cluster⟩ -- CLU_PV_CURVE
  ]
/-- The register rows of the CLU block. -/
def rowsCLU : List RegRow := rowsCLU1 ++ rowsCLU2 ++ rowsCLU3
/-- Rows of the CHG block, part 1. -/
def rowsCHG1 : List RegRow :=
  [⟨0x28000, [(0x100, 12)], 0x0, 0x0, 0xC3FF0000, 0x0, .cluster⟩, -- CHG_CFG
   ⟨0x28004, [(0x100, 12)], 0x0, 0x0, 0xFFFFFFFF, 0x0, .cluster⟩, -- CHG_ICHG
   ⟨0x28008, [(0x100, 12)], 0x640000, 0x0, 0xFFFFFFFF, 0x0, .cluster⟩, -- CHG_VCV
   ⟨0x2800C, [(0x100, 12)], 0x25800258, 0x0, 0xFFF0FFFF, 0x0, .cluster⟩, -- CHG_TIMER
   ⟨0x28010, [(0x100, 12)], 0x140A0A3C, 0x0, 0xFFFFFFFF, 0x0, .cluster⟩, -- CHG_NI
   ⟨0x28014, [(0x100, 12)], 0x2, 0x0, 0xFF, 0x0, .cluster⟩, -- CHG_NI2
   ⟨0x28018, [(0x100, 12)], 0x1F40190, 0x0, 0xFFFFFFFF, 0x0, .cluster⟩, -- CHG_FOLD
   ⟨0x2801C, [(0x100, 12)], 0x1F4, 0x0, 0x71FFFFF, 0x0, .cluster⟩, -- CHG_BMS
   ⟨0x28020, [(0x100, 12)], 0x8184080, 0x0, 0xBFFFFFFF, 0x0, .cluster⟩, -- CHG_BMSMAP0
   ⟨0x28024, [(0x100, 12)], 0x12CA, 0x0, 0x1FFF, 0x0, .cluster⟩, -- CHG_BMSMAP1
   ⟨0x28028, [(0x100, 12)], 0x0, 0x0, 0xFFFFFFFF, 0x0, .cluster⟩, -- CHG_SN
   ⟨0x2802C, [(0x100, 12)], 0xF, 0x0, 0xF, 0x0, .cluster⟩, -- CHG_SNCTL
   ⟨0x28030, [(0x100, 12)], 0x0, 0x0, 0x0, 0x0, .cluster⟩, -- CHG_CMD
   ⟨0x28034, [(0x100, 12)], 0x100, 0x0, 0x0, 0x0, .cluster⟩, -- CHG_STAT
   ⟨0x28038, [(0x100, 12)], 0x0, 0x0, 0x0, 0x3FF, .cluster⟩, -- CHG_FLAGS
   ⟨0x2803C, [(0x100, 12)], 0x0, 0x0, 0x0, 0x0, .cluster⟩, -- CHG_CNT0
   ⟨0x28040, [(0x100, 12)], 0x0, 0x0, 0x0, 0x0, .cluster⟩, -- CHG_CNT1
   ⟨0x28044, [(0x100, 12)], 0x0, 0x0, 0x0, 0x0, .cluster⟩, -- CHG_CNT2
   ⟨0x28048, [(0x100, 12)], 0x0, 0x0, 0x0, 0x0, .cluster⟩, -- CHG_BMSLIM
   ⟨0x2804C, [(0x100, 12)], 0x0, 0x0, 0x0, 0x0, .cluster⟩, -- CHG_BMSV
   ⟨0x28050, [(0x100, 12)], 0x0, 0x0, 0x0, 0x0, .cluster⟩, -- CHG_BOUND
   ⟨0x28054, [(0x100, 12)], 0x0, 0x0, 0x0, 0x0, .cluster⟩, -- CHG_TIME
   ⟨0x28058, [(0x100, 12)], 0x0, 0x0, 0x0, 0x0, .cluster⟩, -- CHG_NIMON
   ⟨0x2805C, [(0x100, 12)], 0x0, 0x0, 0x0, 0x0, .cluster⟩ -- CHG_IREF
  ]
/-- Rows of the CHG block, part 2. -/
def rowsCHG2 : List RegRow :=
  [⟨0x28F00, [], 0x0, 0xFFFFFFFF, 0x0, 0x0, .any⟩, -- CHG_HB
   ⟨0x28F04, [], 0x32, 0x0, 0x3FF, 0x0, .any⟩, -- CHG_SN_CFG
   ⟨0x28F08, [], 0x0, 0x0, 0x0, 0x0, .any⟩, -- CHG_SN_CMD
   ⟨0x28F0C, [], 0x101, 0x0, 0x0, 0x0, .any⟩, -- CHG_SN_STAT
   ⟨0x28F10, [], 0x0, 0x0, 0x0, 0xF, .any⟩, -- CHG_SN_FLAGS
   ⟨0x28F14, [], 0x0, 0x0, 0x0, 0x0, .any⟩ -- CHG_SN_CNT0
  ]
/-- The register rows of the CHG block. -/
def rowsCHG : List RegRow := rowsCHG1 ++ rowsCHG2
/-- Rows of the LDG block, part 1. -/
def rowsLDG1 : List RegRow :=
  [⟨0x2C000, [(0x800, 2)], 0x0, 0x0, 0x8007FFFF, 0x0, .region⟩, -- LDG_CFG
   ⟨0x2C004, [(0x800, 2)], 0x0, 0x0, 0xFFFFFF, 0x0, .region⟩, -- LDG_CLINK
   ⟨0x2C008, [(0x800, 2)], 0x1F4000A, 0x0, 0xFFFFFFFF, 0x0, .region⟩, -- LDG_RESTH
   ⟨0x2C00C, [(0x800, 2)], 0x0, 0x0, 0x0, 0x0, .region⟩, -- LDG_STAT
   ⟨0x2C010, [(0x800, 2)], 0x0, 0x0, 0x0, 0x0, .region⟩, -- LDG_IVL_LO
   ⟨0x2C014, [(0x800, 2)], 0x0, 0x0, 0x0, 0x0, .region⟩, -- LDG_IVL_HI
   ⟨0x2C018, [(0x800, 2)], 0x0, 0x0, 0x0, 0x0, .region⟩, -- LDG_VLINK
   ⟨0x2C01C, [(0x800, 2)], 0x0, 0x0, 0x0, 0xFF, .region⟩, -- LDG_FLAGS
   ⟨0x2C020, [(0x800, 2)], 0x0, 0x0, 0x0, 0x0, .region⟩, -- LDG_CNT0
   ⟨0x2C024, [(0x800, 2)], 0x0, 0x0, 0x0, 0x0, .region⟩, -- LDG_CNT1
   ⟨0x2C028, [(0x800, 2)], 0x0, 0x0, 0x0, 0x0, .region⟩, -- LDG_RES_Q
   ⟨0x2C02C, [(0x800, 2)], 0x0, 0x0, 0x0, 0x0, .region⟩, -- LDG_RES_E
   ⟨0x2C100, [(0x800, 2), (0x40, 12)], 0x0, 0x0, 0x80170F07, 0x0, .region⟩, -- LDG_A_CFG
   ⟨0x2C104, [(0x800, 2), (0x40, 12)], 0x0, 0x0, 0xFFFFFFFF, 0x0, .region⟩, -- LDG_A_SCALE
   ⟨0x2C108, [(0x800, 2), (0x40, 12)], 0x0, 0x0, 0xFFFF, 0x0, .region⟩, -- LDG_A_RATED
   ⟨0x2C10C, [(0x800, 2), (0x40, 12)], 0x0, 0x0, 0x0, 0x0, .region⟩, -- LDG_A_ILAST
   ⟨0x2C110, [(0x800, 2), (0x40, 12)], 0x0, 0x0, 0x0, 0x0, .region⟩, -- LDG_A_INQ_LO
   ⟨0x2C114, [(0x800, 2), (0x40, 12)], 0x0, 0x0, 0x0, 0x0, .region⟩, -- LDG_A_INQ_MID
   ⟨0x2C118, [(0x800, 2), (0x40, 12)], 0x0, 0x0, 0x0, 0x0, .region⟩, -- LDG_A_INQ_HI
   ⟨0x2C11C, [(0x800, 2), (0x40, 12)], 0x0, 0x0, 0x0, 0x0, .region⟩, -- LDG_A_OUTQ_LO
   ⟨0x2C120, [(0x800, 2), (0x40, 12)], 0x0, 0x0, 0x0, 0x0, .region⟩, -- LDG_A_OUTQ_MID
   ⟨0x2C124, [(0x800, 2), (0x40, 12)], 0x0, 0x0, 0x0, 0x0, .region⟩, -- LDG_A_OUTQ_HI
   ⟨0x2C128, [(0x800, 2), (0x40, 12)], 0x0, 0x0, 0x0, 0x0, .region⟩, -- LDG_A_INE_LO
   ⟨0x2C12C, [(0x800, 2), (0x40, 12)], 0x0, 0x0, 0x0, 0x0, .region⟩ -- LDG_A_INE_MID
  ]
/-- Rows of the LDG block, part 2. -/
def rowsLDG2 : List RegRow :=
  [⟨0x2C130, [(0x800, 2), (0x40, 12)], 0x0, 0x0, 0x0, 0x0, .region⟩, -- LDG_A_INE_HI
   ⟨0x2C134, [(0x800, 2), (0x40, 12)], 0x0, 0x0, 0x0, 0x0, .region⟩, -- LDG_A_OUTE_LO
   ⟨0x2C138, [(0x800, 2), (0x40, 12)], 0x0, 0x0, 0x0, 0x0, .region⟩, -- LDG_A_OUTE_MID
   ⟨0x2C13C, [(0x800, 2), (0x40, 12)], 0x0, 0x0, 0x0, 0x0, .region⟩, -- LDG_A_OUTE_HI
   ⟨0x2C410, [(0x800, 2)], 0x0, 0x0, 0x0, 0x0, .region⟩, -- LDG_R_INQ_LO
   ⟨0x2C414, [(0x800, 2)], 0x0, 0x0, 0x0, 0x0, .region⟩, -- LDG_R_INQ_MID
   ⟨0x2C418, [(0x800, 2)], 0x0, 0x0, 0x0, 0x0, .region⟩, -- LDG_R_INQ_HI
   ⟨0x2C41C, [(0x800, 2)], 0x0, 0x0, 0x0, 0x0, .region⟩, -- LDG_R_OUTQ_LO
   ⟨0x2C420, [(0x800, 2)], 0x0, 0x0, 0x0, 0x0, .region⟩, -- LDG_R_OUTQ_MID
   ⟨0x2C424, [(0x800, 2)], 0x0, 0x0, 0x0, 0x0, .region⟩, -- LDG_R_OUTQ_HI
   ⟨0x2C428, [(0x800, 2)], 0x0, 0x0, 0x0, 0x0, .region⟩, -- LDG_R_INE_LO
   ⟨0x2C42C, [(0x800, 2)], 0x0, 0x0, 0x0, 0x0, .region⟩, -- LDG_R_INE_MID
   ⟨0x2C430, [(0x800, 2)], 0x0, 0x0, 0x0, 0x0, .region⟩, -- LDG_R_INE_HI
   ⟨0x2C434, [(0x800, 2)], 0x0, 0x0, 0x0, 0x0, .region⟩, -- LDG_R_OUTE_LO
   ⟨0x2C438, [(0x800, 2)], 0x0, 0x0, 0x0, 0x0, .region⟩, -- LDG_R_OUTE_MID
   ⟨0x2C43C, [(0x800, 2)], 0x0, 0x0, 0x0, 0x0, .region⟩ -- LDG_R_OUTE_HI
  ]
/-- The register rows of the LDG block. -/
def rowsLDG : List RegRow := rowsLDG1 ++ rowsLDG2
/-- Rows of the MEAS block, part 1. -/
def rowsMEAS1 : List RegRow :=
  [⟨0x30000, [], 0x0, 0x0, 0x1, 0x0, .any⟩, -- MEAS_CTRL
   ⟨0x30004, [], 0x0, 0x0, 0x0, 0x0, .any⟩, -- MEAS_STAT
   ⟨0x30008, [], 0x0, 0x0, 0x0, 0xFF, .any⟩, -- MEAS_FLAGS
   ⟨0x3000C, [], 0x0, 0x0, 0x0, 0x0, .any⟩, -- MEAS_CNT0
   ⟨0x30010, [], 0x0, 0x0, 0x0, 0x0, .any⟩, -- MEAS_CNT1
   ⟨0x30014, [], 0x0, 0x0, 0x0, 0x0, .any⟩, -- MEAS_CMD
   ⟨0x30018, [], 0x0, 0x0, 0x0, 0x0, .any⟩, -- MEAS_INVAL_SAR0
   ⟨0x3001C, [], 0x0, 0x0, 0x0, 0x0, .any⟩, -- MEAS_INVAL_SAR1
   ⟨0x30020, [], 0x0, 0x0, 0x0, 0x0, .any⟩, -- MEAS_INVAL_MOD
   ⟨0x30024, [], 0x0, 0x0, 0x0, 0x0, .any⟩, -- MEAS_CALSEQ
   ⟨0x30030, [(0x4, 4)], 0x10, 0x0, 0x13F3F, 0x0, .any⟩, -- MEAS_MCLK
   ⟨0x30100, [(0x10, 8)], 0x0, 0x0, 0xFFFF, 0x0, .any⟩, -- MEAS_SAR_MASK
   ⟨0x30104, [(0x10, 8)], 0x1, 0x0, 0x0, 0x0, .any⟩, -- MEAS_SAR_STAT
   ⟨0x30200, [(0x10, 4)], 0x8000010, 0x0, 0xFF0003FF, 0x0, .any⟩, -- MEAS_XC_CFG
   ⟨0x30204, [(0x10, 4)], 0x280000, 0x0, 0x0, 0x0, .any⟩, -- MEAS_XC_STAT
   ⟨0x30208, [(0x10, 4)], 0x0, 0x0, 0x0, 0x0, .any⟩, -- MEAS_XC_CODES
   ⟨0x30400, [(0x10, 64)], 0x0, 0x0, 0xFFF, 0x0, .any⟩, -- MEAS_IN_CFG
   ⟨0x30404, [(0x10, 64)], 0x0, 0x0, 0xFFFFFFFF, 0x0, .any⟩, -- MEAS_IN_UCAL
   ⟨0x30408, [(0x10, 64)], 0x0, 0x0, 0x0, 0x0, .any⟩, -- MEAS_IN_LAST
   ⟨0x30800, [(0x20, 24)], 0x4400040, 0x0, 0x9FFF01FF, 0x0, .any⟩, -- MEAS_MOD_CFG
   ⟨0x30804, [(0x20, 24)], 0xCCD, 0x0, 0xFFF, 0x0, .any⟩, -- MEAS_MOD_FSD
   ⟨0x30808, [(0x20, 24)], 0x0, 0x0, 0xFFFF, 0x0, .any⟩, -- MEAS_MOD_ADJ
   ⟨0x3080C, [(0x20, 24)], 0x0, 0x0, 0xFFFFFFFF, 0x0, .any⟩, -- MEAS_MOD_UCAL
   ⟨0x30810, [(0x20, 24)], 0x0, 0x0, 0x0, 0x0, .any⟩ -- MEAS_MOD_LAST
  ]
/-- Rows of the MEAS block, part 2. -/
def rowsMEAS2 : List RegRow :=
  [⟨0x30C00, [(0x10, 8)], 0x0, 0x0, 0x80000003, 0x0, .any⟩, -- MEAS_PM_CFG
   ⟨0x30C04, [(0x10, 8)], 0x0, 0x0, 0xFFFFFFFF, 0x0, .any⟩, -- MEAS_PM_UCAL
   ⟨0x30C08, [(0x10, 8)], 0x0, 0x0, 0x0, 0x0, .any⟩ -- MEAS_PM_LAST
  ]
/-- The register rows of the MEAS block. -/
def rowsMEAS : List RegRow := rowsMEAS1 ++ rowsMEAS2
/-- Rows of the AUX block, part 1. -/
def rowsAUX1 : List RegRow :=
  [⟨0x3C000, [(0x100, 4)], 0x30000, 0x80000000, 0x6F030100, 0x0, .any⟩, -- SVR_CTRL
   ⟨0x3C004, [(0x100, 4)], 0x1F4, 0x0, 0x7FF, 0x0, .any⟩, -- SVR_FSW
   ⟨0x3C008, [(0x100, 4)], 0xA000000, 0x0, 0xFF000FFF, 0x0, .any⟩, -- SVR_VREF
   ⟨0x3C00C, [(0x100, 4)], 0x0, 0x0, 0xFFFFFFFF, 0x0, .any⟩, -- SVR_LOOP
   ⟨0x3C010, [(0x100, 4)], 0x0, 0x0, 0xFFFF00FF, 0x0, .any⟩, -- SVR_ILIM
   ⟨0x3C014, [(0x100, 4)], 0x7300063, 0x0, 0x3FF001FF, 0x0, .any⟩, -- SVR_HICCUP
   ⟨0x3C018, [(0x100, 4)], 0xF, 0x0, 0xFF, 0x0, .any⟩, -- SVR_OVP
   ⟨0x3C01C, [(0x100, 4)], 0x0, 0x0, 0xFFFFFF, 0x0, .any⟩, -- SVR_SHED0
   ⟨0x3C020, [(0x100, 4)], 0xA000000, 0x0, 0xFFFFFFFF, 0x0, .any⟩, -- SVR_SHED1
   ⟨0x3C024, [(0x100, 4)], 0x0, 0x0, 0x0, 0x0, .any⟩, -- SVR_STAT
   ⟨0x3C028, [(0x100, 4)], 0x0, 0x0, 0x0, 0x1FF, .any⟩, -- SVR_FLAGS
   ⟨0x3C02C, [(0x100, 4)], 0x0, 0x0, 0x0, 0x0, .any⟩, -- SVR_CNT0
   ⟨0x3C030, [(0x100, 4)], 0x0, 0x0, 0x0, 0x0, .any⟩, -- SVR_CNT1
   ⟨0x3C034, [(0x100, 4)], 0x0, 0x0, 0x0, 0x0, .any⟩, -- SVR_MEAS
   ⟨0x3C038, [(0x100, 4)], 0x0, 0x0, 0x0, 0x0, .any⟩, -- SVR_REFCNT
   ⟨0x38000, [(0x100, 4)], 0x0, 0x80000100, 0x40000E03, 0x0, .any⟩, -- AUXD_CTRL
   ⟨0x38004, [(0x100, 4)], 0x282710, 0x0, 0xFFFFFFFF, 0x0, .any⟩, -- AUXD_PWM
   ⟨0x38008, [(0x100, 4)], 0x0, 0xFFFFFFFF, 0x0, 0x0, .any⟩, -- AUXD_DUTYUV
   ⟨0x3800C, [(0x100, 4)], 0x0, 0xFFFF, 0x0, 0x0, .any⟩, -- AUXD_DUTYW
   ⟨0x38010, [(0x100, 4)], 0x0, 0x0, 0xFFFFFFFF, 0x0, .any⟩, -- AUXD_ILIM
   ⟨0x38014, [(0x100, 4)], 0x400A, 0x0, 0xFFFF, 0x0, .any⟩, -- AUXD_VM
   ⟨0x38018, [(0x100, 4)], 0x0, 0x0, 0x0, 0x0, .any⟩, -- AUXD_STAT
   ⟨0x3801C, [(0x100, 4)], 0x0, 0x0, 0x0, 0x3F, .any⟩, -- AUXD_FLAGS
   ⟨0x38020, [(0x100, 4)], 0x0, 0x0, 0x0, 0x0, .any⟩ -- AUXD_CNT0
  ]
/-- Rows of the AUX block, part 2. -/
def rowsAUX2 : List RegRow :=
  [⟨0x38024, [(0x100, 4)], 0x0, 0x0, 0x0, 0x0, .any⟩, -- AUXD_CNT1
   ⟨0x38028, [(0x100, 4)], 0x0, 0x0, 0x0, 0x0, .any⟩, -- AUXD_MEAS
   ⟨0x3802C, [(0x100, 4)], 0x0, 0x0, 0x0, 0x0, .any⟩, -- AUXD_BSTCNT
   ⟨0x39000, [(0x100, 4)], 0x0, 0x0, 0x70017, 0x0, .any⟩, -- FB_CFG
   ⟨0x39004, [(0x100, 4)], 0x0, 0x0, 0x0, 0x0, .any⟩, -- FB_POS
   ⟨0x39008, [(0x100, 4)], 0x0, 0x0, 0x0, 0x0, .any⟩, -- FB_STAT
   ⟨0x3900C, [(0x100, 4)], 0x0, 0x0, 0x0, 0x7, .any⟩, -- FB_FLAGS
   ⟨0x39010, [(0x100, 4)], 0x0, 0x0, 0x0, 0x0, .any⟩, -- FB_CNT0
   ⟨0x39014, [(0x100, 4)], 0x0, 0x0, 0x0, 0x0, .any⟩, -- FB_ZPOS
   ⟨0x39018, [(0x100, 4)], 0x0, 0x0, 0x0, 0x0, .any⟩, -- FB_ZTIME
   ⟨0x3901C, [(0x100, 4)], 0x0, 0x0, 0x0, 0x0, .any⟩, -- FB_OPOS
   ⟨0x39020, [(0x100, 4)], 0x0, 0x0, 0x0, 0x0, .any⟩, -- FB_SPEED
   ⟨0x39024, [(0x100, 4)], 0x0, 0x0, 0x0, 0x0, .any⟩, -- FB_ACC
   ⟨0x39028, [(0x100, 4)], 0x0, 0xFFFFFFFF, 0x0, 0x0, .any⟩, -- FB_CMP
   ⟨0x3902C, [(0x100, 4)], 0x0, 0xFFFFFFFF, 0x0, 0x0, .any⟩, -- FB_STEP
   ⟨0x39030, [(0x100, 4)], 0x0, 0x0, 0x0, 0x0, .any⟩, -- FB_CMPTIME
   ⟨0x39034, [(0x100, 4)], 0x0, 0x0, 0x0, 0x0, .any⟩ -- FB_CMPCNT
  ]
/-- The register rows of the AUX block. -/
def rowsAUX : List RegRow := rowsAUX1 ++ rowsAUX2
/-- The register rows of the TRP block. -/
def rowsTRP : List RegRow :=
  [⟨0x40000, [(0x100, 5)], 0x30FA0, 0x0, 0xFFFFF, 0x0, .any⟩, -- TRP_CFG
   ⟨0x40004, [(0x100, 5)], 0x0, 0x0, 0x0, 0x0, .any⟩, -- TRP_STAT
   ⟨0x40008, [(0x100, 5)], 0x0, 0x0, 0x0, 0x0, .any⟩, -- TRP_EPOCH
   ⟨0x4000C, [(0x100, 5)], 0x0, 0x0, 0x0, 0x7FF, .any⟩, -- TRP_FLAGS
   ⟨0x40010, [(0x100, 5)], 0x0, 0x0, 0x0, 0x0, .any⟩, -- TRP_CNT0
   ⟨0x40014, [(0x100, 5)], 0x0, 0x0, 0x0, 0x0, .any⟩, -- TRP_CNT1
   ⟨0x40018, [(0x100, 5)], 0x0, 0x0, 0x0, 0x0, .any⟩, -- TRP_CNT2
   ⟨0x4001C, [(0x100, 5)], 0x0, 0x0, 0x0, 0x0, .any⟩, -- TRP_LASTFENCE
   ⟨0x40020, [(0x100, 5)], 0x0, 0x0, 0x0, 0x0, .any⟩, -- TRP_LASTADDR
   ⟨0x40024, [(0x100, 5)], 0x0, 0x0, 0x0, 0x0, .any⟩, -- TRP_RELCNT_LO
   ⟨0x40028, [(0x100, 5)], 0x0, 0x0, 0x0, 0x0, .any⟩, -- TRP_RELCNT_HI
   ⟨0x4002C, [(0x100, 5)], 0x0, 0x0, 0x0, 0x0, .any⟩, -- TRP_STALECNT
   ⟨0x40030, [(0x100, 5)], 0x0, 0x0, 0x0, 0x0, .any⟩ -- TRP_CMD
  ]
/-- The register rows of the SAFE block. -/
def rowsSAFE : List RegRow :=
  [⟨0x48100, [], 0x0, 0x0, 0x0, 0x0, .any⟩, -- SAFE_PRE0_STAT
   ⟨0x48104, [], 0x0, 0x0, 0x0, 0x0, .region1⟩, -- SAFE_PRE1_STAT
   ⟨0x48000, [], 0x0, 0x0, 0x0, 0x0, .any⟩, -- SAFE_STAT
   ⟨0x48004, [], 0x0, 0x0, 0x0, 0x0, .any⟩, -- SAFE_DEMAND
   ⟨0x48008, [], 0x0, 0x0, 0x0, 0x0, .any⟩, -- SAFE_FLAGS
   ⟨0x4800C, [], 0x0, 0x0, 0x0, 0x0, .any⟩, -- SAFE_CNT0
   ⟨0x48010, [], 0x0, 0x0, 0x0, 0x0, .any⟩, -- SAFE_CNT1
   ⟨0x48014, [], 0x0, 0x0, 0x0, 0x0, .any⟩, -- SAFE_CNT2
   ⟨0x48018, [], 0x0, 0x0, 0x0, 0x0, .any⟩, -- SAFE_CNT3
   ⟨0x48020, [], 0x0, 0x0, 0x0, 0x0, .any⟩, -- SAFE_SI
   ⟨0x48024, [], 0x0, 0x0, 0x0, 0x0, .any⟩, -- SAFE_SIPAIR
   ⟨0x48028, [], 0x0, 0x0, 0x0, 0x0, .any⟩, -- SAFE_SO
   ⟨0x4802C, [], 0x0, 0x0, 0x0, 0x0, .any⟩, -- SAFE_RST
   ⟨0x48030, [], 0x0, 0x0, 0x0, 0x0, .any⟩, -- SAFE_CHK_CALC
   ⟨0x48034, [], 0x0, 0x0, 0x0, 0x0, .any⟩, -- SAFE_CHK_CONF
   ⟨0x48038, [], 0x0, 0x0, 0x0, 0x0, .any⟩, -- SAFE_LINES
   ⟨0x4803C, [], 0x0, 0x0, 0x0, 0x0, .any⟩, -- SAFE_EREM
   ⟨0x48040, [(0x8, 2)], 0x0, 0x0, 0x0, 0x0, .region⟩, -- SAFE_VL
   ⟨0x48060, [], 0x0, 0x0, 0x0, 0x0, .any⟩, -- SAFE_NET
   ⟨0x48400, [(0x4, 64)], 0x0, 0x0, 0x0, 0x0, .any⟩ -- SAFE_PAR
  ]
/-- Rows of the ETH block, part 1. -/
def rowsETH1 : List RegRow :=
  [⟨0x50000, [(0x100, 2)], 0x80010009, 0x0, 0xFFFF000B, 0x0, .any⟩, -- ETH_P_CFG
   ⟨0x50004, [(0x100, 2)], 0x0, 0x0, 0x0, 0x0, .any⟩, -- ETH_P_STAT
   ⟨0x50008, [(0x100, 2)], 0x0, 0x0, 0x0, 0x1F, .any⟩, -- ETH_P_FLAGS
   ⟨0x5000C, [(0x100, 2)], 0x0, 0x0, 0x0, 0x0, .any⟩, -- ETH_P_CNT0
   ⟨0x50010, [(0x100, 2)], 0x0, 0x0, 0x0, 0x0, .any⟩, -- ETH_P_CNT1
   ⟨0x50014, [(0x100, 2)], 0x0, 0x0, 0xFFFFFFFF, 0x0, .any⟩, -- ETH_P_MAC_LO
   ⟨0x50018, [(0x100, 2)], 0x0, 0x0, 0xFFFF, 0x0, .any⟩, -- ETH_P_MAC_HI
   ⟨0x5001C, [(0x100, 2)], 0x0, 0x0, 0xFFFFFFFF, 0x0, .any⟩, -- ETH_P_LAT
   ⟨0x50400, [], 0x0, 0x0, 0x0, 0x0, .any⟩, -- ETH_PTP_STAT
   ⟨0x50404, [], 0x0, 0x0, 0x0, 0x0, .any⟩, -- ETH_PTP_SEC_LO
   ⟨0x50408, [], 0x0, 0x0, 0x0, 0x0, .any⟩, -- ETH_PTP_SEC_HI
   ⟨0x5040C, [], 0x0, 0x0, 0x0, 0x0, .any⟩, -- ETH_PTP_NS
   ⟨0x50410, [], 0x0, 0x0, 0x0, 0x0, .any⟩, -- ETH_PTP_OFFSET
   ⟨0x50414, [], 0x0, 0x0, 0x0, 0x7, .any⟩, -- ETH_PTP_FLAGS
   ⟨0x50418, [], 0x0, 0x0, 0x0, 0x0, .any⟩, -- ETH_PTP_CNT0
   ⟨0x50800, [], 0x88B57000, 0x0, 0xFFFF7FFF, 0x0, .any⟩, -- ETH_SNL_CFG
   ⟨0x50804, [], 0x0, 0x0, 0xFFFFFFFF, 0x0, .any⟩, -- ETH_SNL_RXCID
   ⟨0x50808, [], 0x0, 0x0, 0xFFFFFFFF, 0x0, .any⟩, -- ETH_SNL_TXCID
   ⟨0x5080C, [], 0x0, 0x0, 0xFFFFFFFF, 0x0, .any⟩, -- ETH_SNL_PEER_LO
   ⟨0x50810, [], 0x0, 0x0, 0xFFFF, 0x0, .any⟩, -- ETH_SNL_PEER_HI
   ⟨0x50814, [], 0xA830064, 0x0, 0xFFFFFFFF, 0x0, .any⟩, -- ETH_SNL_TIMING
   ⟨0x50818, [], 0x3, 0x0, 0x0, 0x0, .any⟩, -- ETH_SNL_STAT
   ⟨0x5081C, [], 0x0, 0x0, 0x0, 0x3FF, .any⟩, -- ETH_SNL_FLAGS
   ⟨0x50820, [], 0x0, 0x0, 0x0, 0x0, .any⟩ -- ETH_SNL_CNT0
  ]
/-- Rows of the ETH block, part 2. -/
def rowsETH2 : List RegRow :=
  [⟨0x50824, [], 0x0, 0x0, 0x0, 0x0, .any⟩, -- ETH_SNL_CNT1
   ⟨0x50828, [], 0x0, 0x0, 0x0, 0x0, .any⟩, -- ETH_SNL_CNT2
   ⟨0x5082C, [], 0x0, 0x0, 0x0, 0x0, .any⟩, -- ETH_SNL_LASTSEQ
   ⟨0x50830, [], 0x0, 0x0, 0x0, 0x0, .any⟩ -- ETH_SNL_AGE
  ]
/-- The register rows of the ETH block. -/
def rowsETH : List RegRow := rowsETH1 ++ rowsETH2
/-- Rows of the CAN block, part 1. -/
def rowsCAN1 : List RegRow :=
  [⟨0x58000, [(0x1000, 6)], 0x40000300, 0x80000000, 0x7F0F0F00, 0x0, .any⟩, -- CAN_CTRL
   ⟨0x58004, [(0x1000, 6)], 0x13E0F0F, 0x0, 0xFFFF7F7F, 0x0, .any⟩, -- CAN_NBT
   ⟨0x58008, [(0x1000, 6)], 0x10E0303, 0x0, 0x1F1F0F0F, 0x0, .any⟩, -- CAN_DBT
   ⟨0x5800C, [(0x1000, 6)], 0x80000020, 0x0, 0x8000007F, 0x0, .any⟩, -- CAN_TDC
   ⟨0x58010, [(0x1000, 6)], 0x0, 0x0, 0x0, 0x0, .any⟩, -- CAN_STAT
   ⟨0x58014, [(0x1000, 6)], 0x0, 0x0, 0x0, 0xFFFF, .any⟩, -- CAN_FLAGS
   ⟨0x58018, [(0x1000, 6)], 0x0, 0x0, 0x0, 0x0, .any⟩, -- CAN_CNT0
   ⟨0x5801C, [(0x1000, 6)], 0x0, 0x0, 0x0, 0x0, .any⟩, -- CAN_CNT1
   ⟨0x58020, [(0x1000, 6)], 0x0, 0x0, 0x0, 0x0, .any⟩, -- CAN_CNT2
   ⟨0x58024, [(0x1000, 6)], 0x0, 0x0, 0x0, 0x0, .any⟩, -- CAN_CNT3
   ⟨0x58028, [(0x1000, 6)], 0x0, 0x0, 0x0, 0x0, .any⟩, -- CAN_ERRCNT
   ⟨0x5802C, [(0x1000, 6)], 0x0, 0x0, 0x0, 0x0, .any⟩, -- CAN_TDCV
   ⟨0x58030, [(0x1000, 6)], 0x0, 0x0, 0x0, 0x0, .any⟩, -- CAN_CMD
   ⟨0x58034, [(0x1000, 6)], 0x0, 0x0, 0xF, 0x0, .any⟩, -- CAN_TXRING
   ⟨0x58038, [(0x1000, 6)], 0x0, 0x0, 0x1FFFFFF0, 0x0, .any⟩, -- CAN_RXR_BASE
   ⟨0x5803C, [(0x1000, 6)], 0x8, 0x0, 0x1F, 0x0, .any⟩, -- CAN_RXR_CFG
   ⟨0x58040, [(0x1000, 6)], 0x0, 0x0, 0x0, 0x0, .any⟩, -- CAN_RXR_WR
   ⟨0x58044, [(0x1000, 6)], 0x0, 0xFFFF, 0x0, 0x0, .any⟩, -- CAN_RXR_RD
   ⟨0x58048, [(0x1000, 6)], 0x0, 0x0, 0x3FFFFFFF, 0x0, .any⟩, -- CAN_WAKE_ID
   ⟨0x5804C, [(0x1000, 6)], 0x0, 0x0, 0x3FFFFFFF, 0x0, .any⟩, -- CAN_WAKE_IDM
   ⟨0x58050, [(0x1000, 6)], 0x0, 0x0, 0xFFFFFFFF, 0x0, .any⟩, -- CAN_WAKE_D0
   ⟨0x58054, [(0x1000, 6)], 0x0, 0x0, 0xFFFFFFFF, 0x0, .any⟩, -- CAN_WAKE_D1
   ⟨0x58058, [(0x1000, 6)], 0x0, 0x0, 0xFFFFFFFF, 0x0, .any⟩, -- CAN_WAKE_DM0
   ⟨0x5805C, [(0x1000, 6)], 0x0, 0x0, 0xFFFFFFFF, 0x0, .any⟩ -- CAN_WAKE_DM1
  ]
/-- Rows of the CAN block, part 2. -/
def rowsCAN2 : List RegRow :=
  [⟨0x58060, [(0x1000, 6)], 0x0, 0x0, 0x0, 0x0, .any⟩, -- CAN_COLLID
   ⟨0x58100, [(0x1000, 6), (0x80, 3)], 0x0, 0xFFFFFFFF, 0x0, 0x0, .any⟩, -- CAN_TB_ID
   ⟨0x58104, [(0x1000, 6), (0x80, 3)], 0x0, 0x1F, 0x0, 0x0, .any⟩, -- CAN_TB_CTL
   ⟨0x58108, [(0x1000, 6), (0x80, 3)], 0x0, 0x0, 0x0, 0x0, .any⟩, -- CAN_TB_STAT
   ⟨0x58110, [(0x1000, 6), (0x80, 3), (0x4, 16)], 0x0, 0xFFFFFFFF, 0x0, 0x0, .any⟩, -- CAN_TB_DATA
   ⟨0x58400, [(0x1000, 6), (0x10, 32)], 0x0, 0x0, 0x3FFFFFFF, 0x0, .any⟩, -- CAN_FID
   ⟨0x58404, [(0x1000, 6), (0x10, 32)], 0x0, 0x0, 0x3FFFFFFF, 0x0, .any⟩, -- CAN_FMASK
   ⟨0x58408, [(0x1000, 6), (0x10, 32)], 0x0, 0x0, 0x80000003, 0x0, .any⟩, -- CAN_FCFG
   ⟨0x5840C, [(0x1000, 6), (0x10, 32)], 0x0, 0x0, 0x0, 0x0, .any⟩, -- CAN_FSTAT
   ⟨0x58600, [(0x1000, 6), (0x50, 32), (0x4, 20)], 0x0, 0x0, 0x0, 0x0, .any⟩ -- CAN_SLOT
  ]
/-- The register rows of the CAN block. -/
def rowsCAN : List RegRow := rowsCAN1 ++ rowsCAN2
/-- Rows of the HIF block, part 1. -/
def rowsHIF1 : List RegRow :=
  [⟨0x60000, [], 0x80640000, 0x83FF0000, 0x0, 0x0, .any⟩, -- HIF_CTRL
   ⟨0x60004, [], 0x0, 0x0, 0x0, 0x0, .any⟩, -- HIF_STAT
   ⟨0x60008, [], 0x0, 0x0, 0x0, 0xFF, .any⟩, -- HIF_FLAGS
   ⟨0x6000C, [], 0x0, 0x0, 0x0, 0x0, .any⟩, -- HIF_CNT0
   ⟨0x60010, [], 0x0, 0x0, 0x0, 0x0, .any⟩, -- HIF_CNT1
   ⟨0x60014, [], 0x0, 0x0, 0x0, 0x0, .any⟩, -- HIF_EPOCH
   ⟨0x60018, [], 0x0, 0xFFFFF000, 0x0, 0x0, .any⟩, -- HIF_DB_BASE_LO
   ⟨0x6001C, [], 0x0, 0xFFFFFFFF, 0x0, 0x0, .any⟩, -- HIF_DB_BASE_HI
   ⟨0x60020, [], 0x0, 0xFFFFF000, 0x0, 0x0, .any⟩, -- HIF_WB_BASE_LO
   ⟨0x60024, [], 0x0, 0xFFFFFFFF, 0x0, 0x0, .any⟩, -- HIF_WB_BASE_HI
   ⟨0x60028, [], 0x0, 0x1FFFF000, 0x0, 0x0, .any⟩, -- HIF_SHM_BASE
   ⟨0x6002C, [], 0x0, 0x1FFFF000, 0x0, 0x0, .any⟩, -- HIF_SHM_SIZE
   ⟨0x60030, [], 0x0, 0x0, 0x0, 0x0, .any⟩, -- HIF_ERRRING
   ⟨0x60100, [(0x20, 32)], 0x0, 0xFFFFF000, 0x0, 0x0, .any⟩, -- HIF_RING_BASE_LO
   ⟨0x60104, [(0x20, 32)], 0x0, 0xFFFFFFFF, 0x0, 0x0, .any⟩, -- HIF_RING_BASE_HI
   ⟨0x60108, [(0x20, 32)], 0x4, 0x830F011F, 0x0, 0x0, .any⟩, -- HIF_RING_CFG
   ⟨0x6010C, [(0x20, 32)], 0x10000, 0xBFFF03FF, 0x0, 0x0, .any⟩, -- HIF_RING_IRQ
   ⟨0x60110, [(0x20, 32)], 0x0, 0x0, 0x0, 0x0, .any⟩, -- HIF_RING_DEVIDX
   ⟨0x60114, [(0x20, 32)], 0x0, 0x0, 0x0, 0x0, .any⟩, -- HIF_RING_HOSTIDX
   ⟨0x60118, [(0x20, 32)], 0x0, 0x0, 0x0, 0x0, .any⟩, -- HIF_RING_DONE
   ⟨0x6011C, [(0x20, 32)], 0x0, 0x0, 0x0, 0x0, .any⟩, -- HIF_RING_STAT
   ⟨0x60800, [(0x40, 4)], 0x0, 0xFFFFFFFF, 0x0, 0x0, .any⟩, -- HIF_CAP_SAR0
   ⟨0x60804, [(0x40, 4)], 0x0, 0xFFFFFFFF, 0x0, 0x0, .any⟩, -- HIF_CAP_SAR1
   ⟨0x60808, [(0x40, 4)], 0x0, 0xFFFFFF, 0x0, 0x0, .any⟩ -- HIF_CAP_MOD
  ]
/-- Rows of the HIF block, part 2. -/
def rowsHIF2 : List RegRow :=
  [⟨0x6080C, [(0x40, 4)], 0x0, 0xF00FF, 0x0, 0x0, .any⟩, -- HIF_CAP_PMFB
   ⟨0x60810, [(0x40, 4)], 0x0, 0xFFFFFF, 0x0, 0x0, .any⟩, -- HIF_CAP_EREP
   ⟨0x60814, [(0x40, 4)], 0x0, 0xFFFFFF, 0x0, 0x0, .any⟩, -- HIF_CAP_EST
   ⟨0x60818, [(0x40, 4)], 0x640000, 0x3FF0007, 0x0, 0x0, .any⟩, -- HIF_CAP_CFG
   ⟨0x6081C, [(0x40, 4)], 0x0, 0x0, 0x0, 0x0, .any⟩ -- HIF_CAP_RATE
  ]
/-- The register rows of the HIF block. -/
def rowsHIF : List RegRow := rowsHIF1 ++ rowsHIF2
/-- The register rows of the MBX block. -/
def rowsMBX : List RegRow :=
  [⟨0x68000, [(0x10, 8)], 0x0, 0x0, 0x80770000, 0x0, .any⟩, -- MBX_CH_CFG
   ⟨0x68080, [(0x10, 8)], 0x0, 0x0, 0x0, 0x0, .any⟩, -- MBX_CH_CFG_SEC
   ⟨0x68004, [(0x10, 16)], 0x3E800C8, 0x0, 0xFFFFFFFF, 0x0, .any⟩, -- MBX_CH_TO
   ⟨0x68008, [(0x10, 16)], 0x0, 0x0, 0x0, 0x0, .any⟩, -- MBX_CH_STAT
   ⟨0x68100, [(0x4, 7)], 0x0, 0x0, 0x0, 0x0, .any⟩, -- MBX_EPOCH
   ⟨0x68120, [], 0x0, 0x0, 0x0, 0x0, .any⟩, -- MBX_RXPEND
   ⟨0x68124, [], 0x0, 0x0, 0x0, 0x0, .any⟩, -- MBX_LAST
   ⟨0x68128, [], 0x0, 0x0, 0x0, 0x1FFF, .any⟩, -- MBX_FLAGS
   ⟨0x6812C, [], 0x0, 0x0, 0x0, 0x0, .any⟩, -- MBX_CNT0
   ⟨0x68130, [], 0x0, 0x0, 0x0, 0x0, .any⟩, -- MBX_CNT1
   ⟨0x68134, [], 0x0, 0x0, 0x0, 0x0, .any⟩, -- MBX_CNT2
   ⟨0x68138, [], 0x0, 0x0, 0x0, 0x0, .any⟩ -- MBX_CNT3
  ]
/-- Rows of the REC block, part 1. -/
def rowsREC1 : List RegRow :=
  [⟨0x70000, [], 0x3C0050, 0x3FF00FF, 0x0, 0x0, .any⟩, -- REC_CTRL
   ⟨0x70004, [], 0x0, 0x0, 0x0, 0x0, .any⟩, -- REC_CMD
   ⟨0x70008, [], 0x0, 0x0, 0x0, 0x0, .any⟩, -- REC_STAT
   ⟨0x7000C, [], 0x0, 0x0, 0x0, 0x3FF, .any⟩, -- REC_FLAGS
   ⟨0x70010, [], 0x0, 0x0, 0x0, 0x0, .any⟩, -- REC_CNT0
   ⟨0x70014, [], 0x0, 0x0, 0x0, 0x0, .any⟩, -- REC_CNT1
   ⟨0x70018, [], 0x0, 0x0, 0x0, 0x0, .any⟩, -- REC_CNT2
   ⟨0x70020, [], 0x0, 0x0, 0x0, 0x0, .any⟩, -- REC_SEQ_LO
   ⟨0x70024, [], 0x0, 0x0, 0x0, 0x0, .any⟩, -- REC_SEQ_HI
   ⟨0x70028, [], 0x0, 0x0, 0x0, 0x0, .any⟩, -- REC_OLDEST_LO
   ⟨0x7002C, [], 0x0, 0x0, 0x0, 0x0, .any⟩, -- REC_OLDEST_HI
   ⟨0x70030, [], 0x0, 0x0, 0x0, 0x0, .any⟩, -- REC_SUPPTOT
   ⟨0x70034, [], 0x0, 0x0, 0x0, 0x0, .any⟩, -- REC_SYSSUPP
   ⟨0x70040, [(0x4, 5)], 0x0, 0x0, 0x0, 0x0, .any⟩, -- REC_WEAR
   ⟨0x70060, [], 0x0, 0x3, 0x0, 0x0, .any⟩, -- REC_RD_LOG
   ⟨0x70064, [], 0x0, 0xFFFFFFFF, 0x0, 0x0, .any⟩, -- REC_RD_FIRST_LO
   ⟨0x70068, [], 0x0, 0xFFFFFFFF, 0x0, 0x0, .any⟩, -- REC_RD_FIRST_HI
   ⟨0x7006C, [], 0x0, 0x1FFFFFC0, 0x0, 0x0, .any⟩, -- REC_RD_BUF
   ⟨0x70070, [], 0x40, 0xFFFF, 0x0, 0x0, .any⟩, -- REC_RD_MAX
   ⟨0x70074, [], 0x0, 0x0, 0x0, 0x0, .any⟩, -- REC_RD_RES
   ⟨0x70078, [], 0x0, 0x0, 0x0, 0x0, .any⟩, -- REC_RD_LAST_LO
   ⟨0x7007C, [], 0x0, 0x0, 0x0, 0x0, .any⟩, -- REC_RD_LAST_HI
   ⟨0x70100, [], 0x0, 0x1FFFF000, 0x0, 0x0, .any⟩, -- REC_CAP_BASE
   ⟨0x70104, [], 0x0, 0x1FFFF000, 0x0, 0x0, .any⟩ -- REC_CAP_SIZE
  ]
/-- Rows of the REC block, part 2. -/
def rowsREC2 : List RegRow :=
  [⟨0x70108, [], 0x640064, 0xFFFFFFFF, 0x0, 0x0, .any⟩, -- REC_CAP_WIN
   ⟨0x7010C, [], 0x0, 0x0, 0x0, 0x0, .any⟩, -- REC_CAP_RATE
   ⟨0x70110, [], 0x0, 0xFFFFFFFF, 0x0, 0x0, .any⟩, -- REC_CAP_SAR0
   ⟨0x70114, [], 0x0, 0xFFFFFFFF, 0x0, 0x0, .any⟩, -- REC_CAP_SAR1
   ⟨0x70118, [], 0x0, 0xFFFFFF, 0x0, 0x0, .any⟩, -- REC_CAP_MOD
   ⟨0x7011C, [], 0x0, 0xF00FF, 0x0, 0x0, .any⟩, -- REC_CAP_PMFB
   ⟨0x70120, [], 0x0, 0xFFFFFF, 0x0, 0x0, .any⟩, -- REC_CAP_EREP
   ⟨0x70124, [], 0x0, 0xFFFFFF, 0x0, 0x0, .any⟩, -- REC_CAP_EST
   ⟨0x70130, [], 0x0, 0x0, 0x0, 0x0, .any⟩, -- REC_CAP_FIRST
   ⟨0x70134, [], 0x0, 0x0, 0x0, 0x0, .any⟩, -- REC_CAP_TRIG
   ⟨0x70138, [], 0x0, 0x0, 0x0, 0x0, .any⟩, -- REC_CAP_END
   ⟨0x7013C, [], 0x0, 0x0, 0x0, 0x0, .any⟩, -- REC_CAP_PREACT
   ⟨0x70200, [(0x10, 32)], 0x0, 0xF3FF0003, 0x0, 0x0, .any⟩, -- REC_P_CFG
   ⟨0x70204, [(0x10, 32)], 0x0, 0xFFFFF, 0x0, 0x0, .any⟩, -- REC_P_SRC
   ⟨0x70208, [(0x10, 32)], 0x0, 0xFFFFFFFF, 0x0, 0x0, .any⟩, -- REC_P_LEVEL
   ⟨0x7020C, [(0x10, 32)], 0x0, 0x0, 0x0, 0x0, .any⟩, -- REC_P_SUPP
   ⟨0x70400, [(0x100, 4), (0x4, 64)], 0x0, 0x800FFFFF, 0x0, 0x0, .any⟩ -- REC_SL
  ]
/-- The register rows of the REC block. -/
def rowsREC : List RegRow := rowsREC1 ++ rowsREC2
/-- The register rows of the DBG block. -/
def rowsDBG : List RegRow :=
  [⟨0x78000, [], 0x0, 0x0, 0x0, 0x0, .any⟩, -- DBG_CMD
   ⟨0x78004, [], 0x0, 0x0, 0x0, 0x0, .any⟩, -- DBG_STAT
   ⟨0x78008, [], 0x0, 0x0, 0x0, 0x7, .any⟩, -- DBG_FLAGS
   ⟨0x7800C, [], 0x0, 0x0, 0x0, 0x0, .any⟩, -- DBG_CNT0
   ⟨0x78100, [(0x4, 24)], 0x0, 0x0, 0xFFFF, 0x0, .slot⟩ -- DBG_TRIP
  ]
/-- The register rows of the MSIX block. -/
def rowsMSIX : List RegRow :=
  [⟨0xFE000, [(0x10, 64)], 0x0, 0xFFFFFFFC, 0x0, 0x0, .any⟩, -- MSIX_ADDR_LO
   ⟨0xFE004, [(0x10, 64)], 0x0, 0xFFFFFFFF, 0x0, 0x0, .any⟩, -- MSIX_ADDR_HI
   ⟨0xFE008, [(0x10, 64)], 0x0, 0xFFFFFFFF, 0x0, 0x0, .any⟩, -- MSIX_DATA
   ⟨0xFE00C, [(0x10, 64)], 0x1, 0x1, 0x0, 0x0, .any⟩, -- MSIX_CTRL
   ⟨0xFF000, [(0x4, 2)], 0x0, 0x0, 0x0, 0x0, .any⟩ -- MSIX_PBA
  ]

end RegTable

/-- The rows of the block that an offset lies in (R445). -/
def Reg.blockRows (a : Nat) : List RegRow :=
  if Nat.blt a 0x1000 then RegTable.rowsGLB
  else if Nat.blt a 0x2000 then RegTable.rowsCTU
  else if Nat.blt a 0x3000 then RegTable.rowsPWR
  else if Nat.blt a 0x4000 then RegTable.rowsTHM
  else if Nat.blt a 0x10000 then RegTable.rowsCLK
  else if Nat.blt a 0x18000 then RegTable.rowsEDG
  else if Nat.blt a 0x20000 then RegTable.rowsGDV
  else if Nat.blt a 0x28000 then RegTable.rowsCLU
  else if Nat.blt a 0x2C000 then RegTable.rowsCHG
  else if Nat.blt a 0x30000 then RegTable.rowsLDG
  else if Nat.blt a 0x38000 then RegTable.rowsMEAS
  else if Nat.blt a 0x40000 then RegTable.rowsAUX
  else if Nat.blt a 0x48000 then RegTable.rowsTRP
  else if Nat.blt a 0x50000 then RegTable.rowsSAFE
  else if Nat.blt a 0x58000 then RegTable.rowsETH
  else if Nat.blt a 0x60000 then RegTable.rowsCAN
  else if Nat.blt a 0x68000 then RegTable.rowsHIF
  else if Nat.blt a 0x70000 then RegTable.rowsMBX
  else if Nat.blt a 0x78000 then RegTable.rowsREC
  else if Nat.blt a 0x80000 then RegTable.rowsDBG
  else if Nat.blt a 0xFE000 then []
  else if Nat.blt a 0x100000 then RegTable.rowsMSIX else []

/-- The table row of the register at an offset, if the offset names one (R446). -/
def Reg.row (a : Nat) : Option RegRow := (Reg.blockRows a).find? (fun r => r.hit a)

/-- A bit field of a register: its lowest bit and its length. -/
structure Field where
  lo  : Nat
  len : Nat
  deriving DecidableEq, Repr

namespace Fld

/-! CLK_TRm_CFG -/
def CLK_TR_CFG_DIE : Field := ⟨12, 1⟩
def CLK_TR_CFG_CLUSTER : Field := ⟨8, 4⟩
def CLK_TR_CFG_OWNER : Field := ⟨4, 3⟩
def CLK_TR_CFG_CLASS : Field := ⟨2, 2⟩
def CLK_TR_CFG_PERIODIC : Field := ⟨1, 1⟩
def CLK_TR_CFG_EN : Field := ⟨0, 1⟩
/-! CLK_TRm_STAT -/
def CLK_TR_STAT_CFGERR : Field := ⟨26, 1⟩
def CLK_TR_STAT_FAULT : Field := ⟨25, 1⟩
def CLK_TR_STAT_BADWR : Field := ⟨24, 1⟩
def CLK_TR_STAT_ENDED_BY : Field := ⟨18, 1⟩
def CLK_TR_STAT_STATE : Field := ⟨16, 2⟩
def CLK_TR_STAT_SEQ : Field := ⟨0, 16⟩
/-! CLK_TRm_CNT -/
def CLK_TR_CNT_LAST_SLACK : Field := ⟨16, 16⟩
def CLK_TR_CNT_FAULT_CNT : Field := ⟨8, 8⟩
def CLK_TR_CNT_BADWR_CNT : Field := ⟨0, 8⟩
/-! GLB_GUARD -/
def GLB_GUARD_BREACH : Field := ⟨9, 1⟩
def GLB_GUARD_COND_EVT : Field := ⟨8, 1⟩
def GLB_GUARD_STORE_WORN : Field := ⟨3, 1⟩
def GLB_GUARD_HOLDUP_LOW : Field := ⟨2, 1⟩
def GLB_GUARD_TEMP_OUT : Field := ⟨1, 1⟩
def GLB_GUARD_SUPPLY_OUT : Field := ⟨0, 1⟩
/-! PWR_SUPSTAT -/
def PWR_SUPSTAT_ON_HOLDUP : Field := ⟨9, 1⟩
def PWR_SUPSTAT_VIO_OK : Field := ⟨3, 6⟩
def PWR_SUPSTAT_VSO_OK : Field := ⟨2, 1⟩
def PWR_SUPSTAT_VAUXB_OK : Field := ⟨1, 1⟩
def PWR_SUPSTAT_VAUXA_OK : Field := ⟨0, 1⟩
/-! PWR_FLAGS -/
def PWR_FLAGS_DIESUP : Field := ⟨15, 1⟩
def PWR_FLAGS_SEQERR : Field := ⟨14, 1⟩
def PWR_FLAGS_HOLDUP_RUN : Field := ⟨13, 1⟩
def PWR_FLAGS_VCLAMP : Field := ⟨12, 1⟩
def PWR_FLAGS_VIO_OUT : Field := ⟨6, 6⟩
def PWR_FLAGS_VSO_OV : Field := ⟨5, 1⟩
def PWR_FLAGS_VSO_UV : Field := ⟨4, 1⟩
def PWR_FLAGS_VAUXB_OV : Field := ⟨3, 1⟩
def PWR_FLAGS_VAUXB_UV : Field := ⟨2, 1⟩
def PWR_FLAGS_VAUXA_OV : Field := ⟨1, 1⟩
def PWR_FLAGS_VAUXA_UV : Field := ⟨0, 1⟩
/-! SAFE_PRE0_STAT -/
def SAFE_PRE_V_LINK : Field := ⟨16, 16⟩
def SAFE_PRE_FAIL : Field := ⟨8, 8⟩
def SAFE_PRE_STATE : Field := ⟨0, 3⟩
/-! SAFE_PRE1_STAT -/
/-! GLB_DEVSTATE -/
def GLB_DEVSTATE_CAUSE : Field := ⟨24, 8⟩
def GLB_DEVSTATE_SAFE_CNT : Field := ⟨16, 8⟩
def GLB_DEVSTATE_COMMISSION : Field := ⟨6, 1⟩
def GLB_DEVSTATE_DERATE : Field := ⟨5, 1⟩
def GLB_DEVSTATE_TRANS : Field := ⟨4, 1⟩
def GLB_DEVSTATE_STATE : Field := ⟨0, 4⟩
/-! GLB_DEVCMD -/
def GLB_DEVCMD_KEY : Field := ⟨16, 16⟩
def GLB_DEVCMD_CMD : Field := ⟨0, 8⟩
/-! GLB_DEVRESULT -/
def GLB_DEVRESULT_CMD : Field := ⟨16, 8⟩
def GLB_DEVRESULT_SEQ : Field := ⟨8, 8⟩
def GLB_DEVRESULT_RESULT : Field := ⟨0, 8⟩
/-! GLB_BOOTSTAT -/
def GLB_BOOTSTAT_FIRST_KEY : Field := ⟨24, 1⟩
def GLB_BOOTSTAT_RB_RM : Field := ⟨16, 8⟩
def GLB_BOOTSTAT_RB_HV : Field := ⟨8, 8⟩
def GLB_BOOTSTAT_LT_IMG : Field := ⟨5, 1⟩
def GLB_BOOTSTAT_RM_IMG : Field := ⟨4, 1⟩
def GLB_BOOTSTAT_HV_IMG : Field := ⟨3, 1⟩
def GLB_BOOTSTAT_FALLBACK : Field := ⟨2, 1⟩
def GLB_BOOTSTAT_KEYSLOT : Field := ⟨0, 2⟩
/-! GLB_COMLOCK -/
def GLB_COMLOCK_LOCK_CNT : Field := ⟨8, 8⟩
def GLB_COMLOCK_EVER_LOCKED : Field := ⟨1, 1⟩
def GLB_COMLOCK_LOCKED : Field := ⟨0, 1⟩
/-! EDG_n_CTRL -/
def EDG_CTRL_LOAD : Field := ⟨10, 2⟩
def EDG_CTRL_LOOPMODE : Field := ⟨9, 1⟩
def EDG_CTRL_LOOP_EN : Field := ⟨8, 1⟩
def EDG_CTRL_PE_RAW : Field := ⟨7, 1⟩
def EDG_CTRL_MODE : Field := ⟨4, 2⟩
def EDG_CTRL_ASYM : Field := ⟨3, 1⟩
def EDG_CTRL_INV : Field := ⟨2, 1⟩
def EDG_CTRL_EN : Field := ⟨0, 1⟩
/-! EDG_n_CARRIER -/
def EDG_CARRIER_SHAPE : Field := ⟨18, 2⟩
def EDG_CARRIER_PRESC : Field := ⟨16, 2⟩
def EDG_CARRIER_PERIOD : Field := ⟨0, 16⟩
/-! EDG_n_ACTPT -/
def EDG_ACTPT_OFFSET : Field := ⟨8, 24⟩
def EDG_ACTPT_SEL : Field := ⟨0, 2⟩
/-! EDG_n_SRC -/
def EDG_SRC_STALE_LIM : Field := ⟨28, 4⟩
def EDG_SRC_MAXGAP : Field := ⟨16, 12⟩
def EDG_SRC_TYPE : Field := ⟨6, 1⟩
def EDG_SRC_CH : Field := ⟨0, 6⟩
/-! EDG_n_FCL_CFG -/
def EDG_FCL_CFG_FCH : Field := ⟨8, 6⟩
def EDG_FCL_CFG_FTYPE : Field := ⟨5, 1⟩
def EDG_FCL_CFG_LIMACT : Field := ⟨0, 2⟩
/-! EDG_n_PEi -/
def EDG_PE_STATE : Field := ⟨30, 2⟩
def EDG_PE_VALID : Field := ⟨29, 1⟩
def EDG_PE_TIME : Field := ⟨0, 24⟩
/-! EDG_n_STAT -/
def EDG_STAT_STALE_RUN : Field := ⟨8, 8⟩
def EDG_STAT_STALE : Field := ⟨7, 1⟩
def EDG_STAT_ALIGNED : Field := ⟨6, 1⟩
def EDG_STAT_LOOP_ACTIVE : Field := ⟨5, 1⟩
def EDG_STAT_LS_ON : Field := ⟨4, 1⟩
def EDG_STAT_HS_ON : Field := ⟨3, 1⟩
def EDG_STAT_SSTATE : Field := ⟨0, 3⟩
/-! EDG_n_FLAGS -/
def EDG_FLAGS_PCM_MAX : Field := ⟨15, 1⟩
def EDG_FLAGS_WRERR : Field := ⟨14, 1⟩
def EDG_FLAGS_PEERR : Field := ⟨13, 1⟩
def EDG_FLAGS_XCF : Field := ⟨12, 1⟩
def EDG_FLAGS_OVR : Field := ⟨11, 1⟩
def EDG_FLAGS_FCL_TRIP : Field := ⟨10, 1⟩
def EDG_FLAGS_FCL_LIM : Field := ⟨9, 1⟩
def EDG_FLAGS_STALEESC : Field := ⟨8, 1⟩
def EDG_FLAGS_STALE : Field := ⟨7, 1⟩
def EDG_FLAGS_LATE : Field := ⟨6, 1⟩
def EDG_FLAGS_CLAMP : Field := ⟨5, 1⟩
def EDG_FLAGS_MINP_EXT : Field := ⟨4, 1⟩
def EDG_FLAGS_MINP_DROP : Field := ⟨3, 1⟩
def EDG_FLAGS_ILKESC : Field := ⟨2, 1⟩
def EDG_FLAGS_DRVILK : Field := ⟨1, 1⟩
def EDG_FLAGS_ILK : Field := ⟨0, 1⟩
/-! EDG_ALIGN_STAT -/
def EDG_ALIGN_STAT_LEADER : Field := ⟨18, 1⟩
def EDG_ALIGN_STAT_STATE : Field := ⟨16, 2⟩
def EDG_ALIGN_STAT_ERR : Field := ⟨0, 16⟩
/-! GDV_n_CTRL -/
def GDV_CTRL_FAULT_LIMIT : Field := ⟨24, 4⟩
def GDV_CTRL_MCLAMP_L : Field := ⟨17, 1⟩
def GDV_CTRL_MCLAMP_H : Field := ⟨16, 1⟩
def GDV_CTRL_STEP_EDGES : Field := ⟨8, 8⟩
def GDV_CTRL_MODE : Field := ⟨0, 1⟩
/-! GDV_n_PON_H -/
def GDV_PRF_PLT_TMAX : Field := ⟨24, 8⟩
def GDV_PRF_PRE_TMAX : Field := ⟨16, 5⟩
def GDV_PRF_PRE_VTH : Field := ⟨8, 5⟩
def GDV_PRF_PRE_I : Field := ⟨0, 6⟩
/-! GDV_n_POFF_H -/
/-! GDV_n_PON_L -/
/-! GDV_n_POFF_L -/
/-! GDV_n_AON_H -/
def GDV_ADP_EN : Field := ⟨31, 1⟩
def GDV_ADP_PLT_INIT : Field := ⟨26, 5⟩
def GDV_ADP_PLT_MAX : Field := ⟨21, 5⟩
def GDV_ADP_PLT_MIN : Field := ⟨16, 5⟩
def GDV_ADP_TOL : Field := ⟨12, 4⟩
def GDV_ADP_TARGET : Field := ⟨0, 8⟩
/-! GDV_n_AOFF_H -/
/-! GDV_n_AON_L -/
/-! GDV_n_AOFF_L -/
/-! GDV_n_DSAT_H -/
def GDV_DSAT_EN : Field := ⟨31, 1⟩
def GDV_DSAT_BLANK : Field := ⟨16, 10⟩
def GDV_DSAT_VTH : Field := ⟨8, 6⟩
def GDV_DSAT_FILT : Field := ⟨0, 3⟩
/-! GDV_n_DSAT_L -/
/-! GDV_n_SOFT -/
def GDV_SOFT_I_SOFT : Field := ⟨24, 6⟩
def GDV_SOFT_SOFT_T : Field := ⟨8, 10⟩
def GDV_SOFT_VINT : Field := ⟨0, 4⟩
/-! GDV_n_DIAG_CFG -/
def GDV_DIAG_CFG_EXEMPT_DCP : Field := ⟨31, 1⟩
def GDV_DIAG_CFG_EXEMPT_DCM : Field := ⟨30, 1⟩
def GDV_DIAG_CFG_RAIL : Field := ⟨29, 1⟩
def GDV_DIAG_CFG_V_TOL : Field := ⟨12, 12⟩
def GDV_DIAG_CFG_D_OPEN : Field := ⟨0, 12⟩
/-! GDV_n_CMD -/
def GDV_CMD_KEY : Field := ⟨16, 16⟩
def GDV_CMD_CMD : Field := ⟨0, 8⟩
/-! GDV_n_STAT -/
def GDV_STAT_CMDRES : Field := ⟨24, 8⟩
def GDV_STAT_FCOUNT : Field := ⟨16, 4⟩
def GDV_STAT_BIASOK_L : Field := ⟨15, 1⟩
def GDV_STAT_BIASOK_H : Field := ⟨14, 1⟩
def GDV_STAT_CLAMP_L : Field := ⟨13, 1⟩
def GDV_STAT_CLAMP_H : Field := ⟨12, 1⟩
def GDV_STAT_STEP_L : Field := ⟨11, 1⟩
def GDV_STAT_STEP_H : Field := ⟨10, 1⟩
def GDV_STAT_EREMOVED : Field := ⟨9, 1⟩
def GDV_STAT_SOFT_ACTIVE : Field := ⟨8, 1⟩
def GDV_STAT_H_FAILED : Field := ⟨7, 1⟩
def GDV_STAT_H_DIAG : Field := ⟨6, 1⟩
def GDV_STAT_H_ILINE : Field := ⟨5, 1⟩
def GDV_STAT_H_ORDER : Field := ⟨4, 1⟩
def GDV_STAT_H_LINK : Field := ⟨3, 1⟩
def GDV_STAT_H_BIAS : Field := ⟨2, 1⟩
def GDV_STAT_H_MOC : Field := ⟨1, 1⟩
def GDV_STAT_H_DSAT : Field := ⟨0, 1⟩
/-! GDV_n_FLAGS -/
def GDV_FLAGS_WRERR : Field := ⟨15, 1⟩
def GDV_FLAGS_CMDERR : Field := ⟨14, 1⟩
def GDV_FLAGS_FAILED : Field := ⟨13, 1⟩
def GDV_FLAGS_DIAG_FAIL : Field := ⟨12, 1⟩
def GDV_FLAGS_PRE_LIM : Field := ⟨11, 1⟩
def GDV_FLAGS_PLT_LIM : Field := ⟨10, 1⟩
def GDV_FLAGS_NOTRANS : Field := ⟨9, 1⟩
def GDV_FLAGS_ADJ_BOUND : Field := ⟨8, 1⟩
def GDV_FLAGS_EREMOVE : Field := ⟨7, 1⟩
def GDV_FLAGS_SOFT : Field := ⟨6, 1⟩
def GDV_FLAGS_LINK : Field := ⟨5, 1⟩
def GDV_FLAGS_BIAS_L : Field := ⟨4, 1⟩
def GDV_FLAGS_BIAS_H : Field := ⟨3, 1⟩
def GDV_FLAGS_MOC : Field := ⟨2, 1⟩
def GDV_FLAGS_DSAT_L : Field := ⟨1, 1⟩
def GDV_FLAGS_DSAT_H : Field := ⟨0, 1⟩
/-! GDV_n_DIAG_RES -/
def GDV_DIAG_RES_V0 : Field := ⟨20, 12⟩
def GDV_DIAG_RES_D : Field := ⟨8, 12⟩
def GDV_DIAG_RES_OVERRIDE : Field := ⟨4, 1⟩
def GDV_DIAG_RES_CLASS : Field := ⟨0, 3⟩
/-! GDV_n_REP_ON_H -/
def GDV_REP_DVDT : Field := ⟨24, 8⟩
def GDV_REP_PLT_DUR : Field := ⟨12, 12⟩
def GDV_REP_PLT_CODE : Field := ⟨7, 5⟩
def GDV_REP_ADJ : Field := ⟨5, 2⟩
def GDV_REP_NOTRANS : Field := ⟨4, 1⟩
def GDV_REP_PLT_LIM : Field := ⟨3, 1⟩
def GDV_REP_PRE_LIM : Field := ⟨2, 1⟩
def GDV_REP_STEP : Field := ⟨1, 1⟩
def GDV_REP_VALID : Field := ⟨0, 1⟩
/-! GDV_n_REP_OFF_H -/
/-! GDV_n_REP_ON_L -/
/-! GDV_n_REP_OFF_L -/
/-! CLU_k_CFG -/
def CLU_CFG_SYSPAR : Field := ⟨27, 1⟩
def CLU_CFG_SYSGRP : Field := ⟨26, 1⟩
def CLU_CFG_OWNER : Field := ⟨24, 2⟩
def CLU_CFG_REGION : Field := ⟨16, 1⟩
def CLU_CFG_DRT : Field := ⟨8, 8⟩
def CLU_CFG_INTLV : Field := ⟨3, 1⟩
def CLU_CFG_TYPE : Field := ⟨0, 3⟩
/-! CLU_k_CMD -/
def CLU_CMD_KEY : Field := ⟨16, 16⟩
def CLU_CMD_CMD : Field := ⟨0, 8⟩
/-! CLU_k_STAT -/
def CLU_STAT_CMDRES : Field := ⟨24, 8⟩
def CLU_STAT_CAUSE : Field := ⟨16, 4⟩
def CLU_STAT_NSW : Field := ⟨8, 8⟩
def CLU_STAT_SHARE_HOLD : Field := ⟨4, 1⟩
def CLU_STAT_DERATE : Field := ⟨3, 1⟩
def CLU_STAT_CSTATE : Field := ⟨0, 3⟩
/-! CLU_k_FLAGS -/
def CLU_FLAGS_CMDERR : Field := ⟨7, 1⟩
def CLU_FLAGS_FREQ_OOR : Field := ⟨6, 1⟩
def CLU_FLAGS_ZC_MISS : Field := ⟨5, 1⟩
def CLU_FLAGS_PJ : Field := ⟨4, 1⟩
def CLU_FLAGS_SP_OVR : Field := ⟨3, 1⟩
def CLU_FLAGS_NP_SAT : Field := ⟨2, 1⟩
def CLU_FLAGS_DERATE : Field := ⟨1, 1⟩
def CLU_FLAGS_SSTOP : Field := ⟨0, 1⟩
/-! CLU_k_NP -/
def CLU_NP_GAIN : Field := ⟨24, 8⟩
def CLU_NP_VMAX : Field := ⟨16, 8⟩
def CLU_NP_DEAD : Field := ⟨8, 8⟩
/-! CLU_k_GMU_CFG -/
def CLU_GMU_CFG_PJ_TH : Field := ⟨24, 8⟩
def CLU_GMU_CFG_NOM : Field := ⟨21, 1⟩
def CLU_GMU_CFG_LL : Field := ⟨20, 1⟩
/-! CLU_SYS_CFG -/
def CLU_SYS_CFG_DEAD_ROUNDS : Field := ⟨24, 8⟩
def CLU_SYS_CFG_ISOLATE : Field := ⟨16, 8⟩
def CLU_SYS_CFG_LEAD_TO : Field := ⟨8, 8⟩
def CLU_SYS_CFG_SHARE_LOSS : Field := ⟨1, 1⟩
def CLU_SYS_CFG_SYS_EN : Field := ⟨0, 1⟩
/-! CLU_SYS_STAT -/
def CLU_SYS_STAT_SEPOCH : Field := ⟨16, 16⟩
def CLU_SYS_STAT_LID : Field := ⟨12, 4⟩
def CLU_SYS_STAT_MODID : Field := ⟨8, 4⟩
def CLU_SYS_STAT_MEMBER : Field := ⟨7, 1⟩
def CLU_SYS_STAT_SSTATE : Field := ⟨0, 3⟩
/-! CLU_SYS_FLAGS -/
def CLU_SYS_FLAGS_CMDERR : Field := ⟨7, 1⟩
def CLU_SYS_FLAGS_CRCERR : Field := ⟨6, 1⟩
def CLU_SYS_FLAGS_SHARE_HOLD : Field := ⟨5, 1⟩
def CLU_SYS_FLAGS_CONTEND : Field := ⟨4, 1⟩
def CLU_SYS_FLAGS_STALE : Field := ⟨3, 1⟩
def CLU_SYS_FLAGS_DECLDEAD : Field := ⟨2, 1⟩
def CLU_SYS_FLAGS_FENCED : Field := ⟨1, 1⟩
def CLU_SYS_FLAGS_LEADCHG : Field := ⟨0, 1⟩
/-! CLU_k_DC_CFG -/
def CLU_DC_CFG_MINPH : Field := ⟨24, 4⟩
def CLU_DC_CFG_FILT : Field := ⟨16, 8⟩
def CLU_DC_CFG_SS_TOL : Field := ⟨12, 4⟩
def CLU_DC_CFG_PLAUS_EN : Field := ⟨4, 1⟩
def CLU_DC_CFG_OPEN_EN : Field := ⟨3, 1⟩
def CLU_DC_CFG_SPREAD : Field := ⟨2, 1⟩
def CLU_DC_CFG_SHED_EN : Field := ⟨1, 1⟩
/-! CLU_k_DC_CMD -/
def CLU_DC_CMD_KEY : Field := ⟨16, 16⟩
def CLU_DC_CMD_POS : Field := ⟨8, 3⟩
def CLU_DC_CMD_CMD : Field := ⟨0, 8⟩
/-! CLU_k_DC_STAT -/
def CLU_DC_STAT_ACTIVE : Field := ⟨24, 8⟩
def CLU_DC_STAT_HEALTHY : Field := ⟨16, 8⟩
def CLU_DC_STAT_NACT : Field := ⟨12, 4⟩
def CLU_DC_STAT_SS_LATCH : Field := ⟨11, 1⟩
def CLU_DC_STAT_RETRY_PEND : Field := ⟨10, 1⟩
def CLU_DC_STAT_RETRY_USED : Field := ⟨9, 1⟩
def CLU_DC_STAT_REQ_PEND : Field := ⟨8, 1⟩
def CLU_DC_STAT_SWEEP_ACT : Field := ⟨7, 1⟩
def CLU_DC_STAT_DISCH_ACT : Field := ⟨6, 1⟩
def CLU_DC_STAT_FROZEN : Field := ⟨5, 1⟩
def CLU_DC_STAT_PLAUS_RUN : Field := ⟨0, 2⟩
/-! CLU_k_DC_FLAGS -/
def CLU_DC_FLAGS_DLC_EMAX : Field := ⟨13, 1⟩
def CLU_DC_FLAGS_DLC_EWARN : Field := ⟨12, 1⟩
def CLU_DC_FLAGS_MPPT_LIM : Field := ⟨11, 1⟩
def CLU_DC_FLAGS_SWEEP_ABORT : Field := ⟨10, 1⟩
def CLU_DC_FLAGS_OVLD : Field := ⟨9, 1⟩
def CLU_DC_FLAGS_PORT_OPEN : Field := ⟨8, 1⟩
def CLU_DC_FLAGS_SS_LATCH : Field := ⟨7, 1⟩
def CLU_DC_FLAGS_SS_ABORT : Field := ⟨6, 1⟩
def CLU_DC_FLAGS_PLAUSESC : Field := ⟨5, 1⟩
def CLU_DC_FLAGS_PLAUS : Field := ⟨4, 1⟩
def CLU_DC_FLAGS_SHED_TO : Field := ⟨3, 1⟩
def CLU_DC_FLAGS_EXCL : Field := ⟨2, 1⟩
def CLU_DC_FLAGS_ADD : Field := ⟨1, 1⟩
def CLU_DC_FLAGS_SHED : Field := ⟨0, 1⟩
/-! CLU_k_PV_MPPT -/
def CLU_PV_MPPT_MODE : Field := ⟨30, 2⟩
def CLU_PV_MPPT_INTERVAL : Field := ⟨20, 10⟩
def CLU_PV_MPPT_STEP : Field := ⟨8, 12⟩
def CLU_PV_MPPT_EPS : Field := ⟨0, 8⟩
/-! CHG_k_CMD -/
def CHG_CMD_KEY : Field := ⟨16, 16⟩
def CHG_CMD_CMD : Field := ⟨0, 8⟩
/-! CHG_k_STAT -/
def CHG_STAT_CMDRES : Field := ⟨24, 8⟩
def CHG_STAT_REASON : Field := ⟨16, 8⟩
def CHG_STAT_FOLD : Field := ⟨10, 1⟩
def CHG_STAT_BMS_VALID : Field := ⟨9, 1⟩
def CHG_STAT_SN_FB : Field := ⟨8, 1⟩
def CHG_STAT_ESTATE : Field := ⟨0, 3⟩
/-! CHG_k_FLAGS -/
def CHG_FLAGS_BOUNDV : Field := ⟨9, 1⟩
def CHG_FLAGS_CMDERR : Field := ⟨8, 1⟩
def CHG_FLAGS_BADFRAME : Field := ⟨7, 1⟩
def CHG_FLAGS_THERMAL : Field := ⟨6, 1⟩
def CHG_FLAGS_TIMER : Field := ⟨5, 1⟩
def CHG_FLAGS_FOLD : Field := ⟨4, 1⟩
def CHG_FLAGS_BMS_STOP : Field := ⟨3, 1⟩
def CHG_FLAGS_BMS_SILENT : Field := ⟨2, 1⟩
def CHG_FLAGS_ENDED : Field := ⟨1, 1⟩
def CHG_FLAGS_DONE : Field := ⟨0, 1⟩
/-! PWR_HU_CFG -/
def PWR_HU_CFG_MIN_PCT : Field := ⟨16, 8⟩
def PWR_HU_CFG_RATE : Field := ⟨8, 2⟩
def PWR_HU_CFG_CAP : Field := ⟨0, 5⟩
/-! LDG_g_CFG -/
def LDG_CFG_EN : Field := ⟨31, 1⟩
def LDG_CFG_VCH : Field := ⟨16, 3⟩
def LDG_CFG_T_HOLD : Field := ⟨0, 16⟩
/-! LDG_g_Aa_CFG -/
def LDG_A_CFG_EN : Field := ⟨31, 1⟩
def LDG_A_CFG_INV : Field := ⟨20, 1⟩
def LDG_A_CFG_CH : Field := ⟨16, 3⟩
def LDG_A_CFG_CLUSTER : Field := ⟨8, 4⟩
def LDG_A_CFG_KIND : Field := ⟨0, 3⟩
/-! LDG_g_FLAGS -/
def LDG_FLAGS_BREACH : Field := ⟨7, 1⟩
def LDG_FLAGS_OUTAGE : Field := ⟨6, 1⟩
def LDG_FLAGS_GAP : Field := ⟨5, 1⟩
def LDG_FLAGS_EARLY_CLOSE : Field := ⟨4, 1⟩
def LDG_FLAGS_OVR : Field := ⟨3, 1⟩
def LDG_FLAGS_RES_HIGH : Field := ⟨2, 1⟩
def LDG_FLAGS_JRN_HOLD : Field := ⟨1, 1⟩
def LDG_FLAGS_COMMIT : Field := ⟨0, 1⟩
/-! MEAS_MODi_CFG -/
def MEAS_MOD_CFG_EN : Field := ⟨31, 1⟩
def MEAS_MOD_CFG_OSR_F : Field := ⟨24, 5⟩
def MEAS_MOD_CFG_STUCK : Field := ⟨16, 8⟩
def MEAS_MOD_CFG_OSR : Field := ⟨0, 9⟩
/-! MEAS_FLAGS -/
def MEAS_FLAGS_CMDERR : Field := ⟨7, 1⟩
def MEAS_FLAGS_WRERR : Field := ⟨6, 1⟩
def MEAS_FLAGS_REFDEV : Field := ⟨5, 1⟩
def MEAS_FLAGS_OVR : Field := ⟨4, 1⟩
def MEAS_FLAGS_MCLKLOSS : Field := ⟨3, 1⟩
def MEAS_FLAGS_STUCK : Field := ⟨2, 1⟩
def MEAS_FLAGS_PAIRFLT : Field := ⟨1, 1⟩
def MEAS_FLAGS_XCDIS : Field := ⟨0, 1⟩
/-! MEAS_CMD -/
def MEAS_CMD_KEY : Field := ⟨16, 16⟩
def MEAS_CMD_TARGET : Field := ⟨8, 5⟩
def MEAS_CMD_CMD : Field := ⟨0, 8⟩
/-! THM_STAT -/
def THM_STAT_HWSD_LOC : Field := ⟨24, 8⟩
def THM_STAT_NTRIP : Field := ⟨4, 1⟩
def THM_STAT_JTRIP : Field := ⟨3, 1⟩
def THM_STAT_RELEASE_PEND : Field := ⟨2, 1⟩
def THM_STAT_LATCHED : Field := ⟨1, 1⟩
def THM_STAT_HWSD : Field := ⟨0, 1⟩
/-! THM_FLAGS -/
def THM_FLAGS_SENSFLT : Field := ⟨7, 1⟩
def THM_FLAGS_FOLD : Field := ⟨6, 1⟩
def THM_FLAGS_NTRIP : Field := ⟨5, 1⟩
def THM_FLAGS_NWARN : Field := ⟨4, 1⟩
def THM_FLAGS_JTRIP : Field := ⟨3, 1⟩
def THM_FLAGS_JWARN : Field := ⟨2, 1⟩
def THM_FLAGS_HWREL : Field := ⟨1, 1⟩
def THM_FLAGS_HWSD : Field := ⟨0, 1⟩
/-! SVRc_CTRL -/
def SVR_CTRL_EN : Field := ⟨31, 1⟩
def SVR_CTRL_SAFE_OFF : Field := ⟨30, 1⟩
def SVR_CTRL_SYNC_EN : Field := ⟨29, 1⟩
def SVR_CTRL_OFS : Field := ⟨24, 4⟩
def SVR_CTRL_NPH : Field := ⟨16, 2⟩
def SVR_CTRL_SHED_EN : Field := ⟨8, 1⟩
/-! SVRc_STAT -/
def SVR_STAT_NACT : Field := ⟨16, 4⟩
def SVR_STAT_USED : Field := ⟨12, 4⟩
def SVR_STAT_BSTHOLD : Field := ⟨9, 1⟩
def SVR_STAT_SYNCED : Field := ⟨8, 1⟩
def SVR_STAT_STATE : Field := ⟨0, 3⟩
/-! SVRc_FLAGS -/
def SVR_FLAGS_CFGERR : Field := ⟨8, 1⟩
def SVR_FLAGS_SYNCLOSS : Field := ⟨7, 1⟩
def SVR_FLAGS_ADD : Field := ⟨6, 1⟩
def SVR_FLAGS_SHED : Field := ⟨5, 1⟩
def SVR_FLAGS_SSFAIL : Field := ⟨4, 1⟩
def SVR_FLAGS_BSTUV : Field := ⟨3, 1⟩
def SVR_FLAGS_OV : Field := ⟨2, 1⟩
def SVR_FLAGS_LATCH : Field := ⟨1, 1⟩
def SVR_FLAGS_HICCUP : Field := ⟨0, 1⟩
/-! AUXDi_CTRL -/
def AUXD_CTRL_EN : Field := ⟨31, 1⟩
def AUXD_CTRL_SAFE_OFF : Field := ⟨30, 1⟩
def AUXD_CTRL_HOFS : Field := ⟨9, 3⟩
def AUXD_CTRL_ROT : Field := ⟨8, 1⟩
def AUXD_CTRL_MODE : Field := ⟨0, 2⟩
/-! AUXDi_STAT -/
def AUXD_STAT_HALL : Field := ⟨8, 3⟩
def AUXD_STAT_BSTHOLD : Field := ⟨4, 3⟩
def AUXD_STAT_LIMITED : Field := ⟨3, 1⟩
def AUXD_STAT_STATE : Field := ⟨0, 3⟩
/-! AUXDi_FLAGS -/
def AUXD_FLAGS_CFGERR : Field := ⟨5, 1⟩
def AUXD_FLAGS_BSTUV : Field := ⟨4, 1⟩
def AUXD_FLAGS_VM_OV : Field := ⟨3, 1⟩
def AUXD_FLAGS_VM_UV : Field := ⟨2, 1⟩
def AUXD_FLAGS_TRIP : Field := ⟨1, 1⟩
def AUXD_FLAGS_ILIM : Field := ⟨0, 1⟩
/-! TRPt_CFG -/
def TRP_CFG_RESYNC_LIM : Field := ⟨16, 4⟩
def TRP_CFG_LAG_TO : Field := ⟨0, 16⟩
/-! TRPt_STAT -/
def TRP_STAT_DRIFT : Field := ⟨24, 8⟩
def TRP_STAT_RSSTEP : Field := ⟨16, 3⟩
def TRP_STAT_DBGCOPY : Field := ⟨12, 2⟩
def TRP_STAT_SPLIT : Field := ⟨11, 1⟩
def TRP_STAT_RETIRED : Field := ⟨8, 3⟩
def TRP_STAT_FENCED : Field := ⟨4, 3⟩
def TRP_STAT_MODE : Field := ⟨0, 3⟩
/-! TRPt_FLAGS -/
def TRP_FLAGS_ECC_COR : Field := ⟨10, 1⟩
def TRP_FLAGS_NOMAJ : Field := ⟨9, 1⟩
def TRP_FLAGS_SPLIT : Field := ⟨8, 1⟩
def TRP_FLAGS_STALE : Field := ⟨7, 1⟩
def TRP_FLAGS_RETIRE : Field := ⟨6, 1⟩
def TRP_FLAGS_RSFAIL : Field := ⟨5, 1⟩
def TRP_FLAGS_RESYNC : Field := ⟨4, 1⟩
def TRP_FLAGS_MEMERR : Field := ⟨3, 1⟩
def TRP_FLAGS_STALL : Field := ⟨2, 1⟩
def TRP_FLAGS_LAG : Field := ⟨1, 1⟩
def TRP_FLAGS_MISMATCH : Field := ⟨0, 1⟩
/-! TRPt_CMD -/
def TRP_CMD_KEY : Field := ⟨16, 16⟩
def TRP_CMD_COPY : Field := ⟨8, 2⟩
def TRP_CMD_CMD : Field := ⟨0, 8⟩
/-! SAFE_STAT -/
def SAFE_STAT_CORES : Field := ⟨8, 3⟩
def SAFE_STAT_LATCH_VB : Field := ⟨7, 1⟩
def SAFE_STAT_HWSD : Field := ⟨6, 1⟩
def SAFE_STAT_ENDBG : Field := ⟨5, 1⟩
def SAFE_STAT_CHK_OK : Field := ⟨4, 1⟩
def SAFE_STAT_RMSTATE : Field := ⟨0, 4⟩
/-! SAFE_FLAGS -/
def SAFE_FLAGS_RST_ACC : Field := ⟨15, 1⟩
def SAFE_FLAGS_CHKMIS : Field := ⟨14, 1⟩
def SAFE_FLAGS_RST_STUCK : Field := ⟨13, 1⟩
def SAFE_FLAGS_RST_REFUSED : Field := ⟨12, 1⟩
def SAFE_FLAGS_CORE_MISM : Field := ⟨11, 1⟩
def SAFE_FLAGS_RETFRAME : Field := ⟨10, 1⟩
def SAFE_FLAGS_EREM_NOCONF : Field := ⟨9, 1⟩
def SAFE_FLAGS_SO_XV : Field := ⟨8, 1⟩
def SAFE_FLAGS_SO_SHORT : Field := ⟨7, 1⟩
def SAFE_FLAGS_SO_STUCK : Field := ⟨6, 1⟩
def SAFE_FLAGS_SNL : Field := ⟨5, 1⟩
def SAFE_FLAGS_SOT : Field := ⟨4, 1⟩
def SAFE_FLAGS_VLDISC : Field := ⟨3, 1⟩
def SAFE_FLAGS_VLIM : Field := ⟨2, 1⟩
def SAFE_FLAGS_SIDISC : Field := ⟨1, 1⟩
def SAFE_FLAGS_SIDEM : Field := ⟨0, 1⟩
/-! ETH_Pp_CFG -/
def ETH_P_CFG_EN : Field := ⟨31, 1⟩
def ETH_P_CFG_PCP : Field := ⟨28, 3⟩
def ETH_P_CFG_VID : Field := ⟨16, 12⟩
def ETH_P_CFG_AN_EN : Field := ⟨3, 1⟩
def ETH_P_CFG_MODE : Field := ⟨0, 2⟩
/-! ETH_SNL_TIMING -/
def ETH_SNL_TIMING_TX_PER : Field := ⟨24, 8⟩
def ETH_SNL_TIMING_RESTORE_N : Field := ⟨20, 4⟩
def ETH_SNL_TIMING_MISS_LIM : Field := ⟨16, 4⟩
def ETH_SNL_TIMING_SKEW : Field := ⟨0, 16⟩
/-! ETH_SNL_STAT -/
def ETH_SNL_STAT_AGEOK : Field := ⟨4, 1⟩
def ETH_SNL_STAT_PERMIT : Field := ⟨3, 1⟩
def ETH_SNL_STAT_BASE : Field := ⟨2, 1⟩
def ETH_SNL_STAT_LOST1 : Field := ⟨1, 1⟩
def ETH_SNL_STAT_LOST0 : Field := ⟨0, 1⟩
/-! ETH_SNL_FLAGS -/
def ETH_SNL_FLAGS_PTP_AGE : Field := ⟨9, 1⟩
def ETH_SNL_FLAGS_RESTORE : Field := ⟨8, 1⟩
def ETH_SNL_FLAGS_LOST : Field := ⟨7, 1⟩
def ETH_SNL_FLAGS_AGE : Field := ⟨6, 1⟩
def ETH_SNL_FLAGS_SEQ : Field := ⟨5, 1⟩
def ETH_SNL_FLAGS_COPYDIFF : Field := ⟨4, 1⟩
def ETH_SNL_FLAGS_MISS : Field := ⟨3, 1⟩
def ETH_SNL_FLAGS_CODE : Field := ⟨2, 1⟩
def ETH_SNL_FLAGS_FMT : Field := ⟨1, 1⟩
def ETH_SNL_FLAGS_DEMAND : Field := ⟨0, 1⟩
/-! CANx_CTRL -/
def CAN_CTRL_EN : Field := ⟨31, 1⟩
def CAN_CTRL_FD_EN : Field := ⟨30, 1⟩
def CAN_CTRL_LISTEN : Field := ⟨29, 1⟩
def CAN_CTRL_ABORT_BO : Field := ⟨28, 1⟩
def CAN_CTRL_TXR_EN : Field := ⟨27, 1⟩
def CAN_CTRL_ORDER : Field := ⟨26, 1⟩
def CAN_CTRL_WAKE_MODE : Field := ⟨25, 1⟩
def CAN_CTRL_RXR_EN : Field := ⟨24, 1⟩
def CAN_CTRL_RETRY_LIM : Field := ⟨16, 4⟩
def CAN_CTRL_COLL_TH : Field := ⟨8, 4⟩
/-! CANx_STAT -/
def CAN_STAT_CMDRES : Field := ⟨24, 8⟩
def CAN_STAT_BOREC : Field := ⟨16, 8⟩
def CAN_STAT_TBOWN : Field := ⟨4, 3⟩
def CAN_STAT_CSTATE : Field := ⟨0, 3⟩
/-! CANx_FLAGS -/
def CAN_FLAGS_ALOST : Field := ⟨15, 1⟩
def CAN_FLAGS_ERR : Field := ⟨14, 1⟩
def CAN_FLAGS_CMDERR : Field := ⟨13, 1⟩
def CAN_FLAGS_CFGERR : Field := ⟨12, 1⟩
def CAN_FLAGS_TDCSAT : Field := ⟨11, 1⟩
def CAN_FLAGS_WAKE : Field := ⟨10, 1⟩
def CAN_FLAGS_NOMATCH : Field := ⟨9, 1⟩
def CAN_FLAGS_RXR_OVF : Field := ⟨8, 1⟩
def CAN_FLAGS_LOST : Field := ⟨7, 1⟩
def CAN_FLAGS_IDCOLL : Field := ⟨6, 1⟩
def CAN_FLAGS_EPASSIVE : Field := ⟨5, 1⟩
def CAN_FLAGS_BORECOV : Field := ⟨4, 1⟩
def CAN_FLAGS_BUSOFF : Field := ⟨3, 1⟩
def CAN_FLAGS_ABORTED : Field := ⟨2, 1⟩
def CAN_FLAGS_RETRY : Field := ⟨1, 1⟩
def CAN_FLAGS_TXOK : Field := ⟨0, 1⟩
/-! CANx_CMD -/
def CAN_CMD_KEY : Field := ⟨16, 16⟩
def CAN_CMD_TARGET : Field := ⟨8, 5⟩
def CAN_CMD_CMD : Field := ⟨0, 8⟩
/-! HIF_RINGr_CFG -/
def HIF_RING_CFG_EN : Field := ⟨31, 1⟩
def HIF_RING_CFG_PRIO : Field := ⟨24, 2⟩
def HIF_RING_CFG_CQ : Field := ⟨16, 4⟩
def HIF_RING_CFG_STOP_ON_ERR : Field := ⟨8, 1⟩
def HIF_RING_CFG_LOG2N : Field := ⟨0, 5⟩
/-! HIF_RINGr_IRQ -/
def HIF_RING_IRQ_EN : Field := ⟨31, 1⟩
def HIF_RING_IRQ_VECTOR : Field := ⟨24, 6⟩
def HIF_RING_IRQ_COUNT : Field := ⟨16, 8⟩
def HIF_RING_IRQ_TIMER : Field := ⟨0, 10⟩
/-! HIF_FLAGS -/
def HIF_FLAGS_NOBME : Field := ⟨7, 1⟩
def HIF_FLAGS_BAR4WP : Field := ⟨6, 1⟩
def HIF_FLAGS_BADACC : Field := ⟨5, 1⟩
def HIF_FLAGS_CAPLOST : Field := ⟨4, 1⟩
def HIF_FLAGS_EVOVF : Field := ⟨3, 1⟩
def HIF_FLAGS_CFGERR : Field := ⟨2, 1⟩
def HIF_FLAGS_DMAERR : Field := ⟨1, 1⟩
def HIF_FLAGS_TAILERR : Field := ⟨0, 1⟩
/-! MBX_FLAGS -/
def MBX_FLAGS_DEVQOVF : Field := ⟨12, 1⟩
def MBX_FLAGS_CFGERR : Field := ⟨11, 1⟩
def MBX_FLAGS_NOTEP : Field := ⟨10, 1⟩
def MBX_FLAGS_LATEACK : Field := ⟨9, 1⟩
def MBX_FLAGS_BADACK : Field := ⟨8, 1⟩
def MBX_FLAGS_BUSYPOST : Field := ⟨7, 1⟩
def MBX_FLAGS_PDDROP : Field := ⟨6, 1⟩
def MBX_FLAGS_SRESET : Field := ⟨5, 1⟩
def MBX_FLAGS_STALE : Field := ⟨4, 1⟩
def MBX_FLAGS_CROSS : Field := ⟨3, 1⟩
def MBX_FLAGS_TIMEOUT : Field := ⟨2, 1⟩
def MBX_FLAGS_ACKNEW : Field := ⟨1, 1⟩
def MBX_FLAGS_RXNEW : Field := ⟨0, 1⟩
/-! REC_Pp_CFG -/
def REC_P_CFG_EN : Field := ⟨31, 1⟩
def REC_P_CFG_SNAP : Field := ⟨30, 1⟩
def REC_P_CFG_CAP : Field := ⟨29, 1⟩
def REC_P_CFG_NOTIFY : Field := ⟨28, 1⟩
def REC_P_CFG_LIST : Field := ⟨24, 2⟩
def REC_P_CFG_HOLDOFF : Field := ⟨16, 8⟩
def REC_P_CFG_SRC : Field := ⟨0, 2⟩
/-! GLB_IDENT -/
def GLB_IDENT_VARIANT : Field := ⟨16, 16⟩
def GLB_IDENT_GRADE : Field := ⟨12, 4⟩
def GLB_IDENT_PINFAULT : Field := ⟨0, 1⟩
/-! GLB_FLAGS -/
def GLB_FLAGS_PINFAULT : Field := ⟨3, 1⟩
def GLB_FLAGS_CNTERR : Field := ⟨2, 1⟩
def GLB_FLAGS_LOCKWR : Field := ⟨1, 1⟩
def GLB_FLAGS_UNIMPL : Field := ⟨0, 1⟩
/-! GLB_ROUTEs -/
def GLB_ROUTE_EN : Field := ⟨31, 1⟩
def GLB_ROUTE_RING : Field := ⟨30, 1⟩
def GLB_ROUTE_EQ : Field := ⟨28, 2⟩
def GLB_ROUTE_DIRECT : Field := ⟨27, 1⟩
def GLB_ROUTE_VECTOR : Field := ⟨16, 6⟩
def PWR_VCD_LIMITS_VMAX : Field := ⟨8, 8⟩
def PWR_VCD_LIMITS_VMIN : Field := ⟨0, 8⟩
def PWR_VAUX_MEAS_VAUX_B : Field := ⟨16, 16⟩
def PWR_VAUX_MEAS_VAUX_A : Field := ⟨0, 16⟩
def PWR_VSO_MEAS_VSO : Field := ⟨0, 16⟩
def GLB_BOOTSTAT_LT_LT3 : Field := ⟨24, 8⟩
def GLB_BOOTSTAT_LT_LT2 : Field := ⟨16, 8⟩
def GLB_BOOTSTAT_LT_LT1 : Field := ⟨8, 8⟩
def GLB_BOOTSTAT_LT_LT0 : Field := ⟨0, 8⟩
def EDG_DEADTIME_DT_LH : Field := ⟨16, 15⟩
def EDG_DEADTIME_DT_HL : Field := ⟨0, 15⟩
def EDG_MINPULSE_MINP : Field := ⟨0, 15⟩
def EDG_MINPULSE_MODE : Field := ⟨16, 1⟩
def EDG_DUTYLIM_DMAX : Field := ⟨16, 16⟩
def EDG_DUTYLIM_DMIN : Field := ⟨0, 16⟩
def EDG_REF_DFF : Field := ⟨16, 16⟩
def EDG_REF_IREF : Field := ⟨0, 16⟩
def EDG_KP_KP : Field := ⟨0, 16⟩
def EDG_KI_KI : Field := ⟨0, 16⟩
def EDG_FCL_TRIP : Field := ⟨16, 16⟩
def EDG_FCL_LIMIT : Field := ⟨0, 16⟩
def EDG_PCM_LEB : Field := ⟨24, 8⟩
def EDG_PCM_SLOPE : Field := ⟨0, 16⟩
def EDG_ILK_CFG_WINDOW : Field := ⟨8, 8⟩
def EDG_ILK_CFG_LIMIT : Field := ⟨0, 8⟩
def EDG_EST_STALE : Field := ⟨16, 1⟩
def EDG_ALIGN_CFG_LOSS_TIME : Field := ⟨8, 16⟩
def EDG_ALIGN_CFG_LIM : Field := ⟨0, 8⟩
def EDG_ALIGN_FLAGS_LOST : Field := ⟨2, 1⟩
def EDG_ALIGN_FLAGS_LIMX : Field := ⟨1, 1⟩
def EDG_ALIGN_FLAGS_STEP : Field := ⟨0, 1⟩
def EDG_ALIGN_CNT_LOST : Field := ⟨16, 8⟩
def EDG_ALIGN_CNT_LIMX : Field := ⟨8, 8⟩
def EDG_ALIGN_CNT_STEP : Field := ⟨0, 8⟩
def GDV_BIAS_H_VGN : Field := ⟨8, 6⟩
def GDV_BIAS_H_VGP : Field := ⟨0, 6⟩
def GDV_SNS_DIV_KDIV : Field := ⟨0, 16⟩
def GDV_BIASMEAS_VGP_H : Field := ⟨24, 8⟩
def GDV_BIASMEAS_VGN_H : Field := ⟨16, 8⟩
def GDV_BIASMEAS_VGP_L : Field := ⟨8, 8⟩
def GDV_BIASMEAS_VGN_L : Field := ⟨0, 8⟩
def CLU_NPSRC_SCALE : Field := ⟨16, 16⟩
def CLU_NPSRC_SAR : Field := ⟨0, 6⟩
def CLU_NPTGT_NP_TARGET : Field := ⟨0, 16⟩
def CLU_GMU_ZC_PTPN_HOLDOVER : Field := ⟨31, 1⟩
def CLU_REG_VCFG_SCALE : Field := ⟨16, 16⟩
def CLU_REG_VCFG_SRC : Field := ⟨0, 6⟩
def CLU_REG_VLIM_VMAX : Field := ⟨16, 16⟩
def CLU_REG_VLIM_VMIN : Field := ⟨0, 16⟩
def CLU_REG_STAT_CMDRES : Field := ⟨8, 8⟩
def CLU_REG_STAT_RSTATE : Field := ⟨0, 3⟩
def CLU_SYS_MEMBERS_MEMBERS : Field := ⟨0, 16⟩
def CLU_DC_PSRC_SCALE : Field := ⟨16, 16⟩
def CLU_DC_PSRC_CH : Field := ⟨0, 6⟩
def CLU_DC_VSRC_SCALE : Field := ⟨16, 16⟩
def CLU_DC_VSRC_CH : Field := ⟨0, 6⟩
def CLU_DC_PLAUS_TOL_REL : Field := ⟨24, 8⟩
def CLU_DC_PLAUS_TOL_A : Field := ⟨12, 12⟩
def CLU_DC_PLAUS_PLAUS_MIN : Field := ⟨0, 12⟩
def CLU_DC_DWELL_DWELL_DROP : Field := ⟨16, 16⟩
def CLU_DC_DWELL_DWELL_ADD : Field := ⟨0, 16⟩
def CLU_DC_SS_SS_TIME : Field := ⟨20, 12⟩
def CLU_DC_SS_SS_RAMP : Field := ⟨8, 12⟩
def CLU_DC_SS_SS_ILIM : Field := ⟨0, 8⟩
def CLU_DC_OPEN_OPEN_I : Field := ⟨16, 16⟩
def CLU_DC_OPEN_OPEN_DV : Field := ⟨0, 16⟩
def CLU_DC_SSTGT_V_TGT : Field := ⟨0, 16⟩
def CLU_DC_ILIM_EFF_ILIM_EFF : Field := ⟨0, 16⟩
def CLU_PV_LIM_VMAX_PV : Field := ⟨16, 16⟩
def CLU_PV_LIM_VMIN_PV : Field := ⟨0, 16⟩
def CLU_PV_SWEEP_INTERVAL : Field := ⟨24, 8⟩
def CLU_PV_SWEEP_MARGIN : Field := ⟨16, 8⟩
def CLU_PV_SWEEP_LINK_BAND : Field := ⟨0, 16⟩
def CLU_PV_VREF_VREF_PV : Field := ⟨0, 16⟩
def CLU_PV_SWRES_MOVED : Field := ⟨31, 1⟩
def CLU_DLC_VCFG_V_FULL : Field := ⟨16, 16⟩
def CLU_DLC_VCFG_V_START : Field := ⟨0, 16⟩
def CLU_DLC_HYS_V_HYS : Field := ⟨0, 16⟩
def CLU_DLC_THERM_RES : Field := ⟨16, 16⟩
def CLU_DLC_THERM_TAU : Field := ⟨8, 8⟩
def CLU_DLC_THERM_E_MAX : Field := ⟨0, 8⟩
def CLU_DLC_DISCH_V_DISCH : Field := ⟨0, 16⟩
def CLU_DLC_STAT_E_PCT : Field := ⟨24, 8⟩
def CHG_CFG_PROFILE : Field := ⟨30, 2⟩
def CHG_CFG_CELLS : Field := ⟨16, 10⟩
def CHG_ICHG_I_CHG : Field := ⟨16, 16⟩
def CHG_ICHG_I_TAPER : Field := ⟨0, 16⟩
def CHG_VCV_KCV : Field := ⟨16, 16⟩
def CHG_VCV_V_CV : Field := ⟨0, 16⟩
def CHG_TIMER_T_SAFE : Field := ⟨20, 12⟩
def CHG_TIMER_T_TAPER : Field := ⟨0, 16⟩
def CHG_NI_DV_CELL : Field := ⟨24, 8⟩
def CHG_NI_DTDT : Field := ⟨16, 8⟩
def CHG_NI_HOLDOFF : Field := ⟨8, 8⟩
def CHG_NI_PLAT_T : Field := ⟨0, 8⟩
def CHG_NI2_PLAT_SLOPE : Field := ⟨0, 8⟩
def CHG_FOLD_T_MAX : Field := ⟨16, 16⟩
def CHG_FOLD_T_FOLD : Field := ⟨0, 16⟩
def CHG_BMS_CANCH : Field := ⟨24, 3⟩
def CHG_BMS_FILT : Field := ⟨16, 5⟩
def CHG_BMS_BMS_TO : Field := ⟨0, 16⟩
def CHG_BMSMAP0_ICHG : Field := ⟨0, 6⟩
def CHG_BMSMAP0_IDIS : Field := ⟨6, 6⟩
def CHG_BMSMAP0_VMAX : Field := ⟨12, 6⟩
def CHG_BMSMAP0_VMIN : Field := ⟨18, 6⟩
def CHG_BMSMAP0_TEMP : Field := ⟨24, 6⟩
def CHG_BMSMAP0_BE : Field := ⟨31, 1⟩
def CHG_BMSMAP1_FLAGS : Field := ⟨0, 6⟩
def CHG_BMSMAP1_ALIVE : Field := ⟨6, 6⟩
def CHG_BMSMAP1_ALIVE_EN : Field := ⟨12, 1⟩
def CHG_SN_SN_IDIS : Field := ⟨16, 16⟩
def CHG_SN_SN_ICHG : Field := ⟨0, 16⟩
def CHG_SNCTL_SN_SO : Field := ⟨0, 4⟩
def CHG_BMSLIM_IDIS_BMS : Field := ⟨16, 16⟩
def CHG_BMSLIM_ICHG_BMS : Field := ⟨0, 16⟩
def CHG_BMSV_VMAX_BMS : Field := ⟨16, 16⟩
def CHG_BMSV_VMIN_BMS : Field := ⟨0, 16⟩
def CHG_BOUND_IDIS_B : Field := ⟨16, 16⟩
def CHG_BOUND_ICHG_B : Field := ⟨0, 16⟩
def CHG_IREF_TEMP_BMS : Field := ⟨16, 16⟩
def CHG_IREF_I_REF : Field := ⟨0, 16⟩
def CHG_SN_CFG_SN_TO : Field := ⟨0, 10⟩
def CHG_SN_STAT_CMDRES : Field := ⟨24, 8⟩
def CHG_SN_STAT_CAUSE : Field := ⟨8, 8⟩
def CHG_SN_STAT_FB : Field := ⟨0, 1⟩
def CHG_SN_FLAGS_CMDERR : Field := ⟨3, 1⟩
def CHG_SN_FLAGS_HB_SAME : Field := ⟨2, 1⟩
def CHG_SN_FLAGS_EXIT : Field := ⟨1, 1⟩
def CHG_SN_FLAGS_ENTER : Field := ⟨0, 1⟩
def PWR_HU_STAT_CMDRES : Field := ⟨24, 8⟩
def PWR_HU_STAT_FAULT : Field := ⟨8, 8⟩
def PWR_HU_STAT_HSTATE : Field := ⟨0, 4⟩
def PWR_HU_FLAGS_TIMER : Field := ⟨5, 1⟩
def PWR_HU_FLAGS_TEMP_PAUSE : Field := ⟨4, 1⟩
def PWR_HU_FLAGS_FAULT : Field := ⟨3, 1⟩
def PWR_HU_FLAGS_TERM : Field := ⟨2, 1⟩
def PWR_HU_FLAGS_REMOVED : Field := ⟨1, 1⟩
def PWR_HU_FLAGS_INSERTED : Field := ⟨0, 1⟩
def LDG_RESTH_RES_PPM : Field := ⟨16, 16⟩
def LDG_RESTH_RES_ABS : Field := ⟨0, 16⟩
def LDG_STAT_OUTAGE : Field := ⟨3, 1⟩
def LDG_STAT_WORN : Field := ⟨2, 1⟩
def LDG_STAT_RESTORED : Field := ⟨1, 1⟩
def LDG_STAT_ACTIVE : Field := ⟨0, 1⟩
def LDG_A_RATED_IRATED : Field := ⟨0, 16⟩
def MEAS_CTRL_LP_EN : Field := ⟨0, 1⟩
def MEAS_STAT_CMDRES : Field := ⟨24, 8⟩
def MEAS_STAT_OTP_OK : Field := ⟨2, 1⟩
def MEAS_STAT_REFOK : Field := ⟨1, 1⟩
def MEAS_STAT_LP_ACT : Field := ⟨0, 1⟩
def MEAS_MCLK_SAMPDLY : Field := ⟨8, 6⟩
def MEAS_MCLK_EN : Field := ⟨16, 1⟩
def MEAS_SAR_MASK_LPMASK : Field := ⟨8, 8⟩
def MEAS_SAR_MASK_MASK : Field := ⟨0, 8⟩
def MEAS_XC_CFG_XC_LIM : Field := ⟨24, 8⟩
def MEAS_XC_CFG_XC_TOL : Field := ⟨0, 10⟩
def MEAS_XC_STAT_PERIOD : Field := ⟨16, 16⟩
def MEAS_IN_CFG_SHIFT : Field := ⟨8, 4⟩
def MEAS_IN_CFG_NAVG : Field := ⟨0, 8⟩
def MEAS_IN_UCAL_UG : Field := ⟨16, 16⟩
def MEAS_IN_UCAL_UO : Field := ⟨0, 16⟩
def MEAS_IN_LAST_FLAGS : Field := ⟨16, 16⟩
def MEAS_IN_LAST_CODE : Field := ⟨0, 16⟩
def MEAS_MOD_FSD_FSD : Field := ⟨0, 12⟩
def MEAS_MOD_ADJ_ADJ : Field := ⟨0, 16⟩
def MEAS_PM_CFG_RANGE : Field := ⟨0, 2⟩
def MEAS_PM_CFG_EN : Field := ⟨31, 1⟩
def MEAS_PM_LAST_FLAGS : Field := ⟨24, 8⟩
def MEAS_PM_LAST_CODE : Field := ⟨0, 24⟩
def THM_JCFG_JACT : Field := ⟨16, 2⟩
def THM_JCFG_JTRIP : Field := ⟨8, 8⟩
def THM_JCFG_JWARN : Field := ⟨0, 8⟩
def THM_NCFG_NTRIP : Field := ⟨24, 8⟩
def THM_NCFG_FOLD_END : Field := ⟨16, 8⟩
def THM_NCFG_FOLD_START : Field := ⟨8, 8⟩
def THM_NCFG_NWARN : Field := ⟨0, 8⟩
def THM_NMODEL_RNOM : Field := ⟨0, 16⟩
def THM_NCTL_NACT : Field := ⟨24, 2⟩
def THM_NCTL_FOLD_MIN : Field := ⟨0, 8⟩
def THM_NCTL_AUTO : Field := ⟨31, 1⟩
def THM_SENS_VALID : Field := ⟨31, 1⟩
def THM_SENS_FAULT : Field := ⟨30, 1⟩
def SVR_FSW_FSW : Field := ⟨0, 11⟩
def SVR_VREF_SS_TIME : Field := ⟨24, 8⟩
def SVR_VREF_VREF : Field := ⟨0, 12⟩
def SVR_LOOP_KP : Field := ⟨20, 12⟩
def SVR_LOOP_KI : Field := ⟨8, 12⟩
def SVR_LOOP_KD : Field := ⟨0, 8⟩
def SVR_ILIM_GAIN : Field := ⟨16, 16⟩
def SVR_ILIM_ILIM : Field := ⟨0, 8⟩
def SVR_HICCUP_RETRIES : Field := ⟨20, 4⟩
def SVR_HICCUP_OFF : Field := ⟨0, 9⟩
def SVR_OVP_OV : Field := ⟨0, 8⟩
def SVR_SHED0_DROP_4 : Field := ⟨16, 8⟩
def SVR_SHED0_DROP_3 : Field := ⟨8, 8⟩
def SVR_SHED0_DROP_2 : Field := ⟨0, 8⟩
def SVR_SHED1_DWELL : Field := ⟨24, 8⟩
def SVR_SHED1_ADD_3 : Field := ⟨16, 8⟩
def SVR_SHED1_ADD_2 : Field := ⟨8, 8⟩
def SVR_SHED1_ADD_1 : Field := ⟨0, 8⟩
def SVR_MEAS_VSNS : Field := ⟨0, 12⟩
def AUXD_PWM_DT : Field := ⟨16, 16⟩
def AUXD_PWM_PT : Field := ⟨0, 16⟩
def AUXD_DUTYUV_DV : Field := ⟨16, 16⟩
def AUXD_DUTYUV_DU : Field := ⟨0, 16⟩
def AUXD_DUTYW_DW : Field := ⟨0, 16⟩
def AUXD_ILIM_GAIN : Field := ⟨16, 16⟩
def AUXD_ILIM_TRIP : Field := ⟨8, 8⟩
def AUXD_ILIM_ILIM : Field := ⟨0, 8⟩
def AUXD_VM_VM_OV : Field := ⟨8, 8⟩
def AUXD_VM_VM_UV : Field := ⟨0, 8⟩
def AUXD_MEAS_VM : Field := ⟨0, 16⟩
def FB_CFG_BW : Field := ⟨16, 3⟩
def FB_CFG_KIND : Field := ⟨0, 2⟩
def FB_CFG_ZCAP_EN : Field := ⟨4, 1⟩
def FB_CFG_DIRINV : Field := ⟨2, 1⟩
def FB_STAT_DIR : Field := ⟨31, 1⟩
def FB_FLAGS_CMPHIT : Field := ⟨2, 1⟩
def FB_FLAGS_ZCAP : Field := ⟨1, 1⟩
def FB_FLAGS_REV : Field := ⟨0, 1⟩
def DBG_STAT_CMDRES : Field := ⟨24, 8⟩
def DBG_STAT_ENDBG : Field := ⟨1, 1⟩
def DBG_FLAGS_CMDERR : Field := ⟨2, 1⟩
def DBG_FLAGS_HALTREF : Field := ⟨1, 1⟩
def DBG_FLAGS_SPLIT : Field := ⟨0, 1⟩
def SAFE_NET_EXPIRED : Field := ⟨17, 1⟩
def SAFE_NET_RUNNING : Field := ⟨16, 1⟩
def ETH_P_STAT_LOST : Field := ⟨5, 1⟩
def ETH_P_STAT_REFOK : Field := ⟨4, 1⟩
def ETH_P_STAT_AN_DONE : Field := ⟨1, 1⟩
def ETH_P_STAT_LINK : Field := ⟨0, 1⟩
def ETH_P_FLAGS_VIDDROP : Field := ⟨4, 1⟩
def ETH_P_FLAGS_OVERSIZE : Field := ⟨3, 1⟩
def ETH_P_FLAGS_FCSERR : Field := ⟨2, 1⟩
def ETH_P_FLAGS_RXOVF : Field := ⟨1, 1⟩
def ETH_P_FLAGS_LINKDN : Field := ⟨0, 1⟩
def ETH_P_MAC_HI_MAC : Field := ⟨0, 16⟩
def ETH_PTP_STAT_HO_TIME : Field := ⟨16, 16⟩
def ETH_PTP_STAT_EVER_LOCKED : Field := ⟨3, 1⟩
def ETH_PTP_STAT_HOLDOVER : Field := ⟨2, 1⟩
def ETH_PTP_STAT_LOCKED : Field := ⟨1, 1⟩
def ETH_PTP_FLAGS_STEP : Field := ⟨2, 1⟩
def ETH_PTP_FLAGS_HOLDOVER : Field := ⟨1, 1⟩
def ETH_PTP_FLAGS_LOCK : Field := ⟨0, 1⟩
def ETH_SNL_CFG_ETYPE : Field := ⟨16, 16⟩
def ETH_SNL_CFG_PCP : Field := ⟨12, 3⟩
def ETH_SNL_CFG_VID : Field := ⟨0, 12⟩
def ETH_SNL_PEER_HI_PEER : Field := ⟨0, 16⟩
def CAN_NBT_BRP : Field := ⟨24, 8⟩
def CAN_NBT_TSEG1 : Field := ⟨16, 8⟩
def CAN_NBT_TSEG2 : Field := ⟨8, 7⟩
def CAN_NBT_SJW : Field := ⟨0, 7⟩
def CAN_DBT_BRP : Field := ⟨24, 5⟩
def CAN_DBT_TSEG1 : Field := ⟨16, 5⟩
def CAN_DBT_TSEG2 : Field := ⟨8, 4⟩
def CAN_DBT_SJW : Field := ⟨0, 4⟩
def CAN_TDC_TDCO : Field := ⟨0, 7⟩
def CAN_TDC_TDC_EN : Field := ⟨31, 1⟩
def CAN_ERRCNT_TEC : Field := ⟨16, 9⟩
def CAN_ERRCNT_REC : Field := ⟨0, 8⟩
def CAN_RXR_BASE_DRAM : Field := ⟨4, 25⟩
def CAN_RXR_CFG_LOG2N : Field := ⟨0, 5⟩
def CAN_WAKE_ID_IDE : Field := ⟨29, 1⟩
def CAN_TB_ID_IDE : Field := ⟨29, 1⟩
def CAN_TB_ID_RTR : Field := ⟨30, 1⟩
def CAN_TB_ID_FDF : Field := ⟨31, 1⟩
def CAN_TB_CTL_DLC : Field := ⟨0, 4⟩
def CAN_TB_CTL_BRS : Field := ⟨4, 1⟩
def CAN_TB_STAT_OUTCOME : Field := ⟨16, 8⟩
def CAN_TB_STAT_OWN : Field := ⟨31, 1⟩
def CAN_FID_ID : Field := ⟨0, 29⟩
def CAN_FID_IDE : Field := ⟨29, 1⟩
def CAN_FMASK_MASK : Field := ⟨0, 29⟩
def CAN_FMASK_IDEM : Field := ⟨29, 1⟩
def CAN_FCFG_EN : Field := ⟨31, 1⟩
def CAN_FCFG_RING : Field := ⟨1, 1⟩
def CAN_FCFG_SLOT : Field := ⟨0, 1⟩
def CAN_FSTAT_LOST : Field := ⟨16, 16⟩
def HIF_CTRL_POLL : Field := ⟨16, 10⟩
def HIF_CTRL_POLL_EN : Field := ⟨31, 1⟩
def HIF_STAT_D3HOT : Field := ⟨1, 1⟩
def HIF_STAT_LINKUP : Field := ⟨0, 1⟩
def HIF_SHM_BASE_DRAM : Field := ⟨12, 17⟩
def HIF_ERRRING_STATUS : Field := ⟨8, 8⟩
def HIF_RING_STAT_FLUSHING : Field := ⟨3, 1⟩
def HIF_RING_STAT_STOPPED : Field := ⟨2, 1⟩
def HIF_RING_STAT_HELD : Field := ⟨1, 1⟩
def HIF_RING_STAT_ACTIVE : Field := ⟨0, 1⟩
def HIF_CAP_CFG_FLUSH : Field := ⟨16, 10⟩
def HIF_CAP_CFG_BLKSZ : Field := ⟨0, 3⟩
def MBX_CH_CFG_EPB : Field := ⟨20, 3⟩
def MBX_CH_CFG_EPA : Field := ⟨16, 3⟩
def MBX_CH_CFG_EN : Field := ⟨31, 1⟩
def MBX_CH_CFG_SEC_EPB : Field := ⟨20, 3⟩
def MBX_CH_CFG_SEC_EPA : Field := ⟨16, 3⟩
def MBX_CH_CFG_SEC_EN : Field := ⟨31, 1⟩
def MBX_CH_TO_ACK_TO : Field := ⟨16, 16⟩
def MBX_CH_TO_CROSS_TO : Field := ⟨0, 16⟩
def MBX_LAST_CODE : Field := ⟨16, 16⟩
def CTU_CFG_TXN_TO : Field := ⟨16, 16⟩
def CTU_CFG_COMMIT_TO : Field := ⟨0, 16⟩
def CTU_RES_RESULT : Field := ⟨24, 8⟩
def CTU_RES_TID : Field := ⟨16, 8⟩
def CTU_RES_SEQ : Field := ⟨8, 8⟩
def CTU_RES_REASON : Field := ⟨0, 8⟩
def CTU_BND_CLUSTER : Field := ⟨8, 4⟩
def CTU_STG_OFS_TID : Field := ⟨24, 8⟩
def CTU_STG_OFS_BAR0 : Field := ⟨0, 20⟩
def CTU_FLAGS_CMDERR : Field := ⟨5, 1⟩
def CTU_FLAGS_STGERR : Field := ⟨4, 1⟩
def CTU_FLAGS_CONFLICT : Field := ⟨3, 1⟩
def CTU_FLAGS_TIMEOUT : Field := ⟨2, 1⟩
def CTU_FLAGS_FAILED : Field := ⟨1, 1⟩
def CTU_FLAGS_APPLIED : Field := ⟨0, 1⟩
def CTU_T_STAT_TID : Field := ⟨24, 8⟩
def CTU_T_STAT_STATE : Field := ⟨16, 3⟩
def CTU_T_STAT_TAINT : Field := ⟨15, 1⟩
def REC_CTRL_FREEZE_TO : Field := ⟨16, 10⟩
def REC_CTRL_WEAR_WARN : Field := ⟨0, 8⟩
def REC_STAT_CMDRES : Field := ⟨24, 8⟩
def REC_STAT_CAPSTATE : Field := ⟨1, 2⟩
def REC_STAT_FROZEN : Field := ⟨0, 1⟩
def REC_FLAGS_CFGERR : Field := ⟨9, 1⟩
def REC_WEAR_SPARES : Field := ⟨16, 14⟩
def REC_WEAR_WEAR : Field := ⟨0, 16⟩
def REC_WEAR_WORN : Field := ⟨31, 1⟩
def REC_WEAR_WARN : Field := ⟨30, 1⟩
def REC_RD_BUF_DRAM : Field := ⟨6, 23⟩
def REC_CAP_BASE_DRAM : Field := ⟨12, 17⟩
def REC_CAP_WIN_POST : Field := ⟨16, 16⟩
def REC_CAP_WIN_PRE : Field := ⟨0, 16⟩
def REC_CAP_FIRST_DRAM : Field := ⟨0, 29⟩
def REC_CAP_TRIG_DRAM : Field := ⟨0, 29⟩
def REC_P_SRC_BAR0 : Field := ⟨0, 20⟩
def REC_SL_BAR0 : Field := ⟨0, 20⟩
def REC_SL_VALID : Field := ⟨31, 1⟩
def GLB_GUARD_CNT2_BREACH : Field := ⟨8, 8⟩
def GLB_GUARD_CNT2_COND_EVT : Field := ⟨0, 8⟩
def CLK_STAT_TB : Field := ⟨16, 1⟩

end Fld

end Sys2Proof.Machine
end

