-- ==== Sys2Proof/Machine/Bits.lean ====
section
/-!
DEFINITION. Bit fields of register words, sign extension, saturation, byte order, the CRC-16 of R168 and the CRC-32C of R338 and R351.
All arithmetic is on exact naturals and integers, narrowed at the end.
-/

namespace Sys2Proof.Machine

/-- The value of a field of a register word. -/
def Field.get (f : Field) (w : Word) : Nat := w.toNat / 2 ^ f.lo % 2 ^ f.len

/-- The word with a field replaced by the low bits of a value; every other bit stays. -/
def Field.put (f : Field) (w : Word) (v : Nat) : Word :=
  BitVec.ofNat 32 (w.toNat / 2 ^ (f.lo + f.len) * 2 ^ (f.lo + f.len) + v % 2 ^ f.len * 2 ^ f.lo + w.toNat % 2 ^ f.lo)

/-- The top of a field: the first bit above it. -/
def Field.top (f : Field) : Nat := f.lo + f.len

/-- A one-bit field as a Bool. -/
def Field.on (f : Field) (w : Word) : Bool := f.get w != 0

/-- A Bool as a field value. -/
def b2n (b : Bool) : Nat := if b then 1 else 0

/-- Two's complement reading of the low `n` bits of a natural. -/
def signed (n : Nat) (v : Nat) : Int :=
  let m := v % 2 ^ n
  if 2 * m < 2 ^ n then (m : Int) else (m : Int) - 2 ^ n

/-- Two's complement encoding of an integer in `n` bits. -/
def unsigned (n : Nat) (v : Int) : Nat := (v % (2 ^ n : Int)).toNat

/-- Saturation of a natural at the largest value of `n` bits. -/
def satN (n : Nat) (v : Nat) : Nat := min v (2 ^ n - 1)

/-- Saturation of an integer to the `n`-bit two's complement range. -/
def satI (n : Nat) (v : Int) : Int := max (-(2 ^ (n - 1) : Int)) (min v (2 ^ (n - 1) - 1 : Int))

/-- Clamp of an integer between two bounds. -/
def clampI (lo hi v : Int) : Int := max lo (min v hi)

/-- Clamp of a natural between two bounds. -/
def clampN (lo hi v : Nat) : Nat := max lo (min v hi)

/-- Signed value truncated to an unsigned 16-bit field with saturation. -/
def satU16 (v : Int) : Nat := (clampI 0 65535 v).toNat

/-- Signed value saturated to 16 bits and encoded. -/
def satS16 (v : Int) : Nat := unsigned 16 (satI 16 v)

/-- Whether bit `b` of a natural is set. -/
def bitOf (v b : Nat) : Bool := v / 2 ^ b % 2 == 1

/-- A natural with bit `b` set or cleared. -/
def putBit (v b : Nat) (on : Bool) : Nat :=
  v / 2 ^ (b + 1) * 2 ^ (b + 1) + b2n on * 2 ^ b + v % 2 ^ b

/-- The set bits of a natural below `n`, ascending. -/
def bitsOf (n v : Nat) : List Nat := (List.range n).filter (bitOf v)

/-- The number of set bits of a natural below `n`. -/
def popcount (n v : Nat) : Nat := (bitsOf n v).length

/-- Division of integers rounded to nearest, halves away from zero. -/
def divNear (a : Int) (b : Nat) : Int :=
  if a < 0 then -(((-a) * 2 + b) / (2 * b)) else (a * 2 + b) / (2 * b)

/-- The square root of a natural below 2^80, rounded down. -/
def isqrt (v : Nat) : Nat :=
  (List.range 40).foldl (fun r i => let t := r + 2 ^ (39 - i); if Nat.ble (t * t) v then t else r) 0

/-- The `n` bytes of a natural, least significant first. -/
def leBytes : Nat → Nat → List Byte
  | 0, _ => []
  | n + 1, v => BitVec.ofNat 8 v :: leBytes n (v / 256)

/-- The natural that little-endian bytes spell. -/
def leNat : List Byte → Nat
  | [] => 0
  | b :: t => b.toNat + 256 * leNat t

/-- The natural that big-endian bytes spell. -/
def beNat (l : List Byte) : Nat := leNat l.reverse

/-- One bit of a CRC-16 register, polynomial 0x1021, most significant bit first (R168). -/
def crc16Bit (c : Nat) : Nat := if Nat.ble 32768 c then (2 * c % 65536) ^^^ 0x1021 else 2 * c

/-- CRC-16 of the `n` bytes of a natural, the most significant first, with initial value 0xFFFF (R168). -/
def crc16 (n v : Nat) : Nat :=
  (leBytes n v).reverse.foldl (fun c b =>
    crc16Bit (crc16Bit (crc16Bit (crc16Bit (crc16Bit (crc16Bit (crc16Bit (crc16Bit (c ^^^ (b.toNat * 256)))))))))) 0xFFFF

/-- One bit of the reflected CRC-32C register (polynomial 0x1EDC6F41, reflected 0x82F63B78). -/
def crcBit (c : Nat) : Nat := if c % 2 == 1 then (c / 2) ^^^ 0x82F63B78 else c / 2

/-- Eight bits of the CRC-32C register. -/
def crcByte (c : Nat) (b : Byte) : Nat :=
  crcBit (crcBit (crcBit (crcBit (crcBit (crcBit (crcBit (crcBit (c ^^^ b.toNat))))))))

/-- CRC-32C (Castagnoli) of a byte string, initial value and final exclusive-or 0xFFFFFFFF (R338). -/
def crc32c (l : List Byte) : Nat := l.foldl crcByte 0xFFFFFFFF ^^^ 0xFFFFFFFF

end Sys2Proof.Machine
end

