-- ==== Sys2Proof/Machine/Sparse.lean ====
section
/-!
DEFINITION. Sparse storage in canonical form. `Cells` holds values at natural addresses (registers, DRAM, host memory):
addresses strictly rising, and no entry equal to what an unlisted address reads as. `File` holds named variables with one
default value for every unlisted name.
-/

namespace Sys2Proof.Machine

/-- Values at addresses, sparse. -/
abbrev Cells (α : Type) := List (Nat × α)

/-- The value at an address; an unlisted address reads as `d` of it. -/
def Cells.get {α : Type} (d : Nat → α) : Cells α → Nat → α
  | [], k => d k
  | (a, v) :: t, k => if a = k then v else Cells.get d t k

/-- The cells without one address. -/
def Cells.erase {α : Type} : Cells α → Nat → Cells α
  | [], _ => []
  | (a, v) :: t, k => if a = k then Cells.erase t k else (a, v) :: Cells.erase t k

/-- A cell placed before the first higher address. -/
def Cells.insert {α : Type} : Cells α → Nat → α → Cells α
  | [], k, v => [(k, v)]
  | (a, w) :: t, k, v => if k < a then (k, v) :: (a, w) :: t else (a, w) :: Cells.insert t k v

/-- A write: the address holds the value; writing what an unlisted address reads as removes the entry. -/
def Cells.set {α : Type} [DecidableEq α] (d : Nat → α) (m : Cells α) (k : Nat) (v : α) : Cells α :=
  if v = d k then Cells.erase m k else Cells.insert (Cells.erase m k) k v

/-- Canonical form above a bound: addresses at or above the bound, strictly rising, no entry equal to its default. -/
def Cells.wfFrom {α : Type} [DecidableEq α] (d : Nat → α) : Nat → Cells α → Bool
  | _, [] => true
  | n, (a, v) :: t => decide (n ≤ a) && decide (v ≠ d a) && Cells.wfFrom d (a + 1) t

/-- Canonical form. -/
def Cells.wf {α : Type} [DecidableEq α] (d : Nat → α) (m : Cells α) : Bool := Cells.wfFrom d 0 m

/-- Named variables, sparse. -/
abbrev File (κ α : Type) := List (κ × α)

/-- The value of a variable; an unlisted one has the default. -/
def File.get {κ α : Type} [DecidableEq κ] (d : α) : File κ α → κ → α
  | [], _ => d
  | (a, v) :: t, k => if a = k then v else File.get d t k

/-- The file without one variable. -/
def File.erase {κ α : Type} [DecidableEq κ] : File κ α → κ → File κ α
  | [], _ => []
  | (a, v) :: t, k => if a = k then File.erase t k else (a, v) :: File.erase t k

/-- A write of a variable. -/
def File.set {κ α : Type} [DecidableEq κ] [DecidableEq α] (d : α) (m : File κ α) (k : κ) (v : α) : File κ α :=
  if v = d then File.erase m k else (k, v) :: File.erase m k

/-- The bytes of a memory from an address on. -/
def Cells.bytes (m : Cells Byte) (a : Nat) : Nat → List Byte
  | 0 => []
  | n + 1 => Cells.get (fun _ => 0) m a :: Cells.bytes m (a + 1) n

/-- A byte string written from an address on. -/
def Cells.putBytes (m : Cells Byte) (a : Nat) : List Byte → Cells Byte
  | [] => m
  | b :: t => Cells.putBytes (Cells.set (fun _ => 0) m a b) (a + 1) t

end Sys2Proof.Machine
end

