-- ==== Sys2Proof/Machine/State.lean ====
section
/-!
DEFINITION. The state of the module: its registers (R445), its memories, and every unit's state that the manual gives and no
register shows. Plain data throughout. Times are in TB ticks of 2.5 ns unless a docstring says fine steps (1/16 tick, R14).
-/

namespace Sys2Proof.Machine

/-- No command ends in a fault: the manual gives every command of the table an effect, so no reason is needed. -/
inductive Fault where
  deriving DecidableEq, Repr

/-- Why a command is not executed. -/
inductive Refusal where
  /-- Raised by the dispatch for a command that has no meaning yet; safe: the machine stops. -/
  | notModelled (mnemonic : String)
  deriving DecidableEq, Repr

/-- The members of the family (R1). -/
inductive Variant where
  | v7608 | v7616 | v7624
  deriving DecidableEq, Repr

/-- The number of slots of a variant (R1). -/
def Variant.slots : Variant → Nat
  | .v7608 => 8 | .v7616 => 16 | .v7624 => 24

/-- The number of clusters of a variant (R1). -/
def Variant.clusters : Variant → Nat
  | .v7608 => 4 | .v7616 => 8 | .v7624 => 12

/-- The number of regions of a variant (R1). -/
def Variant.regions : Variant → Nat
  | .v7608 => 1 | .v7616 => 2 | .v7624 => 2

/-- Whether a variant has the instance of a register at an offset that the row hits (R2). -/
def RegRow.present (r : RegRow) (v : Variant) (a : Nat) : Bool :=
  match r.inst with
  | .any => true
  | .slot => Nat.blt (r.outer a) v.slots
  | .cluster => Nat.blt (r.outer a) v.clusters
  | .region => Nat.blt (r.outer a) v.regions
  | .region1 => Nat.blt 1 v.regions

/-- GLB_IDENT of a variant (R452): VARIANT, GRADE 0x1. -/
def Variant.ident : Variant → Word
  | .v7608 => 0x76081000 | .v7616 => 0x76161000 | .v7624 => 0x76241000

/-- What the PCIe function identifies itself with (R379, R470). -/
structure PcieIdent where
  vendor    : Nat := 0x1FD5
  device    : Nat
  subVendor : Nat := 0x1FD5
  subsystem : Nat := 0x0001
  revision  : Nat
  classCode : Nat := 0x118000
  deriving DecidableEq, Repr

/-- The fixed endpoints of the secure channels 8–15 (R408, R420): EN in bit 31, EPB in 22:20, EPA in 18:16. -/
def secureChannel : Nat → Word
  | 8 => 0x80600000 | 9 => 0x80610000 | 10 => 0x80620000 | 11 => 0x80630000
  | 12 => 0x80640000 | 13 => 0x80650000 | 14 => 0x80100000 | _ => 0

/-- The value of a register on entry to BOOT (R451). -/
def Reg.resetOf (v : Variant) (a : Nat) : Word :=
  if a = Reg.GLB_IDENT then v.ident
  else if Nat.ble 0x68080 a && Nat.blt a 0x68100 && (a % 0x10 == 0) then secureChannel ((a - 0x68000) / 0x10)
  else match Reg.row a with
    | some r => if r.present v a then r.reset else 0
    | none => 0

/-- The completion of a host read (R28, R380, R416): its data, Unsupported Request, Completer Abort, and the poisoned bit. -/
structure ReadCpl where
  data     : List Byte := []
  ur       : Bool := false
  ca       : Bool := false
  poisoned : Bool := false
  deriving DecidableEq, Repr

/-- One change of flag bits of a source register from 0 to 1, not yet aggregated (R454): source number, register, bits. -/
structure FlagEvent where
  src  : Nat
  addr : Nat
  bits : Nat
  deriving DecidableEq, Repr

/-- A recorder entry (R432): the header fields, and the payload as snapshot pairs and detail words. -/
structure RecEntry where
  kind     : Nat
  profile  : Nat
  seq      : Nat
  tbFine   : Nat
  ptpSec   : Nat
  ptpNs    : Nat
  devstate : Word
  source   : Nat
  bits     : Nat
  supp     : Nat
  tags     : Nat
  pairs    : List (Nat × Word)
  detail   : List Nat
  deriving DecidableEq, Repr

/-- A safety-log entry of Ringmaster (R317): an event code, its data and the key slot concerned. -/
structure SafetyEntry where
  code : Nat
  data : Nat
  key  : Nat
  deriving DecidableEq, Repr

/-- A clear-log record (R442). -/
structure ClearRec where
  index  : Nat
  first  : Nat
  last   : Nat
  tbFine : Nat
  ptpSec : Nat
  ptpNs  : Nat
  key    : Nat
  nonce  : Nat
  deriving DecidableEq, Repr

/-- One direction of a mailbox channel (R410–R415): the sender's staged pointer, the last notice, its presentation and its end. -/
structure NoticeDir where
  ptrLo     : Nat := 0
  ptrHi     : Nat := 0
  busy      : Bool := false
  seq       : Nat := 0
  code      : Nat := 0
  ackEpoch  : Nat := 0
  ackCode   : Nat := 0
  ptr       : Nat := 0
  tag       : Nat := 0
  valid     : Bool := false
  read      : Bool := false
  withdrawn : Bool := false
  repoch    : Nat := 0
  posted    : Nat := 0
  held      : Bool := false
  /-- The condition tag that the last acknowledgement carries (R32). -/
  tags      : Nat := 0
  deriving DecidableEq, Repr

/-- A device notice waiting for its direction to be free (R418): addressee's channel, tag, pointer. -/
structure DevNotice where
  chan : Nat
  tag  : Nat
  ptr  : Nat
  deriving DecidableEq, Repr

/-- An edge command on its way from the edge engine to the driver die (R87): channel, turn-on or turn-off, time in fine steps. -/
structure EdgeCmd where
  high : Bool
  on   : Bool
  time : Nat
  deriving DecidableEq, Repr

/-- The edge engine of a slot beyond its registers (R88–R111). Times in fine steps unless said otherwise. -/
structure Edge where
  /-- Shadow sets marked ready (R92), oldest first: tick of the write, and the words CMPA and CMPB, or PE0–PE7. -/
  shadow   : List (Nat × List Nat) := []
  /-- Active compare values (R92). -/
  cmpA     : Nat := 0
  cmpB     : Nat := 0
  /-- Active programmed-edge set, as PEi words; the state that holds until its first entry after it was loaded, or after the last carrier
  zero; when it was loaded (R93). -/
  pe       : List Nat := []
  peHold   : Nat := 0
  peSince  : Nat := 0
  /-- Start of the present carrier period of a switching slot, of the one before, and the length change of the present one under a phase
  slew (R90). -/
  perStart : Nat := 0
  prevStart : Nat := 0
  perDelta : Int := 0
  /-- The next carrier point is the peak of a triangle carrier (R88). -/
  peakNext : Bool := false
  /-- Where a committed carrier waits (R90): the word still in use, and the first carrier zero of the cluster after the commit. -/
  carrierOld : Option (Word × Nat) := none
  /-- Tick at which the conditions of a pending start were met (R101); whether it is a RESUME. -/
  startFrom : Nat := 0
  resume    : Bool := false
  /-- A channel held by the cluster modulator and until when, 0 for as long as it lasts (R156, R157). -/
  held     : Option (Nat × Nat) := none
  /-- An ordered stop (R101): its carrier point, and the SSTATE it leads to. -/
  stopTo    : Option (Nat × Nat) := none
  /-- The channel that the pattern last called for, and the one called for after the fast limit: 0 none, 1 low, 2 high. -/
  pat      : Nat := 0
  called   : Nat := 0
  /-- Time of the last turn-on and turn-off command of each channel. -/
  tOnH     : Nat := 0
  tOnL     : Nat := 0
  tOffH    : Nat := 0
  tOffL    : Nat := 0
  /-- Edge commands on the edge link (R87). -/
  cmds     : List EdgeCmd := []
  /-- The peak-current pulse of this period has ended (R94). -/
  pcmDone  : Bool := false
  /-- The channel barred by LIMACT 0b00 (0 none, 1 low, 2 high) and both barred by LIMACT 0b01 (R110). -/
  limBar   : Nat := 0
  limBoth  : Bool := false
  /-- The previous value of the fast-limit source lay beyond LIMIT, beyond TRIP (R110). -/
  wasLim   : Bool := false
  wasTrip  : Bool := false
  /-- Physical times of the refusals in the sliding window (R99). -/
  ilk      : List Nat := []
  /-- The latest samples of the loop source, newest first: stamp and code (R104). -/
  smps     : List (Nat × Int) := []
  /-- Acting points whose estimate is not yet formed, and the last one that fell due (R104). -/
  acts     : List Nat := []
  actSeen  : Option Nat := none
  /-- The last acting point (R107). -/
  lastAct  : Nat := 0
  /-- Integrator in 2^-16 LSB, direction of the last clamp, and whether the first update after a start is still due (R107). -/
  integ    : Int := 0
  clampDir : Int := 0
  first    : Bool := true
  /-- Stamp of the previous sample used by the loop (R107). -/
  lastUsed : Nat := 0
  deriving DecidableEq, Repr

/-- One channel of a driver die beyond its registers (R119–R131). -/
structure Gate where
  /-- 0 off and held with VGS below VGN + 2.0 V, 1–3 phases of a turn-on edge (3 is on), 11–13 phases of a turn-off edge, 21 and 22 steps of
a soft turn-off. -/
  phase    : Nat := 0
  /-- Start of the phase, and of the last turn-on edge (blanking, R130). -/
  since    : Nat := 0
  onSince  : Nat := 0
  /-- Arrival of the last turn-off command, fine steps (R98). -/
  offAt    : Nat := 0
  /-- The present edge runs in step-current mode (R128); edges left in that mode after a start. -/
  stepEdge : Bool := false
  stepLeft : Nat := 0
  /-- The present edge is a turn-on; its time in fine steps, its plateau code, its profile word; a limit met by it (R121, R122, R124). -/
  rising   : Bool := false
  edgeAt   : Nat := 0
  code     : Nat := 0
  prof     : Word := 0
  preLim   : Bool := false
  /-- The profile words of turn-on and turn-off before recent commits, each with the tick of its commit, oldest first (R124). -/
  oldOn    : List (Nat × Word) := []
  oldOff   : List (Nat × Word) := []
  /-- The desaturation comparator is above its threshold (R139). -/
  dsatUp   : Bool := false
  /-- Adapted plateau codes of turn-on and turn-off (R125); none is PLT_INIT. -/
  pOn      : Option Nat := none
  pOff     : Option Nat := none
  /-- Bias converter started at this time; supervision armed, or suspended by a commit of the bias code (R120). -/
  bias     : Option Nat := none
  armed    : Bool := false
  suspended : Bool := false
  /-- Rails inside their windows since (R120, R139). -/
  railIn   : Option Nat := none
  deriving DecidableEq, Repr

/-- A driver die beyond its channels and registers (R118–R144). -/
structure Drv where
  /-- Start of a soft turn-off in progress, and its SOFT_T (R131, R132). -/
  softAt    : Option Nat := none
  softT     : Nat := 0
  /-- Step 2 of it has begun. -/
  softStep2 : Option Nat := none
  /-- The gate-energy switch is to open when the soft turn-off ends (R136). -/
  openAfter : Bool := false
  /-- No turn-on until this time after a line release (R137). -/
  guardEnd  : Option Nat := none
  /-- The edge link delivers its frames, without a gap of 400 ticks since (R118, R139). -/
  linkUp    : Bool := true
  linkSince : Nat := 0
  /-- The line is at its off level since, until a failed confirmation is reported (R325). -/
  lineOffAt : Option Nat := some 0
  /-- The slot was switching then; the line is released since (R325). -/
  wasSwitching : Bool := false
  lineOnAt  : Option Nat := none
  /-- An off-state diagnosis is running since; link voltage at its start; it has since been more than V_TOL away from that (R142, R143). -/
  diagAt    : Option Nat := none
  diagV     : Nat := 0
  diagMoved : Bool := false
  /-- A diagnosis run since the last DSAT fault, since the last MOC fault, has given NORMAL (R139). -/
  normalSince : Bool := false
  normalMoc : Bool := false
  /-- The slot was commanded to start during the diagnosis (R143). -/
  diagAbort : Bool := false
  /-- H_FAILED and FCOUNT of the persistent store (R140). -/
  failed    : Bool := false
  fcount    : Nat := 0
  /-- A COMMISSION override is in force (R75); H_DIAG it suspends. -/
  override  : Bool := false
  diagHeld  : Bool := true
  /-- The fast-limit source lies beyond TRIP (R139). -/
  mocBeyond : Bool := false
  /-- The slot was marked failed in DIAG (R74, R75). -/
  marked    : Bool := false
  /-- Waiting for the re-diagnosis of step 5 of R74 (R143). -/
  pendDiag  : Bool := false
  /-- Last return frame that Ringmaster accepted; consecutive readings at or above the thresholds, and an NTC
  that reads open or shorted (R325, R327). -/
  frameAt   : Nat := 0
  frameSeen : Bool := false
  frameLost : Bool := false
  otRun     : Nat := 0
  ntcRun    : Nat := 0
  ntcOpen   : Bool := false
  deriving DecidableEq, Repr

/-- A cluster beyond its registers (R147–R202). -/
structure Cluster where
  /-- A Tightrope derate fault at this time; a thermal derate and a phase-count derate in force; last time any was active (R67). -/
  derAt      : Option Nat := none
  derThermal : Bool := false
  derPhase   : Bool := false
  /-- DRT scales the cluster (R153, R190): a Tightrope or thermal cause is active, or was at this time less than 1 s ago. -/
  derScale   : Bool := false
  scaleAt    : Option Nat := none
  /-- Pending and active setpoint sets with the pending sequence number (R162). -/
  spPend     : Option Nat := none
  spPendSet  : List Nat := []
  spActive   : List Nat := []
  spFrom     : Nat := 0
  /-- The cluster was stopped by the reaction of its region (R154). -/
  byRegion   : Bool := false
  /-- It was stopped for want of a shared reference (R172). -/
  byShare    : Bool := false
  /-- PAUSE is in progress (R151). -/
  pausing    : Bool := false
  deriving DecidableEq, Repr

/-- A DC-type cluster beyond its registers (R181–R200). Currents in µA, voltages in µV, times in ticks unless said otherwise. -/
structure Dc where
  /-- Port samples, newest first: stamp in fine steps and code (R104, R194); physical time of the last sample of port current and port voltage. -/
  ps       : List (Nat × Int) := []
  vs       : List (Nat × Int) := []
  psAt     : Nat := 0
  vsAt     : Nat := 0
  /-- The last cluster instant, fine steps; the last port estimates, and whether that instant formed them. -/
  instant  : Option Nat := none
  iPort    : Int := 0
  vPort    : Int := 0
  iOk      : Bool := false
  vOk      : Bool := false
  /-- The last FILT port-current estimates, newest first (R181). -/
  filt     : List Int := []
  /-- Soft start (R192): physical time of ENABLE, V0, and the reference published to the owner. -/
  ssAt     : Option Nat := none
  ssV0     : Option Int := none
  ssRef    : Int := 0
  /-- Time of an abort whose retry is due (R193). -/
  retryAt  : Option Nat := none
  /-- Consecutive instants above the overload limit (R189). -/
  ovl      : Nat := 0
  /-- Dwell timers (R184). -/
  dropAt   : Option Nat := none
  addAt    : Option Nat := none
  /-- The pending change request (R186): position, whether it is an add, time of decision, TB tick of the acknowledgement. -/
  req      : Option (Nat × Bool × Nat × Option Nat) := none
  /-- The change record last delivered to the owner (R186, R187): the active mask, and the angles of its positions. -/
  change   : Nat × List Nat := (0, [])
  /-- Port open declared: when, and the failing evaluations before it; a plausibility fault declared: when (R201). -/
  openAt   : Option (Nat × Nat) := none
  plausAt  : Option Nat := none
  /-- MPPT (R196): sums of V·I in µV·µA, of V and of I over the interval with their count, the previous interval's P, V and I,
  the direction, and the time of the last update. -/
  sumP     : Int := 0
  sumV     : Int := 0
  sumI     : Int := 0
  cnt      : Nat := 0
  pPrev    : Int := 0
  vPrev    : Int := 0
  iPrev    : Int := 0
  dir      : Int := 1
  mpptAt   : Nat := 0
  /-- A sweep (R197): its start, the saved VREF_PV and P, the link voltage at its start; the point being measured with its sums; the
  measured points as power in µV·µA; the time of the last sweep; one that is due waits. -/
  swAt     : Option Nat := none
  swRef    : Nat := 0
  swP      : Int := 0
  swLink   : Int := 0
  swPoint  : Nat := 0
  swV      : Int := 0
  swI      : Int := 0
  swN      : Nat := 0
  swPow    : List Int := []
  swLast   : Nat := 0
  swDue    : Bool := false
  /-- The DLC law is on (R198); the energy of its thermal model in µJ, and the TB in fine steps to which it is carried (R199). -/
  dlcOn    : Bool := false
  energy   : Nat := 0
  energyAt : Nat := 0
  deriving DecidableEq, Repr

/-- The quantities of a BMU frame (R204): currents 0.1 A, voltages 0.1 V, temperature 0.1 °C, FLAGS and ALIVE. -/
structure BmuLim where
  ichg  : Nat
  idis  : Nat
  vmax  : Nat
  vmin  : Nat
  temp  : Int
  flags : Nat
  alive : Nat
  deriving DecidableEq, Repr

/-- A charge engine beyond its registers (R203–R213). -/
structure Chg where
  /-- The limits in force; the received frames that wait for their cluster instant, each with its TB tick and whether it has come since ENABLE; the
  FLAGS of the frames that took effect at the last instant; the time of the last valid frame. -/
  lim      : Option BmuLim := none
  wait     : List (Nat × BmuLim × Bool) := []
  flags    : Nat := 0
  frameAt  : Nat := 0
  /-- A frame has come since ENABLE (R203); the BMU is silent (R205). -/
  sinceEn  : Bool := false
  silent   : Bool := false
  /-- I_REF in nA (R208). -/
  iref     : Nat := 0
  /-- ESTATE and REASON before START (R217). -/
  before   : Nat × Nat := (0, 0)
  /-- START, the time spent in foldback until now, and the start of the foldback in progress (R211). -/
  startAt  : Nat := 0
  folded   : Nat := 0
  foldAt   : Option Nat := none
  /-- The filtered current has stayed at or below I_TAPER since (R208). -/
  taperAt  : Option Nat := none
  /-- The 1 s windows (R209): start, sum of the port voltage in µV and count, the means and temperatures of past windows, newest first,
  the stored peak, the runs of the two tests and the start of the plateau. -/
  winAt    : Nat := 0
  winSum   : Int := 0
  winN     : Nat := 0
  means    : List (Int × Int) := []
  peak     : Int := 0
  dvRun    : Nat := 0
  dtRun    : Nat := 0
  platAt   : Option Nat := none
  deriving DecidableEq, Repr

/-- Safety Net (R214–R216): time of the last heartbeat; that from which SN_TO runs, none once it has expired; the start of the fallback. -/
structure SafetyNet where
  hbAt  : Option Nat := none
  watch : Option Nat := some 0
  fbAt  : Nat := 0
  deriving DecidableEq, Repr

/-- The hold-up pack charger beyond its registers (R218, R219). Charge in mC. -/
structure Pack where
  q       : Nat := 0
  /-- The pack and its NTC have been in range since. -/
  seenAt  : Option Nat := none
  /-- The pack voltage last measured outside charge pulses, mV (R220). -/
  restMv  : Nat := 0
  /-- Start of PRECHARGE or FAST, and the windows of FAST: last window, peak, runs, temperatures newest first. -/
  phaseAt : Nat := 0
  winAt   : Nat := 0
  peak    : Nat := 0
  dvRun   : Nat := 0
  dtRun   : Nat := 0
  temps   : List Int := []
  /-- The state that PAUSED left, and since when the pack has been inside 5–45 °C. -/
  left    : Nat := 0
  coolAt  : Option Nat := none
  /-- The last probe and the last daily fall of Q. -/
  probeAt : Nat := 0
  dayAt   : Nat := 0
  deriving DecidableEq, Repr

/-- A journal record of the ledger (R230). -/
structure JRec where
  kind   : Nat
  region : Nat
  tags   : Nat
  ivl    : Nat
  t1     : Nat
  t2     : Nat
  ptps   : Nat
  ptpn   : Nat
  v2     : Int
  cnts   : List Nat
  gapQ   : List Nat
  gapE   : List Nat
  first  : Nat
  deriving DecidableEq, Repr

/-- The factory calibration of an input (R255): offset and its temperature coefficient in 2^-16 code and 2^-16 code per °C, gain as its deviation from
1 and the temperature coefficient of the gain in 2^-30. -/
structure FactoryCal where
  ofs  : Int := 0
  tco  : Int := 0
  gain : Int := 0
  tcg  : Int := 0
  deriving DecidableEq, Repr

/-- A record that waits for the journal (R230): whether it has been counted as held in DRAM, the tick of its close, the kinds of the early closes it
covers, the account of a port close, and of the intervals it covers the largest |I| per account, nA, and the largest link voltage, mV (R233). -/
structure HeldRec where
  counted : Bool
  close   : Nat
  early   : List Nat
  acct    : Option Nat
  peakI   : List Nat
  peakV   : Nat
  jrec    : JRec
  deriving DecidableEq, Repr

/-- A region's ledger beyond its registers (R224–R234). -/
structure Ldg where
  /-- The running counters: IN_Q, OUT_Q, IN_E, OUT_E of accounts 0–11, then of the residual account. -/
  cnts   : List Nat := List.replicate 52 0
  /-- Fractions below one unit, exact, in parts of 1/(32·10^9) nC and 1/(32·10^15) µJ, in the same order (R226). -/
  fracs  : List Nat := List.replicate 52 0
  /-- Postings of the open interval, in the same order. -/
  posts  : List Nat := List.replicate 52 0
  /-- |I| of the last sample and the largest since the last close, nA; the largest link voltage since it, mV. -/
  iLast  : List Nat := List.replicate 12 0
  iMax   : List Nat := List.replicate 12 0
  vMax   : Nat := 0
  /-- Link voltage at the previous close and at the last sample, mV. -/
  v1     : Option Int := none
  v2     : Int := 0
  /-- Number of the open interval, its first and last stamp in fine steps, PTP seconds and nanoseconds word at the last sample, its tags, and the
  TB tick at which it ends. -/
  ivl    : Nat := 1
  t1     : Option Nat := none
  t2     : Nat := 0
  ptp2   : Nat × Nat := (0, 0)
  tags   : Nat := 0
  endAt  : Nat := 400000000
  /-- Close of the last committed record, TB ticks. -/
  tc     : Nat := 0
  /-- Records waiting, oldest first; the interval numbers of records lost before they were written (R230). -/
  held   : List HeldRec := []
  lost   : List Nat := []
  /-- Start of a metering outage, TB ticks (R234). -/
  outAt  : Option Nat := none
  deriving DecidableEq, Repr

/-- The measurement die beyond its registers (R241–R258). -/
structure Meas where
  /-- Record count per source, as a number: SAR 0–63, modulator 64–87, precision 88–95 (R238). -/
  seqs    : File Nat Nat := []
  /-- The calibration commit whose first record is still due, per source. -/
  calNew  : List Nat := []
  /-- A pair is faulted; a running PAIR_RESET with the scans observed and whether one disagreed (R246). -/
  faulted : List Nat := []
  pairChk : File Nat (Option (Nat × Bool)) := []
  /-- A running INPUT_RESET. -/
  inChk   : List Nat := []
  /-- The precision channels have converted at this stamp, fine steps; the stamp of the previous sample of each, none after BOOT or a metering
  outage (R226). -/
  pmStamp : Nat := 0
  pmPrev  : List (Option Nat) := List.replicate 8 none
  refAt   : Nat := 0
  /-- The tick at which the next scan of a pair begins (R241), and whether its present scan is a low-power one. -/
  scanAt  : File Nat Nat := []
  lowScan : List Nat := []
  /-- The pairs that have still to complete a full-rate scan before ARMED or DIAG is entered (R248), with the command that waits. -/
  fullDue : List Nat := []
  /-- Registers of the bank changed by commits: the tick of each, newest first, and the word in force for work that began before (R257, R259). -/
  old     : File Nat (List (Nat × Word)) := []
  /-- Physical time at which a source was last marked invalid (R260). -/
  marked  : File Nat Nat := []
  /-- TB right after the step of R112. -/
  stepAt  : Option Nat := none
  deriving DecidableEq, Repr

/-- A service-regulator controller beyond its registers (R270–R276). Voltages in mV, times physical. -/
structure Svr where
  /-- Start of the soft start, with the VSNS it began at, and the ticks by which holds have paused its ramp. -/
  ssAt    : Nat := 0
  vStart  : Option Nat := none
  paused  : Nat := 0
  /-- Limited periods in a row; integrator in 2^-8 LSB; the previous error; the duty applied (Q0.16). -/
  limRun  : Nat := 0
  integ   : Int := 0
  ePrev   : Int := 0
  duty    : Nat := 0
  /-- Start of HICCUP, and of the present continuous RUN. -/
  hicAt   : Nat := 0
  runAt   : Nat := 0
  /-- FLT_N is low; high again since. -/
  fltLow  : Bool := false
  fltAt   : Nat := 0
  /-- The period in ticks, the period of SVR_SYNC, and when the last period was computed. -/
  period  : Nat := 0
  syncT   : Nat := 0
  perAt   : Nat := 0
  /-- Each phase's low side was last on for 120 ticks at; the phases whose pulse of this period is shortened (R275). -/
  lowAt   : List Nat := [0, 0, 0, 0]
  force   : List Nat := []
  /-- Dwell timers (R276). -/
  dropAt  : Option Nat := none
  addAt   : Option Nat := none
  deriving DecidableEq, Repr

/-- An auxiliary drive beyond its registers (R282–R287). -/
structure Aux where
  /-- The shadow duties after each write, oldest first: TB tick, DU, DV, DW; the ticks of the writes of DUTYW that mark a set ready; the active
  set. -/
  shadow : List (Nat × List Nat) := []
  ready  : List Nat := []
  duties : List Nat := [0, 0, 0]
  /-- EN was cleared, at this TB tick: OFF at the next carrier zero. -/
  stop   : Bool := false
  stopAt : Nat := 0
  /-- The last carrier zero that was served, TB ticks. -/
  zero   : Option Nat := none
  /-- The high and the low phase of HALL6, 0–2 (R284). -/
  pat    : Option (Nat × Nat) := none
  /-- TB ticks of the last change of that pattern, and of the ILIM that acted in this period. -/
  patAt  : Nat := 0
  limAt  : Nat := 0
  /-- ILIM has acted in this period; VM has been inside its window since; each phase's low side was last on for 120 ticks at; the phases whose
  pulse of this period is shortened, and the start of each phase's bootstrap hold (R285). -/
  limNow : Bool := false
  vmAt   : Option Nat := none
  lowAt  : List Nat := [0, 0, 0]
  force  : List Nat := []
  bstAt  : List Nat := [0, 0, 0]
  deriving DecidableEq, Repr

/-- A feedback interface beyond its registers (R288–R293): levels of A, B, Z as last read; observer position in 2^-32 count and speed in
2^-32 count/s. -/
structure Fb where
  lines : List Bool := [false, false, false]
  hall  : Option Nat := none
  dir   : Option Bool := none
  opos  : Int := 0
  speed : Int := 0
  obsAt : Nat := 0
  deriving DecidableEq, Repr

/-- Thermal supervision beyond its registers (R263–R269): sources above their thresholds, by location; sensors above the fixed trip;
the start of the release count; the last reading cycle. -/
structure Thm where
  jwarn  : List Nat := []
  jtrip  : List Nat := []
  nwarn  : List Nat := []
  ntrip  : List Nat := []
  hot    : List Nat := []
  coolAt : Option Nat := none
  readAt : Nat := 0
  deriving DecidableEq, Repr

/-- A message waiting for its vector (R456). -/
structure MsiVec where
  /-- Time of the last message, and messages issued. -/
  last     : Option Nat := none
  sent     : Nat := 0
  /-- Held by the 1 µs spacing, or withheld while bus mastering is disabled. -/
  waiting  : Bool := false
  withheld : Bool := false
  deriving DecidableEq, Repr

/-- A descriptor fetched and not yet executed (R386): its index, its 64 bytes, and whether its fetch failed. -/
structure Fetched where
  index : Nat
  bytes : List Byte
  ok    : Bool
  deriving DecidableEq, Repr

/-- A host ring beyond its registers (R383–R403). -/
structure RingSt where
  /-- Event entries or capture records lost since the last report (R402, R403). -/
  lost     : Nat := 0
  /-- Entries written since the last message, and the first not yet signalled (R399). -/
  irqCount : Nat := 0
  irqSince : Option Nat := none
  /-- Completion entries reserved (R387). -/
  reserved : Nat := 0
  /-- Descriptors fetched and waiting, in index order (R386). -/
  queue    : List Fetched := []
  /-- A descriptor whose execution waits: a COMMIT for its boundary, or CAN_TX for its buffer (R388): index, TID or buffer. -/
  waiting  : Option (Fetched × Nat) := none
  /-- CAN_TX descriptors of a bound ring in transmit buffers (R366): index, buffer, opcode word. -/
  inBuf    : List (Fetched × Nat) := []
  /-- Completions that could not be written yet (R382, R400): descriptor index, the entry with PHASE 0, IRQ. Indices adopted (R401). -/
  held     : List (Nat × List Byte × Bool) := []
  /-- The condition tag of each completion produced while a condition of R31 was unmet, by descriptor index (R32). -/
  ctags    : File Nat Nat := []
  /-- Indices above the done-head that have completed. -/
  doneSet  : List Nat := []
  adopted  : List Nat := []
  /-- Records of the open capture block, with the time of the first, and records held while no block is free (R403). -/
  block    : List (List Byte) := []
  blockAt  : Option Nat := none
  deriving DecidableEq, Repr

/-- Barker beyond its rings (R386, R388): time of the last read of the doorbell page, whether one is in progress, whether a nudge has come
meanwhile, and the ring that each priority served last (by PRIO; none so far counts as ring 11). -/
structure Barker where
  pollAt  : Nat := 0
  reading : Bool := false
  again   : Bool := false
  served  : List (Nat × Nat) := []
  deriving DecidableEq, Repr

/-- A released transaction that not every copy has presented yet (R300, R301): index, compared fields, time of release, copies. -/
structure Released where
  index   : Nat
  fields  : TxFields
  time    : Nat
  lagging : List Nat
  deriving DecidableEq, Repr

/-- A triplet beyond its registers (R298–R315). -/
structure TripSt where
  /-- Released stores, oldest first, that have not yet reached the register they address (R300). -/
  stores  : List TxFields := []
  /-- An image runs on the triplet (R69–R71); for MT, it is up and not restarting (R416). -/
  runs    : Bool := false
  /-- Asynchronous inputs: the instruction count each is assigned to, and its code (R303). -/
  inputs  : List (Nat × Nat) := []
  /-- Highest instruction count reported by each copy. -/
  icount  : List Nat := [0, 0, 0]
  /-- Transactions released since reset or resynchronisation; presentations held per copy; released ones still awaited (R300, R301). -/
  rel     : Nat := 0
  present : List (Nat × TripTx) := []
  waits   : List Released := []
  /-- The last index presented by each copy, plus one. -/
  last    : List Nat := [0, 0, 0]
  /-- Two presentations of the next index differ since (R302). -/
  diffAt  : Option Nat := none
  /-- Fences: copy and time (R308). -/
  fences  : List (Nat × Nat) := []
  /-- Start of the resynchronisation in progress; the copies rebuilt last, for their first 64 transactions
  (R307, R308). -/
  rsAt    : Nat := 0
  rebuilt : List Nat := []
  /-- The state of its image: 0 not loaded since BOOT, 1 verified, 2 both copies failed (R71); the copy that was loaded; a trial mark was
  removed by this BOOT (R70). -/
  img     : Nat := 0
  copyB   : Bool := false
  removed : Bool := false
  /-- The debug copy is halted; breakpoints and watchpoints (R310, R312). -/
  halted  : Bool := false
  breaks  : List Nat := []
  /-- Error responses to its mailbox accesses (R409, R411, R416). -/
  respErr : Nat := 0
  deriving DecidableEq, Repr

/-- A recorder profile beyond its registers (R435): time of its last recorded trigger, suppressed since its last entry. -/
structure ProfSt where
  last : Option Nat := none
  supp : Nat := 0
  deriving DecidableEq, Repr

/-- The recorder and the waveform capture beyond their registers (R433–R441). -/
structure RecSt where
  /-- Sequence numbers issued (R433). -/
  issued    : Nat := 0
  /-- Units of 64 bytes held in the store. -/
  frozenAt  : Nat := 0
  /-- ARMED since; time of the capture trigger; records written since ARMED (R438). -/
  armedAt   : Nat := 0
  trigAt    : Nat := 0
  /-- Ring position in the capture area, and whether it has wrapped. -/
  wrPos     : Nat := 0
  wrapped   : Bool := false
  trigSeen  : Bool := false
  /-- Record counts of edge reports, estimates and feedback hits (R404). -/
  seqs      : File Nat Nat := []
  /-- A COPY is running: newest SEQ or index at its start (R440). -/
  copying   : Option Nat := none
  /-- A CLEAR is authorised until this time, with its key slot and nonce (R441). -/
  clearAuth : Option (Nat × Nat × Nat) := none
  /-- Breach records that found the queue full or the partition worn, oldest first: source and object (R32). -/
  due       : List (Nat × List Nat) := []
  deriving DecidableEq, Repr

/-- A copy of a firmware image in partition 3 (R70): present, its security version and firmware number, its marks; it has booted since it was
written; for a trial copy of Ringmaster, a BOOT of the device has come since. -/
structure ImgCopy where
  present : Bool := false
  ver     : Nat := 0
  fw      : Word := 0
  good    : Bool := false
  trial   : Bool := false
  ran     : Bool := false
  aged    : Bool := false
  deriving DecidableEq, Repr

/-- The persistent store and the non-volatile memory of Ringmaster, without the logs (R69, R70, R81, R83, R85, R338). -/
structure Store where
  /-- Images by kind (0 Ringmaster, 1 Huavos, 2–5 LT0–LT3) and copy (true is B). -/
  images   : File (Nat × Bool) ImgCopy := []
  /-- Anti-rollback counters by kind. -/
  rollback : File Nat Nat := []
  /-- Dravad's key hashes in key slots 0 and 1 and the owner's in 2 and 3, as fused; the slots whose revocation bit is set (R69). -/
  dravad   : List Nat := [0, 0]
  owner    : List (Nat × Nat) := []
  revoked  : List Nat := []
  /-- Commissioning keys: slot, key, revoked. -/
  keys     : List (Nat × Nat × Bool) := []
  /-- The commissioning-lock record: locked, ever locked, times locked. -/
  locked   : Bool := false
  ever     : Bool := false
  lockCnt  : Nat := 0
  /-- The LOCKOUT record (R81). -/
  lockout  : Option Nat := none
  /-- The confirmed check value and the last delivered safety parameter set (R338, R339). -/
  conf     : Option Nat := none
  pars     : List Word := []
  /-- Times of the SAFE entries, in ticks of VAUX_B presence (R81). -/
  safeAt   : List Nat := []
  /-- Units of 64 bytes written to each partition (R431). -/
  written  : File Nat Nat := []
  /-- The active configuration image (R72). -/
  config   : Option ConfigImage := none
  /-- The factory calibration in one-time-programmable storage (R255), by input: SAR inputs 0–63, the XC input of core c at 100 + c, precision
  channel m in RANGE r at 200 + 4·m + r. -/
  factory  : File Nat FactoryCal := []
  deriving DecidableEq, Repr

/-- Authorisations in progress (R83). -/
structure Auths where
  /-- The nonce last read, and when. -/
  nonce   : Option (Nat × Nat) := none
  /-- The key slot of the COMMISSION session, and its start. -/
  session : Option (Nat × Nat) := none
  /-- The first commissioning key waiting for proof of presence, and the time of the request. -/
  install : Option (Nat × Nat) := none
  deriving DecidableEq, Repr

/-- What the persistent store holds besides the journal (R59): the store, recorder and clear log, and H_FAILED with FCOUNT by slot. -/
structure StoreImage where
  store  : Store
  recs   : List RecEntry
  clears : List ClearRec
  slots  : List (Nat × Bool × Nat)
  deriving DecidableEq, Repr

/-- Supplies (R50–R59). -/
structure Power where
  /-- The supply is present: above its rising threshold and not since below its falling one. -/
  vauxA   : Bool := false
  vauxB   : Bool := false
  /-- VSO is inside its window, as Ringmaster finds it (R51, R57). -/
  vso     : Bool := false
  /-- Supplies and rails outside their windows, one bit each: VAUX_A, VAUX_B, VSO, VIO0–5, then the store and other die rails. -/
  out     : Nat := 0
  /-- Clock domains TD0–TD13 that are lost, one bit each (R12). -/
  clkLost : Nat := 0
  /-- VAUX_A came before VAUX_B (R53). -/
  seqErr  : Bool := false
  /-- A power-loss sequence runs since; it is that of R54 (with the pack) or of R55. -/
  lossAt  : Option Nat := none
  onPack  : Bool := false
  /-- The last power-down completed on pack power (R54). -/
  holdupRun : Bool := false
  /-- The store rail is out: writes are held (R59). -/
  storeHeld : Bool := false
  /-- What the store held when its rail left its window (R59). -/
  stored  : Option StoreImage := none
  /-- The reference in use since the last BOOT is an external one on XTAL_IN (R42, R453). -/
  extRef  : Bool := false
  deriving DecidableEq, Repr

/-- The diagnostics sequence of R74. -/
structure Diag where
  /-- Step 1–5; 0 is none. -/
  step    : Nat := 0
  /-- The slot due in step 2 or 3. -/
  slot    : Nat := 0
  /-- Start of the last bias start. -/
  biasAt  : Option Nat := none
  deriving DecidableEq, Repr

/-- A region's precharge and control-plane supervision beyond the registers (R77, R154). -/
structure Region where
  tp       : Option Nat := none
  checked  : Bool := false
  overlapAt : Option Nat := none
  /-- The link voltage has been inside its limits since; the last sample, in time (R154). -/
  insideAt : Option Nat := none
  sampleAt : Nat := 0
  /-- Times since when the two Ringmaster channels differ by more than VDISC (R326). -/
  discAt   : Option Nat := none
  /-- The link voltage of the control plane, µV (R154); the last sample lay beyond a limit; the loss of measurement has been declared. -/
  vUv      : Int := 0
  beyond   : Bool := false
  lost     : Bool := false
  deriving DecidableEq, Repr

/-- Ringmaster beyond its registers (R317–R341). -/
structure Rm where
  /-- It has signalled ready or failed (R68); the self-test failed; no copy of its firmware booted, with the cause of R71. -/
  ready    : Bool := false
  failed   : Bool := false
  noImage  : Option Nat := none
  /-- Armed on the check value (R73); a parameter set has been delivered since BOOT (R338). -/
  armed    : Bool := false
  delivered : Bool := false
  /-- SAFE_DEMAND bits whose cause is present (R321). -/
  causes   : Nat := 0
  /-- HOLD_LINES and SO_OFF in force, by channel (R419). -/
  holds    : List (Nat × Nat) := []
  soOffs   : List (Nat × Nat) := []
  /-- Outputs that Safety Net holds off (R215). -/
  snOff    : Nat := 0
  /-- Lines held off for fenced slots (R175). -/
  fenceOff : Nat := 0
  /-- Cores taken out of the vote, those that stay out, and the decisions in a row in which each differed (R318). -/
  outAt    : List (Nat × Nat) := []
  dead     : Nat := 0
  differ   : List Nat := [0, 0, 0]
  /-- The last alive word (R319); windows in a row beyond 5 % (R13). -/
  aliveAt  : Nat := 0
  tbDev    : Nat := 0
  /-- The reset input: released since, press began (R336). -/
  relAt    : Option Nat := none
  pressAt  : Option Nat := none
  /-- Last SAFE_SI sample of each channel and its run (R329); per pair, the states seen since its fault (R330). -/
  siRun    : File Nat (Nat × Nat) := []
  siSeen   : File Nat Nat := []
  /-- Start of a disagreement of each pair. -/
  siDisc   : File Nat Nat := []
  /-- The output under test with its switch; the switch whose turn is next, one bit per output; when the pulse began or ended (R334). -/
  soTest   : Option (Nat × Nat) := none
  soTurn   : Nat := 0
  soPulseAt : Nat := 0
  soReturn : Option Nat := none
  soLast   : File Nat Nat := []
  /-- Start or last restart of the network watchdog, and its last expiry (R328, R358). -/
  netAt    : Nat := 0
  netExpAt : Option Nat := none
  /-- Ticks during which VAUX_B was present (R81). -/
  vbTicks  : Nat := 0
  /-- Comparators that failed their last test: bit 2g for VA, 2g + 1 for VB of region g (R326). -/
  cmpFail  : Nat := 0
  /-- The configuration image of this CONFIG: 0 not yet applied, 1 applied, 2 failed, 3 corrected in place (R72). -/
  image    : Nat := 0
  /-- TD12 is lost (R12). -/
  td12Lost : Bool := false
  deriving DecidableEq, Repr

/-- A configuration transaction beyond its registers (R421–R427): staged words in ascending offset order, time of the last operation,
of the COMMIT, end of its validation in fine steps, boundary code and cluster, planned instant in fine steps, ring of its COMMIT
descriptor. -/
structure Txn where
  staged  : List (Nat × Word) := []
  lastOp  : Nat := 0
  commitAt : Nat := 0
  tv      : Nat := 0
  bnd     : Nat := 0
  clu     : Nat := 0
  tc      : Option Nat := none
  ring    : Option Nat := none
  deriving DecidableEq, Repr

/-- The grid measurement unit of a cluster (R160). -/
structure Gmu where
  angle  : Option Nat := none
  freq   : Nat := 0
  lastZc : Nat := 0
  deriving DecidableEq, Repr

/-- The neutral-point modulator of a GFI-3L cluster (R156–R158): chosen sign of the offset and its size in 2^-16; the offset that each phase
has loaded; polarity of each phase reference (true is negative). -/
structure NpMod where
  sgn    : Int := 0
  v0     : Nat := 0
  loaded : List Int := [0, 0, 0]
  neg    : List Bool := [false, false, false]
  /-- V(NP) against DC−, µV. -/
  vNp    : Int := 0
  deriving DecidableEq, Repr

/-- The shared reference of one group (R172): angle, id, iq as received last and before. -/
structure ShareRef where
  angle : Nat := 0
  prev  : Nat := 0
  id    : Int := 0
  iq    : Int := 0
  valid : Bool := false
  /-- A reference has been received or given. -/
  known : Bool := false
  deriving DecidableEq, Repr

/-- The states of RIDE (R166). -/
inductive RideSt where
  | normal | ride | cess | recover | tripReq
  deriving DecidableEq, Repr

/-- The runtime blocks of a cluster (R164–R166): parameters of those its control code uses; what VIMP last returned; the state of RIDE, since when
each point or band is entered, the recovery ramp in 2^-16, and the last call. -/
structure Blk where
  vimp  : Option VimpPar := none
  ride  : Option RidePar := none
  out   : Option VimpCall := none
  st    : RideSt := .normal
  since : List (Option Nat) := []
  ramp  : Nat := 65536
  lastAt : Nat := 0
  deriving DecidableEq, Repr

/-- The system rules of a module (R168–R176). -/
structure SysBus where
  /-- JOIN is set in the status slot; the module has appeared in MEMBERS since; a valid header has been heard since BOOT. -/
  join     : Bool := false
  appeared : Bool := false
  heard    : Bool := false
  fenced   : Bool := false
  /-- Cycle index; cycles in a row without a valid header on the bus (R171, R175). -/
  cidx     : Nat := 0
  silent   : Nat := 0
  /-- Such cycles as R170 counts them, a contending leader's quiet ones left out; the leader has been declared lost and the election wait runs,
  with its cycles so far. -/
  missed   : Nat := 0
  waiting  : Bool := false
  waited   : Nat := 0
  /-- Failed read-backs in a row of segments A and C; cycles for which a contending leader still keeps quiet (R171). -/
  rbA      : Nat := 0
  rbC      : Nat := 0
  quiet    : Nat := 0
  /-- Rounds in a row with JOIN, and rounds in a row missing, per module. -/
  joins    : File Nat Nat := []
  dead     : File Nat Nat := []
  /-- Rounds in which the status slot was accepted since REJOIN (R176). -/
  rejoin   : Option Nat := none
  g0       : ShareRef := {}
  g1       : ShareRef := {}
  /-- The module has just become leader: its outer loop starts from the last references received (R172). -/
  fresh    : Bool := false
  /-- The segments this module drove in the last cycle (R168). -/
  outA     : Option (BitVec 128) := none
  outB     : Option (BitVec 120) := none
  outC     : Option (BitVec 64) := none
  /-- TB has been stepped since BOOT (R112). -/
  stepped  : Bool := false
  /-- EDG_ALIGN_STAT.STATE has its value since (R113); the alignment error exceeds LIM since (R114). -/
  alignAt  : Nat := 0
  limAt    : Option Nat := none
  deriving DecidableEq, Repr

/-- A CAN controller beyond its registers (R364–R376). -/
structure CanSt where
  /-- Loads so far, and the load number of each buffer (R365). -/
  loads    : Nat := 0
  order    : List Nat := [0, 0, 0]
  /-- Buffers whose ABORT waits for the end of their frame (R368); the buffer that transmits. -/
  abortAt  : List Nat := []
  sending  : Option Nat := none
  /-- Data-field errors in a row per buffer (R370). -/
  dataErr  : List Nat := [0, 0, 0]
  /-- The shadow slot of each filter, as 20 words (R372). -/
  shadow   : File Nat (List Nat) := []
  /-- Records of the controller (R373). -/
  records  : Nat := 0
  /-- SLEEP waits for the frame in progress (R374). -/
  sleepDue : Bool := false
  deriving DecidableEq, Repr

/-- A copy of a safety frame held by Ringmaster (R353): network, its bytes, ingress stamp, and time of delivery. -/
structure HeldCopy where
  net   : Nat
  bytes : List Byte
  sec   : Nat
  ns    : Nat
  time  : Nat
  deriving DecidableEq, Repr

/-- The paired transport in Ringmaster beyond its registers (R353–R357). -/
structure Snl where
  /-- Unpaired copies, oldest first, and the newest first copies already decided, with their second copy having come. -/
  held    : List HeldCopy := []
  decided : List (HeldCopy × Bool) := []
  /-- Misses, restoring copies and the last SEQ per network (R355). -/
  miss    : List Nat := [0, 0]
  good    : List Nat := [0, 0]
  seqOn   : List Nat := [0, 0]
  /-- The last status frame: SEQ, time, DATA, and the frames handed to the ports that were up (R350, R356). -/
  txSeq   : Nat := 0
  txAt    : Option Nat := none
  txData  : List Byte := []
  txOut   : List (Nat × List Byte) := []
  /-- Start of PTP holdover (R348). -/
  hoAt    : Option Nat := none
  deriving DecidableEq, Repr

/-- A Tightrope monitor beyond its registers (R17–R21): tick of the next release, release of the open job, and a job that is overdue
at the release of the next one with its deadline tick. -/
structure TrMon where
  next   : Nat := 0
  jobRel : Nat := 0
  late   : Option (Nat × Nat) := none
  deriving DecidableEq, Repr

/-- The slack window of an adaptive rail (R26): its start and the worst slack seen in it. -/
structure Slack where
  startAt : Nat := 0
  worst   : Option Nat := none
  deriving DecidableEq, Repr

/-- The module. -/
structure State where
  /-- The member of the family (R1). -/
  variant : Variant
  /-- Physical time, ticks of 2.5 ns; never reset. -/
  now     : Nat
  /-- TB (R14). -/
  tb      : Nat
  /-- Local PTP time since its epoch and the addend of one tick, both in 2^-32 ns (R348). -/
  ptp     : Nat
  ptpAdd  : Nat
  /-- The control, measurement and memory dies run; Ringmaster runs (R53). -/
  cdRun   : Bool
  rmRun   : Bool
  /-- The register file: registers that differ from their value on entry to BOOT, by BAR0 offset. -/
  regs    : Cells Word
  /-- DRAM (R28) and host memory, by byte address. -/
  dram    : Cells Byte
  hostMem : Cells Byte
  /-- Flag events of the present step, not yet aggregated (R455). -/
  events  : List FlagEvent
  /-- Recorder queue and store (R433), safety log (R317), clear log (R442). -/
  recQueue : List RecEntry
  recStore : List RecEntry
  safetyLog : List SafetyEntry
  clearLog : List ClearRec
  /-- Mailbox directions by channel and direction, false A to B (R410), and waiting device notices (R418). -/
  mbx     : File (Nat × Bool) NoticeDir
  devQueue : List DevNotice
  /-- Message vectors, rings, profiles and the recorder (R456, R383, R434). -/
  msi     : File Nat MsiVec
  rings   : File Nat RingSt
  barkerSt : Barker
  profs   : File Nat ProfSt
  recst   : RecSt
  /-- Triplets (R298). -/
  trips   : File Nat TripSt
  edges   : File Nat Edge
  gatesH  : File Nat Gate
  gatesL  : File Nat Gate
  drvs    : File Nat Drv
  clusters : File Nat Cluster
  gmus     : File Nat Gmu
  /-- The runtime blocks of each cluster (R164). -/
  blks     : File Nat Blk
  npms     : File Nat NpMod
  regions  : File Nat Region
  /-- DC-type clusters, charge engines, the ledger and its journal (R181, R203, R224, R230), Safety Net, the hold-up pack and the
  measurement die. -/
  dcs      : File Nat Dc
  chgs     : File Nat Chg
  ldgs     : File Nat Ldg
  journal  : List JRec
  snet     : SafetyNet
  /-- Service regulators, auxiliary drives, feedback interfaces and thermal supervision (R270, R282, R288, R263). -/
  svrs     : File Nat Svr
  auxs     : File Nat Aux
  fbs      : File Nat Fb
  thm      : Thm
  pack     : Pack
  meas     : Meas
  txns     : File Nat Txn
  /-- CAN controllers and the paired transport (R360, R353). -/
  cans     : File Nat CanSt
  snl      : Snl
  /-- Tightrope monitors and the slack windows of VCORE_CD and VCORE_MD. -/
  trmons   : File Nat TrMon
  slackCd  : Slack
  slackMd  : Slack
  /-- Fenced copies of the triplicated groups that are not triplets: die (false control), group; the copy fenced and when (R24). -/
  stalls   : File (Bool × Nat) (Nat × Nat)
  /-- Capture data marked bad by an uncorrectable DRAM error (R28). -/
  bad      : List DramReader
  store    : Store
  auths    : Auths
  power    : Power
  diag     : Diag
  rm       : Rm
  sys      : SysBus
  /-- The levels of MODID3–MODID0, sampled at BOOT (R42, R168). -/
  modid   : Nat
  /-- Transactions begun since BOOT: the last TID given (R421). -/
  lastTid  : Nat
  /-- A host command whose result is pending, with its SEQ (R86). -/
  cmdWait  : Option (Nat × Nat)
  /-- The completion of the last host read that ended in a command (R28, R380). -/
  cpl      : Option ReadCpl
  /-- Single-bit errors that the DRAM has corrected (R28). -/
  eccCor   : Nat
  /-- The model's own counter of free values taken so far (a free value is an opaque constant applied to it). -/
  draws   : Nat
  /-- The commands waiting, first in, first out. -/
  pending : List Instr
  deriving DecidableEq, Repr

/-- The persistent store as shipped (R70): copy A of Ringmaster firmware and of Huavos, marked good. -/
def Store.shipped : Store :=
  { images := [((0, false), { present := true, good := true }), ((1, false), { present := true, good := true })] }

/-- The module right after reset: an IVX-7624 on entry to BOOT from OFF (R65, R68), both auxiliary supplies present and Ringmaster ready,
every register at its value on entry to BOOT (R451), nothing in any memory, no command waiting. -/
def State.reset : State :=
  { variant := .v7624, now := 0, tb := 0, ptp := 0, ptpAdd := 10737418240, cdRun := true, rmRun := true, regs := [], dram := [], hostMem := [],
    events := [], recQueue := [], recStore := [], safetyLog := [], clearLog := [], mbx := [], devQueue := [], msi := [], rings := [],
    barkerSt := {}, profs := [], recst := {}, trips := [], edges := [], gatesH := [], gatesL := [], drvs := [], clusters := [], gmus := [], blks := [],
    npms := [], regions := [], dcs := [], chgs := [], ldgs := [], journal := [], snet := {}, svrs := [], auxs := [], fbs := [], thm := {},
    pack := {}, meas := {}, txns := [], cans := [], snl := {}, trmons := [], slackCd := {}, slackMd := {}, stalls := [], bad := [],
    store := Store.shipped, auths := {}, power := { vauxA := true, vauxB := true, vso := true }, diag := {}, rm := { ready := true, relAt := some 0 }, sys := {}, modid := 15,
    lastTid := 0, cmdWait := none, cpl := none, eccCor := 0, draws := 0, pending := [] }

end Sys2Proof.Machine
end

