-- ==== Sys2Proof/Machine/Ops.lean ====
section
/-!
DEFINITION. Named operations over the state: registers and their fields, the records of the units, memory, time stamps, and the
persistent logs.
-/

namespace Sys2Proof.Machine

/-- The result of a command. -/
abbrev Res := Host.Outcome State Fault Refusal

/-! ### Registers -/

/-- The stored value of the register at an offset. -/
def State.reg (s : State) (a : Nat) : Word := Cells.get (Reg.resetOf s.variant) s.regs a

/-- A register given a value. -/
def State.setReg (s : State) (a : Nat) (v : Word) : State :=
  { s with regs := Cells.set (Reg.resetOf s.variant) s.regs a v }

/-- A field of a register. -/
def State.fld (s : State) (a : Nat) (f : Field) : Nat := f.get (s.reg a)

/-- A field of a register given a value; the other bits of the register stay. -/
def State.setFld (s : State) (a : Nat) (f : Field) (v : Nat) : State := s.setReg a (f.put (s.reg a) v)

/-- A one-bit field of a register. -/
def State.bit (s : State) (a : Nat) (f : Field) : Bool := s.fld a f != 0

/-- A one-bit field of a register given a value. -/
def State.setBit (s : State) (a : Nat) (f : Field) (b : Bool) : State := s.setFld a f (b2n b)

/-- A register given the low 32 bits of a natural. -/
def State.setNat (s : State) (a v : Nat) : State := s.setReg a (BitVec.ofNat 32 v)

/-- A pair of registers, low word first, given the low 64 bits of a natural. -/
def State.setNat64 (s : State) (lo hi v : Nat) : State := (s.setNat lo v).setNat hi (v / 2 ^ 32)

/-- A pair of registers read as 64 bits. -/
def State.reg64 (s : State) (lo hi : Nat) : Nat := (s.reg lo).toNat + 2 ^ 32 * (s.reg hi).toNat

/-- A saturating register incremented. -/
def State.incSat (s : State) (a : Nat) : State := s.setNat a (min ((s.reg a).toNat + 1) 0xFFFFFFFF)

/-- A saturating field incremented. -/
def State.incFld (s : State) (a : Nat) (f : Field) : State := s.setFld a f (min (s.fld a f + 1) (2 ^ f.len - 1))

/-! ### Records of the units -/

/-- The direction of a mailbox channel. -/
def State.dir (s : State) (c : Nat) (d : Bool) : NoticeDir := File.get {} s.mbx (c, d)
/-- A change of a mailbox direction. -/
def State.updDir (s : State) (c : Nat) (d : Bool) (f : NoticeDir → NoticeDir) : State :=
  { s with mbx := File.set {} s.mbx (c, d) (f (s.dir c d)) }
/-- The record of a message vector. -/
def State.vec (s : State) (v : Nat) : MsiVec := File.get {} s.msi v
/-- A change of a message vector. -/
def State.updVec (s : State) (v : Nat) (f : MsiVec → MsiVec) : State := { s with msi := File.set {} s.msi v (f (s.vec v)) }
/-- The record of a ring. -/
def State.ring (s : State) (r : Nat) : RingSt := File.get {} s.rings r
/-- A change of a ring. -/
def State.updRing (s : State) (r : Nat) (f : RingSt → RingSt) : State := { s with rings := File.set {} s.rings r (f (s.ring r)) }
/-- The record of a profile. -/
def State.prof (s : State) (p : Nat) : ProfSt := File.get {} s.profs p
/-- A change of a profile. -/
def State.updProf (s : State) (p : Nat) (f : ProfSt → ProfSt) : State := { s with profs := File.set {} s.profs p (f (s.prof p)) }
/-- The record of a triplet. -/
def State.trip (s : State) (t : Nat) : TripSt := File.get {} s.trips t
/-- A change of a triplet. -/
def State.updTrip (s : State) (t : Nat) (f : TripSt → TripSt) : State := { s with trips := File.set {} s.trips t (f (s.trip t)) }
/-- The record of an edge engine. -/
def State.edge (s : State) (n : Nat) : Edge := File.get {} s.edges n
/-- A change of an edge engine. -/
def State.updEdge (s : State) (n : Nat) (f : Edge → Edge) : State := { s with edges := File.set {} s.edges n (f (s.edge n)) }
/-- The record of a channel of a driver die. -/
def State.gate (s : State) (n : Nat) (d : Side) : Gate :=
  match d with
  | .high => File.get {} s.gatesH n
  | .low => File.get {} s.gatesL n
/-- A change of a channel of a driver die. -/
def State.updGate (s : State) (n : Nat) (d : Side) (f : Gate → Gate) : State :=
  match d with
  | .high => { s with gatesH := File.set {} s.gatesH n (f (s.gate n .high)) }
  | .low => { s with gatesL := File.set {} s.gatesL n (f (s.gate n .low)) }
/-- The record of a driver die. -/
def State.drv (s : State) (n : Nat) : Drv := File.get {} s.drvs n
/-- A change of a driver die. -/
def State.updDrv (s : State) (n : Nat) (f : Drv → Drv) : State := { s with drvs := File.set {} s.drvs n (f (s.drv n)) }
/-- The record of a cluster. -/
def State.cluster (s : State) (k : Nat) : Cluster := File.get {} s.clusters k
/-- A change of a cluster. -/
def State.updCluster (s : State) (k : Nat) (f : Cluster → Cluster) : State :=
  { s with clusters := File.set {} s.clusters k (f (s.cluster k)) }

/-- The record of a grid measurement unit. -/
def State.gmu (s : State) (k : Nat) : Gmu := File.get {} s.gmus k
/-- A change of a grid measurement unit. -/
def State.updGmu (s : State) (k : Nat) (f : Gmu → Gmu) : State := { s with gmus := File.set {} s.gmus k (f (s.gmu k)) }
/-- The runtime blocks of cluster `k`. -/
def State.blk (s : State) (k : Nat) : Blk := File.get {} s.blks k
/-- The runtime blocks of cluster `k` changed. -/
def State.updBlk (s : State) (k : Nat) (f : Blk → Blk) : State := { s with blks := File.set {} s.blks k (f (s.blk k)) }
/-- The record of a neutral-point modulator. -/
def State.npm (s : State) (k : Nat) : NpMod := File.get {} s.npms k
/-- A change of a neutral-point modulator. -/
def State.updNpm (s : State) (k : Nat) (f : NpMod → NpMod) : State := { s with npms := File.set {} s.npms k (f (s.npm k)) }
/-- The record of a region. -/
def State.region (s : State) (g : Nat) : Region := File.get {} s.regions g
/-- A change of a region. -/
def State.updRegion (s : State) (g : Nat) (f : Region → Region) : State :=
  { s with regions := File.set {} s.regions g (f (s.region g)) }
/-- The record of a DC-type cluster. -/
def State.dc (s : State) (k : Nat) : Dc := File.get {} s.dcs k
/-- A change of a DC-type cluster. -/
def State.updDc (s : State) (k : Nat) (f : Dc → Dc) : State := { s with dcs := File.set {} s.dcs k (f (s.dc k)) }
/-- The record of a charge engine. -/
def State.chg (s : State) (k : Nat) : Chg := File.get {} s.chgs k
/-- A change of a charge engine. -/
def State.updChg (s : State) (k : Nat) (f : Chg → Chg) : State := { s with chgs := File.set {} s.chgs k (f (s.chg k)) }
/-- The record of a region's ledger. -/
def State.ldg (s : State) (g : Nat) : Ldg := File.get {} s.ldgs g
/-- A change of a region's ledger. -/
def State.updLdg (s : State) (g : Nat) (f : Ldg → Ldg) : State := { s with ldgs := File.set {} s.ldgs g (f (s.ldg g)) }
/-- The record of a service-regulator controller. -/
def State.svr (s : State) (c : Nat) : Svr := File.get {} s.svrs c
/-- A change of a service-regulator controller. -/
def State.updSvr (s : State) (c : Nat) (f : Svr → Svr) : State := { s with svrs := File.set {} s.svrs c (f (s.svr c)) }
/-- The record of an auxiliary drive. -/
def State.aux (s : State) (i : Nat) : Aux := File.get {} s.auxs i
/-- A change of an auxiliary drive. -/
def State.updAux (s : State) (i : Nat) (f : Aux → Aux) : State := { s with auxs := File.set {} s.auxs i (f (s.aux i)) }
/-- The record of a feedback interface. -/
def State.fb (s : State) (i : Nat) : Fb := File.get {} s.fbs i
/-- A change of a feedback interface. -/
def State.updFb (s : State) (i : Nat) (f : Fb → Fb) : State := { s with fbs := File.set {} s.fbs i (f (s.fb i)) }
/-- A change of thermal supervision. -/
def State.updThm (s : State) (f : Thm → Thm) : State := { s with thm := f s.thm }
/-- A change of the measurement die. -/
def State.updMeas (s : State) (f : Meas → Meas) : State := { s with meas := f s.meas }
/-- A change of the hold-up pack. -/
def State.updPack (s : State) (f : Pack → Pack) : State := { s with pack := f s.pack }
/-- The record of a transaction slot. -/
def State.txn (s : State) (t : Nat) : Txn := File.get {} s.txns t
/-- A change of a transaction slot. -/
def State.updTxn (s : State) (t : Nat) (f : Txn → Txn) : State := { s with txns := File.set {} s.txns t (f (s.txn t)) }
/-- The record of a Tightrope monitor. -/
def State.trmon (s : State) (m : Nat) : TrMon := File.get {} s.trmons m
/-- A change of a Tightrope monitor. -/
def State.updTrmon (s : State) (m : Nat) (f : TrMon → TrMon) : State := { s with trmons := File.set {} s.trmons m (f (s.trmon m)) }
/-- A change of Ringmaster. -/
def State.updRm (s : State) (f : Rm → Rm) : State := { s with rm := f s.rm }
/-- A change of the persistent store. -/
def State.updStore (s : State) (f : Store → Store) : State := { s with store := f s.store }
/-- A change of the supplies. -/
def State.updPower (s : State) (f : Power → Power) : State := { s with power := f s.power }
/-- The record of a CAN controller. -/
def State.can (s : State) (x : Nat) : CanSt := File.get {} s.cans x
/-- A change of a CAN controller. -/
def State.updCan (s : State) (x : Nat) (f : CanSt → CanSt) : State := { s with cans := File.set {} s.cans x (f (s.can x)) }
/-- A change of the paired transport. -/
def State.updSnl (s : State) (f : Snl → Snl) : State := { s with snl := f s.snl }
/-- A change of the system rules. -/
def State.updSys (s : State) (f : SysBus → SysBus) : State := { s with sys := f s.sys }

/-! ### Free values -/

/-- The next free value, for a field of `n` bits, and the state after taking it. -/
def State.drawn (s : State) (n : Nat) (f : Nat → State → State) : State :=
  f (Config.freeValue s.draws % 2 ^ n) { s with draws := s.draws + 1 }

/-! ### Folding and choosing -/

/-- A change made for each element of a list, in order. -/
def State.each {α : Type} (s : State) (l : List α) (f : State → α → State) : State := l.foldl f s

/-- A change made only where a condition holds. -/
def State.when (s : State) (c : Bool) (f : State → State) : State := if c then f s else s

/-- The slots that the variant has. -/
def State.slots (s : State) : List Nat := List.range s.variant.slots
/-- The clusters that the variant has. -/
def State.clus (s : State) : List Nat := List.range s.variant.clusters
/-- The regions that the variant has. -/
def State.rgns (s : State) : List Nat := List.range s.variant.regions

/-! ### Memory -/

/-- Bytes of DRAM. -/
def State.dramBytes (s : State) (a n : Nat) : List Byte := Cells.bytes s.dram a n
/-- Bytes written to DRAM. -/
def State.putDram (s : State) (a : Nat) (l : List Byte) : State := { s with dram := Cells.putBytes s.dram a l }
/-- Bytes of host memory. -/
def State.hostBytes (s : State) (a n : Nat) : List Byte := Cells.bytes s.hostMem a n
/-- A posted write to host memory. -/
def State.putHost (s : State) (a : Nat) (l : List Byte) : State := { s with hostMem := Cells.putBytes s.hostMem a l }

/-- The completion of a host read (R28, R380, R416). -/
def State.completes (s : State) (c : ReadCpl) : State := { s with cpl := some c }

/-- A host read that returns a word. -/
def State.returns (s : State) (w : Word) : State := s.completes { data := leBytes 4 w.toNat }

/-! ### Stamps -/

/-- The present TB in fine steps (R14). -/
def State.tbFine (s : State) : Nat := s.tb * 16
/-- A 48-bit sample stamp extended by the present TB (R102): the instant with these low 48 bits that lies nearest to now. -/
def State.fullStamp (s : State) (t : Nat) : Nat :=
  let m := 2 ^ 48
  let b := s.tbFine
  let c := b - b % m + t % m
  if Nat.ble (b + m / 2) c && Nat.ble m c then c - m
  else if Nat.blt (c + m / 2) b then c + m
  else c
/-- A second in the unit of PTP time, 2^-32 ns (R348). -/
def ptpSecond : Nat := 10 ^ 9 * 2 ^ 32
/-- Local PTP seconds (R348). -/
def State.ptpSec (s : State) : Nat := s.ptp / ptpSecond
/-- Local PTP nanoseconds within the second. -/
def State.ptpNano (s : State) : Nat := s.ptp % ptpSecond / 2 ^ 32
/-- The nanoseconds word of a stamp: bit 31 is set in holdover (R402, R432). -/
def State.ptpNsWord (s : State) : Nat :=
  s.ptpNano + (if s.bit Reg.ETH_PTP_STAT Fld.ETH_PTP_STAT_HOLDOVER then 2 ^ 31 else 0)
/-- Ticks of a number of microseconds and of milliseconds (one tick is 2.5 ns). -/
def us (n : Nat) : Nat := 400 * n
/-- Ticks of a number of milliseconds. -/
def ms (n : Nat) : Nat := 400000 * n
/-- Seconds as ticks. -/
def secs (n : Nat) : Nat := 1000 * ms n
/-- Whether a span has passed since a time. -/
def State.since (s : State) (t span : Nat) : Bool := Nat.ble (t + span) s.now

/-! ### Device state -/

/-- GLB_DEVSTATE.STATE (R64). -/
def State.dev (s : State) : Nat := s.fld Reg.GLB_DEVSTATE Fld.GLB_DEVSTATE_STATE
/-- GLB_DEVSTATE.STATE changed. -/
def State.setDev (s : State) (v : Nat) : State := s.setFld Reg.GLB_DEVSTATE Fld.GLB_DEVSTATE_STATE v

/-- The measurement die runs: the pack and the reserve do not feed it after the loss of VAUX_A (R54 step 3, R55, R233). -/
def State.mdRun (s : State) : Bool := s.cdRun && s.power.lossAt.isNone

/-- The state codes of R64. -/
def stBOOT : Nat := 1
/-- CONFIG. -/
def stCONFIG : Nat := 2
/-- DIAG. -/
def stDIAG : Nat := 3
/-- STANDBY. -/
def stSTANDBY : Nat := 4
/-- ARMED. -/
def stARMED : Nat := 5
/-- RUN. -/
def stRUN : Nat := 6
/-- SAFE. -/
def stSAFE : Nat := 8
/-- LOCKOUT. -/
def stLOCKOUT : Nat := 9

/-- The commissioning lock is set (R85). -/
def State.locked (s : State) : Bool := s.bit Reg.GLB_COMLOCK Fld.GLB_COMLOCK_LOCKED
/-- A COMMISSION session is active (R83). -/
def State.commissioning (s : State) : Bool := s.bit Reg.GLB_DEVSTATE Fld.GLB_DEVSTATE_COMMISSION

/-- The result codes of GLB_DEVRESULT.RESULT (R86). -/
def rcDONE : Nat := 0x00
/-- Not accepted in this state. -/
def rcSTATE : Nat := 0x01
/-- Another command is executing. -/
def rcBUSY : Nat := 0x02
/-- Wrong key. -/
def rcBADKEY : Nat := 0x03
/-- A condition is unmet. -/
def rcCOND : Nat := 0x04
/-- Unknown command. -/
def rcUNKNOWN : Nat := 0x05
/-- Pending. -/
def rcPENDING : Nat := 0xFF

/-! ### The safety log -/

/-- An entry of Ringmaster's safety log (R317). -/
def State.logSafety (s : State) (code data key : Nat) : State :=
  { s with safetyLog := s.safetyLog ++ [⟨code, data, key⟩] }

/-- The condition tags of R32: GLB_GUARD bits 3:0. -/
def State.condTags (s : State) : Nat := (s.reg Reg.GLB_GUARD).toNat % 16

end Sys2Proof.Machine
end

