-- ==== Sys2Proof/Machine/Flags.lean ====
section
/-!
DEFINITION. Event flags and occurrence counters (R447, R448), the sources of aggregation (R454), and the entries that other rules
order from the event recorder (R432, R433).
-/

namespace Sys2Proof.Machine

/-- A flag register: a source of events (R454) with its instance. -/
inductive FlagSrc where
  | glb | guard | ctu | pwr | pwrHu | thm | clk | clkTr (m : Nat) | edg (n : Nat) | align | gdv (n : Nat)
  | clu (k : Nat) | cluDc (k : Nat) | cluSys | chg (k : Nat) | chgSn | ldg (g : Nat) | meas | auxd (i : Nat) | fb (i : Nat)
  | svr (c : Nat) | trp (t : Nat) | safe | eth (p : Nat) | ptp | snl | can (x : Nat) | hif | mbx | recd | dbg
  deriving DecidableEq, Repr

/-- The flag register of a source. -/
def FlagSrc.addr : FlagSrc → Nat
  | .glb => Reg.GLB_FLAGS | .guard => Reg.GLB_GUARD | .ctu => Reg.CTU_FLAGS | .pwr => Reg.PWR_FLAGS
  | .pwrHu => Reg.PWR_HU_FLAGS | .thm => Reg.THM_FLAGS | .clk => Reg.CLK_FLAGS | .clkTr m => Reg.CLK_TR_STAT m
  | .edg n => Reg.EDG_FLAGS n | .align => Reg.EDG_ALIGN_FLAGS | .gdv n => Reg.GDV_FLAGS n
  | .clu k => Reg.CLU_FLAGS k | .cluDc k => Reg.CLU_DC_FLAGS k | .cluSys => Reg.CLU_SYS_FLAGS
  | .chg k => Reg.CHG_FLAGS k | .chgSn => Reg.CHG_SN_FLAGS | .ldg g => Reg.LDG_FLAGS g | .meas => Reg.MEAS_FLAGS
  | .auxd i => Reg.AUXD_FLAGS i | .fb i => Reg.FB_FLAGS i | .svr c => Reg.SVR_FLAGS c | .trp t => Reg.TRP_FLAGS t
  | .safe => Reg.SAFE_FLAGS | .eth p => Reg.ETH_P_FLAGS p | .ptp => Reg.ETH_PTP_FLAGS | .snl => Reg.ETH_SNL_FLAGS
  | .can x => Reg.CAN_FLAGS x | .hif => Reg.HIF_FLAGS | .mbx => Reg.MBX_FLAGS | .recd => Reg.REC_FLAGS | .dbg => Reg.DBG_FLAGS

/-- The number of a source (R454). -/
def FlagSrc.num : FlagSrc → Nat
  | .glb => 0 | .guard => 1 | .ctu => 2 | .pwr => 3 | .pwrHu => 4 | .thm => 5 | .clk => 6 | .clkTr _ => 7 | .edg _ => 8
  | .align => 9 | .gdv _ => 10 | .clu _ => 11 | .cluDc _ => 12 | .cluSys => 13 | .chg _ => 14 | .chgSn => 15 | .ldg _ => 16
  | .meas => 17 | .auxd _ => 18 | .fb _ => 19 | .svr _ => 20 | .trp _ => 21 | .safe => 22 | .eth _ => 23 | .ptp => 24
  | .snl => 25 | .can _ => 26 | .hif => 27 | .mbx => 28 | .recd => 29 | .dbg => 30

/-- The register that holds the counter of flag bits 3:0 of a source with the placement of R448. -/
def FlagSrc.cnt0 : FlagSrc → Nat
  | .glb => Reg.GLB_CNT0 | .guard => 0x3C | .ctu => Reg.CTU_CNT0 | .pwr => Reg.PWR_CNT0
  | .pwrHu => Reg.PWR_HU_CNT0 | .thm => Reg.THM_CNT0 | .clk => Reg.CLK_CNT0 | .clkTr m => Reg.CLK_TR_CNT m
  | .edg n => Reg.EDG_CNT0 n | .align => Reg.EDG_ALIGN_CNT | .gdv n => Reg.GDV_CNT0 n
  | .clu k => Reg.CLU_CNT0 k | .cluDc k => Reg.CLU_DC_CNT0 k | .cluSys => Reg.CLU_SYS_CNT0
  | .chg k => Reg.CHG_CNT0 k | .chgSn => Reg.CHG_SN_CNT0 | .ldg g => Reg.LDG_CNT0 g | .meas => Reg.MEAS_CNT0
  | .auxd i => Reg.AUXD_CNT0 i | .fb i => Reg.FB_CNT0 i | .svr c => Reg.SVR_CNT0 c | .trp t => Reg.TRP_CNT0 t
  | .safe => Reg.SAFE_CNT0 | .eth p => Reg.ETH_P_CNT0 p | .ptp => Reg.ETH_PTP_CNT0 | .snl => Reg.ETH_SNL_CNT0
  | .can x => Reg.CAN_CNT0 x | .hif => Reg.HIF_CNT0 | .mbx => Reg.MBX_CNT0 | .recd => Reg.REC_CNT0 | .dbg => Reg.DBG_CNT0

/-- The counter of a flag bit: register and lowest bit (R448); `none` for the flags that have none (CLK_TRm CFGERR, R22;
SVRc CFGERR, R279; AUXDi CFGERR, R296). GLB_GUARD bits 9:8 count in GLB_GUARD_CNT2 (R452), monitors in CLK_TRm_CNT (R22). -/
def FlagSrc.counter (src : FlagSrc) (b : Nat) : Option (Nat × Nat) :=
  match src with
  | .guard => if b = 8 then some (Reg.GLB_GUARD_CNT2, 0) else if b = 9 then some (Reg.GLB_GUARD_CNT2, 8) else none
  | .clkTr m => if b = 24 then some (Reg.CLK_TR_CNT m, 0) else if b = 25 then some (Reg.CLK_TR_CNT m, 8) else none
  | .svr c => if b = 8 then none else some (Reg.SVR_CNT0 c + 4 * (b / 4), 8 * (b % 4))
  | .auxd i => if b = 5 then none else some (Reg.AUXD_CNT0 i + 4 * (b / 4), 8 * (b % 4))
  | _ => some (src.cnt0 + 4 * (b / 4), 8 * (b % 4))

/-- One occurrence counted: the 8-bit counter of the flag, saturating at 0xFF (R448). -/
def State.countFlag (s : State) (src : FlagSrc) (b : Nat) : State :=
  match src.counter b with
  | some (a, lo) => s.incFld a ⟨lo, 8⟩
  | none => s

/-- Occurrences of the flags whose bits are set in `m`, in one handshake (R447, R448): every flag is set, every counter
counts, and the bits that were 0 form one event of the source (R454). -/
def State.raiseMask (s : State) (src : FlagSrc) (m : Nat) : State :=
  let old := (s.reg src.addr).toNat
  let s1 := (bitsOf 32 m).foldl (fun t b => t.countFlag src b) (s.setNat src.addr (old ||| m))
  let new := m &&& (0xFFFFFFFF - old % 2 ^ 32)
  if new = 0 then s1 else { s1 with events := s1.events ++ [⟨src.num, src.addr, new⟩] }

/-- An occurrence of one flag. -/
def State.raise (s : State) (src : FlagSrc) (b : Nat) : State := s.raiseMask src (2 ^ b)

/-- An occurrence of one flag, where a condition holds. -/
def State.raiseIf (s : State) (c : Bool) (src : FlagSrc) (b : Nat) : State := if c then s.raise src b else s

/-- An effect whose several causes may raise one flag in one handshake: they count as one occurrence (R448). -/
def State.asOne (s : State) (src : FlagSrc) (b : Nat) (f : State → State) : State :=
  let t := f s
  match src.counter b with
  | some (a, lo) => t.setFld a ⟨lo, 8⟩ (min (t.fld a ⟨lo, 8⟩) (s.fld a ⟨lo, 8⟩ + 1))
  | none => t

/-! ### Recorder entries -/

/-- The header of an entry made now (R432). -/
def State.entry (s : State) (kind profile source bits supp tags : Nat) (pairs : List (Nat × Word)) (detail : List Nat) : RecEntry :=
  { kind, profile, seq := s.recst.issued + 1, tbFine := s.tbFine, ptpSec := s.ptpSec, ptpNs := s.ptpNsWord,
    devstate := s.reg Reg.GLB_DEVSTATE, source, bits, supp, tags, pairs, detail }

/-- REC_STAT bits 16:8: the queue depth (R444). -/
def Fld.REC_STAT_DEPTH : Field := ⟨8, 9⟩

/-- An entry placed in the queue with the next sequence number (R433). -/
def State.enqueue (s : State) (e : RecEntry) : State :=
  { s with recQueue := s.recQueue ++ [e], recst := { s.recst with issued := s.recst.issued + 1 } }
    |>.setFld Reg.REC_STAT Fld.REC_STAT_DEPTH (s.recQueue.length + 1)

/-- Whether partition `x` of the persistent store is worn (R431). -/
def State.worn (s : State) (x : Nat) : Bool := s.bit (Reg.REC_WEAR x) Fld.REC_WEAR_WORN

/-- LDG_g_STAT.WORN of every region shows a worn journal partition (R236, R430). -/
def State.showWorn (s : State) : State :=
  s.each s.rgns fun u g => u.setBit (Reg.LDG_STAT g) Fld.LDG_STAT_WORN (u.worn 0)

/-- Units of 64 bytes in each partition of the persistent store (R430). -/
def partUnits (x : Nat) : Nat := [131072, 131072, 1572864, 245760, 16384].getD x 1

/-- `n` units written to partition `x` (R431): its wear in 0.01 % of 10^12 writes of a word, a word remapped to a spare where the read-back
failed twice, WEARWARN on reaching WEAR_WARN, and WORN with STORE_WORN of GLB_GUARD when the wear or the spares are used up. -/
def State.noteWrite (s : State) (x n : Nat) (remap : Bool) : State :=
  let w := File.get 0 s.store.written x + n
  let s := s.updStore fun p => { p with written := File.set 0 p.written x w }
  let a := Reg.REC_WEAR x
  let wear := min (w / partUnits x / 10 ^ 8) 10000
  let s := s.setFld a Fld.REC_WEAR_WEAR (max wear (s.fld a Fld.REC_WEAR_WEAR))
  let s := if remap then s.incFld a Fld.REC_WEAR_SPARES else s
  let warn := Nat.ble (100 * s.fld Reg.REC_CTRL Fld.REC_CTRL_WEAR_WARN) (s.fld a Fld.REC_WEAR_WEAR) && !s.bit a Fld.REC_WEAR_WARN
  let s := if warn then (s.setBit a Fld.REC_WEAR_WARN true).raise .recd 4 else s
  if (s.fld a Fld.REC_WEAR_WEAR == 10000 || s.fld a Fld.REC_WEAR_SPARES == 16383) && !s.bit a Fld.REC_WEAR_WORN then
    let was := s.bit Reg.GLB_GUARD ⟨3, 1⟩
    ((((s.setBit a Fld.REC_WEAR_WORN true).showWorn).raise .recd 5).setBit Reg.GLB_GUARD ⟨3, 1⟩ true).raiseIf (!was) .guard 8
  else s

/-- The end of a freeze by FREEZE_TO or by a full queue (R439). -/
def State.endFreeze (s : State) (byItself : Bool) : State :=
  s.setBit Reg.REC_STAT Fld.REC_STAT_FROZEN false |>.raiseIf byItself .recd 3

/-- A system entry or breach record of the recorder (R432), or one counted in REC_SYSSUPP where partition 2 is worn or the
queue is full (R433, R443). When the queue fills while the recorder is frozen the freeze ends at once (R439). -/
def State.systemEntry (s : State) (kind source bits : Nat) (detail : List Nat) : State :=
  if s.worn 2 || Nat.ble 256 s.recQueue.length then s.incSat Reg.REC_SYSSUPP
  else
    let s1 := s.enqueue (s.entry kind 0xFF source bits 0 (s.condTags * 8) [] detail)
    if s1.bit Reg.REC_STAT Fld.REC_STAT_FROZEN && Nat.ble 256 s1.recQueue.length then s1.endFreeze true else s1

/-- A system entry (R432): the register concerned, the event code or bits, and the detail that the rule names. -/
def State.record (s : State) (source bits : Nat) (detail : List Nat) : State := s.systemEntry 1 source bits detail

/-- A breach record that cannot be queued waits for the store (R32). -/
def State.breachWaits (s : State) (source : Nat) (object : List Nat) : State :=
  { s with recst := { s.recst with due := s.recst.due ++ [(source, object)] } }

/-- A breach record naming its object (R30, R32); GLB_GUARD.BREACH is set when it is written to the store (R34). Where the queue is full or
the partition worn it waits, in a worn one counted as not written (R443). -/
def State.breach (s : State) (source : Nat) (object : List Nat) : State :=
  if s.worn 2 then (s.breachWaits source object).incSat Reg.REC_SYSSUPP
  else if Nat.ble 256 s.recQueue.length then s.breachWaits source object
  else s.systemEntry 3 source 0 object

/-- The oldest breach record that waits is queued, where the store takes one (R32). -/
def State.breachDue (s : State) : State :=
  match s.recst.due with
  | [] => s
  | p :: rest =>
    if s.worn 2 || Nat.ble 256 s.recQueue.length then s
    else { s with recst := { s.recst with due := rest } }.systemEntry 3 p.1 0 p.2

/-! ### Conditions of R31 -/

/-- A condition bit of GLB_GUARD takes a value; a change from 0 to 1 sets COND_EVT (R34). Bit 0 SUPPLY_OUT, 1 TEMP_OUT,
2 HOLDUP_LOW, 3 STORE_WORN. -/
def State.setCond (s : State) (b : Nat) (on : Bool) : State :=
  let f : Field := ⟨b, 1⟩
  let was := s.bit Reg.GLB_GUARD f
  (s.setBit Reg.GLB_GUARD f on).raiseIf (on && !was) .guard 8

end Sys2Proof.Machine
end

