-- ==== Sys2Proof/Machine/Mail.lean ====
section
/-!
DEFINITION. Mailbox notices (R408–R418): posting, presentation, acknowledgement, ends given by the device, and the notices that
hardware units post as the device party.
-/

namespace Sys2Proof.Machine

/-- The party codes of R408. -/
def partyCode : Party → Nat
  | .host => 0 | .mt => 1 | .lt i => 2 + i.val | .ringmaster => 6 | .device => 7

/-- The set-up word of a channel (R420). -/
def State.chanCfg (s : State) (c : Nat) : Word :=
  if Nat.blt c 8 then s.reg (Reg.MBX_CH_CFG c) else s.reg (Reg.MBX_CH_CFG_SEC (c - 8))

/-- Endpoint A or B of a channel (R408). -/
def State.endpoint (s : State) (c : Nat) (b : Bool) : Nat :=
  (if b then Fld.MBX_CH_CFG_EPB else Fld.MBX_CH_CFG_EPA).get (s.chanCfg c)

/-- The channel is enabled (R408). -/
def State.chanOn (s : State) (c : Nat) : Bool := Fld.MBX_CH_CFG_EN.on (s.chanCfg c)

/-- The triplet that a party code names, LT0–LT3 or MT. -/
def tripOf (code : Nat) : Nat := if code = 1 then 4 else code - 2

/-- A party is up (R416). -/
def State.partyUp (s : State) (code : Nat) : Bool :=
  match code with
  | 0 => s.bit Reg.HIF_STAT Fld.HIF_STAT_LINKUP && !s.bit Reg.HIF_STAT Fld.HIF_STAT_D3HOT
  | 6 => true
  | 7 => true
  | c => (s.trip (tripOf c)).runs

/-- An asynchronous input of a triplet (R303): assigned to the highest instruction count reported by any copy plus 256. -/
def State.asyncIn (s : State) (t code : Nat) : State :=
  s.updTrip t fun r => { r with inputs := r.inputs ++ [(r.icount.foldl max 0 + 256, code)] }

/-- A party is notified of a presentation or of an end (R412, R413): a triplet by an asynchronous input, the host by a flag. -/
def State.notify (s : State) (code c hostFlag : Nat) : State :=
  match code with
  | 0 => s.raise .mbx hostFlag
  | 6 => s
  | 7 => s
  | p => s.asyncIn (tripOf p) c

/-- The busy bit of a direction in MBX_CHc_STAT (R420). -/
def State.setChStat (s : State) (c : Nat) (d busy : Bool) : State :=
  s.setFld (Reg.MBX_CH_STAT c) ⟨if d then 1 else 0, 1⟩ (b2n busy)

/-- A notice is presented to its receiver (R412). -/
def State.present (s : State) (c : Nat) (d : Bool) : State :=
  let r := s.endpoint c (!d)
  let epoch := if Nat.blt r 7 then (s.reg (Reg.MBX_EPOCH r)).toNat % 65536 else 0
  let s := s.updDir c d fun n => { n with valid := true, read := false, withdrawn := false, repoch := epoch, held := false }
  let s := if r = 0 then s.setFld Reg.MBX_RXPEND ⟨c, 1⟩ 1 else s
  s.notify r c 0

/-- A notice is posted in a free direction and presented (R411, R412). -/
def State.post (s : State) (c : Nat) (d : Bool) (ptr tag : Nat) : State :=
  let s := s.updDir c d fun n => { n with busy := true, seq := (n.seq + 1) % 256, ptr, tag, posted := s.now }
  (s.setChStat c d true).present c d

/-- The device notice next in line for a channel is posted when its direction is free (R418); none that waits becomes a notice while the
receiver is down (R416). -/
def State.nextDevice (s : State) (c : Nat) : State :=
  match s.devQueue.find? (fun n => n.chan == c) with
  | some n =>
    if (s.dir c false).busy then s
    else if !s.partyUp (s.endpoint c true) then { s with devQueue := s.devQueue.filter fun n => n.chan != c }
    else ({ s with devQueue := s.devQueue.eraseP (fun n => n.chan == c) }).post c false n.ptr n.tag
  | none => s

/-- MBX_LAST: the last device-given code, its channel and direction (R420). -/
def State.setLastCode (s : State) (c : Nat) (d : Bool) (code : Nat) : State :=
  s.setNat Reg.MBX_LAST (code * 65536 + c * 16 + b2n d)

/-- A notice ends with a code (R413): it completes with the condition tag of R32, VALID and BUSY are cleared and the sender is notified. -/
def State.endNotice (s : State) (c : Nat) (d : Bool) (code epoch own : Nat) (withdrawn : Bool) : State :=
  let rx := s.endpoint c (!d)
  let tx := s.endpoint c d
  let s := s.updDir c d fun n => { n with busy := false, valid := false, held := false, code, ackEpoch := epoch, ackCode := own, tags := s.condTags,
                                          withdrawn := n.withdrawn || withdrawn }
  let s := s.setChStat c d false
  let s := if rx = 0 then s.setFld Reg.MBX_RXPEND ⟨c, 1⟩ 0 else s
  let s := if Nat.ble 0x8000 code then s.setLastCode c d code else s
  (s.notify tx c 1).nextDevice c

/-- The notice codes given by the device (R413). -/
def ncTIMEOUT : Nat := 0x8001
/-- Stale acknowledgement. -/
def ncSTALE : Nat := 0x8002
/-- Crossing. -/
def ncCROSSING : Nat := 0x8003
/-- The sender reset. -/
def ncSENDER_RESET : Nat := 0x8004

/-- The copies of a triplet start afresh (R299): they number their transactions from 0, and what an earlier run left is gone. -/
def State.tripFresh (s : State) (t : Nat) : State :=
  s.updTrip t fun r => { r with inputs := [], icount := [0, 0, 0], rel := 0, present := [], waits := [], last := [0, 0, 0], diffAt := none, rebuilt := [] }

/-- A party resets (R417): its epoch increments, the notices it sent end with SENDER_RESET, those it holds wait to be re-presented. -/
def State.resetParty (s : State) (p : Nat) : State :=
  let s := s.setNat (Reg.MBX_EPOCH p) (((s.reg (Reg.MBX_EPOCH p)).toNat + 1) % 65536)
  let s := s.asOne .mbx 5 fun s => s.each (List.range 16) fun u c =>
    u.each [false, true] fun v d =>
      let n := v.dir c d
      if !v.chanOn c || !n.busy then v
      else
        let v := if v.endpoint c d == p then (v.endNotice c d ncSENDER_RESET n.ackEpoch n.ackCode n.read).raise .mbx 5 else v
        if v.endpoint c (!d) == p && (v.dir c d).busy then v.updDir c d fun x => { x with held := true } else v
  if Nat.ble 1 p && Nat.ble p 5 then s.tripFresh (tripOf p) else s

/-- A party that was down comes up: the notices it holds are presented again with its new epoch (R417). -/
def State.partyComes (s : State) (p : Nat) : State :=
  s.asOne .mbx 0 fun s => s.each (List.range 16) fun u c =>
    u.each [false, true] fun v d =>
      if v.chanOn c && (v.dir c d).held && v.endpoint c (!d) == p then v.present c d else v

/-- The notices held, each by channel, SEQ and tag, as the recorder entry of R54 names them (R417). -/
def State.noticesHeld (s : State) : List Nat :=
  (List.range 16).flatMap fun c => [false, true].flatMap fun d =>
    let n := s.dir c d
    if n.busy then [c, n.seq, n.tag] else []

/-- A notice of a hardware unit to a party (R418): posted on the non-secure channel whose endpoint A is the device and B the
addressee; queued, up to 32 per channel, while the direction is busy; DEVQOVF where the queue is full or no channel is set up. -/
def State.device (s : State) (addressee block code status : Nat) : State :=
  let tag := block * 16777216 + code % 65536
  match (List.range 8).find? (fun c => s.chanOn c && s.endpoint c false == 7 && s.endpoint c true == addressee) with
  | none => s.raise .mbx 12
  | some c =>
    if !s.partyUp addressee then s
    else if (s.dir c false).busy then
      if Nat.blt (s.devQueue.countP (fun n => n.chan == c)) 32 then { s with devQueue := s.devQueue ++ [⟨c, tag, status⟩] }
      else s.raise .mbx 12
    else s.post c false status tag

end Sys2Proof.Machine
end

