-- ==== Sys2Proof/Machine/Deliver.lean ====
section
/-!
DEFINITION. What the flag events of a step cause outside their registers: event-ring entries (R402), MSI-X messages (R399, R456),
profile triggers of the recorder (R434–R438). `State.settle` delivers the events of a command; every meaning ends with it.
-/

namespace Sys2Proof.Machine

/-- Host-visible value of a register without the side effects of a read (R436): what is computed is computed, what is write-only
reads 0. GLB_PEND shows every source with an admitted flag set (R452, R455). -/
def State.pend (s : State) : Nat :=
  let srcs : List (Nat × List Nat) :=
    [(0, [Reg.GLB_FLAGS]), (1, [Reg.GLB_GUARD]), (2, [Reg.CTU_FLAGS]), (3, [Reg.PWR_FLAGS]), (4, [Reg.PWR_HU_FLAGS]),
     (5, [Reg.THM_FLAGS]), (6, [Reg.CLK_FLAGS]), (7, (List.range 256).map Reg.CLK_TR_STAT), (8, (List.range 24).map Reg.EDG_FLAGS),
     (9, [Reg.EDG_ALIGN_FLAGS]), (10, (List.range 24).map Reg.GDV_FLAGS), (11, (List.range 12).map Reg.CLU_FLAGS),
     (12, (List.range 12).map Reg.CLU_DC_FLAGS), (13, [Reg.CLU_SYS_FLAGS]), (14, (List.range 12).map Reg.CHG_FLAGS),
     (15, [Reg.CHG_SN_FLAGS]), (16, (List.range 2).map Reg.LDG_FLAGS), (17, [Reg.MEAS_FLAGS]),
     (18, (List.range 4).map Reg.AUXD_FLAGS), (19, (List.range 4).map Reg.FB_FLAGS), (20, (List.range 4).map Reg.SVR_FLAGS),
     (21, (List.range 5).map Reg.TRP_FLAGS), (22, [Reg.SAFE_FLAGS]), (23, (List.range 2).map Reg.ETH_P_FLAGS),
     (24, [Reg.ETH_PTP_FLAGS]), (25, [Reg.ETH_SNL_FLAGS]), (26, (List.range 6).map Reg.CAN_FLAGS), (27, [Reg.HIF_FLAGS]),
     (28, [Reg.MBX_FLAGS]), (29, [Reg.REC_FLAGS]), (30, [Reg.DBG_FLAGS])]
  let admitted (p : Nat × List Nat) : Nat :=
    let w := if p.1 = 7 then 0x07000000 else if p.1 = 1 then 0x300 else 0xFFFFFFFF
    let m := (s.reg (Reg.GLB_MASK p.1)).toNat &&& w
    if p.2.any (fun a => (s.reg a).toNat &&& m != 0) then 2 ^ p.1 else 0
  srcs.foldl (fun acc p => acc + admitted p) 0

/-- ETH_PTP_STAT with the seconds in holdover until now (R348). -/
def State.viewPtp (s : State) : Word :=
  let w := s.reg Reg.ETH_PTP_STAT
  match s.snl.hoAt with
  | some t => if Fld.ETH_PTP_STAT_HOLDOVER.on w then Fld.ETH_PTP_STAT_HO_TIME.put w (min ((s.now - t) / (1000 * ms 1)) 65535) else w
  | none => w

/-- SAFE_NET with the milliseconds since the last accepted frame, once the watchdog has started (R342). -/
def State.viewNet (s : State) : Word :=
  let w := s.reg Reg.SAFE_NET
  if Fld.SAFE_NET_RUNNING.on w || Fld.SAFE_NET_EXPIRED.on w then (⟨0, 16⟩ : Field).put w (min ((s.now - s.rm.netAt) / ms 1) 65535) else w

/-- The host-visible value of a register without side effects. -/
def State.view (s : State) (a : Nat) : Word :=
  if a = Reg.GLB_PEND then BitVec.ofNat 32 s.pend
  else if a = Reg.CLK_TB_LO then BitVec.ofNat 32 s.tb
  else if a = Reg.ETH_PTP_SEC_LO then BitVec.ofNat 32 s.ptpSec
  else if a = Reg.ETH_PTP_STAT then s.viewPtp
  else if a = Reg.SAFE_NET then s.viewNet
  else s.reg a

/-! ### Messages (R456) -/

/-- HIF_STAT.BME: bus mastering is enabled (R407). -/
def Fld.HIF_STAT_BME : Field := ⟨31, 1⟩

/-- A message on a vector: issued, or held by the 1 µs spacing, by the vector's mask bit in the PBA, or while bus mastering is
disabled (R456). -/
def State.message (s : State) (v : Nat) : State :=
  if !s.bit Reg.HIF_STAT Fld.HIF_STAT_BME then s.updVec v fun m => { m with withheld := true }
  else if (s.reg (Reg.MSIX_CTRL v)).toNat % 2 == 1 then s.setFld (Reg.MSIX_PBA (v / 32)) ⟨v % 32, 1⟩ 1
  else
    match (s.vec v).last with
    | some t => if s.since t (us 1) then s.updVec v fun m => { m with last := some s.now, sent := m.sent + 1, waiting := false }
                else s.updVec v fun m => { m with waiting := true }
    | none => s.updVec v fun m => { m with last := some s.now, sent := m.sent + 1, waiting := false }

/-! ### Rings written by the device (R384, R399) -/

/-- Entries of a ring. -/
def State.ringN (s : State) (r : Nat) : Nat := 2 ^ s.fld (Reg.HIF_RING_CFG r) Fld.HIF_RING_CFG_LOG2N
/-- Base address of a ring in host memory. -/
def State.ringBase (s : State) (r : Nat) : Nat := s.reg64 (Reg.HIF_RING_BASE_LO r) (Reg.HIF_RING_BASE_HI r)
/-- A ring is enabled. -/
def State.ringOn (s : State) (r : Nat) : Bool := s.bit (Reg.HIF_RING_CFG r) Fld.HIF_RING_CFG_EN
/-- The producer index of a device-produced ring; the fetch head of a submission ring. -/
def State.devIdx (s : State) (r : Nat) : Nat := (s.reg (Reg.HIF_RING_DEVIDX r)).toNat
/-- The last valid HOSTIDX. -/
def State.hostIdx (s : State) (r : Nat) : Nat := (s.reg (Reg.HIF_RING_HOSTIDX r)).toNat
/-- Difference of two free-running counts. -/
def idxDiff (a b : Nat) : Nat := (a + 2 ^ 32 - b % 2 ^ 32) % 2 ^ 32
/-- PHASE of entry i of a ring of N entries (R384). -/
def phaseOf (i n : Nat) : Nat := if i / n % 2 == 0 then 1 else 0
/-- Barker issues requests: bus mastering enabled, link up, not in D3hot (R379, R400). -/
def State.barker (s : State) : Bool :=
  s.bit Reg.HIF_STAT Fld.HIF_STAT_BME && s.bit Reg.HIF_STAT Fld.HIF_STAT_LINKUP && !s.bit Reg.HIF_STAT Fld.HIF_STAT_D3HOT

/-- The write-back word of a ring: DEVIDX and the low word of HIF_EPOCH at 8r of the write-back page (R385). -/
def State.writeBack (s : State) (r idx : Nat) : State :=
  s.putHost (s.reg64 Reg.HIF_WB_BASE_LO Reg.HIF_WB_BASE_HI + 8 * r) (leBytes 4 idx ++ leBytes 4 (s.reg Reg.HIF_EPOCH).toNat)

/-- Interrupt moderation after an entry or block is written (R399). -/
def State.moderate (s : State) (r : Nat) (atOnce : Bool) : State :=
  let irq := s.reg (Reg.HIF_RING_IRQ r)
  let s := s.updRing r fun x => { x with irqCount := x.irqCount + 1, irqSince := some (x.irqSince.getD s.now) }
  if Fld.HIF_RING_IRQ_EN.on irq && (atOnce || Nat.ble (Fld.HIF_RING_IRQ_COUNT.get irq) (s.ring r).irqCount) then
    (s.message (Fld.HIF_RING_IRQ_VECTOR.get irq)).updRing r fun x => { x with irqCount := 0, irqSince := none }
  else s

/-- An entry of `size` bytes placed at the producer index of a device-produced ring, then its write-back word, then its message
(R384, R399). `mk` gives the entry from its index and PHASE. -/
def State.produce (s : State) (r size : Nat) (atOnce : Bool) (mk : Nat → Nat → List Byte) : State :=
  let p := s.devIdx r
  let n := s.ringN r
  let p' := (p + 1) % 2 ^ 32
  let s := s.putHost (s.ringBase r + size * (p % n)) (mk p (phaseOf p n))
  let s := (s.setNat (Reg.HIF_RING_DEVIDX r) p').setNat (Reg.HIF_RING_DONE r) p'
  (s.writeBack r p').moderate r atOnce

/-- A free entry of a device-produced ring that has not stopped (R400). -/
def State.room (s : State) (r : Nat) : Bool :=
  !s.bit (Reg.HIF_RING_STAT r) Fld.HIF_RING_STAT_STOPPED && Nat.blt (idxDiff (s.devIdx r) (s.hostIdx r)) (s.ringN r)

/-- The bytes of an event-ring entry (R402). -/
def eventBytes (type phase addr bits lost tbFine ptpSec ptpNs : Nat) (dev : Word) : List Byte :=
  leBytes 1 type ++ leBytes 1 phase ++ leBytes 2 0 ++ leBytes 4 addr ++ leBytes 4 bits ++ leBytes 4 lost ++ leBytes 8 tbFine
    ++ leBytes 4 ptpSec ++ leBytes 4 ptpNs ++ leBytes 4 dev.toNat ++ leBytes 28 0

/-- The OVERFLOW entry of an event ring, written when room has returned and before any newer entry (R402). -/
def State.overflowEntry (s : State) (r : Nat) : State :=
  if Nat.blt 0 (s.ring r).lost && s.room r && s.ringOn r && s.barker then
    let lost := (s.ring r).lost
    ((s.produce r 64 false fun _ ph => eventBytes 2 ph 0 0 lost s.tbFine s.ptpSec s.ptpNsWord (s.reg Reg.GLB_DEVSTATE)).updRing r
      fun x => { x with lost := 0 }).raise .hif 3
  else s

/-- A FLAG entry of event ring `e`, or one lost where the ring is full or Barker may issue no request (R400, R402). -/
def State.eventEntry (s : State) (e addr bits : Nat) : State :=
  let r := 24 + e
  if !s.ringOn r then s
  else
    let s := s.overflowEntry r
    if s.room r && s.barker then
      s.produce r 64 false fun _ ph => eventBytes 1 ph addr bits 0 s.tbFine s.ptpSec s.ptpNsWord (s.reg Reg.GLB_DEVSTATE)
    else
      (s.updRing r fun x => { x with lost := min (x.lost + 1) 0xFFFFFFFF }).raiseIf
        (!s.bit Reg.HIF_STAT Fld.HIF_STAT_BME) .hif 7

/-! ### Routing (R455) -/

/-- The routing of an event by GLB_ROUTEs and GLB_MASKs of its source (R455). -/
def State.routeEvent (s : State) (e : FlagEvent) : State :=
  let rt := s.reg (Reg.GLB_ROUTE e.src)
  let bits := e.bits &&& (s.reg (Reg.GLB_MASK e.src)).toNat
  if bits = 0 || !Fld.GLB_ROUTE_EN.on rt then s
  else
    let s := if Fld.GLB_ROUTE_RING.on rt then s.eventEntry (Fld.GLB_ROUTE_EQ.get rt) e.addr bits else s
    if Fld.GLB_ROUTE_DIRECT.on rt then s.message (Fld.GLB_ROUTE_VECTOR.get rt) else s

/-! ### Profiles (R434–R438) -/

/-- The snapshot of a list: every valid entry, in list order (R436). -/
def State.snapshot (s : State) (l : Nat) : List (Nat × Word) :=
  (List.range 64).filterMap fun i =>
    let w := s.reg (Reg.REC_SL l i)
    if Fld.REC_SL_VALID.on w then
      let a := w.toNat % 2 ^ 20
      some (a, s.view a)
    else none

/-- REC_STAT.CAPSTATE codes (R438). -/
def capIDLE : Nat := 0
/-- ARMED. -/
def capARMED : Nat := 1
/-- POST. -/
def capPOST : Nat := 2
/-- DONE. -/
def capDONE : Nat := 3

/-- A trigger of profile `p` (R435): its entry with snapshot, capture start and notice, or a counted suppression. -/
def State.triggerProfile (s : State) (p source bits : Nat) : State :=
  let cfg := s.reg (Reg.REC_P_CFG p)
  let pr := s.prof p
  let hold := match pr.last with
    | some t => !s.since t (ms (Fld.REC_P_CFG_HOLDOFF.get cfg))
    | none => false
  if hold || s.bit Reg.REC_STAT Fld.REC_STAT_FROZEN || Nat.ble 256 s.recQueue.length || s.worn 2 then
    (((s.updProf p fun x => { x with supp := min (x.supp + 1) 0xFFFFFFFF }).incSat (Reg.REC_P_SUPP p)).incSat Reg.REC_SUPPTOT).raise .recd 1
  else
    let cap := s.fld Reg.REC_STAT Fld.REC_STAT_CAPSTATE
    let wantsCap := Fld.REC_P_CFG_CAP.on cfg
    let start := wantsCap && cap == capARMED
    let busy := wantsCap && (cap == capPOST || cap == capDONE)
    let pairs := if Fld.REC_P_CFG_SNAP.on cfg then s.snapshot (Fld.REC_P_CFG_LIST.get cfg) else []
    let tags := b2n busy + 2 * b2n start + 8 * s.condTags
    let s := s.enqueue (s.entry 2 p source bits pr.supp tags pairs [])
    let s := s.updProf p fun _ => { last := some s.now, supp := 0 }
    let s := if start then
        { s.setFld Reg.REC_STAT Fld.REC_STAT_CAPSTATE capPOST with recst := { s.recst with trigAt := s.now, trigSeen := false } }
      else s
    if Fld.REC_P_CFG_NOTIFY.on cfg then s.device 1 0x07 p Reg.REC_STAT else s

/-- The flag-source profiles that an event triggers, in ascending profile order (R434, R443). -/
def State.profilesOf (s : State) (e : FlagEvent) : List Nat :=
  (List.range 32).filter fun p =>
    let cfg := s.reg (Reg.REC_P_CFG p)
    Fld.REC_P_CFG_EN.on cfg && Fld.REC_P_CFG_SRC.get cfg == 1 &&
      (s.reg (Reg.REC_P_SRC p)).toNat % 2 ^ 20 == e.addr && ((s.reg (Reg.REC_P_LEVEL p)).toNat &&& e.bits) != 0

/-- Every event of the list delivered: profile triggers in ascending profile order, then the routing of each event. -/
def State.deliver (s : State) (l : List FlagEvent) : State :=
  let trig := (List.range 32).filterMap fun p => (l.find? fun e => (s.profilesOf e).contains p).map fun e => (p, e)
  let s := s.asOne .recd 1 fun s => trig.foldl (fun t pe => t.triggerProfile pe.1 pe.2.addr pe.2.bits) s
  l.foldl State.routeEvent s

/-- Bits of one register that set in one handshake share one event (R402). -/
def mergeEvents : List FlagEvent → List FlagEvent
  | [] => []
  | e :: l =>
    let r := mergeEvents l
    match r.find? fun d => d.addr == e.addr with
    | some d => { e with bits := e.bits ||| d.bits } :: r.filter fun d => d.addr != e.addr
    | none => e :: r

/-- Delivery of the events of a command, and of those that the delivery itself causes. A flag is never cleared here, and delivery
raises only REC_FLAGS.SUPP, MBX_FLAGS.RXNEW and DEVQOVF, HIF_FLAGS.EVOVF and NOBME, so five rounds empty the list. -/
def State.settleN : Nat → State → State
  | 0, s => s
  | n + 1, s =>
    match s.events with
    | [] => s
    | l => State.settleN n (({ s with events := [] }).deliver (mergeEvents l))

/-- Delivery of the events of a command; while the control die is down nothing routes them. -/
def State.settle (s : State) : State := if s.cdRun then s.settleN 8 else { s with events := [] }

/-- A command that is carried out: its events are delivered and the machine goes on. -/
def done (s : State) : Res := .next s.settle

/-- A command that is carried out only while the control die runs and a condition holds; otherwise nothing happens. -/
def onlyIf (c : Bool) (s : State) (f : State → State) : Res := if c then done (f s) else .next s

/-- A write that names a register the map lacks (R2, R446). -/
def State.unimplemented (s : State) (a : Nat) : State := (s.setNat Reg.GLB_UNIMPL_ADDR (a % 2 ^ 20)).raise .glb 0

/-- A command that is a write of register `a`, which the variant has or lacks (R2): without the register the write is one of R446, otherwise the
command is carried out where its condition holds. -/
def atReg (a : Nat) (present ok : Bool) (s : State) (f : State → State) : Res :=
  if present then onlyIf ok s f else onlyIf s.cdRun s fun s => s.unimplemented a

end Sys2Proof.Machine
end

