-- ==== Sys2Proof/Machine/Wave.lean ====
section
/-!
DEFINITION. Records that the recorder taps (R434, R437, R438): 16-byte capture records written into the waveform area, and threshold
triggers.
-/

namespace Sys2Proof.Machine

/-- The bytes of a sample record (R238). -/
def sampleBytes (code : Int) (flags ch kind seq ext stamp navg calseq : Nat) : List Byte :=
  leBytes 2 (unsigned 16 code) ++ leBytes 2 flags ++ leBytes 1 ch ++ leBytes 1 kind ++ leBytes 1 seq ++ leBytes 1 ext ++ leBytes 6 stamp
    ++ leBytes 1 navg ++ leBytes 1 calseq

/-- The bytes of a record of R404. -/
def otherBytes (word src kind seq b7 stamp last : Nat) : List Byte :=
  leBytes 4 word ++ leBytes 1 src ++ leBytes 1 kind ++ leBytes 1 seq ++ leBytes 1 b7 ++ leBytes 6 stamp ++ leBytes 2 last

/-- The capture area in bytes. -/
def State.waveSize (s : State) : Nat := min (2 ^ 28) ((s.reg Reg.REC_CAP_SIZE).toNat / 4096 * 4096)
/-- Its start in DRAM. -/
def State.waveBase (s : State) : Nat := (s.reg Reg.REC_CAP_BASE).toNat / 4096 * 4096 % 2 ^ 29

/-- A record of a source, whose bit in a selection register admits it, is written into the area while ARMED or in POST (R437, R438). The
first one stamped at or after the trigger gives REC_CAP_TRIG. -/
def State.wave (s : State) (sel bit stamp : Nat) (rec : List Byte) : State :=
  let c := s.fld Reg.REC_STAT Fld.REC_STAT_CAPSTATE
  if (c == capARMED || c == capPOST) && bitOf (s.reg sel).toNat bit && Nat.ble 16 s.waveSize then
    let pos := s.recst.wrPos
    let a := s.waveBase + pos
    let full := Nat.blt s.waveSize (pos + 32)
    let trig := c == capPOST && !s.recst.trigSeen && Nat.ble (s.tbFine - (s.now - s.recst.trigAt) * 16) stamp
    let s := { s.putDram a rec with recst := { s.recst with wrPos := if full then 0 else pos + 16, wrapped := s.recst.wrapped || full,
                                                            trigSeen := s.recst.trigSeen || trig } }
    if trig then s.setNat Reg.REC_CAP_TRIG a else s
  else s

/-- A record of R404 with the count of its source. -/
def State.waveOther (s : State) (src kind key sel bit stamp word b7 last : Nat) : State :=
  let n := (File.get 0 s.recst.seqs key + 1) % 256
  let s := { s with recst := { s.recst with seqs := File.set 0 s.recst.seqs key n } }
  s.wave sel bit stamp (otherBytes word src kind n b7 stamp last)

/-- The threshold profiles of an input (R434): bank 0 SAR, 1 modulator, 2 precision; the code of a record and of the one before it. -/
def State.thresholds (s : State) (bank ch src : Nat) (prev : Option Int) (code : Int) : State :=
  s.each (List.range 32) fun u p =>
    let cfg := u.reg (Reg.REC_P_CFG p)
    let w := (u.reg (Reg.REC_P_SRC p)).toNat
    let level := signed 16 (u.reg (Reg.REC_P_LEVEL p)).toNat
    let beyond (c : Int) : Bool := if bitOf w 8 then decide (c < level) else decide (level < c)
    if Fld.REC_P_CFG_EN.on cfg && Fld.REC_P_CFG_SRC.get cfg == 2 && w % 64 == ch && w / 64 % 4 == bank && beyond code &&
        !(prev.any beyond) then u.triggerProfile p src 0
    else u

end Sys2Proof.Machine
end

