-- ==== Sys2Proof/Machine/Rings.lean ====
section
/-!
DEFINITION. Submission and completion rings (R383–R401): completions, credit, flushes, stops.
-/

namespace Sys2Proof.Machine

/-- HIF_RINGr_STAT bits 31:24: last error STATUS. -/
def Fld.HIF_RING_STAT_ERR : Field := ⟨24, 8⟩
/-- HIF_RINGr_STAT bits 23:16: descriptors outstanding. -/
def Fld.HIF_RING_STAT_OUT : Field := ⟨16, 8⟩

/-- STATUS codes (R398). -/
def csSUCCESS : Nat := 0x00
/-- Unknown opcode. -/
def csBADOP : Nat := 0x01
/-- A field is bad. -/
def csBADFIELD : Nat := 0x02
/-- Refused in the present state. -/
def csSTATE : Nat := 0x03
/-- Conditions unmet. -/
def csCOND : Nat := 0x04
/-- A host-memory access failed. -/
def csDMAERR : Nat := 0x05
/-- Executed with an outcome other than success. -/
def csOPFAIL : Nat := 0x06
/-- Flushed by a device reset. -/
def csFLUSH_RESET : Nat := 0x80
/-- Flushed by a disable. -/
def csFLUSH_DISABLE : Nat := 0x81
/-- Flushed by a stop. -/
def csFLUSH_STOPPED : Nat := 0x82
/-- Flushed with its CAN target. -/
def csFLUSH_TARGET : Nat := 0x83

/-- The completion ring of a submission ring (R383). -/
def State.cqOf (s : State) (r : Nat) : Nat := 12 + s.fld (Reg.HIF_RING_CFG r) Fld.HIF_RING_CFG_CQ

/-- The done-head of a submission ring. -/
def State.doneHead (s : State) (r : Nat) : Nat := (s.reg (Reg.HIF_RING_DONE r)).toNat

/-- The lowest index not yet completed, from `h` upward through the completed set. -/
def advanceHead (set : List Nat) : Nat → Nat → Nat
  | 0, h => h
  | n + 1, h => if set.contains h then advanceHead set n ((h + 1) % 2 ^ 32) else h

/-- An index is marked complete, and the done-head with its write-back word follows (R385). -/
def State.markDone (s : State) (r idx : Nat) : State :=
  let set := (s.ring r).doneSet ++ [idx]
  let h := advanceHead set set.length (s.doneHead r)
  let s := s.updRing r fun x => { x with doneSet := set.filter fun i => Nat.ble (idxDiff i h) (2 ^ 31) }
  let s := s.setNat (Reg.HIF_RING_DONE r) h
  s.writeBack r h

/-- The bytes of a completion entry with a PHASE (R397). -/
def completionBytes (opcode phase status ring tag idx reason tbFine : Nat) (result : List Byte) : List Byte :=
  leBytes 1 opcode ++ leBytes 1 phase ++ leBytes 1 status ++ leBytes 1 ring ++ leBytes 4 tag ++ leBytes 4 idx ++ leBytes 4 reason
    ++ leBytes 8 tbFine ++ (result ++ List.replicate 40 0).take 40

/-- Writes a completion entry in the completion ring of `r` and marks its index done (R399). -/
def State.placeCompletion (s : State) (r idx : Nat) (entry : List Byte) (irq : Bool) : State :=
  let q := s.cqOf r
  (s.produce q 64 irq fun _ ph => entry.take 1 ++ leBytes 1 ph ++ entry.drop 2).markDone r idx

/-- Free entries of a completion ring (R387). -/
def State.cqFree (s : State) (q : Nat) : Nat := s.ringN q - idxDiff (s.devIdx q) (s.hostIdx q) - (s.ring q).reserved

/-- A completion can be written now: Barker issues requests, the ring is enabled or still being emptied after its disable, and its
completion ring is enabled and has an entry, one that no other descriptor has reserved unless this one held a reservation (R387). -/
def State.canComplete (s : State) (r : Nat) (mine : Bool) : Bool :=
  s.barker && (s.ringOn r || s.bit (Reg.HIF_RING_STAT r) Fld.HIF_RING_STAT_FLUSHING) && s.ringOn (s.cqOf r) && s.room (s.cqOf r) &&
    (mine || Nat.blt 0 (s.cqFree (s.cqOf r)))

/-- The last error of a ring (R407). -/
def State.ringError (s : State) (r status : Nat) : State :=
  let s := s.setFld (Reg.HIF_RING_STAT r) Fld.HIF_RING_STAT_ERR status
  let s := s.setNat Reg.HIF_ERRRING (status * 256 + r)
  s.raiseIf (status == csDMAERR) .hif 1

/-- A completion of the descriptor at an index (R397–R399): written, or held while it cannot be; `mine` where the descriptor held a
reservation, which is used up already. Its entry has no field for the condition tag of R32, which the ring's record keeps by index. -/
def State.completion (s : State) (r idx opcode tag status reason : Nat) (result : List Byte) (irq mine : Bool) : State :=
  let s := s.updRing r fun x => { x with ctags := File.set 0 x.ctags idx s.condTags }
  let entry := completionBytes opcode 0 status r tag idx reason s.tbFine result
  if s.canComplete r mine && (mine || (s.ring r).held.isEmpty) then s.placeCompletion r idx entry irq
  else (s.updRing r fun x => { x with held := x.held ++ [(idx, entry, irq)] }).setBit (Reg.HIF_RING_STAT r) Fld.HIF_RING_STAT_HELD true

/-- A flushed descriptor: OPCODE and TAG are read from the ring (R397). -/
def State.flushOne (s : State) (r idx status : Nat) : State :=
  let a := s.ringBase r + 64 * (idx % s.ringN r)
  let b := s.hostBytes a 8
  s.completion r idx (leNat (b.take 1)) (leNat (b.drop 4)) status (if status = csFLUSH_TARGET then 5 else 0) [] false false

/-- Every descriptor from `h` to `t` flushed with a status. -/
def State.flushRange (s : State) (r h t status : Nat) : State :=
  s.each (List.range (idxDiff t h)) fun u i => u.flushOne r ((h + i) % 2 ^ 32) status

/-- A ring stops (R400): STOPPED, and every descriptor from the fetch head to the last valid tail is flushed. -/
def State.stopRing (s : State) (r : Nat) : State :=
  if s.bit (Reg.HIF_RING_STAT r) Fld.HIF_RING_STAT_STOPPED then s
  else
    let s := s.setBit (Reg.HIF_RING_STAT r) Fld.HIF_RING_STAT_STOPPED true
    if Nat.blt r 12 then
      let t := s.hostIdx r
      (s.flushRange r (s.devIdx r) t csFLUSH_STOPPED).setNat (Reg.HIF_RING_DEVIDX r) t
    else s

/-- The descriptors fetched and not executing, their completion entries given back. -/
def State.dropQueue (s : State) (r : Nat) : State :=
  let n := (s.ring r).queue.length
  let s := (s.updRing r fun x => { x with queue := [] }).updRing (s.cqOf r) (fun x => { x with reserved := x.reserved - n })
  s.setFld (Reg.HIF_RING_STAT r) Fld.HIF_RING_STAT_OUT (s.fld (Reg.HIF_RING_STAT r) Fld.HIF_RING_STAT_OUT - n)

/-- A disabled submission ring is emptied (R400): what has not executed completes with FLUSH_DISABLE. -/
def State.flushDisabled (s : State) (r : Nat) : State :=
  let t := s.hostIdx r
  let q := (s.ring r).queue.map (·.index)
  let s := (s.dropQueue r).each q fun u i => u.flushOne r i csFLUSH_DISABLE
  let s := (s.flushRange r (s.devIdx r) t csFLUSH_DISABLE).setNat (Reg.HIF_RING_DEVIDX r) t
  s.setBit (Reg.HIF_RING_STAT r) Fld.HIF_RING_STAT_FLUSHING false

/-- Header fields of a fetched descriptor (R389). -/
def Fetched.opcode (f : Fetched) : Nat := leNat (f.bytes.take 1)
/-- The IRQ bit. -/
def Fetched.irq (f : Fetched) : Bool := leNat ((f.bytes.drop 1).take 1) % 2 == 1
/-- The host's TAG. -/
def Fetched.tag (f : Fetched) : Nat := leNat ((f.bytes.drop 4).take 4)
/-- A body field of `n` bytes at an offset. -/
def Fetched.fieldAt (f : Fetched) (off n : Nat) : Nat := leNat ((f.bytes.drop off).take n)
/-- Bytes lo..hi−1 are all 0. -/
def Fetched.zero (f : Fetched) (lo hi : Nat) : Bool := ((f.bytes.take hi).drop lo).all (fun b => b.toNat == 0)

/-- A fetched descriptor of a submission ring completes: its reservation and outstanding count are used up (R387), an error is kept
and may stop the ring (R400). -/
def State.finish (s : State) (r : Nat) (f : Fetched) (status reason : Nat) (result : List Byte) : State :=
  let q := s.cqOf r
  let s := s.updRing q fun x => { x with reserved := x.reserved - 1 }
  let s := s.setFld (Reg.HIF_RING_STAT r) Fld.HIF_RING_STAT_OUT (s.fld (Reg.HIF_RING_STAT r) Fld.HIF_RING_STAT_OUT - 1)
  let s := s.completion r f.index f.opcode f.tag status reason result f.irq true
  let err := Nat.blt 0 status && Nat.blt status 0x80
  let s := if err then s.ringError r status else s
  let s := if err && s.bit (Reg.HIF_RING_CFG r) Fld.HIF_RING_CFG_STOP_ON_ERR then s.stopRing r else s
  if s.bit (Reg.HIF_RING_STAT r) Fld.HIF_RING_STAT_FLUSHING && !s.ringOn r && (s.ring r).waiting.isNone && (s.ring r).inBuf.isEmpty
  then s.flushDisabled r else s

/-- Held completions written as far as they can be (R382, R400, R401). -/
def State.drainHeldN : Nat → State → Nat → State
  | 0, s, _ => s
  | n + 1, s, r =>
    match (s.ring r).held with
    | [] => s.setBit (Reg.HIF_RING_STAT r) Fld.HIF_RING_STAT_HELD false
    | (idx, e, irq) :: rest =>
      if s.canComplete r false then
        State.drainHeldN n ((s.updRing r fun x => { x with held := rest }).placeCompletion r idx e irq) r
      else s

/-- Held completions of a ring written as far as they can be. -/
def State.drainHeld (s : State) (r : Nat) : State := s.drainHeldN ((s.ring r).held.length + 1) r

/-- The descriptor that a ring executes next: the first fetched one, where the ring waits on none (R388). -/
def State.front (s : State) (r : Nat) : Option Fetched :=
  match (s.ring r).waiting, (s.ring r).queue with
  | none, f :: _ => some f
  | _, _ => none

/-- The front descriptor taken from its queue. -/
def State.popFront (s : State) (r : Nat) : State := s.updRing r fun x => { x with queue := x.queue.drop 1 }

/-- A ring bound to a CAN controller (R366, R383), with the controller. -/
def State.boundTo (s : State) (r : Nat) : Option Nat :=
  (List.range 6).find? fun x =>
    s.bit (Reg.CAN_CTRL x) Fld.CAN_CTRL_TXR_EN && (s.reg (Reg.CAN_TXRING x)).toNat % 16 == r

end Sys2Proof.Machine
end

