-- ==== Sys2Proof/Machine/CanBase.lean ====
section
/-!
DEFINITION. Ownership of the transmit buffers of the CAN controllers (R364) and when a controller takes part in its bus (R360, R376).
-/

namespace Sys2Proof.Machine

/-- CANx_STAT.CSTATE (R378): 0 disabled, 1 integrating, 2 error-active, 3 error-passive, 4 bus-off, 5 sleep. -/
def State.canState (s : State) (x : Nat) : Nat := s.fld (Reg.CAN_STAT x) Fld.CAN_STAT_CSTATE
/-- CSTATE set. -/
def State.setCanState (s : State) (x v : Nat) : State := s.setFld (Reg.CAN_STAT x) Fld.CAN_STAT_CSTATE v
/-- The controller owns buffer `b` (R364). -/
def State.canOwns (s : State) (x b : Nat) : Bool := s.bit (Reg.CAN_TB_STAT x b) Fld.CAN_TB_STAT_OWN
/-- Ownership of buffer `b`, in both places that show it. -/
def State.setCanOwn (s : State) (x b : Nat) (on : Bool) : State :=
  (s.setBit (Reg.CAN_TB_STAT x b) Fld.CAN_TB_STAT_OWN on).setFld (Reg.CAN_STAT x) ⟨4 + b, 1⟩ (b2n on)
/-- CANx_TBb_STAT bits 7:0: the retry count. -/
def Fld.CAN_TB_STAT_RETRY : Field := ⟨0, 8⟩

/-- The outcomes of R364. -/
def toSENT : Nat := 1
/-- The retry limit was reached. -/
def toRETRY_LIMIT : Nat := 2
/-- ABORT. -/
def toABORTED : Nat := 3
/-- Bus-off. -/
def toBUSOFF : Nat := 4
/-- Disabled. -/
def toFLUSHED : Nat := 5

/-- The completion of the descriptor in a ring-fed buffer (R366, R394). -/
def State.canDescriptorEnds (s : State) (x b outcome reason : Nat) : State :=
  let r := (s.reg (Reg.CAN_TXRING x)).toNat % 16
  match (s.ring r).inBuf.find? fun p => p.2 == b with
  | some (f, _) =>
    let s := s.updRing r fun g => { g with inBuf := g.inBuf.filter fun p => p.2 != b }
    s.finish r f (if outcome = toSENT then csSUCCESS else if outcome = toFLUSHED then csFLUSH_TARGET else csOPFAIL) reason []
  | none => s

/-- Buffer `b` returns to the host with an outcome (R364): its retry count stays until the next load, the run of data-field errors ends
(R370), and a ring-fed buffer ends its descriptor (R394). -/
def State.canReturn (s : State) (x b outcome : Nat) : State :=
  let retry := s.fld (Reg.CAN_TB_STAT x b) Fld.CAN_TB_STAT_RETRY
  let errs := (s.can x).dataErr.getD b 0
  let coll := Nat.ble (s.fld (Reg.CAN_CTRL x) Fld.CAN_CTRL_COLL_TH) errs
  let s := (s.setCanOwn x b false).setFld (Reg.CAN_TB_STAT x b) Fld.CAN_TB_STAT_OUTCOME outcome
  let s := s.updCan x fun c =>
    { c with abortAt := c.abortAt.filter (· != b), dataErr := c.dataErr.set b 0, sending := if c.sending == some b then none else c.sending }
  let s := s.raiseIf (outcome == toSENT) (.can x) 0 |>.raiseIf (outcome == toRETRY_LIMIT) (.can x) 1
    |>.raiseIf (outcome == toABORTED) (.can x) 2
  s.canDescriptorEnds x b outcome (outcome + 256 * retry + 65536 * b + 262144 * b2n coll)

/-- Every buffer that the controller owns returns with an outcome. -/
def State.canReturnAll (s : State) (x outcome : Nat) : State :=
  s.each [0, 1, 2] fun u b => if u.canOwns x b then u.canReturn x b outcome else u

/-- The controller takes part in its bus (R360, R376): enabled, in a state that allows it, VIO2 in its window and TD9 present. -/
def State.canUp (s : State) (x : Nat) : Bool :=
  s.bit (Reg.CAN_CTRL x) Fld.CAN_CTRL_EN && ((Nat.ble 2 s.dev && Nat.ble s.dev 6) || s.dev == stSAFE) &&
    s.bit Reg.PWR_SUPSTAT ⟨5, 1⟩ && !bitOf s.power.clkLost 9

/-- The level of CANx_STB (R360, R375): high unless the controller takes part, and in SLEEP with WAKE_MODE 0. -/
def State.canStb (s : State) (x : Nat) : Bool :=
  !s.canUp x || (s.canState x == 5 && !s.bit (Reg.CAN_CTRL x) Fld.CAN_CTRL_WAKE_MODE)

/-- A controller stops at once (R376): the frame in progress is lost without counting an attempt; a buffer whose abort waited for the end
of that frame returns with ABORTED (R368), the others keep their owner and retry count. -/
def State.canStop (s : State) (x : Nat) : State :=
  let s := s.each (s.can x).abortAt fun u b => u.canReturn x b toABORTED
  (s.setCanState x 0).updCan x fun c => { c with sending := none, sleepDue := false }

/-- Every controller follows its enable, the device state, VIO2 and TD9: it stops, or integrates afresh (R360, R376). -/
def State.canFollow (s : State) : State :=
  s.each (List.range 6) fun u x =>
    if u.canUp x then (if u.canState x = 0 then u.setCanState x 1 else u)
    else if u.canState x = 0 then u else u.canStop x

end Sys2Proof.Machine
end

