-- ==== Sys2Proof/Machine/Periph.lean ====
section
/-!
DEFINITION. How the service regulators and the auxiliary drives follow the device state (R270, R271, R282).
-/

namespace Sys2Proof.Machine

/-- Bank VIOx is in its window (R52). -/
def State.vioOk (s : State) (x : Nat) : Bool := s.bit Reg.PWR_SUPSTAT ⟨3 + x, 1⟩

/-- SVRc_STAT.STATE (R270). -/
def State.svrState (s : State) (c : Nat) : Nat := s.fld (Reg.SVR_STAT c) Fld.SVR_STAT_STATE
/-- SVRc_STAT.STATE set. -/
def State.setSvrState (s : State) (c v : Nat) : State := s.setFld (Reg.SVR_STAT c) Fld.SVR_STAT_STATE v
/-- Configured phases. -/
def State.svrPhases (s : State) (c : Nat) : Nat := s.fld (Reg.SVR_CTRL c) Fld.SVR_CTRL_NPH + 1

/-- A controller goes to OFF. DESIGN CHOICE (log 51): USED starts at 0 again, and so does the period of the next start. -/
def State.svrOff (s : State) (c : Nat) : State :=
  let s := (s.setSvrState c 0).setFld (Reg.SVR_STAT c) Fld.SVR_STAT_NACT 0
  let s := (s.setBit (Reg.SVR_STAT c) Fld.SVR_STAT_BSTHOLD false).setFld (Reg.SVR_STAT c) Fld.SVR_STAT_USED 0
  s.updSvr c fun r => { fltLow := r.fltLow, fltAt := r.fltAt, syncT := r.syncT }

/-- SOFTSTART begins: every configured phase is active (R270, R273, R276). -/
def State.svrSoftStart (s : State) (c : Nat) : State :=
  let s := (s.setSvrState c 1).setFld (Reg.SVR_STAT c) Fld.SVR_STAT_NACT (s.svrPhases c)
  s.updSvr c fun r =>
    { fltLow := r.fltLow, fltAt := r.fltAt, period := r.period, syncT := r.syncT, perAt := r.perAt, ssAt := s.now,
      lowAt := List.replicate 4 s.now }

/-- Device states in which a unit with SAFE_OFF runs (R271, R282). -/
def State.unitAllowed (s : State) (safeOff : Bool) : Bool :=
  (Nat.ble 2 s.dev && Nat.ble s.dev 6) || (s.dev == stSAFE && !safeOff)

/-- A controller may run. -/
def State.svrAllowed (s : State) (c : Nat) : Bool :=
  s.unitAllowed (s.bit (Reg.SVR_CTRL c) Fld.SVR_CTRL_SAFE_OFF) && s.vioOk 3

/-- AUXDi_STAT.STATE (R282). -/
def State.auxState (s : State) (i : Nat) : Nat := s.fld (Reg.AUXD_STAT i) Fld.AUXD_STAT_STATE
/-- AUXDi_STAT.STATE set. -/
def State.setAuxState (s : State) (i v : Nat) : State := s.setFld (Reg.AUXD_STAT i) Fld.AUXD_STAT_STATE v
/-- A drive may run. -/
def State.auxAllowed (s : State) (i : Nat) : Bool :=
  s.unitAllowed (s.bit (Reg.AUXD_CTRL i) Fld.AUXD_CTRL_SAFE_OFF) && s.vioOk 5
/-- VM of a drive lies inside its window (R287). -/
def State.vmInside (s : State) (i : Nat) : Bool :=
  let vm := s.fld (Reg.AUXD_MEAS i) Fld.AUXD_MEAS_VM
  Nat.ble (100 * s.fld (Reg.AUXD_VM i) Fld.AUXD_VM_VM_UV) vm && Nat.ble vm (100 * s.fld (Reg.AUXD_VM i) Fld.AUXD_VM_VM_OV)
/-- A drive goes to OFF. -/
def State.auxOff (s : State) (i : Nat) : State :=
  ((s.setAuxState i 0).setFld (Reg.AUXD_STAT i) Fld.AUXD_STAT_BSTHOLD 0).updAux i fun a => { a with stop := false, pat := none }
/-- A drive starts: RUN, or VMHOLD where VM is outside its window. -/
def State.auxStart (s : State) (i : Nat) : State :=
  (s.setAuxState i (if s.vmInside i then 1 else 2)).updAux i fun a =>
    { a with stop := false, lowAt := List.replicate 3 s.now, vmAt := if s.vmInside i then some s.now else none }

/-- The service regulators follow the device state and VIO3. -/
def State.svrFollow (s : State) : State :=
  s.each (List.range 4) fun u c =>
    if u.dev = stBOOT || u.dev = stLOCKOUT || !u.vioOk 3 then
      (u.svrOff c).setBit (Reg.SVR_CTRL c) Fld.SVR_CTRL_EN false
    else if !u.svrAllowed c then u.svrOff c
    else if u.bit (Reg.SVR_CTRL c) Fld.SVR_CTRL_EN && u.svrState c == 0 then u.svrSoftStart c
    else u

/-- The auxiliary drives follow the device state and VIO5. -/
def State.auxFollow (s : State) : State :=
  s.each (List.range 4) fun u i =>
    if u.dev = stBOOT || u.dev = stLOCKOUT || !u.vioOk 5 then
      (u.auxOff i).setBit (Reg.AUXD_CTRL i) Fld.AUXD_CTRL_EN false
    else if !u.auxAllowed i then u.auxOff i
    else if u.bit (Reg.AUXD_CTRL i) Fld.AUXD_CTRL_EN && u.auxState i == 0 && !(u.aux i).stop then u.auxStart i
    else u

/-- The units that a state enables follow a change of the device state (R271, R282, R360). -/
def State.unitsFollow (s : State) : State := s.svrFollow.auxFollow.canFollow

end Sys2Proof.Machine
end

