-- ==== Sys2Proof/Machine/Txn.lean ====
section
/-!
DEFINITION. What ends a configuration transaction from outside (R426): taints and conflicts, and the changes of device state and
cluster state that cause them.
-/

namespace Sys2Proof.Machine

/-- The reason codes of R423. -/
def trRANGE : Nat := 0x01
/-- Not configurable. -/
def trNOTCFG : Nat := 0x02
/-- RWL change while locked. -/
def trLOCKED : Nat := 0x03
/-- Not while running. -/
def trRUNNING : Nat := 0x04
/-- Not on this variant. -/
def trVARIANT : Nat := 0x05
/-- Composition. -/
def trCOMPOSE : Nat := 0x06
/-- Carrier. -/
def trCARRIER : Nat := 0x07
/-- Mode. -/
def trMODE : Nat := 0x08
/-- Order of fields. -/
def trORDER : Nat := 0x09
/-- Source. -/
def trSOURCE : Nat := 0x0A
/-- Safety. -/
def trSAFETY : Nat := 0x0B
/-- Conflict. -/
def trCONFLICT : Nat := 0x0C
/-- Boundary. -/
def trBOUNDARY : Nat := 0x0D
/-- Full. -/
def trFULL : Nat := 0x0E
/-- Timeout. -/
def trTIMEOUT : Nat := 0x0F
/-- No free slot. -/
def trNOSLOT : Nat := 0x10
/-- Unknown TID. -/
def trTIDERR : Nat := 0x11
/-- Not in this state. -/
def trSTATE : Nat := 0x12

/-- The states of a transaction (R421). -/
def txFREE : Nat := 0
/-- Open. -/
def txOPEN : Nat := 1
/-- Validated. -/
def txVALIDATED : Nat := 2
/-- Waiting for its boundary. -/
def txPENDING : Nat := 3

/-- The state of transaction slot `t`. -/
def State.txState (s : State) (t : Nat) : Nat := s.fld (Reg.CTU_T_STAT t) Fld.CTU_T_STAT_STATE
/-- The TID in slot `t`. -/
def State.txTid (s : State) (t : Nat) : Nat := s.fld (Reg.CTU_T_STAT t) Fld.CTU_T_STAT_TID
/-- Slot `t` stages offset `a`. -/
def State.stages (s : State) (t a : Nat) : Bool := (s.txn t).staged.any fun p => p.1 == a

/-- Slot `t` freed (R422). -/
def State.freeTxn (s : State) (t : Nat) : State := { s.setReg (Reg.CTU_T_STAT t) 0 with txns := File.set {} s.txns t {} }

/-- CTU_Tt_ERR: the last reason and the offending offset (R429). -/
def State.setTxErr (s : State) (t reason off : Nat) : State := s.setNat (Reg.CTU_T_ERR t) (reason * 2 ^ 24 + off % 2 ^ 20)

/-- The result of a COMMIT that ended: to its descriptor (R395), or to CTU_RES where that still shows it pending (R429). -/
def State.commitResult (s : State) (t : Nat) (ok : Bool) (reason off tc : Nat) : State :=
  match (s.txn t).ring with
  | some r =>
    match (s.ring r).waiting with
    | some (f, _) =>
      let s := s.updRing r fun x => { x with waiting := none }
      if ok then s.finish r f csSUCCESS 0 (leBytes 8 tc) else s.finish r f csOPFAIL reason (leBytes 4 off)
    | none => s
  | none =>
    let res := s.reg Reg.CTU_RES
    if Fld.CTU_RES_RESULT.get res == rcPENDING && Fld.CTU_RES_TID.get res == s.txTid t then
      (s.setFld Reg.CTU_RES Fld.CTU_RES_RESULT (if ok then rcDONE else rcCOND)).setFld Reg.CTU_RES Fld.CTU_RES_REASON (if ok then 0 else reason)
    else s

/-- A pending transaction fails with a reason; nothing is applied and its slot is freed (R426, R427). -/
def State.failPending (s : State) (t reason off : Nat) : State :=
  let s := s.setTxErr t reason off
  let s := s.commitResult t false reason off 0
  (s.freeTxn t).raiseMask .ctu (2 + (if reason = trCONFLICT then 8 else if reason = trTIMEOUT then 4 else 0))

/-- Register `a` was changed from outside every transaction but slot `own` (R426). -/
def State.taintBut (s : State) (own : Option Nat) (a : Nat) : State :=
  s.asOne .ctu 3 fun s => s.asOne .ctu 1 fun s => s.each (List.range 4) fun u t =>
    if own == some t || !u.stages t a then u
    else if u.txState t = txPENDING then u.failPending t trCONFLICT a
    else u.setBit (Reg.CTU_T_STAT t) Fld.CTU_T_STAT_TAINT true

/-- A direct change of register `a` (R426). -/
def State.taint (s : State) (a : Nat) : State := s.taintBut none a

/-- The pending transactions that stage an offset with a property fail with CONFLICT (R426). -/
def State.conflictIf (s : State) (p : Nat → Bool) : State :=
  s.asOne .ctu 3 fun s => s.asOne .ctu 1 fun s => s.each (List.range 4) fun u t =>
    if u.txState t = txPENDING then
      match (u.txn t).staged.find? fun w => p w.1 with
      | some w => u.failPending t trCONFLICT w.1
      | none => u
    else u

/-- An offset of the registers of cluster `k`, or of the EDG or GDV registers of a slot in `mask` (R426). -/
def ofCluster (k mask a : Nat) : Bool :=
  (Nat.ble 0x20000 a && Nat.blt a 0x26000 && (a - 0x20000) / 0x800 == k) ||
  (Nat.ble 0x10000 a && Nat.blt a 0x16000 && bitOf mask ((a - 0x10000) / 0x400)) ||
  (Nat.ble 0x18000 a && Nat.blt a 0x1B000 && bitOf mask ((a - 0x18000) / 0x200))

/-- CLU_k_STAT.CSTATE changes (R150, R426). -/
def State.setCState (s : State) (k v : Nat) : State :=
  if s.fld (Reg.CLU_STAT k) Fld.CLU_STAT_CSTATE = v then s
  else (s.setFld (Reg.CLU_STAT k) Fld.CLU_STAT_CSTATE v).conflictIf (ofCluster k (s.reg (Reg.CLU_SLOTS k)).toNat)

/-- The DERATE sub-state of the device: a cluster is derated in RUN (R67). -/
def State.devDerate (s : State) : State :=
  s.setBit Reg.GLB_DEVSTATE Fld.GLB_DEVSTATE_DERATE
    (s.dev == stRUN && s.clus.any fun k => s.bit (Reg.CLU_STAT k) Fld.CLU_STAT_DERATE)

/-- The device state changes (R65); every pending transaction fails (R426), and the units of R271 and R282 follow. -/
def State.enter (s : State) (v : Nat) : State :=
  if s.dev = v then s else (((s.setDev v).devDerate).conflictIf fun _ => true).unitsFollow

end Sys2Proof.Machine
end

