-- ==== Sys2Proof/Machine/Slots.lean ====
section
/-!
DEFINITION. Slots and clusters (R100, R131, R138, R147, R150): roles, states, holds and soft turn-off.
-/

namespace Sys2Proof.Machine

/-! ### Clusters and their slots -/

/-- CLU_k_CFG.TYPE (R178). -/
def State.ctype (s : State) (k : Nat) : Nat := s.fld (Reg.CLU_CFG k) Fld.CLU_CFG_TYPE
/-- Type code of GFI-3L. -/
def tyGFI3 : Nat := 1
/-- Type code of GFI-2L. -/
def tyGFI2 : Nat := 2
/-- Type code of SDC. -/
def tySDC : Nat := 3
/-- Type code of PVC. -/
def tyPVC : Nat := 4
/-- Type code of DLC. -/
def tyDLC : Nat := 5
/-- A GFI cluster. -/
def State.isGfi (s : State) (k : Nat) : Bool := s.ctype k == tyGFI3 || s.ctype k == tyGFI2
/-- The slots of cluster `k` in position order (R147). -/
def State.slotsOf (s : State) (k : Nat) : List Nat := bitsOf 24 (s.reg (Reg.CLU_SLOTS k)).toNat
/-- The cluster to which slot `n` is assigned (R147). -/
def State.clusterOf (s : State) (n : Nat) : Option Nat :=
  s.clus.find? fun k => s.ctype k != 0 && bitOf (s.reg (Reg.CLU_SLOTS k)).toNat n
/-- CLU_k_STAT.CSTATE (R150). -/
def State.cstate (s : State) (k : Nat) : Nat := s.fld (Reg.CLU_STAT k) Fld.CLU_STAT_CSTATE
/-- The CSTATE codes. -/
def csOFF : Nat := 0
/-- Starting. -/
def csSTARTING : Nat := 1
/-- Running. -/
def csRUN : Nat := 2
/-- Paused. -/
def csPAUSED : Nat := 3
/-- Stopping. -/
def csSTOPPING : Nat := 4
/-- Safe-stopped. -/
def csSAFE_STOPPED : Nat := 5
/-- Port open. -/
def csPORT_OPEN : Nat := 6
/-- Fenced. -/
def csFENCED : Nat := 7
/-- CLU_k_CFG.REGION. -/
def State.regionOf (s : State) (k : Nat) : Nat := s.fld (Reg.CLU_CFG k) Fld.CLU_CFG_REGION
/-- The owning triplet of a cluster as a party code (R147). -/
def State.ownerCode (s : State) (k : Nat) : Nat := 2 + s.fld (Reg.CLU_CFG k) Fld.CLU_CFG_OWNER
/-- Whether a party is the owning triplet of a slot (R109, R139). -/
def State.ownsSlotOf (s : State) (who : Party) (n : Nat) : Bool := (s.clusterOf n).any fun k => s.ownerCode k == partyCode who
/-- Whether a party may release the holds of a slot (R139): the host or the owning triplet. -/
def State.ownsSlot (s : State) (who : Party) (n : Nat) : Bool := who == .host || s.ownsSlotOf who n
/-- EDG_n_STAT.SSTATE (R100). -/
def State.sstate (s : State) (n : Nat) : Nat := s.fld (Reg.EDG_STAT n) Fld.EDG_STAT_SSTATE
/-- The slot is switching: SSTATE 0b001 or 0b010 (R101). -/
def State.switching (s : State) (n : Nat) : Bool := s.sstate n == 1 || s.sstate n == 2
/-- Any slot of a cluster is switching. -/
def State.cluSwitching (s : State) (k : Nat) : Bool := (s.slotsOf k).any s.switching
/-- The hold bits of a slot, GDV_n_STAT bits 7:0 (R138). -/
def State.holdBits (s : State) (n : Nat) : Nat := (s.reg (Reg.GDV_STAT n)).toNat % 256

/-- Cluster counts and states that follow the slots: NSW counts the switching slots (R101); STARTING of a GFI or DLC cluster ends when every enabled
slot has started (R150; log 87); STOPPING and a PAUSE end when none switches (R150, R151). -/
def State.cluFollow (s : State) (k : Nat) : State :=
  let sl := s.slotsOf k
  let s := s.setFld (Reg.CLU_STAT k) Fld.CLU_STAT_NSW (sl.countP s.switching)
  let en := sl.filter fun n => s.bit (Reg.EDG_CTRL n) Fld.EDG_CTRL_EN
  let cs := s.cstate k
  if cs = csSTARTING && (s.isGfi k || s.ctype k == tyDLC) && !en.isEmpty && en.all (fun n => s.sstate n == 2) then s.setCState k csRUN
  else if cs = csSTOPPING && !s.cluSwitching k then s.setCState k csOFF
  else if cs = csRUN && (s.cluster k).pausing && !s.cluSwitching k then
    (s.updCluster k fun c => { c with pausing := false }).setCState k csPAUSED
  else s

/-- ARMED and RUN follow the clusters (R65): RUN from the start of the first slot, ARMED once no slot switches (R101). -/
def State.runFollow (s : State) : State :=
  if s.dev = stARMED && s.slots.any (fun n => s.sstate n == 2) then s.enter stRUN
  else if s.dev = stRUN && !s.slots.any s.switching then s.enter stARMED
  else s

/-- SSTATE of a slot changes, and what follows it. -/
def State.setSState (s : State) (n v : Nat) : State :=
  if s.sstate n = v then s
  else
    let s := s.setFld (Reg.EDG_STAT n) Fld.EDG_STAT_SSTATE v
    let s := if v = 2 then s
      else ((s.setBit (Reg.EDG_STAT n) Fld.EDG_STAT_HS_ON false).setBit (Reg.EDG_STAT n) Fld.EDG_STAT_LS_ON false).setBit
        (Reg.EDG_STAT n) Fld.EDG_STAT_LOOP_ACTIVE false
    let s := match s.clusterOf n with
      | some k => s.cluFollow k
      | none => s
    s.runFollow

/-- SSTATE follows the holds (R100): H_ORDER or H_ILINE gives 0b101, a slot-local hold 0b100; a held slot with neither returns to
0b000; a slot in 0b000 keeps it. -/
def State.holdState (s : State) (n : Nat) : State :=
  let h := s.holdBits n
  let st := s.sstate n
  if st = 0 then s
  else if h &&& 0x30 != 0 then s.setSState n 5
  else if h &&& 0x0F != 0 then s.setSState n 4
  else if st = 4 || st = 5 then s.setSState n 0
  else s

/-- A hold bit of a slot takes a value, and SSTATE follows. -/
def State.setHold (s : State) (n : Nat) (f : Field) (on : Bool) : State := (s.setBit (Reg.GDV_STAT n) f on).holdState n

/-! ### Soft turn-off -/

/-- A channel that is on or in an edge: it takes part in a soft turn-off (R131). -/
def Gate.driven (g : Gate) : Bool := g.phase != 0

/-- The two-step soft turn-off of a slot begins (R131, R133): every channel that is on or in an edge, with the settings of this moment; a running
one goes on unchanged (R132); where both channels are off no gate is driven (R141). The edge engine sees the hold within 16 ticks and issues
nothing further (R100): a turn-on due later is withdrawn, one already on its way reaches the driver die. -/
def State.softOff (s : State) (n : Nat) : State :=
  let s := s.updEdge n fun e =>
    { e with cmds := e.cmds.filter fun c => !c.on || Nat.ble c.time (s.tbFine + 256), called := 0, pat := 0, stopTo := none }
  if (s.drv n).softAt.isSome then s
  else if (s.gate n .high).driven || (s.gate n .low).driven then
    let step (g : Gate) : Gate := if g.driven then { g with phase := 21, since := s.now } else g
    let s := (s.updGate n .high step).updGate n .low step
    let s := s.updDrv n fun d => { d with softAt := some s.now, softStep2 := none, softT := s.fld (Reg.GDV_SOFT n) Fld.GDV_SOFT_SOFT_T }
    s.setBit (Reg.GDV_STAT n) Fld.GDV_STAT_SOFT_ACTIVE true
  else s

end Sys2Proof.Machine
end

