-- ==== Sys2Proof/Machine/Ledger.lean ====
section
/-!
DEFINITION. The charge and energy ledger (R224–R235): postings, closes, journal records, gaps and the restore at BOOT.
-/

namespace Sys2Proof.Machine

/-- LDG_g_STAT bits 31:24: records held in DRAM (R236). -/
def Fld.LDG_STAT_HELD : Field := ⟨24, 8⟩

/-- The region ledger is enabled. -/
def State.ldgOn (s : State) (g : Nat) : Bool := s.bit (Reg.LDG_CFG g) Fld.LDG_CFG_EN

/-- The low register of counter `i` of a region: IN_Q, OUT_Q, IN_E, OUT_E of accounts 0–11, then of the residual account (R236). -/
def ldgCtr (g i : Nat) : Nat := Reg.LDG_A_INQ_LO g (i / 4) + 12 * (i % 4)

/-- The counters shown: as at the last close, all in one handshake. -/
def State.showCounters (s : State) (g : Nat) (l : List Nat) : State :=
  s.each (List.range 52) fun u i =>
    let v := l.getD i 0
    ((u.setNat (ldgCtr g i) v).setNat (ldgCtr g i + 4) (v / 2 ^ 32)).setNat (ldgCtr g i + 8) (v / 2 ^ 64)

/-- A list with one element changed. -/
def updAt {α : Type} (l : List α) (i : Nat) (f : α → α) : List α := l.modify i f

/-- A posting to counter `i` of `num` units over `den`: whole units reach the counter, the fraction is carried forward (R226). -/
def Ldg.postTo (l : Ldg) (i num den : Nat) : Ldg :=
  let t := l.fracs.getD i 0 + num
  { l with fracs := l.fracs.set i (t % den), cnts := updAt l.cnts i (· + t / den), posts := updAt l.posts i (· + t / den) }

/-- A signed posting to a pair of counters: positive to `i`, negative with its magnitude to `i + 1`. -/
def Ldg.postSigned (l : Ldg) (i : Nat) (v : Int) (den : Nat) : Ldg :=
  if v < 0 then l.postTo (i + 1) v.natAbs den else if v = 0 then l else l.postTo i v.natAbs den

/-- Units below 1 nC: a charge of 1 nA over one fine step is 5 of them. -/
def denQ : Nat := 32 * 10 ^ 9
/-- Units below 1 µJ: an energy of 1 mV · 1 nA over one fine step is 5 of them. -/
def denE : Nat := 32 * 10 ^ 15

/-- The persistent store takes writes in partition `x` (R59, R431). -/
def State.writable (s : State) (x : Nat) : Bool := !s.power.storeHeld && !s.worn x

/-- A waiting record rewritten as a merged one that covers the close `h` too (R230). -/
def HeldRec.merge (p h : HeldRec) : HeldRec :=
  let o := p.jrec
  let r := h.jrec
  let acct := if h.acct.isSome then h.acct else p.acct
  { counted := true, close := h.close, early := p.early ++ h.early, acct, peakI := List.zipWith max p.peakI h.peakI, peakV := max p.peakV h.peakV,
    jrec := { r with kind := 8, first := if o.kind = 8 then o.first else o.ivl, tags := (o.tags ||| r.tags) % 256 + 256 * acct.getD 0,
                     gapQ := List.zipWith (· + ·) o.gapQ r.gapQ, gapE := List.zipWith (· + ·) o.gapE r.gapE, t1 := r.t1 } }

/-- The interval numbers that a waiting record covers. -/
def HeldRec.ivls (p : HeldRec) : List Nat :=
  let r := p.jrec
  if r.kind = 8 then (List.range (r.ivl + 1 - r.first)).map (r.first + ·) else [r.ivl]

/-- A record joins those waiting for the journal; while 64 of its region wait, the newest is rewritten as a merged one (R230). -/
def State.holdRecord (s : State) (g : Nat) (h : HeldRec) : State :=
  let l := (s.ldg g).held
  let full := Nat.ble 64 l.length
  let l := if full then l.dropLast ++ (l.getLast?.toList.map fun p => p.merge h) else l ++ [h]
  ((s.updLdg g fun x => { x with held := l }).setFld (Reg.LDG_STAT g) Fld.LDG_STAT_HELD l.length).raiseIf (full || h.counted) (.ldg g) 1

/-- The residual of an interval (R228): rq in nC and re in 2^-1 pJ units of 1/2,000,000 µJ, where both closes have a voltage. -/
def State.residual (s : State) (g : Nat) : Option (Int × Int) :=
  let l := s.ldg g
  match l.v1 with
  | none => none
  | some v1 =>
    let c : Int := (s.reg (Reg.LDG_CLINK g)).toNat % 2 ^ 24
    let net (i : Nat) : Int := (List.range 12).foldl (fun t a => t + (l.posts.getD (4 * a + i) 0 : Int) - l.posts.getD (4 * a + i + 1) 0) 0
    some (c * (l.v2 - v1) - net 0, c * (l.v2 * l.v2 - v1 * v1) - 2000000 * net 2)

/-- Σ(IN_Q + OUT_Q) of the port postings of the open interval. -/
def Ldg.throughput (l : Ldg) : Nat := (List.range 12).foldl (fun t a => t + l.posts.getD (4 * a) 0 + l.posts.getD (4 * a + 1) 0) 0

/-- The residual posted to its account, shown, and judged against R229. -/
def State.postResidual (s : State) (g : Nat) : State :=
  match s.residual g with
  | none => s
  | some (rq, re) =>
    let s := s.updLdg g fun l => (l.postSigned 48 rq 1).postSigned 50 (re * (denE / 2000000)) denE
    let s := (s.setNat (Reg.LDG_RES_Q g) (unsigned 32 (satI 32 rq))).setNat (Reg.LDG_RES_E g) (unsigned 32 (satI 32 (re.tdiv 2000000)))
    let th := s.reg (Reg.LDG_RESTH g)
    let limit := Fld.LDG_RESTH_RES_PPM.get th * (s.ldg g).throughput + (th.toNat % 65536) * 10 ^ 6 * 10 ^ 6
    if Nat.blt limit (rq.natAbs * 10 ^ 6) then (s.raise (.ldg g) 2).record (Reg.LDG_FLAGS g) 4 [g, unsigned 64 rq] else s

/-- What a waiting record becomes when an event of KIND `kind` meets its close in the same handshake, where the two make one record (R235): a port
open of account `acct` meets a boundary or a configuration close, or a configuration close meets another close. -/
def HeldRec.meet (kind : Nat) (acct : Option Nat) (h : HeldRec) : Option HeldRec :=
  let tagged (k : Nat) : HeldRec :=
    { h with acct, early := [k], jrec := { h.jrec with kind := k, tags := h.jrec.tags % 256 + 256 * acct.getD 0 } }
  match h.jrec.kind, kind with
  | 1, 4 => some (tagged 4)
  | 5, 4 => if h.acct.isNone then some (tagged 5) else none
  | 4, 5 => some { h with early := [5], jrec := { h.jrec with kind := 5 } }
  | 5, 5 => some h
  | _, _ => none

/-- The waiting records after an event that meets a close of the same handshake (R235); none where the open interval has to close. -/
def State.meeting (s : State) (g kind : Nat) (acct : Option Nat) : Option (List HeldRec) :=
  let l := s.ldg g
  match l.held.getLast? with
  | some h => if h.close = s.tb ∧ l.t1 = none then (h.meet kind acct).map fun h' => l.held.dropLast ++ [h'] else none
  | none => none

/-- A close of the open interval (R227, R228, R230): residual, counters shown, record made, next interval begun. `acct` is the account of
a port close; `gaps` are the gap bounds of charge, and `peak` the link voltage that makes them bounds of energy. -/
def State.closeOpen (s : State) (g kind tags : Nat) (acct : Option Nat) (gaps : List Nat) (peak : Nat) (early : Bool) : State :=
  let s := if kind = 7 then s else s.postResidual g
  let l := s.ldg g
  let s := s.showCounters g l.cnts
  let s := (s.setNat64 (Reg.LDG_IVL_LO g) (Reg.LDG_IVL_HI g) l.ivl).setNat (Reg.LDG_VLINK g) (unsigned 32 l.v2)
  let r : JRec :=
    { kind, region := g, ivl := l.ivl, t1 := l.t1.getD l.t2, t2 := l.t2, ptps := l.ptp2.1, ptpn := l.ptp2.2, v2 := l.v2, cnts := l.cnts,
      tags := s.condTags + 16 * (l.tags ||| tags) + (if s.bit Reg.ETH_PTP_STAT Fld.ETH_PTP_STAT_HOLDOVER then 32 else 0) + 256 * acct.getD 0,
      gapQ := gaps, gapE := gaps.map fun q => q * peak / 1000000, first := 0 }
  let s := s.holdRecord g
    { counted := !s.writable 0, close := s.tb, early := if early then [kind] else [], acct, peakI := l.iMax, peakV := l.vMax, jrec := r }
  let s := s.updLdg g fun l =>
    { l with ivl := l.ivl + 1, t1 := none, tags := 0, posts := List.replicate 52 0, iMax := List.replicate 12 0, vMax := 0,
             v1 := if kind = 7 then none else some l.v2, endAt := (s.tb / 400000000 + 1) * 400000000 }
  s.raiseIf early (.ldg g) 4

/-- The largest link voltage since the close of the record after which the waiting records `hs` came, mV (R233); the last one, where none came. -/
def Ldg.peakV (l : Ldg) (hs : List HeldRec) : Nat :=
  let v := hs.foldl (fun m h => max m h.peakV) l.vMax
  if v = 0 then l.v2.natAbs else v

/-- The largest |I| of account `a` since that close, nA (R233). -/
def Ldg.peakI (l : Ldg) (hs : List HeldRec) (a : Nat) : Nat := hs.foldl (fun m h => max m (h.peakI.getD a 0)) (l.iMax.getD a 0)

/-- A close, unless the event meets one of the same handshake and changes its record only (R235). -/
def State.closeInterval (s : State) (g kind tags : Nat) (acct : Option Nat) (gaps : List Nat) (early : Bool) : State :=
  match s.meeting g kind acct with
  | some held => (s.updLdg g fun l => { l with held }).raiseIf early (.ldg g) 4
  | none => s.closeOpen g kind tags acct gaps ((s.ldg g).peakV (s.ldg g).held) early

/-- No gap. -/
def noGap : List Nat := List.replicate 12 0

/-- The enabled accounts of a region (R225). -/
def State.accounts (s : State) (g : Nat) : List Nat := (List.range 12).filter fun a => s.bit (Reg.LDG_A_CFG g a) Fld.LDG_A_CFG_EN

/-- The bound of a metering outage per account: IRATED × its length, nC (R234). -/
def State.outageBound (s : State) (g ticks : Nat) : List Nat :=
  (List.range 12).map fun a =>
    if s.bit (Reg.LDG_A_CFG g a) Fld.LDG_A_CFG_EN then (s.reg (Reg.LDG_A_RATED g a)).toNat % 65536 * ticks * 5 / 2 else 0

/-- An early close of a region (R232): in a metering outage what it ends is a span of the outage, of KIND 0x07 with the bound so far. DESIGN CHOICE
(log 89): the spec gives no kind for it. -/
def State.closeNow (s : State) (g kind tags : Nat) (acct : Option Nat) : State :=
  match (s.ldg g).outAt with
  | some t => (s.closeInterval g 7 tags acct (s.outageBound g (s.tb - t)) true).updLdg g fun l => { l with outAt := some s.tb }
  | none => s.closeInterval g kind tags acct noGap true

/-- The regions that meter: none from the loss of VAUX_A on (R233). -/
def State.metered (s : State) : List Nat := s.rgns.filter fun g => s.mdRun && s.ldgOn g

/-- An early close of every enabled region (R232), of KIND 0x01 or 0x05, with tags in units of bit 4. -/
def State.closeEarly (s : State) (kind tags : Nat) (p : Nat → Bool) : State :=
  s.each (s.metered.filter p) fun u g => u.closeNow g kind tags none

/-- A number put into an ascending list. -/
def putIn (x : Nat) : List Nat → List Nat
  | [] => [x]
  | y :: l => if Nat.ble x y then x :: y :: l else y :: putIn x l

/-- The port closes of this handshake name their accounts in ascending order (R235). -/
def Ldg.orderPorts (l : Ldg) (tb : Nat) : Ldg :=
  let mine (h : HeldRec) : Bool := h.close == tb && h.jrec.kind == 4
  let run := (l.held.reverse.takeWhile mine).reverse
  let accts := (run.filterMap (·.acct)).foldl (fun m x => putIn x m) []
  let tag (h : HeldRec) (x : Nat) : HeldRec := { h with acct := some x, jrec := { h.jrec with tags := h.jrec.tags % 256 + 256 * x } }
  { l with held := l.held.take (l.held.length - run.length) ++ List.zipWith tag run accts }

/-- The early close of a port open: one KIND 0x04 record per account of the cluster (R232, R235). -/
def State.closePort (s : State) (k : Nat) : State :=
  s.each s.metered fun u g =>
    let l := (u.accounts g).filter fun a =>
      let c := u.reg (Reg.LDG_A_CFG g a)
      Fld.LDG_A_CFG_CLUSTER.get c == k && (Fld.LDG_A_CFG_KIND.get c == 1 || Fld.LDG_A_CFG_KIND.get c == 2)
    (u.each l fun v a => v.closeNow g 4 0 (some a)).updLdg g fun x => x.orderPorts u.tb

/-- A current sample of an account posted (R226): code, stamp in fine steps, time since the previous sample of its channel, and the link voltage in
mV, without which no energy is posted. -/
def State.postSample (s : State) (g a stamp dt : Nat) (code : Int) (ovr : Bool) (mv : Option Int) : State :=
  let cfg := s.reg (Reg.LDG_A_CFG g a)
  let i0 := code * (s.reg (Reg.LDG_A_SCALE g a)).toNat
  let i := if Fld.LDG_A_CFG_INV.on cfg then -i0 else i0
  let s := s.setNat (Reg.LDG_A_ILAST g a) (unsigned 32 (satI 32 (divNear i 1000000)))
  let s := s.updLdg g fun l =>
    let l := { l with iLast := l.iLast.set a i.natAbs, iMax := updAt l.iMax a (max i.natAbs), t1 := some (l.t1.getD stamp), t2 := stamp,
                      ptp2 := (s.ptpSec, s.ptpNsWord), tags := if ovr then l.tags ||| 1 else l.tags }
    (l.postSigned (4 * a) (i * dt * 5) denQ).postSigned (4 * a + 2) (i * ((mv.getD 0).natAbs : Int) * dt * 5) denE
  s.raiseIf ovr (.ldg g) 3

/-- The postings of one instant of the precision bank to a region: code and over-range flag of each channel that converts, and the time since
its previous sample (R226). An interval whose boundary has come closes first, because a sample at the boundary belongs to the later one (R227). -/
def State.postRegion (s : State) (g stamp : Nat) (codes : List (Option (Int × Bool))) (dts : List Nat) : State :=
  if !s.ldgOn g || s.bit (Reg.LDG_STAT g) Fld.LDG_STAT_OUTAGE then s
  else
    let s := if Nat.ble ((s.ldg g).endAt * 16) stamp then s.closeInterval g 1 0 none noGap false else s
    let vch := s.fld (Reg.LDG_CFG g) Fld.LDG_CFG_VCH
    let mv := (codes.getD vch none).map fun c => Config.linkMv (s.fld (Reg.MEAS_PM_CFG vch) Fld.MEAS_PM_CFG_RANGE) c.1
    let s := (s.updLdg g fun l => { l with v2 := mv.getD l.v2, vMax := max l.vMax (mv.getD 0).natAbs }).setBit (Reg.LDG_STAT g) Fld.LDG_STAT_ACTIVE true
    s.each (s.accounts g) fun u a =>
      let ch := u.fld (Reg.LDG_A_CFG g a) Fld.LDG_A_CFG_CH
      match codes.getD ch none with
      | some c => u.postSample g a stamp (dts.getD ch 0) c.1 c.2 mv
      | none => u

/-- INTERVAL_CLOSE (R227, R228, R234): at a TB multiple of 400,000,000 the interval closes; in a metering outage a KIND 0x07 record is made. -/
def execIntervalClose (g : Rgn) (s : State) : Res :=
  let g := g.val
  onlyIf (s.mdRun && Nat.blt g s.variant.regions && s.ldgOn g && Nat.ble (s.ldg g).endAt s.tb) s fun s =>
    match (s.ldg g).outAt with
    | some t => (s.closeInterval g 7 0 none (s.outageBound g (s.tb - t)) false).updLdg g fun l => { l with outAt := some s.tb }
    | none => s.closeInterval g 1 0 none noGap false

/-- A region is in a metering outage from now on (R234). -/
def State.outageOf (s : State) (g : Nat) : State :=
  ((s.updLdg g fun l => { l with outAt := some s.tb }).setBit (Reg.LDG_STAT g) Fld.LDG_STAT_OUTAGE true).raise (.ldg g) 6

/-- A metering outage begins (R234): the open interval of every region closes. -/
def State.outageBegins (s : State) : State :=
  s.each (s.metered.filter fun g => !s.bit (Reg.LDG_STAT g) Fld.LDG_STAT_OUTAGE) fun u g => (u.closeInterval g 1 0 none noGap true).outageOf g

/-- Metering resumes (R234): the first interval posts no residual, and the first samples take the nominal time (R226). DESIGN CHOICE (log 89): the
outage since its last boundary is closed with its bound, as at a boundary. -/
def State.outageEnds (s : State) : State :=
  let s := s.updMeas fun m => { m with pmPrev := List.replicate 8 none }
  s.each (s.rgns.filter fun g => s.bit (Reg.LDG_STAT g) Fld.LDG_STAT_OUTAGE) fun u g =>
    let u := match (u.ldg g).outAt with
      | some t => if Nat.blt t u.tb && u.mdRun then u.closeInterval g 7 0 none (u.outageBound g (u.tb - t)) false else u
      | none => u
    (u.updLdg g fun l => { l with outAt := none, v1 := none }).setBit (Reg.LDG_STAT g) Fld.LDG_STAT_OUTAGE false

/-- The region ledger is enabled or disabled (R227, R234): its first interval ends at the next boundary; without TD4 it starts in a metering
outage. -/
def State.ldgEnabled (s : State) (g : Nat) : State :=
  if s.ldgOn g then
    let s := s.updLdg g fun l => { l with t1 := none, tags := 0, endAt := (s.tb / 400000000 + 1) * 400000000 }
    if bitOf s.power.clkLost 4 then s.outageOf g else s
  else
    ((s.updLdg g fun l => { l with outAt := none }).setBit (Reg.LDG_STAT g) Fld.LDG_STAT_OUTAGE false).setBit (Reg.LDG_STAT g) Fld.LDG_STAT_ACTIVE false

/-- A record committed to the journal: a ring of 8,192 slots shared by the regions (R230). A gap record sets GAP (R233). -/
def State.commitRecord (s : State) (g : Nat) (h : HeldRec) : State :=
  let s := s.noteWrite 0 16 false
  let j := s.journal ++ [h.jrec]
  let s := { s with journal := if Nat.blt 8192 j.length then j.drop 1 else j }
  let s := s.updLdg g fun l => { l with held := l.held.drop 1, tc := h.close }
  (s.setFld (Reg.LDG_STAT g) Fld.LDG_STAT_HELD (s.ldg g).held.length).raiseMask (.ldg g) (if h.jrec.kind = 3 then 0x21 else 1)

/-- JOURNAL_RECORD_WRITE (R230): the oldest waiting record of a region is committed, or counted as held while the store takes no writes.
Once the store is writable a system entry names what was merged. -/
def execJournalRecordWrite (g : Rgn) (s : State) : Res :=
  let g := g.val
  onlyIf (s.cdRun && Nat.blt g s.variant.regions) s fun s =>
    match (s.ldg g).held with
    | [] => s
    | h :: rest =>
      if s.writable 0 then
        let s := s.commitRecord g h
        if h.jrec.kind = 8 then s.record (Reg.LDG_STAT g) 8 ([g, h.jrec.first, h.jrec.ivl] ++ h.early) else s
      else if h.counted then s
      else (s.updLdg g fun l => { l with held := { h with counted := true } :: rest }).raise (.ldg g) 1

/-- The tail bound of an account: |I_last| × T_HOLD, nC (R233). -/
def State.tailBound (s : State) (g a : Nat) : Nat :=
  (s.ldg g).iLast.getD a 0 * s.fld (Reg.LDG_CFG g) Fld.LDG_CFG_T_HOLD / 1000

/-- Loss of VAUX_A (R233): the open interval closes at tL. With the pack a KIND 0x02 record with the tail bound waits to be written after those held
in DRAM, else a KIND 0x03 record with the counters of the last record before it; one in an outage is of KIND 0x03 and adds the outage bound. A record
that was being written is abandoned, and the new one includes its postings (R235); without the pack those held in DRAM are lost. -/
def State.ledgerLoss (s : State) (pack : Bool) : State :=
  s.each (s.rgns.filter s.ldgOn) fun u g =>
    let l := u.ldg g
    let stay := if pack then l.held.filter (·.counted) else []
    let torn := if pack then l.held.filter fun h => !h.counted else l.held
    let gone := if pack then [] else (l.held.filter (·.counted)).flatMap HeldRec.ivls
    let tail := (List.range 12).map fun a => u.tailBound g a
    let peak := l.peakV torn
    let u := u.updLdg g fun l => { l with held := stay, lost := l.lost ++ gone }
    if pack && l.outAt.isNone then u.closeOpen g 2 0 none tail peak false
    else
      let extra := match l.outAt with
        | some t => u.outageBound g (u.tb - t)
        | none => noGap
      let base := match stay.getLast? with
        | some h => (some h.jrec.cnts, h.close)
        | none => ((u.journal.reverse.find? fun (r : JRec) => r.region == g).map JRec.cnts, l.tc)
      let gap := (List.range 12).map fun a => l.peakI torn a * (u.tb - base.2) * 5 / (2 * 10 ^ 9) + tail.getD a 0 + extra.getD a 0
      (u.updLdg g fun l => { l with cnts := base.1.getD l.cnts, v1 := none }).closeOpen g 3 0 none gap peak false

/-- The records still waiting when the dies power down are lost (R230). -/
def State.ledgerDown (s : State) : State :=
  s.each (List.range 2) fun u g => u.updLdg g fun l => { l with lost := l.lost ++ l.held.flatMap HeldRec.ivls, held := [] }

/-- The restore at BOOT (R231), and a breach record for every record lost before it was written (R230). -/
def State.ledgerBoot (s : State) : State :=
  s.each s.rgns fun u g =>
    let lost := (u.ldg g).lost
    let u := u.updLdg g fun l => { fracs := l.fracs }
    let u := u.each lost fun v i => (v.breach (Reg.LDG_STAT g) [g, i]).raise (.ldg g) 7
    match u.journal.reverse.find? fun r => r.region == g with
    | none => u
    | some r =>
      let bounded := r.kind == 2 || r.kind == 3
      let u := u.updLdg g fun l => { l with cnts := r.cnts, ivl := r.ivl + 1, v2 := r.v2 }
      let u := (u.setBit (Reg.LDG_STAT g) Fld.LDG_STAT_RESTORED true).setNat (Reg.LDG_VLINK g) (unsigned 32 r.v2)
      let u := (u.closeInterval g 6 (if bounded then 0 else 8) none noGap false).updLdg g fun l => { l with v1 := none }
      if bounded then u else (u.breach (Reg.LDG_STAT g) [g, r.ivl]).raise (.ldg g) 7

end Sys2Proof.Machine
end

