-- ==== Sys2Proof/Machine/DcBase.lean ====
section
/-!
DEFINITION. Carriers and interleave maps (R88, R155, R182), the phases of DC clusters (R182–R188), the end of a charge (R212), DERATE
(R67), and what a stop of a cluster ends (R152, R193, R201).
-/

namespace Sys2Proof.Machine

/-! ### Carriers -/

/-- Pt in fine steps of a carrier word (R88). -/
def ptOf (w : Word) : Nat := Fld.EDG_CARRIER_PERIOD.get w * 2 ^ Fld.EDG_CARRIER_PRESC.get w * 16
/-- A triangle carrier. -/
def isTriangle (w : Word) : Bool := Fld.EDG_CARRIER_SHAPE.get w == 2
/-- Tsw in fine steps of a carrier word (R88). -/
def tswOf (w : Word) : Nat := if isTriangle w then 2 * ptOf w else ptOf w
/-- A quotient rounded to the nearest fine step, a tie to the later one (R87). -/
def roundFine (num den : Nat) : Nat := (2 * num + den) / (2 * den)
/-- The carrier word that a slot runs on (R90). Where a committed one waits: the old word until the first carrier zero of the cluster after the
commit, and on a switching slot until the end of the period that this zero falls in. -/
def State.carrier (s : State) (n : Nat) : Word :=
  match (s.edge n).carrierOld with
  | some (w, zc) => if s.switching n || Nat.blt s.tbFine zc then w else s.reg (Reg.EDG_CARRIER n)
  | none => s.reg (Reg.EDG_CARRIER n)
/-- The carrier word of the cluster of slot `n` at this instant (R89, R90). -/
def State.cluCarrier (s : State) (n : Nat) : Word :=
  match (s.edge n).carrierOld with
  | some (w, zc) => if Nat.blt s.tbFine zc then w else s.reg (Reg.EDG_CARRIER n)
  | none => s.reg (Reg.EDG_CARRIER n)
/-- Tsw of a cluster in fine steps: that of its first slot (R89). -/
def State.cluTsw (s : State) (k : Nat) : Nat := match s.slotsOf k with
  | n :: _ => tswOf (s.cluCarrier n)
  | [] => 0
/-- The anchor of a cluster in ticks (R89, R173). -/
def State.anchor (s : State) (k : Nat) : Nat := s.reg64 (Reg.CLU_ANCHOR_LO k) (Reg.CLU_ANCHOR_HI k)

/-- The position of a slot in a cluster (R147). -/
def State.posOf (s : State) (k n : Nat) : Nat := (s.slotsOf k).idxOf n
/-- The slot at a position. -/
def State.slotAt (s : State) (k p : Nat) : Option Nat := (s.slotsOf k)[p]?

/-- DC_STAT.ACTIVE. -/
def State.activeMask (s : State) (k : Nat) : Nat := s.fld (Reg.CLU_DC_STAT k) Fld.CLU_DC_STAT_ACTIVE
/-- DC_STAT.HEALTHY. -/
def State.healthyMask (s : State) (k : Nat) : Nat := s.fld (Reg.CLU_DC_STAT k) Fld.CLU_DC_STAT_HEALTHY
/-- A cluster with phases that shed (R181). -/
def State.isPhased (s : State) (k : Nat) : Bool := s.ctype k == tySDC || s.ctype k == tyPVC

/-- The phases that may become active: the healthy ones, and all of them where the cluster has none yet, since ENABLE makes all healthy (R188). -/
def State.readyMask (s : State) (k : Nat) : Nat :=
  if s.healthyMask k = 0 then 2 ^ (s.slotsOf k).length - 1 else s.healthyMask k

/-- The phase angle of position `p` under the interleave map of its cluster (R155, R182, R198), with `active` as the active set; an inactive
position joins after those below it, which are added first (R184). -/
def State.mapAngle (s : State) (k p active : Nat) : Nat :=
  let n := (s.slotsOf k).length
  let t := s.cluTsw k
  if s.isPhased k then
    if s.bit (Reg.CLU_DC_CFG k) Fld.CLU_DC_CFG_SPREAD then
      let set := if bitOf active p then active else active ||| (s.readyMask k &&& (2 ^ (p + 1) - 1))
      roundFine ((bitsOf p set).length * t) (popcount 8 set)
    else roundFine (p * t) n
  else if s.ctype k = tyGFI2 && n = 6 && Nat.ble 3 p && s.bit (Reg.CLU_CFG k) Fld.CLU_CFG_INTLV then roundFine t 2
  else if s.ctype k = tyDLC && p = 1 then roundFine t 2
  else 0

/-- The interleave map written to EDG_n_PHASE; an excluded phase keeps its angle (R155, R182, R187). -/
def State.writeMap (s : State) (k : Nat) : State :=
  let act := s.activeMask k
  let h := s.healthyMask k
  s.each (List.range (s.slotsOf k).length) fun u p =>
    if u.isPhased k && h != 0 && !bitOf h p then u
    else match u.slotAt k p with
      | some n => u.setNat (Reg.EDG_PHASE n) (u.mapAngle k p act)
      | none => u

/-! ### DERATE (R67, R153) -/

/-- A cluster's DERATE is entered: bit, flag and recorder entry, where it was not derated. -/
def State.derateEnter (s : State) (k : Nat) : State :=
  if s.bit (Reg.CLU_STAT k) Fld.CLU_STAT_DERATE then s
  else (((s.setBit (Reg.CLU_STAT k) Fld.CLU_STAT_DERATE true).raise (.clu k) 1).record (Reg.CLU_STAT k) 8 [k, 1]).devDerate

/-- DERATE is set by a scaling cause (R153). -/
def State.scaled (s : State) (k : Nat) : Bool := s.bit (Reg.CLU_STAT k) Fld.CLU_STAT_DERATE && (s.cluster k).derScale

/-- ILIM_EFF (R187, R190, R266, R313): DC_ILIM × h / N, then DRT per cent under a scaling cause, then the thermal foldback factor with AUTO,
then 0.05 under energised debug (R313). -/
def State.ilimEff (s : State) (k : Nat) : Nat :=
  let n := (s.slotsOf k).length
  let base := (s.reg (Reg.CLU_DC_ILIM k)).toNat % 65536 * popcount 8 (s.healthyMask k) / max n 1
  let der := if s.scaled k then base * s.fld (Reg.CLU_CFG k) Fld.CLU_CFG_DRT / 100 else base
  let fol := if s.bit Reg.THM_NCTL Fld.THM_NCTL_AUTO then der * ((s.reg (Reg.THM_CLU_FOLD k)).toNat % 512) / 256 else der
  if s.bit Reg.DBG_STAT Fld.DBG_STAT_ENDBG then fol / 20 else fol

/-- CLU_k_DC_ILIM_EFF follows. -/
def State.showIlim (s : State) (k : Nat) : State :=
  if s.isPhased k then s.setFld (Reg.CLU_DC_ILIM_EFF k) Fld.CLU_DC_ILIM_EFF_ILIM_EFF (min (s.ilimEff k) 65535) else s

/-- A scaling cause of DERATE acts on a cluster at this instant (R67, R153, R190). -/
def State.derateScale (s : State) (k : Nat) : State :=
  ((s.updCluster k fun c => { c with derAt := some s.now, scaleAt := some s.now, derScale := true }).derateEnter k).showIlim k

/-- The cause of DERATE that fewer healthy phases than slots are (R67) is present or absent; it acts up to this instant. -/
def State.deratePhase (s : State) (k : Nat) (on : Bool) : State :=
  if !s.isPhased k then s
  else
    let s := s.updCluster k fun c => { c with derPhase := on, derAt := if on || c.derPhase then some s.now else c.derAt }
    if on then s.derateEnter k else s

/-- CLU_k_DC_ILIM_EFF of every cluster follows. -/
def State.showIlims (s : State) : State := s.each s.clus State.showIlim

/-! ### Active phases -/

/-- The active set becomes `mask`: NACT and the map follow (R182). -/
def State.setActive (s : State) (k mask : Nat) : State :=
  let s := s.setFld (Reg.CLU_DC_STAT k) Fld.CLU_DC_STAT_ACTIVE mask
  (s.setFld (Reg.CLU_DC_STAT k) Fld.CLU_DC_STAT_NACT (popcount 8 mask)).writeMap k

/-- A pending change request is withdrawn and the dwell timers restart (R186, R201). -/
def State.withdraw (s : State) (k : Nat) : State :=
  (s.setBit (Reg.CLU_DC_STAT k) Fld.CLU_DC_STAT_REQ_PEND false).updDc k fun d =>
    { d with req := none, dropAt := d.dropAt.map fun _ => s.now, addAt := d.addAt.map fun _ => s.now }

/-- The change record delivered to the owner: the new active mask and its angles (R186, R187). -/
def State.changeRecord (s : State) (k mask : Nat) : State :=
  let s := s.updDc k fun d => { d with change := (mask, (bitsOf 8 mask).map fun p => s.mapAngle k p mask) }
  s.asyncIn (s.ownerCode k - 2) (0x200 + k)

/-! ### The end of a charge (R207, R212) -/

/-- CHG_k_STAT.ESTATE. -/
def State.estate (s : State) (k : Nat) : Nat := s.fld (Reg.CHG_STAT k) Fld.CHG_STAT_ESTATE
/-- A charge runs. -/
def State.charging (s : State) (k : Nat) : Bool := Nat.ble 1 (s.estate k) && Nat.ble (s.estate k) 4

/-- The reasons of R212, in the order of its table. -/
def endOrder : List Nat := [0x0A, 0x0C, 0x0D, 0x08, 0x09, 0x0B, 0x07, 0x01, 0x02, 0x03, 0x04, 0x06, 0x05]

/-- The end conditions of R212 that hold in any evaluation, whatever ends the charge: fallback, silence, the flags and temperature of the frame in
force, the taper. -/
def State.chargeConds (s : State) (k : Nat) : List Nat :=
  let c := s.chg k
  let hot (l : BmuLim) : Bool := decide (signed 16 (s.fld (Reg.CHG_FOLD k) Fld.CHG_FOLD_T_MAX) ≤ l.temp)
  (if c.lim.any fun l => bitOf l.flags 2 then [0x0A] else []) ++ (if s.bit Reg.CHG_SN_STAT Fld.CHG_SN_STAT_FB then [0x0D] else []) ++
    (if c.silent then [0x08] else []) ++ (if c.lim.any fun l => bitOf l.flags 0 then [0x09] else []) ++ (if c.lim.any hot then [0x07] else []) ++
    (if s.estate k == 2 && c.taperAt.any fun t => s.since t (secs (s.fld (Reg.CHG_TIMER k) Fld.CHG_TIMER_T_TAPER)) then [0x01] else [])

/-- A running charge ends where some condition is found (R207, R212): the earliest row of R212 that holds gives the reason, DONE for reasons
0x01–0x04, else ENDED; I_REF is 0 from here on; a recorder entry lists every condition that held, and the owner gets a notice. -/
def State.endCharge (s : State) (k : Nat) (found : List Nat) : State :=
  let conds := endOrder.filter fun r => found.contains r || (s.chargeConds k).contains r
  if !s.charging k || found.isEmpty then s
  else
    let reason := conds.headD 0
    let good := Nat.ble reason 4
    let s := s.setFld (Reg.CHG_STAT k) Fld.CHG_STAT_ESTATE (if good then 5 else 6)
    let s := (s.setFld (Reg.CHG_STAT k) Fld.CHG_STAT_REASON reason).setBit (Reg.CHG_STAT k) Fld.CHG_STAT_FOLD false
    let s := (s.updChg k fun c => { c with iref := 0, foldAt := none }).setFld (Reg.CHG_IREF k) Fld.CHG_IREF_I_REF 0
    let s := s.each (s.slotsOf k) fun u n => u.setFld (Reg.EDG_REF n) Fld.EDG_REF_IREF 0
    let s := s.raiseMask (.chg k) ((if good then 1 else 2) + (if reason = 7 then 64 else if reason = 5 || reason = 6 then 32 else 0))
    (s.record (Reg.CHG_STAT k) reason (k :: conds)).device (s.ownerCode k) 0x02 reason (Reg.CHG_STAT k)

/-! ### What a stop ends -/

/-- A sweep ends without moving VREF_PV: the saved reference returns (R197, R201). -/
def State.endSweep (s : State) (k : Nat) : State :=
  match (s.dc k).swAt with
  | some _ =>
    let ref := (s.dc k).swRef
    let s := (s.setNat (Reg.CLU_PV_VREF k) ref).setBit (Reg.CLU_DC_STAT k) Fld.CLU_DC_STAT_SWEEP_ACT false
    s.updDc k fun d => { d with swAt := none, swPow := [] }
  | none => s

/-- The shedding timers go on after a sweep that began at `t` (R197), and an update interval of the tracking begins. -/
def State.thaw (s : State) (k t : Nat) : State :=
  s.updDc k fun d => { d with dropAt := d.dropAt.map (· + (s.now - t)), addAt := d.addAt.map (· + (s.now - t)), mpptAt := s.now,
                              sumP := 0, sumV := 0, sumI := 0, cnt := 0 }

/-- A sweep that may not go on ends at the saved VREF_PV. -/
def State.dropSweep (s : State) (k : Nat) : State :=
  match (s.dc k).swAt with
  | some t => (s.endSweep k).thaw k t
  | none => s

/-- A waiting soft-start retry is cancelled without latching (R193). -/
def State.cancelRetry (s : State) (k : Nat) : State :=
  (s.setBit (Reg.CLU_DC_STAT k) Fld.CLU_DC_STAT_RETRY_PEND false).updDc k fun d => { d with retryAt := none }

/-- The cluster leaves its running states: requests, sweeps, discharges, soft start and charge end (R152, R201, R212). -/
def State.leaveRun (s : State) (k reason : Nat) : State :=
  if s.isGfi k || s.ctype k = 0 then s
  else
    let s := ((s.withdraw k).endSweep k).endCharge k [reason]
    let s := (s.setBit (Reg.CLU_DC_STAT k) Fld.CLU_DC_STAT_DISCH_ACT false).setFld (Reg.CLU_DC_STAT k) Fld.CLU_DC_STAT_PLAUS_RUN 0
    s.updDc k fun d => { d with ssAt := none, ssV0 := none, ovl := 0, dlcOn := false }

end Sys2Proof.Machine
end

