-- ==== Sys2Proof/Machine/Blocks.lean ====
section
/-!
DEFINITION. The runtime blocks of R164 whose law the spec gives: VIMP (R165) and the classification of RIDE (R166). A control code gives their
parameters with its image; values are in 2^-14 pu. How often a block is called, and its arithmetic, are the model's (log 86).
-/

namespace Sys2Proof.Machine

/-! ### VIMP (R153, R165, R266, R313) -/

/-- I_MAX of a cluster's limit block as the device scales it: DRT per cent under a scaling cause (R153), the thermal foldback factor with AUTO
(R266), at most 0.05 pu under energised debug (R313). -/
def State.iMaxEff (s : State) (k : Nat) (p : VimpPar) : Nat :=
  let der := if s.scaled k then p.iMax * s.fld (Reg.CLU_CFG k) Fld.CLU_CFG_DRT / 100 else p.iMax
  let fol := if s.bit Reg.THM_NCTL Fld.THM_NCTL_AUTO then der * ((s.reg (Reg.THM_CLU_FOLD k)).toNat % 512) / 256 else der
  if s.bit Reg.DBG_STAT Fld.DBG_STAT_ENDBG then min fol (2 ^ 14 / 20) else fol

/-- The magnitude of a dq quantity. -/
def magDq (x : Dq) : Nat := isqrt (x.d * x.d + x.q * x.q).toNat

/-- The drop of the virtual impedance `z` at angle arctan(XR) under current `i`: z/√(1 + XR²) · (1 + j XR) · i (R165 step 1). -/
def virtualDrop (z xr : Nat) (i : Dq) : Dq :=
  let h := max (isqrt (2 ^ 16 + xr * xr)) 1
  let r : Int := z * 2 ^ 8 / h
  let x : Int := z * xr / h
  ⟨divNear (r * i.d - x * i.q) (2 ^ 14), divNear (r * i.q + x * i.d) (2 ^ 14)⟩

/-- The current limit (R165 step 2): both components scaled, or with PRIO iq kept up to the limit and id reduced to what it leaves. -/
def limitDq (m : Nat) (prio : Bool) (i : Dq) : Dq :=
  if Nat.ble (magDq i) m then i
  else if prio then
    let q := clampI (-(m : Int)) m i.q
    ⟨i.d.sign * isqrt ((m : Int) * m - q * q).toNat, q⟩
  else ⟨divNear (i.d * m) (magDq i), divNear (i.q * m) (magDq i)⟩

/-- The share of the current reference that RIDE leaves, in 2^-16: none in a momentary cessation with CESS_MODE 0, the ramp in RECOVER (R166). -/
def Blk.share (b : Blk) : Nat :=
  match b.st, b.ride with
  | .cess, some p => if p.cessMode then 65536 else 0
  | .recover, _ => b.ramp
  | _, _ => 65536

/-- What VIMP makes of a call (R165), PRIO being bit 1 of SP4 (R163). -/
def State.vimpLaw (s : State) (k : Nat) (p : VimpPar) (c : VimpCall) : VimpCall :=
  let sh := (s.blk k).share
  let i : Dq := ⟨c.i.d * sh / 65536, c.i.q * sh / 65536⟩
  let drop := virtualDrop (p.kvi * (magDq i - p.iTh) / 2 ^ 14) p.xr i
  let v : Dq := if Nat.blt p.iTh (magDq i) then ⟨c.v.d - drop.d, c.v.q - drop.q⟩ else c.v
  ⟨limitDq (s.iMaxEff k p) (bitOf ((s.cluster k).spActive.getD 4 0) 1) i, v⟩

/-- A call of VIMP for a grid inverter cluster, where its control code uses the block: the references as the block returns them. -/
def State.vimpCall (s : State) (k : Nat) (call : Option VimpCall) : State :=
  match call, (s.blk k).vimp with
  | some c, some p => if s.isGfi k then s.updBlk k fun b => { b with out := some (s.vimpLaw k p c) } else s
  | _, _ => s

/-! ### RIDE (R166) -/

/-- What a call of RIDE finds at each point of the curves and in each band: a phase magnitude below a low-voltage point or above a high-voltage
point, the frequency inside a band; with the time for which it may last. -/
def rideFinds (p : RidePar) (freq lo hi : Nat) : List (Bool × Nat) :=
  (p.low.map fun x => (Nat.blt lo x.1, x.2)) ++ (p.high.map fun x => (Nat.blt x.1 hi, x.2)) ++
    p.bands.map fun x => (Nat.ble x.1 freq && Nat.ble freq x.2.1, x.2.2)

/-- The state that a call of RIDE leads to: a condition that outlasts its time requests a trip; beyond a cessation threshold the current ceases, and
then recovers along the ramp; otherwise a point or band that is entered is ridden through. -/
def Blk.next (b : Blk) (p : RidePar) (now freq lo hi : Nat) : Blk :=
  let f := rideFinds p freq lo hi
  let since := List.zipWith (fun (x : Bool × Nat) (i : Nat) => if x.1 then some ((b.since.getD i none).getD now) else none) f (List.range f.length)
  let late := (List.zip f since).any fun x => match x.2 with
    | some t => Nat.ble (t + 400000 * x.1.2) now
    | none => false
  let ceases := Nat.blt lo p.cessLow || Nat.blt p.cessHigh hi
  let away := f.any (·.1)
  let ramp := min 65536 (b.ramp + p.rate * (now - b.lastAt) * 65536 / 40000000000)
  let b := { b with since, lastAt := now }
  if b.st = .tripReq ∨ late = true then { b with st := .tripReq }
  else if ceases then { b with st := .cess, ramp := 0 }
  else if b.st = .cess then { b with st := .recover, ramp := 0 }
  else if b.st = .recover ∧ ramp < 65536 then { b with ramp }
  else { b with st := if away then .ride else .normal }

end Sys2Proof.Machine
end

