-- ==== Sys2Proof/Machine/Protect.lean ====
section
/-!
DEFINITION. The escalation ladder (R130–R154): the cluster safe stop, slot-local faults, the region reaction, the package safe state and
LOCKOUT. Every fault of a later file acts through these operations.
-/

namespace Sys2Proof.Machine

/-! ### Cluster safe stop (R134, R150, R152) -/

/-- Cause codes of CLU_k_STAT.CAUSE (R178). -/
def scSLOT : Nat := 1
/-- Interlock refusals. -/
def scILK : Nat := 2
/-- Stale estimates. -/
def scSTALE : Nat := 3
/-- Tightrope. -/
def scTIGHTROPE : Nat := 4
/-- Region. -/
def scREGION : Nat := 5
/-- Package. -/
def scPACKAGE : Nat := 6
/-- A rule of a DC type. -/
def scDC : Nat := 7
/-- Fence. -/
def scFENCE : Nat := 8
/-- Supervisory thermal trip. -/
def scTHERMAL : Nat := 9

/-- The slots of a cluster turned off and held with H_ORDER. -/
def State.orderSlots (s : State) (k : Nat) : State :=
  s.each (s.slotsOf k) fun u n => (u.softOff n).setHold n Fld.GDV_STAT_H_ORDER true

/-- A cluster safe stop into `state` (SAFE_STOPPED, or FENCED for a fence) with a cause (R152). One ordered in SAFE_STOPPED or FENCED
adds a recorder entry and changes nothing else, but that a region or package reaction or a fence cancels a waiting soft-start retry
(R193). A cluster of TYPE none has no slots and only the entry is made. -/
def State.stopCluster (s : State) (k cause state : Nat) : State :=
  let s := s.record (Reg.CLU_STAT k) 1 [cause]
  let s := if cause = scREGION || cause = scPACKAGE || cause = scFENCE then s.cancelRetry k else s
  if s.ctype k = 0 || s.cstate k = csSAFE_STOPPED || s.cstate k = csFENCED then s
  else
    let s := s.leaveRun k 0x0C
    let s := (s.updCluster k fun c => { c with pausing := false, byRegion := false, byShare := false }).setCState k state
    let s := s.setFld (Reg.CLU_STAT k) Fld.CLU_STAT_CAUSE cause
    (s.orderSlots k).raise (.clu k) 0

/-- A cluster safe stop. -/
def State.safeStop (s : State) (k cause : Nat) : State := s.stopCluster k cause csSAFE_STOPPED

/-- A safe stop of the cluster that a slot is assigned to. -/
def State.safeStopOf (s : State) (n cause : Nat) : State :=
  match s.clusterOf n with
  | some k => s.safeStop k cause
  | none => s

/-- A phase of a DC cluster becomes unhealthy (R135, R187), in any state: it leaves the active set, shedding and the map at once; a pending request is
withdrawn (R201); the cluster is derated by its phase count (R67); below MINPH it stops, unless it is OFF, where ENABLE makes the phases anew (R188,
log 88). -/
def State.phaseLost (s : State) (k n : Nat) : State :=
  let p := s.posOf k n
  let h := s.healthyMask k
  if !bitOf h p then s
  else
    let s := s.withdraw k
    let s := s.setFld (Reg.CLU_DC_STAT k) Fld.CLU_DC_STAT_HEALTHY (putBit h p false)
    let s := ((s.setActive k (putBit (s.activeMask k) p false)).showIlim k).raise (.cluDc k) 2
    let s := (s.changeRecord k (s.activeMask k)).record (Reg.CLU_DC_STAT k) 4 [k, p]
    let s := s.deratePhase k true
    if s.isPhased k && s.cstate k != csOFF && Nat.blt (popcount 8 (s.healthyMask k)) (s.fld (Reg.CLU_DC_CFG k) Fld.CLU_DC_CFG_MINPH) then s.safeStop k scDC else s

/-- The phase of slot `n` becomes unhealthy. -/
def State.phaseLostOf (s : State) (n : Nat) : State :=
  match s.clusterOf n with
  | some k => s.phaseLost k n
  | none => s

/-! ### Slot-local faults (R130–R135, R140) -/

/-- FCOUNT counts a slot-local fault; at FAULT_LIMIT H_FAILED is set (R140). Kept in the persistent store and logged. -/
def State.countFault (s : State) (n : Nat) : State :=
  let f := min (s.fld (Reg.GDV_STAT n) Fld.GDV_STAT_FCOUNT + 1) 15
  let s := s.setFld (Reg.GDV_STAT n) Fld.GDV_STAT_FCOUNT f
  let s := s.updDrv n fun d => { d with fcount := f }
  let s := s.logSafety 0x30 (n * 256 + f) 0
  if Nat.ble (s.fld (Reg.GDV_CTRL n) Fld.GDV_CTRL_FAULT_LIMIT) f && !(s.drv n).failed then
    let s := s.updDrv n fun d => { d with failed := true }
    let s := if (s.drv n).override then s else s.setHold n Fld.GDV_STAT_H_FAILED true
    (s.raise (.gdv n) 13).logSafety 0x31 n 0
  else s

/-- A slot-local fault of slot `n` with its hold and its flag (R131, R134, R135): soft turn-off, the hold, FCOUNT, a recorder entry,
and the reaction of its cluster by type. -/
def State.slotFault (s : State) (n : Nat) (hold : Field) (flag : Nat) : State :=
  let s := (s.raise (.gdv n) flag).record (Reg.GDV_FLAGS n) (2 ^ flag) [n]
  let s := s.softOff n
  let s := s.setHold n hold true
  let s := s.updDrv n fun d =>
    { d with normalSince := d.normalSince && hold != Fld.GDV_STAT_H_DSAT, normalMoc := d.normalMoc && hold != Fld.GDV_STAT_H_MOC }
  let s := s.countFault n
  match s.clusterOf n with
  | none => s
  | some k =>
    if s.isGfi k then s.safeStop k scSLOT
    else if s.ctype k = tyDLC && (s.slotsOf k).length = 1 then s.safeStop k scSLOT
    else s.phaseLost k n

/-! ### Region reaction (R134, R154) -/

/-- The region reaction: a safe stop of every cluster of the region except its DLC clusters; RSTATE records the first cause. -/
def State.regionReaction (s : State) (g rstate : Nat) : State :=
  let s := if s.fld (Reg.CLU_REG_STAT g) Fld.CLU_REG_STAT_RSTATE = 0 then s.setFld (Reg.CLU_REG_STAT g) Fld.CLU_REG_STAT_RSTATE rstate else s
  let s := s.record (Reg.CLU_REG_STAT g) rstate [g]
  s.each (s.clus.filter fun k => s.ctype k != 0 && s.ctype k != tyDLC && s.regionOf k == g) fun u k =>
    if u.cstate k = csSAFE_STOPPED || u.cstate k = csFENCED then u.safeStop k scREGION
    else (u.safeStop k scREGION).updCluster k fun c => { c with byRegion := true }

/-! ### Ringmaster's lines and outputs -/

/-- The states of Ringmaster (R342). -/
def State.rmFollow (s : State) : State :=
  let dead := popcount 3 s.rm.dead + s.rm.outAt.length
  let v := if !s.rm.ready then 0
    else if s.rm.failed || Nat.ble 2 dead || s.bit Reg.SAFE_STAT Fld.SAFE_STAT_LATCH_VB then 5
    else if (s.reg Reg.SAFE_DEMAND).toNat != 0 then 4
    else if (s.reg Reg.SAFE_LINES).toNat != 0 then 3
    else if s.rm.armed then 2 else 1
  s.setFld Reg.SAFE_STAT Fld.SAFE_STAT_RMSTATE v

/-- Ringmaster sets the lines of a mask to their off level (R136); each driver die declares it within 1 µs. -/
def State.linesOff (s : State) (mask : Nat) : State :=
  let l := (s.reg Reg.SAFE_LINES).toNat
  let s := s.each (bitsOf 24 (l &&& mask)) fun u n => u.updDrv n fun d =>
    { d with lineOffAt := some s.now, lineOnAt := none, guardEnd := none, wasSwitching := u.switching n }
  (s.setNat Reg.SAFE_LINES (l &&& (0xFFFFFF - (mask &&& 0xFFFFFF)))).rmFollow

/-- SAFE_SO bits 7:0 (R342). -/
def Fld.SAFE_SO_ON : Field := ⟨0, 8⟩
/-- SAFE_SO bits 15:8. -/
def Fld.SAFE_SO_FAULT : Field := ⟨8, 8⟩

/-- Safety outputs of a mask de-energised; a test of one of them is abandoned (R341). -/
def State.outputsOff (s : State) (mask : Nat) : State :=
  let s := s.setFld Reg.SAFE_SO Fld.SAFE_SO_ON (s.fld Reg.SAFE_SO Fld.SAFE_SO_ON &&& (0xFF - mask % 256))
  s.updRm fun r => { r with soTest := r.soTest.filter fun p => !bitOf mask p.1, soReturn := r.soReturn.filter fun y => !bitOf mask y }

/-- A demand of a safety function, or an internal finding, is latched with its cause present (R321, R472). -/
def State.latch (s : State) (bits : Nat) : State :=
  (s.setNat Reg.SAFE_DEMAND ((s.reg Reg.SAFE_DEMAND).toNat ||| bits)).updRm fun r => { r with causes := r.causes ||| bits }

/-- The causes of a mask are absent. -/
def State.causeGone (s : State) (bits : Nat) : State :=
  s.updRm fun r => { r with causes := r.causes &&& (0xFFFFFFFF - bits % 2 ^ 32) }

/-! ### SAFE and LOCKOUT (R64–R66, R80, R81) -/

/-- SAFE_PREg_STAT of a region (R78). -/
def preStat (g : Nat) : Nat := if g = 0 then Reg.SAFE_PRE0_STAT else Reg.SAFE_PRE1_STAT
/-- The precharge state of a region. -/
def State.preState (s : State) (g : Nat) : Nat := s.fld (preStat g) Fld.SAFE_PRE_STATE

/-- MT restarts (R81, R417). -/
def State.mtRestart (s : State) : State := (s.updTrip 4 fun t => { t with runs := false }).resetParty 1

/-- A command whose result is pending ends (R86). DESIGN CHOICE (log 82): where a later command was refused meanwhile, GLB_DEVRESULT shows
that one, by its CMD and SEQ, and keeps it; safe for the refused command, unsafe for the pending one, whose end is then shown nowhere. -/
def State.endCmd (s : State) (result : Nat) : State :=
  match s.cmdWait with
  | some (_, seq) =>
    let s := { s with cmdWait := none }
    if s.fld Reg.GLB_DEVRESULT Fld.GLB_DEVRESULT_SEQ = seq then s.setFld Reg.GLB_DEVRESULT Fld.GLB_DEVRESULT_RESULT result else s
  | none => s

/-- LOCKOUT is entered with a cause (R81): recorded in the persistent store, MT restarts into the recovery service. -/
def State.lockoutEntry (s : State) (cause : Nat) : State :=
  let s := (s.setBit Reg.GLB_DEVSTATE Fld.GLB_DEVSTATE_TRANS false).endCmd rcSTATE
  let s := (s.enter stLOCKOUT).setFld Reg.GLB_DEVSTATE Fld.GLB_DEVSTATE_CAUSE cause
  let s := s.updStore fun p => { p with lockout := some cause }
  let s := { s.setBit Reg.SAFE_STAT Fld.SAFE_STAT_ENDBG false with diag := {} }
  ((s.linesOff 0xFFFFFF).outputsOff 0xFF).mtRestart.record Reg.GLB_DEVSTATE stLOCKOUT [cause]

/-- SAFE_LIMIT of the parameter set (R81, R343). -/
def State.safeLimit (s : State) : Nat := (s.reg (Reg.SAFE_PAR 2)).toNat / 2 ^ 28

/-- SAFE_CNT shows the SAFE entries that Ringmaster counts (R81). -/
def State.showSafeCnt (s : State) : State :=
  s.setFld Reg.GLB_DEVSTATE Fld.GLB_DEVSTATE_SAFE_CNT (min s.store.safeAt.length 255)

/-- A SAFE entry is counted, and LOCKOUT follows where a delivered set is in force and the count exceeds SAFE_LIMIT (R81). -/
def State.countSafe (s : State) : State :=
  let s := (s.updStore fun p => { p with safeAt := p.safeAt ++ [s.rm.vbTicks] }).showSafeCnt
  if s.rm.delivered && Nat.blt s.safeLimit s.store.safeAt.length then s.lockoutEntry 0x11 else s

/-- Precharge of a region ends in failure (R77, R78, R341). -/
def State.preFail (s : State) (g cause : Nat) : State :=
  let s := (s.setFld (preStat g) Fld.SAFE_PRE_STATE 4).setFld (preStat g) Fld.SAFE_PRE_FAIL cause
  s.updRegion g fun r => { r with tp := none, checked := false, overlapAt := none }

/-- The package safe state with a cause and the SAFE_DEMAND bits it latches (R66, R134, R321): every slot turns off softly and is held,
Ringmaster sets every line off and de-energises every output, a precharge or transition in progress ends, and SAFE is entered. In SAFE
and LOCKOUT the demand is latched and recorded and nothing else changes; with the dies down only Ringmaster acts. -/
def State.packageSafe (s : State) (cause bits : Nat) : State :=
  let s := s.latch bits
  let s := if s.cdRun then s.record Reg.GLB_DEVSTATE stSAFE [cause] else s
  let s := (s.linesOff 0xFFFFFF).outputsOff 0xFF
  if !s.cdRun || s.dev = stSAFE || s.dev = stLOCKOUT then s.rmFollow
  else
    let s := s.each s.slots fun u n => (u.softOff n).setHold n Fld.GDV_STAT_H_ORDER true
    let s := s.each (s.clus.filter fun k => s.ctype k != 0) fun u k => u.safeStop k scPACKAGE
    let s := s.each s.rgns fun u g => if u.preState g = 1 || u.preState g = 2 then u.preFail g cause else u
    let s := { (s.setBit Reg.GLB_DEVSTATE Fld.GLB_DEVSTATE_TRANS false).setBit Reg.SAFE_STAT Fld.SAFE_STAT_ENDBG false with diag := {} }
    let s := (s.enter stSAFE).setFld Reg.GLB_DEVSTATE Fld.GLB_DEVSTATE_CAUSE cause
    (s.endCmd rcSTATE).countSafe.rmFollow

/-- The SAFE_DEMAND bit of a package safe state that the control die orders (R319). -/
def dmCD : Nat := 2 ^ 27
/-- The SAFE_DEMAND bit of an internal finding (R472). -/
def dmINT : Nat := 2 ^ 25

/-- A package safe state ordered by the control die: the order itself ends at once, so its cause is absent when the finding is. -/
def State.cdSafe (s : State) (cause : Nat) : State := (s.packageSafe cause dmCD).causeGone dmCD

end Sys2Proof.Machine
end

