-- ==== Sys2Proof/Machine/Tightrope.lean ====
section
/-!
DEFINITION. Tightrope deadline monitors (R17–R22) and the slack-driven core rails (R25–R27).
-/

namespace Sys2Proof.Machine

/-! ### Slack (R26) -/

/-- The registers and record of a rail. -/
def railSlack (md : Bool) (s : State) : Slack := if md then s.slackMd else s.slackCd
/-- A change of the slack window of a rail. -/
def State.updSlack (s : State) (md : Bool) (f : Slack → Slack) : State :=
  if md then { s with slackMd := f s.slackMd } else { s with slackCd := f s.slackCd }
/-- PWR_VxD_STAT bits 7:0: the voltage code; bits 31:16: worst slack (R27). -/
def Fld.PWR_V_STAT_CODE : Field := ⟨0, 8⟩
/-- Worst slack of the last window. -/
def Fld.PWR_V_STAT_WORST : Field := ⟨16, 16⟩
/-- The status register of a rail. -/
def railStat (md : Bool) : Nat := if md then Reg.PWR_VMD_STAT else Reg.PWR_VCD_STAT
/-- The limits register of a rail. -/
def railLimits (md : Bool) : Nat := if md then Reg.PWR_VMD_LIMITS else Reg.PWR_VCD_LIMITS
/-- The window register of a rail. -/
def railWindow (md : Bool) : Nat := if md then Reg.PWR_VMD_WINDOW else Reg.PWR_VCD_WINDOW
/-- The target register of a rail. -/
def railTarget (md : Bool) : Nat := if md then Reg.PWR_VMD_TARGET else Reg.PWR_VCD_TARGET

/-- A new slack window begins. -/
def State.newWindow (s : State) (md : Bool) : State := s.updSlack md fun _ => { startAt := s.now, worst := none }

/-- The rail returns to its VMAX and a new window begins (R26). -/
def State.railToMax (s : State) (md : Bool) : State :=
  (s.setFld (railStat md) Fld.PWR_V_STAT_CODE (s.fld (railLimits md) Fld.PWR_VCD_LIMITS_VMAX)).newWindow md

/-- The die that runs the jobs of a monitor: true is the measurement die (R25, R26). -/
def State.trDie (s : State) (m : Nat) : Bool :=
  s.fld (Reg.CLK_TR_CFG m) Fld.CLK_TR_CFG_OWNER == 0 && s.bit (Reg.CLK_TR_CFG m) Fld.CLK_TR_CFG_DIE

/-! ### Jobs -/

/-- The party that owns a monitor, as a party code (R22). -/
def State.trOwner (s : State) (m : Nat) : Nat :=
  let o := s.fld (Reg.CLK_TR_CFG m) Fld.CLK_TR_CFG_OWNER
  if o = 0 then 7 else o
/-- STAT.STATE of a monitor. -/
def State.trState (s : State) (m : Nat) : Nat := s.fld (Reg.CLK_TR_STAT m) Fld.CLK_TR_STAT_STATE
/-- STAT.STATE set. -/
def State.setTrState (s : State) (m v : Nat) : State := s.setFld (Reg.CLK_TR_STAT m) Fld.CLK_TR_STAT_STATE v
/-- The deadline tick of the open job. -/
def State.trDeadline (s : State) (m : Nat) : Nat := (s.trmon m).jobRel + (s.reg (Reg.CLK_TR_DEADLINE m)).toNat

/-- The open job ends (R20, R21): a one-shot clears EN; a periodic monitor awaits its next release while EN is 1. -/
def State.trEnd (s : State) (m : Nat) (fault : Bool) : State :=
  let s := s.setBit (Reg.CLK_TR_STAT m) Fld.CLK_TR_STAT_ENDED_BY fault
  if s.bit (Reg.CLK_TR_CFG m) Fld.CLK_TR_CFG_PERIODIC then
    s.setTrState m (if s.bit (Reg.CLK_TR_CFG m) Fld.CLK_TR_CFG_EN then 3 else 0)
  else (s.setBit (Reg.CLK_TR_CFG m) Fld.CLK_TR_CFG_EN false).setTrState m 0

/-- JOB_RELEASE (R20): at its release tick a job opens and SEQ increments. A job still open then is overdue and ends by its fault. DESIGN
CHOICE (log 81): SEQ wraps from 0xFFFF to 0x0000, as it wraps at 16 bits, though the rule also says that it is 0x0000 only from reset; unsafe
for a claim about the 65,536th release. -/
def execJobRelease (m : Mon) (s : State) : Res :=
  let m := m.val
  let r := s.trmon m
  let st := s.trState m
  onlyIf (s.cdRun && s.bit (Reg.CLK_TR_CFG m) Fld.CLK_TR_CFG_EN && Nat.ble r.next s.tb && st != 0 &&
      (st != 2 || s.bit (Reg.CLK_TR_CFG m) Fld.CLK_TR_CFG_PERIODIC)) s fun s =>
    let seq := s.fld (Reg.CLK_TR_STAT m) Fld.CLK_TR_STAT_SEQ
    let late := if st = 2 then some (seq, s.trDeadline m) else r.late
    let s := (s.setFld (Reg.CLK_TR_STAT m) Fld.CLK_TR_STAT_SEQ ((seq + 1) % 65536)).setTrState m 2
    s.updTrmon m fun r => { next := r.next + (s.reg (Reg.CLK_TR_PERIOD m)).toNat, jobRel := r.next, late }

/-- The slack of a completed job enters the window of its die (R25, R26). -/
def State.noteSlack (s : State) (md : Bool) (slack : Nat) : State :=
  s.updSlack md fun w => { w with worst := some (min slack (w.worst.getD slack)) }

/-- A completion stamped with `slack` ticks to go enters LAST_SLACK and the window of its die. -/
def State.trCompleted (s : State) (m slack : Nat) : State :=
  (s.setFld (Reg.CLK_TR_CNT m) Fld.CLK_TR_CNT_LAST_SLACK (min slack 65535)).noteSlack (s.trDie m) slack

/-- The overdue job of a monitor, at the tick of its deadline, is the job that a completion names (R18, R20). -/
def State.trLate (s : State) (m seq : Nat) : Option Nat :=
  match (s.trmon m).late with
  | some (q, d) => if q = seq ∧ s.tb ≤ d then some d else none
  | none => none

/-- COMPLETION_WRITE (R18): ends the open job, or one whose deadline is the release of the next and falls in this tick; any other is discarded
with BADWR. A host write to monitors 0–31 is ignored (R22). -/
def execCompletionWrite (who : Party) (m : Mon) (v : Word) (s : State) : Res :=
  let m := m.val
  onlyIf (s.cdRun && !(who == .host && Nat.blt m 32)) s fun s =>
    let seq := v.toNat % 65536
    let mine := partyCode who == s.trOwner m
    let ok := mine && s.trState m == 2 && seq == s.fld (Reg.CLK_TR_STAT m) Fld.CLK_TR_STAT_SEQ && Nat.ble (s.trmon m).jobRel s.tb &&
      Nat.ble s.tb (s.trDeadline m)
    if ok then (s.trCompleted m (s.trDeadline m - s.tb)).trEnd m false
    else
      match mine, s.trLate m seq with
      | true, some d =>
        ((s.trCompleted m (d - s.tb)).updTrmon m fun r => { r with late := none }).setBit (Reg.CLK_TR_STAT m) Fld.CLK_TR_STAT_ENDED_BY false
      | _, _ => s.raise (.clkTr m) 24

/-- The consequence of a deadline fault by class (R19, R26, R67). -/
def State.trFault (s : State) (m seq : Nat) : State :=
  let cfg := s.reg (Reg.CLK_TR_CFG m)
  let k := Fld.CLK_TR_CFG_CLUSTER.get cfg
  let s := (s.raise (.clkTr m) 25).record (Reg.CLK_TR_STAT m) (2 ^ 25) [m, seq]
  let s := s.railToMax (s.trDie m)
  let c := Fld.CLK_TR_CFG_CLASS.get cfg
  if c = 1 && Nat.blt k s.variant.clusters then s.derateScale k
  else if c = 2 && Nat.blt k s.variant.clusters then s.safeStop k scTIGHTROPE
  else if c = 3 then s.cdSafe 0x0F
  else s

/-- DEADLINE_FAULT (R17): at the tick after its deadline a job that has not ended ends by fault, and its class applies. -/
def execDeadlineFault (m : Mon) (s : State) : Res :=
  let m := m.val
  match (s.trmon m).late with
  | some (seq, d) =>
    onlyIf (s.cdRun && Nat.blt d s.tb) s fun s =>
      ((s.updTrmon m fun r => { r with late := none }).setBit (Reg.CLK_TR_STAT m) Fld.CLK_TR_STAT_ENDED_BY true).trFault m seq
  | none =>
    onlyIf (s.cdRun && s.trState m == 2 && Nat.blt (s.trDeadline m) s.tb) s fun s =>
      let seq := s.fld (Reg.CLK_TR_STAT m) Fld.CLK_TR_STAT_SEQ
      (s.trEnd m true).trFault m seq

/-- The register that a configuration write names. -/
def trReg (m : Nat) : TrReg → Nat
  | .cfg => Reg.CLK_TR_CFG m
  | .deadline => Reg.CLK_TR_DEADLINE m
  | .releaseLo => Reg.CLK_TR_RELEASE_LO m
  | .releaseHi => Reg.CLK_TR_RELEASE_HI m
  | .period => Reg.CLK_TR_PERIOD m

/-- Setting EN is admissible with CFG value `w` (R20, R21). -/
def State.trEnableOk (s : State) (m : Nat) (w : Word) : Bool :=
  let rel := s.reg64 (Reg.CLK_TR_RELEASE_LO m) (Reg.CLK_TR_RELEASE_HI m)
  let d := (s.reg (Reg.CLK_TR_DEADLINE m)).toNat
  let p := (s.reg (Reg.CLK_TR_PERIOD m)).toNat
  let c := Fld.CLK_TR_CFG_CLASS.get w
  let o := Fld.CLK_TR_CFG_OWNER.get w
  Nat.blt s.tb rel && Nat.ble 1 d &&
    (!Fld.CLK_TR_CFG_PERIODIC.on w || (Nat.ble d p && Nat.ble 16 p)) &&
    (!(c == 1 || c == 2) || Nat.blt (Fld.CLK_TR_CFG_CLUSTER.get w) s.variant.clusters) &&
    Nat.blt o 6 && !(o == 0 && Nat.ble 32 m)

/-- TIGHTROPE_CFG_WRITE (R21, R22). -/
def execTightropeCfgWrite (who : Party) (m : Mon) (r : TrReg) (v : Word) (s : State) : Res :=
  let m := m.val
  onlyIf (s.cdRun && !(Nat.blt m 32 && who != .device)) s fun s =>
    let old := s.reg (Reg.CLK_TR_CFG m)
    let w := BitVec.ofNat 32 (v.toNat &&& (if Nat.blt m 32 then 0x1F7F else 0xF7F))
    if Fld.CLK_TR_CFG_EN.on old then
      if r = .cfg ∧ w = Fld.CLK_TR_CFG_EN.put old 0 then
        let s := s.setReg (Reg.CLK_TR_CFG m) w
        if s.trState m = 2 then s else s.setTrState m 0
      else s.raise (.clkTr m) 26
    else if s.trState m = 2 then s.raise (.clkTr m) 26
    else if r = .cfg then
      if !Fld.CLK_TR_CFG_EN.on w then s.setReg (Reg.CLK_TR_CFG m) w
      else if s.trEnableOk m w then
        let s := (s.setReg (Reg.CLK_TR_CFG m) w).setTrState m 1
        s.updTrmon m fun _ => { next := s.reg64 (Reg.CLK_TR_RELEASE_LO m) (Reg.CLK_TR_RELEASE_HI m) }
      else s.raise (.clkTr m) 26
    else s.setReg (trReg m r) v

/-! ### Slack controllers -/

/-- A rail is the measurement one. -/
def isMd : Rail → Bool
  | .cd => false
  | .md => true

/-- One 5 mV step of a rail within its limits: down or up (R25, R26). DESIGN CHOICE (log 81): a code outside newly written limits is not
clamped by the write; at each window end in which a job completed it steps toward the limits, whatever the slack; unsafe for a claim about the
code right after a write of LIMITS. -/
def railStep (code vmin vmax : Nat) (down : Bool) : Nat :=
  if Nat.blt vmax code then code - 1
  else if Nat.blt code vmin then code + 1
  else if down then (if Nat.blt vmin code then code - 1 else code)
  else if Nat.blt code vmax then code + 1 else code

/-- SLACK_WINDOW_END (R26): at the end of a window the rail moves one step by the worst slack, or stays where no job completed. DESIGN CHOICE
(log 81): the worst-slack field then keeps the value of the last window that had one; unsafe for a claim about that field. -/
def execSlackWindowEnd (rail : Rail) (s : State) : Res :=
  let md := isMd rail
  let w := railSlack md s
  onlyIf (s.cdRun && s.since w.startAt (ms (s.reg (railWindow md)).toNat)) s fun s =>
    match w.worst with
    | none => s.newWindow md
    | some x =>
      let lim := s.reg (railLimits md)
      let code := s.fld (railStat md) Fld.PWR_V_STAT_CODE
      let down := Nat.ble ((s.reg (railTarget md)).toNat % 65536) x
      let s := s.setFld (railStat md) Fld.PWR_V_STAT_CODE
        (railStep code (Fld.PWR_VCD_LIMITS_VMIN.get lim) (Fld.PWR_VCD_LIMITS_VMAX.get lim) down)
      (s.setFld (railStat md) Fld.PWR_V_STAT_WORST (min x 65535)).newWindow md

/-- SLACK_PARAM_WRITE (R27): limits and windows outside their range take the nearest allowed value and set VCLAMP. DESIGN CHOICE (log 81): VMIN
above VMAX, each inside its range, is accepted as written; unsafe for a claim that VMIN is at most VMAX. -/
def execSlackParamWrite (rail : Rail) (r : SlackReg) (v : Word) (s : State) : Res :=
  let md := isMd rail
  onlyIf s.cdRun s fun s =>
    match r with
    | .target => s.setNat (railTarget md) (v.toNat % 65536)
    | .window =>
      let w := v.toNat % 1024
      (s.setNat (railWindow md) (clampN 1 1000 w)).raiseIf (clampN 1 1000 w != w) .pwr 12
    | .limits =>
      let lo := if md then 0x18 else 0x2E
      let hi := if md then 0x50 else 0x4A
      let a := Fld.PWR_VCD_LIMITS_VMIN.get v
      let b := Fld.PWR_VCD_LIMITS_VMAX.get v
      (s.setNat (railLimits md) (clampN lo hi b * 256 + clampN lo hi a)).raiseIf (clampN lo hi a != a || clampN lo hi b != b) .pwr 12

end Sys2Proof.Machine
end

