-- ==== Sys2Proof/Machine/Lines.lean ====
section
/-!
DEFINITION. When Ringmaster releases interlock lines (R324) and energises safety outputs (R333), evaluated as one decision.
-/

namespace Sys2Proof.Machine

/-- Any triplet is split (R310, R311). -/
def State.anySplit (s : State) : Bool := (List.range 5).any fun t => s.bit (Reg.TRP_STAT t) Fld.TRP_STAT_SPLIT
/-- Energised debug is active (R313). -/
def State.endbg (s : State) : Bool := s.bit Reg.DBG_STAT Fld.DBG_STAT_ENDBG
/-- Slots assigned to a cluster. -/
def State.assigned (s : State) : List Nat := s.slots.filter fun n => (s.clusterOf n).isSome

/-- PRE_MODE of a region (R76, R343): 0 NONE, 1 RES, 2 EXT. -/
def State.preMode (s : State) (g : Nat) : Nat := (s.reg (Reg.SAFE_PAR (24 + 4 * g))).toNat / 2 ^ 30
/-- PRE_SO of a region. -/
def State.preSo (s : State) (g : Nat) : Nat := (s.reg (Reg.SAFE_PAR (24 + 4 * g))).toNat / 2 ^ 16 % 8
/-- MAIN_SO of a region. -/
def State.mainSo (s : State) (g : Nat) : Nat := (s.reg (Reg.SAFE_PAR (24 + 4 * g))).toNat / 2 ^ 24 % 8
/-- PRE_V_DONE in 0.1 V. -/
def State.preVDone (s : State) (g : Nat) : Nat := 10 * ((s.reg (Reg.SAFE_PAR (24 + 4 * g))).toNat % 2 ^ 11)
/-- The configured regions (R65, R74). -/
def State.configured (s : State) : List Nat := s.rgns.filter fun g => s.preMode g != 0
/-- Every configured region is precharged. -/
def State.preDone (s : State) : Bool := s.configured.all fun g => s.preState g == 3

/-- Cores of Ringmaster in the vote (R318). -/
def State.coresOut (s : State) : Nat := s.rm.outAt.foldl (fun m p => putBit m p.1 true) s.rm.dead
/-- At least two cores vote. -/
def State.rmVotes (s : State) : Bool := s.rm.ready && !s.rm.failed && Nat.blt (popcount 3 s.coresOut) 2

/-- The mask of lines that requests hold off (R319, R419). -/
def State.heldLines (s : State) : Nat := s.rm.holds.foldl (fun m p => m ||| p.2) s.rm.fenceOff

/-- Return frames of every assigned slot are valid (R324, R325). -/
def State.framesValid (s : State) : Bool := s.assigned.all fun n => (s.drv n).frameSeen && !(s.drv n).frameLost

/-- The conditions of R324 that are common to every line; in STANDBY lines are released under energised debug alone (R64, R313). -/
def State.linesMay (s : State) : Bool :=
  (s.dev == stARMED || s.dev == stRUN || (s.dev == stSTANDBY && s.endbg)) && s.rmVotes && (s.reg Reg.SAFE_DEMAND).toNat == 0 &&
    !s.bit Reg.SAFE_STAT Fld.SAFE_STAT_LATCH_VB && (!s.anySplit || s.endbg) && !s.bit Reg.SAFE_STAT Fld.SAFE_STAT_HWSD &&
    s.rm.armed && s.framesValid

/-- The mask of lines that may be released (R324). -/
def State.linesAllowed (s : State) : Nat :=
  if s.linesMay then s.assigned.foldl (fun m n => if bitOf s.heldLines n then m else putBit m n true) 0 else 0

/-- The role of an output (R333, R343). -/
def State.soRole (s : State) (y : Nat) : Nat := (s.reg (Reg.SAFE_PAR 2)).toNat / 2 ^ (2 * y) % 4

/-- An output may be energised (R333, R319, R57): its role, the state, no request, fault or demand against it. -/
def State.outputAllowed (s : State) (y : Nat) : Bool :=
  let pre := (s.dev == stDIAG && s.diag.step == 5) || s.dev == stSTANDBY || s.dev == stARMED || s.dev == stRUN
  let role := match s.soRole y with
    | 1 => pre && s.rgns.any fun g => s.preMode g == 1 &&
        ((s.preSo g == y && (s.preState g == 1 || s.preState g == 2)) || (s.mainSo g == y && (s.preState g == 2 || s.preState g == 3)))
    | 2 => s.preDone && (s.dev == stSTANDBY || s.dev == stARMED || s.dev == stRUN)
    | 3 => s.dev == stARMED || s.dev == stRUN
    | _ => false
  role && s.rm.delivered && s.rmVotes && (s.reg Reg.SAFE_DEMAND).toNat == 0 && !bitOf (s.fld Reg.SAFE_SO Fld.SAFE_SO_FAULT) y &&
    !bitOf s.rm.snOff y && !(s.rm.soOffs.any fun p => bitOf p.2 y) && s.power.vso

/-- The mask of outputs that may be energised. -/
def State.outputsAllowed (s : State) : Nat := (List.range 8).foldl (fun m y => if s.outputAllowed y then putBit m y true else m) 0

/-- One decision of Ringmaster (R318, R324, R333): lines that may not stay released go off; lines and outputs that may be on go on where
at least two cores command it. `releaseMask` and `onMask` are what the cores command. -/
def State.rmDecide (s : State) (releaseMask onMask : Nat) : State :=
  let may := s.linesAllowed &&& releaseMask
  let s := s.linesOff (0xFFFFFF - may)
  let new := may &&& (0xFFFFFF - (s.reg Reg.SAFE_LINES).toNat % 2 ^ 24)
  let s := s.each (bitsOf 24 new) fun u n => u.updDrv n fun d => { d with lineOffAt := none, lineOnAt := some u.now }
  let s := (s.setNat Reg.SAFE_LINES may).setBit Reg.SAFE_STAT Fld.SAFE_STAT_ENDBG (s.endbg && may != 0)
  let on := s.outputsAllowed &&& onMask
  let s := s.outputsOff (0xFF - on)
  (s.setFld Reg.SAFE_SO Fld.SAFE_SO_ON on).rmFollow

/-- A decision in which every core follows the rules. -/
def State.rmEvaluate (s : State) : State := s.rmDecide 0xFFFFFF 0xFF

end Sys2Proof.Machine
end

