-- ==== Sys2Proof/Machine/Hall.lean ====
section
/-!
DEFINITION. Triplets and Mirror Hall (R298–R316): the vote, fences, resynchronisation, the debug split; and stalls of self-timed stages
(R23, R24), uncorrectable DRAM errors (R28).
-/

namespace Sys2Proof.Machine

/-- Fence causes of TRPt_LASTFENCE (R315). -/
inductive FenceCause where
  | mismatch | lag | stall | memerr | test
  deriving DecidableEq, Repr

/-- The code of a cause. -/
def FenceCause.code : FenceCause → Nat
  | .mismatch => 1 | .lag => 2 | .stall => 3 | .memerr => 4 | .test => 5

/-- The mode of a triplet (R315). -/
def State.trpMode (s : State) (t : Nat) : Nat := s.fld (Reg.TRP_STAT t) Fld.TRP_STAT_MODE
/-- Copies fenced or retired. -/
def State.trpOut (s : State) (t : Nat) : Nat :=
  s.fld (Reg.TRP_STAT t) Fld.TRP_STAT_FENCED ||| s.fld (Reg.TRP_STAT t) Fld.TRP_STAT_RETIRED
/-- The copies that vote. -/
def State.voting (s : State) (t : Nat) : List Nat := (List.range 3).filter fun c => !bitOf (s.trpOut t) c
/-- The epoch of a triplet. -/
def State.trpEpoch (s : State) (t : Nat) : Nat := (s.reg (Reg.TRP_EPOCH t)).toNat % 65536
/-- The epoch increments (R305). -/
def State.bumpEpoch (s : State) (t : Nat) : State := s.setNat (Reg.TRP_EPOCH t) ((s.trpEpoch t + 1) % 65536)

/-- No majority (R302): NOMAJ, and the package safe state with cause 0x0F. -/
def State.noMajority (s : State) (t : Nat) : State :=
  ((s.updTrip t fun r => { r with present := [], diffAt := none }).raise (.trp t) 9).cdSafe 0x0F

/-- TRPt_LASTFENCE and TRPt_LASTADDR: cause and copy of the last fence, and the address of the last transaction that fenced a copy, which a MISMATCH
has (R315). -/
def State.noteFence (s : State) (t c code addr : Nat) : State :=
  let w := (s.reg (Reg.TRP_LASTFENCE t)).toNat / 65536 * 65536
  let s := s.setNat (Reg.TRP_LASTFENCE t) (w + code * 16 + c)
  if code = 1 then s.setNat (Reg.TRP_LASTADDR t) addr else s

/-- A resynchronisation begins (R307 step 1). -/
def State.startResync (s : State) (t : Nat) : State :=
  let s := (s.setFld (Reg.TRP_STAT t) Fld.TRP_STAT_MODE 1).setFld (Reg.TRP_STAT t) Fld.TRP_STAT_RSSTEP 1
  s.updTrip t fun r => { r with rsAt := s.now, rebuilt := [] }

/-- A copy is fenced (R305): epoch, flag, resynchronisation; retirement beyond RESYNC_LIM fences within 3,600 s (R308); a fence while
another copy is out is a case without majority (R302, R308, R314), and one that ends a resynchronisation sets RSFAIL. While the triplet is split only the debug copy stands. -/
def State.fenceCopy (s : State) (t c : Nat) (cause : FenceCause) (addr : Nat) : State :=
  let flag := match cause with
    | .mismatch => 1 | .lag => 2 | .stall => 4 | .memerr => 8 | .test => 0
  let s := (s.raiseMask (.trp t) flag).noteFence t c cause.code addr
  let out := s.fld (Reg.TRP_STAT t) Fld.TRP_STAT_FENCED
  let rebuilding := s.trpMode t == 1 && bitOf out c
  if s.trpMode t == 3 && bitOf out c then s
  else if s.trpOut t != 0 && !rebuilding then (s.raiseIf (s.trpMode t == 1) (.trp t) 5).noMajority t
  else
    let early := (s.trip t).rebuilt.contains c && Nat.blt (s.trip t).rel 64
    let s := s.raiseIf early (.trp t) 5
    let recent := (s.trip t).fences.filter fun f => f.1 == c && Nat.blt s.now (f.2 + 3600 * 1000 * ms 1)
    let s := (s.updTrip t fun r => { r with fences := r.fences ++ [(c, s.now)], present := r.present.filter fun p => p.1 != c,
                                            waits := r.waits.map fun w => { w with lagging := w.lagging.filter (· != c) } }).bumpEpoch t
    if Nat.ble (s.fld (Reg.TRP_CFG t) Fld.TRP_CFG_RESYNC_LIM) recent.length then
      let ret := putBit (s.fld (Reg.TRP_STAT t) Fld.TRP_STAT_RETIRED) c true
      let left := putBit out c false
      let s := (s.setFld (Reg.TRP_STAT t) Fld.TRP_STAT_RETIRED ret).setFld (Reg.TRP_STAT t) Fld.TRP_STAT_FENCED left
      let s := if left != 0 then s.startResync t
        else (s.setFld (Reg.TRP_STAT t) Fld.TRP_STAT_MODE 2).setFld (Reg.TRP_STAT t) Fld.TRP_STAT_RSSTEP 0
      ((s.raise (.trp t) 6).record (Reg.TRP_FLAGS t) 0x40 [t, c]).logSafety 0x40 (t * 4 + c) 0
    else
      (s.setFld (Reg.TRP_STAT t) Fld.TRP_STAT_FENCED (putBit out c true)).startResync t

/-- The presentations of the next index by voting copies. -/
def State.votesFor (s : State) (t : Nat) : List (Nat × TripTx) :=
  (s.trip t).present.filter fun p => p.2.index == (s.trip t).rel && (s.voting t).contains p.1

/-- Two presentations of equal fields, if any: the value that is released (R300). -/
def agreed : List (Nat × TripTx) → Option TripTx
  | [] => none
  | p :: rest => if rest.any fun q => q.2.fields == p.2.fields then some p.2 else agreed rest

/-- The kind of a transaction that is WFI: where it stands in no manual table, the model numbers it 7. -/
def txWFI : Nat := 7

/-- A transaction is released (R300, R301): counted unless it is a signature; copies that differ are fenced, those that lack it awaited. A
WFI takes the inputs still assigned (R303). -/
def State.release (s : State) (t : Nat) (tx : TripTx) (votes : List (Nat × TripTx)) : State :=
  let lag := (s.voting t).filter fun c => !(votes.any fun p => p.1 == c)
  let bad := (votes.filter fun p => p.2.fields != tx.fields).map (·.1)
  let s := if tx.sig then s else
    s.setNat64 (Reg.TRP_RELCNT_LO t) (Reg.TRP_RELCNT_HI t) (s.reg64 (Reg.TRP_RELCNT_LO t) (Reg.TRP_RELCNT_HI t) + 1)
  let s := s.updTrip t fun r => { r with
    stores := if tx.sig then r.stores else r.stores ++ [tx.fields], rel := r.rel + 1,
    inputs := if tx.fields.kind = txWFI then [] else r.inputs, present := r.present.filter fun p => p.2.index != tx.index, diffAt := none,
    waits := if lag.isEmpty then r.waits else r.waits ++ [⟨tx.index, tx.fields, s.now, lag⟩] }
  s.each bad fun u c => u.fenceCopy t c .mismatch tx.fields.addr

/-- Every transaction that can be released is, and differing presentations without majority are found (R300–R302). -/
def State.voteN : Nat → State → Nat → State
  | 0, s, _ => s
  | n + 1, s, t =>
    let v := s.votesFor t
    match agreed v with
    | some tx => State.voteN n (s.release t tx v) t
    | none =>
      if Nat.blt v.length 2 then s
      else if v.length = (s.voting t).length then s.noMajority t
      else s.updTrip t fun r => { r with diffAt := some (r.diffAt.getD s.now) }

/-- Copies that the release count has left 64 transactions behind are fenced (R301). -/
def State.lagCheck (s : State) (t : Nat) : State :=
  s.each (s.voting t) fun u c =>
    if Nat.ble ((u.trip t).last.getD c 0 + 64) (u.trip t).rel then u.fenceCopy t c .lag 0 else u

/-- Copy `c` of a running triplet presents a transaction (R299–R305). Its transactions come in the order of their numbers; at the 65th that is
not released back-pressure stalls it (R301). -/
def State.presents (s : State) (t c : Nat) (tx : TripTx) : State :=
  if tx.epoch != s.trpEpoch t || bitOf (s.trpOut t) c then (s.incSat (Reg.TRP_STALECNT t)).raise (.trp t) 7
  else if s.bit (Reg.TRP_STAT t) Fld.TRP_STAT_SPLIT then
    (s.setNat64 (Reg.TRP_RELCNT_LO t) (Reg.TRP_RELCNT_HI t) (s.reg64 (Reg.TRP_RELCNT_LO t) (Reg.TRP_RELCNT_HI t) + 1)).updTrip t
      fun r => { r with stores := if tx.sig then r.stores else r.stores ++ [tx.fields] }
  else if tx.index != (s.trip t).last.getD c 0 then s
  else if Nat.ble (s.trip t).rel tx.index && Nat.ble 64 ((s.trip t).present.countP fun p => p.1 == c) then s
  else
    let ic := (s.trip t).icount.set c (max tx.icount ((s.trip t).icount.getD c 0))
    let low := (s.voting t).foldl (fun m v => min m (ic.getD v 0)) tx.icount
    let s := s.updTrip t fun r => { r with icount := ic, inputs := r.inputs.filter fun i => Nat.blt low i.1,
                                           last := r.last.set c (max (tx.index + 1) (r.last.getD c 0)) }
    let lasts := (s.voting t).map fun v => (s.trip t).last.getD v 0
    let drift := lasts.foldl max 0 - lasts.foldl min (tx.index + 1)
    let s := s.setFld (Reg.TRP_STAT t) Fld.TRP_STAT_DRIFT (max (s.fld (Reg.TRP_STAT t) Fld.TRP_STAT_DRIFT) (min drift 255))
    if Nat.blt tx.index (s.trip t).rel then
      match (s.trip t).waits.find? fun w => w.index == tx.index with
      | some w =>
        let s := s.updTrip t fun r => { r with
          waits := (r.waits.map fun x => if x.index = tx.index then { x with lagging := x.lagging.filter (· != c) } else x).filter
            fun x => !x.lagging.isEmpty }
        if w.fields == tx.fields then s else s.fenceCopy t c .mismatch tx.fields.addr
      | none => s
    else
      let s := s.updTrip t fun r => { r with present := r.present ++ [(c, tx)] }
      (s.voteN 65 t).lagCheck t

/-- LAG_TIMEOUT (R301, R302): a copy has not presented a released transaction within LAG_TO, or the third presentation of a differing
pair has not come within LAG_TO. -/
def execLagTimeout (t : Trip) (c : Fin 3) (s : State) : Res :=
  let t := t.val
  let c := c.val
  let lagTo := s.fld (Reg.TRP_CFG t) Fld.TRP_CFG_LAG_TO
  let late := (s.trip t).waits.any fun w => w.lagging.contains c && s.since w.time lagTo
  let third := match (s.trip t).diffAt with
    | some d => s.since d lagTo && !((s.votesFor t).any fun p => p.1 == c)
    | none => false
  onlyIf (s.cdRun && (s.voting t).contains c && (late || third)) s fun s =>
    if third then s.noMajority t else s.fenceCopy t c .lag 0

/-- ASYNC_INPUT (R303). -/
def execAsyncInput (t : Trip) (code : Nat) (s : State) : Res := onlyIf s.cdRun s fun s => s.asyncIn t.val code

/-- COPY_MEMERR (R304): an uncorrectable SRAM or cache error fences the copy; a corrected one is counted in ECC_COR and fences none. -/
def execCopyMemerr (t : Trip) (c : Fin 3) (corrected : Bool) (s : State) : Res :=
  onlyIf (s.cdRun && !bitOf (s.fld (Reg.TRP_STAT t.val) Fld.TRP_STAT_RETIRED) c.val) s fun s =>
    if corrected then s.raise (.trp t.val) 10 else s.fenceCopy t.val c.val .memerr 0

/-- BULK_COPY_DONE (R307 steps 3 and 4): the pause is delivered to the voting copies. -/
def execBulkCopyDone (t : Trip) (s : State) : Res :=
  let t := t.val
  let step := s.fld (Reg.TRP_STAT t) Fld.TRP_STAT_RSSTEP
  onlyIf (s.cdRun && (step == 1 || step == 2 || step == 3)) s fun s =>
    (s.setFld (Reg.TRP_STAT t) Fld.TRP_STAT_RSSTEP 4).asyncIn t 0x100

/-- RESYNC_PAUSE_END (R307 step 6): voting resumes with the present epoch; a split ends here (R312). -/
def execResyncPauseEnd (t : Trip) (s : State) : Res :=
  let t := t.val
  let step := s.fld (Reg.TRP_STAT t) Fld.TRP_STAT_RSSTEP
  onlyIf (s.cdRun && (step == 4 || step == 5)) s fun s =>
    let c := (List.range 3).filter fun c => bitOf (s.fld (Reg.TRP_STAT t) Fld.TRP_STAT_FENCED) c
    let dur := min ((s.now - (s.trip t).rsAt) / 40) 65535
    let s := s.setNat (Reg.TRP_LASTFENCE t) (dur * 65536 + (s.reg (Reg.TRP_LASTFENCE t)).toNat % 65536)
    let s := (s.setFld (Reg.TRP_STAT t) Fld.TRP_STAT_FENCED 0).setFld (Reg.TRP_STAT t) Fld.TRP_STAT_RSSTEP 0
    let s := s.setFld (Reg.TRP_STAT t) Fld.TRP_STAT_MODE (if s.fld (Reg.TRP_STAT t) Fld.TRP_STAT_RETIRED = 0 then 0 else 2)
    let s := (s.setBit (Reg.TRP_STAT t) Fld.TRP_STAT_SPLIT false).setFld Reg.DBG_STAT ⟨8 + t, 1⟩ 0
    let s := s.updTrip t fun r => { r with rel := 0, present := [], waits := [], last := [0, 0, 0], diffAt := none, rebuilt := c }
    s.raise (.trp t) 4

/-- FENCE_TEST (R315): accepted in STANDBY and MODE 0b000. -/
def execFenceTest (t : Trip) (c : Fin 4) (s : State) : Res :=
  onlyIf (s.cdRun && s.dev == stSTANDBY && s.trpMode t.val == 0 && Nat.blt c.val 3) s fun s => s.fenceCopy t.val c.val .test 0

/-- STALL (R23, R24, R304): the copy of a triplet is fenced; of another group likewise, and a stall of a second copy within its
resynchronisation (at most 200 µs, R35) is a die fault. -/
def execStall (st : Stage) (copy : Fin 3) (s : State) : Res :=
  let group (md : Bool) (g : Nat) : Res :=
    onlyIf s.cdRun s fun s =>
      match (s.stalls.find? fun p => p.1 == (md, g)) with
      | some (_, c, t) =>
        if c != copy.val && !s.since t (us 200) then s.cdSafe 0x0F
        else { s with stalls := File.set (0, 0) s.stalls (md, g) (copy.val, s.now) }
      | none => { s with stalls := File.set (0, 0) s.stalls (md, g) (copy.val, s.now) }
  match st with
  | .triplet t => onlyIf (s.cdRun && !bitOf (s.fld (Reg.TRP_STAT t.val) Fld.TRP_STAT_RETIRED) copy.val) s fun s =>
      s.fenceCopy t.val copy.val .stall 0
  | .control g => group false g
  | .measurement g => group true g

/-- DRAM_UNCORRECTABLE (R28, R304): an error response to the reader. A host read completes with the poisoned bit; captured data is marked bad; an
error that one copy of a triplet receives fences that copy under R24 (R28), one returned to a read reaches all three copies alike and fences
none (R304). -/
def execDramUncorrectable (rd : DramReader) (s : State) : Res :=
  match rd with
  | .bar4 => onlyIf s.cdRun s fun s => { s with cpl := some { poisoned := true } }
  | .capture _ => onlyIf s.cdRun s fun s => { s with bad := s.bad ++ [rd] }
  | .waveform => onlyIf s.cdRun s fun s => { s with bad := s.bad ++ [rd] }
  | .copy t c => onlyIf (s.cdRun && !bitOf (s.fld (Reg.TRP_STAT t.val) Fld.TRP_STAT_RETIRED) c.val) s fun s => s.fenceCopy t.val c.val .memerr 0
  | .triplet t => onlyIf s.cdRun s fun s => s.asyncIn t.val 0x101

/-! ### The debug port (R309–R313) -/

/-- Lines go off while a triplet is split without energised debug; in ARMED or RUN that is the package safe state (R311). -/
def State.splitRule (s : State) : State :=
  if s.anySplit && !s.endbg then
    if s.dev = stARMED || s.dev = stRUN then s.packageSafe 0x0E (2 ^ 24) else s.linesOff 0xFFFFFF
  else s

/-- HALT_REQUEST (R309, R310, R314): the triplet splits around the halted copy, or the request is refused with HALTREF; a resynchronisation
is abandoned. A copy that is retired or held in reset for its rebuild cannot be halted. -/
def execHaltRequest (t : Trip) (c : Fin 3) (s : State) : Res :=
  let t := t.val
  let c := c.val
  onlyIf s.cdRun s fun s =>
    if !s.commissioning || bitOf (s.trpOut t) c then s.raise .dbg 1
    else if s.bit (Reg.TRP_STAT t) Fld.TRP_STAT_SPLIT then
      ((s.setFld (Reg.TRP_STAT t) Fld.TRP_STAT_MODE 3).setFld (Reg.TRP_STAT t) Fld.TRP_STAT_RSSTEP 0).updTrip t fun r => { r with halted := true }
    else
      let others := (7 - 2 ^ c) &&& (7 - s.fld (Reg.TRP_STAT t) Fld.TRP_STAT_RETIRED)
      let s := (s.setFld (Reg.TRP_STAT t) Fld.TRP_STAT_FENCED others).setFld (Reg.TRP_STAT t) Fld.TRP_STAT_MODE 3
      let s := (s.setFld (Reg.TRP_STAT t) Fld.TRP_STAT_RSSTEP 0).setFld (Reg.TRP_STAT t) Fld.TRP_STAT_DBGCOPY c
      let s := (s.setBit (Reg.TRP_STAT t) Fld.TRP_STAT_SPLIT true).setFld Reg.DBG_STAT ⟨8 + t, 1⟩ 1
      let s := (s.updTrip t fun r => { r with halted := true, present := [], waits := [] }).bumpEpoch t
      let s := ((s.noteFence t c 6 0).raise (.trp t) 8).raise .dbg 0
      (s.record (Reg.TRP_FLAGS t) 0x100 [t, c]).splitRule

/-- DEBUG_REQUEST (R309): accepted while a COMMISSION session is active, otherwise refused with HALTREF. -/
def execDebugRequest (r : DbgReq) (s : State) : Res :=
  onlyIf s.cdRun s fun s =>
    if !s.commissioning then s.raise .dbg 1
    else match r with
      | .resume t => s.updTrip t.val fun x => { x with halted := false }
      | .setBreak t a => s.updTrip t.val fun x => { x with breaks := x.breaks ++ [a] }
      | .clearBreak t a => s.updTrip t.val fun x => { x with breaks := x.breaks.filter (· != a) }
      | .inspect _ => s

/-- The result of a debug command (R316). -/
def State.dbgResult (s : State) (res : Nat) : State :=
  (s.setFld Reg.DBG_STAT Fld.DBG_STAT_CMDRES res).raiseIf (res != rcDONE) .dbg 2

/-- Energised debug ends (R313); R311 applies at once. -/
def State.endEndbg (s : State) : State :=
  if s.endbg then
    let s := (s.setBit Reg.DBG_STAT Fld.DBG_STAT_ENDBG false).setBit Reg.SAFE_STAT Fld.SAFE_STAT_ENDBG false
    let s := s.showIlims.splitRule
    if s.dev = stSTANDBY then s.linesOff 0xFFFFFF else s
  else s

/-- ENDBG (R313): under COMMISSION, in STANDBY, with a trip threshold for every assigned slot. -/
def State.cmdEndbg (s : State) : State :=
  if s.dev != stSTANDBY then s.dbgResult rcSTATE
  else if !s.commissioning || s.assigned.any fun n => (s.reg (Reg.DBG_TRIP n)).toNat % 65536 == 0 then s.dbgResult rcCOND
  else ((s.setBit Reg.DBG_STAT Fld.DBG_STAT_ENDBG true).showIlims.rmEvaluate).dbgResult rcDONE

/-- EXDBG (R313). -/
def State.cmdExdbg (s : State) : State := if s.endbg then s.endEndbg.dbgResult rcDONE else s.dbgResult rcSTATE

/-- REJOIN_DBG (R312): the fenced copies are rebuilt from the debug copy, once it runs. -/
def State.cmdRejoinDbg (s : State) (t : Nat) : State :=
  if !s.bit (Reg.TRP_STAT t) Fld.TRP_STAT_SPLIT || s.trpMode t != 3 then s.dbgResult rcSTATE
  else if (s.trip t).halted then s.dbgResult rcCOND
  else (s.startResync t).dbgResult rcDONE

/-- ENDBG. -/
def execEndbg (s : State) : Res := onlyIf s.cdRun s State.cmdEndbg
/-- EXDBG. -/
def execExdbg (s : State) : Res := onlyIf s.cdRun s State.cmdExdbg
/-- REJOIN_DBG. -/
def execRejoinDbg (t : Trip) (s : State) : Res := onlyIf s.cdRun s fun s => s.cmdRejoinDbg t.val

/-- What the end of a COMMISSION session does to the debug port (R312, R313). -/
def State.debugEnds (s : State) : State :=
  let s := s.each (List.range 5) fun u t => u.updTrip t fun r => { r with halted := false, breaks := [] }
  (s.setFld Reg.DBG_STAT ⟨0, 1⟩ 0).endEndbg

end Sys2Proof.Machine
end

