-- ==== Sys2Proof/Machine/Commission.lean ====
section
/-!
DEFINITION. Authorisations, keys, images and the commissioning lock (R69, R70, R75, R83–R85).
-/

namespace Sys2Proof.Machine

/-- The key slot of the COMMISSION session, for the safety log. -/
def State.sessionKey (s : State) : Nat := match s.auths.session with
  | some (k, _) => k
  | none => 0

/-- An authorisation verifies (R83): the nonce last read, not expired, an installed key that is not revoked, a good signature. -/
def State.authOk (s : State) (a : Auth) : Bool :=
  (match s.auths.nonce with
   | some (n, t) => n == a.nonce && !s.since t (secs 300)
   | none => false) &&
  (s.store.keys.any fun k => k.1 == a.key.val && !k.2.2) && a.sigOk

/-- The single-use nonce is used up (R83). -/
def State.useNonce (s : State) : State := { s with auths := { s.auths with nonce := none } }

/-- An authorisation presented: where it verifies, its nonce is used and its grant follows. -/
def State.withAuth (s : State) (a : Auth) (f : State → State) : State := if s.authOk a then f s.useNonce else s

/-- NONCE_READ (R83). -/
def execNonceRead (nonce : Nat) (s : State) : Res :=
  onlyIf s.cdRun s fun s => { s with auths := { s.auths with nonce := some (nonce % 2 ^ 128, s.now) } }

/-- NONCE_EXPIRY (R83): 300 s after its issue. -/
def execNonceExpiry (s : State) : Res :=
  match s.auths.nonce with
  | some (_, t) => onlyIf (s.since t (secs 300)) s State.useNonce
  | none => .next s

/-- The lowest free commissioning-key slot. -/
def State.freeKey (s : State) : Option Nat := (List.range 4).find? fun k => !(s.store.keys.any fun e => e.1 == k)

/-- A commissioning key installed in a slot, and the entry of the safety log (R83). -/
def State.installKey (s : State) (key : Nat) : State :=
  match s.freeKey with
  | some k =>
    let s := s.updStore fun p => { p with keys := p.keys ++ [(k, key, false)] }
    (s.setBit Reg.GLB_BOOTSTAT Fld.GLB_BOOTSTAT_FIRST_KEY false).logSafety 0x10 k s.sessionKey
  | none => s

/-- INSTALL_COMMISSIONING_KEY (R83): the first waits for proof of presence; the others need a COMMISSION session. -/
def execInstallCommissioningKey (key : Nat) (s : State) : Res :=
  onlyIf s.cdRun s fun s =>
    if s.store.keys.isEmpty then { s with auths := { s.auths with install := some (key, s.now) } }
    else if s.commissioning then s.installKey key else s

/-- PRESENCE_TIMEOUT (R83): 60 s after the request for the first key. -/
def execPresenceTimeout (s : State) : Res :=
  match s.auths.install with
  | some (_, t) => onlyIf (s.since t (secs 60)) s fun s => { s with auths := { s.auths with install := none } }
  | none => .next s

/-- The proof of presence (R83, R337): an accepted press within 60 s of the request installs the first key. -/
def State.presence (s : State) : State :=
  match s.auths.install with
  | some (key, t) =>
    let s := { s with auths := { s.auths with install := none } }
    if s.store.keys.isEmpty && Nat.ble s.now (t + secs 60) then s.installKey key else s
  | none => s

/-- REVOKE_COMMISSIONING_KEY (R83). -/
def execRevokeCommissioningKey (slot : Fin 4) (s : State) : Res :=
  onlyIf (s.cdRun && s.commissioning && s.store.keys.any fun e => e.1 == slot.val) s fun s =>
    (s.updStore fun p => { p with keys := p.keys.map fun e => if e.1 = slot.val then (e.1, e.2.1, true) else e }).logSafety
      0x11 slot.val s.sessionKey

/-- COMMISSION (R83): opens a session; refused while the lock is set. -/
def execCommission (a : Auth) (s : State) : Res :=
  onlyIf (s.cdRun && !s.locked) s fun s => s.withAuth a fun s =>
    let s := { s with auths := { s.auths with session := some (a.key.val, s.now) } }
    (s.setBit Reg.GLB_DEVSTATE Fld.GLB_DEVSTATE_COMMISSION true).setFld Reg.DBG_STAT ⟨0, 1⟩ 1

/-- An override of a slot ends (R75, R140): H_FAILED and H_DIAG show their own values again, and an unhealthy phase leaves
its cluster (R187). -/
def State.endOverride (s : State) (n : Nat) : State :=
  if (s.drv n).override then
    let d := s.drv n
    let s := s.updDrv n fun d => { d with override := false }
    let s := (s.setBit (Reg.GDV_STAT n) Fld.GDV_STAT_H_FAILED d.failed).setBit (Reg.GDV_STAT n) Fld.GDV_STAT_H_DIAG d.diagHeld
    let s := s.setBit (Reg.GDV_DIAG_RES n) Fld.GDV_DIAG_RES_OVERRIDE false
    if d.failed || d.diagHeld then s.phaseLostOf n else s
  else s

/-- The COMMISSION session ends (R83, R85, R312, R313). -/
def State.endSession (s : State) : State :=
  let s := { s with auths := { s.auths with session := none } }
  let s := s.setBit Reg.GLB_DEVSTATE Fld.GLB_DEVSTATE_COMMISSION false
  (s.each s.slots State.endOverride).debugEnds

/-- COMMISSION_SESSION_END (R83): after 8 h. -/
def execCommissionSessionEnd (s : State) : Res :=
  match s.auths.session with
  | some (_, t) => onlyIf (s.since t (secs 28800)) s State.endSession
  | none => .next s

/-- LOCK_RELEASE (R83, R85): clears the commissioning lock, with an entry of the safety log. -/
def execLockRelease (a : Auth) (s : State) : Res :=
  onlyIf (s.cdRun && s.locked) s fun s => s.withAuth a fun s =>
    ((s.updStore fun p => { p with locked := false }).setBit Reg.GLB_COMLOCK Fld.GLB_COMLOCK_LOCKED false).logSafety 0x12 0 a.key.val

/-- RECORDER_CLEAR_AUTH (R83, R441): permits one recorder CLEAR. -/
def execRecorderClearAuth (a : Auth) (s : State) : Res :=
  onlyIf s.cdRun s fun s => s.withAuth a fun s =>
    { s with recst := { s.recst with clearAuth := some (s.now, a.key.val, a.nonce) } }

/-- SLOT_OVERRIDE (R75): suspends H_FAILED and H_DIAG of a failed slot for the session. -/
def execSlotOverride (n : Slot) (s : State) : Res :=
  let n := n.val
  let st := s.reg (Reg.GDV_STAT n)
  onlyIf (s.cdRun && s.commissioning && Nat.blt n s.variant.slots && !(s.drv n).override &&
      ((s.drv n).marked || Fld.GDV_STAT_H_FAILED.on st || Fld.GDV_STAT_H_DIAG.on st)) s fun s =>
    let s := s.updDrv n fun d => { d with override := true, diagHeld := Fld.GDV_STAT_H_DIAG.on st }
    let s := (s.setBit (Reg.GDV_STAT n) Fld.GDV_STAT_H_FAILED false).setBit (Reg.GDV_STAT n) Fld.GDV_STAT_H_DIAG false
    (s.setBit (Reg.GDV_DIAG_RES n) Fld.GDV_DIAG_RES_OVERRIDE true).logSafety 0x13 n s.sessionKey

/-! ### Images (R69–R71) -/

/-- The number of a kind of image: 0 Ringmaster, 1 Huavos, 2–5 LT0–LT3. -/
def kindNo : ImgKind → Nat
  | .rm => 0 | .hv => 1 | .lt t => 2 + t.val

/-- A copy of an image. -/
def State.image (s : State) (k : Nat) (b : Bool) : ImgCopy := File.get {} s.store.images (k, b)
/-- GLB_FWVER of a copy: its firmware number with its security version in bits 7:0 (R452). -/
def ImgCopy.fwver (c : ImgCopy) : Nat := c.fw.toNat / 256 * 256 + c.ver % 256
/-- GLB_FWVER_LTt of a loop triplet: the image that it runs, or 0 (R452). -/
def State.showLtVer (s : State) (t : Nat) : State :=
  s.setNat (Reg.GLB_FWVER_LT t)
    (if (s.trip t).runs then (s.image (2 + t) (s.trip t).copyB).fwver else 0)
/-- A change of a copy. -/
def State.updImage (s : State) (k : Nat) (b : Bool) (f : ImgCopy → ImgCopy) : State :=
  s.updStore fun p => { p with images := File.set {} p.images (k, b) (f (s.image k b)) }
/-- The anti-rollback counter of a kind. -/
def State.rollback (s : State) (k : Nat) : Nat := File.get 0 s.store.rollback k
/-- A copy passes verification under R69 and R70: present, verdict good, security version not below the counter. -/
def State.imgOk (s : State) (k : Nat) (b verdict : Bool) : Bool :=
  (s.image k b).present && verdict && Nat.ble (s.rollback k) (s.image k b).ver

/-- The copy due to boot: the one marked trial, otherwise the one marked good (R70); copy A where there is neither. -/
def State.dueCopy (s : State) (k : Nat) : Bool :=
  if (s.image k false).trial then false
  else if (s.image k true).trial then true
  else (s.image k true).good

/-- The triplet that an image kind from Huavos on runs on: MT for Huavos. -/
def tripOfKind (k : Nat) : Nat := if k = 1 then 4 else k - 2

/-- A trial copy that has started has lost its mark by now (R70): one of the dies at the BOOT that followed its start, one of Ringmaster at its
own start after such a BOOT. -/
def State.lostTrial (s : State) (k : Nat) (b : Bool) : Bool :=
  k == 0 && !s.cdRun && (s.image k b).trial && (s.image k b).aged

/-- The boot of one kind (R70, R71): the due copy boots, or the other with FALLBACK, or none; where a trial mark has just been removed the due copy
is the fallback. Answers the state, the copy and whether it was the fallback. -/
def State.bootKind (s : State) (k : Nat) (v : Verdicts) : State × Option (Bool × Bool) :=
  let removed := s.lostTrial k false || s.lostTrial k true || (k != 0 && (s.trip (tripOfKind k)).removed)
  let drop (u : State) (b : Bool) : State := if s.lostTrial k b then u.updImage k b fun c => { c with trial := false } else u
  let s := drop (drop s false) true
  let due := s.dueCopy k
  let verdict (b : Bool) : Bool := if b then v.b else v.a
  let start (s : State) (b : Bool) : State := s.updImage k b fun c => { c with ran := true }
  if s.imgOk k due (verdict due) then (start s due, some (due, removed))
  else
    let s := s.updImage k due fun c => { c with trial := false }
    if s.imgOk k (!due) (verdict (!due)) then (start s (!due), some (!due, true)) else (s, none)

/-- A BOOT comes (R70): a trial copy of the dies that has started loses its mark; one of Ringmaster does so at the second BOOT since its start. -/
def State.bootTrials (s : State) : State :=
  let s := s.each [1, 2, 3, 4, 5] fun u k => u.each [false, true] fun w b =>
    if (w.image k b).trial && (w.image k b).ran then
      (w.updImage k b fun c => { c with trial := false }).updTrip (tripOfKind k) fun t => { t with removed := true }
    else w
  s.each [false, true] fun u b =>
    if (u.image 0 b).trial && (u.image 0 b).ran then
      u.updImage 0 b fun c => if c.aged then { c with trial := false, aged := false } else { c with aged := true }
    else u

/-- The LOCKOUT cause where no copy of a kind boots (R71): 0x02 where every present copy failed by anti-rollback alone. -/
def State.noBootCause (s : State) (k : Nat) (v : Verdicts) : Nat :=
  let a := (s.image k false).present
  let b := (s.image k true).present
  if (a || b) && (!a || v.a) && (!b || v.b) then 0x02 else 0x01

/-- The copy of a kind that runs (R86). -/
def State.bootedCopy (s : State) (k : Nat) : Bool :=
  if k = 0 then s.bit Reg.GLB_BOOTSTAT Fld.GLB_BOOTSTAT_RM_IMG
  else if k = 1 then s.bit Reg.GLB_BOOTSTAT Fld.GLB_BOOTSTAT_HV_IMG
  else (s.trip (k - 2)).copyB

/-- An image of the kind has booted, and its copy has not been written since (R70). -/
def State.hasBooted (s : State) (k : Nat) : Bool :=
  (s.image k (s.bootedCopy k)).ran &&
    (if k = 0 then s.rm.ready && s.rm.noImage.isNone else if k = 1 then true else (s.trip (k - 2)).img == 1)

/-- The trial copy of a kind that runs becomes good, and the other loses its mark (R70). -/
def State.markGood (s : State) (k : Nat) : State :=
  let b := s.bootedCopy k
  if s.hasBooted k && (s.image k b).trial then
    (s.updImage k b fun c => { c with good := true, trial := false, aged := false }).updImage k (!b) fun c => { c with good := false }
  else s

/-- An owner key that is not revoked is fused: without one no loop-triplet image verifies (R69). -/
def State.ownerKey (s : State) : Bool := s.store.owner.any fun p => !s.store.revoked.contains p.1

/-- IMAGE_WRITE (R69, R70): a new image into the copy that is not marked good, marked trial where it verifies. -/
def execImageWrite (kind : ImgKind) (ver : Nat) (fw : Word) (sigOk : Bool) (s : State) : Res :=
  let k := kindNo kind
  onlyIf (s.cdRun && (s.trip 4).runs) s fun s =>
    let b := (s.image k false).good
    let verified := sigOk && Nat.ble (s.rollback k) ver && (Nat.blt k 2 || s.ownerKey)
    s.updImage k b fun _ => { present := true, ver, fw, trial := verified }

/-- FUSE_OWNER_KEYS (R69, R83): the hash of key slot 2 or 3, once, under COMMISSION authority. -/
def execFuseOwnerKeys (slot : Fin 2) (hash : Nat) (s : State) : Res :=
  onlyIf (s.cdRun && s.commissioning && !(s.store.owner.any fun p => p.1 == 2 + slot.val)) s fun s =>
    s.updStore fun p => { p with owner := p.owner ++ [(2 + slot.val, hash)] }

/-- The anti-rollback counters shown in GLB_BOOTSTAT and GLB_BOOTSTAT_LT (R86). -/
def State.showRollback (s : State) : State :=
  let s := (s.setFld Reg.GLB_BOOTSTAT Fld.GLB_BOOTSTAT_RB_RM (s.rollback 0)).setFld Reg.GLB_BOOTSTAT Fld.GLB_BOOTSTAT_RB_HV (s.rollback 1)
  s.setNat Reg.GLB_BOOTSTAT_LT (s.rollback 2 + 256 * s.rollback 3 + 65536 * s.rollback 4 + 16777216 * s.rollback 5)

/-- ANTIROLLBACK_ADVANCE (R70): under COMMISSION, the counter of a kind advances to the version of the image that has booted. -/
def execAntirollbackAdvance (kind : ImgKind) (s : State) : Res :=
  let k := kindNo kind
  onlyIf (s.cdRun && s.commissioning && s.hasBooted k) s fun s =>
    let v := (s.image k (s.bootedCopy k)).ver
    (s.updStore fun p => { p with rollback := File.set 0 p.rollback k (max (s.rollback k) (min v 96)) }).showRollback

end Sys2Proof.Machine
end

