-- ==== Sys2Proof/Machine/States.lean ====
section
/-!
DEFINITION. Device states, the host commands, diagnostics and precharge (R64–R67, R74–R80, R86, R142–R144).
-/

namespace Sys2Proof.Machine

/-! ### Diagnostics (R74, R142, R143) -/

/-- V_LINK of a region in 0.1 V (R78). -/
def State.vLink (s : State) (g : Nat) : Nat := s.fld (preStat g) Fld.SAFE_PRE_V_LINK

/-- The link voltage that an off-state diagnosis of a slot uses: that of its region, 0 V for a slot of no cluster (R142). -/
def State.diagLink (s : State) (n : Nat) : Nat := match s.clusterOf n with
  | some k => s.vLink (s.regionOf k)
  | none => 0

/-- An off-state diagnosis of a slot begins (R142). -/
def State.startDiag (s : State) (n : Nat) : State :=
  let v := s.diagLink n
  s.updDrv n fun d => { d with diagAt := some s.now, diagV := v, diagMoved := false, diagAbort := false }

/-- The distance of two numbers. -/
def distance (a b : Nat) : Nat := (a - b) + (b - a)

/-- The link voltage has left the V_TOL of a diagnosis that runs on a slot (R143). -/
def State.diagMoves (s : State) (n v : Nat) : Bool :=
  Nat.blt (10 * s.fld (Reg.GDV_DIAG_CFG n) Fld.GDV_DIAG_CFG_V_TOL) (distance v (s.drv n).diagV)

/-- V_LINK of a region takes a new value, in 0.1 V (R78, R326); diagnoses that run in the region watch it (R143). -/
def State.setVLink (s : State) (g v : Nat) : State :=
  let s := s.setFld (preStat g) Fld.SAFE_PRE_V_LINK (min v 65535)
  s.each (s.slots.filter fun n => (s.drv n).diagAt.isSome && (s.clusterOf n).any fun k => s.regionOf k == g) fun u n =>
    u.updDrv n fun d => { d with diagMoved := d.diagMoved || u.diagMoves n (min v 65535) }

/-- A configured region's precharge is reset on entry to DIAG (R74): 0b000, or 0b101 where the region is not configured. -/
def State.resetPre (s : State) (g : Nat) : State :=
  (s.setFld (preStat g) Fld.SAFE_PRE_STATE (if s.preMode g = 0 then 5 else 0)).updRegion g fun r =>
    { r with tp := none, checked := false, overlapAt := none }

/-- The exit from SAFE releases H_ORDER (R138): on every slot but one whose cluster stopped for another cause than the package, which keeps it for its
own re-enable. -/
def State.releaseOrders (s : State) : State :=
  s.each (s.slots.filter fun n => (s.clusterOf n).all fun k =>
      !(s.cstate k == csSAFE_STOPPED || s.cstate k == csFENCED) || s.fld (Reg.CLU_STAT k) Fld.CLU_STAT_CAUSE == scPACKAGE) fun u n =>
    u.setHold n Fld.GDV_STAT_H_ORDER false

/-- DIAG is entered from CONFIG, STANDBY or SAFE (R74): every output off, precharge afresh, step 1. -/
def State.enterDiag (s : State) : State :=
  let s := if s.dev = stSAFE then s.releaseOrders else s
  let s := s.each s.rgns State.resetPre
  let s := s.each s.slots fun u n => u.updDrv n fun d => { d with marked := false, pendDiag := false, diagAt := none }
  let s := { s.enter stDIAG with diag := { step := 1, slot := 0 } }
  (s.linesOff 0xFFFFFF).outputsOff 0xFF

/-- Every slot of some cluster is marked failed (R74 step 2). -/
def State.clusterAllFailed (s : State) : Bool :=
  s.clus.any fun k => s.ctype k != 0 && !(s.slotsOf k).isEmpty && (s.slotsOf k).all fun n => (s.drv n).marked

/-- Step 3 goes on with the next assigned slot at or above `n`, or step 4 begins (R74). -/
def State.diagNext (s : State) (n : Nat) : State :=
  match s.assigned.find? fun m => Nat.ble n m with
  | some m => { s.startDiag m with diag := { step := 3, slot := m } }
  | none => { s with diag := { step := 4 } }

/-- Step 2 ends when every channel is up or has reached its time limit (R74): SAFE with cause 0x06 where every slot of a cluster
failed, otherwise step 3. -/
def State.biasFollow (s : State) : State :=
  let settled (n : Nat) : Bool :=
    (s.drv n).marked || (s.bit (Reg.GDV_STAT n) Fld.GDV_STAT_BIASOK_H && s.bit (Reg.GDV_STAT n) Fld.GDV_STAT_BIASOK_L)
  if s.dev = stDIAG && s.diag.step = 2 && Nat.ble s.variant.slots s.diag.slot && s.slots.all settled then
    if s.clusterAllFailed then s.cdSafe 0x06 else s.diagNext 0
  else s

/-- MEAS_SELF_TEST_DONE (R74 step 1, R255). -/
def execMeasSelfTestDone (ok : Bool) (s : State) : Res :=
  onlyIf (s.cdRun && s.dev == stDIAG && s.diag.step == 1) s fun s =>
    if ok then { s.setBit Reg.MEAS_STAT Fld.MEAS_STAT_OTP_OK true with diag := { step := 2, slot := 0 } }
    else (s.drawn 1 fun v s => s.setFld Reg.MEAS_STAT Fld.MEAS_STAT_OTP_OK v).cdSafe 0x05

/-- BIASOK of a side. -/
def biasOk : Side → Field
  | .high => Fld.GDV_STAT_BIASOK_H
  | .low => Fld.GDV_STAT_BIASOK_L

/-- A channel in step 2 of R74: its converter starts, or, where its rails are not in their windows, is started anew; one that is up goes on. -/
def Gate.startBias (g : Gate) (now : Nat) (up : Bool) : Gate :=
  if up && g.bias.isSome then g else { g with bias := some now, armed := false, railIn := none, suspended := false }

/-- BIAS_START (R74 step 2, R120): the bias converters of the next slot start, 1 ms after those of the slot before. -/
def execBiasStart (n : Slot) (s : State) : Res :=
  let n := n.val
  let due := match s.diag.biasAt with
    | some t => s.since t (ms 1)
    | none => true
  onlyIf (s.cdRun && s.dev == stDIAG && s.diag.step == 2 && s.diag.slot == n && Nat.blt n s.variant.slots && due) s fun s =>
    let s := (s.updGate n .high fun g => g.startBias s.now (s.bit (Reg.GDV_STAT n) (biasOk .high))).updGate n .low
      fun g => g.startBias s.now (s.bit (Reg.GDV_STAT n) (biasOk .low))
    State.biasFollow { s with diag := { step := 2, slot := n + 1, biasAt := some s.now } }

/-- BIAS_START_TIMEOUT (R120): 20 ms after its start a channel that never came up gets H_BIAS, and its slot is marked failed. -/
def execBiasStartTimeout (n : Slot) (side : Side) (s : State) : Res :=
  let n := n.val
  match (s.gate n side).bias with
  | some t =>
    onlyIf (s.cdRun && !s.bit (Reg.GDV_STAT n) (biasOk side) && !(s.gate n side).armed && !(s.gate n side).suspended && s.since t (ms 20)) s fun s =>
      (((s.setHold n Fld.GDV_STAT_H_BIAS true).phaseLostOf n).updDrv n fun d => { d with marked := true }).biasFollow
  | none => .next s

/-- The class of an off-state diagnosis (R143). Node voltages `d` and `v0` in µV, `dOpen` and `vTol` in 0.1 V, `vr` in 0.05 V. -/
def diagClass (aborted : Bool) (d dOpen vr vTol : Nat) (v0 : Int) (exP exM : Bool) : Nat :=
  if aborted then 6
  else if Nat.ble (dOpen * 100000) d then 4
  else if Nat.blt vr 400 then 5
  else if (vr * 50000 : Nat) - (vTol * 100000 : Nat) ≤ v0 ∧ exP = false then 2
  else if v0 ≤ (vTol * 100000 : Nat) ∧ exM = false then 3
  else 1

/-- A diagnosis other than NORMAL, or NORMAL, takes effect on H_DIAG (R138, R143), on the value that an override suspends (R75). -/
def State.setDiagHold (s : State) (n : Nat) (on : Bool) : State :=
  if (s.drv n).override then s.updDrv n fun d => { d with diagHeld := on }
  else s.setBit (Reg.GDV_STAT n) Fld.GDV_STAT_H_DIAG on

/-- The next pending slot of a region is diagnosed again (R143). -/
def State.nextPending (s : State) (g : Nat) : State :=
  match s.assigned.find? fun n => (s.drv n).pendDiag && (s.clusterOf n).any fun k => s.regionOf k == g with
  | some n => s.startDiag n
  | none => s

/-- OFF_STATE_DIAG_DONE (R142, R143): 2 ms after its start the diagnosis of a slot is classified. V0 and the two drifts are tap voltages in µV;
KDIV makes node voltages of them. -/
def execOffStateDiagDone (n : Slot) (v0 dPlus dMinus : Int) (s : State) : Res :=
  let n := n.val
  match (s.drv n).diagAt with
  | none => .next s
  | some t =>
    onlyIf (s.cdRun && s.since t (ms 2)) s fun s =>
      let cfg := s.reg (Reg.GDV_DIAG_CFG n)
      let kdiv := s.fld (Reg.GDV_SNS_DIV n) Fld.GDV_SNS_DIV_KDIV
      let d := max dPlus.natAbs dMinus.natAbs * kdiv
      let v0 := v0 * kdiv
      let link := s.diagLink n
      let vr := if Fld.GDV_DIAG_CFG_RAIL.on cfg then link else 2 * link
      let aborted := (s.drv n).diagAbort || (s.drv n).diagMoved || s.diagMoves n link
      let cls := diagClass aborted d (Fld.GDV_DIAG_CFG_D_OPEN.get cfg) vr (10 * Fld.GDV_DIAG_CFG_V_TOL.get cfg) v0
        (Fld.GDV_DIAG_CFG_EXEMPT_DCP.on cfg) (Fld.GDV_DIAG_CFG_EXEMPT_DCM.on cfg)
      let s := s.setFld (Reg.GDV_DIAG_RES n) Fld.GDV_DIAG_RES_V0 (min (v0 / 1000000).toNat 4095)
      let s := (s.setFld (Reg.GDV_DIAG_RES n) Fld.GDV_DIAG_RES_D (min (d / 100000) 4095)).setFld (Reg.GDV_DIAG_RES n) Fld.GDV_DIAG_RES_CLASS cls
      let s := s.updDrv n fun x =>
        { x with diagAt := none, diagAbort := false, normalSince := x.normalSince || cls == 1, normalMoc := x.normalMoc || cls == 1 }
      let s := s.setDiagHold n (cls != 1)
      let s := if s.bit (Reg.GDV_STAT n) Fld.GDV_STAT_H_DIAG then s.phaseLostOf n else s
      let s := if cls = 1 then s else (s.raise (.gdv n) 12).record (Reg.GDV_DIAG_RES n) cls [n]
      if s.dev = stDIAG && s.diag.step = 3 && s.diag.slot = n then
        let s := s.updDrv n fun x => { x with marked := x.marked || (cls != 1 && cls != 5), pendDiag := cls == 5 }
        s.diagNext (n + 1)
      else
        let s := if cls = 1 then s else s.updDrv n fun x => { x with marked := true }
        if (s.drv n).pendDiag then
          let s := s.updDrv n fun x => { x with pendDiag := false }
          match s.clusterOf n with
          | some k => s.nextPending (s.regionOf k)
          | none => s
        else s

/-- SAFETY_IO_TEST_DONE (R74 step 4, R334): the faults of tested outputs clear and step 5 begins, or SAFE with cause 0x07. -/
def execSafetyIoTestDone (ok : Bool) (s : State) : Res :=
  onlyIf (s.cdRun && s.rmRun && s.dev == stDIAG && s.diag.step == 4) s fun s =>
    if ok then
      let s := s.setFld Reg.SAFE_SO Fld.SAFE_SO_FAULT 0
      let s := { s with diag := { step := 5 } }
      s.each (s.rgns.filter fun g => s.preMode g == 2) fun u g =>
        (u.setFld (preStat g) Fld.SAFE_PRE_STATE 1).updRegion g fun r => { r with tp := some u.now }
    else s.packageSafe 0x07 0

/-! ### Precharge (R76–R78) -/

/-- A precharge parameter word of a region, `w` = 24–27 (R343). -/
def State.prePar (s : State) (w g : Nat) : Nat := (s.reg (Reg.SAFE_PAR (w + 4 * g))).toNat

/-- Ringmaster runs precharge in step 5 of DIAG. -/
def State.preRuns (s : State) : Bool := s.cdRun && s.rmRun && s.dev == stDIAG && s.diag.step == 5

/-- Precharge fails: both outputs off, STATE 0b100, SAFE with the failure's cause (R77). -/
def State.prechargeFail (s : State) (g cause : Nat) : State := (s.preFail g cause).packageSafe cause 0

/-- The voltage has fallen more than 5 % below PRE_V_DONE (R77 step 6). -/
def State.preDrop (s : State) (g v : Nat) : Bool := Nat.blt (v * 100) (s.preVDone g * 95)

/-- A region's precharge is done: its pending slots are diagnosed again (R143). -/
def State.preFinish (s : State) (g : Nat) : State :=
  let s := (s.setFld (preStat g) Fld.SAFE_PRE_STATE 3).setFld (preStat g) Fld.SAFE_PRE_FAIL 0
  (s.updRegion g fun r => { r with tp := none, overlapAt := none }).rmEvaluate.nextPending g

/-- PRECHARGE_START (R77 step 1): PRE_SO is energised at tp. -/
def execPrechargeStart (g : Rgn) (s : State) : Res :=
  let g := g.val
  onlyIf (s.preRuns && Nat.blt g s.variant.regions && s.preMode g == 1 && s.preState g == 0) s fun s =>
    ((s.setFld (preStat g) Fld.SAFE_PRE_STATE 1).updRegion g fun r => { r with tp := some s.now, checked := false }).rmEvaluate

/-- PRECHARGE_READING (R77): the 1 ms reading, in 0.1 V. -/
def execPrechargeReading (g : Rgn) (v : Nat) (s : State) : Res :=
  let g := g.val
  onlyIf (s.preRuns && Nat.blt g s.variant.regions) s fun s =>
    let s := s.setVLink g v
    match (s.region g).tp with
    | none => s
    | some tp =>
      if s.preState g = 1 then
        if Nat.blt v (s.preVDone g) then s
        else if s.preMode g = 2 then s.preFinish g
        else if !s.since tp (ms (s.prePar 26 g % 65536)) then s.prechargeFail g 0x09
        else ((s.setFld (preStat g) Fld.SAFE_PRE_STATE 2).updRegion g fun r => { r with overlapAt := some s.now }).rmEvaluate
      else if s.preState g = 2 && s.preDrop g v then s.prechargeFail g 0x0B
      else s

/-- PRECHARGE_T_CHECK (R77 step 2). -/
def execPrechargeTCheck (g : Rgn) (s : State) : Res :=
  let g := g.val
  match (s.region g).tp with
  | none => .next s
  | some tp =>
    onlyIf (s.preRuns && s.preMode g == 1 && s.preState g == 1 && !(s.region g).checked && s.since tp (ms (s.prePar 26 g / 65536))) s fun s =>
      if Nat.blt (s.vLink g) (10 * (s.prePar 25 g / 65536 % 2048)) then s.prechargeFail g 0x08
      else s.updRegion g fun r => { r with checked := true }

/-- PRECHARGE_T_MAX (R77 step 4). -/
def execPrechargeTMax (g : Rgn) (s : State) : Res :=
  let g := g.val
  match (s.region g).tp with
  | none => .next s
  | some tp =>
    onlyIf (s.preRuns && s.preState g == 1 && s.since tp (ms (s.prePar 27 g % 65536))) s fun s => s.prechargeFail g 0x0A

/-- PRECHARGE_OVERLAP_END (R77 step 6): PRE_SO is de-energised and the region is done, or the voltage has dropped. -/
def execPrechargeOverlapEnd (g : Rgn) (s : State) : Res :=
  let g := g.val
  match (s.region g).overlapAt with
  | none => .next s
  | some t =>
    onlyIf (s.preRuns && s.preState g == 2 && s.since t (ms (s.prePar 25 g % 512))) s fun s =>
      if s.preDrop g (s.vLink g) then s.prechargeFail g 0x0B else s.preFinish g

/-- DIAG_COMPLETE (R65, R74): every configured region precharged and its pending slots diagnosed; the device enters STANDBY, and trial
copies of Huavos and of the loop-triplet images that run are marked good (R70). -/
def execDiagComplete (s : State) : Res :=
  onlyIf (s.preRuns && s.preDone && s.assigned.all fun n => !(s.drv n).pendDiag) s fun s =>
    let s := { s.enter stSTANDBY with diag := {} }
    (s.each [1, 2, 3, 4, 5] State.markGood).rmEvaluate

/-! ### Host commands (R65, R66, R79, R85, R86) -/

/-- The result of a state command: echo, SEQ and RESULT (R86). -/
def State.cmdResult (s : State) (cmd res : Nat) : State :=
  let seq := (s.fld Reg.GLB_DEVRESULT Fld.GLB_DEVRESULT_SEQ + 1) % 256
  s.setNat Reg.GLB_DEVRESULT (cmd * 65536 + seq * 256 + res)

/-- No pair of safety inputs demands (R79). -/
def State.noInputDemand (s : State) : Bool := (s.reg Reg.SAFE_SIPAIR).toNat == 0

/-- Carrier alignment has completed its single step where the module is in a system of two or more (R79). -/
def State.alignedForArm (s : State) : Bool :=
  !s.bit Reg.CLU_SYS_CFG Fld.CLU_SYS_CFG_SYS_EN || Nat.blt (popcount 16 (s.reg Reg.CLU_SYS_MEMBERS).toNat) 2 ||
    s.bit Reg.EDG_ALIGN_STAT Fld.EDG_ALIGN_STAT_LEADER || s.sys.stepped

/-- The conditions of ARM (R79). -/
def State.armOk (s : State) : Bool :=
  s.dev == stSTANDBY && s.preDone && s.noInputDemand && (!s.anySplit || s.endbg) && s.alignedForArm

/-- The network watchdog starts at the first ARM (R328). -/
def State.startNetWd (s : State) : State :=
  if (s.reg (Reg.SAFE_PAR 18)).toNat / 2 ^ 31 == 1 && !s.bit Reg.SAFE_NET Fld.SAFE_NET_RUNNING then
    (s.setBit Reg.SAFE_NET Fld.SAFE_NET_RUNNING true).updRm fun r => { r with netAt := s.now }
  else s

/-- ARMED is entered (R79): Ringmaster releases the lines as R324 allows. -/
def State.armNow (s : State) : State := ((s.enter stARMED).startNetWd).rmEvaluate

/-- A pair scans in low-power mode (R248). -/
def State.lowPower (s : State) : Bool := !s.meas.lowScan.isEmpty

/-- A command waits until every pair has completed a full-rate scan (R248): a transition of the device, its result pending. -/
def State.awaitFullRate (s : State) (cmd : Nat) : State :=
  let s := s.updMeas fun m => { m with fullDue := [0, 1, 2, 3] }
  let s := (s.setBit Reg.GLB_DEVSTATE Fld.GLB_DEVSTATE_TRANS true).cmdResult cmd rcPENDING
  { s with cmdWait := some (cmd, s.fld Reg.GLB_DEVRESULT Fld.GLB_DEVRESULT_SEQ) }

/-- ARM (R79): the device enters ARMED, in low-power mode after a full-rate scan of every pair (R248). -/
def State.doArm (s : State) : State :=
  if !s.armOk then s.cmdResult 1 rcCOND
  else if s.lowPower then s.awaitFullRate 1
  else s.armNow.cmdResult 1 rcDONE

/-- DISARM (R65). -/
def State.doDisarm (s : State) : State :=
  if s.dev = stARMED then ((s.enter stSTANDBY).rmEvaluate).cmdResult 2 rcDONE else s.cmdResult 2 rcSTATE

/-- DIAG (R65, R144). -/
def State.doDiag (s : State) : State :=
  if s.dev != stSTANDBY then s.cmdResult 3 rcSTATE
  else if s.lowPower then s.awaitFullRate 3
  else s.enterDiag.cmdResult 3 rcDONE

/-- Every pair has completed a full-rate scan, and the waiting command is carried out (R248). -/
def State.fullRateDone (s : State) : State :=
  match s.cmdWait with
  | some (c, _) =>
    if s.dev = stSTANDBY then
      let s := (s.setBit Reg.GLB_DEVSTATE Fld.GLB_DEVSTATE_TRANS false).endCmd rcDONE
      if c = 1 then s.armNow else s.enterDiag
    else s
  | none => s

/-- RELOAD (R86): precharge and main outputs off, CONFIG. DESIGN CHOICE (log 82): the delivered safety parameter set goes out of force, as at
BOOT, until the next delivery; unsafe, as R338 and R451 are silent on RELOAD. -/
def State.doReload (s : State) : State :=
  if s.dev = stSTANDBY then
    let s := s.each s.rgns State.resetPre
    let s := s.updRm fun r => { r with armed := false, delivered := false, image := 0 }
    (((s.enter stCONFIG).linesOff 0xFFFFFF).outputsOff 0xFF).cmdResult 4 rcDONE
  else s.cmdResult 4 rcSTATE

/-- SAFE (R66): at once in every state but LOCKOUT. -/
def State.doSafe (s : State) : State := if s.dev = stLOCKOUT then s.cmdResult 5 rcSTATE else (s.cdSafe 0x0C).cmdResult 5 rcDONE

/-- No configuration transaction is open (R85). -/
def State.noTxn (s : State) : Bool := (List.range 4).all fun t => s.txState t == 0

/-- SET_LOCK (R85). -/
def State.doSetLock (s : State) : State :=
  if s.dev = stSTANDBY && s.noTxn && s.store.conf.isSome && s.bit Reg.SAFE_STAT Fld.SAFE_STAT_CHK_OK then
    let cnt := min (s.store.lockCnt + 1) 255
    let s := s.updStore fun p => { p with locked := true, ever := true, lockCnt := cnt }
    (s.setNat Reg.GLB_COMLOCK (cnt * 256 + 3)).endSession.cmdResult 6 rcDONE
  else s.cmdResult 6 rcCOND

/-- A state command, but SAFE, that arrives in a transition is refused with BUSY (R66). -/
def State.devCmd (s : State) (cmd : Nat) : State :=
  if cmd = 0 || Nat.blt 6 cmd then s.cmdResult cmd rcUNKNOWN
  else if cmd != 5 && s.bit Reg.GLB_DEVSTATE Fld.GLB_DEVSTATE_TRANS then s.cmdResult cmd rcBUSY
  else match cmd with
    | 1 => s.doArm
    | 2 => s.doDisarm
    | 3 => s.doDiag
    | 4 => s.doReload
    | 5 => s.doSafe
    | _ => s.doSetLock

/-- ARM. -/
def execArm (s : State) : Res := onlyIf s.cdRun s fun s => s.devCmd 1
/-- DISARM. -/
def execDisarm (s : State) : Res := onlyIf s.cdRun s fun s => s.devCmd 2
/-- DIAG. -/
def execDiag (s : State) : Res := onlyIf s.cdRun s fun s => s.devCmd 3
/-- RELOAD. -/
def execReload (s : State) : Res := onlyIf s.cdRun s fun s => s.devCmd 4
/-- SAFE. -/
def execSafe (s : State) : Res := onlyIf s.cdRun s fun s => s.devCmd 5
/-- SET_LOCK. -/
def execSetLock (s : State) : Res := onlyIf s.cdRun s fun s => s.devCmd 6

/-- A derate cause of a cluster is active now (R67): a thermal action, or fewer healthy phases than slots. -/
def Cluster.derating (c : Cluster) : Bool := c.derThermal || c.derPhase

/-- A second has passed since a time, or there is no such time. -/
def State.secondAfter (s : State) (t : Option Nat) : Bool := t.all fun x => s.since x (secs 1)

/-- DERATE_EXPIRY (R67): no cause has been active for 1 s, and DERATE clears; or no scaling cause has, and the scaling by DRT ends where too few
healthy phases alone keep DERATE (R190). -/
def execDerateExpiry (k : Clu) (s : State) : Res :=
  let k := k.val
  let c := s.cluster k
  let unscale := c.derScale && !c.derThermal && s.secondAfter c.scaleAt
  let clear := s.bit (Reg.CLU_STAT k) Fld.CLU_STAT_DERATE && !c.derating && s.secondAfter c.derAt
  onlyIf (s.cdRun && (clear || unscale)) s fun s =>
    let s := s.updCluster k fun c => { c with derScale := c.derScale && !unscale, derAt := if clear then none else c.derAt }
    let s := if clear then ((s.setBit (Reg.CLU_STAT k) Fld.CLU_STAT_DERATE false).record (Reg.CLU_STAT k) 8 [k, 0]).devDerate else s
    s.showIlim k

/-- EDG_ALIGN_STAT.STATE is entered, which EDG_n_STAT.ALIGNED of every slot follows (R113, R117). -/
def State.setAlign (s : State) (v : Nat) : State :=
  let s := (s.setFld Reg.EDG_ALIGN_STAT Fld.EDG_ALIGN_STAT_STATE v).updSys fun y => { y with alignAt := s.now, limAt := none }
  s.each s.slots fun u n => u.setBit (Reg.EDG_STAT n) Fld.EDG_STAT_ALIGNED (v == 2)

end Sys2Proof.Machine
end

