-- ==== Sys2Proof/Machine/EdgeEngine.lean ====
section
/-!
DEFINITION. The edge engines (R87–R111): carriers, load boundaries, the pattern and its edges, interlocks, starting and stopping, aligned
estimates, the inner loop and the fast current limit. Times are TB values in fine steps.
-/

namespace Sys2Proof.Machine

/-! ### Instants of the carrier (R88–R90, R103) -/

/-- The last instant `org + j × t` at or before `x`. -/
def gridBefore (org t x : Nat) : Nat := if t = 0 then x else x - (x + t - org % t) % t
/-- The first instant `org + j × t` at or after `x`. -/
def gridAfter (org t x : Nat) : Nat := if t = 0 then x else x + (t - (x + t - org % t) % t) % t

/-- ANCHOR + PHASE of a slot (R89). -/
def State.origin (s : State) (n : Nat) : Nat :=
  (match s.clusterOf n with
   | some k => s.anchor k * 16
   | none => 0) + (s.reg (Reg.EDG_PHASE n)).toNat

/-- The length of the present period of a switching slot (R90); its carrier runs from the moment a start is ordered. -/
def State.perLen (s : State) (n : Nat) : Nat := ((tswOf (s.carrier n) : Int) + (s.edge n).perDelta).toNat

/-- The last carrier zero of a slot at or before `x`. -/
def State.zeroAt (s : State) (n x : Nat) : Nat :=
  let t := tswOf (s.carrier n)
  let e := s.edge n
  if s.switching n then
    if Nat.blt x (e.perStart + s.perLen n) then e.perStart else gridBefore (e.perStart + s.perLen n) t x
  else gridBefore (s.origin n) t x

/-- The carrier zero before the one at `z`. -/
def State.zeroBefore (s : State) (n z : Nat) : Nat :=
  let e := s.edge n
  if s.switching n && z = e.perStart then e.prevStart
  else if s.switching n && z = e.perStart + s.perLen n then e.perStart
  else z - tswOf (s.carrier n)

/-- The distance from a carrier zero to its midpoint in a period of length `len`: the peak, or p = Pt/2 (R103). -/
def State.midOf (s : State) (n len : Nat) : Nat :=
  let w := s.carrier n
  if isTriangle w then ptOf w else roundFine len 2

/-- The last acting point of a slot at or before `x` (R103). -/
def State.actingAt (s : State) (n x : Nat) : Nat :=
  let z := s.zeroAt n x
  let y := s.zeroBefore n z
  let len := if s.switching n && z = (s.edge n).perStart then s.perLen n else tswOf (s.carrier n)
  let mid := if Nat.ble (z + s.midOf n len) x then z + s.midOf n len else y + s.midOf n (z - y)
  let off := s.fld (Reg.EDG_ACTPT n) Fld.EDG_ACTPT_OFFSET
  match s.fld (Reg.EDG_ACTPT n) Fld.EDG_ACTPT_SEL with
  | 0 => z
  | 1 => mid
  | 2 => max z mid
  | _ => if Nat.ble (z + off) x then z + off else y + off

/-- Where a start or stop falls (R101): the first carrier zero, or peak of a triangle carrier, at or after `x`. -/
def State.carrierPoint (s : State) (n x : Nat) : Nat :=
  let w := s.carrier n
  let e := s.edge n
  let off := if isTriangle w then ptOf w else 0
  if !s.switching n then gridAfter (s.origin n + off) (tswOf w) x
  else if Nat.ble x (e.prevStart + off) then e.prevStart + off
  else if Nat.ble x (e.perStart + off) then e.perStart + off
  else gridAfter (e.perStart + s.perLen n + off) (tswOf w) (max x (e.perStart + s.perLen n + off))

/-- The first load boundary of a switching slot after `x`, as CTRL.LOAD has them (R92). -/
def State.loadAfter (s : State) (n x : Nat) : Nat :=
  let ld := s.fld (Reg.EDG_CTRL n) Fld.EDG_CTRL_LOAD
  let w := s.carrier n
  let e := s.edge n
  let next := e.perStart + s.perLen n
  let at_ (z : Nat) : List Nat := (if ld != 1 then [z] else []) ++ (if isTriangle w && ld != 0 then [z + ptOf w] else [])
  ((([e.prevStart, e.perStart, next, next + tswOf w].flatMap at_).find? fun b => Nat.blt x b)).getD (next + tswOf w)

/-! ### The active set (R91–R93) -/

/-- A compare value clamped to the limits of EDG_n_DUTYLIM (R91). -/
def State.clampCmp (s : State) (n pt c : Nat) : Nat :=
  clampN (roundFine (s.fld (Reg.EDG_DUTYLIM n) Fld.EDG_DUTYLIM_DMIN * pt) 65536)
    (roundFine (s.fld (Reg.EDG_DUTYLIM n) Fld.EDG_DUTYLIM_DMAX * pt) 65536) c

/-- The valid entries of a programmed-edge set: time and state (R93). -/
def peEntries (l : List Nat) : List (Nat × Nat) :=
  (l.filter fun w => bitOf w 29).map fun w => (w % 2 ^ 24, w / 2 ^ 30 % 4)

/-- A programmed-edge set is loadable: strictly rising times below Tsw, no reserved state (R93). -/
def peOk (t : Nat) (l : List (Nat × Nat)) : Bool :=
  l.all (fun p => Nat.blt p.1 t && p.2 != 3) && (l.zip (l.drop 1)).all fun p => Nat.blt p.1.1 p.2.1

/-- The channel called for at an offset, in a list of offsets and channels. -/
def stateAt (l : List (Nat × Nat)) (x : Nat) : Nat := (((l.filter fun p => Nat.ble p.1 x).getLast?).map (·.2)).getD 0

/-- The programmed pattern of the present period: the state that holds, and the entries from the load of the set on (R93). -/
def Edge.peSegments (e : Edge) : List (Nat × Nat) :=
  (0, e.peHold) :: (peEntries e.pe).filter fun p => Nat.ble (e.peSince - e.perStart) p.1

/-- The programmed state just before an offset. -/
def Edge.peBefore (e : Edge) (x : Nat) : Nat := if x = 0 then e.peHold else stateAt e.peSegments (x - 1)

/-- A shadow set copied to the active set at time `b` (R91–R93). DESIGN CHOICE (log 84): with ASYM = 1 the set has two compare values, and
EDG_n_DUTY shows the duty of CMPA; unsafe for a claim on that register with ASYM set. -/
def State.loadSet (s : State) (n : Nat) (set : List Nat) (b : Nat) : State :=
  let w := s.carrier n
  let pt := ptOf w
  match s.fld (Reg.EDG_CTRL n) Fld.EDG_CTRL_MODE with
  | 0 =>
    let a := set.getD 0 0
    let b := set.getD 1 0
    let two := isTriangle w && s.bit (Reg.EDG_CTRL n) Fld.EDG_CTRL_ASYM
    let a' := s.clampCmp n pt a
    let b' := if two then s.clampCmp n pt b else b
    let s := (s.raiseIf (a' != a) (.edg n) 5).raiseIf (two && b' != b) (.edg n) 5
    (s.updEdge n fun e => { e with cmpA := a', cmpB := b' }).setNat (Reg.EDG_DUTY n) (min (roundFine (a' * 65536) (max pt 1)) 65535)
  | 1 =>
    if peOk (tswOf w) (peEntries set) then s.updEdge n fun e => { e with pe := set, peHold := e.peBefore (b - e.perStart), peSince := b }
    else s.raise (.edg n) 13
  | _ => s

/-- The latest shadow set that was ready `margin` ticks before `b` is loaded; earlier ones are gone (R92). -/
def State.loadReady (s : State) (n b margin : Nat) : State :=
  let e := s.edge n
  let old := e.shadow.filter fun p => Nat.ble ((p.1 + margin) * 16) b
  match old.getLast? with
  | none => s
  | some p => (s.updEdge n fun e => { e with shadow := e.shadow.filter fun p => !Nat.ble ((p.1 + margin) * 16) b }).loadSet n p.2 b

/-- The shadow registers of the present mode. -/
def State.shadowWords (s : State) (n : Nat) : List Nat :=
  if s.fld (Reg.EDG_CTRL n) Fld.EDG_CTRL_MODE = 1 then (List.range 8).map fun i => (s.reg (Reg.EDG_PE n i)).toNat
  else [(s.reg (Reg.EDG_CMPA n)).toNat, (s.reg (Reg.EDG_CMPB n)).toNat]

/-- A write of a shadow register: the marking write makes the set ready; another changes a set that is ready already (R92). -/
def State.shadowWrite (s : State) (n : Nat) (marks : Bool) : State :=
  if marks || !(s.edge n).shadow.isEmpty then
    let w := s.shadowWords n
    s.updEdge n fun e => { e with shadow := e.shadow ++ [(s.tb, w)] }
  else s

/-! ### The pattern (R91, R93, R94, R156) -/

/-- The changes of the pattern in a period: offsets from carrier zero and the channel called for from there (0 none, 1 low, 2 high). -/
def State.changes (s : State) (n : Nat) : List (Nat × Nat) :=
  let w := s.carrier n
  let e := s.edge n
  let pt := ptOf w
  let len := s.perLen n
  let ctrl := s.reg (Reg.EDG_CTRL n)
  match Fld.EDG_CTRL_MODE.get ctrl with
  | 0 =>
    let h := if Fld.EDG_CTRL_INV.on ctrl then 1 else 2
    let l := 3 - h
    let a := min e.cmpA pt
    match Fld.EDG_CARRIER_SHAPE.get w with
    | 0 => (0, if Nat.blt 0 a then h else l) :: (if Nat.blt 0 a && Nat.blt a pt then [(roundFine (a * len) pt, l)] else [])
    | 1 => (0, if Nat.ble pt a then h else l) :: (if Nat.blt 0 a && Nat.blt a pt then [(roundFine ((pt - a) * len) pt, h)] else [])
    | _ =>
      let b := if Fld.EDG_CTRL_ASYM.on ctrl then min e.cmpB pt else a
      (0, if Nat.blt 0 a then h else l) :: (if Nat.blt 0 a && Nat.blt a pt then [(a, l)] else [])
        ++ (pt, if Nat.ble pt b then h else l) :: (if Nat.blt 0 b && Nat.blt b pt then [(pt + roundFine ((pt - b) * (len - pt)) pt, h)] else [])
  | 1 => peEntries e.pe
  | _ => [(0, 2), (roundFine (s.fld (Reg.EDG_DUTYLIM n) Fld.EDG_DUTYLIM_DMAX * tswOf w) 65536, 1)]

/-- The pattern of the present period: what holds from its carrier zero, and the changes. -/
def State.segments (s : State) (n : Nat) : List (Nat × Nat) :=
  match s.fld (Reg.EDG_CTRL n) Fld.EDG_CTRL_MODE with
  | 1 => (s.edge n).peSegments
  | 2 => if (s.edge n).pcmDone then [(0, 1)] else s.changes n
  | _ => s.changes n

/-- The offset at which the pattern next leaves the channel it calls for at `x` (R96): by the active set up to the next load boundary, by the
set that will be loaded there, if one is ready in time (R92), from there on. -/
def State.nextChange (s : State) (n x : Nat) : Nat :=
  let len := s.perLen n
  let z := (s.edge n).perStart
  let b := s.loadAfter n (z + x) - z
  let s' := match ((s.edge n).shadow.filter fun p => Nat.ble ((p.1 + 16) * 16) (z + b)).getLast? with
    | some p => s.loadSet n p.2 0
    | none => s
  let two (l m : List (Nat × Nat)) : List (Nat × Nat) := l ++ m.map fun p => (len + p.1, p.2)
  let now := stateAt (s.segments n) x
  let old := (two (s.segments n) (s.changes n)).filter fun p => Nat.blt p.1 b
  let new := (two (s'.changes n) (s'.changes n)).filter fun p => Nat.ble b p.1
  let at_ := if s.fld (Reg.EDG_CTRL n) Fld.EDG_CTRL_MODE = 0 then [(b, stateAt (two (s'.changes n) (s'.changes n)) b)] else []
  match (old ++ at_ ++ new).find? fun p => Nat.blt x p.1 && p.2 != now with
  | some p => p.1
  | none => 2 * len

/-- The offset of a time in the present period. -/
def State.offsetOf (s : State) (n t : Nat) : Nat := (t - (s.edge n).perStart) % max (s.perLen n) 1

/-- The channel that the pattern calls for at time `t`; the low side of a DLC slot is masked (R198). -/
def State.patternAt (s : State) (n t : Nat) : Nat :=
  let p := match (s.edge n).held with
    | some (v, u) => if u = 0 || Nat.blt t u then v else stateAt (s.segments n) (s.offsetOf n t)
    | none => stateAt (s.segments n) (s.offsetOf n t)
  if p = 1 && (s.clusterOf n).any fun k => s.ctype k == tyDLC then 0 else p

/-! ### Edge commands (R87, R95–R99) -/

/-- A channel as the number used in patterns. -/
def sideNo : Side → Nat
  | .high => 2
  | .low => 1
/-- The other channel. -/
def otherSide : Side → Side
  | .high => .low
  | .low => .high
/-- The channel of a pattern number other than 0. -/
def sideOf (v : Nat) : Side := if v = 2 then .high else .low
/-- A high side. -/
def isHigh : Side → Bool
  | .high => true
  | .low => false
/-- EDG_n_STAT.HS_ON or LS_ON. -/
def onField : Side → Field
  | .high => Fld.EDG_STAT_HS_ON
  | .low => Fld.EDG_STAT_LS_ON
/-- The dead time before a channel's turn-on (R95). -/
def State.deadTime (s : State) (n : Nat) (d : Side) : Nat :=
  match d with
  | .high => s.fld (Reg.EDG_DEADTIME n) Fld.EDG_DEADTIME_DT_LH
  | .low => s.fld (Reg.EDG_DEADTIME n) Fld.EDG_DEADTIME_DT_HL
/-- Last turn-on command of a channel. -/
def Edge.tOn (e : Edge) : Side → Nat
  | .high => e.tOnH
  | .low => e.tOnL
/-- Last turn-off command of a channel. -/
def Edge.tOff (e : Edge) : Side → Nat
  | .high => e.tOffH
  | .low => e.tOffL
/-- A channel is commanded on. -/
def State.cmdOn (s : State) (n : Nat) (d : Side) : Bool := s.bit (Reg.EDG_STAT n) (onField d)
/-- MINP in fine steps. -/
def State.minPulse (s : State) (n : Nat) : Nat := s.fld (Reg.EDG_MINPULSE n) Fld.EDG_MINPULSE_MINP

/-- A refused turn-on is counted (R97–R99): flag, total, and the sliding window, which escalates beyond LIMIT. -/
def State.refuseEdge (s : State) (n flag : Nat) : State :=
  let s := (s.raise (.edg n) flag).incSat (Reg.EDG_ILK_TOT n)
  let cfg := s.reg (Reg.EDG_ILK_CFG n)
  let w := ((s.edge n).ilk.filter fun t => Nat.blt s.now (t + ms (Fld.EDG_ILK_CFG_WINDOW.get cfg))) ++ [s.now]
  if Nat.blt (Fld.EDG_ILK_CFG_LIMIT.get cfg) w.length then
    ((s.updEdge n fun e => { e with ilk := [] }).raise (.edg n) 2).safeStopOf n scILK
  else s.updEdge n fun e => { e with ilk := w }

/-- A turn-off command at `t`, moved to MINP after the turn-on where the on-interval would be shorter; with MODE DROP a pulse whose turn-on has
not left yet is not issued (R96). -/
def State.turnOff (s : State) (n : Nat) (d : Side) (t : Nat) : State :=
  if !s.cmdOn n d then s
  else
    let e := s.edge n
    let s := s.setBit (Reg.EDG_STAT n) (onField d) false
    let extend := s.bit (Reg.EDG_MINPULSE n) Fld.EDG_MINPULSE_MODE && Nat.blt 0 (s.minPulse n)
    if Nat.ble t (e.tOn d) && !extend && e.cmds.any (fun c => c.high == isHigh d && c.on) then
      (s.updEdge n fun e => { e with cmds := e.cmds.filter fun c => !(c.high == isHigh d && c.on && Nat.ble t c.time) }).raiseIf
        (Nat.blt 0 (s.minPulse n)) (.edg n) 3
    else
      let short := Nat.blt t (e.tOn d + s.minPulse n)
      let t' := if short then e.tOn d + s.minPulse n else t
      (s.updEdge n fun e =>
        let e := { e with cmds := e.cmds ++ [EdgeCmd.mk (isHigh d) false t'] }
        match d with
        | .high => { e with tOffH := t' }
        | .low => { e with tOffL := t' }).raiseIf short (.edg n) 4

/-- A turn-on command at `t`, delayed by dead time unless the entry is taken as written, and checked under R97; not executed while a hold
is set (R138). -/
def State.turnOn (s : State) (n : Nat) (d : Side) (t : Nat) (raw : Bool) : State :=
  let e := s.edge n
  let o := otherSide d
  let free := if e.tOff o = 0 then 0 else e.tOff o + s.deadTime n d
  let t' := if raw then t else max t free
  if s.cmdOn n d || s.holdBits n != 0 then s
  else if s.cmdOn n o || Nat.blt t' free then s.refuseEdge n 0
  else
    let s := s.updEdge n fun e =>
      let e := { e with cmds := e.cmds ++ [EdgeCmd.mk (isHigh d) true t'] }
      match d with
      | .high => { e with tOnH := t' }
      | .low => { e with tOnL := t' }
    s.setBit (Reg.EDG_STAT n) (onField d) true

/-- The engine calls for channel `v` from time `t` (R91, R95, R96). -/
def State.callFor (s : State) (n v t : Nat) : State :=
  let old := (s.edge n).called
  if v = old then s
  else
    let raw := s.fld (Reg.EDG_CTRL n) Fld.EDG_CTRL_MODE == 1 && s.bit (Reg.EDG_CTRL n) Fld.EDG_CTRL_PE_RAW
    let s := s.updEdge n fun e => { e with called := v }
    let s := if old = 0 then s else s.turnOff n (sideOf old) t
    if v = 0 then s else s.turnOn n (sideOf v) t raw

/-- A pulse of channel `v` whose turn-on command falls at `start`, called for from `t` on, is dropped: with MODE DROP its on-interval is
shorter than MINP (R96). -/
def State.drops (s : State) (n start t : Nat) : Bool :=
  let x := s.offsetOf n t
  !s.bit (Reg.EDG_MINPULSE n) Fld.EDG_MINPULSE_MODE && Nat.blt (t + (s.nextChange n x - x)) (start + s.minPulse n)

/-- The slot is one of a DLC cluster, whose low side is masked (R198). -/
def State.lowMasked (s : State) (n : Nat) : Bool := (s.clusterOf n).any fun k => s.ctype k == tyDLC

/-- The pattern passes to channel `v` at time `t`: a channel that the fast limit bars is called for again once the pattern passes to it from the
other channel (R110), a pulse shorter than MINP is dropped (R96), or the edge is made. -/
def State.patternChange (s : State) (n v t : Nat) : State :=
  let e := s.edge n
  let raw := s.fld (Reg.EDG_CTRL n) Fld.EDG_CTRL_MODE == 1 && s.bit (Reg.EDG_CTRL n) Fld.EDG_CTRL_PE_RAW
  if v = e.pat then s
  else
    let passes := e.pat = 3 - v || (e.pat = 0 && s.lowMasked n)
    let s := s.updEdge n fun e => { e with pat := v, limBar := if v = e.limBar && passes then 0 else e.limBar }
    if e.limBoth || (v != 0 && v = (s.edge n).limBar) then s
    else
      let off := e.tOff (otherSide (sideOf v))
      let start := if raw then t
        else if e.called != 0 then t + s.deadTime n (sideOf v)
        else max t (if off = 0 then 0 else off + s.deadTime n (sideOf v))
      if v != 0 && v != e.called && e.held.isNone && s.drops n start t then s.raise (.edg n) 3
      else s.callFor n v t

/-- The end of a peak-current pulse that no sample has ended: DMAX × Tsw after its carrier zero (R94). -/
def State.pcmEnd (s : State) (n : Nat) : Nat :=
  (s.edge n).perStart + roundFine (s.fld (Reg.EDG_DUTYLIM n) Fld.EDG_DUTYLIM_DMAX * tswOf (s.carrier n)) 65536

/-- A peak-current pulse of a slot runs (R94). -/
def State.pcmRuns (s : State) (n : Nat) : Bool :=
  s.sstate n == 2 && s.fld (Reg.EDG_CTRL n) Fld.EDG_CTRL_MODE == 2 && !(s.edge n).pcmDone && (s.edge n).pat == 2

/-- A peak-current pulse ends at DMAX (R94 step 5). -/
def State.pcmMax (s : State) (n : Nat) : State :=
  ((s.updEdge n fun e => { e with pcmDone := true }).patternChange n 1 (s.pcmEnd n)).raise (.edg n) 15

/-- COMPARE_EDGE (R91, R94–R97): the pattern is evaluated at TB time `t`, in fine steps, which has come. -/
def execCompareEdge (n : Slot) (t : Nat) (s : State) : Res :=
  let n := n.val
  onlyIf (s.cdRun && s.sstate n == 2 && Nat.ble (s.edge n).perStart t && Nat.ble t (s.tbFine + 15)) s fun s =>
    if s.pcmRuns n && Nat.ble (s.pcmEnd n) t then s.pcmMax n else s.patternChange n (s.patternAt n t) t

/-! ### Load boundaries (R90, R92, R108, R156, R157) -/

/-- The length change of a new period toward ANCHOR + PHASE: at most Tsw/16, in the shorter direction, a tie by lengthening (R90). -/
def State.slew (s : State) (n start : Nat) : Int :=
  let t := tswOf (s.carrier n)
  let d := (s.origin n + t - start % max t 1) % max t 1
  if Nat.ble (2 * d) t then (min d (t / 16) : Nat) else -((min (t - d) (t / 16) : Nat) : Int)

/-- The numerator of |dph′| in 2^-16 and its sign, for phase `ph` of a GFI-3L cluster (R156 steps 1–3). -/
def State.phaseRef (s : State) (k ph : Nat) : Int :=
  match s.slotAt k (3 * ph) with
  | none => 0
  | some n =>
    let m := s.npm k
    let lim : Int := 2 * s.fld (Reg.EDG_DUTYLIM n) Fld.EDG_DUTYLIM_DMAX - 65536
    clampI (-lim) lim (2 * ((s.reg (Reg.EDG_DUTY n)).toNat % 65536) - 65536 + m.loaded.getD ph 0)

/-- The three slots of a phase driven from the lead slot's duty (R156, R157); the polarity changes only at a carrier zero, through O for the
output slot's dead time plus MINP. -/
def State.drivePhase (s : State) (k ph z : Nat) (zero : Bool) : State :=
  match s.slotAt k (3 * ph), s.slotAt k (3 * ph + 1), s.slotAt k (3 * ph + 2) with
  | some up, some lo, some out =>
    let d := s.phaseRef k ph
    let was := (s.npm k).neg.getD ph false
    let turn := zero && (decide (d < 0) != was)
    let neg := if turn then !was else was
    let mag := if decide (d < 0) == neg then d.natAbs else 0
    let s := s.updNpm k fun m => { m with neg := m.neg.set ph neg }
    let gap := s.deadTime out (if neg then .low else .high) + s.minPulse out
    let until_ (n v : Nat) (s : State) : State :=
      s.updEdge n fun e => { e with held := if turn then some (v, z + gap) else match e.held with
        | some (w, u) => if u = 0 then none else some (w, u)
        | none => none }
    let fix (n v : Nat) (s : State) : State := s.updEdge n fun e => { e with held := some (v, 0) }
    let cmp (n : Nat) (s : State) : State :=
      let c := roundFine (mag * ptOf (s.carrier n)) 65536
      s.updEdge n fun e => { e with cmpA := c, cmpB := c }
    if neg then (fix out 1 (fix up 1 (cmp lo (until_ lo 2 s)))) else (fix out 2 (fix lo 2 (cmp up (until_ up 1 s))))
  | _, _, _ => s

/-- The cluster modulator acts after a load of a lead slot (R156). -/
def State.modulate (s : State) (n z : Nat) (zero : Bool) : State :=
  match s.clusterOf n with
  | some k => if s.ctype k = tyGFI3 && s.posOf k n % 3 = 0 then s.drivePhase k (s.posOf k n / 3) z zero else s
  | none => s

/-- The chosen offset is loaded with the compare values of a lead slot (R158). -/
def State.loadOffset (s : State) (n : Nat) : State :=
  match s.clusterOf n with
  | some k =>
    if s.ctype k = tyGFI3 && s.posOf k n % 3 = 0 then
      s.updNpm k fun m => { m with loaded := m.loaded.set (s.posOf k n / 3) (m.sgn * m.v0) }
    else s
  | none => s

/-- A load boundary of kind zero or peak at time `b`, where CTRL.LOAD has it. -/
def State.boundary (s : State) (n b : Nat) (zero : Bool) : State :=
  let ld := s.fld (Reg.EDG_CTRL n) Fld.EDG_CTRL_LOAD
  if ld = 2 || (ld = 0 && zero) || (ld = 1 && !zero) then
    ((s.loadReady n b 16).loadOffset n).modulate n b zero
  else s.modulate n b zero

/-- A committed carrier takes effect on a slot at its zero `z` (R90): the first carrier zero of the cluster after the commit has become the
cluster's ANCHOR, and the interleave map is that of the new carrier. -/
def State.newCarrier (s : State) (n z : Nat) : State :=
  match (s.edge n).carrierOld, s.clusterOf n with
  | some (_, zc), some k =>
    if Nat.ble zc z then
      let s := s.updEdge n fun e => { e with carrierOld := none }
      (if s.anchor k = zc / 16 then s else s.setNat64 (Reg.CLU_ANCHOR_LO k) (Reg.CLU_ANCHOR_HI k) (zc / 16)).writeMap k
    else s
  | _, _ => s.updEdge n fun e => { e with carrierOld := none }

/-- A period of the carrier of a switching slot begins at its zero `z` (R90): a committed carrier applies, the period is slewed, and what lasted
one period ends. -/
def State.newPeriod (s : State) (n z : Nat) : State :=
  let e := s.edge n
  let prev := if z = e.perStart + s.perLen n then e.perStart else z - tswOf (s.carrier n)
  let s := (s.updEdge n fun e =>
    { e with perStart := z, prevStart := prev, perDelta := 0, pcmDone := false, limBoth := false, peHold := e.peBefore (s.perLen n) }).newCarrier n z
  let d := s.slew n z
  s.updEdge n fun e => { e with perDelta := d, peakNext := isTriangle (s.carrier n), pat := if e.called = 0 && e.limBar = 0 then 0 else e.pat }

/-- LOAD_BOUNDARY (R90, R92): the next carrier zero or peak of a slot has come. -/
def execLoadBoundary (n : Slot) (s : State) : Res :=
  let n := n.val
  let e := s.edge n
  let w := s.carrier n
  if s.switching n then
    let b := if e.peakNext then e.perStart + ptOf w else e.perStart + s.perLen n
    onlyIf (s.cdRun && Nat.ble b s.tbFine) s fun s =>
      if e.peakNext then (s.updEdge n fun e => { e with peakNext := false }).boundary n b false
      else
        let z := b + (s.tbFine - b) / max (tswOf w) 1 * max (tswOf w) 1
        (s.newPeriod n z).boundary n z true
  else
    let z := gridBefore (s.origin n) (tswOf w) s.tbFine
    let p := gridBefore (s.origin n + ptOf w) (tswOf w) s.tbFine
    onlyIf (s.cdRun && Nat.blt n s.variant.slots) s fun s =>
      let s := (s.newCarrier n s.tbFine).boundary n z true
      if isTriangle w then s.boundary n p false else s

/-- Who may write a shadow register of a slot: the owning loop triplet always; anyone else under the write rule of R115. -/
def State.mayWriteShadow (s : State) (who : Party) (n : Nat) : Bool :=
  (s.clusterOf n).any (fun k => s.ownerCode k == partyCode who) || s.sstate n == 0

/-- CMPA_WRITE (R92): marks the carrier-based shadow set ready, or is ignored with WRERR (R115). -/
def execCmpaWrite (who : Party) (n : Slot) (v : Word) (s : State) : Res :=
  let n := n.val
  atReg (Reg.EDG_CMPA n) (Nat.blt n s.variant.slots) s.cdRun s fun s =>
    if s.mayWriteShadow who n then
      (s.setNat (Reg.EDG_CMPA n) (v.toNat % 2 ^ 24)).shadowWrite n (s.fld (Reg.EDG_CTRL n) Fld.EDG_CTRL_MODE == 0)
    else s.raise (.edg n) 14

/-- PE0_WRITE (R92): marks the programmed-edge shadow set ready, or is ignored with WRERR (R115). -/
def execPe0Write (who : Party) (n : Slot) (v : Word) (s : State) : Res :=
  let n := n.val
  atReg (Reg.EDG_PE n 0) (Nat.blt n s.variant.slots) s.cdRun s fun s =>
    if s.mayWriteShadow who n then
      (s.setNat (Reg.EDG_PE n 0) (v.toNat &&& 0xE0FFFFFF)).shadowWrite n (s.fld (Reg.EDG_CTRL n) Fld.EDG_CTRL_MODE == 1)
    else s.raise (.edg n) 14

/-! ### Starting and stopping (R101) -/

/-- A slot that starts switching ends the discharge of every DLC cluster of its region but its own (R200). -/
def State.endDischarges (s : State) (n : Nat) : State :=
  match s.clusterOf n with
  | some k => s.each (s.clus.filter fun j => j != k && s.ctype j == tyDLC && s.regionOf j == s.regionOf k) fun u j =>
      u.setBit (Reg.CLU_DC_STAT j) Fld.CLU_DC_STAT_DISCH_ACT false
  | none => s

/-- A start of a slot is ordered: SSTATE 0b001 from the tick at which its conditions are met; from here on its carrier is that of a switching
slot (R90). A diagnosis in progress is aborted (R143). -/
def State.orderStart (s : State) (n : Nat) (resume : Bool) : State :=
  let s := (s.endDischarges n).newCarrier n s.tbFine
  let w := s.carrier n
  let z := gridBefore (s.origin n) (tswOf w) s.tbFine
  let s := s.updEdge n fun e =>
    { e with startFrom := s.tb, resume, stopTo := none, perStart := z, prevStart := z - tswOf w, perDelta := 0,
             peakNext := isTriangle w && Nat.blt s.tbFine (z + ptOf w) }
  let s := s.updDrv n fun d => { d with diagAbort := d.diagAt.isSome }
  s.setSState n 1

/-- The slot may start (R100, R101): EN in an enabled cluster, no hold; of a phased cluster, only an active phase. -/
def State.mayStart (s : State) (n : Nat) : Bool :=
  s.bit (Reg.EDG_CTRL n) Fld.EDG_CTRL_EN && s.sstate n == 0 && s.holdBits n == 0 &&
    (s.clusterOf n).any fun k => (s.cstate k == csSTARTING || (s.cstate k == csRUN && !(s.cluster k).pausing)) &&
      (!s.isPhased k || bitOf (s.activeMask k) (s.posOf k n))

/-- A stop of a slot into SSTATE `v` is ordered: at the next carrier point, at once where the slot is not switching yet. -/
def State.orderStop (s : State) (n v : Nat) : State :=
  if s.sstate n = 2 then
    let p := s.carrierPoint n s.tbFine
    s.updEdge n fun e => { e with stopTo := some ((e.stopTo.map (·.1)).getD p, v) }
  else if s.sstate n = 1 || s.sstate n = 3 then s.setSState n v
  else s

/-- The first edge of a slot that starts at `p` (R101): the turn-on of the channel that the pattern calls for, delayed by its dead time; under
MODE DROP not where the pulse is shorter than MINP (R96). -/
def State.firstEdge (s : State) (n p : Nat) : State :=
  let v := s.patternAt n p
  let t := p + s.deadTime n (sideOf v)
  let s := s.updEdge n fun e => { e with pat := v }
  if v = 0 then s
  else if (s.edge n).held.isNone && s.drops n t p then s.raise (.edg n) 3
  else (s.updEdge n fun e => { e with called := v }).turnOn n (sideOf v) t false

/-- What every start of a slot resets: the loop (R107), the bars of the fast limit and the commands on the edge link. -/
def Edge.started (e : Edge) : Edge :=
  { e with pcmDone := false, limBar := 0, limBoth := false, integ := 0, clampDir := 0, first := true, called := 0, pat := 0, cmds := [] }

/-- EDG_n_STAT.LOOP_ACTIVE: the inner loop of a switching slot with LOOP_EN updates (R116). -/
def State.showLoop (s : State) (n : Nat) : State :=
  s.setBit (Reg.EDG_STAT n) Fld.EDG_STAT_LOOP_ACTIVE (s.sstate n == 2 && s.bit (Reg.EDG_CTRL n) Fld.EDG_CTRL_LOOP_EN)

/-- SLOT_START (R101): the slot starts at its first carrier zero, or peak of a triangle carrier, 16 ticks after its conditions were met. -/
def execSlotStart (n : Slot) (s : State) : Res :=
  let n := n.val
  let w := s.carrier n
  let off := if isTriangle w then ptOf w else 0
  let p := s.carrierPoint n (((s.edge n).startFrom + 16) * 16)
  onlyIf (s.cdRun && s.sstate n == 1 && s.bit (Reg.EDG_CTRL n) Fld.EDG_CTRL_EN && Nat.ble p s.tbFine) s fun s =>
    let steps := if (s.edge n).resume then 0 else s.fld (Reg.GDV_CTRL n) Fld.GDV_CTRL_STEP_EDGES
    let s := (s.updGate n .high fun g => { g with stepLeft := steps }).updGate n .low fun g => { g with stepLeft := steps }
    let s := if Nat.blt (s.edge n).perStart (p - off) then s.newPeriod n (p - off) else s
    let s := s.updEdge n fun e => { e.started with peakNext := e.peakNext && off == 0 }
    let s := ((s.setSState n 2).loadReady n p 0).updEdge n fun e =>
      { e with peHold := (((peEntries e.pe).getLast?).map (·.2)).getD 0, peSince := p - off }
    ((s.showLoop n).modulate n p true).firstEdge n p

/-- Both channels off by normal edges at `t` (R101, R96). -/
def State.bothOff (s : State) (n t : Nat) : State :=
  let s := (s.turnOff n .high t).turnOff n .low t
  s.updEdge n fun e => { e with called := 0, pat := 0, stopTo := none }

/-- SLOT_STOP (R101): an ordered stop at its carrier point; where EN has been set again before it, the slot starts anew. -/
def execSlotStop (n : Slot) (s : State) : Res :=
  let n := n.val
  match (s.edge n).stopTo with
  | some (p, v) =>
    onlyIf (s.cdRun && s.sstate n == 2 && Nat.ble p s.tbFine) s fun s =>
      let s := (s.bothOff n p).setSState n v
      if s.mayStart n then s.orderStart n false else s
  | none => .next s

/-! ### The inner loop (R107, R108) -/

/-- One update of the inner loop: measured code and Δt in fine steps. The result is written as CMPA and CMPB and marks the shadow set ready.
DESIGN CHOICE (log 84): the manual keeps the sum with 16 fractional bits and gives no rounding of a step that needs more of them (Δt in fine
steps); each step is rounded to the nearest 2^-16 LSB as it is added, a tie away from zero; unsafe for a claim on the last of those bits. -/
def State.loopUpdate (s : State) (n : Nat) (meas : Int) (dt : Nat) : State :=
  let e := s.edge n
  let ref := s.reg (Reg.EDG_REF n)
  let err := signed 16 (Fld.EDG_REF_IREF.get ref) - meas
  let kp : Int := (s.reg (Reg.EDG_KP n)).toNat % 65536
  let ki : Int := (s.reg (Reg.EDG_KI n)).toNat % 65536
  let frozen := e.clampDir != 0 && err.sign == e.clampDir
  let step := if e.first then 0 else divNear (ki * err * dt) 16
  let integ := if frozen then e.integ else e.integ + step
  let d := divNear ((Fld.EDG_REF_DFF.get ref : Int) * 65536 + kp * err * 256 + integ) 65536
  let lim := s.reg (Reg.EDG_DUTYLIM n)
  let d' := clampI (Fld.EDG_DUTYLIM_DMIN.get lim) (Fld.EDG_DUTYLIM_DMAX.get lim) d
  let s := s.raiseIf (d' != d) (.edg n) 5
  let s := s.updEdge n fun e => { e with integ, first := false, clampDir := (d - d').sign }
  let c := roundFine (d'.toNat * ptOf (s.carrier n)) 65536
  let s := (s.setNat (Reg.EDG_CMPA n) c).setNat (Reg.EDG_CMPB n) c
  s.shadowWrite n true

/-- The inner loop of a slot runs: carrier-based, LOOP_EN, switching; the DLC law takes its place in a DLC slot (R198). -/
def State.loopRuns (s : State) (n : Nat) : Bool :=
  s.sstate n == 2 && s.bit (Reg.EDG_CTRL n) Fld.EDG_CTRL_LOOP_EN && s.fld (Reg.EDG_CTRL n) Fld.EDG_CTRL_MODE == 0 &&
    !((s.clusterOf n).any fun k => s.ctype k == tyDLC)

/-! ### Estimates (R103–R106) -/

/-- An estimate published (R105): value, acting time, STALE and its run, and the escalation. In LOOPMODE 1 a fresh one updates the loop, and a
result that comes too late for the first load boundary after its acting point sets LATE (R108). -/
def State.publish (s : State) (n act : Nat) (v : Int) (stale : Bool) : State :=
  let dt := act - (s.edge n).lastAct
  let s := s.updEdge n fun e => { e with lastAct := act }
  let s := (s.setNat (Reg.EDG_EST n) (b2n stale * 65536 + unsigned 16 v)).setNat (Reg.EDG_EST_TIME n) act
  let s := s.waveOther n 0x11 (32 + n) Reg.REC_CAP_EST n act (b2n stale * 65536 + unsigned 16 v) 0 ((s.reg (Reg.EDG_DUTY n)).toNat % 65536)
  let s := s.setBit (Reg.EDG_STAT n) Fld.EDG_STAT_STALE stale
  let run := if stale then min (s.fld (Reg.EDG_STAT n) Fld.EDG_STAT_STALE_RUN + 1) 255 else 0
  let s := s.setFld (Reg.EDG_STAT n) Fld.EDG_STAT_STALE_RUN run
  if stale then
    let s := s.raise (.edg n) 7
    if run = s.fld (Reg.EDG_SRC n) Fld.EDG_SRC_STALE_LIM then (s.raise (.edg n) 8).safeStopOf n scSTALE else s
  else if s.loopRuns n && s.bit (Reg.EDG_CTRL n) Fld.EDG_CTRL_LOOPMODE then
    (s.loopUpdate n v dt).raiseIf (Nat.blt (s.loadAfter n act) ((s.tb + 16) * 16)) (.edg n) 6
  else s

/-- The value interpolated between two samples at `t`, a tie away from zero (R104). -/
def interpolate (t1 : Nat) (x1 : Int) (t2 : Nat) (x2 : Int) (t : Nat) : Int :=
  divNear (x1 * (t2 - t1 : Nat) + (x2 - x1) * (t - t1 : Nat)) (max (t2 - t1) 1)

/-- The estimates that a sample stamped `t2` completes: every acting point before it, in order (R104, R105). -/
def State.formEstimates (s : State) (n t2 : Nat) (x2 : Int) : State :=
  let due := (s.edge n).acts.filter fun a => Nat.blt a t2
  let s := s.updEdge n fun e => { e with acts := e.acts.filter fun a => !Nat.blt a t2 }
  let gap := s.fld (Reg.EDG_SRC n) Fld.EDG_SRC_MAXGAP * 16
  s.each due fun u a =>
    match (u.edge n).smps.find? fun p => Nat.ble p.1 a with
    | some (t1, x1) => u.publish n a (interpolate t1 x1 t2 x2 a) (Nat.blt gap (t2 - t1))
    | none => u.publish n a (signed 16 (u.reg (Reg.EDG_EST n)).toNat) true

/-- MAXGAP_EXPIRY (R105): no sample after t* has come by t* + MAXGAP, and a stale estimate is published with the value of the latest
sample; where there is none, the value shown stays. -/
def execMaxgapExpiry (n : Slot) (s : State) : Res :=
  let n := n.val
  match (s.edge n).acts with
  | [] => .next s
  | a :: rest =>
    onlyIf (s.cdRun && Nat.ble (a + s.fld (Reg.EDG_SRC n) Fld.EDG_SRC_MAXGAP * 16) s.tbFine) s fun s =>
      let v := match (s.edge n).smps.find? fun p => Nat.ble p.1 a with
        | some p => p.2
        | none => signed 16 (s.reg (Reg.EDG_EST n)).toNat
      (s.updEdge n fun e => { e with acts := rest }).publish n a v true

/-- The acting point of a slot that falls due (R103): it waits for the sample after it. -/
def State.actingDue (s : State) (n : Nat) : Option Nat :=
  let a := s.actingAt n s.tbFine
  match (s.edge n).actSeen with
  | some b => if Nat.blt b a then some a else none
  | none => some a

/-- An acting point noted for its estimate (R104). -/
def State.noteActing (s : State) (n a : Nat) : State := s.updEdge n fun e => { e with acts := e.acts ++ [a], actSeen := some a }

/-! ### The fast current limit (R110, R111) -/

/-- The TRIP threshold in force: under energised debug the lower of TRIP and DBG_TRIPn (R313). -/
def State.fclTrip (s : State) (n : Nat) : Nat :=
  let t := s.fld (Reg.EDG_FCL n) Fld.EDG_FCL_TRIP
  let d := (s.reg (Reg.DBG_TRIP n)).toNat % 65536
  if s.bit Reg.DBG_STAT Fld.DBG_STAT_ENDBG && d != 0 then (if t = 0 then d else min t d) else t

/-- A value of the fast-limit source of a slot (R110, R111). Every value beyond a threshold takes its action. DESIGN CHOICE (log 33): a run of
values beyond TRIP is one slot-local fault, counted and recorded at the first of them, the moment of detection; the later ones turn off softly
and set the hold again. -/
def State.fastLimit (s : State) (n : Nat) (x : Int) (ovr : Bool) : State :=
  let trip := s.fclTrip n
  let lim := s.fld (Reg.EDG_FCL n) Fld.EDG_FCL_LIMIT
  let isTrip := trip != 0 && (Nat.blt trip x.natAbs || ovr)
  let isLim := lim != 0 && (Nat.blt lim x.natAbs || (ovr && trip == 0))
  let e := s.edge n
  let s := s.updEdge n fun e => { e with wasLim := isLim, wasTrip := isTrip }
  let s := s.updDrv n fun d => { d with mocBeyond := isTrip }
  let s := s.raiseIf (isLim && !e.wasLim) (.edg n) 9
  let s :=
    if isLim && s.sstate n = 2 then
      if s.fld (Reg.EDG_FCL_CFG n) Fld.EDG_FCL_CFG_LIMACT = 0 then
        let off := if x < 0 then 1 else 2
        let s := s.updEdge n fun e => { e with limBar := off }
        s.callFor n (if off = 1 then 2 else if (s.clusterOf n).any fun k => s.ctype k == tyDLC then 0 else 1) s.tbFine
      else (s.updEdge n fun e => { e with limBoth := true }).callFor n 0 s.tbFine
    else s
  if !isTrip then s
  else if e.wasTrip then (s.softOff n).setHold n Fld.GDV_STAT_H_MOC true
  else (s.raise (.edg n) 10).slotFault n Fld.GDV_STAT_H_MOC 2

/-! ### Samples (R94, R104–R107) -/

/-- The source that EDG_n_SRC names. -/
def State.slotSrc (s : State) (n : Nat) : SrcId :=
  let w := s.reg (Reg.EDG_SRC n)
  let c := Fld.EDG_SRC_CH.get w
  if Fld.EDG_SRC_TYPE.on w then .mod (Fin.ofNat 24 c) else .sar (Fin.ofNat 64 c)

/-- A sample of a slot's loop source. DESIGN CHOICE (log 84): leading-edge blanking (R94) is judged by the sample's stamp, not by its arrival: a
sample stamped inside the blanking is not compared although it arrives after it; unsafe for a claim on such a sample. -/
def State.slotSample (s : State) (n : Nat) (r : Sample) : State :=
  let s := (s.raiseIf r.ovr (.edg n) 11).raiseIf r.xcf (.edg n) 12
  let s := s.formEstimates n r.stamp r.code
  let ctrl := s.reg (Reg.EDG_CTRL n)
  let s :=
    if s.loopRuns n && !Fld.EDG_CTRL_LOOPMODE.on ctrl then
      let dt := min (r.stamp - (s.edge n).lastUsed) (s.fld (Reg.EDG_SRC n) Fld.EDG_SRC_MAXGAP * 16)
      (s.loopUpdate n r.code dt).updEdge n fun e => { e with lastUsed := r.stamp }
    else s
  let s :=
    if Fld.EDG_CTRL_MODE.get ctrl = 2 && s.sstate n = 2 && s.cmdOn n .high && !(s.edge n).pcmDone then
      let e := s.edge n
      let ref : Int := signed 16 (s.reg (Reg.EDG_REF n)).toNat
      let leb := s.fld (Reg.EDG_PCM n) Fld.EDG_PCM_LEB * 16
      let slope := s.fld (Reg.EDG_PCM n) Fld.EDG_PCM_SLOPE
      if Nat.ble (e.tOnH + leb) r.stamp && decide (ref * 1024 - slope * (r.stamp - e.tOnH : Nat) ≤ r.code * 1024) then
        (s.updEdge n fun e => { e with pcmDone := true }).patternChange n 1 s.tbFine
      else s
    else s
  let s := if s.bit (Reg.EDG_FCL_CFG n) Fld.EDG_FCL_CFG_FTYPE then s.fastLimit n r.code r.ovr else s
  s.updEdge n fun e => { e with smps := ((r.stamp, r.code) :: e.smps).take 256 }

/-- Whether an input is marked invalid (R247). -/
def State.invalid (s : State) : SrcId → Bool
  | .sar i => if i.val < 32 then bitOf (s.reg Reg.MEAS_INVAL_SAR0).toNat i.val else bitOf (s.reg Reg.MEAS_INVAL_SAR1).toNat (i.val - 32)
  | .mod i => bitOf (s.reg Reg.MEAS_INVAL_MOD).toNat i.val
  | .pm _ => false

/-- The number of a source, for its counters. -/
def srcNo : SrcId → Nat
  | .sar i => i.val
  | .mod i => 64 + i.val
  | .pm m => 88 + m.val

/-- The modulator input and its clock are enabled, and its bank VIO4 is in its window (R52). -/
def State.modOn (s : State) (i : Nat) : Bool :=
  s.vioOk 4 && s.bit (Reg.MEAS_MOD_CFG i) Fld.MEAS_MOD_CFG_EN && s.bit (Reg.MEAS_MCLK (i / 6)) Fld.MEAS_MCLK_EN

/-- A fast-path value of an input is delivered: none of an invalid one, but for an over-range value of the bit at which it was marked (R247, R260). -/
def State.fastDelivers (s : State) (i : ModIn) (ovr : Bool) : Bool :=
  s.modOn i.val && (!s.invalid (.mod i) || (ovr && File.get 0 s.meas.marked (srcNo (.mod i)) == s.now))

/-- SINC2_VALUE (R251, R110): a fast-path value reaches the edge engines that name its input. -/
def execSinc2Value (i : ModIn) (x : Int) (ovr : Bool) (s : State) : Res :=
  onlyIf (s.mdRun && s.fastDelivers i ovr) s fun s =>
    s.each (s.slots.filter fun n =>
      let w := s.reg (Reg.EDG_FCL_CFG n)
      !Fld.EDG_FCL_CFG_FTYPE.on w && Fld.EDG_FCL_CFG_FCH.get w == i.val) fun u n => u.fastLimit n x ovr

/-- PCM_DMAX (R94 step 5): no sample has crossed the peak reference by DMAX × Tsw. -/
def execPcmDmax (n : Slot) (s : State) : Res :=
  let n := n.val
  onlyIf (s.cdRun && s.pcmRuns n && Nat.ble (s.pcmEnd n) s.tbFine) s fun s => s.pcmMax n

/-- The word that an owner's write leaves in EDG_n_REF: while a charge runs, another IREF than the engine's is ignored (R207). -/
def State.ownerWord (s : State) (n : Nat) (v : Word) : Word :=
  if (s.clusterOf n).any fun k => s.ctype k == tySDC && s.charging k then
    Fld.EDG_REF_IREF.put v (s.fld (Reg.EDG_REF n) Fld.EDG_REF_IREF)
  else v

/-- OWNER_REF_WRITE (R109, R115): by the owning triplet, as one write, with the call of VIMP that its control code makes for it (R165); read-only to
everyone else, whose write sets WRERR while the slot is not stopped. -/
def execOwnerRefWrite (who : Party) (n : Slot) (v : Word) (call : Option VimpCall) (s : State) : Res :=
  let n := n.val
  atReg (Reg.EDG_REF n) (Nat.blt n s.variant.slots) s.cdRun s fun s =>
    if s.ownsSlotOf who n then
      let s := match s.clusterOf n with
        | some k => s.vimpCall k call
        | none => s
      s.setReg (Reg.EDG_REF n) (s.ownerWord n v)
    else if s.sstate n = 0 then s else s.raise (.edg n) 14

end Sys2Proof.Machine
end

