-- ==== Sys2Proof/Machine/GateDrive.lean ====
section
/-!
DEFINITION. The driver dies (R118–R145): edges and their profiles, adaptation, soft turn-off, interlock lines, holds and slot commands.
-/

namespace Sys2Proof.Machine

/-! ### Registers of a channel -/

/-- The turn-on or turn-off profile of a channel (R146). -/
def profReg (n : Nat) : Side → Bool → Nat
  | .high, true => Reg.GDV_PON_H n
  | .high, false => Reg.GDV_POFF_H n
  | .low, true => Reg.GDV_PON_L n
  | .low, false => Reg.GDV_POFF_L n
/-- The adaptation register of a channel and direction. -/
def adaptReg (n : Nat) : Side → Bool → Nat
  | .high, true => Reg.GDV_AON_H n
  | .high, false => Reg.GDV_AOFF_H n
  | .low, true => Reg.GDV_AON_L n
  | .low, false => Reg.GDV_AOFF_L n
/-- The edge report of a channel and direction. -/
def repReg (n : Nat) : Side → Bool → Nat
  | .high, true => Reg.GDV_REP_ON_H n
  | .high, false => Reg.GDV_REP_OFF_H n
  | .low, true => Reg.GDV_REP_ON_L n
  | .low, false => Reg.GDV_REP_OFF_L n
/-- The adjustment counters of a channel. -/
def adjReg (n : Nat) : Side → Nat
  | .high => Reg.GDV_ADJ_H n
  | .low => Reg.GDV_ADJ_L n
/-- The desaturation register of a channel. -/
def dsatReg (n : Nat) : Side → Nat
  | .high => Reg.GDV_DSAT_H n
  | .low => Reg.GDV_DSAT_L n
/-- STAT.STEP of a channel. -/
def stepField : Side → Field
  | .high => Fld.GDV_STAT_STEP_H
  | .low => Fld.GDV_STAT_STEP_L
/-- STAT.CLAMP of a channel. -/
def clampField : Side → Field
  | .high => Fld.GDV_STAT_CLAMP_H
  | .low => Fld.GDV_STAT_CLAMP_L
/-- CTRL.MCLAMP of a channel. -/
def mclampField : Side → Field
  | .high => Fld.GDV_CTRL_MCLAMP_H
  | .low => Fld.GDV_CTRL_MCLAMP_L

/-- Profile word bits 31:24: PLT_TMAX (R146). -/
def profTmax : Field := ⟨24, 8⟩
/-- Profile word bits 20:16: PRE_TMAX. -/
def profPreTmax : Field := ⟨16, 5⟩
/-- Adaptation word fields EN, PLT_INIT, PLT_MAX, PLT_MIN, TOL, TARGET (R146). -/
def adEN : Field := ⟨31, 1⟩
/-- Initial code. -/
def adINIT : Field := ⟨26, 5⟩
/-- Upper bound. -/
def adMAX : Field := ⟨21, 5⟩
/-- Lower bound. -/
def adMIN : Field := ⟨16, 5⟩
/-- Tolerance. -/
def adTOL : Field := ⟨12, 4⟩
/-- Target. -/
def adTARGET : Field := ⟨0, 8⟩

/-! ### Edges (R98, R121–R129) -/

/-- A channel is on or turning on. -/
def Gate.isOn (g : Gate) : Bool := Nat.ble 1 g.phase && Nat.ble g.phase 3
/-- A channel is on for the cross-interlock (R98): commanded on, or not yet off in a soft turn-off. -/
def Gate.conducts (g : Gate) : Bool := g.isOn || g.phase == 21 || g.phase == 22

/-- The plateau code of the next edge of a channel and direction (R125). -/
def State.plateau (s : State) (n : Nat) (d : Side) (rising : Bool) : Nat :=
  let a := s.reg (adaptReg n d rising)
  let p := if rising then (s.gate n d).pOn else (s.gate n d).pOff
  if adEN.on a then p.getD (adINIT.get a) else adINIT.get a

/-- The profile word that an edge beginning now uses (R124): that before the first commit which is not yet 16 ticks old, else the present one. -/
def State.profile (s : State) (n : Nat) (d : Side) (rising : Bool) : Word :=
  match (if rising then (s.gate n d).oldOn else (s.gate n d).oldOff).find? fun p => Nat.blt s.tb (p.1 + 16) with
  | some p => p.2
  | none => s.reg (profReg n d rising)

/-- An edge of a channel begins (R121, R128, R129): profile or step-current mode; a turn-on restarts blanking and releases the clamp. -/
def State.beginEdge (s : State) (n : Nat) (d : Side) (rising : Bool) : State :=
  let g := s.gate n d
  let step := s.bit (Reg.GDV_CTRL n) Fld.GDV_CTRL_MODE || Nat.blt 0 g.stepLeft
  let w := s.profile n d rising
  let p := s.plateau n d rising
  let s := s.updGate n d fun g =>
    { g with phase := if rising then (if step then 2 else 1) else (if step then 12 else 11), since := s.now, stepEdge := step, prof := w,
             stepLeft := g.stepLeft - 1, preLim := false, rising, edgeAt := s.tbFine, code := p, onSince := if rising then s.now else g.onSince }
  let s := s.setBit (Reg.GDV_STAT n) (stepField d) step
  if rising then s.setBit (Reg.GDV_STAT n) (clampField d) false else s

/-- GATE_EDGE (R87, R98, R121): the next edge command reaches the driver die. A turn-on is refused by the cross-interlock while the other
channel is on or within 15 ns (96 fine steps) of its turn-off command, also during a soft turn-off (R141); it is not executed while a hold is
set, the release guard runs or a soft turn-off is in progress (R100, R137, R138). -/
def execGateEdge (n : Slot) (s : State) : Res :=
  let n := n.val
  match (s.edge n).cmds with
  | [] => .next s
  | c :: rest =>
    onlyIf (s.cdRun && Nat.ble c.time s.tbFine) s fun s =>
      let s := s.updEdge n fun e => { e with cmds := rest }
      let d : Side := if c.high then .high else .low
      let o := s.gate n (otherSide d)
      if c.on then
        if o.conducts || (o.offAt != 0 && Nat.blt s.tbFine (o.offAt + 96)) then s.refuseEdge n 1
        else if s.holdBits n != 0 || (s.drv n).guardEnd.isSome || (s.drv n).softAt.isSome || (s.gate n d).isOn then s
        else s.beginEdge n d true
      else
        let s := s.updGate n d fun g => { g with offAt := s.tbFine }
        if (s.gate n d).isOn && (s.drv n).softAt.isNone then s.beginEdge n d false else s

/-- The adapted code after an edge with a valid measurement, and ADJ: 0 none, 1 up, 2 down, 3 held at a bound (R125). -/
def adapt (a : Word) (p m : Nat) : Nat × Nat :=
  let target := adTARGET.get a
  let tol := adTOL.get a
  if Nat.blt (target + tol) m then (if Nat.blt (adMIN.get a) p then (p - 1, 2) else (p, 3))
  else if Nat.blt (m + tol) target then (if Nat.blt p (adMAX.get a) then (p + 1, 1) else (p, 3))
  else (p, 0)

/-- An edge report word (R146). -/
def reportWord (dvdt dur code adj : Nat) (notrans pltLim preLim step : Bool) : Nat :=
  min dvdt 255 * 2 ^ 24 + min dur 4095 * 2 ^ 12 + code % 32 * 2 ^ 7 + adj * 2 ^ 5 + b2n notrans * 16 + b2n pltLim * 8 + b2n preLim * 4
    + b2n step * 2 + 1

/-- A channel has turned off: VGS is below VGN + 2.0 V, and its clamp engages (R129). -/
def State.gateOff (s : State) (n : Nat) (d : Side) : State :=
  (s.updGate n d fun g => { g with phase := 0, since := s.now }).setBit (Reg.GDV_STAT n) (clampField d)
    (s.bit (Reg.GDV_CTRL n) (mclampField d))

/-- The end of phase 2 (R121, R122, R125, R127): report, flags, adaptation, and phase 3; a step-current turn-off ends at its rail. `dur` is the
duration of the plateau in fine steps. -/
def State.endPlateau (s : State) (n : Nat) (d : Side) (how : PhaseEnd) (dvdt dur : Nat) : State :=
  let g := s.gate n d
  let p := s.plateau n d g.rising
  let a := s.reg (adaptReg n d g.rising)
  let lim := how == .tmax
  let nt := how == .noTrans
  let r := if g.stepEdge || nt || lim || !adEN.on a then (p, 0) else adapt a p dvdt
  let s := s.setNat (repReg n d g.rising) (reportWord dvdt dur g.code r.2 nt lim g.preLim g.stepEdge)
  let s := s.waveOther n 0x10 n Reg.REC_CAP_EREP n g.edgeAt (reportWord dvdt dur g.code r.2 nt lim g.preLim g.stepEdge)
    ((match d with | .high => 0 | .low => 1) + (if g.rising then 0 else 2)) 0
  let s := s.raiseMask (.gdv n) ((if lim && !g.stepEdge then 2 ^ 10 else 0) + (if nt && !g.stepEdge then 2 ^ 9 else 0) + (if r.2 = 3 then 2 ^ 8 else 0))
  let s := if r.2 = 1 then s.incFld (adjReg n d) ⟨0, 16⟩ else if r.2 = 2 then s.incFld (adjReg n d) ⟨16, 16⟩ else s
  let s := if r.2 = 1 || r.2 = 2 then
      s.updGate n d fun g => if g.rising then { g with pOn := some r.1 } else { g with pOff := some r.1 }
    else s
  if !g.rising && g.stepEdge then s.gateOff n d
  else s.updGate n d fun g => { g with phase := if g.rising then 3 else 13, since := s.now }

/-- EDGE_PHASE_END (R121–R123, R128, R129): phase 1 ends by VGS or PRE_TMAX, phase 2 by the end of the transition, by no transition within 12
ticks, or by PLT_TMAX, phase 3 of a turn-off as an edge with VGS below VGN + 2.0 V; a step-current edge has one phase. The duration of a
plateau is measured in fine steps, within one tick of the time that has passed. -/
def execEdgePhaseEnd (n : Slot) (side : Side) (how : PhaseEnd) (dvdt dur : Nat) (s : State) : Res :=
  let n := n.val
  let g := s.gate n side
  let first := g.phase == 1 || g.phase == 11
  let span := (s.now - g.since) * 16
  let second := (g.phase == 2 || g.phase == 12) && Nat.blt span (dur + 16) && Nat.blt dur (span + 16)
  let fits := match how with
    | .vth => first
    | .tmax => (first && s.since g.since (profPreTmax.get g.prof)) || (second && !g.stepEdge && s.since g.since (profTmax.get g.prof))
    | .transEnd => second
    | .noTrans => second && !g.stepEdge && s.since g.since 12
    | .off => g.phase == 13
  onlyIf (s.cdRun && fits) s fun s =>
    if how = .off then s.gateOff n side
    else if first then
      let lim := how == .tmax
      (s.updGate n side fun g => { g with phase := g.phase + 1, since := s.now, preLim := lim }).raiseIf lim (.gdv n) 11
    else s.endPlateau n side how dvdt dur

/-! ### Detection (R118, R120, R130) -/

/-- A soft turn-off of the slot has begun in this handshake (R141). -/
def State.softNow (s : State) (n : Nat) : Bool := (s.drv n).softAt == some s.now

/-- DSAT_DETECT (R130): after blanking and the filter, on a channel that is commanded on, also where another fault of the same handshake has just
begun to turn it off (R141); or the comparator has fallen back (R139). -/
def execDsatDetect (n : Slot) (side : Side) (above : Bool) (s : State) : Res :=
  let n := n.val
  let w := s.reg (dsatReg n side)
  let g := s.gate n side
  let on := g.isOn || (g.phase == 21 && s.softNow n)
  if above then
    onlyIf (s.cdRun && w.toNat / 2 ^ 31 == 1 && on && s.since g.onSince (w.toNat / 2 ^ 16 % 1024 + 4 * (w.toNat % 8))) s fun s =>
      (s.updGate n side fun g => { g with dsatUp := true }).slotFault n Fld.GDV_STAT_H_DSAT (if isHigh side then 0 else 1)
  else onlyIf s.cdRun s fun s => s.updGate n side fun g => { g with dsatUp := false }

/-- LINK_LOSS (R118, R130): no frame for 400 ticks; or the frames have come back (R139). -/
def execLinkLoss (n : Slot) (up : Bool) (s : State) : Res :=
  let n := n.val
  if up then
    onlyIf (s.cdRun && !(s.drv n).linkUp) s fun s => s.updDrv n fun d => { d with linkUp := true, linkSince := s.now }
  else
    onlyIf (s.cdRun && Nat.blt n s.variant.slots) s fun s =>
      (s.updDrv n fun d => { d with linkUp := false }).slotFault n Fld.GDV_STAT_H_LINK 5

/-- A hold that prevents a start on a slot that is not switching, with the unhealthy phase it makes (R120, R187). -/
def State.quietHold (s : State) (n : Nat) (hold : Field) : State :=
  (s.setHold n hold true).phaseLostOf n

/-- BIAS_EXCURSION (R120): a fault on a slot that switches, or that another fault of the same handshake has just begun to turn off (R141), else
H_BIAS, recorded where it comes during a soft turn-off (R132); nothing before supervision is armed. -/
def execBiasExcursion (n : Slot) (side : Side) (s : State) : Res :=
  let n := n.val
  let flag := if isHigh side then 3 else 4
  onlyIf (s.cdRun && (s.gate n side).armed) s fun s =>
    let s := (s.setBit (Reg.GDV_STAT n) (biasOk side) false).updGate n side fun g => { g with railIn := none }
    if s.switching n || s.softNow n then s.slotFault n Fld.GDV_STAT_H_BIAS flag
    else
      let s := s.raise (.gdv n) flag
      let s := if (s.drv n).softAt.isSome then s.record (Reg.GDV_FLAGS n) (2 ^ flag) [n] else s
      s.quietHold n Fld.GDV_STAT_H_BIAS

/-- BIASOK_RETURN (R120): the rails have been inside their windows for 1 ms; supervision is armed. -/
def execBiasokReturn (n : Slot) (side : Side) (s : State) : Res :=
  let n := n.val
  onlyIf (s.cdRun && (s.gate n side).bias.isSome && !s.bit (Reg.GDV_STAT n) (biasOk side)) s fun s =>
    ((s.setBit (Reg.GDV_STAT n) (biasOk side) true).updGate n side fun g =>
      { g with armed := true, suspended := false, railIn := some s.now }).biasFollow

/-! ### Soft turn-off (R131) and the interlock lines (R136, R137) -/

/-- The gate-energy switch opens (R136). -/
def State.openEnergy (s : State) (n : Nat) : State :=
  if s.bit (Reg.GDV_STAT n) Fld.GDV_STAT_EREMOVED then s
  else (s.setBit (Reg.GDV_STAT n) Fld.GDV_STAT_EREMOVED true).raise (.gdv n) 7

/-- Channels in step 1 of a soft turn-off begin step 2; with the last of them the slot is in step 2 (R131). -/
def State.softSecond (s : State) (n : Nat) (ds : List Side) : State :=
  let s := s.each ds fun u d => u.updGate n d fun g => if g.phase = 21 then { g with phase := 22, since := u.now } else g
  if (s.gate n .high).phase == 21 || (s.gate n .low).phase == 21 then s else s.updDrv n fun d => { d with softStep2 := some s.now }

/-- SOFT_TURNOFF_STEP2 (R131): SOFT_T after step 1; a channel that was at or below VINT at its start goes there at once. -/
def execSoftTurnoffStep2 (n : Slot) (low : Option Side) (s : State) : Res :=
  let n := n.val
  match low with
  | some d => onlyIf (s.cdRun && s.softNow n && (s.gate n d).phase == 21) s fun s => s.softSecond n [d]
  | none =>
    onlyIf (s.cdRun && (s.drv n).softStep2.isNone && (s.drv n).softAt.any fun t => s.since t (s.drv n).softT) s fun s => s.softSecond n [.high, .low]

/-- SOFT_TURNOFF_STEP3 (R131, R136): VGS is below VGN + 2.0 V and the clamp engages, or 400 ticks have passed and the phase-3 sink is applied until it is
(R129); the slot holds both channels off, and the energy switch opens where the line is at its off level. -/
def execSoftTurnoffStep3 (n : Slot) (below : Bool) (s : State) : Res :=
  let n := n.val
  onlyIf (s.cdRun && (s.drv n).softStep2.any fun t => below || s.since t 400) s fun s =>
    let close (d : Side) (s : State) : State :=
      if (s.gate n d).phase = 22 then
        let s := s.updGate n d fun g => { g with phase := 13, since := s.now, offAt := s.tbFine }
        if below then s.gateOff n d else s
      else s
    let s := close .low (close .high s)
    let s := (s.setBit (Reg.GDV_STAT n) Fld.GDV_STAT_SOFT_ACTIVE false).raise (.gdv n) 6
    let was := (s.drv n).openAfter
    let s := s.updDrv n fun d => { d with softAt := none, softStep2 := none, openAfter := false }
    if was then s.openEnergy n else s

/-- ILINE_OFF (R136): the driver die declares its line at the off level. -/
def execIlineOff (n : Slot) (s : State) : Res :=
  let n := n.val
  onlyIf (s.cdRun && Nat.blt n s.variant.slots && !bitOf (s.reg Reg.SAFE_LINES).toNat n && !s.bit (Reg.GDV_STAT n) Fld.GDV_STAT_H_ILINE) s fun s =>
    let s := (s.softOff n).setHold n Fld.GDV_STAT_H_ILINE true
    let s := s.updDrv n fun d => { d with guardEnd := none }
    if (s.drv n).softAt.isSome then s.updDrv n fun d => { d with openAfter := true } else s.openEnergy n

/-- ILINE_RELEASE (R137): the energy switch closes, H_ILINE and EREMOVED clear, and turn-on is barred for 10 µs. -/
def execIlineRelease (n : Slot) (s : State) : Res :=
  let n := n.val
  onlyIf (s.cdRun && bitOf (s.reg Reg.SAFE_LINES).toNat n && s.bit (Reg.GDV_STAT n) Fld.GDV_STAT_H_ILINE) s fun s =>
    let s := (s.setBit (Reg.GDV_STAT n) Fld.GDV_STAT_EREMOVED false).setHold n Fld.GDV_STAT_H_ILINE false
    s.updDrv n fun d => { d with guardEnd := some (s.now + us 10), openAfter := false, lineOffAt := none }

/-- ILINE_RELEASE_GUARD_END (R137). -/
def execIlineReleaseGuardEnd (n : Slot) (s : State) : Res :=
  let n := n.val
  match (s.drv n).guardEnd with
  | some t => onlyIf (s.cdRun && Nat.ble t s.now) s fun s => s.updDrv n fun d => { d with guardEnd := none }
  | none => .next s

/-! ### Slot commands (R126, R139, R140, R144, R146) -/

/-- STAT.CMDRES, and CMDERR where the command was refused. -/
def State.gdvResult (s : State) (n res : Nat) : State :=
  (s.setFld (Reg.GDV_STAT n) Fld.GDV_STAT_CMDRES res).raiseIf (res != rcDONE && res != rcPENDING) (.gdv n) 14

/-- The condition of a slot-local hold is absent (R139). -/
def State.holdGone (s : State) (n : Nat) (f : Field) : Bool :=
  let d := s.drv n
  if f = Fld.GDV_STAT_H_BIAS then s.bit (Reg.GDV_STAT n) Fld.GDV_STAT_BIASOK_H && s.bit (Reg.GDV_STAT n) Fld.GDV_STAT_BIASOK_L
  else if f = Fld.GDV_STAT_H_LINK then d.linkUp && s.since d.linkSince (ms 1)
  else if f = Fld.GDV_STAT_H_MOC then !d.mocBeyond && (d.normalMoc || d.override)
  else !(s.gate n .high).dsatUp && !(s.gate n .low).dsatUp && (d.normalSince || d.override)

/-- CLEAR_HOLD (R139). -/
def State.cmdClearHold (s : State) (n : Nat) : State :=
  if s.switching n || s.bit (Reg.GDV_STAT n) Fld.GDV_STAT_H_FAILED then s.gdvResult n rcCOND
  else
    let s := [Fld.GDV_STAT_H_DSAT, Fld.GDV_STAT_H_MOC, Fld.GDV_STAT_H_BIAS, Fld.GDV_STAT_H_LINK].foldl
      (fun u f => if u.bit (Reg.GDV_STAT n) f && u.holdGone n f then u.setHold n f false else u) s
    if s.holdBits n % 16 = 0 then s.gdvResult n rcDONE else s.gdvResult n rcCOND

/-- RUN_DIAG (R144). DESIGN CHOICE (log 85): the manual gives no result for one while a diagnosis of the slot runs; it returns BUSY and the
diagnosis goes on; unsafe for a claim on that result. -/
def State.cmdRunDiag (s : State) (n : Nat) : State :=
  let ok := ((s.dev == stSTANDBY || s.dev == stARMED) && !s.switching n) ||
    (s.dev == stRUN && (s.sstate n == 3 || s.sstate n == 4) && (s.clusterOf n).any fun k => !s.isGfi k)
  if !ok then s.gdvResult n rcSTATE
  else if (s.drv n).diagAt.isSome then s.gdvResult n rcBUSY
  else (s.startDiag n).gdvResult n rcDONE

/-- ADAPT_RESET (R126). -/
def State.cmdAdaptReset (s : State) (n : Nat) : State :=
  let reset (g : Gate) : Gate := { g with pOn := none, pOff := none }
  ((s.updGate n .high reset).updGate n .low reset).gdvResult n rcDONE

/-- CLEAR_FAILED (R140). -/
def State.cmdClearFailed (s : State) (n : Nat) : State :=
  if !s.commissioning || s.switching n then s.gdvResult n rcCOND
  else
    let s := s.updDrv n fun d => { d with failed := false, fcount := 0 }
    let s := (s.setFld (Reg.GDV_STAT n) Fld.GDV_STAT_FCOUNT 0).setHold n Fld.GDV_STAT_H_FAILED false
    let s := s.setDiagHold n true
    let s := if s.bit (Reg.GDV_STAT n) Fld.GDV_STAT_H_DIAG then s.phaseLostOf n else s
    (s.logSafety 0x32 n s.sessionKey).gdvResult n rcDONE

/-- CLEAR_HOLD: from the host, or the owning triplet. -/
def execClearHold (who : Party) (n : Slot) (s : State) : Res :=
  let n := n.val
  atReg (Reg.GDV_CMD n) (Nat.blt n s.variant.slots)
      (s.cdRun && s.ownsSlot who n) s fun s => s.cmdClearHold n
/-- RUN_DIAG. -/
def execRunDiag (n : Slot) (s : State) : Res :=
  atReg (Reg.GDV_CMD n.val) (Nat.blt n.val s.variant.slots) s.cdRun s fun s => s.cmdRunDiag n.val
/-- ADAPT_RESET. -/
def execAdaptReset (n : Slot) (s : State) : Res :=
  atReg (Reg.GDV_CMD n.val) (Nat.blt n.val s.variant.slots) s.cdRun s fun s => s.cmdAdaptReset n.val
/-- CLEAR_FAILED. -/
def execClearFailed (n : Slot) (s : State) : Res :=
  atReg (Reg.GDV_CMD n.val) (Nat.blt n.val s.variant.slots) s.cdRun s fun s => s.cmdClearFailed n.val

/-! ### Commits (R120, R124, R126) -/

/-- A write of a profile or adaptation register is committed, with a new value or the old one: p returns to PLT_INIT (R126). -/
def State.gdvRewrite (s : State) (a : Nat) : State :=
  let n := (a - 0x18000) / 0x200
  let on (g : Gate) : Gate := { g with pOn := none }
  let off (g : Gate) : Gate := { g with pOff := none }
  if !(Nat.ble 0x18000 a && Nat.blt a 0x1B000) then s
  else match (a - 0x18000) % 0x200 with
    | 0x10 | 0x20 => s.updGate n .high on
    | 0x14 | 0x24 => s.updGate n .high off
    | 0x18 | 0x28 => s.updGate n .low on
    | 0x1C | 0x2C => s.updGate n .low off
    | _ => s

/-- What a committed change of a GDV register does beyond the register: `a` is its offset, `old` its value before. -/
def State.gdvCommit (s : State) (a : Nat) (old : Word) : State :=
  let n := (a - 0x18000) / 0x200
  let keep (l : List (Nat × Word)) : List (Nat × Word) := (l.filter fun p => Nat.blt s.tb (p.1 + 16)) ++ [(s.tb, old)]
  let prof (d : Side) (rising : Bool) : State :=
    s.updGate n d fun g => if rising then { g with oldOn := keep g.oldOn } else { g with oldOff := keep g.oldOff }
  let bias (d : Side) : State :=
    (s.setBit (Reg.GDV_STAT n) (biasOk d) false).updGate n d fun g => { g with armed := false, suspended := g.armed || g.suspended, railIn := none }
  match (a - 0x18000) % 0x200 with
  | 0x04 => bias .high
  | 0x08 => bias .low
  | 0x10 => prof .high true
  | 0x14 => prof .high false
  | 0x18 => prof .low true
  | 0x1C => prof .low false
  | _ => s

end Sys2Proof.Machine
end

