-- ==== Sys2Proof/Machine/Clusters.lean ====
section
/-!
DEFINITION. Clusters and regions (R150–R163): the cluster commands, the region measurement and its restart, neutral-point balancing,
grid measurement and the setpoint exchange.
-/

namespace Sys2Proof.Machine

/-! ### Cluster commands (R151) -/

/-- CLU_k_STAT.CMDRES, and CMDERR where the command was refused. -/
def State.cluResult (s : State) (k res : Nat) : State :=
  (s.setFld (Reg.CLU_STAT k) Fld.CLU_STAT_CMDRES res).raiseIf (res != rcDONE) (.clu k) 7

/-- A command of a cluster is executed: one at a time, so that one which arrives while a PAUSE runs returns BUSY (R151). -/
def State.cluExec (s : State) (k : Nat) (f : State → State) : State :=
  if s.cstate k = csRUN ∧ (s.cluster k).pausing then s.cluResult k rcBUSY else f s

/-- The shared reference of a cluster's group (R172). -/
def State.groupRef (s : State) (k : Nat) : ShareRef :=
  if s.bit (Reg.CLU_CFG k) Fld.CLU_CFG_SYSGRP then s.sys.g1 else s.sys.g0

/-- A cluster that is paralleled across modules. -/
def State.sysPar (s : State) (k : Nat) : Bool := s.bit (Reg.CLU_CFG k) Fld.CLU_CFG_SYSPAR

/-- The conditions of ENABLE that lead to COND (R151, R159). -/
def State.enableOk (s : State) (k : Nat) : Bool :=
  s.ctype k != 0 && s.fld (Reg.CLU_REG_STAT (s.regionOf k)) Fld.CLU_REG_STAT_RSTATE == 0 &&
    (s.slotsOf k).all (fun n => s.holdBits n == 0) &&
    (!s.sysPar k || (s.bit Reg.CLU_SYS_STAT Fld.CLU_SYS_STAT_MEMBER && s.fld Reg.EDG_ALIGN_STAT Fld.EDG_ALIGN_STAT_STATE == 2 &&
      (s.groupRef k).valid)) &&
    (s.ctype k != tyGFI3 || s.fld (Reg.CLU_NPSRC k) Fld.CLU_NPSRC_SCALE != 0)

/-- A mask of `n` ones. -/
def ones (n : Nat) : Nat := 2 ^ n - 1

/-- The phases of a DC cluster as ENABLE leaves them: all healthy and active, m = h (R184, R188). -/
def State.freshPhases (s : State) (k : Nat) : State :=
  let all := ones (s.slotsOf k).length
  let s := s.setFld (Reg.CLU_DC_STAT k) Fld.CLU_DC_STAT_HEALTHY all
  let s := (s.setActive k all).deratePhase k false
  let s := s.updDc k fun d =>
    { d with ssAt := some s.now, ssV0 := none, ovl := 0, dropAt := none, addAt := none, req := none, dlcOn := false, pPrev := 0, vPrev := 0,
             iPrev := 0, dir := 1, mpptAt := s.now, sumP := 0, sumV := 0, sumI := 0, cnt := 0, swLast := s.now, swDue := false }
  (s.setFld (Reg.CLU_DC_STAT k) Fld.CLU_DC_STAT_PLAUS_RUN 0).showIlim k

/-- The effect of ENABLE: EN on every active slot, STARTING (R151). RIDE begins anew (log 86). -/
def State.startCluster (s : State) (k : Nat) : State :=
  let s := s.updBlk k fun b => { b with st := .normal, since := [], ramp := 65536, lastAt := s.now }
  let s := if s.isGfi k then s else (s.freshPhases k).updChg k fun c =>
    { c with sinceEn := false, wait := c.wait.map fun x => (x.1, x.2.1, false) }
  let s := s.setCState k csSTARTING
  let s := s.each (s.slotsOf k) fun u n => (u.setBit (Reg.EDG_CTRL n) Fld.EDG_CTRL_EN true).orderStart n false
  s.cluFollow k

/-- ENABLE (R151). -/
def State.cmdEnable (s : State) (k : Nat) : State := s.cluExec k fun s =>
  if !(s.dev == stARMED || s.dev == stRUN) || s.cstate k != csOFF then s.cluResult k rcSTATE
  else if s.enableOk k then (s.startCluster k).cluResult k rcDONE
  else s.cluResult k rcCOND

/-- The effect of DISABLE: every slot stops at its next carrier zero; STOPPING, then OFF (R151, R195). -/
def State.stopNormal (s : State) (k : Nat) : State :=
  let s := (s.leaveRun k 0x0C).updCluster k fun c => { c with pausing := false }
  let s := s.setCState k csSTOPPING
  let s := s.each (s.slotsOf k) fun u n => (u.setBit (Reg.EDG_CTRL n) Fld.EDG_CTRL_EN false).orderStop n 0
  s.cluFollow k

/-- DISABLE (R151). -/
def State.cmdDisable (s : State) (k : Nat) : State := s.cluExec k fun s =>
  let c := s.cstate k
  if c = csSTARTING || c = csRUN || c = csPAUSED || c = csPORT_OPEN then (s.stopNormal k).cluResult k rcDONE
  else s.cluResult k rcSTATE

/-- PAUSE (R151): both channels of every slot off at the next carrier zero; owner only. -/
def State.cmdPause (s : State) (k : Nat) (owner : Bool) : State := s.cluExec k fun s =>
  if s.cstate k != csRUN then s.cluResult k rcSTATE
  else if !owner then s.cluResult k rcCOND
  else
    let s := (s.dropSweep k).updCluster k fun c => { c with pausing := true }
    let s := s.each ((s.slotsOf k).filter s.switching) fun u n => u.orderStop n 3
    (s.cluFollow k).cluResult k rcDONE

/-- RESUME (R151): the slots restart under R101 without step-current edges; owner only. -/
def State.cmdResume (s : State) (k : Nat) (owner : Bool) : State := s.cluExec k fun s =>
  if s.cstate k != csPAUSED then s.cluResult k rcSTATE
  else if !owner then s.cluResult k rcCOND
  else
    let s := s.setCState k csRUN
    let live := (s.slotsOf k).filter fun n =>
      (s.sstate n == 3 || s.sstate n == 0) && s.bit (Reg.EDG_CTRL n) Fld.EDG_CTRL_EN && (s.isGfi k || bitOf (s.activeMask k) (s.posOf k n))
    (s.each live fun u n => u.orderStart n true).cluResult k rcDONE

/-- A supervised temperature of a cluster is above its trip threshold (R265). -/
def State.thermTripped (s : State) (k : Nat) : Bool :=
  (s.slotsOf k).any fun n => s.thm.jtrip.contains n || s.thm.ntrip.contains (0x40 + n)

/-- The cause of the stop of a cluster is absent (R151). -/
def State.stopCauseGone (s : State) (k : Nat) : Bool :=
  let c := s.fld (Reg.CLU_STAT k) Fld.CLU_STAT_CAUSE
  if (s.cluster k).byShare then (s.groupRef k).valid
  else if c = scREGION then s.fld (Reg.CLU_REG_STAT (s.regionOf k)) Fld.CLU_REG_STAT_RSTATE == 0
  else if c = scPACKAGE then s.dev != stSAFE && s.dev != stLOCKOUT
  else if c = scSTALE then (s.slotsOf k).all fun n => !s.invalid (s.slotSrc n)
  else if c = scTHERMAL then !s.thermTripped k
  else if c = scFENCE then !s.sys.fenced
  else true

/-- H_ORDER cleared on every slot of a cluster, which enters OFF (R151, R154). -/
def State.clearOrders (s : State) (k : Nat) : State :=
  let s := s.each (s.slotsOf k) fun u n => u.setHold n Fld.GDV_STAT_H_ORDER false
  (s.updCluster k fun c => { c with byRegion := false }).setCState k csOFF

/-- RESTART (R151, R193). -/
def State.cmdRestart (s : State) (k : Nat) : State := s.cluExec k fun s =>
  if s.cstate k != csSAFE_STOPPED then s.cluResult k rcSTATE
  else if s.bit (Reg.CLU_DC_STAT k) Fld.CLU_DC_STAT_RETRY_PEND then s.cluResult k rcBUSY
  else if s.bit (Reg.CLU_DC_STAT k) Fld.CLU_DC_STAT_SS_LATCH || !s.stopCauseGone k then s.cluResult k rcCOND
  else (s.clearOrders k).cluResult k rcDONE

/-- Who commands a cluster: the host, or its owning loop triplet (R151). -/
def State.mayCommand (s : State) (who : Party) (k : Nat) : Bool :=
  s.cdRun && Nat.blt k s.variant.clusters && (who == .host || s.ownerCode k == partyCode who)

/-- A command in CLU_k_CMD (R151). -/
def cluCommand (who : Party) (k : Nat) (s : State) (f : State → State) : Res :=
  atReg (Reg.CLU_CMD k) (Nat.blt k s.variant.clusters) (s.mayCommand who k) s f

/-- ENABLE. -/
def execEnable (who : Party) (k : Clu) (s : State) : Res := cluCommand who k.val s fun s => s.cmdEnable k.val
/-- DISABLE. -/
def execDisable (who : Party) (k : Clu) (s : State) : Res := cluCommand who k.val s fun s => s.cmdDisable k.val
/-- PAUSE. -/
def execPause (who : Party) (k : Clu) (s : State) : Res :=
  cluCommand who k.val s fun s => s.cmdPause k.val (who != .host)
/-- RESUME. -/
def execResume (who : Party) (k : Clu) (s : State) : Res :=
  cluCommand who k.val s fun s => s.cmdResume k.val (who != .host)
/-- RESTART. -/
def execRestart (who : Party) (k : Clu) (s : State) : Res := cluCommand who k.val s fun s => s.cmdRestart k.val

/-! ### Regions (R154) -/

/-- CLU_REGg_STAT bits 31:16: link voltage, 0.1 V (R179). -/
def Fld.CLU_REG_STAT_VLINK : Field := ⟨16, 16⟩

/-- Any slot of a cluster of a region switches. -/
def State.regionSwitching (s : State) (g : Nat) : Bool :=
  s.clus.any fun k => s.ctype k != 0 && s.regionOf k == g && s.cluSwitching k

/-- The region is configured (R179). -/
def State.regionOn (s : State) (g : Nat) : Bool := s.fld (Reg.CLU_REG_STAT g) Fld.CLU_REG_STAT_RSTATE != 7

/-- A sample of a region's link voltage (R154): shown, judged against VMAX and VMIN, and the reaction at the crossing sample. -/
def State.regionSample (s : State) (g : Nat) (code : Int) : State :=
  let uv := code * s.fld (Reg.CLU_REG_VCFG g) Fld.CLU_REG_VCFG_SCALE
  let vmax : Int := s.fld (Reg.CLU_REG_VLIM g) Fld.CLU_REG_VLIM_VMAX * 1000000
  let vmin : Int := s.fld (Reg.CLU_REG_VLIM g) Fld.CLU_REG_VLIM_VMIN * 1000000
  let s := s.setFld (Reg.CLU_REG_STAT g) Fld.CLU_REG_STAT_VLINK (satU16 (divNear uv 100000))
  let inside := decide (vmin ≤ uv) && decide (uv ≤ vmax)
  let high := decide (vmax < uv)
  let bad := high || (decide (uv < vmin) && s.regionSwitching g)
  let was := (s.region g).beyond
  let s := s.updRegion g fun r =>
    { r with vUv := uv, sampleAt := s.now, lost := false, beyond := bad && s.regionOn g, insideAt := if inside then some (r.insideAt.getD s.now) else none }
  if s.regionOn g && bad && !was then s.regionReaction g (if high then 1 else 2) else s

/-- REGION_MEAS_TIMEOUT (R154): no sample of the source for 4,000 ticks. -/
def execRegionMeasTimeout (g : Rgn) (s : State) : Res :=
  let g := g.val
  onlyIf (s.cdRun && Nat.blt g s.variant.regions && s.regionOn g && !(s.region g).lost && s.since (s.region g).sampleAt 4000) s fun s =>
    (s.updRegion g fun r => { r with lost := true, insideAt := none }).regionReaction g 3

/-- REGION_RESTART (R154): accepted once the voltage has been inside its limits for 10 ms and no cluster of the region switches. -/
def State.cmdRegionRestart (s : State) (g : Nat) : State :=
  let ok := s.regionOn g && !s.regionSwitching g && (match (s.region g).insideAt with
    | some t => s.since t (ms 10)
    | none => false)
  if ok then
    let s := s.setFld (Reg.CLU_REG_STAT g) Fld.CLU_REG_STAT_RSTATE 0
    let s := s.each (s.clus.filter fun k => (s.cluster k).byRegion && s.regionOf k == g && s.cstate k == csSAFE_STOPPED) State.clearOrders
    s.setFld (Reg.CLU_REG_STAT g) Fld.CLU_REG_STAT_CMDRES rcDONE
  else s.setFld (Reg.CLU_REG_STAT g) Fld.CLU_REG_STAT_CMDRES rcCOND

/-- REGION_RESTART. -/
def execRegionRestart (g : Rgn) (s : State) : Res :=
  atReg (Reg.CLU_REG_CMD g.val) (Nat.blt g.val s.variant.regions) s.cdRun s fun s => s.cmdRegionRestart g.val

/-! ### Neutral-point balancing (R158, R159) -/

/-- NP_TARGET_WRITE (R159): the owner's target, in 0.1 V; it acts from the next acting point, which reads it. -/
def execNpTargetWrite (who : Party) (k : Clu) (v : Int) (s : State) : Res :=
  let k := k.val
  atReg (Reg.CLU_NPTGT k) (Nat.blt k s.variant.clusters) (s.cdRun && s.ctype k == tyGFI3 && s.ownerCode k == partyCode who) s fun s =>
    s.setFld (Reg.CLU_NPTGT k) Fld.CLU_NPTGT_NP_TARGET (unsigned 16 v)

/-- The phase reference 2d − 1 with an offset, clamped to ±(2 DMAX − 1), in 2^-16 (R156). -/
def State.offsetRef (s : State) (k ph : Nat) (off : Int) : Int :=
  match s.slotAt k (3 * ph) with
  | none => 0
  | some n =>
    let lim : Int := 2 * s.fld (Reg.EDG_DUTYLIM n) Fld.EDG_DUTYLIM_DMAX - 65536
    clampI (-lim) lim (2 * ((s.reg (Reg.EDG_DUTY n)).toNat % 65536) - 65536 + off)

/-- The O-state charge drawn from NP in one period with an offset, in codes × 2^-16 (R158). -/
def State.npCharge (s : State) (k : Nat) (off : Int) : Int :=
  [0, 1, 2].foldl (fun t ph =>
    match s.slotAt k (3 * ph) with
    | none => t
    | some n => t + signed 16 (s.reg (Reg.EDG_EST n)).toNat * (65536 - ((s.offsetRef k ph off).natAbs : Int))) 0

/-- CLU_k_NPSTAT (R178): err, v0 in 2^-14, s. -/
def npWord (err : Int) (v0 : Nat) (sgn : Int) : Nat :=
  satS16 err * 65536 + min (v0 / 4) 16383 * 4 + (if sgn = 1 then 1 else if sgn = -1 then 2 else 0)

/-- The neutral-point modulator computes its offset (R158); v0 is kept in 2^-16. -/
def State.npBalance (s : State) (k : Nat) : State :=
  if !(s.cstate k == csSTARTING || s.cstate k == csRUN) then s
  else
    let np := s.reg (Reg.CLU_NP k)
    let tgt := signed 16 (s.fld (Reg.CLU_NPTGT k) Fld.CLU_NPTGT_NP_TARGET)
    let err := divNear (2 * (s.npm k).vNp - (s.region (s.regionOf k)).vUv) 200000 - tgt
    let want := Fld.CLU_NP_GAIN.get np * err.natAbs
    let top := Fld.CLU_NP_VMAX.get np * 256
    let v0 := min want top
    let qp := s.npCharge k v0
    let qm := s.npCharge k (-(v0 : Int))
    let sgn : Int :=
      if err.natAbs ≤ Fld.CLU_NP_DEAD.get np || qp = qm then 0
      else if 0 < err then (if qm < qp then 1 else -1)
      else (if qp < qm then 1 else -1)
    let sat := decide (top < want) || (sgn != 0 && (if sgn = 1 then qp else qm).sign == (s.npCharge k 0).sign)
    let s := s.updNpm k fun m => { m with sgn, v0 }
    (s.setNat (Reg.CLU_NPSTAT k) (npWord err v0 sgn)).raiseIf sat (.clu k) 2

/-! ### Grid measurement (R160, R161) -/

/-- The PTP time in 2^-32 ns mapped from a TB value in fine steps (R161). -/
def State.ptpAt (s : State) (fine : Nat) : Nat :=
  s.ptp - (s.tbFine - fine) * s.ptpAdd / 16

/-- What RIDE does in the state a call has led to (R166): the current ceases or the cluster pauses, it resumes, it is disabled with a notice to
MT. -/
def State.rideAct (s : State) (k : Nat) (p : RidePar) (old : RideSt) : State :=
  let st := (s.blk k).st
  if st = .recover ∧ p.cessMode = true ∧ s.cstate k = csPAUSED then s.cmdResume k true
  else if st = old then s
  else if st = .cess then
    if p.cessMode then s.cmdPause k true
    else s.each (s.slotsOf k) fun u n => u.setFld (Reg.EDG_REF n) Fld.EDG_REF_IREF 0
  else if st = .tripReq then
    (if [csSTARTING, csRUN, csPAUSED].contains (s.cstate k) then s.stopNormal k else s).device 1 0x02 0x100 (Reg.CLU_STAT k)
  else s

/-- A call of RIDE on an update of the grid measurement, where the control code uses the block and SP4 bit 0 enables it (R163, R166). -/
def State.rideCall (s : State) (k : Nat) (mags : Option (Nat × Nat × Nat)) : State :=
  match mags, (s.blk k).ride with
  | some (a, b, c), some p =>
    if bitOf ((s.cluster k).spActive.getD 4 0) 0 then
      let old := (s.blk k).st
      (s.updBlk k fun x => x.next p s.now (s.gmu k).freq (min a (min b c)) (max a (max b c))).rideAct k p old
    else s
  | _, _ => s

/-- The measured outputs of a grid measurement unit (R160, R161). -/
def State.gmuUpdate (s : State) (k : Nat) (u : GmuOut) : State :=
    let cfg := s.reg (Reg.CLU_GMU_CFG k)
    let good := Nat.ble 40000 u.freq && Nat.ble u.freq 70000
    let s := (if good then s.setNat (Reg.CLU_GMU_FREQ k) u.freq else s).raiseIf (!good) (.clu k) 6
    let s := s.setNat (Reg.CLU_GMU_ROCOF k) (satS16 u.rocof)
    let s := s.setNat (Reg.CLU_GMU_SEQ k) (u.neg % 65536 * 65536 + u.pos % 65536)
    let jump : Int := match (s.gmu k).angle with
      | none => 0
      | some a => signed 16 (unsigned 16 ((u.angle : Int) - a - divNear (u.freq * 65536) 10000000))
    let s := s.setNat (Reg.CLU_GMU_ANGLE k) (u.angle % 65536)
    let s :=
      if Nat.blt (Fld.CLU_GMU_CFG_PJ_TH.get cfg * 65536) (jump.natAbs * 1440) then
        ((s.setNat (Reg.CLU_GMU_PJ k) (satS16 (divNear (jump * 36000) 65536))).raise (.clu k) 4).record (Reg.CLU_FLAGS k) 16
          [k, unsigned 16 (divNear (jump * 36000) 65536), s.ptpSec, s.ptpNsWord]
      else s
    match u.zc with
    | some z =>
      let p := s.ptpAt z
      let s := s.setNat64 (Reg.CLU_GMU_ZC_LO k) (Reg.CLU_GMU_ZC_HI k) z
      let s := s.setNat (Reg.CLU_GMU_ZC_PTPS k) (p / ptpSecond)
      let s := s.setNat (Reg.CLU_GMU_ZC_PTPN k) (p % ptpSecond / 2 ^ 32 + (if s.bit Reg.ETH_PTP_STAT Fld.ETH_PTP_STAT_HOLDOVER then 2 ^ 31 else 0))
      s.updGmu k fun _ => { angle := some u.angle, freq := u.freq, lastZc := z / 16 }
    | none =>
      let two := if Fld.CLU_GMU_CFG_NOM.on cfg then 13333333 else 16000000
      let miss := Nat.ble ((s.gmu k).lastZc + two) s.tb
      (s.updGmu k fun m => { angle := some u.angle, freq := u.freq, lastZc := if miss then s.tb else m.lastZc }).raiseIf miss (.clu k) 5

/-- GMU_UPDATE (R160, R161): at TB multiples of 40,000 ticks; a RIDE block reads what was measured (R166). -/
def execGmuUpdate (k : Clu) (u : GmuOut) (s : State) : Res :=
  let k := k.val
  onlyIf (s.cdRun && Nat.blt k s.variant.clusters && s.isGfi k && s.tb % 40000 == 0) s fun s => (s.gmuUpdate k u).rideCall k u.mags

/-! ### Setpoint exchange (R162, R163) -/

/-- CLU_k_SP_ACK: last picked up, last posted (R178). -/
def spPicked : Field := ⟨16, 16⟩
/-- Last posted. -/
def spPosted : Field := ⟨0, 16⟩

/-- A post of the staged words with a sequence number (R162, R163). -/
def State.postSetpoints (s : State) (k seq : Nat) : State :=
  let set := (List.range 16).map fun i => (s.reg (Reg.CLU_SP k i)).toNat
  let s := s.raiseIf (s.cluster k).spPend.isSome (.clu k) 3
  (s.updCluster k fun c => { c with spPend := some (seq % 65536), spPendSet := set, spFrom := s.tb }).setFld (Reg.CLU_SP_ACK k) spPosted seq

/-- SP_POST (R162). -/
def execSpPost (k : Clu) (seq : Word) (s : State) : Res :=
  atReg (Reg.CLU_SP_POST k.val) (Nat.blt k.val s.variant.clusters) s.cdRun s fun s => s.postSetpoints k.val seq.toNat

/-- SP_PICKUP (R162): the pending set becomes active at the first carrier zero of the cluster that lies 16 ticks or more after the post. -/
def execSpPickup (k : Clu) (s : State) : Res :=
  let k := k.val
  match (s.cluster k).spPend with
  | none => .next s
  | some seq =>
    let z := gridAfter (s.anchor k * 16) (s.cluTsw k) (((s.cluster k).spFrom + 16) * 16)
    onlyIf (s.cdRun && Nat.ble z s.tbFine) s fun s =>
      let s := s.updCluster k fun c => { c with spPend := none, spActive := c.spPendSet }
      (s.setFld (Reg.CLU_SP_ACK k) spPicked seq).setNat (Reg.CLU_SP_TIME k) (z / 16)

end Sys2Proof.Machine
end

