-- ==== Sys2Proof/Machine/SyncBus.lean ====
section
/-!
DEFINITION. The system sync bus (R168–R176) and carrier alignment across modules (R112–R114).
-/

namespace Sys2Proof.Machine

/-- The module takes part in a system (R180). -/
def State.sysOn (s : State) : Bool := s.cdRun && s.bit Reg.CLU_SYS_CFG Fld.CLU_SYS_CFG_SYS_EN
/-- CLU_SYS_STAT.SSTATE. -/
def State.role (s : State) : Nat := s.fld Reg.CLU_SYS_STAT Fld.CLU_SYS_STAT_SSTATE
/-- The role codes (R180). -/
def roLISTEN : Nat := 1
/-- Candidate. -/
def roCANDIDATE : Nat := 2
/-- Leader. -/
def roLEADER : Nat := 3
/-- Follower. -/
def roFOLLOWER : Nat := 4
/-- Fenced. -/
def roFENCED : Nat := 5
/-- CLU_SYS_STAT.SSTATE set; EDG_ALIGN_STAT.LEADER follows it, and a leader reads STATE 0b10 with ERR 0 (R117). -/
def State.setRole (s : State) (v : Nat) : State :=
  let s := s.setFld Reg.CLU_SYS_STAT Fld.CLU_SYS_STAT_SSTATE v
  let s := s.setBit Reg.EDG_ALIGN_STAT Fld.EDG_ALIGN_STAT_LEADER (v == roLEADER)
  if v = roLEADER then (s.setAlign 2).setFld Reg.EDG_ALIGN_STAT Fld.EDG_ALIGN_STAT_ERR 0 else s
/-- This module's ID. -/
def State.ownId (s : State) : Nat := s.fld Reg.CLU_SYS_STAT Fld.CLU_SYS_STAT_MODID
/-- MEMBERS as last received or sent. -/
def State.members (s : State) : Nat := s.fld Reg.CLU_SYS_MEMBERS Fld.CLU_SYS_MEMBERS_MEMBERS
/-- MEMBERS changed; MEMBER follows. -/
def State.setMembers (s : State) (m : Nat) : State :=
  (s.setFld Reg.CLU_SYS_MEMBERS Fld.CLU_SYS_MEMBERS_MEMBERS m).setBit Reg.CLU_SYS_STAT Fld.CLU_SYS_STAT_MEMBER (bitOf m s.ownId)
/-- SEPOCH. -/
def State.sepoch (s : State) : Nat := s.fld Reg.CLU_SYS_STAT Fld.CLU_SYS_STAT_SEPOCH
/-- SEPOCH incremented. -/
def State.nextEpoch (s : State) : State := s.setFld Reg.CLU_SYS_STAT Fld.CLU_SYS_STAT_SEPOCH ((s.sepoch + 1) % 65536)
/-- A healthy module (R170). -/
def State.healthy (s : State) : Bool := (s.dev == stSTANDBY || s.dev == stARMED || s.dev == stRUN) && !s.sys.fenced
/-- The paralleled clusters. -/
def State.parClus (s : State) : List Nat := s.clus.filter fun k => s.ctype k != 0 && s.sysPar k

/-! ### Fencing (R175, R176) -/

/-- The slots of the paralleled clusters. -/
def State.parMask (s : State) : Nat := s.parClus.foldl (fun m k => m ||| (s.reg (Reg.CLU_SLOTS k)).toNat) 0

/-- The module fences itself (R175): every paralleled cluster enters FENCED, and Ringmaster holds the lines of their slots off. A fenced module that
has set JOIN again is fenced anew; any other fenced one stays as it is. -/
def State.fenceSelf (s : State) : State :=
  if s.sys.fenced && !s.sys.join && s.sys.rejoin.isNone then s
  else
    let s := s.updSys fun y => { y with fenced := true, join := false, appeared := false, waiting := false, rejoin := none }
    let s := (s.setRole roFENCED).raise .cluSys 1
    let s := s.each s.parClus fun u k => u.stopCluster k scFENCE csFENCED
    (s.updRm fun r => { r with fenceOff := s.parMask }).linesOff s.parMask

/-- REJOIN is complete (R176 steps 3 and 4): the lines may be released and the paralleled clusters enter SAFE_STOPPED. -/
def State.unfence (s : State) : State :=
  let s := s.updSys fun y => { y with fenced := false, rejoin := none, appeared := true }
  let s := (s.setRole roFOLLOWER).updRm fun r => { r with fenceOff := 0 }
  let s := s.each (s.parClus.filter fun k => s.cstate k == csFENCED) fun u k => u.setCState k csSAFE_STOPPED
  s.rmEvaluate

/-! ### The leader (R169–R171, R174) -/

/-- The module becomes leader (R170): SEPOCH one above the last received, MEMBERS without the old leader; the first leader of a system
starts with MEMBERS holding only itself (R169). -/
def State.becomeLeader (s : State) : State :=
  let lid := s.fld Reg.CLU_SYS_STAT Fld.CLU_SYS_STAT_LID
  let m := if s.sys.heard then putBit (putBit s.members lid false) s.ownId true else 2 ^ s.ownId
  let s := (s.nextEpoch.setFld Reg.CLU_SYS_STAT Fld.CLU_SYS_STAT_LID s.ownId).setMembers m
  let s := s.updSys fun y => { y with waiting := false, silent := 0, missed := 0, heard := true, appeared := true, join := false, rbA := 0, quiet := 0, fresh := true }
  (s.setRole roLEADER).raise .cluSys 0

/-- A leader whose segment A fails read-back twice in a row stops transmitting (R171). -/
def State.readBackA (s : State) (ok : Bool) : State :=
  if s.role != roLEADER then s
  else if ok then s.updSys fun y => { y with rbA := 0 }
  else if s.sys.rbA = 0 then s.updSys fun y => { y with rbA := 1 }
  else ((s.updSys fun y => { y with rbA := 0, quiet := (s.ownId + 1) * 2, silent := 0, missed := 0 }).setRole roLISTEN).raise .cluSys 4

/-- A module whose segment C fails read-back in two rounds in a row fences itself (R171). -/
def State.readBackC (s : State) (ok : Bool) : State :=
  if ok then s.updSys fun y => { y with rbC := 0 }
  else if s.sys.rbC = 0 then s.updSys fun y => { y with rbC := 1 }
  else ((s.updSys fun y => { y with rbC := 0 }).raise .cluSys 4).fenceSelf

/-- The leader reads the status slot of module `m` (R169, R174). -/
def State.leaderSlot (s : State) (m : Nat) (slot : Option SyncSlot) : State :=
  let join := match slot with
    | some c => c.modid.val == m && bitOf c.flags 0
    | none => false
  let live := match slot with
    | some c => c.modid.val == m && c.mepoch == s.sepoch
    | none => false
  if m = s.ownId then s
  else if bitOf s.members m then
    if live then s.updSys fun y => { y with dead := File.set 0 y.dead m 0 }
    else
      let n := File.get 0 s.sys.dead m + 1
      if Nat.ble (s.fld Reg.CLU_SYS_CFG Fld.CLU_SYS_CFG_DEAD_ROUNDS) n then
        (((s.updSys fun y => { y with dead := File.set 0 y.dead m 0, joins := File.set 0 y.joins m 0 }).setMembers
          (putBit s.members m false)).nextEpoch).raise .cluSys 2
      else s.updSys fun y => { y with dead := File.set 0 y.dead m n }
  else if join then
    if File.get 0 s.sys.joins m = 0 then s.updSys fun y => { y with joins := File.set 0 y.joins m 1 }
    else ((s.updSys fun y => { y with joins := File.set 0 y.joins m 0, dead := File.set 0 y.dead m 0 }).setMembers
      (putBit s.members m true)).nextEpoch
  else s.updSys fun y => { y with joins := File.set 0 y.joins m 0 }

/-! ### The shared reference (R172) -/

/-- A group's reference of a module, and its change. -/
def SysBus.group (y : SysBus) (g : Bool) : ShareRef := if g then y.g1 else y.g0
/-- A group's reference given a value. -/
def SysBus.setGroup (y : SysBus) (g : Bool) (r : ShareRef) : SysBus := if g then { y with g1 := r } else { y with g0 := r }

/-- SHARE_HOLD of the clusters of a group. -/
def State.setShareHold (s : State) (g on : Bool) : State :=
  s.each (s.parClus.filter fun k => s.bit (Reg.CLU_CFG k) Fld.CLU_CFG_SYSGRP == g) fun u k =>
    u.setBit (Reg.CLU_STAT k) Fld.CLU_STAT_SHARE_HOLD on

/-- A cycle of one group's reference: a new one takes effect; without a valid one the last is held with its angle advancing, or, with
SHARE_LOSS, the group's cluster stops, with a CAUSE for which the table has no code (a free value). -/
def State.shareCycle (s : State) (g : Bool) (r : Option SyncRef) : State :=
  let old := s.sys.group g
  match r with
  | some r =>
    (s.updSys fun y => y.setGroup g { angle := r.angle, prev := old.angle, id := r.id, iq := r.iq, valid := true, known := true }).setShareHold g false
  | none =>
    let held := s.parClus.any fun k => s.bit (Reg.CLU_CFG k) Fld.CLU_CFG_SYSGRP == g && s.bit (Reg.CLU_STAT k) Fld.CLU_STAT_SHARE_HOLD
    if s.role = roLEADER then s.updSys fun y => y.setGroup g { old with valid := false }
    else if !old.valid && !held then s
    else if s.bit Reg.CLU_SYS_CFG Fld.CLU_SYS_CFG_SHARE_LOSS then
      let s := s.updSys fun y => y.setGroup g { old with valid := false }
      s.each (s.parClus.filter fun k => s.bit (Reg.CLU_CFG k) Fld.CLU_CFG_SYSGRP == g && s.cstate k != csOFF) fun u k =>
        if u.cstate k = csSAFE_STOPPED || u.cstate k = csFENCED then u
        else u.drawn 4 fun v u => (u.safeStop k v).updCluster k fun c => { c with byShare := true }
    else
      let next : ShareRef := { old with angle := (2 * old.angle + 65536 - old.prev % 65536) % 65536, prev := old.angle, valid := false }
      ((s.updSys fun y => y.setGroup g next).setShareHold g true).raiseIf (!held) .cluSys 5

/-! ### Commands -/

/-- A valid header reaches the module (R169, R170, R171, R175): one that excludes it after it has appeared in MEMBERS since it last set JOIN fences
it. -/
def State.header (s : State) (h : SyncHdr) : State :=
  let s := s.raiseIf (h.lid.val != s.fld Reg.CLU_SYS_STAT Fld.CLU_SYS_STAT_LID || s.role == roLEADER) .cluSys 0
  let s := (s.setFld Reg.CLU_SYS_STAT Fld.CLU_SYS_STAT_LID h.lid.val).setFld Reg.CLU_SYS_STAT Fld.CLU_SYS_STAT_SEPOCH (h.sepoch % 65536)
  let s := s.setMembers (h.members % 65536)
  let s := s.updSys fun y => { y with silent := 0, missed := 0, quiet := 0, waiting := false, heard := true }
  let member := bitOf s.members s.ownId
  let pending := s.sys.join || s.sys.rejoin.isSome
  if s.sys.fenced then
    if member && pending then s.updSys fun y => { y with appeared := true, join := false }
    else if s.sys.appeared then s.fenceSelf
    else s
  else if member then (s.updSys fun y => { y with appeared := true, join := false }).setRole roFOLLOWER
  else if s.sys.appeared then s.fenceSelf
  else s.setRole roLISTEN

/-- A cycle without a valid header; while a contending leader keeps quiet the counts of R170 do not run (R171). -/
def State.noHeader (s : State) : State :=
  if s.role = roLEADER then s
  else
    let s := s.updSys fun y => { y with silent := y.silent + 1 }
    if s.sys.quiet != 0 then s.updSys fun y => { y with quiet := y.quiet - 1 }
    else s.updSys fun y => { y with missed := y.missed + 1, waited := if y.waiting then y.waited + 1 else 0 }

/-- The status slot of this module was accepted in one more round since REJOIN (R176). -/
def State.rejoinRound (s : State) : State :=
  match s.sys.rejoin with
  | none => s
  | some n => if Nat.ble 1 n then s.unfence else s.updSys fun y => { y with rejoin := some (n + 1) }

/-! ### Segments (R168) -/

/-- A segment: its bits, and their CRC after them. -/
def sealed (bytes body : Nat) : Nat := body * 65536 + crc16 bytes body
/-- The bits of a segment before its CRC, where the CRC holds. -/
def opened (bytes w : Nat) : Option Nat := if w % 65536 = crc16 bytes (w / 65536) then some (w / 65536) else none

/-- Segment A as a leader drives it: PRE, CIDX, LID, SEPOCH, MEMBERS, and TB at the start of the cycle. -/
def State.formA (s : State) (cidx : Nat) : BitVec 128 :=
  BitVec.ofNat 128 (sealed 14 (((((0xD5 * 16 + cidx) * 16 + s.ownId) * 65536 + s.sepoch) * 65536 + s.members) * 2 ^ 64 + s.tb % 2 ^ 64))
/-- A segment A read: none where PRE or the CRC fails. -/
def readA (w : BitVec 128) : Option SyncHdr :=
  match opened 14 w.toNat with
  | some b =>
    if b / 2 ^ 104 = 0xD5 then some ⟨b / 2 ^ 100 % 16, Fin.ofNat 16 (b / 2 ^ 96), b / 2 ^ 80 % 65536, b / 2 ^ 64 % 65536⟩ else none
  | none => none

/-- A group's ANGLE, ID and IQ. -/
def refBits (r : SyncRef) : Nat := (r.angle % 65536 * 65536 + unsigned 16 r.id) * 65536 + unsigned 16 r.iq
/-- A group's reference read from its 48 bits. -/
def refOf (valid : Bool) (v : Nat) : SyncRef := ⟨valid, v / 2 ^ 32 % 65536, signed 16 (v / 65536), signed 16 v⟩
/-- Segment B as a leader drives it: VALID and the reference of each group (R172). -/
def formB (g : SyncRef × SyncRef) : BitVec 120 :=
  BitVec.ofNat 120 (sealed 13 (((b2n g.1.valid + 2 * b2n g.2.valid) * 2 ^ 48 + refBits g.1) * 2 ^ 48 + refBits g.2))
/-- A segment B read. -/
def readB (w : BitVec 120) : Option (SyncRef × SyncRef) :=
  (opened 13 w.toNat).map fun b => (refOf (bitOf b 96) (b / 2 ^ 48), refOf (bitOf b 97) b)

/-- A paralleled cluster of a group runs. -/
def State.groupRuns (s : State) (g : Bool) : Bool :=
  s.parClus.any fun k => s.bit (Reg.CLU_CFG k) Fld.CLU_CFG_SYSGRP == g && s.cstate k == csRUN
/-- Segment C as this module drives it: its ID, the latest SEPOCH it received, the device state, JOIN, ALIGNED, G0_RUN, G1_RUN, and its shares. -/
def State.formC (s : State) (share : Nat × Nat) : BitVec 64 :=
  let flags := b2n s.sys.join + 2 * b2n (s.fld Reg.EDG_ALIGN_STAT Fld.EDG_ALIGN_STAT_STATE == 2) + 4 * b2n (s.groupRuns false) + 8 * b2n (s.groupRuns true)
  BitVec.ofNat 64 (sealed 6 (((((s.ownId * 65536 + s.sepoch) * 16 + s.dev % 16) * 256 + flags) * 256 + share.1 % 256) * 256 + share.2 % 256))
/-- A segment C read. -/
def readC (w : BitVec 64) : Option SyncSlot :=
  (opened 6 w.toNat).map fun b => ⟨Fin.ofNat 16 (b / 2 ^ 44), b / 2 ^ 28 % 65536, b / 2 ^ 24 % 16, b / 2 ^ 16 % 256⟩

/-! ### The cycle -/

/-- The references that the leader's SHARE block gives (R172): those of its own outer loop, which starts from the last ones received. -/
def State.shareOut (s : State) (own : SyncRef × SyncRef) : SyncRef × SyncRef :=
  let from' (r : ShareRef) (o : SyncRef) : SyncRef :=
    if s.sys.fresh && r.known then { o with angle := (2 * r.angle + 65536 - r.prev % 65536) % 65536, id := r.id, iq := r.iq } else o
  (from' s.sys.g0 own.1, from' s.sys.g1 own.2)

/-- A status slot with a stale MEPOCH is dropped and counted; the leader reads the JOIN bit of a module outside MEMBERS all the same (R174). -/
def State.staleSlot (s : State) (c : Option SyncSlot) : State :=
  s.raiseIf (c.any fun x => x.mepoch != s.sepoch && !(s.role == roLEADER && !bitOf s.members x.modid.val && bitOf x.flags 0)) .cluSys 3

/-- SYNC_CYCLE (R168–R176): one cycle of the sync bus as this module sees it. A leader drives segments A and B from its own TB, the module that CIDX
names drives segment C; each reads back what it drives. A module that hears no header counts the cycle index on (log 87). -/
def execSyncCycle (c : SyncIn) (s : State) : Res :=
  let lead := s.role == roLEADER
  let hdr := c.segA.bind readA
  onlyIf (s.sysOn && (!lead || s.tb % 12800 == 0)) s fun s =>
    let cidx := if lead then s.tb / 12800 % 16 else match hdr with
      | some h => h.cidx
      | none => (s.sys.cidx + 1) % 16
    let mine := cidx == s.ownId
    let refs := s.shareOut c.own
    let outA := if lead then some (s.formA cidx) else none
    let outB := if lead then some (formB refs) else none
    let outC := if mine then some (s.formC c.share) else none
    let slot := if mine then none else c.segC.bind readC
    let s := s.updSys fun y => { y with cidx, outA, outB, outC, fresh := y.fresh && !lead }
    let bad := !lead && ((c.segA.any fun w => (opened 14 w.toNat).isNone) || (c.segB.any fun w => (opened 13 w.toNat).isNone)) ||
      !mine && (c.segC.any fun w => (opened 6 w.toNat).isNone)
    let s := (s.raiseIf bad .cluSys 6).readBackA (c.segA == outA)
    let s := if mine then s.readBackC (c.segC == outC) else s
    let s := match hdr with
      | some h => if s.role == roLEADER && h.lid.val == s.ownId then s else s.header h
      | none => s.noHeader
    let s := s.staleSlot slot
    let led := s.role == roLEADER
    let s := if led then s.leaderSlot cidx slot else s
    let given (f : SyncRef × SyncRef → SyncRef) : Option SyncRef :=
      match if led then some refs else if hdr.isSome then c.segB.bind readB else none with
      | some p => if (f p).valid then some (f p) else none
      | none => none
    let s := (s.shareCycle false (given (·.1))).shareCycle true (given (·.2))
    if mine && c.segC == outC && hdr.isSome && bitOf s.members s.ownId then s.rejoinRound else s

/-- LEADER_LOSS (R170): LEAD_TO cycles in a row without a valid header; a healthy member begins its election wait. -/
def execLeaderLoss (s : State) : Res :=
  onlyIf (s.sysOn && s.role != roLEADER && !s.sys.waiting && s.healthy && (bitOf s.members s.ownId || !s.sys.heard) &&
      Nat.ble (s.fld Reg.CLU_SYS_CFG Fld.CLU_SYS_CFG_LEAD_TO) s.sys.missed) s fun s =>
    (s.updSys fun y => { y with waiting := true, waited := 0 }).setRole roCANDIDATE

/-- ELECTION_WAIT_END (R170): (MODID + 1) × 2 cycles have passed without a header. -/
def execElectionWaitEnd (s : State) : Res :=
  onlyIf (s.sysOn && s.sys.waiting && s.healthy && Nat.ble ((s.ownId + 1) * 2) s.sys.waited) s State.becomeLeader

/-- ISOLATE_EXPIRY (R175): ISOLATE cycles without a valid header, after one has been heard. -/
def execIsolateExpiry (s : State) : Res :=
  onlyIf (s.sysOn && s.role != roLEADER && s.sys.heard && Nat.ble (s.fld Reg.CLU_SYS_CFG Fld.CLU_SYS_CFG_ISOLATE) s.sys.silent) s State.fenceSelf

/-- The result of REJOIN (R180). -/
def State.sysResult (s : State) (res : Nat) : State := (s.setNat Reg.CLU_SYS_RES res).raiseIf (res != rcDONE) .cluSys 7

/-- REJOIN (R176). -/
def State.cmdRejoin (s : State) : State :=
  if !s.sys.fenced || !(s.dev == stSTANDBY || s.dev == stARMED) then s.sysResult rcSTATE
  else if (s.parClus.all fun k => s.cstate k == csFENCED || s.cstate k == csOFF) && s.sys.silent == 0 && s.sys.heard &&
      s.fld Reg.EDG_ALIGN_STAT Fld.EDG_ALIGN_STAT_STATE == 2 then
    (s.updSys fun y => { y with join := true, rejoin := some 0, appeared := false }).sysResult rcDONE
  else s.sysResult rcCOND

/-- REJOIN. -/
def execRejoin (s : State) : Res := onlyIf s.cdRun s State.cmdRejoin

/-! ### Carrier alignment (R112–R114) -/

/-- A TB value, in units of `u` per tick, moved by a step in ticks. -/
def moveBy (d : Int) (u t : Nat) : Nat := ((t : Int) + d * u).toNat

/-- Every variable of a file changed. -/
def mapVal {κ α : Type} (m : File κ α) (f : α → α) : File κ α := List.map (fun p : κ × α => (p.1, f p.2)) m

/-- A monitor's times moved. -/
def TrMon.move (d : Int) (r : TrMon) : TrMon :=
  { next := moveBy d 1 r.next, jobRel := moveBy d 1 r.jobRel, late := r.late.map fun (l : Nat × Nat) => (l.1, moveBy d 1 l.2) }
/-- A pair's tick moved. -/
def movePair {α : Type} (d : Int) (x : Nat × α) : Nat × α := (moveBy d 1 x.1, x.2)
/-- An edge engine's times moved. -/
def Edge.move (d : Int) (e : Edge) : Edge :=
  { e with shadow := List.map (movePair d) e.shadow, perStart := moveBy d 16 e.perStart, prevStart := moveBy d 16 e.prevStart,
           peSince := moveBy d 16 e.peSince, carrierOld := e.carrierOld.map fun (c : Word × Nat) => (c.1, moveBy d 16 c.2),
           held := e.held.map fun (h : Nat × Nat) => (h.1, if h.2 = 0 then 0 else moveBy d 16 h.2),
           stopTo := e.stopTo.map fun (p : Nat × Nat) => (moveBy d 16 p.1, p.2), startFrom := moveBy d 1 e.startFrom,
           acts := List.map (moveBy d 16) e.acts, actSeen := Option.map (moveBy d 16) e.actSeen, lastAct := moveBy d 16 e.lastAct,
           tOnH := moveBy d 16 e.tOnH, tOnL := moveBy d 16 e.tOnL, tOffH := moveBy d 16 e.tOffH, tOffL := moveBy d 16 e.tOffL }
/-- A channel's commit ticks moved (R124). -/
def Gate.move (d : Int) (g : Gate) : Gate := { g with oldOn := List.map (movePair d) g.oldOn, oldOff := List.map (movePair d) g.oldOff }
/-- A DC cluster's times moved. -/
def Dc.move (d : Int) (x : Dc) : Dc :=
  { x with instant := Option.map (moveBy d 16) x.instant, energyAt := moveBy d 16 x.energyAt,
           req := match x.req with
             | some (p, a, td, ta) => some (p, a, td, Option.map (moveBy d 1) ta)
             | none => none }
/-- A ledger's times moved; its open interval ends at the next multiple of 1 s. -/
def Ldg.move (d : Int) (tb : Nat) (l : Ldg) : Ldg :=
  { l with held := l.held.map fun (h : HeldRec) => { h with close := moveBy d 1 h.close }, tc := moveBy d 1 l.tc, outAt := Option.map (moveBy d 1) l.outAt,
           endAt := (moveBy d 1 tb / 400000000 + 1) * 400000000 }

/-- CLK_TRm_RELEASE (R22). -/
def State.trRelease (s : State) (m : Nat) : Nat := s.reg64 (Reg.CLK_TR_RELEASE_LO m) (Reg.CLK_TR_RELEASE_HI m)

/-- Every future TB time that the device holds moves with a step of TB (R112): Tightrope releases, commit times, anchors, and the times from
which pending work is reckoned. -/
def State.moveTimes (s : State) (d : Int) : State :=
  let mv := moveBy d 1
  let mf := moveBy d 16
  let s := { s with trmons := mapVal s.trmons (TrMon.move d), edges := mapVal s.edges (Edge.move d), gatesH := mapVal s.gatesH (Gate.move d),
                    gatesL := mapVal s.gatesL (Gate.move d), dcs := mapVal s.dcs (Dc.move d),
                    ldgs := mapVal s.ldgs (Ldg.move d s.tb) }
  let s := { s with txns := mapVal s.txns fun (r : Txn) => { r with tc := Option.map mf r.tc, tv := mf r.tv } }
  let s := s.each [0, 1, 2, 3] fun u t =>
    if u.txState t = txPENDING then u.setNat64 (Reg.CTU_T_TC_LO t) (Reg.CTU_T_TC_HI t) (mf (u.reg64 (Reg.CTU_T_TC_LO t) (Reg.CTU_T_TC_HI t)))
    else u
  let s := s.each ((List.range 256).filter fun m => Nat.blt s.tb (s.trRelease m)) fun u m =>
    u.setNat64 (Reg.CLK_TR_RELEASE_LO m) (Reg.CLK_TR_RELEASE_HI m) (mv (u.trRelease m))
  let s := s.each (s.clus.filter fun k => !s.sysPar k) fun u k => u.setNat64 (Reg.CLU_ANCHOR_LO k) (Reg.CLU_ANCHOR_HI k) (mv (u.anchor k))
  let s := { s with clusters := mapVal s.clusters fun (c : Cluster) => { c with spFrom := mv c.spFrom },
                    chgs := mapVal s.chgs fun (c : Chg) => { c with wait := List.map (movePair d) c.wait },
                    gmus := mapVal s.gmus fun (m : Gmu) => { m with lastZc := mv m.lastZc },
                    auxs := mapVal s.auxs fun (a : Aux) => { a with shadow := List.map (movePair d) a.shadow, zero := Option.map mv a.zero, ready := List.map mv a.ready,
                                                                      stopAt := mv a.stopAt, patAt := mv a.patAt, limAt := mv a.limAt } }
  s.updMeas fun m => { m with scanAt := mapVal m.scanAt mv, pmStamp := mf m.pmStamp, pmPrev := List.map (Option.map mf) m.pmPrev, stepAt := some (mv s.tb),
                              old := mapVal m.old (List.map (movePair d)) }

/-- The module hears the sync bus as one that is not its leader. -/
def State.hearsBus (s : State) : Bool := s.sysOn && s.role != roLEADER && s.sys.heard && s.sys.silent == 0

/-- ALIGNMENT_STEP (R112): a follower in STANDBY with nothing switching steps TB once by the whole-tick part of its offset, in ps. -/
def execAlignmentStep (off : Int) (s : State) : Res :=
  onlyIf (s.hearsBus && s.dev == stSTANDBY && !s.sys.stepped &&
      !s.slots.any s.switching) s fun s =>
    let d := off.tdiv 2500
    let s := s.closeEarly 1 4 fun _ => true
    let s := { s.moveTimes d with tb := moveBy d 1 s.tb }
    let s := (s.setNat64 Reg.EDG_ALIGN_STEP_LO Reg.EDG_ALIGN_STEP_HI (unsigned 64 d)).updSys fun y => { y with stepped := true }
    let s := (s.setAlign 1).setFld Reg.EDG_ALIGN_STAT Fld.EDG_ALIGN_STAT_ERR (satS16 (off - d * 2500))
    (s.raise .align 0).record Reg.EDG_ALIGN_STEP_LO 1 [unsigned 64 d]

/-- A signed free value of at most `b` in magnitude is written by `f`. -/
def State.drawnWithin (s : State) (b : Nat) (f : Int → State → State) : State := s.drawn 32 fun v s => f ((v % (2 * b + 1) : Nat) - (b : Int)) s

/-- ALIGNMENT_LOCK (R113, R114): the error has stayed within 2 ns for 1 ms, after the step or, once TB has been stepped, by trim alone. Trim, at most
100 ppm, and residual error, at most 2 ns, are values that no rule gives. -/
def execAlignmentLock (s : State) : Res :=
  let st := s.fld Reg.EDG_ALIGN_STAT Fld.EDG_ALIGN_STAT_STATE
  onlyIf (s.hearsBus && st != 2 && (st != 0 || s.sys.stepped) && s.since s.sys.alignAt (ms 1)) s fun s =>
    let s := s.setAlign 2
    let s := s.drawnWithin 2000 fun v s => s.setFld Reg.EDG_ALIGN_STAT Fld.EDG_ALIGN_STAT_ERR (unsigned 16 v)
    s.drawnWithin 10000 fun v s => s.setNat Reg.EDG_ALIGN_TRIM (unsigned 16 v)

/-- LOSS_TIME of EDG_ALIGN_CFG in ticks. -/
def State.lossTime (s : State) : Nat := us (s.fld Reg.EDG_ALIGN_CFG Fld.EDG_ALIGN_CFG_LOSS_TIME)

/-- Alignment is lost (R114). -/
def State.alignLost (s : State) : State := (s.setAlign 3).raise .align 2

/-- An alignment error is found, in ps (R114): beyond LIM it sets LIMX at once, and after LOSS_TIME alignment is lost. -/
def State.alignError (s : State) (e : Int) : State :=
  let s := s.setFld Reg.EDG_ALIGN_STAT Fld.EDG_ALIGN_STAT_ERR (satS16 e)
  if Nat.blt (s.fld Reg.EDG_ALIGN_CFG Fld.EDG_ALIGN_CFG_LIM * 15625) (e.natAbs * 100) then
    match s.sys.limAt with
    | none => (s.updSys fun y => { y with limAt := some s.now }).raise .align 1
    | some t => if s.since t s.lossTime then s.alignLost else s
  else s.updSys fun y => { y with limAt := none }

/-- ALIGNMENT_LOSS (R114): the error exceeds LIM, or the sync bus has been absent for LOSS_TIME. -/
def execAlignmentLoss (why : AlignLoss) (s : State) : Res :=
  let st := s.fld Reg.EDG_ALIGN_STAT Fld.EDG_ALIGN_STAT_STATE
  let follows := s.sysOn && s.role != roLEADER && (st == 1 || st == 2)
  match why with
  | .error e => onlyIf follows s fun s => s.alignError e
  | .bus => onlyIf (follows && Nat.ble s.lossTime (12800 * s.sys.silent)) s State.alignLost

end Sys2Proof.Machine
end

