-- ==== Sys2Proof/Machine/Charge.lean ====
section
/-!
DEFINITION. The string charge engine, Safety Net and the hold-up pack charger (R203–R220).
-/

namespace Sys2Proof.Machine

/-- A tenth of an ampere in nA. -/
def dA : Nat := 100000000

/-! ### The current window (R203, R210) -/

/-- The thermal foldback factor of a charge engine as a fraction: numerator and denominator (R210). -/
def State.foldOf (s : State) (k : Nat) : Nat × Nat :=
  let hi := signed 16 (s.fld (Reg.CHG_FOLD k) Fld.CHG_FOLD_T_MAX)
  let lo := signed 16 (s.fld (Reg.CHG_FOLD k) Fld.CHG_FOLD_T_FOLD)
  let den := max 1 (hi - lo).toNat
  match (s.chg k).lim with
  | some l => ((clampI 0 den (hi - l.temp)).toNat, den)
  | none => (den, den)

/-- Safety Net is in fallback (R214). -/
def State.snFb (s : State) : Bool := s.bit Reg.CHG_SN_STAT Fld.CHG_SN_STAT_FB

/-- A valid BMU frame is in force (R204, R205). -/
def State.bmsValid (s : State) (k : Nat) : Bool := (s.chg k).lim.isSome && !(s.chg k).silent

/-- The bounds ICHG_B and IDIS_B of a cluster, 0.1 A (R203). -/
def State.chgBounds (s : State) (k : Nat) : Nat × Nat :=
  let c := s.chg k
  match c.lim with
  | none => (0, 0)
  | some l =>
    if !c.sinceEn || c.silent then (0, 0)
    else
      let v := (s.dc k).vPort
      let sn := s.reg (Reg.CHG_SN k)
      let eff := s.ilimEff k
      let up := min (min l.ichg eff) (if s.snFb then Fld.CHG_SN_SN_ICHG.get sn else 0xFFFF)
      let down := min (min l.idis eff) (if s.snFb then Fld.CHG_SN_SN_IDIS.get sn else 0xFFFF)
      let f := s.foldOf k
      (if (l.vmax : Int) * 100000 ≤ v ∨ bitOf l.flags 0 = true then 0 else f.1 * up / f.2,
       if v ≤ (l.vmin : Int) * 100000 ∨ bitOf l.flags 1 = true then 0 else down)

/-- CHG_k_BOUND and the reports of a BMU frame (R221). -/
def State.showBounds (s : State) (k : Nat) : State :=
  let b := s.chgBounds k
  (s.setNat (Reg.CHG_BOUND k) (min b.2 65535 * 65536 + min b.1 65535)).setBit (Reg.CHG_STAT k) Fld.CHG_STAT_BMS_VALID (s.bmsValid k)

/-- Kind of a charge engine: its cluster is an SDC (R221). -/
def State.isSdc (s : State) (k : Nat) : Bool := s.ctype k == tySDC

/-! ### BMU frames (R204–R206) -/

/-- A field of a frame: `w` bytes at an offset, in the byte order of BE. -/
def frameField (d : List Byte) (be : Bool) (off w : Nat) : Nat :=
  let b := (d.drop off).take w
  if be then beNat b else leNat b

/-- The quantities of a frame under the map of an engine; none where the data field does not cover every configured offset (R204). -/
def State.decodeBmu (s : State) (k : Nat) (d : List Byte) : Option BmuLim :=
  let m0 := s.reg (Reg.CHG_BMSMAP0 k)
  let m1 := s.reg (Reg.CHG_BMSMAP1 k)
  let be := Fld.CHG_BMSMAP0_BE.on m0
  let offs := [(Fld.CHG_BMSMAP0_ICHG.get m0, 2), (Fld.CHG_BMSMAP0_IDIS.get m0, 2), (Fld.CHG_BMSMAP0_VMAX.get m0, 2),
    (Fld.CHG_BMSMAP0_VMIN.get m0, 2), (Fld.CHG_BMSMAP0_TEMP.get m0, 2), (Fld.CHG_BMSMAP1_FLAGS.get m1, 1)]
    ++ (if Fld.CHG_BMSMAP1_ALIVE_EN.on m1 then [(Fld.CHG_BMSMAP1_ALIVE.get m1, 1)] else [])
  if offs.all fun p => Nat.ble (p.1 + p.2) d.length then
    let f (i : Nat) : Nat := frameField d be (offs.getD i (0, 0)).1 (offs.getD i (0, 0)).2
    some { ichg := f 0, idis := f 1, vmax := f 2, vmin := f 3, temp := signed 16 (f 4), flags := f 5, alive := f 6 }
  else none

/-- The last valid frame: the last that waits, or the one in force. -/
def Chg.lastFrame (c : Chg) : Option BmuLim := match c.wait.getLast? with
  | some x => some x.2.1
  | none => c.lim

/-- A frame is valid: its voltages are in order, and with ALIVE_EN its ALIVE byte differs from that of the previous valid one (R204). -/
def State.bmuOk (s : State) (k : Nat) (l : BmuLim) : Bool :=
  Nat.blt l.vmin l.vmax &&
    (!s.bit (Reg.CHG_BMSMAP1 k) Fld.CHG_BMSMAP1_ALIVE_EN || !((s.chg k).lastFrame.any fun p => p.alive == l.alive))

/-- A frame that passed the filter of an engine (R204): every valid one waits for its cluster instant; another sets
BADFRAME. -/
def State.bmuFrame (s : State) (k : Nat) (data : List Byte) : State :=
  match s.decodeBmu k data with
  | none => s.raise (.chg k) 7
  | some l =>
    if s.bmuOk k l then
      (s.updChg k fun c => { c with wait := c.wait ++ [(s.tb, l, true)], frameAt := s.now }).raiseIf (bitOf l.flags 0 || bitOf l.flags 1) (.chg k) 3
    else s.raise (.chg k) 7

/-- BMU_FRAME (R204). -/
def execBmuFrame (k : Clu) (f : CanFrame) (s : State) : Res :=
  onlyIf (s.cdRun && Nat.blt k.val s.variant.clusters && s.isSdc k.val) s fun s => s.bmuFrame k.val f.data

/-- Every waiting frame takes effect at the first cluster instant 16 ticks or more after its reception (R204): the last one leaves its limits, and the
flags of each act (R206). -/
def State.applyBmu (s : State) (k inst : Nat) : State :=
  let due (x : Nat × BmuLim × Bool) : Bool := Nat.ble ((x.1 + 16) * 16) inst
  let l := (s.chg k).wait.filter due
  let s := s.updChg k fun c => { c with flags := l.foldl (fun f x => f ||| x.2.1.flags) 0 }
  match l.getLast? with
  | some x =>
    let b := x.2.1
    let s := s.updChg k fun c =>
      { c with wait := c.wait.filter fun y => !due y, lim := some b, sinceEn := c.sinceEn || l.any (·.2.2), silent := false }
    let s := (s.setNat (Reg.CHG_BMSLIM k) (b.idis * 65536 + b.ichg)).setNat (Reg.CHG_BMSV k) (b.vmax * 65536 + b.vmin)
    s.setFld (Reg.CHG_IREF k) Fld.CHG_IREF_TEMP_BMS (unsigned 16 b.temp)
  | none => s

/-- BMU_SILENT (R205): no valid frame for BMS_TO. Both bounds are 0, a charge ends, and the cluster is disabled by a normal stop;
out of PORT_OPEN only a command of its own leads (R195). -/
def execBmuSilent (k : Clu) (s : State) : Res :=
  let k := k.val
  onlyIf (s.cdRun && s.isSdc k && (s.chg k).lim.isSome && !(s.chg k).silent &&
      s.since (s.chg k).frameAt (ms (s.fld (Reg.CHG_BMS k) Fld.CHG_BMS_BMS_TO))) s fun s =>
    let s := (s.updChg k fun c => { c with silent := true }).raise (.chg k) 2
    let s := (s.endCharge k [0x08]).showBounds k
    let c := s.cstate k
    if c = csSTARTING || c = csRUN || c = csPAUSED then s.stopNormal k else s

/-! ### Charging at a cluster instant (R203–R211) -/

/-- VCV_EFF in µV (R208). -/
def State.vcvEff (s : State) (k : Nat) : Int :=
  let vcv : Int := s.fld (Reg.CHG_VCV k) Fld.CHG_VCV_V_CV * 100000
  match (s.chg k).lim with
  | some l => min vcv (l.vmax * 100000 - (s.fld (Reg.CHG_CFG k) Fld.CHG_CFG_CELLS : Int) * 5000)
  | none => vcv

/-- The foldback state of a running charge follows (R210, R211). -/
def State.foldFollow (s : State) (k : Nat) : State :=
  let f := s.foldOf k
  let active := Nat.blt f.1 f.2
  let was := s.bit (Reg.CHG_STAT k) Fld.CHG_STAT_FOLD
  let s := (s.setBit (Reg.CHG_STAT k) Fld.CHG_STAT_FOLD active).raiseIf (active && !was) (.chg k) 4
  s.updChg k fun c =>
    match active, c.foldAt with
    | true, none => { c with foldAt := some s.now }
    | false, some t => { c with foldAt := none, folded := c.folded + (s.now - t) }
    | _, _ => c

/-- The time spent in foldback since START (R211). -/
def State.foldTime (s : State) (k : Nat) : Nat :=
  (s.chg k).folded + match (s.chg k).foldAt with
    | some t => s.now - t
    | none => 0

/-- I_REF of a charging state at a cluster instant, nA, and whether the window clamped it (R208). -/
def State.nextIref (s : State) (k : Nat) : Nat × Bool :=
  let ichg := s.fld (Reg.CHG_ICHG k) Fld.CHG_ICHG_I_CHG * dA
  let top := (s.chgBounds k).1 * dA
  let cur := (s.chg k).iref
  let want :=
    if s.estate k = 2 then
      (clampI 0 top (cur + s.fld (Reg.CHG_VCV k) Fld.CHG_VCV_KCV * (s.vcvEff k - (s.dc k).vPort))).toNat
    else ichg
  let ramped := min want (cur + ichg / 64)
  (min ramped top, Nat.blt top ramped)

/-- The steps of a running charge at a cluster instant (R206, R208, R210, R212). -/
def State.chargeStep (s : State) (k : Nat) : State :=
  let s := s.foldFollow k
  let f := (s.chg k).flags
  let conds := (if bitOf f 2 then [0x0A] else []) ++ (if bitOf f 0 then [0x09] else []) ++ (s.chargeConds k).filter (· != 0x01)
  let v := (s.dc k).vPort
  let s := if s.estate k = 1 && decide (s.vcvEff k ≤ v) then s.setFld (Reg.CHG_STAT k) Fld.CHG_STAT_ESTATE 2 else s
  let f := (s.dc k).filt
  let low := s.estate k == 2 &&
    decide (f.foldl (· + ·) 0 ≤ ((s.fld (Reg.CHG_ICHG k) Fld.CHG_ICHG_I_TAPER * 100000 * f.length : Nat) : Int))
  let s := s.updChg k fun c =>
    { c with taperAt := if low then some (c.taperAt.getD s.now) else none, winSum := c.winSum + v, winN := c.winN + 1 }
  if !conds.isEmpty then s.endCharge k conds
  else
    let r := s.nextIref k
    let s := (s.updChg k fun c => { c with iref := r.1 }).setFld (Reg.CHG_IREF k) Fld.CHG_IREF_I_REF (r.1 / dA)
    s.raiseIf r.2 (.chg k) 9

/-- The charge engine of an SDC at a cluster instant, after the port estimates are formed. -/
def State.chargeInstant (s : State) (k inst : Nat) : State :=
  if !s.isSdc k then s
  else
    let s := (s.applyBmu k inst).showBounds k
    if s.charging k then s.chargeStep k else s

/-- TAPER_DONE (R208). -/
def execTaperDone (k : Clu) (s : State) : Res :=
  let k := k.val
  match (s.chg k).taperAt with
  | some t =>
    onlyIf (s.cdRun && s.estate k == 2 && s.since t (secs (s.fld (Reg.CHG_TIMER k) Fld.CHG_TIMER_T_TAPER))) s fun s => s.endCharge k [0x01]
  | none => .next s

/-! ### The 1 s windows (R209, R211) -/

/-- The nickel tests of a window with mean voltage `v` in µV (R209): the conditions that end the charge. -/
def State.nickelTests (s : State) (k : Nat) (v : Int) (temp : Int) : State × List Nat :=
  let c := s.chg k
  let ni := s.reg (Reg.CHG_NI k)
  let cells := s.fld (Reg.CHG_CFG k) Fld.CHG_CFG_CELLS
  let peak := if c.peak < v then v else c.peak
  let dv := if v ≤ peak - (Fld.CHG_NI_DV_CELL.get ni * cells * 100 : Nat) then c.dvRun + 1 else 0
  let old := c.means[59]?
  let slope := old.map fun o => temp - o.2
  let dt := match slope with
    | some d => if (Fld.CHG_NI_DTDT.get ni : Int) ≤ d then c.dtRun + 1 else 0
    | none => 0
  let plateau := s.estate k == 3 && match old with
    | some o => decide (v - o.1 ≤ (s.fld (Reg.CHG_NI2 k) Fld.CHG_NI2_PLAT_SLOPE * cells * 100 : Nat))
    | none => false
  let over_ := match c.platAt with
    | some t => s.since t (secs (60 * Fld.CHG_NI_PLAT_T.get ni))
    | none => false
  let s := s.updChg k fun c => { c with peak, dvRun := dv, dtRun := dt, platAt := if plateau then some s.now else c.platAt }
  let s := if plateau then s.setFld (Reg.CHG_STAT k) Fld.CHG_STAT_ESTATE 4 else s
  let s := s.setNat (Reg.CHG_NIMON k) (satU16 (divNear peak 100000) * 65536 + satS16 (10 * slope.getD 0))
  (s, (if Nat.ble 3 dv then [0x02] else []) ++ (if Nat.ble 3 dt then [0x03] else []) ++ (if over_ then [0x04] else []))

/-- CHARGE_WINDOW_END (R209, R211): a window of 1 s counted from START has ended. -/
def execChargeWindowEnd (k : Clu) (s : State) : Res :=
  let k := k.val
  let c := s.chg k
  onlyIf (s.cdRun && s.charging k && s.since c.winAt (secs 1)) s fun s =>
    let s := s.foldFollow k
    let v := if c.winN = 0 then (s.dc k).vPort else c.winSum / c.winN
    let temp : Int := match c.lim with
      | some l => l.temp
      | none => 0
    let nickel := s.fld (Reg.CHG_CFG k) Fld.CHG_CFG_PROFILE == 2
    let ready := s.since c.startAt (secs (60 * s.fld (Reg.CHG_NI k) Fld.CHG_NI_HOLDOFF))
    let r := if nickel && ready then s.nickelTests k v temp else (s, [])
    let s := r.1.updChg k fun c => { c with winAt := c.winAt + secs 1, winSum := 0, winN := 0, means := ((v, temp) :: c.means).take 61 }
    let safe := secs (60 * s.fld (Reg.CHG_TIMER k) Fld.CHG_TIMER_T_SAFE)
    let fold := s.foldTime k
    let s := s.setNat (Reg.CHG_TIME k) (min ((s.now - c.startAt) / secs 60) 65535 * 65536 + min (fold / secs 60) 65535)
    let late := s.since c.startAt (safe + min fold safe)
    s.endCharge k (r.2 ++ (if late then [if s.bit (Reg.CHG_STAT k) Fld.CHG_STAT_FOLD then 0x06 else 0x05] else []))

/-! ### Commands (R207) -/

/-- CHG_k_STAT.CMDRES, and CMDERR where the command was refused. -/
def State.chgResult (s : State) (k res : Nat) : State :=
  (s.setFld (Reg.CHG_STAT k) Fld.CHG_STAT_CMDRES res).raiseIf (res != rcDONE) (.chg k) 8

/-- START (R207): clears the reason and the timers, and enters LI_CC or NI_CC. -/
def State.cmdStart (s : State) (k : Nat) : State :=
  let prof := s.fld (Reg.CHG_CFG k) Fld.CHG_CFG_PROFILE
  if s.charging k then s.chgResult k rcSTATE
  else if s.cstate k = csRUN && !s.snFb && s.bmsValid k && ((s.chg k).lim.any fun l => l.ichg != 0 && !bitOf l.flags 0) && prof != 0 then
    let before := (s.estate k, s.fld (Reg.CHG_STAT k) Fld.CHG_STAT_REASON)
    let s := (s.setFld (Reg.CHG_STAT k) Fld.CHG_STAT_ESTATE (if prof = 1 then 1 else 3)).setFld (Reg.CHG_STAT k) Fld.CHG_STAT_REASON 0
    let s := s.updChg k fun c =>
      { lim := c.lim, wait := c.wait, frameAt := c.frameAt, sinceEn := c.sinceEn, silent := c.silent, flags := c.flags, before,
        startAt := s.now, winAt := s.now }
    ((s.setNat (Reg.CHG_TIME k) 0).setNat (Reg.CHG_NIMON k) 0).chgResult k rcDONE
  else s.chgResult k rcCOND

/-- STOP (R207). -/
def State.cmdStop (s : State) (k : Nat) : State :=
  if s.charging k then (s.endCharge k [0x0B]).chgResult k rcDONE else s.chgResult k rcSTATE

/-- START. -/
def execStart (who : Party) (k : Clu) (s : State) : Res :=
  atReg (Reg.CHG_CMD k.val) (Nat.blt k.val s.variant.clusters) (s.mayCommand who k.val && s.isSdc k.val) s fun s => s.cmdStart k.val
/-- STOP. -/
def execStop (who : Party) (k : Clu) (s : State) : Res :=
  atReg (Reg.CHG_CMD k.val) (Nat.blt k.val s.variant.clusters) (s.mayCommand who k.val && s.isSdc k.val) s fun s => s.cmdStop k.val

/-! ### Safety Net (R214–R216) -/

/-- A START in the handshake in which fallback is entered comes after it and returns COND (R217). -/
def State.unstart (s : State) (k : Nat) : State :=
  if s.charging k && (s.chg k).startAt == s.now then
    let b := (s.chg k).before
    ((s.setFld (Reg.CHG_STAT k) Fld.CHG_STAT_ESTATE b.1).setFld (Reg.CHG_STAT k) Fld.CHG_STAT_REASON b.2).chgResult k rcCOND
  else s

/-- Fallback is entered with a cause (R215); a further cause is recorded and changes nothing else. -/
def State.enterFallback (s : State) (cause : Nat) : State :=
  if s.snFb then s.record Reg.CHG_SN_STAT cause [cause]
  else
    let s := (s.setBit Reg.CHG_SN_STAT Fld.CHG_SN_STAT_FB true).setFld Reg.CHG_SN_STAT Fld.CHG_SN_STAT_CAUSE cause
    let s := ({ s with snet := { s.snet with fbAt := s.now } }.raise .chgSn 0).record Reg.CHG_SN_STAT cause [cause]
    s.each s.clus fun u k =>
      let u := u.setBit (Reg.CHG_STAT k) Fld.CHG_STAT_SN_FB true
      if u.isSdc k then
        let u := ((u.unstart k).endCharge k [0x0D]).showBounds k
        let y := u.fld (Reg.CHG_SNCTL k) Fld.CHG_SNCTL_SN_SO
        if Nat.blt y 8 then (u.updRm fun r => { r with snOff := putBit r.snOff y true }).outputsOff (2 ^ y) else u
      else u

/-- A write of CHG_HB (R214): another value is a heartbeat, the same one sets HB_SAME. -/
def State.heartbeat (s : State) (v : Word) : State :=
  if v = s.reg Reg.CHG_HB then s.raise .chgSn 2
  else { s.setReg Reg.CHG_HB v with snet := { s.snet with hbAt := some s.now, watch := some s.now } }

/-- HEARTBEAT (R214). -/
def execHeartbeat (v : Word) (s : State) : Res := onlyIf s.cdRun s fun s => s.heartbeat v

/-- SN_TIMEOUT (R214): no heartbeat for SN_TO, since the last one or since BOOT. -/
def execSnTimeout (s : State) : Res :=
  match s.snet.watch with
  | some t =>
    onlyIf (s.cdRun && s.since t (ms (100 * s.fld Reg.CHG_SN_CFG Fld.CHG_SN_CFG_SN_TO))) s fun s =>
      { s with snet := { s.snet with watch := none } }.enterFallback 2
  | none => .next s

/-- The host link is up: PCIe link and VIO0 (R214, R216). -/
def State.hostUp (s : State) : Bool := s.bit Reg.HIF_STAT Fld.HIF_STAT_LINKUP && s.vioOk 0

/-- The result of SN_EXIT (R222). -/
def State.snResult (s : State) (res : Nat) : State :=
  (s.setFld Reg.CHG_SN_STAT Fld.CHG_SN_STAT_CMDRES res).raiseIf (res != rcDONE) .chgSn 3

/-- SN_EXIT (R216); the normal bounds apply from the next cluster instant. -/
def State.cmdSnExit (s : State) : State :=
  let recent := match s.snet.hbAt with
    | some t => Nat.blt s.snet.fbAt t && Nat.ble s.now (t + ms (100 * s.fld Reg.CHG_SN_CFG Fld.CHG_SN_CFG_SN_TO))
    | none => false
  if !s.snFb then s.snResult rcSTATE
  else if recent && s.hostUp then
    let s := (s.setBit Reg.CHG_SN_STAT Fld.CHG_SN_STAT_FB false).raise .chgSn 1
    let s := s.each s.clus fun u k => u.setBit (Reg.CHG_STAT k) Fld.CHG_STAT_SN_FB false
    ((s.updRm fun r => { r with snOff := 0 }).rmEvaluate).snResult rcDONE
  else s.snResult rcCOND

/-- SN_EXIT. -/
def execSnExit (s : State) : Res := onlyIf s.cdRun s State.cmdSnExit

/-! ### The hold-up pack charger (R218–R220) -/

/-- PWR_HU_STAT bits 23:16: Q in % of CAP. -/
def Fld.PWR_HU_STAT_Q : Field := ⟨16, 8⟩
/-- PWR_HU_STAT.HSTATE. -/
def State.hstate (s : State) : Nat := s.fld Reg.PWR_HU_STAT Fld.PWR_HU_STAT_HSTATE
/-- CAP in mC: 100 mAh is 360,000 mC. -/
def State.packCap (s : State) : Nat := s.fld Reg.PWR_HU_CFG Fld.PWR_HU_CFG_CAP * 360000
/-- The pack voltage last measured, mV. -/
def State.packMv (s : State) : Nat := (s.reg Reg.PWR_HU_MEAS).toNat / 65536

/-- HSTATE set, with the start of the state and its windows. -/
def State.setHstate (s : State) (v : Nat) : State :=
  (s.setFld Reg.PWR_HU_STAT Fld.PWR_HU_STAT_HSTATE v).updPack fun p =>
    if v = 2 || v = 3 then { p with phaseAt := s.now, peak := 0, dvRun := 0, dtRun := 0, temps := [] } else p

/-- Q shown, and HOLDUP_LOW (R220). -/
def State.showPack (s : State) : State :=
  let s := s.setFld Reg.PWR_HU_STAT Fld.PWR_HU_STAT_Q (min (s.pack.q * 100 / max s.packCap 1) 255)
  let good := s.hstate != 0 && Nat.ble (s.fld Reg.PWR_HU_CFG Fld.PWR_HU_CFG_MIN_PCT * s.packCap) (100 * s.pack.q) && Nat.ble 4600 s.pack.restMv
  s.setCond 2 (!good)

/-- FAULT with a code (R218). -/
def State.packFault (s : State) (code : Nat) : State :=
  ((s.setFld Reg.PWR_HU_STAT Fld.PWR_HU_STAT_FAULT code).setHstate 6).raise .pwrHu 3

/-- QUALIFY (R218): Q is 0, and the pack voltage chooses the state. -/
def State.packQualify (s : State) : State :=
  let s := ((s.setFld Reg.PWR_HU_STAT Fld.PWR_HU_STAT_FAULT 0).setHstate 1).updPack fun p => { p with q := 0, winAt := s.now, coolAt := none }
  (if Nat.blt 6400 s.packMv then s.packFault 2 else s.setHstate (if Nat.ble 4000 s.packMv then 3 else 2)).showPack

/-- PWR_HU_MEAS: mV, and 0.1 °C; a temperature out of the NTC range leaves the reading as it was. -/
def State.packMeas (s : State) (mv : Nat) (temp : Option Int) : State :=
  let t := match temp with
    | some t => satS16 t
    | none => (s.reg Reg.PWR_HU_MEAS).toNat % 65536
  s.setNat Reg.PWR_HU_MEAS (min mv 65535 * 65536 + t)

/-- PACK_QUALIFY (R218): a reading in ABSENT. Once the pack voltage has been within 1.0–6.4 V and the NTC within its range for 2 s, reading after
reading, the pack is inserted. -/
def execPackQualify (mv : Nat) (temp : Option Int) (s : State) : Res :=
  onlyIf (s.cdRun && s.hstate == 0) s fun s =>
    let good := Nat.ble 1000 mv && Nat.ble mv 6400 && temp.isSome
    let from' := s.pack.seenAt.getD s.now
    let s := (s.packMeas mv temp).updPack fun p => { p with restMv := mv, seenAt := if good then some from' else none }
    if good && s.since from' (secs 2) then ((s.updPack fun p => { p with seenAt := none }).raise .pwrHu 0).packQualify else s

/-- The termination tests of a FAST window (R218). -/
def State.packTests (s : State) (mv : Nat) (t : Int) : State :=
  let p := s.pack
  if !s.since p.phaseAt (secs 180) then s
  else
    let peak := max p.peak mv
    let dv := if Nat.ble (mv + 10) peak then p.dvRun + 1 else 0
    let dt := match p.temps[60]? with
      | some o => if o + 10 ≤ t then p.dtRun + 1 else 0
      | none => 0
    let s := s.updPack fun p => { p with peak, dvRun := dv, dtRun := dt }
    if Nat.ble 3 dv || Nat.ble 3 dt then ((s.updPack fun p => { p with q := s.packCap }).setHstate 4).raise .pwrHu 2 else s

/-- PACK_CHARGE_WINDOW (R218, R220): a window of 1 s, in a pause too, ends with the pack voltage, its current in mA and its temperature, none outside the NTC range. -/
def execPackChargeWindow (mv : Nat) (ma : Int) (temp : Option Int) (s : State) : Res :=
  onlyIf (s.cdRun && s.hstate != 0 && s.since s.pack.winAt (secs 1)) s fun s =>
    let s := (s.packMeas mv temp).setNat Reg.PWR_HU_CURR (satS16 ma)
    let s := s.updPack fun p =>
      { p with winAt := s.now, q := p.q - (-ma).toNat, restMv := if ma ≤ 0 then mv else p.restMv,
               temps := (temp.toList ++ p.temps).take 61 }
    let h := s.hstate
    let s :=
      if h = 7 || h = 6 then s
      else match temp with
        | none => if mv = 0 then s else s.packFault 3
        | some t =>
          let cool := decide (50 ≤ t) && decide (t ≤ 450)
          if 550 < t then s.packFault 5
          else if h = 5 then s.updPack fun p => { p with coolAt := if cool then some (p.coolAt.getD s.now) else none }
          else if !cool then
            ((s.updPack fun p => { p with left := h, coolAt := none }).setFld Reg.PWR_HU_STAT Fld.PWR_HU_STAT_HSTATE 5).raise .pwrHu 4
          else if h = 2 then (if Nat.ble 4400 mv then s.setHstate 3 else s)
          else if h = 3 then s.packTests mv t
          else if Nat.blt (5 * s.pack.q) (4 * s.packCap) then s.setHstate 3 else s
    s.showPack

/-- Seconds of FAST at 1.6 × CAP / I_F (R218). -/
def State.packFastLimit (s : State) : Nat :=
  match s.fld Reg.PWR_HU_CFG Fld.PWR_HU_CFG_RATE with
  | 0 => 23040
  | 1 => 11520
  | _ => 5760

/-- PACK_CHARGE_TIMEOUT (R218): 30 min of PRECHARGE, or the limit of FAST; PAUSED does not stop the timer. -/
def execPackChargeTimeout (s : State) : Res :=
  let h := if s.hstate = 5 then s.pack.left else s.hstate
  let limit := if h = 2 then 1800 else s.packFastLimit
  onlyIf (s.cdRun && (h == 2 || h == 3) && s.since s.pack.phaseAt (secs limit)) s fun s =>
    ((s.packFault (if h = 2 then 1 else 4)).raise .pwrHu 5).showPack

/-- PACK_PAUSE_END (R218): inside 5–45 °C for 60 s. -/
def execPackPauseEnd (s : State) : Res :=
  match s.pack.coolAt with
  | some t =>
    onlyIf (s.cdRun && s.hstate == 5 && s.since t (secs 60)) s fun s =>
      (s.setFld Reg.PWR_HU_STAT Fld.PWR_HU_STAT_HSTATE s.pack.left).updPack fun p => { p with coolAt := none }
  | none => .next s

/-- The charger is charging (R219). -/
def State.packCharging (s : State) : Bool := Nat.ble 2 s.hstate && Nat.ble s.hstate 4

/-- REMOVAL_PROBE (R219): every 1 s while it does not charge, 10 mA for 1 ms. -/
def execRemovalProbe (s : State) : Res :=
  onlyIf (s.cdRun && !s.packCharging && s.since s.pack.probeAt (secs 1)) s fun s => s.updPack fun p => { p with probeAt := s.now }

/-- PACK_REMOVAL (R219): the terminal voltage has stepped above 6.8 V, while the charger charges or probes. -/
def execPackRemoval (s : State) : Res :=
  onlyIf (s.cdRun && s.hstate != 0 && (s.packCharging || Nat.ble s.now (s.pack.probeAt + ms 1))) s fun s =>
    let s := ((s.updPack fun p => { p with q := 0 }).setHstate 0).raise .pwrHu 1
    (s.record Reg.PWR_HU_FLAGS 2 []).showPack

/-- SELF_DISCHARGE (R218): each day Q falls by 1 % of CAP. -/
def execSelfDischarge (s : State) : Res :=
  onlyIf (s.cdRun && s.hstate != 0 && s.since s.pack.dayAt (secs 86400)) s fun s =>
    (s.updPack fun p => { p with dayAt := s.now, q := p.q - s.packCap / 100 }).showPack

/-- PWR_HU_STAT.CMDRES. -/
def State.packResult (s : State) (res : Nat) : State := s.setFld Reg.PWR_HU_STAT Fld.PWR_HU_STAT_CMDRES res

/-- RETRY (R218, R223). -/
def State.cmdRetry (s : State) : State := if s.hstate = 6 then s.packQualify.packResult rcDONE else s.packResult rcSTATE
/-- RECHARGE (R218, R223). -/
def State.cmdRecharge (s : State) : State := if s.hstate = 4 then (s.setHstate 3).packResult rcDONE else s.packResult rcSTATE

/-- RETRY. -/
def execRetry (s : State) : Res := onlyIf s.cdRun s State.cmdRetry
/-- RECHARGE. -/
def execRecharge (s : State) : Res := onlyIf s.cdRun s State.cmdRecharge

end Sys2Proof.Machine
end

