-- ==== Sys2Proof/Machine/CanFd.lean ====
section
/-!
DEFINITION. CAN FD controllers (R360–R378). The wire itself is outside the model: each attempt, received frame and error on it is a
command. A frame starts at a tick of an idle bus (assumption 3).
-/

namespace Sys2Proof.Machine

/-! ### Enable, disable and commands -/

/-- The result of a command to a controller (R378). -/
def State.canResult (s : State) (x rc : Nat) : State :=
  (s.setFld (Reg.CAN_STAT x) Fld.CAN_STAT_CMDRES rc).raiseIf (rc != rcDONE) (.can x) 13

/-- EN set (R360): the error counters start at 0 and the controller integrates where it may take part. -/
def State.canEnable (s : State) (x : Nat) : State :=
  if s.bit (Reg.CAN_CTRL x) Fld.CAN_CTRL_EN then s
  else (((s.setBit (Reg.CAN_CTRL x) Fld.CAN_CTRL_EN true).setReg (Reg.CAN_ERRCNT x) 0).setFld (Reg.CAN_STAT x) Fld.CAN_STAT_BOREC 0).canFollow

/-- EN cleared (R376): the frame in progress ends, every buffer the controller owns returns with FLUSHED. -/
def State.canDisable (s : State) (x : Nat) : State :=
  let s := (s.setBit (Reg.CAN_CTRL x) Fld.CAN_CTRL_EN false).updCan x fun c => { c with abortAt := [] }
  (s.canReturnAll x toFLUSHED).canStop x

/-- CAN_ENABLE (R360). -/
def execCanEnable (x : CanC) (s : State) : Res := onlyIf s.cdRun s fun s => s.canEnable x.val

/-- CAN_DISABLE (R376). -/
def execCanDisable (x : CanC) (s : State) : Res :=
  onlyIf (s.cdRun && s.bit (Reg.CAN_CTRL x.val) Fld.CAN_CTRL_EN) s fun s => s.canDisable x.val

/-- A buffer is loaded (R364, R365): the controller owns it, with no outcome and no retries. -/
def State.canLoad (s : State) (x b : Nat) : State :=
  let s := s.updCan x fun c => { c with loads := c.loads + 1, order := c.order.set b (c.loads + 1) }
  ((s.setReg (Reg.CAN_TB_STAT x b) 0).setCanOwn x b true)

/-- REQ (R364, R366): refused with STATE while the buffers are ring-fed, while the controller is disabled or owns the buffer. -/
def State.canReq (s : State) (x b : Nat) : State :=
  if s.bit (Reg.CAN_CTRL x) Fld.CAN_CTRL_TXR_EN || !s.bit (Reg.CAN_CTRL x) Fld.CAN_CTRL_EN || s.canOwns x b then s.canResult x rcSTATE
  else (s.canLoad x b).canResult x rcDONE

/-- ABORT (R368). -/
def State.canAbort (s : State) (x b : Nat) : State :=
  if !s.canOwns x b then s.canResult x rcSTATE
  else if (s.can x).sending = some b then
    (s.updCan x fun c => { c with abortAt := c.abortAt.filter (· != b) ++ [b] }).canResult x rcDONE
  else (s.canReturn x b toABORTED).canResult x rcDONE

/-- SLEEP is entered (R374). -/
def State.canSleepNow (s : State) (x : Nat) : State :=
  (s.setCanState x 5).updCan x fun c => { c with sleepDue := false, sending := none }

/-- SLEEP (R374): in error-active and error-passive after the frame in progress; COND in bus-off and while integrating. -/
def State.canSleep (s : State) (x : Nat) : State :=
  let v := s.canState x
  if v = 2 || v = 3 then
    let s := s.canResult x rcDONE
    if (s.can x).sending = none then s.canSleepNow x else s.updCan x fun c => { c with sleepDue := true }
  else s.canResult x (if v = 1 || v = 4 then rcCOND else rcSTATE)

/-- The controller wakes and integrates (R375). -/
def State.canWakes (s : State) (x : Nat) : State := (s.setCanState x 1).raise (.can x) 10

/-- WAKE (R375): STATE where the controller does not sleep. -/
def State.canWake (s : State) (x : Nat) : State :=
  if s.canState x = 5 then (s.canWakes x).canResult x rcDONE else s.canResult x rcSTATE

/-- REQ (R364). -/
def execReq (x : CanC) (b : Fin 3) (s : State) : Res := onlyIf s.cdRun s fun s => s.canReq x.val b.val
/-- ABORT (R368). -/
def execAbort (x : CanC) (b : Fin 3) (s : State) : Res := onlyIf s.cdRun s fun s => s.canAbort x.val b.val
/-- SLEEP (R374). -/
def execSleep (x : CanC) (s : State) : Res := onlyIf s.cdRun s fun s => s.canSleep x.val
/-- WAKE (R375). -/
def execWake (x : CanC) (s : State) : Res := onlyIf s.cdRun s fun s => s.canWake x.val

/-! ### Slots and filters -/

/-- The 32-bit little-endian words of a byte string. -/
def wordsOf (l : List Byte) (n : Nat) : List Nat := (List.range n).map fun i => leNat ((l.drop (4 * i)).take 4)

/-- The active slot of a filter becomes the record (R372). -/
def State.putSlot (s : State) (x f : Nat) (ws : List Nat) : State :=
  s.each (List.range 20) fun u w => u.setNat (Reg.CAN_SLOT x f w) (ws.getD w 0)

/-- CANx_FSTATf bit 1: the shadow slot is full; bit 0: the active slot is full (R378). -/
def Fld.CAN_FSTAT_SHADOW : Field := ⟨1, 1⟩
/-- The active slot is full. -/
def Fld.CAN_FSTAT_ACTIVE : Field := ⟨0, 1⟩

/-- RELEASE (R372): a full shadow slot becomes the active one; otherwise a full active slot is marked empty; with both empty STATE. -/
def State.canRelease (s : State) (x f : Nat) : State :=
  let st := Reg.CAN_FSTAT x f
  if s.bit st Fld.CAN_FSTAT_SHADOW then
    let s := s.putSlot x f (File.get [] (s.can x).shadow f)
    (((s.setBit st Fld.CAN_FSTAT_ACTIVE true).setBit st Fld.CAN_FSTAT_SHADOW false).updCan x fun c =>
      { c with shadow := File.set [] c.shadow f [] }).canResult x rcDONE
  else if s.bit st Fld.CAN_FSTAT_ACTIVE then (s.setBit st Fld.CAN_FSTAT_ACTIVE false).canResult x rcDONE
  else s.canResult x rcSTATE

/-- RELEASE (R372). -/
def execRelease (x : CanC) (f : Fin 32) (s : State) : Res := onlyIf s.cdRun s fun s => s.canRelease x.val f.val

/-- The data length that a DLC gives (R361). -/
def canLen (fdf : Bool) (dlc : Nat) : Nat :=
  if fdf then [0, 1, 2, 3, 4, 5, 6, 7, 8, 12, 16, 20, 24, 32, 48, 64].getD dlc 64 else min dlc 8

/-- The identifier in the alignment of R365 and R373: standard identifiers in bits 28:18. -/
def canAligned (f : CanFrame) : Nat := if f.ide then f.id % 2 ^ 29 else f.id % 2 ^ 11 * 2 ^ 18

/-- The data bytes of a frame; a remote frame has none. -/
def canPayload (f : CanFrame) : List Byte := if f.rtr then [] else f.data.take (canLen f.fdf f.dlc.val)

/-- The 80-byte record of R373. -/
def canRecord (f : CanFrame) (filter count : Nat) : List Byte :=
  leBytes 4 (canAligned f + 2 ^ 29 * b2n f.ide + 2 ^ 30 * b2n f.rtr + 2 ^ 31 * b2n f.fdf)
    ++ leBytes 1 (f.dlc.val + 16 * b2n f.brs + 32 * b2n f.esi) ++ leBytes 1 filter ++ leBytes 2 count
    ++ leBytes 8 (f.stamp * 16) ++ (canPayload f ++ List.replicate 64 0).take 64

/-- Filter `f` of a controller takes a frame (R371). -/
def State.canMatches (s : State) (x : Nat) (fr : CanFrame) (f : Nat) : Bool :=
  let id := s.reg (Reg.CAN_FID x f)
  let m := s.reg (Reg.CAN_FMASK x f)
  s.bit (Reg.CAN_FCFG x f) Fld.CAN_FCFG_EN &&
    ((canAligned fr ^^^ Fld.CAN_FID_ID.get id) &&& Fld.CAN_FMASK_MASK.get m) == 0 &&
    (!Fld.CAN_FMASK_IDEM.on m || Fld.CAN_FID_IDE.on id == fr.ide)

/-- A record into the shadow slot (R372): an unread one is replaced and counted. -/
def State.canToSlot (s : State) (x f : Nat) (rec : List Byte) : State :=
  let st := Reg.CAN_FSTAT x f
  let s := if s.bit st Fld.CAN_FSTAT_SHADOW then (s.incFld st Fld.CAN_FSTAT_LOST).raise (.can x) 7 else s
  (s.updCan x fun c => { c with shadow := File.set [] c.shadow f (wordsOf rec 20) }).setBit st Fld.CAN_FSTAT_SHADOW true

/-- The receive ring has no room (R373). -/
def State.canRingFull (s : State) (x : Nat) : Bool :=
  let n := 2 ^ s.fld (Reg.CAN_RXR_CFG x) Fld.CAN_RXR_CFG_LOG2N
  ((s.reg (Reg.CAN_RXR_WR x)).toNat + 1) % n == (s.reg (Reg.CAN_RXR_RD x)).toNat % n

/-- A record into the receive ring (R373); bytes past the end of DRAM are not written. -/
def State.canToRing (s : State) (x : Nat) (rec : List Byte) : State :=
  let n := 2 ^ s.fld (Reg.CAN_RXR_CFG x) Fld.CAN_RXR_CFG_LOG2N
  let w := (s.reg (Reg.CAN_RXR_WR x)).toNat % n
  let a := 16 * s.fld (Reg.CAN_RXR_BASE x) Fld.CAN_RXR_BASE_DRAM + 80 * w
  (s.putDram a (rec.take (2 ^ 29 - a))).setNat (Reg.CAN_RXR_WR x) ((w + 1) % n)

/-- The charge engines that name a controller and filter (R204, R371). -/
def State.canEngines (s : State) (x f : Nat) : List Nat :=
  s.clus.filter fun k =>
    s.isSdc k && s.fld (Reg.CHG_BMS k) Fld.CHG_BMS_CANCH == x && s.fld (Reg.CHG_BMS k) Fld.CHG_BMS_FILT == f

/-- A received frame goes through the filters (R371). -/
def State.canDeliver (s : State) (x : Nat) (fr : CanFrame) : State :=
  match (List.range 32).find? (s.canMatches x fr) with
  | none => s.raise (.can x) 9
  | some f =>
    let cfg := s.reg (Reg.CAN_FCFG x f)
    let ring := Fld.CAN_FCFG_RING.on cfg && s.bit (Reg.CAN_CTRL x) Fld.CAN_CTRL_RXR_EN
    let ovf := ring && s.canRingFull x
    let slot := Fld.CAN_FCFG_SLOT.on cfg
    let s := s.raiseIf ovf (.can x) 8
    let s := if slot || (ring && !ovf) then s.updCan x fun c => { c with records := (c.records + 1) % 65536 } else s
    let rec' := canRecord fr f (s.can x).records
    let s := if slot then s.canToSlot x f rec' else s
    let s := if ring && !ovf then s.canToRing x rec' else s
    s.each (s.canEngines x f) fun u k => u.bmuFrame k (canPayload fr)

/-! ### Error counters (R361, ISO 11898-1) -/

/-- CSTATE follows TEC and REC between error-active and error-passive; EPASSIVE on entry. -/
def State.canPassive (s : State) (x : Nat) : State :=
  let pas := Nat.ble 128 (s.fld (Reg.CAN_ERRCNT x) Fld.CAN_ERRCNT_TEC) || Nat.ble 128 (s.fld (Reg.CAN_ERRCNT x) Fld.CAN_ERRCNT_REC)
  if s.canState x = 2 && pas then (s.setCanState x 3).raise (.can x) 5
  else if s.canState x = 3 && !pas then s.setCanState x 2
  else s

/-- A frame received without error: REC falls by 1, or from above 127 to a value of 119–127 that the standard leaves open. -/
def State.canRxOk (s : State) (x : Nat) : State :=
  let r := s.fld (Reg.CAN_ERRCNT x) Fld.CAN_ERRCNT_REC
  if Nat.ble 128 r then s.drawn 8 fun v s => (s.setFld (Reg.CAN_ERRCNT x) Fld.CAN_ERRCNT_REC (119 + v % 9)).canPassive x
  else s.setFld (Reg.CAN_ERRCNT x) Fld.CAN_ERRCNT_REC (r - 1)

/-- An error while receiving (R361): ERR, REC rises by 1, or by 8 where this node saw it first; a listen-only node counts none. -/
def State.canRxErr (s : State) (x : Nat) (primary : Bool) : State :=
  let step := if s.bit (Reg.CAN_CTRL x) Fld.CAN_CTRL_LISTEN then 0 else if primary then 8 else 1
  let r := s.fld (Reg.CAN_ERRCNT x) Fld.CAN_ERRCNT_REC + step
  ((s.raise (.can x) 14).setFld (Reg.CAN_ERRCNT x) Fld.CAN_ERRCNT_REC (min r 255)).canPassive x

/-- A wake frame (R375): identifier and data bytes 0–7 under their masks. -/
def State.canWakeFrame (s : State) (x : Nat) (f : CanFrame) : Bool :=
  let id := (s.reg (Reg.CAN_WAKE_ID x)).toNat
  let m := (s.reg (Reg.CAN_WAKE_IDM x)).toNat
  let ws := wordsOf (canPayload f ++ List.replicate 8 0) 2
  ((canAligned f ^^^ id) &&& (m % 2 ^ 29)) == 0 && (!bitOf m 29 || bitOf id 29 == f.ide) &&
    ((ws.getD 0 0 ^^^ (s.reg (Reg.CAN_WAKE_D0 x)).toNat) &&& (s.reg (Reg.CAN_WAKE_DM0 x)).toNat) == 0 &&
    ((ws.getD 1 0 ^^^ (s.reg (Reg.CAN_WAKE_D1 x)).toNat) &&& (s.reg (Reg.CAN_WAKE_DM1 x)).toNat) == 0

/-- A valid frame on the bus (R361, R371, R375): received in error-active and error-passive, an FD frame with FD_EN = 0 answered as an
error; in SLEEP with WAKE_MODE 1 a wake frame wakes the controller and is delivered. -/
def State.canFrame (s : State) (x : Nat) (f : CanFrame) : State :=
  let v := s.canState x
  if v = 2 || v = 3 then
    if f.fdf && !s.bit (Reg.CAN_CTRL x) Fld.CAN_CTRL_FD_EN then s.canRxErr x false
    else (if s.bit (Reg.CAN_CTRL x) Fld.CAN_CTRL_LISTEN then s else s.canRxOk x).canDeliver x f
  else if v = 5 && s.bit (Reg.CAN_CTRL x) Fld.CAN_CTRL_WAKE_MODE && s.canWakeFrame x f &&
      (!f.fdf || s.bit (Reg.CAN_CTRL x) Fld.CAN_CTRL_FD_EN) then (s.canWakes x).canDeliver x f
  else s

/-- CAN_RX_FRAME (R371). -/
def execCanRxFrame (x : CanC) (f : CanFrame) (s : State) : Res :=
  onlyIf (s.cdRun && s.canUp x.val) s fun s => s.canFrame x.val f

/-- CAN_RX_ERROR (R361). -/
def execCanRxError (x : CanC) (primary : Bool) (s : State) : Res :=
  onlyIf (s.cdRun && s.canUp x.val && (s.canState x.val == 2 || s.canState x.val == 3)) s fun s => s.canRxErr x.val primary

/-- CAN_WAKE_EDGE (R375). -/
def execCanWakeEdge (x : CanC) (s : State) : Res :=
  onlyIf (s.cdRun && s.canUp x.val && s.canState x.val == 5 && !s.bit (Reg.CAN_CTRL x.val) Fld.CAN_CTRL_WAKE_MODE) s
    fun s => s.canWakes x.val

/-- CAN_INTEGRATION_DONE (R375): 11 recessive bits have passed; the controller resumes in the state its error counters give. -/
def execCanIntegrationDone (x : CanC) (s : State) : Res :=
  onlyIf (s.cdRun && s.canUp x.val && s.canState x.val == 1) s fun s =>
    let x := x.val
    if Nat.ble 256 (s.fld (Reg.CAN_ERRCNT x) Fld.CAN_ERRCNT_TEC) then s.setCanState x 4 else (s.setCanState x 2).canPassive x

/-! ### Transmission -/

/-- The arbitration value of buffer `b` (R365): a standard identifier lies in bits 28:18, as in the record of R373. -/
def State.canArb (s : State) (x b : Nat) : Nat :=
  let w := (s.reg (Reg.CAN_TB_ID x b)).toNat
  if bitOf w 29 then w % 2 ^ 29 else w % 2 ^ 29 / 2 ^ 18 * 2 ^ 18

/-- Buffer `b` goes before buffer `c` (R365). -/
def State.canBefore (s : State) (x b c : Nat) : Bool :=
  if s.bit (Reg.CAN_CTRL x) Fld.CAN_CTRL_ORDER then Nat.ble b c
  else Nat.blt (s.canArb x b) (s.canArb x c) ||
    (s.canArb x b == s.canArb x c && Nat.ble ((s.can x).order.getD b 0) ((s.can x).order.getD c 0))

/-- The buffer that contends next (R365). -/
def State.canNext (s : State) (x : Nat) : Option Nat :=
  let own := [0, 1, 2].filter (s.canOwns x)
  own.find? fun b => own.all fun c => s.canBefore x b c

/-- The controller may start a frame: error-active or error-passive, not listen-only, no sleep due (R360, R361, R374). -/
def State.canMaySend (s : State) (x : Nat) : Bool :=
  s.canUp x && (s.canState x == 2 || s.canState x == 3) && !s.bit (Reg.CAN_CTRL x) Fld.CAN_CTRL_LISTEN && !(s.can x).sleepDue

/-- The start of a frame at a tick of an idle bus (R365). -/
def State.canStart (s : State) (x : Nat) : State :=
  if s.canMaySend x && (s.can x).sending == none then
    match s.canNext x with
    | some b => s.updCan x fun c => { c with sending := some b }
    | none => s
  else s

/-- Bus-off is entered (R369): an abort pending on the buffer that sent ends it ABORTED (R377); with ABORT_BO every other returns with
BUSOFF. -/
def State.canBusOff (s : State) (x b : Nat) : State :=
  let s := ((s.setCanState x 4).setFld (Reg.CAN_STAT x) Fld.CAN_STAT_BOREC 0).raise (.can x) 3
  let s := s.record (Reg.CAN_STAT x) 8 [x]
  let s := if (s.can x).abortAt.contains b then s.canReturn x b toABORTED else s
  let s := if s.bit (Reg.CAN_CTRL x) Fld.CAN_CTRL_ABORT_BO then s.canReturnAll x toBUSOFF else s
  s.updCan x fun c => { c with sleepDue := false }

/-- An attempt that failed counts as a retry (R367): a pending abort, then the retry limit, returns the buffer. -/
def State.canRetry (s : State) (x b : Nat) : State :=
  let l := s.fld (Reg.CAN_CTRL x) Fld.CAN_CTRL_RETRY_LIM
  if (s.can x).abortAt.contains b then s.canReturn x b toABORTED
  else if l ≠ 0 && Nat.ble (l + 1) (s.fld (Reg.CAN_TB_STAT x b) Fld.CAN_TB_STAT_RETRY) then s.canReturn x b toRETRY_LIMIT
  else s

/-- A bit error in the data field after arbitration was won (R370): COLL_TH in a row set IDCOLL. -/
def State.canDataErr (s : State) (x b : Nat) : State :=
  let n := (s.can x).dataErr.getD b 0 + 1
  let s := s.updCan x fun c => { c with dataErr := c.dataErr.set b n }
  if n = s.fld (Reg.CAN_CTRL x) Fld.CAN_CTRL_COLL_TH then
    ((s.setNat (Reg.CAN_COLLID x) (b * 2 ^ 30 + (s.reg (Reg.CAN_TB_ID x b)).toNat % 2 ^ 29)).raise (.can x) 6).record
      (Reg.CAN_COLLID x) 64 [x, b, (s.reg (Reg.CAN_TB_ID x b)).toNat % 2 ^ 29]
  else s

/-- The delay measured in a frame with BRS (R363). -/
def State.canTdc (s : State) (x b : Nat) (d : Option Nat) : State :=
  match d with
  | some v =>
    if s.bit (Reg.CAN_TDC x) Fld.CAN_TDC_TDC_EN && s.bit (Reg.CAN_TB_CTL x b) Fld.CAN_TB_CTL_BRS && s.bit (Reg.CAN_TB_ID x b) Fld.CAN_TB_ID_FDF
    then (s.setNat (Reg.CAN_TDCV x) (min v 127)).raiseIf (Nat.ble 127 v) (.can x) 11
    else s
  | none => s

/-- The end of an attempt of buffer `b` (R364, R367–R370, R377). -/
def State.canTxEnds (s : State) (x b : Nat) (how : TxEnd) : State :=
  let tec := s.fld (Reg.CAN_ERRCNT x) Fld.CAN_ERRCNT_TEC
  let s := s.updCan x fun c => { c with sending := none }
  let s := match how with
    | .sent d =>
      let s := ((s.canTdc x b d).setFld (Reg.CAN_ERRCNT x) Fld.CAN_ERRCNT_TEC (tec - 1)).canPassive x
      s.canReturn x b toSENT
    | .lostArb => (((s.raise (.can x) 15).incFld (Reg.CAN_TB_STAT x b) Fld.CAN_TB_STAT_RETRY)).canRetry x b
    | .error inData counts d =>
      let s := (s.canTdc x b d).raise (.can x) 14
      let s := s.incFld (Reg.CAN_TB_STAT x b) Fld.CAN_TB_STAT_RETRY
      let s := if inData then s.canDataErr x b else s
      let t := if counts then tec + 8 else tec
      let s := s.setFld (Reg.CAN_ERRCNT x) Fld.CAN_ERRCNT_TEC (min t 511)
      if Nat.ble 256 t then s.canBusOff x b else (s.canPassive x).canRetry x b
  if (s.can x).sleepDue then s.canSleepNow x else s

/-- CAN_TX_END (R367): the attempt of the buffer that contends under R365. -/
def execCanTxEnd (x : CanC) (b : Fin 3) (how : TxEnd) (s : State) : Res :=
  let c := s.can x.val
  onlyIf (s.cdRun && s.canOwns x.val b.val &&
      (c.sending == some b.val || (c.sending == none && s.canMaySend x.val && s.canNext x.val == some b.val))) s
    fun s => s.canTxEnds x.val b.val how

/-- BUSOFF_RECOVERY (R369): the counters return to 0, every buffer that stayed is retried from 0. -/
def execBusoffRecovery (x : CanC) (s : State) : Res :=
  onlyIf (s.cdRun && s.canUp x.val && s.canState x.val == 4) s fun s =>
    let x := x.val
    let s := ((s.setReg (Reg.CAN_ERRCNT x) 0).setFld (Reg.CAN_STAT x) Fld.CAN_STAT_BOREC 128).setCanState x 2
    let s := s.each [0, 1, 2] fun u b => if u.canOwns x b then u.setFld (Reg.CAN_TB_STAT x b) Fld.CAN_TB_STAT_RETRY 0 else u
    (s.raise (.can x) 4).record (Reg.CAN_STAT x) 16 [x]

end Sys2Proof.Machine
end

