-- ==== Sys2Proof/Machine/DcTypes.lean ====
section
/-!
DEFINITION. SDC, PVC and DLC clusters (R181–R201), and what a sample and an acting point do (R103, R104, R154, R194, R198, R199).
Currents in µA, voltages in µV.
-/

namespace Sys2Proof.Machine

/-! ### Port estimates (R181) -/

/-- The estimate at `z` from samples, newest first (R104); none where no sample lies on one of its sides. -/
def estAt (l : List (Nat × Int)) (z : Nat) : Option Int :=
  match l.find? (fun p => Nat.ble p.1 z), (l.filter fun p => Nat.blt z p.1).getLast? with
  | some (t1, x1), some (t2, x2) => some (interpolate t1 x1 t2 x2 z)
  | _, _ => none

/-- A port source has had no sample for 4,000 ticks (R191). -/
def State.portStale (s : State) (k : Nat) : Bool := s.since (s.dc k).psAt 4000 || s.since (s.dc k).vsAt 4000

/-- The latest instant that the samples of a source bracket; a silent source, which last spoke at `heard`, holds nothing back. -/
def State.bracketed (s : State) (l : List (Nat × Int)) (heard : Nat) : Nat :=
  match l with
  | p :: _ => if s.since heard 4000 then s.tbFine else p.1 - 1
  | [] => s.tbFine

/-- The latest cluster instant that the port samples bracket. -/
def State.instantOf (s : State) (k : Nat) : Nat :=
  let d := s.dc k
  gridBefore (s.anchor k * 16) (s.cluTsw k) (min (s.bracketed d.ps d.psAt) (s.bracketed d.vs d.vsAt))

/-- A sum of integers. -/
def sumI (l : List Int) : Int := l.foldl (· + ·) 0

/-- The filtered port current, µA (R181). -/
def State.filtered (s : State) (k : Nat) : Int := let f := (s.dc k).filt; sumI f / max f.length 1

/-- The estimates at instant `z` and what shows them (R181); where the samples bracket no instant, the last value stays and no estimate is counted. -/
def State.portEstimates (s : State) (k z : Nat) : State :=
  let d := s.dc k
  let i := (estAt d.ps z).map fun x => x * (s.fld (Reg.CLU_DC_PSRC k) Fld.CLU_DC_PSRC_SCALE : Int)
  let v := (estAt d.vs z).map fun x => x * (s.fld (Reg.CLU_DC_VSRC k) Fld.CLU_DC_VSRC_SCALE : Int)
  let n := s.fld (Reg.CLU_DC_CFG k) Fld.CLU_DC_CFG_FILT
  let s := s.updDc k fun d =>
    { d with instant := some z, iPort := i.getD d.iPort, vPort := v.getD d.vPort, iOk := i.isSome, vOk := v.isSome, filt := (i.toList ++ d.filt).take n }
  s.setNat (Reg.CLU_DC_MEAS k) (satS16 (divNear (s.filtered k) 100000) * 65536 + satU16 (divNear (s.dc k).vPort 100000))

/-- The slots of the active phases, ascending. -/
def State.activeSlots (s : State) (k : Nat) : List Nat :=
  (s.slotsOf k).filter fun n => bitOf (s.activeMask k) (s.posOf k n)

/-- The current of a phase at an instant (R181). -/
def State.phaseAmps (s : State) (k n z : Nat) : Int :=
  ((estAt (s.edge n).smps z).getD 0) * ((s.reg (Reg.CLU_DC_PHSCALE k)).toNat % 65536)

/-! ### The distributed reference (R186, R203, R207) -/

/-- REF.IREF of a slot given a code. -/
def State.setIref (s : State) (n : Nat) (c : Int) : State := s.setFld (Reg.EDG_REF n) Fld.EDG_REF_IREF (satS16 c)

/-- The cluster reference that the slots of a set carry, µA. -/
def State.refTotal (s : State) (k : Nat) (set : List Nat) : Int :=
  sumI (set.map fun n => signed 16 (s.fld (Reg.EDG_REF n) Fld.EDG_REF_IREF)) * ((s.reg (Reg.CLU_DC_PHSCALE k)).toNat % 65536)

/-- The limits of the cluster reference, µA: ILIM_EFF, SS_ILIM per cent of it in STARTING (R186), and the window of an SDC (R203). -/
def State.refLimits (s : State) (k : Nat) : Int × Int :=
  let base := s.ilimEff k * 100000
  let lim : Int := if s.cstate k = csSTARTING then base * s.fld (Reg.CLU_DC_SS k) Fld.CLU_DC_SS_SS_ILIM / 100 else base
  if s.isSdc k then
    let b := s.chgBounds k
    (-(min lim ((b.2 * 100000 : Nat) : Int)), min lim ((b.1 * 100000 : Nat) : Int))
  else (-lim, lim)

/-- Shares beyond the limits are reduced in proportion, and the window of an SDC sets BOUNDV (R203). -/
def State.clampRefs (s : State) (k : Nat) (set : List Nat) : State :=
  let t := s.refTotal k set
  let l := s.refLimits k
  let t' := clampI l.1 l.2 t
  if t' = t then s
  else
    (s.each set fun u n => u.setIref n (divNear (signed 16 (u.fld (Reg.EDG_REF n) Fld.EDG_REF_IREF) * t' * t.sign) t.natAbs)).raiseIf
      (s.isSdc k) (.chg k) 9

/-- The reference of a cluster at an instant: I_REF in equal shares while a charge runs (R207), the owner's shares otherwise. -/
def State.distribute (s : State) (k : Nat) : State :=
  let set := s.activeSlots k
  if s.isSdc k && s.charging k then
    let share : Int := ((s.chg k).iref / 1000 : Nat)
    let den := max 1 (set.length * ((s.reg (Reg.CLU_DC_PHSCALE k)).toNat % 65536))
    s.each set fun u n => u.setIref n (divNear share den)
  else s.clampRefs k set

/-! ### Supervision at an instant -/

/-- The overload rule (R189); an instant without an estimate ends the run. -/
def State.overloadCheck (s : State) (k : Nat) : State :=
  let beyond := (s.dc k).iOk && decide ((s.ilimEff k : Int) * 1100000 < (s.dc k).iPort * 10)
  let n := if beyond then (s.dc k).ovl + 1 else 0
  let s := s.updDc k fun d => { d with ovl := n }
  if Nat.ble 8 n then ((s.updDc k fun d => { d with ovl := 0 }).raise (.cluDc k) 9).safeStop k scDC else s

/-- An evaluation of plausibility fails (R191): a silent port source, the sum test or the balance test. -/
def State.plausFails (s : State) (k z : Nat) : Bool :=
  let w := s.reg (Reg.CLU_DC_PLAUS k)
  let i := (s.dc k).iPort
  let ph := (s.activeSlots k).map fun n => s.phaseAmps k n z
  let sum := sumI ph
  let m := ph.length
  let base := Fld.CLU_DC_PLAUS_TOL_A.get w * 100000 * 256
  let rel := Fld.CLU_DC_PLAUS_TOL_REL.get w
  s.portStale k || Nat.blt (base + rel * i.natAbs) ((sum - i).natAbs * 256) ||
    ph.any fun x => Nat.blt (base * m + rel * sum.natAbs) ((x * m - sum).natAbs * 256)

/-- The plausibility check (R191): three failures in a row stop the cluster, also in the handshake in which port open has just been declared, where the
safe stop governs (R201). -/
def State.plausCheck (s : State) (k z : Nat) : State :=
  let opened := (s.dc k).openAt.any fun o => o.1 == s.now && s.cstate k == csPORT_OPEN
  if !s.bit (Reg.CLU_DC_CFG k) Fld.CLU_DC_CFG_PLAUS_EN || !(s.cstate k == csRUN || opened) then s
  else
    let i := (s.dc k).iPort
    let evaluated := s.portStale k || Nat.ble (s.fld (Reg.CLU_DC_PLAUS k) Fld.CLU_DC_PLAUS_PLAUS_MIN * 1000000) i.natAbs
    if evaluated && s.plausFails k z then
      let run := (match (s.dc k).openAt with
        | some o => if opened then o.2 else s.fld (Reg.CLU_DC_STAT k) Fld.CLU_DC_STAT_PLAUS_RUN
        | none => s.fld (Reg.CLU_DC_STAT k) Fld.CLU_DC_STAT_PLAUS_RUN) + 1
      let s := (s.setFld (Reg.CLU_DC_STAT k) Fld.CLU_DC_STAT_PLAUS_RUN (min run 3)).raise (.cluDc k) 4
      if run = 3 then
        let ph := (s.activeSlots k).map fun n => unsigned 64 (s.phaseAmps k n z)
        let s := s.updDc k fun d => { d with plausAt := some s.now }
        ((s.raise (.cluDc k) 5).record (Reg.CLU_DC_FLAGS k) 32 (k :: unsigned 64 i :: ph)).safeStop k scDC
      else s
    else s.setFld (Reg.CLU_DC_STAT k) Fld.CLU_DC_STAT_PLAUS_RUN 0

/-- Soft start at an instant (R192): the published ramp, and its success. -/
def State.softStart (s : State) (k : Nat) : State :=
  match (s.dc k).ssAt with
  | none => s
  | some t =>
    if s.cstate k != csSTARTING || !(s.dc k).vOk then s
    else
      let v := (s.dc k).vPort
      let v0 := (s.dc k).ssV0.getD v
      let tgt : Int := s.fld (Reg.CLU_DC_SSTGT k) Fld.CLU_DC_SSTGT_V_TGT * 100000
      let ramp := ms (s.fld (Reg.CLU_DC_SS k) Fld.CLU_DC_SS_SS_RAMP)
      let el := min (s.now - t) ramp
      let s := s.updDc k fun d => { d with ssV0 := some v0, ssRef := v0 + (tgt - v0) * el / max ramp 1 }
      if (v - tgt).natAbs * 100 ≤ s.fld (Reg.CLU_DC_CFG k) Fld.CLU_DC_CFG_SS_TOL * tgt.natAbs then
        let s := s.updDc k fun d => { d with ssAt := none, dropAt := none, addAt := none, mpptAt := s.now, swLast := s.now }
        (s.setBit (Reg.CLU_DC_STAT k) Fld.CLU_DC_STAT_RETRY_USED false).setCState k csRUN
      else s

/-- The threshold word of a phase count (R184): ADD in bits 31:16, DROP in bits 15:0, 0.1 A. -/
def State.shedWord (s : State) (k m : Nat) : Nat := (s.reg (Reg.CLU_DC_SHED k (m - 1))).toNat

/-- The dwell timers follow their conditions (R184); frozen in a sweep (R197). -/
def State.dwell (s : State) (k : Nat) : State :=
  if !s.bit (Reg.CLU_DC_CFG k) Fld.CLU_DC_CFG_SHED_EN || s.cstate k != csRUN || (s.dc k).swAt.isSome then s
  else
    let m := popcount 8 (s.activeMask k)
    let i := (s.filtered k).natAbs
    let w := s.shedWord k m
    let drop := Nat.blt i (w % 65536 * 100000) && Nat.blt 1 m
    let add := Nat.blt (w / 65536 * 100000) i && Nat.blt m (popcount 8 (s.healthyMask k))
    s.updDc k fun d => { d with dropAt := if drop then some (d.dropAt.getD s.now) else none,
                                addAt := if add then some (d.addAt.getD s.now) else none }

/-! ### Sweeps (R197) -/

/-- VREF_PV of point `i` of a sweep, 0.1 V. -/
def State.sweepRef (s : State) (k i : Nat) : Nat :=
  let w := s.reg (Reg.CLU_PV_LIM k)
  let hi := 10 * Fld.CLU_PV_LIM_VMAX_PV.get w
  let lo := 10 * Fld.CLU_PV_LIM_VMIN_PV.get w
  min (divNear ((63 * hi : Nat) - (i * (hi - lo) : Nat)) 63).toNat 65535

/-- A sweep starts (R197 steps 1 and 2). -/
def State.startSweep (s : State) (k : Nat) : State :=
  let ref := (s.reg (Reg.CLU_PV_VREF k)).toNat
  let link := (s.region (s.regionOf k)).vUv
  let s := s.updDc k fun d => { d with swAt := some s.now, swRef := ref, swP := d.pPrev, swLink := link, swPoint := 0, swV := 0, swI := 0,
                                       swN := 0, swPow := [], swDue := false, swLast := s.now }
  (s.setBit (Reg.CLU_DC_STAT k) Fld.CLU_DC_STAT_SWEEP_ACT true).setNat (Reg.CLU_PV_VREF k) (s.sweepRef k 0)

/-- Tracking and sweeping at an instant (R196, R197). -/
def State.pvInstant (s : State) (k : Nat) : State :=
  if s.ctype k != tyPVC || s.cstate k != csRUN || !((s.dc k).iOk && (s.dc k).vOk) then s
  else
    let d := s.dc k
    match d.swAt with
    | some t =>
      if s.since (t + d.swPoint * 250000) 125000 then
        s.updDc k fun d => { d with swV := d.swV + d.vPort, swI := d.swI + d.iPort, swN := d.swN + 1 }
      else s
    | none =>
      let s := s.updDc k fun d => { d with sumP := d.sumP + d.vPort * d.iPort, sumV := d.sumV + d.vPort, sumI := d.sumI + d.iPort, cnt := d.cnt + 1 }
      let iv := s.fld (Reg.CLU_PV_SWEEP k) Fld.CLU_PV_SWEEP_INTERVAL
      if !s.bit (Reg.CLU_DC_STAT k) Fld.CLU_DC_STAT_FROZEN && (d.swDue || (iv != 0 && s.since d.swLast (secs (60 * iv)))) then s.startSweep k
      else s

/-- CLUSTER_INSTANT (R181–R211): the latest cluster instant not yet served. -/
def execClusterInstant (k : Clu) (s : State) : Res :=
  let k := k.val
  let z := s.instantOf k
  let due := match (s.dc k).instant with
    | some p => Nat.blt p z
    | none => true
  onlyIf (s.cdRun && Nat.blt k s.variant.clusters && s.isPhased k && due) s fun s =>
    let s := ((s.portEstimates k z).showIlim k).chargeInstant k z
    let s := if s.cstate k = csSTARTING || s.cstate k = csRUN then s.overloadCheck k else s
    let s := s.plausCheck k z
    let s := ((s.softStart k).dwell k).pvInstant k
    if s.cstate k = csSTARTING || s.cstate k = csRUN then s.distribute k else s

/-! ### Phase counts (R184–R188) -/

/-- The highest set bit of a mask of eight. -/
def highBit (m : Nat) : Option Nat := (bitsOf 8 m).getLast?
/-- The lowest set bit of a mask of eight. -/
def lowBit (m : Nat) : Option Nat := (bitsOf 8 m).head?

/-- A change request is delivered to the owner (R186 step 1). -/
def State.requestChange (s : State) (k pos : Nat) (add : Bool) : State :=
  let s := s.updDc k fun d =>
    { d with req := some (pos, add, s.now, none), dropAt := d.dropAt.map fun _ => s.now, addAt := d.addAt.map fun _ => s.now }
  (s.setBit (Reg.CLU_DC_STAT k) Fld.CLU_DC_STAT_REQ_PEND true).changeRecord k (putBit (s.activeMask k) pos add)

/-- Every healthy phase becomes active at once, as the rule m = h asks while shedding is off or the cluster is in STARTING (R184); the owner gets the
change record. -/
def State.admitAll (s : State) (k : Nat) : State :=
  let h := s.healthyMask k
  let new := (s.slotsOf k).filter fun n => bitOf h (s.posOf k n) && !bitOf (s.activeMask k) (s.posOf k n)
  if new.isEmpty then s
  else
    let s := ((s.withdraw k).setActive k h).changeRecord k h
    s.each new fun u n =>
      let u := u.setBit (Reg.EDG_CTRL n) Fld.EDG_CTRL_EN true
      if u.cstate k = csPAUSED || (u.cluster k).pausing then u else u.orderStart n false

/-- The cluster keeps m = h (R184): in STARTING, and in RUN and PAUSED with shedding off. -/
def State.keepsAll (s : State) (k : Nat) : Bool :=
  s.isPhased k && (s.cstate k == csSTARTING ||
    ((s.cstate k == csRUN || s.cstate k == csPAUSED) && !s.bit (Reg.CLU_DC_CFG k) Fld.CLU_DC_CFG_SHED_EN))

/-- SHED_DECISION (R184): a dwell has expired. -/
def execShedDecision (k : Clu) (s : State) : Res :=
  let k := k.val
  let d := s.dc k
  let on := s.bit (Reg.CLU_DC_CFG k) Fld.CLU_DC_CFG_SHED_EN
  let w := s.reg (Reg.CLU_DC_DWELL k)
  let expired (t : Option Nat) (span : Nat) : Bool := t.any fun t => s.since t span
  let spare := (s.healthyMask k) &&& (0xFF - s.activeMask k)
  onlyIf (s.cdRun && s.isPhased k && s.cstate k == csRUN && on && d.req.isNone && d.swAt.isNone) s fun s =>
    if expired d.dropAt (ms (Fld.CLU_DC_DWELL_DWELL_DROP.get w)) && Nat.blt 1 (popcount 8 (s.activeMask k)) then
      match highBit (s.activeMask k) with
      | some p => s.requestChange k p false
      | none => s
    else if expired d.addAt (40000 * Fld.CLU_DC_DWELL_DWELL_ADD.get w) then
      match lowBit spare with
      | some p => s.requestChange k p true
      | none => s
    else s

/-- The active mask that a pending request leads to. -/
def State.nextMask (s : State) (k : Nat) : Nat :=
  match (s.dc k).req with
  | some (p, add, _, _) => putBit (s.activeMask k) p add
  | none => s.activeMask k

/-- DC_SPLIT_ACK (R186 step 2): the owner writes each slot of the new active set with its share, and acknowledges a pending request. -/
def execDcSplitAck (who : Party) (k : Clu) (shares : List Nat) (s : State) : Res :=
  let k := k.val
  onlyIf (s.cdRun && Nat.blt k s.variant.clusters && s.isPhased k && s.ownerCode k == partyCode who) s fun s =>
    let mask := s.nextMask k
    let set := (s.slotsOf k).filter fun n => bitOf mask (s.posOf k n)
    let s := if s.isSdc k && s.charging k then s else
      s.each (set.zip shares) fun u p => u.setFld (Reg.EDG_REF p.1) Fld.EDG_REF_IREF p.2
    let s := s.clampRefs k set
    s.updDc k fun d => { d with req := match d.req with
      | some (p, a, t, none) => some (p, a, t, if Nat.ble s.now (t + ms 1) then some s.tb else none)
      | r => r }

/-- PHASE_COUNT_CHANGE (R186 steps 3 and 4): at the slot's first carrier zero 16 ticks or more after the acknowledgement; in a triangle carrier the
leaving slot then stops at its next peak (R101). -/
def execPhaseCountChange (k : Clu) (s : State) : Res :=
  let k := k.val
  match (s.dc k).req with
  | some (p, add, _, some ta) =>
    match s.slotAt k p with
    | some n =>
      onlyIf (s.cdRun && s.cstate k == csRUN && Nat.ble ((ta + 16) * 16) (s.zeroAt n s.tbFine)) s fun s =>
        let mask := s.nextMask k
        let s := (s.setBit (Reg.CLU_DC_STAT k) Fld.CLU_DC_STAT_REQ_PEND false).updDc k fun d => { d with req := none }
        let s := s.setActive k mask
        let z := s.zeroAt n s.tbFine
        let s := if add then ((s.setBit (Reg.EDG_CTRL n) Fld.EDG_CTRL_EN true).orderStart n false).updEdge n fun e =>
            { e with startFrom := z / 16 - 16 }
          else if isTriangle (s.carrier n) then s.orderStop n 3
          else (s.bothOff n z).setSState n 3
        s.raise (.cluDc k) (if add then 1 else 0)
    | none => .next s
  | _ => .next s

/-- SHED_REQUEST_TIMEOUT (R186): no acknowledgement within 1 ms. -/
def execShedRequestTimeout (k : Clu) (s : State) : Res :=
  match (s.dc k.val).req with
  | some (_, _, td, none) => onlyIf (s.cdRun && s.since td (ms 1)) s fun s => (s.withdraw k.val).raise (.cluDc k.val) 3
  | _ => .next s

/-- READMIT (R188). -/
def State.cmdReadmit (s : State) (k p : Nat) : State := s.cluExec k fun s =>
  match s.slotAt k p with
  | some n =>
    if !s.isPhased k then s.cluResult k rcUNKNOWN
    else if bitOf (s.healthyMask k) p || s.holdBits n != 0 then s.cluResult k rcCOND
    else
      let h := putBit (s.healthyMask k) p true
      let s := (s.setFld (Reg.CLU_DC_STAT k) Fld.CLU_DC_STAT_HEALTHY h).deratePhase k (Nat.blt (popcount 8 h) (s.slotsOf k).length)
      let s := (s.writeMap k).showIlim k
      (if s.keepsAll k then s.admitAll k else s).cluResult k rcDONE
  | none => s.cluResult k (if s.isPhased k then rcCOND else rcUNKNOWN)

/-- READMIT. -/
def execReadmit (k : Clu) (pos : Nat) (s : State) : Res :=
  atReg (Reg.CLU_DC_CMD k.val) (Nat.blt k.val s.variant.clusters) s.cdRun s fun s => s.cmdReadmit k.val pos

/-! ### Soft start (R192, R193) -/

/-- SOFT_START_ABORT (R192, R193): SS_TIME after ENABLE; a second abort latches. -/
def execSoftStartAbort (k : Clu) (s : State) : Res :=
  let k := k.val
  match (s.dc k).ssAt with
  | some t =>
    onlyIf (s.cdRun && s.isPhased k && s.cstate k == csSTARTING &&
        s.since t (ms (10 * s.fld (Reg.CLU_DC_SS k) Fld.CLU_DC_SS_SS_TIME))) s fun s =>
      let s := (s.raise (.cluDc k) 6).safeStop k scDC
      if s.bit (Reg.CLU_DC_STAT k) Fld.CLU_DC_STAT_RETRY_USED then
        (s.setBit (Reg.CLU_DC_STAT k) Fld.CLU_DC_STAT_SS_LATCH true).raise (.cluDc k) 7
      else (s.setBit (Reg.CLU_DC_STAT k) Fld.CLU_DC_STAT_RETRY_PEND true).updDc k fun d => { d with retryAt := some s.now }
  | none => .next s

/-- SOFT_START_RETRY (R193 steps 2 and 3): 5 s after the abort, RESTART and ENABLE, or the latch. -/
def execSoftStartRetry (k : Clu) (s : State) : Res :=
  let k := k.val
  match (s.dc k).retryAt with
  | some t =>
    onlyIf (s.cdRun && s.cstate k == csSAFE_STOPPED && s.since t (secs 5)) s fun s =>
      let s := s.cancelRetry k
      let u := s.clearOrders k
      if (s.dev == stARMED || s.dev == stRUN) && s.stopCauseGone k && u.enableOk k then
        (u.setBit (Reg.CLU_DC_STAT k) Fld.CLU_DC_STAT_RETRY_USED true).startCluster k
      else (s.setBit (Reg.CLU_DC_STAT k) Fld.CLU_DC_STAT_SS_LATCH true).raise (.cluDc k) 7
  | none => .next s

/-- SS_UNLATCH (R193): from the host, in SAFE_STOPPED. -/
def State.cmdSsUnlatch (s : State) (k : Nat) : State := s.cluExec k fun s =>
  if !s.isPhased k then s.cluResult k rcUNKNOWN
  else if s.cstate k != csSAFE_STOPPED then s.cluResult k rcSTATE
  else (s.setBit (Reg.CLU_DC_STAT k) Fld.CLU_DC_STAT_SS_LATCH false).cluResult k rcDONE

/-- SS_UNLATCH. -/
def execSsUnlatch (k : Clu) (s : State) : Res :=
  atReg (Reg.CLU_DC_CMD k.val) (Nat.blt k.val s.variant.clusters) s.cdRun s fun s => s.cmdSsUnlatch k.val

/-! ### MPPT (R196) -/

/-- The move of VREF_PV under incremental conductance, as a multiple of STEP: g = i / v, cleared of denominators. With v = 0 no slope
exists and the move is a free value. -/
def incCond (v i dv di : Int) (eps free : Nat) : Int :=
  if dv = 0 then di.sign
  else if v = 0 then (free % 3 : Nat) - 1
  else
    let num := di * v + i * dv
    let den := dv * v
    if ((num.natAbs * 256 * v.natAbs : Nat) : Int) ≤ eps * (i * v.sign) * den.natAbs then 0 else if 0 < num * den then 1 else -1

/-- MPPT_UPDATE (R196): each INTERVAL the mean power is reported, and the law of MODE moves VREF_PV. -/
def execMpptUpdate (k : Clu) (s : State) : Res :=
  let k := k.val
  let w := s.reg (Reg.CLU_PV_MPPT k)
  let d := s.dc k
  onlyIf (s.cdRun && s.ctype k == tyPVC && s.cstate k == csRUN && !s.bit (Reg.CLU_DC_STAT k) Fld.CLU_DC_STAT_FROZEN && d.swAt.isNone &&
      d.cnt != 0 && s.since d.mpptAt (ms (Fld.CLU_PV_MPPT_INTERVAL.get w))) s fun s =>
    let p := d.sumP / d.cnt
    let v := d.sumV / d.cnt
    let i := d.sumI / d.cnt
    let mode := Fld.CLU_PV_MPPT_MODE.get w
    let dir := if mode = 1 ∧ p < d.pPrev then -d.dir else d.dir
    let move := if mode = 1 then dir else if mode = 2 then incCond v i (v - d.vPrev) (i - d.iPrev) (Fld.CLU_PV_MPPT_EPS.get w)
      (Config.freeValue s.draws) else 0
    let lim := s.reg (Reg.CLU_PV_LIM k)
    let want := (s.reg (Reg.CLU_PV_VREF k)).toNat + move * Fld.CLU_PV_MPPT_STEP.get w
    let ref := clampI (10 * Fld.CLU_PV_LIM_VMIN_PV.get lim) (10 * Fld.CLU_PV_LIM_VMAX_PV.get lim) want
    let s := s.setNat (Reg.CLU_PV_POWER k) (unsigned 32 (satI 32 (divNear p (10 ^ 12))))
    let s := if mode = 0 then s else (s.setNat (Reg.CLU_PV_VREF k) (min ref.toNat 65535)).raiseIf (ref != want) (.cluDc k) 11
    let s := { s with draws := s.draws + b2n (mode == 2 && v == 0 && v != d.vPrev) }
    s.updDc k fun d => { d with sumP := 0, sumV := 0, sumI := 0, cnt := 0, pPrev := p, vPrev := v, iPrev := i, dir, mpptAt := s.now }

/-- A call of the owner of a PVC cluster. -/
def State.pvOwner (s : State) (who : Party) (k : Nat) : Bool :=
  s.cdRun && Nat.blt k s.variant.clusters && s.ctype k == tyPVC && s.ownerCode k == partyCode who

/-- PV_HOLD (R196): while frozen VREF_PV is not moved, so that a sweep in progress ends at the saved one and waits until release (log 88). -/
def execPvHold (who : Party) (k : Clu) (s : State) : Res :=
  onlyIf (s.pvOwner who k.val) s fun s =>
    let s := (s.updDc k.val fun d => { d with swDue := d.swDue || d.swAt.isSome }).dropSweep k.val
    s.setBit (Reg.CLU_DC_STAT k.val) Fld.CLU_DC_STAT_FROZEN true
/-- PV_TRACK (R196): an update interval begins. -/
def execPvTrack (who : Party) (k : Clu) (s : State) : Res :=
  onlyIf (s.pvOwner who k.val) s fun s =>
    (s.setBit (Reg.CLU_DC_STAT k.val) Fld.CLU_DC_STAT_FROZEN false).updDc k.val fun d =>
      { d with mpptAt := s.now, sumP := 0, sumV := 0, sumI := 0, cnt := 0 }

/-- SWEEP (R197): in RUN; while frozen it waits. -/
def State.cmdSweep (s : State) (k : Nat) : State := s.cluExec k fun s =>
  if s.ctype k != tyPVC then s.cluResult k rcUNKNOWN
  else if s.cstate k != csRUN then s.cluResult k rcSTATE
  else if (s.dc k).swAt.isSome then s.cluResult k rcBUSY
  else if s.bit (Reg.CLU_DC_STAT k) Fld.CLU_DC_STAT_FROZEN then (s.updDc k fun d => { d with swDue := true }).cluResult k rcDONE
  else (s.startSweep k).cluResult k rcDONE

/-- SWEEP. -/
def execSweep (k : Clu) (s : State) : Res :=
  atReg (Reg.CLU_DC_CMD k.val) (Nat.blt k.val s.variant.clusters) s.cdRun s fun s => s.cmdSweep k.val

/-- The point just measured is written to its curve register (R197 step 2). -/
def State.curvePoint (s : State) (k : Nat) : State :=
  let d := s.dc k
  let v := d.swV / max d.swN 1
  let i := d.swI / max d.swN 1
  let s := s.setNat (Reg.CLU_PV_CURVE k d.swPoint) (satU16 (divNear v 100000) * 65536 + satS16 (divNear i 100000))
  s.updDc k fun d => { d with swPow := d.swPow ++ [v * i], swV := 0, swI := 0, swN := 0, swPoint := d.swPoint + 1 }

/-- SWEEP_POINT (R197): the next point begins 625 µs after the one before. -/
def execSweepPoint (k : Clu) (s : State) : Res :=
  let k := k.val
  let d := s.dc k
  match d.swAt with
  | some t =>
    onlyIf (s.cdRun && s.cstate k == csRUN && Nat.blt d.swPoint 63 && s.since t ((d.swPoint + 1) * 250000)) s fun s =>
      (s.curvePoint k).setNat (Reg.CLU_PV_VREF k) (s.sweepRef k (d.swPoint + 1))
  | none => .next s

/-- The index of the first greatest element, with it. -/
def argMax (l : List Int) : Nat × Int :=
  ((List.range l.length).zip l).foldl (fun b p => if b.2 < p.2 then p else b) (0, l.getD 0 0)

/-- SWEEP_END (R197 step 3): at tw + 40 ms. -/
def execSweepEnd (k : Clu) (s : State) : Res :=
  let k := k.val
  match (s.dc k).swAt with
  | some t =>
    onlyIf (s.cdRun && s.cstate k == csRUN && Nat.ble 63 (s.dc k).swPoint && s.since t (ms 40)) s fun s =>
      let s := s.curvePoint k
      let d := s.dc k
      let best := argMax d.swPow
      let moved := decide (d.swP * (256 + (s.fld (Reg.CLU_PV_SWEEP k) Fld.CLU_PV_SWEEP_MARGIN : Int)) < best.2 * 256)
      let s := (s.endSweep k).thaw k t
      let s := s.setNat (Reg.CLU_PV_SWRES k) (b2n moved * 2 ^ 31 + best.1 * 2 ^ 24 + satU16 (divNear best.2 (10 ^ 14)))
      if moved then s.setNat (Reg.CLU_PV_VREF k) (s.sweepRef k best.1) else s
  | none => .next s

/-- A sweep aborts when the link voltage leaves its band (R197). -/
def State.sweepBand (s : State) (g : Nat) : State :=
  s.each (s.clus.filter fun k => s.ctype k == tyPVC && s.regionOf k == g) fun u k =>
    match (u.dc k).swAt with
    | some t =>
      if Nat.blt (u.fld (Reg.CLU_PV_SWEEP k) Fld.CLU_PV_SWEEP_LINK_BAND * 100000) ((u.region g).vUv - (u.dc k).swLink).natAbs then
        ((u.endSweep k).thaw k t).raise (.cluDc k) 10
      else u
    | none => u

/-! ### The chopper (R198–R200) -/

/-- Another cluster of the region of `k` is switching. -/
def State.othersSwitch (s : State) (k : Nat) : Bool :=
  s.clus.any fun j => j != k && s.ctype j != 0 && s.regionOf j == s.regionOf k && s.cluSwitching j

/-- DISCHARGE (R200). -/
def State.cmdDischarge (s : State) (k : Nat) : State := s.cluExec k fun s =>
  if s.ctype k != tyDLC then s.cluResult k rcUNKNOWN
  else if s.cstate k = csRUN && !s.othersSwitch k then
    (s.setBit (Reg.CLU_DC_STAT k) Fld.CLU_DC_STAT_DISCH_ACT true).cluResult k rcDONE
  else s.cluResult k rcCOND

/-- DISCHARGE_STOP (R200). -/
def State.cmdDischargeStop (s : State) (k : Nat) : State := s.cluExec k fun s =>
  if s.ctype k != tyDLC then s.cluResult k rcUNKNOWN
  else if s.bit (Reg.CLU_DC_STAT k) Fld.CLU_DC_STAT_DISCH_ACT then
    (s.setBit (Reg.CLU_DC_STAT k) Fld.CLU_DC_STAT_DISCH_ACT false).cluResult k rcDONE
  else s.cluResult k rcSTATE

/-- DISCHARGE. -/
def execDischarge (k : Clu) (s : State) : Res :=
  atReg (Reg.CLU_DC_CMD k.val) (Nat.blt k.val s.variant.clusters) s.cdRun s fun s => s.cmdDischarge k.val
/-- DISCHARGE_STOP. -/
def execDischargeStop (k : Clu) (s : State) : Res :=
  atReg (Reg.CLU_DC_CMD k.val) (Nat.blt k.val s.variant.clusters) s.cdRun s fun s => s.cmdDischargeStop k.val

/-- The duty of the DLC law at link voltage `v`, Q0.16, and whether the law is on (R198). -/
def State.dlcDuty (s : State) (k n : Nat) (v : Int) : Nat × Bool :=
  let w := s.reg (Reg.CLU_DLC_VCFG k)
  let start : Int := Fld.CLU_DLC_VCFG_V_START.get w * 100000
  let full : Int := Fld.CLU_DLC_VCFG_V_FULL.get w * 100000
  let hys : Int := s.fld (Reg.CLU_DLC_HYS k) Fld.CLU_DLC_HYS_V_HYS * 100000
  let on := if start ≤ v then true else if v < start - hys then false else (s.dc k).dlcOn
  let dmax := s.fld (Reg.EDG_DUTYLIM n) Fld.EDG_DUTYLIM_DMAX
  (if on then (clampI 0 dmax (divNear ((v - start) * 65536) (max 1 (full - start).toNat))).toNat else 0, on)

/-- The resistor's energy after an acting point (R199): µJ, from duty `d`, link voltage `v` and the fine steps since the last one. -/
def dlcEnergy (e d dt res tau : Nat) (v : Int) : Nat :=
  (e - e * dt * 15625 / (tau * 10 ^ 14)) + d * v.natAbs * v.natAbs * dt * 15625 / (65536 * max res 1 * 10 ^ 18)

/-- The thermal model carried to `act` (R199). -/
def State.dlcThermal (s : State) (k act d : Nat) : State :=
  let w := s.reg (Reg.CLU_DLC_THERM k)
  let x := s.dc k
  let e := dlcEnergy x.energy d (act - x.energyAt) (Fld.CLU_DLC_THERM_RES.get w) (max 1 (Fld.CLU_DLC_THERM_TAU.get w)) (s.region (s.regionOf k)).vUv
  let top := max 1 (Fld.CLU_DLC_THERM_E_MAX.get w) * 10 ^ 10
  let old := x.energy * 100 / top
  let pct := e * 100 / top
  let s := (s.updDc k fun x => { x with energy := e, energyAt := act }).setNat (Reg.CLU_DLC_STAT k) (min pct 255 * 2 ^ 24 + min d 65535)
  let s := s.raiseIf (Nat.blt old 80 && Nat.ble 80 pct) (.cluDc k) 12
  if Nat.ble 100 pct && (Nat.blt old 100 || s.cstate k = csRUN) then (s.raise (.cluDc k) 13).safeStop k scDC else s

/-- The DLC law of a slot at its acting point (R198–R200). -/
def State.dlcAct (s : State) (k n act : Nat) : State :=
  let v := (s.region (s.regionOf k)).vUv
  let disch := s.bit (Reg.CLU_DC_STAT k) Fld.CLU_DC_STAT_DISCH_ACT
  let ends := disch && (s.othersSwitch k || decide (v ≤ (s.fld (Reg.CLU_DLC_DISCH k) Fld.CLU_DLC_DISCH_V_DISCH : Int) * 100000))
  let s := if ends then s.setBit (Reg.CLU_DC_STAT k) Fld.CLU_DC_STAT_DISCH_ACT false else s
  if s.cstate k != csRUN || s.sstate n != 2 then s.dlcThermal k act 0
  else
    let law := s.dlcDuty k n v
    let d := if disch && !ends then s.fld (Reg.EDG_DUTYLIM n) Fld.EDG_DUTYLIM_DMAX else law.1
    let c := roundFine (d * ptOf (s.carrier n)) 65536
    let s := ((s.updDc k fun x => { x with dlcOn := law.2 }).setNat (Reg.EDG_CMPA n) c).setNat (Reg.EDG_CMPB n) c
    (s.shadowWrite n true).dlcThermal k act d

/-! ### Port open (R194) -/

/-- A port-open pattern in the samples of the 8,000 ticks that end at `t` (R194). -/
def State.portOpenSeen (s : State) (k t : Nat) : Bool :=
  let w := s.reg (Reg.CLU_DC_OPEN k)
  let d := s.dc k
  let iSc := s.fld (Reg.CLU_DC_PSRC k) Fld.CLU_DC_PSRC_SCALE
  let vSc := s.fld (Reg.CLU_DC_VSRC k) Fld.CLU_DC_VSRC_SCALE
  let oi := Fld.CLU_DC_OPEN_OPEN_I.get w * 100000
  let low (p : Nat × Int) : Bool := Nat.ble (8 * (p.2.natAbs * iSc)) oi
  let high (p : Nat × Int) : Bool := Nat.ble oi (p.2.natAbs * iSc)
  let span (l : List (Nat × Int)) : List (Nat × Int) := l.filter fun p => Nat.ble t (p.1 + 128000)
  let fell := ((span d.ps).dropWhile fun p => !low p).any high
  let vs := (span d.vs).map (·.2)
  let hi := vs.foldl max (vs.headD 0)
  let lo := vs.foldl min (vs.headD 0)
  fell && Nat.ble (Fld.CLU_DC_OPEN_OPEN_DV.get w * 100000) ((hi - lo).natAbs * vSc)

/-- Port open is declared (R194): every active slot turns off by normal edges at once, and the cluster enters PORT_OPEN. -/
def State.portOpen (s : State) (k : Nat) : State :=
  let s := s.updDc k fun d => { d with openAt := some (s.now, s.fld (Reg.CLU_DC_STAT k) Fld.CLU_DC_STAT_PLAUS_RUN) }
  let s := s.closePort k
  let s := s.leaveRun k 0x0A
  let s := s.each (s.activeSlots k) fun u n => (u.bothOff n u.tbFine).setSState n 3
  let s := s.each (s.slotsOf k) fun u n => u.setBit (Reg.EDG_CTRL n) Fld.EDG_CTRL_EN false
  (s.setCState k csPORT_OPEN).raise (.cluDc k) 8

/-- A port sample of a cluster: kept for its estimates, and judged for port open; in the handshake of a plausibility fault port open is only recorded
(R201). -/
def State.portSample (s : State) (k : Nat) (r : Sample) (isCurrent isVoltage : Bool) : State :=
  let keep (l : List (Nat × Int)) : List (Nat × Int) := ((r.stamp, r.code) :: l).take 256
  let s := s.updDc k fun d => { d with ps := if isCurrent then keep d.ps else d.ps, vs := if isVoltage then keep d.vs else d.vs,
                                       psAt := if isCurrent then s.now else d.psAt, vsAt := if isVoltage then s.now else d.vsAt }
  let seen := s.bit (Reg.CLU_DC_CFG k) Fld.CLU_DC_CFG_OPEN_EN && s.portOpenSeen k r.stamp
  if seen && s.cstate k == csRUN then s.portOpen k
  else if seen && (s.dc k).plausAt == some s.now then s.raise (.cluDc k) 8
  else s

/-! ### Samples and acting points (R103, R104, R238) -/

/-- A SAR channel number as a source. -/
def sarSrc (c : Nat) : SrcId := .sar (Fin.ofNat 64 c)

/-- SAMPLE_ARRIVAL (R104, R154, R159, R181, R194): a record of a valid source reaches every consumer that names it. -/
def execSampleArrival (r : Sample) (s : State) : Res :=
  onlyIf (s.cdRun && !s.invalid r.src) s fun s =>
    let r := { r with stamp := s.fullStamp r.stamp }
    let s := s.each (s.assigned.filter fun n => s.slotSrc n == r.src) fun u n => u.slotSample n r
    let s := s.each (s.rgns.filter fun g => sarSrc (s.fld (Reg.CLU_REG_VCFG g) Fld.CLU_REG_VCFG_SRC) == r.src &&
        s.fld (Reg.CLU_REG_VCFG g) Fld.CLU_REG_VCFG_SCALE != 0) fun u g => (u.regionSample g r.code).sweepBand g
    let s := s.each (s.clus.filter fun k => s.ctype k == tyGFI3 && sarSrc (s.fld (Reg.CLU_NPSRC k) Fld.CLU_NPSRC_SAR) == r.src) fun u k =>
      u.updNpm k fun m => { m with vNp := r.code * u.fld (Reg.CLU_NPSRC k) Fld.CLU_NPSRC_SCALE }
    s.each (s.clus.filter s.isPhased) fun u k =>
      let i := sarSrc (u.fld (Reg.CLU_DC_PSRC k) Fld.CLU_DC_PSRC_CH) == r.src
      let v := sarSrc (u.fld (Reg.CLU_DC_VSRC k) Fld.CLU_DC_VSRC_CH) == r.src
      if i || v then u.portSample k r i v else u

/-- ACTING_POINT (R103, R158, R198): the latest acting point of a slot that has come. -/
def execActingPoint (n : Slot) (s : State) : Res :=
  let n := n.val
  match s.actingDue n with
  | some a =>
    onlyIf (s.cdRun && (s.clusterOf n).isSome) s fun s =>
      let s := s.noteActing n a
      match s.clusterOf n with
      | some k =>
        if s.ctype k = tyGFI3 && s.posOf k n = 0 then s.npBalance k
        else if s.ctype k = tyDLC then s.dlcAct k n a
        else s
      | none => s
  | none => .next s

end Sys2Proof.Machine
end

