-- ==== Sys2Proof/Machine/Measure.lean ====
section
/-!
DEFINITION. The measurement die (R238–R259): scans and records of the SAR bank, the cross-check, invalid inputs, low-power mode, the modulator
and precision banks, calibration.
-/

namespace Sys2Proof.Machine

/-! ### Sources and their users (R247) -/

/-- The SAR inputs of a GMU. -/
def State.gmuSrcs (s : State) (k : Nat) : List SrcId :=
  let w := (s.reg (Reg.CLU_GMU_CFG k)).toNat
  [sarSrc (w % 64), sarSrc (w / 64 % 64), sarSrc (w / 4096 % 64)]

/-- The fast-limit source of a slot, where it has one (R110). -/
def State.fclSrc (s : State) (n : Nat) : Option SrcId :=
  if (s.reg (Reg.EDG_FCL n)).toNat = 0 then none
  else
    let w := s.reg (Reg.EDG_FCL_CFG n)
    if Fld.EDG_FCL_CFG_FTYPE.on w then some (s.slotSrc n) else some (.mod (Fin.ofNat 24 (Fld.EDG_FCL_CFG_FCH.get w)))

/-- A cluster uses a source (R247). -/
def State.usesSrc (s : State) (k : Nat) (x : SrcId) : Bool :=
  s.ctype k != 0 &&
    ((s.slotsOf k).any (fun n => s.slotSrc n == x || s.fclSrc n == some x) ||
     (s.isPhased k && (sarSrc (s.fld (Reg.CLU_DC_PSRC k) Fld.CLU_DC_PSRC_CH) == x ||
       sarSrc (s.fld (Reg.CLU_DC_VSRC k) Fld.CLU_DC_VSRC_CH) == x)) ||
     (s.ctype k == tyGFI3 && sarSrc (s.fld (Reg.CLU_NPSRC k) Fld.CLU_NPSRC_SAR) == x) ||
     (s.isGfi k && (s.gmuSrcs k).contains x))

/-- A cluster in OFF, SAFE_STOPPED or FENCED. -/
def State.cluIdle (s : State) (k : Nat) : Bool := s.cstate k == csOFF || s.cstate k == csSAFE_STOPPED || s.cstate k == csFENCED

/-- Every cluster that uses one of the sources is in OFF, SAFE_STOPPED or FENCED (R246). -/
def State.usersIdle (s : State) (l : List SrcId) : Bool := s.clus.all fun k => s.cluIdle k || !(l.any fun x => s.usesSrc k x)

/-- The invalid bit of a source set or cleared. -/
def State.setInvalid (s : State) (x : SrcId) (on : Bool) : State :=
  match x with
  | .sar i => if i.val < 32 then s.setFld Reg.MEAS_INVAL_SAR0 ⟨i.val, 1⟩ (b2n on) else s.setFld Reg.MEAS_INVAL_SAR1 ⟨i.val - 32, 1⟩ (b2n on)
  | .mod i => s.setFld Reg.MEAS_INVAL_MOD ⟨i.val, 1⟩ (b2n on)
  | .pm _ => s

/-- Inputs are marked invalid, with the reactions of R247. -/
def State.markInvalid (s : State) (l : List SrcId) : State :=
  let s := s.each l fun u x => (u.setInvalid x true).updMeas fun m => { m with marked := File.set 0 m.marked (srcNo x) u.now }
  let s := s.each (s.clus.filter fun k => !s.cluIdle k && l.any fun x => s.usesSrc k x) fun u k => u.safeStop k scSTALE
  s.each (s.rgns.filter fun g => s.regionOn g && l.contains (sarSrc (s.fld (Reg.CLU_REG_VCFG g) Fld.CLU_REG_VCFG_SRC))) fun u g =>
    u.regionReaction g 3

/-- The 16 inputs of a pair (R240). -/
def pairSrcs (p : Nat) : List SrcId := (List.range 16).map fun i => sarSrc (16 * p + i)

/-- Timing domain `d` is lost (R12). -/
def State.clockOut (s : State) (d : Nat) : Bool := bitOf s.power.clkLost d

/-! ### Records (R238) -/

/-- A register of the bank as it stands for work that began at tick `t` (R257, R259). -/
def State.measReg (s : State) (a t : Nat) : Word :=
  match (File.get [] s.meas.old a).reverse.find? fun p => Nat.blt t (p.1 + 16) with
  | some p => p.2
  | none => s.reg a

/-- The FLAGS of a record (R238): TBSTEP where the TB step fell between its first and last conversion. -/
def State.recFlags (s : State) (x : SrcId) (ovr xcf sat lp : Bool) (first last : Nat) : Nat :=
  let step := match s.meas.stepAt with
    | some t => Nat.blt first t && Nat.blt t last
    | none => false
  b2n ovr + 2 * b2n xcf + 4 * b2n sat + 8 * b2n (s.invalid x) + 16 * b2n (s.meas.calNew.contains (srcNo x)) + 32 * b2n lp + 64 * b2n step
    + 128 * b2n (bitOf (s.reg Reg.CLK_STAT).toNat 16)

/-- A record is made: its count and the calibration note of its input (R238). -/
def State.countRecord (s : State) (x : SrcId) : State :=
  s.updMeas fun m => { m with seqs := File.set 0 m.seqs (srcNo x) ((File.get 0 m.seqs (srcNo x) + 1)),
                              calNew := m.calNew.filter (· != srcNo x) }

/-- The code of the last record of an input, where there has been one. -/
def State.lastCode (s : State) (a : Nat) (x : SrcId) : Option Int :=
  if s.meas.seqs.any fun p => p.1 == srcNo x then
    some (match x with | .pm _ => signed 16 ((s.reg a).toNat / 256) | _ => signed 16 (s.reg a).toNat)
  else none

/-- The user overlay of R256 on the value `num`/`den`, with UO weighing `w` codes: rounded to the nearest 1/`u` code. -/
def overlay (cal : Word) (num : Int) (den w u : Nat) : Int :=
  divNear (num * (2 ^ 20 + signed 16 (cal.toNat / 65536)) * u + signed 16 cal.toNat * (w * u * 2 ^ 20 * den : Nat)) (den * 2 ^ 20)

/-- The denominator of a factory-corrected value. -/
def factoryDen : Nat := 655360 * 2 ^ 30 * (10 * 2 ^ 30)

/-- The factory correction of R256 on a raw code, `d` being the junction temperature less 25 °C in 0.1 °C: the value times `factoryDen`. -/
def FactoryCal.correct (f : FactoryCal) (raw d : Int) : Int :=
  (raw * 655360 - f.ofs * 10 - f.tco * d) * (2 ^ 30 + f.gain) * (10 * 2 ^ 30 + f.tcg * d)

/-- The junction temperature of the nearest on-die sensor less 25 °C, in 0.1 °C (R256). DESIGN CHOICE (log 90): locations 0x22 for the SAR bank
and 0x23 for the precision bank, and 25 °C while that sensor shows no valid reading. -/
def State.bankTemp (s : State) (loc : Nat) : Int :=
  if s.bit (Reg.THM_SENS loc) Fld.THM_SENS_VALID then signed 16 (s.reg (Reg.THM_SENS loc)).toNat - 250 else 0

/-- A raw code of an input of the factory record, corrected: the value times `factoryDen`. -/
def State.factory (s : State) (key loc : Nat) (raw : Int) : Int := (File.get {} s.store.factory key).correct raw (s.bankTemp loc)

/-- The calibrated code of the XC input of a core (R245). -/
def State.xcCode (s : State) (c : Nat) (raw : Int) : Int := satI 16 (divNear (s.factory (100 + c) 0x22 raw) factoryDen)

/-! ### The SAR bank (R240–R246, R248) -/

/-- The mask of a core for a scan that began at `t`. -/
def State.coreMask (s : State) (c t : Nat) (low : Bool) : Nat :=
  let w := s.measReg (Reg.MEAS_SAR_MASK c) t
  if low then Fld.MEAS_SAR_MASK_LPMASK.get w else Fld.MEAS_SAR_MASK_MASK.get w

/-- N of an input for a scan that began at `t`. -/
def State.navg (s : State) (i t : Nat) : Nat := Fld.MEAS_IN_CFG_NAVG.get (s.measReg (Reg.MEAS_IN_CFG i) t) + 1

/-- K of a core: conversions per scan (R242). -/
def State.coreK (s : State) (c t : Nat) (low : Bool) : Nat :=
  (bitsOf 8 (s.coreMask c t low)).foldl (fun k b => k + s.navg (8 * c + b) t) 1

/-- The index of the first conversion of an input in its scan. -/
def State.firstIndex (s : State) (i t : Nat) (low : Bool) : Nat :=
  (bitsOf (i % 8) (s.coreMask (i / 8) t low)).foldl (fun k b => k + s.navg (8 * (i / 8) + b) t) 1

/-- Tc in ticks (R241). -/
def tcOf (low : Bool) : Nat := if low then 320 else 20

/-- P of a pair in ticks (R242). -/
def State.pairP (s : State) (p t : Nat) (low : Bool) : Nat := max (s.coreK (2 * p) t low) (s.coreK (2 * p + 1) t low) * tcOf low

/-- K and PERIOD of a pair shown (R242, R261). -/
def State.showPair (s : State) (p t : Nat) (low : Bool) : State :=
  let s := s.each [2 * p, 2 * p + 1] fun u c => u.setFld (Reg.MEAS_SAR_STAT c) ⟨0, 16⟩ (u.coreK c t low)
  s.setFld (Reg.MEAS_XC_STAT p) Fld.MEAS_XC_STAT_PERIOD (min (s.pairP p t low) 65535)

/-- The inputs that a pair converts in a scan. -/
def State.pairInputs (s : State) (p t : Nat) (low : Bool) : List Nat :=
  [2 * p, 2 * p + 1].flatMap fun c => (bitsOf 8 (s.coreMask c t low)).map fun b => 8 * c + b

/-- The record of one input of a scan (R243, R244, R256). -/
def State.sarRecord (s : State) (t : Nat) (low xcf : Bool) (c : SarCode) : State :=
  let i := c.input.val
  let x := SrcId.sar c.input
  let n := s.navg i t
  let cal := s.measReg (Reg.MEAS_IN_UCAL i) t
  let sum := sumI ((c.xs.take n).map fun v => overlay cal (s.factory i 0x22 v) factoryDen 1 16)
  let code := divNear sum (16 * 2 ^ Fld.MEAS_IN_CFG_SHIFT.get (s.measReg (Reg.MEAS_IN_CFG i) t))
  let first := t + s.firstIndex i t low * tcOf low
  let flags := s.recFlags x c.ovr xcf (satI 16 code != code) low first (first + (n - 1) * tcOf low)
  let prev := s.lastCode (Reg.MEAS_IN_LAST i) x
  let stamp := (2 * first + (n - 1) * tcOf low) * 8
  let s := ((s.setNat (Reg.MEAS_IN_LAST i) (flags * 65536 + satS16 code)).countRecord x).raiseIf c.ovr .meas 4
  let s := s.wave (if i < 32 then Reg.REC_CAP_SAR0 else Reg.REC_CAP_SAR1) (i % 32) stamp
    (sampleBytes (satI 16 code) flags i 0 (File.get 0 s.meas.seqs i) 0 stamp (n - 1) (s.measReg Reg.MEAS_CALSEQ t).toNat)
  s.thresholds 0 i (Reg.MEAS_IN_LAST i) prev (satI 16 code)

/-- The cross-check of a scan (R245, R246). -/
def State.crossCheck (s : State) (p t : Nat) (xa xb : Int) : State :=
  let diff := (xa - xb).natAbs
  let cfg := s.measReg (Reg.MEAS_XC_CFG p) t
  let bad := Nat.blt (Fld.MEAS_XC_CFG_XC_TOL.get cfg) diff
  let run := if bad then min (s.fld (Reg.MEAS_XC_STAT p) ⟨8, 8⟩ + 1) 255 else 0
  let s := ((s.setFld (Reg.MEAS_XC_STAT p) ⟨8, 8⟩ run).setFld (Reg.MEAS_XC_STAT p) ⟨0, 8⟩ (min diff 255)).setNat (Reg.MEAS_XC_CODES p)
    (satS16 xb * 65536 + satS16 xa)
  let s := s.raiseIf bad .meas 0
  let s := s.updMeas fun m => { m with pairChk := match File.get none m.pairChk p with
    | some (n, b) => File.set none m.pairChk p (some (n + 1, b || (bad && Nat.blt n 64)))
    | none => m.pairChk }
  if Nat.ble (Fld.MEAS_XC_CFG_XC_LIM.get cfg) run && bad && !s.meas.faulted.contains p then
    let s := ((s.updMeas fun m => { m with faulted := m.faulted ++ [p] }).raise .meas 1).record Reg.MEAS_FLAGS 2
      [p, unsigned 16 xa, unsigned 16 xb]
    s.markInvalid (pairSrcs p)
  else s

/-- The next scan of a pair is a low-power one (R248). -/
def State.wantsLow (s : State) : Bool :=
  s.bit Reg.MEAS_CTRL Fld.MEAS_CTRL_LP_EN && (s.dev == stSTANDBY || s.dev == stSAFE) && s.cmdWait.isNone

/-- The end of a scan: the mode of the next one, and a command that waits for full-rate scans (R248). -/
def State.scanEnd (s : State) (p next : Nat) (low : Bool) : State :=
  let to_ := s.wantsLow
  let s := s.updMeas fun m =>
    { m with scanAt := File.set 0 m.scanAt p next, fullDue := if low then m.fullDue else m.fullDue.filter (· != p),
             lowScan := if to_ then (if m.lowScan.contains p then m.lowScan else m.lowScan ++ [p]) else m.lowScan.filter (· != p) }
  let s := (s.setBit Reg.MEAS_STAT Fld.MEAS_STAT_LP_ACT s.lowPower).showPair p next to_
  if s.cmdWait.isSome && s.meas.fullDue.isEmpty then s.fullRateDone else s

/-- SAR_SCAN (R241–R246): the latest scan of a pair that has ended. `xa` and `xb` are the raw XC codes of the even and the odd core; `codes` names
every input that the scan converts. -/
def execSarScan (p : Pair) (xa xb : Int) (codes : List SarCode) (s : State) : Res :=
  let p := p.val
  let t0 := File.get 0 s.meas.scanAt p
  let low := s.meas.lowScan.contains p
  let per := s.pairP p t0 low
  let t := t0 + ((s.tb - t0) / max per 1 - 1) * per
  let ins := s.pairInputs p t0 low
  onlyIf (s.mdRun && !s.clockOut 2 && Nat.ble (t0 + per) s.tb &&
      ins.all fun i => codes.any fun c => c.input.val == i && Nat.ble (s.navg i t0) c.xs.length) s fun s =>
    let ca := s.xcCode (2 * p) xa
    let cb := s.xcCode (2 * p + 1) xb
    let s := s.crossCheck p t ca cb
    let xcf := Nat.blt (Fld.MEAS_XC_CFG_XC_TOL.get (s.measReg (Reg.MEAS_XC_CFG p) t)) (ca - cb).natAbs
    let s := s.each ins fun u i =>
      match codes.find? fun c => c.input.val == i with
      | some c => u.sarRecord t low xcf c
      | none => u
    s.scanEnd p (t + per) low

/-! ### Commands (R246, R252) -/

/-- MEAS_STAT.CMDRES, and CMDERR where the command was refused or ended with COND. -/
def State.measResult (s : State) (res : Nat) : State :=
  (s.setFld Reg.MEAS_STAT Fld.MEAS_STAT_CMDRES res).raiseIf (res != rcDONE && res != rcPENDING) .meas 7

/-- PAIR_RESET (R246). -/
def State.cmdPairReset (s : State) (p : Nat) : State :=
  if !s.meas.faulted.contains p then s.measResult rcSTATE
  else if !s.usersIdle (pairSrcs p) then s.measResult rcCOND
  else (s.updMeas fun m => { m with pairChk := File.set none m.pairChk p (some (0, false)) }).measResult rcPENDING

/-- PAIR_RESET. -/
def execPairReset (p : Pair) (s : State) : Res := onlyIf s.mdRun s fun s => s.cmdPairReset p.val

/-- PAIR_RESET_CHECK_END (R246): 64 scans have been observed; the inputs become valid where all agree. -/
def execPairResetCheckEnd (p : Pair) (s : State) : Res :=
  let p := p.val
  match File.get none s.meas.pairChk p with
  | some (n, bad) =>
    onlyIf (s.mdRun && Nat.ble 64 n) s fun s =>
      let s := s.updMeas fun m => { m with pairChk := File.set none m.pairChk p none }
      if bad then s.measResult rcCOND
      else
        let s := s.updMeas fun m => { m with faulted := m.faulted.filter (· != p) }
        (s.each (pairSrcs p) fun u x => u.setInvalid x false).measResult rcDONE
  | none => .next s

/-- INPUT_RESET (R252). -/
def State.cmdInputReset (s : State) (i : Nat) : State :=
  let x := SrcId.mod (Fin.ofNat 24 i)
  if !s.invalid x then s.measResult rcSTATE
  else if !s.usersIdle [x] then s.measResult rcCOND
  else (s.updMeas fun m => { m with inChk := if m.inChk.contains i then m.inChk else m.inChk ++ [i] }).measResult rcPENDING

/-- INPUT_RESET. -/
def execInputReset (i : ModIn) (s : State) : Res := onlyIf s.mdRun s fun s => s.cmdInputReset i.val

/-- INPUT_RESET_CHECK_END (R252): whether MCLK reads back and 256 bits show no stuck run. -/
def execInputResetCheckEnd (i : ModIn) (ok : Bool) (s : State) : Res :=
  onlyIf (s.mdRun && s.meas.inChk.contains i.val) s fun s =>
    let s := s.updMeas fun m => { m with inChk := m.inChk.filter (· != i.val) }
    if ok then (s.setInvalid (.mod i) false).measResult rcDONE else s.measResult rcCOND

/-! ### The modulator bank (R249–R252) -/

/-- The length of the sinc3 window of an input in ticks, from its first to its newest bit, with the settings of a window that began at `t` (R250). -/
def State.sincSpan (s : State) (i t : Nat) : Nat :=
  (3 * Fld.MEAS_MOD_CFG_OSR.get (s.measReg (Reg.MEAS_MOD_CFG i) t) - 3) * ((s.measReg (Reg.MEAS_MCLK (i / 6)) t).toNat % 64)

/-- The tick at which the window of the present record of an input began: a window in progress at a commit finishes under the old settings (R259). -/
def State.sincBegin (s : State) (i : Nat) : Nat := s.tb - s.sincSpan i (s.tb - s.sincSpan i 0)

/-- SINC3_RECORD (R250, R256): `x` is 2d − 1 in 2^-20. The spec states no code for FSD 0, which is a free value (log 31). -/
def execSinc3Record (i : ModIn) (x : Int) (s : State) : Res :=
  let n := i.val
  onlyIf (s.mdRun && s.modOn n) s fun s =>
    let begin_ := s.sincBegin n
    let fsd := Fld.MEAS_MOD_FSD_FSD.get (s.measReg (Reg.MEAS_MOD_FSD n) begin_)
    let cal := s.measReg (Reg.MEAS_MOD_UCAL n) begin_
    let code := if fsd = 0 then signed 16 (Config.freeValue s.draws) else overlay cal (x * 128) fsd 1 1
    let s := { s with draws := s.draws + b2n (fsd == 0) }
    let ovr := Nat.blt (1004 * fsd * 2 ^ 20) (x.natAbs * 4096000)
    let flags := s.recFlags (.mod i) ovr false (satI 16 code != code) false begin_ s.tb
    let prev := s.lastCode (Reg.MEAS_MOD_LAST n) (.mod i)
    let stamp := ((begin_ + s.tb) * 8 + signed 16 (s.measReg (Reg.MEAS_MOD_ADJ n) begin_).toNat).toNat
    let s := ((s.setNat (Reg.MEAS_MOD_LAST n) (flags * 65536 + satS16 code)).countRecord (.mod i)).raiseIf ovr .meas 4
    let s := s.wave Reg.REC_CAP_MOD n stamp
      (sampleBytes (satI 16 code) flags n 1 (File.get 0 s.meas.seqs (64 + n)) 0 stamp 0 (s.measReg Reg.MEAS_CALSEQ begin_).toNat)
    s.thresholds 1 n (Reg.MEAS_MOD_LAST n) prev (satI 16 code)

/-- STUCK_RUN (R252). -/
def execStuckRun (i : ModIn) (s : State) : Res :=
  onlyIf (s.mdRun && s.modOn i.val) s fun s => (s.raise .meas 2).markInvalid [.mod i]

/-! ### The precision bank and the references (R253, R256, R258) -/

/-- The code of a precision channel after the factory correction and the overlay (R256), and whether the corrected value is over range (R253). -/
def State.pmCode (s : State) (m : Nat) (raw : Int) : Int × Bool :=
  let x := s.factory (200 + 4 * m + (s.measReg (Reg.MEAS_PM_CFG m) s.tb).toNat % 4) 0x23 raw
  (overlay (s.measReg (Reg.MEAS_PM_UCAL m) s.tb) x factoryDen 256 1, Nat.blt (1004 * 2 ^ 23 * factoryDen) (x.natAbs * 1000))

/-- PRECISION_CONVERSION (R253, R226): every enabled channel converts now; `codes` are the raw codes of PM0–PM7. -/
def execPrecisionConversion (codes : List Int) (s : State) : Res :=
  onlyIf (s.mdRun && !s.clockOut 4 && Nat.ble (s.meas.pmStamp + 199999) s.tbFine) s fun s =>
    let s := s.updMeas fun m => { m with pmStamp := s.tbFine }
    let on (m : Nat) : Bool := s.bit (Reg.MEAS_PM_CFG m) Fld.MEAS_PM_CFG_EN
    let vals := (List.range 8).map fun m => if on m then some (s.pmCode m (codes.getD m 0)) else none
    let dts := s.meas.pmPrev.map fun p => match p with
      | some t => s.tbFine - t
      | none => 12500 * 16
    let s := s.each ((List.range 8).filter on) fun u m =>
      let c := ((vals.getD m none).getD (0, false)).1
      let o := ((vals.getD m none).getD (0, false)).2
      let flags := u.recFlags (.pm (Fin.ofNat 8 m)) o false (satI 24 c != c) false (u.tb - 1) u.tb
      let prev := u.lastCode (Reg.MEAS_PM_LAST m) (.pm (Fin.ofNat 8 m))
      let w := unsigned 24 (satI 24 c)
      let u := ((u.setNat (Reg.MEAS_PM_LAST m) (flags % 256 * 2 ^ 24 + w)).countRecord (.pm (Fin.ofNat 8 m))).raiseIf o .meas 4
      let u := u.wave Reg.REC_CAP_PMFB m u.tbFine
        (sampleBytes (signed 16 (w / 256)) flags m 2 (File.get 0 u.meas.seqs (88 + m)) (w % 256) u.tbFine 0 (u.measReg Reg.MEAS_CALSEQ u.tb).toNat)
      u.thresholds 2 m (Reg.MEAS_PM_LAST m) prev (signed 16 (w / 256))
    let s := s.each s.rgns fun u g => u.postRegion g u.tbFine (vals.map (Option.map fun p => (satI 24 p.1, p.2))) dts
    s.updMeas fun m => { m with pmPrev := (List.range 8).map fun i => if on i then some s.tbFine else m.pmPrev.getD i none }

/-- REFERENCE_CHECK (R258): every 10 ms; the deviation in ppm. -/
def execReferenceCheck (dev : Int) (s : State) : Res :=
  onlyIf (s.mdRun && s.since s.meas.refAt (ms 10)) s fun s =>
    let bad := Nat.blt 1000 dev.natAbs
    let s := (s.updMeas fun m => { m with refAt := s.now }).setBit Reg.MEAS_STAT Fld.MEAS_STAT_REFOK (!bad)
    if bad then (s.raise .meas 5).record Reg.MEAS_FLAGS 32 [unsigned 32 dev] else s

/-! ### Commits (R232, R257, R259) -/

/-- The source whose UCAL register lies at an offset. -/
def ucalSrc (a : Nat) : Option SrcId :=
  if Nat.ble 0x30400 a && Nat.blt a 0x30800 && a % 0x10 == 4 then some (sarSrc ((a - 0x30400) / 0x10))
  else if Nat.ble 0x30800 a && Nat.blt a 0x30B00 && a % 0x20 == 0x0C then some (.mod (Fin.ofNat 24 ((a - 0x30800) / 0x20)))
  else if Nat.ble 0x30C00 a && Nat.blt a 0x30C80 && a % 0x10 == 4 then some (.pm (Fin.ofNat 8 ((a - 0x30C00) / 0x10)))
  else none

/-- A committed or direct change of a MEAS register at `a`: the old word stays in force for work that has begun. The longest scan takes 655,680
ticks (R242), after which no such work is left. -/
def State.measChange (s : State) (a : Nat) (old : Word) : State :=
  s.updMeas fun m =>
    { m with old := File.set [] m.old a ((s.tb, old) :: (File.get [] m.old a).filter fun p => Nat.blt s.tb (p.1 + 700000)) }

/-- What follows a commit that writes the registers `offs` (R257): for calibrations CALSEQ counts it, the next record of each input carries CALCHG,
and an interval of the ledger that uses a precision channel among them closes (R232). -/
def State.measCommitted (s : State) (offs : List Nat) : State :=
  let cals := offs.filterMap ucalSrc
  let s := if cals.isEmpty then s
    else (s.measChange Reg.MEAS_CALSEQ (s.reg Reg.MEAS_CALSEQ)).setNat Reg.MEAS_CALSEQ ((s.reg Reg.MEAS_CALSEQ).toNat + 1)
  let s := s.updMeas fun m => { m with calNew := (cals.map srcNo).filter (fun x => !m.calNew.contains x) ++ m.calNew }
  let ch (g m : Nat) : Bool := s.fld (Reg.LDG_CFG g) Fld.LDG_CFG_VCH == m ||
    (s.accounts g).any fun a => s.fld (Reg.LDG_A_CFG g a) Fld.LDG_A_CFG_CH == m
  s.closeEarly 5 0 fun g => cals.any fun x => match x with
    | .pm m => ch g m.val
    | _ => false

end Sys2Proof.Machine
end

