-- ==== Sys2Proof/Machine/Thermal.lean ====
section
/-!
DEFINITION. Thermal supervision and the hardware thermal shutdown (R262–R269, R277).
-/

namespace Sys2Proof.Machine

/-! ### The NTC model (R263) -/

/-- The reciprocal of the odd numbers 1, 3, … 49 times powers of z, summed: the series of the inverse hyperbolic tangent, in units of
2^-60. -/
def atanhSeries (z : Nat) : Nat → Nat → Nat → Nat
  | 0, _, _ => 0
  | n + 1, k, p => p / k + atanhSeries z n (k + 2) (p * z / 2 ^ 60 * z / 2 ^ 60)

/-- The natural logarithm of a ratio of naturals in units of 2^-60: the power of two of the ratio times ln 2, and 2·atanh((m − 1)/(m + 1))
of what is left, 1 ≤ m < 2. -/
def lnFix (num den : Nat) : Int :=
  let y := num * 2 ^ 80 / max den 1
  let e := Nat.log2 y
  let m := if Nat.ble 60 e then y / 2 ^ (e - 60) else y * 2 ^ (60 - e)
  let z := (m - 2 ^ 60) * 2 ^ 60 / (m + 2 ^ 60)
  (2 * atanhSeries z 25 1 z : Nat) + ((e : Int) - 80) * 799144290325165979

/-- T of R263 in 0.1 °C, rounded to nearest, from the resistance in 0.1 Ω, RNOM in 10 Ω and B in K; saturated to 16 bits. -/
def ntcTemp (r rnom b : Nat) : Int :=
  let l := lnFix r (100 * rnom)
  let d : Int := 100 * b * 2 ^ 60 + 29815 * l
  if d ≤ 0 then 32767 else satI 16 (divNear (2 * (29815 * b * 10 * 2 ^ 60) - 5463 * d) (2 * d.toNat))

/-! ### Sensor registers and maxima (R263, R264) -/

/-- Bits 15:0 of a sensor or maximum register: the temperature. -/
def Fld.THM_TEMP : Field := ⟨0, 16⟩

/-- The sensor register of a location. -/
def thmReg (loc : Nat) : Nat := if Nat.blt loc 0x40 then Reg.THM_SENS loc else Reg.THM_NTC (loc - 0x40)

/-- The word of a sensor register: valid with its temperature, or faulty, or neither. -/
def sensWord (t : Option Int) (fault : Bool) : Nat :=
  match t with
  | some v => 2 ^ 31 + unsigned 16 v
  | none => if fault then 2 ^ 30 else 0

/-- A reading shown; a fault that was not there sets SENSFLT. -/
def State.showSensor (s : State) (loc : Nat) (t : Option Int) (fault : Bool) : State :=
  let was := s.bit (thmReg loc) Fld.THM_SENS_FAULT
  let s := match t with
    | some v => if Nat.blt loc 0x18 then s.setFld (Reg.GDV_TEMP loc) ⟨16, 16⟩ (unsigned 16 v)
                else if Nat.ble 0x40 loc then s.setFld (Reg.GDV_TEMP (loc - 0x40)) ⟨0, 16⟩ (unsigned 16 v) else s
    | none => s
  (s.setNat (thmReg loc) (sensWord t fault)).raiseIf (fault && t.isNone && !was) .thm 7

/-- The hottest of located temperatures, a tie to the lower location (R264). -/
def hottest : List (Nat × Int) → Option (Nat × Int)
  | [] => none
  | p :: rest => match hottest rest with
    | some q => if p.2 < q.2 then some q else some p
    | none => some p

/-- The word of a maximum register (R264). -/
def maxWord (l : List (Nat × Int)) : Nat :=
  match hottest l with
  | some (loc, t) => loc * 2 ^ 24 + unsigned 16 t
  | none => 0xFF008000

/-- The slot of a location. -/
def slotOfLoc (loc : Nat) : Option Nat :=
  if Nat.blt loc 24 then some loc else if Nat.ble 0x40 loc && Nat.blt loc 0x58 then some (loc - 0x40) else none

/-- The cluster to which a location is attributed (R262). -/
def State.cluOfLoc (s : State) (loc : Nat) : Option Nat := (slotOfLoc loc).bind s.clusterOf

/-- The readings of a region (R262, R264). -/
def State.inRegion (s : State) (g : Nat) (l : List (Nat × Int)) : List (Nat × Int) :=
  l.filter fun p => (s.cluOfLoc p.1).any fun k => s.regionOf k == g

/-- The maxima of R264. -/
def State.showMaxima (s : State) (j n : List (Nat × Int)) : State :=
  let s := (s.setNat Reg.THM_PKG_JMAX (maxWord j)).setNat Reg.THM_PKG_NMAX (maxWord n)
  s.each s.rgns fun u g =>
    (u.setNat (Reg.THM_REG_JMAX g) (maxWord (u.inRegion g j))).setNat (Reg.THM_REG_NMAX g) (maxWord (u.inRegion g n))

/-- The rated junction window of a location, 0.1 °C (R458). -/
def ratedMax (loc : Nat) : Int := if loc < 24 then 1400 else if loc = 0x26 ∨ loc = 0x27 then 1200 else 1250

/-! ### Thresholds (R265) -/

/-- Locations above a threshold in 0.1 °C, with the 5 °C hysteresis on return; a faulty source counts as above (R263). -/
def aboveSet (old : List Nat) (thr : Int) (l : List (Nat × Int)) (faulty : List Nat) : List Nat :=
  ((l.filter fun p => decide (thr < p.2) || (old.contains p.1 && decide (thr - 50 < p.2))).map (·.1)) ++ faulty

/-- The clusters derated by a set of tripped locations (R67). -/
def State.derLocs (s : State) (l : List Nat) : List Nat := l.filterMap s.cluOfLoc

/-- The action of a threshold on the cluster of a location (R265): 0 log, 1 DERATE, 2 cluster safe stop, 3 package safe state. -/
def State.thmAct (s : State) (act loc : Nat) : State :=
  match s.cluOfLoc loc with
  | none => s
  | some k => match act with
    | 1 => (s.updCluster k fun c => { c with derThermal := true }).derateScale k
    | 2 => s.safeStop k scTHERMAL
    | 3 => s.cdSafe 0x14
    | _ => s

/-- The bits of THM_FLAGS that a source newly above a threshold sets, with its recorder entry. -/
def State.thmFlag (s : State) (b loc : Nat) : State := (s.raise .thm b).record Reg.THM_FLAGS (2 ^ b) [loc, (s.reg (thmReg loc)).toNat]

/-- What is new in a set. -/
def newIn (old new : List Nat) : List Nat := new.filter fun x => !old.contains x

/-- The thermal DERATE cause of each cluster follows the tripped locations whose action is DERATE (R67, R265). -/
def State.followDerate (s : State) : State :=
  let j := if s.fld Reg.THM_JCFG Fld.THM_JCFG_JACT = 1 then s.derLocs (s.thm.jtrip.filter fun l => Nat.blt l 24) else []
  let n := if s.fld Reg.THM_NCTL Fld.THM_NCTL_NACT = 1 then s.derLocs s.thm.ntrip else []
  s.each s.clus fun u k =>
    let on := (j ++ n).contains k
    if (u.cluster k).derThermal then u.updCluster k fun c => { c with derThermal := on, derAt := some u.now, scaleAt := some u.now } else u

/-- The thresholds of R265 applied to a reading: junction and NTC readings, and the faulty locations of each kind. -/
def State.thmThresholds (s : State) (j n : List (Nat × Int)) (jf nf : List Nat) : State :=
  let jc := s.reg Reg.THM_JCFG
  let nc := s.reg Reg.THM_NCFG
  let o := s.thm
  let jw := aboveSet o.jwarn (10 * Fld.THM_JCFG_JWARN.get jc) j jf
  let jt := aboveSet o.jtrip (10 * Fld.THM_JCFG_JTRIP.get jc) j jf
  let nw := aboveSet o.nwarn (10 * Fld.THM_NCFG_NWARN.get nc) n nf
  let nt := aboveSet o.ntrip (10 * Fld.THM_NCFG_NTRIP.get nc) n nf
  let s := s.updThm fun t => { t with jwarn := jw, jtrip := jt, nwarn := nw, ntrip := nt }
  let s := (s.setBit Reg.THM_STAT Fld.THM_STAT_JTRIP (!jt.isEmpty)).setBit Reg.THM_STAT Fld.THM_STAT_NTRIP (!nt.isEmpty)
  let s := s.followDerate
  let s := s.each (newIn o.jwarn jw) fun u l => u.thmFlag 2 l
  let s := s.each (newIn o.jtrip jt) fun u l =>
    let u := u.thmFlag 3 l
    if Nat.blt l 24 then u.thmAct (Fld.THM_JCFG_JACT.get jc) l else u.cdSafe 0x14
  let s := s.each (newIn o.nwarn nw) fun u l => u.thmFlag 4 l
  s.each (newIn o.ntrip nt) fun u l => (u.thmFlag 5 l).thmAct (u.fld Reg.THM_NCTL Fld.THM_NCTL_NACT) l

/-! ### Foldback (R266) -/

/-- f in 1/256 of a temperature in 0.1 °C. -/
def foldTarget (t : Int) (fs fe fmin : Nat) : Nat :=
  if t ≤ 10 * fs then 256
  else if 10 * fe ≤ t then fmin
  else 256 - (256 - fmin) * (t - 10 * fs).toNat / max (10 * (fe - fs)) 1

/-- The foldback factor of a cluster from the NTCs that are enabled and valid. -/
def State.foldback (s : State) (k : Nat) (n : List (Nat × Int)) : State :=
  let mine := n.filter fun p => s.cluOfLoc p.1 == some k && bitOf (s.reg Reg.THM_NTC_EN).toNat (p.1 - 0x40)
  let nc := s.reg Reg.THM_NCFG
  let goal := match hottest mine with
    | some (_, t) => foldTarget t (Fld.THM_NCFG_FOLD_START.get nc) (Fld.THM_NCFG_FOLD_END.get nc) (s.fld Reg.THM_NCTL Fld.THM_NCTL_FOLD_MIN)
    | none => 256
  let f := (s.reg (Reg.THM_CLU_FOLD k)).toNat % 512
  let f' := if Nat.blt f goal then f + 1 else goal
  (s.setNat (Reg.THM_CLU_FOLD k) f').raiseIf (f == 256 && f' != 256) .thm 6

/-- The release count of R269 runs while every on-die sensor reads below 115 °C. -/
def State.releaseCount (s : State) (cool : Bool) : State :=
  if s.bit Reg.THM_STAT Fld.THM_STAT_HWSD && s.variant != .v7624 then
    (s.setBit Reg.THM_STAT Fld.THM_STAT_RELEASE_PEND cool).updThm fun t => { t with coolAt := if cool then some (t.coolAt.getD s.now) else none }
  else s

/-- The sensors of on-die locations that the variant has (R262). -/
def State.dieLocs (s : State) : List Nat := (List.range 0x2C).filter fun l => Nat.ble 24 l || Nat.blt l s.variant.slots

/-- A valid on-die reading: inside the range of the sensor (R263). -/
def dieTemp (t : Option Int) : Option Int := t.filter fun v => decide (-550 ≤ v) && decide (v ≤ 1750)

/-- SAFE_DEMAND bit 18: over-temperature. -/
def dmSOT : Nat := 2 ^ 18

/-- One of Ringmaster's own sensors, locations 0x26 and 0x27, reads 125 °C or more (R327). -/
def State.rmHot (s : State) : Bool :=
  [0x26, 0x27].any fun l => s.bit (Reg.THM_SENS l) Fld.THM_SENS_VALID && decide (1250 ≤ signed 16 (s.reg (Reg.THM_SENS l)).toNat)

/-- A driver-die junction, an enabled NTC or a sensor of Ringmaster is at or above its threshold (R327). -/
def State.sotPresent (s : State) : Bool :=
  s.rmHot || s.slots.any fun n => Nat.blt 0 (s.drv n).otRun || Nat.blt 0 (s.drv n).ntcRun || (s.drv n).ntcOpen

/-- Ringmaster judges its own sensors (R327); `was` tells whether a threshold was passed before. -/
def State.rmSensors (s : State) (was : Bool) : State :=
  if s.rmRun && s.rmHot && !was then (s.raise .safe 4).packageSafe 0x0E dmSOT
  else if s.sotPresent then s else s.causeGone dmSOT

/-- THERMAL_READING (R263–R266, R269, R327): every 1 ms. -/
def execThermalReading (t : ThermalIn) (s : State) : Res :=
  onlyIf (s.cdRun && s.since s.thm.readAt (ms 1)) s fun s =>
    let s := s.updThm fun x => { x with readAt := s.now }
    let s := s.drawn 32 fun v s => s.setNat Reg.CLK_HOCOMP v
    let dies := s.dieLocs.map fun l => (l, dieTemp ((t.dies[l]?).getD none))
    let model := s.reg Reg.THM_NMODEL
    let en := (s.reg Reg.THM_NTC_EN).toNat
    let ntcs := s.slots.map fun n =>
      let r := t.ntcs.getD n 0
      (0x40 + n, if Nat.blt r 500 || Nat.blt 20000000 r then none else some (ntcTemp r (Fld.THM_NMODEL_RNOM.get model) (model.toNat / 65536)))
    let was := s.rmHot
    let s := s.each dies fun u p => u.showSensor p.1 p.2 true
    let s := s.each ntcs fun u p => u.showSensor p.1 p.2 (bitOf en (p.1 - 0x40))
    let good (l : List (Nat × Option Int)) : List (Nat × Int) := l.filterMap fun p => p.2.map fun v => (p.1, v)
    let bad (l : List (Nat × Option Int)) : List Nat := (l.filter fun p => p.2.isNone).map (·.1)
    let on (p : Nat) : Bool := bitOf en (p - 0x40)
    let j := good dies
    let n := good ntcs
    let s := s.showMaxima j n
    let s := s.setCond 1 ((j.any fun p => decide (p.2 < -400) || decide (ratedMax p.1 < p.2)))
    let s := s.each s.clus fun u k => u.foldback k n
    let s := s.showIlims
    let s := s.releaseCount (dies.all fun p => p.2.any fun v => decide (v < 1150))
    (s.thmThresholds j (n.filter fun p => on p.1) (bad dies) ((bad ntcs).filter on)).rmSensors was

/-! ### Hardware thermal shutdown (R267–R269, R277) -/

/-- SAFE_DEMAND bit 26: hardware thermal line (R342). -/
def dmTHERMAL : Nat := 2 ^ 26

/-- HW_THERMAL_TRIP (R268, R277): the driver die turns off softly, every line goes off over the thermal line, SAFE with cause 0x10, also
where the device is in SAFE already. -/
def execHwThermalTrip (loc : Nat) (readings : List Int) (s : State) : Res :=
  onlyIf (s.cdRun && (Nat.blt loc s.variant.slots || (Nat.ble 0x18 loc && Nat.ble loc 0x21))) s fun s =>
    let s := if Nat.blt loc 24 then s.softOff loc else s
    let first := !s.bit Reg.THM_STAT Fld.THM_STAT_HWSD
    let s := s.setBit Reg.THM_STAT Fld.THM_STAT_HWSD true
    let s := if first then s.setFld Reg.THM_STAT Fld.THM_STAT_HWSD_LOC loc else s
    let s := if s.variant = .v7624 then s.setBit Reg.THM_STAT Fld.THM_STAT_LATCHED true else s
    let s := (s.setBit Reg.THM_STAT Fld.THM_STAT_RELEASE_PEND false).updThm fun t => { t with coolAt := none }
    let s := s.setBit Reg.SAFE_STAT Fld.SAFE_STAT_HWSD true
    let s := s.packageSafe 0x10 dmTHERMAL
    let s := if s.dev = stSAFE then s.setFld Reg.GLB_DEVSTATE Fld.GLB_DEVSTATE_CAUSE 0x10 else s
    (s.raise .thm 0).record Reg.THM_FLAGS 1 (loc :: readings.map (unsigned 16))

/-- HW_THERMAL_RELEASE (R269): after 4,000,000,000 ticks below 115 °C, on the two variants that release by themselves. -/
def execHwThermalRelease (s : State) : Res :=
  match s.thm.coolAt with
  | none => .next s
  | some t =>
    onlyIf (s.cdRun && s.bit Reg.THM_STAT Fld.THM_STAT_HWSD && s.variant != .v7624 && s.since t 4000000000) s fun s =>
      let s := (s.setBit Reg.THM_STAT Fld.THM_STAT_HWSD false).setBit Reg.THM_STAT Fld.THM_STAT_RELEASE_PEND false
      let s := (s.updThm fun x => { x with coolAt := none }).setBit Reg.SAFE_STAT Fld.SAFE_STAT_HWSD false
      ((s.causeGone dmTHERMAL).raise .thm 1).rmFollow

end Sys2Proof.Machine
end

