-- ==== Sys2Proof/Machine/SvrCtl.lean ====
section
/-!
DEFINITION. Service-regulator controllers (R270–R277).
-/

namespace Sys2Proof.Machine

/-- The codes of SVRc_STAT.STATE (R270). -/
def svOFF : Nat := 0
/-- Soft start. -/
def svSOFTSTART : Nat := 1
/-- Run. -/
def svRUN : Nat := 2
/-- Hiccup. -/
def svHICCUP : Nat := 3
/-- Latched. -/
def svLATCHED : Nat := 4
/-- Overvoltage latch. -/
def svOV_LATCH : Nat := 5

/-- VREF, mV. -/
def State.svrVref (s : State) (c : Nat) : Nat := s.fld (Reg.SVR_VREF c) Fld.SVR_VREF_VREF
/-- SS_TIME in ticks. -/
def State.svrSsTicks (s : State) (c : Nat) : Nat := 40000 * s.fld (Reg.SVR_VREF c) Fld.SVR_VREF_SS_TIME
/-- The period of FSW in ticks (R272). -/
def State.svrFsw (s : State) (c : Nat) : Nat := 400000 / max (s.fld (Reg.SVR_FSW c) Fld.SVR_FSW_FSW) 1

/-- Setting EN is admissible (R271). -/
def State.svrEnableOk (s : State) (c : Nat) : Bool :=
  let vref := s.svrVref c
  let ilim := s.reg (Reg.SVR_ILIM c)
  let fsw := s.fld (Reg.SVR_FSW c) Fld.SVR_FSW_FSW
  Nat.ble 200 vref && Nat.blt 0 (Fld.SVR_ILIM_GAIN.get ilim) && Nat.blt 0 (Fld.SVR_ILIM_ILIM.get ilim) &&
    Nat.ble 200 fsw && Nat.ble fsw 2000 && Nat.ble (vref * (100 + s.fld (Reg.SVR_OVP c) Fld.SVR_OVP_OV)) 175000

/-- EN of a controller is set, or refused with CFGERR (R270, R271). In BOOT, LOCKOUT or without VIO3, EN stays clear. -/
def State.svrSetEn (s : State) (c : Nat) : State :=
  if s.bit (Reg.SVR_CTRL c) Fld.SVR_CTRL_EN || s.dev = stBOOT || s.dev = stLOCKOUT || !s.vioOk 3 then s
  else if s.svrEnableOk c then
    let s := s.setBit (Reg.SVR_CTRL c) Fld.SVR_CTRL_EN true
    if s.svrAllowed c then s.svrSoftStart c else s
  else s.raise (.svr c) 8

/-- EN of a controller is cleared: OFF from any state (R270). -/
def State.svrClearEn (s : State) (c : Nat) : State := (s.setBit (Reg.SVR_CTRL c) Fld.SVR_CTRL_EN false).svrOff c

/-- SVR_ENABLE (R271). -/
def execSvrEnable (c : Sys2Proof.Svr) (s : State) : Res := onlyIf s.cdRun s fun s => s.svrSetEn c.val
/-- SVR_DISABLE (R270). -/
def execSvrDisable (c : Sys2Proof.Svr) (s : State) : Res := onlyIf s.cdRun s fun s => s.svrClearEn c.val

/-- A hiccup event (R273): HICCUP while retries are left, then LATCHED. -/
def State.svrHiccup (s : State) (c : Nat) : State :=
  let used := s.fld (Reg.SVR_STAT c) Fld.SVR_STAT_USED
  let s := (s.setFld (Reg.SVR_STAT c) Fld.SVR_STAT_NACT 0).setBit (Reg.SVR_STAT c) Fld.SVR_STAT_BSTHOLD false
  if Nat.blt used (s.fld (Reg.SVR_HICCUP c) Fld.SVR_HICCUP_RETRIES) then
    let s := (s.setSvrState c svHICCUP).setFld (Reg.SVR_STAT c) Fld.SVR_STAT_USED (used + 1)
    (s.updSvr c fun r => { r with hicAt := s.now, limRun := 0, duty := 0 }).raise (.svr c) 0
  else ((s.setSvrState c svLATCHED).updSvr c fun r => { r with limRun := 0, duty := 0 }).raise (.svr c) 1

/-- The controller switches. -/
def State.svrSwitching (s : State) (c : Nat) : Bool := s.svrState c == svSOFTSTART || s.svrState c == svRUN

/-- What a PWM output drives (R270): high impedance, the low side on, or in every period a high-side pulse with its angle and its duty in 2^-16 of
the period. -/
inductive SvrPwm where
  | hiZ | low | pulse (angle duty : Nat)
  deriving DecidableEq, Repr

/-- The PWM output of a phase (R270, R272, R274–R276): the active phases are the lowest-numbered, and their angles follow OFS and their rank; a
forced pulse leaves 120 ticks of off-time (R275). -/
def State.svrPwm (s : State) (c p : Nat) : SvrPwm :=
  let m := s.fld (Reg.SVR_STAT c) Fld.SVR_STAT_NACT
  if s.svrState c = svOV_LATCH then .low
  else if !s.svrSwitching c || Nat.ble m p then .hiZ
  else if s.bit (Reg.SVR_STAT c) Fld.SVR_STAT_BSTHOLD then .low
  else
    let r := s.svr c
    let most := if r.force.contains p then (r.period - 120) * 65536 / max r.period 1 else 65536
    .pulse ((s.fld (Reg.SVR_CTRL c) Fld.SVR_CTRL_OFS * 4096 + p * 65536 / m) % 65536) (min r.duty most)

/-- The level of SVRc_EN (R270). -/
def State.svrEnPin (s : State) (c : Nat) : Bool := s.svrSwitching c || s.svrState c == svOV_LATCH

/-- The present period, slewed toward its goal by at most 1 % (R272). -/
def svrSlew (period goal : Nat) : Nat := if period = 0 then goal else clampN (period - period / 100) (period + period / 100) goal

/-- The bootstrap hold begins or ends (R275). -/
def State.svrHold (s : State) (c : Nat) : State :=
  let on := s.bit (Reg.SVR_STAT c) Fld.SVR_STAT_BSTHOLD
  if (s.svr c).fltLow then
    if on then s else (s.setBit (Reg.SVR_STAT c) Fld.SVR_STAT_BSTHOLD true).raise (.svr c) 3
  else if on && s.since (s.svr c).fltAt (s.svr c).period then s.setBit (Reg.SVR_STAT c) Fld.SVR_STAT_BSTHOLD false
  else s

/-- The reference of this period (R273): the ramp of a soft start, which holds pause. -/
def State.svrRef (s : State) (c : Nat) : Int :=
  let v : Int := s.svrVref c
  if s.svrState c = svSOFTSTART then
    let r := s.svr c
    let v0 : Int := (r.vStart.getD 0 : Nat)
    let t := max (s.svrSsTicks c) 1
    v0 + (v - v0) * (min (s.now - r.ssAt - r.paused) t : Nat) / t
  else v

/-- Refresh (R275): a phase whose low side has not been on for 120 ticks within 8,000 ticks is forced. -/
def State.svrRefresh (s : State) (c : Nat) (off : Nat) (held : Bool) : State :=
  (s.updSvr c fun r => { r with force := [] }).each (List.range (s.fld (Reg.SVR_STAT c) Fld.SVR_STAT_NACT)) fun u p =>
    let on (u : State) : State := u.updSvr c fun r => { r with lowAt := r.lowAt.set p u.now }
    if held || Nat.ble 120 off then on u
    else if u.since ((u.svr c).lowAt.getD p 0) 8000 then ((on u).updSvr c fun r => { r with force := r.force ++ [p] }).incSat (Reg.SVR_REFCNT c)
    else u

/-- DROP_m and ADD_m, A (R279). -/
def State.svrDrop (s : State) (c m : Nat) : Nat :=
  let w := s.reg (Reg.SVR_SHED0 c)
  match m with
  | 2 => Fld.SVR_SHED0_DROP_2.get w
  | 3 => Fld.SVR_SHED0_DROP_3.get w
  | _ => Fld.SVR_SHED0_DROP_4.get w
/-- ADD_m. -/
def State.svrAdd (s : State) (c m : Nat) : Nat :=
  let w := s.reg (Reg.SVR_SHED1 c)
  match m with
  | 1 => Fld.SVR_SHED1_ADD_1.get w
  | 2 => Fld.SVR_SHED1_ADD_2.get w
  | _ => Fld.SVR_SHED1_ADD_3.get w

/-- The dwell timers of shedding follow the summed current, mA (R276). -/
def State.svrDwell (s : State) (c ma : Nat) : State :=
  let m := s.fld (Reg.SVR_STAT c) Fld.SVR_STAT_NACT
  let run := s.bit (Reg.SVR_CTRL c) Fld.SVR_CTRL_SHED_EN && s.svrState c == svRUN
  let drop := run && Nat.blt 1 m && Nat.blt ma (1000 * s.svrDrop c m)
  let add := run && Nat.blt m (s.svrPhases c) && Nat.blt (1000 * s.svrAdd c m) ma
  s.updSvr c fun r => { r with dropAt := if drop then some (r.dropAt.getD s.now) else none,
                               addAt := if add then some (r.addAt.getD s.now) else none }

/-- SVR_PERIOD (R272–R276): once per switching period. -/
def execSvrPeriod (c : Sys2Proof.Svr) (i : SvrIn) (s : State) : Res :=
  let c := c.val
  onlyIf (s.cdRun && s.svrSwitching c && s.since (s.svr c).perAt (s.svr c).period) s fun s =>
    let goal := if s.bit (Reg.SVR_STAT c) Fld.SVR_STAT_SYNCED then (s.svr c).syncT else s.svrFsw c
    let s := s.svrHold c
    let held := s.bit (Reg.SVR_STAT c) Fld.SVR_STAT_BSTHOLD
    let s := s.updSvr c fun r =>
      { r with vStart := some (r.vStart.getD i.vsns), paused := if held then r.paused + (s.now - max r.perAt r.ssAt) else r.paused }
    let gain := s.fld (Reg.SVR_ILIM c) Fld.SVR_ILIM_GAIN
    let m := s.fld (Reg.SVR_STAT c) Fld.SVR_STAT_NACT
    let amps := (i.imon.take m).map fun x => x * gain
    let ma := amps.foldl (· + ·) 0
    let limited := !held && amps.any fun x => Nat.blt (500 * s.fld (Reg.SVR_ILIM c) Fld.SVR_ILIM_ILIM) x
    let e : Int := s.svrRef c - i.vsns
    let w := s.reg (Reg.SVR_LOOP c)
    let r := s.svr c
    let integ := if limited then r.integ else r.integ + (Fld.SVR_LOOP_KI.get w : Int) * e
    let d := (clampI 0 63569 ((Fld.SVR_LOOP_KP.get w : Int) * e + integ / 256 + (Fld.SVR_LOOP_KD.get w : Int) * (e - r.ePrev))).toNat
    let period := svrSlew r.period goal
    let limRun := if limited then r.limRun + 1 else 0
    let s := s.updSvr c fun r =>
      { r with integ, ePrev := e, duty := if held then 0 else d, period, perAt := s.now, limRun }
    let s := s.svrRefresh c (period * (65536 - d) / 65536) held
    let s := s.setNat (Reg.SVR_MEAS c) (min (ma / 100) 65535 * 65536 + min i.vsns 4095)
    let vref := s.svrVref c
    let near := Nat.ble (100 * ((i.vsns - vref) + (vref - i.vsns))) (5 * vref)
    let s := if s.svrState c = svSOFTSTART && near then (s.setSvrState c svRUN).updSvr c fun r => { r with runAt := s.now } else s
    let s := s.svrDwell c ma
    if Nat.ble ((s.reg (Reg.SVR_HICCUP c)).toNat / 2 ^ 24 % 64 + 1) limRun then s.svrHiccup c else s

/-- HICCUP_END (R273): the OFF time has elapsed. -/
def execHiccupEnd (c : Sys2Proof.Svr) (s : State) : Res :=
  let c := c.val
  onlyIf (s.cdRun && s.svrState c == svHICCUP && s.since (s.svr c).hicAt (ms (s.fld (Reg.SVR_HICCUP c) Fld.SVR_HICCUP_OFF + 1))) s fun s =>
    s.svrSoftStart c

/-- SVR_SS_TIMEOUT (R273): SSFAIL and a hiccup event. -/
def execSvrSsTimeout (c : Sys2Proof.Svr) (s : State) : Res :=
  let c := c.val
  onlyIf (s.cdRun && s.svrState c == svSOFTSTART && s.since (s.svr c).ssAt (s.svrSsTicks c + ms 2)) s fun s =>
    (s.raise (.svr c) 4).svrHiccup c

/-- SVR_RETRY_RESET (R273): 1 s continuously in RUN. -/
def execSvrRetryReset (c : Sys2Proof.Svr) (s : State) : Res :=
  let c := c.val
  onlyIf (s.cdRun && s.svrState c == svRUN && s.since (s.svr c).runAt (secs 1)) s fun s =>
    s.setFld (Reg.SVR_STAT c) Fld.SVR_STAT_USED 0

/-- SVR_OV (R274, R277): OV_LATCH from every state but OFF; a hiccup event of the same period does not count as a retry. -/
def execSvrOv (c : Sys2Proof.Svr) (s : State) : Res :=
  let c := c.val
  onlyIf (s.cdRun && s.svrState c != svOFF && s.svrState c != svOV_LATCH) s fun s =>
    let undo := s.svrState c == svHICCUP && Nat.blt s.now ((s.svr c).hicAt + max (s.svr c).period 1)
    let s := if undo then s.setFld (Reg.SVR_STAT c) Fld.SVR_STAT_USED (s.fld (Reg.SVR_STAT c) Fld.SVR_STAT_USED - 1) else s
    let s := (s.setSvrState c svOV_LATCH).setBit (Reg.SVR_STAT c) Fld.SVR_STAT_BSTHOLD false
    (s.updSvr c fun r => { r with duty := 0, limRun := 0, dropAt := none, addAt := none }).raise (.svr c) 2

/-- SVR_FLT_N (R275). -/
def execSvrFltN (c : Sys2Proof.Svr) (low : Bool) (s : State) : Res :=
  let c := c.val
  onlyIf (s.cdRun && s.vioOk 3) s fun s =>
    let s := s.updSvr c fun r => { r with fltLow := low, fltAt := s.now }
    if low && s.svrSwitching c then s.svrHold c else s

/-- An edge period of SVR_SYNC, ticks, qualifies for the lock of a controller (R272). -/
def State.svrQualifies (s : State) (c period : Nat) : Bool :=
  let f := s.fld (Reg.SVR_FSW c) Fld.SVR_FSW_FSW
  s.bit (Reg.SVR_CTRL c) Fld.SVR_CTRL_SYNC_EN && Nat.ble 200 period && Nat.ble period 2000 && Nat.ble (80 * f * period) 40000000 &&
    Nat.ble 40000000 (120 * f * period)

/-- A register of a controller has changed: with SYNC_EN cleared, or an FSW to which the period does not fit, it is no longer locked (R272). -/
def State.svrRecheck (s : State) (c : Nat) : State :=
  if s.bit (Reg.SVR_STAT c) Fld.SVR_STAT_SYNCED && !s.svrQualifies c (s.svr c).syncT then
    (s.setBit (Reg.SVR_STAT c) Fld.SVR_STAT_SYNCED false).updSvr c fun r => { r with syncT := 0 }
  else s

/-- SVR_SYNC_LOCK (R272): 16 qualifying edges of a period in ticks. -/
def execSvrSyncLock (c : Sys2Proof.Svr) (period : Nat) (s : State) : Res :=
  let c := c.val
  onlyIf (s.cdRun && s.vioOk 3 && !bitOf s.power.clkLost 13 && s.svrQualifies c period) s fun s =>
    (s.setBit (Reg.SVR_STAT c) Fld.SVR_STAT_SYNCED true).updSvr c fun r => { r with syncT := period }

/-- A controller loses SVR_SYNC (R272). -/
def State.svrSyncLost (s : State) (c : Nat) : State :=
  if s.bit (Reg.SVR_STAT c) Fld.SVR_STAT_SYNCED then
    ((s.setBit (Reg.SVR_STAT c) Fld.SVR_STAT_SYNCED false).updSvr c fun r => { r with syncT := 0 }).raise (.svr c) 7
  else s

/-- SVR_SYNC_LOSS (R272). -/
def execSvrSyncLoss (c : Sys2Proof.Svr) (s : State) : Res := onlyIf s.cdRun s fun s => s.svrSyncLost c.val

/-- SVR_SHED_DECISION (R276): the dwell of a decision has elapsed. -/
def execSvrShedDecision (c : Sys2Proof.Svr) (s : State) : Res :=
  let c := c.val
  let dwell := ms (s.fld (Reg.SVR_SHED1 c) Fld.SVR_SHED1_DWELL)
  let due (t : Option Nat) : Bool := t.any fun x => s.since x dwell
  let m := s.fld (Reg.SVR_STAT c) Fld.SVR_STAT_NACT
  let drop := due (s.svr c).dropAt
  onlyIf (s.cdRun && s.svrState c == svRUN && (drop || due (s.svr c).addAt)) s fun s =>
    let s := s.updSvr c fun r => { r with dropAt := none, addAt := none }
    if drop then (s.setFld (Reg.SVR_STAT c) Fld.SVR_STAT_NACT (m - 1)).raise (.svr c) 5
    else (s.setFld (Reg.SVR_STAT c) Fld.SVR_STAT_NACT (m + 1)).raise (.svr c) 6

end Sys2Proof.Machine
end

