-- ==== Sys2Proof/Machine/AuxFb.lean ====
section
/-!
DEFINITION. Auxiliary drives and feedback interfaces (R280–R297).
-/

namespace Sys2Proof.Machine

/-! ### Auxiliary drives (R282–R287) -/

/-- The codes of AUXDi_STAT.STATE (R282). -/
def axOFF : Nat := 0
/-- Switching. -/
def axRUN : Nat := 1
/-- Motor supply outside its window. -/
def axVMHOLD : Nat := 2
/-- After a TRIP. -/
def axFAULT : Nat := 3

/-- The row of the table of R284 that a Hall state U V W names. -/
def hallRow : Nat → Option Nat
  | 5 => some 0 | 4 => some 1 | 6 => some 2 | 2 => some 3 | 3 => some 4 | 1 => some 5
  | _ => none

/-- The high and the low phase of a row (R284): 0 U, 1 V, 2 W. -/
def hallPhases : Nat → Nat × Nat
  | 0 => (0, 1) | 1 => (0, 2) | 2 => (1, 2) | 3 => (1, 0) | 4 => (2, 0) | _ => (2, 1)

/-- The pattern of mode HALL6 for the present Hall state (R284). -/
def State.hallPattern (s : State) (i : Nat) : Option (Nat × Nat) :=
  let c := s.reg (Reg.AUXD_CTRL i)
  if Fld.AUXD_CTRL_MODE.get c = 1 then
    (hallRow (s.fld (Reg.AUXD_STAT i) Fld.AUXD_STAT_HALL)).map fun r =>
      let p := hallPhases ((r + Fld.AUXD_CTRL_HOFS.get c) % 6)
      if Fld.AUXD_CTRL_ROT.on c then (p.2, p.1) else p
  else none

/-- The pattern of a drive follows its Hall state and ROT. -/
def State.showPattern (s : State) (i : Nat) : State :=
  let p := if s.auxState i = axRUN then s.hallPattern i else none
  s.updAux i fun a => { a with pat := p, patAt := if p = a.pat then a.patAt else s.tb }

/-- Setting EN is admissible (R282). -/
def State.auxEnableOk (s : State) (i : Nat) : Bool :=
  let pwm := s.reg (Reg.AUXD_PWM i)
  let il := s.reg (Reg.AUXD_ILIM i)
  let vm := s.reg (Reg.AUXD_VM i)
  let pt := Fld.AUXD_PWM_PT.get pwm
  let dt := Fld.AUXD_PWM_DT.get pwm
  Nat.ble 2000 pt && Nat.ble pt 25000 && Nat.ble 20 dt && Nat.ble dt 400 && Nat.blt 0 (Fld.AUXD_ILIM_GAIN.get il) &&
    Nat.blt (Fld.AUXD_ILIM_ILIM.get il) (Fld.AUXD_ILIM_TRIP.get il) && Nat.ble (Fld.AUXD_VM_VM_UV.get vm + 4) (Fld.AUXD_VM_VM_OV.get vm)

/-- EN of a drive is set, or refused with CFGERR (R282). In BOOT, LOCKOUT or without VIO5, EN stays clear. -/
def State.auxSetEn (s : State) (i : Nat) : State :=
  if s.bit (Reg.AUXD_CTRL i) Fld.AUXD_CTRL_EN || s.dev = stBOOT || s.dev = stLOCKOUT || !s.vioOk 5 then s
  else if s.auxEnableOk i then
    let s := (s.setBit (Reg.AUXD_CTRL i) Fld.AUXD_CTRL_EN true).updAux i fun a => { a with stop := false }
    if s.auxAllowed i && (s.auxState i == axOFF || s.auxState i == axFAULT) then (s.auxStart i).showPattern i else s
  else s.raise (.auxd i) 5

/-- EN of a drive is cleared: OFF at its next carrier zero (R282). -/
def State.auxClearEn (s : State) (i : Nat) : State :=
  (s.setBit (Reg.AUXD_CTRL i) Fld.AUXD_CTRL_EN false).updAux i fun a => { a with stop := s.auxState i != axOFF, stopAt := s.tb }

/-- AUXD_ENABLE (R282). -/
def execAuxdEnable (i : AuxD) (s : State) : Res := onlyIf s.cdRun s fun s => s.auxSetEn i.val
/-- AUXD_DISABLE (R282). -/
def execAuxdDisable (i : AuxD) (s : State) : Res := onlyIf s.cdRun s fun s => s.auxClearEn i.val

/-- The shadow duties as a write leaves them (R283). -/
def State.auxShadow (s : State) (i : Nat) : State :=
  let uv := s.reg (Reg.AUXD_DUTYUV i)
  let set := [Fld.AUXD_DUTYUV_DU.get uv, Fld.AUXD_DUTYUV_DV.get uv, (s.reg (Reg.AUXD_DUTYW i)).toNat % 65536]
  s.updAux i fun a => { a with shadow := a.shadow ++ [(s.tb, set)] }

/-- A write of DUTYW: the set is ready (R283). -/
def State.auxDutyW (s : State) (i : Nat) (v : Word) : State :=
  ((s.setNat (Reg.AUXD_DUTYW i) (v.toNat % 65536)).auxShadow i).updAux i fun a => { a with ready := a.ready ++ [s.tb] }

/-- AUXD_DUTYW_WRITE (R283). -/
def execAuxdDutywWrite (i : AuxD) (v : Word) (s : State) : Res := onlyIf s.cdRun s fun s => s.auxDutyW i.val v

/-- The duty of a phase, clamped (R283, R284). -/
def auxDuty (a : Aux) (p : Nat) : Nat := min (a.duties.getD p 0) 63569

/-- Whether the high and the low side of a switching phase are on at tick `t` (R283): the carrier is a triangle of half-period `pt` with its zero at
multiples of 2·`pt`, `h` the ticks before a zero and `e` those after it for which the high side is called; each turn-on comes `dt` ticks late. -/
def auxSwitch (pt dt h e t : Nat) : Bool × Bool :=
  let u := t % (2 * pt)
  if Nat.blt u e then (Nat.ble dt (u + h), false)
  else if Nat.ble (2 * pt - h) u then (Nat.ble dt (u - (2 * pt - h)), false)
  else (false, Nat.ble dt (u - e))

/-- The high-side and low-side outputs of phase `p` of a drive (R282–R286): low outside RUN; a bootstrap hold turns its low side on; an ILIM ends the
high-side pulse of its period; a forced pulse ends so early that the low side is on for 120 ticks (R285); a turn-on after a Hall change waits the
dead time. -/
def State.auxOut (s : State) (i p : Nat) : Bool × Bool :=
  let a := s.aux i
  let pwm := s.reg (Reg.AUXD_PWM i)
  let pt := Fld.AUXD_PWM_PT.get pwm
  let dt := Fld.AUXD_PWM_DT.get pwm
  let hall := s.fld (Reg.AUXD_CTRL i) Fld.AUXD_CTRL_MODE == 1
  let ripe := !hall || Nat.ble (a.patAt + dt) s.tb
  let duty := auxDuty a (if hall then 0 else p)
  let h := duty * pt / 65536
  let e := if a.force.contains p then min h (2 * pt - h - dt - 120) else h
  let calls := if a.limNow then (false, Nat.ble (a.limAt + dt) s.tb) else auxSwitch pt dt h e s.tb
  if s.auxState i != axRUN then (false, false)
  else if bitOf (s.fld (Reg.AUXD_STAT i) Fld.AUXD_STAT_BSTHOLD) p then (false, true)
  else if !hall then calls
  else match a.pat with
    | some (h, l) => if p = h then (calls.1 && ripe, calls.2 && ripe) else (false, p == l && ripe)
    | none => (false, false)

/-- Ticks for which the low side of a phase is on in a period, none where its high side does not switch (R283–R285). -/
def State.auxLowOn (s : State) (i p : Nat) : Option Nat :=
  let pwm := s.reg (Reg.AUXD_PWM i)
  let per := 2 * Fld.AUXD_PWM_PT.get pwm
  let low (d : Nat) : Nat := per * (65536 - d) / 65536 - Fld.AUXD_PWM_DT.get pwm
  if bitOf (s.fld (Reg.AUXD_STAT i) Fld.AUXD_STAT_BSTHOLD) p then some per
  else if s.fld (Reg.AUXD_CTRL i) Fld.AUXD_CTRL_MODE = 1 then
    match (s.aux i).pat with
    | some (h, l) => if p = h then some (low (auxDuty (s.aux i) 0)) else if p = l then some per else none
    | none => none
  else some (low (auxDuty (s.aux i) p))

/-- Refresh of the bootstrap capacitors over one period (R285). -/
def State.auxRefresh (s : State) (i : Nat) : State :=
  (s.updAux i fun a => { a with force := [] }).each [0, 1, 2] fun u p =>
    match u.auxLowOn i p with
    | none => u
    | some on =>
      let mark (u : State) : State := u.updAux i fun a => { a with lowAt := a.lowAt.set p u.now }
      if Nat.ble 120 on then mark u
      else if u.since ((u.aux i).lowAt.getD p 0) 8000 then
        ((mark u).updAux i fun a => { a with force := a.force ++ [p] }).incFld (Reg.AUXD_BSTCNT i) ⟨0, 16⟩
      else u

/-- AUXD_CARRIER_ZERO (R282, R283, R286): at a TB multiple of 2 × PT a set written 16 ticks or more before it loads, LIMITED shows the
period that ends, and a stopping drive goes to OFF. -/
def execAuxdCarrierZero (i : AuxD) (s : State) : Res :=
  let i := i.val
  let per := max (2 * s.fld (Reg.AUXD_PWM i) Fld.AUXD_PWM_PT) 1
  let z := s.tb / per * per
  onlyIf (s.cdRun && (s.aux i).zero != some z) s fun s =>
    let due := (s.aux i).shadow.filter fun p => Nat.ble (p.1 + 16) z
    let ready := (s.aux i).ready.any fun t => Nat.ble (t + 16) z
    let s := s.updAux i fun a =>
      { a with zero := some z, duties := if ready then (due.getLast?.map (·.2)).getD a.duties else a.duties,
               shadow := a.shadow.filter fun p => !Nat.ble (p.1 + 16) z, ready := a.ready.filter fun t => !Nat.ble (t + 16) z }
    let s := (s.setBit (Reg.AUXD_STAT i) Fld.AUXD_STAT_LIMITED (s.aux i).limNow).updAux i fun a => { a with limNow := false }
    if (s.aux i).stop && Nat.blt (s.aux i).stopAt z then s.auxOff i else if s.auxState i = axRUN then s.auxRefresh i else s

/-- HALL_CHANGE (R284): the pattern follows at once. -/
def execHallChange (i : AuxD) (h : Fin 8) (s : State) : Res :=
  let i := i.val
  onlyIf (s.cdRun && s.vioOk 5) s fun s => (s.setFld (Reg.AUXD_STAT i) Fld.AUXD_STAT_HALL h.val).showPattern i

/-- AUXD_ILIM (R286): the high-side pulse ends. -/
def execAuxdIlim (i : AuxD) (s : State) : Res :=
  let i := i.val
  onlyIf (s.cdRun && s.auxState i == axRUN) s fun s => (s.updAux i fun a => { a with limNow := true, limAt := s.tb }).raise (.auxd i) 0

/-- AUXD_TRIP (R286, R295): FAULT. -/
def execAuxdTrip (i : AuxD) (s : State) : Res :=
  let i := i.val
  onlyIf (s.cdRun && s.auxState i == axRUN) s fun s => ((s.setAuxState i axFAULT).updAux i fun a => { a with pat := none }).raise (.auxd i) 1

/-- The bootstrap-hold bit of a phase. -/
def bstBit (p : Nat) : Field := ⟨4 + p, 1⟩

/-- AUXD_BSTUV (R285): the phase is held. -/
def execAuxdBstuv (i : AuxD) (ph : Fin 3) (s : State) : Res :=
  let i := i.val
  onlyIf (s.cdRun && s.auxState i == axRUN && !s.bit (Reg.AUXD_STAT i) (bstBit ph.val)) s fun s =>
    let s := s.updAux i fun a => { a with bstAt := a.bstAt.set ph.val s.now }
    ((s.setBit (Reg.AUXD_STAT i) (bstBit ph.val) true).incFld (Reg.AUXD_BSTCNT i) ⟨16, 16⟩).raise (.auxd i) 4

/-- AUXD_BSTUV_END (R285): the hold ends, the voltage having been above its threshold for one carrier period. -/
def execAuxdBstuvEnd (i : AuxD) (ph : Fin 3) (s : State) : Res :=
  let i := i.val
  onlyIf (s.cdRun && s.bit (Reg.AUXD_STAT i) (bstBit ph.val) &&
      s.since ((s.aux i).bstAt.getD ph.val 0) (2 * s.fld (Reg.AUXD_PWM i) Fld.AUXD_PWM_PT)) s
    fun s => s.setBit (Reg.AUXD_STAT i) (bstBit ph.val) false

/-- The current of a drive (R296): its sampling has no command, so the field shows a value that no rule gives. -/
def Fld.AUXD_MEAS_CURRENT : Field := ⟨16, 16⟩

/-- VM_SAMPLE (R287, R295): VM in 10 mV. -/
def execVmSample (i : AuxD) (vm : Nat) (s : State) : Res :=
  let i := i.val
  onlyIf s.cdRun s fun s =>
    let s := s.setFld (Reg.AUXD_MEAS i) Fld.AUXD_MEAS_VM (min vm 65535)
    let s := s.drawn 16 fun v s => s.setFld (Reg.AUXD_MEAS i) Fld.AUXD_MEAS_CURRENT v
    let uv := Nat.blt vm (100 * s.fld (Reg.AUXD_VM i) Fld.AUXD_VM_VM_UV)
    let ov := Nat.blt (100 * s.fld (Reg.AUXD_VM i) Fld.AUXD_VM_VM_OV) vm
    let s := s.updAux i fun a => { a with vmAt := if uv || ov then none else some (a.vmAt.getD s.now) }
    let s := s.raiseMask (.auxd i) (4 * b2n uv + 8 * b2n ov)
    if (uv || ov) && s.auxState i == axRUN then (s.setAuxState i axVMHOLD).showPattern i else s

/-- VMHOLD_END (R282): VM inside its window for 10 ms. -/
def execVmholdEnd (i : AuxD) (s : State) : Res :=
  let i := i.val
  onlyIf (s.cdRun && s.auxState i == axVMHOLD && (s.aux i).vmAt.any fun t => s.since t (ms 10)) s fun s =>
    (s.setAuxState i axRUN).showPattern i

/-! ### Feedback interfaces (R288–R293) -/

/-- The step that an edge of A or B counts in quadrature: up when A leads B, nothing when both change (R289). -/
def quadStep (a b a' b' : Bool) : Int :=
  if a != a' && b != b' then 0
  else if a != a' then (if a' != b' then 1 else -1)
  else if b != b' then (if a' == b' then 1 else -1)
  else 0

/-- The Hall state U V W of levels A, B, Z (R284). -/
def hallState (l : List Bool) : Nat := 4 * b2n (l.getD 0 false) + 2 * b2n (l.getD 1 false) + b2n (l.getD 2 false)

/-- The step that a change of Hall state counts: one row down the table is up (R289). -/
def hallStep (h h' : Nat) : Int :=
  match hallRow h, hallRow h' with
  | some r, some r' => if r' = (r + 1) % 6 then 1 else if r = (r' + 1) % 6 then -1 else 0
  | _, _ => 0

/-- A count of a feedback interface with its reversal and compare hit (R289, R290, R293); answers the flags to raise. -/
def State.fbCount (s : State) (i : Nat) (step : Int) (stamp : Nat) : State × Nat :=
  let up := decide (0 < step)
  let rev := (s.fb i).dir.any fun d => d != up
  let pos := unsigned 32 ((s.reg (Reg.FB_POS i)).toNat + step)
  let s := (s.setNat (Reg.FB_POS i) pos).setBit (Reg.FB_STAT i) Fld.FB_STAT_DIR up
  let s := s.updFb i fun f => { f with dir := some up }
  let hit := (s.reg (Reg.FB_STEP i)).toNat != 0 && pos == (s.reg (Reg.FB_CMP i)).toNat
  let s := if hit then
      let s := s.setNat (Reg.FB_CMP i) ((s.reg (Reg.FB_CMP i)).toNat + (s.reg (Reg.FB_STEP i)).toNat)
      let s := (s.setNat (Reg.FB_CMPTIME i) stamp).setNat (Reg.FB_CMPCNT i) ((s.reg (Reg.FB_CMPCNT i)).toNat + 1)
      s.waveOther i 0x12 (64 + i) Reg.REC_CAP_PMFB (16 + i) (stamp * 16) pos 0 0
    else s
  (s, b2n rev + 4 * b2n hit)

/-- FB_EDGE (R288–R293, R295): levels after an edge; the count comes first, then a Z capture. Inputs of VIO5 outside its window are ignored
(R52). -/
def execFbEdge (i : FbI) (e : FbIn) (s : State) : Res :=
  let i := i.val
  onlyIf (s.cdRun && s.vioOk 5) s fun s =>
    let f := s.fb i
    let cfg := s.reg (Reg.FB_CFG i)
    let kind := Fld.FB_CFG_KIND.get cfg
    let new := [e.a, e.b, e.z]
    let old (n : Nat) : Bool := f.lines.getD n false
    let raw := if kind = 1 then quadStep (old 0) (old 1) e.a e.b else if kind = 2 then hallStep (hallState f.lines) (hallState new) else 0
    let step := if Fld.FB_CFG_DIRINV.on cfg then -raw else raw
    let s := s.updFb i fun f => { f with lines := new, hall := hallRow (hallState new) }
    let s := s.setFld (Reg.FB_STAT i) ⟨0, 3⟩ (b2n e.a + 2 * b2n e.b + 4 * b2n e.z)
    let r := if step = 0 then (s, 0) else s.fbCount i step e.stamp
    let s := r.1
    let z := kind == 1 && Fld.FB_CFG_ZCAP_EN.on cfg && e.z && !old 2
    let s := if z then (s.setReg (Reg.FB_ZPOS i) (s.reg (Reg.FB_POS i))).setNat (Reg.FB_ZTIME i) e.stamp else s
    s.raiseMask (.fb i) (r.2 + 2 * b2n z)

/-- Bandwidths of the observer, Hz (R292). -/
def fbBw (code : Nat) : Nat := [10, 20, 50, 100, 200, 500, 1000, 2000].getD code 10

/-- The integer part of an integer count in 2^-32, toward zero. -/
def truncQ (v : Int) : Int := if v < 0 then -((-v) / 2 ^ 32) else v / 2 ^ 32

/-- OBSERVER_UPDATE (R292): every 4,000 ticks; ωn in 2^-32 per second. -/
def execObserverUpdate (i : FbI) (s : State) : Res :=
  let i := i.val
  onlyIf (s.cdRun && s.fld (Reg.FB_CFG i) Fld.FB_CFG_KIND != 0 && s.since (s.fb i).obsAt 4000) s fun s =>
    let f := s.fb i
    let wn : Int := fbBw (s.fld (Reg.FB_CFG i) Fld.FB_CFG_BW) * 26986075409
    let e := truncQ (signed 64 (unsigned 64 ((s.reg (Reg.FB_POS i)).toNat * 2 ^ 32 - f.opos)))
    let acc := wn * wn * e / 2 ^ 32
    let speed := f.speed + acc / 100000
    let opos : Int := unsigned 64 (f.opos + (speed + 1414 * wn * e / 1000) / 100000)
    let s := s.updFb i fun f => { f with opos, speed, obsAt := s.now }
    let s := s.setNat (Reg.FB_OPOS i) (opos.toNat / 2 ^ 32)
    (s.setNat (Reg.FB_SPEED i) (unsigned 32 (satI 32 (speed / 2 ^ 28)))).setNat (Reg.FB_ACC i) (unsigned 32 (satI 32 (acc / 2 ^ 32)))

/-- FBi_CFG takes a word (R289, R292): a KIND that is set starts the counter and the observer at 0. -/
def State.fbCfgTake (s : State) (i : Nat) (w : Word) : State :=
  let old := s.fld (Reg.FB_CFG i) Fld.FB_CFG_KIND
  let kind := Fld.FB_CFG_KIND.get w
  let s := s.setReg (Reg.FB_CFG i) w
  if kind = 0 ∨ kind = old then s
  else
    let s := (s.setNat (Reg.FB_POS i) 0).setNat (Reg.FB_CMPCNT i) 0
    let s := ((s.setNat (Reg.FB_OPOS i) 0).setNat (Reg.FB_SPEED i) 0).setNat (Reg.FB_ACC i) 0
    s.updFb i fun f => { f with dir := none, opos := 0, speed := 0, obsAt := s.now }

/-- A direct write of FBi_CFG (R297, R446): ignored while KIND is set, but for one that clears it. Code 0b11 is reserved and the write is ignored. -/
def State.fbCfgWrite (s : State) (i : Nat) (v : Word) : State :=
  let w := BitVec.ofNat 32 (v.toNat &&& 0x70017)
  let kind := Fld.FB_CFG_KIND.get w
  if w = s.reg (Reg.FB_CFG i) || kind = 3 || (s.fld (Reg.FB_CFG i) Fld.FB_CFG_KIND != 0 && kind != 0) then s
  else if s.locked then s.raise .glb 1
  else s.fbCfgTake i w

/-- FB_CFG_WRITE (R297). -/
def execFbCfgWrite (i : FbI) (v : Word) (s : State) : Res := onlyIf s.cdRun s fun s => s.fbCfgWrite i.val v

end Sys2Proof.Machine
end

