-- ==== Sys2Proof/Machine/Bounds.lean ====
section
/-!
DEFINITION. The ranges of the fields of every configurable register (R423, code RANGE), as the register tables and rules of every chapter
give them, and the choice of a register that a transaction may stage (code NOTCFG).
-/

namespace Sys2Proof.Machine

/-- The registers as a transaction would leave them (R423). -/
abbrev View := Nat → Word

/-- A field of a register in a view. -/
def View.fld (g : View) (a : Nat) (f : Field) : Nat := f.get (g a)
/-- A one-bit field of a register in a view. -/
def View.bit (g : View) (a : Nat) (f : Field) : Bool := f.on (g a)

/-- The smallest and largest value of a field of every instance of a register, named by its first instance. -/
structure Bound where
  base : Nat
  fld  : Field
  min  : Nat
  max  : Nat
  deriving DecidableEq, Repr

/-- Ranges of PWR, CTU, THM (R52, R217, R429, R263–R266). -/
def boundsPkg : List Bound :=
  [⟨Reg.CTU_CFG, ⟨16, 16⟩, 1, 60000⟩, ⟨Reg.CTU_CFG, ⟨0, 16⟩, 1, 60000⟩,
   ⟨Reg.PWR_HU_CFG, Fld.PWR_HU_CFG_CAP, 6, 22⟩, ⟨Reg.PWR_HU_CFG, Fld.PWR_HU_CFG_MIN_PCT, 10, 90⟩,
   ⟨Reg.PWR_HU_CFG, Fld.PWR_HU_CFG_RATE, 0, 2⟩,
   ⟨Reg.THM_NMODEL, ⟨16, 16⟩, 1000, 6000⟩, ⟨Reg.THM_NCTL, Fld.THM_NCTL_FOLD_MIN, 1, 255⟩]

/-- Ranges of the edge engines (R88–R117). -/
def boundsEdg : List Bound :=
  [⟨Reg.EDG_CTRL 0, Fld.EDG_CTRL_LOAD, 0, 2⟩, ⟨Reg.EDG_CTRL 0, Fld.EDG_CTRL_MODE, 0, 2⟩,
   ⟨Reg.EDG_CARRIER 0, Fld.EDG_CARRIER_PERIOD, 1, 65535⟩,
   ⟨Reg.EDG_DEADTIME 0, Fld.EDG_DEADTIME_DT_LH, 0x80, 0x7D00⟩, ⟨Reg.EDG_DEADTIME 0, Fld.EDG_DEADTIME_DT_HL, 0x80, 0x7D00⟩,
   ⟨Reg.EDG_MINPULSE 0, Fld.EDG_MINPULSE_MINP, 0, 0x7D00⟩,
   ⟨Reg.EDG_SRC 0, Fld.EDG_SRC_STALE_LIM, 1, 15⟩, ⟨Reg.EDG_SRC 0, Fld.EDG_SRC_MAXGAP, 1, 4095⟩,
   ⟨Reg.EDG_FCL_CFG 0, Fld.EDG_FCL_CFG_LIMACT, 0, 1⟩, ⟨Reg.EDG_FCL_CFG 0, Fld.EDG_FCL_CFG_FCH, 0, 23⟩,
   ⟨Reg.EDG_ILK_CFG 0, Fld.EDG_ILK_CFG_WINDOW, 1, 255⟩, ⟨Reg.EDG_ILK_CFG 0, Fld.EDG_ILK_CFG_LIMIT, 1, 255⟩,
   ⟨Reg.EDG_PE 0 0, Fld.EDG_PE_STATE, 0, 2⟩,
   ⟨Reg.EDG_ALIGN_CFG, Fld.EDG_ALIGN_CFG_LOSS_TIME, 1, 65535⟩, ⟨Reg.EDG_ALIGN_CFG, Fld.EDG_ALIGN_CFG_LIM, 13, 64⟩]

/-- Ranges of a turn-on or turn-off profile and of an adaptation register (R121, R125, R146). -/
def boundsProfile (prof adapt preMax : Nat) : List Bound :=
  [⟨prof, ⟨24, 8⟩, 4, 255⟩, ⟨prof, ⟨16, 5⟩, 1, 31⟩, ⟨prof, ⟨0, 6⟩, 0, preMax⟩, ⟨adapt, ⟨12, 4⟩, 1, 15⟩, ⟨adapt, ⟨0, 8⟩, 4, 200⟩]

/-- Ranges of a desaturation register (R130). -/
def boundsDsat (a : Nat) : List Bound := [⟨a, ⟨16, 10⟩, 40, 640⟩, ⟨a, ⟨8, 6⟩, 0, 40⟩]

/-- Ranges of the bias codes of a channel (R119). -/
def boundsBias (a : Nat) : List Bound := [⟨a, ⟨8, 6⟩, 0, 24⟩, ⟨a, ⟨0, 6⟩, 0, 32⟩]

/-- Ranges of the driver dies (R119–R146). -/
def boundsGdv : List Bound :=
  [⟨Reg.GDV_CTRL 0, Fld.GDV_CTRL_FAULT_LIMIT, 1, 15⟩] ++ boundsBias (Reg.GDV_BIAS_H 0) ++ boundsBias (Reg.GDV_BIAS_L 0)
    ++ boundsProfile (Reg.GDV_PON_H 0) (Reg.GDV_AON_H 0) 36 ++ boundsProfile (Reg.GDV_POFF_H 0) (Reg.GDV_AOFF_H 0) 46
    ++ boundsProfile (Reg.GDV_PON_L 0) (Reg.GDV_AON_L 0) 36 ++ boundsProfile (Reg.GDV_POFF_L 0) (Reg.GDV_AOFF_L 0) 46
    ++ boundsDsat (Reg.GDV_DSAT_H 0) ++ boundsDsat (Reg.GDV_DSAT_L 0)
    ++ [⟨Reg.GDV_SOFT 0, Fld.GDV_SOFT_SOFT_T, 80, 800⟩, ⟨Reg.GDV_SOFT 0, Fld.GDV_SOFT_VINT, 0, 8⟩,
        ⟨Reg.GDV_DIAG_CFG 0, Fld.GDV_DIAG_CFG_V_TOL, 1, 4095⟩, ⟨Reg.GDV_SNS_DIV 0, Fld.GDV_SNS_DIV_KDIV, 1, 65535⟩]

/-- Ranges of clusters, regions and the system (R147–R202). -/
def boundsClu : List Bound :=
  [⟨Reg.CLU_CFG 0, Fld.CLU_CFG_TYPE, 0, 5⟩, ⟨Reg.CLU_CFG 0, Fld.CLU_CFG_DRT, 10, 100⟩,
   ⟨Reg.CLU_GMU_CFG 0, Fld.CLU_GMU_CFG_PJ_TH, 4, 120⟩,
   ⟨Reg.CLU_SYS_CFG, Fld.CLU_SYS_CFG_LEAD_TO, 2, 15⟩, ⟨Reg.CLU_SYS_CFG, Fld.CLU_SYS_CFG_DEAD_ROUNDS, 2, 255⟩,
   ⟨Reg.CLU_DC_CFG 0, Fld.CLU_DC_CFG_MINPH, 1, 8⟩, ⟨Reg.CLU_DC_CFG 0, Fld.CLU_DC_CFG_FILT, 1, 255⟩,
   ⟨Reg.CLU_DC_CFG 0, Fld.CLU_DC_CFG_SS_TOL, 1, 15⟩,
   ⟨Reg.CLU_DC_DWELL 0, Fld.CLU_DC_DWELL_DWELL_DROP, 1, 65535⟩, ⟨Reg.CLU_DC_DWELL 0, Fld.CLU_DC_DWELL_DWELL_ADD, 1, 65535⟩,
   ⟨Reg.CLU_DC_SS 0, Fld.CLU_DC_SS_SS_TIME, 1, 1000⟩, ⟨Reg.CLU_DC_SS 0, Fld.CLU_DC_SS_SS_RAMP, 1, 4095⟩,
   ⟨Reg.CLU_DC_SS 0, Fld.CLU_DC_SS_SS_ILIM, 5, 100⟩,
   ⟨Reg.CLU_PV_MPPT 0, Fld.CLU_PV_MPPT_MODE, 0, 2⟩, ⟨Reg.CLU_PV_MPPT 0, Fld.CLU_PV_MPPT_INTERVAL, 1, 1000⟩,
   ⟨Reg.CLU_PV_MPPT 0, Fld.CLU_PV_MPPT_STEP, 1, 4095⟩, ⟨Reg.CLU_PV_SWEEP 0, Fld.CLU_PV_SWEEP_INTERVAL, 0, 240⟩,
   ⟨Reg.CLU_DLC_THERM 0, Fld.CLU_DLC_THERM_TAU, 1, 255⟩, ⟨Reg.CLU_DLC_THERM 0, Fld.CLU_DLC_THERM_E_MAX, 1, 255⟩]

/-- Ranges of the charge engine, Safety Net and the ledger (R221, R222, R235). -/
def boundsChg : List Bound :=
  [⟨Reg.CHG_CFG 0, Fld.CHG_CFG_PROFILE, 0, 2⟩, ⟨Reg.CHG_CFG 0, Fld.CHG_CFG_CELLS, 1, 1023⟩,
   ⟨Reg.CHG_TIMER 0, Fld.CHG_TIMER_T_SAFE, 1, 4095⟩, ⟨Reg.CHG_TIMER 0, Fld.CHG_TIMER_T_TAPER, 1, 65535⟩,
   ⟨Reg.CHG_NI 0, Fld.CHG_NI_DV_CELL, 5, 100⟩, ⟨Reg.CHG_NI 0, Fld.CHG_NI_DTDT, 5, 30⟩, ⟨Reg.CHG_NI 0, Fld.CHG_NI_HOLDOFF, 0, 60⟩,
   ⟨Reg.CHG_NI 0, Fld.CHG_NI_PLAT_T, 1, 255⟩, ⟨Reg.CHG_NI2 0, Fld.CHG_NI2_PLAT_SLOPE, 1, 255⟩,
   ⟨Reg.CHG_BMS 0, Fld.CHG_BMS_CANCH, 0, 5⟩, ⟨Reg.CHG_BMS 0, Fld.CHG_BMS_BMS_TO, 10, 5000⟩,
   ⟨Reg.CHG_SN_CFG, Fld.CHG_SN_CFG_SN_TO, 1, 600⟩,
   ⟨Reg.LDG_CFG 0, Fld.LDG_CFG_T_HOLD, 0, 10000⟩, ⟨Reg.LDG_RESTH 0, Fld.LDG_RESTH_RES_PPM, 1, 65535⟩,
   ⟨Reg.LDG_A_CFG 0 0, Fld.LDG_A_CFG_KIND, 0, 5⟩, ⟨Reg.LDG_A_CFG 0 0, Fld.LDG_A_CFG_CLUSTER, 0, 11⟩]

/-- Ranges of measurement (R240–R253). -/
def boundsMeas : List Bound :=
  [⟨Reg.MEAS_XC_CFG 0, Fld.MEAS_XC_CFG_XC_LIM, 1, 255⟩, ⟨Reg.MEAS_XC_CFG 0, Fld.MEAS_XC_CFG_XC_TOL, 1, 1023⟩,
   ⟨Reg.MEAS_MCLK 0, ⟨0, 6⟩, 16, 40⟩, ⟨Reg.MEAS_IN_CFG 0, Fld.MEAS_IN_CFG_SHIFT, 0, 8⟩,
   ⟨Reg.MEAS_MOD_CFG 0, Fld.MEAS_MOD_CFG_OSR_F, 2, 16⟩, ⟨Reg.MEAS_MOD_CFG 0, Fld.MEAS_MOD_CFG_STUCK, 16, 255⟩,
   ⟨Reg.MEAS_MOD_CFG 0, Fld.MEAS_MOD_CFG_OSR, 16, 256⟩, ⟨Reg.MEAS_PM_CFG 0, Fld.MEAS_PM_CFG_RANGE, 0, 2⟩]

/-- Ranges of the service regulators, auxiliary drives, feedback and triplets (R270–R297, R314). -/
def boundsAux : List Bound :=
  [⟨Reg.SVR_FSW 0, Fld.SVR_FSW_FSW, 200, 2000⟩, ⟨Reg.SVR_VREF 0, Fld.SVR_VREF_SS_TIME, 1, 255⟩, ⟨Reg.SVR_OVP 0, Fld.SVR_OVP_OV, 1, 50⟩,
   ⟨Reg.SVR_SHED1 0, Fld.SVR_SHED1_DWELL, 1, 255⟩,
   ⟨Reg.AUXD_PWM 0, Fld.AUXD_PWM_PT, 2000, 25000⟩, ⟨Reg.AUXD_PWM 0, Fld.AUXD_PWM_DT, 20, 400⟩,
   ⟨Reg.AUXD_CTRL 0, Fld.AUXD_CTRL_HOFS, 0, 5⟩, ⟨Reg.AUXD_CTRL 0, Fld.AUXD_CTRL_MODE, 0, 1⟩,
   ⟨Reg.AUXD_VM 0, Fld.AUXD_VM_VM_UV, 10, 58⟩, ⟨Reg.AUXD_VM 0, Fld.AUXD_VM_VM_OV, 14, 66⟩,
   ⟨Reg.FB_CFG 0, Fld.FB_CFG_KIND, 0, 2⟩,
   ⟨Reg.TRP_CFG 0, Fld.TRP_CFG_RESYNC_LIM, 1, 15⟩, ⟨Reg.TRP_CFG 0, Fld.TRP_CFG_LAG_TO, 400, 40000⟩]

/-- Ranges of Ethernet, CAN, the host interface, the mailboxes and the recorder (R344–R444). -/
def boundsIo : List Bound :=
  [⟨Reg.ETH_P_CFG 0, Fld.ETH_P_CFG_MODE, 0, 2⟩,
   ⟨Reg.ETH_SNL_TIMING, Fld.ETH_SNL_TIMING_TX_PER, 1, 100⟩, ⟨Reg.ETH_SNL_TIMING, Fld.ETH_SNL_TIMING_RESTORE_N, 1, 15⟩,
   ⟨Reg.ETH_SNL_TIMING, Fld.ETH_SNL_TIMING_MISS_LIM, 1, 15⟩, ⟨Reg.ETH_SNL_TIMING, Fld.ETH_SNL_TIMING_SKEW, 1, 1000⟩,
   ⟨Reg.CAN_NBT 0, Fld.CAN_NBT_TSEG1, 1, 255⟩, ⟨Reg.CAN_CTRL 0, Fld.CAN_CTRL_COLL_TH, 2, 15⟩,
   ⟨Reg.CAN_TXRING 0, ⟨0, 4⟩, 0, 11⟩, ⟨Reg.CAN_RXR_CFG 0, Fld.CAN_RXR_CFG_LOG2N, 4, 16⟩,
   ⟨Reg.HIF_CTRL, Fld.HIF_CTRL_POLL, 1, 1000⟩, ⟨Reg.HIF_CAP_CFG 0, Fld.HIF_CAP_CFG_FLUSH, 1, 1000⟩,
   ⟨Reg.HIF_CAP_CFG 0, Fld.HIF_CAP_CFG_BLKSZ, 0, 4⟩, ⟨Reg.HIF_RING_IRQ 0, Fld.HIF_RING_IRQ_COUNT, 1, 255⟩,
   ⟨Reg.HIF_RING_IRQ 0, Fld.HIF_RING_IRQ_TIMER, 0, 1000⟩,
   ⟨Reg.MBX_CH_TO 0, Fld.MBX_CH_TO_ACK_TO, 1, 65535⟩, ⟨Reg.MBX_CH_TO 0, Fld.MBX_CH_TO_CROSS_TO, 1, 65535⟩,
   ⟨Reg.REC_CTRL, Fld.REC_CTRL_FREEZE_TO, 1, 600⟩, ⟨Reg.REC_CTRL, Fld.REC_CTRL_WEAR_WARN, 1, 99⟩,
   ⟨Reg.REC_RD_LOG, ⟨0, 2⟩, 0, 2⟩, ⟨Reg.REC_RD_MAX, ⟨0, 16⟩, 1, 65535⟩]

/-- Every range. -/
def bounds : List Bound :=
  boundsPkg ++ boundsEdg ++ boundsGdv ++ boundsClu ++ boundsChg ++ boundsMeas ++ boundsAux ++ boundsIo

/-- A signed field of 16 bits lies within ±m. -/
def within (m : Int) (w : Word) (lo : Nat) : Bool :=
  let v := signed 16 (w.toNat / 2 ^ lo)
  decide (-m ≤ v) && decide (v ≤ m)

/-- The ranges that a bound of one field does not say: the codes of the banks (R52), signed fields (R255, R257), channel numbers that depend
on a type, the output of Safety Net (R215). -/
def specialRange (base : Nat) (w : Word) : Bool :=
  if base = Reg.PWR_VIO_CFG then
    (List.range 6).all fun x => let c := w.toNat / 2 ^ (3 * x) % 8; Nat.ble c 2 || c == 7
  else if base = Reg.MEAS_IN_UCAL 0 ∨ base = Reg.MEAS_MOD_UCAL 0 ∨ base = Reg.MEAS_PM_UCAL 0 then within 20972 w 16 && within 163 w 0
  else if base = Reg.MEAS_MOD_ADJ 0 then within 4095 w 0
  else if base = Reg.EDG_SRC 0 then !Fld.EDG_SRC_TYPE.on w || Nat.ble (Fld.EDG_SRC_CH.get w) 23
  else if base = Reg.CHG_SNCTL 0 then Nat.ble (w.toNat % 16) 7 || w.toNat % 16 == 15
  else true

/-- A word lies in the ranges of its register. -/
def inRange (base : Nat) (w : Word) : Bool :=
  (bounds.all fun b => b.base != base || (Nat.ble b.min (b.fld.get w) && Nat.ble (b.fld.get w) b.max)) && specialRange base w

/-- The offsets within a cluster that only some types have are active for type `ty` (R202). -/
def dcActive (ty off : Nat) : Bool :=
  if Nat.ble 0x148 off && Nat.blt off 0x164 then ty == tySDC || ty == tyPVC || ty == tyDLC
  else if Nat.ble 0x100 off && Nat.blt off 0x200 then ty == tySDC || ty == tyPVC
  else if (Nat.ble 0x200 off && Nat.blt off 0x280) || (Nat.ble 0x300 off && Nat.blt off 0x400) then ty == tyPVC
  else if Nat.ble 0x280 off && Nat.blt off 0x300 then ty == tyDLC
  else true

/-- A register is active for the types of the clusters in a view (R202, R221). -/
def View.active (g : View) (a : Nat) : Bool :=
  if Nat.ble 0x20000 a && Nat.blt a 0x26000 then
    let k := (a - 0x20000) / 0x800
    dcActive (g.fld (Reg.CLU_CFG k) Fld.CLU_CFG_TYPE) ((a - 0x20000) % 0x800)
  else if Nat.ble 0x28000 a && Nat.blt a 0x28C00 then
    g.fld (Reg.CLU_CFG ((a - 0x28000) / 0x100)) Fld.CLU_CFG_TYPE == tySDC
  else true

/-- The bits of a register that a transaction may write. -/
def RegRow.cfgMask (r : RegRow) : Nat := r.rw.toNat ||| r.rwl.toNat

/-- The row of an offset that a transaction may stage (R423, code NOTCFG): a register of the variant with RW or RWL bits, not in the SAFE
block. -/
def State.cfgRow (s : State) (a : Nat) : Option RegRow :=
  match Reg.row a with
  | some r =>
    if r.present s.variant a && r.cfgMask != 0 && !(Nat.ble 0x48000 a && Nat.blt a 0x50000) then some r else none
  | none => none

/-- A word after a write of a value through the RW and RWL bits of its register. -/
def mergeBits (mask : Nat) (old v : Word) : Word := BitVec.ofNat 32 ((old.toNat &&& (0xFFFFFFFF - mask % 2 ^ 32)) + (v.toNat &&& mask))

/-- The registers as staged writes would leave them. -/
def State.staged (s : State) (l : List (Nat × Word)) : View := fun a =>
  match l.find? fun p => p.1 == a with
  | some p => match s.cfgRow a with
    | some r => mergeBits r.cfgMask (s.reg a) p.2
    | none => s.reg a
  | none => s.reg a

end Sys2Proof.Machine
end

