-- ==== Sys2Proof/Machine/Validate.lean ====
section
/-!
DEFINITION. Validation of a configuration transaction (R423): the staged offsets in ascending order, then the rules that join registers.
A check is a triple: whether it fails, its reason, and the offset it reports.
-/

namespace Sys2Proof.Machine

/-- A check that has been made: it failed, the reason code of R423, the offset reported. -/
abbrev Check := Bool × Nat × Nat

/-- The first check that failed. -/
def firstFail (l : List Check) : Option (Nat × Nat) := (l.find? fun c => c.1).map (·.2)

/-! ### Sources as the transaction would leave them (R242, R423) -/

/-- Type of a cluster in a view. -/
def View.ctype (g : View) (k : Nat) : Nat := g.fld (Reg.CLU_CFG k) Fld.CLU_CFG_TYPE
/-- Slots of a cluster in a view, in position order. -/
def View.slotsOf (g : View) (k : Nat) : List Nat := bitsOf 24 (g (Reg.CLU_SLOTS k)).toNat
/-- A GFI cluster in a view. -/
def View.isGfi (g : View) (k : Nat) : Bool := g.ctype k == tyGFI3 || g.ctype k == tyGFI2
/-- An SDC or PVC cluster in a view. -/
def View.isPhased (g : View) (k : Nat) : Bool := g.ctype k == tySDC || g.ctype k == tyPVC
/-- An input in the full-rate or low-power mask of its core. -/
def View.scanned (g : View) (low : Bool) (ch : Nat) : Bool :=
  bitOf (g.fld (Reg.MEAS_SAR_MASK (ch / 8)) (if low then Fld.MEAS_SAR_MASK_LPMASK else Fld.MEAS_SAR_MASK_MASK)) (ch % 8)
/-- K of a core (R242). -/
def View.coreK (g : View) (low : Bool) (c : Nat) : Nat :=
  ((List.range 8).filter fun b => g.scanned low (8 * c + b)).foldl
    (fun k b => k + g.fld (Reg.MEAS_IN_CFG (8 * c + b)) Fld.MEAS_IN_CFG_NAVG + 1) 1
/-- P of the pair of an input, ticks (R242). -/
def View.pairP (g : View) (low : Bool) (ch : Nat) : Nat :=
  max (g.coreK low (2 * (ch / 16))) (g.coreK low (2 * (ch / 16) + 1)) * tcOf low
/-- N of the clock group of a modulator input (R249). -/
def View.mclkN (g : View) (i : Nat) : Nat := (g (Reg.MEAS_MCLK (i / 6))).toNat % 64
/-- A modulator input converts. -/
def View.modOn (g : View) (i : Nat) : Bool :=
  g.bit (Reg.MEAS_MOD_CFG i) Fld.MEAS_MOD_CFG_EN && g.bit (Reg.MEAS_MCLK (i / 6)) Fld.MEAS_MCLK_EN
/-- Nominal sample spacing of a SAR or modulator source (R242, R250). -/
def View.spacing (g : View) (mod : Bool) (ch : Nat) : Nat :=
  if mod then g.fld (Reg.MEAS_MOD_CFG ch) Fld.MEAS_MOD_CFG_OSR * g.mclkN ch else g.pairP false ch
/-- A source is enabled and scanned. -/
def View.srcOk (g : View) (mod : Bool) (ch : Nat) : Bool := if mod then g.modOn ch else g.scanned false ch
/-- The loop source of a slot: its kind and channel. -/
def View.slotSrc (g : View) (n : Nat) : Bool × Nat :=
  (g.bit (Reg.EDG_SRC n) Fld.EDG_SRC_TYPE, g.fld (Reg.EDG_SRC n) Fld.EDG_SRC_CH)

/-! ### One register -/

/-- The checks of the edge-engine registers of one slot (R88, R93–R96, R103, R107, R110, R115). -/
def edgChecks (g : View) (n : Nat) : List Check :=
  let car := g (Reg.EDG_CARRIER n)
  let tsw := tswOf car / 16
  let ctrl := g (Reg.EDG_CTRL n)
  let mode := Fld.EDG_CTRL_MODE.get ctrl
  let src := g.slotSrc n
  let fcl := g (Reg.EDG_FCL n)
  let trip := Fld.EDG_FCL_TRIP.get fcl
  let lim := Fld.EDG_FCL_LIMIT.get fcl
  [(Fld.EDG_CARRIER_SHAPE.get car == 3 || Nat.blt tsw 800 || Nat.blt 200000 tsw, trCARRIER, Reg.EDG_CARRIER n),
   (Nat.blt (tsw * 16 / 4) (g.fld (Reg.EDG_MINPULSE n) Fld.EDG_MINPULSE_MINP), trRANGE, Reg.EDG_MINPULSE n),
   (g.fld (Reg.EDG_ACTPT n) Fld.EDG_ACTPT_SEL == 3 && Nat.ble (16 * tsw) (g.fld (Reg.EDG_ACTPT n) Fld.EDG_ACTPT_OFFSET), trRANGE,
     Reg.EDG_ACTPT n),
   (trip != 0 && lim != 0 && Nat.ble trip lim, trORDER, Reg.EDG_FCL n),
   (mode == 1 && Fld.EDG_CTRL_LOOP_EN.on ctrl, trMODE, Reg.EDG_CTRL n),
   (mode == 2 && (Fld.EDG_CARRIER_SHAPE.get car != 0 || Fld.EDG_CTRL_LOOP_EN.on ctrl), trMODE, Reg.EDG_CTRL n),
   (mode == 2 && (if src.1 then Nat.blt tsw 8000 else Nat.blt 40 (g.spacing false src.2) || Nat.blt tsw 4000), trMODE, Reg.EDG_CTRL n),
   (Fld.EDG_CTRL_LOOP_EN.on ctrl && !Fld.EDG_CTRL_LOOPMODE.on ctrl && Nat.blt (g.spacing src.1 src.2) 200, trMODE, Reg.EDG_CTRL n)]

/-- PRE_VTH lies at least 1 V inside the span of a channel, in quarters of a volt (R121). -/
def preVthOk (prof bias : Word) : Bool :=
  let vth : Int := 2 * (prof.toNat / 2 ^ 8 % 32 : Nat) - 16
  let vgp : Int := 48 + (bias.toNat % 64 : Nat)
  let vgn : Int := -8 - (bias.toNat / 2 ^ 8 % 64 : Nat)
  decide (vgn + 4 ≤ vth) && decide (vth + 4 ≤ vgp)

/-- The checks of the driver-die registers of one slot (R119, R121, R125). -/
def gdvChecks (g : View) (n : Nat) : List Check :=
  let span (a : Nat) : Check :=
    (Nat.blt 44 ((g a).toNat % 64 + (g a).toNat / 2 ^ 8 % 64), trRANGE, a)
  let pre (p b : Nat) : Check := (!preVthOk (g p) (g b), trORDER, p)
  let adp (a : Nat) : Check :=
    let mn := (g a).toNat / 2 ^ 16 % 32
    let mx := (g a).toNat / 2 ^ 21 % 32
    let ini := (g a).toNat / 2 ^ 26 % 32
    (!(Nat.ble mn ini && Nat.ble ini mx), trORDER, a)
  [span (Reg.GDV_BIAS_H n), span (Reg.GDV_BIAS_L n), pre (Reg.GDV_PON_H n) (Reg.GDV_BIAS_H n), pre (Reg.GDV_POFF_H n) (Reg.GDV_BIAS_H n),
   pre (Reg.GDV_PON_L n) (Reg.GDV_BIAS_L n), pre (Reg.GDV_POFF_L n) (Reg.GDV_BIAS_L n), adp (Reg.GDV_AON_H n), adp (Reg.GDV_AOFF_H n),
   adp (Reg.GDV_AON_L n), adp (Reg.GDV_AOFF_L n)]

/-- An offset of a driver-die register that may not change while its slot switches (R145). -/
def gdvFrozen (a : Nat) : Bool :=
  Nat.ble 0x18000 a && Nat.blt a 0x1B000 && [0x04, 0x08, 0x34, 0x38, 0x3C, 0x40, 0x44].contains ((a - 0x18000) % 0x200)

/-- The bits of CLU_k_CFG that R149 guards: TYPE, REGION, OWNER, SYSPAR, SYSGRP. -/
def cfgGuarded : Nat := 0x0F010007

/-- The inputs whose sources a change of a measurement register concerns (R259). -/
def measInputs (a : Nat) : List SrcId :=
  if Nat.ble 0x30030 a && Nat.blt a 0x30040 then (List.range 6).map fun x => .mod (Fin.ofNat 24 (6 * ((a - 0x30030) / 4) + x))
  else if Nat.ble 0x30100 a && Nat.blt a 0x30180 then pairSrcs ((a - 0x30100) / 0x20)
  else if Nat.ble 0x30200 a && Nat.blt a 0x30240 then pairSrcs ((a - 0x30200) / 0x10)
  else if Nat.ble 0x30400 a && Nat.blt a 0x30800 && a % 16 == 0 then pairSrcs ((a - 0x30400) / 0x100)
  else if Nat.ble 0x30800 a && Nat.blt a 0x30B00 && a % 32 != 12 then [.mod (Fin.ofNat 24 ((a - 0x30800) / 0x20))]
  else []

/-- Sources in use by a cluster not in OFF, or by a region in which a cluster switches (R259). -/
def State.sourcesBusy (s : State) (l : List SrcId) : Bool :=
  (s.clus.any fun k => s.cstate k != csOFF && l.any fun x => s.usesSrc k x) ||
    s.rgns.any fun g => s.regionSwitching g && l.contains (sarSrc (s.fld (Reg.CLU_REG_VCFG g) Fld.CLU_REG_VCFG_SRC))

/-- A precision channel used by an enabled account (R259). -/
def State.pmBusy (s : State) (m : Nat) : Bool :=
  s.rgns.any fun g => s.ldgOn g && ((s.accounts g).any fun a => s.fld (Reg.LDG_A_CFG g a) Fld.LDG_A_CFG_CH == m)

/-- A staged change that is not allowed while running (R145, R149, R173, R221, R259). -/
def State.runningFails (s : State) (g : View) (a : Nat) : Bool :=
  let changed := g a != s.reg a
  let slot := (a - 0x10000) / 0x400
  if Nat.ble 0x10000 a && Nat.blt a 0x16000 then
    changed && a == Reg.EDG_CARRIER slot && s.switching slot && (match s.clusterOf slot with | some k => s.sysPar k | none => false)
  else if gdvFrozen a then changed && s.switching ((a - 0x18000) / 0x200)
  else if Nat.ble 0x20000 a && Nat.blt a 0x26000 then
    let k := (a - 0x20000) / 0x800
    if a = Reg.CLU_ANCHOR_LO k ∨ a = Reg.CLU_ANCHOR_HI k then g.bit (Reg.CLU_CFG k) Fld.CLU_CFG_SYSPAR
    else if (a = Reg.CLU_CFG k ∧ (g a).toNat &&& cfgGuarded ≠ (s.reg a).toNat &&& cfgGuarded) ∨ (a = Reg.CLU_SLOTS k ∧ changed) then
      s.cstate k != csOFF || (s.slotsOf k ++ g.slotsOf k).any fun n => s.sstate n != 0
    else false
  else if Nat.ble 0x28000 a && Nat.blt a 0x28C00 then changed && s.charging ((a - 0x28000) / 0x100)
  else if Nat.ble 0x30C00 a && Nat.blt a 0x30C80 && a % 16 == 0 then changed && s.pmBusy ((a - 0x30C00) / 0x10)
  else if Nat.ble 0x30000 a && Nat.blt a 0x30C00 then changed && s.sourcesBusy (measInputs a)
  else false

/-- The checks of one staged offset (R423): NOTCFG, LOCKED, RANGE, RUNNING. -/
def State.offsetChecks (s : State) (g : View) (p : Nat × Word) : List Check :=
  match s.cfgRow p.1 with
  | none => [(true, trNOTCFG, p.1)]
  | some r =>
    let rwl := r.rwl.toNat
    [(!g.active p.1, trNOTCFG, p.1),
     (s.locked && (p.2.toNat &&& rwl) != ((s.reg p.1).toNat &&& rwl), trLOCKED, p.1),
     (!inRange r.base (g p.1), trRANGE, p.1),
     (s.runningFails g p.1, trRUNNING, p.1)]

/-! ### Rules that join registers -/

/-- The number of slots that a type may have (R148). -/
def slotCountOk (ty n : Nat) : Bool :=
  if ty = tyGFI3 then n == 9
  else if ty = tyGFI2 then n == 3 || n == 6
  else if ty = tySDC then Nat.ble 1 n && Nat.ble n 8
  else if ty = tyPVC then Nat.ble 1 n && Nat.ble n 6
  else if ty = tyDLC then Nat.ble 1 n && Nat.ble n 2
  else true

/-- The kind of a type for the one-of-a-kind rule (R148): GFI, PVC, DLC; 0 for the others. -/
def oneKind (ty : Nat) : Nat := if ty = tyGFI3 ∨ ty = tyGFI2 then 1 else if ty = tyPVC then 2 else if ty = tyDLC then 3 else 0

/-- The position of a lead slot (R155). -/
def leadPos (ty p : Nat) : Bool := ty != tyGFI3 || p % 3 == 0

/-- A safety parameter word in force for validation: of the image under validation, or as delivered (R343). -/
def State.par (s : State) (pars : Option (List Word)) (w : Nat) : Nat :=
  match pars with
  | some l => (l.getD w 0).toNat
  | none => (s.reg (Reg.SAFE_PAR w)).toNat

/-- The composition of cluster `k` (R3, R89, R148, R155). -/
def State.composeChecks (s : State) (g : View) (pars : Option (List Word)) (k : Nat) : List Check :=
  let ty := g.ctype k
  let sl := g.slotsOf k
  let rg := g.fld (Reg.CLU_CFG k) Fld.CLU_CFG_REGION
  let others := s.clus.filter fun j => j != k && g.ctype j != 0
  let a := Reg.CLU_CFG k
  let m := Reg.CLU_SLOTS k
  let vlim := g (Reg.CLU_REG_VLIM rg)
  let vmax := Fld.CLU_REG_VLIM_VMAX.get vlim
  let vsafe := s.par pars (8 + 4 * rg) % 65536
  let sys := g.bit (Reg.CLU_CFG k) Fld.CLU_CFG_SYSPAR
  let grp (j : Nat) := g.fld (Reg.CLU_CFG j) Fld.CLU_CFG_SYSGRP
  let mask : List Check :=
    [(s.clus.any (fun j => j != k && (g (Reg.CLU_SLOTS j)).toNat &&& (g m).toNat != 0), trCOMPOSE, m),
     (sl.any (fun n => Nat.ble s.variant.slots n), trCOMPOSE, m)]
  if ty = 0 then mask ++ [(sys, trCOMPOSE, a)]
  else
    [(ty == tyGFI3 && s.variant == .v7608, trVARIANT, a),
     (!slotCountOk ty sl.length, trCOMPOSE, m)] ++ mask ++
    [(Nat.ble s.variant.regions rg || s.par pars (24 + 4 * rg) / 2 ^ 30 == 0, trCOMPOSE, a),
     (oneKind ty != 0 && others.any (fun j => oneKind (g.ctype j) == oneKind ty && g.fld (Reg.CLU_CFG j) Fld.CLU_CFG_REGION == rg), trCOMPOSE, a),
     (sl.any (fun n => g (Reg.EDG_CARRIER n) != g (Reg.EDG_CARRIER (sl.headD 0))), trCARRIER, m),
     (g.isGfi k && sl.any (fun n => g.fld (Reg.EDG_CTRL n) Fld.EDG_CTRL_MODE != 0 ||
       (g.bit (Reg.EDG_CTRL n) Fld.EDG_CTRL_LOOP_EN && !leadPos ty (sl.idxOf n))), trCOMPOSE, m),
     (ty == tyGFI3 && sl.any (fun n => !g.bit (Reg.GDV_DIAG_CFG n) Fld.GDV_DIAG_CFG_RAIL), trCOMPOSE, m),
     (!(Nat.blt (Fld.CLU_REG_VLIM_VMIN.get vlim) vmax && vsafe != 0 && Nat.ble (vmax * 102) (vsafe * 10)), trCOMPOSE, Reg.CLU_REG_VLIM rg),
     (sys && (!g.isGfi k || !g.bit Reg.CLU_SYS_CFG Fld.CLU_SYS_CFG_SYS_EN || others.any (fun j =>
       g.bit (Reg.CLU_CFG j) Fld.CLU_CFG_SYSPAR && grp j == grp k)), trCOMPOSE, a)]

/-- The sources that cluster `k` names (R94, R107, R110, R160, R181, R242). -/
def sourceChecks (g : View) (k : Nat) : List Check :=
  let slot (n : Nat) : List Check :=
    let ctrl := g (Reg.EDG_CTRL n)
    let src := g.slotSrc n
    let fcl := (g (Reg.EDG_FCL n)).toNat != 0
    let own := g.bit (Reg.EDG_FCL_CFG n) Fld.EDG_FCL_CFG_FTYPE
    [((Fld.EDG_CTRL_LOOP_EN.on ctrl || Fld.EDG_CTRL_MODE.get ctrl == 2 || (fcl && own)) && !g.srcOk src.1 src.2, trSOURCE, Reg.EDG_SRC n),
     (fcl && !own && !g.modOn (g.fld (Reg.EDG_FCL_CFG n) Fld.EDG_FCL_CFG_FCH), trSOURCE, Reg.EDG_FCL_CFG n)]
  let gmu := (g (Reg.CLU_GMU_CFG k)).toNat
  let ps := g.fld (Reg.CLU_DC_PSRC k) Fld.CLU_DC_PSRC_CH
  let vs := g.fld (Reg.CLU_DC_VSRC k) Fld.CLU_DC_VSRC_CH
  let openEn := g.bit (Reg.CLU_DC_CFG k) Fld.CLU_DC_CFG_OPEN_EN
  let bad (ch : Nat) : Bool := !g.scanned false ch || (openEn && Nat.blt 800 (g.pairP false ch))
  if g.ctype k = 0 then []
  else
    (g.slotsOf k).flatMap slot ++
      [(g.isGfi k && [gmu % 64, gmu / 64 % 64, gmu / 4096 % 64].any (fun ch => !g.scanned false ch), trSOURCE, Reg.CLU_GMU_CFG k),
       (g.ctype k == tyGFI3 && g.fld (Reg.CLU_NPSRC k) Fld.CLU_NPSRC_SCALE != 0 &&
         !g.scanned false (g.fld (Reg.CLU_NPSRC k) Fld.CLU_NPSRC_SAR), trSOURCE, Reg.CLU_NPSRC k),
       (g.isPhased k && bad ps, trSOURCE, Reg.CLU_DC_PSRC k), (g.isPhased k && bad vs, trSOURCE, Reg.CLU_DC_VSRC k)]

/-- The rules of the DC types (R181, R185, R192, R198). -/
def dcChecks (g : View) (k : Nat) : List Check :=
  let sl := g.slotsOf k
  let n := sl.length
  let rg := g.fld (Reg.CLU_CFG k) Fld.CLU_CFG_REGION
  let shed (m : Nat) : Nat := (g (Reg.CLU_DC_SHED k (m - 1))).toNat
  let ilim := (g (Reg.CLU_DC_ILIM k)).toNat % 65536
  let ss := g (Reg.CLU_DC_SS k)
  let tgt := (g (Reg.CLU_DC_SSTGT k)).toNat % 65536
  let pv := g (Reg.CLU_PV_LIM k)
  let vc := g (Reg.CLU_DLC_VCFG k)
  let vl := g (Reg.CLU_REG_VLIM rg)
  let vStart := Fld.CLU_DLC_VCFG_V_START.get vc
  let vFull := Fld.CLU_DLC_VCFG_V_FULL.get vc
  if g.isPhased k then
    [(g.fld (Reg.CLU_DC_PSRC k) Fld.CLU_DC_PSRC_SCALE == 0, trCOMPOSE, Reg.CLU_DC_PSRC k),
     (g.fld (Reg.CLU_DC_VSRC k) Fld.CLU_DC_VSRC_SCALE == 0, trCOMPOSE, Reg.CLU_DC_VSRC k),
     ((g (Reg.CLU_DC_PHSCALE k)).toNat % 65536 == 0, trCOMPOSE, Reg.CLU_DC_PHSCALE k),
     (ilim == 0, trCOMPOSE, Reg.CLU_DC_ILIM k),
     (sl.any (fun x => g.fld (Reg.EDG_CTRL x) Fld.EDG_CTRL_MODE != 0 || !g.bit (Reg.EDG_CTRL x) Fld.EDG_CTRL_LOOP_EN), trMODE, Reg.CLU_CFG k),
     (g.bit (Reg.CLU_DC_CFG k) Fld.CLU_DC_CFG_SHED_EN &&
       ((List.range n).any fun i => Nat.blt 0 i &&
         (Nat.ble (shed i / 65536) (shed (i + 1) % 65536) || Nat.blt (ilim * i) (shed i / 65536 * n))), trORDER, Reg.CLU_DC_SHED k 0),
     (Nat.blt (Fld.CLU_DC_SS_SS_TIME.get ss * 10) (Fld.CLU_DC_SS_SS_RAMP.get ss + 10), trORDER, Reg.CLU_DC_SS k),
     (g.ctype k == tyPVC && tgt != 0 && (Nat.blt tgt (10 * Fld.CLU_PV_LIM_VMIN_PV.get pv) || Nat.blt (10 * Fld.CLU_PV_LIM_VMAX_PV.get pv) tgt),
       trORDER, Reg.CLU_PV_LIM k)]
  else if g.ctype k = tyDLC then
    [(!(Nat.blt vStart vFull && Nat.ble vFull (10 * Fld.CLU_REG_VLIM_VMAX.get vl)), trMODE, Reg.CLU_DLC_VCFG k),
     (!Nat.blt (10 * Fld.CLU_REG_VLIM_VMIN.get vl + (g (Reg.CLU_DLC_HYS k)).toNat % 65536) vStart, trMODE, Reg.CLU_DLC_HYS k),
     (g.fld (Reg.CLU_DLC_THERM k) Fld.CLU_DLC_THERM_RES == 0, trMODE, Reg.CLU_DLC_THERM k),
     (sl.any (fun x => !(g.bit (Reg.EDG_CTRL x) Fld.EDG_CTRL_LOOP_EN && g.bit (Reg.EDG_CTRL x) Fld.EDG_CTRL_LOOPMODE)), trMODE, Reg.CLU_CFG k)]
  else []

/-- The byte ranges of the fields of a BMU frame: offset and length (R204). -/
def bmsFields (g : View) (k : Nat) : List (Nat × Nat) :=
  let w := (g (Reg.CHG_BMSMAP0 k)).toNat
  let v := g (Reg.CHG_BMSMAP1 k)
  [(w % 64, 2), (w / 2 ^ 6 % 64, 2), (w / 2 ^ 12 % 64, 2), (w / 2 ^ 18 % 64, 2), (w / 2 ^ 24 % 64, 2), (Fld.CHG_BMSMAP1_FLAGS.get v, 1)]
    ++ (if Fld.CHG_BMSMAP1_ALIVE_EN.on v then [(Fld.CHG_BMSMAP1_ALIVE.get v, 1)] else [])

/-- Two ranges of a list overlap. -/
def anyOverlap : List (Nat × Nat) → Bool
  | [] => false
  | (a, n) :: t => (t.any fun p => Nat.blt a (p.1 + p.2) && Nat.blt p.1 (a + n)) || anyOverlap t

/-- The rules of the charge engine of an SDC cluster with a profile (R204, R207, R208, R210). -/
def chgChecks (g : View) (k : Nat) : List Check :=
  let prof := g.fld (Reg.CHG_CFG k) Fld.CHG_CFG_PROFILE
  let i := g (Reg.CHG_ICHG k)
  let f := (g (Reg.CHG_FOLD k)).toNat
  let b := bmsFields g k
  if g.ctype k = tySDC then
    [(Nat.ble (Fld.CHG_ICHG_I_CHG.get i) (Fld.CHG_ICHG_I_TAPER.get i), trORDER, Reg.CHG_ICHG k),
     (prof == 1 && g.fld (Reg.CHG_VCV k) Fld.CHG_VCV_V_CV == 0, trRANGE, Reg.CHG_VCV k),
     (decide (signed 16 (f / 65536) ≤ signed 16 f), trORDER, Reg.CHG_FOLD k),
     (b.any (fun p => Nat.blt 64 (p.1 + p.2)) || anyOverlap b, trRANGE, Reg.CHG_BMSMAP0 k)]
  else []

/-- The cluster type that the kind of an account names (R225). -/
def kindType (kind ty : Nat) : Bool :=
  (kind == 1 && ty == tySDC) || (kind == 2 && ty == tyPVC) || (kind == 3 && (ty == tyGFI3 || ty == tyGFI2)) || (kind == 4 && ty == tyDLC)

/-- The enabled accounts of every region in a view: region and account. -/
def View.accounts (g : View) : List (Nat × Nat) :=
  [0, 1].flatMap fun r => ((List.range 12).filter fun a => g.bit (Reg.LDG_A_CFG r a) Fld.LDG_A_CFG_EN).map fun a => (r, a)

/-- The rules of the ledger (R225). -/
def State.ledgerChecks (s : State) (g : View) : List Check :=
  let accts := g.accounts
  let vch (r : Nat) : Nat := g.fld (Reg.LDG_CFG r) Fld.LDG_CFG_VCH
  let on (r : Nat) : Bool := g.bit (Reg.LDG_CFG r) Fld.LDG_CFG_EN
  let ch (p : Nat × Nat) : Nat := g.fld (Reg.LDG_A_CFG p.1 p.2) Fld.LDG_A_CFG_CH
  let kind (p : Nat × Nat) : Nat := g.fld (Reg.LDG_A_CFG p.1 p.2) Fld.LDG_A_CFG_KIND
  let clu (p : Nat × Nat) : Nat := g.fld (Reg.LDG_A_CFG p.1 p.2) Fld.LDG_A_CFG_CLUSTER
  let named (p : Nat × Nat) : Bool := kind p != 0 && kind p != 5
  [(on 0 && on 1 && vch 0 == vch 1, trCOMPOSE, Reg.LDG_CFG 1)] ++
  accts.flatMap fun p =>
    let a := Reg.LDG_A_CFG p.1 p.2
    let rest := accts.filter fun q => q != p
    [(!on p.1 || (g (Reg.LDG_CLINK p.1)).toNat % 2 ^ 24 == 0, trCOMPOSE, a),
     (Nat.ble s.variant.regions p.1, trCOMPOSE, a),
     ((on 0 && vch 0 == ch p) || (on 1 && vch 1 == ch p) || rest.any (fun q => ch q == ch p), trCOMPOSE, a),
     (named p && (!kindType (kind p) (g.ctype (clu p)) || g.fld (Reg.CLU_CFG (clu p)) Fld.CLU_CFG_REGION != p.1 ||
       rest.any (fun q => named q && clu q == clu p)), trCOMPOSE, a),
     ((g (Reg.LDG_A_SCALE p.1 p.2)).toNat == 0 || g.fld (Reg.LDG_A_RATED p.1 p.2) Fld.LDG_A_RATED_IRATED == 0, trCOMPOSE, a)]

/-- The rules of measurement: SAMPDLY below N (R249), the fast path (R251), low power (R248), the sources of the regions (R242). -/
def State.measChecks (s : State) (g : View) : List Check :=
  let vsrc (r : Nat) : Nat := g.fld (Reg.CLU_REG_VCFG r) Fld.CLU_REG_VCFG_SRC
  let used (r : Nat) : Bool := g.fld (Reg.CLU_REG_VCFG r) Fld.CLU_REG_VCFG_SCALE != 0
  ((List.range 4).map fun j => (Nat.ble (max (g.mclkN (6 * j)) 1) (g.fld (Reg.MEAS_MCLK j) Fld.MEAS_MCLK_SAMPDLY), trRANGE, Reg.MEAS_MCLK j)) ++
  ((List.range 24).map fun i =>
    (Nat.blt 192 (2 * g.fld (Reg.MEAS_MOD_CFG i) Fld.MEAS_MOD_CFG_OSR_F * g.mclkN i), trRANGE, Reg.MEAS_MOD_CFG i)) ++
  (s.rgns.map fun r => (used r && !g.scanned false (vsrc r), trSOURCE, Reg.CLU_REG_VCFG r)) ++
  (s.rgns.map fun r => (g.bit Reg.MEAS_CTRL Fld.MEAS_CTRL_LP_EN && (!g.scanned true (vsrc r) || Nat.blt 2000 (g.pairP true (vsrc r))),
    trSOURCE, Reg.MEAS_CTRL))

/-- The order of the thermal thresholds (R265), also against the safe over-temperature in force (R327). -/
def State.thermalChecks (s : State) (g : View) (pars : Option (List Word)) : List Check :=
  let j := g Reg.THM_JCFG
  let n := g Reg.THM_NCFG
  let jt := Fld.THM_JCFG_JTRIP.get j
  let nt := Fld.THM_NCFG_NTRIP.get n
  let sot := s.par none 16
  [(!(Nat.blt (Fld.THM_JCFG_JWARN.get j) jt && Nat.ble jt 130), trORDER, Reg.THM_JCFG),
   (!(Nat.ble (Fld.THM_NCFG_NWARN.get n) (Fld.THM_NCFG_FOLD_START.get n) && Nat.blt (Fld.THM_NCFG_FOLD_START.get n) (Fld.THM_NCFG_FOLD_END.get n)
     && Nat.ble (Fld.THM_NCFG_FOLD_END.get n) nt), trORDER, Reg.THM_NCFG),
   (pars.isNone && s.rm.delivered && Nat.blt (s.fld Reg.THM_JCFG Fld.THM_JCFG_JTRIP) jt && Nat.ble (sot % 256) jt, trORDER, Reg.THM_JCFG),
   (pars.isNone && s.rm.delivered && Nat.blt (s.fld Reg.THM_NCFG Fld.THM_NCFG_NTRIP) nt && Nat.ble (sot / 256 % 256) nt, trORDER, Reg.THM_NCFG)]

/-- Shedding of the service regulators (R276) and the system timing (R172–R175). -/
def svrSysChecks (g : View) : List Check :=
  let y := g Reg.CLU_SYS_CFG
  let iso := Fld.CLU_SYS_CFG_ISOLATE.get y
  ((List.range 4).map fun c =>
    let n := g.fld (Reg.SVR_CTRL c) Fld.SVR_CTRL_NPH + 1
    let a := (g (Reg.SVR_SHED1 c)).toNat
    let d := (g (Reg.SVR_SHED0 c)).toNat
    (g.bit (Reg.SVR_CTRL c) Fld.SVR_CTRL_SHED_EN &&
      ((List.range n).any fun i => Nat.blt 0 i && Nat.ble (a / 2 ^ (8 * (i - 1)) % 256) (d / 2 ^ (8 * (i - 1)) % 256)), trORDER, Reg.SVR_SHED0 c)) ++
  [(Nat.blt iso (Fld.CLU_SYS_CFG_LEAD_TO.get y + 34) || Nat.blt (16 * Fld.CLU_SYS_CFG_DEAD_ROUNDS.get y) (iso + 16), trORDER, Reg.CLU_SYS_CFG)]

/-- The rules of the CAN controllers (R362, R363, R366, R373). -/
def canChecks (g : View) : List Check :=
  let on (x : Nat) (f : Field) : Bool := g.bit (Reg.CAN_CTRL x) f
  let ring (x : Nat) : Nat := (g (Reg.CAN_TXRING x)).toNat % 16
  let area (x : Nat) : Nat × Nat := ((g (Reg.CAN_RXR_BASE x)).toNat, 80 * 2 ^ g.fld (Reg.CAN_RXR_CFG x) Fld.CAN_RXR_CFG_LOG2N)
  (List.range 6).flatMap fun x =>
    let nb := g (Reg.CAN_NBT x)
    let db := g (Reg.CAN_DBT x)
    let nq := 3 + Fld.CAN_NBT_TSEG1.get nb + Fld.CAN_NBT_TSEG2.get nb
    let dq := 3 + Fld.CAN_DBT_TSEG1.get db + Fld.CAN_DBT_TSEG2.get db
    let nt := (Fld.CAN_NBT_BRP.get nb + 1) * nq
    let dt := (Fld.CAN_DBT_BRP.get db + 1) * dq
    let others := (List.range 6).filter fun y => y != x
    [(Nat.blt (Fld.CAN_NBT_TSEG2.get nb) (Fld.CAN_NBT_SJW.get nb), trORDER, Reg.CAN_NBT x), (Nat.blt nt 80, trORDER, Reg.CAN_NBT x),
     (Nat.blt (Fld.CAN_DBT_TSEG2.get db) (Fld.CAN_DBT_SJW.get db), trORDER, Reg.CAN_DBT x),
     (Nat.blt dt 10 || Nat.blt nt dt, trORDER, Reg.CAN_DBT x),
     (Nat.blt (Fld.CAN_NBT_BRP.get nb) (Fld.CAN_DBT_BRP.get db), trORDER, Reg.CAN_DBT x),
     (!g.bit (Reg.CAN_TDC x) Fld.CAN_TDC_TDC_EN && Nat.blt dt 80, trORDER, Reg.CAN_TDC x),
     (on x Fld.CAN_CTRL_TXR_EN && on x Fld.CAN_CTRL_ORDER, trMODE, Reg.CAN_CTRL x),
     (on x Fld.CAN_CTRL_TXR_EN && others.any (fun y => on y Fld.CAN_CTRL_TXR_EN && ring y == ring x), trCOMPOSE, Reg.CAN_TXRING x),
     (on x Fld.CAN_CTRL_RXR_EN && others.any (fun y => on y Fld.CAN_CTRL_RXR_EN && Nat.blt (area x).1 ((area y).1 + (area y).2) &&
       Nat.blt (area y).1 ((area x).1 + (area x).2)), trCOMPOSE, Reg.CAN_RXR_BASE x)]

/-- ETYPE and SKEW of the paired transport (R357); the reason is SAFETY only for the configuration image (R423). -/
def State.snlChecks (s : State) (g : View) (pars : Option (List Word)) : List Check :=
  let e := g.fld Reg.ETH_SNL_CFG Fld.ETH_SNL_CFG_ETYPE
  let wd := s.par pars 18
  let why := if pars.isSome then trSAFETY else trRANGE
  [(Nat.blt e 0x600 || [0x8100, 0x88F7, 0x0800, 0x86DD].contains e, why, Reg.ETH_SNL_CFG),
   ((s.rm.delivered || pars.isSome) && bitOf wd 31 && Nat.blt (50 * (wd % 1024)) (g.fld Reg.ETH_SNL_TIMING Fld.ETH_SNL_TIMING_SKEW), why, Reg.ETH_SNL_TIMING)]

/-- The rules that join registers, in the order of their reason codes within each unit. -/
def State.joinChecks (s : State) (g : View) (pars : Option (List Word)) : List Check :=
  (s.slots.flatMap (edgChecks g)) ++ (s.slots.flatMap (gdvChecks g)) ++ (s.clus.flatMap (s.composeChecks g pars)) ++
  (s.clus.flatMap (sourceChecks g)) ++ (s.clus.flatMap (dcChecks g)) ++ (s.clus.flatMap (chgChecks g)) ++ s.ledgerChecks g ++
  s.measChecks g ++ s.thermalChecks g pars ++ svrSysChecks g ++ canChecks g ++ s.snlChecks g pars

/-! ### The safety parameter set (R326, R327, R343) -/

/-- A field of a parameter word outside its range. -/
def outside (v lo hi : Nat) : Bool := Nat.blt v lo || Nat.blt hi v

/-- The precharge parameters of region `r` (R76, R333). -/
def preBad (p : Nat → Nat) (r : Nat) : Bool :=
  let a := p (24 + 4 * r)
  let b := p (25 + 4 * r)
  let c := p (26 + 4 * r)
  let tMax := p (27 + 4 * r) % 65536
  let mode := a / 2 ^ 30
  let main := a / 2 ^ 24 % 8
  let pre := a / 2 ^ 16 % 8
  let role (y : Nat) : Nat := p 2 / 2 ^ (2 * y) % 4
  let tCheck := c / 65536
  let tMin := c % 65536
  mode == 3 || outside (a % 2 ^ 11) 10 1600 || outside (b / 2 ^ 16 % 2 ^ 11) 0 1600 || outside (b % 512) 10 500 || outside tCheck 10 10000 ||
    outside tMin 0 60000 || outside tMax 10 60000 || !(Nat.blt tMin tMax && (Nat.blt tCheck tMin || (tMin == 0 && mode == 2))) ||
    (mode == 1 && (main == pre || role main != 1 || role pre != 1))

/-- The checks of a safety parameter set (R326, R327, R329, R334, R343, R357). -/
def State.safetyChecks (s : State) (g : View) (pars : Option (List Word)) : List Check :=
  match pars with
  | none => []
  | some l =>
    let p (w : Nat) : Nat := (l.getD w 0).toNat
    let bad (c : Bool) (w : Nat) : Check := (c, trSAFETY, Reg.SAFE_PAR w)
    let so (y : Nat) : Nat := p (3 + y / 2) / 2 ^ (16 * (y % 2)) % 65536
    let used := [0, 1, 2, 3, 4, 5, 6, 8, 9, 10, 12, 13, 14, 16, 17, 18, 24, 25, 26, 27, 28, 29, 30, 31]
    let lacks := Nat.blt s.variant.regions 2
    [bad (outside (p 1 / 2 ^ 16 % 512) 10 500 || outside (p 1 % 256) 3 255) 1, bad (p 2 / 2 ^ 28 == 0) 2] ++
    ((List.range 8).map fun y => bad (bitOf (p 2) (16 + y) && (outside (so y / 2 ^ 10 % 32) 0 16 || outside (so y % 128) 1 100)) (3 + y / 2)) ++
    ([0, 1].map fun r => bad (p (8 + 4 * r) % 65536 != 0 &&
      (Nat.blt (p (8 + 4 * r) % 65536 * 10) (g.fld (Reg.CLU_REG_VLIM r) Fld.CLU_REG_VLIM_VMAX * 102) ||
        p (9 + 4 * r) % 64 == p (9 + 4 * r) / 2 ^ 8 % 64)) (8 + 4 * r)) ++
    [bad (Nat.blt 145 (p 16 % 256) || Nat.ble (p 16 % 256) (g.fld Reg.THM_JCFG Fld.THM_JCFG_JTRIP) ||
       Nat.ble (p 16 / 256 % 256) (g.fld Reg.THM_NCFG Fld.THM_NCFG_NTRIP)) 16,
     bad (outside (p 18 % 1024) 1 1000) 18, bad (preBad p 0) 24, bad (!lacks && preBad p 1) 28,
     bad (lacks && [12, 13, 14, 28, 29, 30, 31].any (fun w => p w != 0)) 12,
     bad ((List.range 64).any fun w => p w != 0 && !used.contains w) 0]

/-- Validation of staged words, in ascending order of offset, with the parameter set where they are a configuration image (R423). -/
def State.validate (s : State) (staged : List (Nat × Word)) (pars : Option (List Word)) : Option (Nat × Nat) :=
  let g := s.staged staged
  firstFail (staged.flatMap (s.offsetChecks g) ++ s.joinChecks g pars ++ s.safetyChecks g pars)

/-- Validation of a configuration image. The commissioning lock binds one that is newly loaded (R85) and not the active one that CONFIG applies
(DEDUCED, log 27: R72 applies at every boot what the check value covers). -/
def State.validateImage (s : State) (staged : List (Nat × Word)) (pars : List Word) (bound : Bool) : Option (Nat × Nat) :=
  (if bound then s else s.setBit Reg.GLB_COMLOCK Fld.GLB_COMLOCK_LOCKED false).validate staged (some pars)

end Sys2Proof.Machine
end

