-- ==== Sys2Proof/Machine/Ctu.lean ====
section
/-!
DEFINITION. The operations of the configuration transaction unit (R421, R422, R425–R427, R429). What a landing changes stands in Land.lean.
-/

namespace Sys2Proof.Machine

/-- The device states in which transactions are accepted (R421). -/
def State.txAccepted (s : State) : Bool := (Nat.ble 2 s.dev && Nat.ble s.dev 6) || s.dev == stSAFE

/-- The slot of an open TID; 0 names none. -/
def State.txSlot (s : State) (tid : Nat) : Option Nat :=
  if tid = 0 then none else (List.range 4).find? fun t => s.txState t != txFREE && s.txTid t == tid

/-- The TID after another in turn, without 0 (R421). -/
def nextTid (t : Nat) : Nat := t % 255 + 1

/-- The next TID in turn that no open transaction has. -/
def State.freshTid (s : State) : Nat :=
  let inUse (i : Nat) : Bool := (s.txSlot i).isSome
  let a := nextTid s.lastTid
  let b := nextTid a
  let c := nextTid b
  let d := nextTid c
  if !inUse a then a else if !inUse b then b else if !inUse c then c else d

/-- Slot `t` takes a state. -/
def State.setTxState (s : State) (t v : Nat) : State := s.setFld (Reg.CTU_T_STAT t) Fld.CTU_T_STAT_STATE v
/-- An operation was made on slot `t` now (R427). -/
def State.touchTxn (s : State) (t : Nat) : State := s.updTxn t fun x => { x with lastOp := s.now }

/-- BEGIN (R422): the state, the reason of a failure or 0, and the TID. -/
def State.txBegin (s : State) : State × Nat × Nat :=
  if !s.txAccepted then (s, trSTATE, 0)
  else
    match (List.range 4).find? fun t => s.txState t == txFREE with
    | none => (s, trNOSLOT, 0)
    | some t =>
      let tid := s.freshTid
      let s := { s.freeTxn t with lastTid := tid }
      let s := (s.setFld (Reg.CTU_T_STAT t) Fld.CTU_T_STAT_TID tid).setTxState t txOPEN
      (s.touchTxn t, 0, tid)

/-- CTU_Tt_STAT bits 10:0: distinct offsets staged. -/
def Fld.CTU_T_STAT_COUNT : Field := ⟨0, 11⟩

/-- STAGE of one word (R422): the state, and the reason of a failure or 0. -/
def State.txStage (s : State) (tid off : Nat) (v : Word) : State × Nat :=
  if !s.txAccepted then (s, trSTATE)
  else
    match s.txSlot tid with
    | none => (s, trTIDERR)
    | some t =>
      let l := (s.txn t).staged
      if s.txState t = txPENDING then (s, trSTATE)
      else if off % 4 ≠ 0 ∨ 0x80000 ≤ off then ((s.setTxErr t trNOTCFG off).touchTxn t, trNOTCFG)
      else if !s.stages t off && Nat.ble 1024 l.length then ((s.setTxErr t trFULL off).touchTxn t, trFULL)
      else
        let l' := Cells.insert (Cells.erase l off) off v
        let s := s.updTxn t fun x => { x with staged := l' }
        let s := (s.setTxState t txOPEN).setFld (Reg.CTU_T_STAT t) Fld.CTU_T_STAT_COUNT l'.length
        (s.touchTxn t, 0)

/-- A tainted transaction fails its next VALIDATE or COMMIT (R426); otherwise R423 decides. -/
def State.txVerdict (s : State) (t : Nat) : Option (Nat × Nat) :=
  if s.bit (Reg.CTU_T_STAT t) Fld.CTU_T_STAT_TAINT then some (trCONFLICT, (((s.txn t).staged.head?).map (·.1)).getD 0)
  else s.validate (s.txn t).staged none

/-- VALIDATE (R422): the state, the reason or 0, and the offending offset. -/
def State.txValidate (s : State) (tid : Nat) : State × Nat × Nat :=
  if !s.txAccepted then (s, trSTATE, 0)
  else
    match s.txSlot tid with
    | none => (s, trTIDERR, 0)
    | some t =>
      if s.txState t = txPENDING then (s, trSTATE, 0)
      else
        match s.txVerdict t with
        | none => ((s.setTxState t txVALIDATED).touchTxn t, 0, 0)
        | some (why, off) =>
          let s := ((s.setTxState t txOPEN).setTxErr t why off).touchTxn t
          let s := if why = trCONFLICT then (s.setBit (Reg.CTU_T_STAT t) Fld.CTU_T_STAT_TAINT false).raise .ctu 3 else s
          (s, why, off)

/-- The planned commit instant of a boundary in fine steps (R425): some none where it is still unknown, none for BOUNDARY. The time is in
2^-32 ns of PTP. -/
def State.boundaryTc (s : State) (bnd k : Nat) (ptp : Nat) : Option (Option Nat) :=
  match bnd with
  | 0 => some (some s.tbFine)
  | 1 =>
    if Nat.blt k s.variant.clusters && s.ctype k != 0 then
      some (some (gridAfter (16 * s.anchor k) (s.cluTsw k) (s.tbFine + 16 * 4000) - 16 * 64))
    else none
  | 2 => if Nat.blt k s.variant.clusters && s.isGfi k then some none else none
  | _ =>
    let tick := s.tb + (ptp - s.ptp) / max s.ptpAdd 1
    if s.bit Reg.ETH_PTP_STAT Fld.ETH_PTP_STAT_EVER_LOCKED && Nat.ble (s.tb + 4000) tick &&
        Nat.ble tick (s.tb + ms (s.fld Reg.CTU_CFG Fld.CTU_CFG_COMMIT_TO)) then some (some (16 * tick))
    else none

/-- COMMIT fails: the transaction is rolled back and its slot freed (R422). -/
def State.txCommitFails (s : State) (t why off : Nat) : State × Nat × Nat :=
  (((s.setTxErr t why off).freeTxn t).raiseMask .ctu (2 + (if why = trCONFLICT then 8 else 0)), why, off)

/-- COMMIT (R422, R425): the state, the reason or 0, and the offending offset. -/
def State.txCommit (s : State) (tid bnd k ptp : Nat) (ring : Option Nat) : State × Nat × Nat :=
  if !s.txAccepted then (s, trSTATE, 0)
  else
    match s.txSlot tid with
    | none => (s, trTIDERR, 0)
    | some t =>
      if s.txState t = txPENDING then (s, trSTATE, 0)
      else
        match s.txVerdict t with
        | some (why, off) => s.txCommitFails t why off
        | none =>
          match s.boundaryTc bnd k ptp with
          | none => s.txCommitFails t trBOUNDARY 0
          | some tc =>
            let s := s.updTxn t fun x => { x with commitAt := s.now, lastOp := s.now, tv := s.tbFine, bnd := bnd, clu := k, tc := tc, ring := ring }
            ((s.setTxState t txPENDING).setNat64 (Reg.CTU_T_TC_LO t) (Reg.CTU_T_TC_HI t) (tc.getD 0), 0, 0)

/-- The commit instant of a pending transaction has come (R425). -/
def State.landDue (s : State) (t : Nat) : Bool :=
  let x := s.txn t
  s.txState t == txPENDING && Nat.ble x.tv s.tbFine &&
  (match x.tc with
   | some tc => Nat.ble tc s.tbFine
   | none => Nat.blt x.tv (s.reg64 (Reg.CLU_GMU_ZC_LO x.clu) (Reg.CLU_GMU_ZC_HI x.clu)))

/-- ROLLBACK (R422); a pending COMMIT ends with the reason STATE. A landing due in the same handshake governs (R428). -/
def State.txRollback (s : State) (tid : Nat) : State × Nat :=
  if !s.txAccepted then (s, trSTATE)
  else
    match s.txSlot tid with
    | none => (s, trTIDERR)
    | some t =>
      if s.landDue t then (s, trSTATE)
      else
        let s := if s.txState t = txPENDING then s.commitResult t false trSTATE 0 0 else s
        (s.freeTxn t, 0)

/-! ### The registers of the unit (R429) -/

/-- The result of a register command: RESULT, TID, REASON, SEQ incremented, CMDERR where it failed. -/
def State.ctuResult (s : State) (res tid why : Nat) : State :=
  let seq := (s.fld Reg.CTU_RES Fld.CTU_RES_SEQ + 1) % 256
  (s.setNat Reg.CTU_RES (res * 2 ^ 24 + tid % 256 * 2 ^ 16 + seq * 2 ^ 8 + why)).raiseIf (res != rcDONE && res != rcPENDING) .ctu 5

/-- The result of an operation with a reason, 0 for success. -/
def resOf (why : Nat) : Nat := if why = 0 then rcDONE else rcCOND

/-- BEGIN by command. -/
def State.cmdBegin (s : State) : State :=
  let r := s.txBegin
  r.1.ctuResult (resOf r.2.1) r.2.2 r.2.1

/-- VALIDATE by command. -/
def State.cmdValidate (s : State) (tid : Nat) : State :=
  let r := s.txValidate tid
  r.1.ctuResult (resOf r.2.1) tid r.2.1

/-- COMMIT by command, at the boundary of CTU_BND. -/
def State.cmdCommit (s : State) (tid : Nat) : State :=
  let b := s.reg Reg.CTU_BND
  let sec := (s.reg Reg.CTU_BND_PTPS_LO).toNat + 2 ^ 32 * ((s.reg Reg.CTU_BND_PTPS_HI).toNat % 65536)
  let r := s.txCommit tid (b.toNat % 4) (Fld.CTU_BND_CLUSTER.get b) (sec * ptpSecond + (s.reg Reg.CTU_BND_PTPNS).toNat % 2 ^ 30 * 2 ^ 32) none
  r.1.ctuResult (if r.2.1 = 0 then rcPENDING else rcCOND) tid r.2.1

/-- ROLLBACK by command. -/
def State.cmdRollback (s : State) (tid : Nat) : State :=
  let r := s.txRollback tid
  r.1.ctuResult (resOf r.2) tid r.2

/-- A write of CTU_STG_VAL: the value is staged at CTU_STG_OFS, which then advances by 4; a failure sets STGERR. -/
def State.stageVal (s : State) (v : Word) : State :=
  let o := s.reg Reg.CTU_STG_OFS
  let off := Fld.CTU_STG_OFS_BAR0.get o
  let r := s.txStage (Fld.CTU_STG_OFS_TID.get o) off v
  if r.2 = 0 then r.1.setFld Reg.CTU_STG_OFS Fld.CTU_STG_OFS_BAR0 ((off + 4) % 2 ^ 20) else r.1.raise .ctu 4

/-- TXN_BEGIN (R422). -/
def execTxnBegin (s : State) : Res := onlyIf s.cdRun s State.cmdBegin
/-- TXN_STAGE (R422, R429). -/
def execTxnStage (v : Word) (s : State) : Res := onlyIf s.cdRun s fun s => s.stageVal v
/-- TXN_VALIDATE (R422, R423). -/
def execTxnValidate (tid : Fin 256) (s : State) : Res := onlyIf s.cdRun s fun s => s.cmdValidate tid.val
/-- TXN_COMMIT (R422, R425). -/
def execTxnCommit (tid : Fin 256) (s : State) : Res := onlyIf s.cdRun s fun s => s.cmdCommit tid.val
/-- TXN_ROLLBACK (R422). -/
def execTxnRollback (tid : Fin 256) (s : State) : Res := onlyIf s.cdRun s fun s => s.cmdRollback tid.val

/-- TXN_TIMEOUT (R427): an open transaction without an operation for TXN_TO. -/
def execTxnTimeout (t : Fin 4) (s : State) : Res :=
  let t := t.val
  let st := s.txState t
  onlyIf (s.cdRun && (st == txOPEN || st == txVALIDATED) && s.since (s.txn t).lastOp (ms (s.fld Reg.CTU_CFG Fld.CTU_CFG_TXN_TO))) s fun s =>
    let tid := s.txTid t
    (((s.setTxErr t trTIMEOUT 0).freeTxn t).raise .ctu 2).record Reg.CTU_FLAGS 4 [tid]

/-- COMMIT_TIMEOUT (R427): a pending transaction whose tc has not come within COMMIT_TO. -/
def execCommitTimeout (t : Fin 4) (s : State) : Res :=
  let t := t.val
  onlyIf (s.cdRun && s.txState t == txPENDING && !s.landDue t && s.since (s.txn t).commitAt (ms (s.fld Reg.CTU_CFG Fld.CTU_CFG_COMMIT_TO))) s fun s =>
    let tid := s.txTid t
    (s.failPending t trTIMEOUT 0).record Reg.CTU_FLAGS 4 [tid]

end Sys2Proof.Machine
end

