-- ==== Sys2Proof/Machine/Ringmaster.lean ====
section
/-!
DEFINITION. Ringmaster (R317–R343): votes, alive supervision, return frames, safety functions, inputs, outputs, the reset edge, the
parameter set, and the requests of the mailboxes (R419).
-/

namespace Sys2Proof.Machine

/-! ### Internal findings (R472) -/

/-- The cause of SAFE_DEMAND bit 25 is present: TD12 lost, frames missing, or the latch of R318 and R325. -/
def State.intCause (s : State) : Bool :=
  s.rm.td12Lost || s.bit Reg.SAFE_STAT Fld.SAFE_STAT_LATCH_VB || s.assigned.any fun n => (s.drv n).frameLost

/-- The cause of bit 25 follows what is found. -/
def State.intFollow (s : State) : State := if s.intCause then s else s.causeGone dmINT

/-- A package safe state that Ringmaster orders for an internal finding (R472). -/
def State.rmFinding (s : State) : State := (s.packageSafe 0x0E dmINT).intFollow

/-- The latch of R318 and R325: cleared by cycling VAUX_B. -/
def State.latchVb (s : State) : State := (s.setBit Reg.SAFE_STAT Fld.SAFE_STAT_LATCH_VB true).rmFinding

/-! ### The vote (R318) -/

/-- SAFE_STAT.CORES shows the cores in the vote. -/
def State.showCores (s : State) : State := (s.setFld Reg.SAFE_STAT Fld.SAFE_STAT_CORES (7 - s.coresOut % 8)).rmFollow

/-- The cores in the vote. -/
def State.coresIn (s : State) : List Nat := (List.range 3).filter fun c => !bitOf s.coresOut c

/-- What at least two of the voting cores command, bit by bit. -/
def twoOf (l : List Nat) : Nat :=
  match l with
  | [a, b] => a &&& b
  | [a, b, c] => (a &&& b) ||| (a &&& c) ||| (b &&& c)
  | _ => 0

/-- A core's command differs from those of the other two, which agree (R318). -/
def oddOne (cmd : Nat → Nat × Nat) (c : Nat) : Bool :=
  let x := cmd ((c + 1) % 3)
  x == cmd ((c + 2) % 3) && cmd c != x

/-- Fewer than two cores remain in the vote: everything off and the latch set. -/
def State.coresFew (s : State) : State := if Nat.blt 1 (popcount 3 s.coresOut) then s.latchVb else s

/-- A core is taken out of the vote and restarted (R318). -/
def State.coreOut (s : State) (c : Nat) : State :=
  let s := s.updRm fun r => { r with outAt := r.outAt ++ [(c, s.now)], differ := r.differ.set c 0 }
  (s.showCores.raise .safe 11).coresFew

/-- RM_DECISION (R318, R324, R333): the votes of a decision. -/
def execRmDecision (d : RmVotes) (s : State) : Res :=
  onlyIf s.rmRun s fun s =>
    let cmd (c : Nat) : Nat × Nat := (d.lines.getD c 0 % 2 ^ 24, d.outs.getD c 0 % 2 ^ 8)
    let cores := s.coresIn
    let s := s.rmDecide (twoOf (cores.map fun c => (cmd c).1)) (twoOf (cores.map fun c => (cmd c).2))
    if cores.length = 3 then
      let run (c : Nat) : Nat := if oddOne cmd c then s.rm.differ.getD c 0 + 1 else 0
      let s := s.updRm fun r => { r with differ := [run 0, run 1, run 2] }
      match [0, 1, 2].find? fun c => Nat.ble 2 (run c) with
      | some c => s.coreOut c
      | none => s
    else s

/-- CORE_REJOIN (R318): the self-test of a restarted core; one that fails, or comes later than 25 ms, leaves the core out. -/
def execCoreRejoin (c : Fin 3) (ok : Bool) (s : State) : Res :=
  onlyIf (s.rmRun && s.rm.outAt.any fun p => p.1 == c.val) s fun s =>
    let intime := s.rm.outAt.any fun p => p.1 == c.val && !s.since p.2 (ms 25 + 1)
    let s := s.updRm fun r => { r with outAt := r.outAt.filter fun p => p.1 != c.val,
                                       dead := if ok && intime then r.dead else putBit r.dead c.val true, differ := [0, 0, 0] }
    s.showCores

/-- CORE_REJOIN_TIMEOUT (R318): 25 ms. -/
def execCoreRejoinTimeout (c : Fin 3) (s : State) : Res :=
  onlyIf (s.rmRun && s.rm.outAt.any fun p => p.1 == c.val && s.since p.2 (ms 25)) s fun s =>
    let s := s.updRm fun r => { r with outAt := r.outAt.filter fun p => p.1 != c.val, dead := putBit r.dead c.val true }
    s.showCores

/-! ### The alive word (R319) -/

/-- SAFE_DEMAND bit 23: control-die alive. -/
def dmALIVE : Nat := 2 ^ 23

/-- ALIVE_WORD (R319). -/
def execAliveWord (s : State) : Res :=
  onlyIf (s.cdRun && s.rmRun) s fun s => (s.updRm fun r => { r with aliveAt := s.now }).causeGone dmALIVE

/-- ALIVE_TIMEOUT (R319): no alive word for 1 ms. -/
def execAliveTimeout (s : State) : Res :=
  onlyIf (s.rmRun && s.since s.rm.aliveAt (ms 1)) s fun s => s.packageSafe 0x0E dmALIVE

/-! ### Return frames (R325, R327) -/

/-- Unconfirmed gate-energy removal (R325). -/
def State.noConfirm (s : State) (n : Nat) : State :=
  ((s.updDrv n fun d => { d with lineOffAt := none }).raise .safe 9).latchVb

/-- The over-temperature comparison of a return frame (R327): thresholds in °C, readings in 0.1 °C. -/
def State.sotCheck (s : State) (n : Nat) (f : RetFrame) : State :=
  let p := (s.reg (Reg.SAFE_PAR 16)).toNat
  let en := bitOf (s.reg (Reg.SAFE_PAR 17)).toNat n
  let hot := decide ((10 * (p % 256) : Int) ≤ f.tj)
  let ntcHot := en && f.ntc.any fun t => decide ((10 * (p / 256 % 256) : Int) ≤ t)
  let open_ := en && f.ntc.isNone
  let before := s.sotPresent
  let wasOpen := (s.drv n).ntcOpen
  let s := s.updDrv n fun d =>
    { d with otRun := if hot then d.otRun + 1 else 0, ntcRun := if ntcHot then d.ntcRun + 1 else 0, ntcOpen := open_ }
  let d := s.drv n
  if d.otRun = 3 || d.ntcRun = 3 || (open_ && !wasOpen) then (s.raise .safe 4).packageSafe 0x0E dmSOT
  else if before && !s.sotPresent then s.causeGone dmSOT else s

/-- RETURN_FRAME (R325, R327): a valid frame refreshes the slot, shows EREMOVED, checks H_ILINE against the line and the temperatures. -/
def execReturnFrame (n : Slot) (f : RetFrame) (s : State) : Res :=
  let n := n.val
  onlyIf (s.rmRun && f.crcOk && Nat.blt n s.variant.slots) s fun s =>
    let s := (s.updDrv n fun d => { d with frameAt := s.now, frameSeen := true, frameLost := false }).intFollow
    let s := s.setFld Reg.SAFE_EREM ⟨n, 1⟩ (b2n f.eremoved)
    let d := s.drv n
    let off := !bitOf (s.reg Reg.SAFE_LINES).toNat n
    let late (t : Option Nat) : Bool := t.any fun x => s.since x (us 20)
    let bad := if off then !f.iline && late d.lineOffAt else f.iline && late d.lineOnAt
    let s := if bad then s.noConfirm n else s
    if s.rm.delivered then s.sotCheck n f else s

/-- RETFRAME_TIMEOUT (R325): no valid frame from an assigned slot for 30 µs. -/
def execRetframeTimeout (n : Slot) (s : State) : Res :=
  let n := n.val
  onlyIf (s.rmRun && s.assigned.contains n && !(s.drv n).frameLost && s.since (s.drv n).frameAt (us 30)) s fun s =>
    ((s.updDrv n fun d => { d with frameLost := true }).raise .safe 10).rmFinding

/-- EREM_CONFIRM_TIMEOUT (R325): 20 µs after its line went off, a slot that was switching has not confirmed. -/
def execEremConfirmTimeout (n : Slot) (s : State) : Res :=
  let n := n.val
  let d := s.drv n
  onlyIf (s.rmRun && d.wasSwitching && (d.lineOffAt.any fun t => s.since t (us 20)) && !bitOf (s.reg Reg.SAFE_EREM).toNat n) s fun s =>
    s.noConfirm n

/-! ### Safe DC-link voltage limit (R326) -/

/-- The SAFE_DEMAND bit of a region. -/
def dmVLIM (g : Nat) : Nat := 2 ^ (16 + g)
/-- VSAFE_MAX and VDISC of a region, 0.1 V. -/
def State.vsafe (s : State) (g : Nat) : Nat × Nat :=
  let w := (s.reg (Reg.SAFE_PAR (8 + 4 * g))).toNat
  (w % 65536, w / 65536)
/-- The limit of a region acts. -/
def State.vlimOn (s : State) (g : Nat) : Bool := s.rmRun && s.rm.delivered && Nat.blt g s.variant.regions && (s.vsafe g).1 != 0

/-- VLIM_COMPARATOR_TRIP (R326): acts on the line drivers in hardware. -/
def execVlimComparatorTrip (g : Rgn) (s : State) : Res :=
  let g := g.val
  onlyIf (s.vlimOn g) s fun s => (s.raise .safe 2).packageSafe 0x0E (dmVLIM g)

/-- VLINK_SAMPLE (R326): the link voltages of the two channels, 0.1 V. -/
def execVlinkSample (g : Rgn) (a b : Nat) (s : State) : Res :=
  let g := g.val
  onlyIf (s.vlimOn g) s fun s =>
    let a := min a 65535
    let b := min b 65535
    let s := (s.setNat (Reg.SAFE_VL g) (b * 65536 + a)).setVLink g ((a + b) / 2)
    let differ := Nat.blt (s.vsafe g).2 (distance a b)
    let s := s.updRegion g fun r => { r with discAt := if differ then some (r.discAt.getD s.now) else none }
    if !differ && Nat.ble a (s.vsafe g).1 && Nat.ble b (s.vsafe g).1 && s.rm.cmpFail / 4 ^ g % 4 == 0 then s.causeGone (dmVLIM g) else s

/-- VLINK_DISCREPANCY (R326): for 10 ms. -/
def execVlinkDiscrepancy (g : Rgn) (s : State) : Res :=
  let g := g.val
  onlyIf (s.vlimOn g && (s.region g).discAt.any fun t => s.since t (ms 10)) s fun s =>
    (s.raise .safe 3).packageSafe 0x0E (dmVLIM g)

/-- COMPARATOR_TEST (R326): the test of one comparator, VA (0) or VB (1); one that fails makes the region demand. -/
def execComparatorTest (g : Rgn) (ch : Fin 2) (ok : Bool) (s : State) : Res :=
  let g := g.val
  onlyIf (s.vlimOn g) s fun s =>
    let s := s.updRm fun r => { r with cmpFail := putBit r.cmpFail (2 * g + ch.val) (!ok) }
    if ok then s else (s.raise .safe 2).packageSafe 0x0E (dmVLIM g)

/-! ### Safety inputs (R329, R330) -/

/-- A pair is enabled. -/
def State.siOn (s : State) (x : Nat) : Bool := s.rmRun && s.rm.delivered && bitOf (s.reg (Reg.SAFE_PAR 0)).toNat x
/-- SI_FILT (R338: 3 until a set has been delivered). -/
def State.siFilt (s : State) : Nat := if s.rm.delivered then (s.reg (Reg.SAFE_PAR 1)).toNat % 256 else 3
/-- SI_DISC in ms. -/
def State.siDiscMs (s : State) : Nat := (s.reg (Reg.SAFE_PAR 1)).toNat / 65536 % 512

/-- One sample of a channel through its filter. -/
def State.siFilter (s : State) (ch : Nat) (on : Bool) : State :=
  let v := b2n on
  let r := File.get (2, 0) s.rm.siRun ch
  let run := if r.1 = v then min (r.2 + 1) 255 else 1
  let s := s.updRm fun x => { x with siRun := File.set (2, 0) x.siRun ch (v, run) }
  if Nat.ble s.siFilt run then s.setFld Reg.SAFE_SI ⟨ch, 1⟩ v else s

/-- A channel has been through its filter since it was enabled. -/
def State.siKnown (s : State) (ch : Nat) : Bool := Nat.ble s.siFilt (File.get (2, 0) s.rm.siRun ch).2

/-- The demand state of the two channels of a pair (R330). -/
def State.siStates (s : State) (x : Nat) : Bool × Bool :=
  let on (ch : Nat) : Bool := bitOf (s.reg Reg.SAFE_SI).toNat ch
  (!on (2 * x), if bitOf (s.reg (Reg.SAFE_PAR 0)).toNat (16 + x) then on (2 * x + 1) else !on (2 * x + 1))

/-- SI_SAMPLE (R329, R330): levels of both channels; a single channel in its demand state is a demand. -/
def execSiSample (x : Fin 16) (a b : Bool) (s : State) : Res :=
  let x := x.val
  onlyIf (s.siOn x) s fun s =>
    let s := (s.siFilter (2 * x) a).siFilter (2 * x + 1) b
    if !s.siKnown (2 * x) || !s.siKnown (2 * x + 1) then s
    else
      let (da, db) := s.siStates x
      let was := bitOf (s.reg Reg.SAFE_SIPAIR).toNat x
      let s := s.setFld Reg.SAFE_SIPAIR ⟨x, 1⟩ (b2n (da || db))
      let s := s.updRm fun r =>
        { r with siDisc := if da != db then (if r.siDisc.any fun p => p.1 == x then r.siDisc else (x, s.now) :: r.siDisc)
                           else r.siDisc.filter fun p => p.1 != x,
                 siSeen := File.set 0 r.siSeen x
                   (let v := File.get 0 r.siSeen x
                    if da && db then 1 else if !da && !db && v == 1 then 2 else v) }
      let faulted := bitOf (s.reg Reg.SAFE_SIPAIR).toNat (16 + x)
      if da || db then if was then s else (s.raise .safe 0).packageSafe 0x0D (2 ^ x)
      else if faulted && File.get 0 s.rm.siSeen x != 2 then s
      else s.causeGone (2 ^ x)

/-- SI_DISCREPANCY (R330): the channels disagree for longer than SI_DISC. -/
def execSiDiscrepancy (x : Fin 16) (s : State) : Res :=
  let x := x.val
  onlyIf (s.siOn x && !bitOf (s.reg Reg.SAFE_SIPAIR).toNat (16 + x) &&
      s.rm.siDisc.any fun p => p.1 == x && s.since p.2 (ms s.siDiscMs)) s fun s =>
    let s := s.setFld Reg.SAFE_SIPAIR ⟨16 + x, 1⟩ 1
    let s := s.updRm fun r => { r with siSeen := File.set 0 r.siSeen x 0 }
    (s.raise .safe 1).packageSafe 0x0D (2 ^ x)

/-! ### Safety outputs (R334) -/

/-- The test parameters of an output: SO_PW in µs, SO_PER in ticks (R343). -/
def State.soTestPar (s : State) (y : Nat) : Nat × Nat :=
  let w := (s.reg (Reg.SAFE_PAR (3 + y / 2))).toNat / 65536 ^ (y % 2)
  (200 + 50 * (w / 1024 % 32), ms (100 * (w % 128)))

/-- An output is energised. -/
def State.soIsOn (s : State) (y : Nat) : Bool := bitOf (s.fld Reg.SAFE_SO Fld.SAFE_SO_ON) y

/-- An output is faulted (R334): de-energised, its flag set and the package safe state ordered. -/
def State.soFault (s : State) (y flag : Nat) : State :=
  let s := s.setFld Reg.SAFE_SO Fld.SAFE_SO_FAULT (putBit (s.fld Reg.SAFE_SO Fld.SAFE_SO_FAULT) y true)
  ((s.outputsOff (2 ^ y)).raise .safe flag).rmFinding

/-- SO_TEST_PULSE (R334): one switch opens; pulses of two outputs never overlap. -/
def execSoTestPulse (y : SoOut) (s : State) : Res :=
  let y := y.val
  onlyIf (s.rmRun && s.rm.delivered && bitOf (s.reg (Reg.SAFE_PAR 2)).toNat (16 + y) && s.soIsOn y && s.rm.soTest.isNone &&
      s.rm.soReturn.isNone && s.since (File.get 0 s.rm.soLast y) (s.soTestPar y).2) s fun s =>
    s.updRm fun r => { r with soTest := some (y, b2n (bitOf r.soTurn y)), soTurn := putBit r.soTurn y (!bitOf r.soTurn y),
                              soPulseAt := s.now, soLast := File.set 0 r.soLast y s.now }

/-- SO_PULSE_END (R334): the pin fell, or a switch is stuck. -/
def execSoPulseEnd (y : SoOut) (fell : Bool) (s : State) : Res :=
  let y := y.val
  onlyIf (s.rmRun && (s.rm.soTest.any fun p => p.1 == y) && s.since s.rm.soPulseAt (us (s.soTestPar y).1)) s fun s =>
    if fell then s.updRm fun r => { r with soTest := none, soReturn := some y, soPulseAt := s.now } else s.soFault y 6

/-- SO_RETURN_CHECK (R334): 200 µs after the pulse. -/
def execSoReturnCheck (y : SoOut) (returned : Bool) (s : State) : Res :=
  let y := y.val
  onlyIf (s.rmRun && s.rm.soReturn == some y && s.since s.rm.soPulseAt (us 200)) s fun s =>
    let s := s.updRm fun r => { r with soReturn := none }
    if returned then s else s.soFault y 7

/-- SO_SHORT (R334): the current limit has acted for 5 ms. -/
def execSoShort (y : SoOut) (s : State) : Res := onlyIf (s.rmRun && s.soIsOn y.val) s fun s => s.soFault y.val 7
/-- SO_XV (R334): above 5 V for 1 ms while de-energised. -/
def execSoXv (y : SoOut) (s : State) : Res := onlyIf (s.rmRun && !s.soIsOn y.val) s fun s => s.soFault y.val 8

/-! ### The reset edge (R335–R337) -/

/-- SAFE_RST bits 2:0 (R342). -/
def Fld.SAFE_RST_STATE : Field := ⟨0, 3⟩
/-- SAFE_RST bits 31:16: the last press, ms. -/
def Fld.SAFE_RST_PRESS : Field := ⟨16, 16⟩
/-- The state of the reset input: 0 awaiting 1 s released, 1 ready, 2 pressed, 3 refused, 4 stuck. -/
def State.rstState (s : State) : Nat := s.fld Reg.SAFE_RST Fld.SAFE_RST_STATE
/-- The state of the reset input set. -/
def State.setRst (s : State) (v : Nat) : State := s.setFld Reg.SAFE_RST Fld.SAFE_RST_STATE v

/-- RESET_READY (R336): seen released for 1 s. -/
def execResetReady (s : State) : Res :=
  onlyIf (s.rmRun && s.rstState != 1 && s.rstState != 2 && s.rm.relAt.any fun t => s.since t (secs 1)) s fun s => s.setRst 1

/-- RESET_PRESS (R336): the press begins; one that is not preceded by 1 s released is refused. -/
def execResetPress (s : State) : Res :=
  onlyIf (s.rmRun && s.rm.pressAt.isNone) s fun s =>
    let s := s.updRm fun r => { r with pressAt := some s.now, relAt := none }
    if s.rstState = 1 then s.setRst 2 else (s.setRst 3).raise .safe 12

/-- The control die still orders the package safe state: a supervisory trip with that action, which at a slot only an assigned one has, or an
internal rail (R59, R265, R319). -/
def State.cdOrders (s : State) : Bool :=
  let clustered (l : Nat) : Bool := (s.cluOfLoc l).isSome
  (s.thm.jtrip.any fun l => Nat.ble 24 l || (s.fld Reg.THM_JCFG Fld.THM_JCFG_JACT == 3 && clustered l)) ||
    (s.thm.ntrip.any clustered && s.fld Reg.THM_NCTL Fld.THM_NCTL_NACT == 3) || (s.power.out / 2 ^ 9) % 8 != 0

/-- The SAFE_DEMAND bits whose cause is present (R321, R472). -/
def State.causeNow (s : State) : Nat :=
  let c := putBit (putBit s.rm.causes 24 (s.anySplit && !s.endbg)) 25 s.intCause
  putBit (putBit c 26 (s.bit Reg.SAFE_STAT Fld.SAFE_STAT_HWSD)) 27 s.cdOrders

/-- Every cause of SAFE has cleared (R80, R321). -/
def State.causesClear (s : State) : Bool :=
  (s.reg Reg.SAFE_DEMAND).toNat == 0 && !s.bit Reg.SAFE_STAT Fld.SAFE_STAT_HWSD && s.power.lossAt.isNone

/-- An accepted reset edge (R330, R337, R80, R83). -/
def State.resetEdge (s : State) : State :=
  let healed := (List.range 16).filter fun x => bitOf (s.reg Reg.SAFE_SIPAIR).toNat (16 + x) && File.get 0 s.rm.siSeen x == 2
  let s := s.each healed fun u x => u.setFld Reg.SAFE_SIPAIR ⟨16 + x, 1⟩ 0
  let s := s.setNat Reg.SAFE_DEMAND ((s.reg Reg.SAFE_DEMAND).toNat &&& s.causeNow)
  let s := ((s.setReg Reg.SAFE_FLAGS 0).raise .safe 15).presence
  if s.cdRun && s.dev == stSAFE && s.causesClear then s.enterDiag.rmFollow else s.rmFollow

/-- RESET_RELEASE (R336, R337, R325, R80): the release edge of a press. -/
def execResetRelease (s : State) : Res :=
  onlyIf s.rmRun s fun s =>
    match s.rm.pressAt with
    | none => s.updRm fun r => { r with relAt := some (r.relAt.getD s.now) }
    | some t =>
      let dur := (s.now - t) / ms 1
      let was := s.rstState
      let s := (s.updRm fun r => { r with pressAt := none, relAt := some s.now }).setFld Reg.SAFE_RST Fld.SAFE_RST_PRESS (min dur 65535)
      if was != 2 then s
      else if !s.since t (ms 100) then (s.setRst 0).raise .safe 12
      else if s.since t (secs 3 + 1) || s.bit Reg.SAFE_STAT Fld.SAFE_STAT_LATCH_VB || s.bit Reg.THM_STAT Fld.THM_STAT_LATCHED then
        (s.setRst 3).raise .safe 12
      else (s.setRst 0).resetEdge

/-- RESET_DISCREPANCY (R335): the channels disagree for more than 20 ms. -/
def execResetDiscrepancy (s : State) : Res :=
  onlyIf s.rmRun s fun s =>
    ((s.updRm fun r => { r with pressAt := some (r.pressAt.getD s.now), relAt := none }).setRst 3).raise .safe 12

/-- RESET_STUCK (R336): pressed for 30 s. -/
def execResetStuck (s : State) : Res :=
  onlyIf (s.rmRun && s.rstState != 4 && s.rm.pressAt.any fun t => s.since t (secs 30)) s fun s =>
    (((s.updRm fun r => { r with relAt := none }).setRst 4).raise .safe 13).logSafety 0x20 0 0

/-! ### The parameter set (R338, R339, R73, R81) -/

/-- The 64 words of a parameter set. -/
def parWords (l : List Word) : List Word := (List.range 64).map fun w => l.getD w 0

/-- The check value of a parameter set (R338). -/
def checkValue (l : List Word) : Nat := crc32c ((parWords l).flatMap fun w => leBytes 4 w.toNat)

/-- Ringmaster arms on a matching check value, and marks its trial copy good (R70, R73). -/
def State.rmArm (s : State) : State :=
  ((s.setBit Reg.SAFE_STAT Fld.SAFE_STAT_CHK_OK true).updRm fun r => { r with armed := true }).markGood 0

/-- A parameter set is in force: shown, its check value computed, and Ringmaster arms where it equals the confirmed one (R73, R338). -/
def State.loadPars (s : State) (l : List Word) : State :=
  let s := s.each (List.range 64) fun u w => u.setReg (Reg.SAFE_PAR w) (l.getD w 0)
  let chk := checkValue l
  let s := (s.setNat Reg.SAFE_CHK_CALC chk).updRm fun r => { r with delivered := true, armed := false }
  if s.store.conf = some chk then s.rmArm else s.setBit Reg.SAFE_STAT Fld.SAFE_STAT_CHK_OK false

/-- Every loop triplet runs its image (R72). -/
def State.allRun (s : State) : Bool := (List.range 4).all fun t => (s.trip t).runs

/-- The configuration image of this CONFIG is applied, or corrected in place (R72). -/
def State.imageIn (s : State) : Bool := s.rm.image == 1 || s.rm.image == 3

/-- The cause that CONFIG shows while it holds (R71–R73): 0x03 stays until every loop triplet runs and the configuration is in, then 0x04
until Ringmaster is armed; the code of a hold goes when the hold ends. -/
def State.holdCause (s : State) : State :=
  let old := s.fld Reg.GLB_DEVSTATE Fld.GLB_DEVSTATE_CAUSE
  if s.dev = stCONFIG then
    s.setFld Reg.GLB_DEVSTATE Fld.GLB_DEVSTATE_CAUSE
      (if old == 3 && !(s.allRun && s.imageIn) then 3
       else if s.imageIn && !s.rm.armed then 4
       else if old == 3 || old == 4 then 0 else old)
  else s

/-- The parameter set of the active image is delivered to Ringmaster (R338, R73, R81). -/
def State.deliverPars (s : State) (l : List Word) : State :=
  let s := ((s.updStore fun p => { p with pars := parWords l }).loadPars l).holdCause.rmFollow
  if Nat.blt s.safeLimit s.store.safeAt.length then s.lockoutEntry 0x11 else s

/-! ### Requests of the mailboxes (R419) -/

/-- Ringmaster acknowledges the notice of a request, where one is presented on the channel. -/
def State.rmAck (s : State) (c req code : Nat) : State :=
  let n := s.dir c false
  if n.valid && n.tag / 65536 == req && s.endpoint c true == 6 then s.endNotice c false code n.repoch 0 false else s

/-- CHK_ENTRY (R339, R341, R419). -/
def execChkEntry (c : Chan) (entry : Word) (s : State) : Res :=
  let c := c.val
  onlyIf (s.cdRun && s.rmRun) s fun s =>
    if c != 8 && c != 9 then s.rmAck c 1 5
    else if !s.commissioning then s.rmAck c 1 3
    else if s.rm.armed then s.rmAck c 1 2
    else if s.rm.delivered && entry == s.reg Reg.SAFE_CHK_CALC then
      let s := (s.updStore fun p => { p with conf := some entry.toNat }).setReg Reg.SAFE_CHK_CONF entry
      ((s.logSafety 0x21 entry.toNat s.sessionKey).rmArm.holdCause.rmFollow).rmAck c 1 0
    else ((s.raise .safe 14).logSafety 0x22 entry.toNat s.sessionKey).rmAck c 1 1

/-- HOLD_LINES (R419). -/
def execHoldLines (c : Chan) (mask : Word) (s : State) : Res :=
  let c := c.val
  onlyIf (s.cdRun && s.rmRun) s fun s =>
    if Nat.blt c 9 || Nat.blt 13 c then s.rmAck c 2 5
    else
      let m := mask.toNat % 2 ^ 24
      ((s.updRm fun r => { r with holds := r.holds ++ [(c, m)] }).linesOff m).rmAck c 2 0

/-- SO_OFF (R419). -/
def execSoOff (c : Chan) (mask : Word) (s : State) : Res :=
  let c := c.val
  onlyIf (s.cdRun && s.rmRun) s fun s =>
    if c != 9 then s.rmAck c 3 5
    else
      let m := mask.toNat % 256
      ((s.updRm fun r => { r with soOffs := r.soOffs ++ [(c, m)] }).outputsOff m).rmAck c 3 0

/-- SAFE_REQUEST (R319, R419): cause 0x0E with SAFE_DEMAND bit 27. -/
def execSafeRequest (c : Chan) (s : State) : Res :=
  let c := c.val
  onlyIf (s.cdRun && s.rmRun) s fun s =>
    if Nat.blt c 8 || Nat.blt 13 c then s.rmAck c 4 5
    else ((s.packageSafe 0x0E dmCD).causeGone dmCD).rmAck c 4 0

/-- END_HOLD (R419): lines and outputs return only under R324 and R333. -/
def execEndHold (c : Chan) (s : State) : Res :=
  let c := c.val
  onlyIf (s.cdRun && s.rmRun) s fun s =>
    if Nat.blt c 9 || Nat.blt 13 c then s.rmAck c 5 5
    else
      let s := s.updRm fun r => { r with holds := r.holds.filter fun p => p.1 != c, soOffs := r.soOffs.filter fun p => p.1 != c }
      s.rmEvaluate.rmAck c 5 0

/-- SAFE_ENTRY_EXPIRY (R81): the oldest counted SAFE entry leaves the 24 h window of VAUX_B-present time. -/
def execSafeEntryExpiry (s : State) : Res :=
  match s.store.safeAt with
  | t :: rest => onlyIf (s.rmRun && Nat.ble (t + secs 86400) s.rm.vbTicks) s fun s =>
      (s.updStore fun p => { p with safeAt := rest }).showSafeCnt
  | [] => .next s

end Sys2Proof.Machine
end

