-- ==== Sys2Proof/Machine/Ethernet.lean ====
section
/-!
DEFINITION. Ethernet ports, PTP and the paired-network safety transport (R344–R359).
-/

namespace Sys2Proof.Machine

/-! ### Networks lost and restored (R355) -/

/-- LOST0 or LOST1. -/
def lostBit (y : Nat) : Field := if y = 0 then Fld.ETH_SNL_STAT_LOST0 else Fld.ETH_SNL_STAT_LOST1
/-- A safety network is declared lost. -/
def State.netLost (s : State) (y : Nat) : Bool := s.bit Reg.ETH_SNL_STAT (lostBit y)

/-- Network y is declared lost: flag and recorder entry, where it was not. -/
def State.declareLost (s : State) (y : Nat) : State :=
  let s := s.updSnl fun x => { x with good := x.good.set y 0 }
  if s.netLost y then s
  else
    let s := (s.setBit Reg.ETH_SNL_STAT (lostBit y) true).setBit (Reg.ETH_P_STAT y) Fld.ETH_P_STAT_LOST true
    (s.raise .snl 7).record Reg.ETH_SNL_FLAGS 0x80 [y]

/-- Network y is restored. -/
def State.restoreNet (s : State) (y : Nat) : State :=
  let s := (s.setBit Reg.ETH_SNL_STAT (lostBit y) false).setBit (Reg.ETH_P_STAT y) Fld.ETH_P_STAT_LOST false
  let s := s.updSnl fun x => { x with good := x.good.set y 0, miss := x.miss.set y 0 }
  (s.raise .snl 8).record Reg.ETH_SNL_FLAGS 0x100 [y]

/-- A port is up (R346). -/
def State.portIsUp (s : State) (p : Nat) : Bool :=
  s.bit (Reg.ETH_P_STAT p) Fld.ETH_P_STAT_LINK && s.bit (Reg.ETH_P_STAT p) Fld.ETH_P_STAT_REFOK && s.bit (Reg.ETH_P_CFG p) Fld.ETH_P_CFG_EN

/-! ### PTP (R348) -/

/-- The PTP conditions of the age test (R354). -/
def State.showAgeOk (s : State) : State :=
  let late := s.snl.hoAt.any fun t => s.since t (secs 60 + 1)
  s.setBit Reg.ETH_SNL_STAT Fld.ETH_SNL_STAT_AGEOK (s.bit Reg.ETH_PTP_STAT Fld.ETH_PTP_STAT_EVER_LOCKED && !late)

/-- ETH_PTP_STAT bit 0, master on at least one port (R359): no rule says when the stack takes that role, so it is a free value. -/
def State.ptpMaster (s : State) : State := s.drawn 1 fun v s => s.setFld Reg.ETH_PTP_STAT ⟨0, 1⟩ v

/-- PTP_STEP (R348): the servo steps PTP time by nanoseconds and leaves an addend, in 2^-32 ns per tick. -/
def execPtpStep (delta : Int) (add : Nat) (s : State) : Res :=
  onlyIf (s.cdRun && (s.trip 4).runs) s fun s =>
    ({ s with ptp := ((s.ptp : Int) + delta * 2 ^ 32).toNat, ptpAdd := add }).raise .ptp 2

/-- PTP_LOCK (R348): LOCKED after 16 Sync intervals within 1 µs, with the addend that the servo has reached; holdover ends. -/
def execPtpLock (add : Nat) (s : State) : Res :=
  onlyIf (s.cdRun && (s.trip 4).runs && !s.bit Reg.ETH_PTP_STAT Fld.ETH_PTP_STAT_LOCKED) s fun s =>
    let s := { s with ptpAdd := add }
    let s := (s.setBit Reg.ETH_PTP_STAT Fld.ETH_PTP_STAT_LOCKED true).setBit Reg.ETH_PTP_STAT Fld.ETH_PTP_STAT_EVER_LOCKED true
    let s := (s.setBit Reg.ETH_PTP_STAT Fld.ETH_PTP_STAT_HOLDOVER false).ptpMaster
    let s := (s.setFld Reg.CLK_STAT ⟨8, 1⟩ 1).updSnl fun x => { x with hoAt := none }
    s.showAgeOk.raise .ptp 0

/-- PTP enters holdover (R12, R348). -/
def State.enterHoldover (s : State) : State :=
  if s.bit Reg.ETH_PTP_STAT Fld.ETH_PTP_STAT_HOLDOVER then s
  else
    let s := (s.setBit Reg.ETH_PTP_STAT Fld.ETH_PTP_STAT_HOLDOVER true).setBit Reg.ETH_PTP_STAT Fld.ETH_PTP_STAT_LOCKED false
    let s := (s.setFld Reg.ETH_PTP_STAT Fld.ETH_PTP_STAT_HO_TIME 0).ptpMaster
    let s := (s.setFld Reg.CLK_STAT ⟨8, 1⟩ 0).updSnl fun x => { x with hoAt := some s.now }
    (s.showAgeOk.raise .ptp 1).raise .clk 8

/-- PTP_HOLDOVER (R348). -/
def execPtpHoldover (s : State) : Res := onlyIf s.cdRun s State.enterHoldover

/-- AGE_TEST_HOLDOVER_LIMIT (R354): more than 60 s of holdover. -/
def execAgeTestHoldoverLimit (s : State) : Res :=
  onlyIf (s.cdRun && s.snl.hoAt.any fun t => s.since t (secs 60)) s fun s =>
    (s.setFld Reg.ETH_PTP_STAT Fld.ETH_PTP_STAT_HO_TIME (max (s.fld Reg.ETH_PTP_STAT Fld.ETH_PTP_STAT_HO_TIME) 60)).setBit
      Reg.ETH_SNL_STAT Fld.ETH_SNL_STAT_AGEOK false

/-! ### Safety PDUs (R350–R352) -/

/-- A 48-bit address in two registers. -/
def State.macAddr (s : State) (lo hi : Nat) : Nat := (s.reg lo).toNat + 2 ^ 32 * ((s.reg hi).toNat % 65536)

/-- The MAC of port p passes a received frame to Ringmaster (R345, R349): the safety VID, the EtherType, the addresses. -/
def State.safetyMatch (s : State) (p : Nat) (f : SafetyPdu) : Bool :=
  f.vid == some (s.fld Reg.ETH_SNL_CFG Fld.ETH_SNL_CFG_VID) && f.etype == s.fld Reg.ETH_SNL_CFG Fld.ETH_SNL_CFG_ETYPE &&
    f.dst == s.macAddr (Reg.ETH_P_MAC_LO p) (Reg.ETH_P_MAC_HI p) && f.src == s.macAddr Reg.ETH_SNL_PEER_LO Reg.ETH_SNL_PEER_HI

/-- A field of `n` bytes of a PDU, most significant first. -/
def pduField (b : List Byte) (off n : Nat) : Nat := beNat ((b.drop off).take n)
/-- SEQ of a PDU. -/
def pduSeq (b : List Byte) : Nat := pduField b 8 4
/-- CODE of a PDU is correct (R350). -/
def pduCode (b : List Byte) : Bool := crc32c (b.take 0x24) == pduField b 0x24 4
/-- The other checks of R352 hold. -/
def State.pduFmt (s : State) (b : List Byte) : Bool :=
  pduField b 0 1 == 1 && pduField b 1 1 == 1 && pduField b 2 2 == 0 && pduField b 4 4 == (s.reg Reg.ETH_SNL_RXCID).toNat &&
    pduSeq b != 0 && !bitOf (pduField b 0x10 4) 30 && Nat.ble (pduField b 0x14 1) 1 && pduField b 0x15 15 == 0 && b.length == 42

/-! ### Acceptance (R354, R328) -/

/-- SAFE_DEMAND bit 19: network loss. -/
def dmNET : Nat := 2 ^ 19
/-- SNL_EN and NET_WD in ms (R343). -/
def State.snlEn (s : State) : Bool := bitOf (s.reg (Reg.SAFE_PAR 18)).toNat 31
/-- NET_WD. -/
def State.netWd (s : State) : Nat := (s.reg (Reg.SAFE_PAR 18)).toNat % 1024

/-- SAFE_NET bits 15:0: ms since the last accepted frame. -/
def Fld.SAFE_NET_MS : Field := ⟨0, 16⟩

/-- The watchdog restarts where it runs or has expired (R328). -/
def State.restartWd (s : State) : State :=
  let s := (s.updRm fun r => { r with netAt := s.now }).setFld Reg.SAFE_NET Fld.SAFE_NET_MS 0
  if s.snlEn && (s.bit Reg.SAFE_NET Fld.SAFE_NET_RUNNING || s.bit Reg.SAFE_NET Fld.SAFE_NET_EXPIRED) then
    (s.setBit Reg.SAFE_NET Fld.SAFE_NET_RUNNING true).setBit Reg.SAFE_NET Fld.SAFE_NET_EXPIRED false
  else s

/-- The age of a copy in ns (R354): its ingress stamp minus TS, seconds modulo 2^32. -/
def copyAge (c : HeldCopy) : Int :=
  signed 32 (c.sec + 2 ^ 32 - pduField c.bytes 0xC 4) * 10 ^ 9 + (c.ns : Int) - (pduField c.bytes 0x10 4 % 2 ^ 30 : Nat)

/-- A candidate is accepted or discarded (R354); while both networks are lost nothing is accepted (R355). Against an expiry in the same
decision it neither restarts the watchdog nor sets the baseline (R358). -/
def State.candidate (s : State) (c : HeldCopy) : State :=
  let seq := pduSeq c.bytes
  let d := (seq + 2 ^ 32 - (s.reg Reg.ETH_SNL_LASTSEQ).toNat) % 2 ^ 32
  let age := copyAge c
  if (s.netLost 0 && s.netLost 1) || s.rm.netExpAt == some s.now then s
  else if s.bit Reg.ETH_SNL_STAT Fld.ETH_SNL_STAT_BASE && !(Nat.ble 1 d && Nat.blt d (2 ^ 31)) then s.raise .snl 5
  else if !s.showAgeOk.bit Reg.ETH_SNL_STAT Fld.ETH_SNL_STAT_AGEOK then s.showAgeOk.raise .snl 9
  else if age < -1000000 ∨ (s.netWd : Int) * 1000000 < age then s.raise .snl 6
  else
    let permit := pduField c.bytes 0x14 1 == 1
    let s := (s.setNat Reg.ETH_SNL_LASTSEQ seq).setNat Reg.ETH_SNL_AGE (unsigned 32 (satI 32 (age / 1000)))
    let s := (s.setBit Reg.ETH_SNL_STAT Fld.ETH_SNL_STAT_BASE true).setBit Reg.ETH_SNL_STAT Fld.ETH_SNL_STAT_PERMIT permit
    let s := s.restartWd
    if permit then s.causeGone dmNET
    else
      let s := s.raise .snl 0
      if s.snlEn then (s.raise .safe 5).packageSafe 0x0D dmNET else s

/-! ### Pairing (R353, R355) -/

/-- A valid copy on network z counts: paired, or in ascending order while the other network is lost too (R355). -/
def State.goodCopy (s : State) (z seq : Nat) (paired : Bool) : State :=
  let ok := if s.netLost (1 - z) then Nat.blt (s.snl.seqOn.getD z 0) seq else paired
  let s := s.updSnl fun x =>
    { x with miss := if paired then x.miss.set z 0 else x.miss, seqOn := x.seqOn.set z seq,
             good := x.good.set z (if ok then x.good.getD z 0 + 1 else if s.netLost (1 - z) then 0 else x.good.getD z 0) }
  if s.netLost z && s.portIsUp z && Nat.ble (s.fld Reg.ETH_SNL_TIMING Fld.ETH_SNL_TIMING_RESTORE_N) (s.snl.good.getD z 0) && ok then
    s.restoreNet z
  else s

/-- A miss on network y (R353, R355). -/
def State.missOn (s : State) (y : Nat) : State :=
  let m := s.snl.miss.getD y 0 + 1
  let s := s.updSnl fun x => { x with miss := x.miss.set y m }
  if Nat.ble (s.fld Reg.ETH_SNL_TIMING Fld.ETH_SNL_TIMING_MISS_LIM) m then s.declareLost y else s

/-- A first copy is decided, with its second copy or without: the newest eight are kept for late copies. -/
def State.decide (s : State) (c : HeldCopy) (second : Bool) : State :=
  s.updSnl fun x => { x with held := x.held.filter (· != c), decided := ((c, second) :: x.decided).take 8 }

/-- The held copies whose other network is lost are candidates at once, oldest first (R353). -/
def State.loneHeld (s : State) : State :=
  if s.rmRun then s.each (s.snl.held.filter fun c => s.netLost (1 - c.net)) fun u c => (u.decide c false).candidate c else s

/-- A held first copy is dropped without its second one: a miss on the other network, and a candidate where that loses the network; the other
copies of its network are then candidates after it. -/
def State.unpaired (s : State) (c : HeldCopy) (flag : Bool) : State :=
  let y := 1 - c.net
  let was := s.netLost y
  let s := (s.updSnl fun x => { x with good := x.good.set c.net 0 }).missOn y
  (if !was && s.netLost y && flag then s.candidate c else s.raiseIf flag .snl 3).loneHeld

/-! ### Changes of the ports (R344–R346) -/

/-- A change that may take a port down: each transition to down sets LINKDN, and the network is declared lost (R346, R355). -/
def State.portChange (s : State) (p : Nat) (f : State → State) : State :=
  let up := s.portIsUp p
  let s := f s
  if up && !s.portIsUp p then ((s.raise (.eth p) 0).declareLost p).loneHeld else s

/-- The PCS or SGMII link of a port is down. -/
def State.linkDown (s : State) (p : Nat) : State :=
  s.portChange p fun s => ((s.setBit (Reg.ETH_P_STAT p) Fld.ETH_P_STAT_LINK false).setBit (Reg.ETH_P_STAT p) Fld.ETH_P_STAT_AN_DONE false).setFld
    (Reg.ETH_P_STAT p) ⟨2, 2⟩ 0

/-- PORT_DOWN (R346). -/
def execPortDown (p : Port) (s : State) : Res := onlyIf s.cdRun s fun s => s.linkDown p.val

/-- PORT_UP (R344, R346): the link comes up at the rate of MODE, auto-negotiated in the modes that have it; REFOK shows TD6 or TD7. -/
def execPortUp (p : Port) (s : State) : Res :=
  let p := p.val
  onlyIf s.cdRun s fun s =>
    let slow := s.fld (Reg.ETH_P_CFG p) Fld.ETH_P_CFG_MODE == 2
    let s := (s.setBit (Reg.ETH_P_STAT p) Fld.ETH_P_STAT_LINK true).setBit (Reg.ETH_P_STAT p) Fld.ETH_P_STAT_REFOK (!s.clockOut (6 + p))
    (s.setBit (Reg.ETH_P_STAT p) Fld.ETH_P_STAT_AN_DONE (!slow && s.bit (Reg.ETH_P_CFG p) Fld.ETH_P_CFG_AN_EN)).setFld
      (Reg.ETH_P_STAT p) ⟨2, 2⟩ (if slow then 1 else 2)

/-- ETH_RX_FRAME (R344, R345): size, FCS, room (RXOVF, R359) and VID; a frame that passes goes to MT or, where it matches, to Ringmaster. -/
def execEthRxFrame (p : Port) (f : EthFrame) (s : State) : Res :=
  let p := p.val
  onlyIf (s.cdRun && s.portIsUp p) s fun s =>
    if Nat.blt 1522 f.size then s.raise (.eth p) 3
    else if !f.fcsOk then s.raise (.eth p) 2
    else if !f.room then s.raise (.eth p) 1
    else match f.vid with
      | some v =>
        if v = s.fld (Reg.ETH_P_CFG p) Fld.ETH_P_CFG_VID || v = s.fld Reg.ETH_SNL_CFG Fld.ETH_SNL_CFG_VID then s else s.raise (.eth p) 4
      | none => s

/-! ### Arriving copies (R349–R355) -/

/-- SKEW in ticks. -/
def State.skew (s : State) : Nat := us (10 * s.fld Reg.ETH_SNL_TIMING Fld.ETH_SNL_TIMING_SKEW)

/-- The second copy of a frame: equal in bytes 0x00–0x27 or not. -/
def samePdu (a b : List Byte) : Bool := a.take 0x28 == b.take 0x28

/-- SAFETY_COPY (R349–R355): a copy delivered by a port. DESIGN CHOICE (log 93): a further copy of a frame that is decided, on the network of a copy
that has come, is discarded; safe, as it could only count misses and restoring copies. -/
def execSafetyCopy (p : Port) (f : SafetyPdu) (s : State) : Res :=
  let x := p.val
  onlyIf (s.cdRun && s.rmRun && s.portIsUp x && s.safetyMatch x f) s fun s =>
    let codeOk := pduCode f.bytes
    let fmtOk := s.pduFmt f.bytes
    if !codeOk || !fmtOk then s.raiseMask .snl (4 * b2n (!codeOk) + 2 * b2n (!fmtOk))
    else
      let seq := pduSeq f.bytes
      let c : HeldCopy := ⟨x, f.bytes, f.sec, f.ns, s.now⟩
      let same (h : HeldCopy) : Bool := pduSeq h.bytes == seq
      if s.snl.held.any fun h => same h && h.net == x then s
      else match s.snl.held.find? fun h => same h && h.net != x with
        | some h =>
          let s := s.decide h true
          if samePdu h.bytes c.bytes then (((s.goodCopy h.net seq true).goodCopy x seq true)).candidate h else s.raise .snl 4
        | none =>
          match s.snl.decided.find? fun h => same h.1 with
          | some (h, second) =>
            if second || h.net == x then s
            else
              let s := s.updSnl fun y => { y with decided := y.decided.map fun d => if d.1 == h then (h, true) else d }
              if samePdu h.bytes c.bytes then s.goodCopy x seq true else s.raise .snl 4
          | none =>
            if s.netLost (1 - x) then ((s.goodCopy x seq false).decide c false).candidate c
            else
              let s := match s.snl.held with
                | o :: _ => if Nat.ble 8 s.snl.held.length then (s.decide o false).unpaired o false else s
                | [] => s
              (s.updSnl fun y => { y with held := y.held ++ [c] }).loneHeld

/-- SKEW_EXPIRY (R353): the second copy of the oldest held frame has not come. -/
def execSkewExpiry (s : State) : Res :=
  match s.snl.held with
  | c :: _ => onlyIf (s.cdRun && s.rmRun && s.since c.time s.skew) s fun s => (s.decide c false).unpaired c true
  | [] => .next s

/-- NET_WD_EXPIRY (R328, R357): between 0.96 and 1.00 NET_WD after the last acceptance. -/
def execNetWdExpiry (s : State) : Res :=
  onlyIf (s.cdRun && s.rmRun && s.snlEn && s.bit Reg.SAFE_NET Fld.SAFE_NET_RUNNING && s.since s.rm.netAt (us (960 * s.netWd))) s fun s =>
    let s := (s.setBit Reg.SAFE_NET Fld.SAFE_NET_RUNNING false).setBit Reg.SAFE_NET Fld.SAFE_NET_EXPIRED true
    let s := s.setFld Reg.SAFE_NET Fld.SAFE_NET_MS (min ((s.now - s.rm.netAt) / ms 1) 65535)
    let s := (s.setBit Reg.ETH_SNL_STAT Fld.ETH_SNL_STAT_BASE false).updRm fun r => { r with netExpAt := some s.now }
    (s.raise .safe 5).packageSafe 0x0E dmNET

/-! ### Transmission (R351, R356) -/

/-- DATA of a status frame (R351). -/
def State.statusData (s : State) : List Byte :=
  let b10 := b2n (s.bit Reg.ETH_SNL_STAT Fld.ETH_SNL_STAT_PERMIT) + 2 * b2n (s.netLost 0) + 4 * b2n (s.netLost 1) +
    8 * b2n (s.bit Reg.SAFE_NET Fld.SAFE_NET_EXPIRED)
  leBytes 1 (s.fld Reg.SAFE_STAT Fld.SAFE_STAT_RMSTATE) ++ leBytes 1 s.dev ++ (leBytes 4 (s.reg Reg.SAFE_DEMAND).toNat).reverse ++
    leBytes 1 (s.fld Reg.SAFE_SO Fld.SAFE_SO_ON) ++ leBytes 1 (s.fld Reg.SAFE_SO Fld.SAFE_SO_FAULT) ++
    (leBytes 2 ((s.reg Reg.SAFE_SIPAIR).toNat % 65536)).reverse ++ leBytes 1 b10 ++ leBytes 5 0

/-- The status PDU (R350): its header, TS from local PTP time, DATA, CODE and PAD. -/
def State.statusPdu (s : State) (seq : Nat) (data : List Byte) : List Byte :=
  let be (n v : Nat) : List Byte := (leBytes n v).reverse
  let body := be 1 1 ++ be 1 2 ++ be 2 0 ++ be 4 (s.reg Reg.ETH_SNL_TXCID).toNat ++ be 4 seq ++ be 4 s.ptpSec ++ be 4 s.ptpNsWord ++ data
  body ++ be 4 (crc32c body) ++ be 2 0

/-- The frame of port p that carries a PDU, up to its FCS (R345, R349, R350): PEER, the port's address, the tag, ETYPE. -/
def State.safetyFrame (s : State) (p : Nat) (pdu : List Byte) : List Byte :=
  let be (n v : Nat) : List Byte := (leBytes n v).reverse
  let cfg := Reg.ETH_SNL_CFG
  be 6 (s.macAddr Reg.ETH_SNL_PEER_LO Reg.ETH_SNL_PEER_HI) ++ be 6 (s.macAddr (Reg.ETH_P_MAC_LO p) (Reg.ETH_P_MAC_HI p)) ++ be 2 0x8100 ++
    be 2 (s.fld cfg Fld.ETH_SNL_CFG_PCP * 8192 + s.fld cfg Fld.ETH_SNL_CFG_VID) ++ be 2 (s.fld cfg Fld.ETH_SNL_CFG_ETYPE) ++ pdu

/-- STATUS_FRAME (R356): every TX_PER, or at a change of the content, never within 1 ms; both copies of one PDU go to the ports that are up. -/
def execStatusFrame (s : State) : Res :=
  let data := s.statusData
  let due := match s.snl.txAt with
    | none => true
    | some t => s.since t (ms (s.fld Reg.ETH_SNL_TIMING Fld.ETH_SNL_TIMING_TX_PER)) || (s.since t (ms 1) && data != s.snl.txData)
  onlyIf (s.cdRun && s.rmRun && due) s fun s =>
    let seq := s.snl.txSeq % 0xFFFFFFFF + 1
    let pdu := s.statusPdu seq data
    let out := ((List.range 2).filter s.portIsUp).map fun p => (p, s.safetyFrame p pdu)
    s.updSnl fun x => { x with txSeq := seq, txAt := some s.now, txData := data, txOut := out }

end Sys2Proof.Machine
end

