-- ==== Sys2Proof/Machine/RingCtl.lean ====
section
/-!
DEFINITION. Barker and the rings (R382–R406): enabling and disabling, resets of the host interface, doorbells, capture, interrupt timers.
-/

namespace Sys2Proof.Machine

/-! ### Nominal record rates (R405) -/

/-- Records per second of a selection held in six consecutive registers (R405, R437). -/
def State.rateOf (s : State) (sar0 sar1 modr pmfb erep est : Nat) : Nat :=
  let sar := (s.reg sar0).toNat + 2 ^ 32 * (s.reg sar1).toNat
  let perSar := (bitsOf 64 sar).map fun i => 400000000 / max 1 (s.pairP (i / 16) s.tb false)
  let perMod := (bitsOf 24 (s.reg modr).toNat).map fun i =>
    400000000 / max 1 (s.fld (Reg.MEAS_MOD_CFG i) Fld.MEAS_MOD_CFG_OSR * ((s.reg (Reg.MEAS_MCLK (i / 6))).toNat % 64))
  let pm := 32000 * popcount 8 (s.reg pmfb).toNat
  let perTsw (n : Nat) : Nat := 400000000 * 16 / max 1 (tswOf (s.reg (Reg.EDG_CARRIER n)))
  let reports := (bitsOf 24 (s.reg erep).toNat).map fun n => 4 * perTsw n
  let ests := (bitsOf 24 (s.reg est).toNat).map fun n => (if s.fld (Reg.EDG_ACTPT n) Fld.EDG_ACTPT_SEL = 2 then 2 else 1) * perTsw n
  perSar.foldl (· + ·) 0 + perMod.foldl (· + ·) 0 + pm + reports.foldl (· + ·) 0 + ests.foldl (· + ·) 0

/-- Records per second of the selection of capture ring `c` (R405). -/
def State.capRate (s : State) (c : Nat) : Nat :=
  s.rateOf (Reg.HIF_CAP_SAR0 c) (Reg.HIF_CAP_SAR1 c) (Reg.HIF_CAP_MOD c) (Reg.HIF_CAP_PMFB c) (Reg.HIF_CAP_EREP c) (Reg.HIF_CAP_EST c)

/-- HIF_CAPc_RATE follows the selection, in units of 1,000 records/s (R407). -/
def State.showRates (s : State) : State := s.each (List.range 4) fun u c => u.setNat (Reg.HIF_CAP_RATE c) (u.capRate c / 1000)

/-- The nominal rate of every enabled capture ring and ring `28 + c` stays within 160,000,000 records/s (R405). -/
def State.capFits (s : State) (c : Nat) : Bool :=
  Nat.ble (((List.range 4).filter fun d => d == c || s.ringOn (28 + d)).foldl (fun a d => a + s.capRate d) 0) 160000000

/-! ### Capture blocks (R403) -/

/-- Bytes of a capture block. -/
def State.blkSize (s : State) (r : Nat) : Nat := 4096 * 2 ^ s.fld (Reg.HIF_CAP_CFG (r - 28)) Fld.HIF_CAP_CFG_BLKSZ

/-- A capture block closes with the first records waiting. -/
def State.closeBlock (s : State) (r : Nat) (timeout : Bool) : State :=
  let size := s.blkSize r
  let recs := (s.ring r).block.take (size / 16 - 1)
  let lost := (s.ring r).lost
  let s := s.produce r size false fun i ph =>
    leBytes 4 i ++ leBytes 1 r ++ leBytes 1 0x1F ++ leBytes 2 recs.length ++ leBytes 4 lost ++ leBytes 1 (ph + 2 * b2n timeout)
      ++ leBytes 3 0 ++ recs.flatten ++ List.replicate (size - 16 - 16 * recs.length) 0
  s.updRing r fun x =>
    { x with block := x.block.drop recs.length, blockAt := if Nat.blt recs.length x.block.length then some s.now else none, lost := 0 }

/-- Every full block of a capture ring is written while a block is free. -/
def State.closeFullN : Nat → State → Nat → State
  | 0, s, _ => s
  | n + 1, s, r =>
    if Nat.ble (s.blkSize r / 16 - 1) (s.ring r).block.length && s.room r && s.barker then
      State.closeFullN n (s.closeBlock r false) r
    else s

/-- Every full block of a capture ring is written while a block is free; Barker holds at most 64 KiB, 17 blocks of the smallest size. -/
def State.closeFull (s : State) (r : Nat) : State := s.closeFullN 17 r

/-- CAPTURE_RECORD (R403): a 16-byte record reaches Barker; it is held, or dropped and counted where 64 KiB are held. -/
def execCaptureRecord (r : Ring) (data : List Byte) (s : State) : Res :=
  let r := r.val
  onlyIf (s.cdRun && Nat.ble 28 r && s.ringOn r) s fun s =>
    if Nat.ble 4096 (s.ring r).block.length then (s.updRing r fun x => { x with lost := min (x.lost + 1) 0xFFFFFFFF }).raise .hif 4
    else
      (s.updRing r fun x => { x with block := x.block ++ [(data ++ List.replicate 16 0).take 16],
                                     blockAt := some (x.blockAt.getD s.now) }).closeFull r

/-- CAPTURE_FLUSH (R403): the block closes FLUSH µs after its first record. -/
def execCaptureFlush (r : Ring) (s : State) : Res :=
  let r := r.val
  let due := match (s.ring r).blockAt with
    | some t => s.since t (us (s.fld (Reg.HIF_CAP_CFG (r - 28)) Fld.HIF_CAP_CFG_FLUSH))
    | none => false
  onlyIf (s.cdRun && Nat.ble 28 r && s.ringOn r && due && s.room r && s.barker) s fun s => s.closeBlock r true

/-! ### Interrupt moderation (R399, R456) -/

/-- IRQ_TIMER (R399). -/
def execIrqTimer (r : Ring) (s : State) : Res :=
  let r := r.val
  let w := s.reg (Reg.HIF_RING_IRQ r)
  let t := Fld.HIF_RING_IRQ_TIMER.get w
  let due := match (s.ring r).irqSince with
    | some t0 => s.since t0 (us t)
    | none => false
  onlyIf (s.cdRun && Fld.HIF_RING_IRQ_EN.on w && t != 0 && due) s fun s =>
    (s.message (Fld.HIF_RING_IRQ_VECTOR.get w)).updRing r fun x => { x with irqCount := 0, irqSince := none }

/-- MSI_HOLDOFF_END (R456): 1 µs after the last message on a vector its held message goes out. -/
def execMsiHoldoffEnd (v : Fin 64) (s : State) : Res :=
  let m := s.vec v.val
  onlyIf (s.cdRun && m.waiting && (match m.last with | some t => s.since t (us 1) | none => true)) s fun s => s.message v.val

/-! ### Enabling and disabling (R400, R401) -/

/-- HOSTIDX, the lower half of the doorbell word of a ring; what the upper half holds is ignored (R385). -/
def State.doorbell (s : State) (r : Nat) : Nat := leNat (s.hostBytes (s.reg64 Reg.HIF_DB_BASE_LO Reg.HIF_DB_BASE_HI + 8 * r) 4)

/-- The write-back word of a ring as it stands in host memory: index and epoch (R385). -/
def State.wbWord (s : State) (r : Nat) : Nat × Nat :=
  let b := s.hostBytes (s.reg64 Reg.HIF_WB_BASE_LO Reg.HIF_WB_BASE_HI + 8 * r) 8
  (leNat (b.take 4), leNat (b.drop 4))

/-- A doorbell value is valid (R386). -/
def State.tailOk (s : State) (r v : Nat) : Bool :=
  if Nat.blt r 12 then Nat.ble (idxDiff v (s.doneHead r)) (s.ringN r) else Nat.ble (idxDiff (s.devIdx r) v) (s.ringN r)

/-- TAILERR: the ring stops and keeps the last valid value (R386). -/
def State.tailErr (s : State) (r : Nat) : State := (s.stopRing r).raise .hif 0

/-- The adoption of entries written before a reset (R401 step 2): entries from index `i` on while they carry the PHASE expected. -/
def State.adoptN : Nat → State → Nat → Nat → State
  | 0, s, q, i => s.setNat (Reg.HIF_RING_DEVIDX q) i
  | n + 1, s, q, i =>
    let b := s.hostBytes (s.ringBase q + 64 * (i % s.ringN q)) 12
    if leNat ((b.drop 1).take 1) % 2 = phaseOf i (s.ringN q) then
      let r := leNat ((b.drop 3).take 1) % 12
      State.adoptN n (s.updRing r fun x => { x with adopted := x.adopted ++ [leNat (b.drop 8)] }) q ((i + 1) % 2 ^ 32)
    else s.setNat (Reg.HIF_RING_DEVIDX q) i

/-- What a completion ring does on its enable (R401 step 2); its consumer index comes from the doorbell page, and its write-back word shows
its tail with the present epoch (R385, R399). -/
def State.adoptRing (s : State) (q : Nat) : State :=
  let w := s.wbWord q
  let s := if w.2 = (s.reg Reg.HIF_EPOCH).toNat then s.setNat (Reg.HIF_RING_DEVIDX q) w.1 else s.adoptN (s.ringN q) q w.1
  let p := s.devIdx q
  let s := (s.setNat (Reg.HIF_RING_DONE q) p).writeBack q p
  let h := s.doorbell q
  if s.tailOk q h then s.setNat (Reg.HIF_RING_HOSTIDX q) h else (s.setNat (Reg.HIF_RING_HOSTIDX q) p).tailErr q

/-- The indices of a ring whose descriptors still execute. -/
def State.executing (s : State) (r : Nat) : List Nat :=
  (match (s.ring r).waiting with | some (f, _) => [f.index] | none => []) ++ (s.ring r).inBuf.map fun p => p.1.index

/-- One index of a submission ring on its enable (R401 step 3): an adopted one is passed over, and so is one that had a held completion or
still executes (`past`); every other is flushed. -/
def State.enableOne (s : State) (r i status : Nat) (past : List Nat) : State :=
  if (s.ring r).adopted.contains i then s.markDone r i
  else if past.contains i then s
  else s.flushOne r i status

/-- What a submission ring does on its enable (R401 steps 3 and 4): held completions are written first; a descriptor that still executes has
its reservation again. -/
def State.startRing (s : State) (r : Nat) : State :=
  let w := s.wbWord r
  let status := if w.2 = (s.reg Reg.HIF_EPOCH).toNat then csFLUSH_DISABLE else csFLUSH_RESET
  let h := w.1
  let s := (s.setNat (Reg.HIF_RING_DONE r) h).updRing r fun x => { x with doneSet := [], queue := [] }
  let runs := s.executing r
  let past := runs ++ (s.ring r).held.map (·.1)
  let s := (s.updRing (s.cqOf r) fun x => { x with reserved := x.reserved + runs.length }).setFld (Reg.HIF_RING_STAT r)
    Fld.HIF_RING_STAT_OUT runs.length
  let s := s.drainHeld r
  let t := s.doorbell r
  if !s.tailOk r t then ((s.setNat (Reg.HIF_RING_DEVIDX r) h).setNat (Reg.HIF_RING_HOSTIDX r) h).tailErr r
  else
    let s := (s.setNat (Reg.HIF_RING_DEVIDX r) t).setNat (Reg.HIF_RING_HOSTIDX r) t
    let s := s.each (List.range (idxDiff t h)) fun u j => u.enableOne r ((h + j) % 2 ^ 32) status past
    let s := s.writeBack r (s.doneHead r)
    s.updRing r fun x => { x with adopted := [] }

/-- The steps of R401 for a ring whose enable has been accepted; they wait while Barker may issue no request (R400). -/
def State.enableSteps (s : State) (r : Nat) : State :=
  if s.barker then
    let s := s.setBit (Reg.HIF_RING_STAT r) Fld.HIF_RING_STAT_FLUSHING false
    if Nat.blt r 12 then s.startRing r else if Nat.blt r 24 then s.adoptRing r else s
  else s.raiseIf (!s.bit Reg.HIF_STAT Fld.HIF_STAT_BME) .hif 7

/-- A ring may be enabled (R383, R401, R405, R407). -/
def State.mayEnable (s : State) (r : Nat) : Bool :=
  let l := s.fld (Reg.HIF_RING_CFG r) Fld.HIF_RING_CFG_LOG2N
  Nat.ble (if Nat.blt r 28 then 4 else 2) l && Nat.ble l 12 &&
    (!Nat.blt r 12 || (Nat.blt (s.cqOf r) 24 && s.ringOn (s.cqOf r))) && (Nat.blt r 28 || s.capFits (r - 28))

/-- EN of a ring set. -/
def State.ringEnable (s : State) (r : Nat) : State :=
  if s.ringOn r then s
  else if !s.mayEnable r then s.raise .hif 2
  else
    let s := s.setBit (Reg.HIF_RING_CFG r) Fld.HIF_RING_CFG_EN true
    let s := s.setNat (Reg.HIF_RING_STAT r) (8 + 1)
    (s.updRing r fun x => { x with irqCount := 0, irqSince := none }).enableSteps r

/-- RING_ENABLE (R401). -/
def execRingEnable (r : Ring) (s : State) : Res := onlyIf s.cdRun s fun s => s.ringEnable r.val

/-- EN of a ring cleared (R376, R400): a submission ring lets its executing descriptor finish and flushes the rest. -/
def State.ringDisable (s : State) (r : Nat) : State :=
  if !s.ringOn r then s
  else
    let s := (s.setBit (Reg.HIF_RING_CFG r) Fld.HIF_RING_CFG_EN false).setBit (Reg.HIF_RING_STAT r) Fld.HIF_RING_STAT_ACTIVE false
    if Nat.blt r 12 then
      let s := s.setBit (Reg.HIF_RING_STAT r) Fld.HIF_RING_STAT_FLUSHING true
      let s := match s.boundTo r with
        | some x => (s.updCan x fun c => { c with abortAt := [] }).canReturnAll x toFLUSHED
        | none => s
      if (s.ring r).waiting.isNone && s.bit (Reg.HIF_RING_STAT r) Fld.HIF_RING_STAT_FLUSHING then s.flushDisabled r else s
    else s.setBit (Reg.HIF_RING_STAT r) Fld.HIF_RING_STAT_FLUSHING false

/-- RING_DISABLE (R400). -/
def execRingDisable (r : Ring) (s : State) : Res := onlyIf (s.cdRun && s.ringOn r.val) s fun s => s.ringDisable r.val

/-! ### Resets of the host interface (R382) -/

/-- The HIF registers take their reset values, HIF_EPOCH and the live bits of HIF_STAT apart; every ring is disabled without a flush, and
what executes keeps running (R382). The MSI-X table is masked and the PBA cleared, as PCI Express has it (R451; PRESUMED). -/
def State.hifReset (s : State) : State :=
  let epoch := s.reg Reg.HIF_EPOCH
  let stat := (s.reg Reg.HIF_STAT).toNat % 2 ^ 31
  let s := { s with regs := s.regs.filter fun c => Nat.blt c.1 0x60000 || (Nat.ble 0x61000 c.1 && Nat.blt c.1 0xFE000), barkerSt := { pollAt := s.now } }
  let s := (s.setReg Reg.HIF_EPOCH epoch).setNat Reg.HIF_STAT (stat / 4 * 4 + stat % 2)
  let s := s.each (List.range 64) fun u v => u.updVec v fun m => { m with waiting := false, withheld := false }
  s.each (List.range 32) fun u r =>
    let u := u.updRing r fun x => { waiting := x.waiting, inBuf := x.inBuf, held := x.held, ctags := x.ctags }
    if (u.ring r).held.isEmpty then u else u.setBit (Reg.HIF_RING_STAT r) Fld.HIF_RING_STAT_HELD true

/-- A function level reset: the host party resets (R382, R417) and, its link being up, is up again at once. -/
def State.flr (s : State) : State := (s.hifReset.resetParty 0).partyComes 0

/-- FLR (R382). -/
def execFlr (s : State) : Res := onlyIf s.cdRun s State.flr

/-- The link goes down, by itself or by a hot reset: as an FLR, and a loss of the host link (R214, R382, R417). -/
def State.linkLost (s : State) : State :=
  let s := s.hifReset
  let s := s.setNat Reg.HIF_STAT 0
  (s.resetParty 0).enterFallback 3

/-- HOST_LINK_DOWN (R382). -/
def execHostLinkDown (s : State) : Res := onlyIf (s.cdRun && s.bit Reg.HIF_STAT Fld.HIF_STAT_LINKUP) s State.linkLost

/-! ### Requests of Barker (R386, R387) -/

/-- What waited for room or for Barker goes out: pending enables, held completions, OVERFLOW entries and full capture blocks. -/
def State.barkerGoes (s : State) : State :=
  s.asOne .hif 3 fun s => s.each (List.range 32) fun u r =>
    if !u.barker then u
    else
      let u := if u.ringOn r && u.bit (Reg.HIF_RING_STAT r) Fld.HIF_RING_STAT_FLUSHING then u.enableSteps r else u
      if Nat.blt r 12 then (if (u.ring r).held.isEmpty then u else u.drainHeld r)
      else if Nat.blt r 24 then u
      else if Nat.blt r 28 then u.overflowEntry r
      else if u.ringOn r then u.closeFull r else u

/-- POWER_STATE_CHANGE (R379, R416): in D3hot Barker stops, the rings keep their state and the host is powered down. -/
def execPowerStateChange (d3 : Bool) (s : State) : Res :=
  onlyIf (s.cdRun && s.bit Reg.HIF_STAT Fld.HIF_STAT_D3HOT != d3) s fun s =>
    let s := s.setBit Reg.HIF_STAT Fld.HIF_STAT_D3HOT d3
    if d3 then
      s.each (List.range 16) fun u c =>
        u.each [false, true] fun v d =>
          if v.chanOn c && (v.dir c d).valid && v.endpoint c (!d) == 0 then v.updDir c d fun n => { n with held := true } else v
    else (s.partyComes 0).barkerGoes

/-- BUS_MASTER_ENABLE (R400, R456): Barker issues requests again, and withheld messages go out. -/
def execBusMasterEnable (s : State) : Res :=
  onlyIf (s.cdRun && s.bit Reg.HIF_STAT Fld.HIF_STAT_LINKUP && !s.bit Reg.HIF_STAT Fld.HIF_STAT_BME) s fun s =>
    let s := (s.setBit Reg.HIF_STAT Fld.HIF_STAT_BME true).barkerGoes
    s.each (List.range 64) fun u v =>
      if (u.vec v).withheld then (u.updVec v fun m => { m with withheld := false }).message v else u

/-- Barker starts a read of the doorbell page, or notes that one more is wanted; with bus mastering disabled NOBME is set (R386, R400). -/
def State.pollNow (s : State) : State :=
  if s.barker then
    if s.barkerSt.reading then { s with barkerSt := { s.barkerSt with again := true } }
    else { s with barkerSt := { s.barkerSt with reading := true } }
  else ({ s with barkerSt := { s.barkerSt with pollAt := s.now } }).raiseIf (!s.bit Reg.HIF_STAT Fld.HIF_STAT_BME) .hif 7

/-- NUDGE (R386), whatever value is written. -/
def execNudge (_v : Word) (s : State) : Res := onlyIf s.cdRun s State.pollNow

/-- DOORBELL_POLL (R386). -/
def execDoorbellPoll (s : State) : Res :=
  onlyIf (s.cdRun && s.bit Reg.HIF_CTRL Fld.HIF_CTRL_POLL_EN && !s.barkerSt.reading &&
      s.since s.barkerSt.pollAt (us (s.fld Reg.HIF_CTRL Fld.HIF_CTRL_POLL))) s State.pollNow

/-- A new doorbell value of an enabled ring (R386, R400). -/
def State.newIndex (s : State) (r v : Nat) : State :=
  if !s.tailOk r v then s.tailErr r
  else
    let s := s.setNat (Reg.HIF_RING_HOSTIDX r) v
    if Nat.blt r 12 && s.bit (Reg.HIF_RING_STAT r) Fld.HIF_RING_STAT_STOPPED then
      (s.flushRange r (s.devIdx r) v csFLUSH_STOPPED).setNat (Reg.HIF_RING_DEVIDX r) v
    else s

/-- DOORBELL_READ_DONE (R386): every enabled ring takes its new index; a nudge meanwhile causes one further read. -/
def execDoorbellReadDone (ok : Bool) (s : State) : Res :=
  onlyIf (s.cdRun && s.barkerSt.reading) s fun s =>
    let s := { s with barkerSt := { pollAt := s.now, reading := s.barkerSt.again, again := false } }
    if ok && s.barker then
      (s.each ((List.range 32).filter s.ringOn) fun u r => u.newIndex r (u.doorbell r)).barkerGoes
    else s

/-- How many descriptors a submission ring may fetch now, at most eight (R386, R387). -/
def State.fetchable (s : State) (r : Nat) : Nat :=
  let st := Reg.HIF_RING_STAT r
  if s.barker && s.ringOn r && s.ringOn (s.cqOf r) && !s.bit st Fld.HIF_RING_STAT_STOPPED && !s.bit st Fld.HIF_RING_STAT_FLUSHING then
    min 8 (min (idxDiff (s.hostIdx r) (s.devIdx r)) (min (s.cqFree (s.cqOf r)) (64 - s.fld st Fld.HIF_RING_STAT_OUT)))
  else 0

/-- A fetch of `n` descriptors (R386, R387): their completion entries are reserved, and the turn among the rings of the priority passes on. -/
def State.fetch (s : State) (r n : Nat) (ok : Bool) : State :=
  let h := s.devIdx r
  let got := (List.range n).map fun j =>
    let i := (h + j) % 2 ^ 32
    (⟨i, s.hostBytes (s.ringBase r + 64 * (i % s.ringN r)) 64, ok⟩ : Fetched)
  let s := (s.updRing r fun x => { x with queue := x.queue ++ got }).updRing (s.cqOf r) (fun x => { x with reserved := x.reserved + n })
  let p := s.fld (Reg.HIF_RING_CFG r) Fld.HIF_RING_CFG_PRIO
  let s := { s with barkerSt := { s.barkerSt with served := File.set 11 s.barkerSt.served p r } }
  (s.setNat (Reg.HIF_RING_DEVIDX r) ((h + n) % 2 ^ 32)).setFld (Reg.HIF_RING_STAT r) Fld.HIF_RING_STAT_OUT
    (s.fld (Reg.HIF_RING_STAT r) Fld.HIF_RING_STAT_OUT + n)

/-- No ring of a higher priority can fetch, and none of the same priority stands before ring `r` in the round (R388). -/
def State.firstInLine (s : State) (r : Nat) : Bool :=
  let p (x : Nat) := s.fld (Reg.HIF_RING_CFG x) Fld.HIF_RING_CFG_PRIO
  let turn (x : Nat) := (x + 11 - File.get 11 s.barkerSt.served (p r)) % 12
  (List.range 12).all fun x => s.fetchable x == 0 || Nat.blt (p r) (p x) || (p r == p x && Nat.ble (turn r) (turn x))

end Sys2Proof.Machine
end

