-- ==== Sys2Proof/Machine/Mailbox.lean ====
section
/-!
DEFINITION. The commands of the mailboxes (R408–R420).
-/

namespace Sys2Proof.Machine

/-- A party is an endpoint of an enabled channel; channel 15 has none (R408). -/
def State.isEnd (s : State) (c p : Nat) : Bool :=
  c != 15 && s.chanOn c && (s.endpoint c false == p || s.endpoint c true == p)

/-- Code of a party, in user mode or not, reaches a channel (R409): user-mode code reaches no secure one. -/
def State.reaches (s : State) (c p : Nat) (user : Bool) : Bool := s.isEnd c p && !(user && Nat.ble 8 c && p != 0)

/-- An access that is refused: a triplet receives an error response (R409, R411, R416). -/
def State.refused (s : State) (p : Nat) : State :=
  if Nat.ble 1 p && Nat.ble p 5 then s.updTrip (tripOf p) fun t => { t with respErr := t.respErr + 1 } else s

/-- An access to a channel that its code does not reach: NOTEP (R408, R409). -/
def State.notEnd (s : State) (p : Nat) : State := (s.refused p).raise .mbx 10

/-- A host write to the window of a channel whose other endpoint is down is dropped (R416). -/
def State.pdDrop (s : State) (c : Nat) : State := (s.raise .mbx 6).record (Reg.MBX_CH_STAT c) 64 [c]

/-- The direction in which a party sends on a channel: false is A to B. -/
def State.sends (s : State) (c p : Nat) : Bool := s.endpoint c false != p

/-- Ringmaster acknowledges at once a request that it does not know, or that the channel may not carry (R419). -/
def State.rmScreen (s : State) (c : Nat) (d : Bool) : State :=
  let n := s.dir c d
  let req := n.tag / 65536
  if s.endpoint c (!d) != 6 || !n.valid then s
  else
    let allowed := match req with
      | 1 => c == 8 || c == 9
      | 2 => Nat.ble 9 c && Nat.ble c 13
      | 3 => c == 9
      | 4 => Nat.ble 8 c && Nat.ble c 13
      | _ => Nat.ble 9 c && Nat.ble c 13
    if req = 0 || Nat.blt 5 req || n.tag % 65536 ≠ 0 then s.endNotice c d 4 n.repoch 4 false
    else if !allowed then s.endNotice c d 5 n.repoch 5 false
    else s

/-- A notice is posted by a party (R409, R411, R416). -/
def State.noticePost (s : State) (p : Nat) (user : Bool) (c tag : Nat) : State :=
  if !s.reaches c p user then s.notEnd p
  else
    let d := s.sends c p
    let n := s.dir c d
    if !s.partyUp (s.endpoint c (!d)) then (if p = 0 then s.pdDrop c else s.refused p)
    else if n.busy then (s.refused p).raiseIf (p == 0) .mbx 7
    else (s.post c d (n.ptrLo + 2 ^ 32 * n.ptrHi) tag).rmScreen c d

/-- NOTICE_POST (R411). -/
def execNoticePost (who : Party) (user : Bool) (c : Chan) (tag : Word) (s : State) : Res :=
  onlyIf s.cdRun s fun s => s.noticePost (partyCode who) user c.val tag.toNat

/-- A party stages a word of the pointer of its next notice (R410); the host's write is dropped while the receiver is down (R416). -/
def State.stagePtr (s : State) (p : Nat) (user : Bool) (c : Nat) (high : Bool) (v : Nat) : State :=
  if !s.reaches c p user then s.notEnd p
  else if p = 0 && !s.partyUp (s.endpoint c (!s.sends c p)) then s.pdDrop c
  else s.updDir c (s.sends c p) fun n => if high then { n with ptrHi := v } else { n with ptrLo := v }

/-- The live window of a channel as an endpoint sees it (R410). -/
def State.window (s : State) (p c off : Nat) : Nat :=
  let tx := s.dir c (s.sends c p)
  let rx := s.dir c (!(s.sends c p))
  match off with
  | 0x00 => tx.ptrLo
  | 0x04 => tx.ptrHi
  | 0x0C => 2 ^ 31 * b2n tx.busy + 65536 * tx.seq + tx.code
  | 0x10 => 65536 * tx.ackEpoch + tx.ackCode
  | 0x20 => rx.ptr % 2 ^ 32
  | 0x24 => rx.ptr / 2 ^ 32
  | 0x28 => rx.tag
  | 0x2C => 2 ^ 31 * b2n rx.valid + 2 ^ 30 * b2n rx.read + 2 ^ 29 * b2n rx.withdrawn + 65536 * rx.seq + rx.repoch
  | _ => 0

/-- RX_TAG_READ (R409, R410): the read returns the tag and sets READ. A host read of a channel of which it is no endpoint completes with
Unsupported Request (R409), one with the other endpoint powered down with Completer Abort (R416). -/
def execRxTagRead (who : Party) (user : Bool) (c : Chan) (s : State) : Res :=
  let c := c.val
  let p := partyCode who
  let answer (s : State) (r : ReadCpl) : State := if p = 0 then s.completes r else s
  onlyIf s.cdRun s fun s =>
    if !s.reaches c p user then answer (s.notEnd p) { ur := true }
    else
      let d := !(s.sends c p)
      if p = 0 && !s.partyUp (s.endpoint c d) then answer s { ca := true }
      else
        let s := answer s { data := leBytes 4 (s.window p c 0x28) }
        if (s.dir c d).valid then s.updDir c d fun n => { n with read := true } else s

/-- An acknowledgement by a party (R413). -/
def State.noticeAck (s : State) (p : Nat) (user : Bool) (c v : Nat) : State :=
  if !s.reaches c p user then s.notEnd p
  else
    let d := !(s.sends c p)
    let n := s.dir c d
    let code := v % 65536
    let epoch := v / 65536
    if !n.valid then s.raise .mbx 9
    else if Nat.blt 0x7FFF code then s.raise .mbx 8
    else if epoch ≠ n.repoch then (s.endNotice c d ncSTALE epoch code false).raise .mbx 4
    else s.endNotice c d code epoch code false

/-- NOTICE_ACK (R413). -/
def execNoticeAck (who : Party) (user : Bool) (c : Chan) (v : Word) (s : State) : Res :=
  onlyIf s.cdRun s fun s => s.noticeAck (partyCode who) user c.val v.toNat

/-- Both directions hold a notice CROSS_TO after the later post (R415). -/
def State.crossed (s : State) (c : Nat) : Bool :=
  let a := s.dir c false
  let b := s.dir c true
  s.chanOn c && a.busy && b.busy &&
    s.since (max a.posted b.posted) (us (100 * s.fld (Reg.MBX_CH_TO c) Fld.MBX_CH_TO_CROSS_TO))

/-- A crossing ends both notices (R415). -/
def State.cross (s : State) (c : Nat) : State :=
  let e (u : State) (d : Bool) : State := u.endNotice c d ncCROSSING (u.dir c d).ackEpoch (u.dir c d).ackCode true
  (e (e s false) true).raise .mbx 3

/-- CROSSING_TIMEOUT (R415). -/
def execCrossingTimeout (c : Chan) (s : State) : Res := onlyIf (s.cdRun && s.crossed c.val) s fun s => s.cross c.val

/-- ACK_TIMEOUT (R414); a crossing that is due in the same handshake governs (R428). -/
def execAckTimeout (c : Chan) (dir : Bool) (s : State) : Res :=
  let c := c.val
  let n := s.dir c dir
  onlyIf (s.cdRun && s.chanOn c && n.busy && s.since n.posted (us (100 * s.fld (Reg.MBX_CH_TO c) Fld.MBX_CH_TO_ACK_TO))) s fun s =>
    if s.crossed c then s.cross c else (s.endNotice c dir ncTIMEOUT n.ackEpoch n.ackCode true).raise .mbx 2

/-- PARTY_RESET (R416, R417): the host by a hot reset, a loop triplet or MT by a restart, which leaves it down until it is up again. -/
def execPartyReset (who : Party) (s : State) : Res :=
  onlyIf s.cdRun s fun s =>
    match who with
    | .host => s.linkLost
    | .mt => s.mtRestart
    | .lt i => ((s.updTrip i.val fun t => { t with runs := false }).showLtVer i.val).resetParty (2 + i.val)
    | .ringmaster => s
    | .device => s

/-- PARTY_UP (R416, R417): the notices it holds are presented again; the link of the host, which waits for VIO0 (R68), is up. A loop triplet
runs a verified image alone (R69). -/
def execPartyUp (who : Party) (s : State) : Res :=
  onlyIf s.cdRun s fun s =>
    match who with
    | .host => if !s.vioOk 0 then s else
      let s := (s.setBit Reg.HIF_STAT Fld.HIF_STAT_LINKUP true).setBit Reg.HIF_STAT Fld.HIF_STAT_D3HOT false
      (s.partyComes 0).barkerGoes
    | .mt => (s.updTrip 4 fun t => { t with runs := true }).partyComes 1
    | .lt i =>
      if (s.trip i.val).img != 1 then s
      else ((s.updTrip i.val fun t => { t with runs := true }).showLtVer i.val).partyComes (2 + i.val)
    | .ringmaster => s
    | .device => s

/-- A write of the set-up of channel `c` (R408, R420): its endpoints and enable, or its timeouts. -/
def State.mbxCfg (s : State) (c : Nat) (timeouts : Bool) (v : Word) : State :=
  if Nat.ble 8 c && !timeouts then s
  else if s.locked then
    s.raiseIf (if timeouts then v != s.reg (Reg.MBX_CH_TO c) else v &&& 0x80770000 != s.reg (Reg.MBX_CH_CFG c)) .glb 1
  else if (s.dir c false).busy || (s.dir c true).busy then s.raise .mbx 11
  else if timeouts then
    if Fld.MBX_CH_TO_ACK_TO.get v = 0 || Fld.MBX_CH_TO_CROSS_TO.get v = 0 then s.raise .mbx 11
    else s.setReg (Reg.MBX_CH_TO c) v
  else
    let a := Fld.MBX_CH_CFG_EPA.get v
    let b := Fld.MBX_CH_CFG_EPB.get v
    let x := s.fld (Reg.MBX_CH_TO c) Fld.MBX_CH_TO_CROSS_TO
    if Fld.MBX_CH_CFG_EN.on v && (a == b || a == 6 || b == 6 || x == 0 || Nat.ble (s.fld (Reg.MBX_CH_TO c) Fld.MBX_CH_TO_ACK_TO) x) then
      s.raise .mbx 11
    else s.setReg (Reg.MBX_CH_CFG c) (v &&& 0x80770000)

/-- MBX_CFG_WRITE (R408). -/
def execMbxCfgWrite (c : Chan) (timeouts : Bool) (v : Word) (s : State) : Res :=
  onlyIf s.cdRun s fun s => s.mbxCfg c.val timeouts v

end Sys2Proof.Machine
end

