-- ==== Sys2Proof/Machine/Recorder.lean ====
section
/-!
DEFINITION. The event recorder and the waveform capture (R430–R444): writing the queue into the store, freeze, commands, copies and clears.
-/

namespace Sys2Proof.Machine

/-! ### Entries as bytes (R432, R442) -/

/-- Length of an entry in units of 64 bytes (R432). -/
def entryUnits (e : RecEntry) : Nat := min 9 (1 + (8 * e.pairs.length + 4 * e.detail.length + 63) / 64)

/-- An entry as it stands in the recorder partition (R432). -/
def entryBytes (e : RecEntry) : List Byte :=
  let n := entryUnits e
  let head := leBytes 4 0x56434552 ++ leBytes 1 e.kind ++ leBytes 1 e.profile ++ leBytes 2 n ++ leBytes 8 e.seq ++ leBytes 8 e.tbFine
    ++ leBytes 6 e.ptpSec ++ leBytes 2 0 ++ leBytes 4 e.ptpNs ++ leBytes 4 e.devstate.toNat ++ leBytes 4 e.source ++ leBytes 4 e.bits
    ++ leBytes 4 e.supp ++ leBytes 2 e.tags ++ leBytes 2 e.pairs.length ++ leBytes 4 0
  let payload := (e.pairs.map fun p => leBytes 4 p.1 ++ leBytes 4 p.2.toNat).flatten ++ (e.detail.map (leBytes 4)).flatten
  let body := (payload ++ List.replicate (64 * 8) 0).take (64 * (n - 1))
  head ++ leBytes 4 (crc32c (head ++ body)) ++ body

/-- A clear-log record (R442). -/
def clearBytes (c : ClearRec) : List Byte :=
  let b := leBytes 4 0x47524C43 ++ leBytes 4 c.index ++ leBytes 8 c.first ++ leBytes 8 c.last ++ leBytes 8 c.tbFine ++ leBytes 6 c.ptpSec
    ++ leBytes 2 0 ++ leBytes 4 c.ptpNs ++ leBytes 1 c.key ++ leBytes 3 0 ++ leBytes 12 c.nonce
  b ++ leBytes 4 (crc32c b)

/-! ### Writing the queue (R433, R443) -/

/-- REC_SEQ and REC_OLDEST follow the store (R433). -/
def State.showRec (s : State) : State :=
  match s.recStore.getLast?, s.recStore.head? with
  | some l, some f => (s.setNat64 Reg.REC_SEQ_LO Reg.REC_SEQ_HI l.seq).setNat64 Reg.REC_OLDEST_LO Reg.REC_OLDEST_HI f.seq
  | _, _ => s

/-- The ring of entries cut to the size of its partition, oldest entries first to go (R433). -/
def cutStore : Nat → List RecEntry → List RecEntry
  | 0, l => l
  | n + 1, l => if Nat.blt 1572864 ((l.map entryUnits).foldl (· + ·) 0) then cutStore n (l.drop 1) else l

/-- The oldest queued entry is written, a breach record setting BREACH (R34), or counted as not written where the partition is worn (R443). -/
def State.writeEntry (s : State) (e : RecEntry) (remap : Bool) : State :=
  let s := { s with recQueue := s.recQueue.drop 1 }.setFld Reg.REC_STAT Fld.REC_STAT_DEPTH (s.recQueue.length - 1)
  if s.worn 2 then
    if e.kind = 2 then
      (((s.updProf e.profile fun x => { x with supp := min (x.supp + 1) 0xFFFFFFFF }).incSat (Reg.REC_P_SUPP e.profile)).incSat
        Reg.REC_SUPPTOT).raise .recd 1
    else s.incSat Reg.REC_SYSSUPP
  else
    let s := (({ s with recStore := cutStore 9 (s.recStore ++ [e]) }.showRec).noteWrite 2 (entryUnits e) remap).raise .recd 0
    s.raiseIf (e.kind == 3) .guard 9

/-- RECORDER_ENTRY_WRITE (R433, R439): an entry that failed its read-back twice stands in a spare word. -/
def execRecorderEntryWrite (verified : Bool) (s : State) : Res :=
  match s.recQueue with
  | e :: _ => onlyIf (s.cdRun && !s.bit Reg.REC_STAT Fld.REC_STAT_FROZEN && !s.power.storeHeld) s fun s => (s.writeEntry e (!verified)).breachDue
  | [] => .next s

/-! ### Commands (R439–R441) -/

/-- REC_STAT.CMDRES, and CMDERR where the command was refused. -/
def State.recResult (s : State) (rc : Nat) : State :=
  (s.setFld Reg.REC_STAT Fld.REC_STAT_CMDRES rc).raiseIf (rc != rcDONE && rc != rcPENDING) .recd 8

/-- FREEZE (R439). -/
def State.cmdFreeze (s : State) : State :=
  if s.bit Reg.REC_STAT Fld.REC_STAT_FROZEN then s.recResult rcSTATE
  else
    let s := { s with recst := { s.recst with frozenAt := s.now } }
    (s.setBit Reg.REC_STAT Fld.REC_STAT_FROZEN true).recResult rcDONE

/-- FREEZE. -/
def execFreeze (s : State) : Res := onlyIf s.cdRun s State.cmdFreeze

/-- UNFREEZE (R439). -/
def State.cmdUnfreeze (s : State) : State :=
  if s.bit Reg.REC_STAT Fld.REC_STAT_FROZEN then (s.endFreeze false).recResult rcDONE else s.recResult rcSTATE

/-- UNFREEZE. -/
def execUnfreeze (s : State) : Res := onlyIf s.cdRun s State.cmdUnfreeze

/-- FREEZE_TIMEOUT (R439). -/
def execFreezeTimeout (s : State) : Res :=
  onlyIf (s.cdRun && s.bit Reg.REC_STAT Fld.REC_STAT_FROZEN &&
      s.since s.recst.frozenAt (secs (s.fld Reg.REC_CTRL Fld.REC_CTRL_FREEZE_TO))) s fun s => s.endFreeze true

/-- TRIGGER (R434): COND for a profile that is not enabled with the command source. -/
def State.cmdTrigger (s : State) (p : Nat) : State :=
  let cfg := s.reg (Reg.REC_P_CFG p)
  if Fld.REC_P_CFG_EN.on cfg && Fld.REC_P_CFG_SRC.get cfg == 3 then (s.triggerProfile p Reg.REC_CMD 0).recResult rcDONE else s.recResult rcCOND

/-- TRIGGER. -/
def execTrigger (p : Fin 32) (s : State) : Res := onlyIf s.cdRun s fun s => s.cmdTrigger p.val

/-- Two spans of DRAM share a byte. -/
def overlaps (a n b m : Nat) : Bool := n != 0 && m != 0 && Nat.blt a (b + m) && Nat.blt b (a + n)

/-- The rate of the waveform selection in records/s (R437). -/
def State.waveRate (s : State) : Nat :=
  s.rateOf Reg.REC_CAP_SAR0 Reg.REC_CAP_SAR1 Reg.REC_CAP_MOD Reg.REC_CAP_PMFB Reg.REC_CAP_EREP Reg.REC_CAP_EST

/-- REC_CAP_RATE follows the selection. -/
def State.showWaveRate (s : State) : State := s.setNat Reg.REC_CAP_RATE (s.waveRate / 1000)

/-- The conditions of REARM (R437). -/
def State.waveFits (s : State) : Bool :=
  let size := s.waveSize
  let base := s.waveBase
  let w := s.reg Reg.REC_CAP_WIN
  let win := Fld.REC_CAP_WIN_PRE.get w + Fld.REC_CAP_WIN_POST.get w
  Nat.ble s.waveRate 160000000 && Nat.ble (win * s.waveRate * 16) (size * 1000) && Nat.ble (base + size) (2 ^ 29) &&
    !overlaps base size ((s.reg Reg.HIF_SHM_BASE).toNat / 4096 * 4096) ((s.reg Reg.HIF_SHM_SIZE).toNat / 4096 * 4096) &&
    (List.range 6).all fun x =>
      !s.bit (Reg.CAN_CTRL x) Fld.CAN_CTRL_RXR_EN ||
        !overlaps base size (16 * s.fld (Reg.CAN_RXR_BASE x) Fld.CAN_RXR_BASE_DRAM)
          (80 * 2 ^ s.fld (Reg.CAN_RXR_CFG x) Fld.CAN_RXR_CFG_LOG2N)

/-- REARM (R437, R438). -/
def State.cmdRearm (s : State) : State :=
  let c := s.fld Reg.REC_STAT Fld.REC_STAT_CAPSTATE
  let s := s.showWaveRate
  if c = capARMED || c = capPOST then s.recResult rcSTATE
  else if !s.waveFits then s.recResult rcCOND
  else
    let s := { s with recst := { s.recst with armedAt := s.now, wrPos := 0, wrapped := false, trigSeen := false } }
    (s.setFld Reg.REC_STAT Fld.REC_STAT_CAPSTATE capARMED).recResult rcDONE

/-- REARM. -/
def execRearm (s : State) : Res := onlyIf s.cdRun s State.cmdRearm

/-- CAPTURE_POST_END (R438): POST ms after the trigger the window is closed and described. -/
def execCapturePostEnd (s : State) : Res :=
  onlyIf (s.cdRun && s.fld Reg.REC_STAT Fld.REC_STAT_CAPSTATE == capPOST &&
      s.since s.recst.trigAt (ms (s.fld Reg.REC_CAP_WIN Fld.REC_CAP_WIN_POST))) s fun s =>
    let b := s.waveBase
    let e := b + s.recst.wrPos
    let s := s.setFld Reg.REC_STAT Fld.REC_STAT_CAPSTATE capDONE
    let s := (s.setNat Reg.REC_CAP_FIRST (if s.recst.wrapped then e else b)).setNat Reg.REC_CAP_END e
    let s := if s.recst.trigSeen then s else s.setNat Reg.REC_CAP_TRIG e
    (s.setNat Reg.REC_CAP_PREACT
      (min ((s.recst.trigAt - s.recst.armedAt) / 400) (1000 * s.fld Reg.REC_CAP_WIN Fld.REC_CAP_WIN_PRE))).raise .recd 2

/-- COPY (R440): the newest entry of the log at its start bounds the copy; its result is pending until it ends. -/
def State.cmdCopy (s : State) : State :=
  let log := (s.reg Reg.REC_RD_LOG).toNat % 4
  if s.recst.copying.isSome then s.recResult rcBUSY
  else if log = 3 then s.recResult rcCOND
  else
    let newest := if log = 0 then (match s.recStore.getLast? with | some e => e.seq | none => 0)
      else if log = 1 then s.safetyLog.length else s.clearLog.length
    { s with recst := { s.recst with copying := some newest } }.recResult rcPENDING

/-- COPY. -/
def execCopy (s : State) : Res := onlyIf s.cdRun s State.cmdCopy

/-- Whole entries from the front of a list while they fit into `n` units: their bytes, the units used and the last number. -/
def takeUnits : Nat → List (Nat × List Byte) → List Byte → Nat → Nat → List Byte × Nat × Nat
  | _, [], acc, used, last => (acc, used, last)
  | n, (k, b) :: rest, acc, used, last =>
    if Nat.ble (b.length / 64) n then takeUnits (n - b.length / 64) rest (acc ++ b) (used + b.length / 64) k else (acc, used, last)

/-- `n` free bytes: what the manual gives no format for. -/
def State.freeBytesN : Nat → State → List Byte → State × List Byte
  | 0, s, acc => (s, acc)
  | n + 1, s, acc => State.freeBytesN n { s with draws := s.draws + 1 } (acc ++ [BitVec.ofNat 8 (Config.freeValue s.draws)])

/-- The entries of a log with their numbers, from `first` up to `newest`. An entry of the safety log has no stated format: one unit of free
bytes. -/
def State.logEntries (s : State) (log first newest : Nat) : State × List (Nat × List Byte) :=
  if log = 0 then
    (s, (s.recStore.filter fun e => Nat.ble first e.seq && Nat.ble e.seq newest).map fun e => (e.seq, entryBytes e))
  else if log = 1 then
    ((List.range newest).filter (Nat.ble first)).foldl
      (fun (p : State × List (Nat × List Byte)) i => let q := p.1.freeBytesN 64 []; (q.1, p.2 ++ [(i, q.2)])) (s, [])
  else (s, ((s.clearLog.take newest).filter fun c => Nat.ble first c.index).map fun c => (c.index, clearBytes c))

/-- COPY_DONE (R440). -/
def execCopyDone (s : State) : Res :=
  match s.recst.copying with
  | some newest =>
    onlyIf s.cdRun s fun s =>
      let first := s.reg64 Reg.REC_RD_FIRST_LO Reg.REC_RD_FIRST_HI
      let p := s.logEntries ((s.reg Reg.REC_RD_LOG).toNat % 4) first newest
      let s := p.1
      let r := takeUnits ((s.reg Reg.REC_RD_MAX).toNat % 65536) p.2 [] 0 0
      let a := 64 * s.fld Reg.REC_RD_BUF Fld.REC_RD_BUF_DRAM
      let s := s.putDram a (r.1.take (2 ^ 29 - a))
      let s := (s.setNat Reg.REC_RD_RES r.2.1).setNat64 Reg.REC_RD_LAST_LO Reg.REC_RD_LAST_HI r.2.2
      { s with recst := { s.recst with copying := none } }.recResult rcDONE
  | none => .next s

/-- CLEAR (R441): once per authorisation, within 300 s of its nonce. `written` tells whether the clear-log record could be written and
verified. -/
def State.cmdClear (s : State) (written : Bool) : State :=
  match s.recst.clearAuth with
  | none => s.recResult rcCOND
  | some (t, key, nonce) =>
    if s.since t (secs 300 + 1) then { s with recst := { s.recst with clearAuth := none } }.recResult rcCOND
    else if s.bit Reg.REC_STAT Fld.REC_STAT_FROZEN then s.recResult rcSTATE
    else if Nat.ble 16384 s.clearLog.length then (s.raise .recd 7).recResult rcCOND
    else
      let s := { s with recst := { s.recst with clearAuth := none } }
      if !written || s.worn 4 || s.worn 2 then s.recResult rcCOND
      else
        let all := s.recStore ++ s.recQueue
        let first := match all.head? with | some e => e.seq | none => s.recst.issued + 1
        let idx := s.clearLog.length
        let rec' : ClearRec := { index := idx, first, last := s.recst.issued, tbFine := s.tbFine, ptpSec := s.ptpSec, ptpNs := s.ptpNsWord,
                                 key, nonce := nonce % 2 ^ 96 }
        let s := { s with clearLog := s.clearLog ++ [rec'], recStore := [], recQueue := [] }.noteWrite 4 1 false
        let s := (s.setFld Reg.REC_STAT Fld.REC_STAT_DEPTH 0).setNat64 Reg.REC_OLDEST_LO Reg.REC_OLDEST_HI (s.recst.issued + 1)
        ((s.raise .recd 6).record Reg.REC_FLAGS 64 [idx]).recResult rcDONE

/-- CLEAR. -/
def execClear (written : Bool) (s : State) : Res := onlyIf s.cdRun s fun s => s.cmdClear written

end Sys2Proof.Machine
end

