-- ==== Sys2Proof/Machine/Effects.lean ====
section
/-!
DEFINITION. What a changed configuration register brings with it, whether a direct write or a landing changed it (R424): each rule is that of
the register's own chapter.
-/

namespace Sys2Proof.Machine

/-- SYS_EN has changed (R169, R180): the module listens on the sync bus, or stands alone, which reads as locked (R117). -/
def State.sysEnable (s : State) : State :=
  if s.bit Reg.CLU_SYS_CFG Fld.CLU_SYS_CFG_SYS_EN then
    let s := (s.setRole (if s.sys.fenced then roFENCED else roLISTEN)).setFld Reg.CLU_SYS_STAT Fld.CLU_SYS_STAT_MODID s.modid
    (s.setAlign 0).updSys fun y =>
      { y with join := !y.fenced, appeared := false, heard := false, silent := 0, missed := 0, waiting := false, waited := 0, quiet := 0, rejoin := none,
               joins := [], dead := [] }
  else ((s.setRole 0).setAlign 2).setFld Reg.EDG_ALIGN_STAT Fld.EDG_ALIGN_STAT_ERR 0

/-- CTRL of slot `n` has changed from `old`: EN cleared stops the slot, set starts it in an enabled cluster (R101); LOOP_EN set starts the inner
loop with its integrator at 0 (R107), and LOOP_ACTIVE follows (R116). -/
def State.edgCtrl (s : State) (n : Nat) (old : Word) : State :=
  let now := s.reg (Reg.EDG_CTRL n)
  let s := if Fld.EDG_CTRL_LOOP_EN.on now && !Fld.EDG_CTRL_LOOP_EN.on old then
      s.updEdge n fun e => { e with integ := 0, clampDir := 0, first := true }
    else s
  let s := s.showLoop n
  if Fld.EDG_CTRL_EN.on old && !Fld.EDG_CTRL_EN.on now && s.switching n then s.orderStop n 0
  else if !Fld.EDG_CTRL_EN.on old && s.mayStart n then s.orderStart n false
  else s

/-- CARRIER of slot `n` has changed from `old` (R90): on a switching cluster the old word stays in use until the first carrier zero of the cluster
after the commit. -/
def State.edgCarrier (s : State) (n : Nat) (old : Word) : State :=
  match s.clusterOf n with
  | none => s
  | some k =>
    if !s.cluSwitching k then s.writeMap k
    else
      let t0 := match (s.edge n).carrierOld with
        | some (w, zc) => if Nat.blt s.tbFine zc then (w, zc) else (w, gridAfter (s.anchor k * 16) (tswOf old) (s.tbFine + 1))
        | none => (old, gridAfter (s.anchor k * 16) (tswOf old) (s.tbFine + 1))
      s.updEdge n fun e => { e with carrierOld := some t0 }

/-- An EDG register of slot `n` has changed; shadow words follow R92. -/
def State.edgChanged (s : State) (n off : Nat) (old : Word) : State :=
  if off = 0 then s.edgCtrl n old
  else if off = 4 then s.edgCarrier n old
  else if off = 0x18 || (Nat.ble 0x84 off && Nat.ble off 0x9C) then s.shadowWrite n false
  else s

/-- A register of region `g` has changed: with a scale and a lower limit below the upper one the region is configured (R179). -/
def State.regionChanged (s : State) (g : Nat) : State :=
  let l := s.reg (Reg.CLU_REG_VLIM g)
  let on := s.fld (Reg.CLU_REG_VCFG g) Fld.CLU_REG_VCFG_SCALE != 0 && Nat.blt (Fld.CLU_REG_VLIM_VMIN.get l) (Fld.CLU_REG_VLIM_VMAX.get l)
  let is := s.fld (Reg.CLU_REG_STAT g) Fld.CLU_REG_STAT_RSTATE
  if on && is == 7 then
    (s.setFld (Reg.CLU_REG_STAT g) Fld.CLU_REG_STAT_RSTATE 0).updRegion g fun r => { r with sampleAt := s.now, lost := false, beyond := false }
  else if !on && is != 7 then s.setFld (Reg.CLU_REG_STAT g) Fld.CLU_REG_STAT_RSTATE 7
  else s

/-- A cluster register of cluster `k` has changed: the interleave map (R155, R182), the effective limit (R187) and the window of the charge
engine (R203) follow; the anchor of a paralleled cluster is TB 0 (R173);
with shedding off every healthy phase is active (R184). -/
def State.cluChanged (s : State) (k off : Nat) : State :=
  let s := if off = 0 && s.sysPar k then s.setNat64 (Reg.CLU_ANCHOR_LO k) (Reg.CLU_ANCHOR_HI k) 0 else s
  if off = 0 || off = 4 || off = 0x100 || off = 0x110 then
    let s := ((s.writeMap k).showIlim k).showBounds k
    if s.keepsAll k then s.admitAll k else s
  else s

/-- The registers shown for the measurement pairs follow their configuration (R242, R246). -/
def State.pairsChanged (s : State) : State := s.each (List.range 4) fun u p => u.showPair p (u.tb + 16) (u.meas.lowScan.contains p)

/-- What follows a change of the register at `a` from `old`. -/
def State.changed (s : State) (a : Nat) (old : Word) : State :=
  if Nat.ble 0x10000 a && Nat.blt a 0x16000 then s.edgChanged ((a - 0x10000) / 0x400) ((a - 0x10000) % 0x400) old
  else if Nat.ble 0x18000 a && Nat.blt a 0x1B000 then s.gdvCommit a old
  else if Nat.ble 0x20000 a && Nat.blt a 0x26000 then s.cluChanged ((a - 0x20000) / 0x800) ((a - 0x20000) % 0x800)
  else if Nat.ble 0x26000 a && Nat.blt a 0x27000 then s.regionChanged ((a - 0x26000) / 0x40)
  else if a = Reg.CLU_SYS_CFG then
    if Fld.CLU_SYS_CFG_SYS_EN.on old == s.bit a Fld.CLU_SYS_CFG_SYS_EN then s else s.sysEnable
  else if Nat.ble 0x28000 a && Nat.blt a 0x28C00 then s.showBounds ((a - 0x28000) / 0x100)
  else if Nat.ble 0x2C000 a && Nat.blt a 0x2D000 then
    let g := (a - 0x2C000) / 0x800
    if a = Reg.LDG_CFG g ∧ Fld.LDG_CFG_EN.on old ≠ s.ldgOn g then s.ldgEnabled g else s
  else if Nat.ble 0x30000 a && Nat.blt a 0x38000 then (((s.measChange a old).pairsChanged).showRates).showWaveRate
  else if a = Reg.PWR_HU_CFG then s.showPack
  else if Nat.ble 0x38000 a && Nat.blt a 0x38400 && a % 0x100 == 8 then s.auxShadow ((a - 0x38000) / 0x100)
  else if Nat.ble 0x3C000 a && Nat.blt a 0x3C400 then s.svrRecheck ((a - 0x3C000) / 0x100)
  else if Nat.ble 0x60800 a && Nat.blt a 0x60900 then s.showRates
  else if Nat.ble 0x70110 a && Nat.blt a 0x70128 then s.showWaveRate
  else s

end Sys2Proof.Machine
end

