-- ==== Sys2Proof/Machine/Writes.lean ====
section
/-!
DEFINITION. A write of one register under its access codes (R5, R446) and under the direct-write rules of its block.
-/

namespace Sys2Proof.Machine

/-- The registers with one word replaced. -/
def State.with1 (s : State) (a : Nat) (w : Word) : View := fun x => if x = a then w else s.reg x

/-- The word that a write of `v` leaves in the register at `a`, before the direct-write rules: W1C bits cleared, RW and, without the lock,
RWL bits taken (R5). -/
def State.written (s : State) (r : RegRow) (a : Nat) (v : Word) : Word :=
  let old := s.reg a
  let kept := BitVec.ofNat 32 (old.toNat &&& (0xFFFFFFFF - (v.toNat &&& r.w1c.toNat)))
  mergeBits (r.rw.toNat ||| (if s.locked then 0 else r.rwl.toNat)) kept v

/-- The lock keeps an RWL field from changing (R446). -/
def State.lockHits (s : State) (r : RegRow) (a : Nat) (v : Word) : Bool :=
  s.locked && (v.toNat &&& r.rwl.toNat) != ((s.reg a).toNat &&& r.rwl.toNat)

/-- A ledger interval ends before a change of its region's configuration (R232). -/
def State.beforeChange (s : State) (a : Nat) : State :=
  if Nat.ble 0x2C000 a && Nat.blt a 0x2D000 then s.closeEarly 5 0 fun g => g == (a - 0x2C000) / 0x800 else s

/-- A register takes a word; if a configuration bit changes, its consequences follow. -/
def State.take (s : State) (r : RegRow) (a : Nat) (w : Word) : State :=
  let old := s.reg a
  if (old.toNat &&& r.cfgMask) = (w.toNat &&& r.cfgMask) then (s.setReg a w).gdvRewrite a
  else (((s.beforeChange a).setReg a w).gdvRewrite a).changed a old

/-- A write under the access codes alone (R5, R446). -/
def State.plainWrite (s : State) (r : RegRow) (a : Nat) (v : Word) : State :=
  (s.raiseIf (s.lockHits r a v) .glb 1).take r a (s.written r a v)

/-! ### Direct-write rules -/

/-- Some ring is enabled. -/
def State.anyRing (s : State) : Bool := (List.range 32).any s.ringOn

/-- A profile enabled with this snapshot list (R444). -/
def State.listBusy (s : State) (l : Nat) : Bool :=
  (List.range 32).any fun p => s.bit (Reg.REC_P_CFG p) Fld.REC_P_CFG_EN && s.bit (Reg.REC_P_CFG p) Fld.REC_P_CFG_SNAP &&
    s.fld (Reg.REC_P_CFG p) Fld.REC_P_CFG_LIST == l

/-- An offset inside the register blocks and below the MSI-X table (R444, R445). -/
def blockOffset (a : Nat) : Bool := Nat.blt a 0x80000

/-- EN of a profile may be set with configuration word `w` (R444). -/
def State.profileOk (s : State) (p : Nat) (w : Word) : Bool :=
  let src := s.reg (Reg.REC_P_SRC p)
  let ch := src.toNat % 64
  let list := (List.range 64).all fun i =>
    let e := (s.reg (Reg.REC_SL (Fld.REC_P_CFG_LIST.get w) i)).toNat
    !bitOf e 31 || blockOffset (e % 2 ^ 20)
  let source := match Fld.REC_P_CFG_SRC.get w with
    | 1 => blockOffset (src.toNat % 2 ^ 20)
    | 2 => match src.toNat / 64 % 4 with
      | 0 => View.scanned s.reg false ch
      | 1 => Nat.blt ch 24 && s.modOn ch
      | 2 => Nat.blt ch 8 && s.bit (Reg.MEAS_PM_CFG ch) Fld.MEAS_PM_CFG_EN
      | _ => false
    | _ => true
  (!Fld.REC_P_CFG_SNAP.on w || list) && source

/-- Whether the direct-write rule of the register's block lets the word `w` in; `some` is the flag of a refusal (R115, R145, R221, R257, R259,
R271, R282, R364, R378, R405, R407, R444). -/
def State.denied (s : State) (r : RegRow) (a : Nat) (w : Word) : Option (FlagSrc × Nat) :=
  let no (c : Bool) (f : FlagSrc) (b : Nat) : Option (FlagSrc × Nat) := if c then some (f, b) else none
  if r.w1c ≠ 0 then none
  else if Nat.ble 0x10000 a && Nat.blt a 0x16000 then
    let n := (a - 0x10000) / 0x400
    let on (x : Nat) : Bool := x == a || (a == Reg.EDG_CARRIER n && (x == Reg.EDG_MINPULSE n || x == Reg.EDG_ACTPT n))
    no (s.sstate n != 0 || !inRange r.base w || (edgChecks (s.with1 a w) n).any fun c => c.1 && on c.2.2 && c.2.1 != trMODE) (.edg n) 14
  else if Nat.ble 0x18000 a && Nat.blt a 0x1B000 then
    let n := (a - 0x18000) / 0x200
    no (s.sstate n != 0) (.gdv n) 15
  else if r.cfgMask = 0 then none
  else if Nat.ble 0x28000 a && Nat.blt a 0x28C00 then
    let k := (a - 0x28000) / 0x100
    no (s.charging k) (.chg k) 8
  else if Nat.ble 0x30000 a && Nat.blt a 0x38000 then
    no ((ucalSrc a).isSome || !(s.dev == stBOOT || s.dev == stCONFIG) || !inRange r.base w ||
      (s.measChecks (s.with1 a w)).any fun c => c.1 && c.2.2 == a && c.2.1 == trRANGE) .meas 6
  else if Nat.ble 0x3C000 a && Nat.blt a 0x3C400 then
    let c := (a - 0x3C000) / 0x100
    no (s.svrState c != svOFF) (.svr c) 8
  else if Nat.ble 0x38000 a && Nat.blt a 0x38400 && (a % 0x100 == 4 || Nat.ble 0x10 (a % 0x100)) then
    let i := (a - 0x38000) / 0x100
    no (s.auxState i != axOFF) (.auxd i) 5
  else if Nat.ble 0x58000 a && Nat.blt a 0x5E000 then
    let x := (a - 0x58000) / 0x1000
    let o := a % 0x1000
    if Nat.ble 0x100 o && Nat.blt o 0x280 then no (s.canOwns x ((o - 0x100) / 0x80) || s.bit (Reg.CAN_CTRL x) Fld.CAN_CTRL_TXR_EN) (.can x) 12
    else if Nat.blt o 0x60 && o != 0x44 then no (s.bit (Reg.CAN_CTRL x) Fld.CAN_CTRL_EN) (.can x) 12
    else none
  else if Nat.ble 0x60018 a && Nat.ble a 0x6002C then no s.anyRing .hif 2
  else if Nat.ble 0x60800 a && Nat.blt a 0x60900 then no (s.ringOn (28 + (a - 0x60800) / 0x40)) .hif 2
  else if Nat.ble 0x70100 a && Nat.blt a 0x70128 then no (s.fld Reg.REC_STAT Fld.REC_STAT_CAPSTATE != capIDLE) .recd 9
  else if Nat.ble 0x70200 a && Nat.blt a 0x70400 then
    let p := (a - 0x70200) / 0x10
    let en := s.bit (Reg.REC_P_CFG p) Fld.REC_P_CFG_EN
    if a % 0x10 = 0 then
      no (if en then Fld.REC_P_CFG_EN.on w else Fld.REC_P_CFG_EN.on w && !s.profileOk p w) .recd 9
    else no en .recd 9
  else if Nat.ble 0x70400 a && Nat.blt a 0x70800 then no (s.listBusy ((a - 0x70400) / 0x100)) .recd 9
  else none

/-- A reserved code of a bank keeps its field (R52). -/
def vioCodes (old v : Word) : Word :=
  BitVec.ofNat 32 ((List.range 6).foldl (fun acc x =>
    let c := v.toNat / 2 ^ (3 * x) % 8
    acc + (if Nat.ble c 2 || c == 7 then c else old.toNat / 2 ^ (3 * x) % 8) * 2 ^ (3 * x)) 0)

/-- The value written with the fields kept that the block does not let change, without a flag (R52, R149, R173, R344), or with CFGERR
(R399). -/
def State.shaped (s : State) (a : Nat) (v : Word) : Word :=
  let old := s.reg a
  if a = Reg.PWR_VIO_CFG then vioCodes old v
  else if Nat.ble 0x20000 a && Nat.blt a 0x26000 then
    let k := (a - 0x20000) / 0x800
    if s.runningFails (s.with1 a v) a then (if a = Reg.CLU_CFG k then mergeBits (0xFFFFFFFF - cfgGuarded) old v else old) else v
  else if (a = Reg.ETH_P_CFG 0 ∨ a = Reg.ETH_P_CFG 1) ∧ Fld.ETH_P_CFG_MODE.get v = 3 then Fld.ETH_P_CFG_MODE.put v (Fld.ETH_P_CFG_MODE.get old)
  else if Nat.ble 0x60100 a && Nat.blt a 0x60500 && a % 0x20 == 0x0C && Fld.HIF_RING_IRQ_COUNT.get v == 0 then
    Fld.HIF_RING_IRQ_COUNT.put v (Fld.HIF_RING_IRQ_COUNT.get old)
  else v

/-- A configuration write of an ordinary register: the shape, the block's rule, the access codes. -/
def State.ruledWrite (s : State) (r : RegRow) (a : Nat) (v : Word) : State :=
  let u := s.shaped a v
  let s := s.raiseIf (u != v && Nat.ble 0x60100 a && Nat.blt a 0x60500) .hif 2
  match s.denied r a (s.written r a u) with
  | some (f, b) => s.raise f b
  | none => s.plainWrite r a u

/-- A control register with an enable in bit 31 (R271, R282, R378, R407): the other fields change only while `frozen` is false, but for those
in `always`; a refused change sets the flag; then EN acts. -/
def State.enableWrite (s : State) (r : RegRow) (a : Nat) (v : Word) (always : Nat) (frozen : Bool) (f : FlagSrc) (b : Nat)
    (on off : State → State) : State :=
  let old := s.reg a
  let others := r.cfgMask &&& 0x7FFFFFFF
  let may := if frozen then always else others
  let u := mergeBits may old v
  let s := s.raiseIf (frozen && (old.toNat &&& (others &&& (0xFFFFFFFF - always))) != (v.toNat &&& (others &&& (0xFFFFFFFF - always)))) f b
  let s := s.plainWrite r a u
  let en := bitOf v.toNat 31
  if en == bitOf old.toNat 31 then s
  else if en then on s else off s

end Sys2Proof.Machine
end

