-- ==== Sys2Proof/Machine/HostAccess.lean ====
section
/-!
DEFINITION. Host accesses: BAR0, BAR2 and BAR4 (R380, R381, R446), command registers with their keys, the counter service (R449), and
reads that act (R359, R410, R453). A party's own accesses take the same path with its name.
-/

namespace Sys2Proof.Machine

/-- The state that a meaning leads to. -/
def does (r : Res) (s : State) : State :=
  match r with
  | .next t => t
  | _ => s

/-- A command word with its key: the code in bits 7:0, or what a wrong key does. -/
def keyed (v : Word) (key : Nat) (bad : State) (ok : Nat → State) : State :=
  if v.toNat / 65536 = key then ok (v.toNat % 256) else bad

/-! ### Command registers -/

/-- GLB_DEVCMD (R86). -/
def State.writeDevCmd (s : State) (v : Word) : State :=
  keyed v 0x5A3C (s.cmdResult (v.toNat % 256) rcBADKEY) s.devCmd

/-- CTU_CMD (R429). -/
def State.writeCtuCmd (s : State) (v : Word) : State :=
  let tid := v.toNat / 256 % 256
  keyed v 0x3CC3 (s.ctuResult rcBADKEY tid 0) fun c => match c with
    | 1 => s.cmdBegin
    | 3 => s.cmdValidate tid
    | 4 => s.cmdCommit tid
    | 5 => s.cmdRollback tid
    | _ => s.ctuResult rcUNKNOWN tid 0

/-- PWR_HU_CMD (R223). -/
def State.writeHuCmd (s : State) (v : Word) : State :=
  keyed v 0x3CA5 (s.packResult rcBADKEY) fun c => match c with
    | 1 => s.cmdRetry
    | 2 => s.cmdRecharge
    | _ => s.packResult rcUNKNOWN

/-- GDV_n_CMD (R146); CLEAR_HOLD from the host or the owning triplet (R139). -/
def State.writeGdvCmd (s : State) (who : Party) (n : Nat) (v : Word) : State :=
  keyed v 0x3C5A (s.gdvResult n rcBADKEY) fun c => match c with
    | 1 => if s.ownsSlot who n then s.cmdClearHold n else s
    | 2 => s.cmdRunDiag n
    | 3 => s.cmdAdaptReset n
    | 4 => s.cmdClearFailed n
    | _ => s.gdvResult n rcUNKNOWN

/-- CLU_k_CMD (R177), by the host or by the owner. -/
def State.writeCluCmd (s : State) (owner : Bool) (k : Nat) (v : Word) : State :=
  keyed v 0xC35A (s.cluResult k rcBADKEY) fun c => match c with
    | 1 => s.cmdEnable k
    | 2 => s.cmdDisable k
    | 3 => s.cmdRestart k
    | 4 => s.cmdPause k owner
    | 5 => s.cmdResume k owner
    | _ => s.cluResult k rcUNKNOWN

/-- CLU_k_DC_CMD (R202), by a party that may command the cluster; SS_UNLATCH from the host only (R193). -/
def State.writeDcCmd (s : State) (host : Bool) (k : Nat) (v : Word) : State :=
  keyed v 0xC35A (s.cluResult k rcBADKEY) fun c => match c with
    | 0x30 => s.cmdReadmit k (v.toNat / 256 % 8)
    | 0x31 => if host then s.cmdSsUnlatch k else s
    | 0x32 => s.cmdSweep k
    | 0x33 => s.cmdDischarge k
    | 0x34 => s.cmdDischargeStop k
    | _ => s.cluResult k rcUNKNOWN

/-- CLU_REGg_STAT.CMDRES. -/
def State.regResult (s : State) (g res : Nat) : State := s.setFld (Reg.CLU_REG_STAT g) Fld.CLU_REG_STAT_CMDRES res

/-- CLU_REGg_CMD (R179). -/
def State.writeRegionCmd (s : State) (g : Nat) (v : Word) : State :=
  keyed v 0xC35A (s.regResult g rcBADKEY) fun c => if c = 0x10 then s.cmdRegionRestart g else s.regResult g rcUNKNOWN

/-- CLU_SYS_CMD (R180). -/
def State.writeSysCmd (s : State) (v : Word) : State :=
  keyed v 0xC35A (s.sysResult rcBADKEY) fun c => if c = 0x20 then s.cmdRejoin else s.sysResult rcUNKNOWN

/-- CHG_k_CMD (R221). -/
def State.writeChgCmd (s : State) (k : Nat) (v : Word) : State :=
  keyed v 0x5AC3 (s.chgResult k rcBADKEY) fun c => match c with
    | 1 => s.cmdStart k
    | 2 => s.cmdStop k
    | _ => s.chgResult k rcUNKNOWN

/-- CHG_SN_CMD (R222). -/
def State.writeSnCmd (s : State) (v : Word) : State :=
  keyed v 0x5AC3 (s.snResult rcBADKEY) fun c => if c = 0x10 then s.cmdSnExit else s.snResult rcUNKNOWN

/-- MEAS_CMD (R261). -/
def State.writeMeasCmd (s : State) (v : Word) : State :=
  let x := v.toNat / 256 % 32
  if !s.mdRun then s
  else keyed v 0xA55A (s.measResult rcBADKEY) fun c => match c with
    | 1 => if Nat.blt x 4 then s.cmdPairReset x else s.measResult rcSTATE
    | 2 => if Nat.blt x 24 then s.cmdInputReset x else s.measResult rcSTATE
    | _ => s.measResult rcUNKNOWN

/-- TRPt_CMD (R315): no register holds the result of a refusal. -/
def State.writeTrpCmd (s : State) (t : Nat) (v : Word) : State :=
  keyed v 0xA53C s fun c => if c = 1 then does (execFenceTest (Fin.ofNat 5 t) (Fin.ofNat 4 (v.toNat / 256)) s) s else s

/-- DBG_CMD (R316). -/
def State.writeDbgCmd (s : State) (v : Word) : State :=
  keyed v 0x5AA5 (s.dbgResult rcBADKEY) fun c => match c with
    | 1 => s.cmdEndbg
    | 2 => s.cmdExdbg
    | 3 => if Nat.blt (v.toNat / 256 % 8) 5 then s.cmdRejoinDbg (v.toNat / 256 % 8) else s.dbgResult rcSTATE
    | _ => s.dbgResult rcUNKNOWN

/-- CANx_CMD (R378). A target that the controller lacks is refused with STATE. -/
def State.writeCanCmd (s : State) (x : Nat) (v : Word) : State :=
  let b := v.toNat / 256 % 32
  keyed v 0x96A5 (s.canResult x rcBADKEY) fun c => match c with
    | 1 => if Nat.blt b 3 then s.canReq x b else s.canResult x rcSTATE
    | 2 => if Nat.blt b 3 then s.canAbort x b else s.canResult x rcSTATE
    | 3 => s.canSleep x
    | 4 => s.canWake x
    | 5 => s.canRelease x b
    | _ => s.canResult x rcUNKNOWN

/-- REC_CMD (R444). The write of a clear-log entry by a CLEAR from the register verifies (R442). -/
def State.writeRecCmd (s : State) (v : Word) : State :=
  keyed v 0x69A5 (s.recResult rcBADKEY) fun c => match c with
    | 1 => s.cmdFreeze
    | 2 => s.cmdUnfreeze
    | 3 => s.cmdTrigger (v.toNat / 256 % 32)
    | 4 => s.cmdRearm
    | 5 => s.cmdCopy
    | 6 => s.cmdClear true
    | _ => s.recResult rcUNKNOWN

/-! ### The counter service (R449) -/

/-- The counter fields of a register: the bytes that hold a counter, none where it is no counter register, or in the SAFE block. -/
def counterBytes (a : Nat) : List Nat :=
  let all := [0, 1, 2, 3]
  let within (lo n stride first count : Nat) : Bool :=
    Nat.ble lo a && Nat.blt a (lo + n * stride) && Nat.ble first ((a - lo) % stride) && Nat.blt ((a - lo) % stride) (first + 4 * count)
  if Nat.ble (Reg.CLK_TR_CFG 0) a && Nat.blt a (Reg.CLK_TR_CFG 256) && (a - Reg.CLK_TR_CFG 0) % 0x20 == 0x1C then [0, 1]
  else if a = Reg.GLB_GUARD_CNT2 then [0, 1]
  else if a = Reg.EDG_ALIGN_CNT then [0, 1, 2]
  else if [Reg.GLB_CNT0, Reg.CTU_CNT0, Reg.CTU_CNT1, Reg.PWR_CNT0, Reg.PWR_CNT1, Reg.PWR_CNT2, Reg.PWR_CNT3, Reg.PWR_HU_CNT0, Reg.PWR_HU_CNT1,
      Reg.THM_CNT0, Reg.THM_CNT1, Reg.CLK_CNT0, Reg.CLK_CNT1, Reg.CLK_CNT2, Reg.CLK_CNT3, Reg.CLU_SYS_CNT0, Reg.CLU_SYS_CNT1, Reg.CHG_SN_CNT0,
      Reg.MEAS_CNT0, Reg.MEAS_CNT1, Reg.DBG_CNT0, Reg.ETH_PTP_CNT0, Reg.ETH_SNL_CNT0, Reg.ETH_SNL_CNT1, Reg.ETH_SNL_CNT2, Reg.HIF_CNT0,
      Reg.HIF_CNT1, Reg.MBX_CNT0, Reg.MBX_CNT1, Reg.MBX_CNT2, Reg.MBX_CNT3, Reg.REC_CNT0, Reg.REC_CNT1, Reg.REC_CNT2].contains a then all
  else if within 0x10000 24 0x400 0x108 4 || within 0x18000 24 0x200 0x108 4 || within 0x20000 12 0x800 0x1C 2 || within 0x20000 12 0x800 0x154 4 ||
      within 0x28000 12 0x100 0x3C 3 || within 0x2C000 2 0x800 0x20 2 || within 0x3C000 4 0x100 0x2C 2 || within 0x38000 4 0x100 0x20 2 ||
      within 0x39000 4 0x100 0x10 1 || within 0x40000 5 0x100 0x10 3 || within 0x50000 2 0x100 0x0C 2 || within 0x58000 6 0x1000 0x18 4 then
    (if a % 4 = 0 then all else [])
  else []

/-- The bytes `bs` of a word less those of another, floored at 0. -/
def subBytes (bs : List Nat) (w v : Word) : Word :=
  bs.foldl (fun acc b =>
    let f : Field := ⟨8 * b, 8⟩
    f.put acc (f.get acc - f.get v)) w

/-- A write of GLB_CNTSUB (R449). -/
def State.cntSub (s : State) (v : Word) : State :=
  let a := (s.reg Reg.GLB_CNTSEL).toNat % 2 ^ 20
  let bs := counterBytes a
  let there := match Reg.row a with
    | some r => r.present s.variant a
    | none => false
  if bs.isEmpty || !there then s.raise .glb 2 else s.setReg a (subBytes bs (s.reg a) v)

/-! ### Registers with a protocol of their own -/

/-- A write of a Tightrope register (R18, R21, R22): bits that flags occupy in STAT go the plain way. -/
def State.writeTr (s : State) (who : Party) (r : RegRow) (a : Nat) (v : Word) : State :=
  let m := (a - 0x6000) / 0x20
  let mon := Fin.ofNat 256 m
  let cfg (x : TrReg) : State := does (execTightropeCfgWrite who mon x v s) s
  match (a - 0x6000) % 0x20 with
  | 0x00 => cfg .cfg
  | 0x04 => cfg .deadline
  | 0x08 => cfg .releaseLo
  | 0x0C => cfg .releaseHi
  | 0x10 => cfg .period
  | 0x14 => does (execCompletionWrite who mon v s) s
  | _ => s.plainWrite r a v

/-- A write of a slack-controller register (R27). -/
def State.writeSlack (s : State) (a : Nat) (v : Word) : State :=
  let rail : Rail := if Nat.blt a 0x2110 then .cd else .md
  match a % 0x10 with
  | 0x0 => does (execSlackParamWrite rail .target v s) s
  | 0x4 => does (execSlackParamWrite rail .window v s) s
  | 0x8 => does (execSlackParamWrite rail .limits v s) s
  | _ => s

/-- A write of the MSI-X table (R379): unmasking a vector sends its pending message. -/
def State.writeMsix (s : State) (r : RegRow) (a : Nat) (v : Word) : State :=
  let s := s.plainWrite r a v
  let n := (a - 0xFE000) / 0x10
  if Nat.blt a 0xFF000 && a % 0x10 == 0x0C && v.toNat % 2 == 0 && s.bit (Reg.MSIX_PBA (n / 32)) ⟨n % 32, 1⟩ then
    (s.setFld (Reg.MSIX_PBA (n / 32)) ⟨n % 32, 1⟩ 0).message n
  else s

/-- A write of a shadow register or of the reference of a slot: by its owner always, by anyone else under R115 (R92, R109). -/
def State.writeShadow (s : State) (who : Party) (r : RegRow) (a : Nat) (v : Word) : State :=
  let n := (a - 0x10000) / 0x400
  let slot := Fin.ofNat 24 n
  let owner := s.ownsSlotOf who n
  let free := owner || (s.denied r a (s.written r a v)).isNone
  if (a - 0x10000) % 0x400 = 0x28 then does (execOwnerRefWrite who slot v none s) s
  else if !free then s.raise (.edg n) 14
  else match (a - 0x10000) % 0x400 with
    | 0x14 => does (execCmpaWrite who slot v s) s
    | 0x80 => does (execPe0Write who slot v s) s
    | _ => s.plainWrite r a v

/-- A write in the CLU block: commands, setpoint posts, the words that only the owner writes (R157, R162, R192), and configuration. -/
def State.writeClu (s : State) (who : Party) (r : RegRow) (a : Nat) (v : Word) : State :=
  let k := (a - 0x20000) / 0x800
  let clu := Fin.ofNat 12 k
  match (a - 0x20000) % 0x800 with
  | 0x10 => if s.mayCommand who k then s.writeCluCmd (who != .host) k v else s
  | 0x38 => does (execNpTargetWrite who clu (signed 16 v.toNat) s) s
  | 0xC0 => does (execSpPost clu v s) s
  | 0x144 => if s.ownerCode k == partyCode who then s.setNat (Reg.CLU_DC_SSTGT k) (v.toNat % 65536) else s
  | 0x148 => if s.mayCommand who k then s.writeDcCmd (who == .host) k v else s
  | _ => s.ruledWrite r a v

/-- A write in the CHG block: the heartbeat is the host's own (R214), START and STOP come from a party that may command the cluster (R207). -/
def State.writeChg (s : State) (who : Party) (r : RegRow) (a : Nat) (v : Word) : State :=
  if a = Reg.CHG_HB then (if who = .host then s.heartbeat v else s.plainWrite r a v)
  else if a = Reg.CHG_SN_CMD then s.writeSnCmd v
  else if Nat.blt a 0x28C00 && a % 0x100 == 0x30 then
    (if s.mayCommand who ((a - 0x28000) / 0x100) then s.writeChgCmd ((a - 0x28000) / 0x100) v else s)
  else s.ruledWrite r a v

/-- A write in the AUX block: auxiliary drives (R282, R283), feedback (R297), service regulators (R271). -/
def State.writeAux (s : State) (r : RegRow) (a : Nat) (v : Word) : State :=
  if Nat.ble 0x3C000 a then
    let c := (a - 0x3C000) / 0x100
    if a = Reg.SVR_CTRL c then
      s.enableWrite r a v 0 (s.svrState c != svOFF) (.svr c) 8 (fun u => u.svrSetEn c) (fun u => u.svrClearEn c)
    else s.ruledWrite r a v
  else if Nat.ble 0x39000 a then
    let i := (a - 0x39000) / 0x100
    if a = Reg.FB_CFG i then s.fbCfgWrite i v else s.ruledWrite r a v
  else
    let i := (a - 0x38000) / 0x100
    if a = Reg.AUXD_CTRL i then
      (s.enableWrite r a v 0x100 (s.auxState i != axOFF) (.auxd i) 5 (fun u => u.auxSetEn i) (fun u => u.auxClearEn i)).showPattern i
    else if a = Reg.AUXD_DUTYW i then s.auxDutyW i v
    else s.ruledWrite r a v

/-- A write in the CAN block (R378). -/
def State.writeCan (s : State) (r : RegRow) (a : Nat) (v : Word) : State :=
  let x := (a - 0x58000) / 0x1000
  if a = Reg.CAN_CMD x then s.writeCanCmd x v
  else if a = Reg.CAN_CTRL x then
    s.enableWrite r a v 0 (s.bit (Reg.CAN_CTRL x) Fld.CAN_CTRL_EN) (.can x) 12 (fun u => u.canEnable x) (fun u => u.canDisable x)
  else s.ruledWrite r a v

/-- A write in the HIF block (R407). -/
def State.writeHif (s : State) (r : RegRow) (a : Nat) (v : Word) : State :=
  let q := (a - 0x60100) / 0x20
  if Nat.ble 0x60100 a && Nat.blt a 0x60500 && a % 0x20 == 8 then
    s.enableWrite r a v 0 (s.ringOn q) .hif 2 (fun u => u.ringEnable q) (fun u => u.ringDisable q)
  else s.ruledWrite r a v

/-- A write in the MBX block (R408, R420). -/
def State.writeMbx (s : State) (r : RegRow) (a : Nat) (v : Word) : State :=
  let c := (a - 0x68000) / 0x10
  if Nat.blt a 0x68100 && a % 0x10 == 0 then s.mbxCfg c false v
  else if Nat.blt a 0x68100 && a % 0x10 == 4 then s.mbxCfg c true v
  else s.ruledWrite r a v

/-- A write of a register that is there and active, by block (R445). -/
def State.blockWrite (s : State) (who : Party) (r : RegRow) (a : Nat) (v : Word) : State :=
  if a = Reg.GLB_DEVCMD then s.writeDevCmd v
  else if a = Reg.GLB_CNTSUB then s.cntSub v
  else if a = Reg.CTU_CMD then s.writeCtuCmd v
  else if a = Reg.CTU_STG_VAL then s.stageVal v
  else if a = Reg.PWR_HU_CMD then s.writeHuCmd v
  else if Nat.ble 0x2100 a && Nat.blt a 0x2120 then s.writeSlack a v
  else if Nat.ble 0x6000 a && Nat.blt a 0x8000 then s.writeTr who r a v
  else if Nat.ble 0x10000 a && Nat.blt a 0x16000 && [0x14, 0x18, 0x28, 0x80, 0x84, 0x88, 0x8C, 0x90, 0x94, 0x98, 0x9C].contains ((a - 0x10000) % 0x400) then
    s.writeShadow who r a v
  else if Nat.ble 0x18000 a && Nat.blt a 0x1B000 && (a - 0x18000) % 0x200 == 0x48 then s.writeGdvCmd who ((a - 0x18000) / 0x200) v
  else if Nat.ble 0x20000 a && Nat.blt a 0x26000 then s.writeClu who r a v
  else if Nat.ble 0x26000 a && Nat.blt a 0x27000 && (a - 0x26000) % 0x40 == 8 then s.writeRegionCmd ((a - 0x26000) / 0x40) v
  else if a = Reg.CLU_SYS_CMD then s.writeSysCmd v
  else if Nat.ble 0x28000 a && Nat.blt a 0x2C000 then s.writeChg who r a v
  else if a = Reg.MEAS_CMD then s.writeMeasCmd v
  else if Nat.ble 0x38000 a && Nat.blt a 0x40000 then s.writeAux r a v
  else if Nat.ble 0x40000 a && Nat.blt a 0x48000 && a % 0x100 == 0x30 then s.writeTrpCmd ((a - 0x40000) / 0x100) v
  else if a = Reg.ETH_P_CFG 0 ∨ a = Reg.ETH_P_CFG 1 then s.portChange ((a - 0x50000) / 0x100) fun u => u.ruledWrite r a v
  else if Nat.ble 0x58000 a && Nat.blt a 0x60000 then s.writeCan r a v
  else if Nat.ble 0x60000 a && Nat.blt a 0x68000 then s.writeHif r a v
  else if Nat.ble 0x68000 a && Nat.blt a 0x70000 then s.writeMbx r a v
  else if a = Reg.REC_CMD then s.writeRecCmd v
  else if a = Reg.DBG_CMD then s.writeDbgCmd v
  else if a = Reg.ETH_PTP_OFFSET then (if who = .mt then s.setReg a v else s)
  else if Nat.ble 0xFE000 a then s.writeMsix r a v
  else s.ruledWrite r a v

/-- A single aligned 32-bit write to a BAR0 offset (R2, R202, R221, R446); where it changes a configuration register, open transactions that
stage the register are tainted (R426). -/
def State.busWrite (s : State) (who : Party) (a : Nat) (v : Word) : State :=
  match Reg.row a with
  | some r =>
    if r.present s.variant a && View.active s.reg a then
      let t := s.blockWrite who r a v
      if ((t.reg a).toNat &&& r.cfgMask) = ((s.reg a).toNat &&& r.cfgMask) then t else t.taint a
    else s.unimplemented a
  | none => s.unimplemented a

/-- The live window of a channel, at an offset within it (R410). -/
def State.windowWrite (s : State) (p : Nat) (user : Bool) (c off : Nat) (v : Word) : State :=
  match off with
  | 0x00 => s.stagePtr p user c false v.toNat
  | 0x04 => s.stagePtr p user c true v.toNat
  | 0x08 => s.noticePost p user c v.toNat
  | 0x30 => s.noticeAck p user c v.toNat
  | _ => s

/-- A single aligned 32-bit write to a BAR2 offset (R380), by code that may be in user mode (R409). -/
def State.bar2Write (s : State) (p : Nat) (user : Bool) (off : Nat) (v : Word) : State :=
  if off = 0 then s.pollNow
  else if Nat.ble 0x1000 off && Nat.blt off 0x2000 then s.windowWrite p user ((off - 0x1000) / 0x100) (off % 0x100) v
  else s

/-- An access that is not a single aligned 32-bit one (R380). -/
def State.badAccess (s : State) : State := s.raise .hif 5

/-- REGISTER_WRITE (R380, R446): an offset of 0x10_0000 and above names BAR2. -/
def execRegisterWrite (off : Nat) (v : Word) (s : State) : Res :=
  onlyIf s.cdRun s fun s =>
    if off % 4 ≠ 0 then s.badAccess
    else if Nat.blt off 0x100000 then s.busWrite .host off v
    else s.bar2Write 0 false (off - 0x100000) v

/-- BAD_ACCESS (R380): a write is dropped, a read completes with Unsupported Request. -/
def execBadAccess (_bar : Bar) (write : Bool) (s : State) : Res :=
  onlyIf s.cdRun s fun s => if write then s.badAccess else s.badAccess.completes { ur := true }

/-! ### BAR4 (R381) -/

/-- BAR4_WRITE: accepted inside the shared window, or dropped with BAR4WP. -/
def execBar4Write (off : Nat) (data : List Byte) (s : State) : Res :=
  let base := (s.reg Reg.HIF_SHM_BASE).toNat
  let size := (s.reg Reg.HIF_SHM_SIZE).toNat
  onlyIf s.cdRun s fun s =>
    if Nat.ble base off && Nat.ble (off + data.length) (min (base + size) (2 ^ 29)) then s.putDram off data else s.raise .hif 6

/-- BAR4_READ: the read returns DRAM data, with the poisoned bit on an uncorrectable error; the single-bit errors corrected in its bursts are
counted (R28). -/
def execBar4Read (off len corrected : Nat) (uncorrectable : Bool) (s : State) : Res :=
  onlyIf s.cdRun s fun s =>
    { s.completes { data := s.dramBytes off len, poisoned := uncorrectable } with eccCor := s.eccCor + corrected }

/-- The identity of the PCIe function (R379, R470). -/
def State.pcieIdent (s : State) : PcieIdent :=
  { device := Fld.GLB_IDENT_VARIANT.get (s.reg Reg.GLB_IDENT), revision := (s.reg Reg.GLB_VERSION).toNat / 2 ^ 24 }

/-! ### Reads that act -/

/-- A host read of a BAR0 offset: its value, and what the read does (R446, R453, R359). -/
def State.busRead (s : State) (a : Nat) : State × Word :=
  match Reg.row a with
  | some r =>
    if r.present s.variant a && View.active s.reg a then
      if a = Reg.CLK_TB_LO then (s.setNat Reg.CLK_TB_HI (s.tb / 2 ^ 32), s.view a)
      else if a = Reg.ETH_PTP_SEC_LO then
        ((s.setNat Reg.ETH_PTP_SEC_HI (s.ptpSec / 2 ^ 32 % 65536)).setNat Reg.ETH_PTP_NS s.ptpNano, s.view a)
      else (s, s.view a)
    else (s, 0)
  | none => (s, 0)

/-- A host read with its completion. -/
def State.hostRead (s : State) (a : Nat) : State :=
  let r := s.busRead a
  r.1.returns r.2

/-- TB_LO_READ (R453). -/
def execTbLoRead (s : State) : Res := onlyIf s.cdRun s fun s => s.hostRead Reg.CLK_TB_LO
/-- PTP_SEC_LO_READ (R359). -/
def execPtpSecLoRead (s : State) : Res := onlyIf s.cdRun s fun s => s.hostRead Reg.ETH_PTP_SEC_LO
/-- CNTSUB (R449). -/
def execCntsub (v : Word) (s : State) : Res := onlyIf s.cdRun s fun s => s.cntSub v

end Sys2Proof.Machine
end

