-- ==== Sys2Proof/Machine/Land.lean ====
section
/-!
DEFINITION. The landing of a configuration transaction (R424–R428), the configuration image, and the end of CONFIG (R69, R71, R72).
-/

namespace Sys2Proof.Machine

/-- One register of a landing: offset, word before, word after. -/
structure Landed where
  off : Nat
  old : Word
  new : Word
  deriving DecidableEq, Repr

/-- The word that a landing leaves in each staged register. -/
def State.landing (s : State) (l : List (Nat × Word)) : List Landed :=
  l.filterMap fun p => match s.cfgRow p.1 with
    | some r => some ⟨p.1, s.reg p.1, mergeBits r.cfgMask (s.reg p.1) p.2⟩
    | none => none

/-- The landing changes the register. -/
def Landed.moves (x : Landed) : Bool := x.old != x.new

/-- Registers whose own chapter acts on every write of them: slack controllers (R27), monitors (R22), feedback kind (R297), heartbeat (R214),
phase-W duty (R283), CAN buffers (R364), rings (R407), mailboxes (R420), recorder (R444). -/
def ruled (a : Nat) : Bool :=
  (Nat.ble 0x2100 a && Nat.blt a 0x2120) || (Nat.ble 0x6000 a && Nat.blt a 0x8000) ||
  (Nat.ble 0x39000 a && Nat.blt a 0x39400 && a % 0x100 == 0) || a == Reg.CHG_HB ||
  ((List.range 4).any fun i => a == Reg.AUXD_DUTYW i) ||
  (Nat.ble 0x58000 a && Nat.blt a 0x5E000 && Nat.ble 0x100 (a % 0x1000) && Nat.blt (a % 0x1000) 0x280) ||
  (Nat.ble 0x60000 a && Nat.blt a 0x78000)

/-- The enable of a register whose setting and clearing start and stop a unit. -/
def enableOf (a : Nat) : Option Field :=
  if (Nat.ble 0x3C000 a && Nat.blt a 0x3C400 && a % 0x100 == 0) || ((List.range 4).any fun i => a == Reg.AUXD_CTRL i) ||
      ((List.range 6).any fun x => a == Reg.CAN_CTRL x) || (Nat.ble 0x60100 a && Nat.blt a 0x60500 && a % 0x20 == 8) ||
      (Nat.ble 0x70200 a && Nat.blt a 0x70400 && a % 0x10 == 0) then some ⟨31, 1⟩
  else if Nat.ble 0x6000 a && Nat.blt a 0x8000 && a % 0x20 == 0 then some Fld.CLK_TR_CFG_EN
  else none

/-- How the landing moves an enable: cleared, set, or neither. -/
def Landed.stops (x : Landed) : Bool := match enableOf x.off with
  | some f => f.on x.old && !f.on x.new
  | none => false
/-- The landing sets the enable of the register. -/
def Landed.starts (x : Landed) : Bool := match enableOf x.off with
  | some f => !f.on x.old && f.on x.new
  | none => false

/-- Services, drives and CAN controllers: their enable acts by operations of its own (R270, R282, R376). -/
def State.runUnit (s : State) (a : Nat) (on : Bool) : State :=
  if Nat.ble 0x58000 a then (if on then s.canEnable ((a - 0x58000) / 0x1000) else s.canDisable ((a - 0x58000) / 0x1000))
  else if Nat.ble 0x3C000 a then (if on then s.svrSetEn ((a - 0x3C000) / 0x100) else s.svrClearEn ((a - 0x3C000) / 0x100))
  else (if on then s.auxSetEn ((a - 0x38000) / 0x100) else s.auxClearEn ((a - 0x38000) / 0x100))

/-- A staged word written by the rule of its own chapter; a landed FBi_CFG changes BW while KIND stays (R292). -/
def State.landRuled (s : State) (x : Landed) : State :=
  if Nat.ble 0x39000 x.off && Nat.blt x.off 0x39400 then s.fbCfgTake ((x.off - 0x39000) / 0x100) x.new
  else match Reg.row x.off with
  | some r => s.blockWrite .host r x.off x.new
  | none => s

/-- An enable cleared or set by the landing. -/
def State.landEnable (s : State) (x : Landed) (on : Bool) : State :=
  if ruled x.off then s.landRuled x else s.runUnit x.off on

/-- An ordinary register takes its word; an enable of a unit keeps its bit until the unit's operation moves it. -/
def State.landPlain (s : State) (x : Landed) : State :=
  if ruled x.off then s
  else if (enableOf x.off).isSome then s.setReg x.off (mergeBits 0x7FFFFFFF (s.reg x.off) x.new)
  else if x.off = Reg.ETH_P_CFG 0 ∨ x.off = Reg.ETH_P_CFG 1 then s.portChange ((x.off - 0x50000) / 0x100) fun u => u.setReg x.off x.new
  else s.setReg x.off x.new

/-- The consequences of an ordinary register's new word; a landed CMPA or PE0 marks its shadow set ready (R92). -/
def State.landChanged (s : State) (x : Landed) : State :=
  let o := (x.off - 0x10000) % 0x400
  if ruled x.off || (enableOf x.off).isSome then s
  else if Nat.ble 0x10000 x.off && Nat.blt x.off 0x16000 && (o == 0x14 || o == 0x80) then
    let n := (x.off - 0x10000) / 0x400
    s.shadowWrite n (s.fld (Reg.EDG_CTRL n) Fld.EDG_CTRL_MODE == (if o = 0x14 then 0 else 1))
  else
    let s := s.gdvRewrite x.off
    if x.moves then s.changed x.off x.old else s

/-- All staged writes land in one handshake (R424): ledger intervals of changed regions end first (R232); then enables that are cleared,
ordinary registers, those with rules of their own, and enables that are set. Other transactions that stage a changed register are tainted or
fail (R426). -/
def State.land (s : State) (own : Nat) (l : List (Nat × Word)) : State :=
  let xs := s.landing l
  let ledger (g : Nat) : Bool := xs.any fun x => x.moves && Nat.ble 0x2C000 x.off && Nat.blt x.off 0x2D000 && (x.off - 0x2C000) / 0x800 == g
  let s := if ledger 0 || ledger 1 then s.closeEarly 5 0 ledger else s
  let s := s.each (xs.filter Landed.stops) fun u x => u.landEnable x false
  let s := s.each xs State.landPlain
  let s := s.each xs State.landChanged
  let s := s.each (xs.filter fun x => ruled x.off && !x.stops && !x.starts) State.landRuled
  let s := s.each (xs.filter Landed.starts) fun u x => u.landEnable x true
  let s := s.measCommitted (xs.map (·.off))
  s.each (xs.filter Landed.moves) fun u x => u.taintBut (some own) x.off

/-! ### TXN_LAND -/

/-- Of two transactions due in one handshake the lower TID lands first (R428). -/
def State.landFirst (s : State) (t : Nat) : Bool :=
  (List.range 4).all fun u => u == t || !s.landDue u || (s.txn u).tc != (s.txn t).tc || Nat.ble (s.txTid t) (s.txTid u)

/-- A correction of the configuration in CONFIG (R72): where the image failed, the hold with cause 0x03 is over when the configuration in force
passes as a whole. -/
def State.corrected (s : State) : State :=
  if s.dev = stCONFIG ∧ s.rm.image = 2 ∧ s.validate [] none = none then (s.updRm fun r => { r with image := 3 }).holdCause else s

/-- TXN_LAND (R424): tc as applied, APPLIED, the result of the COMMIT; the slot is freed. -/
def execTxnLand (t : Fin 4) (s : State) : Res :=
  let t := t.val
  onlyIf (s.cdRun && s.landDue t && s.landFirst t) s fun s =>
    let tc := s.tbFine
    let s := s.land t (s.txn t).staged
    let s := s.setNat64 (Reg.CTU_T_TC_LO t) (Reg.CTU_T_TC_HI t) tc
    let s := s.commitResult t true 0 0 tc
    ((s.freeTxn t).raise .ctu 0).corrected

/-! ### The configuration image (R72) -/

/-- The staged words of an image: the last value of each offset, in ascending order. -/
def imageWords (l : List (Nat × Word)) : List (Nat × Word) :=
  l.foldl (fun acc p => Cells.insert (Cells.erase acc p.1) p.1 p.2) []

/-- The image is not applied: CONFIG holds with cause 0x03. -/
def State.imageFails (s : State) : State :=
  (s.updRm fun r => { r with image := 2 }).setFld Reg.GLB_DEVSTATE Fld.GLB_DEVSTATE_CAUSE 3

/-- The image applied as one transaction that commits immediately (R72, R421), in one handshake; `bound` tells whether the commissioning lock binds
it (R85). -/
def State.applyImage (s : State) (img : ConfigImage) (bound : Bool) : State :=
  match (List.range 4).find? fun t => s.txState t == txFREE with
  | none => s.imageFails
  | some t =>
    let tid := s.freshTid
    let s := { s with lastTid := tid }
    let l := imageWords img.writes
    match l.find? fun p => p.1 % 4 != 0 || Nat.ble 0x80000 p.1 with
    | some p => (s.txCommitFails t trNOTCFG p.1).1.imageFails
    | none =>
      match s.validateImage l img.pars bound with
      | some (why, off) => (s.txCommitFails t why off).1.imageFails
      | none =>
        let locked := s.locked
        let tc := s.tbFine
        let s := s.setBit Reg.GLB_COMLOCK Fld.GLB_COMLOCK_LOCKED false
        let s := (s.land t l).setBit Reg.GLB_COMLOCK Fld.GLB_COMLOCK_LOCKED locked
        let s := (s.setNat64 (Reg.CTU_T_TC_LO t) (Reg.CTU_T_TC_HI t) tc).raise .ctu 0
        let s := s.updRm fun r => { r with image := 1 }
        s.holdCause

/-- CONFIG_IMAGE_APPLY (R72): the active image of this CONFIG, once. -/
def execConfigImageApply (s : State) : Res :=
  match s.store.config with
  | some img => onlyIf (s.cdRun && s.dev == stCONFIG && s.rm.image == 0) s fun s => s.applyImage img false
  | none => .next s

/-- An image would change an RWL field that the commissioning lock holds (R85). -/
def State.lockBars (s : State) (img : ConfigImage) : Bool :=
  s.locked && (imageWords img.writes).any fun p => match s.cfgRow p.1 with
    | some r => p.2 &&& r.rwl != s.reg p.1 &&& r.rwl
    | none => false

/-- LOAD_CONFIG_IMAGE (R72, R85): a new image becomes the active one; in CONFIG it is applied and its parameter set delivered. One that would change
an RWL field while the lock is set fails with LOCKED and does not become active. -/
def execLoadConfigImage (img : ConfigImage) (s : State) : Res :=
  onlyIf (s.cdRun && (s.trip 4).runs) s fun s =>
    let keep (s : State) : State := if s.lockBars img then s else s.updStore fun p => { p with config := some img }
    if s.dev = stCONFIG then
      let s := ((keep s).updRm fun r => { r with image := 0 }).applyImage img true
      if s.rm.image = 1 && s.rmRun then s.deliverPars img.pars else s
    else keep s

/-- PARAM_SET_DELIVERY (R338, R72, R73, R81): in CONFIG, once the configuration image has been applied; after a correction in place, where the
configuration in force passes with the parameter set of the image. -/
def execParamSetDelivery (s : State) : Res :=
  match s.store.config with
  | none => .next s
  | some img =>
    onlyIf (s.cdRun && s.rmRun && s.dev == stCONFIG &&
        (s.rm.image == 1 || (s.rm.image == 3 && s.validate [] (some img.pars) == none))) s fun s => s.deliverPars img.pars

/-! ### Loop-triplet images (R69–R71) -/

/-- A loop triplet starts its verified image, with a new epoch (R417). -/
def State.startTriplet (s : State) (t : Nat) : State :=
  (((s.updTrip t fun x => { x with runs := true }).showLtVer t).resetParty (2 + t)).partyComes (2 + t)

/-- Every loop triplet whose image is verified runs, unless both copies of some image failed: then none does (R71). -/
def State.startTriplets (s : State) : State :=
  if (List.range 4).any fun t => (s.trip t).img == 2 then
    s.each (List.range 4) fun u t => (u.updTrip t fun x => { x with runs := false }).showLtVer t
  else s.each ((List.range 4).filter fun t => (s.trip t).img == 1 && !(s.trip t).runs) State.startTriplet

/-- LOAD_LT_IMAGE (R69–R72): in CONFIG, with an owner key fused, the image of a triplet is verified and the triplets that can start do; where both
copies fail, CONFIG holds with cause 0x03 and no triplet starts. LT_IMG, one bit for four triplets, shows the copy verified last (DESIGN CHOICE,
log 82). -/
def execLoadLtImage (t : Fin 4) (v : Verdicts) (blocks : List BlockPar) (s : State) : Res :=
  let t := t.val
  onlyIf (s.cdRun && (s.trip 4).runs && s.dev == stCONFIG && !(s.trip t).runs) s fun s =>
    let r := s.bootKind (2 + t) { a := v.a && s.ownerKey, b := v.b && s.ownerKey }
    let s := r.1
    match r.2 with
    | some (b, fell) =>
      let s := s.setBit Reg.GLB_BOOTSTAT Fld.GLB_BOOTSTAT_LT_IMG b
      let s := if fell then s.setBit Reg.GLB_BOOTSTAT Fld.GLB_BOOTSTAT_FALLBACK true else s
      let s := s.each blocks fun u p => u.updBlk p.k.val fun b => { b with vimp := p.vimp, ride := p.ride }
      (s.updTrip t fun x => { x with img := 1, copyB := b }).startTriplets.holdCause
    | none => (s.updTrip t fun x => { x with img := 2 }).startTriplets.setFld Reg.GLB_DEVSTATE Fld.GLB_DEVSTATE_CAUSE 3

/-! ### The end of CONFIG (R72) -/

/-- Every register in force is inside its range. -/
def State.rangesHold (s : State) : Bool :=
  s.regs.all fun p => match s.cfgRow p.1 with
    | some r => inRange r.base p.2
    | none => true

/-- CONFIG_COMPLETE (R72). -/
def execConfigComplete (s : State) : Res :=
  onlyIf (s.cdRun && s.dev == stCONFIG && s.allRun && s.rm.armed && s.rmRun && s.rangesHold && s.validate [] none == none) s fun s =>
    s.holdCause.enterDiag

end Sys2Proof.Machine
end

