-- ==== Sys2Proof/Machine/Fabric.lean ====
section
/-!
DEFINITION. Released transactions of the triplets reach what they address (R299, R300).
-/

namespace Sys2Proof.Machine

/-- The party that a triplet is (R298, R408). -/
def partyOf (t : Nat) : Party := match t with
  | 0 => .lt 0 | 1 => .lt 1 | 2 => .lt 2 | 3 => .lt 3 | _ => .mt

/-- The code that stores runs in a mode that reaches no secure channel (R409): machine mode (3) does, and supervisor mode (1) on MT. -/
def unprivileged (f : TxFields) (t : Nat) : Bool := !(f.mode == 3 || (t == 4 && f.mode == 1))

/-- A released store takes effect: kind 1 is a store to BAR0 (below 0x10_0000) or to BAR2 above it, kind 2 one of `size` bytes to DRAM of which bit i of
`be` enables byte i; every other transaction changes nothing that it addresses (assumption 54). -/
def State.storeTx (s : State) (t : Nat) (f : TxFields) : State :=
  if f.kind = 1 then
    if f.addr % 4 ≠ 0 then s
    else if Nat.blt f.addr 0x100000 then s.busWrite (partyOf t) f.addr (BitVec.ofNat 32 f.data)
    else s.bar2Write (partyCode (partyOf t)) (unprivileged f t) (f.addr - 0x100000) (BitVec.ofNat 32 f.data)
  else if f.kind = 2 ∧ f.addr + f.size ≤ 2 ^ 29 then
    s.each (((leBytes f.size f.data).zipIdx).filter fun p => bitOf f.be p.2) fun u p => u.putDram (f.addr + p.2) [p.1]
  else s

/-- The released stores of a triplet, oldest first. -/
def State.applyStores (s : State) (t : Nat) : State :=
  let l := (s.trip t).stores
  (s.updTrip t fun r => { r with stores := [] }).each l fun u f => u.storeTx t f

/-- TRANSACTION_PRESENT (R300): a copy that runs and is not halted for debug presents a transaction. -/
def execTransactionPresent (t : Trip) (c : Fin 3) (tx : TripTx) (s : State) : Res :=
  let t := t.val
  onlyIf (s.cdRun && (s.trip t).runs && !(s.trip t).halted && !bitOf (s.fld (Reg.TRP_STAT t) Fld.TRP_STAT_RETIRED) c.val) s fun s =>
    (s.presents t c.val tx).applyStores t

end Sys2Proof.Machine
end

