-- ==== Sys2Proof/Machine/Descriptors.lean ====
section
/-!
DEFINITION. The descriptors that submission rings execute (R386, R389–R396).
-/

namespace Sys2Proof.Machine

/-- The value of byte `i` of a descriptor. -/
def Fetched.byteAt (f : Fetched) (i : Nat) : Nat := f.fieldAt i 1
/-- Word `k` of the values that begin at an offset. -/
def Fetched.word (f : Fetched) (off k : Nat) : Word := BitVec.ofNat 32 (f.fieldAt (off + 4 * k) 4)
/-- The reserved fields of the header are 0 (R389). -/
def Fetched.headOk (f : Fetched) : Bool := Nat.ble (f.byteAt 1) 1 && f.zero 2 4

/-- The fields of a register-access descriptor are in range (R391): `max` words at most, values from byte `data` on. -/
def Fetched.regOk (f : Fetched) (max data : Nat) : Bool :=
  let off := f.fieldAt 8 4
  let n := f.byteAt 0x0C
  f.headOk && off % 4 == 0 && Nat.ble 1 n && Nat.ble n max && Nat.ble (off + 4 * n) 0x80000 && f.zero 0x0D 0x10 && f.zero data 64

/-- An immediate refusal of a fetched descriptor (R390, R398, R400): its fetch failed, or its ring does not accept its opcode. -/
def State.refusal (s : State) (r : Nat) (f : Fetched) : Option Nat :=
  let bound := (s.boundTo r).isSome
  if !f.ok then some csDMAERR
  else if Nat.blt 7 f.opcode || (bound && f.opcode != 0 && f.opcode != 5) then some csBADOP
  else if !bound && f.opcode = 5 then some csBADFIELD
  else none

/-! ### TXN (R395) -/

/-- The fields of a TXN descriptor are in range; bytes that its operation does not use are 0 (R389, R395). -/
def Fetched.txnOk (f : Fetched) : Bool :=
  f.headOk && f.zero 0x0D 0x10 &&
  match f.byteAt 8 with
  | 1 => f.zero 0x0A 64
  | 2 => f.zero 0x0A 0x0C && Nat.ble 1 (f.byteAt 0x0C) && Nat.ble (f.byteAt 0x0C) 11 && f.zero (0x14 + 4 * f.byteAt 0x0C) 64
  | 4 => f.zero 0x0C 0x0D && (match f.byteAt 0x0A with
      | 0 => f.zero 0x0B 64
      | 1 => Nat.blt (f.byteAt 0x0B) 12 && f.zero 0x10 64
      | 2 => Nat.blt (f.byteAt 0x0B) 12 && f.zero 0x10 64
      | 3 => f.zero 0x0B 0x0C && f.zero 0x16 0x18 && Nat.blt (f.fieldAt 0x18 4) (2 ^ 30) && f.zero 0x1C 64
      | _ => false)
  | 3 => f.zero 0x0A 64
  | 5 => f.zero 0x0A 64
  | _ => false

/-- STAGE of several words: all of them, or none where one fails (R422). -/
def State.stageAll (s : State) (tid off : Nat) (l : List Word) : State × Nat × Nat :=
  let go := l.foldl (fun (acc : State × Nat × Nat) v =>
    let o := acc.2.2
    if acc.2.1 = 0 then
      let p := acc.1.txStage tid o v
      (p.1, p.2, if p.2 = 0 then o + 4 else o)
    else acc) (s, 0, off)
  if go.2.1 = 0 then (go.1, 0, 0)
  else
    match s.txSlot tid with
    | some t => if s.txState t = txPENDING then (s, go.2) else ((s.setTxErr t go.2.1 go.2.2).touchTxn t, go.2)
    | none => (s, go.2)

/-- The end of a TXN step other than a COMMIT that waits; a failure shows its offset in RESULT bytes 0–3 (R395, R423). -/
def State.finishTxn (s : State) (r : Nat) (f : Fetched) (why off : Nat) : State :=
  if why = 0 then s.finish r f csSUCCESS 0 [] else s.finish r f csOPFAIL why (leBytes 4 off)

/-- TXN (R395): a COMMIT that is pending holds its ring. -/
def State.txnDesc (s : State) (r : Nat) (f : Fetched) : State :=
  let tid := f.byteAt 9
  match f.byteAt 8 with
  | 1 =>
    let p := s.txBegin
    if p.2.1 = 0 then p.1.finish r f csSUCCESS p.2.2 [] else p.1.finish r f csOPFAIL p.2.1 []
  | 2 =>
    let p := s.stageAll tid (f.fieldAt 0x10 4) ((List.range (f.byteAt 0x0C)).map fun k => f.word 0x14 k)
    p.1.finishTxn r f p.2.1 p.2.2
  | 3 =>
    let p := s.txValidate tid
    p.1.finishTxn r f p.2.1 p.2.2
  | 4 =>
    let sec := f.fieldAt 0x10 4 + 2 ^ 32 * f.fieldAt 0x14 2
    let p := s.txCommit tid (f.byteAt 0x0A) (f.byteAt 0x0B) (sec * ptpSecond + f.fieldAt 0x18 4 * 2 ^ 32) (some r)
    if p.2.1 = 0 then p.1.updRing r fun x => { x with waiting := some (f, tid) } else p.1.finishTxn r f p.2.1 p.2.2
  | _ =>
    let p := s.txRollback tid
    p.1.finishTxn r f p.2 0

/-! ### Descriptors without a row of their own -/

/-- HEARTBEAT (R393). -/
def State.heartbeatDesc (s : State) (r : Nat) (f : Fetched) : State :=
  if !f.headOk || !f.zero 0x0C 64 then s.finish r f csBADFIELD 0 []
  else
    let same := s.reg Reg.CHG_HB == f.word 8 0
    (s.heartbeat (f.word 8 0)).finish r f csSUCCESS (b2n same) []

/-- The front descriptor executes at once where it is refused, or is a HEARTBEAT or a TXN; the others are commands of their own. -/
def State.ownStep (s : State) (r : Nat) : State :=
  match s.front r with
  | none => s
  | some f =>
    match s.refusal r f with
    | some st => (s.popFront r).finish r f st 0 []
    | none =>
      if f.opcode = 4 then (s.popFront r).heartbeatDesc r f
      else if f.opcode = 6 then
        if f.txnOk then (s.popFront r).txnDesc r f else (s.popFront r).finish r f csBADFIELD 0 []
      else s

/-- Every descriptor of a ring that executes at once, in order (R388). -/
def State.drainOwn (s : State) (r : Nat) : State := s.each (List.range (s.ring r).queue.length) fun u _ => u.ownStep r

/-! ### DESCRIPTOR_FETCH -/

/-- DESCRIPTOR_FETCH (R386–R388): up to eight descriptors of the ring whose turn it is; where the read failed they complete with DMAERR. -/
def execDescriptorFetch (r : Fin 12) (ok : Bool) (s : State) : Res :=
  let r := r.val
  onlyIf (s.cdRun && s.fetchable r != 0 && s.firstInLine r) s fun s => (s.fetch r (s.fetchable r) ok).drainOwn r

/-- The front descriptor of a ring with the opcode of a row is executed: `bad` refuses it with BADFIELD. -/
def State.execFront (s : State) (r op : Nat) (good : Fetched → Bool) (act : State → Fetched → State) : Res :=
  match s.front r with
  | none => .next s
  | some f =>
    onlyIf (s.cdRun && f.opcode == op && (s.refusal r f).isNone) s fun s =>
      if good f then (act (s.popFront r) f).drainOwn r else ((s.popFront r).finish r f csBADFIELD 0 []).drainOwn r

/-- NOP (R390). -/
def execNop (r : Fin 12) (s : State) : Res :=
  s.execFront r.val 0 (fun f => f.headOk && f.zero 8 64) fun s f => s.finish r.val f csSUCCESS 0 []

/-! ### Register accesses (R391) -/

/-- REG_WRITE (R391): up to 12 words in ascending order, each as a host write. -/
def execRegWrite (r : Fin 12) (s : State) : Res :=
  s.execFront r.val 1 (fun f => f.regOk 12 (0x10 + 4 * f.byteAt 0x0C)) fun s f =>
    let s := s.each (List.range (f.byteAt 0x0C)) fun u k => u.busWrite .host (f.fieldAt 8 4 + 4 * k) (f.word 0x10 k)
    s.finish r.val f csSUCCESS 0 []

/-- A run of host reads, each with its effect. -/
def State.readRun (s : State) (off : Nat) : Nat → State × List Byte
  | 0 => (s, [])
  | n + 1 =>
    let p := s.busRead off
    let q := State.readRun p.1 (off + 4) n
    (q.1, leBytes 4 p.2.toNat ++ q.2)

/-- REG_READ (R391): up to 10 words into RESULT. -/
def execRegRead (r : Fin 12) (s : State) : Res :=
  s.execFront r.val 2 (fun f => f.regOk 10 0x10) fun s f =>
    let p := s.readRun (f.fieldAt 8 4) (f.byteAt 0x0C)
    p.1.finish r.val f csSUCCESS 0 p.2

/-! ### SETPOINT (R392) -/

/-- The fields of a SETPOINT descriptor are in range. -/
def Fetched.setpointOk (f : Fetched) : Bool :=
  let n := f.byteAt 0x0A
  f.headOk && Nat.blt (f.byteAt 8) 12 && Nat.blt (f.byteAt 9) 16 && Nat.ble n 12 && Nat.ble (f.byteAt 9 + n) 16 && Nat.ble (f.byteAt 0x0B) 1 &&
    f.zero 0x0E 0x10 && f.zero (0x10 + 4 * n) 64

/-- SETPOINT (R392): the staging writes and the post in one handshake; REASON names a replaced sequence number. -/
def execSetpoint (r : Fin 12) (s : State) : Res :=
  s.execFront r.val 3 Fetched.setpointOk fun s f =>
    let k := f.byteAt 8
    let s := s.each (List.range (f.byteAt 0x0A)) fun u i => u.busWrite .host (Reg.CLU_SP k (f.byteAt 9 + i)) (f.word 0x10 i)
    if f.byteAt 0x0B = 1 then
      let old := (s.cluster k).spPend
      let s := s.busWrite .host (Reg.CLU_SP_POST k) (BitVec.ofNat 32 (f.fieldAt 0x0C 2))
      s.finish r.val f csSUCCESS (match old with | some q => 65536 + q | none => 0) []
    else s.finish r.val f csSUCCESS 0 []

/-! ### CAN_TX (R366, R394) -/

/-- The length of the frame that a CAN_TX descriptor carries. -/
def Fetched.canLength (f : Fetched) : Nat := if bitOf (f.fieldAt 0x0C 4) 30 then 0 else canLen (bitOf (f.fieldAt 0x0C 4) 31) (f.byteAt 0x10 % 16)

/-- The fields of a CAN_TX descriptor are in range, for controller `x`. -/
def Fetched.canOk (x : Nat) (f : Fetched) : Bool :=
  f.headOk && f.byteAt 8 == x && Nat.ble (f.byteAt 9) 1 && f.zero 0x0A 0x0C && Nat.blt (f.byteAt 0x10) 32 && f.zero 0x11 0x18 &&
    (if f.byteAt 9 = 1 then f.fieldAt 0x18 8 % 8 == 0 && f.zero 0x20 64 else Nat.ble f.canLength 40 && f.zero (0x18 + f.canLength) 64)

/-- The lowest-numbered buffer that the host owns (R366). -/
def State.freeBuffer (s : State) (x : Nat) : Option Nat := [0, 1, 2].find? fun b => !s.canOwns x b

/-- A buffer takes the frame of a descriptor. -/
def State.fillBuffer (s : State) (x b : Nat) (f : Fetched) (data : List Byte) : State :=
  let s := (s.setNat (Reg.CAN_TB_ID x b) (f.fieldAt 0x0C 4)).setNat (Reg.CAN_TB_CTL x b) (f.byteAt 0x10)
  let ws := wordsOf (data ++ List.replicate 64 0) 16
  s.each (List.range 16) fun u i => if Nat.blt (4 * i) data.length then u.setNat (Reg.CAN_TB_DATA x b i) (ws.getD i 0) else u

/-- CAN_TX (R366, R394): into the lowest-numbered buffer that the host owns; it waits while there is none. STATE where the controller is
disabled, DMAERR where the data could not be read. -/
def execCanTx (r : Fin 12) (dma : DmaRes) (s : State) : Res :=
  match s.boundTo r.val with
  | none => .next s
  | some x =>
    let on := s.bit (Reg.CAN_CTRL x) Fld.CAN_CTRL_EN
    let bad := (s.front r.val).any fun f => !f.canOk x
    let free := s.freeBuffer x
    if on && !bad && free.isNone then .next s
    else
      s.execFront r.val 5 (Fetched.canOk x) fun s f =>
        if !on then s.finish r.val f csSTATE 0 []
        else if f.byteAt 9 = 1 && !dma.ok then s.finish r.val f csDMAERR 0 []
        else
          let b := free.getD 0
          let data := if f.byteAt 9 = 1 then s.hostBytes (f.fieldAt 0x18 8) f.canLength else (f.bytes.drop 0x18).take f.canLength
          ((s.fillBuffer x b f data).canLoad x b).updRing r.val fun q => { q with inBuf := q.inBuf ++ [(f, b)] }

/-! ### LEDGER_READ (R230, R396) -/

/-- A journal record as stored (R230): 1,024 bytes, the last four its CRC-32C. -/
def JRec.bytes (r : JRec) : List Byte :=
  let gap (l : List Nat) : List Byte := (List.range 12).flatMap fun a => leBytes 8 (l.getD a 0)
  let body := leBytes 4 0x5247444C ++ leBytes 1 r.kind ++ leBytes 1 r.region ++ leBytes 2 r.tags ++ leBytes 8 r.ivl ++ leBytes 8 r.t1 ++
    leBytes 8 r.t2 ++ leBytes 8 r.ptps ++ leBytes 4 r.ptpn ++ leBytes 4 (unsigned 32 r.v2) ++
    ((List.range 52).flatMap fun i => leBytes 12 (r.cnts.getD i 0)) ++ gap r.gapQ ++ gap r.gapE ++ leBytes 8 r.first ++
    List.replicate 148 0
  body ++ leBytes 4 (crc32c body)

/-- The fields of a LEDGER_READ descriptor are in range. -/
def State.ledgerOk (s : State) (f : Fetched) : Bool :=
  f.headOk && Nat.blt (f.byteAt 8) s.variant.regions && f.zero 9 0x0C && Nat.ble 1 (f.fieldAt 0x0C 4) && Nat.ble (f.fieldAt 0x0C 4) 8192 &&
    f.fieldAt 0x18 8 % 64 == 0 && f.zero 0x20 64

/-- The records of a region that a read from interval `first` copies, at most `n` (R396). -/
def State.recordsFrom (s : State) (g first n : Nat) : List JRec :=
  ((s.journal.filter fun r => r.region == g).dropWhile fun r => Nat.blt r.ivl first).take n

/-- LEDGER_READ (R396): records copied as stored, oldest first; DMAERR where the host memory could not be written. -/
def execLedgerRead (r : Fin 12) (ok : Bool) (s : State) : Res :=
  s.execFront r.val 7 s.ledgerOk fun s f =>
    let g := f.byteAt 8
    let first := f.fieldAt 0x10 8
    let recs := s.recordsFrom g first (f.fieldAt 0x0C 4)
    let older := match s.journal.find? fun j => j.region == g with
      | some j => Nat.blt first j.ivl
      | none => false
    if !ok then s.finish r.val f csDMAERR 0 []
    else
      let s := s.putHost (f.fieldAt 0x18 8) (recs.flatMap JRec.bytes)
      let ivl (o : Option JRec) : Nat := (o.map (·.ivl)).getD 0
      s.finish r.val f csSUCCESS (b2n older)
        (leBytes 4 recs.length ++ leBytes 4 0 ++ leBytes 8 (ivl recs.head?) ++ leBytes 8 (ivl recs.getLast?))

end Sys2Proof.Machine
end

