-- ==== Sys2Proof/Machine/Clock.lean ====
section
/-!
DEFINITION. The timing domains (R12) and Ringmaster's measurement of TB (R13).
-/

namespace Sys2Proof.Machine

/-- Presence of domain `d`, in the state and in CLK_STAT. -/
def State.setClock (s : State) (d : Nat) (present : Bool) : State :=
  { s.setFld Reg.CLK_STAT ⟨d, 1⟩ (b2n present) with
    power := { s.power with clkLost := putBit s.power.clkLost d (!present) } }

/-- Carrier alignment is lost with TD10 on a module that follows (R12, R113). -/
def State.syncClockLost (s : State) : State :=
  let st := s.fld Reg.EDG_ALIGN_STAT Fld.EDG_ALIGN_STAT_STATE
  if s.sysOn && s.role != roLEADER && (st == 1 || st == 2) then (s.setAlign 3).raiseMask .align 4 else s

/-- The reaction to the loss of a clock (R12); `groups` are the modulator clocks MCLK0–MCLK3 that fail their read-back (R252). -/
def State.clockReaction (s : State) (d : Nat) (groups : Nat) : State :=
  match d with
  | 0 => ((s.setBit Reg.CLK_STAT ⟨16, 1⟩ true).record Reg.CLK_FLAGS 1 [0]).enterHoldover
  | 1 => s.packageSafe 0x0E (2 ^ 22)
  | 2 => s.cdSafe 0x0F
  | 3 => (s.raise .meas 3).markInvalid (((List.range 24).filter fun i => bitOf groups (i / 6)).map fun i => SrcId.mod (Fin.ofNat 24 i))
  | 4 => s.outageBegins
  | 5 => if s.bit Reg.HIF_STAT Fld.HIF_STAT_LINKUP then s.linkLost else s
  | 6 => s.portChange 0 fun u => u.setBit (Reg.ETH_P_STAT 0) Fld.ETH_P_STAT_REFOK false
  | 7 => s.portChange 1 fun u => u.setBit (Reg.ETH_P_STAT 1) Fld.ETH_P_STAT_REFOK false
  | 8 => s.enterHoldover
  | 9 => s.canFollow
  | 10 => s.syncClockLost
  | 11 => s.cdSafe 0x0F
  | 12 => (s.updRm fun r => { r with td12Lost := true }).rmFinding
  | _ => s.each (List.range 4) State.svrSyncLost

/-- The die that finds the loss of a clock runs (R12): Ringmaster for its own TD12, the control die for the others. -/
def State.clockWatched (s : State) (d : Nat) : Bool := if d = 12 then s.rmRun else s.cdRun

/-- CLOCK_LOSS (R12, R13): the loss flag of the domain, while the control die runs, and its reaction. One modulator clock may fail after
another (R252). -/
def execClockLoss (d : Fin 14) (groups : Fin 16) (s : State) : Res :=
  let d := d.val
  onlyIf (s.clockWatched d && (d == 3 || !s.clockOut d)) s fun s =>
    let s := s.setClock d false
    (s.raiseIf (s.cdRun && d != 8) .clk d).clockReaction d groups.val

/-- What the return of a clock resumes (R12): holdover of TB ends, metering resumes (R234), the CAN controllers integrate afresh (R376). -/
def State.clockResumes (s : State) (d : Nat) : State :=
  match d with
  | 0 => s.setBit Reg.CLK_STAT ⟨16, 1⟩ false
  | 1 => s.causeGone (2 ^ 22)
  | 4 => s.outageEnds
  | 6 => s.setBit (Reg.ETH_P_STAT 0) Fld.ETH_P_STAT_REFOK true
  | 7 => s.setBit (Reg.ETH_P_STAT 1) Fld.ETH_P_STAT_REFOK true
  | 9 => s.canFollow
  | 12 => (s.updRm fun r => { r with td12Lost := false }).intFollow
  | _ => s

/-- CLOCK_RETURN (R12). TD8 is present again only when PTP locks (R348). -/
def execClockReturn (d : Fin 14) (s : State) : Res :=
  let d := d.val
  onlyIf ((d == 12 || s.cdRun) && s.clockOut d) s fun s =>
    let s := if d = 8 then { s with power := { s.power with clkLost := putBit s.power.clkLost 8 false } } else s.setClock d true
    s.clockResumes d

/-- TB_DEVIATION_WINDOW (R13): the deviation of a window in 0.001 %; 16 in a row beyond 5 % are the loss of TD1 (R12): its flag, unless the
loss is known already, and a demand. -/
def execTbDeviationWindow (dev : Int) (s : State) : Res :=
  onlyIf (s.rmRun && !s.rm.td12Lost) s fun s =>
    let n := if 5000 < dev ∨ dev < -5000 then min (s.rm.tbDev + 1) 255 else 0
    let s := (s.updRm fun r => { r with tbDev := n }).setNat Reg.CLK_TBDEV (n * 65536 + unsigned 16 (satI 16 dev))
    if n = 16 then (s.raiseIf (s.cdRun && !s.clockOut 1) .clk 1).packageSafe 0x0E (2 ^ 22)
    else if n = 0 && !s.clockOut 1 then s.causeGone (2 ^ 22)
    else s

end Sys2Proof.Machine
end

