-- ==== Sys2Proof/Machine/Power.lean ====
section
/-!
DEFINITION. Supplies, banks and rails (R34, R50–R59), and the power-down sequences.
-/

namespace Sys2Proof.Machine

/-- Supply or rail `b` outside its window: 0 VAUX_A, 1 VAUX_B, 2 VSO, 3–8 VIO0–VIO5, 9 control, 10 measurement, 11 memory, 12 store, 13–36
driver dies, 37 Ringmaster. SUPPLY_OUT is 1 while any is (R34). -/
def State.setOut (s : State) (b : Nat) (on : Bool) : State :=
  let s := s.updPower fun p => { p with out := putBit p.out b on }
  s.setCond 0 (s.power.out != 0)

/-- The number of a supply in that list. -/
def supplyBit : Supply → Nat
  | .vauxA => 0 | .vauxB => 1 | .vso => 2 | .vio x => 3 + x.val

/-! ### I/O banks (R52) -/

/-- Bank `x` leaves its window: VIO_OK clears, VIO_OUT is set; with VIO0 the host link is lost. SUPPLY_OUT follows the window of R50, not
this one (R34). -/
def State.vioLeave (s : State) (x : Nat) : State :=
  let s := (s.setFld Reg.PWR_SUPSTAT ⟨3 + x, 1⟩ 0).raise .pwr (6 + x)
  let s := if x = 0 && s.bit Reg.HIF_STAT Fld.HIF_STAT_LINKUP then s.linkLost else s
  s.unitsFollow

/-- VIO_ENTER_WINDOW (R52). -/
def execVioEnterWindow (x : Fin 6) (s : State) : Res :=
  onlyIf (s.cdRun && !s.vioOk x.val) s fun s => (s.setFld Reg.PWR_SUPSTAT ⟨3 + x.val, 1⟩ 1).unitsFollow

/-- VIO_LEAVE_WINDOW (R52). -/
def execVioLeaveWindow (x : Fin 6) (s : State) : Res := onlyIf (s.cdRun && s.vioOk x.val) s fun s => s.vioLeave x.val

/-! ### Loss of VAUX_A (R54, R55) -/

/-- VAUX_A below its falling threshold, as the supervision shows it. -/
def State.vauxAUnder (s : State) : State :=
  let s := s.updPower fun p => { p with vauxA := false }
  ((s.setFld Reg.PWR_SUPSTAT ⟨0, 1⟩ 0).raise .pwr 0).setOut 0 true

/-- The sequence of R54, or of R55 without a charged pack: the package safe state with cause 0x16, the ledger's loss record, the end of a freeze
and of a COPY (R439, R443) and of the COMMISSION session (R83); with the pack, it feeds the dies and a recorder entry names the notices held (R417). A further
undervoltage in the sequence changes only the supply: the sequence runs to its end. -/
def State.vauxALost (s : State) : State :=
  let s := s.vauxAUnder
  if s.power.lossAt.isSome then s
  else
    let pack := !s.bit Reg.GLB_GUARD ⟨2, 1⟩
    let s := s.updPower fun p => { p with lossAt := some s.now, onPack := pack }
    let s := if s.bit Reg.REC_STAT Fld.REC_STAT_FROZEN then s.endFreeze false else s
    let s := { s with recst := { s.recst with copying := none } }
    let s := (s.packageSafe 0x16 dmCD).causeGone dmCD
    let s := if pack then s.record Reg.PWR_FLAGS 1 (1 :: s.noticesHeld) else s
    let s := s.ledgerLoss pack
    let s := { s.endSession with auths := {} }
    if pack then (s.setBit Reg.PWR_SUPSTAT Fld.PWR_SUPSTAT_ON_HOLDUP true).setHstate 7 else s

/-- A supply that only Ringmaster can watch, or none, while the dies are down: its level, without flag or reaction. -/
def State.supplyLevel (s : State) (b : Nat) (out : Bool) (f : Power → Power) : State :=
  (s.updPower f).updPower fun p => { p with out := putBit p.out b out }

/-- VAUX_A_LOSS (R54, R55, R66): the undervoltage is confirmed; with the dies down it only keeps them from starting. -/
def execVauxALoss (s : State) : Res :=
  onlyIf s.power.vauxA s fun s => if s.cdRun then s.vauxALost else s.supplyLevel 0 true fun p => { p with vauxA := false }

/-- What the persistent store holds besides the journal, as it stands when its rail leaves its window (R59). -/
def State.storeImage (s : State) : StoreImage :=
  { store := s.store, recs := s.recStore, clears := s.clearLog, slots := s.drvs.map fun p => (p.1, p.2.failed, p.2.fcount) }

/-- Writes held in DRAM while the store rail is out are lost with the dies (R59): the store is as the rail left it, but for what the fuses and
Ringmaster's own memory hold. -/
def State.dropHeld (s : State) : State :=
  match s.power.stored with
  | none => s
  | some i =>
    let p := s.store
    let s := { s with recStore := i.recs, clearLog := i.clears,
                      store := { i.store with owner := p.owner, revoked := p.revoked, rollback := p.rollback, conf := p.conf, pars := p.pars,
                                              safeAt := p.safeAt } }
    s.each s.slots fun u n => u.updDrv n fun d =>
      match i.slots.find? fun x => x.1 == n with
      | some x => { d with failed := x.2.1, fcount := x.2.2 }
      | none => { d with failed := false, fcount := 0 }

/-- The dies power down (R54, R55): the device is in OFF. Entries still queued for the store, ledger records and writes held for the store rail
are lost; internal rails of the dies are no longer watched. -/
def State.dieDown (s : State) (held : Bool) : State :=
  let s := { s.dropHeld.ledgerDown with cdRun := false, recQueue := [], events := [], cmdWait := none }
  s.updPower fun p =>
    { p with lossAt := none, onPack := false, holdupRun := held, storeHeld := false, stored := none,
             out := p.out % 512 + p.out / 2 ^ 37 * 2 ^ 37 }

/-- What the sequence writes is in the store, as far as the store takes writes (R54 step 5). -/
def State.lossWritten (s : State) : Bool :=
  (!s.writable 0 || s.rgns.all fun g => (s.ldg g).held.isEmpty) && (!s.writable 2 || s.recQueue.isEmpty)

/-- HOLDUP_SEQUENCE_END (R54): once the records are written, at the latest 50 ms after the loss. -/
def execHoldupSequenceEnd (s : State) : Res :=
  match s.power.lossAt with
  | none => .next s
  | some t => onlyIf (s.cdRun && s.power.onPack && (s.lossWritten || s.since t (ms 50))) s fun s => s.dieDown true

/-- RESERVE_POWER_DOWN (R55): once the ledger records are written, at the latest 1 ms after the loss. -/
def execReservePowerDown (s : State) : Res :=
  match s.power.lossAt with
  | none => .next s
  | some t =>
    onlyIf (s.cdRun && !s.power.onPack && ((s.rgns.all fun g => (s.ldg g).held.isEmpty) || s.since t (ms 1))) s fun s => s.dieDown false

/-- VAUX_A_RISE (R53): above its rising threshold of 17.5 V; SEQERR where VAUX_B is absent, shown at BOOT. SUPPLY_OUT waits for the window of
R50 (R34). -/
def execVauxARise (s : State) : Res :=
  onlyIf (!s.power.vauxA) s fun s =>
    let s := s.updPower fun p => { p with vauxA := true, seqErr := p.seqErr || !p.vauxB }
    if s.cdRun then s.setFld Reg.PWR_SUPSTAT ⟨0, 1⟩ 1 else s

/-! ### Ringmaster's supply (R56, R68, R338) -/

/-- Ringmaster stops: the lines fall to their off level and every safety output de-energises. -/
def State.rmStops (s : State) : State :=
  let s := (s.linesOff 0xFFFFFF).outputsOff 0xFF
  ({ s with rmRun := false }.updRm fun r => { vbTicks := r.vbTicks, failed := r.failed, noImage := r.noImage }).rmFollow

/-- VAUX_B is lost. -/
def State.vauxBLost (s : State) : State :=
  if !s.power.vauxB then s
  else
    let s := s.updPower fun p => { p with vauxB := false }
    let s := if s.cdRun then ((s.setFld Reg.PWR_SUPSTAT ⟨1, 1⟩ 0).raise .pwr 2).setOut 1 true else s
    s.rmStops

/-- VAUX_B_LOSS (R56, R58). -/
def execVauxBLoss (s : State) : Res := onlyIf s.power.vauxB s State.vauxBLost

/-- RINGMASTER_ABSENT (R56): the control die enters SAFE with cause 0x15. -/
def execRingmasterAbsent (s : State) : Res :=
  onlyIf (s.cdRun && !s.rmRun && !s.rm.ready) s fun s => s.packageSafe 0x15 0

/-- Ringmaster's own supply is inside its window (R56, R59). -/
def State.rmRail (s : State) : Bool := !bitOf s.power.out 37

/-- Ringmaster starts from its ROM with the SAFE block at its reset values (R68, R451). -/
def State.rmStarts (s : State) : State :=
  let s := { s with regs := s.regs.filter fun c => Nat.blt c.1 0x48000 || Nat.ble 0x50000 c.1, rmRun := false }
  let s := s.updRm fun r => { vbTicks := r.vbTicks, relAt := some s.now }
  s.updPower fun p => { p with vauxB := true }

/-- What Ringmaster loads from its non-volatile memory (R338, R451): the confirmed value, the last delivered set and its check value. -/
def State.rmLoads (s : State) : State :=
  let s := s.setNat Reg.SAFE_CHK_CONF (s.store.conf.getD 0)
  if s.store.pars.isEmpty then s
  else
    let s := s.each (List.range 64) fun u w => u.setReg (Reg.SAFE_PAR w) (s.store.pars.getD w 0)
    s.setNat Reg.SAFE_CHK_CALC (checkValue s.store.pars)

/-- VSO outside its window: every output de-energises, a demand; while the control die runs, its flag. -/
def State.vsoOut (s : State) (above : Bool) : State :=
  let s := if s.cdRun then ((s.setFld Reg.PWR_SUPSTAT ⟨2, 1⟩ 0).raise .pwr (if above then 5 else 4)).setOut 2 true else s
  s.packageSafe 0x0E (2 ^ 20)

/-- Ringmaster signals ready, or failed (R68). A VSO outside its window is a demand from then on (R57). While the control die runs outside BOOT
it arms on its stored set (R338). -/
def State.rmUp (s : State) (selfTest : Bool) : State :=
  let s := { s with rmRun := selfTest }.updRm fun r => { r with ready := true, failed := !selfTest, aliveAt := s.now }
  let s := s.rmLoads.showCores
  let s := if selfTest && !s.power.vso then s.packageSafe 0x0E (2 ^ 20) else s
  if selfTest && s.cdRun && s.dev != stBOOT && !s.store.pars.isEmpty then (s.loadPars s.store.pars).rmFollow else s.rmFollow

/-- VAUX_B_RISE (R68): Ringmaster starts; it is ready after its firmware verification and self-test. -/
def execVauxBRise (s : State) : Res :=
  onlyIf (!s.power.vauxB) s fun s =>
    let s := s.rmStarts
    if s.cdRun then s.setFld Reg.PWR_SUPSTAT ⟨1, 1⟩ 1 else s

/-- Ringmaster's start ends (R68–R71): its ROM has verified its firmware under R70 and its self-test is done, or no copy booted. -/
def State.rmBoots (s : State) (v : Verdicts) (selfTest : Bool) : State :=
  let r := s.bootKind 0 v
  let s := r.1
  match r.2 with
  | some (b, fell) =>
    let s := (s.setBit Reg.GLB_BOOTSTAT Fld.GLB_BOOTSTAT_RM_IMG b).setBit Reg.GLB_BOOTSTAT Fld.GLB_BOOTSTAT_FALLBACK fell
    (s.updRm fun r => { r with noImage := none }).rmUp selfTest
  | none =>
    let why := s.noBootCause 0 v
    (s.updRm fun r => { r with ready := true, noImage := some why }).rmFollow

/-- RINGMASTER_READY (R68–R71). -/
def execRingmasterReady (v : Verdicts) (selfTest : Bool) (s : State) : Res :=
  onlyIf (s.power.vauxB && s.rmRail && !s.rm.ready) s fun s => s.rmBoots v selfTest

/-- VAUX_B_RETURN (R56, R69): while the control die runs, Ringmaster restarts from its ROM, which verifies its firmware, and arms on its stored
set. -/
def execVauxBReturn (v : Verdicts) (selfTest : Bool) (s : State) : Res :=
  onlyIf (s.cdRun && s.rmRail && !s.rmRun && !s.rm.ready) s fun s =>
    (s.rmStarts.setFld Reg.PWR_SUPSTAT ⟨1, 1⟩ 1).rmBoots v selfTest

/-! ### VSO and the internal rails (R57, R59) -/

/-- VSO_EXCURSION (R57). Ringmaster watches VSO, also with the dies down; one that does not run finds it at its next start. -/
def execVsoExcursion (above : Bool) (s : State) : Res :=
  onlyIf true s fun s =>
    let s := s.supplyLevel 2 true fun p => { p with vso := false }
    if s.rmRun then s.vsoOut above else s

/-- The store rail leaves its window (R59): writes are held from now on. -/
def State.holdStore (s : State) : State :=
  s.updPower fun p => { p with storeHeld := true, stored := some (p.stored.getD s.storeImage) }

/-- RAIL_FAULT (R59): Ringmaster's own rail at any time, the others while the dies run. DESIGN CHOICE (log 83): a driver die's rail sets
BIAS_H of its slot, as the rule names no channel; unsafe for a claim that BIAS_H means the high channel. -/
def execRailFault (die : DieRail) (s : State) : Res :=
  onlyIf (s.cdRun || die == .ringmaster) s fun s =>
    match die with
    | .control => ((s.setOut 9 true).raise .pwr 15).cdSafe 0x0F
    | .measurement => (s.setOut 10 true).cdSafe 0x0F
    | .dram => (s.setOut 11 true).cdSafe 0x0F
    | .store => (s.setOut 12 true).holdStore
    | .driver n => if Nat.blt n.val s.variant.slots then (s.setOut (13 + n.val) true).slotFault n.val Fld.GDV_STAT_H_BIAS 3 else s
    | .ringmaster => (if s.cdRun then s.setOut 37 true else s.supplyLevel 37 true id).rmStops

/-- The store rail is back: held writes proceed (R59). -/
def State.storeBack (s : State) : State :=
  (s.updPower fun p => { p with storeHeld := false, stored := none }).setOut 12 false

/-- STORE_RAIL_RETURN (R59). -/
def execStoreRailReturn (s : State) : Res := onlyIf (s.cdRun && s.power.storeHeld) s State.storeBack

/-! ### Thresholds (R34, R51) -/

/-- Whether a part that supervises a supply runs (R51). -/
def State.supervised (s : State) : Supply → Bool
  | .vauxA => s.cdRun || s.rmRun
  | .vauxB | .vso => s.rmRun
  | .vio _ => s.cdRun

/-- SUPPLY_EXCURSION (R34, R51): outside its operating window, and, where it has crossed a threshold of R51, its flag and its reaction. A reading
above its absolute maximum goes to the safety log (R459). With the dies down only the supplies that Ringmaster or the start of the device need
are followed. -/
def execSupplyExcursion (sup : Supply) (above crossed beyond : Bool) (s : State) : Res :=
  onlyIf true s fun s =>
    let s := if beyond && s.supervised sup then s.logSafety 0x50 (supplyBit sup) 0 else s
    let s := if s.cdRun then s.setOut (supplyBit sup) true else s.supplyLevel (supplyBit sup) true id
    if !crossed then s
    else match sup with
      | .vauxA =>
        if !s.cdRun then s.updPower fun p => { p with vauxA := p.vauxA && above }
        else if above then (s.setFld Reg.PWR_SUPSTAT ⟨0, 1⟩ 0).raise .pwr 1
        else if s.power.vauxA then s.vauxALost else s
      | .vauxB => if !above then s.vauxBLost else if s.cdRun then (s.setFld Reg.PWR_SUPSTAT ⟨1, 1⟩ 0).raise .pwr 3 else s
      | .vso =>
        let s := s.updPower fun p => { p with vso := false }
        if s.rmRun then s.vsoOut above else s
      | .vio x => if s.cdRun && s.vioOk x.val then s.vioLeave x.val else s

/-- An internal rail is inside its window again (R34, R59); where it is Ringmaster's own, it starts from its ROM (R56). -/
def State.railBack (s : State) (die : DieRail) : State :=
  let clear (s : State) (b : Nat) : State := if s.cdRun then s.setOut b false else s.supplyLevel b false id
  match die with
  | .control => clear s 9
  | .measurement => clear s 10
  | .dram => clear s 11
  | .store => s.storeBack
  | .driver n => clear s (13 + n.val)
  | .ringmaster =>
    let s := clear s 37
    if s.power.vauxB && !s.rmRun && !s.rm.ready then s.rmStarts else s

/-- SUPPLY_RETURN (R34): a supply of R50 inside its operating window, or an internal rail inside its supervision window, again. A bank's VIO_OK
follows R52; the cause of a VSO demand is absent (R321). -/
def execSupplyReturn (r : Returned) (s : State) : Res :=
  match r with
  | .rail die => onlyIf (s.cdRun || die == .ringmaster) s fun s => s.railBack die
  | .supply sup =>
    onlyIf true s fun s =>
      let s := if s.cdRun then s.setOut (supplyBit sup) false else s.supplyLevel (supplyBit sup) false id
      let lamp (s : State) (b : Nat) (on : Bool) : State := if s.cdRun then s.setFld Reg.PWR_SUPSTAT ⟨b, 1⟩ (b2n on) else s
      match sup with
      | .vauxA => lamp s 0 s.power.vauxA
      | .vauxB => lamp s 1 s.power.vauxB
      | .vso => (lamp (s.updPower fun p => { p with vso := true }) 2 true).causeGone (2 ^ 20)
      | .vio _ => s

end Sys2Proof.Machine
end

