-- ==== Sys2Proof/Machine/Boot.lean ====
section
/-!
DEFINITION. Entry to BOOT, secure boot, and the release of LOCKOUT (R65, R68–R71, R81, R82, R451).
-/

namespace Sys2Proof.Machine

/-- Registers that entry to BOOT leaves: the SAFE block (R451), the wear that the partitions keep (R431). -/
def keptAtBoot (a : Nat) : Bool := (Nat.ble 0x48000 a && Nat.blt a 0x50000) || (List.range 5).any fun x => a == Reg.REC_WEAR x

/-- The state in which the dies leave reset (R14, R65, R451): TB 0, every register at its reset value but those kept, every unit of the dies at
rest, DRAM empty; host memory, the persistent store, Ringmaster and the supplies go on. -/
def State.bootFresh (s : State) : State :=
  { State.reset with
    variant := s.variant, now := s.now, rmRun := s.rmRun, regs := s.regs.filter fun c => keptAtBoot c.1, hostMem := s.hostMem,
    recStore := s.recStore, safetyLog := s.safetyLog, clearLog := s.clearLog, recst := { issued := s.recst.issued, due := s.recst.due },
    drvs := s.drvs.map fun p => (p.1, { failed := p.2.failed, fcount := p.2.fcount, lineOffAt := p.2.lineOffAt }),
    ldgs := s.ldgs.map fun p => (p.1, { fracs := p.2.fracs, lost := p.2.lost }), journal := s.journal,
    pack := { q := s.pack.q }, snet := { fbAt := s.now, watch := some s.now }, store := s.store,
    power := { s.power with seqErr := false, holdupRun := false, lossAt := none, onPack := false,
                             extRef := s.bit Reg.CLK_REFCFG ⟨0, 1⟩ },
    rm := { s.rm with armed := false, delivered := false, image := 0, holds := [], soOffs := [], fenceOff := 0, snOff := 0 },
    modid := s.modid, draws := s.draws, pending := s.pending, slackCd := { startAt := s.now }, slackMd := { startAt := s.now } }

/-- The values loaded from the persistent store during BOOT (R451), `old` being the state before. -/
def State.bootLoads (s old : State) : State :=
  let p := s.store
  let rmImg := old.bit Reg.GLB_BOOTSTAT Fld.GLB_BOOTSTAT_RM_IMG
  let s := ((s.setBit Reg.GLB_COMLOCK Fld.GLB_COMLOCK_LOCKED p.locked).setBit Reg.GLB_COMLOCK Fld.GLB_COMLOCK_EVER_LOCKED p.ever).setFld
    Reg.GLB_COMLOCK Fld.GLB_COMLOCK_LOCK_CNT p.lockCnt
  let s := (s.setBit Reg.GLB_BOOTSTAT Fld.GLB_BOOTSTAT_RM_IMG rmImg).setBit Reg.GLB_BOOTSTAT Fld.GLB_BOOTSTAT_FIRST_KEY p.keys.isEmpty
  let s := (s.setBit Reg.GLB_BOOTSTAT Fld.GLB_BOOTSTAT_FALLBACK (old.bit Reg.GLB_BOOTSTAT Fld.GLB_BOOTSTAT_FALLBACK && !s.rm.noImage.isSome)).showRollback
  let s := if s.rm.ready && s.rm.noImage.isNone then s.setNat Reg.GLB_FWVER_RM (s.image 0 rmImg).fwver else s
  let s := s.setNat Reg.HIF_EPOCH ((old.reg Reg.HIF_EPOCH).toNat + 1)
  let s := s.each s.slots fun u n =>
    (u.setFld (Reg.GDV_STAT n) Fld.GDV_STAT_FCOUNT (u.drv n).fcount).setBit (Reg.GDV_STAT n) Fld.GDV_STAT_H_FAILED (u.drv n).failed
  let s := s.setNat64 Reg.REC_SEQ_LO Reg.REC_SEQ_HI (old.reg64 Reg.REC_SEQ_LO Reg.REC_SEQ_HI)
  let s := s.setNat64 Reg.REC_OLDEST_LO Reg.REC_OLDEST_HI (old.reg64 Reg.REC_OLDEST_LO Reg.REC_OLDEST_HI)
  s.showPack.showSafeCnt

/-- What the power-down left to report: HOLDUP_RUN, SEQERR, the conditions of R34, supplies as they are (R32, R53, R54). -/
def State.bootReports (s old : State) : State :=
  let s := s.raiseIf old.power.holdupRun .pwr 13
  let s := s.raiseIf old.power.seqErr .pwr 14
  let s := (s.setFld Reg.PWR_SUPSTAT ⟨0, 1⟩ (b2n s.power.vauxA)).setFld Reg.PWR_SUPSTAT ⟨1, 1⟩ (b2n s.power.vauxB)
  let s := s.setFld Reg.PWR_SUPSTAT ⟨2, 1⟩ (b2n s.power.vso)
  let s := if s.power.out = 0 then s else s.setCond 0 true
  if (List.range 5).any s.worn then (s.setCond 3 true).showWorn else s

/-- The sequence numbers issued and without an entry get a breach record that names their range (R433). -/
def State.bootLost (s : State) (last : Nat) : State :=
  let kept := max ((s.recStore.getLast?.map (·.seq)).getD 0) ((s.clearLog.getLast?.map (·.last)).getD 0)
  if Nat.blt kept last then s.breach Reg.REC_SEQ_LO [kept + 1, last] else s

/-- A breach record for each deadline job that was open when the dies went down (R30, R32). -/
def State.jobsLost (s old : State) : State :=
  s.each old.trmons fun u p =>
    let m := p.1
    let seq := old.fld (Reg.CLK_TR_STAT m) Fld.CLK_TR_STAT_SEQ
    let u := match p.2.late with
      | some (q, _) => u.breach (Reg.CLK_TR_STAT m) [m, q]
      | none => u
    if old.trState m = 2 then u.breach (Reg.CLK_TR_STAT m) [m, seq] else u

/-- A breach record for each notice that was held when the dies went down without the recorder entry of R54 that names it (R30, R32, R417). -/
def State.noticesLost (s old : State) : State :=
  if old.power.holdupRun then s
  else s.each old.mbx fun u p =>
    if p.2.busy then u.breach (Reg.MBX_CH_STAT p.1.1) [p.1.1, p.2.tag, p.2.repoch] else u

/-- Breach records that wait from before are queued (R32). -/
def State.breachesDue (s : State) : State := s.each s.recst.due fun u _ => u.breachDue

/-- The hardware thermal shutdown across BOOT (R80, R269): where VAUX_A was cycled, Ringmaster's shutdown of an IVX-7624 is over; on the release of
LOCKOUT it stands, with the latch of R268. -/
def State.bootThermal (s old : State) (cycled : Bool) : State :=
  if s.variant != .v7624 then s
  else if cycled then s.setBit Reg.SAFE_STAT Fld.SAFE_STAT_HWSD false
  else s.setBit Reg.THM_STAT Fld.THM_STAT_LATCHED (old.bit Reg.THM_STAT Fld.THM_STAT_LATCHED)

/-- A cause that takes BOOT to LOCKOUT before Huavos is verified (R65, R71, R81), in that order: one recorded, Ringmaster's self-test, no
Ringmaster firmware, the commissioning-lock record. -/
def State.bootCause (s : State) (lockOk : Bool) : Option Nat :=
  match s.store.lockout, s.rm.failed, s.rm.noImage, lockOk with
  | some c, _, _, _ => some c
  | none, true, _, _ => some 0x13
  | none, false, some c, _ => some c
  | none, false, none, false => some 0x12
  | none, false, none, true => none

/-- BOOT is entered (R14, R42, R65, R451), from OFF (`cycled`) or by the release of LOCKOUT; MODID is sampled once. -/
def State.bootNow (s : State) (cycled : Bool) (b : BootIn) : State :=
  let old := s
  let last := s.recst.issued
  let s := { s.bootFresh with cdRun := true, modid := b.modid.val }
  let s := (s.bootTrials.setFld Reg.CLU_SYS_STAT Fld.CLU_SYS_STAT_MODID b.modid.val).bootThermal old cycled
  let s := (((s.bootLoads old).bootReports old).bootLost last).breachesDue
  let s := (s.jobsLost old).noticesLost old
  let s := (s.raise .chgSn 0).record Reg.CHG_SN_STAT 1 [1]
  let s := ((s.linesOff 0xFFFFFF).outputsOff 0xFF).rmFollow.ledgerBoot
  if b.pinFault then (s.setBit Reg.GLB_IDENT Fld.GLB_IDENT_PINFAULT true).raise .glb 3
  else match s.bootCause b.lockOk with
    | some c => s.lockoutEntry c
    | none => s

/-- BOOT_ENTRY (R65, R68, R53): VAUX_A present and Ringmaster ready, or reporting a failed self-test. -/
def execBootEntry (b : BootIn) (s : State) : Res :=
  onlyIf (!s.cdRun && s.power.vauxA && s.rm.ready) s fun s => s.bootNow true b

/-- The clocks that run are shown present (R12, R453); TD8 is when PTP locks. -/
def State.showClocks (s : State) : State := s.setFld Reg.CLK_STAT ⟨0, 14⟩ (0x3EFF &&& (0x3FFF - s.power.clkLost % 2 ^ 14))

/-- SECURE_BOOT_COMPLETE (R65, R69–R71): Huavos verified with a key that is not revoked; CONFIG, or LOCKOUT where no copy boots. Without owner keys
CONFIG holds with cause 0x03. A reserved pin found driven keeps the device in BOOT (R43). -/
def execSecureBootComplete (v : Verdicts) (keySlot : Fin 2) (s : State) : Res :=
  onlyIf (s.cdRun && s.dev == stBOOT && !s.bit Reg.GLB_IDENT Fld.GLB_IDENT_PINFAULT) s fun s =>
    let ok := !s.store.revoked.contains keySlot.val
    let r := s.bootKind 1 { a := v.a && ok, b := v.b && ok }
    let s := r.1.setBit Reg.GLB_BOOTSTAT Fld.GLB_BOOTSTAT_FIRST_KEY s.store.keys.isEmpty
    match r.2 with
    | some (b, fell) =>
      let s := s.setBit Reg.GLB_BOOTSTAT Fld.GLB_BOOTSTAT_HV_IMG b
      let s := s.setBit Reg.GLB_BOOTSTAT Fld.GLB_BOOTSTAT_FALLBACK (fell || s.bit Reg.GLB_BOOTSTAT Fld.GLB_BOOTSTAT_FALLBACK)
      let s := (s.setFld Reg.GLB_BOOTSTAT Fld.GLB_BOOTSTAT_KEYSLOT keySlot.val).setNat Reg.GLB_FWVER_HV (s.image 1 b).fwver
      let s := s.setFld Reg.PWR_SUPSTAT ⟨0, 2⟩ (b2n s.power.vauxA + 2 * b2n s.power.vauxB)
      let s := (s.updTrip 4 fun t => { t with runs := true }).showClocks
      let s := (s.partyComes 1).enter stCONFIG
      if !s.ownerKey then s.setFld Reg.GLB_DEVSTATE Fld.GLB_DEVSTATE_CAUSE 3 else s
    | none => s.lockoutEntry (s.noBootCause 1 v)

/-- LOCKOUT_RELEASE (R82, R66): the record clears, the release and its key are logged, Ringmaster repeats its self-test, and the device restarts
from BOOT, where what R65 checks is checked again; on the release of cause 0x12 a new lock record is written with the lock set. DESIGN CHOICE
(log 82): LOCK_CNT and EVER_LOCKED count that record; unsafe for a claim about either. The loss of VAUX_A takes precedence. -/
def execLockoutRelease (a : Auth) (selfTest : Bool) (b : BootIn) (s : State) : Res :=
  onlyIf (s.cdRun && s.dev == stLOCKOUT && s.power.vauxA && s.power.lossAt.isNone) s fun s => s.withAuth a fun s =>
    let cause := s.store.lockout.getD 0
    let relock := cause == 0x12
    let s := s.updStore fun p =>
      { p with lockout := none, locked := p.locked || relock, ever := p.ever || relock,
               lockCnt := if relock then min (p.lockCnt + 1) 255 else p.lockCnt }
    let s := s.logSafety 0x14 cause a.key.val
    let s := s.updRm fun r => { r with failed := r.ready && !selfTest }
    let s := { s.ledgerDown with rmRun := s.rm.ready && selfTest && s.rm.noImage.isNone }
    s.bootNow false { b with lockOk := b.lockOk || relock }

end Sys2Proof.Machine
end

