-- ==== Sys2Proof/Machine/Tick.lean ====
section
/-!
DEFINITION. One TB tick, which a step on an empty queue takes (assumption 3).
-/

namespace Sys2Proof.Machine

/-- TB and PTP advance by one tick while the dies run and TD1 does (R12, R14, R348). -/
def State.countTb (s : State) : State :=
  if s.cdRun && !s.clockOut 1 then { s with tb := s.tb + 1, ptp := s.ptp + s.ptpAdd } else s

/-- A module outside a system reads as aligned once TB runs (R117). -/
def State.alignAlone (s : State) : State :=
  if s.cdRun && !s.sysOn && s.fld Reg.EDG_ALIGN_STAT Fld.EDG_ALIGN_STAT_STATE = 0 then s.setAlign 2 else s

/-- Ringmaster counts the time during which VAUX_B is present (R81). -/
def State.countVb (s : State) : State := if s.power.vauxB then s.updRm fun r => { r with vbTicks := r.vbTicks + 1 } else s

/-- What the module measures of itself every 1 ms and no command reports: the supplies (R60) and the gate rails (R145). Each is a free value. -/
def State.measureSelf (s : State) : State :=
  if s.now % ms 1 ≠ 0 then s
  else
    let s := s.drawn 32 fun v s => s.setNat Reg.PWR_VAUX_MEAS v
    let s := s.drawn 32 fun v s => s.setNat Reg.PWR_VSO_MEAS v
    s.each s.slots fun u n => u.drawn 32 fun v u => u.setNat (Reg.GDV_BIASMEAS n) v

/-- One tick of 2.5 ns passes: the time counters, frames that start on an idle CAN bus (R365), descriptors that execute at once (R388). -/
def State.tick (s : State) : State :=
  let s := ({ s with now := s.now + 1 }.countTb).alignAlone.countVb
  if s.cdRun then
    let s := s.each (List.range 6) State.canStart
    (s.each (List.range 12) State.drainOwn).measureSelf.settle
  else s

/-- The outcome of a tick. -/
def idle (s : State) : Res := .next s.tick

end Sys2Proof.Machine
end

