-- ==== Sys2Proof/Machine/Dispatch.lean ====
section
/-!
DEFINITION. One arm per command: the command's effect on everything but the queue.
-/

namespace Sys2Proof.Machine

/-- The effect of a command. -/
def exec (i : Instr) (s : State) : Host.Outcome State Fault Refusal :=
  match i with
  | .registerWrite off v => Sys2Proof.Machine.execRegisterWrite off v s
  | .badAccess bar write => Sys2Proof.Machine.execBadAccess bar write s
  | .bar4Write off data => Sys2Proof.Machine.execBar4Write off data s
  | .bar4Read off len corrected uncorrectable => Sys2Proof.Machine.execBar4Read off len corrected uncorrectable s
  | .tbLoRead => Sys2Proof.Machine.execTbLoRead s
  | .cntsub v => Sys2Proof.Machine.execCntsub v s
  | .msiHoldoffEnd v => Sys2Proof.Machine.execMsiHoldoffEnd v s
  | .busMasterEnable => Sys2Proof.Machine.execBusMasterEnable s
  | .clockLoss d groups => Sys2Proof.Machine.execClockLoss d groups s
  | .clockReturn d => Sys2Proof.Machine.execClockReturn d s
  | .tbDeviationWindow dev => Sys2Proof.Machine.execTbDeviationWindow dev s
  | .jobRelease m => Sys2Proof.Machine.execJobRelease m s
  | .completionWrite who m v => Sys2Proof.Machine.execCompletionWrite who m v s
  | .deadlineFault m => Sys2Proof.Machine.execDeadlineFault m s
  | .tightropeCfgWrite who m r v => Sys2Proof.Machine.execTightropeCfgWrite who m r v s
  | .stall st copy => Sys2Proof.Machine.execStall st copy s
  | .slackWindowEnd rail => Sys2Proof.Machine.execSlackWindowEnd rail s
  | .slackParamWrite rail r v => Sys2Proof.Machine.execSlackParamWrite rail r v s
  | .dramUncorrectable rd => Sys2Proof.Machine.execDramUncorrectable rd s
  | .supplyExcursion sup above crossed beyond => Sys2Proof.Machine.execSupplyExcursion sup above crossed beyond s
  | .supplyReturn r => Sys2Proof.Machine.execSupplyReturn r s
  | .vioEnterWindow x => Sys2Proof.Machine.execVioEnterWindow x s
  | .vioLeaveWindow x => Sys2Proof.Machine.execVioLeaveWindow x s
  | .vauxBRise => Sys2Proof.Machine.execVauxBRise s
  | .ringmasterReady v selfTest => Sys2Proof.Machine.execRingmasterReady v selfTest s
  | .vauxARise => Sys2Proof.Machine.execVauxARise s
  | .bootEntry b => Sys2Proof.Machine.execBootEntry b s
  | .secureBootComplete v keySlot => Sys2Proof.Machine.execSecureBootComplete v keySlot s
  | .configImageApply => Sys2Proof.Machine.execConfigImageApply s
  | .configComplete => Sys2Proof.Machine.execConfigComplete s
  | .measSelfTestDone ok => Sys2Proof.Machine.execMeasSelfTestDone ok s
  | .biasStart n => Sys2Proof.Machine.execBiasStart n s
  | .biasStartTimeout n side => Sys2Proof.Machine.execBiasStartTimeout n side s
  | .offStateDiagDone n v0 dPlus dMinus => Sys2Proof.Machine.execOffStateDiagDone n v0 dPlus dMinus s
  | .safetyIoTestDone ok => Sys2Proof.Machine.execSafetyIoTestDone ok s
  | .prechargeStart g => Sys2Proof.Machine.execPrechargeStart g s
  | .prechargeReading g v => Sys2Proof.Machine.execPrechargeReading g v s
  | .prechargeTCheck g => Sys2Proof.Machine.execPrechargeTCheck g s
  | .prechargeTMax g => Sys2Proof.Machine.execPrechargeTMax g s
  | .prechargeOverlapEnd g => Sys2Proof.Machine.execPrechargeOverlapEnd g s
  | .diagComplete => Sys2Proof.Machine.execDiagComplete s
  | .arm => Sys2Proof.Machine.execArm s
  | .disarm => Sys2Proof.Machine.execDisarm s
  | .diag => Sys2Proof.Machine.execDiag s
  | .reload => Sys2Proof.Machine.execReload s
  | .safe => Sys2Proof.Machine.execSafe s
  | .setLock => Sys2Proof.Machine.execSetLock s
  | .derateExpiry k => Sys2Proof.Machine.execDerateExpiry k s
  | .vauxALoss => Sys2Proof.Machine.execVauxALoss s
  | .reservePowerDown => Sys2Proof.Machine.execReservePowerDown s
  | .holdupSequenceEnd => Sys2Proof.Machine.execHoldupSequenceEnd s
  | .vauxBLoss => Sys2Proof.Machine.execVauxBLoss s
  | .ringmasterAbsent => Sys2Proof.Machine.execRingmasterAbsent s
  | .vauxBReturn v selfTest => Sys2Proof.Machine.execVauxBReturn v selfTest s
  | .vsoExcursion above => Sys2Proof.Machine.execVsoExcursion above s
  | .railFault die => Sys2Proof.Machine.execRailFault die s
  | .storeRailReturn => Sys2Proof.Machine.execStoreRailReturn s
  | .nonceRead nonce => Sys2Proof.Machine.execNonceRead nonce s
  | .nonceExpiry => Sys2Proof.Machine.execNonceExpiry s
  | .installCommissioningKey key => Sys2Proof.Machine.execInstallCommissioningKey key s
  | .revokeCommissioningKey slot => Sys2Proof.Machine.execRevokeCommissioningKey slot s
  | .presenceTimeout => Sys2Proof.Machine.execPresenceTimeout s
  | .commission a => Sys2Proof.Machine.execCommission a s
  | .commissionSessionEnd => Sys2Proof.Machine.execCommissionSessionEnd s
  | .lockRelease a => Sys2Proof.Machine.execLockRelease a s
  | .lockoutRelease a selfTest b => Sys2Proof.Machine.execLockoutRelease a selfTest b s
  | .recorderClearAuth a => Sys2Proof.Machine.execRecorderClearAuth a s
  | .fuseOwnerKeys slot hash => Sys2Proof.Machine.execFuseOwnerKeys slot hash s
  | .antirollbackAdvance kind => Sys2Proof.Machine.execAntirollbackAdvance kind s
  | .imageWrite kind ver fw sigOk => Sys2Proof.Machine.execImageWrite kind ver fw sigOk s
  | .loadLtImage t v blocks => Sys2Proof.Machine.execLoadLtImage t v blocks s
  | .loadConfigImage img => Sys2Proof.Machine.execLoadConfigImage img s
  | .slotOverride n => Sys2Proof.Machine.execSlotOverride n s
  | .loadBoundary n => Sys2Proof.Machine.execLoadBoundary n s
  | .cmpaWrite who n v => Sys2Proof.Machine.execCmpaWrite who n v s
  | .pe0Write who n v => Sys2Proof.Machine.execPe0Write who n v s
  | .compareEdge n t => Sys2Proof.Machine.execCompareEdge n t s
  | .slotStart n => Sys2Proof.Machine.execSlotStart n s
  | .slotStop n => Sys2Proof.Machine.execSlotStop n s
  | .sampleArrival r => Sys2Proof.Machine.execSampleArrival r s
  | .actingPoint n => Sys2Proof.Machine.execActingPoint n s
  | .maxgapExpiry n => Sys2Proof.Machine.execMaxgapExpiry n s
  | .ownerRefWrite who n v call => Sys2Proof.Machine.execOwnerRefWrite who n v call s
  | .pcmDmax n => Sys2Proof.Machine.execPcmDmax n s
  | .sinc2Value ix x ovr => Sys2Proof.Machine.execSinc2Value ix x ovr s
  | .alignmentStep off => Sys2Proof.Machine.execAlignmentStep off s
  | .alignmentLock => Sys2Proof.Machine.execAlignmentLock s
  | .alignmentLoss why => Sys2Proof.Machine.execAlignmentLoss why s
  | .linkLoss n up => Sys2Proof.Machine.execLinkLoss n up s
  | .biasExcursion n side => Sys2Proof.Machine.execBiasExcursion n side s
  | .biasokReturn n side => Sys2Proof.Machine.execBiasokReturn n side s
  | .gateEdge n => Sys2Proof.Machine.execGateEdge n s
  | .edgePhaseEnd n side how dvdt dur => Sys2Proof.Machine.execEdgePhaseEnd n side how dvdt dur s
  | .dsatDetect n side above => Sys2Proof.Machine.execDsatDetect n side above s
  | .softTurnoffStep2 n low => Sys2Proof.Machine.execSoftTurnoffStep2 n low s
  | .softTurnoffStep3 n below => Sys2Proof.Machine.execSoftTurnoffStep3 n below s
  | .ilineOff n => Sys2Proof.Machine.execIlineOff n s
  | .ilineRelease n => Sys2Proof.Machine.execIlineRelease n s
  | .ilineReleaseGuardEnd n => Sys2Proof.Machine.execIlineReleaseGuardEnd n s
  | .clearHold who n => Sys2Proof.Machine.execClearHold who n s
  | .runDiag n => Sys2Proof.Machine.execRunDiag n s
  | .adaptReset n => Sys2Proof.Machine.execAdaptReset n s
  | .clearFailed n => Sys2Proof.Machine.execClearFailed n s
  | .enable who k => Sys2Proof.Machine.execEnable who k s
  | .disable who k => Sys2Proof.Machine.execDisable who k s
  | .pause who k => Sys2Proof.Machine.execPause who k s
  | .resume who k => Sys2Proof.Machine.execResume who k s
  | .restart who k => Sys2Proof.Machine.execRestart who k s
  | .regionMeasTimeout g => Sys2Proof.Machine.execRegionMeasTimeout g s
  | .regionRestart g => Sys2Proof.Machine.execRegionRestart g s
  | .npTargetWrite who k v => Sys2Proof.Machine.execNpTargetWrite who k v s
  | .gmuUpdate k u => Sys2Proof.Machine.execGmuUpdate k u s
  | .spPost k seq => Sys2Proof.Machine.execSpPost k seq s
  | .spPickup k => Sys2Proof.Machine.execSpPickup k s
  | .syncCycle c => Sys2Proof.Machine.execSyncCycle c s
  | .leaderLoss => Sys2Proof.Machine.execLeaderLoss s
  | .electionWaitEnd => Sys2Proof.Machine.execElectionWaitEnd s
  | .isolateExpiry => Sys2Proof.Machine.execIsolateExpiry s
  | .rejoin => Sys2Proof.Machine.execRejoin s
  | .clusterInstant k => Sys2Proof.Machine.execClusterInstant k s
  | .shedDecision k => Sys2Proof.Machine.execShedDecision k s
  | .dcSplitAck who k shares => Sys2Proof.Machine.execDcSplitAck who k shares s
  | .phaseCountChange k => Sys2Proof.Machine.execPhaseCountChange k s
  | .shedRequestTimeout k => Sys2Proof.Machine.execShedRequestTimeout k s
  | .readmit k pos => Sys2Proof.Machine.execReadmit k pos s
  | .softStartAbort k => Sys2Proof.Machine.execSoftStartAbort k s
  | .softStartRetry k => Sys2Proof.Machine.execSoftStartRetry k s
  | .ssUnlatch k => Sys2Proof.Machine.execSsUnlatch k s
  | .mpptUpdate k => Sys2Proof.Machine.execMpptUpdate k s
  | .pvHold who k => Sys2Proof.Machine.execPvHold who k s
  | .pvTrack who k => Sys2Proof.Machine.execPvTrack who k s
  | .sweep k => Sys2Proof.Machine.execSweep k s
  | .sweepPoint k => Sys2Proof.Machine.execSweepPoint k s
  | .sweepEnd k => Sys2Proof.Machine.execSweepEnd k s
  | .discharge k => Sys2Proof.Machine.execDischarge k s
  | .dischargeStop k => Sys2Proof.Machine.execDischargeStop k s
  | .bmuFrame k f => Sys2Proof.Machine.execBmuFrame k f s
  | .bmuSilent k => Sys2Proof.Machine.execBmuSilent k s
  | .start who k => Sys2Proof.Machine.execStart who k s
  | .stop who k => Sys2Proof.Machine.execStop who k s
  | .taperDone k => Sys2Proof.Machine.execTaperDone k s
  | .chargeWindowEnd k => Sys2Proof.Machine.execChargeWindowEnd k s
  | .heartbeat v => Sys2Proof.Machine.execHeartbeat v s
  | .snTimeout => Sys2Proof.Machine.execSnTimeout s
  | .snExit => Sys2Proof.Machine.execSnExit s
  | .packQualify mv temp => Sys2Proof.Machine.execPackQualify mv temp s
  | .packChargeWindow mv ma temp => Sys2Proof.Machine.execPackChargeWindow mv ma temp s
  | .packChargeTimeout => Sys2Proof.Machine.execPackChargeTimeout s
  | .packPauseEnd => Sys2Proof.Machine.execPackPauseEnd s
  | .removalProbe => Sys2Proof.Machine.execRemovalProbe s
  | .packRemoval => Sys2Proof.Machine.execPackRemoval s
  | .selfDischarge => Sys2Proof.Machine.execSelfDischarge s
  | .retry => Sys2Proof.Machine.execRetry s
  | .recharge => Sys2Proof.Machine.execRecharge s
  | .precisionConversion codes => Sys2Proof.Machine.execPrecisionConversion codes s
  | .intervalClose g => Sys2Proof.Machine.execIntervalClose g s
  | .journalRecordWrite g => Sys2Proof.Machine.execJournalRecordWrite g s
  | .sarScan p xa xb codes => Sys2Proof.Machine.execSarScan p xa xb codes s
  | .pairReset p => Sys2Proof.Machine.execPairReset p s
  | .pairResetCheckEnd p => Sys2Proof.Machine.execPairResetCheckEnd p s
  | .sinc3Record ix x => Sys2Proof.Machine.execSinc3Record ix x s
  | .stuckRun ix => Sys2Proof.Machine.execStuckRun ix s
  | .inputReset ix => Sys2Proof.Machine.execInputReset ix s
  | .referenceCheck dev => Sys2Proof.Machine.execReferenceCheck dev s
  | .thermalReading t => Sys2Proof.Machine.execThermalReading t s
  | .hwThermalTrip loc readings => Sys2Proof.Machine.execHwThermalTrip loc readings s
  | .hwThermalRelease => Sys2Proof.Machine.execHwThermalRelease s
  | .svrEnable c => Sys2Proof.Machine.execSvrEnable c s
  | .svrDisable c => Sys2Proof.Machine.execSvrDisable c s
  | .svrPeriod c ix => Sys2Proof.Machine.execSvrPeriod c ix s
  | .hiccupEnd c => Sys2Proof.Machine.execHiccupEnd c s
  | .svrSsTimeout c => Sys2Proof.Machine.execSvrSsTimeout c s
  | .svrRetryReset c => Sys2Proof.Machine.execSvrRetryReset c s
  | .svrOv c => Sys2Proof.Machine.execSvrOv c s
  | .svrFltN c low => Sys2Proof.Machine.execSvrFltN c low s
  | .svrSyncLock c period => Sys2Proof.Machine.execSvrSyncLock c period s
  | .svrSyncLoss c => Sys2Proof.Machine.execSvrSyncLoss c s
  | .svrShedDecision c => Sys2Proof.Machine.execSvrShedDecision c s
  | .auxdEnable ix => Sys2Proof.Machine.execAuxdEnable ix s
  | .auxdDisable ix => Sys2Proof.Machine.execAuxdDisable ix s
  | .auxdDutywWrite ix v => Sys2Proof.Machine.execAuxdDutywWrite ix v s
  | .auxdCarrierZero ix => Sys2Proof.Machine.execAuxdCarrierZero ix s
  | .hallChange ix h => Sys2Proof.Machine.execHallChange ix h s
  | .auxdIlim ix => Sys2Proof.Machine.execAuxdIlim ix s
  | .auxdTrip ix => Sys2Proof.Machine.execAuxdTrip ix s
  | .auxdBstuv ix ph => Sys2Proof.Machine.execAuxdBstuv ix ph s
  | .auxdBstuvEnd ix ph => Sys2Proof.Machine.execAuxdBstuvEnd ix ph s
  | .vmSample ix vm => Sys2Proof.Machine.execVmSample ix vm s
  | .vmholdEnd ix => Sys2Proof.Machine.execVmholdEnd ix s
  | .fbEdge ix e => Sys2Proof.Machine.execFbEdge ix e s
  | .observerUpdate ix => Sys2Proof.Machine.execObserverUpdate ix s
  | .fbCfgWrite ix v => Sys2Proof.Machine.execFbCfgWrite ix v s
  | .transactionPresent t c tx => Sys2Proof.Machine.execTransactionPresent t c tx s
  | .lagTimeout t c => Sys2Proof.Machine.execLagTimeout t c s
  | .asyncInput t code => Sys2Proof.Machine.execAsyncInput t code s
  | .copyMemerr t c corrected => Sys2Proof.Machine.execCopyMemerr t c corrected s
  | .bulkCopyDone t => Sys2Proof.Machine.execBulkCopyDone t s
  | .resyncPauseEnd t => Sys2Proof.Machine.execResyncPauseEnd t s
  | .fenceTest t c => Sys2Proof.Machine.execFenceTest t c s
  | .debugRequest r => Sys2Proof.Machine.execDebugRequest r s
  | .haltRequest t c => Sys2Proof.Machine.execHaltRequest t c s
  | .endbg => Sys2Proof.Machine.execEndbg s
  | .exdbg => Sys2Proof.Machine.execExdbg s
  | .rejoinDbg t => Sys2Proof.Machine.execRejoinDbg t s
  | .rmDecision d => Sys2Proof.Machine.execRmDecision d s
  | .coreRejoin c ok => Sys2Proof.Machine.execCoreRejoin c ok s
  | .aliveWord => Sys2Proof.Machine.execAliveWord s
  | .aliveTimeout => Sys2Proof.Machine.execAliveTimeout s
  | .returnFrame n f => Sys2Proof.Machine.execReturnFrame n f s
  | .retframeTimeout n => Sys2Proof.Machine.execRetframeTimeout n s
  | .eremConfirmTimeout n => Sys2Proof.Machine.execEremConfirmTimeout n s
  | .vlimComparatorTrip g => Sys2Proof.Machine.execVlimComparatorTrip g s
  | .vlinkSample g a b => Sys2Proof.Machine.execVlinkSample g a b s
  | .vlinkDiscrepancy g => Sys2Proof.Machine.execVlinkDiscrepancy g s
  | .comparatorTest g ch ok => Sys2Proof.Machine.execComparatorTest g ch ok s
  | .siSample x a b => Sys2Proof.Machine.execSiSample x a b s
  | .siDiscrepancy x => Sys2Proof.Machine.execSiDiscrepancy x s
  | .soTestPulse y => Sys2Proof.Machine.execSoTestPulse y s
  | .soPulseEnd y fell => Sys2Proof.Machine.execSoPulseEnd y fell s
  | .soReturnCheck y returned => Sys2Proof.Machine.execSoReturnCheck y returned s
  | .soShort y => Sys2Proof.Machine.execSoShort y s
  | .soXv y => Sys2Proof.Machine.execSoXv y s
  | .resetPress => Sys2Proof.Machine.execResetPress s
  | .resetRelease => Sys2Proof.Machine.execResetRelease s
  | .resetDiscrepancy => Sys2Proof.Machine.execResetDiscrepancy s
  | .resetStuck => Sys2Proof.Machine.execResetStuck s
  | .paramSetDelivery => Sys2Proof.Machine.execParamSetDelivery s
  | .chkEntry c entry => Sys2Proof.Machine.execChkEntry c entry s
  | .holdLines c mask => Sys2Proof.Machine.execHoldLines c mask s
  | .soOff c mask => Sys2Proof.Machine.execSoOff c mask s
  | .safeRequest c => Sys2Proof.Machine.execSafeRequest c s
  | .endHold c => Sys2Proof.Machine.execEndHold c s
  | .portDown p => Sys2Proof.Machine.execPortDown p s
  | .portUp p => Sys2Proof.Machine.execPortUp p s
  | .ethRxFrame p f => Sys2Proof.Machine.execEthRxFrame p f s
  | .safetyCopy p f => Sys2Proof.Machine.execSafetyCopy p f s
  | .skewExpiry => Sys2Proof.Machine.execSkewExpiry s
  | .netWdExpiry => Sys2Proof.Machine.execNetWdExpiry s
  | .statusFrame => Sys2Proof.Machine.execStatusFrame s
  | .ptpStep delta add => Sys2Proof.Machine.execPtpStep delta add s
  | .ptpLock add => Sys2Proof.Machine.execPtpLock add s
  | .ptpHoldover => Sys2Proof.Machine.execPtpHoldover s
  | .canEnable x => Sys2Proof.Machine.execCanEnable x s
  | .canDisable x => Sys2Proof.Machine.execCanDisable x s
  | .req x b => Sys2Proof.Machine.execReq x b s
  | .abort x b => Sys2Proof.Machine.execAbort x b s
  | .sleep x => Sys2Proof.Machine.execSleep x s
  | .wake x => Sys2Proof.Machine.execWake x s
  | .release x f => Sys2Proof.Machine.execRelease x f s
  | .canTxEnd x b how => Sys2Proof.Machine.execCanTxEnd x b how s
  | .busoffRecovery x => Sys2Proof.Machine.execBusoffRecovery x s
  | .canRxFrame x f => Sys2Proof.Machine.execCanRxFrame x f s
  | .canWakeEdge x => Sys2Proof.Machine.execCanWakeEdge x s
  | .canIntegrationDone x => Sys2Proof.Machine.execCanIntegrationDone x s
  | .nudge v => Sys2Proof.Machine.execNudge v s
  | .doorbellPoll => Sys2Proof.Machine.execDoorbellPoll s
  | .doorbellReadDone ok => Sys2Proof.Machine.execDoorbellReadDone ok s
  | .descriptorFetch r ok => Sys2Proof.Machine.execDescriptorFetch r ok s
  | .nop r => Sys2Proof.Machine.execNop r s
  | .regWrite r => Sys2Proof.Machine.execRegWrite r s
  | .regRead r => Sys2Proof.Machine.execRegRead r s
  | .setpoint r => Sys2Proof.Machine.execSetpoint r s
  | .canTx r dma => Sys2Proof.Machine.execCanTx r dma s
  | .ledgerRead r ok => Sys2Proof.Machine.execLedgerRead r ok s
  | .irqTimer r => Sys2Proof.Machine.execIrqTimer r s
  | .ringEnable r => Sys2Proof.Machine.execRingEnable r s
  | .ringDisable r => Sys2Proof.Machine.execRingDisable r s
  | .flr => Sys2Proof.Machine.execFlr s
  | .hostLinkDown => Sys2Proof.Machine.execHostLinkDown s
  | .powerStateChange d3 => Sys2Proof.Machine.execPowerStateChange d3 s
  | .captureRecord r data => Sys2Proof.Machine.execCaptureRecord r data s
  | .captureFlush r => Sys2Proof.Machine.execCaptureFlush r s
  | .noticePost who user c tag => Sys2Proof.Machine.execNoticePost who user c tag s
  | .rxTagRead who user c => Sys2Proof.Machine.execRxTagRead who user c s
  | .noticeAck who user c v => Sys2Proof.Machine.execNoticeAck who user c v s
  | .ackTimeout c dir => Sys2Proof.Machine.execAckTimeout c dir s
  | .crossingTimeout c => Sys2Proof.Machine.execCrossingTimeout c s
  | .partyReset who => Sys2Proof.Machine.execPartyReset who s
  | .partyUp who => Sys2Proof.Machine.execPartyUp who s
  | .mbxCfgWrite c timeouts v => Sys2Proof.Machine.execMbxCfgWrite c timeouts v s
  | .txnBegin => Sys2Proof.Machine.execTxnBegin s
  | .txnStage v => Sys2Proof.Machine.execTxnStage v s
  | .txnValidate tid => Sys2Proof.Machine.execTxnValidate tid s
  | .txnCommit tid => Sys2Proof.Machine.execTxnCommit tid s
  | .txnRollback tid => Sys2Proof.Machine.execTxnRollback tid s
  | .txnLand t => Sys2Proof.Machine.execTxnLand t s
  | .txnTimeout t => Sys2Proof.Machine.execTxnTimeout t s
  | .commitTimeout t => Sys2Proof.Machine.execCommitTimeout t s
  | .recorderEntryWrite verified => Sys2Proof.Machine.execRecorderEntryWrite verified s
  | .freeze => Sys2Proof.Machine.execFreeze s
  | .unfreeze => Sys2Proof.Machine.execUnfreeze s
  | .freezeTimeout => Sys2Proof.Machine.execFreezeTimeout s
  | .trigger p => Sys2Proof.Machine.execTrigger p s
  | .rearm => Sys2Proof.Machine.execRearm s
  | .capturePostEnd => Sys2Proof.Machine.execCapturePostEnd s
  | .copy => Sys2Proof.Machine.execCopy s
  | .copyDone => Sys2Proof.Machine.execCopyDone s
  | .clear written => Sys2Proof.Machine.execClear written s
  | .ptpSecLoRead => Sys2Proof.Machine.execPtpSecLoRead s
  | .inputResetCheckEnd ix ok => Sys2Proof.Machine.execInputResetCheckEnd ix ok s
  | .safeEntryExpiry => Sys2Proof.Machine.execSafeEntryExpiry s
  | .coreRejoinTimeout c => Sys2Proof.Machine.execCoreRejoinTimeout c s
  | .resetReady => Sys2Proof.Machine.execResetReady s
  | .canRxError x primary => Sys2Proof.Machine.execCanRxError x primary s
  | .ageTestHoldoverLimit => Sys2Proof.Machine.execAgeTestHoldoverLimit s

end Sys2Proof.Machine
end

