-- ==== Sys2Proof/WellFormed.lean ====
section
/-!
DEFINITION. Commands that a sender can form: operands within the widths and lengths that the manual gives them. A command that is not
well formed has a meaning all the same (assumption 12); nothing in the machine asks for it.
-/

namespace Sys2Proof

/-- Bytes of a CAN data field for a DLC (R373). -/
def canBytes (fdf : Bool) (dlc : Nat) : Nat :=
  if fdf then [0, 1, 2, 3, 4, 5, 6, 7, 8, 12, 16, 20, 24, 32, 48, 64].getD dlc 64 else min dlc 8

/-- A CAN frame that a bus can carry: identifier in 29 bits, a data field of the length that the DLC gives, none in a remote frame, and no remote
frame in FD format. -/
def CanFrame.wellFormed (f : CanFrame) : Bool :=
  Nat.blt f.id (2 ^ 29) && (f.ide || f.id % 2 ^ 18 == 0) && !(f.fdf && f.rtr) &&
    f.data.length == (if f.rtr then 0 else canBytes f.fdf f.dlc.val)

/-- The parameters of runtime blocks inside the ranges of R165 and R166. -/
def blockOk (p : BlockPar) : Bool :=
  (match p.vimp with
    | some v => Nat.ble 8192 v.iTh && Nat.ble v.iTh 32768 && Nat.ble 16384 v.iMax && Nat.ble v.iMax 49152 && Nat.ble v.kvi 32768 && Nat.ble v.xr 5120
    | none => true) &&
  match p.ride with
  | some r => Nat.ble r.low.length 8 && Nat.ble r.high.length 8 && Nat.ble r.bands.length 4 && Nat.ble 1 r.rate && Nat.ble r.rate 1000
  | none => true

/-- A well-formed command. -/
def Instr.wellFormed : Instr → Bool
  | .registerWrite off _ => Nat.blt off 0x200000 && off % 4 == 0
  | .badAccess _ _ => true
  | .bar4Write off data => Nat.blt 0 data.length && Nat.ble (off + data.length) (2 ^ 29)
  | .bar4Read off len _ _ => Nat.blt 0 len && Nat.ble (off + len) (2 ^ 29)
  | .tbLoRead => true
  | .cntsub _ => true
  | .msiHoldoffEnd _ => true
  | .busMasterEnable => true
  | .clockLoss _ _ => true
  | .clockReturn _ => true
  | .tbDeviationWindow _ => true
  | .jobRelease _ => true
  | .completionWrite _ _ _ => true
  | .deadlineFault _ => true
  | .tightropeCfgWrite _ _ _ _ => true
  | .stall _ _ => true
  | .slackWindowEnd _ => true
  | .slackParamWrite _ _ _ => true
  | .dramUncorrectable _ => true
  | .supplyExcursion _ above _ beyond => above || !beyond
  | .supplyReturn _ => true
  | .vioEnterWindow _ => true
  | .vioLeaveWindow _ => true
  | .vauxBRise => true
  | .ringmasterReady _ _ => true
  | .vauxARise => true
  | .bootEntry _ => true
  | .secureBootComplete _ _ => true
  | .configImageApply => true
  | .configComplete => true
  | .measSelfTestDone _ => true
  | .biasStart _ => true
  | .biasStartTimeout _ _ => true
  | .offStateDiagDone _ _ _ _ => true
  | .safetyIoTestDone _ => true
  | .prechargeStart _ => true
  | .prechargeReading _ _ => true
  | .prechargeTCheck _ => true
  | .prechargeTMax _ => true
  | .prechargeOverlapEnd _ => true
  | .diagComplete => true
  | .arm => true
  | .disarm => true
  | .diag => true
  | .reload => true
  | .safe => true
  | .setLock => true
  | .derateExpiry _ => true
  | .vauxALoss => true
  | .reservePowerDown => true
  | .holdupSequenceEnd => true
  | .vauxBLoss => true
  | .ringmasterAbsent => true
  | .vauxBReturn _ _ => true
  | .vsoExcursion _ => true
  | .railFault _ => true
  | .storeRailReturn => true
  | .nonceRead nonce => Nat.blt nonce (2 ^ 128)
  | .nonceExpiry => true
  | .installCommissioningKey _ => true
  | .revokeCommissioningKey _ => true
  | .presenceTimeout => true
  | .commission _ => true
  | .commissionSessionEnd => true
  | .lockRelease _ => true
  | .lockoutRelease _ _ _ => true
  | .recorderClearAuth _ => true
  | .fuseOwnerKeys _ _ => true
  | .antirollbackAdvance _ => true
  | .imageWrite _ ver _ _ => Nat.blt ver 256
  | .loadLtImage _ _ blocks => blocks.all blockOk
  | .loadConfigImage img => img.pars.length == 64
  | .slotOverride _ => true
  | .loadBoundary _ => true
  | .cmpaWrite _ _ _ => true
  | .pe0Write _ _ _ => true
  | .compareEdge _ _ => true
  | .slotStart _ => true
  | .slotStop _ => true
  | .sampleArrival _ => true
  | .actingPoint _ => true
  | .maxgapExpiry _ => true
  | .ownerRefWrite _ _ _ _ => true
  | .pcmDmax _ => true
  | .sinc2Value _ _ _ => true
  | .alignmentStep _ => true
  | .alignmentLock => true
  | .alignmentLoss _ => true
  | .linkLoss _ _ => true
  | .biasExcursion _ _ => true
  | .biasokReturn _ _ => true
  | .gateEdge _ => true
  | .edgePhaseEnd _ _ _ _ _ => true
  | .dsatDetect _ _ _ => true
  | .softTurnoffStep2 _ _ => true
  | .softTurnoffStep3 _ _ => true
  | .ilineOff _ => true
  | .ilineRelease _ => true
  | .ilineReleaseGuardEnd _ => true
  | .clearHold _ _ => true
  | .runDiag _ => true
  | .adaptReset _ => true
  | .clearFailed _ => true
  | .enable _ _ => true
  | .disable _ _ => true
  | .pause _ _ => true
  | .resume _ _ => true
  | .restart _ _ => true
  | .regionMeasTimeout _ => true
  | .regionRestart _ => true
  | .npTargetWrite _ _ _ => true
  | .gmuUpdate _ u => Nat.blt u.angle 65536
  | .spPost _ _ => true
  | .spPickup _ => true
  | .syncCycle _ => true
  | .leaderLoss => true
  | .electionWaitEnd => true
  | .isolateExpiry => true
  | .rejoin => true
  | .clusterInstant _ => true
  | .shedDecision _ => true
  | .dcSplitAck _ _ shares => Nat.ble shares.length 8
  | .phaseCountChange _ => true
  | .shedRequestTimeout _ => true
  | .readmit _ pos => Nat.blt pos 8
  | .softStartAbort _ => true
  | .softStartRetry _ => true
  | .ssUnlatch _ => true
  | .mpptUpdate _ => true
  | .pvHold _ _ => true
  | .pvTrack _ _ => true
  | .sweep _ => true
  | .sweepPoint _ => true
  | .sweepEnd _ => true
  | .discharge _ => true
  | .dischargeStop _ => true
  | .bmuFrame _ f => f.wellFormed
  | .bmuSilent _ => true
  | .start _ _ => true
  | .stop _ _ => true
  | .taperDone _ => true
  | .chargeWindowEnd _ => true
  | .heartbeat _ => true
  | .snTimeout => true
  | .snExit => true
  | .packQualify _ _ => true
  | .packChargeWindow _ _ _ => true
  | .packChargeTimeout => true
  | .packPauseEnd => true
  | .removalProbe => true
  | .packRemoval => true
  | .selfDischarge => true
  | .retry => true
  | .recharge => true
  | .precisionConversion codes => codes.length == 8
  | .intervalClose _ => true
  | .journalRecordWrite _ => true
  | .sarScan p _ _ codes => codes.all fun c => c.input.val / 16 == p.val
  | .pairReset _ => true
  | .pairResetCheckEnd _ => true
  | .sinc3Record _ _ => true
  | .stuckRun _ => true
  | .inputReset _ => true
  | .referenceCheck _ => true
  | .thermalReading t => t.dies.length == 0x2C && t.ntcs.length == 24
  | .hwThermalTrip _ _ => true
  | .hwThermalRelease => true
  | .svrEnable _ => true
  | .svrDisable _ => true
  | .svrPeriod _ i => i.imon.length == 4
  | .hiccupEnd _ => true
  | .svrSsTimeout _ => true
  | .svrRetryReset _ => true
  | .svrOv _ => true
  | .svrFltN _ _ => true
  | .svrSyncLock _ _ => true
  | .svrSyncLoss _ => true
  | .svrShedDecision _ => true
  | .auxdEnable _ => true
  | .auxdDisable _ => true
  | .auxdDutywWrite _ _ => true
  | .auxdCarrierZero _ => true
  | .hallChange _ _ => true
  | .auxdIlim _ => true
  | .auxdTrip _ => true
  | .auxdBstuv _ _ => true
  | .auxdBstuvEnd _ _ => true
  | .vmSample _ _ => true
  | .vmholdEnd _ => true
  | .fbEdge _ _ => true
  | .observerUpdate _ => true
  | .fbCfgWrite _ _ => true
  | .transactionPresent _ _ tx => Nat.blt tx.fields.addr (2 ^ 64) && Nat.blt tx.epoch (2 ^ 16)
  | .lagTimeout _ _ => true
  | .asyncInput _ _ => true
  | .copyMemerr _ _ _ => true
  | .bulkCopyDone _ => true
  | .resyncPauseEnd _ => true
  | .fenceTest _ _ => true
  | .debugRequest _ => true
  | .haltRequest _ _ => true
  | .endbg => true
  | .exdbg => true
  | .rejoinDbg _ => true
  | .rmDecision d => d.lines.length == 3 && d.outs.length == 3
  | .coreRejoin _ _ => true
  | .aliveWord => true
  | .aliveTimeout => true
  | .returnFrame _ _ => true
  | .retframeTimeout _ => true
  | .eremConfirmTimeout _ => true
  | .vlimComparatorTrip _ => true
  | .vlinkSample _ _ _ => true
  | .vlinkDiscrepancy _ => true
  | .comparatorTest _ _ _ => true
  | .siSample _ _ _ => true
  | .siDiscrepancy _ => true
  | .soTestPulse _ => true
  | .soPulseEnd _ _ => true
  | .soReturnCheck _ _ => true
  | .soShort _ => true
  | .soXv _ => true
  | .resetPress => true
  | .resetRelease => true
  | .resetDiscrepancy => true
  | .resetStuck => true
  | .paramSetDelivery => true
  | .chkEntry _ _ => true
  | .holdLines _ _ => true
  | .soOff _ _ => true
  | .safeRequest _ => true
  | .endHold _ => true
  | .portDown _ => true
  | .portUp _ => true
  | .ethRxFrame _ f => Nat.blt (f.vid.getD 0) 4096
  | .safetyCopy _ f =>
    Nat.blt (f.vid.getD 0) 4096 && Nat.blt f.etype 65536 && Nat.blt f.dst (2 ^ 48) && Nat.blt f.src (2 ^ 48) && f.bytes.length == 42 &&
      Nat.blt f.sec (2 ^ 48) && Nat.blt f.ns 1000000000
  | .skewExpiry => true
  | .netWdExpiry => true
  | .statusFrame => true
  | .ptpStep _ _ => true
  | .ptpLock _ => true
  | .ptpHoldover => true
  | .canEnable _ => true
  | .canDisable _ => true
  | .req _ _ => true
  | .abort _ _ => true
  | .sleep _ => true
  | .wake _ => true
  | .release _ _ => true
  | .canTxEnd _ _ _ => true
  | .busoffRecovery _ => true
  | .canRxFrame _ f => f.wellFormed
  | .canWakeEdge _ => true
  | .canIntegrationDone _ => true
  | .nudge _ => true
  | .doorbellPoll => true
  | .doorbellReadDone _ => true
  | .descriptorFetch _ _ => true
  | .nop _ => true
  | .regWrite _ => true
  | .regRead _ => true
  | .setpoint _ => true
  | .canTx _ _ => true
  | .ledgerRead _ _ => true
  | .irqTimer _ => true
  | .ringEnable _ => true
  | .ringDisable _ => true
  | .flr => true
  | .hostLinkDown => true
  | .powerStateChange _ => true
  | .captureRecord _ data => data.length == 16
  | .captureFlush _ => true
  | .noticePost _ _ _ _ => true
  | .rxTagRead _ _ _ => true
  | .noticeAck _ _ _ _ => true
  | .ackTimeout _ _ => true
  | .crossingTimeout _ => true
  | .partyReset _ => true
  | .partyUp _ => true
  | .mbxCfgWrite _ _ _ => true
  | .txnBegin => true
  | .txnStage _ => true
  | .txnValidate _ => true
  | .txnCommit _ => true
  | .txnRollback _ => true
  | .txnLand _ => true
  | .txnTimeout _ => true
  | .commitTimeout _ => true
  | .recorderEntryWrite _ => true
  | .freeze => true
  | .unfreeze => true
  | .freezeTimeout => true
  | .trigger _ => true
  | .rearm => true
  | .capturePostEnd => true
  | .copy => true
  | .copyDone => true
  | .clear _ => true
  | .ptpSecLoRead => true
  | .inputResetCheckEnd _ _ => true
  | .safeEntryExpiry => true
  | .coreRejoinTimeout _ => true
  | .resetReady => true
  | .canRxError _ _ => true
  | .ageTestHoldoverLimit => true

end Sys2Proof
end

