-- ==== Sys2Proof/Safety.lean ====
section
/-!
DEFINITION. What counts as a safe run, in the terms that the statements use: the canonical form of the memories, flags, commands that are carried
out, and what a command leaves alone.
-/

namespace Sys2Proof.Machine

/-- The register file is in canonical form: offsets strictly rising, and no entry equal to the value on entry to BOOT. -/
def State.regsWf (s : State) : Bool := Cells.wf (Reg.resetOf s.variant) s.regs
/-- DRAM is in canonical form. -/
def State.dramWf (s : State) : Bool := Cells.wf (fun _ => (0 : Byte)) s.dram
/-- Host memory is in canonical form. -/
def State.hostWf (s : State) : Bool := Cells.wf (fun _ => (0 : Byte)) s.hostMem
/-- Every memory of the machine is in canonical form. -/
def State.wf (s : State) : Bool := s.regsWf && s.dramWf && s.hostWf

/-- A flag of a source is set (R447). -/
def State.flag (s : State) (src : FlagSrc) (b : Nat) : Bool := (s.reg src.addr).toNat.testBit b

/-- The occurrence counter of a flag; 0 for a flag that has none (R448). -/
def State.count (s : State) (src : FlagSrc) (b : Nat) : Nat :=
  match src.counter b with
  | some (a, lo) => s.fld a ⟨lo, 8⟩
  | none => 0

/-- The registers that an occurrence of a flag changes: its flag register, and the one that holds its counter (R447, R448). -/
def FlagSrc.owns (src : FlagSrc) (b a : Nat) : Bool := a == src.addr || (src.counter b).any fun c => c.1 == a

/-- The state `s` with what the delivery of flag events may change (R402, R412, R435, R456) taken from `t`: entries of event rings and recorder,
messages, device notices, asynchronous inputs, and registers. -/
def State.withDel (s t : State) : State :=
  { s with regs := t.regs, hostMem := t.hostMem, events := t.events, recQueue := t.recQueue, mbx := t.mbx, devQueue := t.devQueue,
           msi := t.msi, rings := t.rings, profs := t.profs, recst := t.recst, trips := t.trips }

/-- The registers that the delivery of flag events may write: HIF, MBX and REC flags with their counters, the indices of the event rings, the busy bits and
pending bits of the mailboxes, the recorder's status and suppression counts, and the PBA. -/
def deliveryReg (a : Nat) : Prop :=
  (0x60008 ≤ a ∧ a ≤ 0x60010) ∨ (0x60400 ≤ a ∧ a < 0x60480 ∧ (a % 0x20 = 0x10 ∨ a % 0x20 = 0x18)) ∨
    (0x68008 ≤ a ∧ a < 0x68080 ∧ a % 0x10 = 8) ∨ a = 0x68120 ∨ (0x68128 ≤ a ∧ a ≤ 0x68138) ∨
    (0x70008 ≤ a ∧ a ≤ 0x70018) ∨ a = 0x70030 ∨ (0x70200 ≤ a ∧ a < 0x70400 ∧ a % 0x10 = 0x0C) ∨
    (0xFF000 ≤ a ∧ a < 0xFF008)

/-- The frame of a command: from `s` to `t` no register changes but those of `own` and those that the delivery of flag events may write, and
nothing else of the state, DRAM among it, but what that delivery brings. -/
def Only (own : Nat → Prop) (s t : State) : Prop := (∀ a, ¬deliveryReg a → ¬own a → t.reg a = s.reg a) ∧ t = s.withDel t

/-- Host memory once ring `r` has placed a completion entry (R384, R385, R397): the entry with its PHASE at the producer index of the completion
ring, the write-back word of that ring, and the write-back word of `r` with its new done-head. -/
def State.completionMem (s : State) (r head : Nat) (entry : List Byte) : Cells Byte :=
  let q := s.cqOf r
  let p := s.devIdx q
  (((s.putHost (s.ringBase q + 64 * (p % s.ringN q)) (entry.take 1 ++ leBytes 1 (phaseOf p (s.ringN q)) ++ entry.drop 2)).writeBack q
    ((p + 1) % 2 ^ 32)).writeBack r head).hostMem

/-- Commands that Ringmaster carries out (R56, R316): while it does not run they change nothing. -/
def ofRingmaster : Instr → Bool
  | .aliveTimeout | .aliveWord | .chkEntry _ _ | .comparatorTest _ _ _ | .coreRejoin _ _ | .coreRejoinTimeout _ | .endHold _
  | .eremConfirmTimeout _ | .holdLines _ _ | .netWdExpiry | .paramSetDelivery | .resetDiscrepancy | .resetPress | .resetReady | .resetRelease
  | .resetStuck | .retframeTimeout _ | .returnFrame _ _ | .rmDecision _ | .safeEntryExpiry | .safeRequest _ | .safetyCopy _ _ | .siDiscrepancy _
  | .siSample _ _ _ | .skewExpiry | .soOff _ _ | .soPulseEnd _ _ | .soReturnCheck _ _ | .soShort _ | .soTestPulse _ | .soXv _ | .statusFrame
  | .tbDeviationWindow _ | .vlimComparatorTrip _ | .vlinkDiscrepancy _ | .vlinkSample _ _ _ | .safetyIoTestDone _ => true
  | _ => false

/-- Commands that may act while the control die does not run (R51, R54, R56, R68): the supplies that Ringmaster watches, its own rail and the
loss of TD12, the entry of BOOT, Ringmaster, and the ends of authorisations. -/
def withoutControlDie : Instr → Bool
  | .aliveTimeout | .bootEntry _ | .clockLoss _ _ | .clockReturn _ | .commissionSessionEnd | .comparatorTest _ _ _ | .coreRejoin _ _
  | .coreRejoinTimeout _ | .eremConfirmTimeout _ | .nonceExpiry | .presenceTimeout | .railFault _ | .resetDiscrepancy | .resetPress
  | .resetReady | .resetRelease | .resetStuck | .retframeTimeout _ | .returnFrame _ _ | .ringmasterReady _ _ | .rmDecision _ | .safeEntryExpiry
  | .siDiscrepancy _ | .siSample _ _ _ | .soPulseEnd _ _ | .soReturnCheck _ _ | .soShort _ | .soTestPulse _ | .soXv _ | .supplyExcursion _ _ _ _
  | .supplyReturn _ | .tbDeviationWindow _ | .vauxALoss | .vauxARise | .vauxBLoss | .vauxBRise | .vlimComparatorTrip _ | .vlinkDiscrepancy _
  | .vlinkSample _ _ _ | .vsoExcursion _ => true
  | _ => false

/-- A command ends in a next state that a predicate holds of. -/
def Completes (i : Instr) (s : State) (p : State → Prop) : Prop := ∃ t, exec i s = .next t ∧ p t

end Sys2Proof.Machine
end

