-- ==== Sys2Proof/Certificates/Slice0/Obligations.lean ====
section
/-!
DEFINITION. The statements for the provers. A statement of completions says of each command that, under hypotheses on the state and the
operands alone, exec answers a next state with the contents named and changes nothing else: `Completes` and `Only` of Safety.lean. The
registers that delivering flag events moves (rings, vectors, recorder) are those of `deliveryReg`; EveryStepDelivers and FlagOccurrences
speak of them.
-/

open Sys2Proof Sys2Proof.Machine

/-- A step runs the command at the front of the queue. Where the manual leaves a corner open the clauses follow the model's choice: log entry 3. -/
def Obligations.StepRunsFront : Prop :=
  (∀ (c : Instr) (s : State) (rest : List Instr), s.pending = c :: rest → step s = exec c { s with pending := rest }) ∧
  (∀ s : State, s.pending = [] → step s = .next s.tick)

/-- A tick on an empty queue (R12, R14, R81, R348). Where the manual leaves a corner open the clauses follow the model's choice: log entry 3. -/
def Obligations.TickCounts : Prop :=
  (∀ s : State, s.pending = [] → s.cdRun → s.clockOut 1 = false →
    ∃ t, step s = .next t ∧ t.now = s.now + 1 ∧ t.tb = s.tb + 1 ∧ t.ptp = s.ptp + s.ptpAdd ∧ t.pending = []) ∧
  (∀ s : State, s.pending = [] → s.cdRun = false →
    ∃ t, step s = .next t ∧ t.now = s.now + 1 ∧ t.tb = s.tb ∧ t.regs = s.regs ∧ t.dram = s.dram ∧ t.hostMem = s.hostMem ∧
      t.rm.vbTicks = s.rm.vbTicks + (if s.power.vauxB then 1 else 0))

/-- What reset leaves (R65, R68, R408, R420, R451). Where the manual leaves a corner open the clauses follow the model's choice: log entries 6, 7 and
9. -/
def Obligations.ResetState : Prop :=
  (State.reset.dev = stBOOT ∧ State.reset.tb = 0 ∧ State.reset.reg Reg.SAFE_LINES = 0 ∧ State.reset.fld Reg.SAFE_SO Fld.SAFE_SO_ON = 0 ∧ State.reset.pending = []) ∧
  (∀ (a : Nat) (r : RegRow), Reg.row a = some r → r.present State.reset.variant a → ¬(0x68080 ≤ a ∧ a < 0x68100) → State.reset.reg a = r.reset) ∧
  (∀ c : Fin 7, State.reset.bit (Reg.MBX_CH_CFG_SEC c.val) Fld.MBX_CH_CFG_EN ∧
    State.reset.fld (Reg.MBX_CH_CFG_SEC c.val) Fld.MBX_CH_CFG_EPA = [0, 1, 2, 3, 4, 5, 0].getD c.val 0 ∧
    State.reset.fld (Reg.MBX_CH_CFG_SEC c.val) Fld.MBX_CH_CFG_EPB = (if c.val < 6 then 6 else 1)) ∧
  (∀ r : Fin 32, State.reset.ringOn r.val = false) ∧
  (∀ i : Fin 4, State.reset.txState i.val = txFREE) ∧
  (∀ (c : Fin 16) (d : Bool), (State.reset.dir c.val d).busy = false ∧ (State.reset.dir c.val d).valid = false)

/-- Right after reset no flag event waits and every memory is canonical (R447, R451). -/
def Obligations.ResetDelivered : Prop :=
  State.reset.events = [] ∧ State.reset.wf

/-- Every step delivers the flag events that it causes (R447, R454, R455, R456). Where the manual leaves a corner open the clauses follow the model's
choice: log entry 18. -/
def Obligations.EveryStepDelivers : Prop :=
  ∀ s t : State, s.events = [] → step s = .next t → t.events = []

/-- No command stops the machine (R5, R65, R446). Where the manual leaves a corner open the clauses follow the model's choice: log entry 1. -/
def Obligations.EveryCommandAnswersNext : Prop :=
  ∀ (i : Instr) (s : State), ∃ t, exec i s = .next t

/-- While a die does not run its commands change nothing (R56, R58, R68). Where the manual leaves a corner open the clauses follow the model's choice:
log entry 1. -/
def Obligations.StoppedDiesDoNothing : Prop :=
  (∀ (i : Instr) (s : State), withoutControlDie i = false → s.cdRun = false → exec i s = .next s) ∧
  (∀ (i : Instr) (s : State), ofRingmaster i → s.rmRun = false → exec i s = .next s)

/-- A completion write ends the job or is discarded with BADWR (R18). -/
def Obligations.CompletionWrites : Prop :=
  (∀ (who : Party) (m : Mon) (v : Word) (s : State), s.cdRun → (who ≠ .host ∨ 32 ≤ m.val) →
    (partyCode who = s.trOwner m.val ∧ s.trState m.val = 2 ∧ v.toNat % 65536 = s.fld (Reg.CLK_TR_STAT m.val) Fld.CLK_TR_STAT_SEQ ∧ (s.trmon m.val).jobRel ≤ s.tb ∧ s.tb ≤ s.trDeadline m.val) →
    Completes (.completionWrite who m v) s fun t => t.trState m.val ≠ 2 ∧
      t.bit (Reg.CLK_TR_STAT m.val) Fld.CLK_TR_STAT_ENDED_BY = false ∧
      t.fld (Reg.CLK_TR_CNT m.val) Fld.CLK_TR_CNT_LAST_SLACK = min (s.trDeadline m.val - s.tb) 65535 ∧
      Only (fun a => a = Reg.CLK_TR_STAT m.val ∨ a = Reg.CLK_TR_CNT m.val ∨ a = Reg.CLK_TR_CFG m.val) { s with slackCd := t.slackCd, slackMd := t.slackMd } t ∧
      t.flag (.clkTr m.val) 24 = s.flag (.clkTr m.val) 24) ∧
  (∀ (who : Party) (m : Mon) (v : Word) (s : State), s.cdRun → (who ≠ .host ∨ 32 ≤ m.val) → s.trLate m.val (v.toNat % 65536) = none →
    ¬(partyCode who = s.trOwner m.val ∧ s.trState m.val = 2 ∧ v.toNat % 65536 = s.fld (Reg.CLK_TR_STAT m.val) Fld.CLK_TR_STAT_SEQ ∧ (s.trmon m.val).jobRel ≤ s.tb ∧ s.tb ≤ s.trDeadline m.val) →
    Completes (.completionWrite who m v) s fun t => t.flag (.clkTr m.val) 24 ∧ Only (fun a => (FlagSrc.clkTr m.val).owns 24 a) s t)

/-- A notice not acknowledged in time ends with TIMEOUT (R414). -/
def Obligations.TimeoutsOfNotices : Prop :=
  (∀ (c : Chan) (d : Bool) (s : State), s.cdRun → s.chanOn c.val → (s.dir c.val d).busy → s.since (s.dir c.val d).posted (us (100 * s.fld (Reg.MBX_CH_TO c.val) Fld.MBX_CH_TO_ACK_TO)) → s.crossed c.val = false →
    Completes (.ackTimeout c d) s fun t => (t.dir c.val d).code = 0x8001 ∧ t.flag .mbx 2 ∧
      ((s.devQueue.all fun n => n.chan != c.val) → s.endpoint c.val false ≠ 7 → (t.dir c.val d).busy = false ∧ (t.dir c.val d).valid = false ∧ (t.dir c.val d).withdrawn)) ∧
  (∀ (who : Party) (c : Chan) (d : Bool) (s : State), s.cdRun → (s.dir c.val d).busy →
    Completes (.partyUp who) s fun t => (t.dir c.val d).posted = (s.dir c.val d).posted)

/-- Which transmit buffer a CAN controller sends next (R365). -/
def Obligations.CanArbitration : Prop :=
  (∀ (s : State) (x b : Nat), s.canNext x = some b → b < 3 ∧ s.canOwns x b ∧ ∀ c : Fin 3, s.canOwns x c.val →
    if s.bit (Reg.CAN_CTRL x) Fld.CAN_CTRL_ORDER then b ≤ c.val
    else s.canArb x b < s.canArb x c.val ∨ s.canArb x b = s.canArb x c.val ∧ (s.can x).order.getD b 0 ≤ (s.can x).order.getD c.val 0) ∧
  (∀ (s : State) (x : Nat) (b : Fin 3), s.canOwns x b.val → (s.canNext x).isSome) ∧
  (∀ (s : State) (x : CanC) (b : Nat), s.canMaySend x.val → (s.can x.val).sending = none → s.canNext x.val = some b →
    ((s.canStart x.val).can x.val).sending = some b ∧ (s.canStart x.val).canNext x.val = some b) ∧
  (∀ (s : State) (x b : Nat), s.canArb x b = (if s.bit (Reg.CAN_TB_ID x b) ⟨29, 1⟩ then s.fld (Reg.CAN_TB_ID x b) ⟨0, 29⟩
    else s.fld (Reg.CAN_TB_ID x b) ⟨18, 11⟩ * 2 ^ 18))

/-- Counters are reduced by subtraction, byte by byte (R449). -/
def Obligations.CounterSubtraction : Prop :=
  (∀ (v : Word) (s : State) (off : Nat) (r : RegRow), s.cdRun → (s.reg Reg.GLB_CNTSEL).toNat % 2 ^ 20 = off → counterBytes off ≠ [] → Reg.row off = some r →
    r.present s.variant off → Completes (.cntsub v) s fun t =>
      (∀ b : Fin 4, (t.reg off).toNat / 2 ^ (8 * b.val) % 256 =
        (s.reg off).toNat / 2 ^ (8 * b.val) % 256 - (if (counterBytes off).contains b.val then v.toNat / 2 ^ (8 * b.val) % 256 else 0)) ∧
      Only (fun a => a = off) s t) ∧
  (∀ (v : Word) (s : State), s.cdRun → counterBytes ((s.reg Reg.GLB_CNTSEL).toNat % 2 ^ 20) = [] →
    Completes (.cntsub v) s fun t => t.flag .glb 2 ∧ Only (fun a => FlagSrc.glb.owns 2 a) s t) ∧
  (∀ a : Nat, 0x48000 ≤ a → a < 0x50000 → counterBytes a = []) ∧
  (∀ m : Fin 256, counterBytes (Reg.CLK_TR_CNT m.val) = [0, 1])

/-- An occurrence of a flag (R447, R448, R454). -/
def Obligations.FlagOccurrences : Prop :=
  ∀ (src : FlagSrc) (b : Fin 32) (s : State), (s.raise src b.val).flag src b.val ∧
    (∀ c : Fin 32, c ≠ b → (s.raise src b.val).flag src c.val = s.flag src c.val) ∧
    (s.raise src b.val).count src b.val = (if (src.counter b.val).isSome then min (s.count src b.val + 1) 0xFF else 0) ∧
    (∀ c : Fin 32, c ≠ b → (s.raise src b.val).count src c.val = s.count src c.val) ∧
    (s.raise src b.val).events = (if s.flag src b.val then s.events else s.events ++ [⟨src.num, src.addr, 2 ^ b.val⟩])

/-- Clearing flags by writes (R5, R447, R448). -/
def Obligations.FlagClearing : Prop :=
  (∀ (src : FlagSrc) (v : Word) (s : State) (r : RegRow), src ∈ [FlagSrc.glb, .ctu, .pwr, .pwrHu, .thm, .clk] → s.cdRun → Reg.row src.addr = some r →
    Completes (.registerWrite src.addr v) s fun t =>
      (∀ b : Fin 32, t.flag src b.val = (s.flag src b.val && !(v.toNat.testBit b.val && r.w1c.toNat.testBit b.val))) ∧
      (∀ b : Fin 32, t.count src b.val = s.count src b.val) ∧ Only (fun a => a = src.addr) s t) ∧
  (∀ (v : Word) (s : State), s.cdRun → Completes (.registerWrite Reg.SAFE_FLAGS v) s fun t => t.reg Reg.SAFE_FLAGS = s.reg Reg.SAFE_FLAGS ∧ Only (fun _ => False) s t)

/-- Entries of the rings that the device writes (R384, R385, R387). -/
def Obligations.RingEntries : Prop :=
  (∀ (l : Fin 32) (i : Nat), phaseOf (i % 2 ^ 32) (2 ^ l.val) = if i / 2 ^ l.val % 2 = 0 then 1 else 0) ∧
  (∀ (s : State) (r size : Nat) (now : Bool) (mk : Nat → Nat → List Byte), (s.produce r size now mk).devIdx r = (s.devIdx r + 1) % 2 ^ 32 ∧
    (s.produce r size now mk).hostMem = ((s.putHost (s.ringBase r + size * (s.devIdx r % s.ringN r)) (mk (s.devIdx r) (phaseOf (s.devIdx r) (s.ringN r)))).writeBack r
      ((s.devIdx r + 1) % 2 ^ 32)).hostMem) ∧
  (∀ (s : State) (r size : Nat) (now : Bool) (mk : Nat → Nat → List Byte), s.room r →
    idxDiff ((s.produce r size now mk).devIdx r) ((s.produce r size now mk).hostIdx r) ≤ (s.produce r size now mk).ringN r)

/-- Reads after writes of DRAM, host memory and registers (R5, R28, R381). -/
def Obligations.MemoriesReadBack : Prop :=
  (∀ (s : State) (a x : Nat) (l : List Byte), (s.putDram a l).dramBytes x 1 = (match l[x - a]? with | some b => if a ≤ x then [b] else s.dramBytes x 1 | none => s.dramBytes x 1)) ∧
  (∀ (s : State) (a x : Nat) (l : List Byte), (s.putHost a l).hostBytes x 1 = (match l[x - a]? with | some b => if a ≤ x then [b] else s.hostBytes x 1 | none => s.hostBytes x 1)) ∧
  (∀ (s : State) (a x : Nat) (v : Word), (s.setReg a v).reg x = if x = a then v else s.reg x) ∧
  (∀ (s : State) (a : Nat) (v : Word) (l : List Byte), s.wf → (s.setReg a v).wf ∧ (s.putDram a l).wf ∧ (s.putHost a l).wf)

/-- Numbers of recorder entries (R432, R433, R443). -/
def Obligations.RecorderNumbers : Prop :=
  (∀ (s : State) (source bits : Nat) (detail : List Nat), s.worn 2 = false → s.recQueue.length < 256 →
    ∃ e, (s.record source bits detail).recQueue = s.recQueue ++ [e] ∧ e.seq = s.recst.issued + 1 ∧ e.source = source ∧ e.bits = bits ∧
      (s.record source bits detail).recst.issued = s.recst.issued + 1 ∧
      (s.record source bits detail).fld Reg.REC_STAT Fld.REC_STAT_DEPTH = s.recQueue.length + 1) ∧
  (∀ (s : State) (source bits : Nat) (detail : List Nat), (s.worn 2 ∨ 256 ≤ s.recQueue.length) →
    (s.record source bits detail).recQueue = s.recQueue ∧ (s.record source bits detail).recst = s.recst ∧
      (s.record source bits detail).reg Reg.REC_SYSSUPP = BitVec.ofNat 32 (min ((s.reg Reg.REC_SYSSUPP).toNat + 1) 0xFFFFFFFF))

/-- Host accesses: what a write, a bad access, and a read that acts leave (R5, R381, R446, R449, R453, R359, R28). Where the manual leaves a corner
open the clauses follow the model's choice: log entries 15, 16, 73, 91 and 94. -/
def Obligations.HostAccessCompletes : Prop :=
  (∀ (off : Nat) (v : Word) (r : RegRow) (s : State),
    s.cdRun → off % 4 = 0 → (off < 0x2100 ∨ 0x2200 ≤ off ∧ off < 0x6000) → Reg.row off = some r → r.present s.variant off → [Reg.GLB_DEVCMD,
    Reg.GLB_CNTSUB, Reg.CTU_CMD, Reg.CTU_STG_VAL, Reg.PWR_HU_CMD, Reg.PWR_VIO_CFG].contains off = false → s.lockHits r off v = false → (List.range
    4).all (fun i => !s.stages i off) →
    Completes (.registerWrite off v) s fun t =>
      t.reg off = s.written r off v ∧ Only (fun a => a = off) s t) ∧
  (∀ (off : Nat) (v : Word) (r : RegRow) (s : State),
    s.cdRun → off % 4 = 0 → (off < 0x2100 ∨ 0x2200 ≤ off ∧ off < 0x6000) → Reg.row off = some r → r.present s.variant off → [Reg.GLB_DEVCMD,
    Reg.GLB_CNTSUB, Reg.CTU_CMD, Reg.CTU_STG_VAL, Reg.PWR_HU_CMD, Reg.PWR_VIO_CFG].contains off = false → s.lockHits r off v → (List.range 4).all (fun
    i => !s.stages i off) →
    Completes (.registerWrite off v) s fun t =>
      t.reg off = s.written r off v ∧ t.flag .glb 1 ∧ Only (fun a => a = off ∨ FlagSrc.glb.owns 1 a) s t) ∧
  (∀ (off : Nat) (v : Word) (s : State),
    s.cdRun → off % 4 = 0 → off < 0x100000 → Reg.row off = none →
    Completes (.registerWrite off v) s fun t =>
      t.reg Reg.GLB_UNIMPL_ADDR = BitVec.ofNat 32 off ∧ t.flag .glb 0 ∧ Only (fun a => a = Reg.GLB_UNIMPL_ADDR ∨ FlagSrc.glb.owns 0 a) s t) ∧
  (∀ (off : Nat) (v : Word) (s : State),
    s.cdRun → off % 4 ≠ 0 →
    Completes (.registerWrite off v) s fun t =>
      t.flag .hif 5 ∧ Only (fun a => FlagSrc.hif.owns 5 a) s t) ∧
  (∀ (bar : Bar) (write : Bool) (s : State),
    s.cdRun →
    Completes (.badAccess bar write) s fun t =>
      t.flag .hif 5 ∧ (write = false → t.cpl = some { ur := true }) ∧ Only (fun a => FlagSrc.hif.owns 5 a) { s with cpl := t.cpl } t) ∧
  (∀ (off : Nat) (data : List Byte) (s : State),
    s.cdRun → (s.reg Reg.HIF_SHM_BASE).toNat ≤ off → off + data.length ≤ min ((s.reg Reg.HIF_SHM_BASE).toNat + (s.reg Reg.HIF_SHM_SIZE).toNat) (2 ^
    29) →
    Completes (.bar4Write off data) s fun t =>
      (∀ i b, data[i]? = some b → t.dramBytes (off + i) 1 = [b]) ∧ (∀ a, a < off ∨ off + data.length ≤ a → t.dramBytes a 1 = s.dramBytes a 1) ∧ Only
      (fun _ => False) { s with dram := t.dram } t) ∧
  (∀ (off : Nat) (data : List Byte) (s : State),
    s.cdRun → off < (s.reg Reg.HIF_SHM_BASE).toNat ∨ min ((s.reg Reg.HIF_SHM_BASE).toNat + (s.reg Reg.HIF_SHM_SIZE).toNat) (2 ^ 29) < off +
    data.length →
    Completes (.bar4Write off data) s fun t =>
      t.flag .hif 6 ∧ Only (fun a => FlagSrc.hif.owns 6 a) s t) ∧
  (∀ (off len corrected : Nat) (uncorrectable : Bool) (s : State),
    s.cdRun →
    Completes (.bar4Read off len corrected uncorrectable) s fun t =>
      t.cpl = some { data := s.dramBytes off len, poisoned := uncorrectable } ∧ t.eccCor = s.eccCor + corrected ∧ Only (fun _ => False)
      { s with cpl := t.cpl, eccCor := t.eccCor } t) ∧
  (∀ (s : State),
    s.cdRun →
    Completes .tbLoRead s fun t =>
      t.reg Reg.CLK_TB_HI = BitVec.ofNat 32 (s.tb / 2 ^ 32) ∧ t.cpl = some { data := leBytes 4 (s.tb % 2 ^ 32) } ∧ Only (fun a => a = Reg.CLK_TB_HI)
      { s with cpl := t.cpl } t) ∧
  (∀ (s : State),
    s.cdRun →
    Completes .ptpSecLoRead s fun t =>
      t.reg Reg.ETH_PTP_SEC_HI = BitVec.ofNat 32 (s.ptpSec / 2 ^ 32 % 65536) ∧ t.reg Reg.ETH_PTP_NS = BitVec.ofNat 32 s.ptpNano ∧ t.cpl = some
      { data := leBytes 4 (s.ptpSec % 2 ^ 32) } ∧ Only (fun a => a = Reg.ETH_PTP_SEC_HI ∨ a = Reg.ETH_PTP_NS) { s with cpl := t.cpl } t) ∧
  (∀ (v : Word) (off : Nat) (r : RegRow) (s : State),
    s.cdRun → (s.reg Reg.GLB_CNTSEL).toNat % 2 ^ 20 = off → counterBytes off ≠ [] → Reg.row off = some r → r.present s.variant off →
    Completes (.cntsub v) s fun t =>
      t.reg off = subBytes (counterBytes off) (s.reg off) v ∧ Only (fun a => a = off) s t) ∧
  (∀ (v : Word) (s : State),
    s.cdRun → counterBytes ((s.reg Reg.GLB_CNTSEL).toNat % 2 ^ 20) = [] →
    Completes (.cntsub v) s fun t =>
      t.flag .glb 2 ∧ Only (fun a => FlagSrc.glb.owns 2 a) s t)

/-- Configuration transactions: BEGIN, STAGE, VALIDATE, COMMIT, ROLLBACK and the timeouts (R422, R425, R427, R429). Where the manual leaves a corner
open the clauses follow the model's choice: log entries 69 and 70. -/
def Obligations.TransactionOperationsComplete : Prop :=
  (∀ (i : Nat) (s : State),
    s.cdRun → s.txAccepted → (List.range 4).find? (fun u => s.txState u == txFREE) = some i →
    Completes .txnBegin s fun t =>
      t.txState i = txOPEN ∧ t.txTid i = s.freshTid ∧ (t.txn i).staged = [] ∧ t.fld Reg.CTU_RES Fld.CTU_RES_RESULT = rcDONE ∧ t.fld Reg.CTU_RES
      Fld.CTU_RES_TID = s.freshTid ∧ Only (fun a => a = Reg.CTU_T_STAT i ∨ a = Reg.CTU_RES) { s with txns := t.txns, lastTid := t.lastTid } t) ∧
  (∀ (v : Word) (i off : Nat) (s : State),
    s.cdRun → s.txAccepted → s.txSlot (Fld.CTU_STG_OFS_TID.get (s.reg Reg.CTU_STG_OFS)) = some i → s.txState i ≠ txPENDING → Fld.CTU_STG_OFS_BAR0.get
    (s.reg Reg.CTU_STG_OFS) = off → off % 4 = 0 → off < 0x80000 → (s.stages i off ∨ (s.txn i).staged.length < 1024) →
    Completes (.txnStage v) s fun t =>
      (t.txn i).staged = Cells.insert (Cells.erase (s.txn i).staged off) off v ∧ t.txState i = txOPEN ∧ t.fld Reg.CTU_STG_OFS Fld.CTU_STG_OFS_BAR0 = off
      + 4 ∧ Only (fun a => a = Reg.CTU_T_STAT i ∨ a = Reg.CTU_STG_OFS) { s with txns := t.txns } t) ∧
  (∀ (tid : Fin 256) (i : Nat) (s : State),
    s.cdRun → s.txAccepted → s.txSlot tid.val = some i → s.txState i ≠ txPENDING → s.txVerdict i = none →
    Completes (.txnValidate tid) s fun t =>
      t.txState i = txVALIDATED ∧ t.fld Reg.CTU_RES Fld.CTU_RES_RESULT = rcDONE ∧ Only (fun a => a = Reg.CTU_T_STAT i ∨ a = Reg.CTU_RES)
      { s with txns := t.txns } t) ∧
  (∀ (tid : Fin 256) (i why off : Nat) (s : State),
    s.cdRun → s.txAccepted → s.txSlot tid.val = some i → s.txState i ≠ txPENDING → s.txVerdict i = some (why, off) → why ≠ trCONFLICT →
    Completes (.txnValidate tid) s fun t =>
      t.txState i = txOPEN ∧ t.reg (Reg.CTU_T_ERR i) = BitVec.ofNat 32 (why * 2 ^ 24 + off % 2 ^ 20) ∧ t.fld Reg.CTU_RES Fld.CTU_RES_RESULT = rcCOND ∧
      t.flag .ctu 5 ∧ Only (fun a => a = Reg.CTU_T_STAT i ∨ a = Reg.CTU_T_ERR i ∨ a = Reg.CTU_RES ∨ FlagSrc.ctu.owns 5 a) { s with txns := t.txns } t) ∧
  (∀ (tid : Fin 256) (i : Nat) (tc : Option Nat) (s : State),
    s.cdRun → s.txAccepted → s.txSlot tid.val = some i → s.txState i ≠ txPENDING → s.txVerdict i = none → s.boundaryTc ((s.reg Reg.CTU_BND).toNat % 4)
    (Fld.CTU_BND_CLUSTER.get (s.reg Reg.CTU_BND)) (((s.reg Reg.CTU_BND_PTPS_LO).toNat + 2 ^ 32 * ((s.reg Reg.CTU_BND_PTPS_HI).toNat % 65536)) *
    ptpSecond + (s.reg Reg.CTU_BND_PTPNS).toNat % 2 ^ 30 * 2 ^ 32) = some tc →
    Completes (.txnCommit tid) s fun t =>
      t.txState i = txPENDING ∧ (t.txn i).tc = tc ∧ (t.txn i).staged = (s.txn i).staged ∧ t.reg64 (Reg.CTU_T_TC_LO i) (Reg.CTU_T_TC_HI i) = tc.getD 0 %
      2 ^ 64 ∧ t.fld Reg.CTU_RES Fld.CTU_RES_RESULT = rcPENDING ∧ Only (fun a => a = Reg.CTU_T_STAT i ∨ a = Reg.CTU_T_TC_LO i ∨ a = Reg.CTU_T_TC_HI i ∨
      a = Reg.CTU_RES) { s with txns := t.txns } t) ∧
  (∀ (tid : Fin 256) (i : Nat) (s : State),
    s.cdRun → s.txAccepted → s.txSlot tid.val = some i → s.txState i ≠ txPENDING →
    Completes (.txnRollback tid) s fun t =>
      t.txState i = txFREE ∧ (t.txn i).staged = [] ∧ t.fld Reg.CTU_RES Fld.CTU_RES_RESULT = rcDONE ∧ Only (fun a => a = Reg.CTU_T_STAT i ∨ a =
      Reg.CTU_RES) { s with txns := t.txns } t) ∧
  (∀ (i : Fin 4) (s : State),
    s.cdRun → (s.txState i.val = txOPEN ∨ s.txState i.val = txVALIDATED) → s.since (s.txn i.val).lastOp (ms (s.fld Reg.CTU_CFG Fld.CTU_CFG_TXN_TO)) →
    Completes (.txnTimeout i) s fun t =>
      t.txState i.val = txFREE ∧ (t.txn i.val).staged = [] ∧ t.reg (Reg.CTU_T_ERR i.val) = BitVec.ofNat 32 (trTIMEOUT * 2 ^ 24) ∧ t.flag .ctu 2 ∧ Only
      (fun a => a = Reg.CTU_T_STAT i.val ∨ a = Reg.CTU_T_ERR i.val ∨ FlagSrc.ctu.owns 2 a ∨ a = Reg.REC_SYSSUPP) { s with txns := t.txns } t) ∧
  (∀ (i : Fin 4) (s : State),
    s.cdRun → s.txState i.val = txPENDING → s.landDue i.val = false → s.since (s.txn i.val).commitAt (ms (s.fld Reg.CTU_CFG Fld.CTU_CFG_COMMIT_TO)) →
    Completes (.commitTimeout i) s fun t =>
      t.txState i.val = txFREE ∧ (t.txn i.val).staged = [] ∧ t.flag .ctu 1 ∧ t.flag .ctu 2)

/-- A landing and the images that are loaded and applied (R424, R72, R69, R425). Where the manual leaves a corner open the clauses follow the model's
choice: log entries 27, 71, 82 and 96. -/
def Obligations.LandingsComplete : Prop :=
  (∀ (i : Fin 4) (off : Nat) (v : Word) (r : RegRow) (s : State),
    s.cdRun → s.landDue i.val → s.landFirst i.val → (s.txn i.val).staged = [(off, v)] → (s.txn i.val).ring = none → s.cfgRow off = some r → off <
    0x6000 → ruled off = false → s.dev ≠ stCONFIG → (List.range 4).all (fun j => j == i.val || !s.stages j off) →
    Completes (.txnLand i) s fun t =>
      t.reg off = mergeBits r.cfgMask (s.reg off) v ∧ t.txState i.val = txFREE ∧ (t.txn i.val).staged = [] ∧ t.reg64 (Reg.CTU_T_TC_LO i.val)
      (Reg.CTU_T_TC_HI i.val) = s.tbFine % 2 ^ 64 ∧ t.flag .ctu 0 ∧ Only (fun a => a = off ∨ a = Reg.CTU_T_STAT i.val ∨ a = Reg.CTU_T_TC_LO i.val ∨ a =
      Reg.CTU_T_TC_HI i.val ∨ a = Reg.CTU_RES ∨ FlagSrc.ctu.owns 0 a) { s with txns := t.txns } t) ∧
  (∀ (i : Fin 4) (s : State),
    s.cdRun → s.landDue i.val → s.landFirst i.val →
    Completes (.txnLand i) s fun t =>
      t.txState i.val = txFREE ∧ (t.txn i.val).staged = [] ∧ t.flag .ctu 0) ∧
  (∀ (img : ConfigImage) (s : State),
    s.cdRun → s.dev = stCONFIG → s.store.config = some img → s.rm.image = 0 → (List.range 4).any (fun i => s.txState i == txFREE) → (imageWords
    img.writes).all (fun p => p.1 % 4 == 0 && Nat.blt p.1 0x80000) → ({ s with lastTid := s.freshTid } : State).validateImage (imageWords img.writes)
    img.pars false = none →
    Completes .configImageApply s fun t =>
      t.rm.image = 1 ∧ t.flag .ctu 0 ∧ t.locked = s.locked) ∧
  (∀ (img : ConfigImage) (s : State),
    s.cdRun → s.dev = stCONFIG → s.store.config = some img → s.rm.image = 0 → (List.range 4).any (fun i => s.txState i == txFREE) → (imageWords
    img.writes).any (fun p => p.1 % 4 != 0 || Nat.ble 0x80000 p.1) →
    Completes .configImageApply s fun t =>
      t.rm.image = 2 ∧ t.fld Reg.GLB_DEVSTATE Fld.GLB_DEVSTATE_CAUSE = 3 ∧ t.flag .ctu 1) ∧
  (∀ (img : ConfigImage) (s : State),
    s.cdRun → (s.trip 4).runs → s.dev ≠ stCONFIG → s.lockBars img = false →
    Completes (.loadConfigImage img) s fun t =>
      t.store.config = some img ∧ Only (fun _ => False) { s with store := t.store } t) ∧
  (∀ (img : ConfigImage) (s : State),
    s.cdRun → (s.trip 4).runs → s.dev ≠ stCONFIG → s.lockBars img →
    Completes (.loadConfigImage img) s fun t =>
      t.store.config = s.store.config ∧ Only (fun _ => False) s t) ∧
  (∀ (img : ConfigImage) (s : State),
    s.cdRun → (s.trip 4).runs → s.dev = stCONFIG → s.lockBars img = false →
    Completes (.loadConfigImage img) s fun t =>
      t.store.config = some img) ∧
  (∀ (i : Fin 4) (v : Verdicts) (blocks : List BlockPar) (b fell : Bool) (s : State),
    s.cdRun → (s.trip 4).runs → s.dev = stCONFIG → (s.trip i.val).runs = false → s.ownerKey → (s.bootKind (2 + i.val) v).2 = some (b, fell) →
    Completes (.loadLtImage i v blocks) s fun t =>
      (t.trip i.val).img = 1 ∧ (t.trip i.val).copyB = b ∧ t.bit Reg.GLB_BOOTSTAT Fld.GLB_BOOTSTAT_LT_IMG = b ∧ ((List.range 4).all (fun j => j == i.val
      || (s.trip j).img != 2) → (t.trip i.val).runs)) ∧
  (∀ (i : Fin 4) (v : Verdicts) (blocks : List BlockPar) (s : State),
    s.cdRun → (s.trip 4).runs → s.dev = stCONFIG → (s.trip i.val).runs = false → s.ownerKey = false →
    Completes (.loadLtImage i v blocks) s fun t =>
      t.fld Reg.GLB_DEVSTATE Fld.GLB_DEVSTATE_CAUSE = 3 ∧ (t.trip 0).runs = false ∧ (t.trip 1).runs = false ∧ (t.trip 2).runs = false ∧ (t.trip 3).runs
      = false) ∧
  (∀ (s : State),
    s.cdRun → s.dev = stCONFIG → s.allRun → s.rm.armed → s.rmRun → s.rangesHold → s.validate [] none = none →
    Completes .configComplete s fun t =>
      t.dev = stDIAG ∧ t.diag.step = 1)

/-- Clock domains and the deviation of TB (R12, R13, R472). Where the manual leaves a corner open the clauses follow the model's choice: log entry 22. -/
def Obligations.ClocksComplete : Prop :=
  (∀ (d : Fin 14) (groups : Fin 16) (s : State),
    s.cdRun → d.val ≠ 8 → (d.val ≠ 12 ∨ s.rmRun) → (d.val = 3 ∨ s.clockOut d.val = false) →
    Completes (.clockLoss d groups) s fun t =>
      t.clockOut d.val ∧ t.fld Reg.CLK_STAT ⟨d.val, 1⟩ = 0 ∧ t.flag .clk d.val) ∧
  (∀ (d : Fin 14) (groups : Fin 16) (s : State),
    s.cdRun → d.val = 8 → s.clockOut 8 = false → s.bit Reg.ETH_PTP_STAT Fld.ETH_PTP_STAT_HOLDOVER = false →
    Completes (.clockLoss d groups) s fun t =>
      t.clockOut d.val ∧ t.fld Reg.CLK_STAT ⟨d.val, 1⟩ = 0 ∧ t.flag .clk 8 ∧ t.bit Reg.ETH_PTP_STAT Fld.ETH_PTP_STAT_HOLDOVER) ∧
  (∀ (d : Fin 14) (groups : Fin 16) (s : State),
    s.cdRun → d.val = 0 → s.clockOut 0 = false →
    Completes (.clockLoss d groups) s fun t =>
      t.fld Reg.CLK_STAT ⟨16, 1⟩ = 1 ∧ t.bit Reg.ETH_PTP_STAT Fld.ETH_PTP_STAT_HOLDOVER) ∧
  (∀ (d : Fin 14) (groups : Fin 16) (s : State),
    s.cdRun → (d.val = 1 ∨ d.val = 2 ∨ d.val = 11) → s.clockOut d.val = false →
    Completes (.clockLoss d groups) s fun t =>
      (t.dev = stSAFE ∨ t.dev = stLOCKOUT) ∧ (d.val = 1 → (t.reg Reg.SAFE_DEMAND).toNat.testBit 22)) ∧
  (∀ (d : Fin 14) (groups : Fin 16) (i : ModIn) (s : State),
    s.cdRun → d.val = 3 → groups.val.testBit (i.val / 6) →
    Completes (.clockLoss d groups) s fun t =>
      t.invalid (.mod i) ∧ t.flag .meas 3) ∧
  (∀ (d : Fin 14) (groups : Fin 16) (s : State),
    s.cdRun → d.val = 5 → s.clockOut 5 = false → s.bit Reg.HIF_STAT Fld.HIF_STAT_LINKUP →
    Completes (.clockLoss d groups) s fun t =>
      t.reg Reg.HIF_STAT = 0) ∧
  (∀ (d : Fin 14) (groups : Fin 16) (s : State),
    s.cdRun → d.val = 10 → s.clockOut 10 = false → s.sysOn → s.role ≠ roLEADER → (s.fld Reg.EDG_ALIGN_STAT Fld.EDG_ALIGN_STAT_STATE = 1 ∨ s.fld
    Reg.EDG_ALIGN_STAT Fld.EDG_ALIGN_STAT_STATE = 2) →
    Completes (.clockLoss d groups) s fun t =>
      t.fld Reg.EDG_ALIGN_STAT Fld.EDG_ALIGN_STAT_STATE = 3 ∧ t.flag .align 2) ∧
  (∀ (d : Fin 14) (groups : Fin 16) (s : State),
    s.rmRun → d.val = 12 → s.clockOut 12 = false →
    Completes (.clockLoss d groups) s fun t =>
      t.rm.td12Lost ∧ (t.reg Reg.SAFE_DEMAND).toNat.testBit 25 ∧ (t.reg Reg.SAFE_LINES).toNat = 0 ∧ t.fld Reg.SAFE_SO Fld.SAFE_SO_ON = 0) ∧
  (∀ (d : Fin 14) (s : State),
    s.cdRun → s.clockOut d.val →
    Completes (.clockReturn d) s fun t =>
      t.clockOut d.val = false ∧ (d.val ≠ 8 → t.fld Reg.CLK_STAT ⟨d.val, 1⟩ = 1) ∧ (d.val = 0 → t.fld Reg.CLK_STAT ⟨16, 1⟩ = 0)) ∧
  (∀ (d : Fin 14) (s : State),
    d.val = 12 → s.clockOut 12 →
    Completes (.clockReturn d) s fun t =>
      t.clockOut 12 = false ∧ t.rm.td12Lost = false) ∧
  (∀ (dev : Int) (s : State),
    s.rmRun → s.rm.td12Lost = false → -5000 ≤ dev → dev ≤ 5000 →
    Completes (.tbDeviationWindow dev) s fun t =>
      t.rm.tbDev = 0 ∧ t.reg Reg.CLK_TBDEV = BitVec.ofNat 32 (unsigned 16 dev) ∧ Only (fun a => a = Reg.CLK_TBDEV) { s with rm := t.rm } t) ∧
  (∀ (dev : Int) (s : State),
    s.rmRun → s.rm.td12Lost = false → (dev < -5000 ∨ 5000 < dev) → s.rm.tbDev < 15 →
    Completes (.tbDeviationWindow dev) s fun t =>
      t.rm.tbDev = s.rm.tbDev + 1 ∧ (t.reg Reg.CLK_TBDEV).toNat / 2 ^ 16 = s.rm.tbDev + 1 ∧ t.reg Reg.SAFE_DEMAND = s.reg Reg.SAFE_DEMAND ∧ Only (fun a
      => a = Reg.CLK_TBDEV) { s with rm := t.rm } t) ∧
  (∀ (dev : Int) (s : State),
    s.cdRun → s.rmRun → s.rm.td12Lost = false → (dev < -5000 ∨ 5000 < dev) → s.rm.tbDev = 15 →
    Completes (.tbDeviationWindow dev) s fun t =>
      (t.reg Reg.SAFE_DEMAND).toNat.testBit 22 ∧ (s.clockOut 1 = false → t.flag .clk 1) ∧ (t.dev = stSAFE ∨ t.dev = stLOCKOUT)) ∧
  (∀ (dev : Int) (s : State),
    s.cdRun = false → s.rmRun → s.rm.td12Lost = false → (dev < -5000 ∨ 5000 < dev) → s.rm.tbDev = 15 →
    Completes (.tbDeviationWindow dev) s fun t =>
      (t.reg Reg.SAFE_DEMAND).toNat.testBit 22 ∧ (t.reg Reg.SAFE_LINES).toNat = 0)

/-- Deadline monitors, stalls and the slack controllers (R18, R19, R20, R21, R22, R23, R26, R27, R17). Where the manual leaves a corner open the
clauses follow the model's choice: log entries 20, 21, 79 and 81. -/
def Obligations.TightropeCompletes : Prop :=
  (∀ (m : Mon) (s : State),
    s.cdRun → s.bit (Reg.CLK_TR_CFG m.val) Fld.CLK_TR_CFG_EN → (s.trmon m.val).next ≤ s.tb → s.trState m.val ≠ 0 → (s.trState m.val ≠ 2 ∨ s.bit
    (Reg.CLK_TR_CFG m.val) Fld.CLK_TR_CFG_PERIODIC) →
    Completes (.jobRelease m) s fun t =>
      t.trState m.val = 2 ∧ t.fld (Reg.CLK_TR_STAT m.val) Fld.CLK_TR_STAT_SEQ = (s.fld (Reg.CLK_TR_STAT m.val) Fld.CLK_TR_STAT_SEQ + 1) % 65536 ∧
      (t.trmon m.val).jobRel = (s.trmon m.val).next ∧ (t.trmon m.val).next = (s.trmon m.val).next + (s.reg (Reg.CLK_TR_PERIOD m.val)).toNat ∧ (s.trState
      m.val = 2 → (t.trmon m.val).late = some (s.fld (Reg.CLK_TR_STAT m.val) Fld.CLK_TR_STAT_SEQ, s.trDeadline m.val)) ∧ Only (fun a => a =
      Reg.CLK_TR_STAT m.val) { s with trmons := t.trmons } t) ∧
  (∀ (who : Party) (m : Mon) (v : Word) (s : State),
    s.cdRun → (who ≠ .host ∨ 32 ≤ m.val) → partyCode who = s.trOwner m.val → s.trState m.val = 2 → v.toNat % 65536 = s.fld (Reg.CLK_TR_STAT m.val)
    Fld.CLK_TR_STAT_SEQ → (s.trmon m.val).jobRel ≤ s.tb → s.tb ≤ s.trDeadline m.val →
    Completes (.completionWrite who m v) s fun t =>
      t.bit (Reg.CLK_TR_STAT m.val) Fld.CLK_TR_STAT_ENDED_BY = false ∧ t.fld (Reg.CLK_TR_CNT m.val) Fld.CLK_TR_CNT_LAST_SLACK = min (s.trDeadline m.val
      - s.tb) 65535 ∧ t.trState m.val = (if s.bit (Reg.CLK_TR_CFG m.val) Fld.CLK_TR_CFG_PERIODIC && s.bit (Reg.CLK_TR_CFG m.val) Fld.CLK_TR_CFG_EN then
      3 else 0) ∧ Only (fun a => a = Reg.CLK_TR_STAT m.val ∨ a = Reg.CLK_TR_CNT m.val ∨ a = Reg.CLK_TR_CFG m.val)
      { s with slackCd := t.slackCd, slackMd := t.slackMd } t) ∧
  (∀ (who : Party) (m : Mon) (v : Word) (s : State),
    s.cdRun → (who ≠ .host ∨ 32 ≤ m.val) → partyCode who ≠ s.trOwner m.val →
    Completes (.completionWrite who m v) s fun t =>
      t.flag (.clkTr m.val) 24 ∧ Only (fun a => (FlagSrc.clkTr m.val).owns 24 a) s t) ∧
  (∀ (m : Mon) (s : State),
    s.cdRun → (s.trmon m.val).late = none → s.trState m.val = 2 → s.trDeadline m.val < s.tb → Fld.CLK_TR_CFG_CLASS.get (s.reg (Reg.CLK_TR_CFG m.val))
    = 0 →
    Completes (.deadlineFault m) s fun t =>
      t.bit (Reg.CLK_TR_STAT m.val) Fld.CLK_TR_STAT_ENDED_BY ∧ t.flag (.clkTr m.val) 25 ∧ t.trState m.val ≠ 2 ∧ Only (fun a => a = Reg.CLK_TR_STAT m.val
      ∨ a = Reg.CLK_TR_CNT m.val ∨ a = Reg.CLK_TR_CFG m.val ∨ a = Reg.PWR_VCD_STAT ∨ a = Reg.PWR_VMD_STAT ∨ a = Reg.REC_SYSSUPP)
      { s with slackCd := t.slackCd, slackMd := t.slackMd } t) ∧
  (∀ (m : Mon) (s : State),
    s.cdRun → (s.trmon m.val).late = none → s.trState m.val = 2 → s.trDeadline m.val < s.tb →
    Completes (.deadlineFault m) s fun t =>
      t.flag (.clkTr m.val) 25 ∧ (Fld.CLK_TR_CFG_CLASS.get (s.reg (Reg.CLK_TR_CFG m.val)) = 3 → t.dev = stSAFE ∨ t.dev = stLOCKOUT)) ∧
  (∀ (m : Mon) (q d : Nat) (s : State),
    s.cdRun → (s.trmon m.val).late = some (q, d) → d < s.tb →
    Completes (.deadlineFault m) s fun t =>
      (t.trmon m.val).late = none ∧ t.bit (Reg.CLK_TR_STAT m.val) Fld.CLK_TR_STAT_ENDED_BY ∧ t.flag (.clkTr m.val) 25 ∧ t.trState m.val = s.trState
      m.val) ∧
  (∀ (m : Mon) (k : Nat) (s : State),
    s.cdRun → (s.trmon m.val).late = none → s.trState m.val = 2 → s.trDeadline m.val < s.tb → Fld.CLK_TR_CFG_CLASS.get (s.reg (Reg.CLK_TR_CFG m.val))
    = 1 → Fld.CLK_TR_CFG_CLUSTER.get (s.reg (Reg.CLK_TR_CFG m.val)) = k → k < s.variant.clusters →
    Completes (.deadlineFault m) s fun t =>
      t.flag (.clkTr m.val) 25 ∧ t.bit (Reg.CLU_STAT k) Fld.CLU_STAT_DERATE ∧ (t.cluster k).derScale ∧ (t.cluster k).derAt = some s.now) ∧
  (∀ (m : Mon) (k : Nat) (s : State),
    s.cdRun → (s.trmon m.val).late = none → s.trState m.val = 2 → s.trDeadline m.val < s.tb → Fld.CLK_TR_CFG_CLASS.get (s.reg (Reg.CLK_TR_CFG m.val))
    = 2 → Fld.CLK_TR_CFG_CLUSTER.get (s.reg (Reg.CLK_TR_CFG m.val)) = k → k < s.variant.clusters → s.ctype k ≠ 0 → s.cstate k ≠ csSAFE_STOPPED →
    s.cstate k ≠ csFENCED →
    Completes (.deadlineFault m) s fun t =>
      t.flag (.clkTr m.val) 25 ∧ t.cstate k = csSAFE_STOPPED ∧ t.fld (Reg.CLU_STAT k) Fld.CLU_STAT_CAUSE = scTIGHTROPE ∧ t.flag (.clu k) 0) ∧
  (∀ (who : Party) (m : Mon) (v : Word) (s : State),
    s.cdRun → (who = .device ∨ 32 ≤ m.val) → s.bit (Reg.CLK_TR_CFG m.val) Fld.CLK_TR_CFG_EN = false → s.trState m.val ≠ 2 →
    Completes (.tightropeCfgWrite who m .deadline v) s fun t =>
      t.reg (Reg.CLK_TR_DEADLINE m.val) = v ∧ Only (fun a => a = Reg.CLK_TR_DEADLINE m.val) s t) ∧
  (∀ (who : Party) (m : Mon) (v : Word) (s : State),
    s.cdRun → 32 ≤ m.val → s.bit (Reg.CLK_TR_CFG m.val) Fld.CLK_TR_CFG_EN = false → s.trState m.val ≠ 2 → Fld.CLK_TR_CFG_EN.on v → s.trEnableOk m.val
    (BitVec.ofNat 32 (v.toNat &&& 0xF7F)) →
    Completes (.tightropeCfgWrite who m .cfg v) s fun t =>
      t.reg (Reg.CLK_TR_CFG m.val) = BitVec.ofNat 32 (v.toNat &&& 0xF7F) ∧ t.trState m.val = 1 ∧ (t.trmon m.val).next = s.reg64 (Reg.CLK_TR_RELEASE_LO
      m.val) (Reg.CLK_TR_RELEASE_HI m.val) ∧ Only (fun a => a = Reg.CLK_TR_CFG m.val ∨ a = Reg.CLK_TR_STAT m.val) { s with trmons := t.trmons } t) ∧
  (∀ (who : Party) (m : Mon) (r : TrReg) (v : Word) (s : State),
    s.cdRun → (who = .device ∨ 32 ≤ m.val) → s.bit (Reg.CLK_TR_CFG m.val) Fld.CLK_TR_CFG_EN → r ≠ .cfg →
    Completes (.tightropeCfgWrite who m r v) s fun t =>
      t.flag (.clkTr m.val) 26 ∧ Only (fun a => (FlagSrc.clkTr m.val).owns 26 a) s t) ∧
  (∀ (g : Nat) (copy : Fin 3) (s : State),
    s.cdRun → s.stalls = [] →
    Completes (.stall (.control g) copy) s fun t =>
      t.stalls = [((false, g), (copy.val, s.now))] ∧ Only (fun _ => False) { s with stalls := t.stalls } t) ∧
  (∀ (g : Nat) (copy : Fin 3) (c at0 : Nat) (s : State),
    s.cdRun → s.stalls = [((true, g), (c, at0))] → c ≠ copy.val → s.since at0 (us 200) = false →
    Completes (.stall (.measurement g) copy) s fun t =>
      t.dev = stSAFE ∨ t.dev = stLOCKOUT) ∧
  (∀ (i : Trip) (copy : Fin 3) (s : State),
    s.cdRun → s.trpOut i.val = 0 → ((s.trip i.val).fences.filter fun f => f.1 == copy.val && Nat.blt s.now (f.2 + 3600 * 1000 * ms 1)).length < s.fld
    (Reg.TRP_CFG i.val) Fld.TRP_CFG_RESYNC_LIM →
    Completes (.stall (.triplet i) copy) s fun t =>
      bitOf (t.fld (Reg.TRP_STAT i.val) Fld.TRP_STAT_FENCED) copy.val ∧ t.trpMode i.val = 1 ∧ t.fld (Reg.TRP_STAT i.val) Fld.TRP_STAT_RSSTEP = 1 ∧
      t.trpEpoch i.val = (s.trpEpoch i.val + 1) % 65536 ∧ (t.reg (Reg.TRP_LASTFENCE i.val)).toNat % 65536 = 3 * 16 + copy.val ∧ t.flag (.trp i.val) 2 ∧
      Only (fun a => a = Reg.TRP_STAT i.val ∨ a = Reg.TRP_EPOCH i.val ∨ a = Reg.TRP_LASTFENCE i.val ∨ a = Reg.TRP_LASTADDR i.val ∨ (FlagSrc.trp
      i.val).owns 5 a ∨ (FlagSrc.trp i.val).owns 2 a) s t) ∧
  (∀ (rail : Rail) (s : State),
    s.cdRun → s.since (railSlack (isMd rail) s).startAt (ms (s.reg (railWindow (isMd rail))).toNat) → (railSlack (isMd rail) s).worst = none →
    Completes (.slackWindowEnd rail) s fun t =>
      railSlack (isMd rail) t = { startAt := s.now, worst := none } ∧ Only (fun _ => False) { s with slackCd := t.slackCd, slackMd := t.slackMd } t) ∧
  (∀ (rail : Rail) (w : Nat) (s : State),
    s.cdRun → s.since (railSlack (isMd rail) s).startAt (ms (s.reg (railWindow (isMd rail))).toNat) → (railSlack (isMd rail) s).worst = some w →
    Completes (.slackWindowEnd rail) s fun t =>
      t.fld (railStat (isMd rail)) Fld.PWR_V_STAT_CODE = railStep (s.fld (railStat (isMd rail)) Fld.PWR_V_STAT_CODE) (s.fld (railLimits (isMd rail))
      Fld.PWR_VCD_LIMITS_VMIN) (s.fld (railLimits (isMd rail)) Fld.PWR_VCD_LIMITS_VMAX) (Nat.ble ((s.reg (railTarget (isMd rail))).toNat % 65536) w) ∧
      t.fld (railStat (isMd rail)) Fld.PWR_V_STAT_WORST = min w 65535 ∧ railSlack (isMd rail) t = { startAt := s.now, worst := none } ∧ Only (fun a => a
      = railStat (isMd rail)) { s with slackCd := t.slackCd, slackMd := t.slackMd } t) ∧
  (∀ (rail : Rail) (v : Word) (s : State),
    s.cdRun →
    Completes (.slackParamWrite rail .target v) s fun t =>
      t.reg (railTarget (isMd rail)) = BitVec.ofNat 32 (v.toNat % 65536) ∧ Only (fun a => a = railTarget (isMd rail)) s t) ∧
  (∀ (rail : Rail) (v : Word) (s : State),
    s.cdRun →
    Completes (.slackParamWrite rail .window v) s fun t =>
      t.reg (railWindow (isMd rail)) = BitVec.ofNat 32 (clampN 1 1000 (v.toNat % 1024)) ∧ (clampN 1 1000 (v.toNat % 1024) ≠ v.toNat % 1024 → t.flag .pwr
      12) ∧ Only (fun a => a = railWindow (isMd rail) ∨ FlagSrc.pwr.owns 12 a) s t) ∧
  (∀ (rail : Rail) (v : Word) (s : State),
    s.cdRun →
    Completes (.slackParamWrite rail .limits v) s fun t =>
      t.fld (railLimits (isMd rail)) Fld.PWR_VCD_LIMITS_VMIN = (match rail with | .cd => clampN 0x2E 0x4A | .md => clampN 0x18 0x50)
      (Fld.PWR_VCD_LIMITS_VMIN.get v) ∧ Only (fun a => a = railLimits (isMd rail) ∨ FlagSrc.pwr.owns 12 a) s t)

/-- Supplies, banks and rails (R34, R51, R52, R53, R54, R55, R56, R57, R58, R59, R68). Where the manual leaves a corner open the clauses follow the
model's choice: log entries 22, 23, 24, 26, 83, 96 and 98. -/
def Obligations.SuppliesComplete : Prop :=
  (∀ (sup : Supply) (above crossed beyond : Bool) (s : State),
    s.cdRun →
    Completes (.supplyExcursion sup above crossed beyond) s fun t =>
      bitOf t.power.out (supplyBit sup) ∧ t.bit Reg.GLB_GUARD Fld.GLB_GUARD_SUPPLY_OUT) ∧
  (∀ (sup : Supply) (above beyond : Bool) (s : State),
    s.cdRun →
    Completes (.supplyExcursion sup above false beyond) s fun t =>
      bitOf t.power.out (supplyBit sup) ∧ t.bit Reg.GLB_GUARD Fld.GLB_GUARD_SUPPLY_OUT ∧ t.safetyLog = (if beyond && s.supervised sup then s.safetyLog
      ++ [⟨0x50, supplyBit sup, 0⟩] else s.safetyLog) ∧ Only (fun a => FlagSrc.guard.owns 8 a) { s with power := t.power, safetyLog := t.safetyLog } t) ∧
  (∀ (s : State),
    s.cdRun = false →
    Completes (.supplyExcursion .vauxA false true false) s fun t =>
      t.power.vauxA = false ∧ Only (fun _ => False) { s with power := t.power } t) ∧
  (∀ (s : State),
    s.cdRun →
    Completes (.supplyExcursion .vauxA true true false) s fun t =>
      t.flag .pwr 1 ∧ t.bit Reg.PWR_SUPSTAT Fld.PWR_SUPSTAT_VAUXA_OK = false ∧ Only (fun a => a = Reg.PWR_SUPSTAT ∨ FlagSrc.pwr.owns 1 a ∨
      FlagSrc.guard.owns 8 a) { s with power := t.power } t) ∧
  (∀ (s : State),
    s.cdRun →
    Completes (.supplyExcursion .vauxB true true false) s fun t =>
      t.flag .pwr 3 ∧ t.bit Reg.PWR_SUPSTAT Fld.PWR_SUPSTAT_VAUXB_OK = false ∧ Only (fun a => a = Reg.PWR_SUPSTAT ∨ FlagSrc.pwr.owns 3 a ∨
      FlagSrc.guard.owns 8 a) { s with power := t.power } t) ∧
  (∀ (sup : Supply) (s : State),
    s.cdRun →
    Completes (.supplyReturn (.supply sup)) s fun t =>
      bitOf t.power.out (supplyBit sup) = false ∧ t.bit Reg.GLB_GUARD Fld.GLB_GUARD_SUPPLY_OUT = (t.power.out != 0) ∧ (sup = .vso → t.bit
      Reg.PWR_SUPSTAT Fld.PWR_SUPSTAT_VSO_OK) ∧ Only (fun a => a = Reg.PWR_SUPSTAT ∨ FlagSrc.guard.owns 8 a) { s with power := t.power, rm := t.rm } t) ∧
  (∀ (n : Slot) (s : State),
    s.cdRun →
    Completes (.supplyReturn (.rail (.driver n))) s fun t =>
      bitOf t.power.out (13 + n.val) = false ∧ t.bit Reg.GLB_GUARD Fld.GLB_GUARD_SUPPLY_OUT = (t.power.out != 0) ∧ Only (fun a => FlagSrc.guard.owns 8
      a) { s with power := t.power } t) ∧
  (∀ (s : State),
    s.power.vauxB → s.rmRun = false → s.rm.ready = false →
    Completes (.supplyReturn (.rail .ringmaster)) s fun t =>
      bitOf t.power.out 37 = false ∧ t.rm.relAt = some s.now ∧ t.power.vauxB) ∧
  (∀ (x : Fin 6) (s : State),
    s.cdRun → s.vioOk x.val = false →
    Completes (.vioEnterWindow x) s fun t =>
      t.vioOk x.val ∧ Only (fun a => a = Reg.PWR_SUPSTAT ∨ (0x38000 ≤ a ∧ a < 0x40000) ∨ 0x58000 ≤ a)
      { s with svrs := t.svrs, auxs := t.auxs, cans := t.cans } t) ∧
  (∀ (x : Fin 6) (s : State),
    s.cdRun → s.vioOk x.val →
    Completes (.vioLeaveWindow x) s fun t =>
      t.vioOk x.val = false ∧ t.flag .pwr (6 + x.val)) ∧
  (∀ (s : State),
    s.power.vauxB = false →
    Completes .vauxBRise s fun t =>
      t.power.vauxB ∧ t.rmRun = false ∧ t.rm.ready = false ∧ t.rm.relAt = some s.now ∧ (∀ a, 0x48000 ≤ a → a < 0x50000 → t.reg a = Reg.resetOf s.variant
      a) ∧ Only (fun a => (0x48000 ≤ a ∧ a < 0x50000) ∨ a = Reg.PWR_SUPSTAT) { s with power := t.power, rm := t.rm, rmRun := t.rmRun } t) ∧
  (∀ (v : Verdicts) (selfTest : Bool) (b fell : Bool) (s : State),
    s.power.vauxB → s.rmRail → s.rm.ready = false → (s.bootKind 0 v).2 = some (b, fell) →
    Completes (.ringmasterReady v selfTest) s fun t =>
      t.rm.ready ∧ t.rmRun = selfTest ∧ t.rm.failed = !selfTest ∧ t.bit Reg.GLB_BOOTSTAT Fld.GLB_BOOTSTAT_RM_IMG = b) ∧
  (∀ (v : Verdicts) (selfTest : Bool) (s : State),
    s.power.vauxB → s.rmRail → s.rm.ready = false → (s.bootKind 0 v).2 = none →
    Completes (.ringmasterReady v selfTest) s fun t =>
      t.rm.ready ∧ t.rm.noImage.isSome ∧ t.rmRun = s.rmRun ∧ Only (fun a => a = Reg.SAFE_STAT) { s with store := t.store, rm := t.rm } t) ∧
  (∀ (s : State),
    s.power.vauxA = false →
    Completes .vauxARise s fun t =>
      t.power.vauxA ∧ t.power.seqErr = (s.power.seqErr || !s.power.vauxB) ∧ (s.cdRun → t.bit Reg.PWR_SUPSTAT Fld.PWR_SUPSTAT_VAUXA_OK) ∧ Only (fun a =>
      a = Reg.PWR_SUPSTAT) { s with power := t.power } t) ∧
  (∀ (s : State),
    s.cdRun → s.power.vauxA → s.power.lossAt = none →
    Completes .vauxALoss s fun t =>
      t.power.vauxA = false ∧ t.power.lossAt = some s.now ∧ t.power.onPack = !s.bit Reg.GLB_GUARD Fld.GLB_GUARD_HOLDUP_LOW ∧ t.flag .pwr 0 ∧ (t.dev =
      stSAFE ∨ t.dev = stLOCKOUT)) ∧
  (∀ (t0 : Nat) (s : State),
    s.cdRun → s.power.lossAt = some t0 → s.power.onPack = false → ((s.rgns.all fun g => (s.ldg g).held.isEmpty) ∨ s.since t0 (ms 1)) →
    Completes .reservePowerDown s fun t =>
      t.cdRun = false ∧ t.recQueue = [] ∧ t.power.lossAt = none ∧ t.power.holdupRun = false) ∧
  (∀ (t0 : Nat) (s : State),
    s.cdRun → s.power.lossAt = some t0 → s.power.onPack → (s.lossWritten ∨ s.since t0 (ms 50)) →
    Completes .holdupSequenceEnd s fun t =>
      t.cdRun = false ∧ t.recQueue = [] ∧ t.power.lossAt = none ∧ t.power.holdupRun) ∧
  (∀ (s : State),
    s.power.vauxB →
    Completes .vauxBLoss s fun t =>
      t.power.vauxB = false ∧ t.rmRun = false ∧ t.reg Reg.SAFE_LINES = 0 ∧ t.fld Reg.SAFE_SO Fld.SAFE_SO_ON = 0 ∧ (s.cdRun → t.flag .pwr 2) ∧ Only (fun
      a => a = Reg.SAFE_LINES ∨ a = Reg.SAFE_SO ∨ a = Reg.SAFE_STAT ∨ a = Reg.PWR_SUPSTAT ∨ FlagSrc.pwr.owns 2 a ∨ FlagSrc.guard.owns 8 a)
      { s with power := t.power, rm := t.rm, rmRun := t.rmRun, drvs := t.drvs } t) ∧
  (∀ (s : State),
    s.cdRun → s.rmRun = false → s.rm.ready = false →
    Completes .ringmasterAbsent s fun t =>
      t.dev = stSAFE ∨ t.dev = stLOCKOUT) ∧
  (∀ (v : Verdicts) (selfTest : Bool) (b fell : Bool) (s : State),
    s.cdRun → s.rmRail → s.rmRun = false → s.rm.ready = false → (s.bootKind 0 v).2 = some (b, fell) →
    Completes (.vauxBReturn v selfTest) s fun t =>
      t.power.vauxB ∧ t.rm.ready ∧ t.rmRun = selfTest ∧ t.rm.failed = !selfTest ∧ t.bit Reg.GLB_BOOTSTAT Fld.GLB_BOOTSTAT_RM_IMG = b) ∧
  (∀ (v : Verdicts) (selfTest : Bool) (s : State),
    s.cdRun → s.rmRail → s.rmRun = false → s.rm.ready = false → (s.bootKind 0 v).2 = none →
    Completes (.vauxBReturn v selfTest) s fun t =>
      t.power.vauxB ∧ t.rm.ready ∧ t.rm.noImage.isSome ∧ t.rmRun = false) ∧
  (∀ (above : Bool) (s : State),
    s.cdRun → s.rmRun →
    Completes (.vsoExcursion above) s fun t =>
      t.flag .pwr (if above then 5 else 4) ∧ t.bit Reg.PWR_SUPSTAT Fld.PWR_SUPSTAT_VSO_OK = false ∧ (t.reg Reg.SAFE_DEMAND).toNat.testBit 20 ∧ (t.dev =
      stSAFE ∨ t.dev = stLOCKOUT)) ∧
  (∀ (above : Bool) (s : State),
    s.rmRun = false →
    Completes (.vsoExcursion above) s fun t =>
      t.power.vso = false ∧ Only (fun _ => False) { s with power := t.power } t) ∧
  (∀ (s : State),
    s.cdRun →
    Completes (.railFault .control) s fun t =>
      t.flag .pwr 15 ∧ bitOf t.power.out 9 ∧ (t.dev = stSAFE ∨ t.dev = stLOCKOUT)) ∧
  (∀ (s : State),
    s.cdRun →
    Completes (.railFault .measurement) s fun t =>
      bitOf t.power.out 10 ∧ (t.dev = stSAFE ∨ t.dev = stLOCKOUT)) ∧
  (∀ (s : State),
    s.cdRun →
    Completes (.railFault .dram) s fun t =>
      bitOf t.power.out 11 ∧ (t.dev = stSAFE ∨ t.dev = stLOCKOUT)) ∧
  (∀ (s : State),
    s.cdRun →
    Completes (.railFault .store) s fun t =>
      bitOf t.power.out 12 ∧ t.power.storeHeld ∧ Only (fun a => FlagSrc.guard.owns 8 a) { s with power := t.power } t) ∧
  (∀ (n : Slot) (s : State),
    s.cdRun → n.val < s.variant.slots →
    Completes (.railFault (.driver n)) s fun t =>
      bitOf t.power.out (13 + n.val) ∧ t.flag (.gdv n.val) 3 ∧ t.bit (Reg.GDV_STAT n.val) Fld.GDV_STAT_H_BIAS) ∧
  (∀ (s : State),
    Completes (.railFault .ringmaster) s fun t =>
      bitOf t.power.out 37 ∧ t.rmRun = false ∧ t.reg Reg.SAFE_LINES = 0 ∧ t.fld Reg.SAFE_SO Fld.SAFE_SO_ON = 0 ∧ Only (fun a => a = Reg.SAFE_LINES ∨ a =
      Reg.SAFE_SO ∨ a = Reg.SAFE_STAT ∨ FlagSrc.guard.owns 8 a) { s with power := t.power, rm := t.rm, rmRun := t.rmRun, drvs := t.drvs } t) ∧
  (∀ (s : State),
    s.cdRun → s.power.storeHeld →
    Completes .storeRailReturn s fun t =>
      t.power.storeHeld = false ∧ bitOf t.power.out 12 = false ∧ Only (fun a => FlagSrc.guard.owns 8 a) { s with power := t.power } t)

/-- Boot and the steps of DIAG (R65, R69, R74, R142, R143, R451). Where the manual leaves a corner open the clauses follow the model's choice: log
entries 24, 25, 27, 36 and 82. -/
def Obligations.BootAndDiagComplete : Prop :=
  (∀ (b : BootIn) (s : State),
    s.cdRun = false → s.power.vauxA → s.rm.ready → (b.pinFault = true ∨ s.bootCause b.lockOk = none) →
    Completes (.bootEntry b) s fun t =>
      t.cdRun ∧ t.dev = stBOOT ∧ t.tb = 0 ∧ t.ptp = 0 ∧ t.dram = [] ∧ t.reg Reg.SAFE_LINES = 0 ∧ t.modid = b.modid.val ∧ t.fld Reg.CLU_SYS_STAT
      Fld.CLU_SYS_STAT_MODID = b.modid.val ∧ t.power.extRef = s.bit Reg.CLK_REFCFG ⟨0, 1⟩ ∧ (b.pinFault = true → t.bit Reg.GLB_IDENT
      Fld.GLB_IDENT_PINFAULT ∧ t.flag .glb 3)) ∧
  (∀ (b : BootIn) (c : Nat) (s : State),
    s.cdRun = false → s.power.vauxA → s.rm.ready → b.pinFault = false → s.bootCause b.lockOk = some c →
    Completes (.bootEntry b) s fun t =>
      t.cdRun ∧ t.dev = stLOCKOUT ∧ t.store.lockout = some c ∧ t.modid = b.modid.val) ∧
  (∀ (v : Verdicts) (keySlot : Fin 2) (b fell : Bool) (s : State),
    s.cdRun → s.dev = stBOOT → s.bit Reg.GLB_IDENT Fld.GLB_IDENT_PINFAULT = false → s.store.revoked.contains keySlot.val = false → (s.bootKind 1 v).2
    = some (b, fell) →
    Completes (.secureBootComplete v keySlot) s fun t =>
      t.dev = stCONFIG ∧ (t.trip 4).runs ∧ t.bit Reg.GLB_BOOTSTAT Fld.GLB_BOOTSTAT_HV_IMG = b ∧ t.fld Reg.GLB_BOOTSTAT Fld.GLB_BOOTSTAT_KEYSLOT =
      keySlot.val ∧ (s.ownerKey = false → t.fld Reg.GLB_DEVSTATE Fld.GLB_DEVSTATE_CAUSE = 3)) ∧
  (∀ (v : Verdicts) (keySlot : Fin 2) (s : State),
    s.cdRun → s.dev = stBOOT → s.bit Reg.GLB_IDENT Fld.GLB_IDENT_PINFAULT = false → (s.bootKind 1 v).2 = none →
    Completes (.secureBootComplete v keySlot) s fun t =>
      t.dev = stLOCKOUT ∧ t.store.lockout.isSome ∧ t.reg Reg.SAFE_LINES = 0) ∧
  (∀ (v : Verdicts) (keySlot : Fin 2) (s : State),
    s.cdRun → s.dev = stBOOT → s.bit Reg.GLB_IDENT Fld.GLB_IDENT_PINFAULT = false → s.store.revoked.contains keySlot.val →
    Completes (.secureBootComplete v keySlot) s fun t =>
      t.dev = stLOCKOUT ∧ t.store.lockout.isSome ∧ t.reg Reg.SAFE_LINES = 0) ∧
  (∀ (s : State),
    s.cdRun → s.dev = stDIAG → s.diag.step = 1 →
    Completes (.measSelfTestDone true) s fun t =>
      t.diag.step = 2 ∧ t.diag.slot = 0 ∧ t.bit Reg.MEAS_STAT Fld.MEAS_STAT_OTP_OK ∧ Only (fun a => a = Reg.MEAS_STAT) { s with diag := t.diag } t) ∧
  (∀ (s : State),
    s.cdRun → s.dev = stDIAG → s.diag.step = 1 →
    Completes (.measSelfTestDone false) s fun t =>
      t.dev = stSAFE ∨ t.dev = stLOCKOUT) ∧
  (∀ (n : Slot) (s : State),
    s.cdRun → s.dev = stDIAG → s.diag.step = 2 → s.diag.slot = n.val → n.val + 1 < s.variant.slots → s.diag.biasAt = none →
    Completes (.biasStart n) s fun t =>
      t.gate n.val .high = (s.gate n.val .high).startBias s.now (s.bit (Reg.GDV_STAT n.val) (biasOk .high)) ∧ t.gate n.val .low = (s.gate n.val
      .low).startBias s.now (s.bit (Reg.GDV_STAT n.val) (biasOk .low)) ∧ t.diag.slot = n.val + 1 ∧ Only (fun _ => False)
      { s with gatesH := t.gatesH, gatesL := t.gatesL, diag := t.diag } t) ∧
  (∀ (n : Slot) (t0 : Nat) (s : State),
    s.cdRun → s.dev = stDIAG → s.diag.step = 2 → s.diag.slot = n.val → n.val < s.variant.slots → s.diag.biasAt = some t0 → s.since t0 (ms 1) →
    Completes (.biasStart n) s fun t =>
      t.gate n.val .high = (s.gate n.val .high).startBias s.now (s.bit (Reg.GDV_STAT n.val) (biasOk .high)) ∧ t.gate n.val .low = (s.gate n.val
      .low).startBias s.now (s.bit (Reg.GDV_STAT n.val) (biasOk .low))) ∧
  (∀ (n : Slot) (side : Side) (t0 : Nat) (s : State),
    s.cdRun → (s.gate n.val side).bias = some t0 → s.bit (Reg.GDV_STAT n.val) (biasOk side) = false → (s.gate n.val side).armed = false → (s.gate
    n.val side).suspended = false → s.since t0 (ms 20) →
    Completes (.biasStartTimeout n side) s fun t =>
      t.bit (Reg.GDV_STAT n.val) Fld.GDV_STAT_H_BIAS ∧ (t.drv n.val).marked) ∧
  (∀ (n : Slot) (v0 dPlus dMinus : Int) (t0 : Nat) (s : State),
    s.cdRun → (s.drv n.val).diagAt = some t0 → s.since t0 (ms 2) →
    Completes (.offStateDiagDone n v0 dPlus dMinus) s fun t =>
      (t.drv n.val).diagAt = none ∧ t.fld (Reg.GDV_DIAG_RES n.val) Fld.GDV_DIAG_RES_CLASS ≠ 0 ∧ ((s.drv n.val).override = false → t.bit (Reg.GDV_STAT
      n.val) Fld.GDV_STAT_H_DIAG = (t.fld (Reg.GDV_DIAG_RES n.val) Fld.GDV_DIAG_RES_CLASS != 1)) ∧ t.fld (Reg.GDV_DIAG_RES n.val) Fld.GDV_DIAG_RES_V0 =
      min (v0 * s.fld (Reg.GDV_SNS_DIV n.val) Fld.GDV_SNS_DIV_KDIV / 1000000).toNat 4095) ∧
  (∀ (s : State),
    s.cdRun → s.rmRun → s.dev = stDIAG → s.diag.step = 4 →
    Completes (.safetyIoTestDone true) s fun t =>
      t.fld Reg.SAFE_SO Fld.SAFE_SO_FAULT = 0 ∧ t.diag.step = 5 ∧ Only (fun a => a = Reg.SAFE_SO ∨ a = Reg.SAFE_PRE0_STAT ∨ a = Reg.SAFE_PRE1_STAT)
      { s with diag := t.diag, regions := t.regions } t) ∧
  (∀ (s : State),
    s.cdRun → s.rmRun → s.dev = stDIAG → s.diag.step = 4 →
    Completes (.safetyIoTestDone false) s fun t =>
      t.dev = stSAFE ∨ t.dev = stLOCKOUT) ∧
  (∀ (s : State),
    s.preRuns → s.preDone → (s.assigned.all fun n => !(s.drv n).pendDiag) →
    Completes .diagComplete s fun t =>
      t.dev = stSTANDBY)

/-- The commands of the device state (R65, R66, R67, R79, R85, R86, R143). Where the manual leaves a corner open the clauses follow the model's
choice: log entries 28 and 82. -/
def Obligations.StateCommandsComplete : Prop :=
  (∀ (s : State),
    s.cdRun → s.bit Reg.GLB_DEVSTATE Fld.GLB_DEVSTATE_TRANS = false → s.armOk → s.lowPower = false →
    Completes .arm s fun t =>
      t.dev = stARMED ∧ t.fld Reg.GLB_DEVRESULT Fld.GLB_DEVRESULT_RESULT = rcDONE) ∧
  (∀ (s : State),
    s.cdRun → s.bit Reg.GLB_DEVSTATE Fld.GLB_DEVSTATE_TRANS = false → s.armOk = false →
    Completes .arm s fun t =>
      t.fld Reg.GLB_DEVRESULT Fld.GLB_DEVRESULT_RESULT = rcCOND ∧ Only (fun a => a = Reg.GLB_DEVRESULT) s t) ∧
  (∀ (s : State),
    s.cdRun → s.bit Reg.GLB_DEVSTATE Fld.GLB_DEVSTATE_TRANS = false → s.dev = stARMED →
    Completes .disarm s fun t =>
      t.dev = stSTANDBY ∧ t.fld Reg.GLB_DEVRESULT Fld.GLB_DEVRESULT_RESULT = rcDONE) ∧
  (∀ (s : State),
    s.cdRun → s.bit Reg.GLB_DEVSTATE Fld.GLB_DEVSTATE_TRANS = false → s.dev = stSTANDBY → s.lowPower = false →
    Completes .diag s fun t =>
      t.dev = stDIAG ∧ t.diag.step = 1 ∧ t.reg Reg.SAFE_LINES = 0 ∧ t.fld Reg.GLB_DEVRESULT Fld.GLB_DEVRESULT_RESULT = rcDONE) ∧
  (∀ (s : State),
    s.cdRun → s.bit Reg.GLB_DEVSTATE Fld.GLB_DEVSTATE_TRANS = false → s.dev = stSTANDBY →
    Completes .reload s fun t =>
      t.dev = stCONFIG ∧ t.reg Reg.SAFE_LINES = 0 ∧ t.fld Reg.SAFE_SO Fld.SAFE_SO_ON = 0 ∧ t.fld Reg.GLB_DEVRESULT Fld.GLB_DEVRESULT_RESULT = rcDONE) ∧
  (∀ (s : State),
    s.cdRun → s.dev ≠ stLOCKOUT →
    Completes .safe s fun t =>
      (t.dev = stSAFE ∨ t.dev = stLOCKOUT) ∧ t.reg Reg.SAFE_LINES = 0 ∧ t.fld Reg.GLB_DEVRESULT Fld.GLB_DEVRESULT_RESULT = rcDONE) ∧
  (∀ (s : State),
    s.cdRun → s.dev = stLOCKOUT →
    Completes .safe s fun t =>
      t.fld Reg.GLB_DEVRESULT Fld.GLB_DEVRESULT_RESULT = rcSTATE ∧ Only (fun a => a = Reg.GLB_DEVRESULT) s t) ∧
  (∀ (s : State),
    s.cdRun → s.bit Reg.GLB_DEVSTATE Fld.GLB_DEVSTATE_TRANS = false → s.dev = stSTANDBY → s.noTxn → s.store.conf.isSome → s.bit Reg.SAFE_STAT
    Fld.SAFE_STAT_CHK_OK →
    Completes .setLock s fun t =>
      t.locked ∧ t.store.locked ∧ t.store.lockCnt = min (s.store.lockCnt + 1) 255 ∧ t.fld Reg.GLB_DEVRESULT Fld.GLB_DEVRESULT_RESULT = rcDONE) ∧
  (∀ (k : Clu) (s : State),
    s.cdRun → s.bit (Reg.CLU_STAT k.val) Fld.CLU_STAT_DERATE → (s.cluster k.val).derating = false → ((s.cluster k.val).derAt.all fun x => s.since x
    (secs 1)) →
    Completes (.derateExpiry k) s fun t =>
      t.bit (Reg.CLU_STAT k.val) Fld.CLU_STAT_DERATE = false ∧ Only (fun a => a = Reg.CLU_STAT k.val ∨ a = Reg.CLU_DC_ILIM_EFF k.val ∨ a =
      Reg.GLB_DEVSTATE ∨ a = Reg.REC_SYSSUPP) { s with clusters := t.clusters } t)

/-- Precharge (R76, R77, R78). Where the manual leaves a corner open the clauses follow the model's choice: log entry 29. -/
def Obligations.PrechargeCompletes : Prop :=
  (∀ (g : Rgn) (s : State),
    s.preRuns → g.val < s.variant.regions → s.preMode g.val = 1 → s.preState g.val = 0 →
    Completes (.prechargeStart g) s fun t =>
      t.preState g.val = 1 ∧ (t.region g.val).tp = some s.now) ∧
  (∀ (g : Rgn) (v tp : Nat) (s : State),
    s.preRuns → g.val < s.variant.regions → (s.region g.val).tp = some tp → s.preState g.val = 1 → v < s.preVDone g.val →
    Completes (.prechargeReading g v) s fun t =>
      t.vLink g.val = min v 65535 ∧ t.preState g.val = 1 ∧ Only (fun a => a = preStat g.val) s t) ∧
  (∀ (g : Rgn) (v tp : Nat) (s : State),
    s.preRuns → g.val < s.variant.regions → (s.region g.val).tp = some tp → s.preState g.val = 1 → s.preMode g.val ≠ 2 → s.preVDone g.val ≤ v →
    s.since tp (ms (s.prePar 26 g.val % 65536)) →
    Completes (.prechargeReading g v) s fun t =>
      t.vLink g.val = min v 65535 ∧ t.preState g.val = 2 ∧ (t.region g.val).overlapAt = some s.now) ∧
  (∀ (g : Rgn) (v tp : Nat) (s : State),
    s.preRuns → g.val < s.variant.regions → (s.region g.val).tp = some tp → s.preState g.val = 1 → s.preMode g.val ≠ 2 → s.preVDone g.val ≤ v →
    s.since tp (ms (s.prePar 26 g.val % 65536)) = false →
    Completes (.prechargeReading g v) s fun t =>
      t.preState g.val = 4 ∧ t.fld (preStat g.val) Fld.SAFE_PRE_FAIL = 9 ∧ (t.dev = stSAFE ∨ t.dev = stLOCKOUT)) ∧
  (∀ (g : Rgn) (v tp : Nat) (s : State),
    s.preRuns → g.val < s.variant.regions → (s.region g.val).tp = some tp → s.preState g.val = 1 → s.preMode g.val = 2 → s.preVDone g.val ≤ v →
    Completes (.prechargeReading g v) s fun t =>
      t.vLink g.val = min v 65535 ∧ t.preState g.val = 3 ∧ (t.region g.val).tp = none) ∧
  (∀ (g : Rgn) (v tp : Nat) (s : State),
    s.preRuns → g.val < s.variant.regions → (s.region g.val).tp = some tp → s.preState g.val = 2 → s.preDrop g.val v →
    Completes (.prechargeReading g v) s fun t =>
      t.preState g.val = 4 ∧ t.fld (preStat g.val) Fld.SAFE_PRE_FAIL = 11 ∧ (t.dev = stSAFE ∨ t.dev = stLOCKOUT)) ∧
  (∀ (g : Rgn) (tp : Nat) (s : State),
    s.preRuns → (s.region g.val).tp = some tp → s.preMode g.val = 1 → s.preState g.val = 1 → (s.region g.val).checked = false → s.since tp (ms
    (s.prePar 26 g.val / 65536)) → 10 * (s.prePar 25 g.val / 65536 % 2048) ≤ s.vLink g.val →
    Completes (.prechargeTCheck g) s fun t =>
      (t.region g.val).checked ∧ Only (fun _ => False) { s with regions := t.regions } t) ∧
  (∀ (g : Rgn) (tp : Nat) (s : State),
    s.preRuns → (s.region g.val).tp = some tp → s.preMode g.val = 1 → s.preState g.val = 1 → (s.region g.val).checked = false → s.since tp (ms
    (s.prePar 26 g.val / 65536)) → s.vLink g.val < 10 * (s.prePar 25 g.val / 65536 % 2048) →
    Completes (.prechargeTCheck g) s fun t =>
      t.preState g.val = 4 ∧ t.fld (preStat g.val) Fld.SAFE_PRE_FAIL = 8 ∧ (t.dev = stSAFE ∨ t.dev = stLOCKOUT)) ∧
  (∀ (g : Rgn) (tp : Nat) (s : State),
    s.preRuns → (s.region g.val).tp = some tp → s.preState g.val = 1 → s.since tp (ms (s.prePar 27 g.val % 65536)) →
    Completes (.prechargeTMax g) s fun t =>
      t.preState g.val = 4 ∧ t.fld (preStat g.val) Fld.SAFE_PRE_FAIL = 10 ∧ (t.dev = stSAFE ∨ t.dev = stLOCKOUT)) ∧
  (∀ (g : Rgn) (t0 : Nat) (s : State),
    s.preRuns → (s.region g.val).overlapAt = some t0 → s.preState g.val = 2 → s.since t0 (ms (s.prePar 25 g.val % 512)) → s.preDrop g.val (s.vLink
    g.val) = false →
    Completes (.prechargeOverlapEnd g) s fun t =>
      t.preState g.val = 3 ∧ t.fld (preStat g.val) Fld.SAFE_PRE_FAIL = 0) ∧
  (∀ (g : Rgn) (t0 : Nat) (s : State),
    s.preRuns → (s.region g.val).overlapAt = some t0 → s.preState g.val = 2 → s.since t0 (ms (s.prePar 25 g.val % 512)) → s.preDrop g.val (s.vLink
    g.val) →
    Completes (.prechargeOverlapEnd g) s fun t =>
      t.preState g.val = 4 ∧ t.fld (preStat g.val) Fld.SAFE_PRE_FAIL = 11 ∧ (t.dev = stSAFE ∨ t.dev = stLOCKOUT))

/-- Authorisations, keys, images and the commissioning lock (R69, R70, R75, R82, R83, R85, R441). Where the manual leaves a corner open the clauses
follow the model's choice: log entries 10, 60, 82 and 96. -/
def Obligations.AuthorityCompletes : Prop :=
  (∀ (nonce : Nat) (s : State),
    s.cdRun →
    Completes (.nonceRead nonce) s fun t =>
      t.auths.nonce = some (nonce % 2 ^ 128, s.now) ∧ Only (fun _ => False) { s with auths := t.auths } t) ∧
  (∀ (n t0 : Nat) (s : State),
    s.auths.nonce = some (n, t0) → s.since t0 (secs 300) →
    Completes .nonceExpiry s fun t =>
      t.auths.nonce = none ∧ Only (fun _ => False) { s with auths := t.auths } t) ∧
  (∀ (key : Nat) (s : State),
    s.cdRun → s.store.keys = [] →
    Completes (.installCommissioningKey key) s fun t =>
      t.auths.install = some (key, s.now) ∧ t.store.keys = [] ∧ Only (fun _ => False) { s with auths := t.auths } t) ∧
  (∀ (key k : Nat) (s : State),
    s.cdRun → s.store.keys ≠ [] → s.commissioning → s.freeKey = some k →
    Completes (.installCommissioningKey key) s fun t =>
      t.store.keys = s.store.keys ++ [(k, key, false)] ∧ t.bit Reg.GLB_BOOTSTAT Fld.GLB_BOOTSTAT_FIRST_KEY = false ∧ Only (fun a => a =
      Reg.GLB_BOOTSTAT) { s with store := t.store, safetyLog := t.safetyLog } t) ∧
  (∀ (slot : Fin 4) (s : State),
    s.cdRun → s.commissioning → (s.store.keys.any fun e => e.1 == slot.val) →
    Completes (.revokeCommissioningKey slot) s fun t =>
      (t.store.keys.all fun e => e.1 != slot.val || e.2.2) ∧ Only (fun _ => False) { s with store := t.store, safetyLog := t.safetyLog } t) ∧
  (∀ (key t0 : Nat) (s : State),
    s.auths.install = some (key, t0) → s.since t0 (secs 60) →
    Completes .presenceTimeout s fun t =>
      t.auths.install = none ∧ Only (fun _ => False) { s with auths := t.auths } t) ∧
  (∀ (x : Auth) (s : State),
    s.cdRun → s.locked = false → s.authOk x →
    Completes (.commission x) s fun t =>
      t.auths.session = some (x.key.val, s.now) ∧ t.auths.nonce = none ∧ t.commissioning ∧ Only (fun a => a = Reg.GLB_DEVSTATE ∨ a = Reg.DBG_STAT)
      { s with auths := t.auths } t) ∧
  (∀ (k t0 : Nat) (s : State),
    s.auths.session = some (k, t0) → s.since t0 (secs 28800) →
    Completes .commissionSessionEnd s fun t =>
      t.auths.session = none ∧ t.commissioning = false) ∧
  (∀ (x : Auth) (s : State),
    s.cdRun → s.locked → s.authOk x →
    Completes (.lockRelease x) s fun t =>
      t.locked = false ∧ t.store.locked = false ∧ t.auths.nonce = none ∧ Only (fun a => a = Reg.GLB_COMLOCK)
      { s with store := t.store, auths := t.auths, safetyLog := t.safetyLog } t) ∧
  (∀ (x : Auth) (selfTest : Bool) (b : BootIn) (s : State),
    s.cdRun → s.dev = stLOCKOUT → s.power.vauxA → s.power.lossAt = none → s.authOk x →
    Completes (.lockoutRelease x selfTest b) s fun t =>
      t.rmRun = (s.rm.ready && selfTest && s.rm.noImage.isNone) ∧ (t.dev = stBOOT ∨ t.dev = stLOCKOUT) ∧ (selfTest → s.rm.noImage = none → b.pinFault ∨
      b.lockOk ∨ s.store.lockout = some 18 → t.dev = stBOOT ∧ t.store.lockout = none)) ∧
  (∀ (x : Auth) (s : State),
    s.cdRun → s.authOk x →
    Completes (.recorderClearAuth x) s fun t =>
      t.recst.clearAuth = some (s.now, x.key.val, x.nonce) ∧ t.auths.nonce = none ∧ Only (fun _ => False) { s with auths := t.auths } t) ∧
  (∀ (slot : Fin 2) (hash : Nat) (s : State),
    s.cdRun → s.commissioning → (s.store.owner.any fun p => p.1 == 2 + slot.val) = false →
    Completes (.fuseOwnerKeys slot hash) s fun t =>
      t.store.owner = s.store.owner ++ [(2 + slot.val, hash)] ∧ Only (fun _ => False) { s with store := t.store } t) ∧
  (∀ (kind : ImgKind) (s : State),
    s.cdRun → s.commissioning → s.hasBooted (kindNo kind) →
    Completes (.antirollbackAdvance kind) s fun t =>
      t.rollback (kindNo kind) = max (s.rollback (kindNo kind)) (min (s.image (kindNo kind) (s.bootedCopy (kindNo kind))).ver 96) ∧ Only (fun a => a =
      Reg.GLB_BOOTSTAT ∨ a = Reg.GLB_BOOTSTAT_LT) { s with store := t.store } t) ∧
  (∀ (kind : ImgKind) (ver : Nat) (fw : Word) (sigOk : Bool) (s : State),
    s.cdRun → (s.trip 4).runs →
    Completes (.imageWrite kind ver fw sigOk) s fun t =>
      t.image (kindNo kind) (s.image (kindNo kind) false).good =
      { present := true, ver, fw, trial := sigOk && Nat.ble (s.rollback (kindNo kind)) ver && (Nat.blt (kindNo kind) 2 || s.ownerKey) } ∧ t.image
      (kindNo kind) (!(s.image (kindNo kind) false).good) = s.image (kindNo kind) (!(s.image (kindNo kind) false).good) ∧ Only (fun _ => False)
      { s with store := t.store } t) ∧
  (∀ (n : Slot) (s : State),
    s.cdRun → s.commissioning → n.val < s.variant.slots → (s.drv n.val).override = false → ((s.drv n.val).marked ∨ s.bit (Reg.GDV_STAT n.val)
    Fld.GDV_STAT_H_FAILED ∨ s.bit (Reg.GDV_STAT n.val) Fld.GDV_STAT_H_DIAG) →
    Completes (.slotOverride n) s fun t =>
      (t.drv n.val).override ∧ t.bit (Reg.GDV_STAT n.val) Fld.GDV_STAT_H_FAILED = false ∧ t.bit (Reg.GDV_STAT n.val) Fld.GDV_STAT_H_DIAG = false ∧ t.bit
      (Reg.GDV_DIAG_RES n.val) Fld.GDV_DIAG_RES_OVERRIDE ∧ Only (fun a => a = Reg.GDV_STAT n.val ∨ a = Reg.GDV_DIAG_RES n.val)
      { s with drvs := t.drvs, safetyLog := t.safetyLog } t)

/-- The edge engine: pattern, loads, starts and stops, estimates and the fast limit (R90, R91, R92, R94, R95, R96, R97, R101, R105, R109, R110, R115).
Where the manual leaves a corner open the clauses follow the model's choice: log entries 32, 33, 34 and 84. -/
def Obligations.EdgeEngineCompletes : Prop :=
  (∀ (n : Slot) (x : Nat) (s : State),
    s.cdRun → s.sstate n.val = 2 → (s.edge n.val).perStart ≤ x → x ≤ s.tbFine + 15 → (s.pcmRuns n.val && Nat.ble (s.pcmEnd n.val) x) = false →
    s.patternAt n.val x = (s.edge n.val).pat →
    Completes (.compareEdge n x) s fun t =>
      Only (fun _ => False) s t) ∧
  (∀ (n : Slot) (x : Nat) (s : State),
    s.cdRun → s.sstate n.val = 2 → (s.edge n.val).perStart ≤ x → x ≤ s.tbFine + 15 → (s.pcmRuns n.val && Nat.ble (s.pcmEnd n.val) x) = false →
    s.patternAt n.val x = 0 → (s.edge n.val).pat ≠ 0 → (s.edge n.val).limBoth = false →
    Completes (.compareEdge n x) s fun t =>
      (t.edge n.val).pat = 0 ∧ (t.edge n.val).called = 0 ∧ Only (fun a => a = Reg.EDG_STAT n.val ∨ (FlagSrc.edg n.val).owns 4 a)
      { s with edges := t.edges } t) ∧
  (∀ (n : Slot) (x v : Nat) (s : State),
    s.cdRun → s.sstate n.val = 2 → (s.edge n.val).perStart ≤ x → x ≤ s.tbFine + 15 → (s.pcmRuns n.val && Nat.ble (s.pcmEnd n.val) x) = false →
    s.patternAt n.val x = v → (v = 1 ∨ v = 2) → (s.edge n.val).pat ≠ v → (s.edge n.val).limBoth = false → (s.edge n.val).limBar ≠ v → (s.edge
    n.val).called = 0 → s.bit (Reg.EDG_MINPULSE n.val) Fld.EDG_MINPULSE_MODE → s.fld (Reg.EDG_CTRL n.val) Fld.EDG_CTRL_MODE ≠ 1 → s.cmdOn n.val .high
    = false → s.cmdOn n.val .low = false → s.holdBits n.val = 0 →
    Completes (.compareEdge n x) s fun t =>
      (t.edge n.val).pat = v ∧ (t.edge n.val).called = v ∧ t.cmdOn n.val (sideOf v) ∧ t.cmdOn n.val (otherSide (sideOf v)) = false ∧ (t.edge n.val).cmds
      = (s.edge n.val).cmds ++ [⟨isHigh (sideOf v), true, max x (if (s.edge n.val).tOff (otherSide (sideOf v)) = 0 then 0 else (s.edge n.val).tOff
      (otherSide (sideOf v)) + s.deadTime n.val (sideOf v))⟩] ∧ Only (fun a => a = Reg.EDG_STAT n.val) { s with edges := t.edges } t) ∧
  (∀ (n : Slot) (x : Nat) (s : State),
    s.cdRun → (s.edge n.val).perStart ≤ x → x ≤ s.tbFine + 15 → s.pcmRuns n.val → s.pcmEnd n.val ≤ x →
    Completes (.compareEdge n x) s fun t =>
      (t.edge n.val).pcmDone ∧ t.flag (.edg n.val) 15) ∧
  (∀ (n : Slot) (s : State),
    s.cdRun → s.sstate n.val = 2 → (s.edge n.val).peakNext → (s.edge n.val).perStart + ptOf (s.carrier n.val) ≤ s.tbFine →
    Completes (.loadBoundary n) s fun t =>
      (t.edge n.val).peakNext = false ∧ (t.edge n.val).perStart = (s.edge n.val).perStart ∧ Only (fun a => a = Reg.EDG_DUTY n.val ∨ (FlagSrc.edg
      n.val).owns 5 a ∨ (FlagSrc.edg n.val).owns 6 a ∨ (FlagSrc.edg n.val).owns 13 a) { s with edges := t.edges, npms := t.npms } t) ∧
  (∀ (n : Slot) (s : State),
    s.cdRun → s.sstate n.val = 2 → (s.edge n.val).peakNext = false → (s.edge n.val).perStart + s.perLen n.val ≤ s.tbFine →
    Completes (.loadBoundary n) s fun t =>
      (t.edge n.val).perStart = (s.edge n.val).perStart + s.perLen n.val + (s.tbFine - ((s.edge n.val).perStart + s.perLen n.val)) / max (tswOf
      (s.carrier n.val)) 1 * max (tswOf (s.carrier n.val)) 1 ∧ (t.edge n.val).pcmDone = false ∧ (t.edge n.val).limBoth = false) ∧
  (∀ (n : Slot) (t0 x y : Nat) (s : State),
    s.cdRun → s.switching n.val = false → n.val < s.variant.slots → s.clusterOf n.val = none → s.fld (Reg.EDG_CTRL n.val) Fld.EDG_CTRL_MODE = 0 →
    s.fld (Reg.EDG_CTRL n.val) Fld.EDG_CTRL_LOAD = 0 → (s.edge n.val).carrierOld = none → (s.edge n.val).shadow = [(t0, [x, y])] → (t0 + 16) * 16 ≤
    gridBefore (s.origin n.val) (tswOf (s.carrier n.val)) s.tbFine →
    Completes (.loadBoundary n) s fun t =>
      (t.edge n.val).shadow = [] ∧ (t.edge n.val).cmpA = s.clampCmp n.val (ptOf (s.carrier n.val)) x ∧ Only (fun a => a = Reg.EDG_DUTY n.val ∨
      (FlagSrc.edg n.val).owns 5 a ∨ (FlagSrc.edg n.val).owns 6 a) { s with edges := t.edges } t) ∧
  (∀ (n : Slot) (s : State),
    s.cdRun → s.sstate n.val ≠ 2 → n.val < s.variant.slots →
    Completes (.loadBoundary n) s fun t =>
      t.sstate n.val = s.sstate n.val) ∧
  (∀ (who : Party) (n : Slot) (v : Word) (s : State),
    s.cdRun → n.val < s.variant.slots → s.mayWriteShadow who n.val → s.fld (Reg.EDG_CTRL n.val) Fld.EDG_CTRL_MODE = 0 →
    Completes (.cmpaWrite who n v) s fun t =>
      t.reg (Reg.EDG_CMPA n.val) = BitVec.ofNat 32 (v.toNat % 2 ^ 24) ∧ (t.edge n.val).shadow = (s.edge n.val).shadow ++ [(s.tb, [v.toNat % 2 ^ 24,
      (s.reg (Reg.EDG_CMPB n.val)).toNat])] ∧ Only (fun a => a = Reg.EDG_CMPA n.val) { s with edges := t.edges } t) ∧
  (∀ (who : Party) (n : Slot) (v : Word) (s : State),
    s.cdRun → n.val < s.variant.slots → s.mayWriteShadow who n.val = false →
    Completes (.cmpaWrite who n v) s fun t =>
      t.flag (.edg n.val) 14 ∧ Only (fun a => (FlagSrc.edg n.val).owns 14 a) s t) ∧
  (∀ (who : Party) (n : Slot) (v : Word) (s : State),
    s.cdRun → n.val < s.variant.slots → s.mayWriteShadow who n.val → s.fld (Reg.EDG_CTRL n.val) Fld.EDG_CTRL_MODE = 1 →
    Completes (.pe0Write who n v) s fun t =>
      t.reg (Reg.EDG_PE n.val 0) = BitVec.ofNat 32 (v.toNat &&& 0xE0FFFFFF) ∧ (t.edge n.val).shadow.length = (s.edge n.val).shadow.length + 1 ∧ Only
      (fun a => a = Reg.EDG_PE n.val 0) { s with edges := t.edges } t) ∧
  (∀ (who : Party) (n : Slot) (v : Word) (s : State),
    s.cdRun → n.val < s.variant.slots → s.mayWriteShadow who n.val = false →
    Completes (.pe0Write who n v) s fun t =>
      t.flag (.edg n.val) 14 ∧ Only (fun a => (FlagSrc.edg n.val).owns 14 a) s t) ∧
  (∀ (who : Party) (n : Slot) (v : Word) (s : State),
    s.cdRun → s.variant.slots ≤ n.val →
    Completes (.cmpaWrite who n v) s fun t =>
      t.flag .glb 0 ∧ t.reg Reg.GLB_UNIMPL_ADDR = BitVec.ofNat 32 (Reg.EDG_CMPA n.val) ∧ Only (fun a => a = Reg.GLB_UNIMPL_ADDR ∨ FlagSrc.glb.owns 0 a)
      s t) ∧
  (∀ (who : Party) (n : Slot) (v : Word) (s : State),
    s.cdRun → s.variant.slots ≤ n.val →
    Completes (.pe0Write who n v) s fun t =>
      t.flag .glb 0 ∧ t.reg Reg.GLB_UNIMPL_ADDR = BitVec.ofNat 32 (Reg.EDG_PE n.val 0) ∧ Only (fun a => a = Reg.GLB_UNIMPL_ADDR ∨ FlagSrc.glb.owns 0 a)
      s t) ∧
  (∀ (who : Party) (n : Slot) (v : Word) (call : Option VimpCall) (s : State),
    s.cdRun → n.val < s.variant.slots → s.ownsSlotOf who n.val → ((s.clusterOf n.val).any fun k => s.ctype k == tySDC && s.charging k) = false →
    Completes (.ownerRefWrite who n v call) s fun t =>
      t.reg (Reg.EDG_REF n.val) = v ∧ Only (fun a => a = Reg.EDG_REF n.val) { s with blks := t.blks } t) ∧
  (∀ (who : Party) (n : Slot) (v : Word) (call : Option VimpCall) (s : State),
    s.cdRun → n.val < s.variant.slots → s.ownsSlotOf who n.val → ((s.clusterOf n.val).any fun k => s.ctype k == tySDC && s.charging k) →
    Completes (.ownerRefWrite who n v call) s fun t =>
      t.fld (Reg.EDG_REF n.val) Fld.EDG_REF_IREF = s.fld (Reg.EDG_REF n.val) Fld.EDG_REF_IREF ∧ t.fld (Reg.EDG_REF n.val) Fld.EDG_REF_DFF =
      Fld.EDG_REF_DFF.get v ∧ Only (fun a => a = Reg.EDG_REF n.val) { s with blks := t.blks } t) ∧
  (∀ (who : Party) (n : Slot) (v : Word) (call : Option VimpCall) (s : State),
    s.cdRun → n.val < s.variant.slots → s.ownsSlotOf who n.val = false → s.sstate n.val ≠ 0 →
    Completes (.ownerRefWrite who n v call) s fun t =>
      t.flag (.edg n.val) 14 ∧ Only (fun a => (FlagSrc.edg n.val).owns 14 a) s t) ∧
  (∀ (who : Party) (n : Slot) (v : Word) (call : Option VimpCall) (s : State),
    s.cdRun → s.variant.slots ≤ n.val →
    Completes (.ownerRefWrite who n v call) s fun t =>
      t.flag .glb 0 ∧ t.reg Reg.GLB_UNIMPL_ADDR = BitVec.ofNat 32 (Reg.EDG_REF n.val) ∧ Only (fun a => a = Reg.GLB_UNIMPL_ADDR ∨ FlagSrc.glb.owns 0 a) s
      t) ∧
  (∀ (n : Slot) (p : Nat) (s : State),
    s.cdRun → s.sstate n.val = 1 → s.bit (Reg.EDG_CTRL n.val) Fld.EDG_CTRL_EN → s.carrierPoint n.val (((s.edge n.val).startFrom + 16) * 16) = p → p ≤
    s.tbFine →
    Completes (.slotStart n) s fun t =>
      t.sstate n.val = 2 ∧ (t.edge n.val).perStart = max (s.edge n.val).perStart (p - (if isTriangle (s.carrier n.val) then ptOf (s.carrier n.val) else
      0)) ∧ t.bit (Reg.EDG_STAT n.val) Fld.EDG_STAT_LOOP_ACTIVE = s.bit (Reg.EDG_CTRL n.val) Fld.EDG_CTRL_LOOP_EN) ∧
  (∀ (n : Slot) (p v : Nat) (s : State),
    s.cdRun → (s.edge n.val).stopTo = some (p, v) → s.sstate n.val = 2 → p ≤ s.tbFine → v < 8 → v ≠ 2 →
    Completes (.slotStop n) s fun t =>
      (t.sstate n.val = v ∨ v = 0 ∧ s.bit (Reg.EDG_CTRL n.val) Fld.EDG_CTRL_EN ∧ t.sstate n.val = 1) ∧ t.cmdOn n.val .high = false ∧ t.cmdOn n.val .low
      = false ∧ (t.edge n.val).stopTo = none) ∧
  (∀ (n : Slot) (b : Nat) (rest : List Nat) (s : State),
    s.cdRun → (s.edge n.val).acts = b :: rest → b + s.fld (Reg.EDG_SRC n.val) Fld.EDG_SRC_MAXGAP * 16 ≤ s.tbFine →
    Completes (.maxgapExpiry n) s fun t =>
      t.reg (Reg.EDG_EST_TIME n.val) = BitVec.ofNat 32 b ∧ t.bit (Reg.EDG_STAT n.val) Fld.EDG_STAT_STALE ∧ t.flag (.edg n.val) 7 ∧ (t.edge n.val).acts =
      rest) ∧
  (∀ (i : ModIn) (x : Int) (ovr : Bool) (n : Slot) (s : State),
    s.mdRun → s.fastDelivers i ovr → n.val < s.variant.slots → s.bit (Reg.EDG_FCL_CFG n.val) Fld.EDG_FCL_CFG_FTYPE = false → s.fld (Reg.EDG_FCL_CFG
    n.val) Fld.EDG_FCL_CFG_FCH = i.val → s.fld (Reg.EDG_FCL n.val) Fld.EDG_FCL_LIMIT ≠ 0 → s.fld (Reg.EDG_FCL n.val) Fld.EDG_FCL_LIMIT < x.natAbs →
    Completes (.sinc2Value i x ovr) s fun t =>
      (t.edge n.val).wasLim) ∧
  (∀ (n : Slot) (s : State),
    s.cdRun → s.pcmRuns n.val → s.pcmEnd n.val ≤ s.tbFine →
    Completes (.pcmDmax n) s fun t =>
      (t.edge n.val).pcmDone ∧ t.flag (.edg n.val) 15)

/-- The driver die: edges and the soft turn-off (R87, R98, R118, R120, R121, R130, R131, R136). Where the manual leaves a corner open the clauses
follow the model's choice: log entry 35. -/
def Obligations.GateEdgesComplete : Prop :=
  (∀ (n : Slot) (c : EdgeCmd) (rest : List EdgeCmd) (s : State),
    s.cdRun → (s.edge n.val).cmds = c :: rest → c.time ≤ s.tbFine → c.on = false →
    Completes (.gateEdge n) s fun t =>
      (t.edge n.val).cmds = rest ∧ (t.gate n.val (if c.high then .high else .low)).offAt = s.tbFine ∧ Only (fun a => a = Reg.GDV_STAT n.val)
      { s with edges := t.edges, gatesH := t.gatesH, gatesL := t.gatesL } t) ∧
  (∀ (n : Slot) (c : EdgeCmd) (rest : List EdgeCmd) (s : State),
    s.cdRun → (s.edge n.val).cmds = c :: rest → c.time ≤ s.tbFine → c.on → (s.gate n.val (if c.high then .low else .high)).conducts = false → (s.gate
    n.val (if c.high then .low else .high)).offAt = 0 → s.holdBits n.val = 0 → (s.drv n.val).guardEnd = none → (s.drv n.val).softAt = none → (s.gate
    n.val (if c.high then .high else .low)).isOn = false →
    Completes (.gateEdge n) s fun t =>
      (t.edge n.val).cmds = rest ∧ (t.gate n.val (if c.high then .high else .low)).isOn ∧ (t.gate n.val (if c.high then .high else .low)).rising ∧
      (t.gate n.val (if c.high then .high else .low)).onSince = s.now ∧ Only (fun a => a = Reg.GDV_STAT n.val)
      { s with edges := t.edges, gatesH := t.gatesH, gatesL := t.gatesL } t) ∧
  (∀ (n : Slot) (c : EdgeCmd) (rest : List EdgeCmd) (s : State),
    s.cdRun → (s.edge n.val).cmds = c :: rest → c.time ≤ s.tbFine → c.on → (s.gate n.val (if c.high then .low else .high)).conducts →
    Completes (.gateEdge n) s fun t =>
      t.flag (.edg n.val) 1) ∧
  (∀ (n : Slot) (side : Side) (dvdt dur : Nat) (s : State),
    s.cdRun → ((s.gate n.val side).phase = 1 ∨ (s.gate n.val side).phase = 11) →
    Completes (.edgePhaseEnd n side .vth dvdt dur) s fun t =>
      (t.gate n.val side).phase = (s.gate n.val side).phase + 1 ∧ (t.gate n.val side).since = s.now ∧ (t.gate n.val side).preLim = false ∧ Only (fun _
      => False) { s with gatesH := t.gatesH, gatesL := t.gatesL } t) ∧
  (∀ (n : Slot) (side : Side) (dvdt dur : Nat) (s : State),
    s.cdRun → ((s.gate n.val side).phase = 1 ∨ (s.gate n.val side).phase = 11) → s.since (s.gate n.val side).since (profPreTmax.get (s.gate n.val
    side).prof) →
    Completes (.edgePhaseEnd n side .tmax dvdt dur) s fun t =>
      (t.gate n.val side).phase = (s.gate n.val side).phase + 1 ∧ (t.gate n.val side).preLim ∧ t.flag (.gdv n.val) 11 ∧ Only (fun a => (FlagSrc.gdv
      n.val).owns 11 a) { s with gatesH := t.gatesH, gatesL := t.gatesL } t) ∧
  (∀ (n : Slot) (side : Side) (dvdt dur : Nat) (s : State),
    s.cdRun → ((s.gate n.val side).phase = 2 ∨ (s.gate n.val side).phase = 12) → (s.now - (s.gate n.val side).since) * 16 < dur + 16 → dur < (s.now -
    (s.gate n.val side).since) * 16 + 16 →
    Completes (.edgePhaseEnd n side .transEnd dvdt dur) s fun t =>
      (t.gate n.val side).phase = (if (s.gate n.val side).rising then 3 else if (s.gate n.val side).stepEdge then 0 else 13) ∧ (t.gate n.val side).since
      = s.now ∧ (t.reg (repReg n.val side (s.gate n.val side).rising)).toNat / 2 ^ 24 = min dvdt 255 ∧ (t.reg (repReg n.val side (s.gate n.val
      side).rising)).toNat / 2 ^ 12 % 2 ^ 12 = min dur 4095) ∧
  (∀ (n : Slot) (side : Side) (dvdt dur : Nat) (s : State),
    s.cdRun → ((s.gate n.val side).phase = 2 ∨ (s.gate n.val side).phase = 12) → (s.gate n.val side).stepEdge = false → (s.now - (s.gate n.val
    side).since) * 16 < dur + 16 → dur < (s.now - (s.gate n.val side).since) * 16 + 16 → s.since (s.gate n.val side).since (profTmax.get (s.gate n.val
    side).prof) →
    Completes (.edgePhaseEnd n side .tmax dvdt dur) s fun t =>
      (t.gate n.val side).phase = (if (s.gate n.val side).rising then 3 else 13) ∧ t.flag (.gdv n.val) 10 ∧ (t.reg (repReg n.val side (s.gate n.val
      side).rising)).toNat / 8 % 2 = 1) ∧
  (∀ (n : Slot) (side : Side) (dvdt dur : Nat) (s : State),
    s.cdRun → ((s.gate n.val side).phase = 2 ∨ (s.gate n.val side).phase = 12) → (s.gate n.val side).stepEdge = false → (s.now - (s.gate n.val
    side).since) * 16 < dur + 16 → dur < (s.now - (s.gate n.val side).since) * 16 + 16 → s.since (s.gate n.val side).since 12 →
    Completes (.edgePhaseEnd n side .noTrans dvdt dur) s fun t =>
      (t.gate n.val side).phase = (if (s.gate n.val side).rising then 3 else 13) ∧ t.flag (.gdv n.val) 9 ∧ (t.reg (repReg n.val side (s.gate n.val
      side).rising)).toNat / 16 % 2 = 1) ∧
  (∀ (n : Slot) (side : Side) (dvdt dur : Nat) (s : State),
    s.cdRun → (s.gate n.val side).phase = 13 →
    Completes (.edgePhaseEnd n side .off dvdt dur) s fun t =>
      (t.gate n.val side).phase = 0 ∧ t.bit (Reg.GDV_STAT n.val) (clampField side) = s.bit (Reg.GDV_CTRL n.val) (mclampField side) ∧ Only (fun a => a =
      Reg.GDV_STAT n.val) { s with gatesH := t.gatesH, gatesL := t.gatesL } t) ∧
  (∀ (n : Slot) (side : Side) (s : State),
    s.cdRun → (s.reg (dsatReg n.val side)).toNat / 2 ^ 31 = 1 → ((s.gate n.val side).isOn ∨ (s.gate n.val side).phase = 21 ∧ s.softNow n.val) →
    s.since (s.gate n.val side).onSince ((s.reg (dsatReg n.val side)).toNat / 2 ^ 16 % 1024 + 4 * ((s.reg (dsatReg n.val side)).toNat % 8)) →
    Completes (.dsatDetect n side true) s fun t =>
      t.flag (.gdv n.val) (if isHigh side then 0 else 1) ∧ t.bit (Reg.GDV_STAT n.val) Fld.GDV_STAT_H_DSAT ∧ (t.gate n.val side).dsatUp) ∧
  (∀ (n : Slot) (side : Side) (s : State),
    s.cdRun →
    Completes (.dsatDetect n side false) s fun t =>
      (t.gate n.val side).dsatUp = false ∧ Only (fun _ => False) { s with gatesH := t.gatesH, gatesL := t.gatesL } t) ∧
  (∀ (n : Slot) (s : State),
    s.cdRun → n.val < s.variant.slots →
    Completes (.linkLoss n false) s fun t =>
      t.flag (.gdv n.val) 5 ∧ t.bit (Reg.GDV_STAT n.val) Fld.GDV_STAT_H_LINK ∧ (t.drv n.val).linkUp = false) ∧
  (∀ (n : Slot) (s : State),
    s.cdRun → (s.drv n.val).linkUp = false →
    Completes (.linkLoss n true) s fun t =>
      (t.drv n.val).linkUp ∧ (t.drv n.val).linkSince = s.now ∧ Only (fun _ => False) { s with drvs := t.drvs } t) ∧
  (∀ (n : Slot) (side : Side) (s : State),
    s.cdRun → (s.gate n.val side).armed →
    Completes (.biasExcursion n side) s fun t =>
      t.flag (.gdv n.val) (if isHigh side then 3 else 4) ∧ t.bit (Reg.GDV_STAT n.val) Fld.GDV_STAT_H_BIAS ∧ t.bit (Reg.GDV_STAT n.val) (biasOk side) =
      false) ∧
  (∀ (n : Slot) (side : Side) (s : State),
    s.cdRun → (s.gate n.val side).bias.isSome → s.bit (Reg.GDV_STAT n.val) (biasOk side) = false →
    Completes (.biasokReturn n side) s fun t =>
      t.bit (Reg.GDV_STAT n.val) (biasOk side) ∧ (t.gate n.val side).armed ∧ (t.gate n.val side).railIn = some s.now) ∧
  (∀ (n : Slot) (t0 : Nat) (s : State),
    s.cdRun → (s.drv n.val).softAt = some t0 → (s.drv n.val).softStep2 = none → s.since t0 (s.drv n.val).softT →
    Completes (.softTurnoffStep2 n none) s fun t =>
      (t.drv n.val).softStep2 = some s.now ∧ ((s.gate n.val .high).phase = 21 → (t.gate n.val .high).phase = 22) ∧ ((s.gate n.val .low).phase = 21 →
      (t.gate n.val .low).phase = 22) ∧ Only (fun _ => False) { s with gatesH := t.gatesH, gatesL := t.gatesL, drvs := t.drvs } t) ∧
  (∀ (n : Slot) (side : Side) (s : State),
    s.cdRun → (s.drv n.val).softAt = some s.now → (s.gate n.val side).phase = 21 →
    Completes (.softTurnoffStep2 n (some side)) s fun t =>
      (t.gate n.val side).phase = 22 ∧ (t.gate n.val (otherSide side)).phase = (s.gate n.val (otherSide side)).phase ∧ Only (fun _ => False)
      { s with gatesH := t.gatesH, gatesL := t.gatesL, drvs := t.drvs } t) ∧
  (∀ (n : Slot) (below : Bool) (t0 : Nat) (s : State),
    s.cdRun → (s.drv n.val).softStep2 = some t0 → (below ∨ s.since t0 400) →
    Completes (.softTurnoffStep3 n below) s fun t =>
      (t.drv n.val).softAt = none ∧ (t.drv n.val).softStep2 = none ∧ t.bit (Reg.GDV_STAT n.val) Fld.GDV_STAT_SOFT_ACTIVE = false ∧ t.flag (.gdv n.val) 6
      ∧ ((s.gate n.val .high).phase = 22 → (t.gate n.val .high).phase = (if below then 0 else 13)) ∧ ((s.gate n.val .low).phase = 22 → (t.gate n.val
      .low).phase = (if below then 0 else 13)) ∧ ((s.drv n.val).openAfter → t.bit (Reg.GDV_STAT n.val) Fld.GDV_STAT_EREMOVED) ∧ Only (fun a => a =
      Reg.GDV_STAT n.val ∨ (FlagSrc.gdv n.val).owns 6 a ∨ (FlagSrc.gdv n.val).owns 7 a)
      { s with gatesH := t.gatesH, gatesL := t.gatesL, drvs := t.drvs } t)

/-- The driver die: interlock lines and slot commands (R126, R136, R137, R139, R140, R144, R146). Where the manual leaves a corner open the clauses
follow the model's choice: log entries 35, 36 and 85. -/
def Obligations.GateHoldsComplete : Prop :=
  (∀ (n : Slot) (s : State),
    s.cdRun → n.val < s.variant.slots → bitOf (s.reg Reg.SAFE_LINES).toNat n.val = false → s.bit (Reg.GDV_STAT n.val) Fld.GDV_STAT_H_ILINE = false →
    Completes (.ilineOff n) s fun t =>
      t.bit (Reg.GDV_STAT n.val) Fld.GDV_STAT_H_ILINE ∧ (t.bit (Reg.GDV_STAT n.val) Fld.GDV_STAT_EREMOVED ∨ (t.drv n.val).openAfter) ∧ (t.drv
      n.val).guardEnd = none) ∧
  (∀ (n : Slot) (s : State),
    s.cdRun → bitOf (s.reg Reg.SAFE_LINES).toNat n.val → s.bit (Reg.GDV_STAT n.val) Fld.GDV_STAT_H_ILINE →
    Completes (.ilineRelease n) s fun t =>
      t.bit (Reg.GDV_STAT n.val) Fld.GDV_STAT_H_ILINE = false ∧ t.bit (Reg.GDV_STAT n.val) Fld.GDV_STAT_EREMOVED = false ∧ (t.drv n.val).guardEnd = some
      (s.now + us 10)) ∧
  (∀ (n : Slot) (t0 : Nat) (s : State),
    s.cdRun → (s.drv n.val).guardEnd = some t0 → t0 ≤ s.now →
    Completes (.ilineReleaseGuardEnd n) s fun t =>
      (t.drv n.val).guardEnd = none ∧ Only (fun _ => False) { s with drvs := t.drvs } t) ∧
  (∀ (who : Party) (n : Slot) (f : Field) (s : State),
    s.cdRun → n.val < s.variant.slots → (who = .host ∨ (s.clusterOf n.val).any fun k => s.ownerCode k == partyCode who) → s.switching n.val = false →
    s.bit (Reg.GDV_STAT n.val) Fld.GDV_STAT_H_FAILED = false → f ∈ [Fld.GDV_STAT_H_DSAT, Fld.GDV_STAT_H_MOC, Fld.GDV_STAT_H_BIAS, Fld.GDV_STAT_H_LINK]
    → s.holdGone n.val f →
    Completes (.clearHold who n) s fun t =>
      t.bit (Reg.GDV_STAT n.val) f = false) ∧
  (∀ (who : Party) (n : Slot) (s : State),
    s.cdRun → n.val < s.variant.slots → (who = .host ∨ (s.clusterOf n.val).any fun k => s.ownerCode k == partyCode who) → (s.switching n.val ∨ s.bit
    (Reg.GDV_STAT n.val) Fld.GDV_STAT_H_FAILED) →
    Completes (.clearHold who n) s fun t =>
      t.fld (Reg.GDV_STAT n.val) Fld.GDV_STAT_CMDRES = rcCOND ∧ t.flag (.gdv n.val) 14 ∧ Only (fun a => a = Reg.GDV_STAT n.val ∨ (FlagSrc.gdv
      n.val).owns 14 a) s t) ∧
  (∀ (n : Slot) (s : State),
    s.cdRun → n.val < s.variant.slots → ((s.dev = stSTANDBY ∨ s.dev = stARMED) ∧ s.switching n.val = false ∨ s.dev = stRUN ∧ (s.sstate n.val = 3 ∨
    s.sstate n.val = 4) ∧ (s.clusterOf n.val).any fun k => !s.isGfi k) → (s.drv n.val).diagAt = none →
    Completes (.runDiag n) s fun t =>
      (t.drv n.val).diagAt = some s.now ∧ (t.drv n.val).diagV = s.diagLink n.val ∧ t.fld (Reg.GDV_STAT n.val) Fld.GDV_STAT_CMDRES = rcDONE ∧ Only (fun a
      => a = Reg.GDV_STAT n.val) { s with drvs := t.drvs } t) ∧
  (∀ (n : Slot) (s : State),
    s.cdRun → n.val < s.variant.slots →
    Completes (.adaptReset n) s fun t =>
      (t.gate n.val .high).pOn = none ∧ (t.gate n.val .high).pOff = none ∧ (t.gate n.val .low).pOn = none ∧ (t.gate n.val .low).pOff = none ∧ t.fld
      (Reg.GDV_STAT n.val) Fld.GDV_STAT_CMDRES = rcDONE ∧ Only (fun a => a = Reg.GDV_STAT n.val) { s with gatesH := t.gatesH, gatesL := t.gatesL } t) ∧
  (∀ (n : Slot) (s : State),
    s.cdRun → n.val < s.variant.slots → s.commissioning → s.switching n.val = false →
    Completes (.clearFailed n) s fun t =>
      (t.drv n.val).failed = false ∧ (t.drv n.val).fcount = 0 ∧ t.fld (Reg.GDV_STAT n.val) Fld.GDV_STAT_FCOUNT = 0 ∧ t.bit (Reg.GDV_STAT n.val)
      Fld.GDV_STAT_H_FAILED = false ∧ t.fld (Reg.GDV_STAT n.val) Fld.GDV_STAT_CMDRES = rcDONE)

/-- The cluster commands (R150, R151, R195). Where the manual leaves a corner open the clauses follow the model's choice: log entries 37, 74 and 88. -/
def Obligations.ClusterCommandsComplete : Prop :=
  (∀ (who : Party) (k : Clu) (s : State),
    s.mayCommand who k.val → (s.dev = stARMED ∨ s.dev = stRUN) → s.cstate k.val = csOFF → s.enableOk k.val →
    Completes (.enable who k) s fun t =>
      t.fld (Reg.CLU_STAT k.val) Fld.CLU_STAT_CMDRES = rcDONE ∧ t.cstate k.val ≠ csOFF ∧ (s.isPhased k.val → t.cstate k.val = csSTARTING) ∧ (∀ n ∈
      s.slotsOf k.val, t.bit (Reg.EDG_CTRL n) Fld.EDG_CTRL_EN)) ∧
  (∀ (who : Party) (k : Clu) (s : State),
    s.mayCommand who k.val → ((s.dev ≠ stARMED ∧ s.dev ≠ stRUN) ∨ s.cstate k.val ≠ csOFF) → (s.cstate k.val = csRUN → (s.cluster k.val).pausing =
    false) →
    Completes (.enable who k) s fun t =>
      t.fld (Reg.CLU_STAT k.val) Fld.CLU_STAT_CMDRES = rcSTATE ∧ t.flag (.clu k.val) 7 ∧ Only (fun a => a = Reg.CLU_STAT k.val ∨ (FlagSrc.clu
      k.val).owns 7 a) s t) ∧
  (∀ (who : Party) (k : Clu) (s : State),
    s.mayCommand who k.val → (s.cstate k.val = csRUN → (s.cluster k.val).pausing = false) → s.cstate k.val ∈ [csSTARTING, csRUN, csPAUSED,
    csPORT_OPEN] → (∀ n ∈ s.slotsOf k.val, s.sstate n = 0 ∨ 3 < s.sstate n) →
    Completes (.disable who k) s fun t =>
      t.fld (Reg.CLU_STAT k.val) Fld.CLU_STAT_CMDRES = rcDONE ∧ t.cstate k.val = csOFF) ∧
  (∀ (who : Party) (k : Clu) (s : State),
    s.mayCommand who k.val → (s.cstate k.val = csRUN → (s.cluster k.val).pausing = false) → s.cstate k.val ∈ [csSTARTING, csRUN, csPAUSED,
    csPORT_OPEN] →
    Completes (.disable who k) s fun t =>
      t.fld (Reg.CLU_STAT k.val) Fld.CLU_STAT_CMDRES = rcDONE ∧ (t.cluster k.val).pausing = false ∧ (s.isPhased k.val ∨ s.ctype k.val = tyDLC → t.bit
      (Reg.CLU_DC_STAT k.val) Fld.CLU_DC_STAT_DISCH_ACT = false)) ∧
  (∀ (who : Party) (k : Clu) (s : State),
    s.mayCommand who k.val → s.cstate k.val ∉ [csSTARTING, csRUN, csPAUSED, csPORT_OPEN] →
    Completes (.disable who k) s fun t =>
      t.fld (Reg.CLU_STAT k.val) Fld.CLU_STAT_CMDRES = rcSTATE ∧ t.flag (.clu k.val) 7 ∧ Only (fun a => a = Reg.CLU_STAT k.val ∨ (FlagSrc.clu
      k.val).owns 7 a) s t) ∧
  (∀ (who : Party) (k : Clu) (s : State),
    s.mayCommand who k.val → who ≠ .host → s.cstate k.val = csRUN → (s.cluster k.val).pausing = false → s.cluSwitching k.val → (∀ n ∈ s.slotsOf k.val,
    s.sstate n ≠ 1) →
    Completes (.pause who k) s fun t =>
      t.fld (Reg.CLU_STAT k.val) Fld.CLU_STAT_CMDRES = rcDONE ∧ (t.cluster k.val).pausing ∧ t.cstate k.val = csRUN ∧ ∀ n ∈ s.slotsOf k.val, s.sstate n =
      2 → ((t.edge n).stopTo.map (·.2)) = some 3) ∧
  (∀ (who : Party) (k : Clu) (s : State),
    s.mayCommand who k.val → s.cstate k.val ≠ csRUN →
    Completes (.pause who k) s fun t =>
      t.fld (Reg.CLU_STAT k.val) Fld.CLU_STAT_CMDRES = rcSTATE ∧ t.flag (.clu k.val) 7 ∧ Only (fun a => a = Reg.CLU_STAT k.val ∨ (FlagSrc.clu
      k.val).owns 7 a) s t) ∧
  (∀ (who : Party) (k : Clu) (s : State),
    s.mayCommand who k.val → who ≠ .host → s.cstate k.val = csPAUSED → (s.cluster k.val).pausing = false →
    Completes (.resume who k) s fun t =>
      t.fld (Reg.CLU_STAT k.val) Fld.CLU_STAT_CMDRES = rcDONE ∧ t.cstate k.val = csRUN) ∧
  (∀ (who : Party) (k : Clu) (s : State),
    s.mayCommand who k.val → (s.cstate k.val = csRUN → (s.cluster k.val).pausing = false) → s.cstate k.val ≠ csPAUSED →
    Completes (.resume who k) s fun t =>
      t.fld (Reg.CLU_STAT k.val) Fld.CLU_STAT_CMDRES = rcSTATE ∧ t.flag (.clu k.val) 7 ∧ Only (fun a => a = Reg.CLU_STAT k.val ∨ (FlagSrc.clu
      k.val).owns 7 a) s t) ∧
  (∀ (who : Party) (k : Clu) (s : State),
    s.mayCommand who k.val → s.cstate k.val = csSAFE_STOPPED → s.bit (Reg.CLU_DC_STAT k.val) Fld.CLU_DC_STAT_RETRY_PEND = false → s.bit
    (Reg.CLU_DC_STAT k.val) Fld.CLU_DC_STAT_SS_LATCH = false → s.stopCauseGone k.val →
    Completes (.restart who k) s fun t =>
      t.fld (Reg.CLU_STAT k.val) Fld.CLU_STAT_CMDRES = rcDONE ∧ t.cstate k.val = csOFF ∧ (t.cluster k.val).byRegion = false) ∧
  (∀ (who : Party) (k : Clu) (s : State),
    s.mayCommand who k.val → (s.cstate k.val = csRUN → (s.cluster k.val).pausing = false) → s.cstate k.val ≠ csSAFE_STOPPED →
    Completes (.restart who k) s fun t =>
      t.fld (Reg.CLU_STAT k.val) Fld.CLU_STAT_CMDRES = rcSTATE ∧ t.flag (.clu k.val) 7 ∧ Only (fun a => a = Reg.CLU_STAT k.val ∨ (FlagSrc.clu
      k.val).owns 7 a) s t) ∧
  (∀ (who : Party) (k : Clu) (s : State),
    s.mayCommand who k.val → s.cstate k.val = csRUN → (s.cluster k.val).pausing →
    Completes (.enable who k) s fun t =>
      t.fld (Reg.CLU_STAT k.val) Fld.CLU_STAT_CMDRES = rcBUSY ∧ t.flag (.clu k.val) 7 ∧ Only (fun a => a = Reg.CLU_STAT k.val ∨ (FlagSrc.clu k.val).owns
      7 a) s t) ∧
  (∀ (who : Party) (k : Clu) (s : State),
    s.mayCommand who k.val → s.cstate k.val = csRUN → (s.cluster k.val).pausing →
    Completes (.disable who k) s fun t =>
      t.fld (Reg.CLU_STAT k.val) Fld.CLU_STAT_CMDRES = rcBUSY ∧ t.flag (.clu k.val) 7 ∧ Only (fun a => a = Reg.CLU_STAT k.val ∨ (FlagSrc.clu k.val).owns
      7 a) s t) ∧
  (∀ (who : Party) (k : Clu) (s : State),
    s.mayCommand who k.val → s.cstate k.val = csRUN → (s.cluster k.val).pausing →
    Completes (.pause who k) s fun t =>
      t.fld (Reg.CLU_STAT k.val) Fld.CLU_STAT_CMDRES = rcBUSY ∧ t.flag (.clu k.val) 7 ∧ Only (fun a => a = Reg.CLU_STAT k.val ∨ (FlagSrc.clu k.val).owns
      7 a) s t) ∧
  (∀ (who : Party) (k : Clu) (s : State),
    s.mayCommand who k.val → s.cstate k.val = csRUN → (s.cluster k.val).pausing →
    Completes (.resume who k) s fun t =>
      t.fld (Reg.CLU_STAT k.val) Fld.CLU_STAT_CMDRES = rcBUSY ∧ t.flag (.clu k.val) 7 ∧ Only (fun a => a = Reg.CLU_STAT k.val ∨ (FlagSrc.clu k.val).owns
      7 a) s t) ∧
  (∀ (who : Party) (k : Clu) (s : State),
    s.mayCommand who k.val → s.cstate k.val = csRUN → (s.cluster k.val).pausing →
    Completes (.restart who k) s fun t =>
      t.fld (Reg.CLU_STAT k.val) Fld.CLU_STAT_CMDRES = rcBUSY ∧ t.flag (.clu k.val) 7 ∧ Only (fun a => a = Reg.CLU_STAT k.val ∨ (FlagSrc.clu k.val).owns
      7 a) s t) ∧
  (∀ (who : Party) (k : Clu) (s : State),
    s.cdRun → s.variant.clusters ≤ k.val →
    Completes (.enable who k) s fun t =>
      t.flag .glb 0 ∧ t.reg Reg.GLB_UNIMPL_ADDR = BitVec.ofNat 32 (Reg.CLU_CMD k.val) ∧ Only (fun a => a = Reg.GLB_UNIMPL_ADDR ∨ FlagSrc.glb.owns 0 a) s
      t) ∧
  (∀ (who : Party) (k : Clu) (s : State),
    s.cdRun → s.variant.clusters ≤ k.val →
    Completes (.disable who k) s fun t =>
      t.flag .glb 0 ∧ t.reg Reg.GLB_UNIMPL_ADDR = BitVec.ofNat 32 (Reg.CLU_CMD k.val) ∧ Only (fun a => a = Reg.GLB_UNIMPL_ADDR ∨ FlagSrc.glb.owns 0 a) s
      t) ∧
  (∀ (who : Party) (k : Clu) (s : State),
    s.cdRun → s.variant.clusters ≤ k.val →
    Completes (.pause who k) s fun t =>
      t.flag .glb 0 ∧ t.reg Reg.GLB_UNIMPL_ADDR = BitVec.ofNat 32 (Reg.CLU_CMD k.val) ∧ Only (fun a => a = Reg.GLB_UNIMPL_ADDR ∨ FlagSrc.glb.owns 0 a) s
      t) ∧
  (∀ (who : Party) (k : Clu) (s : State),
    s.cdRun → s.variant.clusters ≤ k.val →
    Completes (.resume who k) s fun t =>
      t.flag .glb 0 ∧ t.reg Reg.GLB_UNIMPL_ADDR = BitVec.ofNat 32 (Reg.CLU_CMD k.val) ∧ Only (fun a => a = Reg.GLB_UNIMPL_ADDR ∨ FlagSrc.glb.owns 0 a) s
      t) ∧
  (∀ (who : Party) (k : Clu) (s : State),
    s.cdRun → s.variant.clusters ≤ k.val →
    Completes (.restart who k) s fun t =>
      t.flag .glb 0 ∧ t.reg Reg.GLB_UNIMPL_ADDR = BitVec.ofNat 32 (Reg.CLU_CMD k.val) ∧ Only (fun a => a = Reg.GLB_UNIMPL_ADDR ∨ FlagSrc.glb.owns 0 a) s
      t)

/-- Regions, neutral point, grid measurement and setpoints (R154, R159, R160, R161, R162, R163). Where the manual leaves a corner open the clauses
follow the model's choice: log entries 39 and 40. -/
def Obligations.RegionsAndGridComplete : Prop :=
  (∀ (g : Rgn) (s : State),
    s.cdRun → g.val < s.variant.regions → s.fld (Reg.CLU_REG_STAT g.val) Fld.CLU_REG_STAT_RSTATE = 0 → (s.region g.val).lost = false → s.since
    (s.region g.val).sampleAt 4000 → (∀ k ∈ s.clus, s.ctype k = 0 ∨ s.regionOf k ≠ g.val) →
    Completes (.regionMeasTimeout g) s fun t =>
      t.fld (Reg.CLU_REG_STAT g.val) Fld.CLU_REG_STAT_RSTATE = 3 ∧ (t.region g.val).lost ∧ (t.region g.val).insideAt = none ∧ Only (fun a => a =
      Reg.CLU_REG_STAT g.val ∨ a = Reg.REC_SYSSUPP) { s with regions := t.regions } t) ∧
  (∀ (g : Rgn) (s : State),
    s.cdRun → g.val < s.variant.regions → s.regionOn g.val → (s.region g.val).lost = false → s.since (s.region g.val).sampleAt 4000 →
    Completes (.regionMeasTimeout g) s fun t =>
      (t.region g.val).lost ∧ (t.region g.val).insideAt = none) ∧
  (∀ (g : Rgn) (t0 : Nat) (s : State),
    s.cdRun → g.val < s.variant.regions → s.regionOn g.val → s.regionSwitching g.val = false → (s.region g.val).insideAt = some t0 → s.since t0 (ms
    10) →
    Completes (.regionRestart g) s fun t =>
      t.fld (Reg.CLU_REG_STAT g.val) Fld.CLU_REG_STAT_RSTATE = 0 ∧ t.fld (Reg.CLU_REG_STAT g.val) Fld.CLU_REG_STAT_CMDRES = rcDONE) ∧
  (∀ (g : Rgn) (s : State),
    s.cdRun → g.val < s.variant.regions → (s.regionOn g.val = false ∨ s.regionSwitching g.val ∨ (s.region g.val).insideAt = none) →
    Completes (.regionRestart g) s fun t =>
      t.fld (Reg.CLU_REG_STAT g.val) Fld.CLU_REG_STAT_CMDRES = rcCOND ∧ Only (fun a => a = Reg.CLU_REG_STAT g.val) s t) ∧
  (∀ (who : Party) (k : Clu) (v : Int) (s : State),
    s.cdRun → k.val < s.variant.clusters → s.ctype k.val = tyGFI3 → s.ownerCode k.val = partyCode who →
    Completes (.npTargetWrite who k v) s fun t =>
      signed 16 (t.fld (Reg.CLU_NPTGT k.val) Fld.CLU_NPTGT_NP_TARGET) = signed 16 (unsigned 16 v) ∧ Only (fun a => a = Reg.CLU_NPTGT k.val) s t) ∧
  (∀ (k : Clu) (u : GmuOut) (z : Nat) (s : State),
    s.cdRun → k.val < s.variant.clusters → s.isGfi k.val → s.tb % 40000 = 0 → 40000 ≤ u.freq → u.freq ≤ 70000 → u.zc = some z → (u.mags = none ∨
    (s.blk k.val).ride = none ∨ bitOf ((s.cluster k.val).spActive.getD 4 0) 0 = false) →
    Completes (.gmuUpdate k u) s fun t =>
      t.reg (Reg.CLU_GMU_FREQ k.val) = BitVec.ofNat 32 u.freq ∧ t.reg (Reg.CLU_GMU_SEQ k.val) = BitVec.ofNat 32 (u.neg % 65536 * 65536 + u.pos % 65536)
      ∧ t.reg (Reg.CLU_GMU_ANGLE k.val) = BitVec.ofNat 32 (u.angle % 65536) ∧ t.reg (Reg.CLU_GMU_ZC_LO k.val) = BitVec.ofNat 32 z ∧ t.gmu k.val = ⟨some
      u.angle, u.freq, z / 16⟩ ∧ Only (fun a => a ∈ [Reg.CLU_GMU_FREQ k.val, Reg.CLU_GMU_ROCOF k.val, Reg.CLU_GMU_SEQ k.val, Reg.CLU_GMU_ANGLE k.val,
      Reg.CLU_GMU_PJ k.val, Reg.CLU_GMU_ZC_LO k.val, Reg.CLU_GMU_ZC_HI k.val, Reg.CLU_GMU_ZC_PTPS k.val, Reg.CLU_GMU_ZC_PTPN k.val] ∨ (FlagSrc.clu
      k.val).owns 4 a ∨ a = Reg.REC_SYSSUPP) { s with gmus := t.gmus } t) ∧
  (∀ (k : Clu) (u : GmuOut) (s : State),
    s.cdRun → k.val < s.variant.clusters → s.isGfi k.val → s.tb % 40000 = 0 → (u.freq < 40000 ∨ 70000 < u.freq) → u.zc = none → (u.mags = none ∨
    (s.blk k.val).ride = none ∨ bitOf ((s.cluster k.val).spActive.getD 4 0) 0 = false) →
    Completes (.gmuUpdate k u) s fun t =>
      t.reg (Reg.CLU_GMU_FREQ k.val) = s.reg (Reg.CLU_GMU_FREQ k.val) ∧ t.flag (.clu k.val) 6 ∧ (t.gmu k.val).angle = some u.angle ∧ Only (fun a => a ∈
      [Reg.CLU_GMU_ROCOF k.val, Reg.CLU_GMU_SEQ k.val, Reg.CLU_GMU_ANGLE k.val, Reg.CLU_GMU_PJ k.val] ∨ (FlagSrc.clu k.val).owns 4 a ∨ (FlagSrc.clu
      k.val).owns 5 a ∨ (FlagSrc.clu k.val).owns 6 a ∨ a = Reg.REC_SYSSUPP) { s with gmus := t.gmus } t) ∧
  (∀ (k : Clu) (v : Word) (s : State),
    s.cdRun → k.val < s.variant.clusters →
    Completes (.spPost k v) s fun t =>
      (t.cluster k.val).spPend = some (v.toNat % 65536) ∧ (t.cluster k.val).spPendSet = ((List.range 16).map fun i => (s.reg (Reg.CLU_SP k.val
      i)).toNat) ∧ (t.cluster k.val).spFrom = s.tb ∧ t.fld (Reg.CLU_SP_ACK k.val) spPosted = v.toNat % 65536 ∧ ((s.cluster k.val).spPend.isSome → t.flag
      (.clu k.val) 3) ∧ Only (fun a => a = Reg.CLU_SP_ACK k.val ∨ (FlagSrc.clu k.val).owns 3 a) { s with clusters := t.clusters } t) ∧
  (∀ (k : Clu) (q z : Nat) (s : State),
    s.cdRun → (s.cluster k.val).spPend = some q → gridAfter (s.anchor k.val * 16) (s.cluTsw k.val) (((s.cluster k.val).spFrom + 16) * 16) = z → z ≤
    s.tbFine →
    Completes (.spPickup k) s fun t =>
      (t.cluster k.val).spPend = none ∧ (t.cluster k.val).spActive = (s.cluster k.val).spPendSet ∧ t.fld (Reg.CLU_SP_ACK k.val) spPicked = q % 65536 ∧
      t.reg (Reg.CLU_SP_TIME k.val) = BitVec.ofNat 32 (z / 16) ∧ Only (fun a => a = Reg.CLU_SP_ACK k.val ∨ a = Reg.CLU_SP_TIME k.val)
      { s with clusters := t.clusters } t)

/-- DC clusters: samples, instants, phase counts and soft start (R104, R181, R184, R185, R186, R188, R192, R193). Where the manual leaves a corner
open the clauses follow the model's choice: log entries 43 and 88. -/
def Obligations.DcPhasesComplete : Prop :=
  (∀ (r : Sample) (n : Nat) (s : State),
    s.cdRun → s.invalid r.src = false → s.assigned.filter (fun m => s.slotSrc m == r.src) = [n] → (s.edge n).acts = [] → s.loopRuns n = false → s.fld
    (Reg.EDG_CTRL n) Fld.EDG_CTRL_MODE ≠ 2 → s.bit (Reg.EDG_FCL_CFG n) Fld.EDG_FCL_CFG_FTYPE = false → (∀ g ∈ s.rgns, s.fld (Reg.CLU_REG_VCFG g)
    Fld.CLU_REG_VCFG_SCALE = 0) → (∀ k ∈ s.clus, s.isPhased k = false) →
    Completes (.sampleArrival r) s fun t =>
      (t.edge n).smps = ((r.stamp, r.code) :: (s.edge n).smps).take 256 ∧ Only (fun a => (FlagSrc.edg n).owns 11 a ∨ (FlagSrc.edg n).owns 12 a)
      { s with edges := t.edges, npms := t.npms } t) ∧
  (∀ (r : Sample) (k : Clu) (i v : Bool) (s : State),
    s.cdRun → s.invalid r.src = false → k.val < s.variant.clusters → s.isPhased k.val → (∀ j ∈ s.clus, s.isPhased j → s.bit (Reg.CLU_DC_CFG j)
    Fld.CLU_DC_CFG_OPEN_EN = false) → (∀ g ∈ s.rgns, s.fld (Reg.CLU_REG_VCFG g) Fld.CLU_REG_VCFG_SCALE = 0) → (∀ n ∈ s.assigned, s.slotSrc n ≠ r.src)
    → (sarSrc (s.fld (Reg.CLU_DC_PSRC k.val) Fld.CLU_DC_PSRC_CH) == r.src) = i → (sarSrc (s.fld (Reg.CLU_DC_VSRC k.val) Fld.CLU_DC_VSRC_CH) == r.src)
    = v →
    Completes (.sampleArrival r) s fun t =>
      (i → (t.dc k.val).ps = ((r.stamp, r.code) :: (s.dc k.val).ps).take 256 ∧ (t.dc k.val).psAt = s.now) ∧ (v → (t.dc k.val).vs = ((r.stamp, r.code) ::
      (s.dc k.val).vs).take 256) ∧ Only (fun _ => False) { s with dcs := t.dcs, npms := t.npms } t) ∧
  (∀ (n : Slot) (x : Nat) (k : Nat) (s : State),
    s.cdRun → s.actingDue n.val = some x → s.clusterOf n.val = some k → s.ctype k ≠ tyGFI3 → s.ctype k ≠ tyDLC →
    Completes (.actingPoint n) s fun t =>
      (t.edge n.val).actSeen = some x ∧ (t.edge n.val).acts = (s.edge n.val).acts ++ [x] ∧ Only (fun _ => False) { s with edges := t.edges } t) ∧
  (∀ (k : Clu) (z : Nat) (i v : Int) (s : State),
    s.cdRun → k.val < s.variant.clusters → s.isPhased k.val → s.instantOf k.val = z → ((s.dc k.val).instant.all fun p => Nat.blt p z) → s.charging
    k.val = false → s.cstate k.val ≠ csSTARTING → s.cstate k.val ≠ csRUN → (((estAt (s.dc k.val).ps z).map fun x => x * (s.fld (Reg.CLU_DC_PSRC k.val)
    Fld.CLU_DC_PSRC_SCALE : Int)).getD (s.dc k.val).iPort) = i → (((estAt (s.dc k.val).vs z).map fun x => x * (s.fld (Reg.CLU_DC_VSRC k.val)
    Fld.CLU_DC_VSRC_SCALE : Int)).getD (s.dc k.val).vPort) = v →
    Completes (.clusterInstant k) s fun t =>
      (t.dc k.val).instant = some z ∧ (t.dc k.val).iPort = i ∧ (t.dc k.val).vPort = v ∧ (t.dc k.val).iOk = (estAt (s.dc k.val).ps z).isSome ∧ (t.dc
      k.val).vOk = (estAt (s.dc k.val).vs z).isSome ∧ (t.dc k.val).filt = ((if (estAt (s.dc k.val).ps z).isSome then [i] else []) ++ (s.dc
      k.val).filt).take (s.fld (Reg.CLU_DC_CFG k.val) Fld.CLU_DC_CFG_FILT) ∧ (t.reg (Reg.CLU_DC_MEAS k.val)).toNat % 65536 = satU16 (divNear v 100000) ∧
      Only (fun a => a ∈ [Reg.CLU_DC_MEAS k.val, Reg.CLU_DC_ILIM_EFF k.val, Reg.CHG_BMSLIM k.val, Reg.CHG_BMSV k.val, Reg.CHG_IREF k.val, Reg.CHG_BOUND
      k.val, Reg.CHG_STAT k.val]) { s with dcs := t.dcs, chgs := t.chgs } t) ∧
  (∀ (k : Clu) (p x : Nat) (s : State),
    s.cdRun → s.isPhased k.val → s.cstate k.val = csRUN → (s.dc k.val).req = none → (s.dc k.val).swAt = none → s.bit (Reg.CLU_DC_CFG k.val)
    Fld.CLU_DC_CFG_SHED_EN → (s.dc k.val).dropAt = some x → s.since x (ms (Fld.CLU_DC_DWELL_DWELL_DROP.get (s.reg (Reg.CLU_DC_DWELL k.val)))) → 1 <
    popcount 8 (s.activeMask k.val) → highBit (s.activeMask k.val) = some p →
    Completes (.shedDecision k) s fun t =>
      t.bit (Reg.CLU_DC_STAT k.val) Fld.CLU_DC_STAT_REQ_PEND ∧ (t.dc k.val).req = some (p, false, s.now, none) ∧ (t.dc k.val).dropAt = some s.now ∧ Only
      (fun a => a = Reg.CLU_DC_STAT k.val) { s with dcs := t.dcs } t) ∧
  (∀ (k : Clu) (p x : Nat) (s : State),
    s.cdRun → s.isPhased k.val → s.cstate k.val = csRUN → (s.dc k.val).req = none → (s.dc k.val).swAt = none → s.bit (Reg.CLU_DC_CFG k.val)
    Fld.CLU_DC_CFG_SHED_EN → (s.dc k.val).dropAt = none → (s.dc k.val).addAt = some x → s.since x (40000 * Fld.CLU_DC_DWELL_DWELL_ADD.get (s.reg
    (Reg.CLU_DC_DWELL k.val))) → lowBit (s.healthyMask k.val &&& (0xFF - s.activeMask k.val)) = some p →
    Completes (.shedDecision k) s fun t =>
      t.bit (Reg.CLU_DC_STAT k.val) Fld.CLU_DC_STAT_REQ_PEND ∧ (t.dc k.val).req = some (p, true, s.now, none) ∧ Only (fun a => a = Reg.CLU_DC_STAT
      k.val) { s with dcs := t.dcs } t) ∧
  (∀ (who : Party) (k : Clu) (l : List Nat) (p d : Nat) (b : Bool) (s : State),
    s.cdRun → k.val < s.variant.clusters → s.isPhased k.val → s.ownerCode k.val = partyCode who → (s.dc k.val).req = some (p, b, d, none) → s.now ≤ d
    + ms 1 →
    Completes (.dcSplitAck who k l) s fun t =>
      (t.dc k.val).req = some (p, b, d, some s.tb) ∧ Only (fun a => (∃ n : Fin 24, a = Reg.EDG_REF n.val) ∨ (FlagSrc.chg k.val).owns 9 a)
      { s with dcs := t.dcs } t) ∧
  (∀ (k : Clu) (p d x : Nat) (b : Bool) (n : Nat) (s : State),
    s.cdRun → (s.dc k.val).req = some (p, b, d, some x) → s.slotAt k.val p = some n → s.cstate k.val = csRUN → (x + 16) * 16 ≤ s.zeroAt n s.tbFine → b
    = false →
    Completes (.phaseCountChange k) s fun t =>
      (t.dc k.val).req = none ∧ t.bit (Reg.CLU_DC_STAT k.val) Fld.CLU_DC_STAT_REQ_PEND = false ∧ t.activeMask k.val = putBit (s.activeMask k.val) p
      false % 256 ∧ t.flag (.cluDc k.val) 0 ∧ t.cmdOn n .high = false ∧ t.cmdOn n .low = false) ∧
  (∀ (k : Clu) (p d x : Nat) (b : Bool) (n : Nat) (s : State),
    s.cdRun → (s.dc k.val).req = some (p, b, d, some x) → s.slotAt k.val p = some n → s.cstate k.val = csRUN → (x + 16) * 16 ≤ s.zeroAt n s.tbFine → b
    →
    Completes (.phaseCountChange k) s fun t =>
      (t.dc k.val).req = none ∧ t.bit (Reg.CLU_DC_STAT k.val) Fld.CLU_DC_STAT_REQ_PEND = false ∧ t.activeMask k.val = putBit (s.activeMask k.val) p true
      % 256 ∧ t.flag (.cluDc k.val) 1 ∧ t.bit (Reg.EDG_CTRL n) Fld.EDG_CTRL_EN) ∧
  (∀ (k : Clu) (p d : Nat) (b : Bool) (s : State),
    s.cdRun → (s.dc k.val).req = some (p, b, d, none) → s.since d (ms 1) →
    Completes (.shedRequestTimeout k) s fun t =>
      (t.dc k.val).req = none ∧ t.bit (Reg.CLU_DC_STAT k.val) Fld.CLU_DC_STAT_REQ_PEND = false ∧ t.flag (.cluDc k.val) 3 ∧ Only (fun a => a =
      Reg.CLU_DC_STAT k.val ∨ (FlagSrc.cluDc k.val).owns 3 a) { s with dcs := t.dcs } t) ∧
  (∀ (k : Clu) (p : Nat) (n : Nat) (s : State),
    s.cdRun → k.val < s.variant.clusters → s.slotAt k.val p = some n → s.isPhased k.val → bitOf (s.healthyMask k.val) p = false → s.holdBits n = 0 →
    s.keepsAll k.val = false → (s.cstate k.val = csRUN → (s.cluster k.val).pausing = false) →
    Completes (.readmit k p) s fun t =>
      t.fld (Reg.CLU_STAT k.val) Fld.CLU_STAT_CMDRES = rcDONE ∧ t.healthyMask k.val = putBit (s.healthyMask k.val) p true % 256 ∧ (popcount 8
      (t.healthyMask k.val) < (s.slotsOf k.val).length → t.bit (Reg.CLU_STAT k.val) Fld.CLU_STAT_DERATE) ∧ Only (fun a => a ∈ [Reg.CLU_DC_STAT k.val,
      Reg.CLU_STAT k.val, Reg.CLU_DC_ILIM_EFF k.val, Reg.GLB_DEVSTATE, Reg.REC_SYSSUPP] ∨ (FlagSrc.clu k.val).owns 1 a ∨ ∃ n : Fin 24, a = Reg.EDG_PHASE
      n.val) { s with clusters := t.clusters } t) ∧
  (∀ (k : Clu) (p : Nat) (s : State),
    s.cdRun → k.val < s.variant.clusters → s.isPhased k.val = false → (s.cstate k.val = csRUN → (s.cluster k.val).pausing = false) →
    Completes (.readmit k p) s fun t =>
      t.fld (Reg.CLU_STAT k.val) Fld.CLU_STAT_CMDRES = rcUNKNOWN ∧ t.flag (.clu k.val) 7 ∧ Only (fun a => a = Reg.CLU_STAT k.val ∨ (FlagSrc.clu
      k.val).owns 7 a) s t) ∧
  (∀ (k : Clu) (x : Nat) (s : State),
    s.cdRun → (s.dc k.val).ssAt = some x → s.isPhased k.val → s.cstate k.val = csSTARTING → s.since x (ms (10 * s.fld (Reg.CLU_DC_SS k.val)
    Fld.CLU_DC_SS_SS_TIME)) →
    Completes (.softStartAbort k) s fun t =>
      t.cstate k.val = csSAFE_STOPPED ∧ t.flag (.cluDc k.val) 6 ∧ (if s.bit (Reg.CLU_DC_STAT k.val) Fld.CLU_DC_STAT_RETRY_USED then t.bit
      (Reg.CLU_DC_STAT k.val) Fld.CLU_DC_STAT_SS_LATCH ∧ t.flag (.cluDc k.val) 7 else t.bit (Reg.CLU_DC_STAT k.val) Fld.CLU_DC_STAT_RETRY_PEND ∧ (t.dc
      k.val).retryAt = some s.now)) ∧
  (∀ (k : Clu) (x : Nat) (s : State),
    s.cdRun → (s.dc k.val).retryAt = some x → s.cstate k.val = csSAFE_STOPPED → s.since x (secs 5) → (s.dev ≠ stARMED ∧ s.dev ≠ stRUN) →
    Completes (.softStartRetry k) s fun t =>
      (t.dc k.val).retryAt = none ∧ t.bit (Reg.CLU_DC_STAT k.val) Fld.CLU_DC_STAT_RETRY_PEND = false ∧ t.bit (Reg.CLU_DC_STAT k.val)
      Fld.CLU_DC_STAT_SS_LATCH ∧ t.flag (.cluDc k.val) 7 ∧ Only (fun a => a = Reg.CLU_DC_STAT k.val ∨ (FlagSrc.cluDc k.val).owns 7 a)
      { s with dcs := t.dcs } t) ∧
  (∀ (k : Clu) (x : Nat) (s : State),
    s.cdRun → (s.dc k.val).retryAt = some x → s.cstate k.val = csSAFE_STOPPED → s.since x (secs 5) → (s.dev = stARMED ∨ s.dev = stRUN) →
    (s.cancelRetry k.val).stopCauseGone k.val → ((s.cancelRetry k.val).clearOrders k.val).enableOk k.val → s.isPhased k.val →
    Completes (.softStartRetry k) s fun t =>
      (t.dc k.val).retryAt = none ∧ t.bit (Reg.CLU_DC_STAT k.val) Fld.CLU_DC_STAT_RETRY_USED ∧ t.cstate k.val = csSTARTING) ∧
  (∀ (k : Clu) (s : State),
    s.cdRun → k.val < s.variant.clusters → s.isPhased k.val → s.cstate k.val = csSAFE_STOPPED →
    Completes (.ssUnlatch k) s fun t =>
      t.bit (Reg.CLU_DC_STAT k.val) Fld.CLU_DC_STAT_SS_LATCH = false ∧ t.fld (Reg.CLU_STAT k.val) Fld.CLU_STAT_CMDRES = rcDONE ∧ Only (fun a => a =
      Reg.CLU_DC_STAT k.val ∨ a = Reg.CLU_STAT k.val) s t)

/-- Photovoltaic tracking, sweeps and the chopper (R196, R197, R200). Where the manual leaves a corner open the clauses follow the model's choice: log
entries 44 and 88. -/
def Obligations.PvAndChopperComplete : Prop :=
  (∀ (k : Clu) (m : Nat) (s : State),
    s.cdRun → s.ctype k.val = tyPVC → s.cstate k.val = csRUN → s.bit (Reg.CLU_DC_STAT k.val) Fld.CLU_DC_STAT_FROZEN = false → (s.dc k.val).swAt = none
    → (s.dc k.val).cnt = m → m ≠ 0 → s.since (s.dc k.val).mpptAt (ms (Fld.CLU_PV_MPPT_INTERVAL.get (s.reg (Reg.CLU_PV_MPPT k.val)))) →
    Completes (.mpptUpdate k) s fun t =>
      (t.dc k.val).cnt = 0 ∧ (t.dc k.val).sumP = 0 ∧ (t.dc k.val).mpptAt = s.now ∧ (t.dc k.val).pPrev = (s.dc k.val).sumP / m ∧ t.reg (Reg.CLU_PV_POWER
      k.val) = BitVec.ofNat 32 (unsigned 32 (satI 32 (divNear ((s.dc k.val).sumP / m) (10 ^ 12)))) ∧ (Fld.CLU_PV_MPPT_MODE.get (s.reg (Reg.CLU_PV_MPPT
      k.val)) = 0 → t.reg (Reg.CLU_PV_VREF k.val) = s.reg (Reg.CLU_PV_VREF k.val)) ∧ Only (fun a => a = Reg.CLU_PV_POWER k.val ∨ a = Reg.CLU_PV_VREF
      k.val ∨ (FlagSrc.cluDc k.val).owns 11 a) { s with dcs := t.dcs, draws := t.draws } t) ∧
  (∀ (who : Party) (k : Clu) (s : State),
    s.cdRun → k.val < s.variant.clusters → s.ctype k.val = tyPVC → s.ownerCode k.val = partyCode who → (s.dc k.val).swAt = none →
    Completes (.pvHold who k) s fun t =>
      t.bit (Reg.CLU_DC_STAT k.val) Fld.CLU_DC_STAT_FROZEN ∧ (t.dc k.val).swDue = (s.dc k.val).swDue ∧ Only (fun a => a = Reg.CLU_DC_STAT k.val)
      { s with dcs := t.dcs } t) ∧
  (∀ (who : Party) (k : Clu) (x : Nat) (s : State),
    s.cdRun → k.val < s.variant.clusters → s.ctype k.val = tyPVC → s.ownerCode k.val = partyCode who → (s.dc k.val).swAt = some x →
    Completes (.pvHold who k) s fun t =>
      t.bit (Reg.CLU_DC_STAT k.val) Fld.CLU_DC_STAT_FROZEN ∧ t.bit (Reg.CLU_DC_STAT k.val) Fld.CLU_DC_STAT_SWEEP_ACT = false ∧ (t.dc k.val).swDue ∧
      (t.dc k.val).swAt = none ∧ t.reg (Reg.CLU_PV_VREF k.val) = BitVec.ofNat 32 (s.dc k.val).swRef ∧ Only (fun a => a = Reg.CLU_DC_STAT k.val ∨ a =
      Reg.CLU_PV_VREF k.val) { s with dcs := t.dcs } t) ∧
  (∀ (who : Party) (k : Clu) (s : State),
    s.cdRun → k.val < s.variant.clusters → s.ctype k.val = tyPVC → s.ownerCode k.val = partyCode who →
    Completes (.pvTrack who k) s fun t =>
      t.bit (Reg.CLU_DC_STAT k.val) Fld.CLU_DC_STAT_FROZEN = false ∧ (t.dc k.val).mpptAt = s.now ∧ (t.dc k.val).cnt = 0 ∧ Only (fun a => a =
      Reg.CLU_DC_STAT k.val) { s with dcs := t.dcs } t) ∧
  (∀ (k : Clu) (s : State),
    s.cdRun → k.val < s.variant.clusters → s.ctype k.val = tyPVC → s.cstate k.val = csRUN → (s.cluster k.val).pausing = false → (s.dc k.val).swAt =
    none → s.bit (Reg.CLU_DC_STAT k.val) Fld.CLU_DC_STAT_FROZEN = false →
    Completes (.sweep k) s fun t =>
      (t.dc k.val).swAt = some s.now ∧ (t.dc k.val).swRef = (s.reg (Reg.CLU_PV_VREF k.val)).toNat ∧ (t.dc k.val).swPoint = 0 ∧ t.bit (Reg.CLU_DC_STAT
      k.val) Fld.CLU_DC_STAT_SWEEP_ACT ∧ t.reg (Reg.CLU_PV_VREF k.val) = BitVec.ofNat 32 (s.sweepRef k.val 0) ∧ t.fld (Reg.CLU_STAT k.val)
      Fld.CLU_STAT_CMDRES = rcDONE ∧ Only (fun a => a = Reg.CLU_DC_STAT k.val ∨ a = Reg.CLU_STAT k.val ∨ a = Reg.CLU_PV_VREF k.val)
      { s with dcs := t.dcs } t) ∧
  (∀ (k : Clu) (s : State),
    s.cdRun → k.val < s.variant.clusters → s.ctype k.val = tyPVC → s.cstate k.val = csRUN → (s.cluster k.val).pausing = false → (s.dc k.val).swAt =
    none → s.bit (Reg.CLU_DC_STAT k.val) Fld.CLU_DC_STAT_FROZEN →
    Completes (.sweep k) s fun t =>
      (t.dc k.val).swDue ∧ t.fld (Reg.CLU_STAT k.val) Fld.CLU_STAT_CMDRES = rcDONE ∧ Only (fun a => a = Reg.CLU_STAT k.val) { s with dcs := t.dcs } t) ∧
  (∀ (k : Clu) (x p : Nat) (s : State),
    s.cdRun → s.cstate k.val = csRUN → (s.dc k.val).swAt = some x → (s.dc k.val).swPoint = p → p < 63 → s.since x ((p + 1) * 250000) →
    Completes (.sweepPoint k) s fun t =>
      (t.dc k.val).swPoint = p + 1 ∧ (t.dc k.val).swN = 0 ∧ (t.dc k.val).swPow.length = (s.dc k.val).swPow.length + 1 ∧ t.reg (Reg.CLU_PV_VREF k.val) =
      BitVec.ofNat 32 (s.sweepRef k.val (p + 1)) ∧ Only (fun a => a = Reg.CLU_PV_VREF k.val ∨ a = Reg.CLU_PV_CURVE k.val (s.dc k.val).swPoint)
      { s with dcs := t.dcs } t) ∧
  (∀ (k : Clu) (x : Nat) (s : State),
    s.cdRun → s.cstate k.val = csRUN → (s.dc k.val).swAt = some x → (s.dc k.val).swPoint = 63 → (s.dc k.val).swPow.length = 63 → s.since x (ms 40) →
    Completes (.sweepEnd k) s fun t =>
      (t.dc k.val).swAt = none ∧ t.bit (Reg.CLU_DC_STAT k.val) Fld.CLU_DC_STAT_SWEEP_ACT = false ∧ (t.reg (Reg.CLU_PV_SWRES k.val)).toNat / 2 ^ 24 % 128
      < 64 ∧ (t.dc k.val).mpptAt = s.now ∧ Only (fun a => a = Reg.CLU_DC_STAT k.val ∨ a = Reg.CLU_PV_VREF k.val ∨ a = Reg.CLU_PV_SWRES k.val ∨ a =
      Reg.CLU_PV_CURVE k.val 63) { s with dcs := t.dcs } t) ∧
  (∀ (k : Clu) (s : State),
    s.cdRun → k.val < s.variant.clusters → s.ctype k.val = tyDLC → s.cstate k.val = csRUN → (s.cluster k.val).pausing = false → s.othersSwitch k.val =
    false →
    Completes (.discharge k) s fun t =>
      t.bit (Reg.CLU_DC_STAT k.val) Fld.CLU_DC_STAT_DISCH_ACT ∧ t.fld (Reg.CLU_STAT k.val) Fld.CLU_STAT_CMDRES = rcDONE ∧ Only (fun a => a =
      Reg.CLU_DC_STAT k.val ∨ a = Reg.CLU_STAT k.val) s t) ∧
  (∀ (k : Clu) (s : State),
    s.cdRun → k.val < s.variant.clusters → s.ctype k.val = tyDLC → s.cstate k.val ≠ csRUN →
    Completes (.discharge k) s fun t =>
      t.fld (Reg.CLU_STAT k.val) Fld.CLU_STAT_CMDRES = rcCOND ∧ t.flag (.clu k.val) 7 ∧ Only (fun a => a = Reg.CLU_STAT k.val ∨ (FlagSrc.clu k.val).owns
      7 a) s t) ∧
  (∀ (k : Clu) (s : State),
    s.cdRun → k.val < s.variant.clusters → s.ctype k.val = tyDLC → (s.cstate k.val = csRUN → (s.cluster k.val).pausing = false) → s.bit
    (Reg.CLU_DC_STAT k.val) Fld.CLU_DC_STAT_DISCH_ACT →
    Completes (.dischargeStop k) s fun t =>
      t.bit (Reg.CLU_DC_STAT k.val) Fld.CLU_DC_STAT_DISCH_ACT = false ∧ t.fld (Reg.CLU_STAT k.val) Fld.CLU_STAT_CMDRES = rcDONE ∧ Only (fun a => a =
      Reg.CLU_DC_STAT k.val ∨ a = Reg.CLU_STAT k.val) s t)

/-- The sync bus and alignment across modules (R112, R113, R114, R168, R169, R170, R171, R172, R174, R175, R176). Where the manual leaves a corner
open the clauses follow the model's choice: log entries 31, 41, 42 and 87. -/
def Obligations.SystemBusCompletes : Prop :=
  (∀ (c : SyncIn) (w : BitVec 128) (h : SyncHdr) (x : BitVec 120) (p q : SyncRef) (s : State),
    s.sysOn → s.role ≠ roLEADER → c.segA = some w → readA w = some h → h.cidx ≠ s.ownId → s.sys.fenced = false → bitOf (h.members % 65536) s.ownId →
    c.segB = some x → readB x = some (p, q) → p.valid → q.valid →
    Completes (.syncCycle c) s fun t =>
      t.fld Reg.CLU_SYS_STAT Fld.CLU_SYS_STAT_LID = h.lid.val ∧ t.sepoch = h.sepoch % 65536 ∧ t.members = h.members % 65536 ∧ t.role = roFOLLOWER ∧
      t.sys.missed = 0 ∧ t.sys.silent = 0 ∧ t.sys.heard ∧ t.sys.cidx = h.cidx ∧ t.sys.outA = none ∧ t.sys.outC = none ∧ t.sys.g0 = ⟨p.angle,
      s.sys.g0.angle, p.id, p.iq, true, true⟩ ∧ t.sys.g1 = ⟨q.angle, s.sys.g1.angle, q.id, q.iq, true, true⟩ ∧ (h.lid.val ≠ s.fld Reg.CLU_SYS_STAT
      Fld.CLU_SYS_STAT_LID → t.flag .cluSys 0) ∧ Only (fun a => a = Reg.CLU_SYS_STAT ∨ a = Reg.CLU_SYS_MEMBERS ∨ a = Reg.EDG_ALIGN_STAT ∨ (∃ k : Fin 12,
      a = Reg.CLU_STAT k.val) ∨ FlagSrc.cluSys.owns 0 a ∨ FlagSrc.cluSys.owns 3 a ∨ FlagSrc.cluSys.owns 6 a) { s with sys := t.sys } t) ∧
  (∀ (c : SyncIn) (w : BitVec 128) (h : SyncHdr) (s : State),
    s.sysOn → s.role ≠ roLEADER → c.segA = some w → readA w = some h → h.cidx ≠ s.ownId → s.sys.fenced = false → bitOf (h.members % 65536) s.ownId =
    false → s.sys.appeared →
    Completes (.syncCycle c) s fun t =>
      t.sys.fenced ∧ t.role = roFENCED ∧ t.sys.join = false ∧ t.flag .cluSys 1) ∧
  (∀ (c : SyncIn) (s : State),
    s.sysOn → s.role ≠ roLEADER → c.segA = none → (s.sys.cidx + 1) % 16 ≠ s.ownId → s.sys.quiet = 0 → s.sys.g0.valid = false → s.sys.g1.valid = false
    → (∀ k ∈ s.parClus, s.bit (Reg.CLU_STAT k) Fld.CLU_STAT_SHARE_HOLD = false) →
    Completes (.syncCycle c) s fun t =>
      t.sys.missed = s.sys.missed + 1 ∧ t.sys.silent = s.sys.silent + 1 ∧ t.sys.cidx = (s.sys.cidx + 1) % 16 ∧ t.sys.outC = none ∧ Only (fun a =>
      FlagSrc.cluSys.owns 3 a ∨ FlagSrc.cluSys.owns 6 a) { s with sys := t.sys } t) ∧
  (∀ (c : SyncIn) (w : BitVec 64) (s : State),
    s.sysOn → s.role ≠ roLEADER → c.segA = none → (s.sys.cidx + 1) % 16 = s.ownId → s.formC c.share = w → c.segC = some w → s.sys.g0.valid = false →
    s.sys.g1.valid = false → (∀ k ∈ s.parClus, s.bit (Reg.CLU_STAT k) Fld.CLU_STAT_SHARE_HOLD = false) →
    Completes (.syncCycle c) s fun t =>
      t.sys.outC = some w ∧ t.sys.rbC = 0 ∧ t.sys.silent = s.sys.silent + 1 ∧ Only (fun a => FlagSrc.cluSys.owns 6 a) { s with sys := t.sys } t) ∧
  (∀ (c : SyncIn) (w : BitVec 128) (s : State),
    s.sysOn → s.role = roLEADER → s.tb % 12800 = 0 → s.formA (s.tb / 12800 % 16) = w → c.segA = some w → s.sys.fresh = false → c.own.1.valid →
    c.own.2.valid → s.tb / 12800 % 16 ≠ s.ownId → bitOf s.members (s.tb / 12800 % 16) = false → c.segC = none →
    Completes (.syncCycle c) s fun t =>
      t.role = roLEADER ∧ t.sys.outA = some w ∧ t.sys.outB = some (formB c.own) ∧ t.sys.outC = none ∧ t.sys.rbA = 0 ∧ t.sys.g0 = ⟨c.own.1.angle,
      s.sys.g0.angle, c.own.1.id, c.own.1.iq, true, true⟩ ∧ t.sys.g1 = ⟨c.own.2.angle, s.sys.g1.angle, c.own.2.id, c.own.2.iq, true, true⟩ ∧ Only (fun a
      => (∃ k : Fin 12, a = Reg.CLU_STAT k.val)) { s with sys := t.sys } t) ∧
  (∀ (c : SyncIn) (w : BitVec 128) (v : BitVec 64) (m : SyncSlot) (s : State),
    s.sysOn → s.role = roLEADER → s.tb % 12800 = 0 → s.formA (s.tb / 12800 % 16) = w → c.segA = some w → s.tb / 12800 % 16 ≠ s.ownId → bitOf s.members
    (s.tb / 12800 % 16) = false → c.segC = some v → readC v = some m → m.modid.val = s.tb / 12800 % 16 → bitOf m.flags 0 → File.get 0 s.sys.joins
    (s.tb / 12800 % 16) ≠ 0 →
    Completes (.syncCycle c) s fun t =>
      t.role = roLEADER ∧ t.members = putBit s.members (s.tb / 12800 % 16) true % 65536 ∧ t.sepoch = (s.sepoch + 1) % 65536 ∧ t.fld Reg.CLU_SYS_FLAGS
      ⟨3, 1⟩ = s.fld Reg.CLU_SYS_FLAGS ⟨3, 1⟩) ∧
  (∀ (c : SyncIn) (w : BitVec 128) (s : State),
    s.sysOn → s.role = roLEADER → s.tb % 12800 = 0 → s.formA (s.tb / 12800 % 16) = w → c.segA = some w → s.tb / 12800 % 16 ≠ s.ownId → bitOf s.members
    (s.tb / 12800 % 16) → c.segC = none → s.fld Reg.CLU_SYS_CFG Fld.CLU_SYS_CFG_DEAD_ROUNDS ≤ File.get 0 s.sys.dead (s.tb / 12800 % 16) + 1 →
    Completes (.syncCycle c) s fun t =>
      t.role = roLEADER ∧ t.members = putBit s.members (s.tb / 12800 % 16) false ∧ t.sepoch = (s.sepoch + 1) % 65536 ∧ t.flag .cluSys 2) ∧
  (∀ (c : SyncIn) (s : State),
    s.sysOn → s.role = roLEADER → s.tb % 12800 = 0 → c.segA = none → s.sys.rbA ≠ 0 →
    Completes (.syncCycle c) s fun t =>
      t.role = roLISTEN ∧ t.flag .cluSys 4 ∧ t.sys.quiet = (s.ownId + 1) * 2 - 1) ∧
  (∀ (s : State),
    s.sysOn → s.role ≠ roLEADER → s.sys.waiting = false → s.healthy → (bitOf s.members s.ownId ∨ s.sys.heard = false) → s.fld Reg.CLU_SYS_CFG
    Fld.CLU_SYS_CFG_LEAD_TO ≤ s.sys.missed →
    Completes .leaderLoss s fun t =>
      t.sys.waiting ∧ t.sys.waited = 0 ∧ t.role = roCANDIDATE ∧ Only (fun a => a = Reg.CLU_SYS_STAT ∨ a = Reg.EDG_ALIGN_STAT) { s with sys := t.sys } t) ∧
  (∀ (s : State),
    s.sysOn → s.sys.waiting → s.healthy → (s.ownId + 1) * 2 ≤ s.sys.waited →
    Completes .electionWaitEnd s fun t =>
      t.role = roLEADER ∧ t.fld Reg.CLU_SYS_STAT Fld.CLU_SYS_STAT_LID = s.ownId ∧ t.sepoch = (s.sepoch + 1) % 65536 ∧ bitOf t.members s.ownId ∧ t.flag
      .cluSys 0 ∧ t.sys.waiting = false ∧ t.sys.fresh ∧ Only (fun a => a = Reg.CLU_SYS_STAT ∨ a = Reg.CLU_SYS_MEMBERS ∨ a = Reg.EDG_ALIGN_STAT ∨ (∃ n :
      Fin 24, a = Reg.EDG_STAT n.val) ∨ FlagSrc.cluSys.owns 0 a) { s with sys := t.sys } t) ∧
  (∀ (s : State),
    s.sysOn → s.role ≠ roLEADER → s.sys.heard → s.sys.fenced = false → s.fld Reg.CLU_SYS_CFG Fld.CLU_SYS_CFG_ISOLATE ≤ s.sys.silent →
    Completes .isolateExpiry s fun t =>
      t.role = roFENCED ∧ t.sys.fenced ∧ t.sys.join = false ∧ t.flag .cluSys 1 ∧ t.sys.rejoin = none) ∧
  (∀ (s : State),
    s.cdRun → s.sys.fenced → (s.dev = stSTANDBY ∨ s.dev = stARMED) → (∀ k ∈ s.parClus, s.cstate k = csFENCED ∨ s.cstate k = csOFF) → s.sys.silent = 0
    → s.sys.heard → s.fld Reg.EDG_ALIGN_STAT Fld.EDG_ALIGN_STAT_STATE = 2 →
    Completes .rejoin s fun t =>
      t.sys.join ∧ t.sys.rejoin = some 0 ∧ t.reg Reg.CLU_SYS_RES = 0 ∧ Only (fun a => a = Reg.CLU_SYS_RES) { s with sys := t.sys } t) ∧
  (∀ (s : State),
    s.cdRun → s.sys.fenced = false →
    Completes .rejoin s fun t =>
      t.reg Reg.CLU_SYS_RES = BitVec.ofNat 32 rcSTATE ∧ t.flag .cluSys 7 ∧ Only (fun a => a = Reg.CLU_SYS_RES ∨ FlagSrc.cluSys.owns 7 a) s t) ∧
  (∀ (off : Int) (s : State),
    s.sysOn → s.dev = stSTANDBY → s.role ≠ roLEADER → s.sys.heard → s.sys.silent = 0 → s.sys.stepped = false → s.slots.any s.switching = false →
    Completes (.alignmentStep off) s fun t =>
      t.tb = moveBy (off.tdiv 2500) 1 s.tb ∧ t.sys.stepped ∧ t.fld Reg.EDG_ALIGN_STAT Fld.EDG_ALIGN_STAT_STATE = 1 ∧ t.flag .align 0 ∧ t.reg
      Reg.EDG_ALIGN_STEP_LO = BitVec.ofNat 32 (unsigned 64 (off.tdiv 2500)) ∧ t.fld Reg.EDG_ALIGN_STAT Fld.EDG_ALIGN_STAT_ERR = satS16 (off - off.tdiv
      2500 * 2500)) ∧
  (∀ (s : State),
    s.sysOn → s.role ≠ roLEADER → s.sys.heard → s.sys.silent = 0 → s.fld Reg.EDG_ALIGN_STAT Fld.EDG_ALIGN_STAT_STATE ≠ 2 → (s.fld Reg.EDG_ALIGN_STAT
    Fld.EDG_ALIGN_STAT_STATE ≠ 0 ∨ s.sys.stepped) → s.since s.sys.alignAt (ms 1) →
    Completes .alignmentLock s fun t =>
      t.fld Reg.EDG_ALIGN_STAT Fld.EDG_ALIGN_STAT_STATE = 2 ∧ (signed 16 (t.fld Reg.EDG_ALIGN_STAT Fld.EDG_ALIGN_STAT_ERR)).natAbs ≤ 2000 ∧ (signed 16
      (t.reg Reg.EDG_ALIGN_TRIM).toNat).natAbs ≤ 10000 ∧ ∀ n ∈ s.slots, t.bit (Reg.EDG_STAT n) Fld.EDG_STAT_ALIGNED ∧ Only (fun a => a =
      Reg.EDG_ALIGN_STAT ∨ a = Reg.EDG_ALIGN_TRIM ∨ ∃ n : Fin 24, a = Reg.EDG_STAT n.val) { s with draws := t.draws, sys := t.sys } t) ∧
  (∀ (e : Int) (s : State),
    s.sysOn → s.role ≠ roLEADER → (s.fld Reg.EDG_ALIGN_STAT Fld.EDG_ALIGN_STAT_STATE = 1 ∨ s.fld Reg.EDG_ALIGN_STAT Fld.EDG_ALIGN_STAT_STATE = 2) →
    e.natAbs * 100 ≤ s.fld Reg.EDG_ALIGN_CFG Fld.EDG_ALIGN_CFG_LIM * 15625 →
    Completes (.alignmentLoss (.error e)) s fun t =>
      t.fld Reg.EDG_ALIGN_STAT Fld.EDG_ALIGN_STAT_ERR = satS16 e ∧ t.sys.limAt = none ∧ Only (fun a => a = Reg.EDG_ALIGN_STAT) { s with sys := t.sys } t) ∧
  (∀ (e : Int) (s : State),
    s.sysOn → s.role ≠ roLEADER → (s.fld Reg.EDG_ALIGN_STAT Fld.EDG_ALIGN_STAT_STATE = 1 ∨ s.fld Reg.EDG_ALIGN_STAT Fld.EDG_ALIGN_STAT_STATE = 2) →
    s.fld Reg.EDG_ALIGN_CFG Fld.EDG_ALIGN_CFG_LIM * 15625 < e.natAbs * 100 → s.sys.limAt = none →
    Completes (.alignmentLoss (.error e)) s fun t =>
      t.fld Reg.EDG_ALIGN_STAT Fld.EDG_ALIGN_STAT_ERR = satS16 e ∧ t.sys.limAt = some s.now ∧ t.flag .align 1 ∧ Only (fun a => a = Reg.EDG_ALIGN_STAT ∨
      FlagSrc.align.owns 1 a) { s with sys := t.sys } t) ∧
  (∀ (e : Int) (x : Nat) (s : State),
    s.sysOn → s.role ≠ roLEADER → (s.fld Reg.EDG_ALIGN_STAT Fld.EDG_ALIGN_STAT_STATE = 1 ∨ s.fld Reg.EDG_ALIGN_STAT Fld.EDG_ALIGN_STAT_STATE = 2) →
    s.fld Reg.EDG_ALIGN_CFG Fld.EDG_ALIGN_CFG_LIM * 15625 < e.natAbs * 100 → s.sys.limAt = some x → s.since x s.lossTime →
    Completes (.alignmentLoss (.error e)) s fun t =>
      t.fld Reg.EDG_ALIGN_STAT Fld.EDG_ALIGN_STAT_ERR = satS16 e ∧ t.fld Reg.EDG_ALIGN_STAT Fld.EDG_ALIGN_STAT_STATE = 3 ∧ t.flag .align 2 ∧ Only (fun a
      => a = Reg.EDG_ALIGN_STAT ∨ (∃ n : Fin 24, a = Reg.EDG_STAT n.val) ∨ FlagSrc.align.owns 2 a) { s with sys := t.sys } t) ∧
  (∀ (s : State),
    s.sysOn → s.role ≠ roLEADER → (s.fld Reg.EDG_ALIGN_STAT Fld.EDG_ALIGN_STAT_STATE = 1 ∨ s.fld Reg.EDG_ALIGN_STAT Fld.EDG_ALIGN_STAT_STATE = 2) →
    s.lossTime ≤ 12800 * s.sys.silent →
    Completes (.alignmentLoss .bus) s fun t =>
      t.fld Reg.EDG_ALIGN_STAT Fld.EDG_ALIGN_STAT_STATE = 3 ∧ t.flag .align 2 ∧ Only (fun a => a = Reg.EDG_ALIGN_STAT ∨ (∃ n : Fin 24, a = Reg.EDG_STAT
      n.val) ∨ FlagSrc.align.owns 2 a) { s with sys := t.sys } t)

/-- The string charge engine and Safety Net (R204, R205, R207, R208, R209, R211, R214, R215, R216). Where the manual leaves a corner open the clauses
follow the model's choice: log entries 45 and 46. -/
def Obligations.ChargeEngineCompletes : Prop :=
  (∀ (k : Clu) (f : CanFrame) (l : BmuLim) (s : State),
    s.cdRun → k.val < s.variant.clusters → s.isSdc k.val → s.decodeBmu k.val f.data = some l → s.bmuOk k.val l →
    Completes (.bmuFrame k f) s fun t =>
      (t.chg k.val).wait = (s.chg k.val).wait ++ [(s.tb, l, true)] ∧ (t.chg k.val).frameAt = s.now ∧ (bitOf l.flags 0 ∨ bitOf l.flags 1 → t.flag (.chg
      k.val) 3) ∧ Only (fun a => (FlagSrc.chg k.val).owns 3 a) { s with chgs := t.chgs } t) ∧
  (∀ (k : Clu) (f : CanFrame) (s : State),
    s.cdRun → k.val < s.variant.clusters → s.isSdc k.val → ((s.decodeBmu k.val f.data).all fun l => !s.bmuOk k.val l) →
    Completes (.bmuFrame k f) s fun t =>
      t.flag (.chg k.val) 7 ∧ Only (fun a => (FlagSrc.chg k.val).owns 7 a) s t) ∧
  (∀ (k : Clu) (s : State),
    s.cdRun → s.isSdc k.val → (s.chg k.val).lim.isSome → (s.chg k.val).silent = false → s.since (s.chg k.val).frameAt (ms (s.fld (Reg.CHG_BMS k.val)
    Fld.CHG_BMS_BMS_TO)) →
    Completes (.bmuSilent k) s fun t =>
      (t.chg k.val).silent ∧ t.flag (.chg k.val) 2 ∧ t.reg (Reg.CHG_BOUND k.val) = 0 ∧ t.bit (Reg.CHG_STAT k.val) Fld.CHG_STAT_BMS_VALID = false) ∧
  (∀ (k : Clu) (s : State),
    s.cdRun → s.isSdc k.val → (s.chg k.val).lim.isSome → (s.chg k.val).silent = false → s.since (s.chg k.val).frameAt (ms (s.fld (Reg.CHG_BMS k.val)
    Fld.CHG_BMS_BMS_TO)) → s.charging k.val = false → s.cstate k.val ∉ [csSTARTING, csRUN, csPAUSED, csPORT_OPEN] →
    Completes (.bmuSilent k) s fun t =>
      (t.chg k.val).silent ∧ Only (fun a => a = Reg.CHG_STAT k.val ∨ a = Reg.CHG_BOUND k.val ∨ (FlagSrc.chg k.val).owns 2 a) { s with chgs := t.chgs } t) ∧
  (∀ (who : Party) (k : Clu) (m : Nat) (s : State),
    s.mayCommand who k.val → s.isSdc k.val → s.charging k.val = false → s.cstate k.val = csRUN → s.snFb = false → s.bmsValid k.val → ((s.chg
    k.val).lim.any fun l => l.ichg != 0 && !bitOf l.flags 0) → s.fld (Reg.CHG_CFG k.val) Fld.CHG_CFG_PROFILE = m → m ≠ 0 →
    Completes (.start who k) s fun t =>
      t.estate k.val = (if m = 1 then 1 else 3) ∧ t.fld (Reg.CHG_STAT k.val) Fld.CHG_STAT_REASON = 0 ∧ t.fld (Reg.CHG_STAT k.val) Fld.CHG_STAT_CMDRES =
      rcDONE ∧ (t.chg k.val).startAt = s.now ∧ (t.chg k.val).iref = 0 ∧ Only (fun a => a = Reg.CHG_STAT k.val ∨ a = Reg.CHG_TIME k.val ∨ a =
      Reg.CHG_NIMON k.val) { s with chgs := t.chgs } t) ∧
  (∀ (who : Party) (k : Clu) (s : State),
    s.mayCommand who k.val → s.isSdc k.val → s.charging k.val →
    Completes (.start who k) s fun t =>
      t.fld (Reg.CHG_STAT k.val) Fld.CHG_STAT_CMDRES = rcSTATE ∧ t.flag (.chg k.val) 8 ∧ Only (fun a => a = Reg.CHG_STAT k.val ∨ (FlagSrc.chg
      k.val).owns 8 a) s t) ∧
  (∀ (who : Party) (k : Clu) (s : State),
    s.mayCommand who k.val → s.isSdc k.val → s.charging k.val →
    Completes (.stop who k) s fun t =>
      t.estate k.val = (if 1 ≤ t.fld (Reg.CHG_STAT k.val) Fld.CHG_STAT_REASON ∧ t.fld (Reg.CHG_STAT k.val) Fld.CHG_STAT_REASON ≤ 4 then 5 else 6) ∧
      (s.chargeConds k.val = [] → t.fld (Reg.CHG_STAT k.val) Fld.CHG_STAT_REASON = 0x0B) ∧ (∀ n ∈ s.slotsOf k.val, t.fld (Reg.EDG_REF n)
      Fld.EDG_REF_IREF = 0) ∧ t.fld (Reg.CHG_STAT k.val) Fld.CHG_STAT_CMDRES = rcDONE ∧ (t.chg k.val).iref = 0 ∧ Only (fun a => a = Reg.CHG_STAT k.val ∨
      a = Reg.CHG_IREF k.val ∨ (∃ n : Fin 24, a = Reg.EDG_REF n.val) ∨ ∃ b : Fin 8, (FlagSrc.chg k.val).owns b.val a ∨ a = Reg.REC_SYSSUPP)
      { s with chgs := t.chgs } t) ∧
  (∀ (who : Party) (k : Clu) (s : State),
    s.mayCommand who k.val → s.isSdc k.val → s.charging k.val = false →
    Completes (.stop who k) s fun t =>
      t.fld (Reg.CHG_STAT k.val) Fld.CHG_STAT_CMDRES = rcSTATE ∧ t.flag (.chg k.val) 8 ∧ Only (fun a => a = Reg.CHG_STAT k.val ∨ (FlagSrc.chg
      k.val).owns 8 a) s t) ∧
  (∀ (k : Clu) (x : Nat) (s : State),
    s.cdRun → (s.chg k.val).taperAt = some x → s.estate k.val = 2 → s.since x (secs (s.fld (Reg.CHG_TIMER k.val) Fld.CHG_TIMER_T_TAPER)) →
    s.chargeConds k.val = [0x01] →
    Completes (.taperDone k) s fun t =>
      t.estate k.val = 5 ∧ t.fld (Reg.CHG_STAT k.val) Fld.CHG_STAT_REASON = 1 ∧ t.flag (.chg k.val) 0 ∧ (t.chg k.val).iref = 0 ∧ (∀ n ∈ s.slotsOf k.val,
      t.fld (Reg.EDG_REF n) Fld.EDG_REF_IREF = 0) ∧ Only (fun a => a = Reg.CHG_STAT k.val ∨ a = Reg.CHG_IREF k.val ∨ (∃ n : Fin 24, a = Reg.EDG_REF
      n.val) ∨ (FlagSrc.chg k.val).owns 0 a ∨ a = Reg.REC_SYSSUPP) { s with chgs := t.chgs } t) ∧
  (∀ (k : Clu) (x : Nat) (s : State),
    s.cdRun → s.charging k.val → (s.chg k.val).winAt = x → s.since x (secs 1) →
    Completes (.chargeWindowEnd k) s fun t =>
      (t.chg k.val).winAt = x + secs 1 ∧ (t.chg k.val).winN = 0 ∧ (t.chg k.val).winSum = 0 ∧ Only (fun a => a = Reg.CHG_STAT k.val ∨ a = Reg.CHG_IREF
      k.val ∨ a = Reg.CHG_TIME k.val ∨ a = Reg.CHG_NIMON k.val ∨ (∃ n : Fin 24, a = Reg.EDG_REF n.val) ∨ ∃ b : Fin 8, (FlagSrc.chg k.val).owns b.val a)
      { s with chgs := t.chgs } t) ∧
  (∀ (who : Party) (k : Clu) (s : State),
    s.cdRun → s.variant.clusters ≤ k.val →
    Completes (.start who k) s fun t =>
      t.flag .glb 0 ∧ t.reg Reg.GLB_UNIMPL_ADDR = BitVec.ofNat 32 (Reg.CHG_CMD k.val) ∧ Only (fun a => a = Reg.GLB_UNIMPL_ADDR ∨ FlagSrc.glb.owns 0 a) s
      t) ∧
  (∀ (who : Party) (k : Clu) (s : State),
    s.cdRun → s.variant.clusters ≤ k.val →
    Completes (.stop who k) s fun t =>
      t.flag .glb 0 ∧ t.reg Reg.GLB_UNIMPL_ADDR = BitVec.ofNat 32 (Reg.CHG_CMD k.val) ∧ Only (fun a => a = Reg.GLB_UNIMPL_ADDR ∨ FlagSrc.glb.owns 0 a) s
      t) ∧
  (∀ (v : Word) (s : State),
    s.cdRun → v ≠ s.reg Reg.CHG_HB →
    Completes (.heartbeat v) s fun t =>
      t.reg Reg.CHG_HB = v ∧ t.snet.hbAt = some s.now ∧ t.snet.watch = some s.now ∧ Only (fun a => a = Reg.CHG_HB) { s with snet := t.snet } t) ∧
  (∀ (v : Word) (s : State),
    s.cdRun → v = s.reg Reg.CHG_HB →
    Completes (.heartbeat v) s fun t =>
      t.flag .chgSn 2 ∧ Only (fun a => FlagSrc.chgSn.owns 2 a) s t) ∧
  (∀ (x : Nat) (s : State),
    s.cdRun → s.snet.watch = some x → s.since x (ms (100 * s.fld Reg.CHG_SN_CFG Fld.CHG_SN_CFG_SN_TO)) → s.snFb = false →
    Completes .snTimeout s fun t =>
      t.snFb ∧ t.fld Reg.CHG_SN_STAT Fld.CHG_SN_STAT_CAUSE = 2 ∧ t.snet.watch = none ∧ t.snet.fbAt = s.now ∧ t.flag .chgSn 0) ∧
  (∀ (x : Nat) (s : State),
    s.cdRun → s.snet.watch = some x → s.since x (ms (100 * s.fld Reg.CHG_SN_CFG Fld.CHG_SN_CFG_SN_TO)) → s.snFb →
    Completes .snTimeout s fun t =>
      t.snet.watch = none ∧ Only (fun a => a = Reg.REC_SYSSUPP) { s with snet := t.snet } t) ∧
  (∀ (x : Nat) (s : State),
    s.cdRun → s.snFb → s.snet.hbAt = some x → s.snet.fbAt < x → s.now ≤ x + ms (100 * s.fld Reg.CHG_SN_CFG Fld.CHG_SN_CFG_SN_TO) → s.hostUp →
    Completes .snExit s fun t =>
      t.snFb = false ∧ t.flag .chgSn 1 ∧ t.fld Reg.CHG_SN_STAT Fld.CHG_SN_STAT_CMDRES = rcDONE ∧ t.rm.snOff = 0) ∧
  (∀ (s : State),
    s.cdRun → s.snFb = false →
    Completes .snExit s fun t =>
      t.fld Reg.CHG_SN_STAT Fld.CHG_SN_STAT_CMDRES = rcSTATE ∧ t.flag .chgSn 3 ∧ Only (fun a => a = Reg.CHG_SN_STAT ∨ FlagSrc.chgSn.owns 3 a) s t)

/-- The hold-up pack charger (R218, R219, R220, R223). Where the manual leaves a corner open the clauses follow the model's choice: log entry 47. -/
def Obligations.PackChargerCompletes : Prop :=
  (∀ (mv : Nat) (tp : Option Int) (x : Nat) (s : State),
    s.cdRun → s.hstate = 0 → 1000 ≤ mv → mv ≤ 6400 → tp.isSome → s.pack.seenAt = some x → s.since x (secs 2) →
    Completes (.packQualify mv tp) s fun t =>
      t.flag .pwrHu 0 ∧ t.packMv = mv ∧ t.hstate = (if 4000 ≤ mv then 3 else 2) ∧ t.pack.q = 0 ∧ t.pack.phaseAt = s.now ∧ Only (fun a => a =
      Reg.PWR_HU_STAT ∨ a = Reg.GLB_GUARD ∨ FlagSrc.guard.owns 8 a ∨ a = Reg.PWR_HU_MEAS ∨ FlagSrc.pwrHu.owns 0 a) { s with pack := t.pack } t) ∧
  (∀ (mv : Nat) (tp : Option Int) (s : State),
    s.cdRun → s.hstate = 0 → 1000 ≤ mv → mv ≤ 6400 → tp.isSome → s.pack.seenAt = none →
    Completes (.packQualify mv tp) s fun t =>
      t.hstate = 0 ∧ t.pack.seenAt = some s.now ∧ t.pack.restMv = mv ∧ t.packMv = mv ∧ Only (fun a => a = Reg.PWR_HU_MEAS) { s with pack := t.pack } t) ∧
  (∀ (mv : Nat) (tp : Option Int) (s : State),
    s.cdRun → s.hstate = 0 → (mv < 1000 ∨ 6400 < mv ∨ tp = none) →
    Completes (.packQualify mv tp) s fun t =>
      t.hstate = 0 ∧ t.pack.seenAt = none ∧ t.packMv = min mv 65535 ∧ Only (fun a => a = Reg.PWR_HU_MEAS) { s with pack := t.pack } t) ∧
  (∀ (mv : Nat) (ma : Int) (tp : Option Int) (s : State),
    s.cdRun → s.hstate ≠ 0 → s.since s.pack.winAt (secs 1) →
    Completes (.packChargeWindow mv ma tp) s fun t =>
      t.pack.winAt = s.now ∧ t.packMv = min mv 65535 ∧ t.reg Reg.PWR_HU_CURR = BitVec.ofNat 32 (satS16 ma) ∧ Only (fun a => a = Reg.PWR_HU_STAT ∨ a =
      Reg.GLB_GUARD ∨ FlagSrc.guard.owns 8 a ∨ a = Reg.PWR_HU_MEAS ∨ a = Reg.PWR_HU_CURR ∨ FlagSrc.pwrHu.owns 2 a ∨ FlagSrc.pwrHu.owns 3 a ∨
      FlagSrc.pwrHu.owns 4 a) { s with pack := t.pack } t) ∧
  (∀ (mv : Nat) (ma : Int) (tp : Option Int) (x : Int) (s : State),
    s.cdRun → s.hstate ≠ 0 → s.hstate < 6 → s.since s.pack.winAt (secs 1) → tp = some x → 550 < x →
    Completes (.packChargeWindow mv ma tp) s fun t =>
      t.hstate = 6 ∧ t.fld Reg.PWR_HU_STAT Fld.PWR_HU_STAT_FAULT = 5 ∧ t.flag .pwrHu 3) ∧
  (∀ (h : Nat) (s : State),
    s.cdRun → (if s.hstate = 5 then s.pack.left else s.hstate) = h → (h = 2 ∨ h = 3) → s.since s.pack.phaseAt (secs (if h = 2 then 1800 else
    s.packFastLimit)) →
    Completes .packChargeTimeout s fun t =>
      t.hstate = 6 ∧ t.fld Reg.PWR_HU_STAT Fld.PWR_HU_STAT_FAULT = (if h = 2 then 1 else 4) ∧ t.flag .pwrHu 3 ∧ t.flag .pwrHu 5 ∧ Only (fun a => a =
      Reg.PWR_HU_STAT ∨ a = Reg.GLB_GUARD ∨ FlagSrc.guard.owns 8 a ∨ FlagSrc.pwrHu.owns 3 a ∨ FlagSrc.pwrHu.owns 5 a) { s with pack := t.pack } t) ∧
  (∀ (x : Nat) (s : State),
    s.cdRun → s.pack.coolAt = some x → s.hstate = 5 → s.since x (secs 60) → s.pack.left < 8 →
    Completes .packPauseEnd s fun t =>
      t.hstate = s.pack.left ∧ t.pack.coolAt = none ∧ Only (fun a => a = Reg.PWR_HU_STAT) { s with pack := t.pack } t) ∧
  (∀ (s : State),
    s.cdRun → s.packCharging = false → s.since s.pack.probeAt (secs 1) →
    Completes .removalProbe s fun t =>
      t.pack.probeAt = s.now ∧ Only (fun _ => False) { s with pack := t.pack } t) ∧
  (∀ (s : State),
    s.cdRun → s.hstate ≠ 0 → (s.packCharging ∨ s.now ≤ s.pack.probeAt + ms 1) →
    Completes .packRemoval s fun t =>
      t.pack.q = 0 ∧ t.hstate = 0 ∧ t.flag .pwrHu 1 ∧ Only (fun a => a = Reg.PWR_HU_STAT ∨ a = Reg.GLB_GUARD ∨ FlagSrc.guard.owns 8 a ∨
      FlagSrc.pwrHu.owns 1 a ∨ a = Reg.REC_SYSSUPP) { s with pack := t.pack } t) ∧
  (∀ (s : State),
    s.cdRun → s.hstate ≠ 0 → s.since s.pack.dayAt (secs 86400) →
    Completes .selfDischarge s fun t =>
      t.pack.dayAt = s.now ∧ t.pack.q = s.pack.q - s.packCap / 100 ∧ Only (fun a => a = Reg.PWR_HU_STAT ∨ a = Reg.GLB_GUARD ∨ FlagSrc.guard.owns 8 a)
      { s with pack := t.pack } t) ∧
  (∀ (s : State),
    s.cdRun → s.hstate = 6 → s.packMv ≤ 6400 →
    Completes .retry s fun t =>
      t.hstate = (if 4000 ≤ s.packMv then 3 else 2) ∧ t.pack.q = 0 ∧ t.fld Reg.PWR_HU_STAT Fld.PWR_HU_STAT_FAULT = 0 ∧ t.fld Reg.PWR_HU_STAT
      Fld.PWR_HU_STAT_CMDRES = rcDONE ∧ Only (fun a => a = Reg.PWR_HU_STAT ∨ a = Reg.GLB_GUARD ∨ FlagSrc.guard.owns 8 a) { s with pack := t.pack } t) ∧
  (∀ (s : State),
    s.cdRun → s.hstate ≠ 6 →
    Completes .retry s fun t =>
      t.fld Reg.PWR_HU_STAT Fld.PWR_HU_STAT_CMDRES = rcSTATE ∧ Only (fun a => a = Reg.PWR_HU_STAT) s t) ∧
  (∀ (s : State),
    s.cdRun → s.hstate = 4 →
    Completes .recharge s fun t =>
      t.hstate = 3 ∧ t.pack.phaseAt = s.now ∧ t.fld Reg.PWR_HU_STAT Fld.PWR_HU_STAT_CMDRES = rcDONE ∧ Only (fun a => a = Reg.PWR_HU_STAT)
      { s with pack := t.pack } t) ∧
  (∀ (s : State),
    s.cdRun → s.hstate ≠ 4 →
    Completes .recharge s fun t =>
      t.fld Reg.PWR_HU_STAT Fld.PWR_HU_STAT_CMDRES = rcSTATE ∧ Only (fun a => a = Reg.PWR_HU_STAT) s t)

/-- The ledger and the measurement die (R227, R230, R234, R243, R245, R246, R247, R250, R252, R253, R258). Where the manual leaves a corner open the
clauses follow the model's choice: log entries 48, 49, 89 and 90. -/
def Obligations.LedgerAndMeasurementComplete : Prop :=
  (∀ (g : Rgn) (s : State),
    s.mdRun → g.val < s.variant.regions → s.ldgOn g.val → (s.ldg g.val).endAt ≤ s.tb → (s.ldg g.val).outAt = none → (s.ldg g.val).held.length < 64 →
    ((s.ldg g.val).held.all fun h => h.close != s.tb) →
    Completes (.intervalClose g) s fun t =>
      (t.ldg g.val).ivl = (s.ldg g.val).ivl + 1 ∧ (t.ldg g.val).t1 = none ∧ (t.ldg g.val).endAt = (s.tb / 400000000 + 1) * 400000000 ∧ (t.ldg
      g.val).held.length = (s.ldg g.val).held.length + 1 ∧ ((t.ldg g.val).held.getLast?.map fun h => (h.jrec.kind, h.jrec.ivl)) = some (1, (s.ldg
      g.val).ivl) ∧ t.reg (Reg.LDG_IVL_LO g.val) = BitVec.ofNat 32 (s.ldg g.val).ivl ∧ Only (fun a => (0x2C000 + 0x800 * g.val ≤ a ∧ a < 0x2C800 + 0x800
      * g.val)) { s with ldgs := t.ldgs } t) ∧
  (∀ (g : Rgn) (x : Nat) (s : State),
    s.mdRun → g.val < s.variant.regions → s.ldgOn g.val → (s.ldg g.val).endAt ≤ s.tb → (s.ldg g.val).outAt = some x → (s.ldg g.val).held.length < 64 →
    ((s.ldg g.val).held.all fun h => h.close != s.tb) →
    Completes (.intervalClose g) s fun t =>
      (t.ldg g.val).ivl = (s.ldg g.val).ivl + 1 ∧ (t.ldg g.val).outAt = some s.tb ∧ ((t.ldg g.val).held.getLast?.map fun h => (h.jrec.kind,
      h.jrec.gapQ)) = some (7, s.outageBound g.val (s.tb - x)) ∧ Only (fun a => (0x2C000 + 0x800 * g.val ≤ a ∧ a < 0x2C800 + 0x800 * g.val))
      { s with ldgs := t.ldgs } t) ∧
  (∀ (g : Rgn) (h : HeldRec) (l : List HeldRec) (s : State),
    s.mdRun → g.val < s.variant.regions → s.ldgOn g.val → (s.ldg g.val).endAt ≤ s.tb → (s.ldg g.val).outAt = none → (s.ldg g.val).held = l ++ [h] →
    l.length = 63 → h.close ≠ s.tb → h.jrec.kind ≠ 8 →
    Completes (.intervalClose g) s fun t =>
      t.flag (.ldg g.val) 1 ∧ (t.ldg g.val).held.length = 64 ∧ ((t.ldg g.val).held.getLast?.map fun x => (x.jrec.kind, x.jrec.first, x.jrec.ivl)) = some
      (8, h.jrec.ivl, (s.ldg g.val).ivl) ∧ Only (fun a => (0x2C000 + 0x800 * g.val ≤ a ∧ a < 0x2C800 + 0x800 * g.val)) { s with ldgs := t.ldgs } t) ∧
  (∀ (g : Rgn) (h : HeldRec) (l : List HeldRec) (s : State),
    s.cdRun → g.val < s.variant.regions → (s.ldg g.val).held = h :: l → s.writable 0 → h.jrec.kind ≠ 8 →
    Completes (.journalRecordWrite g) s fun t =>
      t.journal.getLast? = some h.jrec ∧ (t.ldg g.val).held = l ∧ (t.ldg g.val).tc = h.close ∧ t.flag (.ldg g.val) 0 ∧ (h.jrec.kind = 3 → t.flag (.ldg
      g.val) 5) ∧ Only (fun a => a = Reg.LDG_STAT 0 ∨ a = Reg.LDG_STAT 1 ∨ a = Reg.REC_WEAR 0 ∨ a = Reg.GLB_GUARD ∨ FlagSrc.guard.owns 8 a ∨
      (FlagSrc.ldg g.val).owns 0 a ∨ (FlagSrc.ldg g.val).owns 5 a) { s with journal := t.journal, ldgs := t.ldgs, store := t.store } t) ∧
  (∀ (g : Rgn) (h : HeldRec) (l : List HeldRec) (s : State),
    s.cdRun → g.val < s.variant.regions → (s.ldg g.val).held = h :: l → h.counted = false → s.writable 0 = false →
    Completes (.journalRecordWrite g) s fun t =>
      (t.ldg g.val).held = { h with counted := true } :: l ∧ t.flag (.ldg g.val) 1 ∧ Only (fun a => (FlagSrc.ldg g.val).owns 1 a)
      { s with ldgs := t.ldgs } t) ∧
  (∀ (l : List Int) (s : State),
    s.mdRun → s.clockOut 4 = false → s.meas.pmStamp + 199999 ≤ s.tbFine →
    Completes (.precisionConversion l) s fun t =>
      t.meas.pmStamp = s.tbFine ∧ ∀ m : Fin 8, s.bit (Reg.MEAS_PM_CFG m.val) Fld.MEAS_PM_CFG_EN → (t.reg (Reg.MEAS_PM_LAST m.val)).toNat % 2 ^ 24 =
      unsigned 24 (satI 24 (s.pmCode m.val (l.getD m.val 0)).1)) ∧
  (∀ (p : Pair) (x y : Int) (l : List SarCode) (t0 q : Nat) (b : Bool) (s : State),
    s.mdRun → s.clockOut 2 = false → s.cmdWait = none → File.get 0 s.meas.scanAt p.val = t0 → s.meas.lowScan.contains p.val = b → s.pairP p.val t0 b =
    q → t0 + q ≤ s.tb → ((s.pairInputs p.val t0 b).all fun i => l.any fun c => c.input.val == i && Nat.ble (s.navg i t0) c.xs.length) → (s.xcCode (2 *
    p.val) x - s.xcCode (2 * p.val + 1) y).natAbs ≤ Fld.MEAS_XC_CFG_XC_TOL.get (s.measReg (Reg.MEAS_XC_CFG p.val) (t0 + ((s.tb - t0) / max q 1 - 1) *
    q)) →
    Completes (.sarScan p x y l) s fun t =>
      t.reg (Reg.MEAS_XC_CODES p.val) = BitVec.ofNat 32 (satS16 (s.xcCode (2 * p.val + 1) y) * 65536 + satS16 (s.xcCode (2 * p.val) x)) ∧ File.get 0
      t.meas.scanAt p.val = t0 + ((s.tb - t0) / max q 1 - 1) * q + q ∧ t.fld (Reg.MEAS_XC_STAT p.val) ⟨8, 8⟩ = 0) ∧
  (∀ (p : Pair) (s : State),
    s.mdRun → s.meas.faulted.contains p.val → s.usersIdle (pairSrcs p.val) →
    Completes (.pairReset p) s fun t =>
      File.get none t.meas.pairChk p.val = some (0, false) ∧ t.fld Reg.MEAS_STAT Fld.MEAS_STAT_CMDRES = rcPENDING ∧ Only (fun a => a = Reg.MEAS_STAT)
      { s with meas := t.meas } t) ∧
  (∀ (p : Pair) (s : State),
    s.mdRun → s.meas.faulted.contains p.val = false →
    Completes (.pairReset p) s fun t =>
      t.fld Reg.MEAS_STAT Fld.MEAS_STAT_CMDRES = rcSTATE ∧ t.flag .meas 7 ∧ Only (fun a => a = Reg.MEAS_STAT ∨ FlagSrc.meas.owns 7 a) s t) ∧
  (∀ (p : Pair) (m : Nat) (s : State),
    s.mdRun → File.get none s.meas.pairChk p.val = some (m, false) → 64 ≤ m →
    Completes (.pairResetCheckEnd p) s fun t =>
      t.meas.faulted.contains p.val = false ∧ File.get none t.meas.pairChk p.val = none ∧ t.fld Reg.MEAS_STAT Fld.MEAS_STAT_CMDRES = rcDONE ∧ ∀ x ∈
      pairSrcs p.val, t.invalid x = false ∧ Only (fun a => a = Reg.MEAS_STAT ∨ a = Reg.MEAS_INVAL_SAR0 ∨ a = Reg.MEAS_INVAL_SAR1)
      { s with meas := t.meas } t) ∧
  (∀ (p : Pair) (m : Nat) (s : State),
    s.mdRun → File.get none s.meas.pairChk p.val = some (m, true) → 64 ≤ m →
    Completes (.pairResetCheckEnd p) s fun t =>
      File.get none t.meas.pairChk p.val = none ∧ t.fld Reg.MEAS_STAT Fld.MEAS_STAT_CMDRES = rcCOND ∧ t.flag .meas 7 ∧ Only (fun a => a = Reg.MEAS_STAT
      ∨ FlagSrc.meas.owns 7 a) { s with meas := t.meas } t) ∧
  (∀ (i : ModIn) (x : Int) (f : Nat) (cal : Word) (s : State),
    s.mdRun → s.modOn i.val → Fld.MEAS_MOD_FSD_FSD.get (s.measReg (Reg.MEAS_MOD_FSD i.val) (s.sincBegin i.val)) = f → f ≠ 0 → s.measReg
    (Reg.MEAS_MOD_UCAL i.val) (s.sincBegin i.val) = cal →
    Completes (.sinc3Record i x) s fun t =>
      (t.reg (Reg.MEAS_MOD_LAST i.val)).toNat % 65536 = satS16 (divNear (x * 128 * (2 ^ 20 + signed 16 (cal.toNat / 65536)) + signed 16 cal.toNat * (f *
      2 ^ 20 : Nat)) (f * 2 ^ 20)) ∧ (1004 * f * 2 ^ 20 < x.natAbs * 4096000 → t.flag .meas 4)) ∧
  (∀ (i : ModIn) (x : Int) (s : State),
    s.mdRun → s.modOn i.val → Fld.MEAS_MOD_FSD_FSD.get (s.measReg (Reg.MEAS_MOD_FSD i.val) (s.sincBegin i.val)) = 0 →
    Completes (.sinc3Record i x) s fun t =>
      File.get 0 t.meas.seqs (64 + i.val) = File.get 0 s.meas.seqs (64 + i.val) + 1) ∧
  (∀ (i : ModIn) (s : State),
    s.mdRun → s.modOn i.val →
    Completes (.stuckRun i) s fun t =>
      t.flag .meas 2 ∧ t.invalid (.mod i)) ∧
  (∀ (i : ModIn) (s : State),
    s.mdRun → s.invalid (.mod i) → s.usersIdle [.mod i] →
    Completes (.inputReset i) s fun t =>
      t.meas.inChk.contains i.val ∧ t.fld Reg.MEAS_STAT Fld.MEAS_STAT_CMDRES = rcPENDING ∧ Only (fun a => a = Reg.MEAS_STAT) { s with meas := t.meas } t) ∧
  (∀ (i : ModIn) (s : State),
    s.mdRun → s.invalid (.mod i) = false →
    Completes (.inputReset i) s fun t =>
      t.fld Reg.MEAS_STAT Fld.MEAS_STAT_CMDRES = rcSTATE ∧ t.flag .meas 7 ∧ Only (fun a => a = Reg.MEAS_STAT ∨ FlagSrc.meas.owns 7 a) s t) ∧
  (∀ (i : ModIn) (s : State),
    s.mdRun → s.meas.inChk.contains i.val →
    Completes (.inputResetCheckEnd i true) s fun t =>
      t.invalid (.mod i) = false ∧ t.meas.inChk.contains i.val = false ∧ t.fld Reg.MEAS_STAT Fld.MEAS_STAT_CMDRES = rcDONE ∧ Only (fun a => a =
      Reg.MEAS_STAT ∨ a = Reg.MEAS_INVAL_MOD) { s with meas := t.meas } t) ∧
  (∀ (i : ModIn) (s : State),
    s.mdRun → s.meas.inChk.contains i.val →
    Completes (.inputResetCheckEnd i false) s fun t =>
      t.meas.inChk.contains i.val = false ∧ t.fld Reg.MEAS_STAT Fld.MEAS_STAT_CMDRES = rcCOND ∧ t.flag .meas 7 ∧ Only (fun a => a = Reg.MEAS_STAT ∨
      FlagSrc.meas.owns 7 a) { s with meas := t.meas } t) ∧
  (∀ (d : Int) (s : State),
    s.mdRun → s.since s.meas.refAt (ms 10) → d.natAbs ≤ 1000 →
    Completes (.referenceCheck d) s fun t =>
      t.bit Reg.MEAS_STAT Fld.MEAS_STAT_REFOK ∧ t.meas.refAt = s.now ∧ Only (fun a => a = Reg.MEAS_STAT) { s with meas := t.meas } t) ∧
  (∀ (d : Int) (s : State),
    s.mdRun → s.since s.meas.refAt (ms 10) → 1000 < d.natAbs →
    Completes (.referenceCheck d) s fun t =>
      t.bit Reg.MEAS_STAT Fld.MEAS_STAT_REFOK = false ∧ t.flag .meas 5 ∧ Only (fun a => a = Reg.MEAS_STAT ∨ FlagSrc.meas.owns 5 a ∨ a = Reg.REC_SYSSUPP)
      { s with meas := t.meas } t)

/-- Thermal supervision and shutdown (R263, R268, R269). Where the manual leaves a corner open the clauses follow the model's choice: log entries 50
and 98. -/
def Obligations.ThermalCompletes : Prop :=
  (∀ (r : ThermalIn) (s : State),
    s.cdRun → s.since s.thm.readAt (ms 1) →
    Completes (.thermalReading r) s fun t =>
      t.thm.readAt = s.now ∧ ∀ l ∈ s.dieLocs, t.reg (Reg.THM_SENS l) = BitVec.ofNat 32 (sensWord (dieTemp ((r.dies[l]?).getD none)) true)) ∧
  (∀ (l : Nat) (rs : List Int) (s : State),
    s.cdRun → (l < s.variant.slots ∨ 0x18 ≤ l ∧ l ≤ 0x21) →
    Completes (.hwThermalTrip l rs) s fun t =>
      t.bit Reg.THM_STAT Fld.THM_STAT_HWSD ∧ t.bit Reg.SAFE_STAT Fld.SAFE_STAT_HWSD ∧ t.thm.coolAt = none ∧ t.bit Reg.THM_STAT Fld.THM_STAT_RELEASE_PEND
      = false ∧ t.flag .thm 0 ∧ (s.bit Reg.THM_STAT Fld.THM_STAT_HWSD = false → t.fld Reg.THM_STAT Fld.THM_STAT_HWSD_LOC = l)) ∧
  (∀ (x : Nat) (s : State),
    s.cdRun → s.thm.coolAt = some x → s.bit Reg.THM_STAT Fld.THM_STAT_HWSD → s.variant ≠ .v7624 → s.since x 4000000000 →
    Completes .hwThermalRelease s fun t =>
      t.bit Reg.THM_STAT Fld.THM_STAT_HWSD = false ∧ t.bit Reg.SAFE_STAT Fld.SAFE_STAT_HWSD = false ∧ t.thm.coolAt = none ∧ t.flag .thm 1)

/-- The service-regulator controllers (R270, R271, R272, R273, R274, R275, R276). Where the manual leaves a corner open the clauses follow the model's
choice: log entries 51 and 74. -/
def Obligations.RegulatorsComplete : Prop :=
  (∀ (c : Sys2Proof.Svr) (s : State),
    s.cdRun → s.bit (Reg.SVR_CTRL c.val) Fld.SVR_CTRL_EN = false → s.dev ≠ stBOOT → s.dev ≠ stLOCKOUT → s.vioOk 3 → s.svrEnableOk c.val →
    Completes (.svrEnable c) s fun t =>
      t.bit (Reg.SVR_CTRL c.val) Fld.SVR_CTRL_EN ∧ (s.svrAllowed c.val → t.svrState c.val = svSOFTSTART ∧ t.fld (Reg.SVR_STAT c.val) Fld.SVR_STAT_NACT =
      s.svrPhases c.val) ∧ Only (fun a => a = Reg.SVR_STAT c.val ∨ a = Reg.SVR_CTRL c.val) { s with svrs := t.svrs } t) ∧
  (∀ (c : Sys2Proof.Svr) (s : State),
    s.cdRun → s.bit (Reg.SVR_CTRL c.val) Fld.SVR_CTRL_EN = false → s.dev ≠ stBOOT → s.dev ≠ stLOCKOUT → s.vioOk 3 → s.svrEnableOk c.val = false →
    Completes (.svrEnable c) s fun t =>
      t.flag (.svr c.val) 8 ∧ Only (fun a => (FlagSrc.svr c.val).owns 8 a) s t) ∧
  (∀ (c : Sys2Proof.Svr) (s : State),
    s.cdRun →
    Completes (.svrDisable c) s fun t =>
      t.bit (Reg.SVR_CTRL c.val) Fld.SVR_CTRL_EN = false ∧ t.svrState c.val = svOFF ∧ t.fld (Reg.SVR_STAT c.val) Fld.SVR_STAT_NACT = 0 ∧ t.svrEnPin
      c.val = false ∧ ∀ p : Fin 4, t.svrPwm c.val p.val = .hiZ ∧ Only (fun a => a = Reg.SVR_STAT c.val ∨ a = Reg.SVR_CTRL c.val)
      { s with svrs := t.svrs } t) ∧
  (∀ (c : Sys2Proof.Svr) (i : SvrIn) (q : Nat) (s : State),
    s.cdRun → s.svrSwitching c.val → s.since (s.svr c.val).perAt (s.svr c.val).period → ((i.imon.take (s.fld (Reg.SVR_STAT c.val)
    Fld.SVR_STAT_NACT)).map fun x => x * s.fld (Reg.SVR_ILIM c.val) Fld.SVR_ILIM_GAIN).foldl (· + ·) 0 = q →
    Completes (.svrPeriod c i) s fun t =>
      (t.svr c.val).perAt = s.now ∧ t.reg (Reg.SVR_MEAS c.val) = BitVec.ofNat 32 (min (q / 100) 65535 * 65536 + min i.vsns 4095) ∧ Only (fun a => a =
      Reg.SVR_STAT c.val ∨ a = Reg.SVR_MEAS c.val ∨ a = Reg.SVR_REFCNT c.val ∨ (FlagSrc.svr c.val).owns 0 a ∨ (FlagSrc.svr c.val).owns 1 a ∨
      (FlagSrc.svr c.val).owns 3 a) { s with svrs := t.svrs } t) ∧
  (∀ (c : Sys2Proof.Svr) (s : State),
    s.cdRun → s.svrState c.val = svHICCUP → s.since (s.svr c.val).hicAt (ms (s.fld (Reg.SVR_HICCUP c.val) Fld.SVR_HICCUP_OFF + 1)) →
    Completes (.hiccupEnd c) s fun t =>
      t.svrState c.val = svSOFTSTART ∧ t.fld (Reg.SVR_STAT c.val) Fld.SVR_STAT_NACT = s.svrPhases c.val ∧ (t.svr c.val).ssAt = s.now ∧ Only (fun a => a
      = Reg.SVR_STAT c.val) { s with svrs := t.svrs } t) ∧
  (∀ (c : Sys2Proof.Svr) (s : State),
    s.cdRun → s.svrState c.val = svSOFTSTART → s.since (s.svr c.val).ssAt (s.svrSsTicks c.val + ms 2) →
    Completes (.svrSsTimeout c) s fun t =>
      t.flag (.svr c.val) 4 ∧ (if s.fld (Reg.SVR_STAT c.val) Fld.SVR_STAT_USED < s.fld (Reg.SVR_HICCUP c.val) Fld.SVR_HICCUP_RETRIES then t.svrState
      c.val = svHICCUP ∧ t.flag (.svr c.val) 0 else t.svrState c.val = svLATCHED ∧ t.flag (.svr c.val) 1) ∧ Only (fun a => a = Reg.SVR_STAT c.val ∨
      (FlagSrc.svr c.val).owns 0 a ∨ (FlagSrc.svr c.val).owns 1 a ∨ (FlagSrc.svr c.val).owns 4 a) { s with svrs := t.svrs } t) ∧
  (∀ (c : Sys2Proof.Svr) (s : State),
    s.cdRun → s.svrState c.val = svRUN → s.since (s.svr c.val).runAt (secs 1) →
    Completes (.svrRetryReset c) s fun t =>
      t.fld (Reg.SVR_STAT c.val) Fld.SVR_STAT_USED = 0 ∧ Only (fun a => a = Reg.SVR_STAT c.val) s t) ∧
  (∀ (c : Sys2Proof.Svr) (s : State),
    s.cdRun → s.svrState c.val ≠ svOFF → s.svrState c.val ≠ svOV_LATCH →
    Completes (.svrOv c) s fun t =>
      t.svrState c.val = svOV_LATCH ∧ t.flag (.svr c.val) 2 ∧ (t.svr c.val).duty = 0 ∧ t.svrEnPin c.val ∧ ∀ p : Fin 4, t.svrPwm c.val p.val = .low ∧
      Only (fun a => a = Reg.SVR_STAT c.val ∨ (FlagSrc.svr c.val).owns 2 a) { s with svrs := t.svrs } t) ∧
  (∀ (c : Sys2Proof.Svr) (b : Bool) (s : State),
    s.cdRun → s.vioOk 3 →
    Completes (.svrFltN c b) s fun t =>
      (t.svr c.val).fltLow = b ∧ (t.svr c.val).fltAt = s.now ∧ (b → s.svrSwitching c.val → t.bit (Reg.SVR_STAT c.val) Fld.SVR_STAT_BSTHOLD) ∧ Only (fun
      a => a = Reg.SVR_STAT c.val ∨ (FlagSrc.svr c.val).owns 3 a) { s with svrs := t.svrs } t) ∧
  (∀ (c : Sys2Proof.Svr) (q f : Nat) (s : State),
    s.cdRun → s.vioOk 3 → bitOf s.power.clkLost 13 = false → s.bit (Reg.SVR_CTRL c.val) Fld.SVR_CTRL_SYNC_EN → 200 ≤ q → q ≤ 2000 → s.fld (Reg.SVR_FSW
    c.val) Fld.SVR_FSW_FSW = f → 80 * f * q ≤ 40000000 → 40000000 ≤ 120 * f * q →
    Completes (.svrSyncLock c q) s fun t =>
      t.bit (Reg.SVR_STAT c.val) Fld.SVR_STAT_SYNCED ∧ (t.svr c.val).syncT = q ∧ Only (fun a => a = Reg.SVR_STAT c.val) { s with svrs := t.svrs } t) ∧
  (∀ (c : Sys2Proof.Svr) (s : State),
    s.cdRun → s.bit (Reg.SVR_STAT c.val) Fld.SVR_STAT_SYNCED →
    Completes (.svrSyncLoss c) s fun t =>
      t.bit (Reg.SVR_STAT c.val) Fld.SVR_STAT_SYNCED = false ∧ t.flag (.svr c.val) 7 ∧ (t.svr c.val).syncT = 0 ∧ Only (fun a => a = Reg.SVR_STAT c.val ∨
      (FlagSrc.svr c.val).owns 7 a) { s with svrs := t.svrs } t) ∧
  (∀ (c : Sys2Proof.Svr) (x m : Nat) (s : State),
    s.cdRun → s.svrState c.val = svRUN → (s.svr c.val).dropAt = some x → s.since x (ms (s.fld (Reg.SVR_SHED1 c.val) Fld.SVR_SHED1_DWELL)) → s.fld
    (Reg.SVR_STAT c.val) Fld.SVR_STAT_NACT = m →
    Completes (.svrShedDecision c) s fun t =>
      t.fld (Reg.SVR_STAT c.val) Fld.SVR_STAT_NACT = m - 1 ∧ t.flag (.svr c.val) 5 ∧ (t.svr c.val).dropAt = none ∧ (t.svr c.val).addAt = none ∧ Only
      (fun a => a = Reg.SVR_STAT c.val ∨ (FlagSrc.svr c.val).owns 5 a) { s with svrs := t.svrs } t) ∧
  (∀ (c : Sys2Proof.Svr) (x m : Nat) (s : State),
    s.cdRun → s.svrState c.val = svRUN → (s.svr c.val).dropAt = none → (s.svr c.val).addAt = some x → s.since x (ms (s.fld (Reg.SVR_SHED1 c.val)
    Fld.SVR_SHED1_DWELL)) → s.fld (Reg.SVR_STAT c.val) Fld.SVR_STAT_NACT = m → m < 4 →
    Completes (.svrShedDecision c) s fun t =>
      t.fld (Reg.SVR_STAT c.val) Fld.SVR_STAT_NACT = m + 1 ∧ t.flag (.svr c.val) 6 ∧ (t.svr c.val).dropAt = none ∧ (t.svr c.val).addAt = none ∧ Only
      (fun a => a = Reg.SVR_STAT c.val ∨ (FlagSrc.svr c.val).owns 6 a) { s with svrs := t.svrs } t)

/-- The auxiliary drives and feedback interfaces (R282, R283, R284, R285, R286, R287, R289, R292, R297). Where the manual leaves a corner open the
clauses follow the model's choice: log entries 52 and 53. -/
def Obligations.DrivesAndFeedbackComplete : Prop :=
  (∀ (i : AuxD) (s : State),
    s.cdRun → s.bit (Reg.AUXD_CTRL i.val) Fld.AUXD_CTRL_EN = false → s.dev ≠ stBOOT → s.dev ≠ stLOCKOUT → s.vioOk 5 → s.auxEnableOk i.val →
    Completes (.auxdEnable i) s fun t =>
      t.bit (Reg.AUXD_CTRL i.val) Fld.AUXD_CTRL_EN ∧ (s.auxAllowed i.val → s.auxState i.val = axOFF → t.auxState i.val = if s.vmInside i.val then axRUN
      else axVMHOLD) ∧ Only (fun a => a = Reg.AUXD_STAT i.val ∨ a = Reg.AUXD_CTRL i.val) { s with auxs := t.auxs } t) ∧
  (∀ (i : AuxD) (s : State),
    s.cdRun → s.bit (Reg.AUXD_CTRL i.val) Fld.AUXD_CTRL_EN = false → s.dev ≠ stBOOT → s.dev ≠ stLOCKOUT → s.vioOk 5 → s.auxEnableOk i.val = false →
    Completes (.auxdEnable i) s fun t =>
      t.flag (.auxd i.val) 5 ∧ Only (fun a => (FlagSrc.auxd i.val).owns 5 a) s t) ∧
  (∀ (i : AuxD) (s : State),
    s.cdRun →
    Completes (.auxdDisable i) s fun t =>
      t.bit (Reg.AUXD_CTRL i.val) Fld.AUXD_CTRL_EN = false ∧ (t.aux i.val).stop = (s.auxState i.val != axOFF) ∧ (t.aux i.val).stopAt = s.tb ∧ Only (fun
      a => a = Reg.AUXD_CTRL i.val) { s with auxs := t.auxs } t) ∧
  (∀ (i : AuxD) (v : Word) (s : State),
    s.cdRun →
    Completes (.auxdDutywWrite i v) s fun t =>
      t.reg (Reg.AUXD_DUTYW i.val) = BitVec.ofNat 32 (v.toNat % 65536) ∧ (t.aux i.val).shadow = (s.aux i.val).shadow ++ [(s.tb, [Fld.AUXD_DUTYUV_DU.get
      (s.reg (Reg.AUXD_DUTYUV i.val)), Fld.AUXD_DUTYUV_DV.get (s.reg (Reg.AUXD_DUTYUV i.val)), v.toNat % 65536])] ∧ (t.aux i.val).ready = (s.aux
      i.val).ready ++ [s.tb] ∧ Only (fun a => a = Reg.AUXD_DUTYW i.val) { s with auxs := t.auxs } t) ∧
  (∀ (i : AuxD) (z : Nat) (s : State),
    s.cdRun → s.tb / max (2 * s.fld (Reg.AUXD_PWM i.val) Fld.AUXD_PWM_PT) 1 * max (2 * s.fld (Reg.AUXD_PWM i.val) Fld.AUXD_PWM_PT) 1 = z → (s.aux
    i.val).zero ≠ some z →
    Completes (.auxdCarrierZero i) s fun t =>
      (t.aux i.val).zero = some z ∧ (t.aux i.val).duties = (if (s.aux i.val).ready.any fun x => Nat.ble (x + 16) z then (((s.aux i.val).shadow.filter
      fun p => Nat.ble (p.1 + 16) z).getLast?.map (·.2)).getD (s.aux i.val).duties else (s.aux i.val).duties) ∧ t.bit (Reg.AUXD_STAT i.val)
      Fld.AUXD_STAT_LIMITED = (s.aux i.val).limNow ∧ ((s.aux i.val).stop → (s.aux i.val).stopAt < z → t.auxState i.val = axOFF) ∧ Only (fun a => a =
      Reg.AUXD_STAT i.val ∨ a = Reg.AUXD_BSTCNT i.val) { s with auxs := t.auxs } t) ∧
  (∀ (i : AuxD) (h : Fin 8) (s : State),
    s.cdRun → s.vioOk 5 →
    Completes (.hallChange i h) s fun t =>
      t.fld (Reg.AUXD_STAT i.val) Fld.AUXD_STAT_HALL = h.val ∧ (s.auxState i.val ≠ axRUN → (t.aux i.val).pat = none) ∧ Only (fun a => a = Reg.AUXD_STAT
      i.val) { s with auxs := t.auxs } t) ∧
  (∀ (i : AuxD) (s : State),
    s.cdRun → s.auxState i.val = axRUN →
    Completes (.auxdIlim i) s fun t =>
      (t.aux i.val).limNow ∧ (t.aux i.val).limAt = s.tb ∧ t.flag (.auxd i.val) 0 ∧ Only (fun a => (FlagSrc.auxd i.val).owns 0 a)
      { s with auxs := t.auxs } t) ∧
  (∀ (i : AuxD) (s : State),
    s.cdRun → s.auxState i.val = axRUN →
    Completes (.auxdTrip i) s fun t =>
      t.auxState i.val = axFAULT ∧ (t.aux i.val).pat = none ∧ t.flag (.auxd i.val) 1 ∧ ∀ p : Fin 3, t.auxOut i.val p.val = (false, false) ∧ Only (fun a
      => a = Reg.AUXD_STAT i.val ∨ (FlagSrc.auxd i.val).owns 1 a) { s with auxs := t.auxs } t) ∧
  (∀ (i : AuxD) (p : Fin 3) (s : State),
    s.cdRun → s.auxState i.val = axRUN → s.bit (Reg.AUXD_STAT i.val) (bstBit p.val) = false →
    Completes (.auxdBstuv i p) s fun t =>
      t.bit (Reg.AUXD_STAT i.val) (bstBit p.val) ∧ t.flag (.auxd i.val) 4 ∧ t.auxOut i.val p.val = (false, true) ∧ Only (fun a => a = Reg.AUXD_STAT
      i.val ∨ a = Reg.AUXD_BSTCNT i.val ∨ (FlagSrc.auxd i.val).owns 4 a) { s with auxs := t.auxs } t) ∧
  (∀ (i : AuxD) (p : Fin 3) (s : State),
    s.cdRun → s.bit (Reg.AUXD_STAT i.val) (bstBit p.val) → s.since ((s.aux i.val).bstAt.getD p.val 0) (2 * s.fld (Reg.AUXD_PWM i.val) Fld.AUXD_PWM_PT)
    →
    Completes (.auxdBstuvEnd i p) s fun t =>
      t.bit (Reg.AUXD_STAT i.val) (bstBit p.val) = false ∧ Only (fun a => a = Reg.AUXD_STAT i.val) s t) ∧
  (∀ (i : AuxD) (v : Nat) (b : Bool) (s : State),
    s.cdRun → (Nat.blt v (100 * s.fld (Reg.AUXD_VM i.val) Fld.AUXD_VM_VM_UV) || Nat.blt (100 * s.fld (Reg.AUXD_VM i.val) Fld.AUXD_VM_VM_OV) v) = b →
    Completes (.vmSample i v) s fun t =>
      t.fld (Reg.AUXD_MEAS i.val) Fld.AUXD_MEAS_VM = min v 65535 ∧ t.auxState i.val = (if b ∧ s.auxState i.val = axRUN then axVMHOLD else s.auxState
      i.val) ∧ (t.aux i.val).vmAt.isSome = !b ∧ Only (fun a => a = Reg.AUXD_STAT i.val ∨ a = Reg.AUXD_MEAS i.val ∨ (FlagSrc.auxd i.val).owns 2 a ∨
      (FlagSrc.auxd i.val).owns 3 a) { s with auxs := t.auxs, draws := t.draws } t) ∧
  (∀ (i : AuxD) (x : Nat) (s : State),
    s.cdRun → s.auxState i.val = axVMHOLD → (s.aux i.val).vmAt = some x → s.since x (ms 10) →
    Completes (.vmholdEnd i) s fun t =>
      t.auxState i.val = axRUN ∧ Only (fun a => a = Reg.AUXD_STAT i.val) { s with auxs := t.auxs } t) ∧
  (∀ (i : FbI) (e : FbIn) (d : Int) (u v w : Bool) (s : State),
    s.cdRun → s.vioOk 5 → s.reg (Reg.FB_STEP i.val) = 0 → s.fld (Reg.FB_CFG i.val) Fld.FB_CFG_KIND = 1 → (s.fb i.val).lines = [u, v, w] → (if s.bit
    (Reg.FB_CFG i.val) Fld.FB_CFG_DIRINV then -quadStep u v e.a e.b else quadStep u v e.a e.b) = d →
    Completes (.fbEdge i e) s fun t =>
      (t.fb i.val).lines = [e.a, e.b, e.z] ∧ t.reg (Reg.FB_POS i.val) = BitVec.ofNat 32 (unsigned 32 ((s.reg (Reg.FB_POS i.val)).toNat + d)) ∧ Only (fun
      a => a ∈ [Reg.FB_POS i.val, Reg.FB_STAT i.val, Reg.FB_ZPOS i.val, Reg.FB_ZTIME i.val] ∨ (FlagSrc.fb i.val).owns 0 a ∨ (FlagSrc.fb i.val).owns 1 a)
      { s with fbs := t.fbs } t) ∧
  (∀ (i : FbI) (s : State),
    s.cdRun → s.fld (Reg.FB_CFG i.val) Fld.FB_CFG_KIND ≠ 0 → s.since (s.fb i.val).obsAt 4000 →
    Completes (.observerUpdate i) s fun t =>
      (t.fb i.val).obsAt = s.now ∧ t.reg (Reg.FB_OPOS i.val) = BitVec.ofNat 32 ((t.fb i.val).opos.toNat / 2 ^ 32) ∧ Only (fun a => a ∈ [Reg.FB_OPOS
      i.val, Reg.FB_SPEED i.val, Reg.FB_ACC i.val]) { s with fbs := t.fbs } t) ∧
  (∀ (i : FbI) (v : Word) (s : State),
    s.cdRun → s.locked = false → s.fld (Reg.FB_CFG i.val) Fld.FB_CFG_KIND = 0 → (Fld.FB_CFG_KIND.get v = 1 ∨ Fld.FB_CFG_KIND.get v = 2) →
    Completes (.fbCfgWrite i v) s fun t =>
      t.reg (Reg.FB_CFG i.val) = v &&& 0x70017 ∧ t.reg (Reg.FB_POS i.val) = 0 ∧ t.reg (Reg.FB_OPOS i.val) = 0 ∧ (t.fb i.val).dir = none ∧ (t.fb
      i.val).obsAt = s.now ∧ Only (fun a => a ∈ [Reg.FB_CFG i.val, Reg.FB_POS i.val, Reg.FB_CMPCNT i.val, Reg.FB_OPOS i.val, Reg.FB_SPEED i.val,
      Reg.FB_ACC i.val]) { s with fbs := t.fbs } t) ∧
  (∀ (i : FbI) (v : Word) (s : State),
    s.cdRun → s.locked = false → Fld.FB_CFG_KIND.get v = 0 →
    Completes (.fbCfgWrite i v) s fun t =>
      t.reg (Reg.FB_CFG i.val) = v &&& 0x70017 ∧ Only (fun a => a = Reg.FB_CFG i.val) s t)

/-- Triplets and fences (R300, R301, R303, R304, R305). Where the manual leaves a corner open the clauses follow the model's choice: log entries 54
and 55. -/
def Obligations.TripletsComplete : Prop :=
  (∀ (i : Trip) (c : Fin 3) (x : TripTx) (s : State),
    s.cdRun → (s.trip i.val).runs → (s.trip i.val).halted = false → (s.trip i.val).stores = [] → bitOf (s.fld (Reg.TRP_STAT i.val)
    Fld.TRP_STAT_RETIRED) c.val = false → (x.epoch ≠ s.trpEpoch i.val ∨ bitOf (s.trpOut i.val) c.val) →
    Completes (.transactionPresent i c x) s fun t =>
      t.reg (Reg.TRP_STALECNT i.val) = BitVec.ofNat 32 (min ((s.reg (Reg.TRP_STALECNT i.val)).toNat + 1) 0xFFFFFFFF) ∧ t.flag (.trp i.val) 7 ∧ Only (fun
      a => a = Reg.TRP_STALECNT i.val ∨ (FlagSrc.trp i.val).owns 7 a) s t) ∧
  (∀ (i : Trip) (c : Fin 3) (x : TripTx) (s : State),
    s.cdRun → (s.trip i.val).runs → (s.trip i.val).halted = false → (s.trip i.val).stores = [] → s.trpOut i.val = 0 → s.bit (Reg.TRP_STAT i.val)
    Fld.TRP_STAT_SPLIT = false → x.epoch = s.trpEpoch i.val → (s.trip i.val).present = [] → (s.trip i.val).rel ≤ x.index → x.index = (s.trip
    i.val).last.getD c.val 0 → (s.trip i.val).rel < 64 →
    Completes (.transactionPresent i c x) s fun t =>
      (t.trip i.val).present = [(c.val, x)] ∧ (t.trip i.val).rel = (s.trip i.val).rel ∧ Only (fun a => a = Reg.TRP_STAT i.val) s t) ∧
  (∀ (i : Trip) (c d : Fin 3) (x : TripTx) (s : State),
    s.cdRun → (s.trip i.val).runs → (s.trip i.val).halted = false → (s.trip i.val).stores = [] → s.trpOut i.val = 0 → s.bit (Reg.TRP_STAT i.val)
    Fld.TRP_STAT_SPLIT = false → x.epoch = s.trpEpoch i.val → c ≠ d → (s.trip i.val).present = [(d.val, x)] → x.index = (s.trip i.val).rel → x.index =
    (s.trip i.val).last.getD c.val 0 → (s.trip i.val).rel < 60 → x.sig = false → x.fields.kind ≠ 1 → x.fields.kind ≠ 2 →
    Completes (.transactionPresent i c x) s fun t =>
      (t.trip i.val).rel = (s.trip i.val).rel + 1 ∧ (t.trip i.val).present = [] ∧ t.reg (Reg.TRP_RELCNT_LO i.val) = s.reg (Reg.TRP_RELCNT_LO i.val) + 1
      ∧ Only (fun a => a ∈ [Reg.TRP_STAT i.val, Reg.TRP_RELCNT_LO i.val, Reg.TRP_RELCNT_HI i.val]) s t) ∧
  (∀ (i : Trip) (c : Fin 3) (x : TripTx) (s : State),
    s.cdRun → (s.trip i.val).runs → (s.trip i.val).halted = false → (s.trip i.val).stores = [] → bitOf (s.trpOut i.val) c.val = false → s.bit
    (Reg.TRP_STAT i.val) Fld.TRP_STAT_SPLIT → x.epoch = s.trpEpoch i.val → x.sig →
    Completes (.transactionPresent i c x) s fun t =>
      (t.trip i.val).rel = (s.trip i.val).rel ∧ (t.trip i.val).stores = [] ∧ t.reg (Reg.TRP_RELCNT_LO i.val) = s.reg (Reg.TRP_RELCNT_LO i.val) + 1 ∧
      Only (fun a => a ∈ [Reg.TRP_RELCNT_LO i.val, Reg.TRP_RELCNT_HI i.val]) s t) ∧
  (∀ (i : Trip) (c : Fin 3) (x : TripTx) (s : State),
    s.cdRun → (s.trip i.val).halted →
    Completes (.transactionPresent i c x) s fun t =>
      t.trips = s.trips ∧ Only (fun _ => False) s t) ∧
  (∀ (i : Trip) (c : Fin 3) (s : State),
    s.cdRun → s.trpOut i.val = 0 → ((s.trip i.val).fences.filter fun f => f.1 == c.val && Nat.blt s.now (f.2 + 3600 * 1000 * ms 1)).length < s.fld
    (Reg.TRP_CFG i.val) Fld.TRP_CFG_RESYNC_LIM → (s.trip i.val).diffAt = none → ((s.trip i.val).waits.any fun w => w.lagging.contains c.val && s.since
    w.time (s.fld (Reg.TRP_CFG i.val) Fld.TRP_CFG_LAG_TO)) →
    Completes (.lagTimeout i c) s fun t =>
      bitOf (t.fld (Reg.TRP_STAT i.val) Fld.TRP_STAT_FENCED) c.val ∧ t.trpMode i.val = 1 ∧ t.fld (Reg.TRP_STAT i.val) Fld.TRP_STAT_RSSTEP = 1 ∧
      t.trpEpoch i.val = (s.trpEpoch i.val + 1) % 65536 ∧ (t.reg (Reg.TRP_LASTFENCE i.val)).toNat % 65536 = 2 * 16 + c.val ∧ t.flag (.trp i.val) 1 ∧
      Only (fun a => a = Reg.TRP_STAT i.val ∨ a = Reg.TRP_EPOCH i.val ∨ a = Reg.TRP_LASTFENCE i.val ∨ (FlagSrc.trp i.val).owns 5 a ∨ (FlagSrc.trp
      i.val).owns 1 a) s t) ∧
  (∀ (i : Trip) (m : Nat) (s : State),
    s.cdRun → s.events = [] →
    Completes (.asyncInput i m) s fun t =>
      (t.trip i.val).inputs = (s.trip i.val).inputs ++ [((s.trip i.val).icount.foldl max 0 + 256, m)] ∧ Only (fun _ => False) s t) ∧
  (∀ (i : Trip) (c : Fin 3) (s : State),
    s.cdRun → s.trpOut i.val = 0 → ((s.trip i.val).fences.filter fun f => f.1 == c.val && Nat.blt s.now (f.2 + 3600 * 1000 * ms 1)).length < s.fld
    (Reg.TRP_CFG i.val) Fld.TRP_CFG_RESYNC_LIM →
    Completes (.copyMemerr i c false) s fun t =>
      bitOf (t.fld (Reg.TRP_STAT i.val) Fld.TRP_STAT_FENCED) c.val ∧ t.trpMode i.val = 1 ∧ t.fld (Reg.TRP_STAT i.val) Fld.TRP_STAT_RSSTEP = 1 ∧
      t.trpEpoch i.val = (s.trpEpoch i.val + 1) % 65536 ∧ (t.reg (Reg.TRP_LASTFENCE i.val)).toNat % 65536 = 4 * 16 + c.val ∧ t.flag (.trp i.val) 3 ∧
      Only (fun a => a = Reg.TRP_STAT i.val ∨ a = Reg.TRP_EPOCH i.val ∨ a = Reg.TRP_LASTFENCE i.val ∨ (FlagSrc.trp i.val).owns 5 a ∨ (FlagSrc.trp
      i.val).owns 3 a) s t) ∧
  (∀ (i : Trip) (c : Fin 3) (s : State),
    s.cdRun → bitOf (s.fld (Reg.TRP_STAT i.val) Fld.TRP_STAT_RETIRED) c.val = false →
    Completes (.copyMemerr i c true) s fun t =>
      t.flag (.trp i.val) 10 ∧ t.fld (Reg.TRP_STAT i.val) Fld.TRP_STAT_FENCED = s.fld (Reg.TRP_STAT i.val) Fld.TRP_STAT_FENCED ∧ Only (fun a =>
      (FlagSrc.trp i.val).owns 10 a) s t) ∧
  (∀ (i : Trip) (s : State),
    s.cdRun → (s.fld (Reg.TRP_STAT i.val) Fld.TRP_STAT_RSSTEP = 1 ∨ s.fld (Reg.TRP_STAT i.val) Fld.TRP_STAT_RSSTEP = 2 ∨ s.fld (Reg.TRP_STAT i.val)
    Fld.TRP_STAT_RSSTEP = 3) →
    Completes (.bulkCopyDone i) s fun t =>
      t.fld (Reg.TRP_STAT i.val) Fld.TRP_STAT_RSSTEP = 4 ∧ Only (fun a => a = Reg.TRP_STAT i.val) s t) ∧
  (∀ (i : Trip) (s : State),
    s.cdRun → (s.fld (Reg.TRP_STAT i.val) Fld.TRP_STAT_RSSTEP = 4 ∨ s.fld (Reg.TRP_STAT i.val) Fld.TRP_STAT_RSSTEP = 5) →
    Completes (.resyncPauseEnd i) s fun t =>
      t.fld (Reg.TRP_STAT i.val) Fld.TRP_STAT_FENCED = 0 ∧ t.fld (Reg.TRP_STAT i.val) Fld.TRP_STAT_RSSTEP = 0 ∧ t.trpMode i.val = (if s.fld
      (Reg.TRP_STAT i.val) Fld.TRP_STAT_RETIRED = 0 then 0 else 2) ∧ t.bit (Reg.TRP_STAT i.val) Fld.TRP_STAT_SPLIT = false ∧ (t.trip i.val).rel = 0 ∧
      t.flag (.trp i.val) 4 ∧ Only (fun a => a = Reg.TRP_STAT i.val ∨ a = Reg.TRP_LASTFENCE i.val ∨ a = Reg.DBG_STAT ∨ (FlagSrc.trp i.val).owns 4 a) s t) ∧
  (∀ (i : Trip) (c : Fin 4) (s : State),
    s.cdRun → s.dev = stSTANDBY → s.trpMode i.val = 0 → c.val < 3 → s.trpOut i.val = 0 → ((s.trip i.val).fences.filter fun f => f.1 == c.val &&
    Nat.blt s.now (f.2 + 3600 * 1000 * ms 1)).length < s.fld (Reg.TRP_CFG i.val) Fld.TRP_CFG_RESYNC_LIM →
    Completes (.fenceTest i c) s fun t =>
      bitOf (t.fld (Reg.TRP_STAT i.val) Fld.TRP_STAT_FENCED) c.val ∧ t.trpMode i.val = 1 ∧ t.fld (Reg.TRP_STAT i.val) Fld.TRP_STAT_RSSTEP = 1 ∧
      t.trpEpoch i.val = (s.trpEpoch i.val + 1) % 65536 ∧ (t.reg (Reg.TRP_LASTFENCE i.val)).toNat % 65536 = 5 * 16 + c.val ∧ Only (fun a => a =
      Reg.TRP_STAT i.val ∨ a = Reg.TRP_EPOCH i.val ∨ a = Reg.TRP_LASTFENCE i.val ∨ (FlagSrc.trp i.val).owns 5 a) s t)

/-- The debug port and uncorrectable DRAM errors (R28, R307, R309, R310, R312, R313, R315). Where the manual leaves a corner open the clauses follow
the model's choice: log entries 55 and 95. -/
def Obligations.DebugCompletes : Prop :=
  (∀ (i : Trip) (c : Fin 3) (s : State),
    s.cdRun → s.commissioning → bitOf (s.trpOut i.val) c.val = false → s.bit (Reg.TRP_STAT i.val) Fld.TRP_STAT_SPLIT = false →
    Completes (.haltRequest i c) s fun t =>
      t.bit (Reg.TRP_STAT i.val) Fld.TRP_STAT_SPLIT ∧ t.trpMode i.val = 3 ∧ t.fld (Reg.TRP_STAT i.val) Fld.TRP_STAT_DBGCOPY = c.val ∧ t.trpEpoch i.val =
      (s.trpEpoch i.val + 1) % 65536 ∧ (t.trip i.val).halted ∧ t.flag (.trp i.val) 8 ∧ t.flag .dbg 0) ∧
  (∀ (i : Trip) (c : Fin 3) (s : State),
    s.cdRun → (s.commissioning = false ∨ bitOf (s.trpOut i.val) c.val) →
    Completes (.haltRequest i c) s fun t =>
      t.flag .dbg 1 ∧ Only (fun a => FlagSrc.dbg.owns 1 a) s t) ∧
  (∀ (i : Trip) (s : State),
    s.cdRun → s.commissioning →
    Completes (.debugRequest (.resume i)) s fun t =>
      (t.trip i.val).halted = false ∧ Only (fun _ => False) s t) ∧
  (∀ (i : Trip) (m : Nat) (s : State),
    s.cdRun → s.commissioning →
    Completes (.debugRequest (.setBreak i m)) s fun t =>
      (t.trip i.val).breaks = (s.trip i.val).breaks ++ [m] ∧ Only (fun _ => False) s t) ∧
  (∀ (i : Trip) (m : Nat) (s : State),
    s.cdRun → s.commissioning →
    Completes (.debugRequest (.clearBreak i m)) s fun t =>
      (t.trip i.val).breaks = (s.trip i.val).breaks.filter (· != m) ∧ Only (fun _ => False) s t) ∧
  (∀ (i : Trip) (s : State),
    s.cdRun → s.commissioning →
    Completes (.debugRequest (.inspect i)) s fun t =>
      Only (fun _ => False) s t) ∧
  (∀ (r : DbgReq) (s : State),
    s.cdRun → s.commissioning = false →
    Completes (.debugRequest r) s fun t =>
      t.flag .dbg 1 ∧ Only (fun a => FlagSrc.dbg.owns 1 a) s t) ∧
  (∀ (s : State),
    s.cdRun → s.dev = stSTANDBY → s.commissioning → (∀ n ∈ s.assigned, (s.reg (Reg.DBG_TRIP n)).toNat % 65536 ≠ 0) →
    Completes .endbg s fun t =>
      t.endbg ∧ t.fld Reg.DBG_STAT Fld.DBG_STAT_CMDRES = rcDONE) ∧
  (∀ (s : State),
    s.cdRun → s.dev ≠ stSTANDBY →
    Completes .endbg s fun t =>
      t.fld Reg.DBG_STAT Fld.DBG_STAT_CMDRES = rcSTATE ∧ t.flag .dbg 2 ∧ Only (fun a => a = Reg.DBG_STAT ∨ FlagSrc.dbg.owns 2 a) s t) ∧
  (∀ (s : State),
    s.cdRun → s.endbg →
    Completes .exdbg s fun t =>
      t.endbg = false ∧ t.fld Reg.DBG_STAT Fld.DBG_STAT_CMDRES = rcDONE) ∧
  (∀ (s : State),
    s.cdRun → s.endbg = false →
    Completes .exdbg s fun t =>
      t.fld Reg.DBG_STAT Fld.DBG_STAT_CMDRES = rcSTATE ∧ t.flag .dbg 2 ∧ Only (fun a => a = Reg.DBG_STAT ∨ FlagSrc.dbg.owns 2 a) s t) ∧
  (∀ (i : Trip) (s : State),
    s.cdRun → s.bit (Reg.TRP_STAT i.val) Fld.TRP_STAT_SPLIT → s.trpMode i.val = 3 → (s.trip i.val).halted = false →
    Completes (.rejoinDbg i) s fun t =>
      t.trpMode i.val = 1 ∧ t.fld (Reg.TRP_STAT i.val) Fld.TRP_STAT_RSSTEP = 1 ∧ (t.trip i.val).rsAt = s.now ∧ t.fld Reg.DBG_STAT Fld.DBG_STAT_CMDRES =
      rcDONE ∧ Only (fun a => a = Reg.TRP_STAT i.val ∨ a = Reg.DBG_STAT) s t) ∧
  (∀ (s : State),
    s.cdRun →
    Completes (.dramUncorrectable .bar4) s fun t =>
      t.cpl = some { poisoned := true } ∧ Only (fun _ => False) { s with cpl := t.cpl } t) ∧
  (∀ (c : Fin 4) (s : State),
    s.cdRun →
    Completes (.dramUncorrectable (.capture c)) s fun t =>
      t.bad = s.bad ++ [.capture c] ∧ Only (fun _ => False) { s with bad := t.bad } t) ∧
  (∀ (s : State),
    s.cdRun →
    Completes (.dramUncorrectable .waveform) s fun t =>
      t.bad = s.bad ++ [.waveform] ∧ Only (fun _ => False) { s with bad := t.bad } t) ∧
  (∀ (i : Trip) (c : Fin 3) (s : State),
    s.cdRun → s.trpOut i.val = 0 → ((s.trip i.val).fences.filter fun f => f.1 == c.val && Nat.blt s.now (f.2 + 3600 * 1000 * ms 1)).length < s.fld
    (Reg.TRP_CFG i.val) Fld.TRP_CFG_RESYNC_LIM →
    Completes (.dramUncorrectable (.copy i c)) s fun t =>
      bitOf (t.fld (Reg.TRP_STAT i.val) Fld.TRP_STAT_FENCED) c.val ∧ t.trpMode i.val = 1 ∧ t.fld (Reg.TRP_STAT i.val) Fld.TRP_STAT_RSSTEP = 1 ∧
      t.trpEpoch i.val = (s.trpEpoch i.val + 1) % 65536 ∧ (t.reg (Reg.TRP_LASTFENCE i.val)).toNat % 65536 = 4 * 16 + c.val ∧ t.flag (.trp i.val) 3 ∧
      Only (fun a => a = Reg.TRP_STAT i.val ∨ a = Reg.TRP_EPOCH i.val ∨ a = Reg.TRP_LASTFENCE i.val ∨ (FlagSrc.trp i.val).owns 5 a ∨ (FlagSrc.trp
      i.val).owns 3 a) s t) ∧
  (∀ (i : Trip) (s : State),
    s.cdRun →
    Completes (.dramUncorrectable (.triplet i)) s fun t =>
      (t.trip i.val).inputs.length = (s.trip i.val).inputs.length + 1 ∧ Only (fun _ => False) s t)

/-- Ringmaster: votes, supervision and link limits (R318, R319, R324, R325, R326, R333). Where the manual leaves a corner open the clauses follow the
model's choice: log entries 56, 57 and 92. -/
def Obligations.RingmasterVotesComplete : Prop :=
  (∀ (d : RmVotes) (x y : Nat) (s : State),
    s.rmRun → s.coresIn = [0, 1, 2] → (∀ c : Fin 3, d.lines.getD c.val 0 % 2 ^ 24 = x ∧ d.outs.getD c.val 0 % 2 ^ 8 = y) →
    Completes (.rmDecision d) s fun t =>
      t.reg Reg.SAFE_LINES = BitVec.ofNat 32 (s.linesAllowed &&& x) ∧ t.fld Reg.SAFE_SO Fld.SAFE_SO_ON = s.outputsAllowed &&& y ∧ t.rm.differ = [0, 0,
      0] ∧ Only (fun a => a = Reg.SAFE_LINES ∨ a = Reg.SAFE_STAT ∨ a = Reg.SAFE_SO) { s with drvs := t.drvs, rm := t.rm } t) ∧
  (∀ (d : RmVotes) (c : Fin 3) (s : State),
    s.rmRun → s.coresIn = [0, 1, 2] → oddOne (fun i => (d.lines.getD i 0 % 2 ^ 24, d.outs.getD i 0 % 2 ^ 8)) c.val → 1 ≤ s.rm.differ.getD c.val 0 →
    s.rm.differ.length = 3 →
    Completes (.rmDecision d) s fun t =>
      (t.rm.outAt.any fun p => p.1 == c.val) ∧ t.flag .safe 11 ∧ bitOf (t.fld Reg.SAFE_STAT Fld.SAFE_STAT_CORES) c.val = false) ∧
  (∀ (c : Fin 3) (b m : Bool) (s : State),
    s.rmRun → (s.rm.outAt.any fun p => p.1 == c.val) → (s.rm.outAt.any fun p => p.1 == c.val && !s.since p.2 (ms 25 + 1)) = m →
    Completes (.coreRejoin c b) s fun t =>
      (t.rm.outAt.any fun p => p.1 == c.val) = false ∧ t.rm.dead = (if b ∧ m then s.rm.dead else putBit s.rm.dead c.val true) ∧ t.rm.differ = [0, 0, 0]
      ∧ t.fld Reg.SAFE_STAT Fld.SAFE_STAT_CORES = 7 - t.coresOut % 8 ∧ Only (fun a => a = Reg.SAFE_STAT) { s with rm := t.rm } t) ∧
  (∀ (c : Fin 3) (s : State),
    s.rmRun → (s.rm.outAt.any fun p => p.1 == c.val && s.since p.2 (ms 25)) →
    Completes (.coreRejoinTimeout c) s fun t =>
      (t.rm.outAt.any fun p => p.1 == c.val) = false ∧ t.rm.dead = putBit s.rm.dead c.val true ∧ Only (fun a => a = Reg.SAFE_STAT) { s with rm := t.rm }
      t) ∧
  (∀ (s : State),
    s.cdRun → s.rmRun →
    Completes .aliveWord s fun t =>
      t.rm.aliveAt = s.now ∧ t.rm.causes &&& dmALIVE = 0 ∧ Only (fun _ => False) { s with rm := t.rm } t) ∧
  (∀ (s : State),
    s.rmRun → s.since s.rm.aliveAt (ms 1) →
    Completes .aliveTimeout s fun t =>
      t.reg Reg.SAFE_LINES = 0 ∧ t.fld Reg.SAFE_SO Fld.SAFE_SO_ON = 0 ∧ (t.dev = stSAFE ∨ t.dev = stLOCKOUT) ∧ (t.reg Reg.SAFE_DEMAND).toNat &&& dmALIVE
      = dmALIVE) ∧
  (∀ (n : Slot) (f : RetFrame) (o : Bool) (s : State),
    s.rmRun → f.crcOk → n.val < s.variant.slots → bitOf (s.reg Reg.SAFE_LINES).toNat n.val = o → (o → f.iline = false) → (o = false → f.iline) →
    s.rm.delivered = false →
    Completes (.returnFrame n f) s fun t =>
      (t.drv n.val).frameAt = s.now ∧ (t.drv n.val).frameSeen ∧ (t.drv n.val).frameLost = false ∧ bitOf (t.reg Reg.SAFE_EREM).toNat n.val = f.eremoved ∧
      Only (fun a => a = Reg.SAFE_EREM) { s with drvs := t.drvs, rm := t.rm } t) ∧
  (∀ (n : Slot) (f : RetFrame) (x : Nat) (s : State),
    s.rmRun → f.crcOk → n.val < s.variant.slots → bitOf (s.reg Reg.SAFE_LINES).toNat n.val → f.iline → (s.drv n.val).lineOnAt = some x → s.since x (us
    20) →
    Completes (.returnFrame n f) s fun t =>
      t.flag .safe 9 ∧ t.bit Reg.SAFE_STAT Fld.SAFE_STAT_LATCH_VB ∧ t.reg Reg.SAFE_LINES = 0 ∧ t.fld Reg.SAFE_SO Fld.SAFE_SO_ON = 0 ∧ (t.dev = stSAFE ∨
      t.dev = stLOCKOUT) ∧ (t.reg Reg.SAFE_DEMAND).toNat &&& dmINT = dmINT) ∧
  (∀ (n : Slot) (f : RetFrame) (s : State),
    s.rmRun → f.crcOk → n.val < s.variant.slots →
    Completes (.returnFrame n f) s fun t =>
      (t.drv n.val).frameAt = s.now ∧ (t.drv n.val).frameSeen ∧ (t.drv n.val).frameLost = false ∧ bitOf (t.reg Reg.SAFE_EREM).toNat n.val = f.eremoved) ∧
  (∀ (n : Slot) (s : State),
    s.rmRun → s.assigned.contains n.val → (s.drv n.val).frameLost = false → s.since (s.drv n.val).frameAt (us 30) →
    Completes (.retframeTimeout n) s fun t =>
      (t.drv n.val).frameLost ∧ t.flag .safe 10 ∧ t.reg Reg.SAFE_LINES = 0 ∧ t.fld Reg.SAFE_SO Fld.SAFE_SO_ON = 0 ∧ (t.dev = stSAFE ∨ t.dev = stLOCKOUT)
      ∧ (t.reg Reg.SAFE_DEMAND).toNat &&& dmINT = dmINT) ∧
  (∀ (n : Slot) (x : Nat) (s : State),
    s.rmRun → (s.drv n.val).wasSwitching → (s.drv n.val).lineOffAt = some x → s.since x (us 20) → bitOf (s.reg Reg.SAFE_EREM).toNat n.val = false →
    Completes (.eremConfirmTimeout n) s fun t =>
      t.flag .safe 9 ∧ t.bit Reg.SAFE_STAT Fld.SAFE_STAT_LATCH_VB ∧ t.reg Reg.SAFE_LINES = 0 ∧ t.fld Reg.SAFE_SO Fld.SAFE_SO_ON = 0 ∧ (t.dev = stSAFE ∨
      t.dev = stLOCKOUT) ∧ (t.reg Reg.SAFE_DEMAND).toNat &&& dmINT = dmINT) ∧
  (∀ (g : Rgn) (s : State),
    s.vlimOn g.val →
    Completes (.vlimComparatorTrip g) s fun t =>
      t.flag .safe 2 ∧ t.reg Reg.SAFE_LINES = 0 ∧ t.fld Reg.SAFE_SO Fld.SAFE_SO_ON = 0 ∧ (t.dev = stSAFE ∨ t.dev = stLOCKOUT) ∧ (t.reg
      Reg.SAFE_DEMAND).toNat &&& dmVLIM g.val = dmVLIM g.val) ∧
  (∀ (g : Rgn) (u v : Nat) (s : State),
    s.vlimOn g.val →
    Completes (.vlinkSample g u v) s fun t =>
      t.reg (Reg.SAFE_VL g.val) = BitVec.ofNat 32 (min v 65535 * 65536 + min u 65535) ∧ t.vLink g.val = (min u 65535 + min v 65535) / 2 ∧ Only (fun a =>
      a = Reg.SAFE_VL g.val ∨ a = preStat g.val) { s with regions := t.regions, rm := t.rm } t) ∧
  (∀ (g : Rgn) (x : Nat) (s : State),
    s.vlimOn g.val → (s.region g.val).discAt = some x → s.since x (ms 10) →
    Completes (.vlinkDiscrepancy g) s fun t =>
      t.flag .safe 3 ∧ t.reg Reg.SAFE_LINES = 0 ∧ t.fld Reg.SAFE_SO Fld.SAFE_SO_ON = 0 ∧ (t.dev = stSAFE ∨ t.dev = stLOCKOUT) ∧ (t.reg
      Reg.SAFE_DEMAND).toNat &&& dmVLIM g.val = dmVLIM g.val) ∧
  (∀ (g : Rgn) (h : Fin 2) (s : State),
    s.vlimOn g.val →
    Completes (.comparatorTest g h true) s fun t =>
      t.rm.cmpFail = putBit s.rm.cmpFail (2 * g.val + h.val) false ∧ Only (fun _ => False) { s with rm := t.rm } t) ∧
  (∀ (g : Rgn) (h : Fin 2) (s : State),
    s.vlimOn g.val →
    Completes (.comparatorTest g h false) s fun t =>
      bitOf t.rm.cmpFail (2 * g.val + h.val) ∧ t.flag .safe 2 ∧ t.reg Reg.SAFE_LINES = 0 ∧ t.fld Reg.SAFE_SO Fld.SAFE_SO_ON = 0 ∧ (t.dev = stSAFE ∨
      t.dev = stLOCKOUT) ∧ (t.reg Reg.SAFE_DEMAND).toNat &&& dmVLIM g.val = dmVLIM g.val)

/-- Safety inputs, outputs and the reset edge (R329, R330, R334, R335, R336, R337, R338, R342). Where the manual leaves a corner open the clauses
follow the model's choice: log entries 58, 59 and 92. -/
def Obligations.SafetyInputsComplete : Prop :=
  (∀ (x : Fin 16) (u v : Bool) (s : State),
    s.siOn x.val → (((s.siFilter (2 * x.val) u).siFilter (2 * x.val + 1) v).siKnown (2 * x.val) = false ∨ ((s.siFilter (2 * x.val) u).siFilter (2 *
    x.val + 1) v).siKnown (2 * x.val + 1) = false) →
    Completes (.siSample x u v) s fun t =>
      t.reg Reg.SAFE_SI = ((s.siFilter (2 * x.val) u).siFilter (2 * x.val + 1) v).reg Reg.SAFE_SI ∧ t.rm = ((s.siFilter (2 * x.val) u).siFilter (2 *
      x.val + 1) v).rm ∧ Only (fun a => a = Reg.SAFE_SI) { s with rm := t.rm } t) ∧
  (∀ (x : Fin 16) (u v : Bool) (s : State),
    s.siOn x.val → ((s.siFilter (2 * x.val) u).siFilter (2 * x.val + 1) v).siKnown (2 * x.val) → ((s.siFilter (2 * x.val) u).siFilter (2 * x.val + 1)
    v).siKnown (2 * x.val + 1) → (((s.siFilter (2 * x.val) u).siFilter (2 * x.val + 1) v).siStates x.val).1 || (((s.siFilter (2 * x.val) u).siFilter
    (2 * x.val + 1) v).siStates x.val).2 → bitOf (s.reg Reg.SAFE_SIPAIR).toNat x.val = false →
    Completes (.siSample x u v) s fun t =>
      t.flag .safe 0 ∧ bitOf (t.reg Reg.SAFE_SIPAIR).toNat x.val ∧ t.reg Reg.SAFE_LINES = 0 ∧ t.fld Reg.SAFE_SO Fld.SAFE_SO_ON = 0 ∧ (t.dev = stSAFE ∨
      t.dev = stLOCKOUT) ∧ (t.reg Reg.SAFE_DEMAND).toNat &&& 2 ^ x.val = 2 ^ x.val) ∧
  (∀ (x : Fin 16) (u v : Bool) (s : State),
    s.siOn x.val → ((s.siFilter (2 * x.val) u).siFilter (2 * x.val + 1) v).siKnown (2 * x.val) → ((s.siFilter (2 * x.val) u).siFilter (2 * x.val + 1)
    v).siKnown (2 * x.val + 1) → ((s.siFilter (2 * x.val) u).siFilter (2 * x.val + 1) v).siStates x.val = (false, false) → bitOf (s.reg
    Reg.SAFE_SIPAIR).toNat (16 + x.val) = false →
    Completes (.siSample x u v) s fun t =>
      bitOf (t.reg Reg.SAFE_SIPAIR).toNat x.val = false ∧ bitOf t.rm.causes x.val = false ∧ Only (fun a => a = Reg.SAFE_SI ∨ a = Reg.SAFE_SIPAIR)
      { s with rm := t.rm } t) ∧
  (∀ (x : Fin 16) (s : State),
    s.siOn x.val → bitOf (s.reg Reg.SAFE_SIPAIR).toNat (16 + x.val) = false → (s.rm.siDisc.any fun p => p.1 == x.val && s.since p.2 (ms s.siDiscMs)) →
    Completes (.siDiscrepancy x) s fun t =>
      bitOf (t.reg Reg.SAFE_SIPAIR).toNat (16 + x.val) ∧ t.flag .safe 1 ∧ t.reg Reg.SAFE_LINES = 0 ∧ t.fld Reg.SAFE_SO Fld.SAFE_SO_ON = 0 ∧ (t.dev =
      stSAFE ∨ t.dev = stLOCKOUT) ∧ (t.reg Reg.SAFE_DEMAND).toNat &&& 2 ^ x.val = 2 ^ x.val) ∧
  (∀ (y : SoOut) (s : State),
    s.rmRun → s.rm.delivered → bitOf (s.reg (Reg.SAFE_PAR 2)).toNat (16 + y.val) → s.soIsOn y.val → s.rm.soTest = none → s.rm.soReturn = none →
    s.since (File.get 0 s.rm.soLast y.val) (s.soTestPar y.val).2 →
    Completes (.soTestPulse y) s fun t =>
      t.rm.soTest = some (y.val, b2n (bitOf s.rm.soTurn y.val)) ∧ t.rm.soPulseAt = s.now ∧ Only (fun _ => False) { s with rm := t.rm } t) ∧
  (∀ (y : SoOut) (m : Nat) (s : State),
    s.rmRun → s.rm.soTest = some (y.val, m) → s.since s.rm.soPulseAt (us (s.soTestPar y.val).1) →
    Completes (.soPulseEnd y true) s fun t =>
      t.rm.soTest = none ∧ t.rm.soReturn = some y.val ∧ Only (fun _ => False) { s with rm := t.rm } t) ∧
  (∀ (y : SoOut) (m : Nat) (s : State),
    s.rmRun → s.rm.soTest = some (y.val, m) → s.since s.rm.soPulseAt (us (s.soTestPar y.val).1) →
    Completes (.soPulseEnd y false) s fun t =>
      t.flag .safe 6 ∧ bitOf (t.fld Reg.SAFE_SO Fld.SAFE_SO_FAULT) y.val ∧ t.reg Reg.SAFE_LINES = 0 ∧ t.fld Reg.SAFE_SO Fld.SAFE_SO_ON = 0 ∧ (t.dev =
      stSAFE ∨ t.dev = stLOCKOUT) ∧ (t.reg Reg.SAFE_DEMAND).toNat &&& dmINT = dmINT) ∧
  (∀ (y : SoOut) (s : State),
    s.rmRun → s.rm.soReturn = some y.val → s.since s.rm.soPulseAt (us 200) →
    Completes (.soReturnCheck y true) s fun t =>
      t.rm.soReturn = none ∧ Only (fun _ => False) { s with rm := t.rm } t) ∧
  (∀ (y : SoOut) (s : State),
    s.rmRun → s.rm.soReturn = some y.val → s.since s.rm.soPulseAt (us 200) →
    Completes (.soReturnCheck y false) s fun t =>
      t.flag .safe 7 ∧ bitOf (t.fld Reg.SAFE_SO Fld.SAFE_SO_FAULT) y.val ∧ t.reg Reg.SAFE_LINES = 0 ∧ t.fld Reg.SAFE_SO Fld.SAFE_SO_ON = 0 ∧ (t.dev =
      stSAFE ∨ t.dev = stLOCKOUT) ∧ (t.reg Reg.SAFE_DEMAND).toNat &&& dmINT = dmINT) ∧
  (∀ (y : SoOut) (s : State),
    s.rmRun → s.soIsOn y.val →
    Completes (.soShort y) s fun t =>
      t.flag .safe 7 ∧ bitOf (t.fld Reg.SAFE_SO Fld.SAFE_SO_FAULT) y.val ∧ t.reg Reg.SAFE_LINES = 0 ∧ t.fld Reg.SAFE_SO Fld.SAFE_SO_ON = 0 ∧ (t.dev =
      stSAFE ∨ t.dev = stLOCKOUT) ∧ (t.reg Reg.SAFE_DEMAND).toNat &&& dmINT = dmINT) ∧
  (∀ (y : SoOut) (s : State),
    s.rmRun → s.soIsOn y.val = false →
    Completes (.soXv y) s fun t =>
      t.flag .safe 8 ∧ bitOf (t.fld Reg.SAFE_SO Fld.SAFE_SO_FAULT) y.val ∧ t.reg Reg.SAFE_LINES = 0 ∧ t.fld Reg.SAFE_SO Fld.SAFE_SO_ON = 0 ∧ (t.dev =
      stSAFE ∨ t.dev = stLOCKOUT) ∧ (t.reg Reg.SAFE_DEMAND).toNat &&& dmINT = dmINT) ∧
  (∀ (x : Nat) (s : State),
    s.rmRun → s.rstState ≠ 1 → s.rstState ≠ 2 → s.rm.relAt = some x → s.since x (secs 1) →
    Completes .resetReady s fun t =>
      t.rstState = 1 ∧ Only (fun a => a = Reg.SAFE_RST) s t) ∧
  (∀ (s : State),
    s.rmRun → s.rm.pressAt = none → s.rstState = 1 →
    Completes .resetPress s fun t =>
      t.rstState = 2 ∧ t.rm.pressAt = some s.now ∧ t.rm.relAt = none ∧ Only (fun a => a = Reg.SAFE_RST) { s with rm := t.rm } t) ∧
  (∀ (s : State),
    s.rmRun → s.rm.pressAt = none → s.rstState ≠ 1 →
    Completes .resetPress s fun t =>
      t.rstState = 3 ∧ t.rm.pressAt = some s.now ∧ t.flag .safe 12 ∧ Only (fun a => a = Reg.SAFE_RST ∨ FlagSrc.safe.owns 12 a) { s with rm := t.rm } t) ∧
  (∀ (s : State),
    s.rmRun → s.rm.pressAt = none →
    Completes .resetRelease s fun t =>
      t.rm.relAt = some (s.rm.relAt.getD s.now) ∧ Only (fun _ => False) { s with rm := t.rm } t) ∧
  (∀ (x : Nat) (s : State),
    s.rmRun → s.rm.pressAt = some x → s.rstState = 2 → s.since x (ms 100) = false →
    Completes .resetRelease s fun t =>
      t.rstState = 0 ∧ t.rm.pressAt = none ∧ t.rm.relAt = some s.now ∧ t.flag .safe 12 ∧ t.fld Reg.SAFE_RST Fld.SAFE_RST_PRESS = (s.now - x) / ms 1 ∧
      Only (fun a => a = Reg.SAFE_RST ∨ FlagSrc.safe.owns 12 a) { s with rm := t.rm } t) ∧
  (∀ (x : Nat) (s : State),
    s.rmRun → s.rm.pressAt = some x → s.rstState = 2 → s.since x (ms 100) → s.since x (secs 3 + 1) = false → s.bit Reg.SAFE_STAT
    Fld.SAFE_STAT_LATCH_VB = false → s.bit Reg.THM_STAT Fld.THM_STAT_LATCHED = false →
    Completes .resetRelease s fun t =>
      t.rstState = 0 ∧ t.rm.pressAt = none ∧ t.flag .safe 15) ∧
  (∀ (s : State),
    s.rmRun →
    Completes .resetDiscrepancy s fun t =>
      t.rstState = 3 ∧ t.rm.relAt = none ∧ t.rm.pressAt = some (s.rm.pressAt.getD s.now) ∧ t.flag .safe 12 ∧ Only (fun a => a = Reg.SAFE_RST ∨
      FlagSrc.safe.owns 12 a) { s with rm := t.rm } t) ∧
  (∀ (x : Nat) (s : State),
    s.rmRun → s.rstState ≠ 4 → s.rm.pressAt = some x → s.since x (secs 30) →
    Completes .resetStuck s fun t =>
      t.rstState = 4 ∧ t.flag .safe 13 ∧ t.safetyLog = s.safetyLog ++ [⟨0x20, 0, 0⟩] ∧ Only (fun a => a = Reg.SAFE_RST ∨ FlagSrc.safe.owns 13 a)
      { s with rm := t.rm, safetyLog := t.safetyLog } t)

/-- The parameter set and the requests to Ringmaster (R81, R338, R339, R419). Where the manual leaves a corner open the clauses follow the model's
choice: log entries 60, 68 and 82. -/
def Obligations.SafetyRequestsComplete : Prop :=
  (∀ (m : ConfigImage) (s : State),
    s.store.config = some m → s.cdRun → s.rmRun → s.dev = stCONFIG → s.rm.image = 1 →
    Completes .paramSetDelivery s fun t =>
      (∀ w : Fin 64, t.reg (Reg.SAFE_PAR w.val) = m.pars.getD w.val 0) ∧ t.reg Reg.SAFE_CHK_CALC = BitVec.ofNat 32 (checkValue m.pars) ∧ t.rm.delivered
      ∧ t.bit Reg.SAFE_STAT Fld.SAFE_STAT_CHK_OK = (s.store.conf == some (checkValue m.pars)) ∧ t.store.pars = parWords m.pars) ∧
  (∀ (m : ConfigImage) (s : State),
    s.store.config = some m → s.cdRun → s.rmRun → s.dev = stCONFIG → s.rm.image = 3 → s.validate [] (some m.pars) = none →
    Completes .paramSetDelivery s fun t =>
      (∀ w : Fin 64, t.reg (Reg.SAFE_PAR w.val) = m.pars.getD w.val 0) ∧ t.rm.delivered ∧ t.store.pars = parWords m.pars) ∧
  (∀ (m : ConfigImage) (s : State),
    s.store.config = some m → s.cdRun → s.rmRun → s.dev = stCONFIG → s.rm.image = 1 → (m.pars.getD 2 0).toNat / 2 ^ 28 < s.store.safeAt.length →
    Completes .paramSetDelivery s fun t =>
      t.dev = stLOCKOUT ∧ t.fld Reg.GLB_DEVSTATE Fld.GLB_DEVSTATE_CAUSE = 0x11) ∧
  (∀ (c : Chan) (v : Word) (s : State),
    s.cdRun → s.rmRun → (c.val = 8 ∨ c.val = 9) → s.commissioning → s.rm.armed = false → s.rm.delivered → v = s.reg Reg.SAFE_CHK_CALC →
    Completes (.chkEntry c v) s fun t =>
      t.reg Reg.SAFE_CHK_CONF = v ∧ t.store.conf = some v.toNat ∧ t.rm.armed ∧ t.bit Reg.SAFE_STAT Fld.SAFE_STAT_CHK_OK) ∧
  (∀ (c : Chan) (v : Word) (s : State),
    s.cdRun → s.rmRun → (c.val = 8 ∨ c.val = 9) → s.commissioning → s.rm.armed = false → v ≠ s.reg Reg.SAFE_CHK_CALC →
    Completes (.chkEntry c v) s fun t =>
      t.flag .safe 14 ∧ t.rm.armed = false ∧ Only (fun a => FlagSrc.safe.owns 14 a) { s with safetyLog := t.safetyLog } t) ∧
  (∀ (c : Chan) (v : Word) (s : State),
    s.cdRun → s.rmRun → 9 ≤ c.val → c.val ≤ 13 →
    Completes (.holdLines c v) s fun t =>
      t.rm.holds = s.rm.holds ++ [(c.val, v.toNat % 2 ^ 24)] ∧ (t.reg Reg.SAFE_LINES).toNat &&& (v.toNat % 2 ^ 24) = 0 ∧ Only (fun a => a =
      Reg.SAFE_LINES ∨ a = Reg.SAFE_STAT) { s with rm := t.rm, drvs := t.drvs } t) ∧
  (∀ (c : Chan) (v : Word) (s : State),
    s.cdRun → s.rmRun → c.val = 9 →
    Completes (.soOff c v) s fun t =>
      t.rm.soOffs = s.rm.soOffs ++ [(c.val, v.toNat % 256)] ∧ t.fld Reg.SAFE_SO Fld.SAFE_SO_ON &&& (v.toNat % 256) = 0 ∧ Only (fun a => a = Reg.SAFE_SO)
      { s with rm := t.rm } t) ∧
  (∀ (c : Chan) (s : State),
    s.cdRun → s.rmRun → 8 ≤ c.val → c.val ≤ 13 →
    Completes (.safeRequest c) s fun t =>
      t.reg Reg.SAFE_LINES = 0 ∧ t.fld Reg.SAFE_SO Fld.SAFE_SO_ON = 0 ∧ (t.dev = stSAFE ∨ t.dev = stLOCKOUT) ∧ (t.reg Reg.SAFE_DEMAND).toNat &&& dmCD =
      dmCD) ∧
  (∀ (c : Chan) (s : State),
    s.cdRun → s.rmRun → 9 ≤ c.val → c.val ≤ 13 →
    Completes (.endHold c) s fun t =>
      t.rm.holds = s.rm.holds.filter (fun p => p.1 != c.val) ∧ t.rm.soOffs = s.rm.soOffs.filter (fun p => p.1 != c.val) ∧ Only (fun a => a =
      Reg.SAFE_LINES ∨ a = Reg.SAFE_STAT ∨ a = Reg.SAFE_SO) { s with rm := t.rm, drvs := t.drvs } t) ∧
  (∀ (x : Nat) (l : List Nat) (s : State),
    s.store.safeAt = x :: l → s.rmRun → x + secs 86400 ≤ s.rm.vbTicks →
    Completes .safeEntryExpiry s fun t =>
      t.store.safeAt = l ∧ t.fld Reg.GLB_DEVSTATE Fld.GLB_DEVSTATE_SAFE_CNT = min l.length 255 ∧ Only (fun a => a = Reg.GLB_DEVSTATE)
      { s with store := t.store } t)

/-- Ethernet ports and PTP (R344, R345, R346, R348, R354, R355, R359). Where the manual leaves a corner open the clauses follow the model's choice:
log entry 61. -/
def Obligations.PortsAndPtpComplete : Prop :=
  (∀ (p : Port) (s : State),
    s.cdRun → s.portIsUp p.val → s.netLost p.val = false → s.snl.held = [] →
    Completes (.portDown p) s fun t =>
      t.portIsUp p.val = false ∧ t.netLost p.val ∧ t.bit (Reg.ETH_P_STAT p.val) Fld.ETH_P_STAT_LINK = false ∧ t.bit (Reg.ETH_P_STAT p.val)
      Fld.ETH_P_STAT_LOST ∧ t.flag (.eth p.val) 0 ∧ t.flag .snl 7 ∧ Only (fun a => a = Reg.ETH_P_STAT p.val ∨ a = Reg.ETH_SNL_STAT ∨ a = Reg.REC_SYSSUPP
      ∨ (FlagSrc.eth p.val).owns 0 a ∨ FlagSrc.snl.owns 7 a) { s with snl := t.snl } t) ∧
  (∀ (p : Port) (s : State),
    s.cdRun → s.portIsUp p.val →
    Completes (.portDown p) s fun t =>
      t.portIsUp p.val = false ∧ t.netLost p.val ∧ t.bit (Reg.ETH_P_STAT p.val) Fld.ETH_P_STAT_LOST ∧ t.flag (.eth p.val) 0) ∧
  (∀ (p : Port) (s : State),
    s.cdRun → s.portIsUp p.val = false →
    Completes (.portDown p) s fun t =>
      t.bit (Reg.ETH_P_STAT p.val) Fld.ETH_P_STAT_LINK = false ∧ t.bit (Reg.ETH_P_STAT p.val) Fld.ETH_P_STAT_AN_DONE = false ∧ Only (fun a => a =
      Reg.ETH_P_STAT p.val) s t) ∧
  (∀ (p : Port) (s : State),
    s.cdRun →
    Completes (.portUp p) s fun t =>
      t.bit (Reg.ETH_P_STAT p.val) Fld.ETH_P_STAT_LINK ∧ t.bit (Reg.ETH_P_STAT p.val) Fld.ETH_P_STAT_REFOK = (!s.clockOut (6 + p.val)) ∧ t.bit
      (Reg.ETH_P_STAT p.val) Fld.ETH_P_STAT_AN_DONE = (s.fld (Reg.ETH_P_CFG p.val) Fld.ETH_P_CFG_MODE != 2 && s.bit (Reg.ETH_P_CFG p.val)
      Fld.ETH_P_CFG_AN_EN) ∧ t.fld (Reg.ETH_P_STAT p.val) ⟨2, 2⟩ = (if s.fld (Reg.ETH_P_CFG p.val) Fld.ETH_P_CFG_MODE = 2 then 1 else 2) ∧ Only (fun a
      => a = Reg.ETH_P_STAT p.val) s t) ∧
  (∀ (p : Port) (f : EthFrame) (s : State),
    s.cdRun → s.portIsUp p.val → 1522 < f.size →
    Completes (.ethRxFrame p f) s fun t =>
      t.flag (.eth p.val) 3 ∧ Only (fun a => (FlagSrc.eth p.val).owns 3 a) s t) ∧
  (∀ (p : Port) (f : EthFrame) (s : State),
    s.cdRun → s.portIsUp p.val → f.size ≤ 1522 → f.fcsOk = false →
    Completes (.ethRxFrame p f) s fun t =>
      t.flag (.eth p.val) 2 ∧ Only (fun a => (FlagSrc.eth p.val).owns 2 a) s t) ∧
  (∀ (p : Port) (f : EthFrame) (s : State),
    s.cdRun → s.portIsUp p.val → f.size ≤ 1522 → f.fcsOk → f.room = false →
    Completes (.ethRxFrame p f) s fun t =>
      t.flag (.eth p.val) 1 ∧ Only (fun a => (FlagSrc.eth p.val).owns 1 a) s t) ∧
  (∀ (p : Port) (f : EthFrame) (v : Nat) (s : State),
    s.cdRun → s.portIsUp p.val → f.size ≤ 1522 → f.fcsOk → f.room → f.vid = some v → v ≠ s.fld (Reg.ETH_P_CFG p.val) Fld.ETH_P_CFG_VID → v ≠ s.fld
    Reg.ETH_SNL_CFG Fld.ETH_SNL_CFG_VID →
    Completes (.ethRxFrame p f) s fun t =>
      t.flag (.eth p.val) 4 ∧ Only (fun a => (FlagSrc.eth p.val).owns 4 a) s t) ∧
  (∀ (p : Port) (f : EthFrame) (s : State),
    s.cdRun → s.portIsUp p.val → f.size ≤ 1522 → f.fcsOk → f.room → (f.vid.all fun v => v == s.fld (Reg.ETH_P_CFG p.val) Fld.ETH_P_CFG_VID || v ==
    s.fld Reg.ETH_SNL_CFG Fld.ETH_SNL_CFG_VID) →
    Completes (.ethRxFrame p f) s fun t =>
      Only (fun _ => False) s t) ∧
  (∀ (x : Int) (q : Nat) (s : State),
    s.cdRun → (s.trip 4).runs →
    Completes (.ptpStep x q) s fun t =>
      t.ptp = ((s.ptp : Int) + x * 2 ^ 32).toNat ∧ t.ptpAdd = q ∧ t.flag .ptp 2 ∧ Only (fun a => FlagSrc.ptp.owns 2 a)
      { s with ptp := t.ptp, ptpAdd := t.ptpAdd } t) ∧
  (∀ (q : Nat) (s : State),
    s.cdRun → (s.trip 4).runs → s.bit Reg.ETH_PTP_STAT Fld.ETH_PTP_STAT_LOCKED = false →
    Completes (.ptpLock q) s fun t =>
      t.bit Reg.ETH_PTP_STAT Fld.ETH_PTP_STAT_LOCKED ∧ t.bit Reg.ETH_PTP_STAT Fld.ETH_PTP_STAT_EVER_LOCKED ∧ t.bit Reg.ETH_PTP_STAT
      Fld.ETH_PTP_STAT_HOLDOVER = false ∧ t.bit Reg.ETH_SNL_STAT Fld.ETH_SNL_STAT_AGEOK ∧ t.snl.hoAt = none ∧ t.ptpAdd = q ∧ t.flag .ptp 0 ∧ Only (fun a
      => a = Reg.ETH_PTP_STAT ∨ a = Reg.CLK_STAT ∨ a = Reg.ETH_SNL_STAT ∨ FlagSrc.ptp.owns 0 a)
      { s with ptpAdd := t.ptpAdd, snl := t.snl, draws := t.draws } t) ∧
  (∀ (s : State),
    s.cdRun → s.bit Reg.ETH_PTP_STAT Fld.ETH_PTP_STAT_HOLDOVER = false →
    Completes .ptpHoldover s fun t =>
      t.bit Reg.ETH_PTP_STAT Fld.ETH_PTP_STAT_HOLDOVER ∧ t.bit Reg.ETH_PTP_STAT Fld.ETH_PTP_STAT_LOCKED = false ∧ t.fld Reg.ETH_PTP_STAT
      Fld.ETH_PTP_STAT_HO_TIME = 0 ∧ t.snl.hoAt = some s.now ∧ t.flag .ptp 1 ∧ t.flag .clk 8 ∧ Only (fun a => a = Reg.ETH_PTP_STAT ∨ a = Reg.CLK_STAT ∨
      a = Reg.ETH_SNL_STAT ∨ FlagSrc.ptp.owns 1 a ∨ FlagSrc.clk.owns 8 a) { s with snl := t.snl, draws := t.draws } t) ∧
  (∀ (x : Nat) (s : State),
    s.cdRun → s.snl.hoAt = some x → s.since x (secs 60) →
    Completes .ageTestHoldoverLimit s fun t =>
      t.bit Reg.ETH_SNL_STAT Fld.ETH_SNL_STAT_AGEOK = false ∧ 60 ≤ t.fld Reg.ETH_PTP_STAT Fld.ETH_PTP_STAT_HO_TIME ∧ Only (fun a => a = Reg.ETH_PTP_STAT
      ∨ a = Reg.ETH_SNL_STAT) s t)

/-- The paired-network safety transport (R328, R350, R351, R352, R353, R354, R355, R356, R357). Where the manual leaves a corner open the clauses
follow the model's choice: log entries 62 and 93. -/
def Obligations.SafetyTransportCompletes : Prop :=
  (∀ (p : Port) (f : SafetyPdu) (s : State),
    s.cdRun → s.rmRun → s.portIsUp p.val → s.safetyMatch p.val f → pduCode f.bytes = false →
    Completes (.safetyCopy p f) s fun t =>
      t.flag .snl 2 ∧ Only (fun a => FlagSrc.snl.owns 2 a ∨ FlagSrc.snl.owns 1 a) s t) ∧
  (∀ (p : Port) (f : SafetyPdu) (s : State),
    s.cdRun → s.rmRun → s.portIsUp p.val → s.safetyMatch p.val f → s.pduFmt f.bytes = false →
    Completes (.safetyCopy p f) s fun t =>
      t.flag .snl 1 ∧ Only (fun a => FlagSrc.snl.owns 2 a ∨ FlagSrc.snl.owns 1 a) s t) ∧
  (∀ (p : Port) (f : SafetyPdu) (s : State),
    s.cdRun → s.rmRun → s.portIsUp p.val → s.safetyMatch p.val f → pduCode f.bytes → s.pduFmt f.bytes → (s.snl.held.all fun h => pduSeq h.bytes !=
    pduSeq f.bytes) → (s.snl.decided.all fun h => pduSeq h.1.bytes != pduSeq f.bytes) → s.snl.held.length < 8 → s.netLost (1 - p.val) = false →
    (s.snl.held.all fun h => !s.netLost (1 - h.net)) →
    Completes (.safetyCopy p f) s fun t =>
      t.snl.held = s.snl.held ++ [⟨p.val, f.bytes, f.sec, f.ns, s.now⟩] ∧ Only (fun _ => False) { s with snl := t.snl } t) ∧
  (∀ (p : Port) (f : SafetyPdu) (h : HeldCopy) (s : State),
    s.cdRun → s.rmRun → s.portIsUp p.val → s.safetyMatch p.val f → pduCode f.bytes → s.pduFmt f.bytes → s.snl.held = [h] → h.net = 1 - p.val → pduSeq
    h.bytes = pduSeq f.bytes → samePdu h.bytes f.bytes = false →
    Completes (.safetyCopy p f) s fun t =>
      t.snl.held = [] ∧ t.snl.decided = ((h, true) :: s.snl.decided).take 8 ∧ t.flag .snl 4 ∧ Only (fun a => FlagSrc.snl.owns 4 a)
      { s with snl := t.snl } t) ∧
  (∀ (p : Port) (f : SafetyPdu) (h : HeldCopy) (s : State),
    s.cdRun → s.rmRun → s.portIsUp p.val → s.safetyMatch p.val f → pduCode f.bytes → s.pduFmt f.bytes → s.snl.held = [h] → h.net = 1 - p.val → pduSeq
    h.bytes = pduSeq f.bytes → samePdu h.bytes f.bytes → s.netLost 0 = false → s.netLost 1 = false → s.bit Reg.ETH_SNL_STAT Fld.ETH_SNL_STAT_BASE =
    false → s.showAgeOk.bit Reg.ETH_SNL_STAT Fld.ETH_SNL_STAT_AGEOK → -1000000 ≤ copyAge h → copyAge h ≤ s.netWd * 1000000 → pduField h.bytes 0x14 1 =
    1 → s.rm.netExpAt ≠ some s.now →
    Completes (.safetyCopy p f) s fun t =>
      t.reg Reg.ETH_SNL_LASTSEQ = BitVec.ofNat 32 (pduSeq h.bytes) ∧ t.bit Reg.ETH_SNL_STAT Fld.ETH_SNL_STAT_BASE ∧ t.bit Reg.ETH_SNL_STAT
      Fld.ETH_SNL_STAT_PERMIT ∧ t.rm.netAt = s.now ∧ t.fld Reg.SAFE_NET Fld.SAFE_NET_MS = 0 ∧ t.snl.held = [] ∧ (s.snlEn → s.bit Reg.SAFE_NET
      Fld.SAFE_NET_EXPIRED → t.bit Reg.SAFE_NET Fld.SAFE_NET_RUNNING ∧ t.bit Reg.SAFE_NET Fld.SAFE_NET_EXPIRED = false)) ∧
  (∀ (p : Port) (f : SafetyPdu) (h : HeldCopy) (s : State),
    s.cdRun → s.rmRun → s.portIsUp p.val → s.safetyMatch p.val f → pduCode f.bytes → s.pduFmt f.bytes → s.snl.held = [h] → h.net = 1 - p.val → pduSeq
    h.bytes = pduSeq f.bytes → samePdu h.bytes f.bytes → s.netLost 0 = false → s.netLost 1 = false → s.bit Reg.ETH_SNL_STAT Fld.ETH_SNL_STAT_BASE =
    false → s.showAgeOk.bit Reg.ETH_SNL_STAT Fld.ETH_SNL_STAT_AGEOK → -1000000 ≤ copyAge h → copyAge h ≤ s.netWd * 1000000 → pduField h.bytes 0x14 1 =
    0 → s.rm.netExpAt ≠ some s.now →
    Completes (.safetyCopy p f) s fun t =>
      t.reg Reg.ETH_SNL_LASTSEQ = BitVec.ofNat 32 (pduSeq h.bytes) ∧ t.bit Reg.ETH_SNL_STAT Fld.ETH_SNL_STAT_PERMIT = false ∧ t.flag .snl 0 ∧ (s.snlEn →
      t.flag .safe 5 ∧ t.reg Reg.SAFE_LINES = 0 ∧ t.fld Reg.SAFE_SO Fld.SAFE_SO_ON = 0 ∧ (t.dev = stSAFE ∨ t.dev = stLOCKOUT) ∧ (t.reg
      Reg.SAFE_DEMAND).toNat &&& dmNET = dmNET)) ∧
  (∀ (p : Port) (f : SafetyPdu) (h : HeldCopy) (s : State),
    s.cdRun → s.rmRun → s.portIsUp p.val → s.safetyMatch p.val f → pduCode f.bytes → s.pduFmt f.bytes → s.snl.held = [h] → h.net = 1 - p.val → pduSeq
    h.bytes = pduSeq f.bytes → samePdu h.bytes f.bytes → s.netLost 0 = false → s.netLost 1 = false → s.bit Reg.ETH_SNL_STAT Fld.ETH_SNL_STAT_BASE =
    false → s.showAgeOk.bit Reg.ETH_SNL_STAT Fld.ETH_SNL_STAT_AGEOK → (copyAge h < -1000000 ∨ s.netWd * 1000000 < copyAge h) → s.rm.netExpAt ≠ some
    s.now →
    Completes (.safetyCopy p f) s fun t =>
      t.flag .snl 6 ∧ t.reg Reg.ETH_SNL_LASTSEQ = s.reg Reg.ETH_SNL_LASTSEQ ∧ Only (fun a => a = Reg.ETH_SNL_STAT ∨ FlagSrc.snl.owns 6 a)
      { s with snl := t.snl } t) ∧
  (∀ (c : HeldCopy) (l : List HeldCopy) (s : State),
    s.snl.held = c :: l → s.cdRun → s.rmRun → s.since c.time s.skew → s.netLost (1 - c.net) = false → (l.all fun h => !s.netLost (1 - h.net)) →
    s.snl.miss.getD (1 - c.net) 0 + 1 < s.fld Reg.ETH_SNL_TIMING Fld.ETH_SNL_TIMING_MISS_LIM →
    Completes .skewExpiry s fun t =>
      t.snl.held = s.snl.held.filter (· != c) ∧ t.snl.decided = ((c, false) :: s.snl.decided).take 8 ∧ t.snl.miss = s.snl.miss.set (1 - c.net)
      (s.snl.miss.getD (1 - c.net) 0 + 1) ∧ t.flag .snl 3 ∧ Only (fun a => FlagSrc.snl.owns 3 a) { s with snl := t.snl } t) ∧
  (∀ (c : HeldCopy) (l : List HeldCopy) (s : State),
    s.snl.held = c :: l → s.cdRun → s.rmRun → s.since c.time s.skew → s.netLost (1 - c.net) = false → s.fld Reg.ETH_SNL_TIMING
    Fld.ETH_SNL_TIMING_MISS_LIM ≤ s.snl.miss.getD (1 - c.net) 0 + 1 →
    Completes .skewExpiry s fun t =>
      t.netLost (1 - c.net) ∧ t.flag .snl 7) ∧
  (∀ (p : Port) (f : SafetyPdu) (h : HeldCopy) (s : State),
    s.cdRun → s.rmRun → s.portIsUp p.val → s.safetyMatch p.val f → pduCode f.bytes → s.pduFmt f.bytes → (s.snl.held.all fun h => pduSeq h.bytes !=
    pduSeq f.bytes) → s.snl.decided.head? = some (h, false) → h.net = 1 - p.val → pduSeq h.bytes = pduSeq f.bytes → samePdu h.bytes f.bytes = false →
    Completes (.safetyCopy p f) s fun t =>
      t.snl.decided = s.snl.decided.map (fun d => if d.1 = h then (h, true) else d) ∧ t.flag .snl 4 ∧ Only (fun a => FlagSrc.snl.owns 4 a)
      { s with snl := t.snl } t) ∧
  (∀ (p : Port) (f : SafetyPdu) (s : State),
    s.cdRun → s.rmRun → s.portIsUp p.val → s.safetyMatch p.val f → pduCode f.bytes → s.pduFmt f.bytes → (s.snl.held.any fun h => pduSeq h.bytes ==
    pduSeq f.bytes && h.net == p.val) →
    Completes (.safetyCopy p f) s fun t =>
      Only (fun _ => False) s t) ∧
  (∀ (p : Port) (f : SafetyPdu) (s : State),
    s.cdRun → s.safetyMatch p.val f = false →
    Completes (.safetyCopy p f) s fun t =>
      Only (fun _ => False) s t) ∧
  (∀ (s : State),
    s.cdRun → s.rmRun → s.snlEn → s.bit Reg.SAFE_NET Fld.SAFE_NET_RUNNING → s.since s.rm.netAt (us (960 * s.netWd)) →
    Completes .netWdExpiry s fun t =>
      t.bit Reg.SAFE_NET Fld.SAFE_NET_EXPIRED ∧ t.bit Reg.SAFE_NET Fld.SAFE_NET_RUNNING = false ∧ t.bit Reg.ETH_SNL_STAT Fld.ETH_SNL_STAT_BASE = false ∧
      t.flag .safe 5 ∧ t.reg Reg.SAFE_LINES = 0 ∧ t.fld Reg.SAFE_SO Fld.SAFE_SO_ON = 0 ∧ (t.dev = stSAFE ∨ t.dev = stLOCKOUT) ∧ (t.reg
      Reg.SAFE_DEMAND).toNat &&& dmNET = dmNET) ∧
  (∀ (s : State),
    s.cdRun → s.rmRun → (s.snl.txAt.all fun x => s.since x (ms (s.fld Reg.ETH_SNL_TIMING Fld.ETH_SNL_TIMING_TX_PER)) || (s.since x (ms 1) &&
    s.statusData != s.snl.txData)) →
    Completes .statusFrame s fun t =>
      t.snl.txSeq = s.snl.txSeq % 0xFFFFFFFF + 1 ∧ t.snl.txAt = some s.now ∧ t.snl.txData = s.statusData ∧ t.snl.txOut = ((List.range 2).filter
      s.portIsUp).map (fun p => (p, s.safetyFrame p (s.statusPdu (s.snl.txSeq % 0xFFFFFFFF + 1) s.statusData))) ∧ Only (fun _ => False)
      { s with snl := t.snl } t)

/-- CAN controllers: enable, buffers, sleep and slots (R360, R364, R366, R368, R372, R374, R375, R376, R377, R378). Where the manual leaves a corner
open the clauses follow the model's choice: log entry 64. -/
def Obligations.CanCommandsComplete : Prop :=
  (∀ (x : CanC) (s : State),
    s.cdRun → s.bit (Reg.CAN_CTRL x.val) Fld.CAN_CTRL_EN = false →
    Completes (.canEnable x) s fun t =>
      t.bit (Reg.CAN_CTRL x.val) Fld.CAN_CTRL_EN ∧ t.reg (Reg.CAN_ERRCNT x.val) = 0 ∧ (t.canUp x.val = false → t.canState x.val = 0) ∧ (t.canUp x.val →
      s.canState x.val = 0 → t.canState x.val = 1)) ∧
  (∀ (x : CanC) (s : State),
    s.cdRun → s.bit (Reg.CAN_CTRL x.val) Fld.CAN_CTRL_EN →
    Completes (.canEnable x) s fun t =>
      Only (fun _ => False) s t) ∧
  (∀ (x : CanC) (s : State),
    s.cdRun → s.bit (Reg.CAN_CTRL x.val) Fld.CAN_CTRL_EN →
    Completes (.canDisable x) s fun t =>
      t.bit (Reg.CAN_CTRL x.val) Fld.CAN_CTRL_EN = false ∧ t.canState x.val = 0 ∧ ∀ b : Fin 3, t.canOwns x.val b.val = false ∧ (s.canOwns x.val b.val →
      t.fld (Reg.CAN_TB_STAT x.val b.val) Fld.CAN_TB_STAT_OUTCOME = toFLUSHED)) ∧
  (∀ (x : CanC) (b : Fin 3) (s : State),
    s.cdRun → s.bit (Reg.CAN_CTRL x.val) Fld.CAN_CTRL_TXR_EN = false → s.bit (Reg.CAN_CTRL x.val) Fld.CAN_CTRL_EN → s.canOwns x.val b.val = false →
    Completes (.req x b) s fun t =>
      t.canOwns x.val b.val ∧ t.fld (Reg.CAN_TB_STAT x.val b.val) Fld.CAN_TB_STAT_RETRY = 0 ∧ t.fld (Reg.CAN_TB_STAT x.val b.val)
      Fld.CAN_TB_STAT_OUTCOME = 0 ∧ (t.can x.val).loads = (s.can x.val).loads + 1 ∧ t.fld (Reg.CAN_STAT x.val) Fld.CAN_STAT_CMDRES = rcDONE ∧ Only (fun
      a => a = Reg.CAN_STAT x.val ∨ a = Reg.CAN_TB_STAT x.val b.val) { s with cans := t.cans } t) ∧
  (∀ (x : CanC) (b : Fin 3) (s : State),
    s.cdRun → (s.bit (Reg.CAN_CTRL x.val) Fld.CAN_CTRL_TXR_EN ∨ s.bit (Reg.CAN_CTRL x.val) Fld.CAN_CTRL_EN = false ∨ s.canOwns x.val b.val) →
    Completes (.req x b) s fun t =>
      t.fld (Reg.CAN_STAT x.val) Fld.CAN_STAT_CMDRES = rcSTATE ∧ t.flag (.can x.val) 13 ∧ Only (fun a => a = Reg.CAN_STAT x.val ∨ (FlagSrc.can
      x.val).owns 13 a) s t) ∧
  (∀ (x : CanC) (b : Fin 3) (s : State),
    s.cdRun → s.canOwns x.val b.val → (s.can x.val).sending = some b.val →
    Completes (.abort x b) s fun t =>
      t.canOwns x.val b.val ∧ (t.can x.val).abortAt.contains b.val ∧ t.fld (Reg.CAN_STAT x.val) Fld.CAN_STAT_CMDRES = rcDONE ∧ Only (fun a => a =
      Reg.CAN_STAT x.val) { s with cans := t.cans } t) ∧
  (∀ (x : CanC) (b : Fin 3) (s : State),
    s.cdRun → s.canOwns x.val b.val → (s.can x.val).sending ≠ some b.val → ((s.ring ((s.reg (Reg.CAN_TXRING x.val)).toNat % 16)).inBuf.all fun p =>
    p.2 != b.val) →
    Completes (.abort x b) s fun t =>
      t.canOwns x.val b.val = false ∧ t.fld (Reg.CAN_TB_STAT x.val b.val) Fld.CAN_TB_STAT_OUTCOME = toABORTED ∧ t.flag (.can x.val) 2 ∧ t.fld
      (Reg.CAN_STAT x.val) Fld.CAN_STAT_CMDRES = rcDONE ∧ Only (fun a => a = Reg.CAN_STAT x.val ∨ a = Reg.CAN_TB_STAT x.val b.val ∨ (FlagSrc.can
      x.val).owns 2 a) { s with cans := t.cans } t) ∧
  (∀ (x : CanC) (b : Fin 3) (s : State),
    s.cdRun → s.canOwns x.val b.val = false →
    Completes (.abort x b) s fun t =>
      t.fld (Reg.CAN_STAT x.val) Fld.CAN_STAT_CMDRES = rcSTATE ∧ t.flag (.can x.val) 13 ∧ Only (fun a => a = Reg.CAN_STAT x.val ∨ (FlagSrc.can
      x.val).owns 13 a) s t) ∧
  (∀ (x : CanC) (s : State),
    s.cdRun → (s.canState x.val = 2 ∨ s.canState x.val = 3) → (s.can x.val).sending = none →
    Completes (.sleep x) s fun t =>
      t.canState x.val = 5 ∧ t.fld (Reg.CAN_STAT x.val) Fld.CAN_STAT_CMDRES = rcDONE ∧ Only (fun a => a = Reg.CAN_STAT x.val) { s with cans := t.cans }
      t) ∧
  (∀ (x : CanC) (s : State),
    s.cdRun → (s.canState x.val = 2 ∨ s.canState x.val = 3) → (s.can x.val).sending ≠ none →
    Completes (.sleep x) s fun t =>
      t.canState x.val = s.canState x.val ∧ (t.can x.val).sleepDue ∧ t.fld (Reg.CAN_STAT x.val) Fld.CAN_STAT_CMDRES = rcDONE ∧ Only (fun a => a =
      Reg.CAN_STAT x.val) { s with cans := t.cans } t) ∧
  (∀ (x : CanC) (s : State),
    s.cdRun → (s.canState x.val = 1 ∨ s.canState x.val = 4) →
    Completes (.sleep x) s fun t =>
      t.fld (Reg.CAN_STAT x.val) Fld.CAN_STAT_CMDRES = rcCOND ∧ t.flag (.can x.val) 13 ∧ Only (fun a => a = Reg.CAN_STAT x.val ∨ (FlagSrc.can
      x.val).owns 13 a) s t) ∧
  (∀ (x : CanC) (s : State),
    s.cdRun → (s.canState x.val = 0 ∨ s.canState x.val = 5) →
    Completes (.sleep x) s fun t =>
      t.fld (Reg.CAN_STAT x.val) Fld.CAN_STAT_CMDRES = rcSTATE ∧ t.flag (.can x.val) 13 ∧ Only (fun a => a = Reg.CAN_STAT x.val ∨ (FlagSrc.can
      x.val).owns 13 a) s t) ∧
  (∀ (x : CanC) (s : State),
    s.cdRun → s.canState x.val = 5 →
    Completes (.wake x) s fun t =>
      t.canState x.val = 1 ∧ t.flag (.can x.val) 10 ∧ t.fld (Reg.CAN_STAT x.val) Fld.CAN_STAT_CMDRES = rcDONE ∧ Only (fun a => a = Reg.CAN_STAT x.val ∨
      (FlagSrc.can x.val).owns 10 a) s t) ∧
  (∀ (x : CanC) (s : State),
    s.cdRun → s.canState x.val ≠ 5 →
    Completes (.wake x) s fun t =>
      t.fld (Reg.CAN_STAT x.val) Fld.CAN_STAT_CMDRES = rcSTATE ∧ t.flag (.can x.val) 13 ∧ Only (fun a => a = Reg.CAN_STAT x.val ∨ (FlagSrc.can
      x.val).owns 13 a) s t) ∧
  (∀ (x : CanC) (f : Fin 32) (s : State),
    s.cdRun → s.bit (Reg.CAN_FSTAT x.val f.val) Fld.CAN_FSTAT_SHADOW →
    Completes (.release x f) s fun t =>
      t.bit (Reg.CAN_FSTAT x.val f.val) Fld.CAN_FSTAT_ACTIVE ∧ t.bit (Reg.CAN_FSTAT x.val f.val) Fld.CAN_FSTAT_SHADOW = false ∧ (∀ w : Fin 20, t.reg
      (Reg.CAN_SLOT x.val f.val w.val) = BitVec.ofNat 32 ((File.get [] (s.can x.val).shadow f.val).getD w.val 0)) ∧ t.fld (Reg.CAN_STAT x.val)
      Fld.CAN_STAT_CMDRES = rcDONE ∧ Only (fun a => a = Reg.CAN_STAT x.val ∨ a = Reg.CAN_FSTAT x.val f.val ∨ (∃ w : Fin 20, a = Reg.CAN_SLOT x.val f.val
      w.val)) { s with cans := t.cans } t) ∧
  (∀ (x : CanC) (f : Fin 32) (s : State),
    s.cdRun → s.bit (Reg.CAN_FSTAT x.val f.val) Fld.CAN_FSTAT_SHADOW = false → s.bit (Reg.CAN_FSTAT x.val f.val) Fld.CAN_FSTAT_ACTIVE →
    Completes (.release x f) s fun t =>
      t.bit (Reg.CAN_FSTAT x.val f.val) Fld.CAN_FSTAT_ACTIVE = false ∧ t.fld (Reg.CAN_STAT x.val) Fld.CAN_STAT_CMDRES = rcDONE ∧ Only (fun a => a =
      Reg.CAN_STAT x.val ∨ a = Reg.CAN_FSTAT x.val f.val) s t) ∧
  (∀ (x : CanC) (f : Fin 32) (s : State),
    s.cdRun → s.bit (Reg.CAN_FSTAT x.val f.val) Fld.CAN_FSTAT_SHADOW = false → s.bit (Reg.CAN_FSTAT x.val f.val) Fld.CAN_FSTAT_ACTIVE = false →
    Completes (.release x f) s fun t =>
      t.fld (Reg.CAN_STAT x.val) Fld.CAN_STAT_CMDRES = rcSTATE ∧ t.flag (.can x.val) 13 ∧ Only (fun a => a = Reg.CAN_STAT x.val ∨ (FlagSrc.can
      x.val).owns 13 a) s t)

/-- CAN controllers: what happens on the bus (R361, R364, R367, R368, R369, R370, R371, R372, R373, R375). Where the manual leaves a corner open the
clauses follow the model's choice: log entry 63. -/
def Obligations.CanBusCompletes : Prop :=
  (∀ (x : CanC) (b : Fin 3) (d : Option Nat) (s : State),
    s.cdRun → s.canOwns x.val b.val → (s.can x.val).sending = some b.val → (s.can x.val).abortAt = [] →
    Completes (.canTxEnd x b (.sent d)) s fun t =>
      t.canOwns x.val b.val = false ∧ t.fld (Reg.CAN_TB_STAT x.val b.val) Fld.CAN_TB_STAT_OUTCOME = toSENT ∧ t.fld (Reg.CAN_ERRCNT x.val)
      Fld.CAN_ERRCNT_TEC = s.fld (Reg.CAN_ERRCNT x.val) Fld.CAN_ERRCNT_TEC - 1 ∧ (t.can x.val).sending = none ∧ t.flag (.can x.val) 0) ∧
  (∀ (x : CanC) (b : Fin 3) (s : State),
    s.cdRun → s.canOwns x.val b.val → (s.can x.val).sending = some b.val → (s.can x.val).abortAt = [] → (s.can x.val).sleepDue = false → (s.fld
    (Reg.CAN_CTRL x.val) Fld.CAN_CTRL_RETRY_LIM = 0 ∨ s.fld (Reg.CAN_TB_STAT x.val b.val) Fld.CAN_TB_STAT_RETRY < s.fld (Reg.CAN_CTRL x.val)
    Fld.CAN_CTRL_RETRY_LIM) → s.fld (Reg.CAN_TB_STAT x.val b.val) Fld.CAN_TB_STAT_RETRY < 255 →
    Completes (.canTxEnd x b .lostArb) s fun t =>
      t.canOwns x.val b.val ∧ t.fld (Reg.CAN_TB_STAT x.val b.val) Fld.CAN_TB_STAT_RETRY = s.fld (Reg.CAN_TB_STAT x.val b.val) Fld.CAN_TB_STAT_RETRY + 1
      ∧ (t.can x.val).sending = none ∧ t.flag (.can x.val) 15 ∧ Only (fun a => a = Reg.CAN_TB_STAT x.val b.val ∨ (FlagSrc.can x.val).owns 15 a)
      { s with cans := t.cans } t) ∧
  (∀ (x : CanC) (b : Fin 3) (s : State),
    s.cdRun → s.canOwns x.val b.val → (s.can x.val).sending = some b.val → (s.can x.val).abortAt = [] → s.fld (Reg.CAN_CTRL x.val)
    Fld.CAN_CTRL_RETRY_LIM ≠ 0 → s.fld (Reg.CAN_CTRL x.val) Fld.CAN_CTRL_RETRY_LIM ≤ s.fld (Reg.CAN_TB_STAT x.val b.val) Fld.CAN_TB_STAT_RETRY →
    Completes (.canTxEnd x b .lostArb) s fun t =>
      t.canOwns x.val b.val = false ∧ t.fld (Reg.CAN_TB_STAT x.val b.val) Fld.CAN_TB_STAT_OUTCOME = toRETRY_LIMIT ∧ t.flag (.can x.val) 15 ∧ t.flag
      (.can x.val) 1) ∧
  (∀ (x : CanC) (b : Fin 3) (s : State),
    s.cdRun → s.canOwns x.val b.val → (s.can x.val).sending = some b.val → (s.can x.val).abortAt.contains b.val →
    Completes (.canTxEnd x b .lostArb) s fun t =>
      t.canOwns x.val b.val = false ∧ t.fld (Reg.CAN_TB_STAT x.val b.val) Fld.CAN_TB_STAT_OUTCOME = toABORTED ∧ t.flag (.can x.val) 2) ∧
  (∀ (x : CanC) (b : Fin 3) (k : Bool) (d : Option Nat) (s : State),
    s.cdRun → s.canOwns x.val b.val → (s.can x.val).sending = some b.val → (s.can x.val).abortAt = [] → s.fld (Reg.CAN_ERRCNT x.val)
    Fld.CAN_ERRCNT_TEC < 248 → s.fld (Reg.CAN_CTRL x.val) Fld.CAN_CTRL_RETRY_LIM = 0 →
    Completes (.canTxEnd x b (.error false k d)) s fun t =>
      t.canOwns x.val b.val ∧ t.fld (Reg.CAN_TB_STAT x.val b.val) Fld.CAN_TB_STAT_RETRY = min (s.fld (Reg.CAN_TB_STAT x.val b.val) Fld.CAN_TB_STAT_RETRY
      + 1) 255 ∧ t.fld (Reg.CAN_ERRCNT x.val) Fld.CAN_ERRCNT_TEC = s.fld (Reg.CAN_ERRCNT x.val) Fld.CAN_ERRCNT_TEC + (if k then 8 else 0) ∧ t.flag (.can
      x.val) 14) ∧
  (∀ (x : CanC) (b : Fin 3) (i k : Bool) (d : Option Nat) (s : State),
    s.cdRun → s.canOwns x.val b.val → (s.can x.val).sending = some b.val → (s.can x.val).abortAt = [] → 256 ≤ s.fld (Reg.CAN_ERRCNT x.val)
    Fld.CAN_ERRCNT_TEC + (if k then 8 else 0) →
    Completes (.canTxEnd x b (.error i k d)) s fun t =>
      t.canState x.val = 4 ∧ t.fld (Reg.CAN_STAT x.val) Fld.CAN_STAT_BOREC = 0 ∧ t.flag (.can x.val) 14 ∧ t.flag (.can x.val) 3 ∧ (s.bit (Reg.CAN_CTRL
      x.val) Fld.CAN_CTRL_ABORT_BO → t.canOwns x.val b.val = false ∧ t.fld (Reg.CAN_TB_STAT x.val b.val) Fld.CAN_TB_STAT_OUTCOME = toBUSOFF)) ∧
  (∀ (x : CanC) (b : Fin 3) (k : Bool) (d : Option Nat) (s : State),
    s.cdRun → s.canOwns x.val b.val → (s.can x.val).sending = some b.val → (s.can x.val).abortAt = [] → (s.can x.val).dataErr.getD b.val 0 + 1 = s.fld
    (Reg.CAN_CTRL x.val) Fld.CAN_CTRL_COLL_TH →
    Completes (.canTxEnd x b (.error true k d)) s fun t =>
      t.reg (Reg.CAN_COLLID x.val) = BitVec.ofNat 32 (b.val * 2 ^ 30 + (s.reg (Reg.CAN_TB_ID x.val b.val)).toNat % 2 ^ 29) ∧ t.flag (.can x.val) 6 ∧
      t.flag (.can x.val) 14) ∧
  (∀ (x : CanC) (s : State),
    s.cdRun → s.canUp x.val → s.canState x.val = 4 →
    Completes (.busoffRecovery x) s fun t =>
      t.reg (Reg.CAN_ERRCNT x.val) = 0 ∧ t.fld (Reg.CAN_STAT x.val) Fld.CAN_STAT_BOREC = 128 ∧ t.canState x.val = 2 ∧ (∀ b : Fin 3, s.canOwns x.val
      b.val → t.canOwns x.val b.val ∧ t.fld (Reg.CAN_TB_STAT x.val b.val) Fld.CAN_TB_STAT_RETRY = 0) ∧ t.flag (.can x.val) 4 ∧ Only (fun a => a =
      Reg.CAN_ERRCNT x.val ∨ a = Reg.CAN_STAT x.val ∨ (∃ b : Fin 3, a = Reg.CAN_TB_STAT x.val b.val) ∨ a = Reg.REC_SYSSUPP ∨ (FlagSrc.can x.val).owns 4
      a) s t) ∧
  (∀ (x : CanC) (f : CanFrame) (s : State),
    s.cdRun → s.canUp x.val → (s.canState x.val = 2 ∨ s.canState x.val = 3) → f.fdf → s.bit (Reg.CAN_CTRL x.val) Fld.CAN_CTRL_FD_EN = false →
    Completes (.canRxFrame x f) s fun t =>
      t.flag (.can x.val) 14 ∧ t.fld (Reg.CAN_ERRCNT x.val) Fld.CAN_ERRCNT_REC = min (s.fld (Reg.CAN_ERRCNT x.val) Fld.CAN_ERRCNT_REC + if s.bit
      (Reg.CAN_CTRL x.val) Fld.CAN_CTRL_LISTEN then 0 else 1) 255 ∧ Only (fun a => a = Reg.CAN_ERRCNT x.val ∨ a = Reg.CAN_STAT x.val ∨ (FlagSrc.can
      x.val).owns 14 a ∨ (FlagSrc.can x.val).owns 5 a) s t) ∧
  (∀ (x : CanC) (f : CanFrame) (s : State),
    s.cdRun → s.canUp x.val → (s.canState x.val = 2 ∨ s.canState x.val = 3) → (f.fdf = false ∨ s.bit (Reg.CAN_CTRL x.val) Fld.CAN_CTRL_FD_EN) →
    (List.range 32).find? (s.canMatches x.val f) = none →
    Completes (.canRxFrame x f) s fun t =>
      t.flag (.can x.val) 9 ∧ Only (fun a => a = Reg.CAN_ERRCNT x.val ∨ a = Reg.CAN_STAT x.val ∨ (FlagSrc.can x.val).owns 9 a ∨ (FlagSrc.can x.val).owns
      5 a) { s with draws := t.draws } t) ∧
  (∀ (x : CanC) (f : CanFrame) (m : Fin 32) (s : State),
    s.cdRun → s.canUp x.val → (s.canState x.val = 2 ∨ s.canState x.val = 3) → (f.fdf = false ∨ s.bit (Reg.CAN_CTRL x.val) Fld.CAN_CTRL_FD_EN) →
    (List.range 32).find? (s.canMatches x.val f) = some m.val → s.bit (Reg.CAN_FCFG x.val m.val) Fld.CAN_FCFG_SLOT → s.bit (Reg.CAN_FCFG x.val m.val)
    Fld.CAN_FCFG_RING = false → s.canEngines x.val m.val = [] →
    Completes (.canRxFrame x f) s fun t =>
      t.bit (Reg.CAN_FSTAT x.val m.val) Fld.CAN_FSTAT_SHADOW ∧ File.get [] (t.can x.val).shadow m.val = wordsOf (canRecord f m.val (((s.can
      x.val).records + 1) % 65536)) 20 ∧ (s.bit (Reg.CAN_FSTAT x.val m.val) Fld.CAN_FSTAT_SHADOW → t.flag (.can x.val) 7) ∧ Only (fun a => a =
      Reg.CAN_ERRCNT x.val ∨ a = Reg.CAN_STAT x.val ∨ a = Reg.CAN_FSTAT x.val m.val ∨ (FlagSrc.can x.val).owns 7 a ∨ (FlagSrc.can x.val).owns 5 a)
      { s with draws := t.draws, cans := t.cans } t) ∧
  (∀ (x : CanC) (f : CanFrame) (s : State),
    s.cdRun → s.canUp x.val → s.canState x.val = 5 → s.bit (Reg.CAN_CTRL x.val) Fld.CAN_CTRL_WAKE_MODE → s.canWakeFrame x.val f → (f.fdf = false ∨
    s.bit (Reg.CAN_CTRL x.val) Fld.CAN_CTRL_FD_EN) → (List.range 32).find? (s.canMatches x.val f) = none →
    Completes (.canRxFrame x f) s fun t =>
      t.canState x.val = 1 ∧ t.flag (.can x.val) 10 ∧ t.flag (.can x.val) 9 ∧ Only (fun a => a = Reg.CAN_STAT x.val ∨ (FlagSrc.can x.val).owns 9 a ∨
      (FlagSrc.can x.val).owns 10 a) s t) ∧
  (∀ (x : CanC) (h : Bool) (s : State),
    s.cdRun → s.canUp x.val → (s.canState x.val = 2 ∨ s.canState x.val = 3) →
    Completes (.canRxError x h) s fun t =>
      t.flag (.can x.val) 14 ∧ t.fld (Reg.CAN_ERRCNT x.val) Fld.CAN_ERRCNT_REC = min (s.fld (Reg.CAN_ERRCNT x.val) Fld.CAN_ERRCNT_REC + if s.bit
      (Reg.CAN_CTRL x.val) Fld.CAN_CTRL_LISTEN then 0 else if h then 8 else 1) 255 ∧ Only (fun a => a = Reg.CAN_ERRCNT x.val ∨ a = Reg.CAN_STAT x.val ∨
      (FlagSrc.can x.val).owns 14 a ∨ (FlagSrc.can x.val).owns 5 a) s t) ∧
  (∀ (x : CanC) (s : State),
    s.cdRun → s.canUp x.val → s.canState x.val = 5 → s.bit (Reg.CAN_CTRL x.val) Fld.CAN_CTRL_WAKE_MODE = false →
    Completes (.canWakeEdge x) s fun t =>
      t.canState x.val = 1 ∧ t.flag (.can x.val) 10 ∧ Only (fun a => a = Reg.CAN_STAT x.val ∨ (FlagSrc.can x.val).owns 10 a) s t) ∧
  (∀ (x : CanC) (s : State),
    s.cdRun → s.canUp x.val → s.canState x.val = 1 → s.fld (Reg.CAN_ERRCNT x.val) Fld.CAN_ERRCNT_TEC < 128 → s.fld (Reg.CAN_ERRCNT x.val)
    Fld.CAN_ERRCNT_REC < 128 →
    Completes (.canIntegrationDone x) s fun t =>
      t.canState x.val = 2 ∧ Only (fun a => a = Reg.CAN_STAT x.val) s t) ∧
  (∀ (x : CanC) (s : State),
    s.cdRun → s.canUp x.val → s.canState x.val = 1 → s.fld (Reg.CAN_ERRCNT x.val) Fld.CAN_ERRCNT_TEC < 256 → (128 ≤ s.fld (Reg.CAN_ERRCNT x.val)
    Fld.CAN_ERRCNT_TEC ∨ 128 ≤ s.fld (Reg.CAN_ERRCNT x.val) Fld.CAN_ERRCNT_REC) →
    Completes (.canIntegrationDone x) s fun t =>
      t.canState x.val = 3 ∧ t.flag (.can x.val) 5 ∧ Only (fun a => a = Reg.CAN_STAT x.val ∨ (FlagSrc.can x.val).owns 5 a) s t) ∧
  (∀ (x : CanC) (s : State),
    s.cdRun → s.canUp x.val → s.canState x.val = 1 → 256 ≤ s.fld (Reg.CAN_ERRCNT x.val) Fld.CAN_ERRCNT_TEC →
    Completes (.canIntegrationDone x) s fun t =>
      t.canState x.val = 4 ∧ Only (fun a => a = Reg.CAN_STAT x.val) s t)

/-- Submission rings: fetch and execution of descriptors (R386, R387, R389, R390, R391, R392, R394, R396, R397, R398). Where the manual leaves a
corner open the clauses follow the model's choice: log entries 65 and 66. -/
def Obligations.DescriptorsComplete : Prop :=
  (∀ (r : Fin 12) (n : Nat) (s : State),
    s.cdRun → s.fetchable r.val = n → 0 < n → s.firstInLine r.val → (s.ring r.val).waiting = none → (((s.ring r.val).queue ++ ((List.range n).map fun
    j => (⟨(s.devIdx r.val + j) % 2 ^ 32, s.hostBytes (s.ringBase r.val + 64 * ((s.devIdx r.val + j) % 2 ^ 32 % s.ringN r.val)) 64, true⟩ :
    Fetched))).head?.all fun f => (s.refusal r.val f).isNone && f.opcode != 4 && f.opcode != 6) →
    Completes (.descriptorFetch r true) s fun t =>
      t.devIdx r.val = (s.devIdx r.val + n) % 2 ^ 32 ∧ (t.ring r.val).queue = (s.ring r.val).queue ++ ((List.range n).map fun j => (⟨(s.devIdx r.val +
      j) % 2 ^ 32, s.hostBytes (s.ringBase r.val + 64 * ((s.devIdx r.val + j) % 2 ^ 32 % s.ringN r.val)) 64, true⟩ : Fetched)) ∧ t.fld
      (Reg.HIF_RING_STAT r.val) Fld.HIF_RING_STAT_OUT = s.fld (Reg.HIF_RING_STAT r.val) Fld.HIF_RING_STAT_OUT + n ∧ Only (fun a => a = Reg.HIF_RING_STAT
      r.val ∨ a = Reg.HIF_RING_DEVIDX r.val) { s with barkerSt := t.barkerSt } t) ∧
  (∀ (r : Fin 12) (s : State),
    s.cdRun → s.fetchable r.val ≠ 0 → s.firstInLine r.val → (s.ring r.val).waiting = none → (s.ring r.val).queue = [] →
    Completes (.descriptorFetch r false) s fun t =>
      t.flag .hif 1 ∧ t.fld (Reg.HIF_RING_STAT r.val) Fld.HIF_RING_STAT_ERR = csDMAERR) ∧
  (∀ (r : Fin 12) (f : Fetched) (s : State),
    s.cdRun → (s.ring r.val).waiting = none → (s.ring r.val).queue = [f] → f.opcode = 0 → s.refusal r.val f = none → (f.headOk && f.zero 8 64) →
    s.ringOn r.val → s.canComplete r.val true → (s.ring r.val).doneSet = [] → f.index = s.doneHead r.val → s.events = [] →
    Completes (.nop r) s fun t =>
      t.devIdx (s.cqOf r.val) = (s.devIdx (s.cqOf r.val) + 1) % 2 ^ 32 ∧ t.doneHead r.val = (f.index + 1) % 2 ^ 32 ∧ (t.ring r.val).queue = [] ∧
      t.hostMem = s.completionMem r.val ((f.index + 1) % 2 ^ 32) (completionBytes f.opcode 0 csSUCCESS r.val f.tag f.index 0 s.tbFine []) ∧ Only (fun a
      => a = Reg.HIF_RING_STAT r.val ∨ a = Reg.HIF_RING_DEVIDX (s.cqOf r.val) ∨ a = Reg.HIF_RING_DONE (s.cqOf r.val) ∨ a = Reg.HIF_RING_DONE r.val) s t) ∧
  (∀ (r : Fin 12) (f : Fetched) (s : State),
    s.cdRun → (s.ring r.val).waiting = none → (s.ring r.val).queue = [f] → f.opcode = 0 → s.refusal r.val f = none → (f.headOk && f.zero 8 64) = false
    →
    Completes (.nop r) s fun t =>
      t.fld (Reg.HIF_RING_STAT r.val) Fld.HIF_RING_STAT_ERR = csBADFIELD ∧ t.reg Reg.HIF_ERRRING = BitVec.ofNat 32 (csBADFIELD * 256 + r.val)) ∧
  (∀ (r : Fin 12) (f : Fetched) (s : State),
    s.cdRun → (s.ring r.val).waiting = none → (s.ring r.val).queue = [f] → f.opcode = 1 → s.refusal r.val f = none → f.regOk 12 (0x10 + 4 * f.byteAt
    0x0C) → s.ringOn r.val → s.canComplete r.val true → (s.ring r.val).doneSet = [] → f.index = s.doneHead r.val → s.cqOf r.val < 24 → ((List.range
    (f.byteAt 0x0C)).all fun k => Nat.ble 0x3000 (f.fieldAt 8 4 + 4 * k) && Nat.blt (f.fieldAt 8 4 + 4 * k) 0x6000 && (Reg.row (f.fieldAt 8 4 + 4 *
    k)).any (fun x => x.present s.variant (f.fieldAt 8 4 + 4 * k)) && !([Reg.PWR_HU_CMD, Reg.PWR_VIO_CFG].contains (f.fieldAt 8 4 + 4 * k))) →
    ((List.range 4).all fun i => (s.txn i).staged == []) →
    Completes (.regWrite r) s fun t =>
      (∀ a, a < 0x60000 → t.reg a = ((List.range (f.byteAt 0x0C)).foldl (fun (u : State) k => u.busWrite .host (f.fieldAt 8 4 + 4 * k) (f.word 0x10 k))
      s).reg a) ∧ t.devIdx (s.cqOf r.val) = (s.devIdx (s.cqOf r.val) + 1) % 2 ^ 32 ∧ t.doneHead r.val = (f.index + 1) % 2 ^ 32 ∧ (t.ring r.val).queue =
      []) ∧
  (∀ (r : Fin 12) (f : Fetched) (s : State),
    s.cdRun → (s.ring r.val).waiting = none → (s.ring r.val).queue = [f] → f.opcode = 1 → s.refusal r.val f = none → f.regOk 12 (0x10 + 4 * f.byteAt
    0x0C) = false →
    Completes (.regWrite r) s fun t =>
      t.fld (Reg.HIF_RING_STAT r.val) Fld.HIF_RING_STAT_ERR = csBADFIELD ∧ t.reg Reg.HIF_ERRRING = BitVec.ofNat 32 (csBADFIELD * 256 + r.val)) ∧
  (∀ (r : Fin 12) (f : Fetched) (s : State),
    s.cdRun → (s.ring r.val).waiting = none → (s.ring r.val).queue = [f] → f.opcode = 2 → s.refusal r.val f = none → f.regOk 10 0x10 → s.ringOn r.val
    → s.canComplete r.val true → (s.ring r.val).doneSet = [] → f.index = s.doneHead r.val → s.events = [] →
    Completes (.regRead r) s fun t =>
      t.devIdx (s.cqOf r.val) = (s.devIdx (s.cqOf r.val) + 1) % 2 ^ 32 ∧ t.doneHead r.val = (f.index + 1) % 2 ^ 32 ∧ (t.ring r.val).queue = [] ∧
      t.hostMem = s.completionMem r.val ((f.index + 1) % 2 ^ 32) (completionBytes f.opcode 0 csSUCCESS r.val f.tag f.index 0 s.tbFine (s.readRun
      (f.fieldAt 8 4) (f.byteAt 0x0C)).2) ∧ Only (fun a => a = Reg.HIF_RING_STAT r.val ∨ a = Reg.HIF_RING_DEVIDX (s.cqOf r.val) ∨ a = Reg.HIF_RING_DONE
      (s.cqOf r.val) ∨ a = Reg.HIF_RING_DONE r.val ∨ a = Reg.CLK_TB_HI ∨ a = Reg.ETH_PTP_SEC_HI ∨ a = Reg.ETH_PTP_NS) s t) ∧
  (∀ (r : Fin 12) (f : Fetched) (s : State),
    s.cdRun → (s.ring r.val).waiting = none → (s.ring r.val).queue = [f] → f.opcode = 2 → s.refusal r.val f = none → f.regOk 10 0x10 = false →
    Completes (.regRead r) s fun t =>
      t.fld (Reg.HIF_RING_STAT r.val) Fld.HIF_RING_STAT_ERR = csBADFIELD ∧ t.reg Reg.HIF_ERRRING = BitVec.ofNat 32 (csBADFIELD * 256 + r.val)) ∧
  (∀ (r : Fin 12) (f : Fetched) (k : Clu) (s : State),
    s.cdRun → (s.ring r.val).waiting = none → (s.ring r.val).queue = [f] → f.opcode = 3 → s.refusal r.val f = none → f.setpointOk → s.ringOn r.val →
    s.canComplete r.val true → (s.ring r.val).doneSet = [] → f.index = s.doneHead r.val → s.cqOf r.val < 24 → ((List.range 4).all fun i => (s.txn
    i).staged == []) → f.byteAt 8 = k.val → k.val < s.variant.clusters → f.byteAt 0x0B = 1 →
    Completes (.setpoint r) s fun t =>
      (t.cluster k.val).spPend = some (f.fieldAt 0x0C 2) ∧ (t.cluster k.val).spFrom = s.tb ∧ (∀ i : Fin 12, i.val < f.byteAt 0x0A → t.reg (Reg.CLU_SP
      k.val (f.byteAt 9 + i.val)) = f.word 0x10 i.val) ∧ t.devIdx (s.cqOf r.val) = (s.devIdx (s.cqOf r.val) + 1) % 2 ^ 32 ∧ t.doneHead r.val = (f.index
      + 1) % 2 ^ 32 ∧ (t.ring r.val).queue = [] ∧ Only (fun a => a = Reg.HIF_RING_STAT r.val ∨ a = Reg.HIF_RING_DEVIDX (s.cqOf r.val) ∨ a =
      Reg.HIF_RING_DONE (s.cqOf r.val) ∨ a = Reg.HIF_RING_DONE r.val ∨ a = Reg.CLU_SP_ACK k.val ∨ (∃ i : Fin 16, a = Reg.CLU_SP k.val i.val) ∨
      (FlagSrc.clu k.val).owns 3 a) { s with clusters := t.clusters } t) ∧
  (∀ (r : Fin 12) (f : Fetched) (s : State),
    s.cdRun → (s.ring r.val).waiting = none → (s.ring r.val).queue = [f] → f.opcode = 3 → s.refusal r.val f = none → f.setpointOk = false →
    Completes (.setpoint r) s fun t =>
      t.fld (Reg.HIF_RING_STAT r.val) Fld.HIF_RING_STAT_ERR = csBADFIELD ∧ t.reg Reg.HIF_ERRRING = BitVec.ofNat 32 (csBADFIELD * 256 + r.val)) ∧
  (∀ (r : Fin 12) (dma : DmaRes) (f : Fetched) (x : Nat) (b : Nat) (s : State),
    s.cdRun → (s.ring r.val).waiting = none → (s.ring r.val).queue = [f] → f.opcode = 5 → s.refusal r.val f = none → f.canOk x → s.boundTo r.val =
    some x → s.bit (Reg.CAN_CTRL x) Fld.CAN_CTRL_EN → s.freeBuffer x = some b → (f.byteAt 9 = 1 → dma.ok) →
    Completes (.canTx r dma) s fun t =>
      t.canOwns x b ∧ t.reg (Reg.CAN_TB_ID x b) = BitVec.ofNat 32 (f.fieldAt 0x0C 4) ∧ t.reg (Reg.CAN_TB_CTL x b) = BitVec.ofNat 32 (f.byteAt 0x10) ∧ (∀
      i : Fin 16, 4 * i.val < (if f.byteAt 9 = 1 then s.hostBytes (f.fieldAt 0x18 8) f.canLength else (f.bytes.drop 0x18).take f.canLength).length →
      t.reg (Reg.CAN_TB_DATA x b i.val) = BitVec.ofNat 32 ((wordsOf ((if f.byteAt 9 = 1 then s.hostBytes (f.fieldAt 0x18 8) f.canLength else
      (f.bytes.drop 0x18).take f.canLength) ++ List.replicate 64 0) 16).getD i.val 0)) ∧ (t.ring r.val).inBuf = (s.ring r.val).inBuf ++ [(f, b)] ∧
      (t.ring r.val).queue = [] ∧ Only (fun a => a = Reg.CAN_TB_ID x b ∨ a = Reg.CAN_TB_CTL x b ∨ a = Reg.CAN_TB_STAT x b ∨ a = Reg.CAN_STAT x ∨ (∃ i :
      Fin 16, a = Reg.CAN_TB_DATA x b i.val)) { s with cans := t.cans } t) ∧
  (∀ (r : Fin 12) (dma : DmaRes) (f : Fetched) (x : Nat) (s : State),
    s.cdRun → (s.ring r.val).waiting = none → (s.ring r.val).queue = [f] → f.opcode = 5 → s.refusal r.val f = none → f.canOk x → s.boundTo r.val =
    some x → s.bit (Reg.CAN_CTRL x) Fld.CAN_CTRL_EN = false →
    Completes (.canTx r dma) s fun t =>
      t.fld (Reg.HIF_RING_STAT r.val) Fld.HIF_RING_STAT_ERR = csSTATE) ∧
  (∀ (r : Fin 12) (f : Fetched) (s : State),
    s.cdRun → (s.ring r.val).waiting = none → (s.ring r.val).queue = [f] → f.opcode = 7 → s.refusal r.val f = none → s.ledgerOk f → s.ringOn r.val →
    s.canComplete r.val true → (s.ring r.val).doneSet = [] → f.index = s.doneHead r.val → s.events = [] →
    Completes (.ledgerRead r true) s fun t =>
      t.devIdx (s.cqOf r.val) = (s.devIdx (s.cqOf r.val) + 1) % 2 ^ 32 ∧ t.doneHead r.val = (f.index + 1) % 2 ^ 32 ∧ (t.ring r.val).queue = [] ∧
      t.hostMem = (s.putHost (f.fieldAt 0x18 8) ((s.recordsFrom (f.byteAt 8) (f.fieldAt 0x10 8) (f.fieldAt 0x0C 4)).flatMap JRec.bytes)).completionMem
      r.val ((f.index + 1) % 2 ^ 32) (completionBytes f.opcode 0 csSUCCESS r.val f.tag f.index (b2n ((s.journal.find? fun j => j.region == f.byteAt
      8).any fun j => Nat.blt (f.fieldAt 0x10 8) j.ivl)) s.tbFine (leBytes 4 (s.recordsFrom (f.byteAt 8) (f.fieldAt 0x10 8) (f.fieldAt 0x0C 4)).length
      ++ leBytes 4 0 ++ leBytes 8 ((((s.recordsFrom (f.byteAt 8) (f.fieldAt 0x10 8) (f.fieldAt 0x0C 4)).head?).map (·.ivl)).getD 0) ++ leBytes 8
      ((((s.recordsFrom (f.byteAt 8) (f.fieldAt 0x10 8) (f.fieldAt 0x0C 4)).getLast?).map (·.ivl)).getD 0))) ∧ Only (fun a => a = Reg.HIF_RING_STAT
      r.val ∨ a = Reg.HIF_RING_DEVIDX (s.cqOf r.val) ∨ a = Reg.HIF_RING_DONE (s.cqOf r.val) ∨ a = Reg.HIF_RING_DONE r.val) s t) ∧
  (∀ (r : Fin 12) (f : Fetched) (s : State),
    s.cdRun → (s.ring r.val).waiting = none → (s.ring r.val).queue = [f] → f.opcode = 7 → s.refusal r.val f = none → s.ledgerOk f →
    Completes (.ledgerRead r false) s fun t =>
      t.flag .hif 1 ∧ t.fld (Reg.HIF_RING_STAT r.val) Fld.HIF_RING_STAT_ERR = csDMAERR)

/-- Doorbells and interrupt messages (R386, R399, R400, R456). Where the manual leaves a corner open the clauses follow the model's choice: log
entries 19, 65 and 94. -/
def Obligations.DoorbellsComplete : Prop :=
  (∀ (v : Word) (s : State),
    s.cdRun → s.barker → s.barkerSt.reading = false →
    Completes (.nudge v) s fun t =>
      t.barkerSt.reading ∧ Only (fun _ => False) { s with barkerSt := t.barkerSt } t) ∧
  (∀ (v : Word) (s : State),
    s.cdRun → s.barker → s.barkerSt.reading →
    Completes (.nudge v) s fun t =>
      t.barkerSt.again ∧ Only (fun _ => False) { s with barkerSt := t.barkerSt } t) ∧
  (∀ (v : Word) (s : State),
    s.cdRun → s.bit Reg.HIF_STAT Fld.HIF_STAT_BME = false →
    Completes (.nudge v) s fun t =>
      t.barkerSt.pollAt = s.now ∧ t.flag .hif 7 ∧ Only (fun _ => False) { s with barkerSt := t.barkerSt } t) ∧
  (∀ (s : State),
    s.cdRun → s.bit Reg.HIF_CTRL Fld.HIF_CTRL_POLL_EN → s.barkerSt.reading = false → s.since s.barkerSt.pollAt (us (s.fld Reg.HIF_CTRL
    Fld.HIF_CTRL_POLL)) → s.barker →
    Completes .doorbellPoll s fun t =>
      t.barkerSt.reading ∧ Only (fun _ => False) { s with barkerSt := t.barkerSt } t) ∧
  (∀ (ok : Bool) (s : State),
    s.cdRun → s.barkerSt.reading → (ok = false ∨ s.barker = false) →
    Completes (.doorbellReadDone ok) s fun t =>
      t.barkerSt.pollAt = s.now ∧ t.barkerSt.reading = s.barkerSt.again ∧ t.barkerSt.again = false ∧ Only (fun _ => False)
      { s with barkerSt := t.barkerSt } t) ∧
  (∀ (r : Ring) (v : Nat) (s : State),
    s.cdRun → s.barkerSt.reading → s.barker → ((List.range 32).filter s.ringOn).head? = some r.val → s.doorbell r.val = v → s.tailOk r.val v → s.bit
    (Reg.HIF_RING_STAT r.val) Fld.HIF_RING_STAT_FLUSHING = false →
    Completes (.doorbellReadDone true) s fun t =>
      t.hostIdx r.val = v ∧ t.barkerSt.reading = s.barkerSt.again) ∧
  (∀ (r : Ring) (v : Nat) (s : State),
    s.cdRun → s.barkerSt.reading → s.barker → ((List.range 32).filter s.ringOn).head? = some r.val → s.doorbell r.val = v → s.tailOk r.val v = false →
    s.bit (Reg.HIF_RING_STAT r.val) Fld.HIF_RING_STAT_STOPPED = false →
    Completes (.doorbellReadDone true) s fun t =>
      t.bit (Reg.HIF_RING_STAT r.val) Fld.HIF_RING_STAT_STOPPED ∧ t.flag .hif 0) ∧
  (∀ (r : Ring) (x : Nat) (s : State),
    s.cdRun → Fld.HIF_RING_IRQ_EN.on (s.reg (Reg.HIF_RING_IRQ r.val)) → Fld.HIF_RING_IRQ_TIMER.get (s.reg (Reg.HIF_RING_IRQ r.val)) ≠ 0 → (s.ring
    r.val).irqSince = some x → s.since x (us (Fld.HIF_RING_IRQ_TIMER.get (s.reg (Reg.HIF_RING_IRQ r.val)))) → s.bit Reg.HIF_STAT Fld.HIF_STAT_BME →
    (s.reg (Reg.MSIX_CTRL (Fld.HIF_RING_IRQ_VECTOR.get (s.reg (Reg.HIF_RING_IRQ r.val))))).toNat % 2 = 0 → ((s.vec (Fld.HIF_RING_IRQ_VECTOR.get (s.reg
    (Reg.HIF_RING_IRQ r.val)))).last.all fun y => s.since y (us 1)) → s.events = [] →
    Completes (.irqTimer r) s fun t =>
      (t.vec (Fld.HIF_RING_IRQ_VECTOR.get (s.reg (Reg.HIF_RING_IRQ r.val)))).sent = (s.vec (Fld.HIF_RING_IRQ_VECTOR.get (s.reg (Reg.HIF_RING_IRQ
      r.val)))).sent + 1 ∧ (t.vec (Fld.HIF_RING_IRQ_VECTOR.get (s.reg (Reg.HIF_RING_IRQ r.val)))).waiting = false ∧ (t.vec (Fld.HIF_RING_IRQ_VECTOR.get
      (s.reg (Reg.HIF_RING_IRQ r.val)))).last = some s.now ∧ (t.ring r.val).irqCount = 0 ∧ (t.ring r.val).irqSince = none ∧ Only (fun _ => False) s t) ∧
  (∀ (v : Fin 64) (s : State),
    s.cdRun → (s.vec v.val).waiting → ((s.vec v.val).last.all fun y => s.since y (us 1)) → s.bit Reg.HIF_STAT Fld.HIF_STAT_BME → (s.reg (Reg.MSIX_CTRL
    v.val)).toNat % 2 = 0 → s.events = [] →
    Completes (.msiHoldoffEnd v) s fun t =>
      (t.vec v.val).sent = (s.vec v.val).sent + 1 ∧ (t.vec v.val).waiting = false ∧ (t.vec v.val).last = some s.now ∧ Only (fun _ => False) s t) ∧
  (∀ (v : Fin 64) (s : State),
    s.cdRun → (s.vec v.val).waiting → ((s.vec v.val).last.all fun y => s.since y (us 1)) → s.bit Reg.HIF_STAT Fld.HIF_STAT_BME → (s.reg (Reg.MSIX_CTRL
    v.val)).toNat % 2 = 1 →
    Completes (.msiHoldoffEnd v) s fun t =>
      t.bit (Reg.MSIX_PBA (v.val / 32)) ⟨v.val % 32, 1⟩ ∧ Only (fun _ => False) s t) ∧
  (∀ (v : Fin 64) (s : State),
    s.cdRun → (s.vec v.val).waiting → ((s.vec v.val).last.all fun y => s.since y (us 1)) → s.bit Reg.HIF_STAT Fld.HIF_STAT_BME = false →
    Completes (.msiHoldoffEnd v) s fun t =>
      (t.vec v.val).withheld ∧ Only (fun _ => False) s t) ∧
  (∀ (s : State),
    s.cdRun → s.bit Reg.HIF_STAT Fld.HIF_STAT_LINKUP → s.bit Reg.HIF_STAT Fld.HIF_STAT_BME = false →
    Completes .busMasterEnable s fun t =>
      t.bit Reg.HIF_STAT Fld.HIF_STAT_BME ∧ ∀ v : Fin 64, (t.vec v.val).withheld = false)

/-- Rings enabled and disabled, resets of the host interface and power states (R382, R383, R385, R400, R401, R416, R417). Where the manual leaves a
corner open the clauses follow the model's choice: log entries 65, 94 and 99. -/
def Obligations.RingControlCompletes : Prop :=
  (∀ (r : Ring) (s : State),
    s.cdRun → s.ringOn r.val = false → s.mayEnable r.val = false →
    Completes (.ringEnable r) s fun t =>
      t.flag .hif 2 ∧ t.ringOn r.val = false ∧ Only (fun _ => False) s t) ∧
  (∀ (r : Ring) (s : State),
    s.cdRun → s.ringOn r.val = false → s.mayEnable r.val → s.barker →
    Completes (.ringEnable r) s fun t =>
      t.ringOn r.val ∧ t.bit (Reg.HIF_RING_STAT r.val) Fld.HIF_RING_STAT_ACTIVE ∧ t.bit (Reg.HIF_RING_STAT r.val) Fld.HIF_RING_STAT_FLUSHING = false) ∧
  (∀ (r : Ring) (s : State),
    s.cdRun → s.ringOn r.val = false → s.mayEnable r.val → s.barker = false →
    Completes (.ringEnable r) s fun t =>
      t.ringOn r.val ∧ t.bit (Reg.HIF_RING_STAT r.val) Fld.HIF_RING_STAT_ACTIVE ∧ t.bit (Reg.HIF_RING_STAT r.val) Fld.HIF_RING_STAT_FLUSHING ∧ (s.bit
      Reg.HIF_STAT Fld.HIF_STAT_BME = false → t.flag .hif 7) ∧ Only (fun a => a = Reg.HIF_RING_CFG r.val ∨ a = Reg.HIF_RING_STAT r.val) s t) ∧
  (∀ (r : Ring) (s : State),
    s.cdRun → s.ringOn r.val = false → s.mayEnable r.val → s.barker → r.val < 12 → (s.ring r.val).held = [] → s.executing r.val = [] → s.doorbell
    r.val = (s.wbWord r.val).1 →
    Completes (.ringEnable r) s fun t =>
      t.doneHead r.val = (s.wbWord r.val).1 ∧ t.devIdx r.val = (s.wbWord r.val).1 ∧ t.hostIdx r.val = (s.wbWord r.val).1) ∧
  (∀ (r : Ring) (s : State),
    s.cdRun → s.ringOn r.val = false → s.mayEnable r.val → s.barker → 12 ≤ r.val → r.val < 24 → (s.wbWord r.val).2 = (s.reg Reg.HIF_EPOCH).toNat →
    Completes (.ringEnable r) s fun t =>
      t.devIdx r.val = (s.wbWord r.val).1 ∧ t.doneHead r.val = (s.wbWord r.val).1) ∧
  (∀ (r : Ring) (s : State),
    s.cdRun → s.ringOn r.val → 12 ≤ r.val →
    Completes (.ringDisable r) s fun t =>
      t.ringOn r.val = false ∧ t.bit (Reg.HIF_RING_STAT r.val) Fld.HIF_RING_STAT_ACTIVE = false ∧ t.bit (Reg.HIF_RING_STAT r.val)
      Fld.HIF_RING_STAT_FLUSHING = false ∧ Only (fun a => a = Reg.HIF_RING_CFG r.val ∨ a = Reg.HIF_RING_STAT r.val) s t) ∧
  (∀ (r : Ring) (s : State),
    s.cdRun → s.ringOn r.val → r.val < 12 → s.boundTo r.val = none → (s.ring r.val).waiting = none →
    Completes (.ringDisable r) s fun t =>
      t.ringOn r.val = false ∧ t.bit (Reg.HIF_RING_STAT r.val) Fld.HIF_RING_STAT_ACTIVE = false ∧ t.bit (Reg.HIF_RING_STAT r.val)
      Fld.HIF_RING_STAT_FLUSHING = false ∧ t.devIdx r.val = s.hostIdx r.val ∧ (t.ring r.val).queue = []) ∧
  (∀ (r : Ring) (p : Fetched × Nat) (s : State),
    s.cdRun → s.ringOn r.val → r.val < 12 → s.boundTo r.val = none → (s.ring r.val).waiting = some p →
    Completes (.ringDisable r) s fun t =>
      t.ringOn r.val = false ∧ t.bit (Reg.HIF_RING_STAT r.val) Fld.HIF_RING_STAT_FLUSHING ∧ (t.ring r.val).waiting = some p ∧ Only (fun a => a =
      Reg.HIF_RING_CFG r.val ∨ a = Reg.HIF_RING_STAT r.val) s t) ∧
  (∀ (s : State),
    s.cdRun →
    Completes .flr s fun t =>
      (∀ r : Fin 32, t.ringOn r.val = false) ∧ t.reg Reg.HIF_EPOCH = s.reg Reg.HIF_EPOCH ∧ t.reg (Reg.MBX_EPOCH 0) = BitVec.ofNat 32 (((s.reg
      (Reg.MBX_EPOCH 0)).toNat + 1) % 65536) ∧ t.barkerSt = { pollAt := s.now }) ∧
  (∀ (s : State),
    s.cdRun → s.bit Reg.HIF_STAT Fld.HIF_STAT_LINKUP →
    Completes .hostLinkDown s fun t =>
      (∀ r : Fin 32, t.ringOn r.val = false) ∧ t.bit Reg.HIF_STAT Fld.HIF_STAT_LINKUP = false ∧ t.bit Reg.HIF_STAT Fld.HIF_STAT_BME = false ∧ t.reg
      Reg.HIF_EPOCH = s.reg Reg.HIF_EPOCH ∧ t.reg (Reg.MBX_EPOCH 0) = BitVec.ofNat 32 (((s.reg (Reg.MBX_EPOCH 0)).toNat + 1) % 65536) ∧ t.bit
      Reg.CHG_SN_STAT Fld.CHG_SN_STAT_FB) ∧
  (∀ (s : State),
    s.cdRun → s.bit Reg.HIF_STAT Fld.HIF_STAT_D3HOT = false →
    Completes (.powerStateChange true) s fun t =>
      t.bit Reg.HIF_STAT Fld.HIF_STAT_D3HOT ∧ Only (fun a => a = Reg.HIF_STAT) s t) ∧
  (∀ (s : State),
    s.cdRun → s.bit Reg.HIF_STAT Fld.HIF_STAT_D3HOT →
    Completes (.powerStateChange false) s fun t =>
      t.bit Reg.HIF_STAT Fld.HIF_STAT_D3HOT = false)

/-- Capture rings (R403). Where the manual leaves a corner open the clauses follow the model's choice: log entry 67. -/
def Obligations.CaptureCompletes : Prop :=
  (∀ (r : Ring) (l : List Byte) (s : State),
    s.cdRun → 28 ≤ r.val → s.ringOn r.val → 4096 ≤ (s.ring r.val).block.length →
    Completes (.captureRecord r l) s fun t =>
      (t.ring r.val).lost = min ((s.ring r.val).lost + 1) 0xFFFFFFFF ∧ t.flag .hif 4 ∧ Only (fun _ => False) s t) ∧
  (∀ (r : Ring) (l : List Byte) (s : State),
    s.cdRun → 28 ≤ r.val → s.ringOn r.val → (s.ring r.val).block.length < 4096 → ((s.ring r.val).block.length + 1 < s.blkSize r.val / 16 - 1 ∨ s.room
    r.val = false ∨ s.barker = false) →
    Completes (.captureRecord r l) s fun t =>
      (t.ring r.val).block = (s.ring r.val).block ++ [(l ++ List.replicate 16 0).take 16] ∧ (t.ring r.val).blockAt = some ((s.ring r.val).blockAt.getD
      s.now) ∧ Only (fun _ => False) s t) ∧
  (∀ (r : Ring) (l : List Byte) (s : State),
    s.cdRun → 28 ≤ r.val → s.ringOn r.val → (s.ring r.val).block.length < 4096 → (s.ring r.val).block.length + 1 = s.blkSize r.val / 16 - 1 → s.room
    r.val → s.barker →
    Completes (.captureRecord r l) s fun t =>
      t.devIdx r.val = (s.devIdx r.val + 1) % 2 ^ 32 ∧ (t.ring r.val).block = [] ∧ (t.ring r.val).blockAt = none ∧ (t.ring r.val).lost = 0 ∧ Only (fun a
      => a = Reg.HIF_RING_DEVIDX r.val ∨ a = Reg.HIF_RING_DONE r.val) s t) ∧
  (∀ (r : Ring) (x : Nat) (s : State),
    s.cdRun → 28 ≤ r.val → s.ringOn r.val → (s.ring r.val).blockAt = some x → s.since x (us (s.fld (Reg.HIF_CAP_CFG (r.val - 28))
    Fld.HIF_CAP_CFG_FLUSH)) → s.room r.val → s.barker →
    Completes (.captureFlush r) s fun t =>
      t.devIdx r.val = (s.devIdx r.val + 1) % 2 ^ 32 ∧ (t.ring r.val).block = (s.ring r.val).block.drop (s.blkSize r.val / 16 - 1) ∧ (t.ring r.val).lost
      = 0 ∧ Only (fun a => a = Reg.HIF_RING_DEVIDX r.val ∨ a = Reg.HIF_RING_DONE r.val) s t)

/-- Mailboxes: notices (R408, R409, R410, R411, R412, R413, R414, R415, R416, R419). Where the manual leaves a corner open the clauses follow the
model's choice: log entries 68 and 97. -/
def Obligations.NoticesComplete : Prop :=
  (∀ (p : Party) (u : Bool) (c : Chan) (v : Word) (s : State),
    s.cdRun → s.reaches c.val (partyCode p) u = false →
    Completes (.noticePost p u c v) s fun t =>
      t.flag .mbx 10 ∧ (∀ i : Fin 5, (t.trip i.val).respErr = ((s.refused (partyCode p)).trip i.val).respErr) ∧ Only (fun _ => False) s t) ∧
  (∀ (p : Party) (u : Bool) (c : Chan) (v : Word) (s : State),
    s.cdRun → s.reaches c.val (partyCode p) u → s.partyUp (s.endpoint c.val (!(s.sends c.val (partyCode p)))) → (s.dir c.val (s.sends c.val (partyCode
    p))).busy = false → s.endpoint c.val (!(s.sends c.val (partyCode p))) ≠ 6 →
    Completes (.noticePost p u c v) s fun t =>
      (t.dir c.val (s.sends c.val (partyCode p))).busy ∧ (t.dir c.val (s.sends c.val (partyCode p))).valid ∧ (t.dir c.val (s.sends c.val (partyCode
      p))).read = false ∧ (t.dir c.val (s.sends c.val (partyCode p))).tag = v.toNat ∧ (t.dir c.val (s.sends c.val (partyCode p))).ptr = (s.dir c.val
      (s.sends c.val (partyCode p))).ptrLo + 2 ^ 32 * (s.dir c.val (s.sends c.val (partyCode p))).ptrHi ∧ (t.dir c.val (s.sends c.val (partyCode
      p))).seq = ((s.dir c.val (s.sends c.val (partyCode p))).seq + 1) % 256 ∧ (t.dir c.val (s.sends c.val (partyCode p))).posted = s.now ∧ Only (fun a
      => a = Reg.MBX_CH_STAT c.val) s t) ∧
  (∀ (p : Party) (u : Bool) (c : Chan) (v : Word) (s : State),
    s.cdRun → s.reaches c.val (partyCode p) u → s.partyUp (s.endpoint c.val (!(s.sends c.val (partyCode p)))) → (s.dir c.val (s.sends c.val (partyCode
    p))).busy →
    Completes (.noticePost p u c v) s fun t =>
      (t.dir c.val (s.sends c.val (partyCode p))) = (s.dir c.val (s.sends c.val (partyCode p))) ∧ (p = .host → t.flag .mbx 7) ∧ (∀ i : Fin 5, (t.trip
      i.val).respErr = ((s.refused (partyCode p)).trip i.val).respErr) ∧ Only (fun _ => False) s t) ∧
  (∀ (u : Bool) (c : Chan) (v : Word) (s : State),
    s.cdRun → s.reaches c.val 0 u → s.partyUp (s.endpoint c.val (!(s.sends c.val 0))) = false →
    Completes (.noticePost .host u c v) s fun t =>
      t.flag .mbx 6 ∧ Only (fun a => a = Reg.REC_SYSSUPP) s t) ∧
  (∀ (p : Party) (u : Bool) (c : Chan) (v : Word) (s : State),
    s.cdRun → s.reaches c.val (partyCode p) u → p ≠ .host → s.partyUp (s.endpoint c.val (!(s.sends c.val (partyCode p)))) = false →
    Completes (.noticePost p u c v) s fun t =>
      (∀ i : Fin 5, (t.trip i.val).respErr = ((s.refused (partyCode p)).trip i.val).respErr) ∧ Only (fun _ => False) s t) ∧
  (∀ (p : Party) (u : Bool) (c : Chan) (v : Word) (s : State),
    s.cdRun → s.reaches c.val (partyCode p) u → (s.dir c.val (s.sends c.val (partyCode p))).busy = false → s.endpoint c.val (!(s.sends c.val
    (partyCode p))) = 6 → (v.toNat / 65536 = 0 ∨ 5 < v.toNat / 65536 ∨ v.toNat % 65536 ≠ 0) →
    Completes (.noticePost p u c v) s fun t =>
      (t.dir c.val (s.sends c.val (partyCode p))).code = 4 ∧ Only (fun a => a = Reg.MBX_CH_STAT c.val) s t) ∧
  (∀ (p : Party) (u : Bool) (c : Chan) (s : State),
    s.cdRun → s.reaches c.val (partyCode p) u = false →
    Completes (.rxTagRead p u c) s fun t =>
      t.flag .mbx 10 ∧ (∀ i : Fin 5, (t.trip i.val).respErr = ((s.refused (partyCode p)).trip i.val).respErr) ∧ (p = .host → t.cpl = some
      { ur := true }) ∧ Only (fun _ => False) { s with cpl := t.cpl } t) ∧
  (∀ (u : Bool) (c : Chan) (s : State),
    s.cdRun → s.reaches c.val 0 u → s.partyUp (s.endpoint c.val (!(s.sends c.val 0))) = false →
    Completes (.rxTagRead .host u c) s fun t =>
      t.cpl = some { ca := true } ∧ Only (fun _ => False) { s with cpl := t.cpl } t) ∧
  (∀ (p : Party) (u : Bool) (c : Chan) (s : State),
    s.cdRun → s.reaches c.val (partyCode p) u → (p ≠ .host ∨ s.partyUp (s.endpoint c.val (!(s.sends c.val (partyCode p))))) → (s.dir c.val (!(s.sends
    c.val (partyCode p)))).valid → s.events = [] →
    Completes (.rxTagRead p u c) s fun t =>
      (t.dir c.val (!(s.sends c.val (partyCode p)))).read ∧ (p = .host → t.cpl = some { data := leBytes 4 (s.window 0 c.val 0x28) }) ∧ Only (fun _ =>
      False) { s with cpl := t.cpl } t) ∧
  (∀ (p : Party) (u : Bool) (c : Chan) (v : Word) (s : State),
    s.cdRun → s.reaches c.val (partyCode p) u = false →
    Completes (.noticeAck p u c v) s fun t =>
      t.flag .mbx 10 ∧ (∀ i : Fin 5, (t.trip i.val).respErr = ((s.refused (partyCode p)).trip i.val).respErr) ∧ Only (fun _ => False) s t) ∧
  (∀ (p : Party) (u : Bool) (c : Chan) (v : Word) (s : State),
    s.cdRun → s.reaches c.val (partyCode p) u → (s.dir c.val (!(s.sends c.val (partyCode p)))).valid → v.toNat % 65536 ≤ 0x7FFF → v.toNat / 65536 =
    (s.dir c.val (!(s.sends c.val (partyCode p)))).repoch →
    Completes (.noticeAck p u c v) s fun t =>
      (t.dir c.val (!(s.sends c.val (partyCode p)))).code = v.toNat % 65536 ∧ (t.dir c.val (!(s.sends c.val (partyCode p)))).ackEpoch = v.toNat / 65536
      ∧ ((s.devQueue.all fun n => n.chan != c.val) → s.endpoint c.val false ≠ 7 → (t.dir c.val (!(s.sends c.val (partyCode p)))).busy = false ∧ (t.dir
      c.val (!(s.sends c.val (partyCode p)))).valid = false ∧ (t.dir c.val (!(s.sends c.val (partyCode p)))).tags = s.condTags) ∧ Only (fun a => a =
      Reg.MBX_LAST ∨ a = Reg.MBX_CH_STAT c.val) { s with devQueue := t.devQueue } t) ∧
  (∀ (p : Party) (u : Bool) (c : Chan) (v : Word) (s : State),
    s.cdRun → s.reaches c.val (partyCode p) u → (s.dir c.val (!(s.sends c.val (partyCode p)))).valid = false →
    Completes (.noticeAck p u c v) s fun t =>
      t.flag .mbx 9 ∧ Only (fun _ => False) s t) ∧
  (∀ (p : Party) (u : Bool) (c : Chan) (v : Word) (s : State),
    s.cdRun → s.reaches c.val (partyCode p) u → (s.dir c.val (!(s.sends c.val (partyCode p)))).valid → 0x7FFF < v.toNat % 65536 →
    Completes (.noticeAck p u c v) s fun t =>
      t.flag .mbx 8 ∧ Only (fun _ => False) s t) ∧
  (∀ (p : Party) (u : Bool) (c : Chan) (v : Word) (s : State),
    s.cdRun → s.reaches c.val (partyCode p) u → (s.dir c.val (!(s.sends c.val (partyCode p)))).valid → v.toNat % 65536 ≤ 0x7FFF → v.toNat / 65536 ≠
    (s.dir c.val (!(s.sends c.val (partyCode p)))).repoch →
    Completes (.noticeAck p u c v) s fun t =>
      (t.dir c.val (!(s.sends c.val (partyCode p)))).code = ncSTALE ∧ t.flag .mbx 4 ∧ Only (fun a => a = Reg.MBX_LAST ∨ a = Reg.MBX_CH_STAT c.val)
      { s with devQueue := t.devQueue } t) ∧
  (∀ (c : Chan) (d : Bool) (s : State),
    s.cdRun → s.chanOn c.val → (s.dir c.val d).busy → s.since (s.dir c.val d).posted (us (100 * s.fld (Reg.MBX_CH_TO c.val) Fld.MBX_CH_TO_ACK_TO)) →
    s.crossed c.val = false →
    Completes (.ackTimeout c d) s fun t =>
      (t.dir c.val (d)).code = ncTIMEOUT ∧ t.flag .mbx 2 ∧ ((s.devQueue.all fun n => n.chan != c.val) → s.endpoint c.val false ≠ 7 → (t.dir c.val
      d).busy = false ∧ (t.dir c.val d).withdrawn) ∧ Only (fun a => a = Reg.MBX_LAST ∨ a = Reg.MBX_CH_STAT c.val) { s with devQueue := t.devQueue } t) ∧
  (∀ (c : Chan) (d : Bool) (s : State),
    s.cdRun → (s.dir c.val d).busy → s.since (s.dir c.val d).posted (us (100 * s.fld (Reg.MBX_CH_TO c.val) Fld.MBX_CH_TO_ACK_TO)) → s.crossed c.val →
    Completes (.ackTimeout c d) s fun t =>
      (t.dir c.val (false)).code = ncCROSSING ∧ (t.dir c.val (true)).code = ncCROSSING ∧ t.flag .mbx 3 ∧ Only (fun a => a = Reg.MBX_LAST ∨ a =
      Reg.MBX_CH_STAT c.val) { s with devQueue := t.devQueue } t) ∧
  (∀ (c : Chan) (s : State),
    s.cdRun → s.crossed c.val →
    Completes (.crossingTimeout c) s fun t =>
      (t.dir c.val (false)).code = ncCROSSING ∧ (t.dir c.val (true)).code = ncCROSSING ∧ t.flag .mbx 3 ∧ Only (fun a => a = Reg.MBX_LAST ∨ a =
      Reg.MBX_CH_STAT c.val) { s with devQueue := t.devQueue } t)

/-- Mailboxes: parties and channels (R408, R416, R417, R420). Where the manual leaves a corner open the clauses follow the model's choice: log entries
68 and 97. -/
def Obligations.PartiesComplete : Prop :=
  (∀ (s : State),
    s.cdRun →
    Completes (.partyReset .host) s fun t =>
      t.bit Reg.HIF_STAT Fld.HIF_STAT_LINKUP = false ∧ t.reg (Reg.MBX_EPOCH 0) = BitVec.ofNat 32 (((s.reg (Reg.MBX_EPOCH 0)).toNat + 1) % 65536)) ∧
  (∀ (s : State),
    s.cdRun →
    Completes (.partyReset .mt) s fun t =>
      (t.trip 4).runs = false ∧ t.reg (Reg.MBX_EPOCH 1) = BitVec.ofNat 32 (((s.reg (Reg.MBX_EPOCH 1)).toNat + 1) % 65536)) ∧
  (∀ (i : Fin 4) (s : State),
    s.cdRun →
    Completes (.partyReset (.lt i)) s fun t =>
      (t.trip i.val).runs = false ∧ t.reg (Reg.MBX_EPOCH (2 + i.val)) = BitVec.ofNat 32 (((s.reg (Reg.MBX_EPOCH (2 + i.val))).toNat + 1) % 65536)) ∧
  (∀ (s : State),
    s.cdRun →
    Completes (.partyReset .ringmaster) s fun t =>
      Only (fun _ => False) s t) ∧
  (∀ (s : State),
    s.cdRun →
    Completes (.partyReset .device) s fun t =>
      Only (fun _ => False) s t) ∧
  (∀ (s : State),
    s.cdRun → s.vioOk 0 →
    Completes (.partyUp .host) s fun t =>
      t.bit Reg.HIF_STAT Fld.HIF_STAT_LINKUP ∧ t.bit Reg.HIF_STAT Fld.HIF_STAT_D3HOT = false) ∧
  (∀ (s : State),
    s.cdRun → s.vioOk 0 = false →
    Completes (.partyUp .host) s fun t =>
      Only (fun _ => False) s t) ∧
  (∀ (s : State),
    s.cdRun →
    Completes (.partyUp .mt) s fun t =>
      (t.trip 4).runs ∧ ∀ (c : Chan) (d : Bool), s.chanOn c.val → (s.dir c.val d).held → s.endpoint c.val (!d) = 1 → (t.dir c.val d).valid ∧ (t.dir
      c.val d).held = false ∧ Only (fun _ => False) s t) ∧
  (∀ (i : Fin 4) (s : State),
    s.cdRun → (s.trip i.val).img = 1 →
    Completes (.partyUp (.lt i)) s fun t =>
      (t.trip i.val).runs ∧ ∀ (c : Chan) (d : Bool), s.chanOn c.val → (s.dir c.val d).held → s.endpoint c.val (!d) = 2 + i.val → (t.dir c.val d).valid ∧
      (t.dir c.val d).held = false) ∧
  (∀ (i : Fin 4) (s : State),
    s.cdRun → (s.trip i.val).img ≠ 1 →
    Completes (.partyUp (.lt i)) s fun t =>
      Only (fun _ => False) s t) ∧
  (∀ (s : State),
    s.cdRun →
    Completes (.partyUp .ringmaster) s fun t =>
      Only (fun _ => False) s t) ∧
  (∀ (s : State),
    s.cdRun →
    Completes (.partyUp .device) s fun t =>
      Only (fun _ => False) s t) ∧
  (∀ (c : Chan) (v : Word) (s : State),
    s.cdRun → 8 ≤ c.val →
    Completes (.mbxCfgWrite c false v) s fun t =>
      Only (fun _ => False) s t) ∧
  (∀ (c : Chan) (v : Word) (s : State),
    s.cdRun → c.val < 8 → s.locked = false → (s.dir c.val false).busy = false → (s.dir c.val true).busy = false → Fld.MBX_CH_CFG_EN.on v →
    Fld.MBX_CH_CFG_EPA.get v ≠ Fld.MBX_CH_CFG_EPB.get v → Fld.MBX_CH_CFG_EPA.get v ≠ 6 → Fld.MBX_CH_CFG_EPB.get v ≠ 6 → s.fld (Reg.MBX_CH_TO c.val)
    Fld.MBX_CH_TO_CROSS_TO ≠ 0 → s.fld (Reg.MBX_CH_TO c.val) Fld.MBX_CH_TO_CROSS_TO < s.fld (Reg.MBX_CH_TO c.val) Fld.MBX_CH_TO_ACK_TO →
    Completes (.mbxCfgWrite c false v) s fun t =>
      t.reg (Reg.MBX_CH_CFG c.val) = v &&& 0x80770000 ∧ Only (fun a => a = Reg.MBX_CH_CFG c.val) s t) ∧
  (∀ (c : Chan) (v : Word) (s : State),
    s.cdRun → c.val < 8 → s.locked = false → (s.dir c.val false).busy = false → (s.dir c.val true).busy = false → Fld.MBX_CH_CFG_EN.on v →
    (Fld.MBX_CH_CFG_EPA.get v = Fld.MBX_CH_CFG_EPB.get v ∨ Fld.MBX_CH_CFG_EPA.get v = 6 ∨ Fld.MBX_CH_CFG_EPB.get v = 6) →
    Completes (.mbxCfgWrite c false v) s fun t =>
      t.reg (Reg.MBX_CH_CFG c.val) = s.reg (Reg.MBX_CH_CFG c.val) ∧ t.flag .mbx 11 ∧ Only (fun _ => False) s t) ∧
  (∀ (c : Chan) (v : Word) (s : State),
    s.cdRun → s.locked = false → (s.dir c.val false).busy = false → (s.dir c.val true).busy = false → Fld.MBX_CH_TO_ACK_TO.get v ≠ 0 →
    Fld.MBX_CH_TO_CROSS_TO.get v ≠ 0 →
    Completes (.mbxCfgWrite c true v) s fun t =>
      t.reg (Reg.MBX_CH_TO c.val) = v ∧ Only (fun a => a = Reg.MBX_CH_TO c.val) s t) ∧
  (∀ (c : Chan) (b : Bool) (v : Word) (s : State),
    s.cdRun → (c.val < 8 ∨ b) → s.locked = false → ((s.dir c.val false).busy ∨ (s.dir c.val true).busy) →
    Completes (.mbxCfgWrite c b v) s fun t =>
      t.flag .mbx 11 ∧ Only (fun _ => False) s t) ∧
  (∀ (c : Chan) (v : Word) (s : State),
    s.cdRun → s.locked → v ≠ s.reg (Reg.MBX_CH_TO c.val) →
    Completes (.mbxCfgWrite c true v) s fun t =>
      t.reg (Reg.MBX_CH_TO c.val) = s.reg (Reg.MBX_CH_TO c.val) ∧ t.flag .glb 1 ∧ Only (fun a => FlagSrc.glb.owns 1 a) s t)

/-- The event recorder (R432, R433, R434, R435, R439, R443). Where the manual leaves a corner open the clauses follow the model's choice: log entries
72 and 97. -/
def Obligations.RecorderCompletes : Prop :=
  (∀ (b : Bool) (e : RecEntry) (l : List RecEntry) (s : State),
    s.recQueue = e :: l → s.cdRun → s.bit Reg.REC_STAT Fld.REC_STAT_FROZEN = false → s.power.storeHeld = false → s.worn 2 = false →
    Completes (.recorderEntryWrite b) s fun t =>
      t.recStore = cutStore 9 (s.recStore ++ [e]) ∧ t.flag .recd 0 ∧ (e.kind = 3 → t.flag .guard 9) ∧ Only (fun a => (0x70000 ≤ a ∧ a < 0x70200) ∨ a =
      Reg.GLB_GUARD ∨ (∃ g : Fin 12, a = Reg.LDG_STAT g.val) ∨ FlagSrc.guard.owns 8 a ∨ FlagSrc.guard.owns 9 a)
      { s with recStore := t.recStore, store := t.store } t) ∧
  (∀ (b : Bool) (e : RecEntry) (l : List RecEntry) (s : State),
    s.recQueue = e :: l → s.cdRun → s.bit Reg.REC_STAT Fld.REC_STAT_FROZEN = false → s.power.storeHeld = false → s.worn 2 → e.kind = 2 →
    Completes (.recorderEntryWrite b) s fun t =>
      t.flag .recd 1 ∧ t.reg (Reg.REC_P_SUPP e.profile) ≠ 0 ∧ Only (fun a => a = Reg.REC_STAT ∨ a = Reg.REC_P_SUPP e.profile) s t) ∧
  (∀ (b : Bool) (e : RecEntry) (l : List RecEntry) (s : State),
    s.recQueue = e :: l → s.cdRun → s.bit Reg.REC_STAT Fld.REC_STAT_FROZEN = false → s.power.storeHeld = false → s.worn 2 → e.kind ≠ 2 →
    Completes (.recorderEntryWrite b) s fun t =>
      t.reg Reg.REC_SYSSUPP = BitVec.ofNat 32 (min ((s.reg Reg.REC_SYSSUPP).toNat + 1) 0xFFFFFFFF) ∧ Only (fun a => a = Reg.REC_STAT ∨ a =
      Reg.REC_SYSSUPP) s t) ∧
  (∀ (s : State),
    s.cdRun → s.bit Reg.REC_STAT Fld.REC_STAT_FROZEN = false →
    Completes .freeze s fun t =>
      t.bit Reg.REC_STAT Fld.REC_STAT_FROZEN ∧ t.recst.frozenAt = s.now ∧ t.fld Reg.REC_STAT Fld.REC_STAT_CMDRES = rcDONE ∧ Only (fun _ => False) s t) ∧
  (∀ (s : State),
    s.cdRun → s.bit Reg.REC_STAT Fld.REC_STAT_FROZEN →
    Completes .freeze s fun t =>
      t.fld Reg.REC_STAT Fld.REC_STAT_CMDRES = rcSTATE ∧ t.flag .recd 8 ∧ Only (fun _ => False) s t) ∧
  (∀ (s : State),
    s.cdRun → s.bit Reg.REC_STAT Fld.REC_STAT_FROZEN →
    Completes .unfreeze s fun t =>
      t.bit Reg.REC_STAT Fld.REC_STAT_FROZEN = false ∧ t.fld Reg.REC_STAT Fld.REC_STAT_CMDRES = rcDONE ∧ Only (fun _ => False) s t) ∧
  (∀ (s : State),
    s.cdRun → s.bit Reg.REC_STAT Fld.REC_STAT_FROZEN = false →
    Completes .unfreeze s fun t =>
      t.fld Reg.REC_STAT Fld.REC_STAT_CMDRES = rcSTATE ∧ t.flag .recd 8 ∧ Only (fun _ => False) s t) ∧
  (∀ (s : State),
    s.cdRun → s.bit Reg.REC_STAT Fld.REC_STAT_FROZEN → s.since s.recst.frozenAt (secs (s.fld Reg.REC_CTRL Fld.REC_CTRL_FREEZE_TO)) →
    Completes .freezeTimeout s fun t =>
      t.bit Reg.REC_STAT Fld.REC_STAT_FROZEN = false ∧ t.flag .recd 3 ∧ Only (fun _ => False) s t) ∧
  (∀ (p : Fin 32) (s : State),
    s.cdRun → Fld.REC_P_CFG_EN.on (s.reg (Reg.REC_P_CFG p.val)) → Fld.REC_P_CFG_SRC.get (s.reg (Reg.REC_P_CFG p.val)) = 3 → ((s.prof p.val).last.all
    fun x => s.since x (ms (Fld.REC_P_CFG_HOLDOFF.get (s.reg (Reg.REC_P_CFG p.val))))) → s.bit Reg.REC_STAT Fld.REC_STAT_FROZEN = false →
    s.recQueue.length < 256 → s.worn 2 = false →
    Completes (.trigger p) s fun t =>
      (t.recQueue[s.recQueue.length]?).map (fun e => (e.kind, e.profile, e.source)) = some (2, p.val, Reg.REC_CMD) ∧ t.fld Reg.REC_STAT
      Fld.REC_STAT_CMDRES = rcDONE ∧ Only (fun _ => False) s t) ∧
  (∀ (p : Fin 32) (s : State),
    s.cdRun → Fld.REC_P_CFG_EN.on (s.reg (Reg.REC_P_CFG p.val)) → Fld.REC_P_CFG_SRC.get (s.reg (Reg.REC_P_CFG p.val)) = 3 → (s.bit Reg.REC_STAT
    Fld.REC_STAT_FROZEN ∨ 256 ≤ s.recQueue.length ∨ s.worn 2) →
    Completes (.trigger p) s fun t =>
      t.flag .recd 1 ∧ t.fld Reg.REC_STAT Fld.REC_STAT_CMDRES = rcDONE ∧ Only (fun _ => False) s t) ∧
  (∀ (p : Fin 32) (s : State),
    s.cdRun → (Fld.REC_P_CFG_EN.on (s.reg (Reg.REC_P_CFG p.val)) = false ∨ Fld.REC_P_CFG_SRC.get (s.reg (Reg.REC_P_CFG p.val)) ≠ 3) →
    Completes (.trigger p) s fun t =>
      t.fld Reg.REC_STAT Fld.REC_STAT_CMDRES = rcCOND ∧ t.flag .recd 8 ∧ Only (fun _ => False) s t)

/-- The waveform capture, copies and clears (R437, R438, R440, R441, R442). Where the manual leaves a corner open the clauses follow the model's
choice: log entry 72. -/
def Obligations.CopiesComplete : Prop :=
  (∀ (s : State),
    s.cdRun → (s.fld Reg.REC_STAT Fld.REC_STAT_CAPSTATE = capIDLE ∨ s.fld Reg.REC_STAT Fld.REC_STAT_CAPSTATE = capDONE) → s.waveFits → s.events = [] →
    Completes .rearm s fun t =>
      t.fld Reg.REC_STAT Fld.REC_STAT_CAPSTATE = capARMED ∧ t.recst.armedAt = s.now ∧ t.recst.wrPos = 0 ∧ t.fld Reg.REC_STAT Fld.REC_STAT_CMDRES =
      rcDONE ∧ Only (fun a => a = Reg.REC_CAP_RATE) s t) ∧
  (∀ (s : State),
    s.cdRun → (s.fld Reg.REC_STAT Fld.REC_STAT_CAPSTATE = capIDLE ∨ s.fld Reg.REC_STAT Fld.REC_STAT_CAPSTATE = capDONE) → s.waveFits = false →
    Completes .rearm s fun t =>
      t.fld Reg.REC_STAT Fld.REC_STAT_CMDRES = rcCOND ∧ t.flag .recd 8 ∧ Only (fun a => a = Reg.REC_CAP_RATE) s t) ∧
  (∀ (s : State),
    s.cdRun → (s.fld Reg.REC_STAT Fld.REC_STAT_CAPSTATE = capARMED ∨ s.fld Reg.REC_STAT Fld.REC_STAT_CAPSTATE = capPOST) →
    Completes .rearm s fun t =>
      t.fld Reg.REC_STAT Fld.REC_STAT_CMDRES = rcSTATE ∧ t.flag .recd 8 ∧ Only (fun a => a = Reg.REC_CAP_RATE) s t) ∧
  (∀ (s : State),
    s.cdRun → s.fld Reg.REC_STAT Fld.REC_STAT_CAPSTATE = capPOST → s.since s.recst.trigAt (ms (s.fld Reg.REC_CAP_WIN Fld.REC_CAP_WIN_POST)) →
    Completes .capturePostEnd s fun t =>
      t.fld Reg.REC_STAT Fld.REC_STAT_CAPSTATE = capDONE ∧ t.reg Reg.REC_CAP_END = BitVec.ofNat 32 (s.waveBase + s.recst.wrPos) ∧ t.reg
      Reg.REC_CAP_FIRST = BitVec.ofNat 32 (if s.recst.wrapped then s.waveBase + s.recst.wrPos else s.waveBase) ∧ t.flag .recd 2 ∧ Only (fun a => a ∈
      [Reg.REC_CAP_FIRST, Reg.REC_CAP_END, Reg.REC_CAP_TRIG, Reg.REC_CAP_PREACT]) s t) ∧
  (∀ (s : State),
    s.cdRun → s.recst.copying = none → (s.reg Reg.REC_RD_LOG).toNat % 4 = 0 →
    Completes .copy s fun t =>
      t.recst.copying = some ((s.recStore.getLast?.map (·.seq)).getD 0) ∧ t.fld Reg.REC_STAT Fld.REC_STAT_CMDRES = rcPENDING ∧ Only (fun _ => False) s t) ∧
  (∀ (s : State),
    s.cdRun → s.recst.copying = none → (s.reg Reg.REC_RD_LOG).toNat % 4 = 1 →
    Completes .copy s fun t =>
      t.recst.copying = some s.safetyLog.length ∧ t.fld Reg.REC_STAT Fld.REC_STAT_CMDRES = rcPENDING ∧ Only (fun _ => False) s t) ∧
  (∀ (s : State),
    s.cdRun → s.recst.copying = none → (s.reg Reg.REC_RD_LOG).toNat % 4 = 2 →
    Completes .copy s fun t =>
      t.recst.copying = some s.clearLog.length ∧ t.fld Reg.REC_STAT Fld.REC_STAT_CMDRES = rcPENDING ∧ Only (fun _ => False) s t) ∧
  (∀ (s : State),
    s.cdRun → s.recst.copying = none → (s.reg Reg.REC_RD_LOG).toNat % 4 = 3 →
    Completes .copy s fun t =>
      t.fld Reg.REC_STAT Fld.REC_STAT_CMDRES = rcCOND ∧ t.flag .recd 8 ∧ Only (fun _ => False) s t) ∧
  (∀ (s : State),
    s.cdRun → s.recst.copying ≠ none →
    Completes .copy s fun t =>
      t.fld Reg.REC_STAT Fld.REC_STAT_CMDRES = rcBUSY ∧ t.flag .recd 8 ∧ Only (fun _ => False) s t) ∧
  (∀ (n : Nat) (s : State),
    s.recst.copying = some n → s.cdRun →
    Completes .copyDone s fun t =>
      t.recst.copying = none ∧ t.fld Reg.REC_STAT Fld.REC_STAT_CMDRES = rcDONE ∧ Only (fun a => a = Reg.REC_RD_RES ∨ a = Reg.REC_RD_LAST_LO ∨ a =
      Reg.REC_RD_LAST_HI) { s with dram := t.dram, draws := t.draws } t) ∧
  (∀ (n : Nat) (e : RecEntry) (s : State),
    s.recst.copying = some n → s.cdRun → (s.reg Reg.REC_RD_LOG).toNat % 4 = 0 → (s.recStore.filter fun e => Nat.ble (s.reg64 Reg.REC_RD_FIRST_LO
    Reg.REC_RD_FIRST_HI) e.seq && Nat.ble e.seq n) = [e] → (entryBytes e).length / 64 ≤ (s.reg Reg.REC_RD_MAX).toNat % 65536 →
    Completes .copyDone s fun t =>
      t.dram = (s.putDram (64 * s.fld Reg.REC_RD_BUF Fld.REC_RD_BUF_DRAM) ((entryBytes e).take (2 ^ 29 - 64 * s.fld Reg.REC_RD_BUF
      Fld.REC_RD_BUF_DRAM))).dram ∧ t.reg Reg.REC_RD_RES = BitVec.ofNat 32 ((entryBytes e).length / 64) ∧ t.reg64 Reg.REC_RD_LAST_LO Reg.REC_RD_LAST_HI
      = e.seq % 2 ^ 64 ∧ Only (fun a => a = Reg.REC_RD_RES ∨ a = Reg.REC_RD_LAST_LO ∨ a = Reg.REC_RD_LAST_HI) { s with dram := t.dram } t) ∧
  (∀ (b : Bool) (s : State),
    s.cdRun → s.recst.clearAuth = none →
    Completes (.clear b) s fun t =>
      t.fld Reg.REC_STAT Fld.REC_STAT_CMDRES = rcCOND ∧ t.flag .recd 8 ∧ Only (fun _ => False) s t) ∧
  (∀ (x k m : Nat) (s : State),
    s.cdRun → s.recst.clearAuth = some (x, k, m) → s.since x (secs 300 + 1) = false → s.bit Reg.REC_STAT Fld.REC_STAT_FROZEN = false →
    s.clearLog.length < 16384 → s.worn 4 = false → s.worn 2 = false →
    Completes (.clear true) s fun t =>
      t.recStore = [] ∧ t.recst.clearAuth = none ∧ t.clearLog.length = s.clearLog.length + 1 ∧ (t.clearLog.getLast?.map fun c => (c.index, c.last,
      c.key, c.nonce)) = some (s.clearLog.length, s.recst.issued, k, m % 2 ^ 96) ∧ t.flag .recd 6 ∧ t.fld Reg.REC_STAT Fld.REC_STAT_CMDRES = rcDONE ∧
      Only (fun a => (0x70000 ≤ a ∧ a < 0x70200) ∨ a = Reg.GLB_GUARD ∨ (∃ g : Fin 12, a = Reg.LDG_STAT g.val) ∨ FlagSrc.guard.owns 8 a ∨
      FlagSrc.guard.owns 9 a) { s with recStore := t.recStore, clearLog := t.clearLog, store := t.store } t) ∧
  (∀ (x k m : Nat) (s : State),
    s.cdRun → s.recst.clearAuth = some (x, k, m) → s.since x (secs 300 + 1) = false → s.bit Reg.REC_STAT Fld.REC_STAT_FROZEN = false →
    s.clearLog.length < 16384 →
    Completes (.clear false) s fun t =>
      t.recst.clearAuth = none ∧ t.recStore = s.recStore ∧ t.fld Reg.REC_STAT Fld.REC_STAT_CMDRES = rcCOND ∧ t.flag .recd 8 ∧ Only (fun _ => False) s t) ∧
  (∀ (b : Bool) (x k m : Nat) (s : State),
    s.cdRun → s.recst.clearAuth = some (x, k, m) → s.since x (secs 300 + 1) →
    Completes (.clear b) s fun t =>
      t.recst.clearAuth = none ∧ t.fld Reg.REC_STAT Fld.REC_STAT_CMDRES = rcCOND ∧ t.flag .recd 8 ∧ Only (fun _ => False) s t) ∧
  (∀ (b : Bool) (x k m : Nat) (s : State),
    s.cdRun → s.recst.clearAuth = some (x, k, m) → s.since x (secs 300 + 1) = false → s.bit Reg.REC_STAT Fld.REC_STAT_FROZEN →
    Completes (.clear b) s fun t =>
      t.fld Reg.REC_STAT Fld.REC_STAT_CMDRES = rcSTATE ∧ t.flag .recd 8 ∧ Only (fun _ => False) s t)

/-- The runtime blocks VIMP and RIDE of a grid inverter cluster (R153, R163, R165, R166). Where the manual leaves a corner open the clauses follow the
model's choice: log entry 86. -/
def Obligations.RuntimeBlocksComplete : Prop :=
  (∀ (who : Party) (n : Slot) (v : Word) (c : VimpCall) (k : Nat) (p : VimpPar) (s : State),
    s.cdRun → n.val < s.variant.slots → s.ownsSlotOf who n.val → s.clusterOf n.val = some k → s.isGfi k → (s.blk k).vimp = some p → (s.blk k).share =
    65536 → magDq c.i ≤ p.iTh → magDq c.i ≤ s.iMaxEff k p →
    Completes (.ownerRefWrite who n v (some c)) s fun t =>
      (t.blk k).out = some c ∧ t.reg (Reg.EDG_REF n.val) = v ∧ Only (fun a => a = Reg.EDG_REF n.val) { s with blks := t.blks } t) ∧
  (∀ (who : Party) (n : Slot) (v : Word) (c : VimpCall) (k : Nat) (p : VimpPar) (s : State),
    s.cdRun → n.val < s.variant.slots → s.ownsSlotOf who n.val → s.clusterOf n.val = some k → s.isGfi k → (s.blk k).vimp = some p → (s.blk k).share =
    65536 → p.xr = 0 → p.iTh < magDq c.i → magDq c.i ≤ s.iMaxEff k p →
    Completes (.ownerRefWrite who n v (some c)) s fun t =>
      (t.blk k).out = some ⟨c.i, ⟨c.v.d - divNear ((p.kvi * (magDq c.i - p.iTh) / 2 ^ 14 : Nat) * c.i.d) (2 ^ 14), c.v.q - divNear ((p.kvi * (magDq c.i
      - p.iTh) / 2 ^ 14 : Nat) * c.i.q) (2 ^ 14)⟩⟩ ∧ t.reg (Reg.EDG_REF n.val) = v ∧ Only (fun a => a = Reg.EDG_REF n.val) { s with blks := t.blks } t) ∧
  (∀ (who : Party) (n : Slot) (v : Word) (c : VimpCall) (k : Nat) (p : VimpPar) (s : State),
    s.cdRun → n.val < s.variant.slots → s.ownsSlotOf who n.val → s.clusterOf n.val = some k → s.isGfi k → (s.blk k).vimp = some p → (s.blk k).share =
    65536 → s.iMaxEff k p < magDq c.i → bitOf ((s.cluster k).spActive.getD 4 0) 1 = false →
    Completes (.ownerRefWrite who n v (some c)) s fun t =>
      (t.blk k).out.map (·.i) = some ⟨divNear (c.i.d * s.iMaxEff k p) (magDq c.i), divNear (c.i.q * s.iMaxEff k p) (magDq c.i)⟩ ∧ Only (fun a => a =
      Reg.EDG_REF n.val) { s with blks := t.blks } t) ∧
  (∀ (who : Party) (n : Slot) (v : Word) (c : VimpCall) (k : Nat) (p : VimpPar) (s : State),
    s.cdRun → n.val < s.variant.slots → s.ownsSlotOf who n.val → s.clusterOf n.val = some k → s.isGfi k → (s.blk k).vimp = some p → (s.blk k).share =
    65536 → s.iMaxEff k p < magDq c.i → bitOf ((s.cluster k).spActive.getD 4 0) 1 →
    Completes (.ownerRefWrite who n v (some c)) s fun t =>
      ∃ o : VimpCall, (t.blk k).out = some o ∧ o.i.d * o.i.d + o.i.q * o.i.q ≤ (s.iMaxEff k p : Int) * s.iMaxEff k p ∧ 0 ≤ o.i.d * c.i.d ∧ (-(s.iMaxEff
      k p : Int) ≤ c.i.q → c.i.q ≤ s.iMaxEff k p → o.i.q = c.i.q) ∧ Only (fun a => a = Reg.EDG_REF n.val) { s with blks := t.blks } t) ∧
  (∀ (who : Party) (n : Slot) (v : Word) (call : Option VimpCall) (k : Nat) (s : State),
    s.cdRun → n.val < s.variant.slots → s.ownsSlotOf who n.val → s.clusterOf n.val = some k → ((s.blk k).vimp = none ∨ s.isGfi k = false ∨ call =
    none) →
    Completes (.ownerRefWrite who n v call) s fun t =>
      Only (fun a => a = Reg.EDG_REF n.val) s t) ∧
  (∀ (k : Clu) (u : GmuOut) (a b c : Nat) (p : RidePar) (s : State),
    s.cdRun → k.val < s.variant.clusters → s.isGfi k.val → s.tb % 40000 = 0 → u.mags = some (a, b, c) → (s.blk k.val).ride = some p → bitOf
    ((s.cluster k.val).spActive.getD 4 0) 0 → p.cessLow ≤ (min a (min b c)) → (max a (max b c)) ≤ p.cessHigh → (rideFinds p u.freq (min a (min b c))
    (max a (max b c))).all (fun x => !x.1) → ((s.blk k.val).st = .normal ∨ (s.blk k.val).st = .ride) →
    Completes (.gmuUpdate k u) s fun t =>
      (t.blk k.val).st = .normal ∧ Only (fun a => a ∈ [Reg.CLU_GMU_FREQ k.val, Reg.CLU_GMU_ROCOF k.val, Reg.CLU_GMU_SEQ k.val, Reg.CLU_GMU_ANGLE k.val,
      Reg.CLU_GMU_PJ k.val, Reg.CLU_GMU_ZC_LO k.val, Reg.CLU_GMU_ZC_HI k.val, Reg.CLU_GMU_ZC_PTPS k.val, Reg.CLU_GMU_ZC_PTPN k.val] ∨ (FlagSrc.clu
      k.val).owns 4 a ∨ (FlagSrc.clu k.val).owns 5 a ∨ (FlagSrc.clu k.val).owns 6 a ∨ a = Reg.REC_SYSSUPP) { s with gmus := t.gmus, blks := t.blks } t) ∧
  (∀ (k : Clu) (u : GmuOut) (a b c : Nat) (p : RidePar) (s : State),
    s.cdRun → k.val < s.variant.clusters → s.isGfi k.val → s.tb % 40000 = 0 → u.mags = some (a, b, c) → (s.blk k.val).ride = some p → bitOf
    ((s.cluster k.val).spActive.getD 4 0) 0 → p.cessLow ≤ (min a (min b c)) → (max a (max b c)) ≤ p.cessHigh → (s.blk k.val).since = [] → (rideFinds p
    u.freq (min a (min b c)) (max a (max b c))).all (fun x => !x.1 || 0 < x.2) → (rideFinds p u.freq (min a (min b c)) (max a (max b c))).any (·.1) →
    ((s.blk k.val).st = .normal ∨ (s.blk k.val).st = .ride) →
    Completes (.gmuUpdate k u) s fun t =>
      (t.blk k.val).st = .ride ∧ Only (fun a => a ∈ [Reg.CLU_GMU_FREQ k.val, Reg.CLU_GMU_ROCOF k.val, Reg.CLU_GMU_SEQ k.val, Reg.CLU_GMU_ANGLE k.val,
      Reg.CLU_GMU_PJ k.val, Reg.CLU_GMU_ZC_LO k.val, Reg.CLU_GMU_ZC_HI k.val, Reg.CLU_GMU_ZC_PTPS k.val, Reg.CLU_GMU_ZC_PTPN k.val] ∨ (FlagSrc.clu
      k.val).owns 4 a ∨ (FlagSrc.clu k.val).owns 5 a ∨ (FlagSrc.clu k.val).owns 6 a ∨ a = Reg.REC_SYSSUPP) { s with gmus := t.gmus, blks := t.blks } t) ∧
  (∀ (k : Clu) (u : GmuOut) (a b c : Nat) (p : RidePar) (s : State),
    s.cdRun → k.val < s.variant.clusters → s.isGfi k.val → s.tb % 40000 = 0 → u.mags = some (a, b, c) → (s.blk k.val).ride = some p → bitOf
    ((s.cluster k.val).spActive.getD 4 0) 0 → (s.blk k.val).since = [] → (rideFinds p u.freq (min a (min b c)) (max a (max b c))).all (fun x => !x.1
    || 0 < x.2) → ((min a (min b c)) < p.cessLow ∨ p.cessHigh < (max a (max b c))) → p.cessMode = false → (s.blk k.val).st ≠ .tripReq → (s.blk
    k.val).st ≠ .cess →
    Completes (.gmuUpdate k u) s fun t =>
      (t.blk k.val).st = .cess ∧ (t.blk k.val).share = 0 ∧ (∀ n ∈ s.slotsOf k.val, t.fld (Reg.EDG_REF n) Fld.EDG_REF_IREF = 0) ∧ Only (fun a => a ∈
      [Reg.CLU_GMU_FREQ k.val, Reg.CLU_GMU_ROCOF k.val, Reg.CLU_GMU_SEQ k.val, Reg.CLU_GMU_ANGLE k.val, Reg.CLU_GMU_PJ k.val, Reg.CLU_GMU_ZC_LO k.val,
      Reg.CLU_GMU_ZC_HI k.val, Reg.CLU_GMU_ZC_PTPS k.val, Reg.CLU_GMU_ZC_PTPN k.val] ∨ (FlagSrc.clu k.val).owns 4 a ∨ (FlagSrc.clu k.val).owns 5 a ∨
      (FlagSrc.clu k.val).owns 6 a ∨ a = Reg.REC_SYSSUPP ∨ (∃ n ∈ s.slotsOf k.val, a = Reg.EDG_REF n)) { s with gmus := t.gmus, blks := t.blks } t) ∧
  (∀ (k : Clu) (u : GmuOut) (a b c : Nat) (p : RidePar) (s : State),
    s.cdRun → k.val < s.variant.clusters → s.isGfi k.val → s.tb % 40000 = 0 → u.mags = some (a, b, c) → (s.blk k.val).ride = some p → bitOf
    ((s.cluster k.val).spActive.getD 4 0) 0 → (s.blk k.val).since = [] → (rideFinds p u.freq (min a (min b c)) (max a (max b c))).all (fun x => !x.1
    || 0 < x.2) → ((min a (min b c)) < p.cessLow ∨ p.cessHigh < (max a (max b c))) → p.cessMode → (s.blk k.val).st ≠ .tripReq → (s.blk k.val).st ≠
    .cess → s.cstate k.val = csRUN → (s.cluster k.val).pausing = false → s.cluSwitching k.val → (∀ n ∈ s.slotsOf k.val, s.sstate n ≠ 1) →
    Completes (.gmuUpdate k u) s fun t =>
      (t.blk k.val).st = .cess ∧ (t.blk k.val).share = 65536 ∧ (t.cluster k.val).pausing ∧ t.fld (Reg.CLU_STAT k.val) Fld.CLU_STAT_CMDRES = rcDONE) ∧
  (∀ (k : Clu) (u : GmuOut) (a b c : Nat) (p : RidePar) (s : State),
    s.cdRun → k.val < s.variant.clusters → s.isGfi k.val → s.tb % 40000 = 0 → u.mags = some (a, b, c) → (s.blk k.val).ride = some p → bitOf
    ((s.cluster k.val).spActive.getD 4 0) 0 → p.cessLow ≤ (min a (min b c)) → (max a (max b c)) ≤ p.cessHigh → (s.blk k.val).since = [] → (rideFinds p
    u.freq (min a (min b c)) (max a (max b c))).all (fun x => !x.1 || 0 < x.2) → (s.blk k.val).st = .cess → p.cessMode = false →
    Completes (.gmuUpdate k u) s fun t =>
      (t.blk k.val).st = .recover ∧ (t.blk k.val).share = 0 ∧ Only (fun a => a ∈ [Reg.CLU_GMU_FREQ k.val, Reg.CLU_GMU_ROCOF k.val, Reg.CLU_GMU_SEQ
      k.val, Reg.CLU_GMU_ANGLE k.val, Reg.CLU_GMU_PJ k.val, Reg.CLU_GMU_ZC_LO k.val, Reg.CLU_GMU_ZC_HI k.val, Reg.CLU_GMU_ZC_PTPS k.val,
      Reg.CLU_GMU_ZC_PTPN k.val] ∨ (FlagSrc.clu k.val).owns 4 a ∨ (FlagSrc.clu k.val).owns 5 a ∨ (FlagSrc.clu k.val).owns 6 a ∨ a = Reg.REC_SYSSUPP)
      { s with gmus := t.gmus, blks := t.blks } t) ∧
  (∀ (k : Clu) (u : GmuOut) (a b c : Nat) (p : RidePar) (s : State),
    s.cdRun → k.val < s.variant.clusters → s.isGfi k.val → s.tb % 40000 = 0 → u.mags = some (a, b, c) → (s.blk k.val).ride = some p → bitOf
    ((s.cluster k.val).spActive.getD 4 0) 0 → p.cessLow ≤ (min a (min b c)) → (max a (max b c)) ≤ p.cessHigh → (s.blk k.val).since = [] → (rideFinds p
    u.freq (min a (min b c)) (max a (max b c))).all (fun x => !x.1 || 0 < x.2) → (s.blk k.val).st = .cess → p.cessMode → s.cstate k.val = csPAUSED →
    Completes (.gmuUpdate k u) s fun t =>
      (t.blk k.val).st = .recover ∧ (t.blk k.val).share = 0 ∧ t.cstate k.val = csRUN ∧ t.fld (Reg.CLU_STAT k.val) Fld.CLU_STAT_CMDRES = rcDONE) ∧
  (∀ (k : Clu) (u : GmuOut) (a b c : Nat) (p : RidePar) (x : Nat) (s : State),
    s.cdRun → k.val < s.variant.clusters → s.isGfi k.val → s.tb % 40000 = 0 → u.mags = some (a, b, c) → (s.blk k.val).ride = some p → bitOf
    ((s.cluster k.val).spActive.getD 4 0) 0 → p.cessLow ≤ (min a (min b c)) → (max a (max b c)) ≤ p.cessHigh → (s.blk k.val).since = [] → (rideFinds p
    u.freq (min a (min b c)) (max a (max b c))).all (fun x => !x.1 || 0 < x.2) → (s.blk k.val).st = .recover → p.cessMode = false → (s.blk k.val).ramp
    + p.rate * (s.now - (s.blk k.val).lastAt) * 65536 / 40000000000 = x →
    Completes (.gmuUpdate k u) s fun t =>
      (t.blk k.val).lastAt = s.now ∧ (x < 65536 → (t.blk k.val).st = .recover ∧ (t.blk k.val).share = x) ∧ (65536 ≤ x → (t.blk k.val).share = 65536 ∧
      (t.blk k.val).st ≠ .recover) ∧ Only (fun a => a ∈ [Reg.CLU_GMU_FREQ k.val, Reg.CLU_GMU_ROCOF k.val, Reg.CLU_GMU_SEQ k.val, Reg.CLU_GMU_ANGLE
      k.val, Reg.CLU_GMU_PJ k.val, Reg.CLU_GMU_ZC_LO k.val, Reg.CLU_GMU_ZC_HI k.val, Reg.CLU_GMU_ZC_PTPS k.val, Reg.CLU_GMU_ZC_PTPN k.val] ∨
      (FlagSrc.clu k.val).owns 4 a ∨ (FlagSrc.clu k.val).owns 5 a ∨ (FlagSrc.clu k.val).owns 6 a ∨ a = Reg.REC_SYSSUPP)
      { s with gmus := t.gmus, blks := t.blks } t) ∧
  (∀ (k : Clu) (u : GmuOut) (a b c : Nat) (p : RidePar) (x d z : Nat) (l : List (Nat × Nat)) (s : State),
    s.cdRun → k.val < s.variant.clusters → s.isGfi k.val → s.tb % 40000 = 0 → u.mags = some (a, b, c) → (s.blk k.val).ride = some p → bitOf
    ((s.cluster k.val).spActive.getD 4 0) 0 → p.low = (x, d) :: l → (min a (min b c)) < x → (s.blk k.val).since.head? = some (some z) → z + 400000 * d
    ≤ s.now → (s.blk k.val).st ≠ .tripReq → s.cstate k.val ∈ [csSTARTING, csRUN, csPAUSED] → ((List.range 8).find? fun c => s.chanOn c && s.endpoint c
    false == 7 && s.endpoint c true == 1) = none →
    Completes (.gmuUpdate k u) s fun t =>
      (t.blk k.val).st = .tripReq ∧ (t.cstate k.val = csSTOPPING ∨ t.cstate k.val = csOFF) ∧ (∀ n ∈ s.slotsOf k.val, t.bit (Reg.EDG_CTRL n)
      Fld.EDG_CTRL_EN = false) ∧ t.flag .mbx 12) ∧
  (∀ (k : Clu) (u : GmuOut) (a b c : Nat) (p : RidePar) (x d z : Nat) (l : List (Nat × Nat)) (e : Fin 8) (s : State),
    s.cdRun → k.val < s.variant.clusters → s.isGfi k.val → s.tb % 40000 = 0 → u.mags = some (a, b, c) → (s.blk k.val).ride = some p → bitOf
    ((s.cluster k.val).spActive.getD 4 0) 0 → p.low = (x, d) :: l → (min a (min b c)) < x → (s.blk k.val).since.head? = some (some z) → z + 400000 * d
    ≤ s.now → (s.blk k.val).st ≠ .tripReq → s.cstate k.val = csOFF → ((List.range 8).find? fun c => s.chanOn c && s.endpoint c false == 7 &&
    s.endpoint c true == 1) = some e.val → (s.trip 4).runs → (s.dir e.val false).busy = false →
    Completes (.gmuUpdate k u) s fun t =>
      (t.blk k.val).st = .tripReq ∧ t.cstate k.val = csOFF ∧ (t.dir e.val false).busy ∧ (t.dir e.val false).tag = 0x02000100 ∧ (t.dir e.val false).ptr =
      Reg.CLU_STAT k.val ∧ Only (fun a => a ∈ [Reg.CLU_GMU_FREQ k.val, Reg.CLU_GMU_ROCOF k.val, Reg.CLU_GMU_SEQ k.val, Reg.CLU_GMU_ANGLE k.val,
      Reg.CLU_GMU_PJ k.val, Reg.CLU_GMU_ZC_LO k.val, Reg.CLU_GMU_ZC_HI k.val, Reg.CLU_GMU_ZC_PTPS k.val, Reg.CLU_GMU_ZC_PTPN k.val] ∨ (FlagSrc.clu
      k.val).owns 4 a ∨ (FlagSrc.clu k.val).owns 5 a ∨ (FlagSrc.clu k.val).owns 6 a ∨ a = Reg.REC_SYSSUPP ∨ a = Reg.MBX_CH_STAT e.val)
      { s with gmus := t.gmus, blks := t.blks } t)
end

