-- ==== Sys2Proof/Laws/Bits.lean ====
section
/-!
SUPPORT. The laws of bit fields: a field put reads back, and putting it leaves every other field alone.
-/

namespace Sys2Proof.Machine

theorem Field.get_lt (f : Field) (w : Word) : f.get w < 2 ^ f.len := Nat.mod_lt _ (Nat.two_pow_pos _)

theorem Field.put_toNat (f : Field) (w : Word) (v : Nat) (h : f.lo + f.len ≤ 32) :
    (f.put w v).toNat = w.toNat / 2 ^ (f.lo + f.len) * 2 ^ (f.lo + f.len) + v % 2 ^ f.len * 2 ^ f.lo + w.toNat % 2 ^ f.lo := by
  have hlow : w.toNat % 2 ^ f.lo < 2 ^ f.lo := Nat.mod_lt _ (Nat.two_pow_pos _)
  have hv : v % 2 ^ f.len < 2 ^ f.len := Nat.mod_lt _ (Nat.two_pow_pos _)
  have hmid : v % 2 ^ f.len * 2 ^ f.lo + w.toNat % 2 ^ f.lo < 2 ^ (f.lo + f.len) := by
    have : (v % 2 ^ f.len + 1) * 2 ^ f.lo ≤ 2 ^ f.len * 2 ^ f.lo := Nat.mul_le_mul_right _ hv
    rw [Nat.pow_add, Nat.mul_comm (2 ^ f.lo)]
    nlinarith
  have hw : w.toNat / 2 ^ (f.lo + f.len) < 2 ^ (32 - (f.lo + f.len)) := by
    rw [Nat.div_lt_iff_lt_mul (Nat.two_pow_pos _), ← Nat.pow_add]
    rw [Nat.sub_add_cancel h]
    exact w.isLt
  have hall : w.toNat / 2 ^ (f.lo + f.len) * 2 ^ (f.lo + f.len) + v % 2 ^ f.len * 2 ^ f.lo + w.toNat % 2 ^ f.lo < 2 ^ 32 := by
    have : (w.toNat / 2 ^ (f.lo + f.len) + 1) * 2 ^ (f.lo + f.len) ≤ 2 ^ (32 - (f.lo + f.len)) * 2 ^ (f.lo + f.len) :=
      Nat.mul_le_mul_right _ hw
    rw [← Nat.pow_add, Nat.sub_add_cancel h] at this
    nlinarith
  unfold Field.put
  rw [BitVec.toNat_ofNat, Nat.mod_eq_of_lt hall]

/-- Bits of a word with a field put. -/
theorem Field.put_testBit (f : Field) (w : Word) (v i : Nat) (h : f.lo + f.len ≤ 32) :
    (f.put w v).toNat.testBit i = if f.lo ≤ i ∧ i < f.lo + f.len then v.testBit (i - f.lo) else w.toNat.testBit i := by
  rw [Field.put_toNat f w v h]
  have hlow : w.toNat % 2 ^ f.lo < 2 ^ f.lo := Nat.mod_lt _ (Nat.two_pow_pos _)
  have hv : v % 2 ^ f.len < 2 ^ f.len := Nat.mod_lt _ (Nat.two_pow_pos _)
  have hsum : w.toNat / 2 ^ (f.lo + f.len) * 2 ^ (f.lo + f.len) + v % 2 ^ f.len * 2 ^ f.lo + w.toNat % 2 ^ f.lo =
      2 ^ f.lo * (2 ^ f.len * (w.toNat / 2 ^ (f.lo + f.len)) + v % 2 ^ f.len) + w.toNat % 2 ^ f.lo := by
    rw [Nat.pow_add]; ring
  rw [hsum, Nat.testBit_two_pow_mul_add _ hlow, Nat.testBit_two_pow_mul_add _ hv]
  by_cases h1 : i < f.lo
  · simp [h1, Nat.testBit_mod_two_pow]
  · by_cases h2 : i - f.lo < f.len
    · have : f.lo ≤ i ∧ i < f.lo + f.len := by omega
      simp [h1, h2, this, Nat.testBit_mod_two_pow]
    · have : ¬(f.lo ≤ i ∧ i < f.lo + f.len) := by omega
      simp only [h1, h2, if_false, this, Nat.testBit_div_two_pow]
      congr 1; omega

/-- A field put reads back, cut to its width. -/
theorem Field.get_put_same (f : Field) (w : Word) (v : Nat) (h : f.lo + f.len ≤ 32) : f.get (f.put w v) = v % 2 ^ f.len := by
  apply Nat.eq_of_testBit_eq
  intro i
  rw [Field.get, Nat.testBit_mod_two_pow, Nat.testBit_div_two_pow, Field.put_testBit f w v _ h, Nat.testBit_mod_two_pow]
  by_cases hi : i < f.len
  · have : f.lo ≤ i + f.lo ∧ i + f.lo < f.lo + f.len := by omega
    simp [hi, this]
  · simp [hi]

/-- A field put leaves the fields beside it alone. -/
theorem Field.get_put_other (f g : Field) (w : Word) (v : Nat) (h : f.lo + f.len ≤ 32) (hd : g.lo + g.len ≤ f.lo ∨ f.lo + f.len ≤ g.lo) :
    g.get (f.put w v) = g.get w := by
  apply Nat.eq_of_testBit_eq
  intro i
  rw [Field.get, Field.get, Nat.testBit_mod_two_pow, Nat.testBit_div_two_pow, Field.put_testBit f w v _ h, Nat.testBit_mod_two_pow,
    Nat.testBit_div_two_pow]
  by_cases hi : i < g.len
  · have : ¬(f.lo ≤ i + g.lo ∧ i + g.lo < f.lo + f.len) := by omega
    simp [hi, this]
  · simp [hi]

theorem b2n_le (b : Bool) : b2n b ≤ 1 := by cases b <;> simp [b2n]

@[simp] theorem b2n_ne_zero (b : Bool) : (b2n b != 0) = b := by cases b <;> rfl

theorem bitOf_eq (v b : Nat) : bitOf v b = v.testBit b := by
  rw [bitOf, Nat.testBit_eq_decide_div_mod_eq]; rfl

theorem mem_bitsOf (n v b : Nat) : b ∈ bitsOf n v ↔ b < n ∧ v.testBit b = true := by
  simp [bitsOf, bitOf_eq]

/-! ### Little-endian bytes -/

@[simp] theorem leBytes_length (n v : Nat) : (leBytes n v).length = n := by
  induction n generalizing v with
  | zero => rfl
  | succ n ih => simp [leBytes, ih]

theorem leNat_leBytes (n v : Nat) : leNat (leBytes n v) = v % 256 ^ n := by
  induction n generalizing v with
  | zero => simp [leBytes, leNat, Nat.mod_one]
  | succ n ih =>
    simp only [leBytes, leNat, ih, BitVec.toNat_ofNat]
    rw [show (256 : Nat) ^ (n + 1) = 256 * 256 ^ n from by rw [Nat.pow_succ, Nat.mul_comm], Nat.mod_mul]

end Sys2Proof.Machine
end

