-- ==== Sys2Proof/Laws/Cells.lean ====
section
/-!
SUPPORT. The laws of sparse storage: a read after a write, and the canonical form, which every operation keeps.
-/

namespace Sys2Proof.Machine

variable {α : Type}

/-! ### Reading after erasing and inserting -/

theorem Cells.get_erase_same (d : Nat → α) (m : Cells α) (k : Nat) : Cells.get d (Cells.erase m k) k = d k := by
  induction m with
  | nil => rfl
  | cons c t ih =>
    obtain ⟨a, v⟩ := c
    by_cases h : a = k
    · simp [Cells.erase, h, ih]
    · simp [Cells.erase, h, Cells.get, ih]

theorem Cells.get_erase_other (d : Nat → α) (m : Cells α) {k j : Nat} (hjk : j ≠ k) :
    Cells.get d (Cells.erase m k) j = Cells.get d m j := by
  induction m with
  | nil => rfl
  | cons c t ih =>
    obtain ⟨a, v⟩ := c
    by_cases h : a = k
    · have : a ≠ j := fun e => hjk (e ▸ h)
      simp [Cells.erase, h, Cells.get, ih]
      omega
    · simp [Cells.erase, h, Cells.get, ih]

theorem Cells.get_insert_same (d : Nat → α) (m : Cells α) (k : Nat) (v : α) (h : ∀ c ∈ m, c.1 ≠ k) :
    Cells.get d (Cells.insert m k v) k = v := by
  induction m with
  | nil => simp [Cells.insert, Cells.get]
  | cons c t ih =>
    obtain ⟨a, w⟩ := c
    have ha : a ≠ k := h (a, w) (by simp)
    by_cases hk : k < a
    · simp [Cells.insert, hk, Cells.get]
    · simp [Cells.insert, hk, Cells.get, ha, ih fun c hc => h c (by simp [hc])]

theorem Cells.get_insert_other (d : Nat → α) (m : Cells α) {k j : Nat} (v : α) (hjk : j ≠ k) :
    Cells.get d (Cells.insert m k v) j = Cells.get d m j := by
  induction m with
  | nil => simp [Cells.insert, Cells.get]; omega
  | cons c t ih =>
    obtain ⟨a, w⟩ := c
    by_cases hk : k < a
    · simp [Cells.insert, hk, Cells.get]; omega
    · simp [Cells.insert, hk, Cells.get, ih]

theorem Cells.mem_erase (m : Cells α) (k : Nat) : ∀ c ∈ Cells.erase m k, c.1 ≠ k := by
  induction m with
  | nil => simp [Cells.erase]
  | cons c t ih =>
    obtain ⟨a, v⟩ := c
    by_cases h : a = k
    · simpa [Cells.erase, h] using ih
    · intro c hc
      simp [Cells.erase, h] at hc
      rcases hc with rfl | hc
      · exact h
      · exact ih c hc

/-- A read of the address written gives the value written. -/
theorem Cells.get_set_same [DecidableEq α] (d : Nat → α) (m : Cells α) (k : Nat) (v : α) :
    Cells.get d (Cells.set d m k v) k = v := by
  unfold Cells.set
  split
  · rename_i h
    rw [Cells.get_erase_same, h]
  · exact Cells.get_insert_same d _ k v (Cells.mem_erase m k)

/-- A write leaves every other address alone. -/
theorem Cells.get_set_other [DecidableEq α] (d : Nat → α) (m : Cells α) {k j : Nat} (v : α) (h : j ≠ k) :
    Cells.get d (Cells.set d m k v) j = Cells.get d m j := by
  unfold Cells.set
  split
  · exact Cells.get_erase_other d m h
  · rw [Cells.get_insert_other d _ v h, Cells.get_erase_other d m h]

theorem Cells.get_set [DecidableEq α] (d : Nat → α) (m : Cells α) (k j : Nat) (v : α) :
    Cells.get d (Cells.set d m k v) j = if j = k then v else Cells.get d m j := by
  split
  · rename_i h; subst h; exact Cells.get_set_same d m j v
  · rename_i h; exact Cells.get_set_other d m v h

/-! ### The canonical form -/

theorem Cells.wfFrom_mono [DecidableEq α] (d : Nat → α) {m : Cells α} {n n' : Nat} (h : n' ≤ n) (hm : Cells.wfFrom d n m = true) :
    Cells.wfFrom d n' m = true := by
  cases m with
  | nil => rfl
  | cons c t =>
    obtain ⟨a, v⟩ := c
    simp only [Cells.wfFrom, Bool.and_eq_true, decide_eq_true_eq] at hm ⊢
    exact ⟨⟨le_trans h hm.1.1, hm.1.2⟩, hm.2⟩

theorem Cells.wfFrom_erase [DecidableEq α] (d : Nat → α) (k : Nat) :
    ∀ (m : Cells α) (n : Nat), Cells.wfFrom d n m = true → Cells.wfFrom d n (Cells.erase m k) = true := by
  intro m
  induction m with
  | nil => intro n h; exact h
  | cons c t ih =>
    obtain ⟨a, v⟩ := c
    intro n h
    simp only [Cells.wfFrom, Bool.and_eq_true, decide_eq_true_eq] at h
    by_cases hk : a = k
    · simp only [Cells.erase, hk, if_true]
      exact Cells.wfFrom_mono d (by omega) (ih (a + 1) h.2)
    · simp only [Cells.erase, hk, if_false, Cells.wfFrom, Bool.and_eq_true, decide_eq_true_eq]
      exact ⟨h.1, ih (a + 1) h.2⟩

theorem Cells.wfFrom_insert [DecidableEq α] (d : Nat → α) (k : Nat) (v : α) (hv : v ≠ d k) :
    ∀ (m : Cells α) (n : Nat), n ≤ k → (∀ c ∈ m, c.1 ≠ k) → Cells.wfFrom d n m = true → Cells.wfFrom d n (Cells.insert m k v) = true := by
  intro m
  induction m with
  | nil => intro n hn _ _; simp [Cells.insert, Cells.wfFrom, hn, hv]
  | cons c t ih =>
    obtain ⟨a, w⟩ := c
    intro n hn hne h
    simp only [Cells.wfFrom, Bool.and_eq_true, decide_eq_true_eq] at h
    have ha : a ≠ k := hne (a, w) (by simp)
    by_cases hk : k < a
    · simp only [Cells.insert, hk, if_true, Cells.wfFrom, Bool.and_eq_true, decide_eq_true_eq]
      exact ⟨⟨hn, hv⟩, ⟨by omega, h.1.2⟩, h.2⟩
    · simp only [Cells.insert, hk, if_false, Cells.wfFrom, Bool.and_eq_true, decide_eq_true_eq]
      exact ⟨h.1, ih (a + 1) (by omega) (fun c hc => hne c (by simp [hc])) h.2⟩

/-- A write keeps the canonical form. -/
theorem Cells.wf_set [DecidableEq α] (d : Nat → α) (m : Cells α) (k : Nat) (v : α) (h : Cells.wf d m = true) :
    Cells.wf d (Cells.set d m k v) = true := by
  unfold Cells.set
  split
  · exact Cells.wfFrom_erase d k m 0 h
  · rename_i hv
    exact Cells.wfFrom_insert d k v hv _ 0 (Nat.zero_le k) (Cells.mem_erase m k) (Cells.wfFrom_erase d k m 0 h)

theorem Cells.wfFrom_filter [DecidableEq α] (d : Nat → α) (p : Nat × α → Bool) :
    ∀ (m : Cells α) (n : Nat), Cells.wfFrom d n m = true → Cells.wfFrom d n (m.filter p) = true := by
  intro m
  induction m with
  | nil => intro n h; exact h
  | cons c t ih =>
    obtain ⟨a, v⟩ := c
    intro n h
    simp only [Cells.wfFrom, Bool.and_eq_true, decide_eq_true_eq] at h
    by_cases hp : p (a, v) = true
    · simp only [List.filter_cons, hp, if_true, Cells.wfFrom, Bool.and_eq_true, decide_eq_true_eq]
      exact ⟨h.1, ih (a + 1) h.2⟩
    · simp only [List.filter_cons, hp]
      exact Cells.wfFrom_mono d (by omega) (ih (a + 1) h.2)

/-- Taking cells out keeps the canonical form. -/
theorem Cells.wf_filter [DecidableEq α] (d : Nat → α) (p : Nat × α → Bool) (m : Cells α) (h : Cells.wf d m = true) :
    Cells.wf d (m.filter p) = true :=
  Cells.wfFrom_filter d p m 0 h

/-! ### Byte strings -/

theorem Cells.wf_putBytes (l : List Byte) : ∀ (m : Cells Byte) (a : Nat), Cells.wf (fun _ => (0 : Byte)) m = true →
    Cells.wf (fun _ => (0 : Byte)) (Cells.putBytes m a l) = true := by
  induction l with
  | nil => intro m a h; exact h
  | cons b t ih => intro m a h; exact ih _ _ (Cells.wf_set _ m a b h)

/-- A byte string written leaves every byte outside it alone. -/
theorem Cells.get_putBytes_other (l : List Byte) : ∀ (m : Cells Byte) (a j : Nat), j < a ∨ a + l.length ≤ j →
    Cells.get (fun _ => (0 : Byte)) (Cells.putBytes m a l) j = Cells.get (fun _ => (0 : Byte)) m j := by
  induction l with
  | nil => intro m a j _; rfl
  | cons b t ih =>
    intro m a j h
    have h' : j < a ∨ a + (t.length + 1) ≤ j := h
    rw [Cells.putBytes, ih _ (a + 1) j (by omega)]
    exact Cells.get_set_other _ m b (by omega)

/-- A byte of a byte string written reads back. -/
theorem Cells.get_putBytes_at (l : List Byte) : ∀ (m : Cells Byte) (a i : Nat) (b : Byte), l[i]? = some b →
    Cells.get (fun _ => (0 : Byte)) (Cells.putBytes m a l) (a + i) = b := by
  induction l with
  | nil => intro m a i b h; simp at h
  | cons c t ih =>
    intro m a i b h
    cases i with
    | zero =>
      simp at h
      subst h
      rw [Cells.putBytes, Cells.get_putBytes_other t _ (a + 1) (a + 0) (by omega)]
      exact Cells.get_set_same _ m a c
    | succ i =>
      simp at h
      have := ih (Cells.set (fun _ => (0 : Byte)) m a c) (a + 1) i b h
      rw [Cells.putBytes]
      rwa [show a + (i + 1) = a + 1 + i by omega]

/-! ### Files -/

variable {κ : Type}

theorem File.get_erase_same [DecidableEq κ] (d : α) (m : File κ α) (k : κ) : File.get d (File.erase m k) k = d := by
  induction m with
  | nil => rfl
  | cons c t ih =>
    obtain ⟨a, v⟩ := c
    by_cases h : a = k
    · simp [File.erase, h, ih]
    · simp [File.erase, h, File.get, ih]

theorem File.get_erase_other [DecidableEq κ] (d : α) (m : File κ α) {k j : κ} (hjk : j ≠ k) :
    File.get d (File.erase m k) j = File.get d m j := by
  induction m with
  | nil => rfl
  | cons c t ih =>
    obtain ⟨a, v⟩ := c
    by_cases h : a = k
    · subst h
      simp [File.erase, File.get, ih, Ne.symm hjk]
    · simp [File.erase, h, File.get, ih]

/-- A read of the variable written gives the value written. -/
theorem File.get_set_same [DecidableEq κ] [DecidableEq α] (d : α) (m : File κ α) (k : κ) (v : α) :
    File.get d (File.set d m k v) k = v := by
  unfold File.set
  split
  · rename_i h; rw [File.get_erase_same, h]
  · simp [File.get]

/-- A write leaves every other variable alone. -/
theorem File.get_set_other [DecidableEq κ] [DecidableEq α] (d : α) (m : File κ α) {k j : κ} (v : α) (h : j ≠ k) :
    File.get d (File.set d m k v) j = File.get d m j := by
  unfold File.set
  split
  · exact File.get_erase_other d m h
  · simp [File.get, Ne.symm h, File.get_erase_other d m h]

theorem File.get_set [DecidableEq κ] [DecidableEq α] (d : α) (m : File κ α) (k j : κ) (v : α) :
    File.get d (File.set d m k v) j = if j = k then v else File.get d m j := by
  split
  · rename_i h; subst h; exact File.get_set_same d m j v
  · rename_i h; exact File.get_set_other d m v h

end Sys2Proof.Machine
end

