-- ==== Sys2Proof/Laws/State.lean ====
section
/-!
SUPPORT. Every update of the state leaves every other field alone: one lemma per field and update, by rfl.
-/

namespace Sys2Proof.Machine

variable (s : State)

/-! ### setReg -/

@[simp] theorem State.setReg_variant (a : Nat) (v : Word) : (s.setReg a v).variant = s.variant := rfl
@[simp] theorem State.setReg_now (a : Nat) (v : Word) : (s.setReg a v).now = s.now := rfl
@[simp] theorem State.setReg_tb (a : Nat) (v : Word) : (s.setReg a v).tb = s.tb := rfl
@[simp] theorem State.setReg_ptp (a : Nat) (v : Word) : (s.setReg a v).ptp = s.ptp := rfl
@[simp] theorem State.setReg_ptpAdd (a : Nat) (v : Word) : (s.setReg a v).ptpAdd = s.ptpAdd := rfl
@[simp] theorem State.setReg_cdRun (a : Nat) (v : Word) : (s.setReg a v).cdRun = s.cdRun := rfl
@[simp] theorem State.setReg_rmRun (a : Nat) (v : Word) : (s.setReg a v).rmRun = s.rmRun := rfl
@[simp] theorem State.setReg_dram (a : Nat) (v : Word) : (s.setReg a v).dram = s.dram := rfl
@[simp] theorem State.setReg_hostMem (a : Nat) (v : Word) : (s.setReg a v).hostMem = s.hostMem := rfl
@[simp] theorem State.setReg_events (a : Nat) (v : Word) : (s.setReg a v).events = s.events := rfl
@[simp] theorem State.setReg_recQueue (a : Nat) (v : Word) : (s.setReg a v).recQueue = s.recQueue := rfl
@[simp] theorem State.setReg_recStore (a : Nat) (v : Word) : (s.setReg a v).recStore = s.recStore := rfl
@[simp] theorem State.setReg_safetyLog (a : Nat) (v : Word) : (s.setReg a v).safetyLog = s.safetyLog := rfl
@[simp] theorem State.setReg_clearLog (a : Nat) (v : Word) : (s.setReg a v).clearLog = s.clearLog := rfl
@[simp] theorem State.setReg_mbx (a : Nat) (v : Word) : (s.setReg a v).mbx = s.mbx := rfl
@[simp] theorem State.setReg_devQueue (a : Nat) (v : Word) : (s.setReg a v).devQueue = s.devQueue := rfl
@[simp] theorem State.setReg_msi (a : Nat) (v : Word) : (s.setReg a v).msi = s.msi := rfl
@[simp] theorem State.setReg_rings (a : Nat) (v : Word) : (s.setReg a v).rings = s.rings := rfl
@[simp] theorem State.setReg_barkerSt (a : Nat) (v : Word) : (s.setReg a v).barkerSt = s.barkerSt := rfl
@[simp] theorem State.setReg_profs (a : Nat) (v : Word) : (s.setReg a v).profs = s.profs := rfl
@[simp] theorem State.setReg_recst (a : Nat) (v : Word) : (s.setReg a v).recst = s.recst := rfl
@[simp] theorem State.setReg_trips (a : Nat) (v : Word) : (s.setReg a v).trips = s.trips := rfl
@[simp] theorem State.setReg_edges (a : Nat) (v : Word) : (s.setReg a v).edges = s.edges := rfl
@[simp] theorem State.setReg_gatesH (a : Nat) (v : Word) : (s.setReg a v).gatesH = s.gatesH := rfl
@[simp] theorem State.setReg_gatesL (a : Nat) (v : Word) : (s.setReg a v).gatesL = s.gatesL := rfl
@[simp] theorem State.setReg_drvs (a : Nat) (v : Word) : (s.setReg a v).drvs = s.drvs := rfl
@[simp] theorem State.setReg_clusters (a : Nat) (v : Word) : (s.setReg a v).clusters = s.clusters := rfl
@[simp] theorem State.setReg_gmus (a : Nat) (v : Word) : (s.setReg a v).gmus = s.gmus := rfl
@[simp] theorem State.setReg_blks (a : Nat) (v : Word) : (s.setReg a v).blks = s.blks := rfl
@[simp] theorem State.setReg_npms (a : Nat) (v : Word) : (s.setReg a v).npms = s.npms := rfl
@[simp] theorem State.setReg_regions (a : Nat) (v : Word) : (s.setReg a v).regions = s.regions := rfl
@[simp] theorem State.setReg_dcs (a : Nat) (v : Word) : (s.setReg a v).dcs = s.dcs := rfl
@[simp] theorem State.setReg_chgs (a : Nat) (v : Word) : (s.setReg a v).chgs = s.chgs := rfl
@[simp] theorem State.setReg_ldgs (a : Nat) (v : Word) : (s.setReg a v).ldgs = s.ldgs := rfl
@[simp] theorem State.setReg_journal (a : Nat) (v : Word) : (s.setReg a v).journal = s.journal := rfl
@[simp] theorem State.setReg_snet (a : Nat) (v : Word) : (s.setReg a v).snet = s.snet := rfl
@[simp] theorem State.setReg_svrs (a : Nat) (v : Word) : (s.setReg a v).svrs = s.svrs := rfl
@[simp] theorem State.setReg_auxs (a : Nat) (v : Word) : (s.setReg a v).auxs = s.auxs := rfl
@[simp] theorem State.setReg_fbs (a : Nat) (v : Word) : (s.setReg a v).fbs = s.fbs := rfl
@[simp] theorem State.setReg_thm (a : Nat) (v : Word) : (s.setReg a v).thm = s.thm := rfl
@[simp] theorem State.setReg_pack (a : Nat) (v : Word) : (s.setReg a v).pack = s.pack := rfl
@[simp] theorem State.setReg_meas (a : Nat) (v : Word) : (s.setReg a v).meas = s.meas := rfl
@[simp] theorem State.setReg_txns (a : Nat) (v : Word) : (s.setReg a v).txns = s.txns := rfl
@[simp] theorem State.setReg_cans (a : Nat) (v : Word) : (s.setReg a v).cans = s.cans := rfl
@[simp] theorem State.setReg_snl (a : Nat) (v : Word) : (s.setReg a v).snl = s.snl := rfl
@[simp] theorem State.setReg_trmons (a : Nat) (v : Word) : (s.setReg a v).trmons = s.trmons := rfl
@[simp] theorem State.setReg_slackCd (a : Nat) (v : Word) : (s.setReg a v).slackCd = s.slackCd := rfl
@[simp] theorem State.setReg_slackMd (a : Nat) (v : Word) : (s.setReg a v).slackMd = s.slackMd := rfl
@[simp] theorem State.setReg_stalls (a : Nat) (v : Word) : (s.setReg a v).stalls = s.stalls := rfl
@[simp] theorem State.setReg_bad (a : Nat) (v : Word) : (s.setReg a v).bad = s.bad := rfl
@[simp] theorem State.setReg_store (a : Nat) (v : Word) : (s.setReg a v).store = s.store := rfl
@[simp] theorem State.setReg_auths (a : Nat) (v : Word) : (s.setReg a v).auths = s.auths := rfl
@[simp] theorem State.setReg_power (a : Nat) (v : Word) : (s.setReg a v).power = s.power := rfl
@[simp] theorem State.setReg_diag (a : Nat) (v : Word) : (s.setReg a v).diag = s.diag := rfl
@[simp] theorem State.setReg_rm (a : Nat) (v : Word) : (s.setReg a v).rm = s.rm := rfl
@[simp] theorem State.setReg_sys (a : Nat) (v : Word) : (s.setReg a v).sys = s.sys := rfl
@[simp] theorem State.setReg_modid (a : Nat) (v : Word) : (s.setReg a v).modid = s.modid := rfl
@[simp] theorem State.setReg_lastTid (a : Nat) (v : Word) : (s.setReg a v).lastTid = s.lastTid := rfl
@[simp] theorem State.setReg_cmdWait (a : Nat) (v : Word) : (s.setReg a v).cmdWait = s.cmdWait := rfl
@[simp] theorem State.setReg_cpl (a : Nat) (v : Word) : (s.setReg a v).cpl = s.cpl := rfl
@[simp] theorem State.setReg_eccCor (a : Nat) (v : Word) : (s.setReg a v).eccCor = s.eccCor := rfl
@[simp] theorem State.setReg_draws (a : Nat) (v : Word) : (s.setReg a v).draws = s.draws := rfl
@[simp] theorem State.setReg_pending (a : Nat) (v : Word) : (s.setReg a v).pending = s.pending := rfl

/-! ### setNat -/

@[simp] theorem State.setNat_variant (a v : Nat) : (s.setNat a v).variant = s.variant := rfl
@[simp] theorem State.setNat_now (a v : Nat) : (s.setNat a v).now = s.now := rfl
@[simp] theorem State.setNat_tb (a v : Nat) : (s.setNat a v).tb = s.tb := rfl
@[simp] theorem State.setNat_ptp (a v : Nat) : (s.setNat a v).ptp = s.ptp := rfl
@[simp] theorem State.setNat_ptpAdd (a v : Nat) : (s.setNat a v).ptpAdd = s.ptpAdd := rfl
@[simp] theorem State.setNat_cdRun (a v : Nat) : (s.setNat a v).cdRun = s.cdRun := rfl
@[simp] theorem State.setNat_rmRun (a v : Nat) : (s.setNat a v).rmRun = s.rmRun := rfl
@[simp] theorem State.setNat_dram (a v : Nat) : (s.setNat a v).dram = s.dram := rfl
@[simp] theorem State.setNat_hostMem (a v : Nat) : (s.setNat a v).hostMem = s.hostMem := rfl
@[simp] theorem State.setNat_events (a v : Nat) : (s.setNat a v).events = s.events := rfl
@[simp] theorem State.setNat_recQueue (a v : Nat) : (s.setNat a v).recQueue = s.recQueue := rfl
@[simp] theorem State.setNat_recStore (a v : Nat) : (s.setNat a v).recStore = s.recStore := rfl
@[simp] theorem State.setNat_safetyLog (a v : Nat) : (s.setNat a v).safetyLog = s.safetyLog := rfl
@[simp] theorem State.setNat_clearLog (a v : Nat) : (s.setNat a v).clearLog = s.clearLog := rfl
@[simp] theorem State.setNat_mbx (a v : Nat) : (s.setNat a v).mbx = s.mbx := rfl
@[simp] theorem State.setNat_devQueue (a v : Nat) : (s.setNat a v).devQueue = s.devQueue := rfl
@[simp] theorem State.setNat_msi (a v : Nat) : (s.setNat a v).msi = s.msi := rfl
@[simp] theorem State.setNat_rings (a v : Nat) : (s.setNat a v).rings = s.rings := rfl
@[simp] theorem State.setNat_barkerSt (a v : Nat) : (s.setNat a v).barkerSt = s.barkerSt := rfl
@[simp] theorem State.setNat_profs (a v : Nat) : (s.setNat a v).profs = s.profs := rfl
@[simp] theorem State.setNat_recst (a v : Nat) : (s.setNat a v).recst = s.recst := rfl
@[simp] theorem State.setNat_trips (a v : Nat) : (s.setNat a v).trips = s.trips := rfl
@[simp] theorem State.setNat_edges (a v : Nat) : (s.setNat a v).edges = s.edges := rfl
@[simp] theorem State.setNat_gatesH (a v : Nat) : (s.setNat a v).gatesH = s.gatesH := rfl
@[simp] theorem State.setNat_gatesL (a v : Nat) : (s.setNat a v).gatesL = s.gatesL := rfl
@[simp] theorem State.setNat_drvs (a v : Nat) : (s.setNat a v).drvs = s.drvs := rfl
@[simp] theorem State.setNat_clusters (a v : Nat) : (s.setNat a v).clusters = s.clusters := rfl
@[simp] theorem State.setNat_gmus (a v : Nat) : (s.setNat a v).gmus = s.gmus := rfl
@[simp] theorem State.setNat_blks (a v : Nat) : (s.setNat a v).blks = s.blks := rfl
@[simp] theorem State.setNat_npms (a v : Nat) : (s.setNat a v).npms = s.npms := rfl
@[simp] theorem State.setNat_regions (a v : Nat) : (s.setNat a v).regions = s.regions := rfl
@[simp] theorem State.setNat_dcs (a v : Nat) : (s.setNat a v).dcs = s.dcs := rfl
@[simp] theorem State.setNat_chgs (a v : Nat) : (s.setNat a v).chgs = s.chgs := rfl
@[simp] theorem State.setNat_ldgs (a v : Nat) : (s.setNat a v).ldgs = s.ldgs := rfl
@[simp] theorem State.setNat_journal (a v : Nat) : (s.setNat a v).journal = s.journal := rfl
@[simp] theorem State.setNat_snet (a v : Nat) : (s.setNat a v).snet = s.snet := rfl
@[simp] theorem State.setNat_svrs (a v : Nat) : (s.setNat a v).svrs = s.svrs := rfl
@[simp] theorem State.setNat_auxs (a v : Nat) : (s.setNat a v).auxs = s.auxs := rfl
@[simp] theorem State.setNat_fbs (a v : Nat) : (s.setNat a v).fbs = s.fbs := rfl
@[simp] theorem State.setNat_thm (a v : Nat) : (s.setNat a v).thm = s.thm := rfl
@[simp] theorem State.setNat_pack (a v : Nat) : (s.setNat a v).pack = s.pack := rfl
@[simp] theorem State.setNat_meas (a v : Nat) : (s.setNat a v).meas = s.meas := rfl
@[simp] theorem State.setNat_txns (a v : Nat) : (s.setNat a v).txns = s.txns := rfl
@[simp] theorem State.setNat_cans (a v : Nat) : (s.setNat a v).cans = s.cans := rfl
@[simp] theorem State.setNat_snl (a v : Nat) : (s.setNat a v).snl = s.snl := rfl
@[simp] theorem State.setNat_trmons (a v : Nat) : (s.setNat a v).trmons = s.trmons := rfl
@[simp] theorem State.setNat_slackCd (a v : Nat) : (s.setNat a v).slackCd = s.slackCd := rfl
@[simp] theorem State.setNat_slackMd (a v : Nat) : (s.setNat a v).slackMd = s.slackMd := rfl
@[simp] theorem State.setNat_stalls (a v : Nat) : (s.setNat a v).stalls = s.stalls := rfl
@[simp] theorem State.setNat_bad (a v : Nat) : (s.setNat a v).bad = s.bad := rfl
@[simp] theorem State.setNat_store (a v : Nat) : (s.setNat a v).store = s.store := rfl
@[simp] theorem State.setNat_auths (a v : Nat) : (s.setNat a v).auths = s.auths := rfl
@[simp] theorem State.setNat_power (a v : Nat) : (s.setNat a v).power = s.power := rfl
@[simp] theorem State.setNat_diag (a v : Nat) : (s.setNat a v).diag = s.diag := rfl
@[simp] theorem State.setNat_rm (a v : Nat) : (s.setNat a v).rm = s.rm := rfl
@[simp] theorem State.setNat_sys (a v : Nat) : (s.setNat a v).sys = s.sys := rfl
@[simp] theorem State.setNat_modid (a v : Nat) : (s.setNat a v).modid = s.modid := rfl
@[simp] theorem State.setNat_lastTid (a v : Nat) : (s.setNat a v).lastTid = s.lastTid := rfl
@[simp] theorem State.setNat_cmdWait (a v : Nat) : (s.setNat a v).cmdWait = s.cmdWait := rfl
@[simp] theorem State.setNat_cpl (a v : Nat) : (s.setNat a v).cpl = s.cpl := rfl
@[simp] theorem State.setNat_eccCor (a v : Nat) : (s.setNat a v).eccCor = s.eccCor := rfl
@[simp] theorem State.setNat_draws (a v : Nat) : (s.setNat a v).draws = s.draws := rfl
@[simp] theorem State.setNat_pending (a v : Nat) : (s.setNat a v).pending = s.pending := rfl

/-! ### setFld -/

@[simp] theorem State.setFld_variant (a : Nat) (f : Field) (v : Nat) : (s.setFld a f v).variant = s.variant := rfl
@[simp] theorem State.setFld_now (a : Nat) (f : Field) (v : Nat) : (s.setFld a f v).now = s.now := rfl
@[simp] theorem State.setFld_tb (a : Nat) (f : Field) (v : Nat) : (s.setFld a f v).tb = s.tb := rfl
@[simp] theorem State.setFld_ptp (a : Nat) (f : Field) (v : Nat) : (s.setFld a f v).ptp = s.ptp := rfl
@[simp] theorem State.setFld_ptpAdd (a : Nat) (f : Field) (v : Nat) : (s.setFld a f v).ptpAdd = s.ptpAdd := rfl
@[simp] theorem State.setFld_cdRun (a : Nat) (f : Field) (v : Nat) : (s.setFld a f v).cdRun = s.cdRun := rfl
@[simp] theorem State.setFld_rmRun (a : Nat) (f : Field) (v : Nat) : (s.setFld a f v).rmRun = s.rmRun := rfl
@[simp] theorem State.setFld_dram (a : Nat) (f : Field) (v : Nat) : (s.setFld a f v).dram = s.dram := rfl
@[simp] theorem State.setFld_hostMem (a : Nat) (f : Field) (v : Nat) : (s.setFld a f v).hostMem = s.hostMem := rfl
@[simp] theorem State.setFld_events (a : Nat) (f : Field) (v : Nat) : (s.setFld a f v).events = s.events := rfl
@[simp] theorem State.setFld_recQueue (a : Nat) (f : Field) (v : Nat) : (s.setFld a f v).recQueue = s.recQueue := rfl
@[simp] theorem State.setFld_recStore (a : Nat) (f : Field) (v : Nat) : (s.setFld a f v).recStore = s.recStore := rfl
@[simp] theorem State.setFld_safetyLog (a : Nat) (f : Field) (v : Nat) : (s.setFld a f v).safetyLog = s.safetyLog := rfl
@[simp] theorem State.setFld_clearLog (a : Nat) (f : Field) (v : Nat) : (s.setFld a f v).clearLog = s.clearLog := rfl
@[simp] theorem State.setFld_mbx (a : Nat) (f : Field) (v : Nat) : (s.setFld a f v).mbx = s.mbx := rfl
@[simp] theorem State.setFld_devQueue (a : Nat) (f : Field) (v : Nat) : (s.setFld a f v).devQueue = s.devQueue := rfl
@[simp] theorem State.setFld_msi (a : Nat) (f : Field) (v : Nat) : (s.setFld a f v).msi = s.msi := rfl
@[simp] theorem State.setFld_rings (a : Nat) (f : Field) (v : Nat) : (s.setFld a f v).rings = s.rings := rfl
@[simp] theorem State.setFld_barkerSt (a : Nat) (f : Field) (v : Nat) : (s.setFld a f v).barkerSt = s.barkerSt := rfl
@[simp] theorem State.setFld_profs (a : Nat) (f : Field) (v : Nat) : (s.setFld a f v).profs = s.profs := rfl
@[simp] theorem State.setFld_recst (a : Nat) (f : Field) (v : Nat) : (s.setFld a f v).recst = s.recst := rfl
@[simp] theorem State.setFld_trips (a : Nat) (f : Field) (v : Nat) : (s.setFld a f v).trips = s.trips := rfl
@[simp] theorem State.setFld_edges (a : Nat) (f : Field) (v : Nat) : (s.setFld a f v).edges = s.edges := rfl
@[simp] theorem State.setFld_gatesH (a : Nat) (f : Field) (v : Nat) : (s.setFld a f v).gatesH = s.gatesH := rfl
@[simp] theorem State.setFld_gatesL (a : Nat) (f : Field) (v : Nat) : (s.setFld a f v).gatesL = s.gatesL := rfl
@[simp] theorem State.setFld_drvs (a : Nat) (f : Field) (v : Nat) : (s.setFld a f v).drvs = s.drvs := rfl
@[simp] theorem State.setFld_clusters (a : Nat) (f : Field) (v : Nat) : (s.setFld a f v).clusters = s.clusters := rfl
@[simp] theorem State.setFld_gmus (a : Nat) (f : Field) (v : Nat) : (s.setFld a f v).gmus = s.gmus := rfl
@[simp] theorem State.setFld_blks (a : Nat) (f : Field) (v : Nat) : (s.setFld a f v).blks = s.blks := rfl
@[simp] theorem State.setFld_npms (a : Nat) (f : Field) (v : Nat) : (s.setFld a f v).npms = s.npms := rfl
@[simp] theorem State.setFld_regions (a : Nat) (f : Field) (v : Nat) : (s.setFld a f v).regions = s.regions := rfl
@[simp] theorem State.setFld_dcs (a : Nat) (f : Field) (v : Nat) : (s.setFld a f v).dcs = s.dcs := rfl
@[simp] theorem State.setFld_chgs (a : Nat) (f : Field) (v : Nat) : (s.setFld a f v).chgs = s.chgs := rfl
@[simp] theorem State.setFld_ldgs (a : Nat) (f : Field) (v : Nat) : (s.setFld a f v).ldgs = s.ldgs := rfl
@[simp] theorem State.setFld_journal (a : Nat) (f : Field) (v : Nat) : (s.setFld a f v).journal = s.journal := rfl
@[simp] theorem State.setFld_snet (a : Nat) (f : Field) (v : Nat) : (s.setFld a f v).snet = s.snet := rfl
@[simp] theorem State.setFld_svrs (a : Nat) (f : Field) (v : Nat) : (s.setFld a f v).svrs = s.svrs := rfl
@[simp] theorem State.setFld_auxs (a : Nat) (f : Field) (v : Nat) : (s.setFld a f v).auxs = s.auxs := rfl
@[simp] theorem State.setFld_fbs (a : Nat) (f : Field) (v : Nat) : (s.setFld a f v).fbs = s.fbs := rfl
@[simp] theorem State.setFld_thm (a : Nat) (f : Field) (v : Nat) : (s.setFld a f v).thm = s.thm := rfl
@[simp] theorem State.setFld_pack (a : Nat) (f : Field) (v : Nat) : (s.setFld a f v).pack = s.pack := rfl
@[simp] theorem State.setFld_meas (a : Nat) (f : Field) (v : Nat) : (s.setFld a f v).meas = s.meas := rfl
@[simp] theorem State.setFld_txns (a : Nat) (f : Field) (v : Nat) : (s.setFld a f v).txns = s.txns := rfl
@[simp] theorem State.setFld_cans (a : Nat) (f : Field) (v : Nat) : (s.setFld a f v).cans = s.cans := rfl
@[simp] theorem State.setFld_snl (a : Nat) (f : Field) (v : Nat) : (s.setFld a f v).snl = s.snl := rfl
@[simp] theorem State.setFld_trmons (a : Nat) (f : Field) (v : Nat) : (s.setFld a f v).trmons = s.trmons := rfl
@[simp] theorem State.setFld_slackCd (a : Nat) (f : Field) (v : Nat) : (s.setFld a f v).slackCd = s.slackCd := rfl
@[simp] theorem State.setFld_slackMd (a : Nat) (f : Field) (v : Nat) : (s.setFld a f v).slackMd = s.slackMd := rfl
@[simp] theorem State.setFld_stalls (a : Nat) (f : Field) (v : Nat) : (s.setFld a f v).stalls = s.stalls := rfl
@[simp] theorem State.setFld_bad (a : Nat) (f : Field) (v : Nat) : (s.setFld a f v).bad = s.bad := rfl
@[simp] theorem State.setFld_store (a : Nat) (f : Field) (v : Nat) : (s.setFld a f v).store = s.store := rfl
@[simp] theorem State.setFld_auths (a : Nat) (f : Field) (v : Nat) : (s.setFld a f v).auths = s.auths := rfl
@[simp] theorem State.setFld_power (a : Nat) (f : Field) (v : Nat) : (s.setFld a f v).power = s.power := rfl
@[simp] theorem State.setFld_diag (a : Nat) (f : Field) (v : Nat) : (s.setFld a f v).diag = s.diag := rfl
@[simp] theorem State.setFld_rm (a : Nat) (f : Field) (v : Nat) : (s.setFld a f v).rm = s.rm := rfl
@[simp] theorem State.setFld_sys (a : Nat) (f : Field) (v : Nat) : (s.setFld a f v).sys = s.sys := rfl
@[simp] theorem State.setFld_modid (a : Nat) (f : Field) (v : Nat) : (s.setFld a f v).modid = s.modid := rfl
@[simp] theorem State.setFld_lastTid (a : Nat) (f : Field) (v : Nat) : (s.setFld a f v).lastTid = s.lastTid := rfl
@[simp] theorem State.setFld_cmdWait (a : Nat) (f : Field) (v : Nat) : (s.setFld a f v).cmdWait = s.cmdWait := rfl
@[simp] theorem State.setFld_cpl (a : Nat) (f : Field) (v : Nat) : (s.setFld a f v).cpl = s.cpl := rfl
@[simp] theorem State.setFld_eccCor (a : Nat) (f : Field) (v : Nat) : (s.setFld a f v).eccCor = s.eccCor := rfl
@[simp] theorem State.setFld_draws (a : Nat) (f : Field) (v : Nat) : (s.setFld a f v).draws = s.draws := rfl
@[simp] theorem State.setFld_pending (a : Nat) (f : Field) (v : Nat) : (s.setFld a f v).pending = s.pending := rfl

/-! ### setBit -/

@[simp] theorem State.setBit_variant (a : Nat) (f : Field) (b : Bool) : (s.setBit a f b).variant = s.variant := rfl
@[simp] theorem State.setBit_now (a : Nat) (f : Field) (b : Bool) : (s.setBit a f b).now = s.now := rfl
@[simp] theorem State.setBit_tb (a : Nat) (f : Field) (b : Bool) : (s.setBit a f b).tb = s.tb := rfl
@[simp] theorem State.setBit_ptp (a : Nat) (f : Field) (b : Bool) : (s.setBit a f b).ptp = s.ptp := rfl
@[simp] theorem State.setBit_ptpAdd (a : Nat) (f : Field) (b : Bool) : (s.setBit a f b).ptpAdd = s.ptpAdd := rfl
@[simp] theorem State.setBit_cdRun (a : Nat) (f : Field) (b : Bool) : (s.setBit a f b).cdRun = s.cdRun := rfl
@[simp] theorem State.setBit_rmRun (a : Nat) (f : Field) (b : Bool) : (s.setBit a f b).rmRun = s.rmRun := rfl
@[simp] theorem State.setBit_dram (a : Nat) (f : Field) (b : Bool) : (s.setBit a f b).dram = s.dram := rfl
@[simp] theorem State.setBit_hostMem (a : Nat) (f : Field) (b : Bool) : (s.setBit a f b).hostMem = s.hostMem := rfl
@[simp] theorem State.setBit_events (a : Nat) (f : Field) (b : Bool) : (s.setBit a f b).events = s.events := rfl
@[simp] theorem State.setBit_recQueue (a : Nat) (f : Field) (b : Bool) : (s.setBit a f b).recQueue = s.recQueue := rfl
@[simp] theorem State.setBit_recStore (a : Nat) (f : Field) (b : Bool) : (s.setBit a f b).recStore = s.recStore := rfl
@[simp] theorem State.setBit_safetyLog (a : Nat) (f : Field) (b : Bool) : (s.setBit a f b).safetyLog = s.safetyLog := rfl
@[simp] theorem State.setBit_clearLog (a : Nat) (f : Field) (b : Bool) : (s.setBit a f b).clearLog = s.clearLog := rfl
@[simp] theorem State.setBit_mbx (a : Nat) (f : Field) (b : Bool) : (s.setBit a f b).mbx = s.mbx := rfl
@[simp] theorem State.setBit_devQueue (a : Nat) (f : Field) (b : Bool) : (s.setBit a f b).devQueue = s.devQueue := rfl
@[simp] theorem State.setBit_msi (a : Nat) (f : Field) (b : Bool) : (s.setBit a f b).msi = s.msi := rfl
@[simp] theorem State.setBit_rings (a : Nat) (f : Field) (b : Bool) : (s.setBit a f b).rings = s.rings := rfl
@[simp] theorem State.setBit_barkerSt (a : Nat) (f : Field) (b : Bool) : (s.setBit a f b).barkerSt = s.barkerSt := rfl
@[simp] theorem State.setBit_profs (a : Nat) (f : Field) (b : Bool) : (s.setBit a f b).profs = s.profs := rfl
@[simp] theorem State.setBit_recst (a : Nat) (f : Field) (b : Bool) : (s.setBit a f b).recst = s.recst := rfl
@[simp] theorem State.setBit_trips (a : Nat) (f : Field) (b : Bool) : (s.setBit a f b).trips = s.trips := rfl
@[simp] theorem State.setBit_edges (a : Nat) (f : Field) (b : Bool) : (s.setBit a f b).edges = s.edges := rfl
@[simp] theorem State.setBit_gatesH (a : Nat) (f : Field) (b : Bool) : (s.setBit a f b).gatesH = s.gatesH := rfl
@[simp] theorem State.setBit_gatesL (a : Nat) (f : Field) (b : Bool) : (s.setBit a f b).gatesL = s.gatesL := rfl
@[simp] theorem State.setBit_drvs (a : Nat) (f : Field) (b : Bool) : (s.setBit a f b).drvs = s.drvs := rfl
@[simp] theorem State.setBit_clusters (a : Nat) (f : Field) (b : Bool) : (s.setBit a f b).clusters = s.clusters := rfl
@[simp] theorem State.setBit_gmus (a : Nat) (f : Field) (b : Bool) : (s.setBit a f b).gmus = s.gmus := rfl
@[simp] theorem State.setBit_blks (a : Nat) (f : Field) (b : Bool) : (s.setBit a f b).blks = s.blks := rfl
@[simp] theorem State.setBit_npms (a : Nat) (f : Field) (b : Bool) : (s.setBit a f b).npms = s.npms := rfl
@[simp] theorem State.setBit_regions (a : Nat) (f : Field) (b : Bool) : (s.setBit a f b).regions = s.regions := rfl
@[simp] theorem State.setBit_dcs (a : Nat) (f : Field) (b : Bool) : (s.setBit a f b).dcs = s.dcs := rfl
@[simp] theorem State.setBit_chgs (a : Nat) (f : Field) (b : Bool) : (s.setBit a f b).chgs = s.chgs := rfl
@[simp] theorem State.setBit_ldgs (a : Nat) (f : Field) (b : Bool) : (s.setBit a f b).ldgs = s.ldgs := rfl
@[simp] theorem State.setBit_journal (a : Nat) (f : Field) (b : Bool) : (s.setBit a f b).journal = s.journal := rfl
@[simp] theorem State.setBit_snet (a : Nat) (f : Field) (b : Bool) : (s.setBit a f b).snet = s.snet := rfl
@[simp] theorem State.setBit_svrs (a : Nat) (f : Field) (b : Bool) : (s.setBit a f b).svrs = s.svrs := rfl
@[simp] theorem State.setBit_auxs (a : Nat) (f : Field) (b : Bool) : (s.setBit a f b).auxs = s.auxs := rfl
@[simp] theorem State.setBit_fbs (a : Nat) (f : Field) (b : Bool) : (s.setBit a f b).fbs = s.fbs := rfl
@[simp] theorem State.setBit_thm (a : Nat) (f : Field) (b : Bool) : (s.setBit a f b).thm = s.thm := rfl
@[simp] theorem State.setBit_pack (a : Nat) (f : Field) (b : Bool) : (s.setBit a f b).pack = s.pack := rfl
@[simp] theorem State.setBit_meas (a : Nat) (f : Field) (b : Bool) : (s.setBit a f b).meas = s.meas := rfl
@[simp] theorem State.setBit_txns (a : Nat) (f : Field) (b : Bool) : (s.setBit a f b).txns = s.txns := rfl
@[simp] theorem State.setBit_cans (a : Nat) (f : Field) (b : Bool) : (s.setBit a f b).cans = s.cans := rfl
@[simp] theorem State.setBit_snl (a : Nat) (f : Field) (b : Bool) : (s.setBit a f b).snl = s.snl := rfl
@[simp] theorem State.setBit_trmons (a : Nat) (f : Field) (b : Bool) : (s.setBit a f b).trmons = s.trmons := rfl
@[simp] theorem State.setBit_slackCd (a : Nat) (f : Field) (b : Bool) : (s.setBit a f b).slackCd = s.slackCd := rfl
@[simp] theorem State.setBit_slackMd (a : Nat) (f : Field) (b : Bool) : (s.setBit a f b).slackMd = s.slackMd := rfl
@[simp] theorem State.setBit_stalls (a : Nat) (f : Field) (b : Bool) : (s.setBit a f b).stalls = s.stalls := rfl
@[simp] theorem State.setBit_bad (a : Nat) (f : Field) (b : Bool) : (s.setBit a f b).bad = s.bad := rfl
@[simp] theorem State.setBit_store (a : Nat) (f : Field) (b : Bool) : (s.setBit a f b).store = s.store := rfl
@[simp] theorem State.setBit_auths (a : Nat) (f : Field) (b : Bool) : (s.setBit a f b).auths = s.auths := rfl
@[simp] theorem State.setBit_power (a : Nat) (f : Field) (b : Bool) : (s.setBit a f b).power = s.power := rfl
@[simp] theorem State.setBit_diag (a : Nat) (f : Field) (b : Bool) : (s.setBit a f b).diag = s.diag := rfl
@[simp] theorem State.setBit_rm (a : Nat) (f : Field) (b : Bool) : (s.setBit a f b).rm = s.rm := rfl
@[simp] theorem State.setBit_sys (a : Nat) (f : Field) (b : Bool) : (s.setBit a f b).sys = s.sys := rfl
@[simp] theorem State.setBit_modid (a : Nat) (f : Field) (b : Bool) : (s.setBit a f b).modid = s.modid := rfl
@[simp] theorem State.setBit_lastTid (a : Nat) (f : Field) (b : Bool) : (s.setBit a f b).lastTid = s.lastTid := rfl
@[simp] theorem State.setBit_cmdWait (a : Nat) (f : Field) (b : Bool) : (s.setBit a f b).cmdWait = s.cmdWait := rfl
@[simp] theorem State.setBit_cpl (a : Nat) (f : Field) (b : Bool) : (s.setBit a f b).cpl = s.cpl := rfl
@[simp] theorem State.setBit_eccCor (a : Nat) (f : Field) (b : Bool) : (s.setBit a f b).eccCor = s.eccCor := rfl
@[simp] theorem State.setBit_draws (a : Nat) (f : Field) (b : Bool) : (s.setBit a f b).draws = s.draws := rfl
@[simp] theorem State.setBit_pending (a : Nat) (f : Field) (b : Bool) : (s.setBit a f b).pending = s.pending := rfl

/-! ### incFld -/

@[simp] theorem State.incFld_variant (a : Nat) (f : Field) : (s.incFld a f).variant = s.variant := rfl
@[simp] theorem State.incFld_now (a : Nat) (f : Field) : (s.incFld a f).now = s.now := rfl
@[simp] theorem State.incFld_tb (a : Nat) (f : Field) : (s.incFld a f).tb = s.tb := rfl
@[simp] theorem State.incFld_ptp (a : Nat) (f : Field) : (s.incFld a f).ptp = s.ptp := rfl
@[simp] theorem State.incFld_ptpAdd (a : Nat) (f : Field) : (s.incFld a f).ptpAdd = s.ptpAdd := rfl
@[simp] theorem State.incFld_cdRun (a : Nat) (f : Field) : (s.incFld a f).cdRun = s.cdRun := rfl
@[simp] theorem State.incFld_rmRun (a : Nat) (f : Field) : (s.incFld a f).rmRun = s.rmRun := rfl
@[simp] theorem State.incFld_dram (a : Nat) (f : Field) : (s.incFld a f).dram = s.dram := rfl
@[simp] theorem State.incFld_hostMem (a : Nat) (f : Field) : (s.incFld a f).hostMem = s.hostMem := rfl
@[simp] theorem State.incFld_events (a : Nat) (f : Field) : (s.incFld a f).events = s.events := rfl
@[simp] theorem State.incFld_recQueue (a : Nat) (f : Field) : (s.incFld a f).recQueue = s.recQueue := rfl
@[simp] theorem State.incFld_recStore (a : Nat) (f : Field) : (s.incFld a f).recStore = s.recStore := rfl
@[simp] theorem State.incFld_safetyLog (a : Nat) (f : Field) : (s.incFld a f).safetyLog = s.safetyLog := rfl
@[simp] theorem State.incFld_clearLog (a : Nat) (f : Field) : (s.incFld a f).clearLog = s.clearLog := rfl
@[simp] theorem State.incFld_mbx (a : Nat) (f : Field) : (s.incFld a f).mbx = s.mbx := rfl
@[simp] theorem State.incFld_devQueue (a : Nat) (f : Field) : (s.incFld a f).devQueue = s.devQueue := rfl
@[simp] theorem State.incFld_msi (a : Nat) (f : Field) : (s.incFld a f).msi = s.msi := rfl
@[simp] theorem State.incFld_rings (a : Nat) (f : Field) : (s.incFld a f).rings = s.rings := rfl
@[simp] theorem State.incFld_barkerSt (a : Nat) (f : Field) : (s.incFld a f).barkerSt = s.barkerSt := rfl
@[simp] theorem State.incFld_profs (a : Nat) (f : Field) : (s.incFld a f).profs = s.profs := rfl
@[simp] theorem State.incFld_recst (a : Nat) (f : Field) : (s.incFld a f).recst = s.recst := rfl
@[simp] theorem State.incFld_trips (a : Nat) (f : Field) : (s.incFld a f).trips = s.trips := rfl
@[simp] theorem State.incFld_edges (a : Nat) (f : Field) : (s.incFld a f).edges = s.edges := rfl
@[simp] theorem State.incFld_gatesH (a : Nat) (f : Field) : (s.incFld a f).gatesH = s.gatesH := rfl
@[simp] theorem State.incFld_gatesL (a : Nat) (f : Field) : (s.incFld a f).gatesL = s.gatesL := rfl
@[simp] theorem State.incFld_drvs (a : Nat) (f : Field) : (s.incFld a f).drvs = s.drvs := rfl
@[simp] theorem State.incFld_clusters (a : Nat) (f : Field) : (s.incFld a f).clusters = s.clusters := rfl
@[simp] theorem State.incFld_gmus (a : Nat) (f : Field) : (s.incFld a f).gmus = s.gmus := rfl
@[simp] theorem State.incFld_blks (a : Nat) (f : Field) : (s.incFld a f).blks = s.blks := rfl
@[simp] theorem State.incFld_npms (a : Nat) (f : Field) : (s.incFld a f).npms = s.npms := rfl
@[simp] theorem State.incFld_regions (a : Nat) (f : Field) : (s.incFld a f).regions = s.regions := rfl
@[simp] theorem State.incFld_dcs (a : Nat) (f : Field) : (s.incFld a f).dcs = s.dcs := rfl
@[simp] theorem State.incFld_chgs (a : Nat) (f : Field) : (s.incFld a f).chgs = s.chgs := rfl
@[simp] theorem State.incFld_ldgs (a : Nat) (f : Field) : (s.incFld a f).ldgs = s.ldgs := rfl
@[simp] theorem State.incFld_journal (a : Nat) (f : Field) : (s.incFld a f).journal = s.journal := rfl
@[simp] theorem State.incFld_snet (a : Nat) (f : Field) : (s.incFld a f).snet = s.snet := rfl
@[simp] theorem State.incFld_svrs (a : Nat) (f : Field) : (s.incFld a f).svrs = s.svrs := rfl
@[simp] theorem State.incFld_auxs (a : Nat) (f : Field) : (s.incFld a f).auxs = s.auxs := rfl
@[simp] theorem State.incFld_fbs (a : Nat) (f : Field) : (s.incFld a f).fbs = s.fbs := rfl
@[simp] theorem State.incFld_thm (a : Nat) (f : Field) : (s.incFld a f).thm = s.thm := rfl
@[simp] theorem State.incFld_pack (a : Nat) (f : Field) : (s.incFld a f).pack = s.pack := rfl
@[simp] theorem State.incFld_meas (a : Nat) (f : Field) : (s.incFld a f).meas = s.meas := rfl
@[simp] theorem State.incFld_txns (a : Nat) (f : Field) : (s.incFld a f).txns = s.txns := rfl
@[simp] theorem State.incFld_cans (a : Nat) (f : Field) : (s.incFld a f).cans = s.cans := rfl
@[simp] theorem State.incFld_snl (a : Nat) (f : Field) : (s.incFld a f).snl = s.snl := rfl
@[simp] theorem State.incFld_trmons (a : Nat) (f : Field) : (s.incFld a f).trmons = s.trmons := rfl
@[simp] theorem State.incFld_slackCd (a : Nat) (f : Field) : (s.incFld a f).slackCd = s.slackCd := rfl
@[simp] theorem State.incFld_slackMd (a : Nat) (f : Field) : (s.incFld a f).slackMd = s.slackMd := rfl
@[simp] theorem State.incFld_stalls (a : Nat) (f : Field) : (s.incFld a f).stalls = s.stalls := rfl
@[simp] theorem State.incFld_bad (a : Nat) (f : Field) : (s.incFld a f).bad = s.bad := rfl
@[simp] theorem State.incFld_store (a : Nat) (f : Field) : (s.incFld a f).store = s.store := rfl
@[simp] theorem State.incFld_auths (a : Nat) (f : Field) : (s.incFld a f).auths = s.auths := rfl
@[simp] theorem State.incFld_power (a : Nat) (f : Field) : (s.incFld a f).power = s.power := rfl
@[simp] theorem State.incFld_diag (a : Nat) (f : Field) : (s.incFld a f).diag = s.diag := rfl
@[simp] theorem State.incFld_rm (a : Nat) (f : Field) : (s.incFld a f).rm = s.rm := rfl
@[simp] theorem State.incFld_sys (a : Nat) (f : Field) : (s.incFld a f).sys = s.sys := rfl
@[simp] theorem State.incFld_modid (a : Nat) (f : Field) : (s.incFld a f).modid = s.modid := rfl
@[simp] theorem State.incFld_lastTid (a : Nat) (f : Field) : (s.incFld a f).lastTid = s.lastTid := rfl
@[simp] theorem State.incFld_cmdWait (a : Nat) (f : Field) : (s.incFld a f).cmdWait = s.cmdWait := rfl
@[simp] theorem State.incFld_cpl (a : Nat) (f : Field) : (s.incFld a f).cpl = s.cpl := rfl
@[simp] theorem State.incFld_eccCor (a : Nat) (f : Field) : (s.incFld a f).eccCor = s.eccCor := rfl
@[simp] theorem State.incFld_draws (a : Nat) (f : Field) : (s.incFld a f).draws = s.draws := rfl
@[simp] theorem State.incFld_pending (a : Nat) (f : Field) : (s.incFld a f).pending = s.pending := rfl

/-! ### incSat -/

@[simp] theorem State.incSat_variant (a : Nat) : (s.incSat a).variant = s.variant := rfl
@[simp] theorem State.incSat_now (a : Nat) : (s.incSat a).now = s.now := rfl
@[simp] theorem State.incSat_tb (a : Nat) : (s.incSat a).tb = s.tb := rfl
@[simp] theorem State.incSat_ptp (a : Nat) : (s.incSat a).ptp = s.ptp := rfl
@[simp] theorem State.incSat_ptpAdd (a : Nat) : (s.incSat a).ptpAdd = s.ptpAdd := rfl
@[simp] theorem State.incSat_cdRun (a : Nat) : (s.incSat a).cdRun = s.cdRun := rfl
@[simp] theorem State.incSat_rmRun (a : Nat) : (s.incSat a).rmRun = s.rmRun := rfl
@[simp] theorem State.incSat_dram (a : Nat) : (s.incSat a).dram = s.dram := rfl
@[simp] theorem State.incSat_hostMem (a : Nat) : (s.incSat a).hostMem = s.hostMem := rfl
@[simp] theorem State.incSat_events (a : Nat) : (s.incSat a).events = s.events := rfl
@[simp] theorem State.incSat_recQueue (a : Nat) : (s.incSat a).recQueue = s.recQueue := rfl
@[simp] theorem State.incSat_recStore (a : Nat) : (s.incSat a).recStore = s.recStore := rfl
@[simp] theorem State.incSat_safetyLog (a : Nat) : (s.incSat a).safetyLog = s.safetyLog := rfl
@[simp] theorem State.incSat_clearLog (a : Nat) : (s.incSat a).clearLog = s.clearLog := rfl
@[simp] theorem State.incSat_mbx (a : Nat) : (s.incSat a).mbx = s.mbx := rfl
@[simp] theorem State.incSat_devQueue (a : Nat) : (s.incSat a).devQueue = s.devQueue := rfl
@[simp] theorem State.incSat_msi (a : Nat) : (s.incSat a).msi = s.msi := rfl
@[simp] theorem State.incSat_rings (a : Nat) : (s.incSat a).rings = s.rings := rfl
@[simp] theorem State.incSat_barkerSt (a : Nat) : (s.incSat a).barkerSt = s.barkerSt := rfl
@[simp] theorem State.incSat_profs (a : Nat) : (s.incSat a).profs = s.profs := rfl
@[simp] theorem State.incSat_recst (a : Nat) : (s.incSat a).recst = s.recst := rfl
@[simp] theorem State.incSat_trips (a : Nat) : (s.incSat a).trips = s.trips := rfl
@[simp] theorem State.incSat_edges (a : Nat) : (s.incSat a).edges = s.edges := rfl
@[simp] theorem State.incSat_gatesH (a : Nat) : (s.incSat a).gatesH = s.gatesH := rfl
@[simp] theorem State.incSat_gatesL (a : Nat) : (s.incSat a).gatesL = s.gatesL := rfl
@[simp] theorem State.incSat_drvs (a : Nat) : (s.incSat a).drvs = s.drvs := rfl
@[simp] theorem State.incSat_clusters (a : Nat) : (s.incSat a).clusters = s.clusters := rfl
@[simp] theorem State.incSat_gmus (a : Nat) : (s.incSat a).gmus = s.gmus := rfl
@[simp] theorem State.incSat_blks (a : Nat) : (s.incSat a).blks = s.blks := rfl
@[simp] theorem State.incSat_npms (a : Nat) : (s.incSat a).npms = s.npms := rfl
@[simp] theorem State.incSat_regions (a : Nat) : (s.incSat a).regions = s.regions := rfl
@[simp] theorem State.incSat_dcs (a : Nat) : (s.incSat a).dcs = s.dcs := rfl
@[simp] theorem State.incSat_chgs (a : Nat) : (s.incSat a).chgs = s.chgs := rfl
@[simp] theorem State.incSat_ldgs (a : Nat) : (s.incSat a).ldgs = s.ldgs := rfl
@[simp] theorem State.incSat_journal (a : Nat) : (s.incSat a).journal = s.journal := rfl
@[simp] theorem State.incSat_snet (a : Nat) : (s.incSat a).snet = s.snet := rfl
@[simp] theorem State.incSat_svrs (a : Nat) : (s.incSat a).svrs = s.svrs := rfl
@[simp] theorem State.incSat_auxs (a : Nat) : (s.incSat a).auxs = s.auxs := rfl
@[simp] theorem State.incSat_fbs (a : Nat) : (s.incSat a).fbs = s.fbs := rfl
@[simp] theorem State.incSat_thm (a : Nat) : (s.incSat a).thm = s.thm := rfl
@[simp] theorem State.incSat_pack (a : Nat) : (s.incSat a).pack = s.pack := rfl
@[simp] theorem State.incSat_meas (a : Nat) : (s.incSat a).meas = s.meas := rfl
@[simp] theorem State.incSat_txns (a : Nat) : (s.incSat a).txns = s.txns := rfl
@[simp] theorem State.incSat_cans (a : Nat) : (s.incSat a).cans = s.cans := rfl
@[simp] theorem State.incSat_snl (a : Nat) : (s.incSat a).snl = s.snl := rfl
@[simp] theorem State.incSat_trmons (a : Nat) : (s.incSat a).trmons = s.trmons := rfl
@[simp] theorem State.incSat_slackCd (a : Nat) : (s.incSat a).slackCd = s.slackCd := rfl
@[simp] theorem State.incSat_slackMd (a : Nat) : (s.incSat a).slackMd = s.slackMd := rfl
@[simp] theorem State.incSat_stalls (a : Nat) : (s.incSat a).stalls = s.stalls := rfl
@[simp] theorem State.incSat_bad (a : Nat) : (s.incSat a).bad = s.bad := rfl
@[simp] theorem State.incSat_store (a : Nat) : (s.incSat a).store = s.store := rfl
@[simp] theorem State.incSat_auths (a : Nat) : (s.incSat a).auths = s.auths := rfl
@[simp] theorem State.incSat_power (a : Nat) : (s.incSat a).power = s.power := rfl
@[simp] theorem State.incSat_diag (a : Nat) : (s.incSat a).diag = s.diag := rfl
@[simp] theorem State.incSat_rm (a : Nat) : (s.incSat a).rm = s.rm := rfl
@[simp] theorem State.incSat_sys (a : Nat) : (s.incSat a).sys = s.sys := rfl
@[simp] theorem State.incSat_modid (a : Nat) : (s.incSat a).modid = s.modid := rfl
@[simp] theorem State.incSat_lastTid (a : Nat) : (s.incSat a).lastTid = s.lastTid := rfl
@[simp] theorem State.incSat_cmdWait (a : Nat) : (s.incSat a).cmdWait = s.cmdWait := rfl
@[simp] theorem State.incSat_cpl (a : Nat) : (s.incSat a).cpl = s.cpl := rfl
@[simp] theorem State.incSat_eccCor (a : Nat) : (s.incSat a).eccCor = s.eccCor := rfl
@[simp] theorem State.incSat_draws (a : Nat) : (s.incSat a).draws = s.draws := rfl
@[simp] theorem State.incSat_pending (a : Nat) : (s.incSat a).pending = s.pending := rfl

/-! ### setNat64 -/

@[simp] theorem State.setNat64_variant (lo hi v : Nat) : (s.setNat64 lo hi v).variant = s.variant := rfl
@[simp] theorem State.setNat64_now (lo hi v : Nat) : (s.setNat64 lo hi v).now = s.now := rfl
@[simp] theorem State.setNat64_tb (lo hi v : Nat) : (s.setNat64 lo hi v).tb = s.tb := rfl
@[simp] theorem State.setNat64_ptp (lo hi v : Nat) : (s.setNat64 lo hi v).ptp = s.ptp := rfl
@[simp] theorem State.setNat64_ptpAdd (lo hi v : Nat) : (s.setNat64 lo hi v).ptpAdd = s.ptpAdd := rfl
@[simp] theorem State.setNat64_cdRun (lo hi v : Nat) : (s.setNat64 lo hi v).cdRun = s.cdRun := rfl
@[simp] theorem State.setNat64_rmRun (lo hi v : Nat) : (s.setNat64 lo hi v).rmRun = s.rmRun := rfl
@[simp] theorem State.setNat64_dram (lo hi v : Nat) : (s.setNat64 lo hi v).dram = s.dram := rfl
@[simp] theorem State.setNat64_hostMem (lo hi v : Nat) : (s.setNat64 lo hi v).hostMem = s.hostMem := rfl
@[simp] theorem State.setNat64_events (lo hi v : Nat) : (s.setNat64 lo hi v).events = s.events := rfl
@[simp] theorem State.setNat64_recQueue (lo hi v : Nat) : (s.setNat64 lo hi v).recQueue = s.recQueue := rfl
@[simp] theorem State.setNat64_recStore (lo hi v : Nat) : (s.setNat64 lo hi v).recStore = s.recStore := rfl
@[simp] theorem State.setNat64_safetyLog (lo hi v : Nat) : (s.setNat64 lo hi v).safetyLog = s.safetyLog := rfl
@[simp] theorem State.setNat64_clearLog (lo hi v : Nat) : (s.setNat64 lo hi v).clearLog = s.clearLog := rfl
@[simp] theorem State.setNat64_mbx (lo hi v : Nat) : (s.setNat64 lo hi v).mbx = s.mbx := rfl
@[simp] theorem State.setNat64_devQueue (lo hi v : Nat) : (s.setNat64 lo hi v).devQueue = s.devQueue := rfl
@[simp] theorem State.setNat64_msi (lo hi v : Nat) : (s.setNat64 lo hi v).msi = s.msi := rfl
@[simp] theorem State.setNat64_rings (lo hi v : Nat) : (s.setNat64 lo hi v).rings = s.rings := rfl
@[simp] theorem State.setNat64_barkerSt (lo hi v : Nat) : (s.setNat64 lo hi v).barkerSt = s.barkerSt := rfl
@[simp] theorem State.setNat64_profs (lo hi v : Nat) : (s.setNat64 lo hi v).profs = s.profs := rfl
@[simp] theorem State.setNat64_recst (lo hi v : Nat) : (s.setNat64 lo hi v).recst = s.recst := rfl
@[simp] theorem State.setNat64_trips (lo hi v : Nat) : (s.setNat64 lo hi v).trips = s.trips := rfl
@[simp] theorem State.setNat64_edges (lo hi v : Nat) : (s.setNat64 lo hi v).edges = s.edges := rfl
@[simp] theorem State.setNat64_gatesH (lo hi v : Nat) : (s.setNat64 lo hi v).gatesH = s.gatesH := rfl
@[simp] theorem State.setNat64_gatesL (lo hi v : Nat) : (s.setNat64 lo hi v).gatesL = s.gatesL := rfl
@[simp] theorem State.setNat64_drvs (lo hi v : Nat) : (s.setNat64 lo hi v).drvs = s.drvs := rfl
@[simp] theorem State.setNat64_clusters (lo hi v : Nat) : (s.setNat64 lo hi v).clusters = s.clusters := rfl
@[simp] theorem State.setNat64_gmus (lo hi v : Nat) : (s.setNat64 lo hi v).gmus = s.gmus := rfl
@[simp] theorem State.setNat64_blks (lo hi v : Nat) : (s.setNat64 lo hi v).blks = s.blks := rfl
@[simp] theorem State.setNat64_npms (lo hi v : Nat) : (s.setNat64 lo hi v).npms = s.npms := rfl
@[simp] theorem State.setNat64_regions (lo hi v : Nat) : (s.setNat64 lo hi v).regions = s.regions := rfl
@[simp] theorem State.setNat64_dcs (lo hi v : Nat) : (s.setNat64 lo hi v).dcs = s.dcs := rfl
@[simp] theorem State.setNat64_chgs (lo hi v : Nat) : (s.setNat64 lo hi v).chgs = s.chgs := rfl
@[simp] theorem State.setNat64_ldgs (lo hi v : Nat) : (s.setNat64 lo hi v).ldgs = s.ldgs := rfl
@[simp] theorem State.setNat64_journal (lo hi v : Nat) : (s.setNat64 lo hi v).journal = s.journal := rfl
@[simp] theorem State.setNat64_snet (lo hi v : Nat) : (s.setNat64 lo hi v).snet = s.snet := rfl
@[simp] theorem State.setNat64_svrs (lo hi v : Nat) : (s.setNat64 lo hi v).svrs = s.svrs := rfl
@[simp] theorem State.setNat64_auxs (lo hi v : Nat) : (s.setNat64 lo hi v).auxs = s.auxs := rfl
@[simp] theorem State.setNat64_fbs (lo hi v : Nat) : (s.setNat64 lo hi v).fbs = s.fbs := rfl
@[simp] theorem State.setNat64_thm (lo hi v : Nat) : (s.setNat64 lo hi v).thm = s.thm := rfl
@[simp] theorem State.setNat64_pack (lo hi v : Nat) : (s.setNat64 lo hi v).pack = s.pack := rfl
@[simp] theorem State.setNat64_meas (lo hi v : Nat) : (s.setNat64 lo hi v).meas = s.meas := rfl
@[simp] theorem State.setNat64_txns (lo hi v : Nat) : (s.setNat64 lo hi v).txns = s.txns := rfl
@[simp] theorem State.setNat64_cans (lo hi v : Nat) : (s.setNat64 lo hi v).cans = s.cans := rfl
@[simp] theorem State.setNat64_snl (lo hi v : Nat) : (s.setNat64 lo hi v).snl = s.snl := rfl
@[simp] theorem State.setNat64_trmons (lo hi v : Nat) : (s.setNat64 lo hi v).trmons = s.trmons := rfl
@[simp] theorem State.setNat64_slackCd (lo hi v : Nat) : (s.setNat64 lo hi v).slackCd = s.slackCd := rfl
@[simp] theorem State.setNat64_slackMd (lo hi v : Nat) : (s.setNat64 lo hi v).slackMd = s.slackMd := rfl
@[simp] theorem State.setNat64_stalls (lo hi v : Nat) : (s.setNat64 lo hi v).stalls = s.stalls := rfl
@[simp] theorem State.setNat64_bad (lo hi v : Nat) : (s.setNat64 lo hi v).bad = s.bad := rfl
@[simp] theorem State.setNat64_store (lo hi v : Nat) : (s.setNat64 lo hi v).store = s.store := rfl
@[simp] theorem State.setNat64_auths (lo hi v : Nat) : (s.setNat64 lo hi v).auths = s.auths := rfl
@[simp] theorem State.setNat64_power (lo hi v : Nat) : (s.setNat64 lo hi v).power = s.power := rfl
@[simp] theorem State.setNat64_diag (lo hi v : Nat) : (s.setNat64 lo hi v).diag = s.diag := rfl
@[simp] theorem State.setNat64_rm (lo hi v : Nat) : (s.setNat64 lo hi v).rm = s.rm := rfl
@[simp] theorem State.setNat64_sys (lo hi v : Nat) : (s.setNat64 lo hi v).sys = s.sys := rfl
@[simp] theorem State.setNat64_modid (lo hi v : Nat) : (s.setNat64 lo hi v).modid = s.modid := rfl
@[simp] theorem State.setNat64_lastTid (lo hi v : Nat) : (s.setNat64 lo hi v).lastTid = s.lastTid := rfl
@[simp] theorem State.setNat64_cmdWait (lo hi v : Nat) : (s.setNat64 lo hi v).cmdWait = s.cmdWait := rfl
@[simp] theorem State.setNat64_cpl (lo hi v : Nat) : (s.setNat64 lo hi v).cpl = s.cpl := rfl
@[simp] theorem State.setNat64_eccCor (lo hi v : Nat) : (s.setNat64 lo hi v).eccCor = s.eccCor := rfl
@[simp] theorem State.setNat64_draws (lo hi v : Nat) : (s.setNat64 lo hi v).draws = s.draws := rfl
@[simp] theorem State.setNat64_pending (lo hi v : Nat) : (s.setNat64 lo hi v).pending = s.pending := rfl

/-! ### putDram -/

@[simp] theorem State.putDram_variant (a : Nat) (l : List Byte) : (s.putDram a l).variant = s.variant := rfl
@[simp] theorem State.putDram_now (a : Nat) (l : List Byte) : (s.putDram a l).now = s.now := rfl
@[simp] theorem State.putDram_tb (a : Nat) (l : List Byte) : (s.putDram a l).tb = s.tb := rfl
@[simp] theorem State.putDram_ptp (a : Nat) (l : List Byte) : (s.putDram a l).ptp = s.ptp := rfl
@[simp] theorem State.putDram_ptpAdd (a : Nat) (l : List Byte) : (s.putDram a l).ptpAdd = s.ptpAdd := rfl
@[simp] theorem State.putDram_cdRun (a : Nat) (l : List Byte) : (s.putDram a l).cdRun = s.cdRun := rfl
@[simp] theorem State.putDram_rmRun (a : Nat) (l : List Byte) : (s.putDram a l).rmRun = s.rmRun := rfl
@[simp] theorem State.putDram_regs (a : Nat) (l : List Byte) : (s.putDram a l).regs = s.regs := rfl
@[simp] theorem State.putDram_hostMem (a : Nat) (l : List Byte) : (s.putDram a l).hostMem = s.hostMem := rfl
@[simp] theorem State.putDram_events (a : Nat) (l : List Byte) : (s.putDram a l).events = s.events := rfl
@[simp] theorem State.putDram_recQueue (a : Nat) (l : List Byte) : (s.putDram a l).recQueue = s.recQueue := rfl
@[simp] theorem State.putDram_recStore (a : Nat) (l : List Byte) : (s.putDram a l).recStore = s.recStore := rfl
@[simp] theorem State.putDram_safetyLog (a : Nat) (l : List Byte) : (s.putDram a l).safetyLog = s.safetyLog := rfl
@[simp] theorem State.putDram_clearLog (a : Nat) (l : List Byte) : (s.putDram a l).clearLog = s.clearLog := rfl
@[simp] theorem State.putDram_mbx (a : Nat) (l : List Byte) : (s.putDram a l).mbx = s.mbx := rfl
@[simp] theorem State.putDram_devQueue (a : Nat) (l : List Byte) : (s.putDram a l).devQueue = s.devQueue := rfl
@[simp] theorem State.putDram_msi (a : Nat) (l : List Byte) : (s.putDram a l).msi = s.msi := rfl
@[simp] theorem State.putDram_rings (a : Nat) (l : List Byte) : (s.putDram a l).rings = s.rings := rfl
@[simp] theorem State.putDram_barkerSt (a : Nat) (l : List Byte) : (s.putDram a l).barkerSt = s.barkerSt := rfl
@[simp] theorem State.putDram_profs (a : Nat) (l : List Byte) : (s.putDram a l).profs = s.profs := rfl
@[simp] theorem State.putDram_recst (a : Nat) (l : List Byte) : (s.putDram a l).recst = s.recst := rfl
@[simp] theorem State.putDram_trips (a : Nat) (l : List Byte) : (s.putDram a l).trips = s.trips := rfl
@[simp] theorem State.putDram_edges (a : Nat) (l : List Byte) : (s.putDram a l).edges = s.edges := rfl
@[simp] theorem State.putDram_gatesH (a : Nat) (l : List Byte) : (s.putDram a l).gatesH = s.gatesH := rfl
@[simp] theorem State.putDram_gatesL (a : Nat) (l : List Byte) : (s.putDram a l).gatesL = s.gatesL := rfl
@[simp] theorem State.putDram_drvs (a : Nat) (l : List Byte) : (s.putDram a l).drvs = s.drvs := rfl
@[simp] theorem State.putDram_clusters (a : Nat) (l : List Byte) : (s.putDram a l).clusters = s.clusters := rfl
@[simp] theorem State.putDram_gmus (a : Nat) (l : List Byte) : (s.putDram a l).gmus = s.gmus := rfl
@[simp] theorem State.putDram_blks (a : Nat) (l : List Byte) : (s.putDram a l).blks = s.blks := rfl
@[simp] theorem State.putDram_npms (a : Nat) (l : List Byte) : (s.putDram a l).npms = s.npms := rfl
@[simp] theorem State.putDram_regions (a : Nat) (l : List Byte) : (s.putDram a l).regions = s.regions := rfl
@[simp] theorem State.putDram_dcs (a : Nat) (l : List Byte) : (s.putDram a l).dcs = s.dcs := rfl
@[simp] theorem State.putDram_chgs (a : Nat) (l : List Byte) : (s.putDram a l).chgs = s.chgs := rfl
@[simp] theorem State.putDram_ldgs (a : Nat) (l : List Byte) : (s.putDram a l).ldgs = s.ldgs := rfl
@[simp] theorem State.putDram_journal (a : Nat) (l : List Byte) : (s.putDram a l).journal = s.journal := rfl
@[simp] theorem State.putDram_snet (a : Nat) (l : List Byte) : (s.putDram a l).snet = s.snet := rfl
@[simp] theorem State.putDram_svrs (a : Nat) (l : List Byte) : (s.putDram a l).svrs = s.svrs := rfl
@[simp] theorem State.putDram_auxs (a : Nat) (l : List Byte) : (s.putDram a l).auxs = s.auxs := rfl
@[simp] theorem State.putDram_fbs (a : Nat) (l : List Byte) : (s.putDram a l).fbs = s.fbs := rfl
@[simp] theorem State.putDram_thm (a : Nat) (l : List Byte) : (s.putDram a l).thm = s.thm := rfl
@[simp] theorem State.putDram_pack (a : Nat) (l : List Byte) : (s.putDram a l).pack = s.pack := rfl
@[simp] theorem State.putDram_meas (a : Nat) (l : List Byte) : (s.putDram a l).meas = s.meas := rfl
@[simp] theorem State.putDram_txns (a : Nat) (l : List Byte) : (s.putDram a l).txns = s.txns := rfl
@[simp] theorem State.putDram_cans (a : Nat) (l : List Byte) : (s.putDram a l).cans = s.cans := rfl
@[simp] theorem State.putDram_snl (a : Nat) (l : List Byte) : (s.putDram a l).snl = s.snl := rfl
@[simp] theorem State.putDram_trmons (a : Nat) (l : List Byte) : (s.putDram a l).trmons = s.trmons := rfl
@[simp] theorem State.putDram_slackCd (a : Nat) (l : List Byte) : (s.putDram a l).slackCd = s.slackCd := rfl
@[simp] theorem State.putDram_slackMd (a : Nat) (l : List Byte) : (s.putDram a l).slackMd = s.slackMd := rfl
@[simp] theorem State.putDram_stalls (a : Nat) (l : List Byte) : (s.putDram a l).stalls = s.stalls := rfl
@[simp] theorem State.putDram_bad (a : Nat) (l : List Byte) : (s.putDram a l).bad = s.bad := rfl
@[simp] theorem State.putDram_store (a : Nat) (l : List Byte) : (s.putDram a l).store = s.store := rfl
@[simp] theorem State.putDram_auths (a : Nat) (l : List Byte) : (s.putDram a l).auths = s.auths := rfl
@[simp] theorem State.putDram_power (a : Nat) (l : List Byte) : (s.putDram a l).power = s.power := rfl
@[simp] theorem State.putDram_diag (a : Nat) (l : List Byte) : (s.putDram a l).diag = s.diag := rfl
@[simp] theorem State.putDram_rm (a : Nat) (l : List Byte) : (s.putDram a l).rm = s.rm := rfl
@[simp] theorem State.putDram_sys (a : Nat) (l : List Byte) : (s.putDram a l).sys = s.sys := rfl
@[simp] theorem State.putDram_modid (a : Nat) (l : List Byte) : (s.putDram a l).modid = s.modid := rfl
@[simp] theorem State.putDram_lastTid (a : Nat) (l : List Byte) : (s.putDram a l).lastTid = s.lastTid := rfl
@[simp] theorem State.putDram_cmdWait (a : Nat) (l : List Byte) : (s.putDram a l).cmdWait = s.cmdWait := rfl
@[simp] theorem State.putDram_cpl (a : Nat) (l : List Byte) : (s.putDram a l).cpl = s.cpl := rfl
@[simp] theorem State.putDram_eccCor (a : Nat) (l : List Byte) : (s.putDram a l).eccCor = s.eccCor := rfl
@[simp] theorem State.putDram_draws (a : Nat) (l : List Byte) : (s.putDram a l).draws = s.draws := rfl
@[simp] theorem State.putDram_pending (a : Nat) (l : List Byte) : (s.putDram a l).pending = s.pending := rfl
@[simp] theorem State.putDram_reg (a : Nat) (l : List Byte) (off : Nat) : (s.putDram a l).reg off = s.reg off := rfl
@[simp] theorem State.putDram_fld (a : Nat) (l : List Byte) (off : Nat) (fl : Field) : (s.putDram a l).fld off fl = s.fld off fl := rfl
@[simp] theorem State.putDram_bit (a : Nat) (l : List Byte) (off : Nat) (fl : Field) : (s.putDram a l).bit off fl = s.bit off fl := rfl

/-! ### putHost -/

@[simp] theorem State.putHost_variant (a : Nat) (l : List Byte) : (s.putHost a l).variant = s.variant := rfl
@[simp] theorem State.putHost_now (a : Nat) (l : List Byte) : (s.putHost a l).now = s.now := rfl
@[simp] theorem State.putHost_tb (a : Nat) (l : List Byte) : (s.putHost a l).tb = s.tb := rfl
@[simp] theorem State.putHost_ptp (a : Nat) (l : List Byte) : (s.putHost a l).ptp = s.ptp := rfl
@[simp] theorem State.putHost_ptpAdd (a : Nat) (l : List Byte) : (s.putHost a l).ptpAdd = s.ptpAdd := rfl
@[simp] theorem State.putHost_cdRun (a : Nat) (l : List Byte) : (s.putHost a l).cdRun = s.cdRun := rfl
@[simp] theorem State.putHost_rmRun (a : Nat) (l : List Byte) : (s.putHost a l).rmRun = s.rmRun := rfl
@[simp] theorem State.putHost_regs (a : Nat) (l : List Byte) : (s.putHost a l).regs = s.regs := rfl
@[simp] theorem State.putHost_dram (a : Nat) (l : List Byte) : (s.putHost a l).dram = s.dram := rfl
@[simp] theorem State.putHost_events (a : Nat) (l : List Byte) : (s.putHost a l).events = s.events := rfl
@[simp] theorem State.putHost_recQueue (a : Nat) (l : List Byte) : (s.putHost a l).recQueue = s.recQueue := rfl
@[simp] theorem State.putHost_recStore (a : Nat) (l : List Byte) : (s.putHost a l).recStore = s.recStore := rfl
@[simp] theorem State.putHost_safetyLog (a : Nat) (l : List Byte) : (s.putHost a l).safetyLog = s.safetyLog := rfl
@[simp] theorem State.putHost_clearLog (a : Nat) (l : List Byte) : (s.putHost a l).clearLog = s.clearLog := rfl
@[simp] theorem State.putHost_mbx (a : Nat) (l : List Byte) : (s.putHost a l).mbx = s.mbx := rfl
@[simp] theorem State.putHost_devQueue (a : Nat) (l : List Byte) : (s.putHost a l).devQueue = s.devQueue := rfl
@[simp] theorem State.putHost_msi (a : Nat) (l : List Byte) : (s.putHost a l).msi = s.msi := rfl
@[simp] theorem State.putHost_rings (a : Nat) (l : List Byte) : (s.putHost a l).rings = s.rings := rfl
@[simp] theorem State.putHost_barkerSt (a : Nat) (l : List Byte) : (s.putHost a l).barkerSt = s.barkerSt := rfl
@[simp] theorem State.putHost_profs (a : Nat) (l : List Byte) : (s.putHost a l).profs = s.profs := rfl
@[simp] theorem State.putHost_recst (a : Nat) (l : List Byte) : (s.putHost a l).recst = s.recst := rfl
@[simp] theorem State.putHost_trips (a : Nat) (l : List Byte) : (s.putHost a l).trips = s.trips := rfl
@[simp] theorem State.putHost_edges (a : Nat) (l : List Byte) : (s.putHost a l).edges = s.edges := rfl
@[simp] theorem State.putHost_gatesH (a : Nat) (l : List Byte) : (s.putHost a l).gatesH = s.gatesH := rfl
@[simp] theorem State.putHost_gatesL (a : Nat) (l : List Byte) : (s.putHost a l).gatesL = s.gatesL := rfl
@[simp] theorem State.putHost_drvs (a : Nat) (l : List Byte) : (s.putHost a l).drvs = s.drvs := rfl
@[simp] theorem State.putHost_clusters (a : Nat) (l : List Byte) : (s.putHost a l).clusters = s.clusters := rfl
@[simp] theorem State.putHost_gmus (a : Nat) (l : List Byte) : (s.putHost a l).gmus = s.gmus := rfl
@[simp] theorem State.putHost_blks (a : Nat) (l : List Byte) : (s.putHost a l).blks = s.blks := rfl
@[simp] theorem State.putHost_npms (a : Nat) (l : List Byte) : (s.putHost a l).npms = s.npms := rfl
@[simp] theorem State.putHost_regions (a : Nat) (l : List Byte) : (s.putHost a l).regions = s.regions := rfl
@[simp] theorem State.putHost_dcs (a : Nat) (l : List Byte) : (s.putHost a l).dcs = s.dcs := rfl
@[simp] theorem State.putHost_chgs (a : Nat) (l : List Byte) : (s.putHost a l).chgs = s.chgs := rfl
@[simp] theorem State.putHost_ldgs (a : Nat) (l : List Byte) : (s.putHost a l).ldgs = s.ldgs := rfl
@[simp] theorem State.putHost_journal (a : Nat) (l : List Byte) : (s.putHost a l).journal = s.journal := rfl
@[simp] theorem State.putHost_snet (a : Nat) (l : List Byte) : (s.putHost a l).snet = s.snet := rfl
@[simp] theorem State.putHost_svrs (a : Nat) (l : List Byte) : (s.putHost a l).svrs = s.svrs := rfl
@[simp] theorem State.putHost_auxs (a : Nat) (l : List Byte) : (s.putHost a l).auxs = s.auxs := rfl
@[simp] theorem State.putHost_fbs (a : Nat) (l : List Byte) : (s.putHost a l).fbs = s.fbs := rfl
@[simp] theorem State.putHost_thm (a : Nat) (l : List Byte) : (s.putHost a l).thm = s.thm := rfl
@[simp] theorem State.putHost_pack (a : Nat) (l : List Byte) : (s.putHost a l).pack = s.pack := rfl
@[simp] theorem State.putHost_meas (a : Nat) (l : List Byte) : (s.putHost a l).meas = s.meas := rfl
@[simp] theorem State.putHost_txns (a : Nat) (l : List Byte) : (s.putHost a l).txns = s.txns := rfl
@[simp] theorem State.putHost_cans (a : Nat) (l : List Byte) : (s.putHost a l).cans = s.cans := rfl
@[simp] theorem State.putHost_snl (a : Nat) (l : List Byte) : (s.putHost a l).snl = s.snl := rfl
@[simp] theorem State.putHost_trmons (a : Nat) (l : List Byte) : (s.putHost a l).trmons = s.trmons := rfl
@[simp] theorem State.putHost_slackCd (a : Nat) (l : List Byte) : (s.putHost a l).slackCd = s.slackCd := rfl
@[simp] theorem State.putHost_slackMd (a : Nat) (l : List Byte) : (s.putHost a l).slackMd = s.slackMd := rfl
@[simp] theorem State.putHost_stalls (a : Nat) (l : List Byte) : (s.putHost a l).stalls = s.stalls := rfl
@[simp] theorem State.putHost_bad (a : Nat) (l : List Byte) : (s.putHost a l).bad = s.bad := rfl
@[simp] theorem State.putHost_store (a : Nat) (l : List Byte) : (s.putHost a l).store = s.store := rfl
@[simp] theorem State.putHost_auths (a : Nat) (l : List Byte) : (s.putHost a l).auths = s.auths := rfl
@[simp] theorem State.putHost_power (a : Nat) (l : List Byte) : (s.putHost a l).power = s.power := rfl
@[simp] theorem State.putHost_diag (a : Nat) (l : List Byte) : (s.putHost a l).diag = s.diag := rfl
@[simp] theorem State.putHost_rm (a : Nat) (l : List Byte) : (s.putHost a l).rm = s.rm := rfl
@[simp] theorem State.putHost_sys (a : Nat) (l : List Byte) : (s.putHost a l).sys = s.sys := rfl
@[simp] theorem State.putHost_modid (a : Nat) (l : List Byte) : (s.putHost a l).modid = s.modid := rfl
@[simp] theorem State.putHost_lastTid (a : Nat) (l : List Byte) : (s.putHost a l).lastTid = s.lastTid := rfl
@[simp] theorem State.putHost_cmdWait (a : Nat) (l : List Byte) : (s.putHost a l).cmdWait = s.cmdWait := rfl
@[simp] theorem State.putHost_cpl (a : Nat) (l : List Byte) : (s.putHost a l).cpl = s.cpl := rfl
@[simp] theorem State.putHost_eccCor (a : Nat) (l : List Byte) : (s.putHost a l).eccCor = s.eccCor := rfl
@[simp] theorem State.putHost_draws (a : Nat) (l : List Byte) : (s.putHost a l).draws = s.draws := rfl
@[simp] theorem State.putHost_pending (a : Nat) (l : List Byte) : (s.putHost a l).pending = s.pending := rfl
@[simp] theorem State.putHost_reg (a : Nat) (l : List Byte) (off : Nat) : (s.putHost a l).reg off = s.reg off := rfl
@[simp] theorem State.putHost_fld (a : Nat) (l : List Byte) (off : Nat) (fl : Field) : (s.putHost a l).fld off fl = s.fld off fl := rfl
@[simp] theorem State.putHost_bit (a : Nat) (l : List Byte) (off : Nat) (fl : Field) : (s.putHost a l).bit off fl = s.bit off fl := rfl

/-! ### logSafety -/

@[simp] theorem State.logSafety_variant (code data key : Nat) : (s.logSafety code data key).variant = s.variant := rfl
@[simp] theorem State.logSafety_now (code data key : Nat) : (s.logSafety code data key).now = s.now := rfl
@[simp] theorem State.logSafety_tb (code data key : Nat) : (s.logSafety code data key).tb = s.tb := rfl
@[simp] theorem State.logSafety_ptp (code data key : Nat) : (s.logSafety code data key).ptp = s.ptp := rfl
@[simp] theorem State.logSafety_ptpAdd (code data key : Nat) : (s.logSafety code data key).ptpAdd = s.ptpAdd := rfl
@[simp] theorem State.logSafety_cdRun (code data key : Nat) : (s.logSafety code data key).cdRun = s.cdRun := rfl
@[simp] theorem State.logSafety_rmRun (code data key : Nat) : (s.logSafety code data key).rmRun = s.rmRun := rfl
@[simp] theorem State.logSafety_regs (code data key : Nat) : (s.logSafety code data key).regs = s.regs := rfl
@[simp] theorem State.logSafety_dram (code data key : Nat) : (s.logSafety code data key).dram = s.dram := rfl
@[simp] theorem State.logSafety_hostMem (code data key : Nat) : (s.logSafety code data key).hostMem = s.hostMem := rfl
@[simp] theorem State.logSafety_events (code data key : Nat) : (s.logSafety code data key).events = s.events := rfl
@[simp] theorem State.logSafety_recQueue (code data key : Nat) : (s.logSafety code data key).recQueue = s.recQueue := rfl
@[simp] theorem State.logSafety_recStore (code data key : Nat) : (s.logSafety code data key).recStore = s.recStore := rfl
@[simp] theorem State.logSafety_clearLog (code data key : Nat) : (s.logSafety code data key).clearLog = s.clearLog := rfl
@[simp] theorem State.logSafety_mbx (code data key : Nat) : (s.logSafety code data key).mbx = s.mbx := rfl
@[simp] theorem State.logSafety_devQueue (code data key : Nat) : (s.logSafety code data key).devQueue = s.devQueue := rfl
@[simp] theorem State.logSafety_msi (code data key : Nat) : (s.logSafety code data key).msi = s.msi := rfl
@[simp] theorem State.logSafety_rings (code data key : Nat) : (s.logSafety code data key).rings = s.rings := rfl
@[simp] theorem State.logSafety_barkerSt (code data key : Nat) : (s.logSafety code data key).barkerSt = s.barkerSt := rfl
@[simp] theorem State.logSafety_profs (code data key : Nat) : (s.logSafety code data key).profs = s.profs := rfl
@[simp] theorem State.logSafety_recst (code data key : Nat) : (s.logSafety code data key).recst = s.recst := rfl
@[simp] theorem State.logSafety_trips (code data key : Nat) : (s.logSafety code data key).trips = s.trips := rfl
@[simp] theorem State.logSafety_edges (code data key : Nat) : (s.logSafety code data key).edges = s.edges := rfl
@[simp] theorem State.logSafety_gatesH (code data key : Nat) : (s.logSafety code data key).gatesH = s.gatesH := rfl
@[simp] theorem State.logSafety_gatesL (code data key : Nat) : (s.logSafety code data key).gatesL = s.gatesL := rfl
@[simp] theorem State.logSafety_drvs (code data key : Nat) : (s.logSafety code data key).drvs = s.drvs := rfl
@[simp] theorem State.logSafety_clusters (code data key : Nat) : (s.logSafety code data key).clusters = s.clusters := rfl
@[simp] theorem State.logSafety_gmus (code data key : Nat) : (s.logSafety code data key).gmus = s.gmus := rfl
@[simp] theorem State.logSafety_blks (code data key : Nat) : (s.logSafety code data key).blks = s.blks := rfl
@[simp] theorem State.logSafety_npms (code data key : Nat) : (s.logSafety code data key).npms = s.npms := rfl
@[simp] theorem State.logSafety_regions (code data key : Nat) : (s.logSafety code data key).regions = s.regions := rfl
@[simp] theorem State.logSafety_dcs (code data key : Nat) : (s.logSafety code data key).dcs = s.dcs := rfl
@[simp] theorem State.logSafety_chgs (code data key : Nat) : (s.logSafety code data key).chgs = s.chgs := rfl
@[simp] theorem State.logSafety_ldgs (code data key : Nat) : (s.logSafety code data key).ldgs = s.ldgs := rfl
@[simp] theorem State.logSafety_journal (code data key : Nat) : (s.logSafety code data key).journal = s.journal := rfl
@[simp] theorem State.logSafety_snet (code data key : Nat) : (s.logSafety code data key).snet = s.snet := rfl
@[simp] theorem State.logSafety_svrs (code data key : Nat) : (s.logSafety code data key).svrs = s.svrs := rfl
@[simp] theorem State.logSafety_auxs (code data key : Nat) : (s.logSafety code data key).auxs = s.auxs := rfl
@[simp] theorem State.logSafety_fbs (code data key : Nat) : (s.logSafety code data key).fbs = s.fbs := rfl
@[simp] theorem State.logSafety_thm (code data key : Nat) : (s.logSafety code data key).thm = s.thm := rfl
@[simp] theorem State.logSafety_pack (code data key : Nat) : (s.logSafety code data key).pack = s.pack := rfl
@[simp] theorem State.logSafety_meas (code data key : Nat) : (s.logSafety code data key).meas = s.meas := rfl
@[simp] theorem State.logSafety_txns (code data key : Nat) : (s.logSafety code data key).txns = s.txns := rfl
@[simp] theorem State.logSafety_cans (code data key : Nat) : (s.logSafety code data key).cans = s.cans := rfl
@[simp] theorem State.logSafety_snl (code data key : Nat) : (s.logSafety code data key).snl = s.snl := rfl
@[simp] theorem State.logSafety_trmons (code data key : Nat) : (s.logSafety code data key).trmons = s.trmons := rfl
@[simp] theorem State.logSafety_slackCd (code data key : Nat) : (s.logSafety code data key).slackCd = s.slackCd := rfl
@[simp] theorem State.logSafety_slackMd (code data key : Nat) : (s.logSafety code data key).slackMd = s.slackMd := rfl
@[simp] theorem State.logSafety_stalls (code data key : Nat) : (s.logSafety code data key).stalls = s.stalls := rfl
@[simp] theorem State.logSafety_bad (code data key : Nat) : (s.logSafety code data key).bad = s.bad := rfl
@[simp] theorem State.logSafety_store (code data key : Nat) : (s.logSafety code data key).store = s.store := rfl
@[simp] theorem State.logSafety_auths (code data key : Nat) : (s.logSafety code data key).auths = s.auths := rfl
@[simp] theorem State.logSafety_power (code data key : Nat) : (s.logSafety code data key).power = s.power := rfl
@[simp] theorem State.logSafety_diag (code data key : Nat) : (s.logSafety code data key).diag = s.diag := rfl
@[simp] theorem State.logSafety_rm (code data key : Nat) : (s.logSafety code data key).rm = s.rm := rfl
@[simp] theorem State.logSafety_sys (code data key : Nat) : (s.logSafety code data key).sys = s.sys := rfl
@[simp] theorem State.logSafety_modid (code data key : Nat) : (s.logSafety code data key).modid = s.modid := rfl
@[simp] theorem State.logSafety_lastTid (code data key : Nat) : (s.logSafety code data key).lastTid = s.lastTid := rfl
@[simp] theorem State.logSafety_cmdWait (code data key : Nat) : (s.logSafety code data key).cmdWait = s.cmdWait := rfl
@[simp] theorem State.logSafety_cpl (code data key : Nat) : (s.logSafety code data key).cpl = s.cpl := rfl
@[simp] theorem State.logSafety_eccCor (code data key : Nat) : (s.logSafety code data key).eccCor = s.eccCor := rfl
@[simp] theorem State.logSafety_draws (code data key : Nat) : (s.logSafety code data key).draws = s.draws := rfl
@[simp] theorem State.logSafety_pending (code data key : Nat) : (s.logSafety code data key).pending = s.pending := rfl
@[simp] theorem State.logSafety_reg (code data key : Nat) (off : Nat) : (s.logSafety code data key).reg off = s.reg off := rfl
@[simp] theorem State.logSafety_fld (code data key : Nat) (off : Nat) (fl : Field) : (s.logSafety code data key).fld off fl = s.fld off fl := rfl
@[simp] theorem State.logSafety_bit (code data key : Nat) (off : Nat) (fl : Field) : (s.logSafety code data key).bit off fl = s.bit off fl := rfl

/-! ### updDir -/

@[simp] theorem State.updDir_variant (c : Nat) (d : Bool) (f : NoticeDir → NoticeDir) : (s.updDir c d f).variant = s.variant := rfl
@[simp] theorem State.updDir_now (c : Nat) (d : Bool) (f : NoticeDir → NoticeDir) : (s.updDir c d f).now = s.now := rfl
@[simp] theorem State.updDir_tb (c : Nat) (d : Bool) (f : NoticeDir → NoticeDir) : (s.updDir c d f).tb = s.tb := rfl
@[simp] theorem State.updDir_ptp (c : Nat) (d : Bool) (f : NoticeDir → NoticeDir) : (s.updDir c d f).ptp = s.ptp := rfl
@[simp] theorem State.updDir_ptpAdd (c : Nat) (d : Bool) (f : NoticeDir → NoticeDir) : (s.updDir c d f).ptpAdd = s.ptpAdd := rfl
@[simp] theorem State.updDir_cdRun (c : Nat) (d : Bool) (f : NoticeDir → NoticeDir) : (s.updDir c d f).cdRun = s.cdRun := rfl
@[simp] theorem State.updDir_rmRun (c : Nat) (d : Bool) (f : NoticeDir → NoticeDir) : (s.updDir c d f).rmRun = s.rmRun := rfl
@[simp] theorem State.updDir_regs (c : Nat) (d : Bool) (f : NoticeDir → NoticeDir) : (s.updDir c d f).regs = s.regs := rfl
@[simp] theorem State.updDir_dram (c : Nat) (d : Bool) (f : NoticeDir → NoticeDir) : (s.updDir c d f).dram = s.dram := rfl
@[simp] theorem State.updDir_hostMem (c : Nat) (d : Bool) (f : NoticeDir → NoticeDir) : (s.updDir c d f).hostMem = s.hostMem := rfl
@[simp] theorem State.updDir_events (c : Nat) (d : Bool) (f : NoticeDir → NoticeDir) : (s.updDir c d f).events = s.events := rfl
@[simp] theorem State.updDir_recQueue (c : Nat) (d : Bool) (f : NoticeDir → NoticeDir) : (s.updDir c d f).recQueue = s.recQueue := rfl
@[simp] theorem State.updDir_recStore (c : Nat) (d : Bool) (f : NoticeDir → NoticeDir) : (s.updDir c d f).recStore = s.recStore := rfl
@[simp] theorem State.updDir_safetyLog (c : Nat) (d : Bool) (f : NoticeDir → NoticeDir) : (s.updDir c d f).safetyLog = s.safetyLog := rfl
@[simp] theorem State.updDir_clearLog (c : Nat) (d : Bool) (f : NoticeDir → NoticeDir) : (s.updDir c d f).clearLog = s.clearLog := rfl
@[simp] theorem State.updDir_devQueue (c : Nat) (d : Bool) (f : NoticeDir → NoticeDir) : (s.updDir c d f).devQueue = s.devQueue := rfl
@[simp] theorem State.updDir_msi (c : Nat) (d : Bool) (f : NoticeDir → NoticeDir) : (s.updDir c d f).msi = s.msi := rfl
@[simp] theorem State.updDir_rings (c : Nat) (d : Bool) (f : NoticeDir → NoticeDir) : (s.updDir c d f).rings = s.rings := rfl
@[simp] theorem State.updDir_barkerSt (c : Nat) (d : Bool) (f : NoticeDir → NoticeDir) : (s.updDir c d f).barkerSt = s.barkerSt := rfl
@[simp] theorem State.updDir_profs (c : Nat) (d : Bool) (f : NoticeDir → NoticeDir) : (s.updDir c d f).profs = s.profs := rfl
@[simp] theorem State.updDir_recst (c : Nat) (d : Bool) (f : NoticeDir → NoticeDir) : (s.updDir c d f).recst = s.recst := rfl
@[simp] theorem State.updDir_trips (c : Nat) (d : Bool) (f : NoticeDir → NoticeDir) : (s.updDir c d f).trips = s.trips := rfl
@[simp] theorem State.updDir_edges (c : Nat) (d : Bool) (f : NoticeDir → NoticeDir) : (s.updDir c d f).edges = s.edges := rfl
@[simp] theorem State.updDir_gatesH (c : Nat) (d : Bool) (f : NoticeDir → NoticeDir) : (s.updDir c d f).gatesH = s.gatesH := rfl
@[simp] theorem State.updDir_gatesL (c : Nat) (d : Bool) (f : NoticeDir → NoticeDir) : (s.updDir c d f).gatesL = s.gatesL := rfl
@[simp] theorem State.updDir_drvs (c : Nat) (d : Bool) (f : NoticeDir → NoticeDir) : (s.updDir c d f).drvs = s.drvs := rfl
@[simp] theorem State.updDir_clusters (c : Nat) (d : Bool) (f : NoticeDir → NoticeDir) : (s.updDir c d f).clusters = s.clusters := rfl
@[simp] theorem State.updDir_gmus (c : Nat) (d : Bool) (f : NoticeDir → NoticeDir) : (s.updDir c d f).gmus = s.gmus := rfl
@[simp] theorem State.updDir_blks (c : Nat) (d : Bool) (f : NoticeDir → NoticeDir) : (s.updDir c d f).blks = s.blks := rfl
@[simp] theorem State.updDir_npms (c : Nat) (d : Bool) (f : NoticeDir → NoticeDir) : (s.updDir c d f).npms = s.npms := rfl
@[simp] theorem State.updDir_regions (c : Nat) (d : Bool) (f : NoticeDir → NoticeDir) : (s.updDir c d f).regions = s.regions := rfl
@[simp] theorem State.updDir_dcs (c : Nat) (d : Bool) (f : NoticeDir → NoticeDir) : (s.updDir c d f).dcs = s.dcs := rfl
@[simp] theorem State.updDir_chgs (c : Nat) (d : Bool) (f : NoticeDir → NoticeDir) : (s.updDir c d f).chgs = s.chgs := rfl
@[simp] theorem State.updDir_ldgs (c : Nat) (d : Bool) (f : NoticeDir → NoticeDir) : (s.updDir c d f).ldgs = s.ldgs := rfl
@[simp] theorem State.updDir_journal (c : Nat) (d : Bool) (f : NoticeDir → NoticeDir) : (s.updDir c d f).journal = s.journal := rfl
@[simp] theorem State.updDir_snet (c : Nat) (d : Bool) (f : NoticeDir → NoticeDir) : (s.updDir c d f).snet = s.snet := rfl
@[simp] theorem State.updDir_svrs (c : Nat) (d : Bool) (f : NoticeDir → NoticeDir) : (s.updDir c d f).svrs = s.svrs := rfl
@[simp] theorem State.updDir_auxs (c : Nat) (d : Bool) (f : NoticeDir → NoticeDir) : (s.updDir c d f).auxs = s.auxs := rfl
@[simp] theorem State.updDir_fbs (c : Nat) (d : Bool) (f : NoticeDir → NoticeDir) : (s.updDir c d f).fbs = s.fbs := rfl
@[simp] theorem State.updDir_thm (c : Nat) (d : Bool) (f : NoticeDir → NoticeDir) : (s.updDir c d f).thm = s.thm := rfl
@[simp] theorem State.updDir_pack (c : Nat) (d : Bool) (f : NoticeDir → NoticeDir) : (s.updDir c d f).pack = s.pack := rfl
@[simp] theorem State.updDir_meas (c : Nat) (d : Bool) (f : NoticeDir → NoticeDir) : (s.updDir c d f).meas = s.meas := rfl
@[simp] theorem State.updDir_txns (c : Nat) (d : Bool) (f : NoticeDir → NoticeDir) : (s.updDir c d f).txns = s.txns := rfl
@[simp] theorem State.updDir_cans (c : Nat) (d : Bool) (f : NoticeDir → NoticeDir) : (s.updDir c d f).cans = s.cans := rfl
@[simp] theorem State.updDir_snl (c : Nat) (d : Bool) (f : NoticeDir → NoticeDir) : (s.updDir c d f).snl = s.snl := rfl
@[simp] theorem State.updDir_trmons (c : Nat) (d : Bool) (f : NoticeDir → NoticeDir) : (s.updDir c d f).trmons = s.trmons := rfl
@[simp] theorem State.updDir_slackCd (c : Nat) (d : Bool) (f : NoticeDir → NoticeDir) : (s.updDir c d f).slackCd = s.slackCd := rfl
@[simp] theorem State.updDir_slackMd (c : Nat) (d : Bool) (f : NoticeDir → NoticeDir) : (s.updDir c d f).slackMd = s.slackMd := rfl
@[simp] theorem State.updDir_stalls (c : Nat) (d : Bool) (f : NoticeDir → NoticeDir) : (s.updDir c d f).stalls = s.stalls := rfl
@[simp] theorem State.updDir_bad (c : Nat) (d : Bool) (f : NoticeDir → NoticeDir) : (s.updDir c d f).bad = s.bad := rfl
@[simp] theorem State.updDir_store (c : Nat) (d : Bool) (f : NoticeDir → NoticeDir) : (s.updDir c d f).store = s.store := rfl
@[simp] theorem State.updDir_auths (c : Nat) (d : Bool) (f : NoticeDir → NoticeDir) : (s.updDir c d f).auths = s.auths := rfl
@[simp] theorem State.updDir_power (c : Nat) (d : Bool) (f : NoticeDir → NoticeDir) : (s.updDir c d f).power = s.power := rfl
@[simp] theorem State.updDir_diag (c : Nat) (d : Bool) (f : NoticeDir → NoticeDir) : (s.updDir c d f).diag = s.diag := rfl
@[simp] theorem State.updDir_rm (c : Nat) (d : Bool) (f : NoticeDir → NoticeDir) : (s.updDir c d f).rm = s.rm := rfl
@[simp] theorem State.updDir_sys (c : Nat) (d : Bool) (f : NoticeDir → NoticeDir) : (s.updDir c d f).sys = s.sys := rfl
@[simp] theorem State.updDir_modid (c : Nat) (d : Bool) (f : NoticeDir → NoticeDir) : (s.updDir c d f).modid = s.modid := rfl
@[simp] theorem State.updDir_lastTid (c : Nat) (d : Bool) (f : NoticeDir → NoticeDir) : (s.updDir c d f).lastTid = s.lastTid := rfl
@[simp] theorem State.updDir_cmdWait (c : Nat) (d : Bool) (f : NoticeDir → NoticeDir) : (s.updDir c d f).cmdWait = s.cmdWait := rfl
@[simp] theorem State.updDir_cpl (c : Nat) (d : Bool) (f : NoticeDir → NoticeDir) : (s.updDir c d f).cpl = s.cpl := rfl
@[simp] theorem State.updDir_eccCor (c : Nat) (d : Bool) (f : NoticeDir → NoticeDir) : (s.updDir c d f).eccCor = s.eccCor := rfl
@[simp] theorem State.updDir_draws (c : Nat) (d : Bool) (f : NoticeDir → NoticeDir) : (s.updDir c d f).draws = s.draws := rfl
@[simp] theorem State.updDir_pending (c : Nat) (d : Bool) (f : NoticeDir → NoticeDir) : (s.updDir c d f).pending = s.pending := rfl
@[simp] theorem State.updDir_reg (c : Nat) (d : Bool) (f : NoticeDir → NoticeDir) (off : Nat) : (s.updDir c d f).reg off = s.reg off := rfl
@[simp] theorem State.updDir_fld (c : Nat) (d : Bool) (f : NoticeDir → NoticeDir) (off : Nat) (fl : Field) : (s.updDir c d f).fld off fl = s.fld off fl := rfl
@[simp] theorem State.updDir_bit (c : Nat) (d : Bool) (f : NoticeDir → NoticeDir) (off : Nat) (fl : Field) : (s.updDir c d f).bit off fl = s.bit off fl := rfl

/-! ### updVec -/

@[simp] theorem State.updVec_variant (v : Nat) (f : MsiVec → MsiVec) : (s.updVec v f).variant = s.variant := rfl
@[simp] theorem State.updVec_now (v : Nat) (f : MsiVec → MsiVec) : (s.updVec v f).now = s.now := rfl
@[simp] theorem State.updVec_tb (v : Nat) (f : MsiVec → MsiVec) : (s.updVec v f).tb = s.tb := rfl
@[simp] theorem State.updVec_ptp (v : Nat) (f : MsiVec → MsiVec) : (s.updVec v f).ptp = s.ptp := rfl
@[simp] theorem State.updVec_ptpAdd (v : Nat) (f : MsiVec → MsiVec) : (s.updVec v f).ptpAdd = s.ptpAdd := rfl
@[simp] theorem State.updVec_cdRun (v : Nat) (f : MsiVec → MsiVec) : (s.updVec v f).cdRun = s.cdRun := rfl
@[simp] theorem State.updVec_rmRun (v : Nat) (f : MsiVec → MsiVec) : (s.updVec v f).rmRun = s.rmRun := rfl
@[simp] theorem State.updVec_regs (v : Nat) (f : MsiVec → MsiVec) : (s.updVec v f).regs = s.regs := rfl
@[simp] theorem State.updVec_dram (v : Nat) (f : MsiVec → MsiVec) : (s.updVec v f).dram = s.dram := rfl
@[simp] theorem State.updVec_hostMem (v : Nat) (f : MsiVec → MsiVec) : (s.updVec v f).hostMem = s.hostMem := rfl
@[simp] theorem State.updVec_events (v : Nat) (f : MsiVec → MsiVec) : (s.updVec v f).events = s.events := rfl
@[simp] theorem State.updVec_recQueue (v : Nat) (f : MsiVec → MsiVec) : (s.updVec v f).recQueue = s.recQueue := rfl
@[simp] theorem State.updVec_recStore (v : Nat) (f : MsiVec → MsiVec) : (s.updVec v f).recStore = s.recStore := rfl
@[simp] theorem State.updVec_safetyLog (v : Nat) (f : MsiVec → MsiVec) : (s.updVec v f).safetyLog = s.safetyLog := rfl
@[simp] theorem State.updVec_clearLog (v : Nat) (f : MsiVec → MsiVec) : (s.updVec v f).clearLog = s.clearLog := rfl
@[simp] theorem State.updVec_mbx (v : Nat) (f : MsiVec → MsiVec) : (s.updVec v f).mbx = s.mbx := rfl
@[simp] theorem State.updVec_devQueue (v : Nat) (f : MsiVec → MsiVec) : (s.updVec v f).devQueue = s.devQueue := rfl
@[simp] theorem State.updVec_rings (v : Nat) (f : MsiVec → MsiVec) : (s.updVec v f).rings = s.rings := rfl
@[simp] theorem State.updVec_barkerSt (v : Nat) (f : MsiVec → MsiVec) : (s.updVec v f).barkerSt = s.barkerSt := rfl
@[simp] theorem State.updVec_profs (v : Nat) (f : MsiVec → MsiVec) : (s.updVec v f).profs = s.profs := rfl
@[simp] theorem State.updVec_recst (v : Nat) (f : MsiVec → MsiVec) : (s.updVec v f).recst = s.recst := rfl
@[simp] theorem State.updVec_trips (v : Nat) (f : MsiVec → MsiVec) : (s.updVec v f).trips = s.trips := rfl
@[simp] theorem State.updVec_edges (v : Nat) (f : MsiVec → MsiVec) : (s.updVec v f).edges = s.edges := rfl
@[simp] theorem State.updVec_gatesH (v : Nat) (f : MsiVec → MsiVec) : (s.updVec v f).gatesH = s.gatesH := rfl
@[simp] theorem State.updVec_gatesL (v : Nat) (f : MsiVec → MsiVec) : (s.updVec v f).gatesL = s.gatesL := rfl
@[simp] theorem State.updVec_drvs (v : Nat) (f : MsiVec → MsiVec) : (s.updVec v f).drvs = s.drvs := rfl
@[simp] theorem State.updVec_clusters (v : Nat) (f : MsiVec → MsiVec) : (s.updVec v f).clusters = s.clusters := rfl
@[simp] theorem State.updVec_gmus (v : Nat) (f : MsiVec → MsiVec) : (s.updVec v f).gmus = s.gmus := rfl
@[simp] theorem State.updVec_blks (v : Nat) (f : MsiVec → MsiVec) : (s.updVec v f).blks = s.blks := rfl
@[simp] theorem State.updVec_npms (v : Nat) (f : MsiVec → MsiVec) : (s.updVec v f).npms = s.npms := rfl
@[simp] theorem State.updVec_regions (v : Nat) (f : MsiVec → MsiVec) : (s.updVec v f).regions = s.regions := rfl
@[simp] theorem State.updVec_dcs (v : Nat) (f : MsiVec → MsiVec) : (s.updVec v f).dcs = s.dcs := rfl
@[simp] theorem State.updVec_chgs (v : Nat) (f : MsiVec → MsiVec) : (s.updVec v f).chgs = s.chgs := rfl
@[simp] theorem State.updVec_ldgs (v : Nat) (f : MsiVec → MsiVec) : (s.updVec v f).ldgs = s.ldgs := rfl
@[simp] theorem State.updVec_journal (v : Nat) (f : MsiVec → MsiVec) : (s.updVec v f).journal = s.journal := rfl
@[simp] theorem State.updVec_snet (v : Nat) (f : MsiVec → MsiVec) : (s.updVec v f).snet = s.snet := rfl
@[simp] theorem State.updVec_svrs (v : Nat) (f : MsiVec → MsiVec) : (s.updVec v f).svrs = s.svrs := rfl
@[simp] theorem State.updVec_auxs (v : Nat) (f : MsiVec → MsiVec) : (s.updVec v f).auxs = s.auxs := rfl
@[simp] theorem State.updVec_fbs (v : Nat) (f : MsiVec → MsiVec) : (s.updVec v f).fbs = s.fbs := rfl
@[simp] theorem State.updVec_thm (v : Nat) (f : MsiVec → MsiVec) : (s.updVec v f).thm = s.thm := rfl
@[simp] theorem State.updVec_pack (v : Nat) (f : MsiVec → MsiVec) : (s.updVec v f).pack = s.pack := rfl
@[simp] theorem State.updVec_meas (v : Nat) (f : MsiVec → MsiVec) : (s.updVec v f).meas = s.meas := rfl
@[simp] theorem State.updVec_txns (v : Nat) (f : MsiVec → MsiVec) : (s.updVec v f).txns = s.txns := rfl
@[simp] theorem State.updVec_cans (v : Nat) (f : MsiVec → MsiVec) : (s.updVec v f).cans = s.cans := rfl
@[simp] theorem State.updVec_snl (v : Nat) (f : MsiVec → MsiVec) : (s.updVec v f).snl = s.snl := rfl
@[simp] theorem State.updVec_trmons (v : Nat) (f : MsiVec → MsiVec) : (s.updVec v f).trmons = s.trmons := rfl
@[simp] theorem State.updVec_slackCd (v : Nat) (f : MsiVec → MsiVec) : (s.updVec v f).slackCd = s.slackCd := rfl
@[simp] theorem State.updVec_slackMd (v : Nat) (f : MsiVec → MsiVec) : (s.updVec v f).slackMd = s.slackMd := rfl
@[simp] theorem State.updVec_stalls (v : Nat) (f : MsiVec → MsiVec) : (s.updVec v f).stalls = s.stalls := rfl
@[simp] theorem State.updVec_bad (v : Nat) (f : MsiVec → MsiVec) : (s.updVec v f).bad = s.bad := rfl
@[simp] theorem State.updVec_store (v : Nat) (f : MsiVec → MsiVec) : (s.updVec v f).store = s.store := rfl
@[simp] theorem State.updVec_auths (v : Nat) (f : MsiVec → MsiVec) : (s.updVec v f).auths = s.auths := rfl
@[simp] theorem State.updVec_power (v : Nat) (f : MsiVec → MsiVec) : (s.updVec v f).power = s.power := rfl
@[simp] theorem State.updVec_diag (v : Nat) (f : MsiVec → MsiVec) : (s.updVec v f).diag = s.diag := rfl
@[simp] theorem State.updVec_rm (v : Nat) (f : MsiVec → MsiVec) : (s.updVec v f).rm = s.rm := rfl
@[simp] theorem State.updVec_sys (v : Nat) (f : MsiVec → MsiVec) : (s.updVec v f).sys = s.sys := rfl
@[simp] theorem State.updVec_modid (v : Nat) (f : MsiVec → MsiVec) : (s.updVec v f).modid = s.modid := rfl
@[simp] theorem State.updVec_lastTid (v : Nat) (f : MsiVec → MsiVec) : (s.updVec v f).lastTid = s.lastTid := rfl
@[simp] theorem State.updVec_cmdWait (v : Nat) (f : MsiVec → MsiVec) : (s.updVec v f).cmdWait = s.cmdWait := rfl
@[simp] theorem State.updVec_cpl (v : Nat) (f : MsiVec → MsiVec) : (s.updVec v f).cpl = s.cpl := rfl
@[simp] theorem State.updVec_eccCor (v : Nat) (f : MsiVec → MsiVec) : (s.updVec v f).eccCor = s.eccCor := rfl
@[simp] theorem State.updVec_draws (v : Nat) (f : MsiVec → MsiVec) : (s.updVec v f).draws = s.draws := rfl
@[simp] theorem State.updVec_pending (v : Nat) (f : MsiVec → MsiVec) : (s.updVec v f).pending = s.pending := rfl
@[simp] theorem State.updVec_reg (v : Nat) (f : MsiVec → MsiVec) (off : Nat) : (s.updVec v f).reg off = s.reg off := rfl
@[simp] theorem State.updVec_fld (v : Nat) (f : MsiVec → MsiVec) (off : Nat) (fl : Field) : (s.updVec v f).fld off fl = s.fld off fl := rfl
@[simp] theorem State.updVec_bit (v : Nat) (f : MsiVec → MsiVec) (off : Nat) (fl : Field) : (s.updVec v f).bit off fl = s.bit off fl := rfl

/-! ### updRing -/

@[simp] theorem State.updRing_variant (r : Nat) (f : RingSt → RingSt) : (s.updRing r f).variant = s.variant := rfl
@[simp] theorem State.updRing_now (r : Nat) (f : RingSt → RingSt) : (s.updRing r f).now = s.now := rfl
@[simp] theorem State.updRing_tb (r : Nat) (f : RingSt → RingSt) : (s.updRing r f).tb = s.tb := rfl
@[simp] theorem State.updRing_ptp (r : Nat) (f : RingSt → RingSt) : (s.updRing r f).ptp = s.ptp := rfl
@[simp] theorem State.updRing_ptpAdd (r : Nat) (f : RingSt → RingSt) : (s.updRing r f).ptpAdd = s.ptpAdd := rfl
@[simp] theorem State.updRing_cdRun (r : Nat) (f : RingSt → RingSt) : (s.updRing r f).cdRun = s.cdRun := rfl
@[simp] theorem State.updRing_rmRun (r : Nat) (f : RingSt → RingSt) : (s.updRing r f).rmRun = s.rmRun := rfl
@[simp] theorem State.updRing_regs (r : Nat) (f : RingSt → RingSt) : (s.updRing r f).regs = s.regs := rfl
@[simp] theorem State.updRing_dram (r : Nat) (f : RingSt → RingSt) : (s.updRing r f).dram = s.dram := rfl
@[simp] theorem State.updRing_hostMem (r : Nat) (f : RingSt → RingSt) : (s.updRing r f).hostMem = s.hostMem := rfl
@[simp] theorem State.updRing_events (r : Nat) (f : RingSt → RingSt) : (s.updRing r f).events = s.events := rfl
@[simp] theorem State.updRing_recQueue (r : Nat) (f : RingSt → RingSt) : (s.updRing r f).recQueue = s.recQueue := rfl
@[simp] theorem State.updRing_recStore (r : Nat) (f : RingSt → RingSt) : (s.updRing r f).recStore = s.recStore := rfl
@[simp] theorem State.updRing_safetyLog (r : Nat) (f : RingSt → RingSt) : (s.updRing r f).safetyLog = s.safetyLog := rfl
@[simp] theorem State.updRing_clearLog (r : Nat) (f : RingSt → RingSt) : (s.updRing r f).clearLog = s.clearLog := rfl
@[simp] theorem State.updRing_mbx (r : Nat) (f : RingSt → RingSt) : (s.updRing r f).mbx = s.mbx := rfl
@[simp] theorem State.updRing_devQueue (r : Nat) (f : RingSt → RingSt) : (s.updRing r f).devQueue = s.devQueue := rfl
@[simp] theorem State.updRing_msi (r : Nat) (f : RingSt → RingSt) : (s.updRing r f).msi = s.msi := rfl
@[simp] theorem State.updRing_barkerSt (r : Nat) (f : RingSt → RingSt) : (s.updRing r f).barkerSt = s.barkerSt := rfl
@[simp] theorem State.updRing_profs (r : Nat) (f : RingSt → RingSt) : (s.updRing r f).profs = s.profs := rfl
@[simp] theorem State.updRing_recst (r : Nat) (f : RingSt → RingSt) : (s.updRing r f).recst = s.recst := rfl
@[simp] theorem State.updRing_trips (r : Nat) (f : RingSt → RingSt) : (s.updRing r f).trips = s.trips := rfl
@[simp] theorem State.updRing_edges (r : Nat) (f : RingSt → RingSt) : (s.updRing r f).edges = s.edges := rfl
@[simp] theorem State.updRing_gatesH (r : Nat) (f : RingSt → RingSt) : (s.updRing r f).gatesH = s.gatesH := rfl
@[simp] theorem State.updRing_gatesL (r : Nat) (f : RingSt → RingSt) : (s.updRing r f).gatesL = s.gatesL := rfl
@[simp] theorem State.updRing_drvs (r : Nat) (f : RingSt → RingSt) : (s.updRing r f).drvs = s.drvs := rfl
@[simp] theorem State.updRing_clusters (r : Nat) (f : RingSt → RingSt) : (s.updRing r f).clusters = s.clusters := rfl
@[simp] theorem State.updRing_gmus (r : Nat) (f : RingSt → RingSt) : (s.updRing r f).gmus = s.gmus := rfl
@[simp] theorem State.updRing_blks (r : Nat) (f : RingSt → RingSt) : (s.updRing r f).blks = s.blks := rfl
@[simp] theorem State.updRing_npms (r : Nat) (f : RingSt → RingSt) : (s.updRing r f).npms = s.npms := rfl
@[simp] theorem State.updRing_regions (r : Nat) (f : RingSt → RingSt) : (s.updRing r f).regions = s.regions := rfl
@[simp] theorem State.updRing_dcs (r : Nat) (f : RingSt → RingSt) : (s.updRing r f).dcs = s.dcs := rfl
@[simp] theorem State.updRing_chgs (r : Nat) (f : RingSt → RingSt) : (s.updRing r f).chgs = s.chgs := rfl
@[simp] theorem State.updRing_ldgs (r : Nat) (f : RingSt → RingSt) : (s.updRing r f).ldgs = s.ldgs := rfl
@[simp] theorem State.updRing_journal (r : Nat) (f : RingSt → RingSt) : (s.updRing r f).journal = s.journal := rfl
@[simp] theorem State.updRing_snet (r : Nat) (f : RingSt → RingSt) : (s.updRing r f).snet = s.snet := rfl
@[simp] theorem State.updRing_svrs (r : Nat) (f : RingSt → RingSt) : (s.updRing r f).svrs = s.svrs := rfl
@[simp] theorem State.updRing_auxs (r : Nat) (f : RingSt → RingSt) : (s.updRing r f).auxs = s.auxs := rfl
@[simp] theorem State.updRing_fbs (r : Nat) (f : RingSt → RingSt) : (s.updRing r f).fbs = s.fbs := rfl
@[simp] theorem State.updRing_thm (r : Nat) (f : RingSt → RingSt) : (s.updRing r f).thm = s.thm := rfl
@[simp] theorem State.updRing_pack (r : Nat) (f : RingSt → RingSt) : (s.updRing r f).pack = s.pack := rfl
@[simp] theorem State.updRing_meas (r : Nat) (f : RingSt → RingSt) : (s.updRing r f).meas = s.meas := rfl
@[simp] theorem State.updRing_txns (r : Nat) (f : RingSt → RingSt) : (s.updRing r f).txns = s.txns := rfl
@[simp] theorem State.updRing_cans (r : Nat) (f : RingSt → RingSt) : (s.updRing r f).cans = s.cans := rfl
@[simp] theorem State.updRing_snl (r : Nat) (f : RingSt → RingSt) : (s.updRing r f).snl = s.snl := rfl
@[simp] theorem State.updRing_trmons (r : Nat) (f : RingSt → RingSt) : (s.updRing r f).trmons = s.trmons := rfl
@[simp] theorem State.updRing_slackCd (r : Nat) (f : RingSt → RingSt) : (s.updRing r f).slackCd = s.slackCd := rfl
@[simp] theorem State.updRing_slackMd (r : Nat) (f : RingSt → RingSt) : (s.updRing r f).slackMd = s.slackMd := rfl
@[simp] theorem State.updRing_stalls (r : Nat) (f : RingSt → RingSt) : (s.updRing r f).stalls = s.stalls := rfl
@[simp] theorem State.updRing_bad (r : Nat) (f : RingSt → RingSt) : (s.updRing r f).bad = s.bad := rfl
@[simp] theorem State.updRing_store (r : Nat) (f : RingSt → RingSt) : (s.updRing r f).store = s.store := rfl
@[simp] theorem State.updRing_auths (r : Nat) (f : RingSt → RingSt) : (s.updRing r f).auths = s.auths := rfl
@[simp] theorem State.updRing_power (r : Nat) (f : RingSt → RingSt) : (s.updRing r f).power = s.power := rfl
@[simp] theorem State.updRing_diag (r : Nat) (f : RingSt → RingSt) : (s.updRing r f).diag = s.diag := rfl
@[simp] theorem State.updRing_rm (r : Nat) (f : RingSt → RingSt) : (s.updRing r f).rm = s.rm := rfl
@[simp] theorem State.updRing_sys (r : Nat) (f : RingSt → RingSt) : (s.updRing r f).sys = s.sys := rfl
@[simp] theorem State.updRing_modid (r : Nat) (f : RingSt → RingSt) : (s.updRing r f).modid = s.modid := rfl
@[simp] theorem State.updRing_lastTid (r : Nat) (f : RingSt → RingSt) : (s.updRing r f).lastTid = s.lastTid := rfl
@[simp] theorem State.updRing_cmdWait (r : Nat) (f : RingSt → RingSt) : (s.updRing r f).cmdWait = s.cmdWait := rfl
@[simp] theorem State.updRing_cpl (r : Nat) (f : RingSt → RingSt) : (s.updRing r f).cpl = s.cpl := rfl
@[simp] theorem State.updRing_eccCor (r : Nat) (f : RingSt → RingSt) : (s.updRing r f).eccCor = s.eccCor := rfl
@[simp] theorem State.updRing_draws (r : Nat) (f : RingSt → RingSt) : (s.updRing r f).draws = s.draws := rfl
@[simp] theorem State.updRing_pending (r : Nat) (f : RingSt → RingSt) : (s.updRing r f).pending = s.pending := rfl
@[simp] theorem State.updRing_reg (r : Nat) (f : RingSt → RingSt) (off : Nat) : (s.updRing r f).reg off = s.reg off := rfl
@[simp] theorem State.updRing_fld (r : Nat) (f : RingSt → RingSt) (off : Nat) (fl : Field) : (s.updRing r f).fld off fl = s.fld off fl := rfl
@[simp] theorem State.updRing_bit (r : Nat) (f : RingSt → RingSt) (off : Nat) (fl : Field) : (s.updRing r f).bit off fl = s.bit off fl := rfl

/-! ### updProf -/

@[simp] theorem State.updProf_variant (p : Nat) (f : ProfSt → ProfSt) : (s.updProf p f).variant = s.variant := rfl
@[simp] theorem State.updProf_now (p : Nat) (f : ProfSt → ProfSt) : (s.updProf p f).now = s.now := rfl
@[simp] theorem State.updProf_tb (p : Nat) (f : ProfSt → ProfSt) : (s.updProf p f).tb = s.tb := rfl
@[simp] theorem State.updProf_ptp (p : Nat) (f : ProfSt → ProfSt) : (s.updProf p f).ptp = s.ptp := rfl
@[simp] theorem State.updProf_ptpAdd (p : Nat) (f : ProfSt → ProfSt) : (s.updProf p f).ptpAdd = s.ptpAdd := rfl
@[simp] theorem State.updProf_cdRun (p : Nat) (f : ProfSt → ProfSt) : (s.updProf p f).cdRun = s.cdRun := rfl
@[simp] theorem State.updProf_rmRun (p : Nat) (f : ProfSt → ProfSt) : (s.updProf p f).rmRun = s.rmRun := rfl
@[simp] theorem State.updProf_regs (p : Nat) (f : ProfSt → ProfSt) : (s.updProf p f).regs = s.regs := rfl
@[simp] theorem State.updProf_dram (p : Nat) (f : ProfSt → ProfSt) : (s.updProf p f).dram = s.dram := rfl
@[simp] theorem State.updProf_hostMem (p : Nat) (f : ProfSt → ProfSt) : (s.updProf p f).hostMem = s.hostMem := rfl
@[simp] theorem State.updProf_events (p : Nat) (f : ProfSt → ProfSt) : (s.updProf p f).events = s.events := rfl
@[simp] theorem State.updProf_recQueue (p : Nat) (f : ProfSt → ProfSt) : (s.updProf p f).recQueue = s.recQueue := rfl
@[simp] theorem State.updProf_recStore (p : Nat) (f : ProfSt → ProfSt) : (s.updProf p f).recStore = s.recStore := rfl
@[simp] theorem State.updProf_safetyLog (p : Nat) (f : ProfSt → ProfSt) : (s.updProf p f).safetyLog = s.safetyLog := rfl
@[simp] theorem State.updProf_clearLog (p : Nat) (f : ProfSt → ProfSt) : (s.updProf p f).clearLog = s.clearLog := rfl
@[simp] theorem State.updProf_mbx (p : Nat) (f : ProfSt → ProfSt) : (s.updProf p f).mbx = s.mbx := rfl
@[simp] theorem State.updProf_devQueue (p : Nat) (f : ProfSt → ProfSt) : (s.updProf p f).devQueue = s.devQueue := rfl
@[simp] theorem State.updProf_msi (p : Nat) (f : ProfSt → ProfSt) : (s.updProf p f).msi = s.msi := rfl
@[simp] theorem State.updProf_rings (p : Nat) (f : ProfSt → ProfSt) : (s.updProf p f).rings = s.rings := rfl
@[simp] theorem State.updProf_barkerSt (p : Nat) (f : ProfSt → ProfSt) : (s.updProf p f).barkerSt = s.barkerSt := rfl
@[simp] theorem State.updProf_recst (p : Nat) (f : ProfSt → ProfSt) : (s.updProf p f).recst = s.recst := rfl
@[simp] theorem State.updProf_trips (p : Nat) (f : ProfSt → ProfSt) : (s.updProf p f).trips = s.trips := rfl
@[simp] theorem State.updProf_edges (p : Nat) (f : ProfSt → ProfSt) : (s.updProf p f).edges = s.edges := rfl
@[simp] theorem State.updProf_gatesH (p : Nat) (f : ProfSt → ProfSt) : (s.updProf p f).gatesH = s.gatesH := rfl
@[simp] theorem State.updProf_gatesL (p : Nat) (f : ProfSt → ProfSt) : (s.updProf p f).gatesL = s.gatesL := rfl
@[simp] theorem State.updProf_drvs (p : Nat) (f : ProfSt → ProfSt) : (s.updProf p f).drvs = s.drvs := rfl
@[simp] theorem State.updProf_clusters (p : Nat) (f : ProfSt → ProfSt) : (s.updProf p f).clusters = s.clusters := rfl
@[simp] theorem State.updProf_gmus (p : Nat) (f : ProfSt → ProfSt) : (s.updProf p f).gmus = s.gmus := rfl
@[simp] theorem State.updProf_blks (p : Nat) (f : ProfSt → ProfSt) : (s.updProf p f).blks = s.blks := rfl
@[simp] theorem State.updProf_npms (p : Nat) (f : ProfSt → ProfSt) : (s.updProf p f).npms = s.npms := rfl
@[simp] theorem State.updProf_regions (p : Nat) (f : ProfSt → ProfSt) : (s.updProf p f).regions = s.regions := rfl
@[simp] theorem State.updProf_dcs (p : Nat) (f : ProfSt → ProfSt) : (s.updProf p f).dcs = s.dcs := rfl
@[simp] theorem State.updProf_chgs (p : Nat) (f : ProfSt → ProfSt) : (s.updProf p f).chgs = s.chgs := rfl
@[simp] theorem State.updProf_ldgs (p : Nat) (f : ProfSt → ProfSt) : (s.updProf p f).ldgs = s.ldgs := rfl
@[simp] theorem State.updProf_journal (p : Nat) (f : ProfSt → ProfSt) : (s.updProf p f).journal = s.journal := rfl
@[simp] theorem State.updProf_snet (p : Nat) (f : ProfSt → ProfSt) : (s.updProf p f).snet = s.snet := rfl
@[simp] theorem State.updProf_svrs (p : Nat) (f : ProfSt → ProfSt) : (s.updProf p f).svrs = s.svrs := rfl
@[simp] theorem State.updProf_auxs (p : Nat) (f : ProfSt → ProfSt) : (s.updProf p f).auxs = s.auxs := rfl
@[simp] theorem State.updProf_fbs (p : Nat) (f : ProfSt → ProfSt) : (s.updProf p f).fbs = s.fbs := rfl
@[simp] theorem State.updProf_thm (p : Nat) (f : ProfSt → ProfSt) : (s.updProf p f).thm = s.thm := rfl
@[simp] theorem State.updProf_pack (p : Nat) (f : ProfSt → ProfSt) : (s.updProf p f).pack = s.pack := rfl
@[simp] theorem State.updProf_meas (p : Nat) (f : ProfSt → ProfSt) : (s.updProf p f).meas = s.meas := rfl
@[simp] theorem State.updProf_txns (p : Nat) (f : ProfSt → ProfSt) : (s.updProf p f).txns = s.txns := rfl
@[simp] theorem State.updProf_cans (p : Nat) (f : ProfSt → ProfSt) : (s.updProf p f).cans = s.cans := rfl
@[simp] theorem State.updProf_snl (p : Nat) (f : ProfSt → ProfSt) : (s.updProf p f).snl = s.snl := rfl
@[simp] theorem State.updProf_trmons (p : Nat) (f : ProfSt → ProfSt) : (s.updProf p f).trmons = s.trmons := rfl
@[simp] theorem State.updProf_slackCd (p : Nat) (f : ProfSt → ProfSt) : (s.updProf p f).slackCd = s.slackCd := rfl
@[simp] theorem State.updProf_slackMd (p : Nat) (f : ProfSt → ProfSt) : (s.updProf p f).slackMd = s.slackMd := rfl
@[simp] theorem State.updProf_stalls (p : Nat) (f : ProfSt → ProfSt) : (s.updProf p f).stalls = s.stalls := rfl
@[simp] theorem State.updProf_bad (p : Nat) (f : ProfSt → ProfSt) : (s.updProf p f).bad = s.bad := rfl
@[simp] theorem State.updProf_store (p : Nat) (f : ProfSt → ProfSt) : (s.updProf p f).store = s.store := rfl
@[simp] theorem State.updProf_auths (p : Nat) (f : ProfSt → ProfSt) : (s.updProf p f).auths = s.auths := rfl
@[simp] theorem State.updProf_power (p : Nat) (f : ProfSt → ProfSt) : (s.updProf p f).power = s.power := rfl
@[simp] theorem State.updProf_diag (p : Nat) (f : ProfSt → ProfSt) : (s.updProf p f).diag = s.diag := rfl
@[simp] theorem State.updProf_rm (p : Nat) (f : ProfSt → ProfSt) : (s.updProf p f).rm = s.rm := rfl
@[simp] theorem State.updProf_sys (p : Nat) (f : ProfSt → ProfSt) : (s.updProf p f).sys = s.sys := rfl
@[simp] theorem State.updProf_modid (p : Nat) (f : ProfSt → ProfSt) : (s.updProf p f).modid = s.modid := rfl
@[simp] theorem State.updProf_lastTid (p : Nat) (f : ProfSt → ProfSt) : (s.updProf p f).lastTid = s.lastTid := rfl
@[simp] theorem State.updProf_cmdWait (p : Nat) (f : ProfSt → ProfSt) : (s.updProf p f).cmdWait = s.cmdWait := rfl
@[simp] theorem State.updProf_cpl (p : Nat) (f : ProfSt → ProfSt) : (s.updProf p f).cpl = s.cpl := rfl
@[simp] theorem State.updProf_eccCor (p : Nat) (f : ProfSt → ProfSt) : (s.updProf p f).eccCor = s.eccCor := rfl
@[simp] theorem State.updProf_draws (p : Nat) (f : ProfSt → ProfSt) : (s.updProf p f).draws = s.draws := rfl
@[simp] theorem State.updProf_pending (p : Nat) (f : ProfSt → ProfSt) : (s.updProf p f).pending = s.pending := rfl
@[simp] theorem State.updProf_reg (p : Nat) (f : ProfSt → ProfSt) (off : Nat) : (s.updProf p f).reg off = s.reg off := rfl
@[simp] theorem State.updProf_fld (p : Nat) (f : ProfSt → ProfSt) (off : Nat) (fl : Field) : (s.updProf p f).fld off fl = s.fld off fl := rfl
@[simp] theorem State.updProf_bit (p : Nat) (f : ProfSt → ProfSt) (off : Nat) (fl : Field) : (s.updProf p f).bit off fl = s.bit off fl := rfl

/-! ### updTrip -/

@[simp] theorem State.updTrip_variant (t : Nat) (f : TripSt → TripSt) : (s.updTrip t f).variant = s.variant := rfl
@[simp] theorem State.updTrip_now (t : Nat) (f : TripSt → TripSt) : (s.updTrip t f).now = s.now := rfl
@[simp] theorem State.updTrip_tb (t : Nat) (f : TripSt → TripSt) : (s.updTrip t f).tb = s.tb := rfl
@[simp] theorem State.updTrip_ptp (t : Nat) (f : TripSt → TripSt) : (s.updTrip t f).ptp = s.ptp := rfl
@[simp] theorem State.updTrip_ptpAdd (t : Nat) (f : TripSt → TripSt) : (s.updTrip t f).ptpAdd = s.ptpAdd := rfl
@[simp] theorem State.updTrip_cdRun (t : Nat) (f : TripSt → TripSt) : (s.updTrip t f).cdRun = s.cdRun := rfl
@[simp] theorem State.updTrip_rmRun (t : Nat) (f : TripSt → TripSt) : (s.updTrip t f).rmRun = s.rmRun := rfl
@[simp] theorem State.updTrip_regs (t : Nat) (f : TripSt → TripSt) : (s.updTrip t f).regs = s.regs := rfl
@[simp] theorem State.updTrip_dram (t : Nat) (f : TripSt → TripSt) : (s.updTrip t f).dram = s.dram := rfl
@[simp] theorem State.updTrip_hostMem (t : Nat) (f : TripSt → TripSt) : (s.updTrip t f).hostMem = s.hostMem := rfl
@[simp] theorem State.updTrip_events (t : Nat) (f : TripSt → TripSt) : (s.updTrip t f).events = s.events := rfl
@[simp] theorem State.updTrip_recQueue (t : Nat) (f : TripSt → TripSt) : (s.updTrip t f).recQueue = s.recQueue := rfl
@[simp] theorem State.updTrip_recStore (t : Nat) (f : TripSt → TripSt) : (s.updTrip t f).recStore = s.recStore := rfl
@[simp] theorem State.updTrip_safetyLog (t : Nat) (f : TripSt → TripSt) : (s.updTrip t f).safetyLog = s.safetyLog := rfl
@[simp] theorem State.updTrip_clearLog (t : Nat) (f : TripSt → TripSt) : (s.updTrip t f).clearLog = s.clearLog := rfl
@[simp] theorem State.updTrip_mbx (t : Nat) (f : TripSt → TripSt) : (s.updTrip t f).mbx = s.mbx := rfl
@[simp] theorem State.updTrip_devQueue (t : Nat) (f : TripSt → TripSt) : (s.updTrip t f).devQueue = s.devQueue := rfl
@[simp] theorem State.updTrip_msi (t : Nat) (f : TripSt → TripSt) : (s.updTrip t f).msi = s.msi := rfl
@[simp] theorem State.updTrip_rings (t : Nat) (f : TripSt → TripSt) : (s.updTrip t f).rings = s.rings := rfl
@[simp] theorem State.updTrip_barkerSt (t : Nat) (f : TripSt → TripSt) : (s.updTrip t f).barkerSt = s.barkerSt := rfl
@[simp] theorem State.updTrip_profs (t : Nat) (f : TripSt → TripSt) : (s.updTrip t f).profs = s.profs := rfl
@[simp] theorem State.updTrip_recst (t : Nat) (f : TripSt → TripSt) : (s.updTrip t f).recst = s.recst := rfl
@[simp] theorem State.updTrip_edges (t : Nat) (f : TripSt → TripSt) : (s.updTrip t f).edges = s.edges := rfl
@[simp] theorem State.updTrip_gatesH (t : Nat) (f : TripSt → TripSt) : (s.updTrip t f).gatesH = s.gatesH := rfl
@[simp] theorem State.updTrip_gatesL (t : Nat) (f : TripSt → TripSt) : (s.updTrip t f).gatesL = s.gatesL := rfl
@[simp] theorem State.updTrip_drvs (t : Nat) (f : TripSt → TripSt) : (s.updTrip t f).drvs = s.drvs := rfl
@[simp] theorem State.updTrip_clusters (t : Nat) (f : TripSt → TripSt) : (s.updTrip t f).clusters = s.clusters := rfl
@[simp] theorem State.updTrip_gmus (t : Nat) (f : TripSt → TripSt) : (s.updTrip t f).gmus = s.gmus := rfl
@[simp] theorem State.updTrip_blks (t : Nat) (f : TripSt → TripSt) : (s.updTrip t f).blks = s.blks := rfl
@[simp] theorem State.updTrip_npms (t : Nat) (f : TripSt → TripSt) : (s.updTrip t f).npms = s.npms := rfl
@[simp] theorem State.updTrip_regions (t : Nat) (f : TripSt → TripSt) : (s.updTrip t f).regions = s.regions := rfl
@[simp] theorem State.updTrip_dcs (t : Nat) (f : TripSt → TripSt) : (s.updTrip t f).dcs = s.dcs := rfl
@[simp] theorem State.updTrip_chgs (t : Nat) (f : TripSt → TripSt) : (s.updTrip t f).chgs = s.chgs := rfl
@[simp] theorem State.updTrip_ldgs (t : Nat) (f : TripSt → TripSt) : (s.updTrip t f).ldgs = s.ldgs := rfl
@[simp] theorem State.updTrip_journal (t : Nat) (f : TripSt → TripSt) : (s.updTrip t f).journal = s.journal := rfl
@[simp] theorem State.updTrip_snet (t : Nat) (f : TripSt → TripSt) : (s.updTrip t f).snet = s.snet := rfl
@[simp] theorem State.updTrip_svrs (t : Nat) (f : TripSt → TripSt) : (s.updTrip t f).svrs = s.svrs := rfl
@[simp] theorem State.updTrip_auxs (t : Nat) (f : TripSt → TripSt) : (s.updTrip t f).auxs = s.auxs := rfl
@[simp] theorem State.updTrip_fbs (t : Nat) (f : TripSt → TripSt) : (s.updTrip t f).fbs = s.fbs := rfl
@[simp] theorem State.updTrip_thm (t : Nat) (f : TripSt → TripSt) : (s.updTrip t f).thm = s.thm := rfl
@[simp] theorem State.updTrip_pack (t : Nat) (f : TripSt → TripSt) : (s.updTrip t f).pack = s.pack := rfl
@[simp] theorem State.updTrip_meas (t : Nat) (f : TripSt → TripSt) : (s.updTrip t f).meas = s.meas := rfl
@[simp] theorem State.updTrip_txns (t : Nat) (f : TripSt → TripSt) : (s.updTrip t f).txns = s.txns := rfl
@[simp] theorem State.updTrip_cans (t : Nat) (f : TripSt → TripSt) : (s.updTrip t f).cans = s.cans := rfl
@[simp] theorem State.updTrip_snl (t : Nat) (f : TripSt → TripSt) : (s.updTrip t f).snl = s.snl := rfl
@[simp] theorem State.updTrip_trmons (t : Nat) (f : TripSt → TripSt) : (s.updTrip t f).trmons = s.trmons := rfl
@[simp] theorem State.updTrip_slackCd (t : Nat) (f : TripSt → TripSt) : (s.updTrip t f).slackCd = s.slackCd := rfl
@[simp] theorem State.updTrip_slackMd (t : Nat) (f : TripSt → TripSt) : (s.updTrip t f).slackMd = s.slackMd := rfl
@[simp] theorem State.updTrip_stalls (t : Nat) (f : TripSt → TripSt) : (s.updTrip t f).stalls = s.stalls := rfl
@[simp] theorem State.updTrip_bad (t : Nat) (f : TripSt → TripSt) : (s.updTrip t f).bad = s.bad := rfl
@[simp] theorem State.updTrip_store (t : Nat) (f : TripSt → TripSt) : (s.updTrip t f).store = s.store := rfl
@[simp] theorem State.updTrip_auths (t : Nat) (f : TripSt → TripSt) : (s.updTrip t f).auths = s.auths := rfl
@[simp] theorem State.updTrip_power (t : Nat) (f : TripSt → TripSt) : (s.updTrip t f).power = s.power := rfl
@[simp] theorem State.updTrip_diag (t : Nat) (f : TripSt → TripSt) : (s.updTrip t f).diag = s.diag := rfl
@[simp] theorem State.updTrip_rm (t : Nat) (f : TripSt → TripSt) : (s.updTrip t f).rm = s.rm := rfl
@[simp] theorem State.updTrip_sys (t : Nat) (f : TripSt → TripSt) : (s.updTrip t f).sys = s.sys := rfl
@[simp] theorem State.updTrip_modid (t : Nat) (f : TripSt → TripSt) : (s.updTrip t f).modid = s.modid := rfl
@[simp] theorem State.updTrip_lastTid (t : Nat) (f : TripSt → TripSt) : (s.updTrip t f).lastTid = s.lastTid := rfl
@[simp] theorem State.updTrip_cmdWait (t : Nat) (f : TripSt → TripSt) : (s.updTrip t f).cmdWait = s.cmdWait := rfl
@[simp] theorem State.updTrip_cpl (t : Nat) (f : TripSt → TripSt) : (s.updTrip t f).cpl = s.cpl := rfl
@[simp] theorem State.updTrip_eccCor (t : Nat) (f : TripSt → TripSt) : (s.updTrip t f).eccCor = s.eccCor := rfl
@[simp] theorem State.updTrip_draws (t : Nat) (f : TripSt → TripSt) : (s.updTrip t f).draws = s.draws := rfl
@[simp] theorem State.updTrip_pending (t : Nat) (f : TripSt → TripSt) : (s.updTrip t f).pending = s.pending := rfl
@[simp] theorem State.updTrip_reg (t : Nat) (f : TripSt → TripSt) (off : Nat) : (s.updTrip t f).reg off = s.reg off := rfl
@[simp] theorem State.updTrip_fld (t : Nat) (f : TripSt → TripSt) (off : Nat) (fl : Field) : (s.updTrip t f).fld off fl = s.fld off fl := rfl
@[simp] theorem State.updTrip_bit (t : Nat) (f : TripSt → TripSt) (off : Nat) (fl : Field) : (s.updTrip t f).bit off fl = s.bit off fl := rfl

/-! ### updEdge -/

@[simp] theorem State.updEdge_variant (n : Nat) (f : Edge → Edge) : (s.updEdge n f).variant = s.variant := rfl
@[simp] theorem State.updEdge_now (n : Nat) (f : Edge → Edge) : (s.updEdge n f).now = s.now := rfl
@[simp] theorem State.updEdge_tb (n : Nat) (f : Edge → Edge) : (s.updEdge n f).tb = s.tb := rfl
@[simp] theorem State.updEdge_ptp (n : Nat) (f : Edge → Edge) : (s.updEdge n f).ptp = s.ptp := rfl
@[simp] theorem State.updEdge_ptpAdd (n : Nat) (f : Edge → Edge) : (s.updEdge n f).ptpAdd = s.ptpAdd := rfl
@[simp] theorem State.updEdge_cdRun (n : Nat) (f : Edge → Edge) : (s.updEdge n f).cdRun = s.cdRun := rfl
@[simp] theorem State.updEdge_rmRun (n : Nat) (f : Edge → Edge) : (s.updEdge n f).rmRun = s.rmRun := rfl
@[simp] theorem State.updEdge_regs (n : Nat) (f : Edge → Edge) : (s.updEdge n f).regs = s.regs := rfl
@[simp] theorem State.updEdge_dram (n : Nat) (f : Edge → Edge) : (s.updEdge n f).dram = s.dram := rfl
@[simp] theorem State.updEdge_hostMem (n : Nat) (f : Edge → Edge) : (s.updEdge n f).hostMem = s.hostMem := rfl
@[simp] theorem State.updEdge_events (n : Nat) (f : Edge → Edge) : (s.updEdge n f).events = s.events := rfl
@[simp] theorem State.updEdge_recQueue (n : Nat) (f : Edge → Edge) : (s.updEdge n f).recQueue = s.recQueue := rfl
@[simp] theorem State.updEdge_recStore (n : Nat) (f : Edge → Edge) : (s.updEdge n f).recStore = s.recStore := rfl
@[simp] theorem State.updEdge_safetyLog (n : Nat) (f : Edge → Edge) : (s.updEdge n f).safetyLog = s.safetyLog := rfl
@[simp] theorem State.updEdge_clearLog (n : Nat) (f : Edge → Edge) : (s.updEdge n f).clearLog = s.clearLog := rfl
@[simp] theorem State.updEdge_mbx (n : Nat) (f : Edge → Edge) : (s.updEdge n f).mbx = s.mbx := rfl
@[simp] theorem State.updEdge_devQueue (n : Nat) (f : Edge → Edge) : (s.updEdge n f).devQueue = s.devQueue := rfl
@[simp] theorem State.updEdge_msi (n : Nat) (f : Edge → Edge) : (s.updEdge n f).msi = s.msi := rfl
@[simp] theorem State.updEdge_rings (n : Nat) (f : Edge → Edge) : (s.updEdge n f).rings = s.rings := rfl
@[simp] theorem State.updEdge_barkerSt (n : Nat) (f : Edge → Edge) : (s.updEdge n f).barkerSt = s.barkerSt := rfl
@[simp] theorem State.updEdge_profs (n : Nat) (f : Edge → Edge) : (s.updEdge n f).profs = s.profs := rfl
@[simp] theorem State.updEdge_recst (n : Nat) (f : Edge → Edge) : (s.updEdge n f).recst = s.recst := rfl
@[simp] theorem State.updEdge_trips (n : Nat) (f : Edge → Edge) : (s.updEdge n f).trips = s.trips := rfl
@[simp] theorem State.updEdge_gatesH (n : Nat) (f : Edge → Edge) : (s.updEdge n f).gatesH = s.gatesH := rfl
@[simp] theorem State.updEdge_gatesL (n : Nat) (f : Edge → Edge) : (s.updEdge n f).gatesL = s.gatesL := rfl
@[simp] theorem State.updEdge_drvs (n : Nat) (f : Edge → Edge) : (s.updEdge n f).drvs = s.drvs := rfl
@[simp] theorem State.updEdge_clusters (n : Nat) (f : Edge → Edge) : (s.updEdge n f).clusters = s.clusters := rfl
@[simp] theorem State.updEdge_gmus (n : Nat) (f : Edge → Edge) : (s.updEdge n f).gmus = s.gmus := rfl
@[simp] theorem State.updEdge_blks (n : Nat) (f : Edge → Edge) : (s.updEdge n f).blks = s.blks := rfl
@[simp] theorem State.updEdge_npms (n : Nat) (f : Edge → Edge) : (s.updEdge n f).npms = s.npms := rfl
@[simp] theorem State.updEdge_regions (n : Nat) (f : Edge → Edge) : (s.updEdge n f).regions = s.regions := rfl
@[simp] theorem State.updEdge_dcs (n : Nat) (f : Edge → Edge) : (s.updEdge n f).dcs = s.dcs := rfl
@[simp] theorem State.updEdge_chgs (n : Nat) (f : Edge → Edge) : (s.updEdge n f).chgs = s.chgs := rfl
@[simp] theorem State.updEdge_ldgs (n : Nat) (f : Edge → Edge) : (s.updEdge n f).ldgs = s.ldgs := rfl
@[simp] theorem State.updEdge_journal (n : Nat) (f : Edge → Edge) : (s.updEdge n f).journal = s.journal := rfl
@[simp] theorem State.updEdge_snet (n : Nat) (f : Edge → Edge) : (s.updEdge n f).snet = s.snet := rfl
@[simp] theorem State.updEdge_svrs (n : Nat) (f : Edge → Edge) : (s.updEdge n f).svrs = s.svrs := rfl
@[simp] theorem State.updEdge_auxs (n : Nat) (f : Edge → Edge) : (s.updEdge n f).auxs = s.auxs := rfl
@[simp] theorem State.updEdge_fbs (n : Nat) (f : Edge → Edge) : (s.updEdge n f).fbs = s.fbs := rfl
@[simp] theorem State.updEdge_thm (n : Nat) (f : Edge → Edge) : (s.updEdge n f).thm = s.thm := rfl
@[simp] theorem State.updEdge_pack (n : Nat) (f : Edge → Edge) : (s.updEdge n f).pack = s.pack := rfl
@[simp] theorem State.updEdge_meas (n : Nat) (f : Edge → Edge) : (s.updEdge n f).meas = s.meas := rfl
@[simp] theorem State.updEdge_txns (n : Nat) (f : Edge → Edge) : (s.updEdge n f).txns = s.txns := rfl
@[simp] theorem State.updEdge_cans (n : Nat) (f : Edge → Edge) : (s.updEdge n f).cans = s.cans := rfl
@[simp] theorem State.updEdge_snl (n : Nat) (f : Edge → Edge) : (s.updEdge n f).snl = s.snl := rfl
@[simp] theorem State.updEdge_trmons (n : Nat) (f : Edge → Edge) : (s.updEdge n f).trmons = s.trmons := rfl
@[simp] theorem State.updEdge_slackCd (n : Nat) (f : Edge → Edge) : (s.updEdge n f).slackCd = s.slackCd := rfl
@[simp] theorem State.updEdge_slackMd (n : Nat) (f : Edge → Edge) : (s.updEdge n f).slackMd = s.slackMd := rfl
@[simp] theorem State.updEdge_stalls (n : Nat) (f : Edge → Edge) : (s.updEdge n f).stalls = s.stalls := rfl
@[simp] theorem State.updEdge_bad (n : Nat) (f : Edge → Edge) : (s.updEdge n f).bad = s.bad := rfl
@[simp] theorem State.updEdge_store (n : Nat) (f : Edge → Edge) : (s.updEdge n f).store = s.store := rfl
@[simp] theorem State.updEdge_auths (n : Nat) (f : Edge → Edge) : (s.updEdge n f).auths = s.auths := rfl
@[simp] theorem State.updEdge_power (n : Nat) (f : Edge → Edge) : (s.updEdge n f).power = s.power := rfl
@[simp] theorem State.updEdge_diag (n : Nat) (f : Edge → Edge) : (s.updEdge n f).diag = s.diag := rfl
@[simp] theorem State.updEdge_rm (n : Nat) (f : Edge → Edge) : (s.updEdge n f).rm = s.rm := rfl
@[simp] theorem State.updEdge_sys (n : Nat) (f : Edge → Edge) : (s.updEdge n f).sys = s.sys := rfl
@[simp] theorem State.updEdge_modid (n : Nat) (f : Edge → Edge) : (s.updEdge n f).modid = s.modid := rfl
@[simp] theorem State.updEdge_lastTid (n : Nat) (f : Edge → Edge) : (s.updEdge n f).lastTid = s.lastTid := rfl
@[simp] theorem State.updEdge_cmdWait (n : Nat) (f : Edge → Edge) : (s.updEdge n f).cmdWait = s.cmdWait := rfl
@[simp] theorem State.updEdge_cpl (n : Nat) (f : Edge → Edge) : (s.updEdge n f).cpl = s.cpl := rfl
@[simp] theorem State.updEdge_eccCor (n : Nat) (f : Edge → Edge) : (s.updEdge n f).eccCor = s.eccCor := rfl
@[simp] theorem State.updEdge_draws (n : Nat) (f : Edge → Edge) : (s.updEdge n f).draws = s.draws := rfl
@[simp] theorem State.updEdge_pending (n : Nat) (f : Edge → Edge) : (s.updEdge n f).pending = s.pending := rfl
@[simp] theorem State.updEdge_reg (n : Nat) (f : Edge → Edge) (off : Nat) : (s.updEdge n f).reg off = s.reg off := rfl
@[simp] theorem State.updEdge_fld (n : Nat) (f : Edge → Edge) (off : Nat) (fl : Field) : (s.updEdge n f).fld off fl = s.fld off fl := rfl
@[simp] theorem State.updEdge_bit (n : Nat) (f : Edge → Edge) (off : Nat) (fl : Field) : (s.updEdge n f).bit off fl = s.bit off fl := rfl

/-! ### updDrv -/

@[simp] theorem State.updDrv_variant (n : Nat) (f : Drv → Drv) : (s.updDrv n f).variant = s.variant := rfl
@[simp] theorem State.updDrv_now (n : Nat) (f : Drv → Drv) : (s.updDrv n f).now = s.now := rfl
@[simp] theorem State.updDrv_tb (n : Nat) (f : Drv → Drv) : (s.updDrv n f).tb = s.tb := rfl
@[simp] theorem State.updDrv_ptp (n : Nat) (f : Drv → Drv) : (s.updDrv n f).ptp = s.ptp := rfl
@[simp] theorem State.updDrv_ptpAdd (n : Nat) (f : Drv → Drv) : (s.updDrv n f).ptpAdd = s.ptpAdd := rfl
@[simp] theorem State.updDrv_cdRun (n : Nat) (f : Drv → Drv) : (s.updDrv n f).cdRun = s.cdRun := rfl
@[simp] theorem State.updDrv_rmRun (n : Nat) (f : Drv → Drv) : (s.updDrv n f).rmRun = s.rmRun := rfl
@[simp] theorem State.updDrv_regs (n : Nat) (f : Drv → Drv) : (s.updDrv n f).regs = s.regs := rfl
@[simp] theorem State.updDrv_dram (n : Nat) (f : Drv → Drv) : (s.updDrv n f).dram = s.dram := rfl
@[simp] theorem State.updDrv_hostMem (n : Nat) (f : Drv → Drv) : (s.updDrv n f).hostMem = s.hostMem := rfl
@[simp] theorem State.updDrv_events (n : Nat) (f : Drv → Drv) : (s.updDrv n f).events = s.events := rfl
@[simp] theorem State.updDrv_recQueue (n : Nat) (f : Drv → Drv) : (s.updDrv n f).recQueue = s.recQueue := rfl
@[simp] theorem State.updDrv_recStore (n : Nat) (f : Drv → Drv) : (s.updDrv n f).recStore = s.recStore := rfl
@[simp] theorem State.updDrv_safetyLog (n : Nat) (f : Drv → Drv) : (s.updDrv n f).safetyLog = s.safetyLog := rfl
@[simp] theorem State.updDrv_clearLog (n : Nat) (f : Drv → Drv) : (s.updDrv n f).clearLog = s.clearLog := rfl
@[simp] theorem State.updDrv_mbx (n : Nat) (f : Drv → Drv) : (s.updDrv n f).mbx = s.mbx := rfl
@[simp] theorem State.updDrv_devQueue (n : Nat) (f : Drv → Drv) : (s.updDrv n f).devQueue = s.devQueue := rfl
@[simp] theorem State.updDrv_msi (n : Nat) (f : Drv → Drv) : (s.updDrv n f).msi = s.msi := rfl
@[simp] theorem State.updDrv_rings (n : Nat) (f : Drv → Drv) : (s.updDrv n f).rings = s.rings := rfl
@[simp] theorem State.updDrv_barkerSt (n : Nat) (f : Drv → Drv) : (s.updDrv n f).barkerSt = s.barkerSt := rfl
@[simp] theorem State.updDrv_profs (n : Nat) (f : Drv → Drv) : (s.updDrv n f).profs = s.profs := rfl
@[simp] theorem State.updDrv_recst (n : Nat) (f : Drv → Drv) : (s.updDrv n f).recst = s.recst := rfl
@[simp] theorem State.updDrv_trips (n : Nat) (f : Drv → Drv) : (s.updDrv n f).trips = s.trips := rfl
@[simp] theorem State.updDrv_edges (n : Nat) (f : Drv → Drv) : (s.updDrv n f).edges = s.edges := rfl
@[simp] theorem State.updDrv_gatesH (n : Nat) (f : Drv → Drv) : (s.updDrv n f).gatesH = s.gatesH := rfl
@[simp] theorem State.updDrv_gatesL (n : Nat) (f : Drv → Drv) : (s.updDrv n f).gatesL = s.gatesL := rfl
@[simp] theorem State.updDrv_clusters (n : Nat) (f : Drv → Drv) : (s.updDrv n f).clusters = s.clusters := rfl
@[simp] theorem State.updDrv_gmus (n : Nat) (f : Drv → Drv) : (s.updDrv n f).gmus = s.gmus := rfl
@[simp] theorem State.updDrv_blks (n : Nat) (f : Drv → Drv) : (s.updDrv n f).blks = s.blks := rfl
@[simp] theorem State.updDrv_npms (n : Nat) (f : Drv → Drv) : (s.updDrv n f).npms = s.npms := rfl
@[simp] theorem State.updDrv_regions (n : Nat) (f : Drv → Drv) : (s.updDrv n f).regions = s.regions := rfl
@[simp] theorem State.updDrv_dcs (n : Nat) (f : Drv → Drv) : (s.updDrv n f).dcs = s.dcs := rfl
@[simp] theorem State.updDrv_chgs (n : Nat) (f : Drv → Drv) : (s.updDrv n f).chgs = s.chgs := rfl
@[simp] theorem State.updDrv_ldgs (n : Nat) (f : Drv → Drv) : (s.updDrv n f).ldgs = s.ldgs := rfl
@[simp] theorem State.updDrv_journal (n : Nat) (f : Drv → Drv) : (s.updDrv n f).journal = s.journal := rfl
@[simp] theorem State.updDrv_snet (n : Nat) (f : Drv → Drv) : (s.updDrv n f).snet = s.snet := rfl
@[simp] theorem State.updDrv_svrs (n : Nat) (f : Drv → Drv) : (s.updDrv n f).svrs = s.svrs := rfl
@[simp] theorem State.updDrv_auxs (n : Nat) (f : Drv → Drv) : (s.updDrv n f).auxs = s.auxs := rfl
@[simp] theorem State.updDrv_fbs (n : Nat) (f : Drv → Drv) : (s.updDrv n f).fbs = s.fbs := rfl
@[simp] theorem State.updDrv_thm (n : Nat) (f : Drv → Drv) : (s.updDrv n f).thm = s.thm := rfl
@[simp] theorem State.updDrv_pack (n : Nat) (f : Drv → Drv) : (s.updDrv n f).pack = s.pack := rfl
@[simp] theorem State.updDrv_meas (n : Nat) (f : Drv → Drv) : (s.updDrv n f).meas = s.meas := rfl
@[simp] theorem State.updDrv_txns (n : Nat) (f : Drv → Drv) : (s.updDrv n f).txns = s.txns := rfl
@[simp] theorem State.updDrv_cans (n : Nat) (f : Drv → Drv) : (s.updDrv n f).cans = s.cans := rfl
@[simp] theorem State.updDrv_snl (n : Nat) (f : Drv → Drv) : (s.updDrv n f).snl = s.snl := rfl
@[simp] theorem State.updDrv_trmons (n : Nat) (f : Drv → Drv) : (s.updDrv n f).trmons = s.trmons := rfl
@[simp] theorem State.updDrv_slackCd (n : Nat) (f : Drv → Drv) : (s.updDrv n f).slackCd = s.slackCd := rfl
@[simp] theorem State.updDrv_slackMd (n : Nat) (f : Drv → Drv) : (s.updDrv n f).slackMd = s.slackMd := rfl
@[simp] theorem State.updDrv_stalls (n : Nat) (f : Drv → Drv) : (s.updDrv n f).stalls = s.stalls := rfl
@[simp] theorem State.updDrv_bad (n : Nat) (f : Drv → Drv) : (s.updDrv n f).bad = s.bad := rfl
@[simp] theorem State.updDrv_store (n : Nat) (f : Drv → Drv) : (s.updDrv n f).store = s.store := rfl
@[simp] theorem State.updDrv_auths (n : Nat) (f : Drv → Drv) : (s.updDrv n f).auths = s.auths := rfl
@[simp] theorem State.updDrv_power (n : Nat) (f : Drv → Drv) : (s.updDrv n f).power = s.power := rfl
@[simp] theorem State.updDrv_diag (n : Nat) (f : Drv → Drv) : (s.updDrv n f).diag = s.diag := rfl
@[simp] theorem State.updDrv_rm (n : Nat) (f : Drv → Drv) : (s.updDrv n f).rm = s.rm := rfl
@[simp] theorem State.updDrv_sys (n : Nat) (f : Drv → Drv) : (s.updDrv n f).sys = s.sys := rfl
@[simp] theorem State.updDrv_modid (n : Nat) (f : Drv → Drv) : (s.updDrv n f).modid = s.modid := rfl
@[simp] theorem State.updDrv_lastTid (n : Nat) (f : Drv → Drv) : (s.updDrv n f).lastTid = s.lastTid := rfl
@[simp] theorem State.updDrv_cmdWait (n : Nat) (f : Drv → Drv) : (s.updDrv n f).cmdWait = s.cmdWait := rfl
@[simp] theorem State.updDrv_cpl (n : Nat) (f : Drv → Drv) : (s.updDrv n f).cpl = s.cpl := rfl
@[simp] theorem State.updDrv_eccCor (n : Nat) (f : Drv → Drv) : (s.updDrv n f).eccCor = s.eccCor := rfl
@[simp] theorem State.updDrv_draws (n : Nat) (f : Drv → Drv) : (s.updDrv n f).draws = s.draws := rfl
@[simp] theorem State.updDrv_pending (n : Nat) (f : Drv → Drv) : (s.updDrv n f).pending = s.pending := rfl
@[simp] theorem State.updDrv_reg (n : Nat) (f : Drv → Drv) (off : Nat) : (s.updDrv n f).reg off = s.reg off := rfl
@[simp] theorem State.updDrv_fld (n : Nat) (f : Drv → Drv) (off : Nat) (fl : Field) : (s.updDrv n f).fld off fl = s.fld off fl := rfl
@[simp] theorem State.updDrv_bit (n : Nat) (f : Drv → Drv) (off : Nat) (fl : Field) : (s.updDrv n f).bit off fl = s.bit off fl := rfl

/-! ### updCluster -/

@[simp] theorem State.updCluster_variant (k : Nat) (f : Cluster → Cluster) : (s.updCluster k f).variant = s.variant := rfl
@[simp] theorem State.updCluster_now (k : Nat) (f : Cluster → Cluster) : (s.updCluster k f).now = s.now := rfl
@[simp] theorem State.updCluster_tb (k : Nat) (f : Cluster → Cluster) : (s.updCluster k f).tb = s.tb := rfl
@[simp] theorem State.updCluster_ptp (k : Nat) (f : Cluster → Cluster) : (s.updCluster k f).ptp = s.ptp := rfl
@[simp] theorem State.updCluster_ptpAdd (k : Nat) (f : Cluster → Cluster) : (s.updCluster k f).ptpAdd = s.ptpAdd := rfl
@[simp] theorem State.updCluster_cdRun (k : Nat) (f : Cluster → Cluster) : (s.updCluster k f).cdRun = s.cdRun := rfl
@[simp] theorem State.updCluster_rmRun (k : Nat) (f : Cluster → Cluster) : (s.updCluster k f).rmRun = s.rmRun := rfl
@[simp] theorem State.updCluster_regs (k : Nat) (f : Cluster → Cluster) : (s.updCluster k f).regs = s.regs := rfl
@[simp] theorem State.updCluster_dram (k : Nat) (f : Cluster → Cluster) : (s.updCluster k f).dram = s.dram := rfl
@[simp] theorem State.updCluster_hostMem (k : Nat) (f : Cluster → Cluster) : (s.updCluster k f).hostMem = s.hostMem := rfl
@[simp] theorem State.updCluster_events (k : Nat) (f : Cluster → Cluster) : (s.updCluster k f).events = s.events := rfl
@[simp] theorem State.updCluster_recQueue (k : Nat) (f : Cluster → Cluster) : (s.updCluster k f).recQueue = s.recQueue := rfl
@[simp] theorem State.updCluster_recStore (k : Nat) (f : Cluster → Cluster) : (s.updCluster k f).recStore = s.recStore := rfl
@[simp] theorem State.updCluster_safetyLog (k : Nat) (f : Cluster → Cluster) : (s.updCluster k f).safetyLog = s.safetyLog := rfl
@[simp] theorem State.updCluster_clearLog (k : Nat) (f : Cluster → Cluster) : (s.updCluster k f).clearLog = s.clearLog := rfl
@[simp] theorem State.updCluster_mbx (k : Nat) (f : Cluster → Cluster) : (s.updCluster k f).mbx = s.mbx := rfl
@[simp] theorem State.updCluster_devQueue (k : Nat) (f : Cluster → Cluster) : (s.updCluster k f).devQueue = s.devQueue := rfl
@[simp] theorem State.updCluster_msi (k : Nat) (f : Cluster → Cluster) : (s.updCluster k f).msi = s.msi := rfl
@[simp] theorem State.updCluster_rings (k : Nat) (f : Cluster → Cluster) : (s.updCluster k f).rings = s.rings := rfl
@[simp] theorem State.updCluster_barkerSt (k : Nat) (f : Cluster → Cluster) : (s.updCluster k f).barkerSt = s.barkerSt := rfl
@[simp] theorem State.updCluster_profs (k : Nat) (f : Cluster → Cluster) : (s.updCluster k f).profs = s.profs := rfl
@[simp] theorem State.updCluster_recst (k : Nat) (f : Cluster → Cluster) : (s.updCluster k f).recst = s.recst := rfl
@[simp] theorem State.updCluster_trips (k : Nat) (f : Cluster → Cluster) : (s.updCluster k f).trips = s.trips := rfl
@[simp] theorem State.updCluster_edges (k : Nat) (f : Cluster → Cluster) : (s.updCluster k f).edges = s.edges := rfl
@[simp] theorem State.updCluster_gatesH (k : Nat) (f : Cluster → Cluster) : (s.updCluster k f).gatesH = s.gatesH := rfl
@[simp] theorem State.updCluster_gatesL (k : Nat) (f : Cluster → Cluster) : (s.updCluster k f).gatesL = s.gatesL := rfl
@[simp] theorem State.updCluster_drvs (k : Nat) (f : Cluster → Cluster) : (s.updCluster k f).drvs = s.drvs := rfl
@[simp] theorem State.updCluster_gmus (k : Nat) (f : Cluster → Cluster) : (s.updCluster k f).gmus = s.gmus := rfl
@[simp] theorem State.updCluster_blks (k : Nat) (f : Cluster → Cluster) : (s.updCluster k f).blks = s.blks := rfl
@[simp] theorem State.updCluster_npms (k : Nat) (f : Cluster → Cluster) : (s.updCluster k f).npms = s.npms := rfl
@[simp] theorem State.updCluster_regions (k : Nat) (f : Cluster → Cluster) : (s.updCluster k f).regions = s.regions := rfl
@[simp] theorem State.updCluster_dcs (k : Nat) (f : Cluster → Cluster) : (s.updCluster k f).dcs = s.dcs := rfl
@[simp] theorem State.updCluster_chgs (k : Nat) (f : Cluster → Cluster) : (s.updCluster k f).chgs = s.chgs := rfl
@[simp] theorem State.updCluster_ldgs (k : Nat) (f : Cluster → Cluster) : (s.updCluster k f).ldgs = s.ldgs := rfl
@[simp] theorem State.updCluster_journal (k : Nat) (f : Cluster → Cluster) : (s.updCluster k f).journal = s.journal := rfl
@[simp] theorem State.updCluster_snet (k : Nat) (f : Cluster → Cluster) : (s.updCluster k f).snet = s.snet := rfl
@[simp] theorem State.updCluster_svrs (k : Nat) (f : Cluster → Cluster) : (s.updCluster k f).svrs = s.svrs := rfl
@[simp] theorem State.updCluster_auxs (k : Nat) (f : Cluster → Cluster) : (s.updCluster k f).auxs = s.auxs := rfl
@[simp] theorem State.updCluster_fbs (k : Nat) (f : Cluster → Cluster) : (s.updCluster k f).fbs = s.fbs := rfl
@[simp] theorem State.updCluster_thm (k : Nat) (f : Cluster → Cluster) : (s.updCluster k f).thm = s.thm := rfl
@[simp] theorem State.updCluster_pack (k : Nat) (f : Cluster → Cluster) : (s.updCluster k f).pack = s.pack := rfl
@[simp] theorem State.updCluster_meas (k : Nat) (f : Cluster → Cluster) : (s.updCluster k f).meas = s.meas := rfl
@[simp] theorem State.updCluster_txns (k : Nat) (f : Cluster → Cluster) : (s.updCluster k f).txns = s.txns := rfl
@[simp] theorem State.updCluster_cans (k : Nat) (f : Cluster → Cluster) : (s.updCluster k f).cans = s.cans := rfl
@[simp] theorem State.updCluster_snl (k : Nat) (f : Cluster → Cluster) : (s.updCluster k f).snl = s.snl := rfl
@[simp] theorem State.updCluster_trmons (k : Nat) (f : Cluster → Cluster) : (s.updCluster k f).trmons = s.trmons := rfl
@[simp] theorem State.updCluster_slackCd (k : Nat) (f : Cluster → Cluster) : (s.updCluster k f).slackCd = s.slackCd := rfl
@[simp] theorem State.updCluster_slackMd (k : Nat) (f : Cluster → Cluster) : (s.updCluster k f).slackMd = s.slackMd := rfl
@[simp] theorem State.updCluster_stalls (k : Nat) (f : Cluster → Cluster) : (s.updCluster k f).stalls = s.stalls := rfl
@[simp] theorem State.updCluster_bad (k : Nat) (f : Cluster → Cluster) : (s.updCluster k f).bad = s.bad := rfl
@[simp] theorem State.updCluster_store (k : Nat) (f : Cluster → Cluster) : (s.updCluster k f).store = s.store := rfl
@[simp] theorem State.updCluster_auths (k : Nat) (f : Cluster → Cluster) : (s.updCluster k f).auths = s.auths := rfl
@[simp] theorem State.updCluster_power (k : Nat) (f : Cluster → Cluster) : (s.updCluster k f).power = s.power := rfl
@[simp] theorem State.updCluster_diag (k : Nat) (f : Cluster → Cluster) : (s.updCluster k f).diag = s.diag := rfl
@[simp] theorem State.updCluster_rm (k : Nat) (f : Cluster → Cluster) : (s.updCluster k f).rm = s.rm := rfl
@[simp] theorem State.updCluster_sys (k : Nat) (f : Cluster → Cluster) : (s.updCluster k f).sys = s.sys := rfl
@[simp] theorem State.updCluster_modid (k : Nat) (f : Cluster → Cluster) : (s.updCluster k f).modid = s.modid := rfl
@[simp] theorem State.updCluster_lastTid (k : Nat) (f : Cluster → Cluster) : (s.updCluster k f).lastTid = s.lastTid := rfl
@[simp] theorem State.updCluster_cmdWait (k : Nat) (f : Cluster → Cluster) : (s.updCluster k f).cmdWait = s.cmdWait := rfl
@[simp] theorem State.updCluster_cpl (k : Nat) (f : Cluster → Cluster) : (s.updCluster k f).cpl = s.cpl := rfl
@[simp] theorem State.updCluster_eccCor (k : Nat) (f : Cluster → Cluster) : (s.updCluster k f).eccCor = s.eccCor := rfl
@[simp] theorem State.updCluster_draws (k : Nat) (f : Cluster → Cluster) : (s.updCluster k f).draws = s.draws := rfl
@[simp] theorem State.updCluster_pending (k : Nat) (f : Cluster → Cluster) : (s.updCluster k f).pending = s.pending := rfl
@[simp] theorem State.updCluster_reg (k : Nat) (f : Cluster → Cluster) (off : Nat) : (s.updCluster k f).reg off = s.reg off := rfl
@[simp] theorem State.updCluster_fld (k : Nat) (f : Cluster → Cluster) (off : Nat) (fl : Field) : (s.updCluster k f).fld off fl = s.fld off fl := rfl
@[simp] theorem State.updCluster_bit (k : Nat) (f : Cluster → Cluster) (off : Nat) (fl : Field) : (s.updCluster k f).bit off fl = s.bit off fl := rfl

/-! ### updGmu -/

@[simp] theorem State.updGmu_variant (k : Nat) (f : Gmu → Gmu) : (s.updGmu k f).variant = s.variant := rfl
@[simp] theorem State.updGmu_now (k : Nat) (f : Gmu → Gmu) : (s.updGmu k f).now = s.now := rfl
@[simp] theorem State.updGmu_tb (k : Nat) (f : Gmu → Gmu) : (s.updGmu k f).tb = s.tb := rfl
@[simp] theorem State.updGmu_ptp (k : Nat) (f : Gmu → Gmu) : (s.updGmu k f).ptp = s.ptp := rfl
@[simp] theorem State.updGmu_ptpAdd (k : Nat) (f : Gmu → Gmu) : (s.updGmu k f).ptpAdd = s.ptpAdd := rfl
@[simp] theorem State.updGmu_cdRun (k : Nat) (f : Gmu → Gmu) : (s.updGmu k f).cdRun = s.cdRun := rfl
@[simp] theorem State.updGmu_rmRun (k : Nat) (f : Gmu → Gmu) : (s.updGmu k f).rmRun = s.rmRun := rfl
@[simp] theorem State.updGmu_regs (k : Nat) (f : Gmu → Gmu) : (s.updGmu k f).regs = s.regs := rfl
@[simp] theorem State.updGmu_dram (k : Nat) (f : Gmu → Gmu) : (s.updGmu k f).dram = s.dram := rfl
@[simp] theorem State.updGmu_hostMem (k : Nat) (f : Gmu → Gmu) : (s.updGmu k f).hostMem = s.hostMem := rfl
@[simp] theorem State.updGmu_events (k : Nat) (f : Gmu → Gmu) : (s.updGmu k f).events = s.events := rfl
@[simp] theorem State.updGmu_recQueue (k : Nat) (f : Gmu → Gmu) : (s.updGmu k f).recQueue = s.recQueue := rfl
@[simp] theorem State.updGmu_recStore (k : Nat) (f : Gmu → Gmu) : (s.updGmu k f).recStore = s.recStore := rfl
@[simp] theorem State.updGmu_safetyLog (k : Nat) (f : Gmu → Gmu) : (s.updGmu k f).safetyLog = s.safetyLog := rfl
@[simp] theorem State.updGmu_clearLog (k : Nat) (f : Gmu → Gmu) : (s.updGmu k f).clearLog = s.clearLog := rfl
@[simp] theorem State.updGmu_mbx (k : Nat) (f : Gmu → Gmu) : (s.updGmu k f).mbx = s.mbx := rfl
@[simp] theorem State.updGmu_devQueue (k : Nat) (f : Gmu → Gmu) : (s.updGmu k f).devQueue = s.devQueue := rfl
@[simp] theorem State.updGmu_msi (k : Nat) (f : Gmu → Gmu) : (s.updGmu k f).msi = s.msi := rfl
@[simp] theorem State.updGmu_rings (k : Nat) (f : Gmu → Gmu) : (s.updGmu k f).rings = s.rings := rfl
@[simp] theorem State.updGmu_barkerSt (k : Nat) (f : Gmu → Gmu) : (s.updGmu k f).barkerSt = s.barkerSt := rfl
@[simp] theorem State.updGmu_profs (k : Nat) (f : Gmu → Gmu) : (s.updGmu k f).profs = s.profs := rfl
@[simp] theorem State.updGmu_recst (k : Nat) (f : Gmu → Gmu) : (s.updGmu k f).recst = s.recst := rfl
@[simp] theorem State.updGmu_trips (k : Nat) (f : Gmu → Gmu) : (s.updGmu k f).trips = s.trips := rfl
@[simp] theorem State.updGmu_edges (k : Nat) (f : Gmu → Gmu) : (s.updGmu k f).edges = s.edges := rfl
@[simp] theorem State.updGmu_gatesH (k : Nat) (f : Gmu → Gmu) : (s.updGmu k f).gatesH = s.gatesH := rfl
@[simp] theorem State.updGmu_gatesL (k : Nat) (f : Gmu → Gmu) : (s.updGmu k f).gatesL = s.gatesL := rfl
@[simp] theorem State.updGmu_drvs (k : Nat) (f : Gmu → Gmu) : (s.updGmu k f).drvs = s.drvs := rfl
@[simp] theorem State.updGmu_clusters (k : Nat) (f : Gmu → Gmu) : (s.updGmu k f).clusters = s.clusters := rfl
@[simp] theorem State.updGmu_blks (k : Nat) (f : Gmu → Gmu) : (s.updGmu k f).blks = s.blks := rfl
@[simp] theorem State.updGmu_npms (k : Nat) (f : Gmu → Gmu) : (s.updGmu k f).npms = s.npms := rfl
@[simp] theorem State.updGmu_regions (k : Nat) (f : Gmu → Gmu) : (s.updGmu k f).regions = s.regions := rfl
@[simp] theorem State.updGmu_dcs (k : Nat) (f : Gmu → Gmu) : (s.updGmu k f).dcs = s.dcs := rfl
@[simp] theorem State.updGmu_chgs (k : Nat) (f : Gmu → Gmu) : (s.updGmu k f).chgs = s.chgs := rfl
@[simp] theorem State.updGmu_ldgs (k : Nat) (f : Gmu → Gmu) : (s.updGmu k f).ldgs = s.ldgs := rfl
@[simp] theorem State.updGmu_journal (k : Nat) (f : Gmu → Gmu) : (s.updGmu k f).journal = s.journal := rfl
@[simp] theorem State.updGmu_snet (k : Nat) (f : Gmu → Gmu) : (s.updGmu k f).snet = s.snet := rfl
@[simp] theorem State.updGmu_svrs (k : Nat) (f : Gmu → Gmu) : (s.updGmu k f).svrs = s.svrs := rfl
@[simp] theorem State.updGmu_auxs (k : Nat) (f : Gmu → Gmu) : (s.updGmu k f).auxs = s.auxs := rfl
@[simp] theorem State.updGmu_fbs (k : Nat) (f : Gmu → Gmu) : (s.updGmu k f).fbs = s.fbs := rfl
@[simp] theorem State.updGmu_thm (k : Nat) (f : Gmu → Gmu) : (s.updGmu k f).thm = s.thm := rfl
@[simp] theorem State.updGmu_pack (k : Nat) (f : Gmu → Gmu) : (s.updGmu k f).pack = s.pack := rfl
@[simp] theorem State.updGmu_meas (k : Nat) (f : Gmu → Gmu) : (s.updGmu k f).meas = s.meas := rfl
@[simp] theorem State.updGmu_txns (k : Nat) (f : Gmu → Gmu) : (s.updGmu k f).txns = s.txns := rfl
@[simp] theorem State.updGmu_cans (k : Nat) (f : Gmu → Gmu) : (s.updGmu k f).cans = s.cans := rfl
@[simp] theorem State.updGmu_snl (k : Nat) (f : Gmu → Gmu) : (s.updGmu k f).snl = s.snl := rfl
@[simp] theorem State.updGmu_trmons (k : Nat) (f : Gmu → Gmu) : (s.updGmu k f).trmons = s.trmons := rfl
@[simp] theorem State.updGmu_slackCd (k : Nat) (f : Gmu → Gmu) : (s.updGmu k f).slackCd = s.slackCd := rfl
@[simp] theorem State.updGmu_slackMd (k : Nat) (f : Gmu → Gmu) : (s.updGmu k f).slackMd = s.slackMd := rfl
@[simp] theorem State.updGmu_stalls (k : Nat) (f : Gmu → Gmu) : (s.updGmu k f).stalls = s.stalls := rfl
@[simp] theorem State.updGmu_bad (k : Nat) (f : Gmu → Gmu) : (s.updGmu k f).bad = s.bad := rfl
@[simp] theorem State.updGmu_store (k : Nat) (f : Gmu → Gmu) : (s.updGmu k f).store = s.store := rfl
@[simp] theorem State.updGmu_auths (k : Nat) (f : Gmu → Gmu) : (s.updGmu k f).auths = s.auths := rfl
@[simp] theorem State.updGmu_power (k : Nat) (f : Gmu → Gmu) : (s.updGmu k f).power = s.power := rfl
@[simp] theorem State.updGmu_diag (k : Nat) (f : Gmu → Gmu) : (s.updGmu k f).diag = s.diag := rfl
@[simp] theorem State.updGmu_rm (k : Nat) (f : Gmu → Gmu) : (s.updGmu k f).rm = s.rm := rfl
@[simp] theorem State.updGmu_sys (k : Nat) (f : Gmu → Gmu) : (s.updGmu k f).sys = s.sys := rfl
@[simp] theorem State.updGmu_modid (k : Nat) (f : Gmu → Gmu) : (s.updGmu k f).modid = s.modid := rfl
@[simp] theorem State.updGmu_lastTid (k : Nat) (f : Gmu → Gmu) : (s.updGmu k f).lastTid = s.lastTid := rfl
@[simp] theorem State.updGmu_cmdWait (k : Nat) (f : Gmu → Gmu) : (s.updGmu k f).cmdWait = s.cmdWait := rfl
@[simp] theorem State.updGmu_cpl (k : Nat) (f : Gmu → Gmu) : (s.updGmu k f).cpl = s.cpl := rfl
@[simp] theorem State.updGmu_eccCor (k : Nat) (f : Gmu → Gmu) : (s.updGmu k f).eccCor = s.eccCor := rfl
@[simp] theorem State.updGmu_draws (k : Nat) (f : Gmu → Gmu) : (s.updGmu k f).draws = s.draws := rfl
@[simp] theorem State.updGmu_pending (k : Nat) (f : Gmu → Gmu) : (s.updGmu k f).pending = s.pending := rfl
@[simp] theorem State.updGmu_reg (k : Nat) (f : Gmu → Gmu) (off : Nat) : (s.updGmu k f).reg off = s.reg off := rfl
@[simp] theorem State.updGmu_fld (k : Nat) (f : Gmu → Gmu) (off : Nat) (fl : Field) : (s.updGmu k f).fld off fl = s.fld off fl := rfl
@[simp] theorem State.updGmu_bit (k : Nat) (f : Gmu → Gmu) (off : Nat) (fl : Field) : (s.updGmu k f).bit off fl = s.bit off fl := rfl

/-! ### updBlk -/

@[simp] theorem State.updBlk_variant (k : Nat) (f : Blk → Blk) : (s.updBlk k f).variant = s.variant := rfl
@[simp] theorem State.updBlk_now (k : Nat) (f : Blk → Blk) : (s.updBlk k f).now = s.now := rfl
@[simp] theorem State.updBlk_tb (k : Nat) (f : Blk → Blk) : (s.updBlk k f).tb = s.tb := rfl
@[simp] theorem State.updBlk_ptp (k : Nat) (f : Blk → Blk) : (s.updBlk k f).ptp = s.ptp := rfl
@[simp] theorem State.updBlk_ptpAdd (k : Nat) (f : Blk → Blk) : (s.updBlk k f).ptpAdd = s.ptpAdd := rfl
@[simp] theorem State.updBlk_cdRun (k : Nat) (f : Blk → Blk) : (s.updBlk k f).cdRun = s.cdRun := rfl
@[simp] theorem State.updBlk_rmRun (k : Nat) (f : Blk → Blk) : (s.updBlk k f).rmRun = s.rmRun := rfl
@[simp] theorem State.updBlk_regs (k : Nat) (f : Blk → Blk) : (s.updBlk k f).regs = s.regs := rfl
@[simp] theorem State.updBlk_dram (k : Nat) (f : Blk → Blk) : (s.updBlk k f).dram = s.dram := rfl
@[simp] theorem State.updBlk_hostMem (k : Nat) (f : Blk → Blk) : (s.updBlk k f).hostMem = s.hostMem := rfl
@[simp] theorem State.updBlk_events (k : Nat) (f : Blk → Blk) : (s.updBlk k f).events = s.events := rfl
@[simp] theorem State.updBlk_recQueue (k : Nat) (f : Blk → Blk) : (s.updBlk k f).recQueue = s.recQueue := rfl
@[simp] theorem State.updBlk_recStore (k : Nat) (f : Blk → Blk) : (s.updBlk k f).recStore = s.recStore := rfl
@[simp] theorem State.updBlk_safetyLog (k : Nat) (f : Blk → Blk) : (s.updBlk k f).safetyLog = s.safetyLog := rfl
@[simp] theorem State.updBlk_clearLog (k : Nat) (f : Blk → Blk) : (s.updBlk k f).clearLog = s.clearLog := rfl
@[simp] theorem State.updBlk_mbx (k : Nat) (f : Blk → Blk) : (s.updBlk k f).mbx = s.mbx := rfl
@[simp] theorem State.updBlk_devQueue (k : Nat) (f : Blk → Blk) : (s.updBlk k f).devQueue = s.devQueue := rfl
@[simp] theorem State.updBlk_msi (k : Nat) (f : Blk → Blk) : (s.updBlk k f).msi = s.msi := rfl
@[simp] theorem State.updBlk_rings (k : Nat) (f : Blk → Blk) : (s.updBlk k f).rings = s.rings := rfl
@[simp] theorem State.updBlk_barkerSt (k : Nat) (f : Blk → Blk) : (s.updBlk k f).barkerSt = s.barkerSt := rfl
@[simp] theorem State.updBlk_profs (k : Nat) (f : Blk → Blk) : (s.updBlk k f).profs = s.profs := rfl
@[simp] theorem State.updBlk_recst (k : Nat) (f : Blk → Blk) : (s.updBlk k f).recst = s.recst := rfl
@[simp] theorem State.updBlk_trips (k : Nat) (f : Blk → Blk) : (s.updBlk k f).trips = s.trips := rfl
@[simp] theorem State.updBlk_edges (k : Nat) (f : Blk → Blk) : (s.updBlk k f).edges = s.edges := rfl
@[simp] theorem State.updBlk_gatesH (k : Nat) (f : Blk → Blk) : (s.updBlk k f).gatesH = s.gatesH := rfl
@[simp] theorem State.updBlk_gatesL (k : Nat) (f : Blk → Blk) : (s.updBlk k f).gatesL = s.gatesL := rfl
@[simp] theorem State.updBlk_drvs (k : Nat) (f : Blk → Blk) : (s.updBlk k f).drvs = s.drvs := rfl
@[simp] theorem State.updBlk_clusters (k : Nat) (f : Blk → Blk) : (s.updBlk k f).clusters = s.clusters := rfl
@[simp] theorem State.updBlk_gmus (k : Nat) (f : Blk → Blk) : (s.updBlk k f).gmus = s.gmus := rfl
@[simp] theorem State.updBlk_npms (k : Nat) (f : Blk → Blk) : (s.updBlk k f).npms = s.npms := rfl
@[simp] theorem State.updBlk_regions (k : Nat) (f : Blk → Blk) : (s.updBlk k f).regions = s.regions := rfl
@[simp] theorem State.updBlk_dcs (k : Nat) (f : Blk → Blk) : (s.updBlk k f).dcs = s.dcs := rfl
@[simp] theorem State.updBlk_chgs (k : Nat) (f : Blk → Blk) : (s.updBlk k f).chgs = s.chgs := rfl
@[simp] theorem State.updBlk_ldgs (k : Nat) (f : Blk → Blk) : (s.updBlk k f).ldgs = s.ldgs := rfl
@[simp] theorem State.updBlk_journal (k : Nat) (f : Blk → Blk) : (s.updBlk k f).journal = s.journal := rfl
@[simp] theorem State.updBlk_snet (k : Nat) (f : Blk → Blk) : (s.updBlk k f).snet = s.snet := rfl
@[simp] theorem State.updBlk_svrs (k : Nat) (f : Blk → Blk) : (s.updBlk k f).svrs = s.svrs := rfl
@[simp] theorem State.updBlk_auxs (k : Nat) (f : Blk → Blk) : (s.updBlk k f).auxs = s.auxs := rfl
@[simp] theorem State.updBlk_fbs (k : Nat) (f : Blk → Blk) : (s.updBlk k f).fbs = s.fbs := rfl
@[simp] theorem State.updBlk_thm (k : Nat) (f : Blk → Blk) : (s.updBlk k f).thm = s.thm := rfl
@[simp] theorem State.updBlk_pack (k : Nat) (f : Blk → Blk) : (s.updBlk k f).pack = s.pack := rfl
@[simp] theorem State.updBlk_meas (k : Nat) (f : Blk → Blk) : (s.updBlk k f).meas = s.meas := rfl
@[simp] theorem State.updBlk_txns (k : Nat) (f : Blk → Blk) : (s.updBlk k f).txns = s.txns := rfl
@[simp] theorem State.updBlk_cans (k : Nat) (f : Blk → Blk) : (s.updBlk k f).cans = s.cans := rfl
@[simp] theorem State.updBlk_snl (k : Nat) (f : Blk → Blk) : (s.updBlk k f).snl = s.snl := rfl
@[simp] theorem State.updBlk_trmons (k : Nat) (f : Blk → Blk) : (s.updBlk k f).trmons = s.trmons := rfl
@[simp] theorem State.updBlk_slackCd (k : Nat) (f : Blk → Blk) : (s.updBlk k f).slackCd = s.slackCd := rfl
@[simp] theorem State.updBlk_slackMd (k : Nat) (f : Blk → Blk) : (s.updBlk k f).slackMd = s.slackMd := rfl
@[simp] theorem State.updBlk_stalls (k : Nat) (f : Blk → Blk) : (s.updBlk k f).stalls = s.stalls := rfl
@[simp] theorem State.updBlk_bad (k : Nat) (f : Blk → Blk) : (s.updBlk k f).bad = s.bad := rfl
@[simp] theorem State.updBlk_store (k : Nat) (f : Blk → Blk) : (s.updBlk k f).store = s.store := rfl
@[simp] theorem State.updBlk_auths (k : Nat) (f : Blk → Blk) : (s.updBlk k f).auths = s.auths := rfl
@[simp] theorem State.updBlk_power (k : Nat) (f : Blk → Blk) : (s.updBlk k f).power = s.power := rfl
@[simp] theorem State.updBlk_diag (k : Nat) (f : Blk → Blk) : (s.updBlk k f).diag = s.diag := rfl
@[simp] theorem State.updBlk_rm (k : Nat) (f : Blk → Blk) : (s.updBlk k f).rm = s.rm := rfl
@[simp] theorem State.updBlk_sys (k : Nat) (f : Blk → Blk) : (s.updBlk k f).sys = s.sys := rfl
@[simp] theorem State.updBlk_modid (k : Nat) (f : Blk → Blk) : (s.updBlk k f).modid = s.modid := rfl
@[simp] theorem State.updBlk_lastTid (k : Nat) (f : Blk → Blk) : (s.updBlk k f).lastTid = s.lastTid := rfl
@[simp] theorem State.updBlk_cmdWait (k : Nat) (f : Blk → Blk) : (s.updBlk k f).cmdWait = s.cmdWait := rfl
@[simp] theorem State.updBlk_cpl (k : Nat) (f : Blk → Blk) : (s.updBlk k f).cpl = s.cpl := rfl
@[simp] theorem State.updBlk_eccCor (k : Nat) (f : Blk → Blk) : (s.updBlk k f).eccCor = s.eccCor := rfl
@[simp] theorem State.updBlk_draws (k : Nat) (f : Blk → Blk) : (s.updBlk k f).draws = s.draws := rfl
@[simp] theorem State.updBlk_pending (k : Nat) (f : Blk → Blk) : (s.updBlk k f).pending = s.pending := rfl
@[simp] theorem State.updBlk_reg (k : Nat) (f : Blk → Blk) (off : Nat) : (s.updBlk k f).reg off = s.reg off := rfl
@[simp] theorem State.updBlk_fld (k : Nat) (f : Blk → Blk) (off : Nat) (fl : Field) : (s.updBlk k f).fld off fl = s.fld off fl := rfl
@[simp] theorem State.updBlk_bit (k : Nat) (f : Blk → Blk) (off : Nat) (fl : Field) : (s.updBlk k f).bit off fl = s.bit off fl := rfl

/-! ### updNpm -/

@[simp] theorem State.updNpm_variant (k : Nat) (f : NpMod → NpMod) : (s.updNpm k f).variant = s.variant := rfl
@[simp] theorem State.updNpm_now (k : Nat) (f : NpMod → NpMod) : (s.updNpm k f).now = s.now := rfl
@[simp] theorem State.updNpm_tb (k : Nat) (f : NpMod → NpMod) : (s.updNpm k f).tb = s.tb := rfl
@[simp] theorem State.updNpm_ptp (k : Nat) (f : NpMod → NpMod) : (s.updNpm k f).ptp = s.ptp := rfl
@[simp] theorem State.updNpm_ptpAdd (k : Nat) (f : NpMod → NpMod) : (s.updNpm k f).ptpAdd = s.ptpAdd := rfl
@[simp] theorem State.updNpm_cdRun (k : Nat) (f : NpMod → NpMod) : (s.updNpm k f).cdRun = s.cdRun := rfl
@[simp] theorem State.updNpm_rmRun (k : Nat) (f : NpMod → NpMod) : (s.updNpm k f).rmRun = s.rmRun := rfl
@[simp] theorem State.updNpm_regs (k : Nat) (f : NpMod → NpMod) : (s.updNpm k f).regs = s.regs := rfl
@[simp] theorem State.updNpm_dram (k : Nat) (f : NpMod → NpMod) : (s.updNpm k f).dram = s.dram := rfl
@[simp] theorem State.updNpm_hostMem (k : Nat) (f : NpMod → NpMod) : (s.updNpm k f).hostMem = s.hostMem := rfl
@[simp] theorem State.updNpm_events (k : Nat) (f : NpMod → NpMod) : (s.updNpm k f).events = s.events := rfl
@[simp] theorem State.updNpm_recQueue (k : Nat) (f : NpMod → NpMod) : (s.updNpm k f).recQueue = s.recQueue := rfl
@[simp] theorem State.updNpm_recStore (k : Nat) (f : NpMod → NpMod) : (s.updNpm k f).recStore = s.recStore := rfl
@[simp] theorem State.updNpm_safetyLog (k : Nat) (f : NpMod → NpMod) : (s.updNpm k f).safetyLog = s.safetyLog := rfl
@[simp] theorem State.updNpm_clearLog (k : Nat) (f : NpMod → NpMod) : (s.updNpm k f).clearLog = s.clearLog := rfl
@[simp] theorem State.updNpm_mbx (k : Nat) (f : NpMod → NpMod) : (s.updNpm k f).mbx = s.mbx := rfl
@[simp] theorem State.updNpm_devQueue (k : Nat) (f : NpMod → NpMod) : (s.updNpm k f).devQueue = s.devQueue := rfl
@[simp] theorem State.updNpm_msi (k : Nat) (f : NpMod → NpMod) : (s.updNpm k f).msi = s.msi := rfl
@[simp] theorem State.updNpm_rings (k : Nat) (f : NpMod → NpMod) : (s.updNpm k f).rings = s.rings := rfl
@[simp] theorem State.updNpm_barkerSt (k : Nat) (f : NpMod → NpMod) : (s.updNpm k f).barkerSt = s.barkerSt := rfl
@[simp] theorem State.updNpm_profs (k : Nat) (f : NpMod → NpMod) : (s.updNpm k f).profs = s.profs := rfl
@[simp] theorem State.updNpm_recst (k : Nat) (f : NpMod → NpMod) : (s.updNpm k f).recst = s.recst := rfl
@[simp] theorem State.updNpm_trips (k : Nat) (f : NpMod → NpMod) : (s.updNpm k f).trips = s.trips := rfl
@[simp] theorem State.updNpm_edges (k : Nat) (f : NpMod → NpMod) : (s.updNpm k f).edges = s.edges := rfl
@[simp] theorem State.updNpm_gatesH (k : Nat) (f : NpMod → NpMod) : (s.updNpm k f).gatesH = s.gatesH := rfl
@[simp] theorem State.updNpm_gatesL (k : Nat) (f : NpMod → NpMod) : (s.updNpm k f).gatesL = s.gatesL := rfl
@[simp] theorem State.updNpm_drvs (k : Nat) (f : NpMod → NpMod) : (s.updNpm k f).drvs = s.drvs := rfl
@[simp] theorem State.updNpm_clusters (k : Nat) (f : NpMod → NpMod) : (s.updNpm k f).clusters = s.clusters := rfl
@[simp] theorem State.updNpm_gmus (k : Nat) (f : NpMod → NpMod) : (s.updNpm k f).gmus = s.gmus := rfl
@[simp] theorem State.updNpm_blks (k : Nat) (f : NpMod → NpMod) : (s.updNpm k f).blks = s.blks := rfl
@[simp] theorem State.updNpm_regions (k : Nat) (f : NpMod → NpMod) : (s.updNpm k f).regions = s.regions := rfl
@[simp] theorem State.updNpm_dcs (k : Nat) (f : NpMod → NpMod) : (s.updNpm k f).dcs = s.dcs := rfl
@[simp] theorem State.updNpm_chgs (k : Nat) (f : NpMod → NpMod) : (s.updNpm k f).chgs = s.chgs := rfl
@[simp] theorem State.updNpm_ldgs (k : Nat) (f : NpMod → NpMod) : (s.updNpm k f).ldgs = s.ldgs := rfl
@[simp] theorem State.updNpm_journal (k : Nat) (f : NpMod → NpMod) : (s.updNpm k f).journal = s.journal := rfl
@[simp] theorem State.updNpm_snet (k : Nat) (f : NpMod → NpMod) : (s.updNpm k f).snet = s.snet := rfl
@[simp] theorem State.updNpm_svrs (k : Nat) (f : NpMod → NpMod) : (s.updNpm k f).svrs = s.svrs := rfl
@[simp] theorem State.updNpm_auxs (k : Nat) (f : NpMod → NpMod) : (s.updNpm k f).auxs = s.auxs := rfl
@[simp] theorem State.updNpm_fbs (k : Nat) (f : NpMod → NpMod) : (s.updNpm k f).fbs = s.fbs := rfl
@[simp] theorem State.updNpm_thm (k : Nat) (f : NpMod → NpMod) : (s.updNpm k f).thm = s.thm := rfl
@[simp] theorem State.updNpm_pack (k : Nat) (f : NpMod → NpMod) : (s.updNpm k f).pack = s.pack := rfl
@[simp] theorem State.updNpm_meas (k : Nat) (f : NpMod → NpMod) : (s.updNpm k f).meas = s.meas := rfl
@[simp] theorem State.updNpm_txns (k : Nat) (f : NpMod → NpMod) : (s.updNpm k f).txns = s.txns := rfl
@[simp] theorem State.updNpm_cans (k : Nat) (f : NpMod → NpMod) : (s.updNpm k f).cans = s.cans := rfl
@[simp] theorem State.updNpm_snl (k : Nat) (f : NpMod → NpMod) : (s.updNpm k f).snl = s.snl := rfl
@[simp] theorem State.updNpm_trmons (k : Nat) (f : NpMod → NpMod) : (s.updNpm k f).trmons = s.trmons := rfl
@[simp] theorem State.updNpm_slackCd (k : Nat) (f : NpMod → NpMod) : (s.updNpm k f).slackCd = s.slackCd := rfl
@[simp] theorem State.updNpm_slackMd (k : Nat) (f : NpMod → NpMod) : (s.updNpm k f).slackMd = s.slackMd := rfl
@[simp] theorem State.updNpm_stalls (k : Nat) (f : NpMod → NpMod) : (s.updNpm k f).stalls = s.stalls := rfl
@[simp] theorem State.updNpm_bad (k : Nat) (f : NpMod → NpMod) : (s.updNpm k f).bad = s.bad := rfl
@[simp] theorem State.updNpm_store (k : Nat) (f : NpMod → NpMod) : (s.updNpm k f).store = s.store := rfl
@[simp] theorem State.updNpm_auths (k : Nat) (f : NpMod → NpMod) : (s.updNpm k f).auths = s.auths := rfl
@[simp] theorem State.updNpm_power (k : Nat) (f : NpMod → NpMod) : (s.updNpm k f).power = s.power := rfl
@[simp] theorem State.updNpm_diag (k : Nat) (f : NpMod → NpMod) : (s.updNpm k f).diag = s.diag := rfl
@[simp] theorem State.updNpm_rm (k : Nat) (f : NpMod → NpMod) : (s.updNpm k f).rm = s.rm := rfl
@[simp] theorem State.updNpm_sys (k : Nat) (f : NpMod → NpMod) : (s.updNpm k f).sys = s.sys := rfl
@[simp] theorem State.updNpm_modid (k : Nat) (f : NpMod → NpMod) : (s.updNpm k f).modid = s.modid := rfl
@[simp] theorem State.updNpm_lastTid (k : Nat) (f : NpMod → NpMod) : (s.updNpm k f).lastTid = s.lastTid := rfl
@[simp] theorem State.updNpm_cmdWait (k : Nat) (f : NpMod → NpMod) : (s.updNpm k f).cmdWait = s.cmdWait := rfl
@[simp] theorem State.updNpm_cpl (k : Nat) (f : NpMod → NpMod) : (s.updNpm k f).cpl = s.cpl := rfl
@[simp] theorem State.updNpm_eccCor (k : Nat) (f : NpMod → NpMod) : (s.updNpm k f).eccCor = s.eccCor := rfl
@[simp] theorem State.updNpm_draws (k : Nat) (f : NpMod → NpMod) : (s.updNpm k f).draws = s.draws := rfl
@[simp] theorem State.updNpm_pending (k : Nat) (f : NpMod → NpMod) : (s.updNpm k f).pending = s.pending := rfl
@[simp] theorem State.updNpm_reg (k : Nat) (f : NpMod → NpMod) (off : Nat) : (s.updNpm k f).reg off = s.reg off := rfl
@[simp] theorem State.updNpm_fld (k : Nat) (f : NpMod → NpMod) (off : Nat) (fl : Field) : (s.updNpm k f).fld off fl = s.fld off fl := rfl
@[simp] theorem State.updNpm_bit (k : Nat) (f : NpMod → NpMod) (off : Nat) (fl : Field) : (s.updNpm k f).bit off fl = s.bit off fl := rfl

/-! ### updRegion -/

@[simp] theorem State.updRegion_variant (g : Nat) (f : Region → Region) : (s.updRegion g f).variant = s.variant := rfl
@[simp] theorem State.updRegion_now (g : Nat) (f : Region → Region) : (s.updRegion g f).now = s.now := rfl
@[simp] theorem State.updRegion_tb (g : Nat) (f : Region → Region) : (s.updRegion g f).tb = s.tb := rfl
@[simp] theorem State.updRegion_ptp (g : Nat) (f : Region → Region) : (s.updRegion g f).ptp = s.ptp := rfl
@[simp] theorem State.updRegion_ptpAdd (g : Nat) (f : Region → Region) : (s.updRegion g f).ptpAdd = s.ptpAdd := rfl
@[simp] theorem State.updRegion_cdRun (g : Nat) (f : Region → Region) : (s.updRegion g f).cdRun = s.cdRun := rfl
@[simp] theorem State.updRegion_rmRun (g : Nat) (f : Region → Region) : (s.updRegion g f).rmRun = s.rmRun := rfl
@[simp] theorem State.updRegion_regs (g : Nat) (f : Region → Region) : (s.updRegion g f).regs = s.regs := rfl
@[simp] theorem State.updRegion_dram (g : Nat) (f : Region → Region) : (s.updRegion g f).dram = s.dram := rfl
@[simp] theorem State.updRegion_hostMem (g : Nat) (f : Region → Region) : (s.updRegion g f).hostMem = s.hostMem := rfl
@[simp] theorem State.updRegion_events (g : Nat) (f : Region → Region) : (s.updRegion g f).events = s.events := rfl
@[simp] theorem State.updRegion_recQueue (g : Nat) (f : Region → Region) : (s.updRegion g f).recQueue = s.recQueue := rfl
@[simp] theorem State.updRegion_recStore (g : Nat) (f : Region → Region) : (s.updRegion g f).recStore = s.recStore := rfl
@[simp] theorem State.updRegion_safetyLog (g : Nat) (f : Region → Region) : (s.updRegion g f).safetyLog = s.safetyLog := rfl
@[simp] theorem State.updRegion_clearLog (g : Nat) (f : Region → Region) : (s.updRegion g f).clearLog = s.clearLog := rfl
@[simp] theorem State.updRegion_mbx (g : Nat) (f : Region → Region) : (s.updRegion g f).mbx = s.mbx := rfl
@[simp] theorem State.updRegion_devQueue (g : Nat) (f : Region → Region) : (s.updRegion g f).devQueue = s.devQueue := rfl
@[simp] theorem State.updRegion_msi (g : Nat) (f : Region → Region) : (s.updRegion g f).msi = s.msi := rfl
@[simp] theorem State.updRegion_rings (g : Nat) (f : Region → Region) : (s.updRegion g f).rings = s.rings := rfl
@[simp] theorem State.updRegion_barkerSt (g : Nat) (f : Region → Region) : (s.updRegion g f).barkerSt = s.barkerSt := rfl
@[simp] theorem State.updRegion_profs (g : Nat) (f : Region → Region) : (s.updRegion g f).profs = s.profs := rfl
@[simp] theorem State.updRegion_recst (g : Nat) (f : Region → Region) : (s.updRegion g f).recst = s.recst := rfl
@[simp] theorem State.updRegion_trips (g : Nat) (f : Region → Region) : (s.updRegion g f).trips = s.trips := rfl
@[simp] theorem State.updRegion_edges (g : Nat) (f : Region → Region) : (s.updRegion g f).edges = s.edges := rfl
@[simp] theorem State.updRegion_gatesH (g : Nat) (f : Region → Region) : (s.updRegion g f).gatesH = s.gatesH := rfl
@[simp] theorem State.updRegion_gatesL (g : Nat) (f : Region → Region) : (s.updRegion g f).gatesL = s.gatesL := rfl
@[simp] theorem State.updRegion_drvs (g : Nat) (f : Region → Region) : (s.updRegion g f).drvs = s.drvs := rfl
@[simp] theorem State.updRegion_clusters (g : Nat) (f : Region → Region) : (s.updRegion g f).clusters = s.clusters := rfl
@[simp] theorem State.updRegion_gmus (g : Nat) (f : Region → Region) : (s.updRegion g f).gmus = s.gmus := rfl
@[simp] theorem State.updRegion_blks (g : Nat) (f : Region → Region) : (s.updRegion g f).blks = s.blks := rfl
@[simp] theorem State.updRegion_npms (g : Nat) (f : Region → Region) : (s.updRegion g f).npms = s.npms := rfl
@[simp] theorem State.updRegion_dcs (g : Nat) (f : Region → Region) : (s.updRegion g f).dcs = s.dcs := rfl
@[simp] theorem State.updRegion_chgs (g : Nat) (f : Region → Region) : (s.updRegion g f).chgs = s.chgs := rfl
@[simp] theorem State.updRegion_ldgs (g : Nat) (f : Region → Region) : (s.updRegion g f).ldgs = s.ldgs := rfl
@[simp] theorem State.updRegion_journal (g : Nat) (f : Region → Region) : (s.updRegion g f).journal = s.journal := rfl
@[simp] theorem State.updRegion_snet (g : Nat) (f : Region → Region) : (s.updRegion g f).snet = s.snet := rfl
@[simp] theorem State.updRegion_svrs (g : Nat) (f : Region → Region) : (s.updRegion g f).svrs = s.svrs := rfl
@[simp] theorem State.updRegion_auxs (g : Nat) (f : Region → Region) : (s.updRegion g f).auxs = s.auxs := rfl
@[simp] theorem State.updRegion_fbs (g : Nat) (f : Region → Region) : (s.updRegion g f).fbs = s.fbs := rfl
@[simp] theorem State.updRegion_thm (g : Nat) (f : Region → Region) : (s.updRegion g f).thm = s.thm := rfl
@[simp] theorem State.updRegion_pack (g : Nat) (f : Region → Region) : (s.updRegion g f).pack = s.pack := rfl
@[simp] theorem State.updRegion_meas (g : Nat) (f : Region → Region) : (s.updRegion g f).meas = s.meas := rfl
@[simp] theorem State.updRegion_txns (g : Nat) (f : Region → Region) : (s.updRegion g f).txns = s.txns := rfl
@[simp] theorem State.updRegion_cans (g : Nat) (f : Region → Region) : (s.updRegion g f).cans = s.cans := rfl
@[simp] theorem State.updRegion_snl (g : Nat) (f : Region → Region) : (s.updRegion g f).snl = s.snl := rfl
@[simp] theorem State.updRegion_trmons (g : Nat) (f : Region → Region) : (s.updRegion g f).trmons = s.trmons := rfl
@[simp] theorem State.updRegion_slackCd (g : Nat) (f : Region → Region) : (s.updRegion g f).slackCd = s.slackCd := rfl
@[simp] theorem State.updRegion_slackMd (g : Nat) (f : Region → Region) : (s.updRegion g f).slackMd = s.slackMd := rfl
@[simp] theorem State.updRegion_stalls (g : Nat) (f : Region → Region) : (s.updRegion g f).stalls = s.stalls := rfl
@[simp] theorem State.updRegion_bad (g : Nat) (f : Region → Region) : (s.updRegion g f).bad = s.bad := rfl
@[simp] theorem State.updRegion_store (g : Nat) (f : Region → Region) : (s.updRegion g f).store = s.store := rfl
@[simp] theorem State.updRegion_auths (g : Nat) (f : Region → Region) : (s.updRegion g f).auths = s.auths := rfl
@[simp] theorem State.updRegion_power (g : Nat) (f : Region → Region) : (s.updRegion g f).power = s.power := rfl
@[simp] theorem State.updRegion_diag (g : Nat) (f : Region → Region) : (s.updRegion g f).diag = s.diag := rfl
@[simp] theorem State.updRegion_rm (g : Nat) (f : Region → Region) : (s.updRegion g f).rm = s.rm := rfl
@[simp] theorem State.updRegion_sys (g : Nat) (f : Region → Region) : (s.updRegion g f).sys = s.sys := rfl
@[simp] theorem State.updRegion_modid (g : Nat) (f : Region → Region) : (s.updRegion g f).modid = s.modid := rfl
@[simp] theorem State.updRegion_lastTid (g : Nat) (f : Region → Region) : (s.updRegion g f).lastTid = s.lastTid := rfl
@[simp] theorem State.updRegion_cmdWait (g : Nat) (f : Region → Region) : (s.updRegion g f).cmdWait = s.cmdWait := rfl
@[simp] theorem State.updRegion_cpl (g : Nat) (f : Region → Region) : (s.updRegion g f).cpl = s.cpl := rfl
@[simp] theorem State.updRegion_eccCor (g : Nat) (f : Region → Region) : (s.updRegion g f).eccCor = s.eccCor := rfl
@[simp] theorem State.updRegion_draws (g : Nat) (f : Region → Region) : (s.updRegion g f).draws = s.draws := rfl
@[simp] theorem State.updRegion_pending (g : Nat) (f : Region → Region) : (s.updRegion g f).pending = s.pending := rfl
@[simp] theorem State.updRegion_reg (g : Nat) (f : Region → Region) (off : Nat) : (s.updRegion g f).reg off = s.reg off := rfl
@[simp] theorem State.updRegion_fld (g : Nat) (f : Region → Region) (off : Nat) (fl : Field) : (s.updRegion g f).fld off fl = s.fld off fl := rfl
@[simp] theorem State.updRegion_bit (g : Nat) (f : Region → Region) (off : Nat) (fl : Field) : (s.updRegion g f).bit off fl = s.bit off fl := rfl

/-! ### updDc -/

@[simp] theorem State.updDc_variant (k : Nat) (f : Dc → Dc) : (s.updDc k f).variant = s.variant := rfl
@[simp] theorem State.updDc_now (k : Nat) (f : Dc → Dc) : (s.updDc k f).now = s.now := rfl
@[simp] theorem State.updDc_tb (k : Nat) (f : Dc → Dc) : (s.updDc k f).tb = s.tb := rfl
@[simp] theorem State.updDc_ptp (k : Nat) (f : Dc → Dc) : (s.updDc k f).ptp = s.ptp := rfl
@[simp] theorem State.updDc_ptpAdd (k : Nat) (f : Dc → Dc) : (s.updDc k f).ptpAdd = s.ptpAdd := rfl
@[simp] theorem State.updDc_cdRun (k : Nat) (f : Dc → Dc) : (s.updDc k f).cdRun = s.cdRun := rfl
@[simp] theorem State.updDc_rmRun (k : Nat) (f : Dc → Dc) : (s.updDc k f).rmRun = s.rmRun := rfl
@[simp] theorem State.updDc_regs (k : Nat) (f : Dc → Dc) : (s.updDc k f).regs = s.regs := rfl
@[simp] theorem State.updDc_dram (k : Nat) (f : Dc → Dc) : (s.updDc k f).dram = s.dram := rfl
@[simp] theorem State.updDc_hostMem (k : Nat) (f : Dc → Dc) : (s.updDc k f).hostMem = s.hostMem := rfl
@[simp] theorem State.updDc_events (k : Nat) (f : Dc → Dc) : (s.updDc k f).events = s.events := rfl
@[simp] theorem State.updDc_recQueue (k : Nat) (f : Dc → Dc) : (s.updDc k f).recQueue = s.recQueue := rfl
@[simp] theorem State.updDc_recStore (k : Nat) (f : Dc → Dc) : (s.updDc k f).recStore = s.recStore := rfl
@[simp] theorem State.updDc_safetyLog (k : Nat) (f : Dc → Dc) : (s.updDc k f).safetyLog = s.safetyLog := rfl
@[simp] theorem State.updDc_clearLog (k : Nat) (f : Dc → Dc) : (s.updDc k f).clearLog = s.clearLog := rfl
@[simp] theorem State.updDc_mbx (k : Nat) (f : Dc → Dc) : (s.updDc k f).mbx = s.mbx := rfl
@[simp] theorem State.updDc_devQueue (k : Nat) (f : Dc → Dc) : (s.updDc k f).devQueue = s.devQueue := rfl
@[simp] theorem State.updDc_msi (k : Nat) (f : Dc → Dc) : (s.updDc k f).msi = s.msi := rfl
@[simp] theorem State.updDc_rings (k : Nat) (f : Dc → Dc) : (s.updDc k f).rings = s.rings := rfl
@[simp] theorem State.updDc_barkerSt (k : Nat) (f : Dc → Dc) : (s.updDc k f).barkerSt = s.barkerSt := rfl
@[simp] theorem State.updDc_profs (k : Nat) (f : Dc → Dc) : (s.updDc k f).profs = s.profs := rfl
@[simp] theorem State.updDc_recst (k : Nat) (f : Dc → Dc) : (s.updDc k f).recst = s.recst := rfl
@[simp] theorem State.updDc_trips (k : Nat) (f : Dc → Dc) : (s.updDc k f).trips = s.trips := rfl
@[simp] theorem State.updDc_edges (k : Nat) (f : Dc → Dc) : (s.updDc k f).edges = s.edges := rfl
@[simp] theorem State.updDc_gatesH (k : Nat) (f : Dc → Dc) : (s.updDc k f).gatesH = s.gatesH := rfl
@[simp] theorem State.updDc_gatesL (k : Nat) (f : Dc → Dc) : (s.updDc k f).gatesL = s.gatesL := rfl
@[simp] theorem State.updDc_drvs (k : Nat) (f : Dc → Dc) : (s.updDc k f).drvs = s.drvs := rfl
@[simp] theorem State.updDc_clusters (k : Nat) (f : Dc → Dc) : (s.updDc k f).clusters = s.clusters := rfl
@[simp] theorem State.updDc_gmus (k : Nat) (f : Dc → Dc) : (s.updDc k f).gmus = s.gmus := rfl
@[simp] theorem State.updDc_blks (k : Nat) (f : Dc → Dc) : (s.updDc k f).blks = s.blks := rfl
@[simp] theorem State.updDc_npms (k : Nat) (f : Dc → Dc) : (s.updDc k f).npms = s.npms := rfl
@[simp] theorem State.updDc_regions (k : Nat) (f : Dc → Dc) : (s.updDc k f).regions = s.regions := rfl
@[simp] theorem State.updDc_chgs (k : Nat) (f : Dc → Dc) : (s.updDc k f).chgs = s.chgs := rfl
@[simp] theorem State.updDc_ldgs (k : Nat) (f : Dc → Dc) : (s.updDc k f).ldgs = s.ldgs := rfl
@[simp] theorem State.updDc_journal (k : Nat) (f : Dc → Dc) : (s.updDc k f).journal = s.journal := rfl
@[simp] theorem State.updDc_snet (k : Nat) (f : Dc → Dc) : (s.updDc k f).snet = s.snet := rfl
@[simp] theorem State.updDc_svrs (k : Nat) (f : Dc → Dc) : (s.updDc k f).svrs = s.svrs := rfl
@[simp] theorem State.updDc_auxs (k : Nat) (f : Dc → Dc) : (s.updDc k f).auxs = s.auxs := rfl
@[simp] theorem State.updDc_fbs (k : Nat) (f : Dc → Dc) : (s.updDc k f).fbs = s.fbs := rfl
@[simp] theorem State.updDc_thm (k : Nat) (f : Dc → Dc) : (s.updDc k f).thm = s.thm := rfl
@[simp] theorem State.updDc_pack (k : Nat) (f : Dc → Dc) : (s.updDc k f).pack = s.pack := rfl
@[simp] theorem State.updDc_meas (k : Nat) (f : Dc → Dc) : (s.updDc k f).meas = s.meas := rfl
@[simp] theorem State.updDc_txns (k : Nat) (f : Dc → Dc) : (s.updDc k f).txns = s.txns := rfl
@[simp] theorem State.updDc_cans (k : Nat) (f : Dc → Dc) : (s.updDc k f).cans = s.cans := rfl
@[simp] theorem State.updDc_snl (k : Nat) (f : Dc → Dc) : (s.updDc k f).snl = s.snl := rfl
@[simp] theorem State.updDc_trmons (k : Nat) (f : Dc → Dc) : (s.updDc k f).trmons = s.trmons := rfl
@[simp] theorem State.updDc_slackCd (k : Nat) (f : Dc → Dc) : (s.updDc k f).slackCd = s.slackCd := rfl
@[simp] theorem State.updDc_slackMd (k : Nat) (f : Dc → Dc) : (s.updDc k f).slackMd = s.slackMd := rfl
@[simp] theorem State.updDc_stalls (k : Nat) (f : Dc → Dc) : (s.updDc k f).stalls = s.stalls := rfl
@[simp] theorem State.updDc_bad (k : Nat) (f : Dc → Dc) : (s.updDc k f).bad = s.bad := rfl
@[simp] theorem State.updDc_store (k : Nat) (f : Dc → Dc) : (s.updDc k f).store = s.store := rfl
@[simp] theorem State.updDc_auths (k : Nat) (f : Dc → Dc) : (s.updDc k f).auths = s.auths := rfl
@[simp] theorem State.updDc_power (k : Nat) (f : Dc → Dc) : (s.updDc k f).power = s.power := rfl
@[simp] theorem State.updDc_diag (k : Nat) (f : Dc → Dc) : (s.updDc k f).diag = s.diag := rfl
@[simp] theorem State.updDc_rm (k : Nat) (f : Dc → Dc) : (s.updDc k f).rm = s.rm := rfl
@[simp] theorem State.updDc_sys (k : Nat) (f : Dc → Dc) : (s.updDc k f).sys = s.sys := rfl
@[simp] theorem State.updDc_modid (k : Nat) (f : Dc → Dc) : (s.updDc k f).modid = s.modid := rfl
@[simp] theorem State.updDc_lastTid (k : Nat) (f : Dc → Dc) : (s.updDc k f).lastTid = s.lastTid := rfl
@[simp] theorem State.updDc_cmdWait (k : Nat) (f : Dc → Dc) : (s.updDc k f).cmdWait = s.cmdWait := rfl
@[simp] theorem State.updDc_cpl (k : Nat) (f : Dc → Dc) : (s.updDc k f).cpl = s.cpl := rfl
@[simp] theorem State.updDc_eccCor (k : Nat) (f : Dc → Dc) : (s.updDc k f).eccCor = s.eccCor := rfl
@[simp] theorem State.updDc_draws (k : Nat) (f : Dc → Dc) : (s.updDc k f).draws = s.draws := rfl
@[simp] theorem State.updDc_pending (k : Nat) (f : Dc → Dc) : (s.updDc k f).pending = s.pending := rfl
@[simp] theorem State.updDc_reg (k : Nat) (f : Dc → Dc) (off : Nat) : (s.updDc k f).reg off = s.reg off := rfl
@[simp] theorem State.updDc_fld (k : Nat) (f : Dc → Dc) (off : Nat) (fl : Field) : (s.updDc k f).fld off fl = s.fld off fl := rfl
@[simp] theorem State.updDc_bit (k : Nat) (f : Dc → Dc) (off : Nat) (fl : Field) : (s.updDc k f).bit off fl = s.bit off fl := rfl

/-! ### updChg -/

@[simp] theorem State.updChg_variant (k : Nat) (f : Chg → Chg) : (s.updChg k f).variant = s.variant := rfl
@[simp] theorem State.updChg_now (k : Nat) (f : Chg → Chg) : (s.updChg k f).now = s.now := rfl
@[simp] theorem State.updChg_tb (k : Nat) (f : Chg → Chg) : (s.updChg k f).tb = s.tb := rfl
@[simp] theorem State.updChg_ptp (k : Nat) (f : Chg → Chg) : (s.updChg k f).ptp = s.ptp := rfl
@[simp] theorem State.updChg_ptpAdd (k : Nat) (f : Chg → Chg) : (s.updChg k f).ptpAdd = s.ptpAdd := rfl
@[simp] theorem State.updChg_cdRun (k : Nat) (f : Chg → Chg) : (s.updChg k f).cdRun = s.cdRun := rfl
@[simp] theorem State.updChg_rmRun (k : Nat) (f : Chg → Chg) : (s.updChg k f).rmRun = s.rmRun := rfl
@[simp] theorem State.updChg_regs (k : Nat) (f : Chg → Chg) : (s.updChg k f).regs = s.regs := rfl
@[simp] theorem State.updChg_dram (k : Nat) (f : Chg → Chg) : (s.updChg k f).dram = s.dram := rfl
@[simp] theorem State.updChg_hostMem (k : Nat) (f : Chg → Chg) : (s.updChg k f).hostMem = s.hostMem := rfl
@[simp] theorem State.updChg_events (k : Nat) (f : Chg → Chg) : (s.updChg k f).events = s.events := rfl
@[simp] theorem State.updChg_recQueue (k : Nat) (f : Chg → Chg) : (s.updChg k f).recQueue = s.recQueue := rfl
@[simp] theorem State.updChg_recStore (k : Nat) (f : Chg → Chg) : (s.updChg k f).recStore = s.recStore := rfl
@[simp] theorem State.updChg_safetyLog (k : Nat) (f : Chg → Chg) : (s.updChg k f).safetyLog = s.safetyLog := rfl
@[simp] theorem State.updChg_clearLog (k : Nat) (f : Chg → Chg) : (s.updChg k f).clearLog = s.clearLog := rfl
@[simp] theorem State.updChg_mbx (k : Nat) (f : Chg → Chg) : (s.updChg k f).mbx = s.mbx := rfl
@[simp] theorem State.updChg_devQueue (k : Nat) (f : Chg → Chg) : (s.updChg k f).devQueue = s.devQueue := rfl
@[simp] theorem State.updChg_msi (k : Nat) (f : Chg → Chg) : (s.updChg k f).msi = s.msi := rfl
@[simp] theorem State.updChg_rings (k : Nat) (f : Chg → Chg) : (s.updChg k f).rings = s.rings := rfl
@[simp] theorem State.updChg_barkerSt (k : Nat) (f : Chg → Chg) : (s.updChg k f).barkerSt = s.barkerSt := rfl
@[simp] theorem State.updChg_profs (k : Nat) (f : Chg → Chg) : (s.updChg k f).profs = s.profs := rfl
@[simp] theorem State.updChg_recst (k : Nat) (f : Chg → Chg) : (s.updChg k f).recst = s.recst := rfl
@[simp] theorem State.updChg_trips (k : Nat) (f : Chg → Chg) : (s.updChg k f).trips = s.trips := rfl
@[simp] theorem State.updChg_edges (k : Nat) (f : Chg → Chg) : (s.updChg k f).edges = s.edges := rfl
@[simp] theorem State.updChg_gatesH (k : Nat) (f : Chg → Chg) : (s.updChg k f).gatesH = s.gatesH := rfl
@[simp] theorem State.updChg_gatesL (k : Nat) (f : Chg → Chg) : (s.updChg k f).gatesL = s.gatesL := rfl
@[simp] theorem State.updChg_drvs (k : Nat) (f : Chg → Chg) : (s.updChg k f).drvs = s.drvs := rfl
@[simp] theorem State.updChg_clusters (k : Nat) (f : Chg → Chg) : (s.updChg k f).clusters = s.clusters := rfl
@[simp] theorem State.updChg_gmus (k : Nat) (f : Chg → Chg) : (s.updChg k f).gmus = s.gmus := rfl
@[simp] theorem State.updChg_blks (k : Nat) (f : Chg → Chg) : (s.updChg k f).blks = s.blks := rfl
@[simp] theorem State.updChg_npms (k : Nat) (f : Chg → Chg) : (s.updChg k f).npms = s.npms := rfl
@[simp] theorem State.updChg_regions (k : Nat) (f : Chg → Chg) : (s.updChg k f).regions = s.regions := rfl
@[simp] theorem State.updChg_dcs (k : Nat) (f : Chg → Chg) : (s.updChg k f).dcs = s.dcs := rfl
@[simp] theorem State.updChg_ldgs (k : Nat) (f : Chg → Chg) : (s.updChg k f).ldgs = s.ldgs := rfl
@[simp] theorem State.updChg_journal (k : Nat) (f : Chg → Chg) : (s.updChg k f).journal = s.journal := rfl
@[simp] theorem State.updChg_snet (k : Nat) (f : Chg → Chg) : (s.updChg k f).snet = s.snet := rfl
@[simp] theorem State.updChg_svrs (k : Nat) (f : Chg → Chg) : (s.updChg k f).svrs = s.svrs := rfl
@[simp] theorem State.updChg_auxs (k : Nat) (f : Chg → Chg) : (s.updChg k f).auxs = s.auxs := rfl
@[simp] theorem State.updChg_fbs (k : Nat) (f : Chg → Chg) : (s.updChg k f).fbs = s.fbs := rfl
@[simp] theorem State.updChg_thm (k : Nat) (f : Chg → Chg) : (s.updChg k f).thm = s.thm := rfl
@[simp] theorem State.updChg_pack (k : Nat) (f : Chg → Chg) : (s.updChg k f).pack = s.pack := rfl
@[simp] theorem State.updChg_meas (k : Nat) (f : Chg → Chg) : (s.updChg k f).meas = s.meas := rfl
@[simp] theorem State.updChg_txns (k : Nat) (f : Chg → Chg) : (s.updChg k f).txns = s.txns := rfl
@[simp] theorem State.updChg_cans (k : Nat) (f : Chg → Chg) : (s.updChg k f).cans = s.cans := rfl
@[simp] theorem State.updChg_snl (k : Nat) (f : Chg → Chg) : (s.updChg k f).snl = s.snl := rfl
@[simp] theorem State.updChg_trmons (k : Nat) (f : Chg → Chg) : (s.updChg k f).trmons = s.trmons := rfl
@[simp] theorem State.updChg_slackCd (k : Nat) (f : Chg → Chg) : (s.updChg k f).slackCd = s.slackCd := rfl
@[simp] theorem State.updChg_slackMd (k : Nat) (f : Chg → Chg) : (s.updChg k f).slackMd = s.slackMd := rfl
@[simp] theorem State.updChg_stalls (k : Nat) (f : Chg → Chg) : (s.updChg k f).stalls = s.stalls := rfl
@[simp] theorem State.updChg_bad (k : Nat) (f : Chg → Chg) : (s.updChg k f).bad = s.bad := rfl
@[simp] theorem State.updChg_store (k : Nat) (f : Chg → Chg) : (s.updChg k f).store = s.store := rfl
@[simp] theorem State.updChg_auths (k : Nat) (f : Chg → Chg) : (s.updChg k f).auths = s.auths := rfl
@[simp] theorem State.updChg_power (k : Nat) (f : Chg → Chg) : (s.updChg k f).power = s.power := rfl
@[simp] theorem State.updChg_diag (k : Nat) (f : Chg → Chg) : (s.updChg k f).diag = s.diag := rfl
@[simp] theorem State.updChg_rm (k : Nat) (f : Chg → Chg) : (s.updChg k f).rm = s.rm := rfl
@[simp] theorem State.updChg_sys (k : Nat) (f : Chg → Chg) : (s.updChg k f).sys = s.sys := rfl
@[simp] theorem State.updChg_modid (k : Nat) (f : Chg → Chg) : (s.updChg k f).modid = s.modid := rfl
@[simp] theorem State.updChg_lastTid (k : Nat) (f : Chg → Chg) : (s.updChg k f).lastTid = s.lastTid := rfl
@[simp] theorem State.updChg_cmdWait (k : Nat) (f : Chg → Chg) : (s.updChg k f).cmdWait = s.cmdWait := rfl
@[simp] theorem State.updChg_cpl (k : Nat) (f : Chg → Chg) : (s.updChg k f).cpl = s.cpl := rfl
@[simp] theorem State.updChg_eccCor (k : Nat) (f : Chg → Chg) : (s.updChg k f).eccCor = s.eccCor := rfl
@[simp] theorem State.updChg_draws (k : Nat) (f : Chg → Chg) : (s.updChg k f).draws = s.draws := rfl
@[simp] theorem State.updChg_pending (k : Nat) (f : Chg → Chg) : (s.updChg k f).pending = s.pending := rfl
@[simp] theorem State.updChg_reg (k : Nat) (f : Chg → Chg) (off : Nat) : (s.updChg k f).reg off = s.reg off := rfl
@[simp] theorem State.updChg_fld (k : Nat) (f : Chg → Chg) (off : Nat) (fl : Field) : (s.updChg k f).fld off fl = s.fld off fl := rfl
@[simp] theorem State.updChg_bit (k : Nat) (f : Chg → Chg) (off : Nat) (fl : Field) : (s.updChg k f).bit off fl = s.bit off fl := rfl

/-! ### updLdg -/

@[simp] theorem State.updLdg_variant (g : Nat) (f : Ldg → Ldg) : (s.updLdg g f).variant = s.variant := rfl
@[simp] theorem State.updLdg_now (g : Nat) (f : Ldg → Ldg) : (s.updLdg g f).now = s.now := rfl
@[simp] theorem State.updLdg_tb (g : Nat) (f : Ldg → Ldg) : (s.updLdg g f).tb = s.tb := rfl
@[simp] theorem State.updLdg_ptp (g : Nat) (f : Ldg → Ldg) : (s.updLdg g f).ptp = s.ptp := rfl
@[simp] theorem State.updLdg_ptpAdd (g : Nat) (f : Ldg → Ldg) : (s.updLdg g f).ptpAdd = s.ptpAdd := rfl
@[simp] theorem State.updLdg_cdRun (g : Nat) (f : Ldg → Ldg) : (s.updLdg g f).cdRun = s.cdRun := rfl
@[simp] theorem State.updLdg_rmRun (g : Nat) (f : Ldg → Ldg) : (s.updLdg g f).rmRun = s.rmRun := rfl
@[simp] theorem State.updLdg_regs (g : Nat) (f : Ldg → Ldg) : (s.updLdg g f).regs = s.regs := rfl
@[simp] theorem State.updLdg_dram (g : Nat) (f : Ldg → Ldg) : (s.updLdg g f).dram = s.dram := rfl
@[simp] theorem State.updLdg_hostMem (g : Nat) (f : Ldg → Ldg) : (s.updLdg g f).hostMem = s.hostMem := rfl
@[simp] theorem State.updLdg_events (g : Nat) (f : Ldg → Ldg) : (s.updLdg g f).events = s.events := rfl
@[simp] theorem State.updLdg_recQueue (g : Nat) (f : Ldg → Ldg) : (s.updLdg g f).recQueue = s.recQueue := rfl
@[simp] theorem State.updLdg_recStore (g : Nat) (f : Ldg → Ldg) : (s.updLdg g f).recStore = s.recStore := rfl
@[simp] theorem State.updLdg_safetyLog (g : Nat) (f : Ldg → Ldg) : (s.updLdg g f).safetyLog = s.safetyLog := rfl
@[simp] theorem State.updLdg_clearLog (g : Nat) (f : Ldg → Ldg) : (s.updLdg g f).clearLog = s.clearLog := rfl
@[simp] theorem State.updLdg_mbx (g : Nat) (f : Ldg → Ldg) : (s.updLdg g f).mbx = s.mbx := rfl
@[simp] theorem State.updLdg_devQueue (g : Nat) (f : Ldg → Ldg) : (s.updLdg g f).devQueue = s.devQueue := rfl
@[simp] theorem State.updLdg_msi (g : Nat) (f : Ldg → Ldg) : (s.updLdg g f).msi = s.msi := rfl
@[simp] theorem State.updLdg_rings (g : Nat) (f : Ldg → Ldg) : (s.updLdg g f).rings = s.rings := rfl
@[simp] theorem State.updLdg_barkerSt (g : Nat) (f : Ldg → Ldg) : (s.updLdg g f).barkerSt = s.barkerSt := rfl
@[simp] theorem State.updLdg_profs (g : Nat) (f : Ldg → Ldg) : (s.updLdg g f).profs = s.profs := rfl
@[simp] theorem State.updLdg_recst (g : Nat) (f : Ldg → Ldg) : (s.updLdg g f).recst = s.recst := rfl
@[simp] theorem State.updLdg_trips (g : Nat) (f : Ldg → Ldg) : (s.updLdg g f).trips = s.trips := rfl
@[simp] theorem State.updLdg_edges (g : Nat) (f : Ldg → Ldg) : (s.updLdg g f).edges = s.edges := rfl
@[simp] theorem State.updLdg_gatesH (g : Nat) (f : Ldg → Ldg) : (s.updLdg g f).gatesH = s.gatesH := rfl
@[simp] theorem State.updLdg_gatesL (g : Nat) (f : Ldg → Ldg) : (s.updLdg g f).gatesL = s.gatesL := rfl
@[simp] theorem State.updLdg_drvs (g : Nat) (f : Ldg → Ldg) : (s.updLdg g f).drvs = s.drvs := rfl
@[simp] theorem State.updLdg_clusters (g : Nat) (f : Ldg → Ldg) : (s.updLdg g f).clusters = s.clusters := rfl
@[simp] theorem State.updLdg_gmus (g : Nat) (f : Ldg → Ldg) : (s.updLdg g f).gmus = s.gmus := rfl
@[simp] theorem State.updLdg_blks (g : Nat) (f : Ldg → Ldg) : (s.updLdg g f).blks = s.blks := rfl
@[simp] theorem State.updLdg_npms (g : Nat) (f : Ldg → Ldg) : (s.updLdg g f).npms = s.npms := rfl
@[simp] theorem State.updLdg_regions (g : Nat) (f : Ldg → Ldg) : (s.updLdg g f).regions = s.regions := rfl
@[simp] theorem State.updLdg_dcs (g : Nat) (f : Ldg → Ldg) : (s.updLdg g f).dcs = s.dcs := rfl
@[simp] theorem State.updLdg_chgs (g : Nat) (f : Ldg → Ldg) : (s.updLdg g f).chgs = s.chgs := rfl
@[simp] theorem State.updLdg_journal (g : Nat) (f : Ldg → Ldg) : (s.updLdg g f).journal = s.journal := rfl
@[simp] theorem State.updLdg_snet (g : Nat) (f : Ldg → Ldg) : (s.updLdg g f).snet = s.snet := rfl
@[simp] theorem State.updLdg_svrs (g : Nat) (f : Ldg → Ldg) : (s.updLdg g f).svrs = s.svrs := rfl
@[simp] theorem State.updLdg_auxs (g : Nat) (f : Ldg → Ldg) : (s.updLdg g f).auxs = s.auxs := rfl
@[simp] theorem State.updLdg_fbs (g : Nat) (f : Ldg → Ldg) : (s.updLdg g f).fbs = s.fbs := rfl
@[simp] theorem State.updLdg_thm (g : Nat) (f : Ldg → Ldg) : (s.updLdg g f).thm = s.thm := rfl
@[simp] theorem State.updLdg_pack (g : Nat) (f : Ldg → Ldg) : (s.updLdg g f).pack = s.pack := rfl
@[simp] theorem State.updLdg_meas (g : Nat) (f : Ldg → Ldg) : (s.updLdg g f).meas = s.meas := rfl
@[simp] theorem State.updLdg_txns (g : Nat) (f : Ldg → Ldg) : (s.updLdg g f).txns = s.txns := rfl
@[simp] theorem State.updLdg_cans (g : Nat) (f : Ldg → Ldg) : (s.updLdg g f).cans = s.cans := rfl
@[simp] theorem State.updLdg_snl (g : Nat) (f : Ldg → Ldg) : (s.updLdg g f).snl = s.snl := rfl
@[simp] theorem State.updLdg_trmons (g : Nat) (f : Ldg → Ldg) : (s.updLdg g f).trmons = s.trmons := rfl
@[simp] theorem State.updLdg_slackCd (g : Nat) (f : Ldg → Ldg) : (s.updLdg g f).slackCd = s.slackCd := rfl
@[simp] theorem State.updLdg_slackMd (g : Nat) (f : Ldg → Ldg) : (s.updLdg g f).slackMd = s.slackMd := rfl
@[simp] theorem State.updLdg_stalls (g : Nat) (f : Ldg → Ldg) : (s.updLdg g f).stalls = s.stalls := rfl
@[simp] theorem State.updLdg_bad (g : Nat) (f : Ldg → Ldg) : (s.updLdg g f).bad = s.bad := rfl
@[simp] theorem State.updLdg_store (g : Nat) (f : Ldg → Ldg) : (s.updLdg g f).store = s.store := rfl
@[simp] theorem State.updLdg_auths (g : Nat) (f : Ldg → Ldg) : (s.updLdg g f).auths = s.auths := rfl
@[simp] theorem State.updLdg_power (g : Nat) (f : Ldg → Ldg) : (s.updLdg g f).power = s.power := rfl
@[simp] theorem State.updLdg_diag (g : Nat) (f : Ldg → Ldg) : (s.updLdg g f).diag = s.diag := rfl
@[simp] theorem State.updLdg_rm (g : Nat) (f : Ldg → Ldg) : (s.updLdg g f).rm = s.rm := rfl
@[simp] theorem State.updLdg_sys (g : Nat) (f : Ldg → Ldg) : (s.updLdg g f).sys = s.sys := rfl
@[simp] theorem State.updLdg_modid (g : Nat) (f : Ldg → Ldg) : (s.updLdg g f).modid = s.modid := rfl
@[simp] theorem State.updLdg_lastTid (g : Nat) (f : Ldg → Ldg) : (s.updLdg g f).lastTid = s.lastTid := rfl
@[simp] theorem State.updLdg_cmdWait (g : Nat) (f : Ldg → Ldg) : (s.updLdg g f).cmdWait = s.cmdWait := rfl
@[simp] theorem State.updLdg_cpl (g : Nat) (f : Ldg → Ldg) : (s.updLdg g f).cpl = s.cpl := rfl
@[simp] theorem State.updLdg_eccCor (g : Nat) (f : Ldg → Ldg) : (s.updLdg g f).eccCor = s.eccCor := rfl
@[simp] theorem State.updLdg_draws (g : Nat) (f : Ldg → Ldg) : (s.updLdg g f).draws = s.draws := rfl
@[simp] theorem State.updLdg_pending (g : Nat) (f : Ldg → Ldg) : (s.updLdg g f).pending = s.pending := rfl
@[simp] theorem State.updLdg_reg (g : Nat) (f : Ldg → Ldg) (off : Nat) : (s.updLdg g f).reg off = s.reg off := rfl
@[simp] theorem State.updLdg_fld (g : Nat) (f : Ldg → Ldg) (off : Nat) (fl : Field) : (s.updLdg g f).fld off fl = s.fld off fl := rfl
@[simp] theorem State.updLdg_bit (g : Nat) (f : Ldg → Ldg) (off : Nat) (fl : Field) : (s.updLdg g f).bit off fl = s.bit off fl := rfl

/-! ### updSvr -/

@[simp] theorem State.updSvr_variant (c : Nat) (f : Svr → Svr) : (s.updSvr c f).variant = s.variant := rfl
@[simp] theorem State.updSvr_now (c : Nat) (f : Svr → Svr) : (s.updSvr c f).now = s.now := rfl
@[simp] theorem State.updSvr_tb (c : Nat) (f : Svr → Svr) : (s.updSvr c f).tb = s.tb := rfl
@[simp] theorem State.updSvr_ptp (c : Nat) (f : Svr → Svr) : (s.updSvr c f).ptp = s.ptp := rfl
@[simp] theorem State.updSvr_ptpAdd (c : Nat) (f : Svr → Svr) : (s.updSvr c f).ptpAdd = s.ptpAdd := rfl
@[simp] theorem State.updSvr_cdRun (c : Nat) (f : Svr → Svr) : (s.updSvr c f).cdRun = s.cdRun := rfl
@[simp] theorem State.updSvr_rmRun (c : Nat) (f : Svr → Svr) : (s.updSvr c f).rmRun = s.rmRun := rfl
@[simp] theorem State.updSvr_regs (c : Nat) (f : Svr → Svr) : (s.updSvr c f).regs = s.regs := rfl
@[simp] theorem State.updSvr_dram (c : Nat) (f : Svr → Svr) : (s.updSvr c f).dram = s.dram := rfl
@[simp] theorem State.updSvr_hostMem (c : Nat) (f : Svr → Svr) : (s.updSvr c f).hostMem = s.hostMem := rfl
@[simp] theorem State.updSvr_events (c : Nat) (f : Svr → Svr) : (s.updSvr c f).events = s.events := rfl
@[simp] theorem State.updSvr_recQueue (c : Nat) (f : Svr → Svr) : (s.updSvr c f).recQueue = s.recQueue := rfl
@[simp] theorem State.updSvr_recStore (c : Nat) (f : Svr → Svr) : (s.updSvr c f).recStore = s.recStore := rfl
@[simp] theorem State.updSvr_safetyLog (c : Nat) (f : Svr → Svr) : (s.updSvr c f).safetyLog = s.safetyLog := rfl
@[simp] theorem State.updSvr_clearLog (c : Nat) (f : Svr → Svr) : (s.updSvr c f).clearLog = s.clearLog := rfl
@[simp] theorem State.updSvr_mbx (c : Nat) (f : Svr → Svr) : (s.updSvr c f).mbx = s.mbx := rfl
@[simp] theorem State.updSvr_devQueue (c : Nat) (f : Svr → Svr) : (s.updSvr c f).devQueue = s.devQueue := rfl
@[simp] theorem State.updSvr_msi (c : Nat) (f : Svr → Svr) : (s.updSvr c f).msi = s.msi := rfl
@[simp] theorem State.updSvr_rings (c : Nat) (f : Svr → Svr) : (s.updSvr c f).rings = s.rings := rfl
@[simp] theorem State.updSvr_barkerSt (c : Nat) (f : Svr → Svr) : (s.updSvr c f).barkerSt = s.barkerSt := rfl
@[simp] theorem State.updSvr_profs (c : Nat) (f : Svr → Svr) : (s.updSvr c f).profs = s.profs := rfl
@[simp] theorem State.updSvr_recst (c : Nat) (f : Svr → Svr) : (s.updSvr c f).recst = s.recst := rfl
@[simp] theorem State.updSvr_trips (c : Nat) (f : Svr → Svr) : (s.updSvr c f).trips = s.trips := rfl
@[simp] theorem State.updSvr_edges (c : Nat) (f : Svr → Svr) : (s.updSvr c f).edges = s.edges := rfl
@[simp] theorem State.updSvr_gatesH (c : Nat) (f : Svr → Svr) : (s.updSvr c f).gatesH = s.gatesH := rfl
@[simp] theorem State.updSvr_gatesL (c : Nat) (f : Svr → Svr) : (s.updSvr c f).gatesL = s.gatesL := rfl
@[simp] theorem State.updSvr_drvs (c : Nat) (f : Svr → Svr) : (s.updSvr c f).drvs = s.drvs := rfl
@[simp] theorem State.updSvr_clusters (c : Nat) (f : Svr → Svr) : (s.updSvr c f).clusters = s.clusters := rfl
@[simp] theorem State.updSvr_gmus (c : Nat) (f : Svr → Svr) : (s.updSvr c f).gmus = s.gmus := rfl
@[simp] theorem State.updSvr_blks (c : Nat) (f : Svr → Svr) : (s.updSvr c f).blks = s.blks := rfl
@[simp] theorem State.updSvr_npms (c : Nat) (f : Svr → Svr) : (s.updSvr c f).npms = s.npms := rfl
@[simp] theorem State.updSvr_regions (c : Nat) (f : Svr → Svr) : (s.updSvr c f).regions = s.regions := rfl
@[simp] theorem State.updSvr_dcs (c : Nat) (f : Svr → Svr) : (s.updSvr c f).dcs = s.dcs := rfl
@[simp] theorem State.updSvr_chgs (c : Nat) (f : Svr → Svr) : (s.updSvr c f).chgs = s.chgs := rfl
@[simp] theorem State.updSvr_ldgs (c : Nat) (f : Svr → Svr) : (s.updSvr c f).ldgs = s.ldgs := rfl
@[simp] theorem State.updSvr_journal (c : Nat) (f : Svr → Svr) : (s.updSvr c f).journal = s.journal := rfl
@[simp] theorem State.updSvr_snet (c : Nat) (f : Svr → Svr) : (s.updSvr c f).snet = s.snet := rfl
@[simp] theorem State.updSvr_auxs (c : Nat) (f : Svr → Svr) : (s.updSvr c f).auxs = s.auxs := rfl
@[simp] theorem State.updSvr_fbs (c : Nat) (f : Svr → Svr) : (s.updSvr c f).fbs = s.fbs := rfl
@[simp] theorem State.updSvr_thm (c : Nat) (f : Svr → Svr) : (s.updSvr c f).thm = s.thm := rfl
@[simp] theorem State.updSvr_pack (c : Nat) (f : Svr → Svr) : (s.updSvr c f).pack = s.pack := rfl
@[simp] theorem State.updSvr_meas (c : Nat) (f : Svr → Svr) : (s.updSvr c f).meas = s.meas := rfl
@[simp] theorem State.updSvr_txns (c : Nat) (f : Svr → Svr) : (s.updSvr c f).txns = s.txns := rfl
@[simp] theorem State.updSvr_cans (c : Nat) (f : Svr → Svr) : (s.updSvr c f).cans = s.cans := rfl
@[simp] theorem State.updSvr_snl (c : Nat) (f : Svr → Svr) : (s.updSvr c f).snl = s.snl := rfl
@[simp] theorem State.updSvr_trmons (c : Nat) (f : Svr → Svr) : (s.updSvr c f).trmons = s.trmons := rfl
@[simp] theorem State.updSvr_slackCd (c : Nat) (f : Svr → Svr) : (s.updSvr c f).slackCd = s.slackCd := rfl
@[simp] theorem State.updSvr_slackMd (c : Nat) (f : Svr → Svr) : (s.updSvr c f).slackMd = s.slackMd := rfl
@[simp] theorem State.updSvr_stalls (c : Nat) (f : Svr → Svr) : (s.updSvr c f).stalls = s.stalls := rfl
@[simp] theorem State.updSvr_bad (c : Nat) (f : Svr → Svr) : (s.updSvr c f).bad = s.bad := rfl
@[simp] theorem State.updSvr_store (c : Nat) (f : Svr → Svr) : (s.updSvr c f).store = s.store := rfl
@[simp] theorem State.updSvr_auths (c : Nat) (f : Svr → Svr) : (s.updSvr c f).auths = s.auths := rfl
@[simp] theorem State.updSvr_power (c : Nat) (f : Svr → Svr) : (s.updSvr c f).power = s.power := rfl
@[simp] theorem State.updSvr_diag (c : Nat) (f : Svr → Svr) : (s.updSvr c f).diag = s.diag := rfl
@[simp] theorem State.updSvr_rm (c : Nat) (f : Svr → Svr) : (s.updSvr c f).rm = s.rm := rfl
@[simp] theorem State.updSvr_sys (c : Nat) (f : Svr → Svr) : (s.updSvr c f).sys = s.sys := rfl
@[simp] theorem State.updSvr_modid (c : Nat) (f : Svr → Svr) : (s.updSvr c f).modid = s.modid := rfl
@[simp] theorem State.updSvr_lastTid (c : Nat) (f : Svr → Svr) : (s.updSvr c f).lastTid = s.lastTid := rfl
@[simp] theorem State.updSvr_cmdWait (c : Nat) (f : Svr → Svr) : (s.updSvr c f).cmdWait = s.cmdWait := rfl
@[simp] theorem State.updSvr_cpl (c : Nat) (f : Svr → Svr) : (s.updSvr c f).cpl = s.cpl := rfl
@[simp] theorem State.updSvr_eccCor (c : Nat) (f : Svr → Svr) : (s.updSvr c f).eccCor = s.eccCor := rfl
@[simp] theorem State.updSvr_draws (c : Nat) (f : Svr → Svr) : (s.updSvr c f).draws = s.draws := rfl
@[simp] theorem State.updSvr_pending (c : Nat) (f : Svr → Svr) : (s.updSvr c f).pending = s.pending := rfl
@[simp] theorem State.updSvr_reg (c : Nat) (f : Svr → Svr) (off : Nat) : (s.updSvr c f).reg off = s.reg off := rfl
@[simp] theorem State.updSvr_fld (c : Nat) (f : Svr → Svr) (off : Nat) (fl : Field) : (s.updSvr c f).fld off fl = s.fld off fl := rfl
@[simp] theorem State.updSvr_bit (c : Nat) (f : Svr → Svr) (off : Nat) (fl : Field) : (s.updSvr c f).bit off fl = s.bit off fl := rfl

/-! ### updAux -/

@[simp] theorem State.updAux_variant (i : Nat) (f : Aux → Aux) : (s.updAux i f).variant = s.variant := rfl
@[simp] theorem State.updAux_now (i : Nat) (f : Aux → Aux) : (s.updAux i f).now = s.now := rfl
@[simp] theorem State.updAux_tb (i : Nat) (f : Aux → Aux) : (s.updAux i f).tb = s.tb := rfl
@[simp] theorem State.updAux_ptp (i : Nat) (f : Aux → Aux) : (s.updAux i f).ptp = s.ptp := rfl
@[simp] theorem State.updAux_ptpAdd (i : Nat) (f : Aux → Aux) : (s.updAux i f).ptpAdd = s.ptpAdd := rfl
@[simp] theorem State.updAux_cdRun (i : Nat) (f : Aux → Aux) : (s.updAux i f).cdRun = s.cdRun := rfl
@[simp] theorem State.updAux_rmRun (i : Nat) (f : Aux → Aux) : (s.updAux i f).rmRun = s.rmRun := rfl
@[simp] theorem State.updAux_regs (i : Nat) (f : Aux → Aux) : (s.updAux i f).regs = s.regs := rfl
@[simp] theorem State.updAux_dram (i : Nat) (f : Aux → Aux) : (s.updAux i f).dram = s.dram := rfl
@[simp] theorem State.updAux_hostMem (i : Nat) (f : Aux → Aux) : (s.updAux i f).hostMem = s.hostMem := rfl
@[simp] theorem State.updAux_events (i : Nat) (f : Aux → Aux) : (s.updAux i f).events = s.events := rfl
@[simp] theorem State.updAux_recQueue (i : Nat) (f : Aux → Aux) : (s.updAux i f).recQueue = s.recQueue := rfl
@[simp] theorem State.updAux_recStore (i : Nat) (f : Aux → Aux) : (s.updAux i f).recStore = s.recStore := rfl
@[simp] theorem State.updAux_safetyLog (i : Nat) (f : Aux → Aux) : (s.updAux i f).safetyLog = s.safetyLog := rfl
@[simp] theorem State.updAux_clearLog (i : Nat) (f : Aux → Aux) : (s.updAux i f).clearLog = s.clearLog := rfl
@[simp] theorem State.updAux_mbx (i : Nat) (f : Aux → Aux) : (s.updAux i f).mbx = s.mbx := rfl
@[simp] theorem State.updAux_devQueue (i : Nat) (f : Aux → Aux) : (s.updAux i f).devQueue = s.devQueue := rfl
@[simp] theorem State.updAux_msi (i : Nat) (f : Aux → Aux) : (s.updAux i f).msi = s.msi := rfl
@[simp] theorem State.updAux_rings (i : Nat) (f : Aux → Aux) : (s.updAux i f).rings = s.rings := rfl
@[simp] theorem State.updAux_barkerSt (i : Nat) (f : Aux → Aux) : (s.updAux i f).barkerSt = s.barkerSt := rfl
@[simp] theorem State.updAux_profs (i : Nat) (f : Aux → Aux) : (s.updAux i f).profs = s.profs := rfl
@[simp] theorem State.updAux_recst (i : Nat) (f : Aux → Aux) : (s.updAux i f).recst = s.recst := rfl
@[simp] theorem State.updAux_trips (i : Nat) (f : Aux → Aux) : (s.updAux i f).trips = s.trips := rfl
@[simp] theorem State.updAux_edges (i : Nat) (f : Aux → Aux) : (s.updAux i f).edges = s.edges := rfl
@[simp] theorem State.updAux_gatesH (i : Nat) (f : Aux → Aux) : (s.updAux i f).gatesH = s.gatesH := rfl
@[simp] theorem State.updAux_gatesL (i : Nat) (f : Aux → Aux) : (s.updAux i f).gatesL = s.gatesL := rfl
@[simp] theorem State.updAux_drvs (i : Nat) (f : Aux → Aux) : (s.updAux i f).drvs = s.drvs := rfl
@[simp] theorem State.updAux_clusters (i : Nat) (f : Aux → Aux) : (s.updAux i f).clusters = s.clusters := rfl
@[simp] theorem State.updAux_gmus (i : Nat) (f : Aux → Aux) : (s.updAux i f).gmus = s.gmus := rfl
@[simp] theorem State.updAux_blks (i : Nat) (f : Aux → Aux) : (s.updAux i f).blks = s.blks := rfl
@[simp] theorem State.updAux_npms (i : Nat) (f : Aux → Aux) : (s.updAux i f).npms = s.npms := rfl
@[simp] theorem State.updAux_regions (i : Nat) (f : Aux → Aux) : (s.updAux i f).regions = s.regions := rfl
@[simp] theorem State.updAux_dcs (i : Nat) (f : Aux → Aux) : (s.updAux i f).dcs = s.dcs := rfl
@[simp] theorem State.updAux_chgs (i : Nat) (f : Aux → Aux) : (s.updAux i f).chgs = s.chgs := rfl
@[simp] theorem State.updAux_ldgs (i : Nat) (f : Aux → Aux) : (s.updAux i f).ldgs = s.ldgs := rfl
@[simp] theorem State.updAux_journal (i : Nat) (f : Aux → Aux) : (s.updAux i f).journal = s.journal := rfl
@[simp] theorem State.updAux_snet (i : Nat) (f : Aux → Aux) : (s.updAux i f).snet = s.snet := rfl
@[simp] theorem State.updAux_svrs (i : Nat) (f : Aux → Aux) : (s.updAux i f).svrs = s.svrs := rfl
@[simp] theorem State.updAux_fbs (i : Nat) (f : Aux → Aux) : (s.updAux i f).fbs = s.fbs := rfl
@[simp] theorem State.updAux_thm (i : Nat) (f : Aux → Aux) : (s.updAux i f).thm = s.thm := rfl
@[simp] theorem State.updAux_pack (i : Nat) (f : Aux → Aux) : (s.updAux i f).pack = s.pack := rfl
@[simp] theorem State.updAux_meas (i : Nat) (f : Aux → Aux) : (s.updAux i f).meas = s.meas := rfl
@[simp] theorem State.updAux_txns (i : Nat) (f : Aux → Aux) : (s.updAux i f).txns = s.txns := rfl
@[simp] theorem State.updAux_cans (i : Nat) (f : Aux → Aux) : (s.updAux i f).cans = s.cans := rfl
@[simp] theorem State.updAux_snl (i : Nat) (f : Aux → Aux) : (s.updAux i f).snl = s.snl := rfl
@[simp] theorem State.updAux_trmons (i : Nat) (f : Aux → Aux) : (s.updAux i f).trmons = s.trmons := rfl
@[simp] theorem State.updAux_slackCd (i : Nat) (f : Aux → Aux) : (s.updAux i f).slackCd = s.slackCd := rfl
@[simp] theorem State.updAux_slackMd (i : Nat) (f : Aux → Aux) : (s.updAux i f).slackMd = s.slackMd := rfl
@[simp] theorem State.updAux_stalls (i : Nat) (f : Aux → Aux) : (s.updAux i f).stalls = s.stalls := rfl
@[simp] theorem State.updAux_bad (i : Nat) (f : Aux → Aux) : (s.updAux i f).bad = s.bad := rfl
@[simp] theorem State.updAux_store (i : Nat) (f : Aux → Aux) : (s.updAux i f).store = s.store := rfl
@[simp] theorem State.updAux_auths (i : Nat) (f : Aux → Aux) : (s.updAux i f).auths = s.auths := rfl
@[simp] theorem State.updAux_power (i : Nat) (f : Aux → Aux) : (s.updAux i f).power = s.power := rfl
@[simp] theorem State.updAux_diag (i : Nat) (f : Aux → Aux) : (s.updAux i f).diag = s.diag := rfl
@[simp] theorem State.updAux_rm (i : Nat) (f : Aux → Aux) : (s.updAux i f).rm = s.rm := rfl
@[simp] theorem State.updAux_sys (i : Nat) (f : Aux → Aux) : (s.updAux i f).sys = s.sys := rfl
@[simp] theorem State.updAux_modid (i : Nat) (f : Aux → Aux) : (s.updAux i f).modid = s.modid := rfl
@[simp] theorem State.updAux_lastTid (i : Nat) (f : Aux → Aux) : (s.updAux i f).lastTid = s.lastTid := rfl
@[simp] theorem State.updAux_cmdWait (i : Nat) (f : Aux → Aux) : (s.updAux i f).cmdWait = s.cmdWait := rfl
@[simp] theorem State.updAux_cpl (i : Nat) (f : Aux → Aux) : (s.updAux i f).cpl = s.cpl := rfl
@[simp] theorem State.updAux_eccCor (i : Nat) (f : Aux → Aux) : (s.updAux i f).eccCor = s.eccCor := rfl
@[simp] theorem State.updAux_draws (i : Nat) (f : Aux → Aux) : (s.updAux i f).draws = s.draws := rfl
@[simp] theorem State.updAux_pending (i : Nat) (f : Aux → Aux) : (s.updAux i f).pending = s.pending := rfl
@[simp] theorem State.updAux_reg (i : Nat) (f : Aux → Aux) (off : Nat) : (s.updAux i f).reg off = s.reg off := rfl
@[simp] theorem State.updAux_fld (i : Nat) (f : Aux → Aux) (off : Nat) (fl : Field) : (s.updAux i f).fld off fl = s.fld off fl := rfl
@[simp] theorem State.updAux_bit (i : Nat) (f : Aux → Aux) (off : Nat) (fl : Field) : (s.updAux i f).bit off fl = s.bit off fl := rfl

/-! ### updFb -/

@[simp] theorem State.updFb_variant (i : Nat) (f : Fb → Fb) : (s.updFb i f).variant = s.variant := rfl
@[simp] theorem State.updFb_now (i : Nat) (f : Fb → Fb) : (s.updFb i f).now = s.now := rfl
@[simp] theorem State.updFb_tb (i : Nat) (f : Fb → Fb) : (s.updFb i f).tb = s.tb := rfl
@[simp] theorem State.updFb_ptp (i : Nat) (f : Fb → Fb) : (s.updFb i f).ptp = s.ptp := rfl
@[simp] theorem State.updFb_ptpAdd (i : Nat) (f : Fb → Fb) : (s.updFb i f).ptpAdd = s.ptpAdd := rfl
@[simp] theorem State.updFb_cdRun (i : Nat) (f : Fb → Fb) : (s.updFb i f).cdRun = s.cdRun := rfl
@[simp] theorem State.updFb_rmRun (i : Nat) (f : Fb → Fb) : (s.updFb i f).rmRun = s.rmRun := rfl
@[simp] theorem State.updFb_regs (i : Nat) (f : Fb → Fb) : (s.updFb i f).regs = s.regs := rfl
@[simp] theorem State.updFb_dram (i : Nat) (f : Fb → Fb) : (s.updFb i f).dram = s.dram := rfl
@[simp] theorem State.updFb_hostMem (i : Nat) (f : Fb → Fb) : (s.updFb i f).hostMem = s.hostMem := rfl
@[simp] theorem State.updFb_events (i : Nat) (f : Fb → Fb) : (s.updFb i f).events = s.events := rfl
@[simp] theorem State.updFb_recQueue (i : Nat) (f : Fb → Fb) : (s.updFb i f).recQueue = s.recQueue := rfl
@[simp] theorem State.updFb_recStore (i : Nat) (f : Fb → Fb) : (s.updFb i f).recStore = s.recStore := rfl
@[simp] theorem State.updFb_safetyLog (i : Nat) (f : Fb → Fb) : (s.updFb i f).safetyLog = s.safetyLog := rfl
@[simp] theorem State.updFb_clearLog (i : Nat) (f : Fb → Fb) : (s.updFb i f).clearLog = s.clearLog := rfl
@[simp] theorem State.updFb_mbx (i : Nat) (f : Fb → Fb) : (s.updFb i f).mbx = s.mbx := rfl
@[simp] theorem State.updFb_devQueue (i : Nat) (f : Fb → Fb) : (s.updFb i f).devQueue = s.devQueue := rfl
@[simp] theorem State.updFb_msi (i : Nat) (f : Fb → Fb) : (s.updFb i f).msi = s.msi := rfl
@[simp] theorem State.updFb_rings (i : Nat) (f : Fb → Fb) : (s.updFb i f).rings = s.rings := rfl
@[simp] theorem State.updFb_barkerSt (i : Nat) (f : Fb → Fb) : (s.updFb i f).barkerSt = s.barkerSt := rfl
@[simp] theorem State.updFb_profs (i : Nat) (f : Fb → Fb) : (s.updFb i f).profs = s.profs := rfl
@[simp] theorem State.updFb_recst (i : Nat) (f : Fb → Fb) : (s.updFb i f).recst = s.recst := rfl
@[simp] theorem State.updFb_trips (i : Nat) (f : Fb → Fb) : (s.updFb i f).trips = s.trips := rfl
@[simp] theorem State.updFb_edges (i : Nat) (f : Fb → Fb) : (s.updFb i f).edges = s.edges := rfl
@[simp] theorem State.updFb_gatesH (i : Nat) (f : Fb → Fb) : (s.updFb i f).gatesH = s.gatesH := rfl
@[simp] theorem State.updFb_gatesL (i : Nat) (f : Fb → Fb) : (s.updFb i f).gatesL = s.gatesL := rfl
@[simp] theorem State.updFb_drvs (i : Nat) (f : Fb → Fb) : (s.updFb i f).drvs = s.drvs := rfl
@[simp] theorem State.updFb_clusters (i : Nat) (f : Fb → Fb) : (s.updFb i f).clusters = s.clusters := rfl
@[simp] theorem State.updFb_gmus (i : Nat) (f : Fb → Fb) : (s.updFb i f).gmus = s.gmus := rfl
@[simp] theorem State.updFb_blks (i : Nat) (f : Fb → Fb) : (s.updFb i f).blks = s.blks := rfl
@[simp] theorem State.updFb_npms (i : Nat) (f : Fb → Fb) : (s.updFb i f).npms = s.npms := rfl
@[simp] theorem State.updFb_regions (i : Nat) (f : Fb → Fb) : (s.updFb i f).regions = s.regions := rfl
@[simp] theorem State.updFb_dcs (i : Nat) (f : Fb → Fb) : (s.updFb i f).dcs = s.dcs := rfl
@[simp] theorem State.updFb_chgs (i : Nat) (f : Fb → Fb) : (s.updFb i f).chgs = s.chgs := rfl
@[simp] theorem State.updFb_ldgs (i : Nat) (f : Fb → Fb) : (s.updFb i f).ldgs = s.ldgs := rfl
@[simp] theorem State.updFb_journal (i : Nat) (f : Fb → Fb) : (s.updFb i f).journal = s.journal := rfl
@[simp] theorem State.updFb_snet (i : Nat) (f : Fb → Fb) : (s.updFb i f).snet = s.snet := rfl
@[simp] theorem State.updFb_svrs (i : Nat) (f : Fb → Fb) : (s.updFb i f).svrs = s.svrs := rfl
@[simp] theorem State.updFb_auxs (i : Nat) (f : Fb → Fb) : (s.updFb i f).auxs = s.auxs := rfl
@[simp] theorem State.updFb_thm (i : Nat) (f : Fb → Fb) : (s.updFb i f).thm = s.thm := rfl
@[simp] theorem State.updFb_pack (i : Nat) (f : Fb → Fb) : (s.updFb i f).pack = s.pack := rfl
@[simp] theorem State.updFb_meas (i : Nat) (f : Fb → Fb) : (s.updFb i f).meas = s.meas := rfl
@[simp] theorem State.updFb_txns (i : Nat) (f : Fb → Fb) : (s.updFb i f).txns = s.txns := rfl
@[simp] theorem State.updFb_cans (i : Nat) (f : Fb → Fb) : (s.updFb i f).cans = s.cans := rfl
@[simp] theorem State.updFb_snl (i : Nat) (f : Fb → Fb) : (s.updFb i f).snl = s.snl := rfl
@[simp] theorem State.updFb_trmons (i : Nat) (f : Fb → Fb) : (s.updFb i f).trmons = s.trmons := rfl
@[simp] theorem State.updFb_slackCd (i : Nat) (f : Fb → Fb) : (s.updFb i f).slackCd = s.slackCd := rfl
@[simp] theorem State.updFb_slackMd (i : Nat) (f : Fb → Fb) : (s.updFb i f).slackMd = s.slackMd := rfl
@[simp] theorem State.updFb_stalls (i : Nat) (f : Fb → Fb) : (s.updFb i f).stalls = s.stalls := rfl
@[simp] theorem State.updFb_bad (i : Nat) (f : Fb → Fb) : (s.updFb i f).bad = s.bad := rfl
@[simp] theorem State.updFb_store (i : Nat) (f : Fb → Fb) : (s.updFb i f).store = s.store := rfl
@[simp] theorem State.updFb_auths (i : Nat) (f : Fb → Fb) : (s.updFb i f).auths = s.auths := rfl
@[simp] theorem State.updFb_power (i : Nat) (f : Fb → Fb) : (s.updFb i f).power = s.power := rfl
@[simp] theorem State.updFb_diag (i : Nat) (f : Fb → Fb) : (s.updFb i f).diag = s.diag := rfl
@[simp] theorem State.updFb_rm (i : Nat) (f : Fb → Fb) : (s.updFb i f).rm = s.rm := rfl
@[simp] theorem State.updFb_sys (i : Nat) (f : Fb → Fb) : (s.updFb i f).sys = s.sys := rfl
@[simp] theorem State.updFb_modid (i : Nat) (f : Fb → Fb) : (s.updFb i f).modid = s.modid := rfl
@[simp] theorem State.updFb_lastTid (i : Nat) (f : Fb → Fb) : (s.updFb i f).lastTid = s.lastTid := rfl
@[simp] theorem State.updFb_cmdWait (i : Nat) (f : Fb → Fb) : (s.updFb i f).cmdWait = s.cmdWait := rfl
@[simp] theorem State.updFb_cpl (i : Nat) (f : Fb → Fb) : (s.updFb i f).cpl = s.cpl := rfl
@[simp] theorem State.updFb_eccCor (i : Nat) (f : Fb → Fb) : (s.updFb i f).eccCor = s.eccCor := rfl
@[simp] theorem State.updFb_draws (i : Nat) (f : Fb → Fb) : (s.updFb i f).draws = s.draws := rfl
@[simp] theorem State.updFb_pending (i : Nat) (f : Fb → Fb) : (s.updFb i f).pending = s.pending := rfl
@[simp] theorem State.updFb_reg (i : Nat) (f : Fb → Fb) (off : Nat) : (s.updFb i f).reg off = s.reg off := rfl
@[simp] theorem State.updFb_fld (i : Nat) (f : Fb → Fb) (off : Nat) (fl : Field) : (s.updFb i f).fld off fl = s.fld off fl := rfl
@[simp] theorem State.updFb_bit (i : Nat) (f : Fb → Fb) (off : Nat) (fl : Field) : (s.updFb i f).bit off fl = s.bit off fl := rfl

/-! ### updThm -/

@[simp] theorem State.updThm_variant (f : Thm → Thm) : (s.updThm f).variant = s.variant := rfl
@[simp] theorem State.updThm_now (f : Thm → Thm) : (s.updThm f).now = s.now := rfl
@[simp] theorem State.updThm_tb (f : Thm → Thm) : (s.updThm f).tb = s.tb := rfl
@[simp] theorem State.updThm_ptp (f : Thm → Thm) : (s.updThm f).ptp = s.ptp := rfl
@[simp] theorem State.updThm_ptpAdd (f : Thm → Thm) : (s.updThm f).ptpAdd = s.ptpAdd := rfl
@[simp] theorem State.updThm_cdRun (f : Thm → Thm) : (s.updThm f).cdRun = s.cdRun := rfl
@[simp] theorem State.updThm_rmRun (f : Thm → Thm) : (s.updThm f).rmRun = s.rmRun := rfl
@[simp] theorem State.updThm_regs (f : Thm → Thm) : (s.updThm f).regs = s.regs := rfl
@[simp] theorem State.updThm_dram (f : Thm → Thm) : (s.updThm f).dram = s.dram := rfl
@[simp] theorem State.updThm_hostMem (f : Thm → Thm) : (s.updThm f).hostMem = s.hostMem := rfl
@[simp] theorem State.updThm_events (f : Thm → Thm) : (s.updThm f).events = s.events := rfl
@[simp] theorem State.updThm_recQueue (f : Thm → Thm) : (s.updThm f).recQueue = s.recQueue := rfl
@[simp] theorem State.updThm_recStore (f : Thm → Thm) : (s.updThm f).recStore = s.recStore := rfl
@[simp] theorem State.updThm_safetyLog (f : Thm → Thm) : (s.updThm f).safetyLog = s.safetyLog := rfl
@[simp] theorem State.updThm_clearLog (f : Thm → Thm) : (s.updThm f).clearLog = s.clearLog := rfl
@[simp] theorem State.updThm_mbx (f : Thm → Thm) : (s.updThm f).mbx = s.mbx := rfl
@[simp] theorem State.updThm_devQueue (f : Thm → Thm) : (s.updThm f).devQueue = s.devQueue := rfl
@[simp] theorem State.updThm_msi (f : Thm → Thm) : (s.updThm f).msi = s.msi := rfl
@[simp] theorem State.updThm_rings (f : Thm → Thm) : (s.updThm f).rings = s.rings := rfl
@[simp] theorem State.updThm_barkerSt (f : Thm → Thm) : (s.updThm f).barkerSt = s.barkerSt := rfl
@[simp] theorem State.updThm_profs (f : Thm → Thm) : (s.updThm f).profs = s.profs := rfl
@[simp] theorem State.updThm_recst (f : Thm → Thm) : (s.updThm f).recst = s.recst := rfl
@[simp] theorem State.updThm_trips (f : Thm → Thm) : (s.updThm f).trips = s.trips := rfl
@[simp] theorem State.updThm_edges (f : Thm → Thm) : (s.updThm f).edges = s.edges := rfl
@[simp] theorem State.updThm_gatesH (f : Thm → Thm) : (s.updThm f).gatesH = s.gatesH := rfl
@[simp] theorem State.updThm_gatesL (f : Thm → Thm) : (s.updThm f).gatesL = s.gatesL := rfl
@[simp] theorem State.updThm_drvs (f : Thm → Thm) : (s.updThm f).drvs = s.drvs := rfl
@[simp] theorem State.updThm_clusters (f : Thm → Thm) : (s.updThm f).clusters = s.clusters := rfl
@[simp] theorem State.updThm_gmus (f : Thm → Thm) : (s.updThm f).gmus = s.gmus := rfl
@[simp] theorem State.updThm_blks (f : Thm → Thm) : (s.updThm f).blks = s.blks := rfl
@[simp] theorem State.updThm_npms (f : Thm → Thm) : (s.updThm f).npms = s.npms := rfl
@[simp] theorem State.updThm_regions (f : Thm → Thm) : (s.updThm f).regions = s.regions := rfl
@[simp] theorem State.updThm_dcs (f : Thm → Thm) : (s.updThm f).dcs = s.dcs := rfl
@[simp] theorem State.updThm_chgs (f : Thm → Thm) : (s.updThm f).chgs = s.chgs := rfl
@[simp] theorem State.updThm_ldgs (f : Thm → Thm) : (s.updThm f).ldgs = s.ldgs := rfl
@[simp] theorem State.updThm_journal (f : Thm → Thm) : (s.updThm f).journal = s.journal := rfl
@[simp] theorem State.updThm_snet (f : Thm → Thm) : (s.updThm f).snet = s.snet := rfl
@[simp] theorem State.updThm_svrs (f : Thm → Thm) : (s.updThm f).svrs = s.svrs := rfl
@[simp] theorem State.updThm_auxs (f : Thm → Thm) : (s.updThm f).auxs = s.auxs := rfl
@[simp] theorem State.updThm_fbs (f : Thm → Thm) : (s.updThm f).fbs = s.fbs := rfl
@[simp] theorem State.updThm_pack (f : Thm → Thm) : (s.updThm f).pack = s.pack := rfl
@[simp] theorem State.updThm_meas (f : Thm → Thm) : (s.updThm f).meas = s.meas := rfl
@[simp] theorem State.updThm_txns (f : Thm → Thm) : (s.updThm f).txns = s.txns := rfl
@[simp] theorem State.updThm_cans (f : Thm → Thm) : (s.updThm f).cans = s.cans := rfl
@[simp] theorem State.updThm_snl (f : Thm → Thm) : (s.updThm f).snl = s.snl := rfl
@[simp] theorem State.updThm_trmons (f : Thm → Thm) : (s.updThm f).trmons = s.trmons := rfl
@[simp] theorem State.updThm_slackCd (f : Thm → Thm) : (s.updThm f).slackCd = s.slackCd := rfl
@[simp] theorem State.updThm_slackMd (f : Thm → Thm) : (s.updThm f).slackMd = s.slackMd := rfl
@[simp] theorem State.updThm_stalls (f : Thm → Thm) : (s.updThm f).stalls = s.stalls := rfl
@[simp] theorem State.updThm_bad (f : Thm → Thm) : (s.updThm f).bad = s.bad := rfl
@[simp] theorem State.updThm_store (f : Thm → Thm) : (s.updThm f).store = s.store := rfl
@[simp] theorem State.updThm_auths (f : Thm → Thm) : (s.updThm f).auths = s.auths := rfl
@[simp] theorem State.updThm_power (f : Thm → Thm) : (s.updThm f).power = s.power := rfl
@[simp] theorem State.updThm_diag (f : Thm → Thm) : (s.updThm f).diag = s.diag := rfl
@[simp] theorem State.updThm_rm (f : Thm → Thm) : (s.updThm f).rm = s.rm := rfl
@[simp] theorem State.updThm_sys (f : Thm → Thm) : (s.updThm f).sys = s.sys := rfl
@[simp] theorem State.updThm_modid (f : Thm → Thm) : (s.updThm f).modid = s.modid := rfl
@[simp] theorem State.updThm_lastTid (f : Thm → Thm) : (s.updThm f).lastTid = s.lastTid := rfl
@[simp] theorem State.updThm_cmdWait (f : Thm → Thm) : (s.updThm f).cmdWait = s.cmdWait := rfl
@[simp] theorem State.updThm_cpl (f : Thm → Thm) : (s.updThm f).cpl = s.cpl := rfl
@[simp] theorem State.updThm_eccCor (f : Thm → Thm) : (s.updThm f).eccCor = s.eccCor := rfl
@[simp] theorem State.updThm_draws (f : Thm → Thm) : (s.updThm f).draws = s.draws := rfl
@[simp] theorem State.updThm_pending (f : Thm → Thm) : (s.updThm f).pending = s.pending := rfl
@[simp] theorem State.updThm_reg (f : Thm → Thm) (off : Nat) : (s.updThm f).reg off = s.reg off := rfl
@[simp] theorem State.updThm_fld (f : Thm → Thm) (off : Nat) (fl : Field) : (s.updThm f).fld off fl = s.fld off fl := rfl
@[simp] theorem State.updThm_bit (f : Thm → Thm) (off : Nat) (fl : Field) : (s.updThm f).bit off fl = s.bit off fl := rfl

/-! ### updMeas -/

@[simp] theorem State.updMeas_variant (f : Meas → Meas) : (s.updMeas f).variant = s.variant := rfl
@[simp] theorem State.updMeas_now (f : Meas → Meas) : (s.updMeas f).now = s.now := rfl
@[simp] theorem State.updMeas_tb (f : Meas → Meas) : (s.updMeas f).tb = s.tb := rfl
@[simp] theorem State.updMeas_ptp (f : Meas → Meas) : (s.updMeas f).ptp = s.ptp := rfl
@[simp] theorem State.updMeas_ptpAdd (f : Meas → Meas) : (s.updMeas f).ptpAdd = s.ptpAdd := rfl
@[simp] theorem State.updMeas_cdRun (f : Meas → Meas) : (s.updMeas f).cdRun = s.cdRun := rfl
@[simp] theorem State.updMeas_rmRun (f : Meas → Meas) : (s.updMeas f).rmRun = s.rmRun := rfl
@[simp] theorem State.updMeas_regs (f : Meas → Meas) : (s.updMeas f).regs = s.regs := rfl
@[simp] theorem State.updMeas_dram (f : Meas → Meas) : (s.updMeas f).dram = s.dram := rfl
@[simp] theorem State.updMeas_hostMem (f : Meas → Meas) : (s.updMeas f).hostMem = s.hostMem := rfl
@[simp] theorem State.updMeas_events (f : Meas → Meas) : (s.updMeas f).events = s.events := rfl
@[simp] theorem State.updMeas_recQueue (f : Meas → Meas) : (s.updMeas f).recQueue = s.recQueue := rfl
@[simp] theorem State.updMeas_recStore (f : Meas → Meas) : (s.updMeas f).recStore = s.recStore := rfl
@[simp] theorem State.updMeas_safetyLog (f : Meas → Meas) : (s.updMeas f).safetyLog = s.safetyLog := rfl
@[simp] theorem State.updMeas_clearLog (f : Meas → Meas) : (s.updMeas f).clearLog = s.clearLog := rfl
@[simp] theorem State.updMeas_mbx (f : Meas → Meas) : (s.updMeas f).mbx = s.mbx := rfl
@[simp] theorem State.updMeas_devQueue (f : Meas → Meas) : (s.updMeas f).devQueue = s.devQueue := rfl
@[simp] theorem State.updMeas_msi (f : Meas → Meas) : (s.updMeas f).msi = s.msi := rfl
@[simp] theorem State.updMeas_rings (f : Meas → Meas) : (s.updMeas f).rings = s.rings := rfl
@[simp] theorem State.updMeas_barkerSt (f : Meas → Meas) : (s.updMeas f).barkerSt = s.barkerSt := rfl
@[simp] theorem State.updMeas_profs (f : Meas → Meas) : (s.updMeas f).profs = s.profs := rfl
@[simp] theorem State.updMeas_recst (f : Meas → Meas) : (s.updMeas f).recst = s.recst := rfl
@[simp] theorem State.updMeas_trips (f : Meas → Meas) : (s.updMeas f).trips = s.trips := rfl
@[simp] theorem State.updMeas_edges (f : Meas → Meas) : (s.updMeas f).edges = s.edges := rfl
@[simp] theorem State.updMeas_gatesH (f : Meas → Meas) : (s.updMeas f).gatesH = s.gatesH := rfl
@[simp] theorem State.updMeas_gatesL (f : Meas → Meas) : (s.updMeas f).gatesL = s.gatesL := rfl
@[simp] theorem State.updMeas_drvs (f : Meas → Meas) : (s.updMeas f).drvs = s.drvs := rfl
@[simp] theorem State.updMeas_clusters (f : Meas → Meas) : (s.updMeas f).clusters = s.clusters := rfl
@[simp] theorem State.updMeas_gmus (f : Meas → Meas) : (s.updMeas f).gmus = s.gmus := rfl
@[simp] theorem State.updMeas_blks (f : Meas → Meas) : (s.updMeas f).blks = s.blks := rfl
@[simp] theorem State.updMeas_npms (f : Meas → Meas) : (s.updMeas f).npms = s.npms := rfl
@[simp] theorem State.updMeas_regions (f : Meas → Meas) : (s.updMeas f).regions = s.regions := rfl
@[simp] theorem State.updMeas_dcs (f : Meas → Meas) : (s.updMeas f).dcs = s.dcs := rfl
@[simp] theorem State.updMeas_chgs (f : Meas → Meas) : (s.updMeas f).chgs = s.chgs := rfl
@[simp] theorem State.updMeas_ldgs (f : Meas → Meas) : (s.updMeas f).ldgs = s.ldgs := rfl
@[simp] theorem State.updMeas_journal (f : Meas → Meas) : (s.updMeas f).journal = s.journal := rfl
@[simp] theorem State.updMeas_snet (f : Meas → Meas) : (s.updMeas f).snet = s.snet := rfl
@[simp] theorem State.updMeas_svrs (f : Meas → Meas) : (s.updMeas f).svrs = s.svrs := rfl
@[simp] theorem State.updMeas_auxs (f : Meas → Meas) : (s.updMeas f).auxs = s.auxs := rfl
@[simp] theorem State.updMeas_fbs (f : Meas → Meas) : (s.updMeas f).fbs = s.fbs := rfl
@[simp] theorem State.updMeas_thm (f : Meas → Meas) : (s.updMeas f).thm = s.thm := rfl
@[simp] theorem State.updMeas_pack (f : Meas → Meas) : (s.updMeas f).pack = s.pack := rfl
@[simp] theorem State.updMeas_txns (f : Meas → Meas) : (s.updMeas f).txns = s.txns := rfl
@[simp] theorem State.updMeas_cans (f : Meas → Meas) : (s.updMeas f).cans = s.cans := rfl
@[simp] theorem State.updMeas_snl (f : Meas → Meas) : (s.updMeas f).snl = s.snl := rfl
@[simp] theorem State.updMeas_trmons (f : Meas → Meas) : (s.updMeas f).trmons = s.trmons := rfl
@[simp] theorem State.updMeas_slackCd (f : Meas → Meas) : (s.updMeas f).slackCd = s.slackCd := rfl
@[simp] theorem State.updMeas_slackMd (f : Meas → Meas) : (s.updMeas f).slackMd = s.slackMd := rfl
@[simp] theorem State.updMeas_stalls (f : Meas → Meas) : (s.updMeas f).stalls = s.stalls := rfl
@[simp] theorem State.updMeas_bad (f : Meas → Meas) : (s.updMeas f).bad = s.bad := rfl
@[simp] theorem State.updMeas_store (f : Meas → Meas) : (s.updMeas f).store = s.store := rfl
@[simp] theorem State.updMeas_auths (f : Meas → Meas) : (s.updMeas f).auths = s.auths := rfl
@[simp] theorem State.updMeas_power (f : Meas → Meas) : (s.updMeas f).power = s.power := rfl
@[simp] theorem State.updMeas_diag (f : Meas → Meas) : (s.updMeas f).diag = s.diag := rfl
@[simp] theorem State.updMeas_rm (f : Meas → Meas) : (s.updMeas f).rm = s.rm := rfl
@[simp] theorem State.updMeas_sys (f : Meas → Meas) : (s.updMeas f).sys = s.sys := rfl
@[simp] theorem State.updMeas_modid (f : Meas → Meas) : (s.updMeas f).modid = s.modid := rfl
@[simp] theorem State.updMeas_lastTid (f : Meas → Meas) : (s.updMeas f).lastTid = s.lastTid := rfl
@[simp] theorem State.updMeas_cmdWait (f : Meas → Meas) : (s.updMeas f).cmdWait = s.cmdWait := rfl
@[simp] theorem State.updMeas_cpl (f : Meas → Meas) : (s.updMeas f).cpl = s.cpl := rfl
@[simp] theorem State.updMeas_eccCor (f : Meas → Meas) : (s.updMeas f).eccCor = s.eccCor := rfl
@[simp] theorem State.updMeas_draws (f : Meas → Meas) : (s.updMeas f).draws = s.draws := rfl
@[simp] theorem State.updMeas_pending (f : Meas → Meas) : (s.updMeas f).pending = s.pending := rfl
@[simp] theorem State.updMeas_reg (f : Meas → Meas) (off : Nat) : (s.updMeas f).reg off = s.reg off := rfl
@[simp] theorem State.updMeas_fld (f : Meas → Meas) (off : Nat) (fl : Field) : (s.updMeas f).fld off fl = s.fld off fl := rfl
@[simp] theorem State.updMeas_bit (f : Meas → Meas) (off : Nat) (fl : Field) : (s.updMeas f).bit off fl = s.bit off fl := rfl

/-! ### updPack -/

@[simp] theorem State.updPack_variant (f : Pack → Pack) : (s.updPack f).variant = s.variant := rfl
@[simp] theorem State.updPack_now (f : Pack → Pack) : (s.updPack f).now = s.now := rfl
@[simp] theorem State.updPack_tb (f : Pack → Pack) : (s.updPack f).tb = s.tb := rfl
@[simp] theorem State.updPack_ptp (f : Pack → Pack) : (s.updPack f).ptp = s.ptp := rfl
@[simp] theorem State.updPack_ptpAdd (f : Pack → Pack) : (s.updPack f).ptpAdd = s.ptpAdd := rfl
@[simp] theorem State.updPack_cdRun (f : Pack → Pack) : (s.updPack f).cdRun = s.cdRun := rfl
@[simp] theorem State.updPack_rmRun (f : Pack → Pack) : (s.updPack f).rmRun = s.rmRun := rfl
@[simp] theorem State.updPack_regs (f : Pack → Pack) : (s.updPack f).regs = s.regs := rfl
@[simp] theorem State.updPack_dram (f : Pack → Pack) : (s.updPack f).dram = s.dram := rfl
@[simp] theorem State.updPack_hostMem (f : Pack → Pack) : (s.updPack f).hostMem = s.hostMem := rfl
@[simp] theorem State.updPack_events (f : Pack → Pack) : (s.updPack f).events = s.events := rfl
@[simp] theorem State.updPack_recQueue (f : Pack → Pack) : (s.updPack f).recQueue = s.recQueue := rfl
@[simp] theorem State.updPack_recStore (f : Pack → Pack) : (s.updPack f).recStore = s.recStore := rfl
@[simp] theorem State.updPack_safetyLog (f : Pack → Pack) : (s.updPack f).safetyLog = s.safetyLog := rfl
@[simp] theorem State.updPack_clearLog (f : Pack → Pack) : (s.updPack f).clearLog = s.clearLog := rfl
@[simp] theorem State.updPack_mbx (f : Pack → Pack) : (s.updPack f).mbx = s.mbx := rfl
@[simp] theorem State.updPack_devQueue (f : Pack → Pack) : (s.updPack f).devQueue = s.devQueue := rfl
@[simp] theorem State.updPack_msi (f : Pack → Pack) : (s.updPack f).msi = s.msi := rfl
@[simp] theorem State.updPack_rings (f : Pack → Pack) : (s.updPack f).rings = s.rings := rfl
@[simp] theorem State.updPack_barkerSt (f : Pack → Pack) : (s.updPack f).barkerSt = s.barkerSt := rfl
@[simp] theorem State.updPack_profs (f : Pack → Pack) : (s.updPack f).profs = s.profs := rfl
@[simp] theorem State.updPack_recst (f : Pack → Pack) : (s.updPack f).recst = s.recst := rfl
@[simp] theorem State.updPack_trips (f : Pack → Pack) : (s.updPack f).trips = s.trips := rfl
@[simp] theorem State.updPack_edges (f : Pack → Pack) : (s.updPack f).edges = s.edges := rfl
@[simp] theorem State.updPack_gatesH (f : Pack → Pack) : (s.updPack f).gatesH = s.gatesH := rfl
@[simp] theorem State.updPack_gatesL (f : Pack → Pack) : (s.updPack f).gatesL = s.gatesL := rfl
@[simp] theorem State.updPack_drvs (f : Pack → Pack) : (s.updPack f).drvs = s.drvs := rfl
@[simp] theorem State.updPack_clusters (f : Pack → Pack) : (s.updPack f).clusters = s.clusters := rfl
@[simp] theorem State.updPack_gmus (f : Pack → Pack) : (s.updPack f).gmus = s.gmus := rfl
@[simp] theorem State.updPack_blks (f : Pack → Pack) : (s.updPack f).blks = s.blks := rfl
@[simp] theorem State.updPack_npms (f : Pack → Pack) : (s.updPack f).npms = s.npms := rfl
@[simp] theorem State.updPack_regions (f : Pack → Pack) : (s.updPack f).regions = s.regions := rfl
@[simp] theorem State.updPack_dcs (f : Pack → Pack) : (s.updPack f).dcs = s.dcs := rfl
@[simp] theorem State.updPack_chgs (f : Pack → Pack) : (s.updPack f).chgs = s.chgs := rfl
@[simp] theorem State.updPack_ldgs (f : Pack → Pack) : (s.updPack f).ldgs = s.ldgs := rfl
@[simp] theorem State.updPack_journal (f : Pack → Pack) : (s.updPack f).journal = s.journal := rfl
@[simp] theorem State.updPack_snet (f : Pack → Pack) : (s.updPack f).snet = s.snet := rfl
@[simp] theorem State.updPack_svrs (f : Pack → Pack) : (s.updPack f).svrs = s.svrs := rfl
@[simp] theorem State.updPack_auxs (f : Pack → Pack) : (s.updPack f).auxs = s.auxs := rfl
@[simp] theorem State.updPack_fbs (f : Pack → Pack) : (s.updPack f).fbs = s.fbs := rfl
@[simp] theorem State.updPack_thm (f : Pack → Pack) : (s.updPack f).thm = s.thm := rfl
@[simp] theorem State.updPack_meas (f : Pack → Pack) : (s.updPack f).meas = s.meas := rfl
@[simp] theorem State.updPack_txns (f : Pack → Pack) : (s.updPack f).txns = s.txns := rfl
@[simp] theorem State.updPack_cans (f : Pack → Pack) : (s.updPack f).cans = s.cans := rfl
@[simp] theorem State.updPack_snl (f : Pack → Pack) : (s.updPack f).snl = s.snl := rfl
@[simp] theorem State.updPack_trmons (f : Pack → Pack) : (s.updPack f).trmons = s.trmons := rfl
@[simp] theorem State.updPack_slackCd (f : Pack → Pack) : (s.updPack f).slackCd = s.slackCd := rfl
@[simp] theorem State.updPack_slackMd (f : Pack → Pack) : (s.updPack f).slackMd = s.slackMd := rfl
@[simp] theorem State.updPack_stalls (f : Pack → Pack) : (s.updPack f).stalls = s.stalls := rfl
@[simp] theorem State.updPack_bad (f : Pack → Pack) : (s.updPack f).bad = s.bad := rfl
@[simp] theorem State.updPack_store (f : Pack → Pack) : (s.updPack f).store = s.store := rfl
@[simp] theorem State.updPack_auths (f : Pack → Pack) : (s.updPack f).auths = s.auths := rfl
@[simp] theorem State.updPack_power (f : Pack → Pack) : (s.updPack f).power = s.power := rfl
@[simp] theorem State.updPack_diag (f : Pack → Pack) : (s.updPack f).diag = s.diag := rfl
@[simp] theorem State.updPack_rm (f : Pack → Pack) : (s.updPack f).rm = s.rm := rfl
@[simp] theorem State.updPack_sys (f : Pack → Pack) : (s.updPack f).sys = s.sys := rfl
@[simp] theorem State.updPack_modid (f : Pack → Pack) : (s.updPack f).modid = s.modid := rfl
@[simp] theorem State.updPack_lastTid (f : Pack → Pack) : (s.updPack f).lastTid = s.lastTid := rfl
@[simp] theorem State.updPack_cmdWait (f : Pack → Pack) : (s.updPack f).cmdWait = s.cmdWait := rfl
@[simp] theorem State.updPack_cpl (f : Pack → Pack) : (s.updPack f).cpl = s.cpl := rfl
@[simp] theorem State.updPack_eccCor (f : Pack → Pack) : (s.updPack f).eccCor = s.eccCor := rfl
@[simp] theorem State.updPack_draws (f : Pack → Pack) : (s.updPack f).draws = s.draws := rfl
@[simp] theorem State.updPack_pending (f : Pack → Pack) : (s.updPack f).pending = s.pending := rfl
@[simp] theorem State.updPack_reg (f : Pack → Pack) (off : Nat) : (s.updPack f).reg off = s.reg off := rfl
@[simp] theorem State.updPack_fld (f : Pack → Pack) (off : Nat) (fl : Field) : (s.updPack f).fld off fl = s.fld off fl := rfl
@[simp] theorem State.updPack_bit (f : Pack → Pack) (off : Nat) (fl : Field) : (s.updPack f).bit off fl = s.bit off fl := rfl

/-! ### updTxn -/

@[simp] theorem State.updTxn_variant (t : Nat) (f : Txn → Txn) : (s.updTxn t f).variant = s.variant := rfl
@[simp] theorem State.updTxn_now (t : Nat) (f : Txn → Txn) : (s.updTxn t f).now = s.now := rfl
@[simp] theorem State.updTxn_tb (t : Nat) (f : Txn → Txn) : (s.updTxn t f).tb = s.tb := rfl
@[simp] theorem State.updTxn_ptp (t : Nat) (f : Txn → Txn) : (s.updTxn t f).ptp = s.ptp := rfl
@[simp] theorem State.updTxn_ptpAdd (t : Nat) (f : Txn → Txn) : (s.updTxn t f).ptpAdd = s.ptpAdd := rfl
@[simp] theorem State.updTxn_cdRun (t : Nat) (f : Txn → Txn) : (s.updTxn t f).cdRun = s.cdRun := rfl
@[simp] theorem State.updTxn_rmRun (t : Nat) (f : Txn → Txn) : (s.updTxn t f).rmRun = s.rmRun := rfl
@[simp] theorem State.updTxn_regs (t : Nat) (f : Txn → Txn) : (s.updTxn t f).regs = s.regs := rfl
@[simp] theorem State.updTxn_dram (t : Nat) (f : Txn → Txn) : (s.updTxn t f).dram = s.dram := rfl
@[simp] theorem State.updTxn_hostMem (t : Nat) (f : Txn → Txn) : (s.updTxn t f).hostMem = s.hostMem := rfl
@[simp] theorem State.updTxn_events (t : Nat) (f : Txn → Txn) : (s.updTxn t f).events = s.events := rfl
@[simp] theorem State.updTxn_recQueue (t : Nat) (f : Txn → Txn) : (s.updTxn t f).recQueue = s.recQueue := rfl
@[simp] theorem State.updTxn_recStore (t : Nat) (f : Txn → Txn) : (s.updTxn t f).recStore = s.recStore := rfl
@[simp] theorem State.updTxn_safetyLog (t : Nat) (f : Txn → Txn) : (s.updTxn t f).safetyLog = s.safetyLog := rfl
@[simp] theorem State.updTxn_clearLog (t : Nat) (f : Txn → Txn) : (s.updTxn t f).clearLog = s.clearLog := rfl
@[simp] theorem State.updTxn_mbx (t : Nat) (f : Txn → Txn) : (s.updTxn t f).mbx = s.mbx := rfl
@[simp] theorem State.updTxn_devQueue (t : Nat) (f : Txn → Txn) : (s.updTxn t f).devQueue = s.devQueue := rfl
@[simp] theorem State.updTxn_msi (t : Nat) (f : Txn → Txn) : (s.updTxn t f).msi = s.msi := rfl
@[simp] theorem State.updTxn_rings (t : Nat) (f : Txn → Txn) : (s.updTxn t f).rings = s.rings := rfl
@[simp] theorem State.updTxn_barkerSt (t : Nat) (f : Txn → Txn) : (s.updTxn t f).barkerSt = s.barkerSt := rfl
@[simp] theorem State.updTxn_profs (t : Nat) (f : Txn → Txn) : (s.updTxn t f).profs = s.profs := rfl
@[simp] theorem State.updTxn_recst (t : Nat) (f : Txn → Txn) : (s.updTxn t f).recst = s.recst := rfl
@[simp] theorem State.updTxn_trips (t : Nat) (f : Txn → Txn) : (s.updTxn t f).trips = s.trips := rfl
@[simp] theorem State.updTxn_edges (t : Nat) (f : Txn → Txn) : (s.updTxn t f).edges = s.edges := rfl
@[simp] theorem State.updTxn_gatesH (t : Nat) (f : Txn → Txn) : (s.updTxn t f).gatesH = s.gatesH := rfl
@[simp] theorem State.updTxn_gatesL (t : Nat) (f : Txn → Txn) : (s.updTxn t f).gatesL = s.gatesL := rfl
@[simp] theorem State.updTxn_drvs (t : Nat) (f : Txn → Txn) : (s.updTxn t f).drvs = s.drvs := rfl
@[simp] theorem State.updTxn_clusters (t : Nat) (f : Txn → Txn) : (s.updTxn t f).clusters = s.clusters := rfl
@[simp] theorem State.updTxn_gmus (t : Nat) (f : Txn → Txn) : (s.updTxn t f).gmus = s.gmus := rfl
@[simp] theorem State.updTxn_blks (t : Nat) (f : Txn → Txn) : (s.updTxn t f).blks = s.blks := rfl
@[simp] theorem State.updTxn_npms (t : Nat) (f : Txn → Txn) : (s.updTxn t f).npms = s.npms := rfl
@[simp] theorem State.updTxn_regions (t : Nat) (f : Txn → Txn) : (s.updTxn t f).regions = s.regions := rfl
@[simp] theorem State.updTxn_dcs (t : Nat) (f : Txn → Txn) : (s.updTxn t f).dcs = s.dcs := rfl
@[simp] theorem State.updTxn_chgs (t : Nat) (f : Txn → Txn) : (s.updTxn t f).chgs = s.chgs := rfl
@[simp] theorem State.updTxn_ldgs (t : Nat) (f : Txn → Txn) : (s.updTxn t f).ldgs = s.ldgs := rfl
@[simp] theorem State.updTxn_journal (t : Nat) (f : Txn → Txn) : (s.updTxn t f).journal = s.journal := rfl
@[simp] theorem State.updTxn_snet (t : Nat) (f : Txn → Txn) : (s.updTxn t f).snet = s.snet := rfl
@[simp] theorem State.updTxn_svrs (t : Nat) (f : Txn → Txn) : (s.updTxn t f).svrs = s.svrs := rfl
@[simp] theorem State.updTxn_auxs (t : Nat) (f : Txn → Txn) : (s.updTxn t f).auxs = s.auxs := rfl
@[simp] theorem State.updTxn_fbs (t : Nat) (f : Txn → Txn) : (s.updTxn t f).fbs = s.fbs := rfl
@[simp] theorem State.updTxn_thm (t : Nat) (f : Txn → Txn) : (s.updTxn t f).thm = s.thm := rfl
@[simp] theorem State.updTxn_pack (t : Nat) (f : Txn → Txn) : (s.updTxn t f).pack = s.pack := rfl
@[simp] theorem State.updTxn_meas (t : Nat) (f : Txn → Txn) : (s.updTxn t f).meas = s.meas := rfl
@[simp] theorem State.updTxn_cans (t : Nat) (f : Txn → Txn) : (s.updTxn t f).cans = s.cans := rfl
@[simp] theorem State.updTxn_snl (t : Nat) (f : Txn → Txn) : (s.updTxn t f).snl = s.snl := rfl
@[simp] theorem State.updTxn_trmons (t : Nat) (f : Txn → Txn) : (s.updTxn t f).trmons = s.trmons := rfl
@[simp] theorem State.updTxn_slackCd (t : Nat) (f : Txn → Txn) : (s.updTxn t f).slackCd = s.slackCd := rfl
@[simp] theorem State.updTxn_slackMd (t : Nat) (f : Txn → Txn) : (s.updTxn t f).slackMd = s.slackMd := rfl
@[simp] theorem State.updTxn_stalls (t : Nat) (f : Txn → Txn) : (s.updTxn t f).stalls = s.stalls := rfl
@[simp] theorem State.updTxn_bad (t : Nat) (f : Txn → Txn) : (s.updTxn t f).bad = s.bad := rfl
@[simp] theorem State.updTxn_store (t : Nat) (f : Txn → Txn) : (s.updTxn t f).store = s.store := rfl
@[simp] theorem State.updTxn_auths (t : Nat) (f : Txn → Txn) : (s.updTxn t f).auths = s.auths := rfl
@[simp] theorem State.updTxn_power (t : Nat) (f : Txn → Txn) : (s.updTxn t f).power = s.power := rfl
@[simp] theorem State.updTxn_diag (t : Nat) (f : Txn → Txn) : (s.updTxn t f).diag = s.diag := rfl
@[simp] theorem State.updTxn_rm (t : Nat) (f : Txn → Txn) : (s.updTxn t f).rm = s.rm := rfl
@[simp] theorem State.updTxn_sys (t : Nat) (f : Txn → Txn) : (s.updTxn t f).sys = s.sys := rfl
@[simp] theorem State.updTxn_modid (t : Nat) (f : Txn → Txn) : (s.updTxn t f).modid = s.modid := rfl
@[simp] theorem State.updTxn_lastTid (t : Nat) (f : Txn → Txn) : (s.updTxn t f).lastTid = s.lastTid := rfl
@[simp] theorem State.updTxn_cmdWait (t : Nat) (f : Txn → Txn) : (s.updTxn t f).cmdWait = s.cmdWait := rfl
@[simp] theorem State.updTxn_cpl (t : Nat) (f : Txn → Txn) : (s.updTxn t f).cpl = s.cpl := rfl
@[simp] theorem State.updTxn_eccCor (t : Nat) (f : Txn → Txn) : (s.updTxn t f).eccCor = s.eccCor := rfl
@[simp] theorem State.updTxn_draws (t : Nat) (f : Txn → Txn) : (s.updTxn t f).draws = s.draws := rfl
@[simp] theorem State.updTxn_pending (t : Nat) (f : Txn → Txn) : (s.updTxn t f).pending = s.pending := rfl
@[simp] theorem State.updTxn_reg (t : Nat) (f : Txn → Txn) (off : Nat) : (s.updTxn t f).reg off = s.reg off := rfl
@[simp] theorem State.updTxn_fld (t : Nat) (f : Txn → Txn) (off : Nat) (fl : Field) : (s.updTxn t f).fld off fl = s.fld off fl := rfl
@[simp] theorem State.updTxn_bit (t : Nat) (f : Txn → Txn) (off : Nat) (fl : Field) : (s.updTxn t f).bit off fl = s.bit off fl := rfl

/-! ### updTrmon -/

@[simp] theorem State.updTrmon_variant (m : Nat) (f : TrMon → TrMon) : (s.updTrmon m f).variant = s.variant := rfl
@[simp] theorem State.updTrmon_now (m : Nat) (f : TrMon → TrMon) : (s.updTrmon m f).now = s.now := rfl
@[simp] theorem State.updTrmon_tb (m : Nat) (f : TrMon → TrMon) : (s.updTrmon m f).tb = s.tb := rfl
@[simp] theorem State.updTrmon_ptp (m : Nat) (f : TrMon → TrMon) : (s.updTrmon m f).ptp = s.ptp := rfl
@[simp] theorem State.updTrmon_ptpAdd (m : Nat) (f : TrMon → TrMon) : (s.updTrmon m f).ptpAdd = s.ptpAdd := rfl
@[simp] theorem State.updTrmon_cdRun (m : Nat) (f : TrMon → TrMon) : (s.updTrmon m f).cdRun = s.cdRun := rfl
@[simp] theorem State.updTrmon_rmRun (m : Nat) (f : TrMon → TrMon) : (s.updTrmon m f).rmRun = s.rmRun := rfl
@[simp] theorem State.updTrmon_regs (m : Nat) (f : TrMon → TrMon) : (s.updTrmon m f).regs = s.regs := rfl
@[simp] theorem State.updTrmon_dram (m : Nat) (f : TrMon → TrMon) : (s.updTrmon m f).dram = s.dram := rfl
@[simp] theorem State.updTrmon_hostMem (m : Nat) (f : TrMon → TrMon) : (s.updTrmon m f).hostMem = s.hostMem := rfl
@[simp] theorem State.updTrmon_events (m : Nat) (f : TrMon → TrMon) : (s.updTrmon m f).events = s.events := rfl
@[simp] theorem State.updTrmon_recQueue (m : Nat) (f : TrMon → TrMon) : (s.updTrmon m f).recQueue = s.recQueue := rfl
@[simp] theorem State.updTrmon_recStore (m : Nat) (f : TrMon → TrMon) : (s.updTrmon m f).recStore = s.recStore := rfl
@[simp] theorem State.updTrmon_safetyLog (m : Nat) (f : TrMon → TrMon) : (s.updTrmon m f).safetyLog = s.safetyLog := rfl
@[simp] theorem State.updTrmon_clearLog (m : Nat) (f : TrMon → TrMon) : (s.updTrmon m f).clearLog = s.clearLog := rfl
@[simp] theorem State.updTrmon_mbx (m : Nat) (f : TrMon → TrMon) : (s.updTrmon m f).mbx = s.mbx := rfl
@[simp] theorem State.updTrmon_devQueue (m : Nat) (f : TrMon → TrMon) : (s.updTrmon m f).devQueue = s.devQueue := rfl
@[simp] theorem State.updTrmon_msi (m : Nat) (f : TrMon → TrMon) : (s.updTrmon m f).msi = s.msi := rfl
@[simp] theorem State.updTrmon_rings (m : Nat) (f : TrMon → TrMon) : (s.updTrmon m f).rings = s.rings := rfl
@[simp] theorem State.updTrmon_barkerSt (m : Nat) (f : TrMon → TrMon) : (s.updTrmon m f).barkerSt = s.barkerSt := rfl
@[simp] theorem State.updTrmon_profs (m : Nat) (f : TrMon → TrMon) : (s.updTrmon m f).profs = s.profs := rfl
@[simp] theorem State.updTrmon_recst (m : Nat) (f : TrMon → TrMon) : (s.updTrmon m f).recst = s.recst := rfl
@[simp] theorem State.updTrmon_trips (m : Nat) (f : TrMon → TrMon) : (s.updTrmon m f).trips = s.trips := rfl
@[simp] theorem State.updTrmon_edges (m : Nat) (f : TrMon → TrMon) : (s.updTrmon m f).edges = s.edges := rfl
@[simp] theorem State.updTrmon_gatesH (m : Nat) (f : TrMon → TrMon) : (s.updTrmon m f).gatesH = s.gatesH := rfl
@[simp] theorem State.updTrmon_gatesL (m : Nat) (f : TrMon → TrMon) : (s.updTrmon m f).gatesL = s.gatesL := rfl
@[simp] theorem State.updTrmon_drvs (m : Nat) (f : TrMon → TrMon) : (s.updTrmon m f).drvs = s.drvs := rfl
@[simp] theorem State.updTrmon_clusters (m : Nat) (f : TrMon → TrMon) : (s.updTrmon m f).clusters = s.clusters := rfl
@[simp] theorem State.updTrmon_gmus (m : Nat) (f : TrMon → TrMon) : (s.updTrmon m f).gmus = s.gmus := rfl
@[simp] theorem State.updTrmon_blks (m : Nat) (f : TrMon → TrMon) : (s.updTrmon m f).blks = s.blks := rfl
@[simp] theorem State.updTrmon_npms (m : Nat) (f : TrMon → TrMon) : (s.updTrmon m f).npms = s.npms := rfl
@[simp] theorem State.updTrmon_regions (m : Nat) (f : TrMon → TrMon) : (s.updTrmon m f).regions = s.regions := rfl
@[simp] theorem State.updTrmon_dcs (m : Nat) (f : TrMon → TrMon) : (s.updTrmon m f).dcs = s.dcs := rfl
@[simp] theorem State.updTrmon_chgs (m : Nat) (f : TrMon → TrMon) : (s.updTrmon m f).chgs = s.chgs := rfl
@[simp] theorem State.updTrmon_ldgs (m : Nat) (f : TrMon → TrMon) : (s.updTrmon m f).ldgs = s.ldgs := rfl
@[simp] theorem State.updTrmon_journal (m : Nat) (f : TrMon → TrMon) : (s.updTrmon m f).journal = s.journal := rfl
@[simp] theorem State.updTrmon_snet (m : Nat) (f : TrMon → TrMon) : (s.updTrmon m f).snet = s.snet := rfl
@[simp] theorem State.updTrmon_svrs (m : Nat) (f : TrMon → TrMon) : (s.updTrmon m f).svrs = s.svrs := rfl
@[simp] theorem State.updTrmon_auxs (m : Nat) (f : TrMon → TrMon) : (s.updTrmon m f).auxs = s.auxs := rfl
@[simp] theorem State.updTrmon_fbs (m : Nat) (f : TrMon → TrMon) : (s.updTrmon m f).fbs = s.fbs := rfl
@[simp] theorem State.updTrmon_thm (m : Nat) (f : TrMon → TrMon) : (s.updTrmon m f).thm = s.thm := rfl
@[simp] theorem State.updTrmon_pack (m : Nat) (f : TrMon → TrMon) : (s.updTrmon m f).pack = s.pack := rfl
@[simp] theorem State.updTrmon_meas (m : Nat) (f : TrMon → TrMon) : (s.updTrmon m f).meas = s.meas := rfl
@[simp] theorem State.updTrmon_txns (m : Nat) (f : TrMon → TrMon) : (s.updTrmon m f).txns = s.txns := rfl
@[simp] theorem State.updTrmon_cans (m : Nat) (f : TrMon → TrMon) : (s.updTrmon m f).cans = s.cans := rfl
@[simp] theorem State.updTrmon_snl (m : Nat) (f : TrMon → TrMon) : (s.updTrmon m f).snl = s.snl := rfl
@[simp] theorem State.updTrmon_slackCd (m : Nat) (f : TrMon → TrMon) : (s.updTrmon m f).slackCd = s.slackCd := rfl
@[simp] theorem State.updTrmon_slackMd (m : Nat) (f : TrMon → TrMon) : (s.updTrmon m f).slackMd = s.slackMd := rfl
@[simp] theorem State.updTrmon_stalls (m : Nat) (f : TrMon → TrMon) : (s.updTrmon m f).stalls = s.stalls := rfl
@[simp] theorem State.updTrmon_bad (m : Nat) (f : TrMon → TrMon) : (s.updTrmon m f).bad = s.bad := rfl
@[simp] theorem State.updTrmon_store (m : Nat) (f : TrMon → TrMon) : (s.updTrmon m f).store = s.store := rfl
@[simp] theorem State.updTrmon_auths (m : Nat) (f : TrMon → TrMon) : (s.updTrmon m f).auths = s.auths := rfl
@[simp] theorem State.updTrmon_power (m : Nat) (f : TrMon → TrMon) : (s.updTrmon m f).power = s.power := rfl
@[simp] theorem State.updTrmon_diag (m : Nat) (f : TrMon → TrMon) : (s.updTrmon m f).diag = s.diag := rfl
@[simp] theorem State.updTrmon_rm (m : Nat) (f : TrMon → TrMon) : (s.updTrmon m f).rm = s.rm := rfl
@[simp] theorem State.updTrmon_sys (m : Nat) (f : TrMon → TrMon) : (s.updTrmon m f).sys = s.sys := rfl
@[simp] theorem State.updTrmon_modid (m : Nat) (f : TrMon → TrMon) : (s.updTrmon m f).modid = s.modid := rfl
@[simp] theorem State.updTrmon_lastTid (m : Nat) (f : TrMon → TrMon) : (s.updTrmon m f).lastTid = s.lastTid := rfl
@[simp] theorem State.updTrmon_cmdWait (m : Nat) (f : TrMon → TrMon) : (s.updTrmon m f).cmdWait = s.cmdWait := rfl
@[simp] theorem State.updTrmon_cpl (m : Nat) (f : TrMon → TrMon) : (s.updTrmon m f).cpl = s.cpl := rfl
@[simp] theorem State.updTrmon_eccCor (m : Nat) (f : TrMon → TrMon) : (s.updTrmon m f).eccCor = s.eccCor := rfl
@[simp] theorem State.updTrmon_draws (m : Nat) (f : TrMon → TrMon) : (s.updTrmon m f).draws = s.draws := rfl
@[simp] theorem State.updTrmon_pending (m : Nat) (f : TrMon → TrMon) : (s.updTrmon m f).pending = s.pending := rfl
@[simp] theorem State.updTrmon_reg (m : Nat) (f : TrMon → TrMon) (off : Nat) : (s.updTrmon m f).reg off = s.reg off := rfl
@[simp] theorem State.updTrmon_fld (m : Nat) (f : TrMon → TrMon) (off : Nat) (fl : Field) : (s.updTrmon m f).fld off fl = s.fld off fl := rfl
@[simp] theorem State.updTrmon_bit (m : Nat) (f : TrMon → TrMon) (off : Nat) (fl : Field) : (s.updTrmon m f).bit off fl = s.bit off fl := rfl

/-! ### updRm -/

@[simp] theorem State.updRm_variant (f : Rm → Rm) : (s.updRm f).variant = s.variant := rfl
@[simp] theorem State.updRm_now (f : Rm → Rm) : (s.updRm f).now = s.now := rfl
@[simp] theorem State.updRm_tb (f : Rm → Rm) : (s.updRm f).tb = s.tb := rfl
@[simp] theorem State.updRm_ptp (f : Rm → Rm) : (s.updRm f).ptp = s.ptp := rfl
@[simp] theorem State.updRm_ptpAdd (f : Rm → Rm) : (s.updRm f).ptpAdd = s.ptpAdd := rfl
@[simp] theorem State.updRm_cdRun (f : Rm → Rm) : (s.updRm f).cdRun = s.cdRun := rfl
@[simp] theorem State.updRm_rmRun (f : Rm → Rm) : (s.updRm f).rmRun = s.rmRun := rfl
@[simp] theorem State.updRm_regs (f : Rm → Rm) : (s.updRm f).regs = s.regs := rfl
@[simp] theorem State.updRm_dram (f : Rm → Rm) : (s.updRm f).dram = s.dram := rfl
@[simp] theorem State.updRm_hostMem (f : Rm → Rm) : (s.updRm f).hostMem = s.hostMem := rfl
@[simp] theorem State.updRm_events (f : Rm → Rm) : (s.updRm f).events = s.events := rfl
@[simp] theorem State.updRm_recQueue (f : Rm → Rm) : (s.updRm f).recQueue = s.recQueue := rfl
@[simp] theorem State.updRm_recStore (f : Rm → Rm) : (s.updRm f).recStore = s.recStore := rfl
@[simp] theorem State.updRm_safetyLog (f : Rm → Rm) : (s.updRm f).safetyLog = s.safetyLog := rfl
@[simp] theorem State.updRm_clearLog (f : Rm → Rm) : (s.updRm f).clearLog = s.clearLog := rfl
@[simp] theorem State.updRm_mbx (f : Rm → Rm) : (s.updRm f).mbx = s.mbx := rfl
@[simp] theorem State.updRm_devQueue (f : Rm → Rm) : (s.updRm f).devQueue = s.devQueue := rfl
@[simp] theorem State.updRm_msi (f : Rm → Rm) : (s.updRm f).msi = s.msi := rfl
@[simp] theorem State.updRm_rings (f : Rm → Rm) : (s.updRm f).rings = s.rings := rfl
@[simp] theorem State.updRm_barkerSt (f : Rm → Rm) : (s.updRm f).barkerSt = s.barkerSt := rfl
@[simp] theorem State.updRm_profs (f : Rm → Rm) : (s.updRm f).profs = s.profs := rfl
@[simp] theorem State.updRm_recst (f : Rm → Rm) : (s.updRm f).recst = s.recst := rfl
@[simp] theorem State.updRm_trips (f : Rm → Rm) : (s.updRm f).trips = s.trips := rfl
@[simp] theorem State.updRm_edges (f : Rm → Rm) : (s.updRm f).edges = s.edges := rfl
@[simp] theorem State.updRm_gatesH (f : Rm → Rm) : (s.updRm f).gatesH = s.gatesH := rfl
@[simp] theorem State.updRm_gatesL (f : Rm → Rm) : (s.updRm f).gatesL = s.gatesL := rfl
@[simp] theorem State.updRm_drvs (f : Rm → Rm) : (s.updRm f).drvs = s.drvs := rfl
@[simp] theorem State.updRm_clusters (f : Rm → Rm) : (s.updRm f).clusters = s.clusters := rfl
@[simp] theorem State.updRm_gmus (f : Rm → Rm) : (s.updRm f).gmus = s.gmus := rfl
@[simp] theorem State.updRm_blks (f : Rm → Rm) : (s.updRm f).blks = s.blks := rfl
@[simp] theorem State.updRm_npms (f : Rm → Rm) : (s.updRm f).npms = s.npms := rfl
@[simp] theorem State.updRm_regions (f : Rm → Rm) : (s.updRm f).regions = s.regions := rfl
@[simp] theorem State.updRm_dcs (f : Rm → Rm) : (s.updRm f).dcs = s.dcs := rfl
@[simp] theorem State.updRm_chgs (f : Rm → Rm) : (s.updRm f).chgs = s.chgs := rfl
@[simp] theorem State.updRm_ldgs (f : Rm → Rm) : (s.updRm f).ldgs = s.ldgs := rfl
@[simp] theorem State.updRm_journal (f : Rm → Rm) : (s.updRm f).journal = s.journal := rfl
@[simp] theorem State.updRm_snet (f : Rm → Rm) : (s.updRm f).snet = s.snet := rfl
@[simp] theorem State.updRm_svrs (f : Rm → Rm) : (s.updRm f).svrs = s.svrs := rfl
@[simp] theorem State.updRm_auxs (f : Rm → Rm) : (s.updRm f).auxs = s.auxs := rfl
@[simp] theorem State.updRm_fbs (f : Rm → Rm) : (s.updRm f).fbs = s.fbs := rfl
@[simp] theorem State.updRm_thm (f : Rm → Rm) : (s.updRm f).thm = s.thm := rfl
@[simp] theorem State.updRm_pack (f : Rm → Rm) : (s.updRm f).pack = s.pack := rfl
@[simp] theorem State.updRm_meas (f : Rm → Rm) : (s.updRm f).meas = s.meas := rfl
@[simp] theorem State.updRm_txns (f : Rm → Rm) : (s.updRm f).txns = s.txns := rfl
@[simp] theorem State.updRm_cans (f : Rm → Rm) : (s.updRm f).cans = s.cans := rfl
@[simp] theorem State.updRm_snl (f : Rm → Rm) : (s.updRm f).snl = s.snl := rfl
@[simp] theorem State.updRm_trmons (f : Rm → Rm) : (s.updRm f).trmons = s.trmons := rfl
@[simp] theorem State.updRm_slackCd (f : Rm → Rm) : (s.updRm f).slackCd = s.slackCd := rfl
@[simp] theorem State.updRm_slackMd (f : Rm → Rm) : (s.updRm f).slackMd = s.slackMd := rfl
@[simp] theorem State.updRm_stalls (f : Rm → Rm) : (s.updRm f).stalls = s.stalls := rfl
@[simp] theorem State.updRm_bad (f : Rm → Rm) : (s.updRm f).bad = s.bad := rfl
@[simp] theorem State.updRm_store (f : Rm → Rm) : (s.updRm f).store = s.store := rfl
@[simp] theorem State.updRm_auths (f : Rm → Rm) : (s.updRm f).auths = s.auths := rfl
@[simp] theorem State.updRm_power (f : Rm → Rm) : (s.updRm f).power = s.power := rfl
@[simp] theorem State.updRm_diag (f : Rm → Rm) : (s.updRm f).diag = s.diag := rfl
@[simp] theorem State.updRm_sys (f : Rm → Rm) : (s.updRm f).sys = s.sys := rfl
@[simp] theorem State.updRm_modid (f : Rm → Rm) : (s.updRm f).modid = s.modid := rfl
@[simp] theorem State.updRm_lastTid (f : Rm → Rm) : (s.updRm f).lastTid = s.lastTid := rfl
@[simp] theorem State.updRm_cmdWait (f : Rm → Rm) : (s.updRm f).cmdWait = s.cmdWait := rfl
@[simp] theorem State.updRm_cpl (f : Rm → Rm) : (s.updRm f).cpl = s.cpl := rfl
@[simp] theorem State.updRm_eccCor (f : Rm → Rm) : (s.updRm f).eccCor = s.eccCor := rfl
@[simp] theorem State.updRm_draws (f : Rm → Rm) : (s.updRm f).draws = s.draws := rfl
@[simp] theorem State.updRm_pending (f : Rm → Rm) : (s.updRm f).pending = s.pending := rfl
@[simp] theorem State.updRm_reg (f : Rm → Rm) (off : Nat) : (s.updRm f).reg off = s.reg off := rfl
@[simp] theorem State.updRm_fld (f : Rm → Rm) (off : Nat) (fl : Field) : (s.updRm f).fld off fl = s.fld off fl := rfl
@[simp] theorem State.updRm_bit (f : Rm → Rm) (off : Nat) (fl : Field) : (s.updRm f).bit off fl = s.bit off fl := rfl

/-! ### updStore -/

@[simp] theorem State.updStore_variant (f : Store → Store) : (s.updStore f).variant = s.variant := rfl
@[simp] theorem State.updStore_now (f : Store → Store) : (s.updStore f).now = s.now := rfl
@[simp] theorem State.updStore_tb (f : Store → Store) : (s.updStore f).tb = s.tb := rfl
@[simp] theorem State.updStore_ptp (f : Store → Store) : (s.updStore f).ptp = s.ptp := rfl
@[simp] theorem State.updStore_ptpAdd (f : Store → Store) : (s.updStore f).ptpAdd = s.ptpAdd := rfl
@[simp] theorem State.updStore_cdRun (f : Store → Store) : (s.updStore f).cdRun = s.cdRun := rfl
@[simp] theorem State.updStore_rmRun (f : Store → Store) : (s.updStore f).rmRun = s.rmRun := rfl
@[simp] theorem State.updStore_regs (f : Store → Store) : (s.updStore f).regs = s.regs := rfl
@[simp] theorem State.updStore_dram (f : Store → Store) : (s.updStore f).dram = s.dram := rfl
@[simp] theorem State.updStore_hostMem (f : Store → Store) : (s.updStore f).hostMem = s.hostMem := rfl
@[simp] theorem State.updStore_events (f : Store → Store) : (s.updStore f).events = s.events := rfl
@[simp] theorem State.updStore_recQueue (f : Store → Store) : (s.updStore f).recQueue = s.recQueue := rfl
@[simp] theorem State.updStore_recStore (f : Store → Store) : (s.updStore f).recStore = s.recStore := rfl
@[simp] theorem State.updStore_safetyLog (f : Store → Store) : (s.updStore f).safetyLog = s.safetyLog := rfl
@[simp] theorem State.updStore_clearLog (f : Store → Store) : (s.updStore f).clearLog = s.clearLog := rfl
@[simp] theorem State.updStore_mbx (f : Store → Store) : (s.updStore f).mbx = s.mbx := rfl
@[simp] theorem State.updStore_devQueue (f : Store → Store) : (s.updStore f).devQueue = s.devQueue := rfl
@[simp] theorem State.updStore_msi (f : Store → Store) : (s.updStore f).msi = s.msi := rfl
@[simp] theorem State.updStore_rings (f : Store → Store) : (s.updStore f).rings = s.rings := rfl
@[simp] theorem State.updStore_barkerSt (f : Store → Store) : (s.updStore f).barkerSt = s.barkerSt := rfl
@[simp] theorem State.updStore_profs (f : Store → Store) : (s.updStore f).profs = s.profs := rfl
@[simp] theorem State.updStore_recst (f : Store → Store) : (s.updStore f).recst = s.recst := rfl
@[simp] theorem State.updStore_trips (f : Store → Store) : (s.updStore f).trips = s.trips := rfl
@[simp] theorem State.updStore_edges (f : Store → Store) : (s.updStore f).edges = s.edges := rfl
@[simp] theorem State.updStore_gatesH (f : Store → Store) : (s.updStore f).gatesH = s.gatesH := rfl
@[simp] theorem State.updStore_gatesL (f : Store → Store) : (s.updStore f).gatesL = s.gatesL := rfl
@[simp] theorem State.updStore_drvs (f : Store → Store) : (s.updStore f).drvs = s.drvs := rfl
@[simp] theorem State.updStore_clusters (f : Store → Store) : (s.updStore f).clusters = s.clusters := rfl
@[simp] theorem State.updStore_gmus (f : Store → Store) : (s.updStore f).gmus = s.gmus := rfl
@[simp] theorem State.updStore_blks (f : Store → Store) : (s.updStore f).blks = s.blks := rfl
@[simp] theorem State.updStore_npms (f : Store → Store) : (s.updStore f).npms = s.npms := rfl
@[simp] theorem State.updStore_regions (f : Store → Store) : (s.updStore f).regions = s.regions := rfl
@[simp] theorem State.updStore_dcs (f : Store → Store) : (s.updStore f).dcs = s.dcs := rfl
@[simp] theorem State.updStore_chgs (f : Store → Store) : (s.updStore f).chgs = s.chgs := rfl
@[simp] theorem State.updStore_ldgs (f : Store → Store) : (s.updStore f).ldgs = s.ldgs := rfl
@[simp] theorem State.updStore_journal (f : Store → Store) : (s.updStore f).journal = s.journal := rfl
@[simp] theorem State.updStore_snet (f : Store → Store) : (s.updStore f).snet = s.snet := rfl
@[simp] theorem State.updStore_svrs (f : Store → Store) : (s.updStore f).svrs = s.svrs := rfl
@[simp] theorem State.updStore_auxs (f : Store → Store) : (s.updStore f).auxs = s.auxs := rfl
@[simp] theorem State.updStore_fbs (f : Store → Store) : (s.updStore f).fbs = s.fbs := rfl
@[simp] theorem State.updStore_thm (f : Store → Store) : (s.updStore f).thm = s.thm := rfl
@[simp] theorem State.updStore_pack (f : Store → Store) : (s.updStore f).pack = s.pack := rfl
@[simp] theorem State.updStore_meas (f : Store → Store) : (s.updStore f).meas = s.meas := rfl
@[simp] theorem State.updStore_txns (f : Store → Store) : (s.updStore f).txns = s.txns := rfl
@[simp] theorem State.updStore_cans (f : Store → Store) : (s.updStore f).cans = s.cans := rfl
@[simp] theorem State.updStore_snl (f : Store → Store) : (s.updStore f).snl = s.snl := rfl
@[simp] theorem State.updStore_trmons (f : Store → Store) : (s.updStore f).trmons = s.trmons := rfl
@[simp] theorem State.updStore_slackCd (f : Store → Store) : (s.updStore f).slackCd = s.slackCd := rfl
@[simp] theorem State.updStore_slackMd (f : Store → Store) : (s.updStore f).slackMd = s.slackMd := rfl
@[simp] theorem State.updStore_stalls (f : Store → Store) : (s.updStore f).stalls = s.stalls := rfl
@[simp] theorem State.updStore_bad (f : Store → Store) : (s.updStore f).bad = s.bad := rfl
@[simp] theorem State.updStore_auths (f : Store → Store) : (s.updStore f).auths = s.auths := rfl
@[simp] theorem State.updStore_power (f : Store → Store) : (s.updStore f).power = s.power := rfl
@[simp] theorem State.updStore_diag (f : Store → Store) : (s.updStore f).diag = s.diag := rfl
@[simp] theorem State.updStore_rm (f : Store → Store) : (s.updStore f).rm = s.rm := rfl
@[simp] theorem State.updStore_sys (f : Store → Store) : (s.updStore f).sys = s.sys := rfl
@[simp] theorem State.updStore_modid (f : Store → Store) : (s.updStore f).modid = s.modid := rfl
@[simp] theorem State.updStore_lastTid (f : Store → Store) : (s.updStore f).lastTid = s.lastTid := rfl
@[simp] theorem State.updStore_cmdWait (f : Store → Store) : (s.updStore f).cmdWait = s.cmdWait := rfl
@[simp] theorem State.updStore_cpl (f : Store → Store) : (s.updStore f).cpl = s.cpl := rfl
@[simp] theorem State.updStore_eccCor (f : Store → Store) : (s.updStore f).eccCor = s.eccCor := rfl
@[simp] theorem State.updStore_draws (f : Store → Store) : (s.updStore f).draws = s.draws := rfl
@[simp] theorem State.updStore_pending (f : Store → Store) : (s.updStore f).pending = s.pending := rfl
@[simp] theorem State.updStore_reg (f : Store → Store) (off : Nat) : (s.updStore f).reg off = s.reg off := rfl
@[simp] theorem State.updStore_fld (f : Store → Store) (off : Nat) (fl : Field) : (s.updStore f).fld off fl = s.fld off fl := rfl
@[simp] theorem State.updStore_bit (f : Store → Store) (off : Nat) (fl : Field) : (s.updStore f).bit off fl = s.bit off fl := rfl

/-! ### updPower -/

@[simp] theorem State.updPower_variant (f : Power → Power) : (s.updPower f).variant = s.variant := rfl
@[simp] theorem State.updPower_now (f : Power → Power) : (s.updPower f).now = s.now := rfl
@[simp] theorem State.updPower_tb (f : Power → Power) : (s.updPower f).tb = s.tb := rfl
@[simp] theorem State.updPower_ptp (f : Power → Power) : (s.updPower f).ptp = s.ptp := rfl
@[simp] theorem State.updPower_ptpAdd (f : Power → Power) : (s.updPower f).ptpAdd = s.ptpAdd := rfl
@[simp] theorem State.updPower_cdRun (f : Power → Power) : (s.updPower f).cdRun = s.cdRun := rfl
@[simp] theorem State.updPower_rmRun (f : Power → Power) : (s.updPower f).rmRun = s.rmRun := rfl
@[simp] theorem State.updPower_regs (f : Power → Power) : (s.updPower f).regs = s.regs := rfl
@[simp] theorem State.updPower_dram (f : Power → Power) : (s.updPower f).dram = s.dram := rfl
@[simp] theorem State.updPower_hostMem (f : Power → Power) : (s.updPower f).hostMem = s.hostMem := rfl
@[simp] theorem State.updPower_events (f : Power → Power) : (s.updPower f).events = s.events := rfl
@[simp] theorem State.updPower_recQueue (f : Power → Power) : (s.updPower f).recQueue = s.recQueue := rfl
@[simp] theorem State.updPower_recStore (f : Power → Power) : (s.updPower f).recStore = s.recStore := rfl
@[simp] theorem State.updPower_safetyLog (f : Power → Power) : (s.updPower f).safetyLog = s.safetyLog := rfl
@[simp] theorem State.updPower_clearLog (f : Power → Power) : (s.updPower f).clearLog = s.clearLog := rfl
@[simp] theorem State.updPower_mbx (f : Power → Power) : (s.updPower f).mbx = s.mbx := rfl
@[simp] theorem State.updPower_devQueue (f : Power → Power) : (s.updPower f).devQueue = s.devQueue := rfl
@[simp] theorem State.updPower_msi (f : Power → Power) : (s.updPower f).msi = s.msi := rfl
@[simp] theorem State.updPower_rings (f : Power → Power) : (s.updPower f).rings = s.rings := rfl
@[simp] theorem State.updPower_barkerSt (f : Power → Power) : (s.updPower f).barkerSt = s.barkerSt := rfl
@[simp] theorem State.updPower_profs (f : Power → Power) : (s.updPower f).profs = s.profs := rfl
@[simp] theorem State.updPower_recst (f : Power → Power) : (s.updPower f).recst = s.recst := rfl
@[simp] theorem State.updPower_trips (f : Power → Power) : (s.updPower f).trips = s.trips := rfl
@[simp] theorem State.updPower_edges (f : Power → Power) : (s.updPower f).edges = s.edges := rfl
@[simp] theorem State.updPower_gatesH (f : Power → Power) : (s.updPower f).gatesH = s.gatesH := rfl
@[simp] theorem State.updPower_gatesL (f : Power → Power) : (s.updPower f).gatesL = s.gatesL := rfl
@[simp] theorem State.updPower_drvs (f : Power → Power) : (s.updPower f).drvs = s.drvs := rfl
@[simp] theorem State.updPower_clusters (f : Power → Power) : (s.updPower f).clusters = s.clusters := rfl
@[simp] theorem State.updPower_gmus (f : Power → Power) : (s.updPower f).gmus = s.gmus := rfl
@[simp] theorem State.updPower_blks (f : Power → Power) : (s.updPower f).blks = s.blks := rfl
@[simp] theorem State.updPower_npms (f : Power → Power) : (s.updPower f).npms = s.npms := rfl
@[simp] theorem State.updPower_regions (f : Power → Power) : (s.updPower f).regions = s.regions := rfl
@[simp] theorem State.updPower_dcs (f : Power → Power) : (s.updPower f).dcs = s.dcs := rfl
@[simp] theorem State.updPower_chgs (f : Power → Power) : (s.updPower f).chgs = s.chgs := rfl
@[simp] theorem State.updPower_ldgs (f : Power → Power) : (s.updPower f).ldgs = s.ldgs := rfl
@[simp] theorem State.updPower_journal (f : Power → Power) : (s.updPower f).journal = s.journal := rfl
@[simp] theorem State.updPower_snet (f : Power → Power) : (s.updPower f).snet = s.snet := rfl
@[simp] theorem State.updPower_svrs (f : Power → Power) : (s.updPower f).svrs = s.svrs := rfl
@[simp] theorem State.updPower_auxs (f : Power → Power) : (s.updPower f).auxs = s.auxs := rfl
@[simp] theorem State.updPower_fbs (f : Power → Power) : (s.updPower f).fbs = s.fbs := rfl
@[simp] theorem State.updPower_thm (f : Power → Power) : (s.updPower f).thm = s.thm := rfl
@[simp] theorem State.updPower_pack (f : Power → Power) : (s.updPower f).pack = s.pack := rfl
@[simp] theorem State.updPower_meas (f : Power → Power) : (s.updPower f).meas = s.meas := rfl
@[simp] theorem State.updPower_txns (f : Power → Power) : (s.updPower f).txns = s.txns := rfl
@[simp] theorem State.updPower_cans (f : Power → Power) : (s.updPower f).cans = s.cans := rfl
@[simp] theorem State.updPower_snl (f : Power → Power) : (s.updPower f).snl = s.snl := rfl
@[simp] theorem State.updPower_trmons (f : Power → Power) : (s.updPower f).trmons = s.trmons := rfl
@[simp] theorem State.updPower_slackCd (f : Power → Power) : (s.updPower f).slackCd = s.slackCd := rfl
@[simp] theorem State.updPower_slackMd (f : Power → Power) : (s.updPower f).slackMd = s.slackMd := rfl
@[simp] theorem State.updPower_stalls (f : Power → Power) : (s.updPower f).stalls = s.stalls := rfl
@[simp] theorem State.updPower_bad (f : Power → Power) : (s.updPower f).bad = s.bad := rfl
@[simp] theorem State.updPower_store (f : Power → Power) : (s.updPower f).store = s.store := rfl
@[simp] theorem State.updPower_auths (f : Power → Power) : (s.updPower f).auths = s.auths := rfl
@[simp] theorem State.updPower_diag (f : Power → Power) : (s.updPower f).diag = s.diag := rfl
@[simp] theorem State.updPower_rm (f : Power → Power) : (s.updPower f).rm = s.rm := rfl
@[simp] theorem State.updPower_sys (f : Power → Power) : (s.updPower f).sys = s.sys := rfl
@[simp] theorem State.updPower_modid (f : Power → Power) : (s.updPower f).modid = s.modid := rfl
@[simp] theorem State.updPower_lastTid (f : Power → Power) : (s.updPower f).lastTid = s.lastTid := rfl
@[simp] theorem State.updPower_cmdWait (f : Power → Power) : (s.updPower f).cmdWait = s.cmdWait := rfl
@[simp] theorem State.updPower_cpl (f : Power → Power) : (s.updPower f).cpl = s.cpl := rfl
@[simp] theorem State.updPower_eccCor (f : Power → Power) : (s.updPower f).eccCor = s.eccCor := rfl
@[simp] theorem State.updPower_draws (f : Power → Power) : (s.updPower f).draws = s.draws := rfl
@[simp] theorem State.updPower_pending (f : Power → Power) : (s.updPower f).pending = s.pending := rfl
@[simp] theorem State.updPower_reg (f : Power → Power) (off : Nat) : (s.updPower f).reg off = s.reg off := rfl
@[simp] theorem State.updPower_fld (f : Power → Power) (off : Nat) (fl : Field) : (s.updPower f).fld off fl = s.fld off fl := rfl
@[simp] theorem State.updPower_bit (f : Power → Power) (off : Nat) (fl : Field) : (s.updPower f).bit off fl = s.bit off fl := rfl

/-! ### updCan -/

@[simp] theorem State.updCan_variant (x : Nat) (f : CanSt → CanSt) : (s.updCan x f).variant = s.variant := rfl
@[simp] theorem State.updCan_now (x : Nat) (f : CanSt → CanSt) : (s.updCan x f).now = s.now := rfl
@[simp] theorem State.updCan_tb (x : Nat) (f : CanSt → CanSt) : (s.updCan x f).tb = s.tb := rfl
@[simp] theorem State.updCan_ptp (x : Nat) (f : CanSt → CanSt) : (s.updCan x f).ptp = s.ptp := rfl
@[simp] theorem State.updCan_ptpAdd (x : Nat) (f : CanSt → CanSt) : (s.updCan x f).ptpAdd = s.ptpAdd := rfl
@[simp] theorem State.updCan_cdRun (x : Nat) (f : CanSt → CanSt) : (s.updCan x f).cdRun = s.cdRun := rfl
@[simp] theorem State.updCan_rmRun (x : Nat) (f : CanSt → CanSt) : (s.updCan x f).rmRun = s.rmRun := rfl
@[simp] theorem State.updCan_regs (x : Nat) (f : CanSt → CanSt) : (s.updCan x f).regs = s.regs := rfl
@[simp] theorem State.updCan_dram (x : Nat) (f : CanSt → CanSt) : (s.updCan x f).dram = s.dram := rfl
@[simp] theorem State.updCan_hostMem (x : Nat) (f : CanSt → CanSt) : (s.updCan x f).hostMem = s.hostMem := rfl
@[simp] theorem State.updCan_events (x : Nat) (f : CanSt → CanSt) : (s.updCan x f).events = s.events := rfl
@[simp] theorem State.updCan_recQueue (x : Nat) (f : CanSt → CanSt) : (s.updCan x f).recQueue = s.recQueue := rfl
@[simp] theorem State.updCan_recStore (x : Nat) (f : CanSt → CanSt) : (s.updCan x f).recStore = s.recStore := rfl
@[simp] theorem State.updCan_safetyLog (x : Nat) (f : CanSt → CanSt) : (s.updCan x f).safetyLog = s.safetyLog := rfl
@[simp] theorem State.updCan_clearLog (x : Nat) (f : CanSt → CanSt) : (s.updCan x f).clearLog = s.clearLog := rfl
@[simp] theorem State.updCan_mbx (x : Nat) (f : CanSt → CanSt) : (s.updCan x f).mbx = s.mbx := rfl
@[simp] theorem State.updCan_devQueue (x : Nat) (f : CanSt → CanSt) : (s.updCan x f).devQueue = s.devQueue := rfl
@[simp] theorem State.updCan_msi (x : Nat) (f : CanSt → CanSt) : (s.updCan x f).msi = s.msi := rfl
@[simp] theorem State.updCan_rings (x : Nat) (f : CanSt → CanSt) : (s.updCan x f).rings = s.rings := rfl
@[simp] theorem State.updCan_barkerSt (x : Nat) (f : CanSt → CanSt) : (s.updCan x f).barkerSt = s.barkerSt := rfl
@[simp] theorem State.updCan_profs (x : Nat) (f : CanSt → CanSt) : (s.updCan x f).profs = s.profs := rfl
@[simp] theorem State.updCan_recst (x : Nat) (f : CanSt → CanSt) : (s.updCan x f).recst = s.recst := rfl
@[simp] theorem State.updCan_trips (x : Nat) (f : CanSt → CanSt) : (s.updCan x f).trips = s.trips := rfl
@[simp] theorem State.updCan_edges (x : Nat) (f : CanSt → CanSt) : (s.updCan x f).edges = s.edges := rfl
@[simp] theorem State.updCan_gatesH (x : Nat) (f : CanSt → CanSt) : (s.updCan x f).gatesH = s.gatesH := rfl
@[simp] theorem State.updCan_gatesL (x : Nat) (f : CanSt → CanSt) : (s.updCan x f).gatesL = s.gatesL := rfl
@[simp] theorem State.updCan_drvs (x : Nat) (f : CanSt → CanSt) : (s.updCan x f).drvs = s.drvs := rfl
@[simp] theorem State.updCan_clusters (x : Nat) (f : CanSt → CanSt) : (s.updCan x f).clusters = s.clusters := rfl
@[simp] theorem State.updCan_gmus (x : Nat) (f : CanSt → CanSt) : (s.updCan x f).gmus = s.gmus := rfl
@[simp] theorem State.updCan_blks (x : Nat) (f : CanSt → CanSt) : (s.updCan x f).blks = s.blks := rfl
@[simp] theorem State.updCan_npms (x : Nat) (f : CanSt → CanSt) : (s.updCan x f).npms = s.npms := rfl
@[simp] theorem State.updCan_regions (x : Nat) (f : CanSt → CanSt) : (s.updCan x f).regions = s.regions := rfl
@[simp] theorem State.updCan_dcs (x : Nat) (f : CanSt → CanSt) : (s.updCan x f).dcs = s.dcs := rfl
@[simp] theorem State.updCan_chgs (x : Nat) (f : CanSt → CanSt) : (s.updCan x f).chgs = s.chgs := rfl
@[simp] theorem State.updCan_ldgs (x : Nat) (f : CanSt → CanSt) : (s.updCan x f).ldgs = s.ldgs := rfl
@[simp] theorem State.updCan_journal (x : Nat) (f : CanSt → CanSt) : (s.updCan x f).journal = s.journal := rfl
@[simp] theorem State.updCan_snet (x : Nat) (f : CanSt → CanSt) : (s.updCan x f).snet = s.snet := rfl
@[simp] theorem State.updCan_svrs (x : Nat) (f : CanSt → CanSt) : (s.updCan x f).svrs = s.svrs := rfl
@[simp] theorem State.updCan_auxs (x : Nat) (f : CanSt → CanSt) : (s.updCan x f).auxs = s.auxs := rfl
@[simp] theorem State.updCan_fbs (x : Nat) (f : CanSt → CanSt) : (s.updCan x f).fbs = s.fbs := rfl
@[simp] theorem State.updCan_thm (x : Nat) (f : CanSt → CanSt) : (s.updCan x f).thm = s.thm := rfl
@[simp] theorem State.updCan_pack (x : Nat) (f : CanSt → CanSt) : (s.updCan x f).pack = s.pack := rfl
@[simp] theorem State.updCan_meas (x : Nat) (f : CanSt → CanSt) : (s.updCan x f).meas = s.meas := rfl
@[simp] theorem State.updCan_txns (x : Nat) (f : CanSt → CanSt) : (s.updCan x f).txns = s.txns := rfl
@[simp] theorem State.updCan_snl (x : Nat) (f : CanSt → CanSt) : (s.updCan x f).snl = s.snl := rfl
@[simp] theorem State.updCan_trmons (x : Nat) (f : CanSt → CanSt) : (s.updCan x f).trmons = s.trmons := rfl
@[simp] theorem State.updCan_slackCd (x : Nat) (f : CanSt → CanSt) : (s.updCan x f).slackCd = s.slackCd := rfl
@[simp] theorem State.updCan_slackMd (x : Nat) (f : CanSt → CanSt) : (s.updCan x f).slackMd = s.slackMd := rfl
@[simp] theorem State.updCan_stalls (x : Nat) (f : CanSt → CanSt) : (s.updCan x f).stalls = s.stalls := rfl
@[simp] theorem State.updCan_bad (x : Nat) (f : CanSt → CanSt) : (s.updCan x f).bad = s.bad := rfl
@[simp] theorem State.updCan_store (x : Nat) (f : CanSt → CanSt) : (s.updCan x f).store = s.store := rfl
@[simp] theorem State.updCan_auths (x : Nat) (f : CanSt → CanSt) : (s.updCan x f).auths = s.auths := rfl
@[simp] theorem State.updCan_power (x : Nat) (f : CanSt → CanSt) : (s.updCan x f).power = s.power := rfl
@[simp] theorem State.updCan_diag (x : Nat) (f : CanSt → CanSt) : (s.updCan x f).diag = s.diag := rfl
@[simp] theorem State.updCan_rm (x : Nat) (f : CanSt → CanSt) : (s.updCan x f).rm = s.rm := rfl
@[simp] theorem State.updCan_sys (x : Nat) (f : CanSt → CanSt) : (s.updCan x f).sys = s.sys := rfl
@[simp] theorem State.updCan_modid (x : Nat) (f : CanSt → CanSt) : (s.updCan x f).modid = s.modid := rfl
@[simp] theorem State.updCan_lastTid (x : Nat) (f : CanSt → CanSt) : (s.updCan x f).lastTid = s.lastTid := rfl
@[simp] theorem State.updCan_cmdWait (x : Nat) (f : CanSt → CanSt) : (s.updCan x f).cmdWait = s.cmdWait := rfl
@[simp] theorem State.updCan_cpl (x : Nat) (f : CanSt → CanSt) : (s.updCan x f).cpl = s.cpl := rfl
@[simp] theorem State.updCan_eccCor (x : Nat) (f : CanSt → CanSt) : (s.updCan x f).eccCor = s.eccCor := rfl
@[simp] theorem State.updCan_draws (x : Nat) (f : CanSt → CanSt) : (s.updCan x f).draws = s.draws := rfl
@[simp] theorem State.updCan_pending (x : Nat) (f : CanSt → CanSt) : (s.updCan x f).pending = s.pending := rfl
@[simp] theorem State.updCan_reg (x : Nat) (f : CanSt → CanSt) (off : Nat) : (s.updCan x f).reg off = s.reg off := rfl
@[simp] theorem State.updCan_fld (x : Nat) (f : CanSt → CanSt) (off : Nat) (fl : Field) : (s.updCan x f).fld off fl = s.fld off fl := rfl
@[simp] theorem State.updCan_bit (x : Nat) (f : CanSt → CanSt) (off : Nat) (fl : Field) : (s.updCan x f).bit off fl = s.bit off fl := rfl

/-! ### updSnl -/

@[simp] theorem State.updSnl_variant (f : Snl → Snl) : (s.updSnl f).variant = s.variant := rfl
@[simp] theorem State.updSnl_now (f : Snl → Snl) : (s.updSnl f).now = s.now := rfl
@[simp] theorem State.updSnl_tb (f : Snl → Snl) : (s.updSnl f).tb = s.tb := rfl
@[simp] theorem State.updSnl_ptp (f : Snl → Snl) : (s.updSnl f).ptp = s.ptp := rfl
@[simp] theorem State.updSnl_ptpAdd (f : Snl → Snl) : (s.updSnl f).ptpAdd = s.ptpAdd := rfl
@[simp] theorem State.updSnl_cdRun (f : Snl → Snl) : (s.updSnl f).cdRun = s.cdRun := rfl
@[simp] theorem State.updSnl_rmRun (f : Snl → Snl) : (s.updSnl f).rmRun = s.rmRun := rfl
@[simp] theorem State.updSnl_regs (f : Snl → Snl) : (s.updSnl f).regs = s.regs := rfl
@[simp] theorem State.updSnl_dram (f : Snl → Snl) : (s.updSnl f).dram = s.dram := rfl
@[simp] theorem State.updSnl_hostMem (f : Snl → Snl) : (s.updSnl f).hostMem = s.hostMem := rfl
@[simp] theorem State.updSnl_events (f : Snl → Snl) : (s.updSnl f).events = s.events := rfl
@[simp] theorem State.updSnl_recQueue (f : Snl → Snl) : (s.updSnl f).recQueue = s.recQueue := rfl
@[simp] theorem State.updSnl_recStore (f : Snl → Snl) : (s.updSnl f).recStore = s.recStore := rfl
@[simp] theorem State.updSnl_safetyLog (f : Snl → Snl) : (s.updSnl f).safetyLog = s.safetyLog := rfl
@[simp] theorem State.updSnl_clearLog (f : Snl → Snl) : (s.updSnl f).clearLog = s.clearLog := rfl
@[simp] theorem State.updSnl_mbx (f : Snl → Snl) : (s.updSnl f).mbx = s.mbx := rfl
@[simp] theorem State.updSnl_devQueue (f : Snl → Snl) : (s.updSnl f).devQueue = s.devQueue := rfl
@[simp] theorem State.updSnl_msi (f : Snl → Snl) : (s.updSnl f).msi = s.msi := rfl
@[simp] theorem State.updSnl_rings (f : Snl → Snl) : (s.updSnl f).rings = s.rings := rfl
@[simp] theorem State.updSnl_barkerSt (f : Snl → Snl) : (s.updSnl f).barkerSt = s.barkerSt := rfl
@[simp] theorem State.updSnl_profs (f : Snl → Snl) : (s.updSnl f).profs = s.profs := rfl
@[simp] theorem State.updSnl_recst (f : Snl → Snl) : (s.updSnl f).recst = s.recst := rfl
@[simp] theorem State.updSnl_trips (f : Snl → Snl) : (s.updSnl f).trips = s.trips := rfl
@[simp] theorem State.updSnl_edges (f : Snl → Snl) : (s.updSnl f).edges = s.edges := rfl
@[simp] theorem State.updSnl_gatesH (f : Snl → Snl) : (s.updSnl f).gatesH = s.gatesH := rfl
@[simp] theorem State.updSnl_gatesL (f : Snl → Snl) : (s.updSnl f).gatesL = s.gatesL := rfl
@[simp] theorem State.updSnl_drvs (f : Snl → Snl) : (s.updSnl f).drvs = s.drvs := rfl
@[simp] theorem State.updSnl_clusters (f : Snl → Snl) : (s.updSnl f).clusters = s.clusters := rfl
@[simp] theorem State.updSnl_gmus (f : Snl → Snl) : (s.updSnl f).gmus = s.gmus := rfl
@[simp] theorem State.updSnl_blks (f : Snl → Snl) : (s.updSnl f).blks = s.blks := rfl
@[simp] theorem State.updSnl_npms (f : Snl → Snl) : (s.updSnl f).npms = s.npms := rfl
@[simp] theorem State.updSnl_regions (f : Snl → Snl) : (s.updSnl f).regions = s.regions := rfl
@[simp] theorem State.updSnl_dcs (f : Snl → Snl) : (s.updSnl f).dcs = s.dcs := rfl
@[simp] theorem State.updSnl_chgs (f : Snl → Snl) : (s.updSnl f).chgs = s.chgs := rfl
@[simp] theorem State.updSnl_ldgs (f : Snl → Snl) : (s.updSnl f).ldgs = s.ldgs := rfl
@[simp] theorem State.updSnl_journal (f : Snl → Snl) : (s.updSnl f).journal = s.journal := rfl
@[simp] theorem State.updSnl_snet (f : Snl → Snl) : (s.updSnl f).snet = s.snet := rfl
@[simp] theorem State.updSnl_svrs (f : Snl → Snl) : (s.updSnl f).svrs = s.svrs := rfl
@[simp] theorem State.updSnl_auxs (f : Snl → Snl) : (s.updSnl f).auxs = s.auxs := rfl
@[simp] theorem State.updSnl_fbs (f : Snl → Snl) : (s.updSnl f).fbs = s.fbs := rfl
@[simp] theorem State.updSnl_thm (f : Snl → Snl) : (s.updSnl f).thm = s.thm := rfl
@[simp] theorem State.updSnl_pack (f : Snl → Snl) : (s.updSnl f).pack = s.pack := rfl
@[simp] theorem State.updSnl_meas (f : Snl → Snl) : (s.updSnl f).meas = s.meas := rfl
@[simp] theorem State.updSnl_txns (f : Snl → Snl) : (s.updSnl f).txns = s.txns := rfl
@[simp] theorem State.updSnl_cans (f : Snl → Snl) : (s.updSnl f).cans = s.cans := rfl
@[simp] theorem State.updSnl_trmons (f : Snl → Snl) : (s.updSnl f).trmons = s.trmons := rfl
@[simp] theorem State.updSnl_slackCd (f : Snl → Snl) : (s.updSnl f).slackCd = s.slackCd := rfl
@[simp] theorem State.updSnl_slackMd (f : Snl → Snl) : (s.updSnl f).slackMd = s.slackMd := rfl
@[simp] theorem State.updSnl_stalls (f : Snl → Snl) : (s.updSnl f).stalls = s.stalls := rfl
@[simp] theorem State.updSnl_bad (f : Snl → Snl) : (s.updSnl f).bad = s.bad := rfl
@[simp] theorem State.updSnl_store (f : Snl → Snl) : (s.updSnl f).store = s.store := rfl
@[simp] theorem State.updSnl_auths (f : Snl → Snl) : (s.updSnl f).auths = s.auths := rfl
@[simp] theorem State.updSnl_power (f : Snl → Snl) : (s.updSnl f).power = s.power := rfl
@[simp] theorem State.updSnl_diag (f : Snl → Snl) : (s.updSnl f).diag = s.diag := rfl
@[simp] theorem State.updSnl_rm (f : Snl → Snl) : (s.updSnl f).rm = s.rm := rfl
@[simp] theorem State.updSnl_sys (f : Snl → Snl) : (s.updSnl f).sys = s.sys := rfl
@[simp] theorem State.updSnl_modid (f : Snl → Snl) : (s.updSnl f).modid = s.modid := rfl
@[simp] theorem State.updSnl_lastTid (f : Snl → Snl) : (s.updSnl f).lastTid = s.lastTid := rfl
@[simp] theorem State.updSnl_cmdWait (f : Snl → Snl) : (s.updSnl f).cmdWait = s.cmdWait := rfl
@[simp] theorem State.updSnl_cpl (f : Snl → Snl) : (s.updSnl f).cpl = s.cpl := rfl
@[simp] theorem State.updSnl_eccCor (f : Snl → Snl) : (s.updSnl f).eccCor = s.eccCor := rfl
@[simp] theorem State.updSnl_draws (f : Snl → Snl) : (s.updSnl f).draws = s.draws := rfl
@[simp] theorem State.updSnl_pending (f : Snl → Snl) : (s.updSnl f).pending = s.pending := rfl
@[simp] theorem State.updSnl_reg (f : Snl → Snl) (off : Nat) : (s.updSnl f).reg off = s.reg off := rfl
@[simp] theorem State.updSnl_fld (f : Snl → Snl) (off : Nat) (fl : Field) : (s.updSnl f).fld off fl = s.fld off fl := rfl
@[simp] theorem State.updSnl_bit (f : Snl → Snl) (off : Nat) (fl : Field) : (s.updSnl f).bit off fl = s.bit off fl := rfl

/-! ### updSys -/

@[simp] theorem State.updSys_variant (f : SysBus → SysBus) : (s.updSys f).variant = s.variant := rfl
@[simp] theorem State.updSys_now (f : SysBus → SysBus) : (s.updSys f).now = s.now := rfl
@[simp] theorem State.updSys_tb (f : SysBus → SysBus) : (s.updSys f).tb = s.tb := rfl
@[simp] theorem State.updSys_ptp (f : SysBus → SysBus) : (s.updSys f).ptp = s.ptp := rfl
@[simp] theorem State.updSys_ptpAdd (f : SysBus → SysBus) : (s.updSys f).ptpAdd = s.ptpAdd := rfl
@[simp] theorem State.updSys_cdRun (f : SysBus → SysBus) : (s.updSys f).cdRun = s.cdRun := rfl
@[simp] theorem State.updSys_rmRun (f : SysBus → SysBus) : (s.updSys f).rmRun = s.rmRun := rfl
@[simp] theorem State.updSys_regs (f : SysBus → SysBus) : (s.updSys f).regs = s.regs := rfl
@[simp] theorem State.updSys_dram (f : SysBus → SysBus) : (s.updSys f).dram = s.dram := rfl
@[simp] theorem State.updSys_hostMem (f : SysBus → SysBus) : (s.updSys f).hostMem = s.hostMem := rfl
@[simp] theorem State.updSys_events (f : SysBus → SysBus) : (s.updSys f).events = s.events := rfl
@[simp] theorem State.updSys_recQueue (f : SysBus → SysBus) : (s.updSys f).recQueue = s.recQueue := rfl
@[simp] theorem State.updSys_recStore (f : SysBus → SysBus) : (s.updSys f).recStore = s.recStore := rfl
@[simp] theorem State.updSys_safetyLog (f : SysBus → SysBus) : (s.updSys f).safetyLog = s.safetyLog := rfl
@[simp] theorem State.updSys_clearLog (f : SysBus → SysBus) : (s.updSys f).clearLog = s.clearLog := rfl
@[simp] theorem State.updSys_mbx (f : SysBus → SysBus) : (s.updSys f).mbx = s.mbx := rfl
@[simp] theorem State.updSys_devQueue (f : SysBus → SysBus) : (s.updSys f).devQueue = s.devQueue := rfl
@[simp] theorem State.updSys_msi (f : SysBus → SysBus) : (s.updSys f).msi = s.msi := rfl
@[simp] theorem State.updSys_rings (f : SysBus → SysBus) : (s.updSys f).rings = s.rings := rfl
@[simp] theorem State.updSys_barkerSt (f : SysBus → SysBus) : (s.updSys f).barkerSt = s.barkerSt := rfl
@[simp] theorem State.updSys_profs (f : SysBus → SysBus) : (s.updSys f).profs = s.profs := rfl
@[simp] theorem State.updSys_recst (f : SysBus → SysBus) : (s.updSys f).recst = s.recst := rfl
@[simp] theorem State.updSys_trips (f : SysBus → SysBus) : (s.updSys f).trips = s.trips := rfl
@[simp] theorem State.updSys_edges (f : SysBus → SysBus) : (s.updSys f).edges = s.edges := rfl
@[simp] theorem State.updSys_gatesH (f : SysBus → SysBus) : (s.updSys f).gatesH = s.gatesH := rfl
@[simp] theorem State.updSys_gatesL (f : SysBus → SysBus) : (s.updSys f).gatesL = s.gatesL := rfl
@[simp] theorem State.updSys_drvs (f : SysBus → SysBus) : (s.updSys f).drvs = s.drvs := rfl
@[simp] theorem State.updSys_clusters (f : SysBus → SysBus) : (s.updSys f).clusters = s.clusters := rfl
@[simp] theorem State.updSys_gmus (f : SysBus → SysBus) : (s.updSys f).gmus = s.gmus := rfl
@[simp] theorem State.updSys_blks (f : SysBus → SysBus) : (s.updSys f).blks = s.blks := rfl
@[simp] theorem State.updSys_npms (f : SysBus → SysBus) : (s.updSys f).npms = s.npms := rfl
@[simp] theorem State.updSys_regions (f : SysBus → SysBus) : (s.updSys f).regions = s.regions := rfl
@[simp] theorem State.updSys_dcs (f : SysBus → SysBus) : (s.updSys f).dcs = s.dcs := rfl
@[simp] theorem State.updSys_chgs (f : SysBus → SysBus) : (s.updSys f).chgs = s.chgs := rfl
@[simp] theorem State.updSys_ldgs (f : SysBus → SysBus) : (s.updSys f).ldgs = s.ldgs := rfl
@[simp] theorem State.updSys_journal (f : SysBus → SysBus) : (s.updSys f).journal = s.journal := rfl
@[simp] theorem State.updSys_snet (f : SysBus → SysBus) : (s.updSys f).snet = s.snet := rfl
@[simp] theorem State.updSys_svrs (f : SysBus → SysBus) : (s.updSys f).svrs = s.svrs := rfl
@[simp] theorem State.updSys_auxs (f : SysBus → SysBus) : (s.updSys f).auxs = s.auxs := rfl
@[simp] theorem State.updSys_fbs (f : SysBus → SysBus) : (s.updSys f).fbs = s.fbs := rfl
@[simp] theorem State.updSys_thm (f : SysBus → SysBus) : (s.updSys f).thm = s.thm := rfl
@[simp] theorem State.updSys_pack (f : SysBus → SysBus) : (s.updSys f).pack = s.pack := rfl
@[simp] theorem State.updSys_meas (f : SysBus → SysBus) : (s.updSys f).meas = s.meas := rfl
@[simp] theorem State.updSys_txns (f : SysBus → SysBus) : (s.updSys f).txns = s.txns := rfl
@[simp] theorem State.updSys_cans (f : SysBus → SysBus) : (s.updSys f).cans = s.cans := rfl
@[simp] theorem State.updSys_snl (f : SysBus → SysBus) : (s.updSys f).snl = s.snl := rfl
@[simp] theorem State.updSys_trmons (f : SysBus → SysBus) : (s.updSys f).trmons = s.trmons := rfl
@[simp] theorem State.updSys_slackCd (f : SysBus → SysBus) : (s.updSys f).slackCd = s.slackCd := rfl
@[simp] theorem State.updSys_slackMd (f : SysBus → SysBus) : (s.updSys f).slackMd = s.slackMd := rfl
@[simp] theorem State.updSys_stalls (f : SysBus → SysBus) : (s.updSys f).stalls = s.stalls := rfl
@[simp] theorem State.updSys_bad (f : SysBus → SysBus) : (s.updSys f).bad = s.bad := rfl
@[simp] theorem State.updSys_store (f : SysBus → SysBus) : (s.updSys f).store = s.store := rfl
@[simp] theorem State.updSys_auths (f : SysBus → SysBus) : (s.updSys f).auths = s.auths := rfl
@[simp] theorem State.updSys_power (f : SysBus → SysBus) : (s.updSys f).power = s.power := rfl
@[simp] theorem State.updSys_diag (f : SysBus → SysBus) : (s.updSys f).diag = s.diag := rfl
@[simp] theorem State.updSys_rm (f : SysBus → SysBus) : (s.updSys f).rm = s.rm := rfl
@[simp] theorem State.updSys_modid (f : SysBus → SysBus) : (s.updSys f).modid = s.modid := rfl
@[simp] theorem State.updSys_lastTid (f : SysBus → SysBus) : (s.updSys f).lastTid = s.lastTid := rfl
@[simp] theorem State.updSys_cmdWait (f : SysBus → SysBus) : (s.updSys f).cmdWait = s.cmdWait := rfl
@[simp] theorem State.updSys_cpl (f : SysBus → SysBus) : (s.updSys f).cpl = s.cpl := rfl
@[simp] theorem State.updSys_eccCor (f : SysBus → SysBus) : (s.updSys f).eccCor = s.eccCor := rfl
@[simp] theorem State.updSys_draws (f : SysBus → SysBus) : (s.updSys f).draws = s.draws := rfl
@[simp] theorem State.updSys_pending (f : SysBus → SysBus) : (s.updSys f).pending = s.pending := rfl
@[simp] theorem State.updSys_reg (f : SysBus → SysBus) (off : Nat) : (s.updSys f).reg off = s.reg off := rfl
@[simp] theorem State.updSys_fld (f : SysBus → SysBus) (off : Nat) (fl : Field) : (s.updSys f).fld off fl = s.fld off fl := rfl
@[simp] theorem State.updSys_bit (f : SysBus → SysBus) (off : Nat) (fl : Field) : (s.updSys f).bit off fl = s.bit off fl := rfl

/-! ### updGate -/

@[simp] theorem State.updGate_variant (n : Nat) (d : Side) (k : Gate → Gate) : (s.updGate n d k).variant = s.variant := by cases d <;> rfl
@[simp] theorem State.updGate_now (n : Nat) (d : Side) (k : Gate → Gate) : (s.updGate n d k).now = s.now := by cases d <;> rfl
@[simp] theorem State.updGate_tb (n : Nat) (d : Side) (k : Gate → Gate) : (s.updGate n d k).tb = s.tb := by cases d <;> rfl
@[simp] theorem State.updGate_ptp (n : Nat) (d : Side) (k : Gate → Gate) : (s.updGate n d k).ptp = s.ptp := by cases d <;> rfl
@[simp] theorem State.updGate_ptpAdd (n : Nat) (d : Side) (k : Gate → Gate) : (s.updGate n d k).ptpAdd = s.ptpAdd := by cases d <;> rfl
@[simp] theorem State.updGate_cdRun (n : Nat) (d : Side) (k : Gate → Gate) : (s.updGate n d k).cdRun = s.cdRun := by cases d <;> rfl
@[simp] theorem State.updGate_rmRun (n : Nat) (d : Side) (k : Gate → Gate) : (s.updGate n d k).rmRun = s.rmRun := by cases d <;> rfl
@[simp] theorem State.updGate_regs (n : Nat) (d : Side) (k : Gate → Gate) : (s.updGate n d k).regs = s.regs := by cases d <;> rfl
@[simp] theorem State.updGate_dram (n : Nat) (d : Side) (k : Gate → Gate) : (s.updGate n d k).dram = s.dram := by cases d <;> rfl
@[simp] theorem State.updGate_hostMem (n : Nat) (d : Side) (k : Gate → Gate) : (s.updGate n d k).hostMem = s.hostMem := by cases d <;> rfl
@[simp] theorem State.updGate_events (n : Nat) (d : Side) (k : Gate → Gate) : (s.updGate n d k).events = s.events := by cases d <;> rfl
@[simp] theorem State.updGate_recQueue (n : Nat) (d : Side) (k : Gate → Gate) : (s.updGate n d k).recQueue = s.recQueue := by cases d <;> rfl
@[simp] theorem State.updGate_recStore (n : Nat) (d : Side) (k : Gate → Gate) : (s.updGate n d k).recStore = s.recStore := by cases d <;> rfl
@[simp] theorem State.updGate_safetyLog (n : Nat) (d : Side) (k : Gate → Gate) : (s.updGate n d k).safetyLog = s.safetyLog := by cases d <;> rfl
@[simp] theorem State.updGate_clearLog (n : Nat) (d : Side) (k : Gate → Gate) : (s.updGate n d k).clearLog = s.clearLog := by cases d <;> rfl
@[simp] theorem State.updGate_mbx (n : Nat) (d : Side) (k : Gate → Gate) : (s.updGate n d k).mbx = s.mbx := by cases d <;> rfl
@[simp] theorem State.updGate_devQueue (n : Nat) (d : Side) (k : Gate → Gate) : (s.updGate n d k).devQueue = s.devQueue := by cases d <;> rfl
@[simp] theorem State.updGate_msi (n : Nat) (d : Side) (k : Gate → Gate) : (s.updGate n d k).msi = s.msi := by cases d <;> rfl
@[simp] theorem State.updGate_rings (n : Nat) (d : Side) (k : Gate → Gate) : (s.updGate n d k).rings = s.rings := by cases d <;> rfl
@[simp] theorem State.updGate_barkerSt (n : Nat) (d : Side) (k : Gate → Gate) : (s.updGate n d k).barkerSt = s.barkerSt := by cases d <;> rfl
@[simp] theorem State.updGate_profs (n : Nat) (d : Side) (k : Gate → Gate) : (s.updGate n d k).profs = s.profs := by cases d <;> rfl
@[simp] theorem State.updGate_recst (n : Nat) (d : Side) (k : Gate → Gate) : (s.updGate n d k).recst = s.recst := by cases d <;> rfl
@[simp] theorem State.updGate_trips (n : Nat) (d : Side) (k : Gate → Gate) : (s.updGate n d k).trips = s.trips := by cases d <;> rfl
@[simp] theorem State.updGate_edges (n : Nat) (d : Side) (k : Gate → Gate) : (s.updGate n d k).edges = s.edges := by cases d <;> rfl
@[simp] theorem State.updGate_drvs (n : Nat) (d : Side) (k : Gate → Gate) : (s.updGate n d k).drvs = s.drvs := by cases d <;> rfl
@[simp] theorem State.updGate_clusters (n : Nat) (d : Side) (k : Gate → Gate) : (s.updGate n d k).clusters = s.clusters := by cases d <;> rfl
@[simp] theorem State.updGate_gmus (n : Nat) (d : Side) (k : Gate → Gate) : (s.updGate n d k).gmus = s.gmus := by cases d <;> rfl
@[simp] theorem State.updGate_blks (n : Nat) (d : Side) (k : Gate → Gate) : (s.updGate n d k).blks = s.blks := by cases d <;> rfl
@[simp] theorem State.updGate_npms (n : Nat) (d : Side) (k : Gate → Gate) : (s.updGate n d k).npms = s.npms := by cases d <;> rfl
@[simp] theorem State.updGate_regions (n : Nat) (d : Side) (k : Gate → Gate) : (s.updGate n d k).regions = s.regions := by cases d <;> rfl
@[simp] theorem State.updGate_dcs (n : Nat) (d : Side) (k : Gate → Gate) : (s.updGate n d k).dcs = s.dcs := by cases d <;> rfl
@[simp] theorem State.updGate_chgs (n : Nat) (d : Side) (k : Gate → Gate) : (s.updGate n d k).chgs = s.chgs := by cases d <;> rfl
@[simp] theorem State.updGate_ldgs (n : Nat) (d : Side) (k : Gate → Gate) : (s.updGate n d k).ldgs = s.ldgs := by cases d <;> rfl
@[simp] theorem State.updGate_journal (n : Nat) (d : Side) (k : Gate → Gate) : (s.updGate n d k).journal = s.journal := by cases d <;> rfl
@[simp] theorem State.updGate_snet (n : Nat) (d : Side) (k : Gate → Gate) : (s.updGate n d k).snet = s.snet := by cases d <;> rfl
@[simp] theorem State.updGate_svrs (n : Nat) (d : Side) (k : Gate → Gate) : (s.updGate n d k).svrs = s.svrs := by cases d <;> rfl
@[simp] theorem State.updGate_auxs (n : Nat) (d : Side) (k : Gate → Gate) : (s.updGate n d k).auxs = s.auxs := by cases d <;> rfl
@[simp] theorem State.updGate_fbs (n : Nat) (d : Side) (k : Gate → Gate) : (s.updGate n d k).fbs = s.fbs := by cases d <;> rfl
@[simp] theorem State.updGate_thm (n : Nat) (d : Side) (k : Gate → Gate) : (s.updGate n d k).thm = s.thm := by cases d <;> rfl
@[simp] theorem State.updGate_pack (n : Nat) (d : Side) (k : Gate → Gate) : (s.updGate n d k).pack = s.pack := by cases d <;> rfl
@[simp] theorem State.updGate_meas (n : Nat) (d : Side) (k : Gate → Gate) : (s.updGate n d k).meas = s.meas := by cases d <;> rfl
@[simp] theorem State.updGate_txns (n : Nat) (d : Side) (k : Gate → Gate) : (s.updGate n d k).txns = s.txns := by cases d <;> rfl
@[simp] theorem State.updGate_cans (n : Nat) (d : Side) (k : Gate → Gate) : (s.updGate n d k).cans = s.cans := by cases d <;> rfl
@[simp] theorem State.updGate_snl (n : Nat) (d : Side) (k : Gate → Gate) : (s.updGate n d k).snl = s.snl := by cases d <;> rfl
@[simp] theorem State.updGate_trmons (n : Nat) (d : Side) (k : Gate → Gate) : (s.updGate n d k).trmons = s.trmons := by cases d <;> rfl
@[simp] theorem State.updGate_slackCd (n : Nat) (d : Side) (k : Gate → Gate) : (s.updGate n d k).slackCd = s.slackCd := by cases d <;> rfl
@[simp] theorem State.updGate_slackMd (n : Nat) (d : Side) (k : Gate → Gate) : (s.updGate n d k).slackMd = s.slackMd := by cases d <;> rfl
@[simp] theorem State.updGate_stalls (n : Nat) (d : Side) (k : Gate → Gate) : (s.updGate n d k).stalls = s.stalls := by cases d <;> rfl
@[simp] theorem State.updGate_bad (n : Nat) (d : Side) (k : Gate → Gate) : (s.updGate n d k).bad = s.bad := by cases d <;> rfl
@[simp] theorem State.updGate_store (n : Nat) (d : Side) (k : Gate → Gate) : (s.updGate n d k).store = s.store := by cases d <;> rfl
@[simp] theorem State.updGate_auths (n : Nat) (d : Side) (k : Gate → Gate) : (s.updGate n d k).auths = s.auths := by cases d <;> rfl
@[simp] theorem State.updGate_power (n : Nat) (d : Side) (k : Gate → Gate) : (s.updGate n d k).power = s.power := by cases d <;> rfl
@[simp] theorem State.updGate_diag (n : Nat) (d : Side) (k : Gate → Gate) : (s.updGate n d k).diag = s.diag := by cases d <;> rfl
@[simp] theorem State.updGate_rm (n : Nat) (d : Side) (k : Gate → Gate) : (s.updGate n d k).rm = s.rm := by cases d <;> rfl
@[simp] theorem State.updGate_sys (n : Nat) (d : Side) (k : Gate → Gate) : (s.updGate n d k).sys = s.sys := by cases d <;> rfl
@[simp] theorem State.updGate_modid (n : Nat) (d : Side) (k : Gate → Gate) : (s.updGate n d k).modid = s.modid := by cases d <;> rfl
@[simp] theorem State.updGate_lastTid (n : Nat) (d : Side) (k : Gate → Gate) : (s.updGate n d k).lastTid = s.lastTid := by cases d <;> rfl
@[simp] theorem State.updGate_cmdWait (n : Nat) (d : Side) (k : Gate → Gate) : (s.updGate n d k).cmdWait = s.cmdWait := by cases d <;> rfl
@[simp] theorem State.updGate_cpl (n : Nat) (d : Side) (k : Gate → Gate) : (s.updGate n d k).cpl = s.cpl := by cases d <;> rfl
@[simp] theorem State.updGate_eccCor (n : Nat) (d : Side) (k : Gate → Gate) : (s.updGate n d k).eccCor = s.eccCor := by cases d <;> rfl
@[simp] theorem State.updGate_draws (n : Nat) (d : Side) (k : Gate → Gate) : (s.updGate n d k).draws = s.draws := by cases d <;> rfl
@[simp] theorem State.updGate_pending (n : Nat) (d : Side) (k : Gate → Gate) : (s.updGate n d k).pending = s.pending := by cases d <;> rfl
@[simp] theorem State.updGate_reg (n : Nat) (d : Side) (k : Gate → Gate) (off : Nat) : (s.updGate n d k).reg off = s.reg off := by cases d <;> rfl
@[simp] theorem State.updGate_fld (n : Nat) (d : Side) (k : Gate → Gate) (off : Nat) (fl : Field) : (s.updGate n d k).fld off fl = s.fld off fl := by cases d <;> rfl
@[simp] theorem State.updGate_bit (n : Nat) (d : Side) (k : Gate → Gate) (off : Nat) (fl : Field) : (s.updGate n d k).bit off fl = s.bit off fl := by cases d <;> rfl

end Sys2Proof.Machine
end

