-- ==== Sys2Proof/Laws/Regs.lean ====
section
/-!
SUPPORT. Reading registers, fields and unit records after a write of one.
-/

namespace Sys2Proof.Machine

variable (s : State)

/-! ### Registers -/

theorem State.reg_setReg (a b : Nat) (v : Word) : (s.setReg a v).reg b = if b = a then v else s.reg b :=
  Cells.get_set _ _ _ _ _

@[simp] theorem State.reg_setReg_same (a : Nat) (v : Word) : (s.setReg a v).reg a = v := Cells.get_set_same _ _ _ _

theorem State.reg_setReg_other {a b : Nat} (v : Word) (h : b ≠ a) : (s.setReg a v).reg b = s.reg b := Cells.get_set_other _ _ _ h

@[simp] theorem State.reg_setNat_same (a v : Nat) : (s.setNat a v).reg a = BitVec.ofNat 32 v := s.reg_setReg_same a _

theorem State.reg_setNat_other {a b : Nat} (v : Nat) (h : b ≠ a) : (s.setNat a v).reg b = s.reg b := s.reg_setReg_other _ h

theorem State.reg_setFld_other {a b : Nat} (f : Field) (v : Nat) (h : b ≠ a) : (s.setFld a f v).reg b = s.reg b :=
  s.reg_setReg_other _ h

@[simp] theorem State.reg_setFld_same (a : Nat) (f : Field) (v : Nat) : (s.setFld a f v).reg a = f.put (s.reg a) v :=
  s.reg_setReg_same a _

theorem State.reg_setBit_other {a b : Nat} (f : Field) (v : Bool) (h : b ≠ a) : (s.setBit a f v).reg b = s.reg b :=
  s.reg_setReg_other _ h

theorem State.reg_incFld_other {a b : Nat} (f : Field) (h : b ≠ a) : (s.incFld a f).reg b = s.reg b := s.reg_setReg_other _ h

theorem State.reg_incSat_other {a b : Nat} (h : b ≠ a) : (s.incSat a).reg b = s.reg b := s.reg_setReg_other _ h

theorem State.reg_setNat64_other {lo hi b : Nat} (v : Nat) (h : b ≠ lo) (h' : b ≠ hi) : (s.setNat64 lo hi v).reg b = s.reg b := by
  rw [State.setNat64, State.reg_setNat_other _ _ h', State.reg_setNat_other _ _ h]

/-! ### Fields -/

/-- A field set reads back, cut to its width. -/
theorem State.fld_setFld_same (a : Nat) (f : Field) (v : Nat) (h : f.lo + f.len ≤ 32) : (s.setFld a f v).fld a f = v % 2 ^ f.len := by
  rw [State.fld, State.reg_setFld_same, Field.get_put_same f _ _ h]

/-- Setting a field leaves the fields of its register beside it alone. -/
theorem State.fld_setFld_beside (a : Nat) (f g : Field) (v : Nat) (h : f.lo + f.len ≤ 32) (hd : g.lo + g.len ≤ f.lo ∨ f.lo + f.len ≤ g.lo) :
    (s.setFld a f v).fld a g = s.fld a g := by
  rw [State.fld, State.reg_setFld_same, Field.get_put_other f g _ _ h hd]; rfl

theorem State.fld_setFld_other {a b : Nat} (f g : Field) (v : Nat) (h : b ≠ a) : (s.setFld a f v).fld b g = s.fld b g := by
  rw [State.fld, State.reg_setFld_other _ _ _ h]; rfl

/-- A bit set reads back. -/
theorem State.bit_setBit_same (a : Nat) (f : Field) (v : Bool) (h : f.lo + f.len ≤ 32) (hl : f.len = 1) : (s.setBit a f v).bit a f = v := by
  rw [State.bit, State.setBit, State.fld_setFld_same _ _ _ _ h, hl]
  cases v <;> rfl

theorem State.bit_setBit_beside (a : Nat) (f g : Field) (v : Bool) (h : f.lo + f.len ≤ 32) (hd : g.lo + g.len ≤ f.lo ∨ f.lo + f.len ≤ g.lo) :
    (s.setBit a f v).bit a g = s.bit a g := by
  rw [State.bit, State.setBit, State.fld_setFld_beside _ _ _ _ _ h hd]; rfl

/-- Two readings of one register differ in no field where the register is the same. -/
theorem State.fld_congr {s t : State} {a : Nat} (h : t.reg a = s.reg a) (f : Field) : t.fld a f = s.fld a f := by
  rw [State.fld, State.fld, h]

theorem State.bit_congr {s t : State} {a : Nat} (h : t.reg a = s.reg a) (f : Field) : t.bit a f = s.bit a f := by
  rw [State.bit, State.bit, State.fld_congr h]

/-! ### Unit records -/

@[simp] theorem State.dir_updDir_same (c : Nat) (d : Bool) (f : NoticeDir → NoticeDir) : (s.updDir c d f).dir c d = f (s.dir c d) :=
  File.get_set_same _ _ _ _
theorem State.dir_updDir_other {c c' : Nat} {d d' : Bool} (f : NoticeDir → NoticeDir) (h : (c', d') ≠ (c, d)) :
    (s.updDir c d f).dir c' d' = s.dir c' d' := File.get_set_other _ _ _ h
@[simp] theorem State.vec_updVec_same (v : Nat) (f : MsiVec → MsiVec) : (s.updVec v f).vec v = f (s.vec v) := File.get_set_same _ _ _ _
@[simp] theorem State.ring_updRing_same (r : Nat) (f : RingSt → RingSt) : (s.updRing r f).ring r = f (s.ring r) := File.get_set_same _ _ _ _
theorem State.ring_updRing_other {r q : Nat} (f : RingSt → RingSt) (h : q ≠ r) : (s.updRing r f).ring q = s.ring q :=
  File.get_set_other _ _ _ h
@[simp] theorem State.prof_updProf_same (p : Nat) (f : ProfSt → ProfSt) : (s.updProf p f).prof p = f (s.prof p) := File.get_set_same _ _ _ _
@[simp] theorem State.trip_updTrip_same (t : Nat) (f : TripSt → TripSt) : (s.updTrip t f).trip t = f (s.trip t) := File.get_set_same _ _ _ _
theorem State.trip_updTrip_other {t u : Nat} (f : TripSt → TripSt) (h : u ≠ t) : (s.updTrip t f).trip u = s.trip u :=
  File.get_set_other _ _ _ h
@[simp] theorem State.edge_updEdge_same (n : Nat) (f : Edge → Edge) : (s.updEdge n f).edge n = f (s.edge n) := File.get_set_same _ _ _ _
theorem State.edge_updEdge_other {n m : Nat} (f : Edge → Edge) (h : m ≠ n) : (s.updEdge n f).edge m = s.edge m := File.get_set_other _ _ _ h
@[simp] theorem State.gate_updGate_same (n : Nat) (d : Side) (f : Gate → Gate) : (s.updGate n d f).gate n d = f (s.gate n d) := by
  cases d <;> exact File.get_set_same _ _ _ _
@[simp] theorem State.drv_updDrv_same (n : Nat) (f : Drv → Drv) : (s.updDrv n f).drv n = f (s.drv n) := File.get_set_same _ _ _ _
theorem State.drv_updDrv_other {n m : Nat} (f : Drv → Drv) (h : m ≠ n) : (s.updDrv n f).drv m = s.drv m := File.get_set_other _ _ _ h
@[simp] theorem State.cluster_updCluster_same (k : Nat) (f : Cluster → Cluster) : (s.updCluster k f).cluster k = f (s.cluster k) :=
  File.get_set_same _ _ _ _
theorem State.cluster_updCluster_other {k j : Nat} (f : Cluster → Cluster) (h : j ≠ k) : (s.updCluster k f).cluster j = s.cluster j :=
  File.get_set_other _ _ _ h
@[simp] theorem State.gmu_updGmu_same (k : Nat) (f : Gmu → Gmu) : (s.updGmu k f).gmu k = f (s.gmu k) := File.get_set_same _ _ _ _
@[simp] theorem State.npm_updNpm_same (k : Nat) (f : NpMod → NpMod) : (s.updNpm k f).npm k = f (s.npm k) := File.get_set_same _ _ _ _
@[simp] theorem State.region_updRegion_same (g : Nat) (f : Region → Region) : (s.updRegion g f).region g = f (s.region g) :=
  File.get_set_same _ _ _ _
@[simp] theorem State.dc_updDc_same (k : Nat) (f : Dc → Dc) : (s.updDc k f).dc k = f (s.dc k) := File.get_set_same _ _ _ _
@[simp] theorem State.chg_updChg_same (k : Nat) (f : Chg → Chg) : (s.updChg k f).chg k = f (s.chg k) := File.get_set_same _ _ _ _
@[simp] theorem State.ldg_updLdg_same (g : Nat) (f : Ldg → Ldg) : (s.updLdg g f).ldg g = f (s.ldg g) := File.get_set_same _ _ _ _
@[simp] theorem State.svr_updSvr_same (c : Nat) (f : Svr → Svr) : (s.updSvr c f).svr c = f (s.svr c) := File.get_set_same _ _ _ _
@[simp] theorem State.aux_updAux_same (i : Nat) (f : Aux → Aux) : (s.updAux i f).aux i = f (s.aux i) := File.get_set_same _ _ _ _
@[simp] theorem State.fb_updFb_same (i : Nat) (f : Fb → Fb) : (s.updFb i f).fb i = f (s.fb i) := File.get_set_same _ _ _ _
@[simp] theorem State.txn_updTxn_same (t : Nat) (f : Txn → Txn) : (s.updTxn t f).txn t = f (s.txn t) := File.get_set_same _ _ _ _
@[simp] theorem State.trmon_updTrmon_same (m : Nat) (f : TrMon → TrMon) : (s.updTrmon m f).trmon m = f (s.trmon m) :=
  File.get_set_same _ _ _ _
@[simp] theorem State.can_updCan_same (x : Nat) (f : CanSt → CanSt) : (s.updCan x f).can x = f (s.can x) := File.get_set_same _ _ _ _

/-! ### Memory -/

/-- A register write keeps the canonical form of the register file. -/
theorem State.regs_wf_setReg (a : Nat) (v : Word) (h : Cells.wf (Reg.resetOf s.variant) s.regs = true) :
    Cells.wf (Reg.resetOf (s.setReg a v).variant) (s.setReg a v).regs = true :=
  Cells.wf_set _ _ _ _ h

/-- A DRAM write keeps its canonical form. -/
theorem State.dram_wf_putDram (a : Nat) (l : List Byte) (h : Cells.wf (fun _ => (0 : Byte)) s.dram = true) :
    Cells.wf (fun _ => (0 : Byte)) (s.putDram a l).dram = true :=
  Cells.wf_putBytes l _ _ h

/-- A posted write keeps the canonical form of host memory. -/
theorem State.host_wf_putHost (a : Nat) (l : List Byte) (h : Cells.wf (fun _ => (0 : Byte)) s.hostMem = true) :
    Cells.wf (fun _ => (0 : Byte)) (s.putHost a l).hostMem = true :=
  Cells.wf_putBytes l _ _ h

/-! ### Folding -/

@[simp] theorem State.each_nil {α : Type} (f : State → α → State) : s.each [] f = s := rfl

@[simp] theorem State.each_cons {α : Type} (x : α) (l : List α) (f : State → α → State) : s.each (x :: l) f = (f s x).each l f := rfl

/-- A relation that holds of each change, with reflexivity and transitivity, holds of all of them. -/
theorem State.each_rel {α : Type} (R : State → State → Prop) (refl : ∀ u, R u u) (trans : ∀ {u v w}, R u v → R v w → R u w)
    (f : State → α → State) (l : List α) (h : ∀ u x, x ∈ l → R u (f u x)) : R s (s.each l f) := by
  induction l generalizing s with
  | nil => exact refl s
  | cons x l ih => exact trans (h s x (by simp)) (ih (f s x) fun u y hy => h u y (by simp [hy]))

/-- A value that no change alters. -/
theorem State.each_same {α β : Type} (p : State → β) (f : State → α → State) (l : List α) (h : ∀ u x, x ∈ l → p (f u x) = p u) :
    p (s.each l f) = p s :=
  (State.each_rel s (fun u v => p v = p u) (fun _ => rfl) (fun h1 h2 => h2.trans h1) f l h)

/-- A property that every change keeps. -/
theorem State.each_inv {α : Type} (P : State → Prop) (f : State → α → State) (l : List α) (hs : P s) (h : ∀ u x, x ∈ l → P u → P (f u x)) :
    P (s.each l f) :=
  (State.each_rel s (fun u v => P u → P v) (fun _ h => h) (fun h1 h2 h => h2 (h1 h)) f l h) hs

end Sys2Proof.Machine
end

