-- ==== Sys2Proof/Laws/Flags.lean ====
section
/-!
SUPPORT. Everything that an occurrence of a flag does: the flag is set, its counter counts, nothing else of the state changes but the list of
events.
-/

namespace Sys2Proof.Machine

variable (s : State)

/-- A counter never shares the register of its flag. -/
theorem FlagSrc.counter_ne_addr (src : FlagSrc) (b : Nat) {a lo : Nat} (h : src.counter b = some (a, lo)) : a ≠ src.addr := by
  cases src <;> simp only [FlagSrc.counter, FlagSrc.cnt0, FlagSrc.addr] at h ⊢ <;> (try split at h) <;> (try split at h) <;>
    simp only [Option.some.injEq, Prod.mk.injEq, reduceCtorEq] at h <;> obtain ⟨h, -⟩ := h <;> subst h <;>
    simp only [Reg.GLB_CNT0, Reg.GLB_FLAGS, Reg.GLB_GUARD_CNT2, Reg.GLB_GUARD, Reg.CTU_CNT0, Reg.CTU_FLAGS, Reg.PWR_CNT0, Reg.PWR_FLAGS,
      Reg.PWR_HU_CNT0, Reg.PWR_HU_FLAGS, Reg.THM_CNT0, Reg.THM_FLAGS, Reg.CLK_CNT0, Reg.CLK_FLAGS, Reg.CLK_TR_CNT, Reg.CLK_TR_STAT,
      Reg.EDG_CNT0, Reg.EDG_FLAGS, Reg.EDG_ALIGN_CNT, Reg.EDG_ALIGN_FLAGS, Reg.GDV_CNT0, Reg.GDV_FLAGS, Reg.CLU_CNT0, Reg.CLU_FLAGS,
      Reg.CLU_DC_CNT0, Reg.CLU_DC_FLAGS, Reg.CLU_SYS_CNT0, Reg.CLU_SYS_FLAGS, Reg.CHG_CNT0, Reg.CHG_FLAGS, Reg.CHG_SN_CNT0,
      Reg.CHG_SN_FLAGS, Reg.LDG_CNT0, Reg.LDG_FLAGS, Reg.MEAS_CNT0, Reg.MEAS_FLAGS, Reg.AUXD_CNT0, Reg.AUXD_FLAGS, Reg.FB_CNT0,
      Reg.FB_FLAGS, Reg.SVR_CNT0, Reg.SVR_FLAGS, Reg.TRP_CNT0, Reg.TRP_FLAGS, Reg.SAFE_CNT0, Reg.SAFE_FLAGS, Reg.ETH_P_CNT0,
      Reg.ETH_P_FLAGS, Reg.ETH_PTP_CNT0, Reg.ETH_PTP_FLAGS, Reg.ETH_SNL_CNT0, Reg.ETH_SNL_FLAGS, Reg.CAN_CNT0, Reg.CAN_FLAGS,
      Reg.HIF_CNT0, Reg.HIF_FLAGS, Reg.MBX_CNT0, Reg.MBX_FLAGS, Reg.REC_CNT0, Reg.REC_FLAGS, Reg.DBG_CNT0, Reg.DBG_FLAGS] <;> omega

/-! ### What counting and raising leave alone -/

/-- A state with another register file and another list of events. -/
def State.withRE (s : State) (r : Cells Word) (e : List FlagEvent) : State := { s with regs := r, events := e }

theorem State.withRE_withRE (r r' : Cells Word) (e e' : List FlagEvent) : (s.withRE r e).withRE r' e' = s.withRE r' e' := rfl

theorem State.setReg_rest (a : Nat) (v : Word) : s.setReg a v = s.withRE (s.setReg a v).regs s.events := rfl

theorem State.countFlag_rest (src : FlagSrc) (b : Nat) : s.countFlag src b = s.withRE (s.countFlag src b).regs s.events := by
  unfold State.countFlag
  split <;> rfl

theorem State.countFlag_reg_addr (src : FlagSrc) (b : Nat) : (s.countFlag src b).reg src.addr = s.reg src.addr := by
  unfold State.countFlag
  split
  · rename_i a lo h
    exact s.reg_incFld_other _ (Ne.symm (src.counter_ne_addr b h))
  · rfl

theorem State.countFlag_reg (src : FlagSrc) (b : Nat) {c : Nat} (h : ∀ a lo, src.counter b = some (a, lo) → c ≠ a) :
    (s.countFlag src b).reg c = s.reg c := by
  unfold State.countFlag
  split
  · rename_i a lo hc; exact s.reg_incFld_other _ (h a lo hc)
  · rfl

/-- The counting of several flags. -/
def State.countAll (s : State) (src : FlagSrc) (l : List Nat) : State := l.foldl (fun t b => t.countFlag src b) s

theorem State.countAll_rest (src : FlagSrc) (l : List Nat) : s.countAll src l = s.withRE (s.countAll src l).regs s.events := by
  induction l generalizing s with
  | nil => rfl
  | cons b l ih =>
    have h1 : s.countAll src (b :: l) = (s.countFlag src b).countAll src l := rfl
    rw [h1]
    exact (ih (s.countFlag src b)).trans
      ((congrArg (fun w : State => w.withRE ((s.countFlag src b).countAll src l).regs (s.countFlag src b).events) (s.countFlag_rest src b)).trans
        (by rw [State.withRE_withRE, s.countFlag_rest src b]; rfl))

theorem State.countAll_reg_addr (src : FlagSrc) (l : List Nat) : (s.countAll src l).reg src.addr = s.reg src.addr := by
  induction l generalizing s with
  | nil => rfl
  | cons b l ih =>
    have h1 : s.countAll src (b :: l) = (s.countFlag src b).countAll src l := rfl
    rw [h1, ih, s.countFlag_reg_addr]

theorem State.countAll_reg (src : FlagSrc) (l : List Nat) {c : Nat} (h : ∀ b ∈ l, ∀ a lo, src.counter b = some (a, lo) → c ≠ a) :
    (s.countAll src l).reg c = s.reg c := by
  induction l generalizing s with
  | nil => rfl
  | cons b l ih =>
    have h1 : s.countAll src (b :: l) = (s.countFlag src b).countAll src l := rfl
    rw [h1, ih _ fun b' hb => h b' (by simp [hb]), s.countFlag_reg src b (h b (by simp))]

theorem State.raiseMask_eq (src : FlagSrc) (m : Nat) :
    s.raiseMask src m = { (s.setNat src.addr ((s.reg src.addr).toNat ||| m)).countAll src (bitsOf 32 m) with
      events := s.events ++ (if m &&& (0xFFFFFFFF - (s.reg src.addr).toNat % 2 ^ 32) = 0 then []
        else [⟨src.num, src.addr, m &&& (0xFFFFFFFF - (s.reg src.addr).toNat % 2 ^ 32)⟩]) } := by
  have hc : ((s.setNat src.addr ((s.reg src.addr).toNat ||| m)).countAll src (bitsOf 32 m)).events = s.events := by
    rw [State.countAll_rest]; rfl
  have he : s.raiseMask src m = (let u := (s.setNat src.addr ((s.reg src.addr).toNat ||| m)).countAll src (bitsOf 32 m)
      let new := m &&& (0xFFFFFFFF - (s.reg src.addr).toNat % 2 ^ 32)
      if new = 0 then u else { u with events := u.events ++ [⟨src.num, src.addr, new⟩] }) := rfl
  rw [he]
  generalize (s.setNat src.addr ((s.reg src.addr).toNat ||| m)).countAll src (bitsOf 32 m) = u at *
  dsimp only
  split
  · rw [List.append_nil, ← hc]
  · rw [hc]

/-- Raising flags changes nothing but registers and the list of events. -/
theorem State.raiseMask_rest (src : FlagSrc) (m : Nat) :
    s.raiseMask src m = s.withRE (s.raiseMask src m).regs (s.raiseMask src m).events := by
  have h := (s.setNat src.addr ((s.reg src.addr).toNat ||| m)).countAll_rest src (bitsOf 32 m)
  rw [State.raiseMask_eq]
  generalize (s.setNat src.addr ((s.reg src.addr).toNat ||| m)).countAll src (bitsOf 32 m) = u at h
  rw [h]; rfl

theorem State.raiseMask_reg_addr (src : FlagSrc) (m : Nat) :
    (s.raiseMask src m).reg src.addr = BitVec.ofNat 32 ((s.reg src.addr).toNat ||| m) := by
  rw [State.raiseMask_eq]
  exact ((s.setNat src.addr _).countAll_reg_addr src _).trans (s.reg_setNat_same _ _)

/-- Raising flags changes no register but the flag register and the counters of the flags raised. -/
theorem State.raiseMask_reg (src : FlagSrc) (m : Nat) {c : Nat} (hc : c ≠ src.addr)
    (h : ∀ b, b < 32 → m.testBit b = true → ∀ a lo, src.counter b = some (a, lo) → c ≠ a) : (s.raiseMask src m).reg c = s.reg c := by
  rw [State.raiseMask_eq]
  refine ((s.setNat src.addr _).countAll_reg src _ ?_).trans (s.reg_setNat_other _ hc)
  intro b hb
  rw [mem_bitsOf] at hb
  exact h b hb.1 hb.2

theorem State.raise_rest (src : FlagSrc) (b : Nat) :
    s.raise src b = s.withRE (s.raise src b).regs (s.raise src b).events := s.raiseMask_rest src _

theorem State.raise_reg_addr (src : FlagSrc) (b : Nat) :
    (s.raise src b).reg src.addr = BitVec.ofNat 32 ((s.reg src.addr).toNat ||| 2 ^ b) := s.raiseMask_reg_addr src _

theorem State.raise_reg (src : FlagSrc) (b : Nat) {c : Nat} (hc : c ≠ src.addr) (h : ∀ a lo, src.counter b = some (a, lo) → c ≠ a) :
    (s.raise src b).reg c = s.reg c := by
  refine s.raiseMask_reg src _ hc ?_
  intro x _ hx a lo ha
  rw [Nat.testBit_two_pow] at hx
  have : b = x := by simpa using hx
  subst this
  exact h a lo ha

theorem State.raiseIf_rest (c : Bool) (src : FlagSrc) (b : Nat) :
    s.raiseIf c src b = s.withRE (s.raiseIf c src b).regs (s.raiseIf c src b).events := by
  cases c
  · rfl
  · exact s.raise_rest src b

/-! ### The flags themselves -/

theorem State.flag_raiseMask (src : FlagSrc) (m b : Nat) (hb : b < 32) : (s.raiseMask src m).flag src b = (s.flag src b || m.testBit b) := by
  rw [State.flag, State.raiseMask_reg_addr, BitVec.toNat_ofNat, Nat.testBit_mod_two_pow, Nat.testBit_or]
  simp [hb, State.flag]

/-- An occurrence sets its flag (R447). -/
theorem State.flag_raise (src : FlagSrc) (b : Nat) (hb : b < 32) : (s.raise src b).flag src b = true := by
  rw [State.raise, State.flag_raiseMask _ _ _ _ hb, Nat.testBit_two_pow_self, Bool.or_true]

/-- A flag that is set stays set at an occurrence of another of its source (R447). -/
theorem State.flag_raise_mono (src : FlagSrc) (b c : Nat) (hc : c < 32) (h : s.flag src c = true) : (s.raise src b).flag src c = true := by
  rw [State.raise, State.flag_raiseMask _ _ _ _ hc, h, Bool.true_or]

theorem State.flag_raiseIf_mono (x : Bool) (src : FlagSrc) (b c : Nat) (hc : c < 32) (h : s.flag src c = true) :
    (s.raiseIf x src b).flag src c = true := by
  cases x
  · exact h
  · exact s.flag_raise_mono src b c hc h

/-- An occurrence with the flag already set makes no event (R455). -/
theorem State.raise_events_set (src : FlagSrc) (b : Nat) (hb : b < 32) (h : s.flag src b = true) : (s.raise src b).events = s.events := by
  have hz : 2 ^ b &&& (0xFFFFFFFF - (s.reg src.addr).toNat % 2 ^ 32) = 0 := by
    apply Nat.eq_of_testBit_eq
    intro i
    rw [Nat.testBit_and, Nat.testBit_two_pow, Nat.zero_testBit]
    by_cases hi : b = i
    · subst hi
      have hw : (s.reg src.addr).toNat % 2 ^ 32 < 2 ^ 32 := Nat.mod_lt _ (by norm_num)
      have := Nat.testBit_two_pow_sub_succ hw b
      rw [show (0xFFFFFFFF : Nat) - (s.reg src.addr).toNat % 2 ^ 32 = 2 ^ 32 - ((s.reg src.addr).toNat % 2 ^ 32 + 1) by omega, this,
        Nat.testBit_mod_two_pow]
      have h' : (s.reg src.addr).toNat.testBit b = true := h
      simp [hb, h']
    · simp [hi]
  rw [State.raise, State.raiseMask_eq, if_pos hz, List.append_nil]

/-! ### What raising flags leaves alone, field by field -/

@[simp] theorem State.raiseMask_variant (src : FlagSrc) (m : Nat) : (s.raiseMask src m).variant = s.variant := by
  rw [State.raiseMask_rest]; rfl
@[simp] theorem State.raise_variant (src : FlagSrc) (b : Nat) : (s.raise src b).variant = s.variant := s.raiseMask_variant src _
@[simp] theorem State.raiseIf_variant (c : Bool) (src : FlagSrc) (b : Nat) : (s.raiseIf c src b).variant = s.variant := by
  rw [State.raiseIf_rest]; rfl
@[simp] theorem State.raiseMask_now (src : FlagSrc) (m : Nat) : (s.raiseMask src m).now = s.now := by
  rw [State.raiseMask_rest]; rfl
@[simp] theorem State.raise_now (src : FlagSrc) (b : Nat) : (s.raise src b).now = s.now := s.raiseMask_now src _
@[simp] theorem State.raiseIf_now (c : Bool) (src : FlagSrc) (b : Nat) : (s.raiseIf c src b).now = s.now := by
  rw [State.raiseIf_rest]; rfl
@[simp] theorem State.raiseMask_tb (src : FlagSrc) (m : Nat) : (s.raiseMask src m).tb = s.tb := by
  rw [State.raiseMask_rest]; rfl
@[simp] theorem State.raise_tb (src : FlagSrc) (b : Nat) : (s.raise src b).tb = s.tb := s.raiseMask_tb src _
@[simp] theorem State.raiseIf_tb (c : Bool) (src : FlagSrc) (b : Nat) : (s.raiseIf c src b).tb = s.tb := by
  rw [State.raiseIf_rest]; rfl
@[simp] theorem State.raiseMask_ptp (src : FlagSrc) (m : Nat) : (s.raiseMask src m).ptp = s.ptp := by
  rw [State.raiseMask_rest]; rfl
@[simp] theorem State.raise_ptp (src : FlagSrc) (b : Nat) : (s.raise src b).ptp = s.ptp := s.raiseMask_ptp src _
@[simp] theorem State.raiseIf_ptp (c : Bool) (src : FlagSrc) (b : Nat) : (s.raiseIf c src b).ptp = s.ptp := by
  rw [State.raiseIf_rest]; rfl
@[simp] theorem State.raiseMask_ptpAdd (src : FlagSrc) (m : Nat) : (s.raiseMask src m).ptpAdd = s.ptpAdd := by
  rw [State.raiseMask_rest]; rfl
@[simp] theorem State.raise_ptpAdd (src : FlagSrc) (b : Nat) : (s.raise src b).ptpAdd = s.ptpAdd := s.raiseMask_ptpAdd src _
@[simp] theorem State.raiseIf_ptpAdd (c : Bool) (src : FlagSrc) (b : Nat) : (s.raiseIf c src b).ptpAdd = s.ptpAdd := by
  rw [State.raiseIf_rest]; rfl
@[simp] theorem State.raiseMask_cdRun (src : FlagSrc) (m : Nat) : (s.raiseMask src m).cdRun = s.cdRun := by
  rw [State.raiseMask_rest]; rfl
@[simp] theorem State.raise_cdRun (src : FlagSrc) (b : Nat) : (s.raise src b).cdRun = s.cdRun := s.raiseMask_cdRun src _
@[simp] theorem State.raiseIf_cdRun (c : Bool) (src : FlagSrc) (b : Nat) : (s.raiseIf c src b).cdRun = s.cdRun := by
  rw [State.raiseIf_rest]; rfl
@[simp] theorem State.raiseMask_rmRun (src : FlagSrc) (m : Nat) : (s.raiseMask src m).rmRun = s.rmRun := by
  rw [State.raiseMask_rest]; rfl
@[simp] theorem State.raise_rmRun (src : FlagSrc) (b : Nat) : (s.raise src b).rmRun = s.rmRun := s.raiseMask_rmRun src _
@[simp] theorem State.raiseIf_rmRun (c : Bool) (src : FlagSrc) (b : Nat) : (s.raiseIf c src b).rmRun = s.rmRun := by
  rw [State.raiseIf_rest]; rfl
@[simp] theorem State.raiseMask_dram (src : FlagSrc) (m : Nat) : (s.raiseMask src m).dram = s.dram := by
  rw [State.raiseMask_rest]; rfl
@[simp] theorem State.raise_dram (src : FlagSrc) (b : Nat) : (s.raise src b).dram = s.dram := s.raiseMask_dram src _
@[simp] theorem State.raiseIf_dram (c : Bool) (src : FlagSrc) (b : Nat) : (s.raiseIf c src b).dram = s.dram := by
  rw [State.raiseIf_rest]; rfl
@[simp] theorem State.raiseMask_hostMem (src : FlagSrc) (m : Nat) : (s.raiseMask src m).hostMem = s.hostMem := by
  rw [State.raiseMask_rest]; rfl
@[simp] theorem State.raise_hostMem (src : FlagSrc) (b : Nat) : (s.raise src b).hostMem = s.hostMem := s.raiseMask_hostMem src _
@[simp] theorem State.raiseIf_hostMem (c : Bool) (src : FlagSrc) (b : Nat) : (s.raiseIf c src b).hostMem = s.hostMem := by
  rw [State.raiseIf_rest]; rfl
@[simp] theorem State.raiseMask_recQueue (src : FlagSrc) (m : Nat) : (s.raiseMask src m).recQueue = s.recQueue := by
  rw [State.raiseMask_rest]; rfl
@[simp] theorem State.raise_recQueue (src : FlagSrc) (b : Nat) : (s.raise src b).recQueue = s.recQueue := s.raiseMask_recQueue src _
@[simp] theorem State.raiseIf_recQueue (c : Bool) (src : FlagSrc) (b : Nat) : (s.raiseIf c src b).recQueue = s.recQueue := by
  rw [State.raiseIf_rest]; rfl
@[simp] theorem State.raiseMask_recStore (src : FlagSrc) (m : Nat) : (s.raiseMask src m).recStore = s.recStore := by
  rw [State.raiseMask_rest]; rfl
@[simp] theorem State.raise_recStore (src : FlagSrc) (b : Nat) : (s.raise src b).recStore = s.recStore := s.raiseMask_recStore src _
@[simp] theorem State.raiseIf_recStore (c : Bool) (src : FlagSrc) (b : Nat) : (s.raiseIf c src b).recStore = s.recStore := by
  rw [State.raiseIf_rest]; rfl
@[simp] theorem State.raiseMask_safetyLog (src : FlagSrc) (m : Nat) : (s.raiseMask src m).safetyLog = s.safetyLog := by
  rw [State.raiseMask_rest]; rfl
@[simp] theorem State.raise_safetyLog (src : FlagSrc) (b : Nat) : (s.raise src b).safetyLog = s.safetyLog := s.raiseMask_safetyLog src _
@[simp] theorem State.raiseIf_safetyLog (c : Bool) (src : FlagSrc) (b : Nat) : (s.raiseIf c src b).safetyLog = s.safetyLog := by
  rw [State.raiseIf_rest]; rfl
@[simp] theorem State.raiseMask_clearLog (src : FlagSrc) (m : Nat) : (s.raiseMask src m).clearLog = s.clearLog := by
  rw [State.raiseMask_rest]; rfl
@[simp] theorem State.raise_clearLog (src : FlagSrc) (b : Nat) : (s.raise src b).clearLog = s.clearLog := s.raiseMask_clearLog src _
@[simp] theorem State.raiseIf_clearLog (c : Bool) (src : FlagSrc) (b : Nat) : (s.raiseIf c src b).clearLog = s.clearLog := by
  rw [State.raiseIf_rest]; rfl
@[simp] theorem State.raiseMask_mbx (src : FlagSrc) (m : Nat) : (s.raiseMask src m).mbx = s.mbx := by
  rw [State.raiseMask_rest]; rfl
@[simp] theorem State.raise_mbx (src : FlagSrc) (b : Nat) : (s.raise src b).mbx = s.mbx := s.raiseMask_mbx src _
@[simp] theorem State.raiseIf_mbx (c : Bool) (src : FlagSrc) (b : Nat) : (s.raiseIf c src b).mbx = s.mbx := by
  rw [State.raiseIf_rest]; rfl
@[simp] theorem State.raiseMask_devQueue (src : FlagSrc) (m : Nat) : (s.raiseMask src m).devQueue = s.devQueue := by
  rw [State.raiseMask_rest]; rfl
@[simp] theorem State.raise_devQueue (src : FlagSrc) (b : Nat) : (s.raise src b).devQueue = s.devQueue := s.raiseMask_devQueue src _
@[simp] theorem State.raiseIf_devQueue (c : Bool) (src : FlagSrc) (b : Nat) : (s.raiseIf c src b).devQueue = s.devQueue := by
  rw [State.raiseIf_rest]; rfl
@[simp] theorem State.raiseMask_msi (src : FlagSrc) (m : Nat) : (s.raiseMask src m).msi = s.msi := by
  rw [State.raiseMask_rest]; rfl
@[simp] theorem State.raise_msi (src : FlagSrc) (b : Nat) : (s.raise src b).msi = s.msi := s.raiseMask_msi src _
@[simp] theorem State.raiseIf_msi (c : Bool) (src : FlagSrc) (b : Nat) : (s.raiseIf c src b).msi = s.msi := by
  rw [State.raiseIf_rest]; rfl
@[simp] theorem State.raiseMask_rings (src : FlagSrc) (m : Nat) : (s.raiseMask src m).rings = s.rings := by
  rw [State.raiseMask_rest]; rfl
@[simp] theorem State.raise_rings (src : FlagSrc) (b : Nat) : (s.raise src b).rings = s.rings := s.raiseMask_rings src _
@[simp] theorem State.raiseIf_rings (c : Bool) (src : FlagSrc) (b : Nat) : (s.raiseIf c src b).rings = s.rings := by
  rw [State.raiseIf_rest]; rfl
@[simp] theorem State.raiseMask_barkerSt (src : FlagSrc) (m : Nat) : (s.raiseMask src m).barkerSt = s.barkerSt := by
  rw [State.raiseMask_rest]; rfl
@[simp] theorem State.raise_barkerSt (src : FlagSrc) (b : Nat) : (s.raise src b).barkerSt = s.barkerSt := s.raiseMask_barkerSt src _
@[simp] theorem State.raiseIf_barkerSt (c : Bool) (src : FlagSrc) (b : Nat) : (s.raiseIf c src b).barkerSt = s.barkerSt := by
  rw [State.raiseIf_rest]; rfl
@[simp] theorem State.raiseMask_profs (src : FlagSrc) (m : Nat) : (s.raiseMask src m).profs = s.profs := by
  rw [State.raiseMask_rest]; rfl
@[simp] theorem State.raise_profs (src : FlagSrc) (b : Nat) : (s.raise src b).profs = s.profs := s.raiseMask_profs src _
@[simp] theorem State.raiseIf_profs (c : Bool) (src : FlagSrc) (b : Nat) : (s.raiseIf c src b).profs = s.profs := by
  rw [State.raiseIf_rest]; rfl
@[simp] theorem State.raiseMask_recst (src : FlagSrc) (m : Nat) : (s.raiseMask src m).recst = s.recst := by
  rw [State.raiseMask_rest]; rfl
@[simp] theorem State.raise_recst (src : FlagSrc) (b : Nat) : (s.raise src b).recst = s.recst := s.raiseMask_recst src _
@[simp] theorem State.raiseIf_recst (c : Bool) (src : FlagSrc) (b : Nat) : (s.raiseIf c src b).recst = s.recst := by
  rw [State.raiseIf_rest]; rfl
@[simp] theorem State.raiseMask_trips (src : FlagSrc) (m : Nat) : (s.raiseMask src m).trips = s.trips := by
  rw [State.raiseMask_rest]; rfl
@[simp] theorem State.raise_trips (src : FlagSrc) (b : Nat) : (s.raise src b).trips = s.trips := s.raiseMask_trips src _
@[simp] theorem State.raiseIf_trips (c : Bool) (src : FlagSrc) (b : Nat) : (s.raiseIf c src b).trips = s.trips := by
  rw [State.raiseIf_rest]; rfl
@[simp] theorem State.raiseMask_edges (src : FlagSrc) (m : Nat) : (s.raiseMask src m).edges = s.edges := by
  rw [State.raiseMask_rest]; rfl
@[simp] theorem State.raise_edges (src : FlagSrc) (b : Nat) : (s.raise src b).edges = s.edges := s.raiseMask_edges src _
@[simp] theorem State.raiseIf_edges (c : Bool) (src : FlagSrc) (b : Nat) : (s.raiseIf c src b).edges = s.edges := by
  rw [State.raiseIf_rest]; rfl
@[simp] theorem State.raiseMask_gatesH (src : FlagSrc) (m : Nat) : (s.raiseMask src m).gatesH = s.gatesH := by
  rw [State.raiseMask_rest]; rfl
@[simp] theorem State.raise_gatesH (src : FlagSrc) (b : Nat) : (s.raise src b).gatesH = s.gatesH := s.raiseMask_gatesH src _
@[simp] theorem State.raiseIf_gatesH (c : Bool) (src : FlagSrc) (b : Nat) : (s.raiseIf c src b).gatesH = s.gatesH := by
  rw [State.raiseIf_rest]; rfl
@[simp] theorem State.raiseMask_gatesL (src : FlagSrc) (m : Nat) : (s.raiseMask src m).gatesL = s.gatesL := by
  rw [State.raiseMask_rest]; rfl
@[simp] theorem State.raise_gatesL (src : FlagSrc) (b : Nat) : (s.raise src b).gatesL = s.gatesL := s.raiseMask_gatesL src _
@[simp] theorem State.raiseIf_gatesL (c : Bool) (src : FlagSrc) (b : Nat) : (s.raiseIf c src b).gatesL = s.gatesL := by
  rw [State.raiseIf_rest]; rfl
@[simp] theorem State.raiseMask_drvs (src : FlagSrc) (m : Nat) : (s.raiseMask src m).drvs = s.drvs := by
  rw [State.raiseMask_rest]; rfl
@[simp] theorem State.raise_drvs (src : FlagSrc) (b : Nat) : (s.raise src b).drvs = s.drvs := s.raiseMask_drvs src _
@[simp] theorem State.raiseIf_drvs (c : Bool) (src : FlagSrc) (b : Nat) : (s.raiseIf c src b).drvs = s.drvs := by
  rw [State.raiseIf_rest]; rfl
@[simp] theorem State.raiseMask_clusters (src : FlagSrc) (m : Nat) : (s.raiseMask src m).clusters = s.clusters := by
  rw [State.raiseMask_rest]; rfl
@[simp] theorem State.raise_clusters (src : FlagSrc) (b : Nat) : (s.raise src b).clusters = s.clusters := s.raiseMask_clusters src _
@[simp] theorem State.raiseIf_clusters (c : Bool) (src : FlagSrc) (b : Nat) : (s.raiseIf c src b).clusters = s.clusters := by
  rw [State.raiseIf_rest]; rfl
@[simp] theorem State.raiseMask_gmus (src : FlagSrc) (m : Nat) : (s.raiseMask src m).gmus = s.gmus := by
  rw [State.raiseMask_rest]; rfl
@[simp] theorem State.raise_gmus (src : FlagSrc) (b : Nat) : (s.raise src b).gmus = s.gmus := s.raiseMask_gmus src _
@[simp] theorem State.raiseIf_gmus (c : Bool) (src : FlagSrc) (b : Nat) : (s.raiseIf c src b).gmus = s.gmus := by
  rw [State.raiseIf_rest]; rfl
@[simp] theorem State.raiseMask_npms (src : FlagSrc) (m : Nat) : (s.raiseMask src m).npms = s.npms := by
  rw [State.raiseMask_rest]; rfl
@[simp] theorem State.raise_npms (src : FlagSrc) (b : Nat) : (s.raise src b).npms = s.npms := s.raiseMask_npms src _
@[simp] theorem State.raiseIf_npms (c : Bool) (src : FlagSrc) (b : Nat) : (s.raiseIf c src b).npms = s.npms := by
  rw [State.raiseIf_rest]; rfl
@[simp] theorem State.raiseMask_regions (src : FlagSrc) (m : Nat) : (s.raiseMask src m).regions = s.regions := by
  rw [State.raiseMask_rest]; rfl
@[simp] theorem State.raise_regions (src : FlagSrc) (b : Nat) : (s.raise src b).regions = s.regions := s.raiseMask_regions src _
@[simp] theorem State.raiseIf_regions (c : Bool) (src : FlagSrc) (b : Nat) : (s.raiseIf c src b).regions = s.regions := by
  rw [State.raiseIf_rest]; rfl
@[simp] theorem State.raiseMask_dcs (src : FlagSrc) (m : Nat) : (s.raiseMask src m).dcs = s.dcs := by
  rw [State.raiseMask_rest]; rfl
@[simp] theorem State.raise_dcs (src : FlagSrc) (b : Nat) : (s.raise src b).dcs = s.dcs := s.raiseMask_dcs src _
@[simp] theorem State.raiseIf_dcs (c : Bool) (src : FlagSrc) (b : Nat) : (s.raiseIf c src b).dcs = s.dcs := by
  rw [State.raiseIf_rest]; rfl
@[simp] theorem State.raiseMask_chgs (src : FlagSrc) (m : Nat) : (s.raiseMask src m).chgs = s.chgs := by
  rw [State.raiseMask_rest]; rfl
@[simp] theorem State.raise_chgs (src : FlagSrc) (b : Nat) : (s.raise src b).chgs = s.chgs := s.raiseMask_chgs src _
@[simp] theorem State.raiseIf_chgs (c : Bool) (src : FlagSrc) (b : Nat) : (s.raiseIf c src b).chgs = s.chgs := by
  rw [State.raiseIf_rest]; rfl
@[simp] theorem State.raiseMask_ldgs (src : FlagSrc) (m : Nat) : (s.raiseMask src m).ldgs = s.ldgs := by
  rw [State.raiseMask_rest]; rfl
@[simp] theorem State.raise_ldgs (src : FlagSrc) (b : Nat) : (s.raise src b).ldgs = s.ldgs := s.raiseMask_ldgs src _
@[simp] theorem State.raiseIf_ldgs (c : Bool) (src : FlagSrc) (b : Nat) : (s.raiseIf c src b).ldgs = s.ldgs := by
  rw [State.raiseIf_rest]; rfl
@[simp] theorem State.raiseMask_journal (src : FlagSrc) (m : Nat) : (s.raiseMask src m).journal = s.journal := by
  rw [State.raiseMask_rest]; rfl
@[simp] theorem State.raise_journal (src : FlagSrc) (b : Nat) : (s.raise src b).journal = s.journal := s.raiseMask_journal src _
@[simp] theorem State.raiseIf_journal (c : Bool) (src : FlagSrc) (b : Nat) : (s.raiseIf c src b).journal = s.journal := by
  rw [State.raiseIf_rest]; rfl
@[simp] theorem State.raiseMask_snet (src : FlagSrc) (m : Nat) : (s.raiseMask src m).snet = s.snet := by
  rw [State.raiseMask_rest]; rfl
@[simp] theorem State.raise_snet (src : FlagSrc) (b : Nat) : (s.raise src b).snet = s.snet := s.raiseMask_snet src _
@[simp] theorem State.raiseIf_snet (c : Bool) (src : FlagSrc) (b : Nat) : (s.raiseIf c src b).snet = s.snet := by
  rw [State.raiseIf_rest]; rfl
@[simp] theorem State.raiseMask_svrs (src : FlagSrc) (m : Nat) : (s.raiseMask src m).svrs = s.svrs := by
  rw [State.raiseMask_rest]; rfl
@[simp] theorem State.raise_svrs (src : FlagSrc) (b : Nat) : (s.raise src b).svrs = s.svrs := s.raiseMask_svrs src _
@[simp] theorem State.raiseIf_svrs (c : Bool) (src : FlagSrc) (b : Nat) : (s.raiseIf c src b).svrs = s.svrs := by
  rw [State.raiseIf_rest]; rfl
@[simp] theorem State.raiseMask_auxs (src : FlagSrc) (m : Nat) : (s.raiseMask src m).auxs = s.auxs := by
  rw [State.raiseMask_rest]; rfl
@[simp] theorem State.raise_auxs (src : FlagSrc) (b : Nat) : (s.raise src b).auxs = s.auxs := s.raiseMask_auxs src _
@[simp] theorem State.raiseIf_auxs (c : Bool) (src : FlagSrc) (b : Nat) : (s.raiseIf c src b).auxs = s.auxs := by
  rw [State.raiseIf_rest]; rfl
@[simp] theorem State.raiseMask_fbs (src : FlagSrc) (m : Nat) : (s.raiseMask src m).fbs = s.fbs := by
  rw [State.raiseMask_rest]; rfl
@[simp] theorem State.raise_fbs (src : FlagSrc) (b : Nat) : (s.raise src b).fbs = s.fbs := s.raiseMask_fbs src _
@[simp] theorem State.raiseIf_fbs (c : Bool) (src : FlagSrc) (b : Nat) : (s.raiseIf c src b).fbs = s.fbs := by
  rw [State.raiseIf_rest]; rfl
@[simp] theorem State.raiseMask_thm (src : FlagSrc) (m : Nat) : (s.raiseMask src m).thm = s.thm := by
  rw [State.raiseMask_rest]; rfl
@[simp] theorem State.raise_thm (src : FlagSrc) (b : Nat) : (s.raise src b).thm = s.thm := s.raiseMask_thm src _
@[simp] theorem State.raiseIf_thm (c : Bool) (src : FlagSrc) (b : Nat) : (s.raiseIf c src b).thm = s.thm := by
  rw [State.raiseIf_rest]; rfl
@[simp] theorem State.raiseMask_pack (src : FlagSrc) (m : Nat) : (s.raiseMask src m).pack = s.pack := by
  rw [State.raiseMask_rest]; rfl
@[simp] theorem State.raise_pack (src : FlagSrc) (b : Nat) : (s.raise src b).pack = s.pack := s.raiseMask_pack src _
@[simp] theorem State.raiseIf_pack (c : Bool) (src : FlagSrc) (b : Nat) : (s.raiseIf c src b).pack = s.pack := by
  rw [State.raiseIf_rest]; rfl
@[simp] theorem State.raiseMask_meas (src : FlagSrc) (m : Nat) : (s.raiseMask src m).meas = s.meas := by
  rw [State.raiseMask_rest]; rfl
@[simp] theorem State.raise_meas (src : FlagSrc) (b : Nat) : (s.raise src b).meas = s.meas := s.raiseMask_meas src _
@[simp] theorem State.raiseIf_meas (c : Bool) (src : FlagSrc) (b : Nat) : (s.raiseIf c src b).meas = s.meas := by
  rw [State.raiseIf_rest]; rfl
@[simp] theorem State.raiseMask_txns (src : FlagSrc) (m : Nat) : (s.raiseMask src m).txns = s.txns := by
  rw [State.raiseMask_rest]; rfl
@[simp] theorem State.raise_txns (src : FlagSrc) (b : Nat) : (s.raise src b).txns = s.txns := s.raiseMask_txns src _
@[simp] theorem State.raiseIf_txns (c : Bool) (src : FlagSrc) (b : Nat) : (s.raiseIf c src b).txns = s.txns := by
  rw [State.raiseIf_rest]; rfl
@[simp] theorem State.raiseMask_cans (src : FlagSrc) (m : Nat) : (s.raiseMask src m).cans = s.cans := by
  rw [State.raiseMask_rest]; rfl
@[simp] theorem State.raise_cans (src : FlagSrc) (b : Nat) : (s.raise src b).cans = s.cans := s.raiseMask_cans src _
@[simp] theorem State.raiseIf_cans (c : Bool) (src : FlagSrc) (b : Nat) : (s.raiseIf c src b).cans = s.cans := by
  rw [State.raiseIf_rest]; rfl
@[simp] theorem State.raiseMask_snl (src : FlagSrc) (m : Nat) : (s.raiseMask src m).snl = s.snl := by
  rw [State.raiseMask_rest]; rfl
@[simp] theorem State.raise_snl (src : FlagSrc) (b : Nat) : (s.raise src b).snl = s.snl := s.raiseMask_snl src _
@[simp] theorem State.raiseIf_snl (c : Bool) (src : FlagSrc) (b : Nat) : (s.raiseIf c src b).snl = s.snl := by
  rw [State.raiseIf_rest]; rfl
@[simp] theorem State.raiseMask_trmons (src : FlagSrc) (m : Nat) : (s.raiseMask src m).trmons = s.trmons := by
  rw [State.raiseMask_rest]; rfl
@[simp] theorem State.raise_trmons (src : FlagSrc) (b : Nat) : (s.raise src b).trmons = s.trmons := s.raiseMask_trmons src _
@[simp] theorem State.raiseIf_trmons (c : Bool) (src : FlagSrc) (b : Nat) : (s.raiseIf c src b).trmons = s.trmons := by
  rw [State.raiseIf_rest]; rfl
@[simp] theorem State.raiseMask_slackCd (src : FlagSrc) (m : Nat) : (s.raiseMask src m).slackCd = s.slackCd := by
  rw [State.raiseMask_rest]; rfl
@[simp] theorem State.raise_slackCd (src : FlagSrc) (b : Nat) : (s.raise src b).slackCd = s.slackCd := s.raiseMask_slackCd src _
@[simp] theorem State.raiseIf_slackCd (c : Bool) (src : FlagSrc) (b : Nat) : (s.raiseIf c src b).slackCd = s.slackCd := by
  rw [State.raiseIf_rest]; rfl
@[simp] theorem State.raiseMask_slackMd (src : FlagSrc) (m : Nat) : (s.raiseMask src m).slackMd = s.slackMd := by
  rw [State.raiseMask_rest]; rfl
@[simp] theorem State.raise_slackMd (src : FlagSrc) (b : Nat) : (s.raise src b).slackMd = s.slackMd := s.raiseMask_slackMd src _
@[simp] theorem State.raiseIf_slackMd (c : Bool) (src : FlagSrc) (b : Nat) : (s.raiseIf c src b).slackMd = s.slackMd := by
  rw [State.raiseIf_rest]; rfl
@[simp] theorem State.raiseMask_stalls (src : FlagSrc) (m : Nat) : (s.raiseMask src m).stalls = s.stalls := by
  rw [State.raiseMask_rest]; rfl
@[simp] theorem State.raise_stalls (src : FlagSrc) (b : Nat) : (s.raise src b).stalls = s.stalls := s.raiseMask_stalls src _
@[simp] theorem State.raiseIf_stalls (c : Bool) (src : FlagSrc) (b : Nat) : (s.raiseIf c src b).stalls = s.stalls := by
  rw [State.raiseIf_rest]; rfl
@[simp] theorem State.raiseMask_bad (src : FlagSrc) (m : Nat) : (s.raiseMask src m).bad = s.bad := by
  rw [State.raiseMask_rest]; rfl
@[simp] theorem State.raise_bad (src : FlagSrc) (b : Nat) : (s.raise src b).bad = s.bad := s.raiseMask_bad src _
@[simp] theorem State.raiseIf_bad (c : Bool) (src : FlagSrc) (b : Nat) : (s.raiseIf c src b).bad = s.bad := by
  rw [State.raiseIf_rest]; rfl
@[simp] theorem State.raiseMask_store (src : FlagSrc) (m : Nat) : (s.raiseMask src m).store = s.store := by
  rw [State.raiseMask_rest]; rfl
@[simp] theorem State.raise_store (src : FlagSrc) (b : Nat) : (s.raise src b).store = s.store := s.raiseMask_store src _
@[simp] theorem State.raiseIf_store (c : Bool) (src : FlagSrc) (b : Nat) : (s.raiseIf c src b).store = s.store := by
  rw [State.raiseIf_rest]; rfl
@[simp] theorem State.raiseMask_auths (src : FlagSrc) (m : Nat) : (s.raiseMask src m).auths = s.auths := by
  rw [State.raiseMask_rest]; rfl
@[simp] theorem State.raise_auths (src : FlagSrc) (b : Nat) : (s.raise src b).auths = s.auths := s.raiseMask_auths src _
@[simp] theorem State.raiseIf_auths (c : Bool) (src : FlagSrc) (b : Nat) : (s.raiseIf c src b).auths = s.auths := by
  rw [State.raiseIf_rest]; rfl
@[simp] theorem State.raiseMask_power (src : FlagSrc) (m : Nat) : (s.raiseMask src m).power = s.power := by
  rw [State.raiseMask_rest]; rfl
@[simp] theorem State.raise_power (src : FlagSrc) (b : Nat) : (s.raise src b).power = s.power := s.raiseMask_power src _
@[simp] theorem State.raiseIf_power (c : Bool) (src : FlagSrc) (b : Nat) : (s.raiseIf c src b).power = s.power := by
  rw [State.raiseIf_rest]; rfl
@[simp] theorem State.raiseMask_diag (src : FlagSrc) (m : Nat) : (s.raiseMask src m).diag = s.diag := by
  rw [State.raiseMask_rest]; rfl
@[simp] theorem State.raise_diag (src : FlagSrc) (b : Nat) : (s.raise src b).diag = s.diag := s.raiseMask_diag src _
@[simp] theorem State.raiseIf_diag (c : Bool) (src : FlagSrc) (b : Nat) : (s.raiseIf c src b).diag = s.diag := by
  rw [State.raiseIf_rest]; rfl
@[simp] theorem State.raiseMask_rm (src : FlagSrc) (m : Nat) : (s.raiseMask src m).rm = s.rm := by
  rw [State.raiseMask_rest]; rfl
@[simp] theorem State.raise_rm (src : FlagSrc) (b : Nat) : (s.raise src b).rm = s.rm := s.raiseMask_rm src _
@[simp] theorem State.raiseIf_rm (c : Bool) (src : FlagSrc) (b : Nat) : (s.raiseIf c src b).rm = s.rm := by
  rw [State.raiseIf_rest]; rfl
@[simp] theorem State.raiseMask_sys (src : FlagSrc) (m : Nat) : (s.raiseMask src m).sys = s.sys := by
  rw [State.raiseMask_rest]; rfl
@[simp] theorem State.raise_sys (src : FlagSrc) (b : Nat) : (s.raise src b).sys = s.sys := s.raiseMask_sys src _
@[simp] theorem State.raiseIf_sys (c : Bool) (src : FlagSrc) (b : Nat) : (s.raiseIf c src b).sys = s.sys := by
  rw [State.raiseIf_rest]; rfl
@[simp] theorem State.raiseMask_modid (src : FlagSrc) (m : Nat) : (s.raiseMask src m).modid = s.modid := by
  rw [State.raiseMask_rest]; rfl
@[simp] theorem State.raise_modid (src : FlagSrc) (b : Nat) : (s.raise src b).modid = s.modid := s.raiseMask_modid src _
@[simp] theorem State.raiseIf_modid (c : Bool) (src : FlagSrc) (b : Nat) : (s.raiseIf c src b).modid = s.modid := by
  rw [State.raiseIf_rest]; rfl
@[simp] theorem State.raiseMask_lastTid (src : FlagSrc) (m : Nat) : (s.raiseMask src m).lastTid = s.lastTid := by
  rw [State.raiseMask_rest]; rfl
@[simp] theorem State.raise_lastTid (src : FlagSrc) (b : Nat) : (s.raise src b).lastTid = s.lastTid := s.raiseMask_lastTid src _
@[simp] theorem State.raiseIf_lastTid (c : Bool) (src : FlagSrc) (b : Nat) : (s.raiseIf c src b).lastTid = s.lastTid := by
  rw [State.raiseIf_rest]; rfl
@[simp] theorem State.raiseMask_cmdWait (src : FlagSrc) (m : Nat) : (s.raiseMask src m).cmdWait = s.cmdWait := by
  rw [State.raiseMask_rest]; rfl
@[simp] theorem State.raise_cmdWait (src : FlagSrc) (b : Nat) : (s.raise src b).cmdWait = s.cmdWait := s.raiseMask_cmdWait src _
@[simp] theorem State.raiseIf_cmdWait (c : Bool) (src : FlagSrc) (b : Nat) : (s.raiseIf c src b).cmdWait = s.cmdWait := by
  rw [State.raiseIf_rest]; rfl
@[simp] theorem State.raiseMask_draws (src : FlagSrc) (m : Nat) : (s.raiseMask src m).draws = s.draws := by
  rw [State.raiseMask_rest]; rfl
@[simp] theorem State.raise_draws (src : FlagSrc) (b : Nat) : (s.raise src b).draws = s.draws := s.raiseMask_draws src _
@[simp] theorem State.raiseIf_draws (c : Bool) (src : FlagSrc) (b : Nat) : (s.raiseIf c src b).draws = s.draws := by
  rw [State.raiseIf_rest]; rfl
@[simp] theorem State.raiseMask_pending (src : FlagSrc) (m : Nat) : (s.raiseMask src m).pending = s.pending := by
  rw [State.raiseMask_rest]; rfl
@[simp] theorem State.raise_pending (src : FlagSrc) (b : Nat) : (s.raise src b).pending = s.pending := s.raiseMask_pending src _
@[simp] theorem State.raiseIf_pending (c : Bool) (src : FlagSrc) (b : Nat) : (s.raiseIf c src b).pending = s.pending := by
  rw [State.raiseIf_rest]; rfl
@[simp] theorem State.raiseMask_blks (src : FlagSrc) (m : Nat) : (s.raiseMask src m).blks = s.blks := by
  rw [State.raiseMask_rest]; rfl
@[simp] theorem State.raise_blks (src : FlagSrc) (b : Nat) : (s.raise src b).blks = s.blks := s.raiseMask_blks src _
@[simp] theorem State.raiseIf_blks (c : Bool) (src : FlagSrc) (b : Nat) : (s.raiseIf c src b).blks = s.blks := by
  rw [State.raiseIf_rest]; rfl
@[simp] theorem State.raiseMask_cpl (src : FlagSrc) (m : Nat) : (s.raiseMask src m).cpl = s.cpl := by
  rw [State.raiseMask_rest]; rfl
@[simp] theorem State.raise_cpl (src : FlagSrc) (b : Nat) : (s.raise src b).cpl = s.cpl := s.raiseMask_cpl src _
@[simp] theorem State.raiseIf_cpl (c : Bool) (src : FlagSrc) (b : Nat) : (s.raiseIf c src b).cpl = s.cpl := by
  rw [State.raiseIf_rest]; rfl
@[simp] theorem State.raiseMask_eccCor (src : FlagSrc) (m : Nat) : (s.raiseMask src m).eccCor = s.eccCor := by
  rw [State.raiseMask_rest]; rfl
@[simp] theorem State.raise_eccCor (src : FlagSrc) (b : Nat) : (s.raise src b).eccCor = s.eccCor := s.raiseMask_eccCor src _
@[simp] theorem State.raiseIf_eccCor (c : Bool) (src : FlagSrc) (b : Nat) : (s.raiseIf c src b).eccCor = s.eccCor := by
  rw [State.raiseIf_rest]; rfl

/-! ### Several causes of one flag in one handshake (R448) -/

/-- Capping the count of an effect changes one register at most, the counter's. -/
theorem State.asOne_cases (src : FlagSrc) (b : Nat) (f : State → State) :
    s.asOne src b f = f s ∨ ∃ a lo v, src.counter b = some (a, lo) ∧ s.asOne src b f = (f s).setReg a v := by
  unfold State.asOne
  rcases h : src.counter b with _ | ⟨a, lo⟩
  · exact .inl rfl
  · exact .inr ⟨a, lo, _, rfl, rfl⟩

end Sys2Proof.Machine
end

