-- ==== Sys2Proof/Laws/Deliver.lean ====
section
/-!
SUPPORT. Everything that the delivery of flag events may change (R402, R412, R435, R456): `Del s t` says that the state `t` differs from `s` in
nothing else, and `Del.settle` that delivery keeps to it.
-/

namespace Sys2Proof.Machine

/-- The flag registers that delivery may write, and the status of the recorder, of which it writes two fields. -/
def deliveryFlag (a : Nat) : Prop := a = Reg.HIF_FLAGS ∨ a = Reg.MBX_FLAGS ∨ a = Reg.REC_FLAGS ∨ a = Reg.REC_STAT

theorem deliveryReg_low {a : Nat} (h : a < 0x60000) : ¬deliveryReg a := by
  unfold deliveryReg; omega

/-- How many of the flags that delivery itself may raise are not set. -/
def State.quiet (s : State) : Nat :=
  b2n (!s.flag .mbx 0) + b2n (!s.flag .mbx 12) + b2n (!s.flag .hif 3) + b2n (!s.flag .hif 7) + b2n (!s.flag .recd 1)

theorem State.quiet_le (s : State) : s.quiet ≤ 5 := by
  have := b2n_le (!s.flag .mbx 0)
  have := b2n_le (!s.flag .mbx 12)
  have := b2n_le (!s.flag .hif 3)
  have := b2n_le (!s.flag .hif 7)
  have := b2n_le (!s.flag .recd 1)
  unfold State.quiet; omega

theorem b2n_not_mono {x y : Bool} (h : x = true → y = true) : b2n (!y) ≤ b2n (!x) := by
  cases x <;> cases y <;> simp_all [b2n]

theorem State.quiet_mono {s t : State}
    (h : ∀ src, src = .hif ∨ src = .mbx ∨ src = .recd → ∀ b, b < 32 → s.flag src b = true → t.flag src b = true) : t.quiet ≤ s.quiet := by
  have := b2n_not_mono (h .mbx (by simp) 0 (by omega))
  have := b2n_not_mono (h .mbx (by simp) 12 (by omega))
  have := b2n_not_mono (h .hif (by simp) 3 (by omega))
  have := b2n_not_mono (h .hif (by simp) 7 (by omega))
  have := b2n_not_mono (h .recd (by simp) 1 (by omega))
  unfold State.quiet; omega

/-- Delivery alone leads from `s` to `t`. -/
structure Del (s t : State) : Prop where
  /-- Registers. -/
  reg : ∀ a, ¬deliveryReg a → t.reg a = s.reg a
  /-- Flags are set, never cleared. -/
  flag : ∀ src, src = .hif ∨ src = .mbx ∨ src = .recd → ∀ b, b < 32 → s.flag src b = true → t.flag src b = true
  /-- REC_STAT but for the queue depth and CAPSTATE. -/
  recstat : ∀ f : Field, f.lo + f.len ≤ 8 ∨ 17 ≤ f.lo → f.lo + f.len ≤ 1 ∨ 3 ≤ f.lo → t.fld Reg.REC_STAT f = s.fld Reg.REC_STAT f
  /-- Triplets take asynchronous inputs. -/
  trip : ∀ k, ∃ l, t.trip k = { s.trip k with inputs := l }
  /-- Event rings: what was lost, and interrupt moderation. -/
  ring : ∀ r, ∃ l c x, t.ring r = { s.ring r with lost := l, irqCount := c, irqSince := x }
  /-- The recorder: sequence numbers and the capture trigger. -/
  recst : ∃ i x b, t.recst = { s.recst with issued := i, trigAt := x, trigSeen := b }
  /-- Mailbox directions from another party than the device. -/
  dir : ∀ c d, c < 16 → ¬(d = false ∧ s.endpoint c false = 7) → t.dir c d = s.dir c d
  /-- A new event is the setting of a flag that delivery itself raises. -/
  ev : t.events = s.events ∨ t.events = [] ∨ t.quiet < s.quiet
  /-- Everything else. -/
  rest : t = s.withDel t

theorem State.withDel_withDel (s t u : State) : (s.withDel t).withDel u = s.withDel u := rfl

theorem Del.refl (s : State) : Del s s :=
  ⟨fun _ _ => rfl, fun _ _ _ _ h => h, fun _ _ _ => rfl, fun k => ⟨(s.trip k).inputs, rfl⟩,
    fun r => ⟨(s.ring r).lost, (s.ring r).irqCount, (s.ring r).irqSince, rfl⟩,
    ⟨s.recst.issued, s.recst.trigAt, s.recst.trigSeen, rfl⟩, fun _ _ _ _ => rfl, .inl rfl, rfl⟩

/-- Set-up words of channels are no delivery registers. -/
theorem endpoint_congr {s t : State} (h : ∀ a, ¬deliveryReg a → t.reg a = s.reg a) (c : Nat) (hc : c < 16) (b : Bool) :
    t.endpoint c b = s.endpoint c b := by
  have : t.chanCfg c = s.chanCfg c := by
    unfold State.chanCfg
    split
    · exact h _ (by simp only [Reg.MBX_CH_CFG, deliveryReg, Nat.blt_eq] at *; omega)
    · exact h _ (by simp only [Reg.MBX_CH_CFG_SEC, deliveryReg, Nat.blt_eq] at *; omega)
  rw [State.endpoint, State.endpoint, this]

theorem Del.trans {s t u : State} (h1 : Del s t) (h2 : Del t u) : Del s u where
  reg a ha := (h2.reg a ha).trans (h1.reg a ha)
  flag src hs b hb h := h2.flag src hs b hb (h1.flag src hs b hb h)
  recstat f ha hb := (h2.recstat f ha hb).trans (h1.recstat f ha hb)
  trip k := by
    obtain ⟨l, hl⟩ := h2.trip k
    obtain ⟨l', hl'⟩ := h1.trip k
    exact ⟨l, by rw [hl, hl']⟩
  ring r := by
    obtain ⟨l, c, x, hl⟩ := h2.ring r
    obtain ⟨l', c', x', hl'⟩ := h1.ring r
    exact ⟨l, c, x, by rw [hl, hl']⟩
  recst := by
    obtain ⟨l, c, x, hl⟩ := h2.recst
    obtain ⟨l', c', x', hl'⟩ := h1.recst
    exact ⟨l, c, x, by rw [hl, hl']⟩
  dir c d hc hd := (h2.dir c d hc fun ⟨hx, hy⟩ => hd ⟨hx, by rw [← hy, endpoint_congr h1.reg c hc]⟩).trans (h1.dir c d hc hd)
  ev := by
    have m1 := State.quiet_mono h1.flag
    have m2 := State.quiet_mono h2.flag
    rcases h1.ev with e1 | e1 | e1 <;> rcases h2.ev with e2 | e2 | e2
    · exact .inl (e2.trans e1)
    · exact .inr (.inl e2)
    · exact .inr (.inr (by omega))
    · exact .inr (.inl (e2.trans e1))
    · exact .inr (.inl e2)
    · exact .inr (.inr (by omega))
    all_goals exact .inr (.inr (by omega))
  rest := h2.rest.trans ((congrArg (fun x : State => x.withDel u) h1.rest).trans (s.withDel_withDel t u))

/-! ### The updates that delivery is made of -/

theorem Del.setReg (s : State) {a : Nat} (v : Word) (ha : deliveryReg a) (hf : ¬deliveryFlag a) : Del s (s.setReg a v) where
  reg c hc := s.reg_setReg_other v fun h => hc (h ▸ ha)
  flag src hs b _ h := by
    have : src.addr ≠ a := by
      rintro rfl
      rcases hs with rfl | rfl | rfl <;> simp [deliveryFlag, FlagSrc.addr] at hf
    rw [State.flag, s.reg_setReg_other v this]; exact h
  recstat f _ _ := by
    rw [State.fld, s.reg_setReg_other v (fun h => hf (by simp [deliveryFlag, ← h]))]; rfl
  trip k := ⟨(s.trip k).inputs, rfl⟩
  ring r := ⟨(s.ring r).lost, (s.ring r).irqCount, (s.ring r).irqSince, rfl⟩
  recst := ⟨s.recst.issued, s.recst.trigAt, s.recst.trigSeen, rfl⟩
  dir _ _ _ _ := rfl
  ev := .inl rfl
  rest := rfl

/-- A field of REC_STAT that delivery may write. -/
theorem Del.setRecStat (s : State) (f : Field) (v : Nat) (h : f = ⟨8, 9⟩ ∨ f = ⟨1, 2⟩) : Del s (s.setFld Reg.REC_STAT f v) where
  reg c hc := s.reg_setFld_other f v fun h => hc (by rw [h]; unfold deliveryReg Reg.REC_STAT; omega)
  flag src hs b _ h := by
    have : src.addr ≠ Reg.REC_STAT := by rcases hs with rfl | rfl | rfl <;> decide
    rw [State.flag, s.reg_setFld_other f v this]; exact h
  recstat g h1 h2 := by
    rcases h with rfl | rfl
    · exact s.fld_setFld_beside _ _ g v (by decide) (by simpa using h1)
    · exact s.fld_setFld_beside _ _ g v (by decide) (by simpa using h2)
  trip k := ⟨(s.trip k).inputs, rfl⟩
  ring r := ⟨(s.ring r).lost, (s.ring r).irqCount, (s.ring r).irqSince, rfl⟩
  recst := ⟨s.recst.issued, s.recst.trigAt, s.recst.trigSeen, rfl⟩
  dir _ _ _ _ := rfl
  ev := .inl rfl
  rest := rfl

/-- The flags that delivery may raise are set, never cleared, by raising one of them. -/
theorem Del.raise_flags (s : State) {src : FlagSrc} {b : Nat} (h : (src = .hif ∧ (b = 3 ∨ b = 7)) ∨ (src = .mbx ∧ (b = 0 ∨ b = 12)) ∨ (src = .recd ∧ b = 1)) :
    ∀ src', src' = .hif ∨ src' = .mbx ∨ src' = .recd → ∀ c, c < 32 → s.flag src' c = true → (s.raise src b).flag src' c = true := by
  intro src' hs c hc hx
  by_cases he : src' = src
  · subst he; exact s.flag_raise_mono src' b c hc hx
  · have hne : src'.addr ≠ src.addr := by
      rcases hs with rfl | rfl | rfl <;> rcases h with ⟨rfl, -⟩ | ⟨rfl, -⟩ | ⟨rfl, -⟩ <;> first | exact absurd rfl he | decide
    have : (s.raise src b).reg src'.addr = s.reg src'.addr := by
      refine s.raise_reg src b hne ?_
      intro a lo ha
      rcases hs with rfl | rfl | rfl <;> rcases h with ⟨rfl, hb⟩ | ⟨rfl, hb⟩ | ⟨rfl, hb⟩ <;>
        simp only [FlagSrc.counter, FlagSrc.cnt0, Option.some.injEq, Prod.mk.injEq] at ha <;>
        obtain ⟨ha, -⟩ := ha <;> subst ha <;>
        simp only [FlagSrc.addr, Reg.HIF_CNT0, Reg.MBX_CNT0, Reg.REC_CNT0, Reg.HIF_FLAGS, Reg.MBX_FLAGS, Reg.REC_FLAGS] <;> omega
    rw [State.flag, this]; exact hx

/-- The flags that delivery may raise have their counters among its registers. -/
theorem Del.raise (s : State) {src : FlagSrc} {b : Nat} (h : (src = .hif ∧ (b = 3 ∨ b = 7)) ∨ (src = .mbx ∧ (b = 0 ∨ b = 12)) ∨ (src = .recd ∧ b = 1)) :
    Del s (s.raise src b) where
  reg c hc := by
    refine s.raise_reg src b ?_ ?_
    · rintro rfl
      apply hc
      rcases h with ⟨rfl, -⟩ | ⟨rfl, -⟩ | ⟨rfl, -⟩ <;> simp [deliveryReg, FlagSrc.addr, Reg.HIF_FLAGS, Reg.MBX_FLAGS, Reg.REC_FLAGS]
    · rintro a lo ha rfl
      apply hc
      rcases h with ⟨rfl, hb⟩ | ⟨rfl, hb⟩ | ⟨rfl, hb⟩ <;> simp only [FlagSrc.counter, FlagSrc.cnt0, Option.some.injEq, Prod.mk.injEq] at ha <;>
        obtain ⟨ha, -⟩ := ha <;> subst ha <;> simp only [deliveryReg, Reg.HIF_CNT0, Reg.MBX_CNT0, Reg.REC_CNT0] <;> omega
  flag := Del.raise_flags s h
  recstat f _ _ := by
    refine State.fld_congr (s.raise_reg src b ?_ ?_) f
    · rcases h with ⟨rfl, -⟩ | ⟨rfl, -⟩ | ⟨rfl, -⟩ <;> decide
    · intro a lo ha
      rcases h with ⟨rfl, hb⟩ | ⟨rfl, hb⟩ | ⟨rfl, hb⟩ <;> simp only [FlagSrc.counter, FlagSrc.cnt0, Option.some.injEq, Prod.mk.injEq] at ha <;>
        obtain ⟨ha, -⟩ := ha <;> subst ha <;> simp only [Reg.HIF_CNT0, Reg.MBX_CNT0, Reg.REC_CNT0, Reg.REC_STAT] <;> omega
  trip k := ⟨(s.trip k).inputs, by rw [State.trip, State.raise_trips]; rfl⟩
  ring r := ⟨(s.ring r).lost, (s.ring r).irqCount, (s.ring r).irqSince, by rw [State.ring, State.raise_rings]; rfl⟩
  recst := ⟨s.recst.issued, s.recst.trigAt, s.recst.trigSeen, by rw [State.raise_recst]⟩
  dir _ _ _ _ := by rw [State.dir, State.raise_mbx]; rfl
  ev := by
    by_cases hf : s.flag src b = true
    · exact .inl (s.raise_events_set src b (by omega) hf)
    · refine .inr (.inr ?_)
      have hset := s.flag_raise src b (by omega)
      have mono := Del.raise_flags s h
      have m1 := b2n_not_mono (mono .mbx (by simp) 0 (by omega))
      have m2 := b2n_not_mono (mono .mbx (by simp) 12 (by omega))
      have m3 := b2n_not_mono (mono .hif (by simp) 3 (by omega))
      have m4 := b2n_not_mono (mono .hif (by simp) 7 (by omega))
      have m5 := b2n_not_mono (mono .recd (by simp) 1 (by omega))
      have hlt : b2n (!(s.raise src b).flag src b) < b2n (!s.flag src b) := by simp [hset, hf, b2n]
      rcases h with ⟨rfl, rfl | rfl⟩ | ⟨rfl, rfl | rfl⟩ | ⟨rfl, rfl⟩ <;> unfold State.quiet <;> omega
  rest := by rw [State.raise_rest]; rfl

theorem Del.raiseIf (s : State) (x : Bool) {src : FlagSrc} {b : Nat}
    (h : (src = .hif ∧ (b = 3 ∨ b = 7)) ∨ (src = .mbx ∧ (b = 0 ∨ b = 12)) ∨ (src = .recd ∧ b = 1)) : Del s (s.raiseIf x src b) := by
  cases x
  · exact Del.refl s
  · exact Del.raise s h

theorem Del.putHost (s : State) (a : Nat) (l : List Byte) : Del s (s.putHost a l) :=
  ⟨fun _ _ => rfl, fun _ _ _ _ h => h, fun _ _ _ => rfl, fun k => ⟨(s.trip k).inputs, rfl⟩,
    fun r => ⟨(s.ring r).lost, (s.ring r).irqCount, (s.ring r).irqSince, rfl⟩,
    ⟨s.recst.issued, s.recst.trigAt, s.recst.trigSeen, rfl⟩, fun _ _ _ _ => rfl, .inl rfl, rfl⟩

theorem Del.updVec (s : State) (v : Nat) (f : MsiVec → MsiVec) : Del s (s.updVec v f) :=
  ⟨fun _ _ => rfl, fun _ _ _ _ h => h, fun _ _ _ => rfl, fun k => ⟨(s.trip k).inputs, rfl⟩,
    fun r => ⟨(s.ring r).lost, (s.ring r).irqCount, (s.ring r).irqSince, rfl⟩,
    ⟨s.recst.issued, s.recst.trigAt, s.recst.trigSeen, rfl⟩, fun _ _ _ _ => rfl, .inl rfl, rfl⟩

theorem Del.updProf (s : State) (v : Nat) (f : ProfSt → ProfSt) : Del s (s.updProf v f) :=
  ⟨fun _ _ => rfl, fun _ _ _ _ h => h, fun _ _ _ => rfl, fun k => ⟨(s.trip k).inputs, rfl⟩,
    fun r => ⟨(s.ring r).lost, (s.ring r).irqCount, (s.ring r).irqSince, rfl⟩,
    ⟨s.recst.issued, s.recst.trigAt, s.recst.trigSeen, rfl⟩, fun _ _ _ _ => rfl, .inl rfl, rfl⟩

theorem Del.noEvents (s : State) : Del s { s with events := [] } :=
  ⟨fun _ _ => rfl, fun _ _ _ _ h => h, fun _ _ _ => rfl, fun k => ⟨(s.trip k).inputs, rfl⟩,
    fun r => ⟨(s.ring r).lost, (s.ring r).irqCount, (s.ring r).irqSince, rfl⟩,
    ⟨s.recst.issued, s.recst.trigAt, s.recst.trigSeen, rfl⟩, fun _ _ _ _ => rfl, .inr (.inl rfl), rfl⟩

theorem Del.setQueue (s : State) (l : List RecEntry) (n : Nat) :
    Del s { s with recQueue := l, recst := { s.recst with issued := n } } :=
  ⟨fun _ _ => rfl, fun _ _ _ _ h => h, fun _ _ _ => rfl, fun k => ⟨(s.trip k).inputs, rfl⟩,
    fun r => ⟨(s.ring r).lost, (s.ring r).irqCount, (s.ring r).irqSince, rfl⟩,
    ⟨n, s.recst.trigAt, s.recst.trigSeen, rfl⟩, fun _ _ _ _ => rfl, .inl rfl, rfl⟩

theorem Del.setTrig (s : State) (x : Nat) (b : Bool) : Del s { s with recst := { s.recst with trigAt := x, trigSeen := b } } :=
  ⟨fun _ _ => rfl, fun _ _ _ _ h => h, fun _ _ _ => rfl, fun k => ⟨(s.trip k).inputs, rfl⟩,
    fun r => ⟨(s.ring r).lost, (s.ring r).irqCount, (s.ring r).irqSince, rfl⟩,
    ⟨s.recst.issued, x, b, rfl⟩, fun _ _ _ _ => rfl, .inl rfl, rfl⟩

theorem Del.updRing (s : State) (r : Nat) (f : RingSt → RingSt)
    (h : ∃ l c x, f (s.ring r) = { s.ring r with lost := l, irqCount := c, irqSince := x }) : Del s (s.updRing r f) where
  reg _ _ := rfl
  flag _ _ _ _ h := h
  recstat _ _ _ := rfl
  trip k := ⟨(s.trip k).inputs, rfl⟩
  ring q := by
    by_cases hq : q = r
    · subst hq; rw [State.ring_updRing_same]; exact h
    · rw [State.ring_updRing_other _ _ hq]; exact ⟨(s.ring q).lost, (s.ring q).irqCount, (s.ring q).irqSince, rfl⟩
  recst := ⟨s.recst.issued, s.recst.trigAt, s.recst.trigSeen, rfl⟩
  dir _ _ _ _ := rfl
  ev := .inl rfl
  rest := rfl

theorem Del.asyncIn (s : State) (t code : Nat) : Del s (s.asyncIn t code) where
  reg _ _ := rfl
  flag _ _ _ _ h := h
  recstat _ _ _ := rfl
  trip k := by
    by_cases hk : k = t
    · subst hk; rw [State.asyncIn, State.trip_updTrip_same]; exact ⟨_, rfl⟩
    · rw [State.asyncIn, State.trip_updTrip_other _ _ hk]; exact ⟨(s.trip k).inputs, rfl⟩
  ring r := ⟨(s.ring r).lost, (s.ring r).irqCount, (s.ring r).irqSince, rfl⟩
  recst := ⟨s.recst.issued, s.recst.trigAt, s.recst.trigSeen, rfl⟩
  dir _ _ _ _ := rfl
  ev := .inl rfl
  rest := rfl

/-- A direction that the device sends on. -/
theorem Del.updDir (s : State) {c : Nat} (f : NoticeDir → NoticeDir) (he : s.endpoint c false = 7) : Del s (s.updDir c false f) where
  reg _ _ := rfl
  flag _ _ _ _ h := h
  recstat _ _ _ := rfl
  trip k := ⟨(s.trip k).inputs, rfl⟩
  ring r := ⟨(s.ring r).lost, (s.ring r).irqCount, (s.ring r).irqSince, rfl⟩
  recst := ⟨s.recst.issued, s.recst.trigAt, s.recst.trigSeen, rfl⟩
  dir c' d' _ hd := s.dir_updDir_other f fun h => hd (by
    simp only [Prod.mk.injEq] at h
    exact ⟨h.2, by rw [h.1]; exact he⟩)
  ev := .inl rfl
  rest := rfl

theorem Del.setDevQueue (s : State) (l : List DevNotice) : Del s { s with devQueue := l } :=
  ⟨fun _ _ => rfl, fun _ _ _ _ h => h, fun _ _ _ => rfl, fun k => ⟨(s.trip k).inputs, rfl⟩,
    fun r => ⟨(s.ring r).lost, (s.ring r).irqCount, (s.ring r).irqSince, rfl⟩,
    ⟨s.recst.issued, s.recst.trigAt, s.recst.trigSeen, rfl⟩, fun _ _ _ _ => rfl, .inl rfl, rfl⟩

theorem Del.each {α : Type} (s : State) (l : List α) (f : State → α → State) (h : ∀ u x, x ∈ l → Del u (f u x)) : Del s (s.each l f) :=
  s.each_rel Del Del.refl Del.trans f l h

theorem Del.ite {s t u : State} (c : Prop) [Decidable c] (h1 : Del s t) (h2 : Del s u) : Del s (if c then t else u) := by
  split
  · exact h1
  · exact h2

/-! ### The functions of delivery -/

theorem Del.notify (s : State) (code c : Nat) : Del s (s.notify code c 0) := by
  unfold State.notify
  split
  · exact Del.raise s (.inr (.inl ⟨rfl, .inl rfl⟩))
  · exact Del.refl s
  · exact Del.refl s
  · exact Del.asyncIn s _ _

theorem Del.present (s : State) {c : Nat} (he : s.endpoint c false = 7) : Del s (s.present c false) := by
  unfold State.present
  dsimp only
  refine Del.trans ?_ (Del.notify _ _ _)
  split
  · refine (Del.updDir s _ he).trans (Del.setReg _ _ (by simp [deliveryReg, Reg.MBX_RXPEND]) ?_)
    simp [deliveryFlag, Reg.MBX_RXPEND, Reg.HIF_FLAGS, Reg.MBX_FLAGS, Reg.REC_FLAGS, Reg.REC_STAT]
  · exact Del.updDir s _ he

theorem Del.setChStat (s : State) {c : Nat} (hc : c < 8) (d busy : Bool) : Del s (s.setChStat c d busy) :=
  Del.setReg _ _ (by simp only [deliveryReg, Reg.MBX_CH_STAT]; omega)
    (by simp only [deliveryFlag, Reg.MBX_CH_STAT, Reg.HIF_FLAGS, Reg.MBX_FLAGS, Reg.REC_FLAGS, Reg.REC_STAT]; omega)

theorem Del.post (s : State) {c : Nat} (hc : c < 8) (he : s.endpoint c false = 7) (ptr tag : Nat) : Del s (s.post c false ptr tag) := by
  unfold State.post
  dsimp only
  have h1 := (Del.updDir s (fun n => { n with busy := true, seq := (n.seq + 1) % 256, ptr, tag, posted := s.now }) he).trans
    (Del.setChStat (s.updDir c false fun n => { n with busy := true, seq := (n.seq + 1) % 256, ptr, tag, posted := s.now }) hc false true)
  exact h1.trans (Del.present _ (by rw [endpoint_congr h1.reg c (by omega)]; exact he))

theorem Del.device (s : State) (addressee block code status : Nat) : Del s (s.device addressee block code status) := by
  unfold State.device
  dsimp only
  split
  · exact Del.raise s (.inr (.inl ⟨rfl, .inr rfl⟩))
  · rename_i c hf
    have hmem := List.mem_of_find?_eq_some hf
    have hp := List.find?_some hf
    simp only [List.mem_range] at hmem
    simp only [Bool.and_eq_true, beq_iff_eq] at hp
    split
    · exact Del.refl s
    · split
      · split
        · exact Del.setDevQueue s _
        · exact Del.raise s (.inr (.inl ⟨rfl, .inr rfl⟩))
      · exact Del.post s hmem hp.1.2 _ _

theorem Del.message (s : State) {v : Nat} (hv : v < 64) : Del s (s.message v) := by
  unfold State.message
  split
  · exact Del.updVec s _ _
  · split
    · exact Del.setReg _ _ (by simp only [deliveryReg, Reg.MSIX_PBA]; omega)
        (by simp only [deliveryFlag, Reg.MSIX_PBA, Reg.HIF_FLAGS, Reg.MBX_FLAGS, Reg.REC_FLAGS, Reg.REC_STAT]; omega)
    · split
      · split <;> exact Del.updVec s _ _
      · exact Del.updVec s _ _

theorem Del.writeBack (s : State) (r idx : Nat) : Del s (s.writeBack r idx) := Del.putHost s _ _

theorem Del.moderate (s : State) (r : Nat) (x : Bool) : Del s (s.moderate r x) := by
  unfold State.moderate
  dsimp only
  have h1 : Del s (s.updRing r fun x => { x with irqCount := x.irqCount + 1, irqSince := some (x.irqSince.getD s.now) }) :=
    Del.updRing s r _ ⟨_, _, _, rfl⟩
  split
  · exact h1.trans ((Del.message _ (Field.get_lt _ _)).trans (Del.updRing _ r _ ⟨_, _, _, rfl⟩))
  · exact h1

theorem Del.produce (s : State) {r : Nat} (hr : 24 ≤ r ∧ r < 28) (size : Nat) (x : Bool) (mk : Nat → Nat → List Byte) :
    Del s (s.produce r size x mk) := by
  unfold State.produce
  dsimp only
  refine Del.trans ?_ ((Del.writeBack _ _ _).trans (Del.moderate _ _ _))
  refine (Del.putHost s _ _).trans (Del.trans (Del.setReg _ _ ?_ ?_) (Del.setReg _ _ ?_ ?_)) <;>
    simp only [deliveryReg, deliveryFlag, Reg.HIF_RING_DEVIDX, Reg.HIF_RING_DONE, Reg.HIF_FLAGS, Reg.MBX_FLAGS, Reg.REC_FLAGS, Reg.REC_STAT] <;> omega

theorem Del.overflowEntry (s : State) {r : Nat} (hr : 24 ≤ r ∧ r < 28) : Del s (s.overflowEntry r) := by
  unfold State.overflowEntry
  split
  · exact ((Del.produce s hr _ _ _).trans (Del.updRing _ r _ ⟨_, _, _, rfl⟩)).trans (Del.raise _ (.inl ⟨rfl, .inl rfl⟩))
  · exact Del.refl s

theorem Del.eventEntry (s : State) {e : Nat} (he : e < 4) (addr bits : Nat) : Del s (s.eventEntry e addr bits) := by
  unfold State.eventEntry
  dsimp only
  split
  · exact Del.refl s
  · have h1 := Del.overflowEntry s (r := 24 + e) (by omega)
    split
    · exact h1.trans (Del.produce _ (by omega) _ _ _)
    · exact h1.trans ((Del.updRing _ _ _ ⟨_, _, _, rfl⟩).trans (Del.raiseIf _ _ (.inl ⟨rfl, .inr rfl⟩)))

theorem Del.routeEvent (s : State) (e : FlagEvent) : Del s (s.routeEvent e) := by
  unfold State.routeEvent
  dsimp only
  split
  · exact Del.refl s
  · have h1 : Del s (if Fld.GLB_ROUTE_RING.on (s.reg (Reg.GLB_ROUTE e.src)) then
        s.eventEntry (Fld.GLB_ROUTE_EQ.get (s.reg (Reg.GLB_ROUTE e.src))) e.addr (e.bits &&& (s.reg (Reg.GLB_MASK e.src)).toNat) else s) := by
      split
      · exact Del.eventEntry s (Field.get_lt _ _) _ _
      · exact Del.refl s
    split
    · exact h1.trans (Del.message _ (Field.get_lt _ _))
    · exact h1

theorem Del.enqueue (s : State) (e : RecEntry) : Del s (s.enqueue e) :=
  (Del.setQueue s _ _).trans (Del.setRecStat _ _ _ (.inl rfl))

theorem Del.startCapture (u : State) : Del u { u.setFld Reg.REC_STAT Fld.REC_STAT_CAPSTATE capPOST with
    recst := { u.recst with trigAt := u.now, trigSeen := false } } :=
  (Del.setRecStat u _ _ (.inr rfl)).trans (Del.setTrig (u.setFld Reg.REC_STAT Fld.REC_STAT_CAPSTATE capPOST) u.now false)

theorem Del.triggerProfile (s : State) {p : Nat} (hp : p < 32) (source bits : Nat) : Del s (s.triggerProfile p source bits) := by
  unfold State.triggerProfile
  dsimp only
  apply Del.ite
  · refine (((Del.updProf s p _).trans (Del.setReg _ _ ?_ ?_)).trans (Del.setReg _ _ ?_ ?_)).trans
      (Del.raise _ (.inr (.inr ⟨rfl, rfl⟩))) <;>
      simp only [deliveryReg, deliveryFlag, Reg.REC_P_SUPP, Reg.REC_SUPPTOT, Reg.HIF_FLAGS, Reg.MBX_FLAGS, Reg.REC_FLAGS, Reg.REC_STAT]
    all_goals first | omega | decide
  · generalize s.entry 2 p source bits _ _ _ _ = en
    have h1 : Del s ((s.enqueue en).updProf p fun _ => { last := some s.now, supp := 0 }) := (Del.enqueue s en).trans (Del.updProf _ _ _)
    apply Del.ite
    · exact Del.trans (Del.ite _ (h1.trans (Del.startCapture _)) h1) (Del.device _ _ _ _ _)
    · exact Del.ite _ (h1.trans (Del.startCapture _)) h1

/-- Suppressed triggers of one handshake count once (R448). -/
theorem Del.asOneSupp {s : State} {f : State → State} (h : Del s (f s)) : Del s (s.asOne .recd 1 f) := by
  rcases s.asOne_cases .recd 1 f with e | ⟨a, lo, v, ha, e⟩
  · rw [e]; exact h
  · rw [e]
    simp only [FlagSrc.counter, FlagSrc.cnt0, Option.some.injEq, Prod.mk.injEq] at ha
    obtain ⟨rfl, -⟩ := ha
    exact h.trans (Del.setReg _ v (by unfold deliveryReg; decide) (by unfold deliveryFlag; decide))

theorem Del.deliver (s : State) (l : List FlagEvent) : Del s (s.deliver l) := by
  have key : ∀ trig : List (Nat × FlagEvent), (∀ pe ∈ trig, pe.1 < 32) →
      Del s (l.foldl State.routeEvent (s.asOne .recd 1 fun s => trig.foldl (fun t pe => t.triggerProfile pe.1 pe.2.addr pe.2.bits) s)) :=
    fun trig h =>
      (Del.asOneSupp (Del.each s trig (fun t pe => t.triggerProfile pe.1 pe.2.addr pe.2.bits) fun u pe hpe =>
        Del.triggerProfile u (h pe hpe) _ _)).trans (Del.each _ l State.routeEvent fun u e _ => Del.routeEvent u e)
  refine key _ fun pe hpe => ?_
  simp only [List.mem_filterMap, Option.map_eq_some_iff, List.mem_range] at hpe
  obtain ⟨p, hp, e, -, rfl⟩ := hpe
  exact hp

theorem Del.settleN (n : Nat) (s : State) : Del s (s.settleN n) := by
  induction n generalizing s with
  | zero => exact Del.refl s
  | succ n ih =>
    rw [State.settleN]
    split
    · exact Del.refl s
    · exact ((Del.noEvents s).trans (Del.deliver _ _)).trans (ih _)

theorem State.settleN_of_no_events (n : Nat) (s : State) (h : s.events = []) : s.settleN n = s := by
  cases n with
  | zero => rfl
  | succ n => rw [State.settleN]; split <;> simp_all

/-- A round of delivery leaves no event, or has set one more of the flags that delivery raises; so the rounds end. -/
theorem State.settleN_events (n : Nat) (s : State) (h : s.quiet < n) : (s.settleN n).events = [] := by
  induction n generalizing s with
  | zero => omega
  | succ n ih =>
    rw [State.settleN]
    split
    · assumption
    · rcases (Del.deliver { s with events := [] } (mergeEvents s.events)).ev with he | he | he
      · rw [State.settleN_of_no_events _ _ he]; exact he
      · rw [State.settleN_of_no_events _ _ he]; exact he
      · exact ih _ (by have : State.quiet { s with events := [] } = s.quiet := rfl; omega)

/-- The delivery of a command's events changes nothing but what `Del` names. -/
theorem Del.settle (s : State) : Del s s.settle := by
  unfold State.settle
  split
  · exact Del.settleN 8 s
  · exact Del.noEvents s

/-! ### What delivery leaves alone -/

variable (s : State)

@[simp] theorem State.settle_variant : s.settle.variant = s.variant := by rw [(Del.settle s).rest]; rfl
@[simp] theorem State.settle_now : s.settle.now = s.now := by rw [(Del.settle s).rest]; rfl
@[simp] theorem State.settle_tb : s.settle.tb = s.tb := by rw [(Del.settle s).rest]; rfl
@[simp] theorem State.settle_ptp : s.settle.ptp = s.ptp := by rw [(Del.settle s).rest]; rfl
@[simp] theorem State.settle_ptpAdd : s.settle.ptpAdd = s.ptpAdd := by rw [(Del.settle s).rest]; rfl
@[simp] theorem State.settle_cdRun : s.settle.cdRun = s.cdRun := by rw [(Del.settle s).rest]; rfl
@[simp] theorem State.settle_rmRun : s.settle.rmRun = s.rmRun := by rw [(Del.settle s).rest]; rfl
@[simp] theorem State.settle_dram : s.settle.dram = s.dram := by rw [(Del.settle s).rest]; rfl
@[simp] theorem State.settle_recStore : s.settle.recStore = s.recStore := by rw [(Del.settle s).rest]; rfl
@[simp] theorem State.settle_safetyLog : s.settle.safetyLog = s.safetyLog := by rw [(Del.settle s).rest]; rfl
@[simp] theorem State.settle_clearLog : s.settle.clearLog = s.clearLog := by rw [(Del.settle s).rest]; rfl
@[simp] theorem State.settle_barkerSt : s.settle.barkerSt = s.barkerSt := by rw [(Del.settle s).rest]; rfl
@[simp] theorem State.settle_edges : s.settle.edges = s.edges := by rw [(Del.settle s).rest]; rfl
@[simp] theorem State.settle_gatesH : s.settle.gatesH = s.gatesH := by rw [(Del.settle s).rest]; rfl
@[simp] theorem State.settle_gatesL : s.settle.gatesL = s.gatesL := by rw [(Del.settle s).rest]; rfl
@[simp] theorem State.settle_drvs : s.settle.drvs = s.drvs := by rw [(Del.settle s).rest]; rfl
@[simp] theorem State.settle_clusters : s.settle.clusters = s.clusters := by rw [(Del.settle s).rest]; rfl
@[simp] theorem State.settle_gmus : s.settle.gmus = s.gmus := by rw [(Del.settle s).rest]; rfl
@[simp] theorem State.settle_npms : s.settle.npms = s.npms := by rw [(Del.settle s).rest]; rfl
@[simp] theorem State.settle_regions : s.settle.regions = s.regions := by rw [(Del.settle s).rest]; rfl
@[simp] theorem State.settle_dcs : s.settle.dcs = s.dcs := by rw [(Del.settle s).rest]; rfl
@[simp] theorem State.settle_chgs : s.settle.chgs = s.chgs := by rw [(Del.settle s).rest]; rfl
@[simp] theorem State.settle_ldgs : s.settle.ldgs = s.ldgs := by rw [(Del.settle s).rest]; rfl
@[simp] theorem State.settle_journal : s.settle.journal = s.journal := by rw [(Del.settle s).rest]; rfl
@[simp] theorem State.settle_snet : s.settle.snet = s.snet := by rw [(Del.settle s).rest]; rfl
@[simp] theorem State.settle_svrs : s.settle.svrs = s.svrs := by rw [(Del.settle s).rest]; rfl
@[simp] theorem State.settle_auxs : s.settle.auxs = s.auxs := by rw [(Del.settle s).rest]; rfl
@[simp] theorem State.settle_fbs : s.settle.fbs = s.fbs := by rw [(Del.settle s).rest]; rfl
@[simp] theorem State.settle_thm : s.settle.thm = s.thm := by rw [(Del.settle s).rest]; rfl
@[simp] theorem State.settle_pack : s.settle.pack = s.pack := by rw [(Del.settle s).rest]; rfl
@[simp] theorem State.settle_meas : s.settle.meas = s.meas := by rw [(Del.settle s).rest]; rfl
@[simp] theorem State.settle_txns : s.settle.txns = s.txns := by rw [(Del.settle s).rest]; rfl
@[simp] theorem State.settle_cans : s.settle.cans = s.cans := by rw [(Del.settle s).rest]; rfl
@[simp] theorem State.settle_snl : s.settle.snl = s.snl := by rw [(Del.settle s).rest]; rfl
@[simp] theorem State.settle_trmons : s.settle.trmons = s.trmons := by rw [(Del.settle s).rest]; rfl
@[simp] theorem State.settle_slackCd : s.settle.slackCd = s.slackCd := by rw [(Del.settle s).rest]; rfl
@[simp] theorem State.settle_slackMd : s.settle.slackMd = s.slackMd := by rw [(Del.settle s).rest]; rfl
@[simp] theorem State.settle_stalls : s.settle.stalls = s.stalls := by rw [(Del.settle s).rest]; rfl
@[simp] theorem State.settle_bad : s.settle.bad = s.bad := by rw [(Del.settle s).rest]; rfl
@[simp] theorem State.settle_store : s.settle.store = s.store := by rw [(Del.settle s).rest]; rfl
@[simp] theorem State.settle_auths : s.settle.auths = s.auths := by rw [(Del.settle s).rest]; rfl
@[simp] theorem State.settle_power : s.settle.power = s.power := by rw [(Del.settle s).rest]; rfl
@[simp] theorem State.settle_diag : s.settle.diag = s.diag := by rw [(Del.settle s).rest]; rfl
@[simp] theorem State.settle_rm : s.settle.rm = s.rm := by rw [(Del.settle s).rest]; rfl
@[simp] theorem State.settle_sys : s.settle.sys = s.sys := by rw [(Del.settle s).rest]; rfl
@[simp] theorem State.settle_modid : s.settle.modid = s.modid := by rw [(Del.settle s).rest]; rfl
@[simp] theorem State.settle_lastTid : s.settle.lastTid = s.lastTid := by rw [(Del.settle s).rest]; rfl
@[simp] theorem State.settle_cmdWait : s.settle.cmdWait = s.cmdWait := by rw [(Del.settle s).rest]; rfl
@[simp] theorem State.settle_draws : s.settle.draws = s.draws := by rw [(Del.settle s).rest]; rfl
@[simp] theorem State.settle_pending : s.settle.pending = s.pending := by rw [(Del.settle s).rest]; rfl
@[simp] theorem State.settle_blks : s.settle.blks = s.blks := by rw [(Del.settle s).rest]; rfl
@[simp] theorem State.settle_cpl : s.settle.cpl = s.cpl := by rw [(Del.settle s).rest]; rfl
@[simp] theorem State.settle_eccCor : s.settle.eccCor = s.eccCor := by rw [(Del.settle s).rest]; rfl

theorem State.settle_reg {a : Nat} (h : ¬deliveryReg a) : s.settle.reg a = s.reg a := (Del.settle s).reg a h

/-- Delivery leaves every register below the HIF block alone. -/
theorem State.settle_reg_low {a : Nat} (h : a < 0x60000) : s.settle.reg a = s.reg a := (Del.settle s).reg a (deliveryReg_low h)

theorem State.settle_fld_low {a : Nat} (f : Field) (h : a < 0x60000) : s.settle.fld a f = s.fld a f := State.fld_congr (s.settle_reg_low h) f

theorem State.settle_bit_low {a : Nat} (f : Field) (h : a < 0x60000) : s.settle.bit a f = s.bit a f := State.bit_congr (s.settle_reg_low h) f

/-- A command leaves no flag event undelivered. -/
theorem State.settle_events : s.settle.events = [] := by
  unfold State.settle
  split
  · exact State.settleN_events 8 s (by have := s.quiet_le; omega)
  · rfl

/-! ### The shape of a meaning -/

theorem onlyIf_pos {c : Bool} (s : State) (f : State → State) (h : c = true) : onlyIf c s f = .next (f s).settle := by rw [onlyIf, if_pos h]; rfl

theorem onlyIf_neg {c : Bool} (s : State) (f : State → State) (h : c = false) : onlyIf c s f = .next s := by rw [onlyIf, h]; rfl

/-- A command carried out under a condition leaves no flag event undelivered if it found none. -/
theorem onlyIf_events {c : Bool} {s t : State} {f : State → State} (h : onlyIf c s f = .next t) (hs : s.events = []) : t.events = [] := by
  cases c
  · rw [onlyIf_neg s f rfl] at h; cases h; exact hs
  · rw [onlyIf_pos s f rfl] at h; cases h; exact State.settle_events _

end Sys2Proof.Machine
end

