-- ==== Sys2Proof/Tests/Slice0.lean ====
section
/-!
SUPPORT. Tests: the smoke test of well-formedness, small tests from the manual's worked examples, and for every statement with hypotheses
a state and operands that meet them together.
-/

open Sys2Proof Sys2Proof.Machine

/-! ### Well-formedness refuses what no sender can form -/

theorem test_wf_register_write : (Instr.registerWrite 0x200000 0).wellFormed = false ∧ (Instr.registerWrite 2 0).wellFormed = false ∧
    (Instr.registerWrite 0x1FFFFC 0).wellFormed := by decide
theorem test_wf_bar4_write : (Instr.bar4Write 0 []).wellFormed = false ∧ (Instr.bar4Write (2 ^ 29) [0]).wellFormed = false := by decide
theorem test_wf_bar4_read : (Instr.bar4Read 0 0 0 false).wellFormed = false ∧ (Instr.bar4Read (2 ^ 29 - 1) 2 0 false).wellFormed = false := by decide
theorem test_wf_nonce_read : (Instr.nonceRead (2 ^ 128)).wellFormed = false := by decide
theorem test_wf_image_write : (Instr.imageWrite .rm 256 0 true).wellFormed = false := by decide
theorem test_wf_load_config_image : (Instr.loadConfigImage ⟨[], [0]⟩).wellFormed = false := by decide
theorem test_wf_gmu_update : (Instr.gmuUpdate 0 ⟨50000, 0, 65536, 0, 0, none, none⟩).wellFormed = false := by decide
theorem test_wf_dc_split_ack : (Instr.dcSplitAck .host 1 [0, 0, 0, 0, 0, 0, 0, 0, 0]).wellFormed = false := by decide
theorem test_wf_readmit : (Instr.readmit 0 8).wellFormed = false := by decide
/-- Nine data bytes in a classic CAN frame. -/
theorem test_wf_bmu_frame : (Instr.bmuFrame 0 ⟨5 * 2 ^ 18, false, false, false, false, false, 8, [0, 0, 0, 0, 0, 0, 0, 0, 0], 0⟩).wellFormed = false := by decide
/-- A remote frame in FD format, and a standard identifier outside bits 28:18. -/
theorem test_wf_can_rx_frame : (Instr.canRxFrame 0 ⟨0, true, true, true, false, false, 0, [], 0⟩).wellFormed = false ∧
    (Instr.canRxFrame 0 ⟨1, false, false, false, false, false, 0, [], 0⟩).wellFormed = false := by decide
theorem test_wf_precision_conversion : (Instr.precisionConversion []).wellFormed = false := by decide
/-- Input 16 does not belong to pair 0. -/
theorem test_wf_sar_scan : (Instr.sarScan 0 0 0 [⟨16, [], false⟩]).wellFormed = false := by decide
theorem test_wf_thermal_reading : (Instr.thermalReading ⟨[], []⟩).wellFormed = false := by decide
theorem test_wf_svr_period : (Instr.svrPeriod 0 ⟨0, [0]⟩).wellFormed = false := by decide
theorem test_wf_transaction_present :
    (Instr.transactionPresent 0 0 ⟨0, 65536, ⟨1, 0, 4, 15, 0, 0, 0⟩, false, 0⟩).wellFormed = false := by decide
theorem test_wf_rm_decision : (Instr.rmDecision ⟨[0, 0], [0, 0, 0]⟩).wellFormed = false := by decide
theorem test_wf_eth_rx_frame : (Instr.ethRxFrame 0 ⟨64, true, true, some 4096⟩).wellFormed = false := by decide
theorem test_wf_safety_copy : (Instr.safetyCopy 0 ⟨none, 0, 0, 0, [], 0, 0⟩).wellFormed = false := by decide
theorem test_wf_capture_record : (Instr.captureRecord 0 []).wellFormed = false := by decide

/-! ### The manual's worked examples -/

/-- R107's example: IREF 1,900, an estimate of 1,853 codes, KP 1,024, KI 8, DFF 0x6000, an integrator of 512 LSB, 10,000 ticks since the last
update. The integrator becomes 569.37 LSB and CMPA 30,924 fine steps. -/
def loopState : State :=
  ((((State.reset.setNat (Reg.EDG_KP 4) 1024).setNat (Reg.EDG_KI 4) 8).setNat (Reg.EDG_REF 4) (0x60000000 + 1900)).setNat (Reg.EDG_CARRIER 4)
    0x81388).setNat (Reg.EDG_DUTYLIM 4) 0xFFFF0000 |>.updEdge 4 fun e => { e with integ := 512 * 65536, first := false }
theorem test_inner_loop : ((loopState.loopUpdate 4 1853 160000).reg (Reg.EDG_CMPA 4)).toNat = 30924 ∧
    ((loopState.loopUpdate 4 1853 160000).edge 4).integ = 512 * 65536 + 3760000 := by decide
/-- R104 in the same example: 1,840 codes at 1,203,999,837 + 8 fine and 1,872 codes 400 ticks later give 1,853 codes at the carrier zero. -/
theorem test_interpolation : interpolate (16 * 1203999837 + 8) 1840 (16 * 1203999837 + 8 + 6400) 1872 (16 * 1204000000) = 1853 := by decide

/-- R243's example: IN5 with N = 12 and SHIFT 3; twelve conversions in whole codes with the example's sum, 14,463, give a record of 1,808
(0x0710). -/
def scanState : State := ((State.reset.setNat (Reg.MEAS_IN_CFG 5) 0x30B).setNat (Reg.MEAS_SAR_MASK 0) 0x21)
set_option maxRecDepth 10000 in
theorem test_sar_average :
    (((scanState.sarRecord 1000000000 false false ⟨5, [1204, 1207, 1204, 1205, 1207, 1205, 1206, 1206, 1203, 1206, 1205, 1205], false⟩).reg
      (Reg.MEAS_IN_LAST 5)).toNat % 65536) = 0x710 := by decide

/-- R228's example: CLINK 12,000 µF and a link from 1,250,000 mV to 1,251,200 mV; rq is −10,000,000 nC and re −12,506,000 µJ. -/
def residualState : State :=
  (State.reset.setNat (Reg.LDG_CLINK 0) 12000).updLdg 0 fun l =>
    { l with v1 := some 1250000, v2 := 1251200,
             posts := [210120500000, 0, 262776697300, 0, 195310250000, 0, 244254998650, 0, 0, 402100750000, 0, 502867197950, 0, 0, 0, 0,
               0, 3305600000, 0, 4133983360] ++ List.replicate 32 0 }
theorem test_residual : residualState.residual 0 = some (-10000000, -12506000 * 2000000) := by decide

theorem test_pair_period : (scanState.setNat (Reg.MEAS_SAR_MASK 1) 0x16 |>.setNat (Reg.MEAS_IN_CFG 9) 3 |>.setNat (Reg.MEAS_IN_CFG 10) 3
    |>.setNat (Reg.MEAS_IN_CFG 12) 3).pairP 0 1000000000 false = 280 := by decide

/-- R387's example: at index 2,000 of a completion ring of 32 entries PHASE is 1, at 2,016 it is 0. -/
theorem test_phase : phaseOf 2000 32 = 1 ∧ phaseOf 2015 32 = 1 ∧ phaseOf 2016 32 = 0 ∧ phaseOf 2021 32 = 0 := by decide

/-- R425's example: carrier zeros at multiples of 10,000 ticks; the first at or after tick 7,000,007,100 is tick 7,000,010,000, and tc lies 64
ticks before it. -/
theorem test_commit_instant : gridAfter 0 160000 (16 * 7000007100) - 16 * 64 = 16 * 7000009936 := by decide

/-- R456's example: three desaturations of slot 3 leave DSAT_H set, its counter at 3 and one event of source 10 at 0x1_8704. -/
def threeDsat : State := ((State.reset.raise (.gdv 3) 0).raise (.gdv 3) 0).raise (.gdv 3) 0
theorem test_three_occurrences : threeDsat.reg 0x18704 = 1 ∧ threeDsat.reg 0x18708 = 3 ∧ threeDsat.events = [⟨10, 0x18704, 1⟩] := by decide
/-- A fourth before the host's writes: the clearing write clears the flag, the subtraction of 3 leaves 1. -/
theorem test_fourth_occurrence :
    ((((threeDsat.raise (.gdv 3) 0).setNat Reg.GLB_CNTSEL 0x18708).cntSub 3).reg 0x18708) = 1 := by decide

set_option maxRecDepth 10000 in
/-- The check value of the CRC-32C of R338 over the nine characters 1 to 9, as published for the Castagnoli polynomial. -/
theorem test_crc32c : crc32c [0x31, 0x32, 0x33, 0x34, 0x35, 0x36, 0x37, 0x38, 0x39] = 0xE3069283 := by decide


/-! ### Every set of hypotheses is met -/

/-- A safety parameter set that every check passes. -/
def okPars : List Word :=
  (List.range 64).map fun w =>
    [(1, 0xA0003), (2, 0x10000000), (16, 0x9191), (18, 1), (24, 10), (25, 10), (26, 0xA000B), (27, 12), (28, 10), (29, 10), (30, 0xA000B),
     (31, 12)].foldl (fun (acc : Word) p => if p.1 = w then BitVec.ofNat 32 p.2 else acc) 0

theorem test_met_step_runs_front :
    (∃ (c : Instr) (s : State) (rest : List Instr), s.pending = c :: rest) ∧
    (∃ s : State, s.pending = []) :=
  ⟨⟨.tbLoRead, { State.reset with pending := [.tbLoRead] }, [], by decide⟩,
    ⟨State.reset, by decide⟩⟩

theorem test_met_tick_counts :
    (∃ s : State, s.pending = [] ∧ s.cdRun ∧ s.clockOut 1 = false) ∧
    (∃ s : State, s.pending = [] ∧ s.cdRun = false) :=
  ⟨⟨State.reset, by decide⟩,
    ⟨{ State.reset with cdRun := false }, by decide⟩⟩

theorem test_met_reset_state :
    ∃ (a : Nat) (r : RegRow), Reg.row a = some r ∧ r.present State.reset.variant a ∧ ¬(0x68080 ≤ a ∧ a < 0x68100) :=
  ⟨0x80, ⟨0x80, [], 0, 0x000FFFFF, 0, 0, .any⟩, by decide⟩

set_option maxRecDepth 100000 in
theorem test_met_every_step_delivers :
    ∃ s t : State, s.events = [] ∧ step s = .next t :=
  ⟨{ State.reset with pending := [.badAccess .bar2 true] }, _, by decide, rfl⟩

theorem test_met_stopped_dies_do_nothing :
    (∃ (i : Instr) (s : State), withoutControlDie i = false ∧ s.cdRun = false) ∧
    (∃ (i : Instr) (s : State), ofRingmaster i ∧ s.rmRun = false) :=
  ⟨⟨.nudge 1, { State.reset with cdRun := false }, by decide⟩,
    ⟨.aliveWord, { State.reset with rmRun := false }, by decide⟩⟩

theorem test_met_completion_writes :
    (∃ (who : Party) (m : Mon) (v : Word) (s : State), s.cdRun ∧ (who ≠ .host ∨ 32 ≤ m.val) ∧
      (partyCode who = s.trOwner m.val ∧ s.trState m.val = 2 ∧ v.toNat % 65536 = s.fld (Reg.CLK_TR_STAT m.val) Fld.CLK_TR_STAT_SEQ ∧ (s.trmon m.val).jobRel ≤ s.tb ∧ s.tb ≤ s.trDeadline m.val)) ∧
    (∃ (who : Party) (m : Mon) (v : Word) (s : State), s.cdRun ∧ (who ≠ .host ∨ 32 ≤ m.val) ∧ s.trLate m.val (v.toNat % 65536) = none ∧
      ¬(partyCode who = s.trOwner m.val ∧ s.trState m.val = 2 ∧ v.toNat % 65536 = s.fld (Reg.CLK_TR_STAT m.val) Fld.CLK_TR_STAT_SEQ ∧ (s.trmon m.val).jobRel ≤ s.tb ∧ s.tb ≤ s.trDeadline m.val)) :=
  ⟨⟨.mt, 40, 1, ((State.reset.setNat (Reg.CLK_TR_CFG 40) 0x11).setNat (Reg.CLK_TR_STAT 40) 0x20001).setNat (Reg.CLK_TR_DEADLINE 40) 0, by decide⟩,
    ⟨.mt, 40, 1, State.reset, by decide⟩⟩

theorem test_met_timeouts_of_notices :
    (∃ (c : Chan) (d : Bool) (s : State), s.cdRun ∧ s.chanOn c.val ∧ (s.dir c.val d).busy ∧ s.since (s.dir c.val d).posted (us (100 * s.fld (Reg.MBX_CH_TO c.val) Fld.MBX_CH_TO_ACK_TO)) ∧ s.crossed c.val = false) ∧
    (∃ (c : Chan) (d : Bool) (s : State), s.cdRun ∧ (s.dir c.val d).busy) :=
  ⟨⟨0, false, { (((State.reset.setNat (Reg.MBX_CH_CFG 0) 0x80120000).setNat (Reg.MBX_CH_TO 0) 0x20001).updDir 0 false fun n => { n with busy := true, valid := true }) with now := 400000 }, by decide⟩,
    ⟨0, false, State.reset.updDir 0 false fun n => { n with busy := true }, by decide⟩⟩

theorem test_met_can_arbitration :
    (∃ (s : State) (x b : Nat), s.canNext x = some b) ∧
    (∃ (s : State) (x : Nat) (b : Fin 3), s.canOwns x b.val) ∧
    (∃ (s : State) (x : CanC) (b : Nat), s.canMaySend x.val ∧ (s.can x.val).sending = none ∧ s.canNext x.val = some b) :=
  ⟨⟨State.reset.setCanOwn 1 2 true, 1, 2, by decide⟩,
    ⟨State.reset.setCanOwn 1 2 true, 1, 2, by decide⟩,
    ⟨(((State.reset.setDev stSTANDBY).setFld Reg.PWR_SUPSTAT ⟨5, 1⟩ 1).setNat (Reg.CAN_CTRL 1) 0x80000000).setCanState 1 2 |>.setCanOwn 1 2 true, 1, 2, by decide⟩⟩

theorem test_met_counter_subtraction :
    (∃ (s : State) (off : Nat) (r : RegRow), s.cdRun ∧ (s.reg Reg.GLB_CNTSEL).toNat % 2 ^ 20 = off ∧ counterBytes off ≠ [] ∧ Reg.row off = some r ∧
      r.present s.variant off) ∧
    (∃ s : State, s.cdRun ∧ counterBytes ((s.reg Reg.GLB_CNTSEL).toNat % 2 ^ 20) = []) ∧
    (∃ a : Nat, 0x48000 ≤ a ∧ a < 0x50000) :=
  ⟨⟨State.reset.setNat Reg.GLB_CNTSEL 0x14, 0x14, ⟨0x14, [], 0, 0, 0, 0, .any⟩, by decide⟩,
    ⟨State.reset.setNat Reg.GLB_CNTSEL 0x4800C, by decide⟩,
    ⟨0x48000, by decide⟩⟩

theorem test_met_flag_clearing :
    (∃ (src : FlagSrc) (s : State) (r : RegRow), src ∈ [FlagSrc.glb, .ctu, .pwr, .pwrHu, .thm, .clk] ∧ s.cdRun ∧ Reg.row src.addr = some r) ∧
    (∃ s : State, s.cdRun) :=
  ⟨⟨.thm, State.reset, ⟨0x3018, [], 0, 0, 0, 0xFF, .any⟩, by decide⟩,
    ⟨State.reset, by decide⟩⟩

theorem test_met_ring_entries :
    ∃ (s : State) (r : Nat), s.room r :=
  ⟨State.reset, 13, by decide⟩

theorem test_met_memories_read_back :
    ∃ s : State, s.wf :=
  ⟨State.reset, by decide⟩

theorem test_met_recorder_numbers :
    (∃ s : State, s.worn 2 = false ∧ s.recQueue.length < 256) ∧
    (∃ s : State, (s.worn 2 ∨ 256 ≤ s.recQueue.length)) :=
  ⟨⟨State.reset, by decide⟩,
    ⟨State.reset.setBit (Reg.REC_WEAR 2) Fld.REC_WEAR_WORN true, by decide⟩⟩

theorem test_met_host_access_completes :
    (∃ (off : Nat) (v : Word) (r : RegRow) (s : State), s.cdRun ∧ off % 4 = 0 ∧ (off < 0x2100 ∨ 0x2200 ≤ off ∧ off < 0x6000) ∧ Reg.row off = some r ∧
      r.present s.variant off ∧ [Reg.GLB_DEVCMD, Reg.GLB_CNTSUB, Reg.CTU_CMD, Reg.CTU_STG_VAL, Reg.PWR_HU_CMD, Reg.PWR_VIO_CFG].contains off = false ∧
      s.lockHits r off v = false ∧ (List.range 4).all (fun i => !s.stages i off)) ∧
    (∃ (off : Nat) (v : Word) (r : RegRow) (s : State), s.cdRun ∧ off % 4 = 0 ∧ (off < 0x2100 ∨ 0x2200 ≤ off ∧ off < 0x6000) ∧ Reg.row off = some r ∧
      r.present s.variant off ∧ [Reg.GLB_DEVCMD, Reg.GLB_CNTSUB, Reg.CTU_CMD, Reg.CTU_STG_VAL, Reg.PWR_HU_CMD, Reg.PWR_VIO_CFG].contains off = false ∧
      s.lockHits r off v ∧ (List.range 4).all (fun i => !s.stages i off)) ∧
    (∃ (off : Nat) (s : State), s.cdRun ∧ off % 4 = 0 ∧ off < 0x100000 ∧ Reg.row off = none) ∧
    (∃ (off : Nat) (s : State), s.cdRun ∧ off % 4 ≠ 0) ∧
    (∃ (s : State), s.cdRun) ∧
    (∃ (off : Nat) (data : List Byte) (s : State), s.cdRun ∧ (s.reg Reg.HIF_SHM_BASE).toNat ≤ off ∧ off + data.length ≤ min ((s.reg
      Reg.HIF_SHM_BASE).toNat + (s.reg Reg.HIF_SHM_SIZE).toNat) (2 ^ 29)) ∧
    (∃ (off : Nat) (data : List Byte) (s : State), s.cdRun ∧ off < (s.reg Reg.HIF_SHM_BASE).toNat ∨ min ((s.reg Reg.HIF_SHM_BASE).toNat + (s.reg
      Reg.HIF_SHM_SIZE).toNat) (2 ^ 29) < off + data.length) ∧
    (∃ (s : State), s.cdRun) ∧
    (∃ (s : State), s.cdRun) ∧
    (∃ (s : State), s.cdRun) ∧
    (∃ (off : Nat) (r : RegRow) (s : State), s.cdRun ∧ (s.reg Reg.GLB_CNTSEL).toNat % 2 ^ 20 = off ∧ counterBytes off ≠ [] ∧ Reg.row off = some r ∧
      r.present s.variant off) ∧
    (∃ (s : State), s.cdRun ∧ counterBytes ((s.reg Reg.GLB_CNTSEL).toNat % 2 ^ 20) = []) :=
  ⟨⟨0x80, 0x44, ⟨0x80, [], 0, 0x000FFFFF, 0, 0, .any⟩, State.reset, by decide⟩,
    ⟨0x2200, 0x1E0109, ⟨0x2200, [], 0x1E010A, 0, 0xFF031F, 0, .any⟩, State.reset.setBit Reg.GLB_COMLOCK Fld.GLB_COMLOCK_LOCKED true, by decide⟩,
    ⟨0xF00, State.reset, by decide⟩,
    ⟨2, State.reset, by decide⟩,
    ⟨State.reset, by decide⟩,
    ⟨0x1000, [1, 2], (State.reset.setNat Reg.HIF_SHM_BASE 0x1000).setNat Reg.HIF_SHM_SIZE 0x1000, by decide⟩,
    ⟨0, [1], State.reset, by decide⟩,
    ⟨State.reset, by decide⟩,
    ⟨{ State.reset with tb := 0x500000000 }, by decide⟩,
    ⟨{ State.reset with ptp := 7000000000 }, by decide⟩,
    ⟨0x14, ⟨0x14, [], 0, 0, 0, 0, .any⟩, (State.reset.setNat Reg.GLB_CNTSEL 0x14).setNat Reg.GLB_CNT0 3, by decide⟩,
    ⟨State.reset, by decide⟩⟩

set_option maxRecDepth 100000 in
theorem test_met_transaction_operations_complete :
    (∃ (i : Nat) (s : State), s.cdRun ∧ s.txAccepted ∧ (List.range 4).find? (fun u => s.txState u == txFREE) = some i) ∧
    (∃ (i off : Nat) (s : State), s.cdRun ∧ s.txAccepted ∧ s.txSlot (Fld.CTU_STG_OFS_TID.get (s.reg Reg.CTU_STG_OFS)) = some i ∧ s.txState i ≠
      txPENDING ∧ Fld.CTU_STG_OFS_BAR0.get (s.reg Reg.CTU_STG_OFS) = off ∧ off % 4 = 0 ∧ off < 0x80000 ∧ (s.stages i off ∨ (s.txn i).staged.length <
      1024)) ∧
    (∃ (tid : Fin 256) (i : Nat) (s : State), s.cdRun ∧ s.txAccepted ∧ s.txSlot tid.val = some i ∧ s.txState i ≠ txPENDING ∧ s.txVerdict i = none) ∧
    (∃ (tid : Fin 256) (i why off : Nat) (s : State), s.cdRun ∧ s.txAccepted ∧ s.txSlot tid.val = some i ∧ s.txState i ≠ txPENDING ∧ s.txVerdict i =
      some (why, off) ∧ why ≠ trCONFLICT) ∧
    (∃ (tid : Fin 256) (i : Nat) (tc : Option Nat) (s : State), s.cdRun ∧ s.txAccepted ∧ s.txSlot tid.val = some i ∧ s.txState i ≠ txPENDING ∧
      s.txVerdict i = none ∧ s.boundaryTc ((s.reg Reg.CTU_BND).toNat % 4) (Fld.CTU_BND_CLUSTER.get (s.reg Reg.CTU_BND)) (((s.reg
      Reg.CTU_BND_PTPS_LO).toNat + 2 ^ 32 * ((s.reg Reg.CTU_BND_PTPS_HI).toNat % 65536)) * ptpSecond + (s.reg Reg.CTU_BND_PTPNS).toNat % 2 ^ 30 * 2 ^
      32) = some tc) ∧
    (∃ (tid : Fin 256) (i : Nat) (s : State), s.cdRun ∧ s.txAccepted ∧ s.txSlot tid.val = some i ∧ s.txState i ≠ txPENDING) ∧
    (∃ (i : Fin 4) (s : State), s.cdRun ∧ (s.txState i.val = txOPEN ∨ s.txState i.val = txVALIDATED) ∧ s.since (s.txn i.val).lastOp (ms (s.fld
      Reg.CTU_CFG Fld.CTU_CFG_TXN_TO))) ∧
    (∃ (i : Fin 4) (s : State), s.cdRun ∧ s.txState i.val = txPENDING ∧ s.landDue i.val = false ∧ s.since (s.txn i.val).commitAt (ms (s.fld Reg.CTU_CFG
      Fld.CTU_CFG_COMMIT_TO))) :=
  ⟨⟨0, State.reset.setDev stCONFIG, by decide⟩,
    ⟨0, 0x80, (((State.reset.setDev stCONFIG).setFld (Reg.CTU_T_STAT 0) Fld.CTU_T_STAT_TID 1).setTxState 0 txOPEN).setNat Reg.CTU_STG_OFS 0x1000080, by decide⟩,
    ⟨1, 0, ((State.reset.setDev stCONFIG).setFld (Reg.CTU_T_STAT 0) Fld.CTU_T_STAT_TID 1).setTxState 0 txOPEN, by decide⟩,
    ⟨1, 0, trNOTCFG, 0, (((State.reset.setDev stCONFIG).setFld (Reg.CTU_T_STAT 0) Fld.CTU_T_STAT_TID 1).setTxState 0 txOPEN).updTxn 0 fun x => { x with staged := [(0, 0)] }, by decide⟩,
    ⟨1, 0, some 0, ((State.reset.setDev stCONFIG).setFld (Reg.CTU_T_STAT 0) Fld.CTU_T_STAT_TID 1).setTxState 0 txOPEN, by decide⟩,
    ⟨1, 0, ((State.reset.setDev stCONFIG).setFld (Reg.CTU_T_STAT 0) Fld.CTU_T_STAT_TID 1).setTxState 0 txOPEN, by decide⟩,
    ⟨0, { State.reset.setTxState 0 txOPEN with now := 2000000000 }, by decide⟩,
    ⟨0, { State.reset.setTxState 0 txPENDING with now := 2000000000 }, by decide⟩⟩

set_option maxRecDepth 100000 in
theorem test_met_landings_complete :
    (∃ (i : Fin 4) (off : Nat) (v : Word) (r : RegRow) (s : State), s.cdRun ∧ s.landDue i.val ∧ s.landFirst i.val ∧ (s.txn i.val).staged = [(off, v)] ∧
      (s.txn i.val).ring = none ∧ s.cfgRow off = some r ∧ off < 0x6000 ∧ ruled off = false ∧ s.dev ≠ stCONFIG ∧ (List.range 4).all (fun j => j == i.val
      || !s.stages j off)) ∧
    (∃ (i : Fin 4) (s : State), s.cdRun ∧ s.landDue i.val ∧ s.landFirst i.val) ∧
    (∃ (img : ConfigImage) (s : State), s.cdRun ∧ s.dev = stCONFIG ∧ s.store.config = some img ∧ s.rm.image = 0 ∧ (List.range 4).any (fun i =>
      s.txState i == txFREE) ∧ (imageWords img.writes).all (fun p => p.1 % 4 == 0 && Nat.blt p.1 0x80000) ∧ ({ s with lastTid := s.freshTid } :
      State).validateImage (imageWords img.writes) img.pars false = none) ∧
    (∃ (img : ConfigImage) (s : State), s.cdRun ∧ s.dev = stCONFIG ∧ s.store.config = some img ∧ s.rm.image = 0 ∧ (List.range 4).any (fun i =>
      s.txState i == txFREE) ∧ (imageWords img.writes).any (fun p => p.1 % 4 != 0 || Nat.ble 0x80000 p.1)) ∧
    (∃ (img : ConfigImage) (s : State), s.cdRun ∧ (s.trip 4).runs ∧ s.dev ≠ stCONFIG ∧ s.lockBars img = false) ∧
    (∃ (img : ConfigImage) (s : State), s.cdRun ∧ (s.trip 4).runs ∧ s.dev ≠ stCONFIG ∧ s.lockBars img) ∧
    (∃ (img : ConfigImage) (s : State), s.cdRun ∧ (s.trip 4).runs ∧ s.dev = stCONFIG ∧ s.lockBars img = false) ∧
    (∃ (i : Fin 4) (v : Verdicts) (b fell : Bool) (s : State), s.cdRun ∧ (s.trip 4).runs ∧ s.dev = stCONFIG ∧ (s.trip i.val).runs = false ∧ s.ownerKey
      ∧ (s.bootKind (2 + i.val) v).2 = some (b, fell)) ∧
    (∃ (i : Fin 4) (s : State), s.cdRun ∧ (s.trip 4).runs ∧ s.dev = stCONFIG ∧ (s.trip i.val).runs = false ∧ s.ownerKey = false) ∧
    (∃ (s : State), s.cdRun ∧ s.dev = stCONFIG ∧ s.allRun ∧ s.rm.armed ∧ s.rmRun ∧ s.rangesHold ∧ s.validate [] none = none) :=
  ⟨⟨0, 0x300, 5, ⟨0x300, [(4, 32)], 0xFFFFFFFF, 0xFFFFFFFF, 0, 0, .any⟩, ((State.reset.setDev stSTANDBY).setTxState 0 txPENDING).updTxn 0 fun x => { x with staged := [(0x300, 5)], tc := some 0 }, by decide⟩,
    ⟨1, ((State.reset.setDev stSTANDBY).setTxState 1 txPENDING).updTxn 1 fun x => { x with staged := [], tc := some 0 }, by decide⟩,
    ⟨⟨[], okPars⟩, (State.reset.setDev stCONFIG).updStore fun p => { p with config := some ⟨[], okPars⟩ }, by decide⟩,
    ⟨⟨[(2, 0)], []⟩, (State.reset.setDev stCONFIG).updStore fun p => { p with config := some ⟨[(2, 0)], []⟩ }, by decide⟩,
    ⟨⟨[], []⟩, State.reset.updTrip 4 fun x => { x with runs := true }, by decide⟩,
    ⟨⟨[(0x2200, 0)], []⟩, (State.reset.setBit Reg.GLB_COMLOCK Fld.GLB_COMLOCK_LOCKED true).updTrip 4 fun x => { x with runs := true }, by decide⟩,
    ⟨⟨[], []⟩, (State.reset.setDev stCONFIG).updTrip 4 fun x => { x with runs := true }, by decide⟩,
    ⟨0, ⟨true, true⟩, false, false, (((State.reset.setDev stCONFIG).updTrip 4 fun x => { x with runs := true }).updStore fun p => { p with owner := [(2, 0)] }).updImage 2 false fun c => { c with present := true, good := true }, by decide⟩,
    ⟨0, ((State.reset.setDev stCONFIG).updTrip 4 fun x => { x with runs := true }).updStore fun p => { p with owner := [] }, by decide⟩,
    ⟨((((({ State.reset with rm := { State.reset.rm with armed := true } }.setDev stCONFIG).updTrip 0 fun x => { x with runs := true }).updTrip 1 fun x => { x with runs := true }).updTrip 2 fun x => { x with runs := true }).updTrip 3 fun x => { x with runs := true }), by decide⟩⟩

theorem test_met_clocks_complete :
    (∃ (d : Fin 14) (s : State), s.cdRun ∧ d.val ≠ 8 ∧ (d.val ≠ 12 ∨ s.rmRun) ∧ (d.val = 3 ∨ s.clockOut d.val = false)) ∧
    (∃ (d : Fin 14) (s : State), s.cdRun ∧ d.val = 8 ∧ s.clockOut 8 = false ∧ s.bit Reg.ETH_PTP_STAT Fld.ETH_PTP_STAT_HOLDOVER = false) ∧
    (∃ (d : Fin 14) (s : State), s.cdRun ∧ d.val = 0 ∧ s.clockOut 0 = false) ∧
    (∃ (d : Fin 14) (s : State), s.cdRun ∧ (d.val = 1 ∨ d.val = 2 ∨ d.val = 11) ∧ s.clockOut d.val = false) ∧
    (∃ (d : Fin 14) (groups : Fin 16) (i : ModIn) (s : State), s.cdRun ∧ d.val = 3 ∧ groups.val.testBit (i.val / 6)) ∧
    (∃ (d : Fin 14) (s : State), s.cdRun ∧ d.val = 5 ∧ s.clockOut 5 = false ∧ s.bit Reg.HIF_STAT Fld.HIF_STAT_LINKUP) ∧
    (∃ (d : Fin 14) (s : State), s.cdRun ∧ d.val = 10 ∧ s.clockOut 10 = false ∧ s.sysOn ∧ s.role ≠ roLEADER ∧ (s.fld Reg.EDG_ALIGN_STAT
      Fld.EDG_ALIGN_STAT_STATE = 1 ∨ s.fld Reg.EDG_ALIGN_STAT Fld.EDG_ALIGN_STAT_STATE = 2)) ∧
    (∃ (d : Fin 14) (s : State), s.rmRun ∧ d.val = 12 ∧ s.clockOut 12 = false) ∧
    (∃ (d : Fin 14) (s : State), s.cdRun ∧ s.clockOut d.val) ∧
    (∃ (d : Fin 14) (s : State), d.val = 12 ∧ s.clockOut 12) ∧
    (∃ (dev : Int) (s : State), s.rmRun ∧ s.rm.td12Lost = false ∧ -5000 ≤ dev ∧ dev ≤ 5000) ∧
    (∃ (dev : Int) (s : State), s.rmRun ∧ s.rm.td12Lost = false ∧ (dev < -5000 ∨ 5000 < dev) ∧ s.rm.tbDev < 15) ∧
    (∃ (dev : Int) (s : State), s.cdRun ∧ s.rmRun ∧ s.rm.td12Lost = false ∧ (dev < -5000 ∨ 5000 < dev) ∧ s.rm.tbDev = 15) ∧
    (∃ (dev : Int) (s : State), s.cdRun = false ∧ s.rmRun ∧ s.rm.td12Lost = false ∧ (dev < -5000 ∨ 5000 < dev) ∧ s.rm.tbDev = 15) :=
  ⟨⟨6, State.reset, by decide⟩,
    ⟨8, State.reset.setReg Reg.ETH_PTP_STAT 0, by decide⟩,
    ⟨0, State.reset, by decide⟩,
    ⟨1, State.reset, by decide⟩,
    ⟨3, 2, 7, State.reset, by decide⟩,
    ⟨5, State.reset.setNat Reg.HIF_STAT 1, by decide⟩,
    ⟨10, ((State.reset.setBit Reg.CLU_SYS_CFG Fld.CLU_SYS_CFG_SYS_EN true).setFld Reg.CLU_SYS_STAT Fld.CLU_SYS_STAT_SSTATE roLISTEN).setFld Reg.EDG_ALIGN_STAT Fld.EDG_ALIGN_STAT_STATE 2, by decide⟩,
    ⟨12, { (State.reset.setNat Reg.SAFE_LINES 0xFF).setFld Reg.SAFE_SO Fld.SAFE_SO_ON 3 with cdRun := false }, by decide⟩,
    ⟨6, State.reset.setClock 6 false, by decide⟩,
    ⟨12, { (State.reset.setClock 12 false).updRm fun r => { r with td12Lost := true } with cdRun := false }, by decide⟩,
    ⟨-3, State.reset, by decide⟩,
    ⟨6000, State.reset, by decide⟩,
    ⟨6000, State.reset.updRm fun r => { r with tbDev := 15 }, by decide⟩,
    ⟨6000, ({ State.reset with cdRun := false } : State).updRm fun r => { r with tbDev := 15 }, by decide⟩⟩

theorem test_met_tightrope_completes :
    (∃ (m : Mon) (s : State), s.cdRun ∧ s.bit (Reg.CLK_TR_CFG m.val) Fld.CLK_TR_CFG_EN ∧ (s.trmon m.val).next ≤ s.tb ∧ s.trState m.val ≠ 0 ∧ (s.trState
      m.val ≠ 2 ∨ s.bit (Reg.CLK_TR_CFG m.val) Fld.CLK_TR_CFG_PERIODIC)) ∧
    (∃ (who : Party) (m : Mon) (v : Word) (s : State), s.cdRun ∧ (who ≠ .host ∨ 32 ≤ m.val) ∧ partyCode who = s.trOwner m.val ∧ s.trState m.val = 2 ∧
      v.toNat % 65536 = s.fld (Reg.CLK_TR_STAT m.val) Fld.CLK_TR_STAT_SEQ ∧ (s.trmon m.val).jobRel ≤ s.tb ∧ s.tb ≤ s.trDeadline m.val) ∧
    (∃ (who : Party) (m : Mon) (s : State), s.cdRun ∧ (who ≠ .host ∨ 32 ≤ m.val) ∧ partyCode who ≠ s.trOwner m.val) ∧
    (∃ (m : Mon) (s : State), s.cdRun ∧ (s.trmon m.val).late = none ∧ s.trState m.val = 2 ∧ s.trDeadline m.val < s.tb ∧ Fld.CLK_TR_CFG_CLASS.get (s.reg
      (Reg.CLK_TR_CFG m.val)) = 0) ∧
    (∃ (m : Mon) (s : State), s.cdRun ∧ (s.trmon m.val).late = none ∧ s.trState m.val = 2 ∧ s.trDeadline m.val < s.tb) ∧
    (∃ (m : Mon) (q d : Nat) (s : State), s.cdRun ∧ (s.trmon m.val).late = some (q, d) ∧ d < s.tb) ∧
    (∃ (m : Mon) (k : Nat) (s : State), s.cdRun ∧ (s.trmon m.val).late = none ∧ s.trState m.val = 2 ∧ s.trDeadline m.val < s.tb ∧
      Fld.CLK_TR_CFG_CLASS.get (s.reg (Reg.CLK_TR_CFG m.val)) = 1 ∧ Fld.CLK_TR_CFG_CLUSTER.get (s.reg (Reg.CLK_TR_CFG m.val)) = k ∧ k <
      s.variant.clusters) ∧
    (∃ (m : Mon) (k : Nat) (s : State), s.cdRun ∧ (s.trmon m.val).late = none ∧ s.trState m.val = 2 ∧ s.trDeadline m.val < s.tb ∧
      Fld.CLK_TR_CFG_CLASS.get (s.reg (Reg.CLK_TR_CFG m.val)) = 2 ∧ Fld.CLK_TR_CFG_CLUSTER.get (s.reg (Reg.CLK_TR_CFG m.val)) = k ∧ k <
      s.variant.clusters ∧ s.ctype k ≠ 0 ∧ s.cstate k ≠ csSAFE_STOPPED ∧ s.cstate k ≠ csFENCED) ∧
    (∃ (who : Party) (m : Mon) (s : State), s.cdRun ∧ (who = .device ∨ 32 ≤ m.val) ∧ s.bit (Reg.CLK_TR_CFG m.val) Fld.CLK_TR_CFG_EN = false ∧ s.trState
      m.val ≠ 2) ∧
    (∃ (m : Mon) (v : Word) (s : State), s.cdRun ∧ 32 ≤ m.val ∧ s.bit (Reg.CLK_TR_CFG m.val) Fld.CLK_TR_CFG_EN = false ∧ s.trState m.val ≠ 2 ∧
      Fld.CLK_TR_CFG_EN.on v ∧ s.trEnableOk m.val (BitVec.ofNat 32 (v.toNat &&& 0xF7F))) ∧
    (∃ (who : Party) (m : Mon) (r : TrReg) (s : State), s.cdRun ∧ (who = .device ∨ 32 ≤ m.val) ∧ s.bit (Reg.CLK_TR_CFG m.val) Fld.CLK_TR_CFG_EN ∧ r ≠
      .cfg) ∧
    (∃ (s : State), s.cdRun ∧ s.stalls = []) ∧
    (∃ (g : Nat) (copy : Fin 3) (c at0 : Nat) (s : State), s.cdRun ∧ s.stalls = [((true, g), (c, at0))] ∧ c ≠ copy.val ∧ s.since at0 (us 200) = false) ∧
    (∃ (i : Trip) (copy : Fin 3) (s : State), s.cdRun ∧ s.trpOut i.val = 0 ∧ ((s.trip i.val).fences.filter fun f => f.1 == copy.val && Nat.blt s.now
      (f.2 + 3600 * 1000 * ms 1)).length < s.fld (Reg.TRP_CFG i.val) Fld.TRP_CFG_RESYNC_LIM) ∧
    (∃ (rail : Rail) (s : State), s.cdRun ∧ s.since (railSlack (isMd rail) s).startAt (ms (s.reg (railWindow (isMd rail))).toNat) ∧ (railSlack (isMd
      rail) s).worst = none) ∧
    (∃ (rail : Rail) (w : Nat) (s : State), s.cdRun ∧ s.since (railSlack (isMd rail) s).startAt (ms (s.reg (railWindow (isMd rail))).toNat) ∧
      (railSlack (isMd rail) s).worst = some w) ∧
    (∃ (s : State), s.cdRun) ∧
    (∃ (s : State), s.cdRun) ∧
    (∃ (s : State), s.cdRun) :=
  ⟨⟨40, (State.reset.setNat (Reg.CLK_TR_CFG 40) 3).setTrState 40 2, by decide⟩,
    ⟨.mt, 40, 1, ((State.reset.setNat (Reg.CLK_TR_CFG 40) 0x11).setNat (Reg.CLK_TR_STAT 40) 0x20001).setNat (Reg.CLK_TR_DEADLINE 40) 9, by decide⟩,
    ⟨.host, 40, State.reset, by decide⟩,
    ⟨40, { (State.reset.setNat (Reg.CLK_TR_CFG 40) 0x11).setNat (Reg.CLK_TR_STAT 40) 0x20001 with tb := 5 }, by decide⟩,
    ⟨40, { (State.reset.setNat (Reg.CLK_TR_CFG 40) 0x1D).setNat (Reg.CLK_TR_STAT 40) 0x20001 with tb := 5 }, by decide⟩,
    ⟨40, 6, 4, ({ (State.reset.setNat (Reg.CLK_TR_CFG 40) 0x13).setNat (Reg.CLK_TR_STAT 40) 0x20007 with tb := 5 } : State).updTrmon 40 fun r => { r with late := some (6, 4) }, by decide⟩,
    ⟨40, 2, { (State.reset.setNat (Reg.CLK_TR_CFG 40) 0x215).setNat (Reg.CLK_TR_STAT 40) 0x20001 with tb := 5 }, by decide⟩,
    ⟨40, 2, { (((State.reset.setNat (Reg.CLK_TR_CFG 40) 0x219).setNat (Reg.CLK_TR_STAT 40) 0x20001).setFld (Reg.CLU_STAT 2) Fld.CLU_STAT_CSTATE csRUN).setFld (Reg.CLU_CFG 2) Fld.CLU_CFG_TYPE 3 with tb := 5 }, by decide⟩,
    ⟨.host, 40, State.reset, by decide⟩,
    ⟨40, 0x11, (State.reset.setNat (Reg.CLK_TR_RELEASE_LO 40) 9).setNat (Reg.CLK_TR_DEADLINE 40) 9, by decide⟩,
    ⟨.host, 40, .period, State.reset.setNat (Reg.CLK_TR_CFG 40) 1, by decide⟩,
    ⟨{ State.reset with now := 7 }, by decide⟩,
    ⟨2, 1, 0, 0, { State.reset with stalls := [((true, 2), (0, 0))] }, by decide⟩,
    ⟨1, 2, State.reset, by decide⟩,
    ⟨.md, { State.reset with now := 1000000000 }, by decide⟩,
    ⟨.cd, 5000, { State.reset with now := 1000000000, slackCd := { worst := some 5000 } }, by decide⟩,
    ⟨State.reset, by decide⟩,
    ⟨State.reset, by decide⟩,
    ⟨State.reset, by decide⟩⟩

theorem test_met_supplies_complete :
    (∃ (s : State), s.cdRun) ∧
    (∃ (s : State), s.cdRun) ∧
    (∃ (s : State), s.cdRun = false) ∧
    (∃ (s : State), s.cdRun) ∧
    (∃ (s : State), s.cdRun) ∧
    (∃ (s : State), s.cdRun) ∧
    (∃ (s : State), s.cdRun) ∧
    (∃ (s : State), s.power.vauxB ∧ s.rmRun = false ∧ s.rm.ready = false) ∧
    (∃ (x : Fin 6) (s : State), s.cdRun ∧ s.vioOk x.val = false) ∧
    (∃ (x : Fin 6) (s : State), s.cdRun ∧ s.vioOk x.val) ∧
    (∃ (s : State), s.power.vauxB = false) ∧
    (∃ (v : Verdicts) (b fell : Bool) (s : State), s.power.vauxB ∧ s.rmRail ∧ s.rm.ready = false ∧ (s.bootKind 0 v).2 = some (b, fell)) ∧
    (∃ (v : Verdicts) (s : State), s.power.vauxB ∧ s.rmRail ∧ s.rm.ready = false ∧ (s.bootKind 0 v).2 = none) ∧
    (∃ (s : State), s.power.vauxA = false) ∧
    (∃ (s : State), s.cdRun ∧ s.power.vauxA ∧ s.power.lossAt = none) ∧
    (∃ (t0 : Nat) (s : State), s.cdRun ∧ s.power.lossAt = some t0 ∧ s.power.onPack = false ∧ ((s.rgns.all fun g => (s.ldg g).held.isEmpty) ∨ s.since t0
      (ms 1))) ∧
    (∃ (t0 : Nat) (s : State), s.cdRun ∧ s.power.lossAt = some t0 ∧ s.power.onPack ∧ (s.lossWritten ∨ s.since t0 (ms 50))) ∧
    (∃ (s : State), s.power.vauxB) ∧
    (∃ (s : State), s.cdRun ∧ s.rmRun = false ∧ s.rm.ready = false) ∧
    (∃ (v : Verdicts) (b fell : Bool) (s : State), s.cdRun ∧ s.rmRail ∧ s.rmRun = false ∧ s.rm.ready = false ∧ (s.bootKind 0 v).2 = some (b, fell)) ∧
    (∃ (v : Verdicts) (s : State), s.cdRun ∧ s.rmRail ∧ s.rmRun = false ∧ s.rm.ready = false ∧ (s.bootKind 0 v).2 = none) ∧
    (∃ (s : State), s.cdRun ∧ s.rmRun) ∧
    (∃ (s : State), s.rmRun = false) ∧
    (∃ (s : State), s.cdRun) ∧
    (∃ (s : State), s.cdRun) ∧
    (∃ (s : State), s.cdRun) ∧
    (∃ (s : State), s.cdRun) ∧
    (∃ (n : Slot) (s : State), s.cdRun ∧ n.val < s.variant.slots) ∧
    (∃ (s : State), s.cdRun ∧ s.power.storeHeld) :=
  ⟨⟨State.reset, by decide⟩,
    ⟨State.reset, by decide⟩,
    ⟨{ State.reset with cdRun := false }, by decide⟩,
    ⟨State.reset, by decide⟩,
    ⟨State.reset, by decide⟩,
    ⟨State.reset.updPower fun p => { p with out := 4 }, by decide⟩,
    ⟨State.reset.updPower fun p => { p with out := 65536 }, by decide⟩,
    ⟨({ State.reset with rmRun := false, rm := {} } : State).updPower fun p => { p with out := 2 ^ 37 }, by decide⟩,
    ⟨3, State.reset, by decide⟩,
    ⟨2, State.reset.setFld Reg.PWR_SUPSTAT ⟨5, 1⟩ 1, by decide⟩,
    ⟨State.reset.updPower fun p => { p with vauxB := false }, by decide⟩,
    ⟨⟨true, true⟩, false, false, (State.reset.updRm fun r => { r with ready := false }).updImage 0 false fun c => { c with present := true, good := true }, by decide⟩,
    ⟨⟨false, false⟩, State.reset.updRm fun r => { r with ready := false }, by decide⟩,
    ⟨State.reset.updPower fun p => { p with vauxA := false }, by decide⟩,
    ⟨State.reset, by decide⟩,
    ⟨0, State.reset.updPower fun p => { p with lossAt := some 0 }, by decide⟩,
    ⟨0, State.reset.updPower fun p => { p with lossAt := some 0, onPack := true }, by decide⟩,
    ⟨State.reset, by decide⟩,
    ⟨{ State.reset with rmRun := false, rm := {} }, by decide⟩,
    ⟨⟨true, true⟩, false, false, ({ State.reset with rmRun := false, rm := {} } : State).updImage 0 false fun c => { c with present := true, good := true }, by decide⟩,
    ⟨⟨false, false⟩, { State.reset with rmRun := false, rm := {} }, by decide⟩,
    ⟨State.reset, by decide⟩,
    ⟨{ State.reset with rmRun := false }, by decide⟩,
    ⟨State.reset, by decide⟩,
    ⟨State.reset, by decide⟩,
    ⟨State.reset, by decide⟩,
    ⟨State.reset, by decide⟩,
    ⟨3, State.reset, by decide⟩,
    ⟨State.reset.updPower fun p => { p with storeHeld := true, out := 4096 }, by decide⟩⟩

theorem test_met_boot_and_diag_complete :
    (∃ (b : BootIn) (s : State), s.cdRun = false ∧ s.power.vauxA ∧ s.rm.ready ∧ (b.pinFault = true ∨ s.bootCause b.lockOk = none)) ∧
    (∃ (b : BootIn) (c : Nat) (s : State), s.cdRun = false ∧ s.power.vauxA ∧ s.rm.ready ∧ b.pinFault = false ∧ s.bootCause b.lockOk = some c) ∧
    (∃ (v : Verdicts) (keySlot : Fin 2) (b fell : Bool) (s : State), s.cdRun ∧ s.dev = stBOOT ∧ s.bit Reg.GLB_IDENT Fld.GLB_IDENT_PINFAULT = false ∧
      s.store.revoked.contains keySlot.val = false ∧ (s.bootKind 1 v).2 = some (b, fell)) ∧
    (∃ (v : Verdicts) (s : State), s.cdRun ∧ s.dev = stBOOT ∧ s.bit Reg.GLB_IDENT Fld.GLB_IDENT_PINFAULT = false ∧ (s.bootKind 1 v).2 = none) ∧
    (∃ (keySlot : Fin 2) (s : State), s.cdRun ∧ s.dev = stBOOT ∧ s.bit Reg.GLB_IDENT Fld.GLB_IDENT_PINFAULT = false ∧ s.store.revoked.contains
      keySlot.val) ∧
    (∃ (s : State), s.cdRun ∧ s.dev = stDIAG ∧ s.diag.step = 1) ∧
    (∃ (s : State), s.cdRun ∧ s.dev = stDIAG ∧ s.diag.step = 1) ∧
    (∃ (n : Slot) (s : State), s.cdRun ∧ s.dev = stDIAG ∧ s.diag.step = 2 ∧ s.diag.slot = n.val ∧ n.val + 1 < s.variant.slots ∧ s.diag.biasAt = none) ∧
    (∃ (n : Slot) (t0 : Nat) (s : State), s.cdRun ∧ s.dev = stDIAG ∧ s.diag.step = 2 ∧ s.diag.slot = n.val ∧ n.val < s.variant.slots ∧ s.diag.biasAt =
      some t0 ∧ s.since t0 (ms 1)) ∧
    (∃ (n : Slot) (side : Side) (t0 : Nat) (s : State), s.cdRun ∧ (s.gate n.val side).bias = some t0 ∧ s.bit (Reg.GDV_STAT n.val) (biasOk side) = false
      ∧ (s.gate n.val side).armed = false ∧ (s.gate n.val side).suspended = false ∧ s.since t0 (ms 20)) ∧
    (∃ (n : Slot) (t0 : Nat) (s : State), s.cdRun ∧ (s.drv n.val).diagAt = some t0 ∧ s.since t0 (ms 2)) ∧
    (∃ (s : State), s.cdRun ∧ s.rmRun ∧ s.dev = stDIAG ∧ s.diag.step = 4) ∧
    (∃ (s : State), s.cdRun ∧ s.rmRun ∧ s.dev = stDIAG ∧ s.diag.step = 4) ∧
    (∃ (s : State), s.preRuns ∧ s.preDone ∧ (s.assigned.all fun n => !(s.drv n).pendDiag)) :=
  ⟨⟨⟨false, true, 3⟩, { State.reset with cdRun := false, tb := 9 }, by decide⟩,
    ⟨⟨false, false, 3⟩, 18, { State.reset with cdRun := false }, by decide⟩,
    ⟨⟨true, true⟩, 0, false, false, State.reset.updImage 1 false fun c => { c with present := true, good := true }, by decide⟩,
    ⟨⟨false, false⟩, State.reset, by decide⟩,
    ⟨1, State.reset.updStore fun p => { p with revoked := [1] }, by decide⟩,
    ⟨{ State.reset.setDev stDIAG with diag := { step := 1, slot := 0 } }, by decide⟩,
    ⟨{ State.reset.setDev stDIAG with diag := { step := 1, slot := 0 } }, by decide⟩,
    ⟨0, { State.reset.setDev stDIAG with diag := { step := 2, slot := 0 } }, by decide⟩,
    ⟨23, 0, { State.reset.setDev stDIAG with diag := { step := 2, slot := 23, biasAt := some 0 }, now := 400000 }, by decide⟩,
    ⟨2, .low, 0, { State.reset.updGate 2 .low fun g => { g with bias := some 0 } with now := 8000000 }, by decide⟩,
    ⟨2, 0, { State.reset.updDrv 2 fun d => { d with diagAt := some 0 } with now := 800000 }, by decide⟩,
    ⟨{ State.reset.setDev stDIAG with diag := { step := 4 } }, by decide⟩,
    ⟨{ State.reset.setDev stDIAG with diag := { step := 4 } }, by decide⟩,
    ⟨{ State.reset.setDev stDIAG with diag := { step := 5 } }, by decide⟩⟩

theorem test_met_state_commands_complete :
    (∃ (s : State), s.cdRun ∧ s.bit Reg.GLB_DEVSTATE Fld.GLB_DEVSTATE_TRANS = false ∧ s.armOk ∧ s.lowPower = false) ∧
    (∃ (s : State), s.cdRun ∧ s.bit Reg.GLB_DEVSTATE Fld.GLB_DEVSTATE_TRANS = false ∧ s.armOk = false) ∧
    (∃ (s : State), s.cdRun ∧ s.bit Reg.GLB_DEVSTATE Fld.GLB_DEVSTATE_TRANS = false ∧ s.dev = stARMED) ∧
    (∃ (s : State), s.cdRun ∧ s.bit Reg.GLB_DEVSTATE Fld.GLB_DEVSTATE_TRANS = false ∧ s.dev = stSTANDBY ∧ s.lowPower = false) ∧
    (∃ (s : State), s.cdRun ∧ s.bit Reg.GLB_DEVSTATE Fld.GLB_DEVSTATE_TRANS = false ∧ s.dev = stSTANDBY) ∧
    (∃ (s : State), s.cdRun ∧ s.dev ≠ stLOCKOUT) ∧
    (∃ (s : State), s.cdRun ∧ s.dev = stLOCKOUT) ∧
    (∃ (s : State), s.cdRun ∧ s.bit Reg.GLB_DEVSTATE Fld.GLB_DEVSTATE_TRANS = false ∧ s.dev = stSTANDBY ∧ s.noTxn ∧ s.store.conf.isSome ∧ s.bit
      Reg.SAFE_STAT Fld.SAFE_STAT_CHK_OK) ∧
    (∃ (k : Clu) (s : State), s.cdRun ∧ s.bit (Reg.CLU_STAT k.val) Fld.CLU_STAT_DERATE ∧ (s.cluster k.val).derating = false ∧ ((s.cluster
      k.val).derAt.all fun x => s.since x (secs 1))) :=
  ⟨⟨State.reset.setDev stSTANDBY, by decide⟩,
    ⟨State.reset, by decide⟩,
    ⟨State.reset.setDev stARMED, by decide⟩,
    ⟨State.reset.setDev stSTANDBY, by decide⟩,
    ⟨State.reset.setDev stSTANDBY, by decide⟩,
    ⟨State.reset.setDev stRUN, by decide⟩,
    ⟨State.reset.setDev stLOCKOUT, by decide⟩,
    ⟨((State.reset.setDev stSTANDBY).setBit Reg.SAFE_STAT Fld.SAFE_STAT_CHK_OK true).updStore fun p => { p with conf := some 0 }, by decide⟩,
    ⟨1, State.reset.setBit (Reg.CLU_STAT 1) Fld.CLU_STAT_DERATE true, by decide⟩⟩

theorem test_met_precharge_completes :
    (∃ (g : Rgn) (s : State), s.preRuns ∧ g.val < s.variant.regions ∧ s.preMode g.val = 1 ∧ s.preState g.val = 0) ∧
    (∃ (g : Rgn) (v tp : Nat) (s : State), s.preRuns ∧ g.val < s.variant.regions ∧ (s.region g.val).tp = some tp ∧ s.preState g.val = 1 ∧ v <
      s.preVDone g.val) ∧
    (∃ (g : Rgn) (v tp : Nat) (s : State), s.preRuns ∧ g.val < s.variant.regions ∧ (s.region g.val).tp = some tp ∧ s.preState g.val = 1 ∧ s.preMode
      g.val ≠ 2 ∧ s.preVDone g.val ≤ v ∧ s.since tp (ms (s.prePar 26 g.val % 65536))) ∧
    (∃ (g : Rgn) (v tp : Nat) (s : State), s.preRuns ∧ g.val < s.variant.regions ∧ (s.region g.val).tp = some tp ∧ s.preState g.val = 1 ∧ s.preMode
      g.val ≠ 2 ∧ s.preVDone g.val ≤ v ∧ s.since tp (ms (s.prePar 26 g.val % 65536)) = false) ∧
    (∃ (g : Rgn) (v tp : Nat) (s : State), s.preRuns ∧ g.val < s.variant.regions ∧ (s.region g.val).tp = some tp ∧ s.preState g.val = 1 ∧ s.preMode
      g.val = 2 ∧ s.preVDone g.val ≤ v) ∧
    (∃ (g : Rgn) (v tp : Nat) (s : State), s.preRuns ∧ g.val < s.variant.regions ∧ (s.region g.val).tp = some tp ∧ s.preState g.val = 2 ∧ s.preDrop
      g.val v) ∧
    (∃ (g : Rgn) (tp : Nat) (s : State), s.preRuns ∧ (s.region g.val).tp = some tp ∧ s.preMode g.val = 1 ∧ s.preState g.val = 1 ∧ (s.region
      g.val).checked = false ∧ s.since tp (ms (s.prePar 26 g.val / 65536)) ∧ 10 * (s.prePar 25 g.val / 65536 % 2048) ≤ s.vLink g.val) ∧
    (∃ (g : Rgn) (tp : Nat) (s : State), s.preRuns ∧ (s.region g.val).tp = some tp ∧ s.preMode g.val = 1 ∧ s.preState g.val = 1 ∧ (s.region
      g.val).checked = false ∧ s.since tp (ms (s.prePar 26 g.val / 65536)) ∧ s.vLink g.val < 10 * (s.prePar 25 g.val / 65536 % 2048)) ∧
    (∃ (g : Rgn) (tp : Nat) (s : State), s.preRuns ∧ (s.region g.val).tp = some tp ∧ s.preState g.val = 1 ∧ s.since tp (ms (s.prePar 27 g.val % 65536))) ∧
    (∃ (g : Rgn) (t0 : Nat) (s : State), s.preRuns ∧ (s.region g.val).overlapAt = some t0 ∧ s.preState g.val = 2 ∧ s.since t0 (ms (s.prePar 25 g.val %
      512)) ∧ s.preDrop g.val (s.vLink g.val) = false) ∧
    (∃ (g : Rgn) (t0 : Nat) (s : State), s.preRuns ∧ (s.region g.val).overlapAt = some t0 ∧ s.preState g.val = 2 ∧ s.since t0 (ms (s.prePar 25 g.val %
      512)) ∧ s.preDrop g.val (s.vLink g.val)) :=
  ⟨⟨0, ({ State.reset.setDev stDIAG with diag := { step := 5 }, now := 90000000 }.setNat (Reg.SAFE_PAR 24) 0x40000000), by decide⟩,
    ⟨0, 10, 5, (({ State.reset.setDev stDIAG with diag := { step := 5 }, now := 90000000 }.setNat (Reg.SAFE_PAR 24) 0x40000064).setFld (preStat 0) Fld.SAFE_PRE_STATE 1).updRegion 0 fun r => { r with tp := some 5 }, by decide⟩,
    ⟨0, 1000, 5, (({ State.reset.setDev stDIAG with diag := { step := 5 }, now := 90000000 }.setNat (Reg.SAFE_PAR 24) 0x40000064).setFld (preStat 0) Fld.SAFE_PRE_STATE 1).updRegion 0 fun r => { r with tp := some 5 }, by decide⟩,
    ⟨0, 1000, 90000000, (({ State.reset.setDev stDIAG with diag := { step := 5 }, now := 90000000 }.setNat (Reg.SAFE_PAR 24) 0x40000064).setNat (Reg.SAFE_PAR 26) 9 |>.setFld (preStat 0) Fld.SAFE_PRE_STATE 1).updRegion 0 fun r => { r with tp := some 90000000 }, by decide⟩,
    ⟨0, 1000, 5, (({ State.reset.setDev stDIAG with diag := { step := 5 }, now := 90000000 }.setNat (Reg.SAFE_PAR 24) 0x80000064).setFld (preStat 0) Fld.SAFE_PRE_STATE 1).updRegion 0 fun r => { r with tp := some 5 }, by decide⟩,
    ⟨0, 10, 5, (({ State.reset.setDev stDIAG with diag := { step := 5 }, now := 90000000 }.setNat (Reg.SAFE_PAR 24) 0x40000064).setFld (preStat 0) Fld.SAFE_PRE_STATE 2).updRegion 0 fun r => { r with tp := some 5 }, by decide⟩,
    ⟨0, 5, (({ State.reset.setDev stDIAG with diag := { step := 5 }, now := 90000000 }.setNat (Reg.SAFE_PAR 24) 0x40000064).setFld (preStat 0) Fld.SAFE_PRE_STATE 1).updRegion 0 fun r => { r with tp := some 5 }, by decide⟩,
    ⟨0, 5, (({ State.reset.setDev stDIAG with diag := { step := 5 }, now := 90000000 }.setNat (Reg.SAFE_PAR 24) 0x40000064).setNat (Reg.SAFE_PAR 25) 0x10000 |>.setFld (preStat 0) Fld.SAFE_PRE_STATE 1).updRegion 0 fun r => { r with tp := some 5 }, by decide⟩,
    ⟨0, 5, ({ State.reset.setDev stDIAG with diag := { step := 5 }, now := 90000000 }.setFld (preStat 0) Fld.SAFE_PRE_STATE 1).updRegion 0 fun r => { r with tp := some 5 }, by decide⟩,
    ⟨0, 5, ({ State.reset.setDev stDIAG with diag := { step := 5 }, now := 90000000 }.setFld (preStat 0) Fld.SAFE_PRE_STATE 2).updRegion 0 fun r => { r with overlapAt := some 5 }, by decide⟩,
    ⟨0, 5, (({ State.reset.setDev stDIAG with diag := { step := 5 }, now := 90000000 }.setNat (Reg.SAFE_PAR 24) 0x40000064).setFld (preStat 0) Fld.SAFE_PRE_STATE 2).updRegion 0 fun r => { r with overlapAt := some 5 }, by decide⟩⟩

theorem test_met_authority_completes :
    (∃ (s : State), s.cdRun) ∧
    (∃ (n t0 : Nat) (s : State), s.auths.nonce = some (n, t0) ∧ s.since t0 (secs 300)) ∧
    (∃ (s : State), s.cdRun ∧ s.store.keys = []) ∧
    (∃ (k : Nat) (s : State), s.cdRun ∧ s.store.keys ≠ [] ∧ s.commissioning ∧ s.freeKey = some k) ∧
    (∃ (slot : Fin 4) (s : State), s.cdRun ∧ s.commissioning ∧ (s.store.keys.any fun e => e.1 == slot.val)) ∧
    (∃ (key t0 : Nat) (s : State), s.auths.install = some (key, t0) ∧ s.since t0 (secs 60)) ∧
    (∃ (x : Auth) (s : State), s.cdRun ∧ s.locked = false ∧ s.authOk x) ∧
    (∃ (k t0 : Nat) (s : State), s.auths.session = some (k, t0) ∧ s.since t0 (secs 28800)) ∧
    (∃ (x : Auth) (s : State), s.cdRun ∧ s.locked ∧ s.authOk x) ∧
    (∃ (x : Auth) (s : State), s.cdRun ∧ s.dev = stLOCKOUT ∧ s.power.vauxA ∧ s.power.lossAt = none ∧ s.authOk x) ∧
    (∃ (x : Auth) (s : State), s.cdRun ∧ s.authOk x) ∧
    (∃ (slot : Fin 2) (s : State), s.cdRun ∧ s.commissioning ∧ (s.store.owner.any fun p => p.1 == 2 + slot.val) = false) ∧
    (∃ (kind : ImgKind) (s : State), s.cdRun ∧ s.commissioning ∧ s.hasBooted (kindNo kind)) ∧
    (∃ (s : State), s.cdRun ∧ (s.trip 4).runs) ∧
    (∃ (n : Slot) (s : State), s.cdRun ∧ s.commissioning ∧ n.val < s.variant.slots ∧ (s.drv n.val).override = false ∧ ((s.drv n.val).marked ∨ s.bit
      (Reg.GDV_STAT n.val) Fld.GDV_STAT_H_FAILED ∨ s.bit (Reg.GDV_STAT n.val) Fld.GDV_STAT_H_DIAG)) :=
  ⟨⟨State.reset, by decide⟩,
    ⟨7, 0, { State.reset with auths := { nonce := some (7, 0) }, now := 120000000000 }, by decide⟩,
    ⟨State.reset.updStore fun p => { p with keys := [] }, by decide⟩,
    ⟨0, ({ State.reset with auths := { nonce := some (7, 0) } }.updStore fun p => { p with keys := [(1, 99, false)] }).setBit Reg.GLB_DEVSTATE Fld.GLB_DEVSTATE_COMMISSION true, by decide⟩,
    ⟨1, ({ State.reset with auths := { nonce := some (7, 0) } }.updStore fun p => { p with keys := [(1, 99, false)] }).setBit Reg.GLB_DEVSTATE Fld.GLB_DEVSTATE_COMMISSION true, by decide⟩,
    ⟨5, 0, { State.reset with auths := { install := some (5, 0) }, now := 24000000000 }, by decide⟩,
    ⟨⟨1, 7, true⟩, ({ State.reset with auths := { nonce := some (7, 0) } }.updStore fun p => { p with keys := [(1, 99, false)] }), by decide⟩,
    ⟨1, 0, { State.reset with auths := { session := some (1, 0) }, now := 11520000000000 }, by decide⟩,
    ⟨⟨1, 7, true⟩, ({ State.reset with auths := { nonce := some (7, 0) } }.updStore fun p => { p with keys := [(1, 99, false)] }).setBit Reg.GLB_COMLOCK Fld.GLB_COMLOCK_LOCKED true, by decide⟩,
    ⟨⟨1, 7, true⟩, ({ State.reset with auths := { nonce := some (7, 0) } }.updStore fun p => { p with keys := [(1, 99, false)] }).setDev stLOCKOUT, by decide⟩,
    ⟨⟨1, 7, true⟩, ({ State.reset with auths := { nonce := some (7, 0) } }.updStore fun p => { p with keys := [(1, 99, false)] }), by decide⟩,
    ⟨1, (State.reset.updStore fun p => { p with owner := [] }).setBit Reg.GLB_DEVSTATE Fld.GLB_DEVSTATE_COMMISSION true, by decide⟩,
    ⟨.hv, (State.reset.updImage 1 false fun c => { c with ver := 4, ran := true }).setBit Reg.GLB_DEVSTATE Fld.GLB_DEVSTATE_COMMISSION true, by decide⟩,
    ⟨State.reset.updTrip 4 fun x => { x with runs := true }, by decide⟩,
    ⟨2, (State.reset.updDrv 2 fun d => { d with marked := true }).setBit Reg.GLB_DEVSTATE Fld.GLB_DEVSTATE_COMMISSION true, by decide⟩⟩

theorem test_met_edge_engine_completes :
    (∃ (n : Slot) (x : Nat) (s : State), s.cdRun ∧ s.sstate n.val = 2 ∧ (s.edge n.val).perStart ≤ x ∧ x ≤ s.tbFine + 15 ∧ (s.pcmRuns n.val && Nat.ble
      (s.pcmEnd n.val) x) = false ∧ s.patternAt n.val x = (s.edge n.val).pat) ∧
    (∃ (n : Slot) (x : Nat) (s : State), s.cdRun ∧ s.sstate n.val = 2 ∧ (s.edge n.val).perStart ≤ x ∧ x ≤ s.tbFine + 15 ∧ (s.pcmRuns n.val && Nat.ble
      (s.pcmEnd n.val) x) = false ∧ s.patternAt n.val x = 0 ∧ (s.edge n.val).pat ≠ 0 ∧ (s.edge n.val).limBoth = false) ∧
    (∃ (n : Slot) (x v : Nat) (s : State), s.cdRun ∧ s.sstate n.val = 2 ∧ (s.edge n.val).perStart ≤ x ∧ x ≤ s.tbFine + 15 ∧ (s.pcmRuns n.val && Nat.ble
      (s.pcmEnd n.val) x) = false ∧ s.patternAt n.val x = v ∧ (v = 1 ∨ v = 2) ∧ (s.edge n.val).pat ≠ v ∧ (s.edge n.val).limBoth = false ∧ (s.edge
      n.val).limBar ≠ v ∧ (s.edge n.val).called = 0 ∧ s.bit (Reg.EDG_MINPULSE n.val) Fld.EDG_MINPULSE_MODE ∧ s.fld (Reg.EDG_CTRL n.val)
      Fld.EDG_CTRL_MODE ≠ 1 ∧ s.cmdOn n.val .high = false ∧ s.cmdOn n.val .low = false ∧ s.holdBits n.val = 0) ∧
    (∃ (n : Slot) (x : Nat) (s : State), s.cdRun ∧ (s.edge n.val).perStart ≤ x ∧ x ≤ s.tbFine + 15 ∧ s.pcmRuns n.val ∧ s.pcmEnd n.val ≤ x) ∧
    (∃ (n : Slot) (s : State), s.cdRun ∧ s.sstate n.val = 2 ∧ (s.edge n.val).peakNext ∧ (s.edge n.val).perStart + ptOf (s.carrier n.val) ≤ s.tbFine) ∧
    (∃ (n : Slot) (s : State), s.cdRun ∧ s.sstate n.val = 2 ∧ (s.edge n.val).peakNext = false ∧ (s.edge n.val).perStart + s.perLen n.val ≤ s.tbFine) ∧
    (∃ (n : Slot) (t0 x y : Nat) (s : State), s.cdRun ∧ s.switching n.val = false ∧ n.val < s.variant.slots ∧ s.clusterOf n.val = none ∧ s.fld
      (Reg.EDG_CTRL n.val) Fld.EDG_CTRL_MODE = 0 ∧ s.fld (Reg.EDG_CTRL n.val) Fld.EDG_CTRL_LOAD = 0 ∧ (s.edge n.val).carrierOld = none ∧ (s.edge
      n.val).shadow = [(t0, [x, y])] ∧ (t0 + 16) * 16 ≤ gridBefore (s.origin n.val) (tswOf (s.carrier n.val)) s.tbFine) ∧
    (∃ (n : Slot) (s : State), s.cdRun ∧ s.sstate n.val ≠ 2 ∧ n.val < s.variant.slots) ∧
    (∃ (who : Party) (n : Slot) (s : State), s.cdRun ∧ n.val < s.variant.slots ∧ s.mayWriteShadow who n.val ∧ s.fld (Reg.EDG_CTRL n.val)
      Fld.EDG_CTRL_MODE = 0) ∧
    (∃ (who : Party) (n : Slot) (s : State), s.cdRun ∧ n.val < s.variant.slots ∧ s.mayWriteShadow who n.val = false) ∧
    (∃ (who : Party) (n : Slot) (s : State), s.cdRun ∧ n.val < s.variant.slots ∧ s.mayWriteShadow who n.val ∧ s.fld (Reg.EDG_CTRL n.val)
      Fld.EDG_CTRL_MODE = 1) ∧
    (∃ (who : Party) (n : Slot) (s : State), s.cdRun ∧ n.val < s.variant.slots ∧ s.mayWriteShadow who n.val = false) ∧
    (∃ (n : Slot) (s : State), s.cdRun ∧ s.variant.slots ≤ n.val) ∧
    (∃ (n : Slot) (s : State), s.cdRun ∧ s.variant.slots ≤ n.val) ∧
    (∃ (who : Party) (n : Slot) (s : State), s.cdRun ∧ n.val < s.variant.slots ∧ s.ownsSlotOf who n.val ∧ ((s.clusterOf n.val).any fun k => s.ctype k
      == tySDC && s.charging k) = false) ∧
    (∃ (who : Party) (n : Slot) (s : State), s.cdRun ∧ n.val < s.variant.slots ∧ s.ownsSlotOf who n.val ∧ ((s.clusterOf n.val).any fun k => s.ctype k
      == tySDC && s.charging k)) ∧
    (∃ (who : Party) (n : Slot) (s : State), s.cdRun ∧ n.val < s.variant.slots ∧ s.ownsSlotOf who n.val = false ∧ s.sstate n.val ≠ 0) ∧
    (∃ (n : Slot) (s : State), s.cdRun ∧ s.variant.slots ≤ n.val) ∧
    (∃ (n : Slot) (p : Nat) (s : State), s.cdRun ∧ s.sstate n.val = 1 ∧ s.bit (Reg.EDG_CTRL n.val) Fld.EDG_CTRL_EN ∧ s.carrierPoint n.val (((s.edge
      n.val).startFrom + 16) * 16) = p ∧ p ≤ s.tbFine) ∧
    (∃ (n : Slot) (p v : Nat) (s : State), s.cdRun ∧ (s.edge n.val).stopTo = some (p, v) ∧ s.sstate n.val = 2 ∧ p ≤ s.tbFine ∧ v < 8 ∧ v ≠ 2) ∧
    (∃ (n : Slot) (b : Nat) (rest : List Nat) (s : State), s.cdRun ∧ (s.edge n.val).acts = b :: rest ∧ b + s.fld (Reg.EDG_SRC n.val) Fld.EDG_SRC_MAXGAP
      * 16 ≤ s.tbFine) ∧
    (∃ (i : ModIn) (x : Int) (ovr : Bool) (n : Slot) (s : State), s.mdRun ∧ s.fastDelivers i ovr ∧ n.val < s.variant.slots ∧ s.bit (Reg.EDG_FCL_CFG
      n.val) Fld.EDG_FCL_CFG_FTYPE = false ∧ s.fld (Reg.EDG_FCL_CFG n.val) Fld.EDG_FCL_CFG_FCH = i.val ∧ s.fld (Reg.EDG_FCL n.val) Fld.EDG_FCL_LIMIT ≠ 0
      ∧ s.fld (Reg.EDG_FCL n.val) Fld.EDG_FCL_LIMIT < x.natAbs) ∧
    (∃ (n : Slot) (s : State), s.cdRun ∧ s.pcmRuns n.val ∧ s.pcmEnd n.val ≤ s.tbFine) :=
  ⟨⟨3, 0, (State.reset.setFld (Reg.EDG_STAT 3) Fld.EDG_STAT_SSTATE 2).updEdge 3 fun e => { e with pat := 1 }, by decide⟩,
    ⟨3, 0, ((State.reset.setFld (Reg.EDG_STAT 3) Fld.EDG_STAT_SSTATE 2).setFld (Reg.EDG_CTRL 3) Fld.EDG_CTRL_MODE 1).updEdge 3 fun e => { e with pat := 1, called := 1 }, by decide⟩,
    ⟨3, 0, 1, ((State.reset.setFld (Reg.EDG_STAT 3) Fld.EDG_STAT_SSTATE 2).setBit (Reg.EDG_MINPULSE 3) Fld.EDG_MINPULSE_MODE true).setReg (Reg.GDV_STAT 3) 0, by decide⟩,
    ⟨3, 160000000, { ((State.reset.setFld (Reg.EDG_STAT 3) Fld.EDG_STAT_SSTATE 2).setFld (Reg.EDG_CTRL 3) Fld.EDG_CTRL_MODE 2).updEdge 3 fun e => { e with pat := 2, called := 2 } with tb := 10000000 }, by decide⟩,
    ⟨3, { (State.reset.setFld (Reg.EDG_STAT 3) Fld.EDG_STAT_SSTATE 2).updEdge 3 fun e => { e with peakNext := true } with tb := 100000 }, by decide⟩,
    ⟨3, { (State.reset.setFld (Reg.EDG_STAT 3) Fld.EDG_STAT_SSTATE 2) with tb := 100000 }, by decide⟩,
    ⟨3, 0, 50, 0, { State.reset.updEdge 3 fun e => { e with shadow := [(0, [50, 0])] } with tb := 1000000 }, by decide⟩,
    ⟨3, State.reset, by decide⟩,
    ⟨.host, 3, State.reset, by decide⟩,
    ⟨.host, 3, (State.reset.setFld (Reg.EDG_STAT 3) Fld.EDG_STAT_SSTATE 2), by decide⟩,
    ⟨.host, 3, State.reset.setFld (Reg.EDG_CTRL 3) Fld.EDG_CTRL_MODE 1, by decide⟩,
    ⟨.host, 3, (State.reset.setFld (Reg.EDG_STAT 3) Fld.EDG_STAT_SSTATE 2), by decide⟩,
    ⟨20, { State.reset with variant := .v7608 }, by decide⟩,
    ⟨20, { State.reset with variant := .v7608 }, by decide⟩,
    ⟨.lt 0, 0, (State.reset.setFld (Reg.CLU_CFG 0) Fld.CLU_CFG_TYPE 3).setNat (Reg.CLU_SLOTS 0) 1, by decide⟩,
    ⟨.lt 0, 0, ((State.reset.setFld (Reg.CLU_CFG 0) Fld.CLU_CFG_TYPE tySDC).setNat (Reg.CLU_SLOTS 0) 1).setFld (Reg.CHG_STAT 0) Fld.CHG_STAT_ESTATE 1, by decide⟩,
    ⟨.host, 3, (State.reset.setFld (Reg.EDG_STAT 3) Fld.EDG_STAT_SSTATE 2), by decide⟩,
    ⟨20, { State.reset with variant := .v7608 }, by decide⟩,
    ⟨3, ((State.reset.setFld (Reg.EDG_STAT 3) Fld.EDG_STAT_SSTATE 1).carrierPoint 3 256), { (State.reset.setFld (Reg.EDG_STAT 3) Fld.EDG_STAT_SSTATE 1).setBit (Reg.EDG_CTRL 3) Fld.EDG_CTRL_EN true with tb := 10000000 }, by decide⟩,
    ⟨3, 0, 3, (State.reset.setFld (Reg.EDG_STAT 3) Fld.EDG_STAT_SSTATE 2).updEdge 3 fun e => { e with stopTo := some (0, 3) }, by decide⟩,
    ⟨3, 5, [], { State.reset.updEdge 3 fun e => { e with acts := [5] } with tb := 10000000 }, by decide⟩,
    ⟨5, -900, false, 3, (((State.reset.setNat (Reg.EDG_FCL_CFG 3) 0).setFld (Reg.EDG_FCL_CFG 3) Fld.EDG_FCL_CFG_FCH 5).setFld (Reg.EDG_FCL 3) Fld.EDG_FCL_LIMIT 7).setFld Reg.PWR_SUPSTAT ⟨7, 1⟩ 1 |>.setBit (Reg.MEAS_MOD_CFG 5) Fld.MEAS_MOD_CFG_EN true |>.setBit (Reg.MEAS_MCLK 0) Fld.MEAS_MCLK_EN true, by decide⟩,
    ⟨3, { ((State.reset.setFld (Reg.EDG_STAT 3) Fld.EDG_STAT_SSTATE 2).setFld (Reg.EDG_CTRL 3) Fld.EDG_CTRL_MODE 2).updEdge 3 fun e => { e with pat := 2, called := 2 } with tb := 10000000 }, by decide⟩⟩

theorem test_met_gate_edges_complete :
    (∃ (n : Slot) (c : EdgeCmd) (rest : List EdgeCmd) (s : State), s.cdRun ∧ (s.edge n.val).cmds = c :: rest ∧ c.time ≤ s.tbFine ∧ c.on = false) ∧
    (∃ (n : Slot) (c : EdgeCmd) (rest : List EdgeCmd) (s : State), s.cdRun ∧ (s.edge n.val).cmds = c :: rest ∧ c.time ≤ s.tbFine ∧ c.on ∧ (s.gate n.val
      (if c.high then .low else .high)).conducts = false ∧ (s.gate n.val (if c.high then .low else .high)).offAt = 0 ∧ s.holdBits n.val = 0 ∧ (s.drv
      n.val).guardEnd = none ∧ (s.drv n.val).softAt = none ∧ (s.gate n.val (if c.high then .high else .low)).isOn = false) ∧
    (∃ (n : Slot) (c : EdgeCmd) (rest : List EdgeCmd) (s : State), s.cdRun ∧ (s.edge n.val).cmds = c :: rest ∧ c.time ≤ s.tbFine ∧ c.on ∧ (s.gate n.val
      (if c.high then .low else .high)).conducts) ∧
    (∃ (n : Slot) (side : Side) (s : State), s.cdRun ∧ ((s.gate n.val side).phase = 1 ∨ (s.gate n.val side).phase = 11)) ∧
    (∃ (n : Slot) (side : Side) (s : State), s.cdRun ∧ ((s.gate n.val side).phase = 1 ∨ (s.gate n.val side).phase = 11) ∧ s.since (s.gate n.val
      side).since (profPreTmax.get (s.gate n.val side).prof)) ∧
    (∃ (n : Slot) (side : Side) (dur : Nat) (s : State), s.cdRun ∧ ((s.gate n.val side).phase = 2 ∨ (s.gate n.val side).phase = 12) ∧ (s.now - (s.gate
      n.val side).since) * 16 < dur + 16 ∧ dur < (s.now - (s.gate n.val side).since) * 16 + 16) ∧
    (∃ (n : Slot) (side : Side) (dur : Nat) (s : State), s.cdRun ∧ ((s.gate n.val side).phase = 2 ∨ (s.gate n.val side).phase = 12) ∧ (s.gate n.val
      side).stepEdge = false ∧ (s.now - (s.gate n.val side).since) * 16 < dur + 16 ∧ dur < (s.now - (s.gate n.val side).since) * 16 + 16 ∧ s.since
      (s.gate n.val side).since (profTmax.get (s.gate n.val side).prof)) ∧
    (∃ (n : Slot) (side : Side) (dur : Nat) (s : State), s.cdRun ∧ ((s.gate n.val side).phase = 2 ∨ (s.gate n.val side).phase = 12) ∧ (s.gate n.val
      side).stepEdge = false ∧ (s.now - (s.gate n.val side).since) * 16 < dur + 16 ∧ dur < (s.now - (s.gate n.val side).since) * 16 + 16 ∧ s.since
      (s.gate n.val side).since 12) ∧
    (∃ (n : Slot) (side : Side) (s : State), s.cdRun ∧ (s.gate n.val side).phase = 13) ∧
    (∃ (n : Slot) (side : Side) (s : State), s.cdRun ∧ (s.reg (dsatReg n.val side)).toNat / 2 ^ 31 = 1 ∧ ((s.gate n.val side).isOn ∨ (s.gate n.val
      side).phase = 21 ∧ s.softNow n.val) ∧ s.since (s.gate n.val side).onSince ((s.reg (dsatReg n.val side)).toNat / 2 ^ 16 % 1024 + 4 * ((s.reg
      (dsatReg n.val side)).toNat % 8))) ∧
    (∃ (s : State), s.cdRun) ∧
    (∃ (n : Slot) (s : State), s.cdRun ∧ n.val < s.variant.slots) ∧
    (∃ (n : Slot) (s : State), s.cdRun ∧ (s.drv n.val).linkUp = false) ∧
    (∃ (n : Slot) (side : Side) (s : State), s.cdRun ∧ (s.gate n.val side).armed) ∧
    (∃ (n : Slot) (side : Side) (s : State), s.cdRun ∧ (s.gate n.val side).bias.isSome ∧ s.bit (Reg.GDV_STAT n.val) (biasOk side) = false) ∧
    (∃ (n : Slot) (t0 : Nat) (s : State), s.cdRun ∧ (s.drv n.val).softAt = some t0 ∧ (s.drv n.val).softStep2 = none ∧ s.since t0 (s.drv n.val).softT) ∧
    (∃ (n : Slot) (side : Side) (s : State), s.cdRun ∧ (s.drv n.val).softAt = some s.now ∧ (s.gate n.val side).phase = 21) ∧
    (∃ (n : Slot) (below : Bool) (t0 : Nat) (s : State), s.cdRun ∧ (s.drv n.val).softStep2 = some t0 ∧ (below ∨ s.since t0 400)) :=
  ⟨⟨3, ⟨true, false, 0⟩, [], (State.reset.updGate 3 .high fun g => { g with phase := 3 }).updEdge 3 fun e => { e with cmds := [⟨true, false, 0⟩] }, by decide⟩,
    ⟨3, ⟨true, true, 0⟩, [], (State.reset.setReg (Reg.GDV_STAT 3) 0).updEdge 3 fun e => { e with cmds := [⟨true, true, 0⟩] }, by decide⟩,
    ⟨3, ⟨false, true, 0⟩, [], (State.reset.updGate 3 .high fun g => { g with phase := 3 }).updEdge 3 fun e => { e with cmds := [⟨false, true, 0⟩] }, by decide⟩,
    ⟨3, .high, State.reset.updGate 3 .high fun g => { g with phase := 1 }, by decide⟩,
    ⟨3, .high, State.reset.updGate 3 .high fun g => { g with phase := 1 }, by decide⟩,
    ⟨3, .high, 456, { State.reset.updGate 3 .high fun g => { g with phase := 2, rising := true, since := 72 } with now := 100 }, by decide⟩,
    ⟨3, .high, 456, { State.reset.updGate 3 .high fun g => { g with phase := 2, rising := true, since := 72 } with now := 100 }, by decide⟩,
    ⟨3, .high, 456, { State.reset.updGate 3 .high fun g => { g with phase := 2, rising := true, since := 72 } with now := 100 }, by decide⟩,
    ⟨3, .low, State.reset.updGate 3 .low fun g => { g with phase := 13 }, by decide⟩,
    ⟨3, .high, { (State.reset.updGate 3 .high fun g => { g with phase := 3 }).setNat (Reg.GDV_DSAT_H 3) 0x80000000 with now := 9 }, by decide⟩,
    ⟨State.reset, by decide⟩,
    ⟨3, State.reset, by decide⟩,
    ⟨3, State.reset.updDrv 3 fun d => { d with linkUp := false }, by decide⟩,
    ⟨3, .low, State.reset.updGate 3 .low fun g => { g with armed := true }, by decide⟩,
    ⟨3, .low, State.reset.updGate 3 .low fun g => { g with bias := some 0 }, by decide⟩,
    ⟨3, 0, { (State.reset.updGate 3 .low fun g => { g with phase := 21 }).updDrv 3 fun d => { d with softAt := some 0 } with now := 100000 }, by decide⟩,
    ⟨3, .low, (State.reset.updGate 3 .low fun g => { g with phase := 21 }).updDrv 3 fun d => { d with softAt := some 0 }, by decide⟩,
    ⟨3, true, 0, (State.reset.updGate 3 .low fun g => { g with phase := 22 }).updDrv 3 fun d => { d with softAt := some 0, softStep2 := some 0, openAfter := true }, by decide⟩⟩

theorem test_met_gate_holds_complete :
    (∃ (n : Slot) (s : State), s.cdRun ∧ n.val < s.variant.slots ∧ bitOf (s.reg Reg.SAFE_LINES).toNat n.val = false ∧ s.bit (Reg.GDV_STAT n.val)
      Fld.GDV_STAT_H_ILINE = false) ∧
    (∃ (n : Slot) (s : State), s.cdRun ∧ bitOf (s.reg Reg.SAFE_LINES).toNat n.val ∧ s.bit (Reg.GDV_STAT n.val) Fld.GDV_STAT_H_ILINE) ∧
    (∃ (n : Slot) (t0 : Nat) (s : State), s.cdRun ∧ (s.drv n.val).guardEnd = some t0 ∧ t0 ≤ s.now) ∧
    (∃ (who : Party) (n : Slot) (f : Field) (s : State), s.cdRun ∧ n.val < s.variant.slots ∧ (who = .host ∨ (s.clusterOf n.val).any fun k =>
      s.ownerCode k == partyCode who) ∧ s.switching n.val = false ∧ s.bit (Reg.GDV_STAT n.val) Fld.GDV_STAT_H_FAILED = false ∧ f ∈ [Fld.GDV_STAT_H_DSAT,
      Fld.GDV_STAT_H_MOC, Fld.GDV_STAT_H_BIAS, Fld.GDV_STAT_H_LINK] ∧ s.holdGone n.val f) ∧
    (∃ (who : Party) (n : Slot) (s : State), s.cdRun ∧ n.val < s.variant.slots ∧ (who = .host ∨ (s.clusterOf n.val).any fun k => s.ownerCode k ==
      partyCode who) ∧ (s.switching n.val ∨ s.bit (Reg.GDV_STAT n.val) Fld.GDV_STAT_H_FAILED)) ∧
    (∃ (n : Slot) (s : State), s.cdRun ∧ n.val < s.variant.slots ∧ ((s.dev = stSTANDBY ∨ s.dev = stARMED) ∧ s.switching n.val = false ∨ s.dev = stRUN ∧
      (s.sstate n.val = 3 ∨ s.sstate n.val = 4) ∧ (s.clusterOf n.val).any fun k => !s.isGfi k) ∧ (s.drv n.val).diagAt = none) ∧
    (∃ (n : Slot) (s : State), s.cdRun ∧ n.val < s.variant.slots) ∧
    (∃ (n : Slot) (s : State), s.cdRun ∧ n.val < s.variant.slots ∧ s.commissioning ∧ s.switching n.val = false) :=
  ⟨⟨3, State.reset.setReg (Reg.GDV_STAT 3) 0, by decide⟩,
    ⟨3, (State.reset.setNat Reg.SAFE_LINES 8).setBit (Reg.GDV_STAT 3) Fld.GDV_STAT_H_ILINE true, by decide⟩,
    ⟨3, 0, State.reset.updDrv 3 fun d => { d with guardEnd := some 0 }, by decide⟩,
    ⟨.host, 3, Fld.GDV_STAT_H_LINK, { (State.reset.setReg (Reg.GDV_STAT 3) 0).setBit (Reg.GDV_STAT 3) Fld.GDV_STAT_H_LINK true with now := 400000 }, by decide⟩,
    ⟨.host, 3, (State.reset.setFld (Reg.EDG_STAT 3) Fld.EDG_STAT_SSTATE 2), by decide⟩,
    ⟨3, State.reset.setDev stSTANDBY, by decide⟩,
    ⟨3, State.reset, by decide⟩,
    ⟨3, State.reset.setBit Reg.GLB_DEVSTATE Fld.GLB_DEVSTATE_COMMISSION true, by decide⟩⟩

theorem test_met_cluster_commands_complete :
    (∃ (who : Party) (k : Clu) (s : State), s.mayCommand who k.val ∧ (s.dev = stARMED ∨ s.dev = stRUN) ∧ s.cstate k.val = csOFF ∧ s.enableOk k.val) ∧
    (∃ (who : Party) (k : Clu) (s : State), s.mayCommand who k.val ∧ ((s.dev ≠ stARMED ∧ s.dev ≠ stRUN) ∨ s.cstate k.val ≠ csOFF) ∧ (s.cstate k.val =
      csRUN → (s.cluster k.val).pausing = false)) ∧
    (∃ (who : Party) (k : Clu) (s : State), s.mayCommand who k.val ∧ (s.cstate k.val = csRUN → (s.cluster k.val).pausing = false) ∧ s.cstate k.val ∈
      [csSTARTING, csRUN, csPAUSED, csPORT_OPEN] ∧ (∀ n ∈ s.slotsOf k.val, s.sstate n = 0 ∨ 3 < s.sstate n)) ∧
    (∃ (who : Party) (k : Clu) (s : State), s.mayCommand who k.val ∧ (s.cstate k.val = csRUN → (s.cluster k.val).pausing = false) ∧ s.cstate k.val ∈
      [csSTARTING, csRUN, csPAUSED, csPORT_OPEN]) ∧
    (∃ (who : Party) (k : Clu) (s : State), s.mayCommand who k.val ∧ s.cstate k.val ∉ [csSTARTING, csRUN, csPAUSED, csPORT_OPEN]) ∧
    (∃ (who : Party) (k : Clu) (s : State), s.mayCommand who k.val ∧ who ≠ .host ∧ s.cstate k.val = csRUN ∧ (s.cluster k.val).pausing = false ∧
      s.cluSwitching k.val ∧ (∀ n ∈ s.slotsOf k.val, s.sstate n ≠ 1)) ∧
    (∃ (who : Party) (k : Clu) (s : State), s.mayCommand who k.val ∧ s.cstate k.val ≠ csRUN) ∧
    (∃ (who : Party) (k : Clu) (s : State), s.mayCommand who k.val ∧ who ≠ .host ∧ s.cstate k.val = csPAUSED ∧ (s.cluster k.val).pausing = false) ∧
    (∃ (who : Party) (k : Clu) (s : State), s.mayCommand who k.val ∧ (s.cstate k.val = csRUN → (s.cluster k.val).pausing = false) ∧ s.cstate k.val ≠
      csPAUSED) ∧
    (∃ (who : Party) (k : Clu) (s : State), s.mayCommand who k.val ∧ s.cstate k.val = csSAFE_STOPPED ∧ s.bit (Reg.CLU_DC_STAT k.val)
      Fld.CLU_DC_STAT_RETRY_PEND = false ∧ s.bit (Reg.CLU_DC_STAT k.val) Fld.CLU_DC_STAT_SS_LATCH = false ∧ s.stopCauseGone k.val) ∧
    (∃ (who : Party) (k : Clu) (s : State), s.mayCommand who k.val ∧ (s.cstate k.val = csRUN → (s.cluster k.val).pausing = false) ∧ s.cstate k.val ≠
      csSAFE_STOPPED) ∧
    (∃ (who : Party) (k : Clu) (s : State), s.mayCommand who k.val ∧ s.cstate k.val = csRUN ∧ (s.cluster k.val).pausing) ∧
    (∃ (who : Party) (k : Clu) (s : State), s.mayCommand who k.val ∧ s.cstate k.val = csRUN ∧ (s.cluster k.val).pausing) ∧
    (∃ (who : Party) (k : Clu) (s : State), s.mayCommand who k.val ∧ s.cstate k.val = csRUN ∧ (s.cluster k.val).pausing) ∧
    (∃ (who : Party) (k : Clu) (s : State), s.mayCommand who k.val ∧ s.cstate k.val = csRUN ∧ (s.cluster k.val).pausing) ∧
    (∃ (who : Party) (k : Clu) (s : State), s.mayCommand who k.val ∧ s.cstate k.val = csRUN ∧ (s.cluster k.val).pausing) ∧
    (∃ (k : Clu) (s : State), s.cdRun ∧ s.variant.clusters ≤ k.val) ∧
    (∃ (k : Clu) (s : State), s.cdRun ∧ s.variant.clusters ≤ k.val) ∧
    (∃ (k : Clu) (s : State), s.cdRun ∧ s.variant.clusters ≤ k.val) ∧
    (∃ (k : Clu) (s : State), s.cdRun ∧ s.variant.clusters ≤ k.val) ∧
    (∃ (k : Clu) (s : State), s.cdRun ∧ s.variant.clusters ≤ k.val) :=
  ⟨⟨.host, 0, (((State.reset).setFld (Reg.CLU_CFG 0) Fld.CLU_CFG_TYPE 3 |>.setNat (Reg.CLU_SLOTS 0) 3).setDev stARMED).setReg (Reg.GDV_STAT 0) 0 |>.setReg (Reg.GDV_STAT 1) 0 |>.setNat (Reg.CLU_REG_STAT 0) 0, by decide⟩,
    ⟨.host, 0, State.reset, by decide⟩,
    ⟨.host, 0, ((State.reset).setFld (Reg.CLU_CFG 0) Fld.CLU_CFG_TYPE 3 |>.setNat (Reg.CLU_SLOTS 0) 3).setFld (Reg.CLU_STAT 0) Fld.CLU_STAT_CSTATE 6, by decide⟩,
    ⟨.host, 0, ((State.reset).setFld (Reg.CLU_CFG 0) Fld.CLU_CFG_TYPE 3 |>.setNat (Reg.CLU_SLOTS 0) 3).setFld (Reg.CLU_STAT 0) Fld.CLU_STAT_CSTATE 2, by decide⟩,
    ⟨.host, 0, State.reset, by decide⟩,
    ⟨.lt 0, 0, (((State.reset).setFld (Reg.CLU_CFG 0) Fld.CLU_CFG_TYPE 3 |>.setNat (Reg.CLU_SLOTS 0) 3).setFld (Reg.CLU_STAT 0) Fld.CLU_STAT_CSTATE 2).setFld (Reg.EDG_STAT 0) Fld.EDG_STAT_SSTATE 2, by decide⟩,
    ⟨.lt 0, 0, (State.reset).setFld (Reg.CLU_CFG 0) Fld.CLU_CFG_TYPE 3 |>.setNat (Reg.CLU_SLOTS 0) 3, by decide⟩,
    ⟨.lt 0, 0, ((State.reset).setFld (Reg.CLU_CFG 0) Fld.CLU_CFG_TYPE 3 |>.setNat (Reg.CLU_SLOTS 0) 3).setFld (Reg.CLU_STAT 0) Fld.CLU_STAT_CSTATE 3, by decide⟩,
    ⟨.lt 0, 0, (State.reset).setFld (Reg.CLU_CFG 0) Fld.CLU_CFG_TYPE 3 |>.setNat (Reg.CLU_SLOTS 0) 3, by decide⟩,
    ⟨.host, 0, ((State.reset).setFld (Reg.CLU_CFG 0) Fld.CLU_CFG_TYPE 3 |>.setNat (Reg.CLU_SLOTS 0) 3).setFld (Reg.CLU_STAT 0) Fld.CLU_STAT_CSTATE 5, by decide⟩,
    ⟨.host, 0, State.reset, by decide⟩,
    ⟨.host, 0, (((State.reset).setFld (Reg.CLU_CFG 0) Fld.CLU_CFG_TYPE 3 |>.setNat (Reg.CLU_SLOTS 0) 3).setFld (Reg.CLU_STAT 0) Fld.CLU_STAT_CSTATE 2).updCluster 0 fun c => { c with pausing := true }, by decide⟩,
    ⟨.host, 0, (((State.reset).setFld (Reg.CLU_CFG 0) Fld.CLU_CFG_TYPE 3 |>.setNat (Reg.CLU_SLOTS 0) 3).setFld (Reg.CLU_STAT 0) Fld.CLU_STAT_CSTATE 2).updCluster 0 fun c => { c with pausing := true }, by decide⟩,
    ⟨.host, 0, (((State.reset).setFld (Reg.CLU_CFG 0) Fld.CLU_CFG_TYPE 3 |>.setNat (Reg.CLU_SLOTS 0) 3).setFld (Reg.CLU_STAT 0) Fld.CLU_STAT_CSTATE 2).updCluster 0 fun c => { c with pausing := true }, by decide⟩,
    ⟨.host, 0, (((State.reset).setFld (Reg.CLU_CFG 0) Fld.CLU_CFG_TYPE 3 |>.setNat (Reg.CLU_SLOTS 0) 3).setFld (Reg.CLU_STAT 0) Fld.CLU_STAT_CSTATE 2).updCluster 0 fun c => { c with pausing := true }, by decide⟩,
    ⟨.host, 0, (((State.reset).setFld (Reg.CLU_CFG 0) Fld.CLU_CFG_TYPE 3 |>.setNat (Reg.CLU_SLOTS 0) 3).setFld (Reg.CLU_STAT 0) Fld.CLU_STAT_CSTATE 2).updCluster 0 fun c => { c with pausing := true }, by decide⟩,
    ⟨6, { State.reset with variant := .v7608 }, by decide⟩,
    ⟨6, { State.reset with variant := .v7608 }, by decide⟩,
    ⟨6, { State.reset with variant := .v7608 }, by decide⟩,
    ⟨6, { State.reset with variant := .v7608 }, by decide⟩,
    ⟨6, { State.reset with variant := .v7608 }, by decide⟩⟩

theorem test_met_regions_and_grid_complete :
    (∃ (g : Rgn) (s : State), s.cdRun ∧ g.val < s.variant.regions ∧ s.fld (Reg.CLU_REG_STAT g.val) Fld.CLU_REG_STAT_RSTATE = 0 ∧ (s.region g.val).lost
      = false ∧ s.since (s.region g.val).sampleAt 4000 ∧ (∀ k ∈ s.clus, s.ctype k = 0 ∨ s.regionOf k ≠ g.val)) ∧
    (∃ (g : Rgn) (s : State), s.cdRun ∧ g.val < s.variant.regions ∧ s.regionOn g.val ∧ (s.region g.val).lost = false ∧ s.since (s.region
      g.val).sampleAt 4000) ∧
    (∃ (g : Rgn) (t0 : Nat) (s : State), s.cdRun ∧ g.val < s.variant.regions ∧ s.regionOn g.val ∧ s.regionSwitching g.val = false ∧ (s.region
      g.val).insideAt = some t0 ∧ s.since t0 (ms 10)) ∧
    (∃ (g : Rgn) (s : State), s.cdRun ∧ g.val < s.variant.regions ∧ (s.regionOn g.val = false ∨ s.regionSwitching g.val ∨ (s.region g.val).insideAt =
      none)) ∧
    (∃ (who : Party) (k : Clu) (s : State), s.cdRun ∧ k.val < s.variant.clusters ∧ s.ctype k.val = tyGFI3 ∧ s.ownerCode k.val = partyCode who) ∧
    (∃ (k : Clu) (u : GmuOut) (z : Nat) (s : State), s.cdRun ∧ k.val < s.variant.clusters ∧ s.isGfi k.val ∧ s.tb % 40000 = 0 ∧ 40000 ≤ u.freq ∧ u.freq
      ≤ 70000 ∧ u.zc = some z ∧ (u.mags = none ∨ (s.blk k.val).ride = none ∨ bitOf ((s.cluster k.val).spActive.getD 4 0) 0 = false)) ∧
    (∃ (k : Clu) (u : GmuOut) (s : State), s.cdRun ∧ k.val < s.variant.clusters ∧ s.isGfi k.val ∧ s.tb % 40000 = 0 ∧ (u.freq < 40000 ∨ 70000 < u.freq)
      ∧ u.zc = none ∧ (u.mags = none ∨ (s.blk k.val).ride = none ∨ bitOf ((s.cluster k.val).spActive.getD 4 0) 0 = false)) ∧
    (∃ (k : Clu) (s : State), s.cdRun ∧ k.val < s.variant.clusters) ∧
    (∃ (k : Clu) (q z : Nat) (s : State), s.cdRun ∧ (s.cluster k.val).spPend = some q ∧ gridAfter (s.anchor k.val * 16) (s.cluTsw k.val) (((s.cluster
      k.val).spFrom + 16) * 16) = z ∧ z ≤ s.tbFine) :=
  ⟨⟨0, { State.reset.setFld (Reg.CLU_REG_STAT 0) Fld.CLU_REG_STAT_RSTATE 0 with now := 4000 }, by decide⟩,
    ⟨0, { (((State.reset).setFld (Reg.CLU_CFG 0) Fld.CLU_CFG_TYPE 3 |>.setNat (Reg.CLU_SLOTS 0) 3).setFld (Reg.CLU_REG_STAT 0) Fld.CLU_REG_STAT_RSTATE 0) with now := 4000 }, by decide⟩,
    ⟨0, 0, { (State.reset.setFld (Reg.CLU_REG_STAT 0) Fld.CLU_REG_STAT_RSTATE 2).updRegion 0 fun r => { r with insideAt := some 0 } with now := 4000000 }, by decide⟩,
    ⟨0, State.reset, by decide⟩,
    ⟨.lt 0, 0, (State.reset).setFld (Reg.CLU_CFG 0) Fld.CLU_CFG_TYPE 1, by decide⟩,
    ⟨0, ⟨50000, 3, 7, 1, 2, some 77, none⟩, 77, (State.reset).setFld (Reg.CLU_CFG 0) Fld.CLU_CFG_TYPE 1, by decide⟩,
    ⟨0, ⟨30000, 3, 7, 1, 2, none, none⟩, (State.reset).setFld (Reg.CLU_CFG 0) Fld.CLU_CFG_TYPE 1, by decide⟩,
    ⟨0, State.reset, by decide⟩,
    ⟨0, 9, gridAfter (State.reset.anchor 0 * 16) (State.reset.cluTsw 0) 256, { State.reset.updCluster 0 fun c => { c with spPend := some 9 } with tb := 1000000 }, by decide⟩⟩

theorem test_met_dc_phases_complete :
    (∃ (r : Sample) (n : Nat) (s : State), s.cdRun ∧ s.invalid r.src = false ∧ s.assigned.filter (fun m => s.slotSrc m == r.src) = [n] ∧ (s.edge
      n).acts = [] ∧ s.loopRuns n = false ∧ s.fld (Reg.EDG_CTRL n) Fld.EDG_CTRL_MODE ≠ 2 ∧ s.bit (Reg.EDG_FCL_CFG n) Fld.EDG_FCL_CFG_FTYPE = false ∧ (∀
      g ∈ s.rgns, s.fld (Reg.CLU_REG_VCFG g) Fld.CLU_REG_VCFG_SCALE = 0) ∧ (∀ k ∈ s.clus, s.isPhased k = false)) ∧
    (∃ (r : Sample) (k : Clu) (i v : Bool) (s : State), s.cdRun ∧ s.invalid r.src = false ∧ k.val < s.variant.clusters ∧ s.isPhased k.val ∧ (∀ j ∈
      s.clus, s.isPhased j → s.bit (Reg.CLU_DC_CFG j) Fld.CLU_DC_CFG_OPEN_EN = false) ∧ (∀ g ∈ s.rgns, s.fld (Reg.CLU_REG_VCFG g) Fld.CLU_REG_VCFG_SCALE
      = 0) ∧ (∀ n ∈ s.assigned, s.slotSrc n ≠ r.src) ∧ (sarSrc (s.fld (Reg.CLU_DC_PSRC k.val) Fld.CLU_DC_PSRC_CH) == r.src) = i ∧ (sarSrc (s.fld
      (Reg.CLU_DC_VSRC k.val) Fld.CLU_DC_VSRC_CH) == r.src) = v) ∧
    (∃ (n : Slot) (x : Nat) (k : Nat) (s : State), s.cdRun ∧ s.actingDue n.val = some x ∧ s.clusterOf n.val = some k ∧ s.ctype k ≠ tyGFI3 ∧ s.ctype k ≠
      tyDLC) ∧
    (∃ (k : Clu) (z : Nat) (i v : Int) (s : State), s.cdRun ∧ k.val < s.variant.clusters ∧ s.isPhased k.val ∧ s.instantOf k.val = z ∧ ((s.dc
      k.val).instant.all fun p => Nat.blt p z) ∧ s.charging k.val = false ∧ s.cstate k.val ≠ csSTARTING ∧ s.cstate k.val ≠ csRUN ∧ (((estAt (s.dc
      k.val).ps z).map fun x => x * (s.fld (Reg.CLU_DC_PSRC k.val) Fld.CLU_DC_PSRC_SCALE : Int)).getD (s.dc k.val).iPort) = i ∧ (((estAt (s.dc k.val).vs
      z).map fun x => x * (s.fld (Reg.CLU_DC_VSRC k.val) Fld.CLU_DC_VSRC_SCALE : Int)).getD (s.dc k.val).vPort) = v) ∧
    (∃ (k : Clu) (p x : Nat) (s : State), s.cdRun ∧ s.isPhased k.val ∧ s.cstate k.val = csRUN ∧ (s.dc k.val).req = none ∧ (s.dc k.val).swAt = none ∧
      s.bit (Reg.CLU_DC_CFG k.val) Fld.CLU_DC_CFG_SHED_EN ∧ (s.dc k.val).dropAt = some x ∧ s.since x (ms (Fld.CLU_DC_DWELL_DWELL_DROP.get (s.reg
      (Reg.CLU_DC_DWELL k.val)))) ∧ 1 < popcount 8 (s.activeMask k.val) ∧ highBit (s.activeMask k.val) = some p) ∧
    (∃ (k : Clu) (p x : Nat) (s : State), s.cdRun ∧ s.isPhased k.val ∧ s.cstate k.val = csRUN ∧ (s.dc k.val).req = none ∧ (s.dc k.val).swAt = none ∧
      s.bit (Reg.CLU_DC_CFG k.val) Fld.CLU_DC_CFG_SHED_EN ∧ (s.dc k.val).dropAt = none ∧ (s.dc k.val).addAt = some x ∧ s.since x (40000 *
      Fld.CLU_DC_DWELL_DWELL_ADD.get (s.reg (Reg.CLU_DC_DWELL k.val))) ∧ lowBit (s.healthyMask k.val &&& (0xFF - s.activeMask k.val)) = some p) ∧
    (∃ (who : Party) (k : Clu) (p d : Nat) (b : Bool) (s : State), s.cdRun ∧ k.val < s.variant.clusters ∧ s.isPhased k.val ∧ s.ownerCode k.val =
      partyCode who ∧ (s.dc k.val).req = some (p, b, d, none) ∧ s.now ≤ d + ms 1) ∧
    (∃ (k : Clu) (p d x : Nat) (b : Bool) (n : Nat) (s : State), s.cdRun ∧ (s.dc k.val).req = some (p, b, d, some x) ∧ s.slotAt k.val p = some n ∧
      s.cstate k.val = csRUN ∧ (x + 16) * 16 ≤ s.zeroAt n s.tbFine ∧ b = false) ∧
    (∃ (k : Clu) (p d x : Nat) (b : Bool) (n : Nat) (s : State), s.cdRun ∧ (s.dc k.val).req = some (p, b, d, some x) ∧ s.slotAt k.val p = some n ∧
      s.cstate k.val = csRUN ∧ (x + 16) * 16 ≤ s.zeroAt n s.tbFine ∧ b) ∧
    (∃ (k : Clu) (p d : Nat) (b : Bool) (s : State), s.cdRun ∧ (s.dc k.val).req = some (p, b, d, none) ∧ s.since d (ms 1)) ∧
    (∃ (k : Clu) (p : Nat) (n : Nat) (s : State), s.cdRun ∧ k.val < s.variant.clusters ∧ s.slotAt k.val p = some n ∧ s.isPhased k.val ∧ bitOf
      (s.healthyMask k.val) p = false ∧ s.holdBits n = 0 ∧ s.keepsAll k.val = false ∧ (s.cstate k.val = csRUN → (s.cluster k.val).pausing = false)) ∧
    (∃ (k : Clu) (s : State), s.cdRun ∧ k.val < s.variant.clusters ∧ s.isPhased k.val = false ∧ (s.cstate k.val = csRUN → (s.cluster k.val).pausing =
      false)) ∧
    (∃ (k : Clu) (x : Nat) (s : State), s.cdRun ∧ (s.dc k.val).ssAt = some x ∧ s.isPhased k.val ∧ s.cstate k.val = csSTARTING ∧ s.since x (ms (10 *
      s.fld (Reg.CLU_DC_SS k.val) Fld.CLU_DC_SS_SS_TIME))) ∧
    (∃ (k : Clu) (x : Nat) (s : State), s.cdRun ∧ (s.dc k.val).retryAt = some x ∧ s.cstate k.val = csSAFE_STOPPED ∧ s.since x (secs 5) ∧ (s.dev ≠
      stARMED ∧ s.dev ≠ stRUN)) ∧
    (∃ (k : Clu) (x : Nat) (s : State), s.cdRun ∧ (s.dc k.val).retryAt = some x ∧ s.cstate k.val = csSAFE_STOPPED ∧ s.since x (secs 5) ∧ (s.dev =
      stARMED ∨ s.dev = stRUN) ∧ (s.cancelRetry k.val).stopCauseGone k.val ∧ ((s.cancelRetry k.val).clearOrders k.val).enableOk k.val ∧ s.isPhased k.val) ∧
    (∃ (k : Clu) (s : State), s.cdRun ∧ k.val < s.variant.clusters ∧ s.isPhased k.val ∧ s.cstate k.val = csSAFE_STOPPED) :=
  ⟨⟨⟨.mod 3, 5, 6, false, true⟩, 2, ((State.reset).setFld (Reg.CLU_CFG 0) Fld.CLU_CFG_TYPE 2).setNat (Reg.CLU_SLOTS 0) 4 |>.setFld (Reg.EDG_SRC 2) Fld.EDG_SRC_TYPE 1 |>.setFld (Reg.EDG_SRC 2) Fld.EDG_SRC_CH 3, by decide⟩,
    ⟨⟨.sar 5, 5, 6, false, false⟩, 0, true, false, ((State.reset).setFld (Reg.CLU_CFG 0) Fld.CLU_CFG_TYPE 3).setFld (Reg.CLU_DC_PSRC 0) Fld.CLU_DC_PSRC_CH 5 |>.setFld (Reg.CLU_DC_VSRC 0) Fld.CLU_DC_VSRC_CH 6 |>.setFld (Reg.CLU_DC_CFG 0) Fld.CLU_DC_CFG_OPEN_EN 0, by decide⟩,
    ⟨0, (({ ((State.reset).setFld (Reg.CLU_CFG 0) Fld.CLU_CFG_TYPE 2).setNat (Reg.CLU_SLOTS 0) 1 with tb := 1000000 } : State).actingDue 0).getD 0, 0, { ((State.reset).setFld (Reg.CLU_CFG 0) Fld.CLU_CFG_TYPE 2).setNat (Reg.CLU_SLOTS 0) 1 with tb := 1000000 }, by decide⟩,
    ⟨0, 0, 0, 0, (State.reset).setFld (Reg.CLU_CFG 0) Fld.CLU_CFG_TYPE 3, by decide⟩,
    ⟨0, 1, 0, { (((((State.reset).setFld (Reg.CLU_CFG 0) Fld.CLU_CFG_TYPE 3 |>.setNat (Reg.CLU_SLOTS 0) 3).setFld (Reg.CLU_STAT 0) Fld.CLU_STAT_CSTATE 2).setFld (Reg.CLU_DC_CFG 0) Fld.CLU_DC_CFG_SHED_EN 1).setFld (Reg.CLU_DC_STAT 0) Fld.CLU_DC_STAT_ACTIVE 3).updDc 0 fun d => { d with dropAt := some 0 } with now := 4000000000000 }, by decide⟩,
    ⟨0, 0, 0, { (((((State.reset).setFld (Reg.CLU_CFG 0) Fld.CLU_CFG_TYPE 3 |>.setNat (Reg.CLU_SLOTS 0) 3).setFld (Reg.CLU_STAT 0) Fld.CLU_STAT_CSTATE 2).setFld (Reg.CLU_DC_CFG 0) Fld.CLU_DC_CFG_SHED_EN 1).setFld (Reg.CLU_DC_STAT 0) Fld.CLU_DC_STAT_HEALTHY 3).updDc 0 fun d => { d with addAt := some 0 } with now := 4000000000000 }, by decide⟩,
    ⟨.lt 0, 0, 1, 0, false, ((State.reset).setFld (Reg.CLU_CFG 0) Fld.CLU_CFG_TYPE 3 |>.setNat (Reg.CLU_SLOTS 0) 3).updDc 0 fun d => { d with req := some (1, false, 0, none) }, by decide⟩,
    ⟨0, 1, 0, 0, false, 1, { ((((State.reset).setFld (Reg.CLU_CFG 0) Fld.CLU_CFG_TYPE 3 |>.setNat (Reg.CLU_SLOTS 0) 3).setFld (Reg.CLU_STAT 0) Fld.CLU_STAT_CSTATE 2).setFld (Reg.CLU_DC_STAT 0) Fld.CLU_DC_STAT_ACTIVE 3).updDc 0 fun d => { d with req := some (1, false, 0, some 0) } with tb := 1000000 }, by decide⟩,
    ⟨0, 1, 0, 0, true, 1, { ((((State.reset).setFld (Reg.CLU_CFG 0) Fld.CLU_CFG_TYPE 3 |>.setNat (Reg.CLU_SLOTS 0) 3).setFld (Reg.CLU_STAT 0) Fld.CLU_STAT_CSTATE 2).setFld (Reg.CLU_DC_STAT 0) Fld.CLU_DC_STAT_ACTIVE 1).updDc 0 fun d => { d with req := some (1, true, 0, some 0) } with tb := 1000000 }, by decide⟩,
    ⟨0, 1, 0, false, { ((State.reset).setFld (Reg.CLU_CFG 0) Fld.CLU_CFG_TYPE 3 |>.setNat (Reg.CLU_SLOTS 0) 3).updDc 0 fun d => { d with req := some (1, false, 0, none) } with now := 400000 }, by decide⟩,
    ⟨0, 1, 1, ((State.reset).setFld (Reg.CLU_CFG 0) Fld.CLU_CFG_TYPE 3 |>.setNat (Reg.CLU_SLOTS 0) 3).setReg (Reg.GDV_STAT 1) 0, by decide⟩,
    ⟨0, State.reset, by decide⟩,
    ⟨0, 0, { ((((State.reset).setFld (Reg.CLU_CFG 0) Fld.CLU_CFG_TYPE 3 |>.setNat (Reg.CLU_SLOTS 0) 3).setFld (Reg.CLU_STAT 0) Fld.CLU_STAT_CSTATE 1).updDc 0 fun d => { d with ssAt := some 0 }) with now := 40000000000 }, by decide⟩,
    ⟨0, 0, { ((((State.reset).setFld (Reg.CLU_CFG 0) Fld.CLU_CFG_TYPE 3 |>.setNat (Reg.CLU_SLOTS 0) 3).setFld (Reg.CLU_STAT 0) Fld.CLU_STAT_CSTATE 5).updDc 0 fun d => { d with retryAt := some 0 }) with now := 40000000000 }, by decide⟩,
    ⟨0, 0, { ((((((((State.reset).setFld (Reg.CLU_CFG 0) Fld.CLU_CFG_TYPE 3 |>.setNat (Reg.CLU_SLOTS 0) 3).setFld (Reg.CLU_STAT 0) Fld.CLU_STAT_CSTATE 5).setDev stARMED).setReg (Reg.GDV_STAT 0) 0).setReg (Reg.GDV_STAT 1) 0).setNat (Reg.CLU_REG_STAT 0) 0).updDc 0 fun d => { d with retryAt := some 0 }) with now := 40000000000 }, by decide⟩,
    ⟨0, ((State.reset).setFld (Reg.CLU_CFG 0) Fld.CLU_CFG_TYPE 3 |>.setNat (Reg.CLU_SLOTS 0) 3).setFld (Reg.CLU_STAT 0) Fld.CLU_STAT_CSTATE 5, by decide⟩⟩

theorem test_met_pv_and_chopper_complete :
    (∃ (k : Clu) (m : Nat) (s : State), s.cdRun ∧ s.ctype k.val = tyPVC ∧ s.cstate k.val = csRUN ∧ s.bit (Reg.CLU_DC_STAT k.val) Fld.CLU_DC_STAT_FROZEN
      = false ∧ (s.dc k.val).swAt = none ∧ (s.dc k.val).cnt = m ∧ m ≠ 0 ∧ s.since (s.dc k.val).mpptAt (ms (Fld.CLU_PV_MPPT_INTERVAL.get (s.reg
      (Reg.CLU_PV_MPPT k.val))))) ∧
    (∃ (who : Party) (k : Clu) (s : State), s.cdRun ∧ k.val < s.variant.clusters ∧ s.ctype k.val = tyPVC ∧ s.ownerCode k.val = partyCode who ∧ (s.dc
      k.val).swAt = none) ∧
    (∃ (who : Party) (k : Clu) (x : Nat) (s : State), s.cdRun ∧ k.val < s.variant.clusters ∧ s.ctype k.val = tyPVC ∧ s.ownerCode k.val = partyCode who
      ∧ (s.dc k.val).swAt = some x) ∧
    (∃ (who : Party) (k : Clu) (s : State), s.cdRun ∧ k.val < s.variant.clusters ∧ s.ctype k.val = tyPVC ∧ s.ownerCode k.val = partyCode who) ∧
    (∃ (k : Clu) (s : State), s.cdRun ∧ k.val < s.variant.clusters ∧ s.ctype k.val = tyPVC ∧ s.cstate k.val = csRUN ∧ (s.cluster k.val).pausing = false
      ∧ (s.dc k.val).swAt = none ∧ s.bit (Reg.CLU_DC_STAT k.val) Fld.CLU_DC_STAT_FROZEN = false) ∧
    (∃ (k : Clu) (s : State), s.cdRun ∧ k.val < s.variant.clusters ∧ s.ctype k.val = tyPVC ∧ s.cstate k.val = csRUN ∧ (s.cluster k.val).pausing = false
      ∧ (s.dc k.val).swAt = none ∧ s.bit (Reg.CLU_DC_STAT k.val) Fld.CLU_DC_STAT_FROZEN) ∧
    (∃ (k : Clu) (x p : Nat) (s : State), s.cdRun ∧ s.cstate k.val = csRUN ∧ (s.dc k.val).swAt = some x ∧ (s.dc k.val).swPoint = p ∧ p < 63 ∧ s.since x
      ((p + 1) * 250000)) ∧
    (∃ (k : Clu) (x : Nat) (s : State), s.cdRun ∧ s.cstate k.val = csRUN ∧ (s.dc k.val).swAt = some x ∧ (s.dc k.val).swPoint = 63 ∧ (s.dc
      k.val).swPow.length = 63 ∧ s.since x (ms 40)) ∧
    (∃ (k : Clu) (s : State), s.cdRun ∧ k.val < s.variant.clusters ∧ s.ctype k.val = tyDLC ∧ s.cstate k.val = csRUN ∧ (s.cluster k.val).pausing = false
      ∧ s.othersSwitch k.val = false) ∧
    (∃ (k : Clu) (s : State), s.cdRun ∧ k.val < s.variant.clusters ∧ s.ctype k.val = tyDLC ∧ s.cstate k.val ≠ csRUN) ∧
    (∃ (k : Clu) (s : State), s.cdRun ∧ k.val < s.variant.clusters ∧ s.ctype k.val = tyDLC ∧ (s.cstate k.val = csRUN → (s.cluster k.val).pausing =
      false) ∧ s.bit (Reg.CLU_DC_STAT k.val) Fld.CLU_DC_STAT_DISCH_ACT) :=
  ⟨⟨0, 2, { (((State.reset).setFld (Reg.CLU_CFG 0) Fld.CLU_CFG_TYPE 4 |>.setNat (Reg.CLU_SLOTS 0) 3).setFld (Reg.CLU_STAT 0) Fld.CLU_STAT_CSTATE 2).updDc 0 fun d => { d with cnt := 2, sumP := 6000000000000 } with now := 40000000000 }, by decide⟩,
    ⟨.lt 0, 0, (State.reset).setFld (Reg.CLU_CFG 0) Fld.CLU_CFG_TYPE 4 |>.setNat (Reg.CLU_SLOTS 0) 3, by decide⟩,
    ⟨.lt 0, 0, 0, (((State.reset).setFld (Reg.CLU_CFG 0) Fld.CLU_CFG_TYPE 4 |>.setNat (Reg.CLU_SLOTS 0) 3).setFld (Reg.CLU_STAT 0) Fld.CLU_STAT_CSTATE 2).updDc 0 fun d => { d with swAt := some 0, swRef := 5 }, by decide⟩,
    ⟨.lt 0, 0, (State.reset).setFld (Reg.CLU_CFG 0) Fld.CLU_CFG_TYPE 4 |>.setNat (Reg.CLU_SLOTS 0) 3, by decide⟩,
    ⟨0, ((State.reset).setFld (Reg.CLU_CFG 0) Fld.CLU_CFG_TYPE 4 |>.setNat (Reg.CLU_SLOTS 0) 3).setFld (Reg.CLU_STAT 0) Fld.CLU_STAT_CSTATE 2, by decide⟩,
    ⟨0, (((State.reset).setFld (Reg.CLU_CFG 0) Fld.CLU_CFG_TYPE 4 |>.setNat (Reg.CLU_SLOTS 0) 3).setFld (Reg.CLU_STAT 0) Fld.CLU_STAT_CSTATE 2).setFld (Reg.CLU_DC_STAT 0) Fld.CLU_DC_STAT_FROZEN 1, by decide⟩,
    ⟨0, 0, 3, { (((State.reset).setFld (Reg.CLU_CFG 0) Fld.CLU_CFG_TYPE 4 |>.setNat (Reg.CLU_SLOTS 0) 3).setFld (Reg.CLU_STAT 0) Fld.CLU_STAT_CSTATE 2).updDc 0 fun d => { d with swAt := some 0, swPoint := 3 } with now := 4000000 }, by decide⟩,
    ⟨0, 0, { (((State.reset).setFld (Reg.CLU_CFG 0) Fld.CLU_CFG_TYPE 4 |>.setNat (Reg.CLU_SLOTS 0) 3).setFld (Reg.CLU_STAT 0) Fld.CLU_STAT_CSTATE 2).updDc 0 fun d => { d with swAt := some 0, swPoint := 63, swPow := List.replicate 63 5 } with now := 40000000 }, by decide⟩,
    ⟨0, ((State.reset).setFld (Reg.CLU_CFG 0) Fld.CLU_CFG_TYPE 5).setFld (Reg.CLU_STAT 0) Fld.CLU_STAT_CSTATE 2, by decide⟩,
    ⟨0, (State.reset).setFld (Reg.CLU_CFG 0) Fld.CLU_CFG_TYPE 5, by decide⟩,
    ⟨0, ((State.reset).setFld (Reg.CLU_CFG 0) Fld.CLU_CFG_TYPE 5).setFld (Reg.CLU_DC_STAT 0) Fld.CLU_DC_STAT_DISCH_ACT 1, by decide⟩⟩

set_option maxRecDepth 100000 in
theorem test_met_system_bus_completes :
    (∃ (c : SyncIn) (w : BitVec 128) (h : SyncHdr) (x : BitVec 120) (p q : SyncRef) (s : State), s.sysOn ∧ s.role ≠ roLEADER ∧ c.segA = some w ∧ readA
      w = some h ∧ h.cidx ≠ s.ownId ∧ s.sys.fenced = false ∧ bitOf (h.members % 65536) s.ownId ∧ c.segB = some x ∧ readB x = some (p, q) ∧ p.valid ∧
      q.valid) ∧
    (∃ (c : SyncIn) (w : BitVec 128) (h : SyncHdr) (s : State), s.sysOn ∧ s.role ≠ roLEADER ∧ c.segA = some w ∧ readA w = some h ∧ h.cidx ≠ s.ownId ∧
      s.sys.fenced = false ∧ bitOf (h.members % 65536) s.ownId = false ∧ s.sys.appeared) ∧
    (∃ (c : SyncIn) (s : State), s.sysOn ∧ s.role ≠ roLEADER ∧ c.segA = none ∧ (s.sys.cidx + 1) % 16 ≠ s.ownId ∧ s.sys.quiet = 0 ∧ s.sys.g0.valid =
      false ∧ s.sys.g1.valid = false ∧ (∀ k ∈ s.parClus, s.bit (Reg.CLU_STAT k) Fld.CLU_STAT_SHARE_HOLD = false)) ∧
    (∃ (c : SyncIn) (w : BitVec 64) (s : State), s.sysOn ∧ s.role ≠ roLEADER ∧ c.segA = none ∧ (s.sys.cidx + 1) % 16 = s.ownId ∧ s.formC c.share = w ∧
      c.segC = some w ∧ s.sys.g0.valid = false ∧ s.sys.g1.valid = false ∧ (∀ k ∈ s.parClus, s.bit (Reg.CLU_STAT k) Fld.CLU_STAT_SHARE_HOLD = false)) ∧
    (∃ (c : SyncIn) (w : BitVec 128) (s : State), s.sysOn ∧ s.role = roLEADER ∧ s.tb % 12800 = 0 ∧ s.formA (s.tb / 12800 % 16) = w ∧ c.segA = some w ∧
      s.sys.fresh = false ∧ c.own.1.valid ∧ c.own.2.valid ∧ s.tb / 12800 % 16 ≠ s.ownId ∧ bitOf s.members (s.tb / 12800 % 16) = false ∧ c.segC = none) ∧
    (∃ (c : SyncIn) (w : BitVec 128) (v : BitVec 64) (m : SyncSlot) (s : State), s.sysOn ∧ s.role = roLEADER ∧ s.tb % 12800 = 0 ∧ s.formA (s.tb / 12800
      % 16) = w ∧ c.segA = some w ∧ s.tb / 12800 % 16 ≠ s.ownId ∧ bitOf s.members (s.tb / 12800 % 16) = false ∧ c.segC = some v ∧ readC v = some m ∧
      m.modid.val = s.tb / 12800 % 16 ∧ bitOf m.flags 0 ∧ File.get 0 s.sys.joins (s.tb / 12800 % 16) ≠ 0) ∧
    (∃ (c : SyncIn) (w : BitVec 128) (s : State), s.sysOn ∧ s.role = roLEADER ∧ s.tb % 12800 = 0 ∧ s.formA (s.tb / 12800 % 16) = w ∧ c.segA = some w ∧
      s.tb / 12800 % 16 ≠ s.ownId ∧ bitOf s.members (s.tb / 12800 % 16) ∧ c.segC = none ∧ s.fld Reg.CLU_SYS_CFG Fld.CLU_SYS_CFG_DEAD_ROUNDS ≤ File.get 0
      s.sys.dead (s.tb / 12800 % 16) + 1) ∧
    (∃ (c : SyncIn) (s : State), s.sysOn ∧ s.role = roLEADER ∧ s.tb % 12800 = 0 ∧ c.segA = none ∧ s.sys.rbA ≠ 0) ∧
    (∃ (s : State), s.sysOn ∧ s.role ≠ roLEADER ∧ s.sys.waiting = false ∧ s.healthy ∧ (bitOf s.members s.ownId ∨ s.sys.heard = false) ∧ s.fld
      Reg.CLU_SYS_CFG Fld.CLU_SYS_CFG_LEAD_TO ≤ s.sys.missed) ∧
    (∃ (s : State), s.sysOn ∧ s.sys.waiting ∧ s.healthy ∧ (s.ownId + 1) * 2 ≤ s.sys.waited) ∧
    (∃ (s : State), s.sysOn ∧ s.role ≠ roLEADER ∧ s.sys.heard ∧ s.sys.fenced = false ∧ s.fld Reg.CLU_SYS_CFG Fld.CLU_SYS_CFG_ISOLATE ≤ s.sys.silent) ∧
    (∃ (s : State), s.cdRun ∧ s.sys.fenced ∧ (s.dev = stSTANDBY ∨ s.dev = stARMED) ∧ (∀ k ∈ s.parClus, s.cstate k = csFENCED ∨ s.cstate k = csOFF) ∧
      s.sys.silent = 0 ∧ s.sys.heard ∧ s.fld Reg.EDG_ALIGN_STAT Fld.EDG_ALIGN_STAT_STATE = 2) ∧
    (∃ (s : State), s.cdRun ∧ s.sys.fenced = false) ∧
    (∃ (s : State), s.sysOn ∧ s.dev = stSTANDBY ∧ s.role ≠ roLEADER ∧ s.sys.heard ∧ s.sys.silent = 0 ∧ s.sys.stepped = false ∧ s.slots.any s.switching
      = false) ∧
    (∃ (s : State), s.sysOn ∧ s.role ≠ roLEADER ∧ s.sys.heard ∧ s.sys.silent = 0 ∧ s.fld Reg.EDG_ALIGN_STAT Fld.EDG_ALIGN_STAT_STATE ≠ 2 ∧ (s.fld
      Reg.EDG_ALIGN_STAT Fld.EDG_ALIGN_STAT_STATE ≠ 0 ∨ s.sys.stepped) ∧ s.since s.sys.alignAt (ms 1)) ∧
    (∃ (e : Int) (s : State), s.sysOn ∧ s.role ≠ roLEADER ∧ (s.fld Reg.EDG_ALIGN_STAT Fld.EDG_ALIGN_STAT_STATE = 1 ∨ s.fld Reg.EDG_ALIGN_STAT
      Fld.EDG_ALIGN_STAT_STATE = 2) ∧ e.natAbs * 100 ≤ s.fld Reg.EDG_ALIGN_CFG Fld.EDG_ALIGN_CFG_LIM * 15625) ∧
    (∃ (e : Int) (s : State), s.sysOn ∧ s.role ≠ roLEADER ∧ (s.fld Reg.EDG_ALIGN_STAT Fld.EDG_ALIGN_STAT_STATE = 1 ∨ s.fld Reg.EDG_ALIGN_STAT
      Fld.EDG_ALIGN_STAT_STATE = 2) ∧ s.fld Reg.EDG_ALIGN_CFG Fld.EDG_ALIGN_CFG_LIM * 15625 < e.natAbs * 100 ∧ s.sys.limAt = none) ∧
    (∃ (e : Int) (x : Nat) (s : State), s.sysOn ∧ s.role ≠ roLEADER ∧ (s.fld Reg.EDG_ALIGN_STAT Fld.EDG_ALIGN_STAT_STATE = 1 ∨ s.fld Reg.EDG_ALIGN_STAT
      Fld.EDG_ALIGN_STAT_STATE = 2) ∧ s.fld Reg.EDG_ALIGN_CFG Fld.EDG_ALIGN_CFG_LIM * 15625 < e.natAbs * 100 ∧ s.sys.limAt = some x ∧ s.since x
      s.lossTime) ∧
    (∃ (s : State), s.sysOn ∧ s.role ≠ roLEADER ∧ (s.fld Reg.EDG_ALIGN_STAT Fld.EDG_ALIGN_STAT_STATE = 1 ∨ s.fld Reg.EDG_ALIGN_STAT
      Fld.EDG_ALIGN_STAT_STATE = 2) ∧ s.lossTime ≤ 12800 * s.sys.silent) :=
  ⟨⟨{ segA := some ((((State.reset.setBit Reg.CLU_SYS_CFG Fld.CLU_SYS_CFG_SYS_EN true).setFld Reg.CLU_SYS_STAT Fld.CLU_SYS_STAT_MODID 1).setNat Reg.CLU_SYS_MEMBERS 10).formA 0), segB := some (formB (⟨true, 1, 2, 3⟩, ⟨true, 4, 5, 6⟩)), segC := none, own := (⟨false, 0, 0, 0⟩, ⟨false, 0, 0, 0⟩), share := (0, 0) }, (((State.reset.setBit Reg.CLU_SYS_CFG Fld.CLU_SYS_CFG_SYS_EN true).setFld Reg.CLU_SYS_STAT Fld.CLU_SYS_STAT_MODID 1).setNat Reg.CLU_SYS_MEMBERS 10).formA 0, ⟨0, 1, 0, 10⟩, formB (⟨true, 1, 2, 3⟩, ⟨true, 4, 5, 6⟩), ⟨true, 1, 2, 3⟩, ⟨true, 4, 5, 6⟩, ((State.reset.setBit Reg.CLU_SYS_CFG Fld.CLU_SYS_CFG_SYS_EN true).setFld Reg.CLU_SYS_STAT Fld.CLU_SYS_STAT_MODID 3), by decide⟩,
    ⟨{ segA := some ((((State.reset.setBit Reg.CLU_SYS_CFG Fld.CLU_SYS_CFG_SYS_EN true).setFld Reg.CLU_SYS_STAT Fld.CLU_SYS_STAT_MODID 1).setNat Reg.CLU_SYS_MEMBERS 10).formA 0), segB := none, segC := none, own := (⟨false, 0, 0, 0⟩, ⟨false, 0, 0, 0⟩), share := (0, 0) }, (((State.reset.setBit Reg.CLU_SYS_CFG Fld.CLU_SYS_CFG_SYS_EN true).setFld Reg.CLU_SYS_STAT Fld.CLU_SYS_STAT_MODID 1).setNat Reg.CLU_SYS_MEMBERS 10).formA 0, ⟨0, 1, 0, 10⟩, { (State.reset.setBit Reg.CLU_SYS_CFG Fld.CLU_SYS_CFG_SYS_EN true).setFld Reg.CLU_SYS_STAT Fld.CLU_SYS_STAT_MODID 5 with sys := { appeared := true } }, by decide⟩,
    ⟨{ segA := none, segB := none, segC := none, own := (⟨false, 0, 0, 0⟩, ⟨false, 0, 0, 0⟩), share := (0, 0) }, ((State.reset.setBit Reg.CLU_SYS_CFG Fld.CLU_SYS_CFG_SYS_EN true).setFld Reg.CLU_SYS_STAT Fld.CLU_SYS_STAT_MODID 3), by decide⟩,
    ⟨{ segA := none, segB := none, segC := some (((State.reset.setBit Reg.CLU_SYS_CFG Fld.CLU_SYS_CFG_SYS_EN true).setFld Reg.CLU_SYS_STAT Fld.CLU_SYS_STAT_MODID 3).formC (0, 0)), own := (⟨false, 0, 0, 0⟩, ⟨false, 0, 0, 0⟩), share := (0, 0) }, ((State.reset.setBit Reg.CLU_SYS_CFG Fld.CLU_SYS_CFG_SYS_EN true).setFld Reg.CLU_SYS_STAT Fld.CLU_SYS_STAT_MODID 3).formC (0, 0), { ((State.reset.setBit Reg.CLU_SYS_CFG Fld.CLU_SYS_CFG_SYS_EN true).setFld Reg.CLU_SYS_STAT Fld.CLU_SYS_STAT_MODID 3) with sys := { cidx := 2 } }, by decide⟩,
    ⟨{ segA := some (({ (((State.reset.setBit Reg.CLU_SYS_CFG Fld.CLU_SYS_CFG_SYS_EN true).setFld Reg.CLU_SYS_STAT Fld.CLU_SYS_STAT_MODID 1).setNat Reg.CLU_SYS_MEMBERS 10).setFld Reg.CLU_SYS_STAT Fld.CLU_SYS_STAT_SSTATE 3 with sys := { heard := true } } : State).formA 0), segB := none, segC := none, own := (⟨true, 1, 2, 3⟩, ⟨true, 4, 5, 6⟩), share := (0, 0) }, ({ (((State.reset.setBit Reg.CLU_SYS_CFG Fld.CLU_SYS_CFG_SYS_EN true).setFld Reg.CLU_SYS_STAT Fld.CLU_SYS_STAT_MODID 1).setNat Reg.CLU_SYS_MEMBERS 10).setFld Reg.CLU_SYS_STAT Fld.CLU_SYS_STAT_SSTATE 3 with sys := { heard := true } } : State).formA 0, { (((State.reset.setBit Reg.CLU_SYS_CFG Fld.CLU_SYS_CFG_SYS_EN true).setFld Reg.CLU_SYS_STAT Fld.CLU_SYS_STAT_MODID 1).setNat Reg.CLU_SYS_MEMBERS 10).setFld Reg.CLU_SYS_STAT Fld.CLU_SYS_STAT_SSTATE 3 with sys := { heard := true } }, by decide⟩,
    ⟨{ segA := some (({ (((State.reset.setBit Reg.CLU_SYS_CFG Fld.CLU_SYS_CFG_SYS_EN true).setFld Reg.CLU_SYS_STAT Fld.CLU_SYS_STAT_MODID 1).setNat Reg.CLU_SYS_MEMBERS 10).setFld Reg.CLU_SYS_STAT Fld.CLU_SYS_STAT_SSTATE 3 with sys := { heard := true, joins := [(4, 1)] }, tb := 12800 * 4 } : State).formA 4), segB := none, segC := some (({ (State.reset.setBit Reg.CLU_SYS_CFG Fld.CLU_SYS_CFG_SYS_EN true).setFld Reg.CLU_SYS_STAT Fld.CLU_SYS_STAT_MODID 4 with sys := { join := true } } : State).formC (0, 0)), own := (⟨false, 0, 0, 0⟩, ⟨false, 0, 0, 0⟩), share := (0, 0) }, ({ (((State.reset.setBit Reg.CLU_SYS_CFG Fld.CLU_SYS_CFG_SYS_EN true).setFld Reg.CLU_SYS_STAT Fld.CLU_SYS_STAT_MODID 1).setNat Reg.CLU_SYS_MEMBERS 10).setFld Reg.CLU_SYS_STAT Fld.CLU_SYS_STAT_SSTATE 3 with sys := { heard := true, joins := [(4, 1)] }, tb := 12800 * 4 } : State).formA 4, ({ (State.reset.setBit Reg.CLU_SYS_CFG Fld.CLU_SYS_CFG_SYS_EN true).setFld Reg.CLU_SYS_STAT Fld.CLU_SYS_STAT_MODID 4 with sys := { join := true } } : State).formC (0, 0), ⟨4, 0, 1, 1⟩, { (((State.reset.setBit Reg.CLU_SYS_CFG Fld.CLU_SYS_CFG_SYS_EN true).setFld Reg.CLU_SYS_STAT Fld.CLU_SYS_STAT_MODID 1).setNat Reg.CLU_SYS_MEMBERS 10).setFld Reg.CLU_SYS_STAT Fld.CLU_SYS_STAT_SSTATE 3 with sys := { heard := true, joins := [(4, 1)] }, tb := 12800 * 4 }, by decide⟩,
    ⟨{ segA := some (({ (((State.reset.setBit Reg.CLU_SYS_CFG Fld.CLU_SYS_CFG_SYS_EN true).setFld Reg.CLU_SYS_STAT Fld.CLU_SYS_STAT_MODID 1).setNat Reg.CLU_SYS_MEMBERS 10).setFld Reg.CLU_SYS_STAT Fld.CLU_SYS_STAT_SSTATE 3 |>.setFld Reg.CLU_SYS_CFG Fld.CLU_SYS_CFG_DEAD_ROUNDS 3 with sys := { heard := true, dead := [(3, 2)] }, tb := 12800 * 3 } : State).formA 3), segB := none, segC := none, own := (⟨false, 0, 0, 0⟩, ⟨false, 0, 0, 0⟩), share := (0, 0) }, ({ (((State.reset.setBit Reg.CLU_SYS_CFG Fld.CLU_SYS_CFG_SYS_EN true).setFld Reg.CLU_SYS_STAT Fld.CLU_SYS_STAT_MODID 1).setNat Reg.CLU_SYS_MEMBERS 10).setFld Reg.CLU_SYS_STAT Fld.CLU_SYS_STAT_SSTATE 3 |>.setFld Reg.CLU_SYS_CFG Fld.CLU_SYS_CFG_DEAD_ROUNDS 3 with sys := { heard := true, dead := [(3, 2)] }, tb := 12800 * 3 } : State).formA 3, { (((State.reset.setBit Reg.CLU_SYS_CFG Fld.CLU_SYS_CFG_SYS_EN true).setFld Reg.CLU_SYS_STAT Fld.CLU_SYS_STAT_MODID 1).setNat Reg.CLU_SYS_MEMBERS 10).setFld Reg.CLU_SYS_STAT Fld.CLU_SYS_STAT_SSTATE 3 |>.setFld Reg.CLU_SYS_CFG Fld.CLU_SYS_CFG_DEAD_ROUNDS 3 with sys := { heard := true, dead := [(3, 2)] }, tb := 12800 * 3 }, by decide⟩,
    ⟨{ segA := none, segB := none, segC := none, own := (⟨false, 0, 0, 0⟩, ⟨false, 0, 0, 0⟩), share := (0, 0) }, { (((State.reset.setBit Reg.CLU_SYS_CFG Fld.CLU_SYS_CFG_SYS_EN true).setFld Reg.CLU_SYS_STAT Fld.CLU_SYS_STAT_MODID 1).setNat Reg.CLU_SYS_MEMBERS 10).setFld Reg.CLU_SYS_STAT Fld.CLU_SYS_STAT_SSTATE 3 with sys := { heard := true, rbA := 1 } }, by decide⟩,
    ⟨{ (State.reset.setBit Reg.CLU_SYS_CFG Fld.CLU_SYS_CFG_SYS_EN true).setDev stSTANDBY with sys := { missed := 300 } }, by decide⟩,
    ⟨{ (State.reset.setBit Reg.CLU_SYS_CFG Fld.CLU_SYS_CFG_SYS_EN true).setDev stSTANDBY with sys := { waiting := true, waited := 300 } }, by decide⟩,
    ⟨{ State.reset.setBit Reg.CLU_SYS_CFG Fld.CLU_SYS_CFG_SYS_EN true with sys := { silent := 3000, heard := true } }, by decide⟩,
    ⟨{ State.reset.setDev stSTANDBY |>.setFld Reg.EDG_ALIGN_STAT Fld.EDG_ALIGN_STAT_STATE 2 with sys := { fenced := true, heard := true } }, by decide⟩,
    ⟨State.reset, by decide⟩,
    ⟨{ (State.reset.setBit Reg.CLU_SYS_CFG Fld.CLU_SYS_CFG_SYS_EN true).setDev stSTANDBY with sys := { heard := true }, tb := 100 }, by decide⟩,
    ⟨{ (State.reset.setBit Reg.CLU_SYS_CFG Fld.CLU_SYS_CFG_SYS_EN true).setFld Reg.EDG_ALIGN_STAT Fld.EDG_ALIGN_STAT_STATE 1 with sys := { heard := true }, now := 400000 }, by decide⟩,
    ⟨0, (State.reset.setBit Reg.CLU_SYS_CFG Fld.CLU_SYS_CFG_SYS_EN true).setFld Reg.EDG_ALIGN_STAT Fld.EDG_ALIGN_STAT_STATE 2, by decide⟩,
    ⟨900000, (State.reset.setBit Reg.CLU_SYS_CFG Fld.CLU_SYS_CFG_SYS_EN true).setFld Reg.EDG_ALIGN_STAT Fld.EDG_ALIGN_STAT_STATE 2, by decide⟩,
    ⟨900000, 0, { (State.reset.setBit Reg.CLU_SYS_CFG Fld.CLU_SYS_CFG_SYS_EN true).setFld Reg.EDG_ALIGN_STAT Fld.EDG_ALIGN_STAT_STATE 2 with sys := { limAt := some 0 }, now := 40000000 }, by decide⟩,
    ⟨{ (State.reset.setBit Reg.CLU_SYS_CFG Fld.CLU_SYS_CFG_SYS_EN true).setFld Reg.EDG_ALIGN_STAT Fld.EDG_ALIGN_STAT_STATE 2 with sys := { silent := 3000 } }, by decide⟩⟩

theorem test_met_charge_engine_completes :
    (∃ (k : Clu) (f : CanFrame) (l : BmuLim) (s : State), s.cdRun ∧ k.val < s.variant.clusters ∧ s.isSdc k.val ∧ s.decodeBmu k.val f.data = some l ∧
      s.bmuOk k.val l) ∧
    (∃ (k : Clu) (f : CanFrame) (s : State), s.cdRun ∧ k.val < s.variant.clusters ∧ s.isSdc k.val ∧ ((s.decodeBmu k.val f.data).all fun l => !s.bmuOk
      k.val l)) ∧
    (∃ (k : Clu) (s : State), s.cdRun ∧ s.isSdc k.val ∧ (s.chg k.val).lim.isSome ∧ (s.chg k.val).silent = false ∧ s.since (s.chg k.val).frameAt (ms
      (s.fld (Reg.CHG_BMS k.val) Fld.CHG_BMS_BMS_TO))) ∧
    (∃ (k : Clu) (s : State), s.cdRun ∧ s.isSdc k.val ∧ (s.chg k.val).lim.isSome ∧ (s.chg k.val).silent = false ∧ s.since (s.chg k.val).frameAt (ms
      (s.fld (Reg.CHG_BMS k.val) Fld.CHG_BMS_BMS_TO)) ∧ s.charging k.val = false ∧ s.cstate k.val ∉ [csSTARTING, csRUN, csPAUSED, csPORT_OPEN]) ∧
    (∃ (who : Party) (k : Clu) (m : Nat) (s : State), s.mayCommand who k.val ∧ s.isSdc k.val ∧ s.charging k.val = false ∧ s.cstate k.val = csRUN ∧
      s.snFb = false ∧ s.bmsValid k.val ∧ ((s.chg k.val).lim.any fun l => l.ichg != 0 && !bitOf l.flags 0) ∧ s.fld (Reg.CHG_CFG k.val)
      Fld.CHG_CFG_PROFILE = m ∧ m ≠ 0) ∧
    (∃ (who : Party) (k : Clu) (s : State), s.mayCommand who k.val ∧ s.isSdc k.val ∧ s.charging k.val) ∧
    (∃ (who : Party) (k : Clu) (s : State), s.mayCommand who k.val ∧ s.isSdc k.val ∧ s.charging k.val) ∧
    (∃ (who : Party) (k : Clu) (s : State), s.mayCommand who k.val ∧ s.isSdc k.val ∧ s.charging k.val = false) ∧
    (∃ (k : Clu) (x : Nat) (s : State), s.cdRun ∧ (s.chg k.val).taperAt = some x ∧ s.estate k.val = 2 ∧ s.since x (secs (s.fld (Reg.CHG_TIMER k.val)
      Fld.CHG_TIMER_T_TAPER)) ∧ s.chargeConds k.val = [0x01]) ∧
    (∃ (k : Clu) (x : Nat) (s : State), s.cdRun ∧ s.charging k.val ∧ (s.chg k.val).winAt = x ∧ s.since x (secs 1)) ∧
    (∃ (k : Clu) (s : State), s.cdRun ∧ s.variant.clusters ≤ k.val) ∧
    (∃ (k : Clu) (s : State), s.cdRun ∧ s.variant.clusters ≤ k.val) ∧
    (∃ (v : Word) (s : State), s.cdRun ∧ v ≠ s.reg Reg.CHG_HB) ∧
    (∃ (v : Word) (s : State), s.cdRun ∧ v = s.reg Reg.CHG_HB) ∧
    (∃ (x : Nat) (s : State), s.cdRun ∧ s.snet.watch = some x ∧ s.since x (ms (100 * s.fld Reg.CHG_SN_CFG Fld.CHG_SN_CFG_SN_TO)) ∧ s.snFb = false) ∧
    (∃ (x : Nat) (s : State), s.cdRun ∧ s.snet.watch = some x ∧ s.since x (ms (100 * s.fld Reg.CHG_SN_CFG Fld.CHG_SN_CFG_SN_TO)) ∧ s.snFb) ∧
    (∃ (x : Nat) (s : State), s.cdRun ∧ s.snFb ∧ s.snet.hbAt = some x ∧ s.snet.fbAt < x ∧ s.now ≤ x + ms (100 * s.fld Reg.CHG_SN_CFG
      Fld.CHG_SN_CFG_SN_TO) ∧ s.hostUp) ∧
    (∃ (s : State), s.cdRun ∧ s.snFb = false) :=
  ⟨⟨0, { id := 0, ide := false, rtr := false, fdf := true, brs := false, esi := false, stamp := 9, dlc := 15, data := (List.range 64).map (BitVec.ofNat 8) }, ((((State.reset).setFld (Reg.CLU_CFG 0) Fld.CLU_CFG_TYPE 3).setFld (Reg.CHG_BMSMAP0 0) Fld.CHG_BMSMAP0_VMAX 10 : State).decodeBmu 0 ((List.range 64).map (BitVec.ofNat 8))).getD ⟨0, 0, 0, 0, 0, 0, 0⟩, ((State.reset).setFld (Reg.CLU_CFG 0) Fld.CLU_CFG_TYPE 3).setFld (Reg.CHG_BMSMAP0 0) Fld.CHG_BMSMAP0_VMAX 10, by decide⟩,
    ⟨0, { id := 0, ide := false, rtr := false, fdf := true, brs := false, esi := false, stamp := 9, dlc := 0, data := [] }, (State.reset).setFld (Reg.CLU_CFG 0) Fld.CLU_CFG_TYPE 3, by decide⟩,
    ⟨0, { ((State.reset).setFld (Reg.CLU_CFG 0) Fld.CLU_CFG_TYPE 3).updChg 0 fun c => { c with lim := some { ichg := 5, idis := 6, vmax := 9, vmin := 1, temp := 0, flags := 0, alive := 0 } } with now := 400000000000 }, by decide⟩,
    ⟨0, { ((State.reset).setFld (Reg.CLU_CFG 0) Fld.CLU_CFG_TYPE 3).updChg 0 fun c => { c with lim := some { ichg := 5, idis := 6, vmax := 9, vmin := 1, temp := 0, flags := 0, alive := 0 } } with now := 400000000000 }, by decide⟩,
    ⟨.host, 0, 1, ((((State.reset).setFld (Reg.CLU_CFG 0) Fld.CLU_CFG_TYPE 3).setFld (Reg.CLU_STAT 0) Fld.CLU_STAT_CSTATE 2).updChg 0 fun c => { c with lim := some { ichg := 5, idis := 6, vmax := 9, vmin := 1, temp := 0, flags := 0, alive := 0 } }).setFld (Reg.CHG_CFG 0) Fld.CHG_CFG_PROFILE 1 |>.setBit Reg.CHG_SN_STAT Fld.CHG_SN_STAT_FB false, by decide⟩,
    ⟨.host, 0, ((State.reset).setFld (Reg.CLU_CFG 0) Fld.CLU_CFG_TYPE 3).setFld (Reg.CHG_STAT 0) Fld.CHG_STAT_ESTATE 1, by decide⟩,
    ⟨.host, 0, ((State.reset).setFld (Reg.CLU_CFG 0) Fld.CLU_CFG_TYPE 3).setFld (Reg.CHG_STAT 0) Fld.CHG_STAT_ESTATE 1, by decide⟩,
    ⟨.host, 0, (State.reset).setFld (Reg.CLU_CFG 0) Fld.CLU_CFG_TYPE 3, by decide⟩,
    ⟨0, 0, { ((((State.reset).setFld (Reg.CLU_CFG 0) Fld.CLU_CFG_TYPE 3).setFld (Reg.CHG_STAT 0) Fld.CHG_STAT_ESTATE 2).setBit Reg.CHG_SN_STAT Fld.CHG_SN_STAT_FB false).updChg 0 fun c => { c with taperAt := some 0 } with now := 4000000000000 }, by decide⟩,
    ⟨0, 0, { ((State.reset).setFld (Reg.CLU_CFG 0) Fld.CLU_CFG_TYPE 3).setFld (Reg.CHG_STAT 0) Fld.CHG_STAT_ESTATE 1 with now := 400000000 }, by decide⟩,
    ⟨6, { State.reset with variant := .v7608 }, by decide⟩,
    ⟨6, { State.reset with variant := .v7608 }, by decide⟩,
    ⟨5, State.reset, by decide⟩,
    ⟨0, State.reset, by decide⟩,
    ⟨0, { State.reset.setBit Reg.CHG_SN_STAT Fld.CHG_SN_STAT_FB false with snet := { watch := some 0 }, now := 4000000000000 }, by decide⟩,
    ⟨0, { State.reset.setBit Reg.CHG_SN_STAT Fld.CHG_SN_STAT_FB true with snet := { watch := some 0 }, now := 4000000000000 }, by decide⟩,
    ⟨5, { (((State.reset.setBit Reg.CHG_SN_STAT Fld.CHG_SN_STAT_FB true).setBit Reg.HIF_STAT Fld.HIF_STAT_LINKUP true).setBit Reg.PWR_SUPSTAT ⟨3, 1⟩ true) with snet := { hbAt := some 5 }, now := 9 }, by decide⟩,
    ⟨State.reset.setBit Reg.CHG_SN_STAT Fld.CHG_SN_STAT_FB false, by decide⟩⟩

theorem test_met_pack_charger_completes :
    (∃ (mv : Nat) (tp : Option Int) (x : Nat) (s : State), s.cdRun ∧ s.hstate = 0 ∧ 1000 ≤ mv ∧ mv ≤ 6400 ∧ tp.isSome ∧ s.pack.seenAt = some x ∧
      s.since x (secs 2)) ∧
    (∃ (mv : Nat) (tp : Option Int) (s : State), s.cdRun ∧ s.hstate = 0 ∧ 1000 ≤ mv ∧ mv ≤ 6400 ∧ tp.isSome ∧ s.pack.seenAt = none) ∧
    (∃ (mv : Nat) (tp : Option Int) (s : State), s.cdRun ∧ s.hstate = 0 ∧ (mv < 1000 ∨ 6400 < mv ∨ tp = none)) ∧
    (∃ (s : State), s.cdRun ∧ s.hstate ≠ 0 ∧ s.since s.pack.winAt (secs 1)) ∧
    (∃ (tp : Option Int) (x : Int) (s : State), s.cdRun ∧ s.hstate ≠ 0 ∧ s.hstate < 6 ∧ s.since s.pack.winAt (secs 1) ∧ tp = some x ∧ 550 < x) ∧
    (∃ (h : Nat) (s : State), s.cdRun ∧ (if s.hstate = 5 then s.pack.left else s.hstate) = h ∧ (h = 2 ∨ h = 3) ∧ s.since s.pack.phaseAt (secs (if h = 2
      then 1800 else s.packFastLimit))) ∧
    (∃ (x : Nat) (s : State), s.cdRun ∧ s.pack.coolAt = some x ∧ s.hstate = 5 ∧ s.since x (secs 60) ∧ s.pack.left < 8) ∧
    (∃ (s : State), s.cdRun ∧ s.packCharging = false ∧ s.since s.pack.probeAt (secs 1)) ∧
    (∃ (s : State), s.cdRun ∧ s.hstate ≠ 0 ∧ (s.packCharging ∨ s.now ≤ s.pack.probeAt + ms 1)) ∧
    (∃ (s : State), s.cdRun ∧ s.hstate ≠ 0 ∧ s.since s.pack.dayAt (secs 86400)) ∧
    (∃ (s : State), s.cdRun ∧ s.hstate = 6 ∧ s.packMv ≤ 6400) ∧
    (∃ (s : State), s.cdRun ∧ s.hstate ≠ 6) ∧
    (∃ (s : State), s.cdRun ∧ s.hstate = 4) ∧
    (∃ (s : State), s.cdRun ∧ s.hstate ≠ 4) :=
  ⟨⟨5000, some 250, 0, { State.reset with pack := { seenAt := some 0 }, now := 800000000 }, by decide⟩,
    ⟨5000, some 250, State.reset, by decide⟩,
    ⟨0, none, State.reset, by decide⟩,
    ⟨{ State.reset.setFld Reg.PWR_HU_STAT Fld.PWR_HU_STAT_HSTATE 3 with now := 400000000 }, by decide⟩,
    ⟨some 600, 600, { State.reset.setFld Reg.PWR_HU_STAT Fld.PWR_HU_STAT_HSTATE 3 with now := 400000000 }, by decide⟩,
    ⟨3, { State.reset.setFld Reg.PWR_HU_STAT Fld.PWR_HU_STAT_HSTATE 3 with now := 40000000000000 }, by decide⟩,
    ⟨0, { State.reset.setFld Reg.PWR_HU_STAT Fld.PWR_HU_STAT_HSTATE 5 with now := 40000000000000, pack := { coolAt := some 0, left := 3 } }, by decide⟩,
    ⟨{ State.reset with now := 400000000 }, by decide⟩,
    ⟨State.reset.setFld Reg.PWR_HU_STAT Fld.PWR_HU_STAT_HSTATE 3, by decide⟩,
    ⟨{ State.reset.setFld Reg.PWR_HU_STAT Fld.PWR_HU_STAT_HSTATE 4 with now := 40000000000000, pack := { q := 999999 } }, by decide⟩,
    ⟨State.reset.setFld Reg.PWR_HU_STAT Fld.PWR_HU_STAT_HSTATE 6, by decide⟩,
    ⟨State.reset, by decide⟩,
    ⟨State.reset.setFld Reg.PWR_HU_STAT Fld.PWR_HU_STAT_HSTATE 4, by decide⟩,
    ⟨State.reset, by decide⟩⟩

theorem test_met_ledger_and_measurement_complete :
    (∃ (g : Rgn) (s : State), s.mdRun ∧ g.val < s.variant.regions ∧ s.ldgOn g.val ∧ (s.ldg g.val).endAt ≤ s.tb ∧ (s.ldg g.val).outAt = none ∧ (s.ldg
      g.val).held.length < 64 ∧ ((s.ldg g.val).held.all fun h => h.close != s.tb)) ∧
    (∃ (g : Rgn) (x : Nat) (s : State), s.mdRun ∧ g.val < s.variant.regions ∧ s.ldgOn g.val ∧ (s.ldg g.val).endAt ≤ s.tb ∧ (s.ldg g.val).outAt = some x
      ∧ (s.ldg g.val).held.length < 64 ∧ ((s.ldg g.val).held.all fun h => h.close != s.tb)) ∧
    (∃ (g : Rgn) (h : HeldRec) (l : List HeldRec) (s : State), s.mdRun ∧ g.val < s.variant.regions ∧ s.ldgOn g.val ∧ (s.ldg g.val).endAt ≤ s.tb ∧
      (s.ldg g.val).outAt = none ∧ (s.ldg g.val).held = l ++ [h] ∧ l.length = 63 ∧ h.close ≠ s.tb ∧ h.jrec.kind ≠ 8) ∧
    (∃ (g : Rgn) (h : HeldRec) (l : List HeldRec) (s : State), s.cdRun ∧ g.val < s.variant.regions ∧ (s.ldg g.val).held = h :: l ∧ s.writable 0 ∧
      h.jrec.kind ≠ 8) ∧
    (∃ (g : Rgn) (h : HeldRec) (l : List HeldRec) (s : State), s.cdRun ∧ g.val < s.variant.regions ∧ (s.ldg g.val).held = h :: l ∧ h.counted = false ∧
      s.writable 0 = false) ∧
    (∃ (s : State), s.mdRun ∧ s.clockOut 4 = false ∧ s.meas.pmStamp + 199999 ≤ s.tbFine) ∧
    (∃ (p : Pair) (x y : Int) (l : List SarCode) (t0 q : Nat) (b : Bool) (s : State), s.mdRun ∧ s.clockOut 2 = false ∧ s.cmdWait = none ∧ File.get 0
      s.meas.scanAt p.val = t0 ∧ s.meas.lowScan.contains p.val = b ∧ s.pairP p.val t0 b = q ∧ t0 + q ≤ s.tb ∧ ((s.pairInputs p.val t0 b).all fun i =>
      l.any fun c => c.input.val == i && Nat.ble (s.navg i t0) c.xs.length) ∧ (s.xcCode (2 * p.val) x - s.xcCode (2 * p.val + 1) y).natAbs ≤
      Fld.MEAS_XC_CFG_XC_TOL.get (s.measReg (Reg.MEAS_XC_CFG p.val) (t0 + ((s.tb - t0) / max q 1 - 1) * q))) ∧
    (∃ (p : Pair) (s : State), s.mdRun ∧ s.meas.faulted.contains p.val ∧ s.usersIdle (pairSrcs p.val)) ∧
    (∃ (p : Pair) (s : State), s.mdRun ∧ s.meas.faulted.contains p.val = false) ∧
    (∃ (p : Pair) (m : Nat) (s : State), s.mdRun ∧ File.get none s.meas.pairChk p.val = some (m, false) ∧ 64 ≤ m) ∧
    (∃ (p : Pair) (m : Nat) (s : State), s.mdRun ∧ File.get none s.meas.pairChk p.val = some (m, true) ∧ 64 ≤ m) ∧
    (∃ (i : ModIn) (f : Nat) (cal : Word) (s : State), s.mdRun ∧ s.modOn i.val ∧ Fld.MEAS_MOD_FSD_FSD.get (s.measReg (Reg.MEAS_MOD_FSD i.val)
      (s.sincBegin i.val)) = f ∧ f ≠ 0 ∧ s.measReg (Reg.MEAS_MOD_UCAL i.val) (s.sincBegin i.val) = cal) ∧
    (∃ (i : ModIn) (s : State), s.mdRun ∧ s.modOn i.val ∧ Fld.MEAS_MOD_FSD_FSD.get (s.measReg (Reg.MEAS_MOD_FSD i.val) (s.sincBegin i.val)) = 0) ∧
    (∃ (i : ModIn) (s : State), s.mdRun ∧ s.modOn i.val) ∧
    (∃ (i : ModIn) (s : State), s.mdRun ∧ s.invalid (.mod i) ∧ s.usersIdle [.mod i]) ∧
    (∃ (i : ModIn) (s : State), s.mdRun ∧ s.invalid (.mod i) = false) ∧
    (∃ (i : ModIn) (s : State), s.mdRun ∧ s.meas.inChk.contains i.val) ∧
    (∃ (i : ModIn) (s : State), s.mdRun ∧ s.meas.inChk.contains i.val) ∧
    (∃ (d : Int) (s : State), s.mdRun ∧ s.since s.meas.refAt (ms 10) ∧ d.natAbs ≤ 1000) ∧
    (∃ (d : Int) (s : State), s.mdRun ∧ s.since s.meas.refAt (ms 10) ∧ 1000 < d.natAbs) :=
  ⟨⟨0, { State.reset.setFld (Reg.LDG_CFG 0) Fld.LDG_CFG_EN 1 with tb := 400000001 }, by decide⟩,
    ⟨0, 5, { (State.reset.setFld (Reg.LDG_CFG 0) Fld.LDG_CFG_EN 1).updLdg 0 fun l => { l with outAt := some 5 } with tb := 400000001 }, by decide⟩,
    ⟨0, { counted := true, close := 5, early := [], acct := none, peakI := [], peakV := 0, jrec := { kind := 1, region := 0, tags := 0, ivl := 7, t1 := 0, t2 := 0, ptps := 0, ptpn := 0, v2 := 0, cnts := [], gapQ := [], gapE := [], first := 0 } }, List.replicate 63 { counted := true, close := 5, early := [], acct := none, peakI := [], peakV := 0, jrec := { kind := 1, region := 0, tags := 0, ivl := 7, t1 := 0, t2 := 0, ptps := 0, ptpn := 0, v2 := 0, cnts := [], gapQ := [], gapE := [], first := 0 } }, { (State.reset.setFld (Reg.LDG_CFG 0) Fld.LDG_CFG_EN 1).updLdg 0 fun l => { l with held := List.replicate 64 { counted := true, close := 5, early := [], acct := none, peakI := [], peakV := 0, jrec := { kind := 1, region := 0, tags := 0, ivl := 7, t1 := 0, t2 := 0, ptps := 0, ptpn := 0, v2 := 0, cnts := [], gapQ := [], gapE := [], first := 0 } } } with tb := 400000001 }, by decide⟩,
    ⟨0, { counted := false, close := 5, early := [], acct := none, peakI := [], peakV := 0, jrec := { kind := 1, region := 0, tags := 0, ivl := 7, t1 := 0, t2 := 0, ptps := 0, ptpn := 0, v2 := 0, cnts := [], gapQ := [], gapE := [], first := 0 } }, [], State.reset.updLdg 0 fun l => { l with held := [{ counted := false, close := 5, early := [], acct := none, peakI := [], peakV := 0, jrec := { kind := 1, region := 0, tags := 0, ivl := 7, t1 := 0, t2 := 0, ptps := 0, ptpn := 0, v2 := 0, cnts := [], gapQ := [], gapE := [], first := 0 } }] }, by decide⟩,
    ⟨0, { counted := false, close := 5, early := [], acct := none, peakI := [], peakV := 0, jrec := { kind := 1, region := 0, tags := 0, ivl := 7, t1 := 0, t2 := 0, ptps := 0, ptpn := 0, v2 := 0, cnts := [], gapQ := [], gapE := [], first := 0 } }, [], { State.reset.updLdg 0 fun l => { l with held := [{ counted := false, close := 5, early := [], acct := none, peakI := [], peakV := 0, jrec := { kind := 1, region := 0, tags := 0, ivl := 7, t1 := 0, t2 := 0, ptps := 0, ptpn := 0, v2 := 0, cnts := [], gapQ := [], gapE := [], first := 0 } }] } with power := { State.reset.power with storeHeld := true } }, by decide⟩,
    ⟨{ State.reset.setFld (Reg.MEAS_PM_CFG 2) Fld.MEAS_PM_CFG_EN 1 with tb := 1000000 }, by decide⟩,
    ⟨0, 5, 6, [], 0, 20, false, { ((State.reset.setNat (Reg.MEAS_SAR_MASK 0) 0).setNat (Reg.MEAS_SAR_MASK 1) 0).setNat (Reg.MEAS_XC_CFG 0) 0xFFFFFFFF with tb := 100 }, by decide⟩,
    ⟨1, { State.reset with meas := { faulted := [1] } }, by decide⟩,
    ⟨1, State.reset, by decide⟩,
    ⟨1, 64, { (State.reset.setNat Reg.MEAS_INVAL_SAR0 0xFFFFFFFF) with meas := { faulted := [1], pairChk := [(1, some (64, false))] } }, by decide⟩,
    ⟨1, 64, { State.reset with meas := { faulted := [1], pairChk := [(1, some (64, true))] } }, by decide⟩,
    ⟨7, Fld.MEAS_MOD_FSD_FSD.get (State.reset.reg (Reg.MEAS_MOD_FSD 7)), 0, (State.reset.setFld (Reg.MEAS_MOD_CFG 7) Fld.MEAS_MOD_CFG_EN 1).setFld (Reg.MEAS_MCLK 1) Fld.MEAS_MCLK_EN 1 |>.setFld Reg.PWR_SUPSTAT ⟨7, 1⟩ 1, by decide⟩,
    ⟨7, ((State.reset.setFld (Reg.MEAS_MOD_CFG 7) Fld.MEAS_MOD_CFG_EN 1).setFld (Reg.MEAS_MCLK 1) Fld.MEAS_MCLK_EN 1 |>.setFld Reg.PWR_SUPSTAT ⟨7, 1⟩ 1).setNat (Reg.MEAS_MOD_FSD 7) 0, by decide⟩,
    ⟨7, (State.reset.setFld (Reg.MEAS_MOD_CFG 7) Fld.MEAS_MOD_CFG_EN 1).setFld (Reg.MEAS_MCLK 1) Fld.MEAS_MCLK_EN 1 |>.setFld Reg.PWR_SUPSTAT ⟨7, 1⟩ 1, by decide⟩,
    ⟨7, State.reset.setNat Reg.MEAS_INVAL_MOD 0x80, by decide⟩,
    ⟨7, State.reset, by decide⟩,
    ⟨7, { State.reset.setNat Reg.MEAS_INVAL_MOD 0x80 with meas := { inChk := [7] } }, by decide⟩,
    ⟨7, { State.reset.setNat Reg.MEAS_INVAL_MOD 0x80 with meas := { inChk := [7] } }, by decide⟩,
    ⟨-1000, { State.reset with now := 4000000 }, by decide⟩,
    ⟨-1001, { State.reset with now := 4000000 }, by decide⟩⟩

theorem test_met_thermal_completes :
    (∃ (s : State), s.cdRun ∧ s.since s.thm.readAt (ms 1)) ∧
    (∃ (l : Nat) (s : State), s.cdRun ∧ (l < s.variant.slots ∨ 0x18 ≤ l ∧ l ≤ 0x21)) ∧
    (∃ (x : Nat) (s : State), s.cdRun ∧ s.thm.coolAt = some x ∧ s.bit Reg.THM_STAT Fld.THM_STAT_HWSD ∧ s.variant ≠ .v7624 ∧ s.since x 4000000000) :=
  ⟨⟨{ State.reset with now := 400000 }, by decide⟩,
    ⟨3, State.reset, by decide⟩,
    ⟨0, { State.reset.setBit Reg.THM_STAT Fld.THM_STAT_HWSD true with thm := { coolAt := some 0 }, now := 4000000000, variant := .v7608 }, by decide⟩⟩

theorem test_met_regulators_complete :
    (∃ (c : Sys2Proof.Svr) (s : State), s.cdRun ∧ s.bit (Reg.SVR_CTRL c.val) Fld.SVR_CTRL_EN = false ∧ s.dev ≠ stBOOT ∧ s.dev ≠ stLOCKOUT ∧ s.vioOk 3 ∧
      s.svrEnableOk c.val) ∧
    (∃ (c : Sys2Proof.Svr) (s : State), s.cdRun ∧ s.bit (Reg.SVR_CTRL c.val) Fld.SVR_CTRL_EN = false ∧ s.dev ≠ stBOOT ∧ s.dev ≠ stLOCKOUT ∧ s.vioOk 3 ∧
      s.svrEnableOk c.val = false) ∧
    (∃ (s : State), s.cdRun) ∧
    (∃ (c : Sys2Proof.Svr) (i : SvrIn) (q : Nat) (s : State), s.cdRun ∧ s.svrSwitching c.val ∧ s.since (s.svr c.val).perAt (s.svr c.val).period ∧
      ((i.imon.take (s.fld (Reg.SVR_STAT c.val) Fld.SVR_STAT_NACT)).map fun x => x * s.fld (Reg.SVR_ILIM c.val) Fld.SVR_ILIM_GAIN).foldl (· + ·) 0 = q) ∧
    (∃ (c : Sys2Proof.Svr) (s : State), s.cdRun ∧ s.svrState c.val = svHICCUP ∧ s.since (s.svr c.val).hicAt (ms (s.fld (Reg.SVR_HICCUP c.val)
      Fld.SVR_HICCUP_OFF + 1))) ∧
    (∃ (c : Sys2Proof.Svr) (s : State), s.cdRun ∧ s.svrState c.val = svSOFTSTART ∧ s.since (s.svr c.val).ssAt (s.svrSsTicks c.val + ms 2)) ∧
    (∃ (c : Sys2Proof.Svr) (s : State), s.cdRun ∧ s.svrState c.val = svRUN ∧ s.since (s.svr c.val).runAt (secs 1)) ∧
    (∃ (c : Sys2Proof.Svr) (s : State), s.cdRun ∧ s.svrState c.val ≠ svOFF ∧ s.svrState c.val ≠ svOV_LATCH) ∧
    (∃ (s : State), s.cdRun ∧ s.vioOk 3) ∧
    (∃ (c : Sys2Proof.Svr) (q f : Nat) (s : State), s.cdRun ∧ s.vioOk 3 ∧ bitOf s.power.clkLost 13 = false ∧ s.bit (Reg.SVR_CTRL c.val)
      Fld.SVR_CTRL_SYNC_EN ∧ 200 ≤ q ∧ q ≤ 2000 ∧ s.fld (Reg.SVR_FSW c.val) Fld.SVR_FSW_FSW = f ∧ 80 * f * q ≤ 40000000 ∧ 40000000 ≤ 120 * f * q) ∧
    (∃ (c : Sys2Proof.Svr) (s : State), s.cdRun ∧ s.bit (Reg.SVR_STAT c.val) Fld.SVR_STAT_SYNCED) ∧
    (∃ (c : Sys2Proof.Svr) (x m : Nat) (s : State), s.cdRun ∧ s.svrState c.val = svRUN ∧ (s.svr c.val).dropAt = some x ∧ s.since x (ms (s.fld
      (Reg.SVR_SHED1 c.val) Fld.SVR_SHED1_DWELL)) ∧ s.fld (Reg.SVR_STAT c.val) Fld.SVR_STAT_NACT = m) ∧
    (∃ (c : Sys2Proof.Svr) (x m : Nat) (s : State), s.cdRun ∧ s.svrState c.val = svRUN ∧ (s.svr c.val).dropAt = none ∧ (s.svr c.val).addAt = some x ∧
      s.since x (ms (s.fld (Reg.SVR_SHED1 c.val) Fld.SVR_SHED1_DWELL)) ∧ s.fld (Reg.SVR_STAT c.val) Fld.SVR_STAT_NACT = m ∧ m < 4) :=
  ⟨⟨1, ((((((State.reset.setDev stCONFIG).setBit Reg.PWR_SUPSTAT ⟨6, 1⟩ true).setFld (Reg.SVR_VREF 1) Fld.SVR_VREF_VREF 300).setFld (Reg.SVR_ILIM 1) Fld.SVR_ILIM_GAIN 5).setFld (Reg.SVR_ILIM 1) Fld.SVR_ILIM_ILIM 5).setFld (Reg.SVR_FSW 1) Fld.SVR_FSW_FSW 1000).setFld (Reg.SVR_OVP 1) Fld.SVR_OVP_OV 10, by decide⟩,
    ⟨1, (State.reset.setDev stCONFIG).setBit Reg.PWR_SUPSTAT ⟨6, 1⟩ true, by decide⟩,
    ⟨State.reset, by decide⟩,
    ⟨1, ⟨500, [1, 2, 3, 4]⟩, 0, (State.reset).setFld (Reg.SVR_STAT 1) Fld.SVR_STAT_STATE 2, by decide⟩,
    ⟨1, { (State.reset).setFld (Reg.SVR_STAT 1) Fld.SVR_STAT_STATE 3 with now := 4000000000 }, by decide⟩,
    ⟨1, { (State.reset).setFld (Reg.SVR_STAT 1) Fld.SVR_STAT_STATE 1 with now := 4000000000 }, by decide⟩,
    ⟨1, { (State.reset).setFld (Reg.SVR_STAT 1) Fld.SVR_STAT_STATE 2 with now := 4000000000 }, by decide⟩,
    ⟨1, (State.reset).setFld (Reg.SVR_STAT 1) Fld.SVR_STAT_STATE 2, by decide⟩,
    ⟨((State.reset).setFld (Reg.SVR_STAT 1) Fld.SVR_STAT_STATE 2).setFld Reg.PWR_SUPSTAT ⟨6, 1⟩ 1, by decide⟩,
    ⟨1, 400, 1000, ((State.reset.setFld (Reg.SVR_FSW 1) Fld.SVR_FSW_FSW 1000).setBit (Reg.SVR_CTRL 1) Fld.SVR_CTRL_SYNC_EN true).setFld Reg.PWR_SUPSTAT ⟨6, 1⟩ 1, by decide⟩,
    ⟨1, State.reset.setBit (Reg.SVR_STAT 1) Fld.SVR_STAT_SYNCED true, by decide⟩,
    ⟨1, 0, 0, { ((State.reset).setFld (Reg.SVR_STAT 1) Fld.SVR_STAT_STATE 2).updSvr 1 fun r => { r with dropAt := some 0 } with now := 4000000000 }, by decide⟩,
    ⟨1, 0, 0, { ((State.reset).setFld (Reg.SVR_STAT 1) Fld.SVR_STAT_STATE 2).updSvr 1 fun r => { r with addAt := some 0 } with now := 4000000000 }, by decide⟩⟩

theorem test_met_drives_and_feedback_complete :
    (∃ (i : AuxD) (s : State), s.cdRun ∧ s.bit (Reg.AUXD_CTRL i.val) Fld.AUXD_CTRL_EN = false ∧ s.dev ≠ stBOOT ∧ s.dev ≠ stLOCKOUT ∧ s.vioOk 5 ∧
      s.auxEnableOk i.val) ∧
    (∃ (i : AuxD) (s : State), s.cdRun ∧ s.bit (Reg.AUXD_CTRL i.val) Fld.AUXD_CTRL_EN = false ∧ s.dev ≠ stBOOT ∧ s.dev ≠ stLOCKOUT ∧ s.vioOk 5 ∧
      s.auxEnableOk i.val = false) ∧
    (∃ (s : State), s.cdRun) ∧
    (∃ (s : State), s.cdRun) ∧
    (∃ (i : AuxD) (z : Nat) (s : State), s.cdRun ∧ s.tb / max (2 * s.fld (Reg.AUXD_PWM i.val) Fld.AUXD_PWM_PT) 1 * max (2 * s.fld (Reg.AUXD_PWM i.val)
      Fld.AUXD_PWM_PT) 1 = z ∧ (s.aux i.val).zero ≠ some z) ∧
    (∃ (s : State), s.cdRun ∧ s.vioOk 5) ∧
    (∃ (i : AuxD) (s : State), s.cdRun ∧ s.auxState i.val = axRUN) ∧
    (∃ (i : AuxD) (s : State), s.cdRun ∧ s.auxState i.val = axRUN) ∧
    (∃ (i : AuxD) (p : Fin 3) (s : State), s.cdRun ∧ s.auxState i.val = axRUN ∧ s.bit (Reg.AUXD_STAT i.val) (bstBit p.val) = false) ∧
    (∃ (i : AuxD) (p : Fin 3) (s : State), s.cdRun ∧ s.bit (Reg.AUXD_STAT i.val) (bstBit p.val) ∧ s.since ((s.aux i.val).bstAt.getD p.val 0) (2 * s.fld
      (Reg.AUXD_PWM i.val) Fld.AUXD_PWM_PT)) ∧
    (∃ (i : AuxD) (v : Nat) (b : Bool) (s : State), s.cdRun ∧ (Nat.blt v (100 * s.fld (Reg.AUXD_VM i.val) Fld.AUXD_VM_VM_UV) || Nat.blt (100 * s.fld
      (Reg.AUXD_VM i.val) Fld.AUXD_VM_VM_OV) v) = b) ∧
    (∃ (i : AuxD) (x : Nat) (s : State), s.cdRun ∧ s.auxState i.val = axVMHOLD ∧ (s.aux i.val).vmAt = some x ∧ s.since x (ms 10)) ∧
    (∃ (i : FbI) (e : FbIn) (d : Int) (u v w : Bool) (s : State), s.cdRun ∧ s.vioOk 5 ∧ s.reg (Reg.FB_STEP i.val) = 0 ∧ s.fld (Reg.FB_CFG i.val)
      Fld.FB_CFG_KIND = 1 ∧ (s.fb i.val).lines = [u, v, w] ∧ (if s.bit (Reg.FB_CFG i.val) Fld.FB_CFG_DIRINV then -quadStep u v e.a e.b else quadStep u v
      e.a e.b) = d) ∧
    (∃ (i : FbI) (s : State), s.cdRun ∧ s.fld (Reg.FB_CFG i.val) Fld.FB_CFG_KIND ≠ 0 ∧ s.since (s.fb i.val).obsAt 4000) ∧
    (∃ (i : FbI) (v : Word) (s : State), s.cdRun ∧ s.locked = false ∧ s.fld (Reg.FB_CFG i.val) Fld.FB_CFG_KIND = 0 ∧ (Fld.FB_CFG_KIND.get v = 1 ∨
      Fld.FB_CFG_KIND.get v = 2)) ∧
    (∃ (v : Word) (s : State), s.cdRun ∧ s.locked = false ∧ Fld.FB_CFG_KIND.get v = 0) :=
  ⟨⟨1, ((((((State.reset.setDev stCONFIG).setBit Reg.PWR_SUPSTAT ⟨8, 1⟩ true).setFld (Reg.AUXD_PWM 1) Fld.AUXD_PWM_PT 5000).setFld (Reg.AUXD_PWM 1) Fld.AUXD_PWM_DT 50).setFld (Reg.AUXD_ILIM 1) Fld.AUXD_ILIM_GAIN 5).setFld (Reg.AUXD_ILIM 1) Fld.AUXD_ILIM_ILIM 5).setFld (Reg.AUXD_ILIM 1) Fld.AUXD_ILIM_TRIP 9 |>.setFld (Reg.AUXD_VM 1) Fld.AUXD_VM_VM_UV 5 |>.setFld (Reg.AUXD_VM 1) Fld.AUXD_VM_VM_OV 20, by decide⟩,
    ⟨1, (State.reset.setDev stCONFIG).setBit Reg.PWR_SUPSTAT ⟨8, 1⟩ true, by decide⟩,
    ⟨State.reset, by decide⟩,
    ⟨State.reset, by decide⟩,
    ⟨1, 0, State.reset.updAux 1 fun x => { x with stop := true }, by decide⟩,
    ⟨(State.reset).setFld Reg.PWR_SUPSTAT ⟨8, 1⟩ 1, by decide⟩,
    ⟨1, (State.reset).setFld (Reg.AUXD_STAT 1) Fld.AUXD_STAT_STATE 1, by decide⟩,
    ⟨1, (State.reset).setFld (Reg.AUXD_STAT 1) Fld.AUXD_STAT_STATE 1, by decide⟩,
    ⟨1, 2, (State.reset).setFld (Reg.AUXD_STAT 1) Fld.AUXD_STAT_STATE 1, by decide⟩,
    ⟨1, 2, { State.reset.setBit (Reg.AUXD_STAT 1) (bstBit 2) true with now := 400000 }, by decide⟩,
    ⟨1, 70000, true, (State.reset).setFld (Reg.AUXD_STAT 1) Fld.AUXD_STAT_STATE 1, by decide⟩,
    ⟨1, 0, { ((State.reset).setFld (Reg.AUXD_STAT 1) Fld.AUXD_STAT_STATE 2).updAux 1 fun x => { x with vmAt := some 0 } with now := 4000000 }, by decide⟩,
    ⟨1, ⟨true, false, false, 9⟩, 1, false, false, false, ((((State.reset).setFld Reg.PWR_SUPSTAT ⟨8, 1⟩ 1).setFld (Reg.FB_CFG 1) Fld.FB_CFG_KIND 1).setReg (Reg.FB_STEP 1) 0).updFb 1 fun f => { f with lines := [false, false, false] }, by decide⟩,
    ⟨1, { State.reset.setFld (Reg.FB_CFG 1) Fld.FB_CFG_KIND 1 with now := 4000 }, by decide⟩,
    ⟨1, 0xFFFFFFFD, State.reset, by decide⟩,
    ⟨0xFFFFFFFC, State.reset.setFld (Reg.FB_CFG 1) Fld.FB_CFG_KIND 1, by decide⟩⟩

theorem test_met_triplets_complete :
    (∃ (i : Trip) (c : Fin 3) (x : TripTx) (s : State), s.cdRun ∧ (s.trip i.val).runs ∧ (s.trip i.val).halted = false ∧ (s.trip i.val).stores = [] ∧
      bitOf (s.fld (Reg.TRP_STAT i.val) Fld.TRP_STAT_RETIRED) c.val = false ∧ (x.epoch ≠ s.trpEpoch i.val ∨ bitOf (s.trpOut i.val) c.val)) ∧
    (∃ (i : Trip) (c : Fin 3) (x : TripTx) (s : State), s.cdRun ∧ (s.trip i.val).runs ∧ (s.trip i.val).halted = false ∧ (s.trip i.val).stores = [] ∧
      s.trpOut i.val = 0 ∧ s.bit (Reg.TRP_STAT i.val) Fld.TRP_STAT_SPLIT = false ∧ x.epoch = s.trpEpoch i.val ∧ (s.trip i.val).present = [] ∧ (s.trip
      i.val).rel ≤ x.index ∧ x.index = (s.trip i.val).last.getD c.val 0 ∧ (s.trip i.val).rel < 64) ∧
    (∃ (i : Trip) (c d : Fin 3) (x : TripTx) (s : State), s.cdRun ∧ (s.trip i.val).runs ∧ (s.trip i.val).halted = false ∧ (s.trip i.val).stores = [] ∧
      s.trpOut i.val = 0 ∧ s.bit (Reg.TRP_STAT i.val) Fld.TRP_STAT_SPLIT = false ∧ x.epoch = s.trpEpoch i.val ∧ c ≠ d ∧ (s.trip i.val).present =
      [(d.val, x)] ∧ x.index = (s.trip i.val).rel ∧ x.index = (s.trip i.val).last.getD c.val 0 ∧ (s.trip i.val).rel < 60 ∧ x.sig = false ∧ x.fields.kind
      ≠ 1 ∧ x.fields.kind ≠ 2) ∧
    (∃ (i : Trip) (c : Fin 3) (x : TripTx) (s : State), s.cdRun ∧ (s.trip i.val).runs ∧ (s.trip i.val).halted = false ∧ (s.trip i.val).stores = [] ∧
      bitOf (s.trpOut i.val) c.val = false ∧ s.bit (Reg.TRP_STAT i.val) Fld.TRP_STAT_SPLIT ∧ x.epoch = s.trpEpoch i.val ∧ x.sig) ∧
    (∃ (i : Trip) (s : State), s.cdRun ∧ (s.trip i.val).halted) ∧
    (∃ (i : Trip) (c : Fin 3) (s : State), s.cdRun ∧ s.trpOut i.val = 0 ∧ ((s.trip i.val).fences.filter fun f => f.1 == c.val && Nat.blt s.now (f.2 +
      3600 * 1000 * ms 1)).length < s.fld (Reg.TRP_CFG i.val) Fld.TRP_CFG_RESYNC_LIM ∧ (s.trip i.val).diffAt = none ∧ ((s.trip i.val).waits.any fun w =>
      w.lagging.contains c.val && s.since w.time (s.fld (Reg.TRP_CFG i.val) Fld.TRP_CFG_LAG_TO))) ∧
    (∃ (s : State), s.cdRun ∧ s.events = []) ∧
    (∃ (i : Trip) (c : Fin 3) (s : State), s.cdRun ∧ s.trpOut i.val = 0 ∧ ((s.trip i.val).fences.filter fun f => f.1 == c.val && Nat.blt s.now (f.2 +
      3600 * 1000 * ms 1)).length < s.fld (Reg.TRP_CFG i.val) Fld.TRP_CFG_RESYNC_LIM) ∧
    (∃ (i : Trip) (c : Fin 3) (s : State), s.cdRun ∧ bitOf (s.fld (Reg.TRP_STAT i.val) Fld.TRP_STAT_RETIRED) c.val = false) ∧
    (∃ (i : Trip) (s : State), s.cdRun ∧ (s.fld (Reg.TRP_STAT i.val) Fld.TRP_STAT_RSSTEP = 1 ∨ s.fld (Reg.TRP_STAT i.val) Fld.TRP_STAT_RSSTEP = 2 ∨
      s.fld (Reg.TRP_STAT i.val) Fld.TRP_STAT_RSSTEP = 3)) ∧
    (∃ (i : Trip) (s : State), s.cdRun ∧ (s.fld (Reg.TRP_STAT i.val) Fld.TRP_STAT_RSSTEP = 4 ∨ s.fld (Reg.TRP_STAT i.val) Fld.TRP_STAT_RSSTEP = 5)) ∧
    (∃ (i : Trip) (c : Fin 4) (s : State), s.cdRun ∧ s.dev = stSTANDBY ∧ s.trpMode i.val = 0 ∧ c.val < 3 ∧ s.trpOut i.val = 0 ∧ ((s.trip
      i.val).fences.filter fun f => f.1 == c.val && Nat.blt s.now (f.2 + 3600 * 1000 * ms 1)).length < s.fld (Reg.TRP_CFG i.val) Fld.TRP_CFG_RESYNC_LIM) :=
  ⟨⟨0, 1, ⟨0, 77, ⟨5, 0x70, 4, 15, 9, 0, 0⟩, false, 0⟩, State.reset.updTrip 0 fun r => { r with runs := true }, by decide⟩,
    ⟨0, 1, ⟨0, 0, ⟨5, 0x70, 4, 15, 9, 0, 0⟩, false, 0⟩, State.reset.updTrip 0 fun r => { r with runs := true }, by decide⟩,
    ⟨0, 1, 2, ⟨0, 0, ⟨5, 0x70, 4, 15, 9, 0, 0⟩, false, 0⟩, State.reset.updTrip 0 fun r => { r with runs := true, present := [(2, ⟨0, 0, ⟨5, 0x70, 4, 15, 9, 0, 0⟩, false, 0⟩)] }, by decide⟩,
    ⟨0, 1, ⟨0, 0, ⟨5, 0x70, 4, 15, 9, 0, 0⟩, true, 0⟩, (State.reset.updTrip 0 fun r => { r with runs := true }).setBit (Reg.TRP_STAT 0) Fld.TRP_STAT_SPLIT true, by decide⟩,
    ⟨0, State.reset.updTrip 0 fun r => { r with runs := true, halted := true }, by decide⟩,
    ⟨0, 1, { State.reset.updTrip 0 fun r => { r with waits := [⟨0, ⟨5, 0x70, 4, 15, 9, 0, 0⟩, 0, [1]⟩] } with now := 400000 }, by decide⟩,
    ⟨State.reset, by decide⟩,
    ⟨0, 1, State.reset, by decide⟩,
    ⟨0, 1, State.reset, by decide⟩,
    ⟨0, State.reset.setFld (Reg.TRP_STAT 0) Fld.TRP_STAT_RSSTEP 1, by decide⟩,
    ⟨0, State.reset.setFld (Reg.TRP_STAT 0) Fld.TRP_STAT_RSSTEP 4, by decide⟩,
    ⟨0, 1, (State.reset.setDev stSTANDBY), by decide⟩⟩

theorem test_met_debug_completes :
    (∃ (i : Trip) (c : Fin 3) (s : State), s.cdRun ∧ s.commissioning ∧ bitOf (s.trpOut i.val) c.val = false ∧ s.bit (Reg.TRP_STAT i.val)
      Fld.TRP_STAT_SPLIT = false) ∧
    (∃ (i : Trip) (c : Fin 3) (s : State), s.cdRun ∧ (s.commissioning = false ∨ bitOf (s.trpOut i.val) c.val)) ∧
    (∃ (s : State), s.cdRun ∧ s.commissioning) ∧
    (∃ (s : State), s.cdRun ∧ s.commissioning) ∧
    (∃ (s : State), s.cdRun ∧ s.commissioning) ∧
    (∃ (s : State), s.cdRun ∧ s.commissioning) ∧
    (∃ (s : State), s.cdRun ∧ s.commissioning = false) ∧
    (∃ (s : State), s.cdRun ∧ s.dev = stSTANDBY ∧ s.commissioning ∧ (∀ n ∈ s.assigned, (s.reg (Reg.DBG_TRIP n)).toNat % 65536 ≠ 0)) ∧
    (∃ (s : State), s.cdRun ∧ s.dev ≠ stSTANDBY) ∧
    (∃ (s : State), s.cdRun ∧ s.endbg) ∧
    (∃ (s : State), s.cdRun ∧ s.endbg = false) ∧
    (∃ (i : Trip) (s : State), s.cdRun ∧ s.bit (Reg.TRP_STAT i.val) Fld.TRP_STAT_SPLIT ∧ s.trpMode i.val = 3 ∧ (s.trip i.val).halted = false) ∧
    (∃ (s : State), s.cdRun) ∧
    (∃ (s : State), s.cdRun) ∧
    (∃ (s : State), s.cdRun) ∧
    (∃ (i : Trip) (c : Fin 3) (s : State), s.cdRun ∧ s.trpOut i.val = 0 ∧ ((s.trip i.val).fences.filter fun f => f.1 == c.val && Nat.blt s.now (f.2 +
      3600 * 1000 * ms 1)).length < s.fld (Reg.TRP_CFG i.val) Fld.TRP_CFG_RESYNC_LIM) ∧
    (∃ (s : State), s.cdRun) :=
  ⟨⟨0, 1, State.reset.setBit Reg.GLB_DEVSTATE Fld.GLB_DEVSTATE_COMMISSION true, by decide⟩,
    ⟨0, 1, State.reset, by decide⟩,
    ⟨State.reset.setBit Reg.GLB_DEVSTATE Fld.GLB_DEVSTATE_COMMISSION true, by decide⟩,
    ⟨State.reset.setBit Reg.GLB_DEVSTATE Fld.GLB_DEVSTATE_COMMISSION true, by decide⟩,
    ⟨State.reset.setBit Reg.GLB_DEVSTATE Fld.GLB_DEVSTATE_COMMISSION true, by decide⟩,
    ⟨State.reset.setBit Reg.GLB_DEVSTATE Fld.GLB_DEVSTATE_COMMISSION true, by decide⟩,
    ⟨State.reset, by decide⟩,
    ⟨(State.reset.setBit Reg.GLB_DEVSTATE Fld.GLB_DEVSTATE_COMMISSION true).setDev stSTANDBY, by decide⟩,
    ⟨State.reset, by decide⟩,
    ⟨State.reset.setBit Reg.DBG_STAT Fld.DBG_STAT_ENDBG true, by decide⟩,
    ⟨State.reset, by decide⟩,
    ⟨0, (State.reset.setBit (Reg.TRP_STAT 0) Fld.TRP_STAT_SPLIT true).setFld (Reg.TRP_STAT 0) Fld.TRP_STAT_MODE 3, by decide⟩,
    ⟨State.reset, by decide⟩,
    ⟨State.reset, by decide⟩,
    ⟨State.reset, by decide⟩,
    ⟨0, 1, State.reset, by decide⟩,
    ⟨State.reset, by decide⟩⟩

theorem test_met_ringmaster_votes_complete :
    (∃ (d : RmVotes) (x y : Nat) (s : State), s.rmRun ∧ s.coresIn = [0, 1, 2] ∧ (∀ c : Fin 3, d.lines.getD c.val 0 % 2 ^ 24 = x ∧ d.outs.getD c.val 0 %
      2 ^ 8 = y)) ∧
    (∃ (d : RmVotes) (c : Fin 3) (s : State), s.rmRun ∧ s.coresIn = [0, 1, 2] ∧ oddOne (fun i => (d.lines.getD i 0 % 2 ^ 24, d.outs.getD i 0 % 2 ^ 8))
      c.val ∧ 1 ≤ s.rm.differ.getD c.val 0 ∧ s.rm.differ.length = 3) ∧
    (∃ (c : Fin 3) (m : Bool) (s : State), s.rmRun ∧ (s.rm.outAt.any fun p => p.1 == c.val) ∧ (s.rm.outAt.any fun p => p.1 == c.val && !s.since p.2 (ms
      25 + 1)) = m) ∧
    (∃ (c : Fin 3) (s : State), s.rmRun ∧ (s.rm.outAt.any fun p => p.1 == c.val && s.since p.2 (ms 25))) ∧
    (∃ (s : State), s.cdRun ∧ s.rmRun) ∧
    (∃ (s : State), s.rmRun ∧ s.since s.rm.aliveAt (ms 1)) ∧
    (∃ (n : Slot) (f : RetFrame) (o : Bool) (s : State), s.rmRun ∧ f.crcOk ∧ n.val < s.variant.slots ∧ bitOf (s.reg Reg.SAFE_LINES).toNat n.val = o ∧
      (o → f.iline = false) ∧ (o = false → f.iline) ∧ s.rm.delivered = false) ∧
    (∃ (n : Slot) (f : RetFrame) (x : Nat) (s : State), s.rmRun ∧ f.crcOk ∧ n.val < s.variant.slots ∧ bitOf (s.reg Reg.SAFE_LINES).toNat n.val ∧
      f.iline ∧ (s.drv n.val).lineOnAt = some x ∧ s.since x (us 20)) ∧
    (∃ (n : Slot) (f : RetFrame) (s : State), s.rmRun ∧ f.crcOk ∧ n.val < s.variant.slots) ∧
    (∃ (n : Slot) (s : State), s.rmRun ∧ s.assigned.contains n.val ∧ (s.drv n.val).frameLost = false ∧ s.since (s.drv n.val).frameAt (us 30)) ∧
    (∃ (n : Slot) (x : Nat) (s : State), s.rmRun ∧ (s.drv n.val).wasSwitching ∧ (s.drv n.val).lineOffAt = some x ∧ s.since x (us 20) ∧ bitOf (s.reg
      Reg.SAFE_EREM).toNat n.val = false) ∧
    (∃ (g : Rgn) (s : State), s.vlimOn g.val) ∧
    (∃ (g : Rgn) (s : State), s.vlimOn g.val) ∧
    (∃ (g : Rgn) (x : Nat) (s : State), s.vlimOn g.val ∧ (s.region g.val).discAt = some x ∧ s.since x (ms 10)) ∧
    (∃ (g : Rgn) (s : State), s.vlimOn g.val) ∧
    (∃ (g : Rgn) (s : State), s.vlimOn g.val) :=
  ⟨⟨⟨[5, 5, 5], [3, 3, 3]⟩, 5, 3, State.reset, by decide⟩,
    ⟨⟨[5, 7, 5], [3, 3, 3]⟩, 1, { State.reset with rm := { State.reset.rm with differ := [0, 1, 0] } }, by decide⟩,
    ⟨1, true, { State.reset with rm := { State.reset.rm with outAt := [(1, 0)] } }, by decide⟩,
    ⟨1, { State.reset with rm := { State.reset.rm with outAt := [(1, 0)] }, now := 10000000, snet := { hbAt := none } }, by decide⟩,
    ⟨State.reset, by decide⟩,
    ⟨{ State.reset with now := 400000 }, by decide⟩,
    ⟨3, ⟨true, true, true, 250, none⟩, false, State.reset, by decide⟩,
    ⟨3, ⟨true, true, true, 250, none⟩, 0, { (State.reset.setNat Reg.SAFE_LINES 8).updDrv 3 fun d => { d with lineOnAt := some 0 } with now := 400000 }, by decide⟩,
    ⟨3, ⟨true, true, true, 250, none⟩, State.reset, by decide⟩,
    ⟨3, { (State.reset.setFld (Reg.CLU_CFG 0) Fld.CLU_CFG_TYPE 2).setNat (Reg.CLU_SLOTS 0) 8 with now := 400000 }, by decide⟩,
    ⟨3, 0, { (State.reset.setNat Reg.SAFE_EREM 0).updDrv 3 fun d => { d with wasSwitching := true, lineOffAt := some 0 } with now := 400000 }, by decide⟩,
    ⟨0, { State.reset.setNat (Reg.SAFE_PAR 8) 0x00101000 with rm := { State.reset.rm with delivered := true } }, by decide⟩,
    ⟨0, { State.reset.setNat (Reg.SAFE_PAR 8) 0x00101000 with rm := { State.reset.rm with delivered := true } }, by decide⟩,
    ⟨0, 0, { ({ State.reset.setNat (Reg.SAFE_PAR 8) 0x00101000 with rm := { State.reset.rm with delivered := true } }).updRegion 0 fun r => { r with discAt := some 0 } with now := 4000000 }, by decide⟩,
    ⟨0, { State.reset.setNat (Reg.SAFE_PAR 8) 0x00101000 with rm := { State.reset.rm with delivered := true } }, by decide⟩,
    ⟨0, { State.reset.setNat (Reg.SAFE_PAR 8) 0x00101000 with rm := { State.reset.rm with delivered := true } }, by decide⟩⟩

theorem test_met_safety_inputs_complete :
    (∃ (x : Fin 16) (u v : Bool) (s : State), s.siOn x.val ∧ (((s.siFilter (2 * x.val) u).siFilter (2 * x.val + 1) v).siKnown (2 * x.val) = false ∨
      ((s.siFilter (2 * x.val) u).siFilter (2 * x.val + 1) v).siKnown (2 * x.val + 1) = false)) ∧
    (∃ (x : Fin 16) (u v : Bool) (s : State), s.siOn x.val ∧ ((s.siFilter (2 * x.val) u).siFilter (2 * x.val + 1) v).siKnown (2 * x.val) ∧ ((s.siFilter
      (2 * x.val) u).siFilter (2 * x.val + 1) v).siKnown (2 * x.val + 1) ∧ (((s.siFilter (2 * x.val) u).siFilter (2 * x.val + 1) v).siStates x.val).1 ||
      (((s.siFilter (2 * x.val) u).siFilter (2 * x.val + 1) v).siStates x.val).2 ∧ bitOf (s.reg Reg.SAFE_SIPAIR).toNat x.val = false) ∧
    (∃ (x : Fin 16) (u v : Bool) (s : State), s.siOn x.val ∧ ((s.siFilter (2 * x.val) u).siFilter (2 * x.val + 1) v).siKnown (2 * x.val) ∧ ((s.siFilter
      (2 * x.val) u).siFilter (2 * x.val + 1) v).siKnown (2 * x.val + 1) ∧ ((s.siFilter (2 * x.val) u).siFilter (2 * x.val + 1) v).siStates x.val =
      (false, false) ∧ bitOf (s.reg Reg.SAFE_SIPAIR).toNat (16 + x.val) = false) ∧
    (∃ (x : Fin 16) (s : State), s.siOn x.val ∧ bitOf (s.reg Reg.SAFE_SIPAIR).toNat (16 + x.val) = false ∧ (s.rm.siDisc.any fun p => p.1 == x.val &&
      s.since p.2 (ms s.siDiscMs))) ∧
    (∃ (y : SoOut) (s : State), s.rmRun ∧ s.rm.delivered ∧ bitOf (s.reg (Reg.SAFE_PAR 2)).toNat (16 + y.val) ∧ s.soIsOn y.val ∧ s.rm.soTest = none ∧
      s.rm.soReturn = none ∧ s.since (File.get 0 s.rm.soLast y.val) (s.soTestPar y.val).2) ∧
    (∃ (y : SoOut) (m : Nat) (s : State), s.rmRun ∧ s.rm.soTest = some (y.val, m) ∧ s.since s.rm.soPulseAt (us (s.soTestPar y.val).1)) ∧
    (∃ (y : SoOut) (m : Nat) (s : State), s.rmRun ∧ s.rm.soTest = some (y.val, m) ∧ s.since s.rm.soPulseAt (us (s.soTestPar y.val).1)) ∧
    (∃ (y : SoOut) (s : State), s.rmRun ∧ s.rm.soReturn = some y.val ∧ s.since s.rm.soPulseAt (us 200)) ∧
    (∃ (y : SoOut) (s : State), s.rmRun ∧ s.rm.soReturn = some y.val ∧ s.since s.rm.soPulseAt (us 200)) ∧
    (∃ (y : SoOut) (s : State), s.rmRun ∧ s.soIsOn y.val) ∧
    (∃ (y : SoOut) (s : State), s.rmRun ∧ s.soIsOn y.val = false) ∧
    (∃ (x : Nat) (s : State), s.rmRun ∧ s.rstState ≠ 1 ∧ s.rstState ≠ 2 ∧ s.rm.relAt = some x ∧ s.since x (secs 1)) ∧
    (∃ (s : State), s.rmRun ∧ s.rm.pressAt = none ∧ s.rstState = 1) ∧
    (∃ (s : State), s.rmRun ∧ s.rm.pressAt = none ∧ s.rstState ≠ 1) ∧
    (∃ (s : State), s.rmRun ∧ s.rm.pressAt = none) ∧
    (∃ (x : Nat) (s : State), s.rmRun ∧ s.rm.pressAt = some x ∧ s.rstState = 2 ∧ s.since x (ms 100) = false) ∧
    (∃ (x : Nat) (s : State), s.rmRun ∧ s.rm.pressAt = some x ∧ s.rstState = 2 ∧ s.since x (ms 100) ∧ s.since x (secs 3 + 1) = false ∧ s.bit
      Reg.SAFE_STAT Fld.SAFE_STAT_LATCH_VB = false ∧ s.bit Reg.THM_STAT Fld.THM_STAT_LATCHED = false) ∧
    (∃ (s : State), s.rmRun) ∧
    (∃ (x : Nat) (s : State), s.rmRun ∧ s.rstState ≠ 4 ∧ s.rm.pressAt = some x ∧ s.since x (secs 30)) :=
  ⟨⟨2, true, false, { (State.reset.setNat (Reg.SAFE_PAR 0) 4).setNat (Reg.SAFE_PAR 1) 0x100003 with rm := { State.reset.rm with delivered := true } }, by decide⟩,
    ⟨2, true, false, { (State.reset.setNat (Reg.SAFE_PAR 0) 4).setNat (Reg.SAFE_PAR 1) 0x100001 with rm := { State.reset.rm with delivered := true } }, by decide⟩,
    ⟨2, true, true, { (State.reset.setNat (Reg.SAFE_PAR 0) 4).setNat (Reg.SAFE_PAR 1) 0x100001 with rm := { State.reset.rm with delivered := true } }, by decide⟩,
    ⟨2, { (State.reset.setNat (Reg.SAFE_PAR 0) 4) with rm := { State.reset.rm with delivered := true, siDisc := [(2, 0)] }, now := 400000000 }, by decide⟩,
    ⟨1, { (State.reset.setNat (Reg.SAFE_PAR 2) 0x20000).setFld Reg.SAFE_SO Fld.SAFE_SO_ON 2 with rm := { State.reset.rm with delivered := true }, now := 40000000000 }, by decide⟩,
    ⟨1, 0, { State.reset with rm := { State.reset.rm with soTest := some (1, 0) }, now := 40000000000 }, by decide⟩,
    ⟨1, 0, { State.reset with rm := { State.reset.rm with soTest := some (1, 0) }, now := 40000000000 }, by decide⟩,
    ⟨1, { State.reset with rm := { State.reset.rm with soReturn := some 1 }, now := 40000000000 }, by decide⟩,
    ⟨1, { State.reset with rm := { State.reset.rm with soReturn := some 1 }, now := 40000000000 }, by decide⟩,
    ⟨1, State.reset.setFld Reg.SAFE_SO Fld.SAFE_SO_ON 2, by decide⟩,
    ⟨1, State.reset, by decide⟩,
    ⟨0, { State.reset with rm := { State.reset.rm with relAt := some 0 }, now := 400000000 }, by decide⟩,
    ⟨State.reset.setRst 1, by decide⟩,
    ⟨State.reset, by decide⟩,
    ⟨State.reset, by decide⟩,
    ⟨0, { State.reset.setRst 2 with rm := { State.reset.rm with pressAt := some 0 }, now := 4000000 }, by decide⟩,
    ⟨0, { State.reset.setRst 2 with rm := { State.reset.rm with pressAt := some 0 }, now := 400000000 }, by decide⟩,
    ⟨State.reset, by decide⟩,
    ⟨0, { State.reset with rm := { State.reset.rm with pressAt := some 0 }, now := 40000000000 }, by decide⟩⟩

set_option maxRecDepth 100000 in
theorem test_met_safety_requests_complete :
    (∃ (m : ConfigImage) (s : State), s.store.config = some m ∧ s.cdRun ∧ s.rmRun ∧ s.dev = stCONFIG ∧ s.rm.image = 1) ∧
    (∃ (m : ConfigImage) (s : State), s.store.config = some m ∧ s.cdRun ∧ s.rmRun ∧ s.dev = stCONFIG ∧ s.rm.image = 3 ∧ s.validate [] (some m.pars) =
      none) ∧
    (∃ (m : ConfigImage) (s : State), s.store.config = some m ∧ s.cdRun ∧ s.rmRun ∧ s.dev = stCONFIG ∧ s.rm.image = 1 ∧ (m.pars.getD 2 0).toNat / 2 ^
      28 < s.store.safeAt.length) ∧
    (∃ (c : Chan) (v : Word) (s : State), s.cdRun ∧ s.rmRun ∧ (c.val = 8 ∨ c.val = 9) ∧ s.commissioning ∧ s.rm.armed = false ∧ s.rm.delivered ∧ v =
      s.reg Reg.SAFE_CHK_CALC) ∧
    (∃ (c : Chan) (v : Word) (s : State), s.cdRun ∧ s.rmRun ∧ (c.val = 8 ∨ c.val = 9) ∧ s.commissioning ∧ s.rm.armed = false ∧ v ≠ s.reg
      Reg.SAFE_CHK_CALC) ∧
    (∃ (c : Chan) (s : State), s.cdRun ∧ s.rmRun ∧ 9 ≤ c.val ∧ c.val ≤ 13) ∧
    (∃ (c : Chan) (s : State), s.cdRun ∧ s.rmRun ∧ c.val = 9) ∧
    (∃ (c : Chan) (s : State), s.cdRun ∧ s.rmRun ∧ 8 ≤ c.val ∧ c.val ≤ 13) ∧
    (∃ (c : Chan) (s : State), s.cdRun ∧ s.rmRun ∧ 9 ≤ c.val ∧ c.val ≤ 13) ∧
    (∃ (x : Nat) (l : List Nat) (s : State), s.store.safeAt = x :: l ∧ s.rmRun ∧ x + secs 86400 ≤ s.rm.vbTicks) :=
  ⟨⟨{ writes := [], pars := [5] }, { State.reset.setDev stCONFIG with store := { State.reset.store with config := some { writes := [], pars := [5] } }, rm := { State.reset.rm with image := 1 } }, by decide⟩,
    ⟨{ writes := [], pars := okPars }, { State.reset.setDev stCONFIG with store := { State.reset.store with config := some { writes := [], pars := okPars } }, rm := { State.reset.rm with image := 3 } }, by decide⟩,
    ⟨{ writes := [], pars := [5] }, { State.reset.setDev stCONFIG with store := { State.reset.store with config := some { writes := [], pars := [5] }, safeAt := [0] }, rm := { State.reset.rm with image := 1 } }, by decide⟩,
    ⟨8, State.reset.reg Reg.SAFE_CHK_CALC, { State.reset.setBit Reg.GLB_DEVSTATE Fld.GLB_DEVSTATE_COMMISSION true with rm := { State.reset.rm with delivered := true, armed := false } }, by decide⟩,
    ⟨8, State.reset.reg Reg.SAFE_CHK_CALC + 1, { State.reset.setBit Reg.GLB_DEVSTATE Fld.GLB_DEVSTATE_COMMISSION true with rm := { State.reset.rm with armed := false } }, by decide⟩,
    ⟨9, State.reset.setNat Reg.SAFE_LINES 7, by decide⟩,
    ⟨9, State.reset.setFld Reg.SAFE_SO Fld.SAFE_SO_ON 7, by decide⟩,
    ⟨9, State.reset, by decide⟩,
    ⟨9, { State.reset with rm := { State.reset.rm with holds := [(9, 5)] } }, by decide⟩,
    ⟨0, [5], { State.reset with store := { State.reset.store with safeAt := [0, 5] }, rm := { State.reset.rm with vbTicks := 40000000000000 } }, by decide⟩⟩

theorem test_met_ports_and_ptp_complete :
    (∃ (p : Port) (s : State), s.cdRun ∧ s.portIsUp p.val ∧ s.netLost p.val = false ∧ s.snl.held = []) ∧
    (∃ (p : Port) (s : State), s.cdRun ∧ s.portIsUp p.val) ∧
    (∃ (p : Port) (s : State), s.cdRun ∧ s.portIsUp p.val = false) ∧
    (∃ (s : State), s.cdRun) ∧
    (∃ (p : Port) (f : EthFrame) (s : State), s.cdRun ∧ s.portIsUp p.val ∧ 1522 < f.size) ∧
    (∃ (p : Port) (f : EthFrame) (s : State), s.cdRun ∧ s.portIsUp p.val ∧ f.size ≤ 1522 ∧ f.fcsOk = false) ∧
    (∃ (p : Port) (f : EthFrame) (s : State), s.cdRun ∧ s.portIsUp p.val ∧ f.size ≤ 1522 ∧ f.fcsOk ∧ f.room = false) ∧
    (∃ (p : Port) (f : EthFrame) (v : Nat) (s : State), s.cdRun ∧ s.portIsUp p.val ∧ f.size ≤ 1522 ∧ f.fcsOk ∧ f.room ∧ f.vid = some v ∧ v ≠ s.fld
      (Reg.ETH_P_CFG p.val) Fld.ETH_P_CFG_VID ∧ v ≠ s.fld Reg.ETH_SNL_CFG Fld.ETH_SNL_CFG_VID) ∧
    (∃ (p : Port) (f : EthFrame) (s : State), s.cdRun ∧ s.portIsUp p.val ∧ f.size ≤ 1522 ∧ f.fcsOk ∧ f.room ∧ (f.vid.all fun v => v == s.fld
      (Reg.ETH_P_CFG p.val) Fld.ETH_P_CFG_VID || v == s.fld Reg.ETH_SNL_CFG Fld.ETH_SNL_CFG_VID)) ∧
    (∃ (s : State), s.cdRun ∧ (s.trip 4).runs) ∧
    (∃ (s : State), s.cdRun ∧ (s.trip 4).runs ∧ s.bit Reg.ETH_PTP_STAT Fld.ETH_PTP_STAT_LOCKED = false) ∧
    (∃ (s : State), s.cdRun ∧ s.bit Reg.ETH_PTP_STAT Fld.ETH_PTP_STAT_HOLDOVER = false) ∧
    (∃ (x : Nat) (s : State), s.cdRun ∧ s.snl.hoAt = some x ∧ s.since x (secs 60)) :=
  ⟨⟨1, (((State.reset.setReg (Reg.ETH_P_STAT 1) 0x11).setReg (Reg.ETH_P_CFG 1) 0x80000000).setReg Reg.ETH_SNL_STAT 0), by decide⟩,
    ⟨1, (((State.reset.setReg (Reg.ETH_P_STAT 1) 0x11).setReg (Reg.ETH_P_CFG 1) 0x80000000).setReg Reg.ETH_SNL_STAT 0), by decide⟩,
    ⟨1, State.reset, by decide⟩,
    ⟨State.reset, by decide⟩,
    ⟨1, ⟨1523, true, true, none⟩, (((State.reset.setReg (Reg.ETH_P_STAT 1) 0x11).setReg (Reg.ETH_P_CFG 1) 0x80000000).setReg Reg.ETH_SNL_STAT 0), by decide⟩,
    ⟨1, ⟨64, false, true, none⟩, (((State.reset.setReg (Reg.ETH_P_STAT 1) 0x11).setReg (Reg.ETH_P_CFG 1) 0x80000000).setReg Reg.ETH_SNL_STAT 0), by decide⟩,
    ⟨1, ⟨64, true, false, none⟩, (((State.reset.setReg (Reg.ETH_P_STAT 1) 0x11).setReg (Reg.ETH_P_CFG 1) 0x80000000).setReg Reg.ETH_SNL_STAT 0), by decide⟩,
    ⟨1, ⟨64, true, true, some 4001⟩, 4001, (((State.reset.setReg (Reg.ETH_P_STAT 1) 0x11).setReg (Reg.ETH_P_CFG 1) 0x80000000).setReg Reg.ETH_SNL_STAT 0), by decide⟩,
    ⟨1, ⟨64, true, true, none⟩, (((State.reset.setReg (Reg.ETH_P_STAT 1) 0x11).setReg (Reg.ETH_P_CFG 1) 0x80000000).setReg Reg.ETH_SNL_STAT 0), by decide⟩,
    ⟨State.reset.updTrip 4 fun r => { r with runs := true }, by decide⟩,
    ⟨State.reset.updTrip 4 fun r => { r with runs := true }, by decide⟩,
    ⟨State.reset, by decide⟩,
    ⟨0, { State.reset with snl := { State.reset.snl with hoAt := some 0 }, now := 400000000000 }, by decide⟩⟩

set_option maxRecDepth 100000 in
theorem test_met_safety_transport_completes :
    (∃ (p : Port) (f : SafetyPdu) (s : State), s.cdRun ∧ s.rmRun ∧ s.portIsUp p.val ∧ s.safetyMatch p.val f ∧ pduCode f.bytes = false) ∧
    (∃ (p : Port) (f : SafetyPdu) (s : State), s.cdRun ∧ s.rmRun ∧ s.portIsUp p.val ∧ s.safetyMatch p.val f ∧ s.pduFmt f.bytes = false) ∧
    (∃ (p : Port) (f : SafetyPdu) (s : State), s.cdRun ∧ s.rmRun ∧ s.portIsUp p.val ∧ s.safetyMatch p.val f ∧ pduCode f.bytes ∧ s.pduFmt f.bytes ∧
      (s.snl.held.all fun h => pduSeq h.bytes != pduSeq f.bytes) ∧ (s.snl.decided.all fun h => pduSeq h.1.bytes != pduSeq f.bytes) ∧ s.snl.held.length <
      8 ∧ s.netLost (1 - p.val) = false ∧ (s.snl.held.all fun h => !s.netLost (1 - h.net))) ∧
    (∃ (p : Port) (f : SafetyPdu) (h : HeldCopy) (s : State), s.cdRun ∧ s.rmRun ∧ s.portIsUp p.val ∧ s.safetyMatch p.val f ∧ pduCode f.bytes ∧ s.pduFmt
      f.bytes ∧ s.snl.held = [h] ∧ h.net = 1 - p.val ∧ pduSeq h.bytes = pduSeq f.bytes ∧ samePdu h.bytes f.bytes = false) ∧
    (∃ (p : Port) (f : SafetyPdu) (h : HeldCopy) (s : State), s.cdRun ∧ s.rmRun ∧ s.portIsUp p.val ∧ s.safetyMatch p.val f ∧ pduCode f.bytes ∧ s.pduFmt
      f.bytes ∧ s.snl.held = [h] ∧ h.net = 1 - p.val ∧ pduSeq h.bytes = pduSeq f.bytes ∧ samePdu h.bytes f.bytes ∧ s.netLost 0 = false ∧ s.netLost 1 =
      false ∧ s.bit Reg.ETH_SNL_STAT Fld.ETH_SNL_STAT_BASE = false ∧ s.showAgeOk.bit Reg.ETH_SNL_STAT Fld.ETH_SNL_STAT_AGEOK ∧ -1000000 ≤ copyAge h ∧
      copyAge h ≤ s.netWd * 1000000 ∧ pduField h.bytes 0x14 1 = 1 ∧ s.rm.netExpAt ≠ some s.now) ∧
    (∃ (p : Port) (f : SafetyPdu) (h : HeldCopy) (s : State), s.cdRun ∧ s.rmRun ∧ s.portIsUp p.val ∧ s.safetyMatch p.val f ∧ pduCode f.bytes ∧ s.pduFmt
      f.bytes ∧ s.snl.held = [h] ∧ h.net = 1 - p.val ∧ pduSeq h.bytes = pduSeq f.bytes ∧ samePdu h.bytes f.bytes ∧ s.netLost 0 = false ∧ s.netLost 1 =
      false ∧ s.bit Reg.ETH_SNL_STAT Fld.ETH_SNL_STAT_BASE = false ∧ s.showAgeOk.bit Reg.ETH_SNL_STAT Fld.ETH_SNL_STAT_AGEOK ∧ -1000000 ≤ copyAge h ∧
      copyAge h ≤ s.netWd * 1000000 ∧ pduField h.bytes 0x14 1 = 0 ∧ s.rm.netExpAt ≠ some s.now) ∧
    (∃ (p : Port) (f : SafetyPdu) (h : HeldCopy) (s : State), s.cdRun ∧ s.rmRun ∧ s.portIsUp p.val ∧ s.safetyMatch p.val f ∧ pduCode f.bytes ∧ s.pduFmt
      f.bytes ∧ s.snl.held = [h] ∧ h.net = 1 - p.val ∧ pduSeq h.bytes = pduSeq f.bytes ∧ samePdu h.bytes f.bytes ∧ s.netLost 0 = false ∧ s.netLost 1 =
      false ∧ s.bit Reg.ETH_SNL_STAT Fld.ETH_SNL_STAT_BASE = false ∧ s.showAgeOk.bit Reg.ETH_SNL_STAT Fld.ETH_SNL_STAT_AGEOK ∧ (copyAge h < -1000000 ∨
      s.netWd * 1000000 < copyAge h) ∧ s.rm.netExpAt ≠ some s.now) ∧
    (∃ (c : HeldCopy) (l : List HeldCopy) (s : State), s.snl.held = c :: l ∧ s.cdRun ∧ s.rmRun ∧ s.since c.time s.skew ∧ s.netLost (1 - c.net) = false
      ∧ (l.all fun h => !s.netLost (1 - h.net)) ∧ s.snl.miss.getD (1 - c.net) 0 + 1 < s.fld Reg.ETH_SNL_TIMING Fld.ETH_SNL_TIMING_MISS_LIM) ∧
    (∃ (c : HeldCopy) (l : List HeldCopy) (s : State), s.snl.held = c :: l ∧ s.cdRun ∧ s.rmRun ∧ s.since c.time s.skew ∧ s.netLost (1 - c.net) = false
      ∧ s.fld Reg.ETH_SNL_TIMING Fld.ETH_SNL_TIMING_MISS_LIM ≤ s.snl.miss.getD (1 - c.net) 0 + 1) ∧
    (∃ (p : Port) (f : SafetyPdu) (h : HeldCopy) (s : State), s.cdRun ∧ s.rmRun ∧ s.portIsUp p.val ∧ s.safetyMatch p.val f ∧ pduCode f.bytes ∧ s.pduFmt
      f.bytes ∧ (s.snl.held.all fun h => pduSeq h.bytes != pduSeq f.bytes) ∧ s.snl.decided.head? = some (h, false) ∧ h.net = 1 - p.val ∧ pduSeq h.bytes
      = pduSeq f.bytes ∧ samePdu h.bytes f.bytes = false) ∧
    (∃ (p : Port) (f : SafetyPdu) (s : State), s.cdRun ∧ s.rmRun ∧ s.portIsUp p.val ∧ s.safetyMatch p.val f ∧ pduCode f.bytes ∧ s.pduFmt f.bytes ∧
      (s.snl.held.any fun h => pduSeq h.bytes == pduSeq f.bytes && h.net == p.val)) ∧
    (∃ (p : Port) (f : SafetyPdu) (s : State), s.cdRun ∧ s.safetyMatch p.val f = false) ∧
    (∃ (s : State), s.cdRun ∧ s.rmRun ∧ s.snlEn ∧ s.bit Reg.SAFE_NET Fld.SAFE_NET_RUNNING ∧ s.since s.rm.netAt (us (960 * s.netWd))) ∧
    (∃ (s : State), s.cdRun ∧ s.rmRun ∧ (s.snl.txAt.all fun x => s.since x (ms (s.fld Reg.ETH_SNL_TIMING Fld.ETH_SNL_TIMING_TX_PER)) || (s.since x (ms
      1) && s.statusData != s.snl.txData))) :=
  ⟨⟨1, ⟨some 0, 0x88B5, 0, 0, [3], 0, 0⟩, (((State.reset.setReg (Reg.ETH_P_STAT 1) 0x11).setReg (Reg.ETH_P_CFG 1) 0x80000000).setReg Reg.ETH_SNL_STAT 0), by decide⟩,
    ⟨1, ⟨some 0, 0x88B5, 0, 0, [3], 0, 0⟩, (((State.reset.setReg (Reg.ETH_P_STAT 1) 0x11).setReg (Reg.ETH_P_CFG 1) 0x80000000).setReg Reg.ETH_SNL_STAT 0), by decide⟩,
    ⟨1, ⟨some 0, 0x88B5, 0, 0, [1, 1] ++ List.replicate 9 0 ++ [5] ++ List.replicate 8 0 ++ [1] ++ List.replicate 15 0 ++ [140, 199, 227, 90, 0, 0], 0, 0⟩, (((State.reset.setReg (Reg.ETH_P_STAT 1) 0x11).setReg (Reg.ETH_P_CFG 1) 0x80000000).setReg Reg.ETH_SNL_STAT 0), by decide⟩,
    ⟨1, ⟨some 0, 0x88B5, 0, 0, [1, 1] ++ List.replicate 9 0 ++ [5] ++ List.replicate 8 0 ++ [1] ++ List.replicate 15 0 ++ [140, 199, 227, 90, 0, 0], 0, 0⟩, ⟨0, [1, 1] ++ List.replicate 9 0 ++ [5] ++ List.replicate 24 0 ++ [126, 203, 238, 164, 0, 0], 0, 0, 0⟩, { (((State.reset.setReg (Reg.ETH_P_STAT 1) 0x11).setReg (Reg.ETH_P_CFG 1) 0x80000000).setReg Reg.ETH_SNL_STAT 0) with snl := { State.reset.snl with held := [⟨0, [1, 1] ++ List.replicate 9 0 ++ [5] ++ List.replicate 24 0 ++ [126, 203, 238, 164, 0, 0], 0, 0, 0⟩] } }, by decide⟩,
    ⟨1, ⟨some 0, 0x88B5, 0, 0, [1, 1] ++ List.replicate 9 0 ++ [5] ++ List.replicate 8 0 ++ [1] ++ List.replicate 15 0 ++ [140, 199, 227, 90, 0, 0], 0, 0⟩, ⟨0, [1, 1] ++ List.replicate 9 0 ++ [5] ++ List.replicate 8 0 ++ [1] ++ List.replicate 15 0 ++ [140, 199, 227, 90, 0, 0], 0, 0, 0⟩, { (((State.reset.setReg (Reg.ETH_P_STAT 1) 0x11).setReg (Reg.ETH_P_CFG 1) 0x80000000).setReg Reg.ETH_SNL_STAT 0).setReg Reg.ETH_PTP_STAT 8 with snl := { State.reset.snl with held := [⟨0, [1, 1] ++ List.replicate 9 0 ++ [5] ++ List.replicate 8 0 ++ [1] ++ List.replicate 15 0 ++ [140, 199, 227, 90, 0, 0], 0, 0, 0⟩] } }, by decide⟩,
    ⟨1, ⟨some 0, 0x88B5, 0, 0, [1, 1] ++ List.replicate 9 0 ++ [5] ++ List.replicate 24 0 ++ [126, 203, 238, 164, 0, 0], 0, 0⟩, ⟨0, [1, 1] ++ List.replicate 9 0 ++ [5] ++ List.replicate 24 0 ++ [126, 203, 238, 164, 0, 0], 0, 0, 0⟩, { (((State.reset.setReg (Reg.ETH_P_STAT 1) 0x11).setReg (Reg.ETH_P_CFG 1) 0x80000000).setReg Reg.ETH_SNL_STAT 0).setReg Reg.ETH_PTP_STAT 8 with snl := { State.reset.snl with held := [⟨0, [1, 1] ++ List.replicate 9 0 ++ [5] ++ List.replicate 24 0 ++ [126, 203, 238, 164, 0, 0], 0, 0, 0⟩] } }, by decide⟩,
    ⟨1, ⟨some 0, 0x88B5, 0, 0, [1, 1] ++ List.replicate 9 0 ++ [5, 0, 0, 0, 9] ++ List.replicate 20 0 ++ [27, 146, 124, 33, 0, 0], 0, 0⟩, ⟨0, [1, 1] ++ List.replicate 9 0 ++ [5, 0, 0, 0, 9] ++ List.replicate 20 0 ++ [27, 146, 124, 33, 0, 0], 0, 0, 0⟩, { (((State.reset.setReg (Reg.ETH_P_STAT 1) 0x11).setReg (Reg.ETH_P_CFG 1) 0x80000000).setReg Reg.ETH_SNL_STAT 0).setReg Reg.ETH_PTP_STAT 8 with snl := { State.reset.snl with held := [⟨0, [1, 1] ++ List.replicate 9 0 ++ [5, 0, 0, 0, 9] ++ List.replicate 20 0 ++ [27, 146, 124, 33, 0, 0], 0, 0, 0⟩] } }, by decide⟩,
    ⟨⟨0, [1, 1] ++ List.replicate 9 0 ++ [5] ++ List.replicate 24 0 ++ [126, 203, 238, 164, 0, 0], 0, 0, 0⟩, [], { (State.reset.setReg Reg.ETH_SNL_STAT 0).setReg Reg.ETH_SNL_TIMING 0x30000 with snl := { State.reset.snl with held := [⟨0, [1, 1] ++ List.replicate 9 0 ++ [5] ++ List.replicate 24 0 ++ [126, 203, 238, 164, 0, 0], 0, 0, 0⟩] } }, by decide⟩,
    ⟨⟨0, [1, 1] ++ List.replicate 9 0 ++ [5] ++ List.replicate 24 0 ++ [126, 203, 238, 164, 0, 0], 0, 0, 0⟩, [], { (State.reset.setReg Reg.ETH_SNL_STAT 0).setReg Reg.ETH_SNL_TIMING 0x10000 with snl := { State.reset.snl with held := [⟨0, [1, 1] ++ List.replicate 9 0 ++ [5] ++ List.replicate 24 0 ++ [126, 203, 238, 164, 0, 0], 0, 0, 0⟩] } }, by decide⟩,
    ⟨1, ⟨some 0, 0x88B5, 0, 0, [1, 1] ++ List.replicate 9 0 ++ [5] ++ List.replicate 8 0 ++ [1] ++ List.replicate 15 0 ++ [140, 199, 227, 90, 0, 0], 0, 0⟩, ⟨0, [1, 1] ++ List.replicate 9 0 ++ [5] ++ List.replicate 24 0 ++ [126, 203, 238, 164, 0, 0], 0, 0, 0⟩, { (((State.reset.setReg (Reg.ETH_P_STAT 1) 0x11).setReg (Reg.ETH_P_CFG 1) 0x80000000).setReg Reg.ETH_SNL_STAT 0) with snl := { State.reset.snl with decided := [(⟨0, [1, 1] ++ List.replicate 9 0 ++ [5] ++ List.replicate 24 0 ++ [126, 203, 238, 164, 0, 0], 0, 0, 0⟩, false)] } }, by decide⟩,
    ⟨1, ⟨some 0, 0x88B5, 0, 0, [1, 1] ++ List.replicate 9 0 ++ [5] ++ List.replicate 8 0 ++ [1] ++ List.replicate 15 0 ++ [140, 199, 227, 90, 0, 0], 0, 0⟩, { (((State.reset.setReg (Reg.ETH_P_STAT 1) 0x11).setReg (Reg.ETH_P_CFG 1) 0x80000000).setReg Reg.ETH_SNL_STAT 0) with snl := { State.reset.snl with held := [⟨1, [1, 1] ++ List.replicate 9 0 ++ [5] ++ List.replicate 8 0 ++ [1] ++ List.replicate 15 0 ++ [140, 199, 227, 90, 0, 0], 0, 0, 0⟩] } }, by decide⟩,
    ⟨1, ⟨none, 0x88B5, 0, 0, [3], 0, 0⟩, (((State.reset.setReg (Reg.ETH_P_STAT 1) 0x11).setReg (Reg.ETH_P_CFG 1) 0x80000000).setReg Reg.ETH_SNL_STAT 0), by decide⟩,
    ⟨{ ((State.reset.setNat (Reg.SAFE_PAR 18) 0x80000001).setBit Reg.SAFE_NET Fld.SAFE_NET_RUNNING true) with now := 400000 }, by decide⟩,
    ⟨State.reset, by decide⟩⟩

theorem test_met_can_commands_complete :
    (∃ (x : CanC) (s : State), s.cdRun ∧ s.bit (Reg.CAN_CTRL x.val) Fld.CAN_CTRL_EN = false) ∧
    (∃ (x : CanC) (s : State), s.cdRun ∧ s.bit (Reg.CAN_CTRL x.val) Fld.CAN_CTRL_EN) ∧
    (∃ (x : CanC) (s : State), s.cdRun ∧ s.bit (Reg.CAN_CTRL x.val) Fld.CAN_CTRL_EN) ∧
    (∃ (x : CanC) (b : Fin 3) (s : State), s.cdRun ∧ s.bit (Reg.CAN_CTRL x.val) Fld.CAN_CTRL_TXR_EN = false ∧ s.bit (Reg.CAN_CTRL x.val)
      Fld.CAN_CTRL_EN ∧ s.canOwns x.val b.val = false) ∧
    (∃ (x : CanC) (b : Fin 3) (s : State), s.cdRun ∧ (s.bit (Reg.CAN_CTRL x.val) Fld.CAN_CTRL_TXR_EN ∨ s.bit (Reg.CAN_CTRL x.val) Fld.CAN_CTRL_EN =
      false ∨ s.canOwns x.val b.val)) ∧
    (∃ (x : CanC) (b : Fin 3) (s : State), s.cdRun ∧ s.canOwns x.val b.val ∧ (s.can x.val).sending = some b.val) ∧
    (∃ (x : CanC) (b : Fin 3) (s : State), s.cdRun ∧ s.canOwns x.val b.val ∧ (s.can x.val).sending ≠ some b.val ∧ ((s.ring ((s.reg (Reg.CAN_TXRING
      x.val)).toNat % 16)).inBuf.all fun p => p.2 != b.val)) ∧
    (∃ (x : CanC) (b : Fin 3) (s : State), s.cdRun ∧ s.canOwns x.val b.val = false) ∧
    (∃ (x : CanC) (s : State), s.cdRun ∧ (s.canState x.val = 2 ∨ s.canState x.val = 3) ∧ (s.can x.val).sending = none) ∧
    (∃ (x : CanC) (s : State), s.cdRun ∧ (s.canState x.val = 2 ∨ s.canState x.val = 3) ∧ (s.can x.val).sending ≠ none) ∧
    (∃ (x : CanC) (s : State), s.cdRun ∧ (s.canState x.val = 1 ∨ s.canState x.val = 4)) ∧
    (∃ (x : CanC) (s : State), s.cdRun ∧ (s.canState x.val = 0 ∨ s.canState x.val = 5)) ∧
    (∃ (x : CanC) (s : State), s.cdRun ∧ s.canState x.val = 5) ∧
    (∃ (x : CanC) (s : State), s.cdRun ∧ s.canState x.val ≠ 5) ∧
    (∃ (x : CanC) (f : Fin 32) (s : State), s.cdRun ∧ s.bit (Reg.CAN_FSTAT x.val f.val) Fld.CAN_FSTAT_SHADOW) ∧
    (∃ (x : CanC) (f : Fin 32) (s : State), s.cdRun ∧ s.bit (Reg.CAN_FSTAT x.val f.val) Fld.CAN_FSTAT_SHADOW = false ∧ s.bit (Reg.CAN_FSTAT x.val
      f.val) Fld.CAN_FSTAT_ACTIVE) ∧
    (∃ (x : CanC) (f : Fin 32) (s : State), s.cdRun ∧ s.bit (Reg.CAN_FSTAT x.val f.val) Fld.CAN_FSTAT_SHADOW = false ∧ s.bit (Reg.CAN_FSTAT x.val
      f.val) Fld.CAN_FSTAT_ACTIVE = false) :=
  ⟨⟨1, State.reset, by decide⟩,
    ⟨1, (((State.reset.setDev stSTANDBY).setFld Reg.PWR_SUPSTAT ⟨5, 1⟩ 1).setNat (Reg.CAN_CTRL 1) 0x80000000).setCanState 1 2, by decide⟩,
    ⟨1, ((((State.reset.setDev stSTANDBY).setFld Reg.PWR_SUPSTAT ⟨5, 1⟩ 1).setNat (Reg.CAN_CTRL 1) 0x80000000).setCanState 1 2).setCanOwn 1 2 true, by decide⟩,
    ⟨1, 2, (((State.reset.setDev stSTANDBY).setFld Reg.PWR_SUPSTAT ⟨5, 1⟩ 1).setNat (Reg.CAN_CTRL 1) 0x80000000).setCanState 1 2, by decide⟩,
    ⟨1, 2, State.reset, by decide⟩,
    ⟨1, 2, { ((((((State.reset.setDev stSTANDBY).setFld Reg.PWR_SUPSTAT ⟨5, 1⟩ 1).setNat (Reg.CAN_CTRL 1) 0x80000000).setCanState 1 2).setCanOwn 1 2 true)).updCan 1 fun c => { c with sending := some 2 } with now := 5 }, by decide⟩,
    ⟨1, 2, ((((State.reset.setDev stSTANDBY).setFld Reg.PWR_SUPSTAT ⟨5, 1⟩ 1).setNat (Reg.CAN_CTRL 1) 0x80000000).setCanState 1 2).setCanOwn 1 2 true, by decide⟩,
    ⟨1, 2, State.reset, by decide⟩,
    ⟨1, (((State.reset.setDev stSTANDBY).setFld Reg.PWR_SUPSTAT ⟨5, 1⟩ 1).setNat (Reg.CAN_CTRL 1) 0x80000000).setCanState 1 2, by decide⟩,
    ⟨1, { (((((State.reset.setDev stSTANDBY).setFld Reg.PWR_SUPSTAT ⟨5, 1⟩ 1).setNat (Reg.CAN_CTRL 1) 0x80000000).setCanState 1 2)).updCan 1 fun c => { c with sending := some 2 } with now := 5 }, by decide⟩,
    ⟨1, (((State.reset.setDev stSTANDBY).setFld Reg.PWR_SUPSTAT ⟨5, 1⟩ 1).setNat (Reg.CAN_CTRL 1) 0x80000000).setCanState 1 4, by decide⟩,
    ⟨1, State.reset, by decide⟩,
    ⟨1, (((State.reset.setDev stSTANDBY).setFld Reg.PWR_SUPSTAT ⟨5, 1⟩ 1).setNat (Reg.CAN_CTRL 1) 0x80000000).setCanState 1 5, by decide⟩,
    ⟨1, State.reset, by decide⟩,
    ⟨1, 3, ((State.reset.updCan 1 fun c => { c with shadow := File.set [] c.shadow 3 [7, 8] }).setBit (Reg.CAN_FSTAT 1 3) Fld.CAN_FSTAT_SHADOW true), by decide⟩,
    ⟨1, 3, State.reset.setBit (Reg.CAN_FSTAT 1 3) Fld.CAN_FSTAT_ACTIVE true, by decide⟩,
    ⟨1, 3, State.reset, by decide⟩⟩

theorem test_met_can_bus_completes :
    (∃ (x : CanC) (b : Fin 3) (s : State), s.cdRun ∧ s.canOwns x.val b.val ∧ (s.can x.val).sending = some b.val ∧ (s.can x.val).abortAt = []) ∧
    (∃ (x : CanC) (b : Fin 3) (s : State), s.cdRun ∧ s.canOwns x.val b.val ∧ (s.can x.val).sending = some b.val ∧ (s.can x.val).abortAt = [] ∧ (s.can
      x.val).sleepDue = false ∧ (s.fld (Reg.CAN_CTRL x.val) Fld.CAN_CTRL_RETRY_LIM = 0 ∨ s.fld (Reg.CAN_TB_STAT x.val b.val) Fld.CAN_TB_STAT_RETRY <
      s.fld (Reg.CAN_CTRL x.val) Fld.CAN_CTRL_RETRY_LIM) ∧ s.fld (Reg.CAN_TB_STAT x.val b.val) Fld.CAN_TB_STAT_RETRY < 255) ∧
    (∃ (x : CanC) (b : Fin 3) (s : State), s.cdRun ∧ s.canOwns x.val b.val ∧ (s.can x.val).sending = some b.val ∧ (s.can x.val).abortAt = [] ∧ s.fld
      (Reg.CAN_CTRL x.val) Fld.CAN_CTRL_RETRY_LIM ≠ 0 ∧ s.fld (Reg.CAN_CTRL x.val) Fld.CAN_CTRL_RETRY_LIM ≤ s.fld (Reg.CAN_TB_STAT x.val b.val)
      Fld.CAN_TB_STAT_RETRY) ∧
    (∃ (x : CanC) (b : Fin 3) (s : State), s.cdRun ∧ s.canOwns x.val b.val ∧ (s.can x.val).sending = some b.val ∧ (s.can x.val).abortAt.contains b.val) ∧
    (∃ (x : CanC) (b : Fin 3) (s : State), s.cdRun ∧ s.canOwns x.val b.val ∧ (s.can x.val).sending = some b.val ∧ (s.can x.val).abortAt = [] ∧ s.fld
      (Reg.CAN_ERRCNT x.val) Fld.CAN_ERRCNT_TEC < 248 ∧ s.fld (Reg.CAN_CTRL x.val) Fld.CAN_CTRL_RETRY_LIM = 0) ∧
    (∃ (x : CanC) (b : Fin 3) (k : Bool) (s : State), s.cdRun ∧ s.canOwns x.val b.val ∧ (s.can x.val).sending = some b.val ∧ (s.can x.val).abortAt = []
      ∧ 256 ≤ s.fld (Reg.CAN_ERRCNT x.val) Fld.CAN_ERRCNT_TEC + (if k then 8 else 0)) ∧
    (∃ (x : CanC) (b : Fin 3) (s : State), s.cdRun ∧ s.canOwns x.val b.val ∧ (s.can x.val).sending = some b.val ∧ (s.can x.val).abortAt = [] ∧ (s.can
      x.val).dataErr.getD b.val 0 + 1 = s.fld (Reg.CAN_CTRL x.val) Fld.CAN_CTRL_COLL_TH) ∧
    (∃ (x : CanC) (s : State), s.cdRun ∧ s.canUp x.val ∧ s.canState x.val = 4) ∧
    (∃ (x : CanC) (f : CanFrame) (s : State), s.cdRun ∧ s.canUp x.val ∧ (s.canState x.val = 2 ∨ s.canState x.val = 3) ∧ f.fdf ∧ s.bit (Reg.CAN_CTRL
      x.val) Fld.CAN_CTRL_FD_EN = false) ∧
    (∃ (x : CanC) (f : CanFrame) (s : State), s.cdRun ∧ s.canUp x.val ∧ (s.canState x.val = 2 ∨ s.canState x.val = 3) ∧ (f.fdf = false ∨ s.bit
      (Reg.CAN_CTRL x.val) Fld.CAN_CTRL_FD_EN) ∧ (List.range 32).find? (s.canMatches x.val f) = none) ∧
    (∃ (x : CanC) (f : CanFrame) (m : Fin 32) (s : State), s.cdRun ∧ s.canUp x.val ∧ (s.canState x.val = 2 ∨ s.canState x.val = 3) ∧ (f.fdf = false ∨
      s.bit (Reg.CAN_CTRL x.val) Fld.CAN_CTRL_FD_EN) ∧ (List.range 32).find? (s.canMatches x.val f) = some m.val ∧ s.bit (Reg.CAN_FCFG x.val m.val)
      Fld.CAN_FCFG_SLOT ∧ s.bit (Reg.CAN_FCFG x.val m.val) Fld.CAN_FCFG_RING = false ∧ s.canEngines x.val m.val = []) ∧
    (∃ (x : CanC) (f : CanFrame) (s : State), s.cdRun ∧ s.canUp x.val ∧ s.canState x.val = 5 ∧ s.bit (Reg.CAN_CTRL x.val) Fld.CAN_CTRL_WAKE_MODE ∧
      s.canWakeFrame x.val f ∧ (f.fdf = false ∨ s.bit (Reg.CAN_CTRL x.val) Fld.CAN_CTRL_FD_EN) ∧ (List.range 32).find? (s.canMatches x.val f) = none) ∧
    (∃ (x : CanC) (s : State), s.cdRun ∧ s.canUp x.val ∧ (s.canState x.val = 2 ∨ s.canState x.val = 3)) ∧
    (∃ (x : CanC) (s : State), s.cdRun ∧ s.canUp x.val ∧ s.canState x.val = 5 ∧ s.bit (Reg.CAN_CTRL x.val) Fld.CAN_CTRL_WAKE_MODE = false) ∧
    (∃ (x : CanC) (s : State), s.cdRun ∧ s.canUp x.val ∧ s.canState x.val = 1 ∧ s.fld (Reg.CAN_ERRCNT x.val) Fld.CAN_ERRCNT_TEC < 128 ∧ s.fld
      (Reg.CAN_ERRCNT x.val) Fld.CAN_ERRCNT_REC < 128) ∧
    (∃ (x : CanC) (s : State), s.cdRun ∧ s.canUp x.val ∧ s.canState x.val = 1 ∧ s.fld (Reg.CAN_ERRCNT x.val) Fld.CAN_ERRCNT_TEC < 256 ∧ (128 ≤ s.fld
      (Reg.CAN_ERRCNT x.val) Fld.CAN_ERRCNT_TEC ∨ 128 ≤ s.fld (Reg.CAN_ERRCNT x.val) Fld.CAN_ERRCNT_REC)) ∧
    (∃ (x : CanC) (s : State), s.cdRun ∧ s.canUp x.val ∧ s.canState x.val = 1 ∧ 256 ≤ s.fld (Reg.CAN_ERRCNT x.val) Fld.CAN_ERRCNT_TEC) :=
  ⟨⟨1, 2, { ((((((State.reset.setDev stSTANDBY).setFld Reg.PWR_SUPSTAT ⟨5, 1⟩ 1).setNat (Reg.CAN_CTRL 1) 0x80000000).setCanState 1 2).setCanOwn 1 2 true)).updCan 1 fun c => { c with sending := some 2 } with now := 5 }, by decide⟩,
    ⟨1, 2, { ((((((State.reset.setDev stSTANDBY).setFld Reg.PWR_SUPSTAT ⟨5, 1⟩ 1).setNat (Reg.CAN_CTRL 1) 0x80000000).setCanState 1 2).setCanOwn 1 2 true)).updCan 1 fun c => { c with sending := some 2 } with now := 5 }, by decide⟩,
    ⟨1, 2, { ((((((State.reset.setDev stSTANDBY).setFld Reg.PWR_SUPSTAT ⟨5, 1⟩ 1).setNat (Reg.CAN_CTRL 1) 0x80010000).setCanState 1 2).setCanOwn 1 2 true).setFld (Reg.CAN_TB_STAT 1 2) Fld.CAN_TB_STAT_RETRY 1).updCan 1 fun c => { c with sending := some 2 } with now := 5 }, by decide⟩,
    ⟨1, 2, { (((((State.reset.setDev stSTANDBY).setFld Reg.PWR_SUPSTAT ⟨5, 1⟩ 1).setNat (Reg.CAN_CTRL 1) 0x80000000).setCanState 1 2).setCanOwn 1 2 true).updCan 1 fun c => { c with sending := some 2, abortAt := [2] } with now := 5 }, by decide⟩,
    ⟨1, 2, { ((((((State.reset.setDev stSTANDBY).setFld Reg.PWR_SUPSTAT ⟨5, 1⟩ 1).setNat (Reg.CAN_CTRL 1) 0x80000000).setCanState 1 2).setCanOwn 1 2 true)).updCan 1 fun c => { c with sending := some 2 } with now := 5 }, by decide⟩,
    ⟨1, 2, true, { ((((((State.reset.setDev stSTANDBY).setFld Reg.PWR_SUPSTAT ⟨5, 1⟩ 1).setNat (Reg.CAN_CTRL 1) 0x90000000).setCanState 1 2).setCanOwn 1 2 true).setFld (Reg.CAN_ERRCNT 1) Fld.CAN_ERRCNT_TEC 250).updCan 1 fun c => { c with sending := some 2 } with now := 5 }, by decide⟩,
    ⟨1, 2, { ((((((State.reset.setDev stSTANDBY).setFld Reg.PWR_SUPSTAT ⟨5, 1⟩ 1).setNat (Reg.CAN_CTRL 1) 0x80000100).setCanState 1 2).setCanOwn 1 2 true)).updCan 1 fun c => { c with sending := some 2 } with now := 5 }, by decide⟩,
    ⟨1, (((State.reset.setDev stSTANDBY).setFld Reg.PWR_SUPSTAT ⟨5, 1⟩ 1).setNat (Reg.CAN_CTRL 1) 0x80000000).setCanState 1 4, by decide⟩,
    ⟨1, ⟨5, false, false, true, false, false, 2, [1, 2], 77⟩, (((State.reset.setDev stSTANDBY).setFld Reg.PWR_SUPSTAT ⟨5, 1⟩ 1).setNat (Reg.CAN_CTRL 1) 0x80000000).setCanState 1 2, by decide⟩,
    ⟨1, ⟨5, false, false, false, false, false, 2, [1, 2], 77⟩, (((State.reset.setDev stSTANDBY).setFld Reg.PWR_SUPSTAT ⟨5, 1⟩ 1).setNat (Reg.CAN_CTRL 1) 0x80000000).setCanState 1 2, by decide⟩,
    ⟨1, ⟨5, false, false, false, false, false, 2, [1, 2], 77⟩, 3, ((((State.reset.setDev stSTANDBY).setFld Reg.PWR_SUPSTAT ⟨5, 1⟩ 1).setNat (Reg.CAN_CTRL 1) 0x80000000).setCanState 1 2).setNat (Reg.CAN_FCFG 1 3) 0x80000001, by decide⟩,
    ⟨1, ⟨5, false, false, false, false, false, 2, [1, 2], 77⟩, (((State.reset.setDev stSTANDBY).setFld Reg.PWR_SUPSTAT ⟨5, 1⟩ 1).setNat (Reg.CAN_CTRL 1) 0x82000000).setCanState 1 5, by decide⟩,
    ⟨1, (((State.reset.setDev stSTANDBY).setFld Reg.PWR_SUPSTAT ⟨5, 1⟩ 1).setNat (Reg.CAN_CTRL 1) 0x80000000).setCanState 1 2, by decide⟩,
    ⟨1, (((State.reset.setDev stSTANDBY).setFld Reg.PWR_SUPSTAT ⟨5, 1⟩ 1).setNat (Reg.CAN_CTRL 1) 0x80000000).setCanState 1 5, by decide⟩,
    ⟨1, (((State.reset.setDev stSTANDBY).setFld Reg.PWR_SUPSTAT ⟨5, 1⟩ 1).setNat (Reg.CAN_CTRL 1) 0x80000000).setCanState 1 1, by decide⟩,
    ⟨1, ((((State.reset.setDev stSTANDBY).setFld Reg.PWR_SUPSTAT ⟨5, 1⟩ 1).setNat (Reg.CAN_CTRL 1) 0x80000000).setCanState 1 1).setFld (Reg.CAN_ERRCNT 1) Fld.CAN_ERRCNT_TEC 130, by decide⟩,
    ⟨1, ((((State.reset.setDev stSTANDBY).setFld Reg.PWR_SUPSTAT ⟨5, 1⟩ 1).setNat (Reg.CAN_CTRL 1) 0x80000000).setCanState 1 1).setFld (Reg.CAN_ERRCNT 1) Fld.CAN_ERRCNT_TEC 256, by decide⟩⟩

set_option maxRecDepth 100000 in
theorem test_met_descriptors_complete :
    (∃ (r : Fin 12) (n : Nat) (s : State), s.cdRun ∧ s.fetchable r.val = n ∧ 0 < n ∧ s.firstInLine r.val ∧ (s.ring r.val).waiting = none ∧ (((s.ring
      r.val).queue ++ ((List.range n).map fun j => (⟨(s.devIdx r.val + j) % 2 ^ 32, s.hostBytes (s.ringBase r.val + 64 * ((s.devIdx r.val + j) % 2 ^ 32
      % s.ringN r.val)) 64, true⟩ : Fetched))).head?.all fun f => (s.refusal r.val f).isNone && f.opcode != 4 && f.opcode != 6)) ∧
    (∃ (r : Fin 12) (s : State), s.cdRun ∧ s.fetchable r.val ≠ 0 ∧ s.firstInLine r.val ∧ (s.ring r.val).waiting = none ∧ (s.ring r.val).queue = []) ∧
    (∃ (r : Fin 12) (f : Fetched) (s : State), s.cdRun ∧ (s.ring r.val).waiting = none ∧ (s.ring r.val).queue = [f] ∧ f.opcode = 0 ∧ s.refusal r.val f
      = none ∧ (f.headOk && f.zero 8 64) ∧ s.ringOn r.val ∧ s.canComplete r.val true ∧ (s.ring r.val).doneSet = [] ∧ f.index = s.doneHead r.val ∧
      s.events = []) ∧
    (∃ (r : Fin 12) (f : Fetched) (s : State), s.cdRun ∧ (s.ring r.val).waiting = none ∧ (s.ring r.val).queue = [f] ∧ f.opcode = 0 ∧ s.refusal r.val f
      = none ∧ (f.headOk && f.zero 8 64) = false) ∧
    (∃ (r : Fin 12) (f : Fetched) (s : State), s.cdRun ∧ (s.ring r.val).waiting = none ∧ (s.ring r.val).queue = [f] ∧ f.opcode = 1 ∧ s.refusal r.val f
      = none ∧ f.regOk 12 (0x10 + 4 * f.byteAt 0x0C) ∧ s.ringOn r.val ∧ s.canComplete r.val true ∧ (s.ring r.val).doneSet = [] ∧ f.index = s.doneHead
      r.val ∧ s.cqOf r.val < 24 ∧ ((List.range (f.byteAt 0x0C)).all fun k => Nat.ble 0x3000 (f.fieldAt 8 4 + 4 * k) && Nat.blt (f.fieldAt 8 4 + 4 * k)
      0x6000 && (Reg.row (f.fieldAt 8 4 + 4 * k)).any (fun x => x.present s.variant (f.fieldAt 8 4 + 4 * k)) && !([Reg.PWR_HU_CMD,
      Reg.PWR_VIO_CFG].contains (f.fieldAt 8 4 + 4 * k))) ∧ ((List.range 4).all fun i => (s.txn i).staged == [])) ∧
    (∃ (r : Fin 12) (f : Fetched) (s : State), s.cdRun ∧ (s.ring r.val).waiting = none ∧ (s.ring r.val).queue = [f] ∧ f.opcode = 1 ∧ s.refusal r.val f
      = none ∧ f.regOk 12 (0x10 + 4 * f.byteAt 0x0C) = false) ∧
    (∃ (r : Fin 12) (f : Fetched) (s : State), s.cdRun ∧ (s.ring r.val).waiting = none ∧ (s.ring r.val).queue = [f] ∧ f.opcode = 2 ∧ s.refusal r.val f
      = none ∧ f.regOk 10 0x10 ∧ s.ringOn r.val ∧ s.canComplete r.val true ∧ (s.ring r.val).doneSet = [] ∧ f.index = s.doneHead r.val ∧ s.events = []) ∧
    (∃ (r : Fin 12) (f : Fetched) (s : State), s.cdRun ∧ (s.ring r.val).waiting = none ∧ (s.ring r.val).queue = [f] ∧ f.opcode = 2 ∧ s.refusal r.val f
      = none ∧ f.regOk 10 0x10 = false) ∧
    (∃ (r : Fin 12) (f : Fetched) (k : Clu) (s : State), s.cdRun ∧ (s.ring r.val).waiting = none ∧ (s.ring r.val).queue = [f] ∧ f.opcode = 3 ∧
      s.refusal r.val f = none ∧ f.setpointOk ∧ s.ringOn r.val ∧ s.canComplete r.val true ∧ (s.ring r.val).doneSet = [] ∧ f.index = s.doneHead r.val ∧
      s.cqOf r.val < 24 ∧ ((List.range 4).all fun i => (s.txn i).staged == []) ∧ f.byteAt 8 = k.val ∧ k.val < s.variant.clusters ∧ f.byteAt 0x0B = 1) ∧
    (∃ (r : Fin 12) (f : Fetched) (s : State), s.cdRun ∧ (s.ring r.val).waiting = none ∧ (s.ring r.val).queue = [f] ∧ f.opcode = 3 ∧ s.refusal r.val f
      = none ∧ f.setpointOk = false) ∧
    (∃ (r : Fin 12) (dma : DmaRes) (f : Fetched) (x : Nat) (b : Nat) (s : State), s.cdRun ∧ (s.ring r.val).waiting = none ∧ (s.ring r.val).queue = [f]
      ∧ f.opcode = 5 ∧ s.refusal r.val f = none ∧ f.canOk x ∧ s.boundTo r.val = some x ∧ s.bit (Reg.CAN_CTRL x) Fld.CAN_CTRL_EN ∧ s.freeBuffer x = some
      b ∧ (f.byteAt 9 = 1 → dma.ok)) ∧
    (∃ (r : Fin 12) (f : Fetched) (x : Nat) (s : State), s.cdRun ∧ (s.ring r.val).waiting = none ∧ (s.ring r.val).queue = [f] ∧ f.opcode = 5 ∧
      s.refusal r.val f = none ∧ f.canOk x ∧ s.boundTo r.val = some x ∧ s.bit (Reg.CAN_CTRL x) Fld.CAN_CTRL_EN = false) ∧
    (∃ (r : Fin 12) (f : Fetched) (s : State), s.cdRun ∧ (s.ring r.val).waiting = none ∧ (s.ring r.val).queue = [f] ∧ f.opcode = 7 ∧ s.refusal r.val f
      = none ∧ s.ledgerOk f ∧ s.ringOn r.val ∧ s.canComplete r.val true ∧ (s.ring r.val).doneSet = [] ∧ f.index = s.doneHead r.val ∧ s.events = []) ∧
    (∃ (r : Fin 12) (f : Fetched) (s : State), s.cdRun ∧ (s.ring r.val).waiting = none ∧ (s.ring r.val).queue = [f] ∧ f.opcode = 7 ∧ s.refusal r.val f
      = none ∧ s.ledgerOk f) :=
  ⟨⟨0, 2, ((((((((State.reset.setNat Reg.HIF_STAT 0x80000001).setNat (Reg.HIF_RING_CFG 0) 0x80000004).setNat (Reg.HIF_RING_CFG 12) 0x80000004).setNat (Reg.HIF_RING_BASE_LO 0) 0x10000).setNat (Reg.HIF_RING_BASE_LO 12) 0x20000).setNat Reg.HIF_WB_BASE_LO 0x30000).setNat Reg.HIF_DB_BASE_LO 0x40000).setNat (Reg.HIF_RING_HOSTIDX 0) 2), by decide⟩,
    ⟨0, ((((((((State.reset.setNat Reg.HIF_STAT 0x80000001).setNat (Reg.HIF_RING_CFG 0) 0x80000004).setNat (Reg.HIF_RING_CFG 12) 0x80000004).setNat (Reg.HIF_RING_BASE_LO 0) 0x10000).setNat (Reg.HIF_RING_BASE_LO 12) 0x20000).setNat Reg.HIF_WB_BASE_LO 0x30000).setNat Reg.HIF_DB_BASE_LO 0x40000).setNat (Reg.HIF_RING_HOSTIDX 0) 2), by decide⟩,
    ⟨0, ⟨0, [0, 0, 0, 0, 7] ++ List.replicate 59 0, true⟩, (((((((((State.reset.setNat Reg.HIF_STAT 0x80000001).setNat (Reg.HIF_RING_CFG 0) 0x80000004).setNat (Reg.HIF_RING_CFG 12) 0x80000004).setNat (Reg.HIF_RING_BASE_LO 0) 0x10000).setNat (Reg.HIF_RING_BASE_LO 12) 0x20000).setNat Reg.HIF_WB_BASE_LO 0x30000).setNat Reg.HIF_DB_BASE_LO 0x40000).setNat (Reg.HIF_RING_HOSTIDX 0) 1).updRing 0 fun x => { x with queue := [⟨0, [0, 0, 0, 0, 7] ++ List.replicate 59 0, true⟩] }), by decide⟩,
    ⟨0, ⟨0, [0, 2, 0, 0, 7] ++ List.replicate 59 0, true⟩, (((((((((State.reset.setNat Reg.HIF_STAT 0x80000001).setNat (Reg.HIF_RING_CFG 0) 0x80000004).setNat (Reg.HIF_RING_CFG 12) 0x80000004).setNat (Reg.HIF_RING_BASE_LO 0) 0x10000).setNat (Reg.HIF_RING_BASE_LO 12) 0x20000).setNat Reg.HIF_WB_BASE_LO 0x30000).setNat Reg.HIF_DB_BASE_LO 0x40000).setNat (Reg.HIF_RING_HOSTIDX 0) 1).updRing 0 fun x => { x with queue := [⟨0, [0, 2, 0, 0, 7] ++ List.replicate 59 0, true⟩] }), by decide⟩,
    ⟨0, ⟨0, [1, 0, 0, 0, 7, 0, 0, 0, 8, 48, 0, 0, 1, 0, 0, 0, 69, 35, 1, 0] ++ List.replicate 44 0, true⟩, (((((((((State.reset.setNat Reg.HIF_STAT 0x80000001).setNat (Reg.HIF_RING_CFG 0) 0x80000004).setNat (Reg.HIF_RING_CFG 12) 0x80000004).setNat (Reg.HIF_RING_BASE_LO 0) 0x10000).setNat (Reg.HIF_RING_BASE_LO 12) 0x20000).setNat Reg.HIF_WB_BASE_LO 0x30000).setNat Reg.HIF_DB_BASE_LO 0x40000).setNat (Reg.HIF_RING_HOSTIDX 0) 1).updRing 0 fun x => { x with queue := [⟨0, [1, 0, 0, 0, 7, 0, 0, 0, 8, 48, 0, 0, 1, 0, 0, 0, 69, 35, 1, 0] ++ List.replicate 44 0, true⟩] }), by decide⟩,
    ⟨0, ⟨0, [1, 0, 0, 0, 7, 0, 0, 0, 2, 48, 0, 0, 1] ++ List.replicate 51 0, true⟩, (((((((((State.reset.setNat Reg.HIF_STAT 0x80000001).setNat (Reg.HIF_RING_CFG 0) 0x80000004).setNat (Reg.HIF_RING_CFG 12) 0x80000004).setNat (Reg.HIF_RING_BASE_LO 0) 0x10000).setNat (Reg.HIF_RING_BASE_LO 12) 0x20000).setNat Reg.HIF_WB_BASE_LO 0x30000).setNat Reg.HIF_DB_BASE_LO 0x40000).setNat (Reg.HIF_RING_HOSTIDX 0) 1).updRing 0 fun x => { x with queue := [⟨0, [1, 0, 0, 0, 7, 0, 0, 0, 2, 48, 0, 0, 1] ++ List.replicate 51 0, true⟩] }), by decide⟩,
    ⟨0, ⟨0, [2, 0, 0, 0, 7, 0, 0, 0, 0, 0, 0, 0, 2, 0, 0, 0] ++ List.replicate 48 0, true⟩, (((((((((State.reset.setNat Reg.HIF_STAT 0x80000001).setNat (Reg.HIF_RING_CFG 0) 0x80000004).setNat (Reg.HIF_RING_CFG 12) 0x80000004).setNat (Reg.HIF_RING_BASE_LO 0) 0x10000).setNat (Reg.HIF_RING_BASE_LO 12) 0x20000).setNat Reg.HIF_WB_BASE_LO 0x30000).setNat Reg.HIF_DB_BASE_LO 0x40000).setNat (Reg.HIF_RING_HOSTIDX 0) 1).updRing 0 fun x => { x with queue := [⟨0, [2, 0, 0, 0, 7, 0, 0, 0, 0, 0, 0, 0, 2, 0, 0, 0] ++ List.replicate 48 0, true⟩] }), by decide⟩,
    ⟨0, ⟨0, [2, 0, 0, 0, 7] ++ List.replicate 59 0, true⟩, (((((((((State.reset.setNat Reg.HIF_STAT 0x80000001).setNat (Reg.HIF_RING_CFG 0) 0x80000004).setNat (Reg.HIF_RING_CFG 12) 0x80000004).setNat (Reg.HIF_RING_BASE_LO 0) 0x10000).setNat (Reg.HIF_RING_BASE_LO 12) 0x20000).setNat Reg.HIF_WB_BASE_LO 0x30000).setNat Reg.HIF_DB_BASE_LO 0x40000).setNat (Reg.HIF_RING_HOSTIDX 0) 1).updRing 0 fun x => { x with queue := [⟨0, [2, 0, 0, 0, 7] ++ List.replicate 59 0, true⟩] }), by decide⟩,
    ⟨0, ⟨0, [3, 0, 0, 0, 7, 0, 0, 0, 0, 3, 2, 1, 77, 0, 0, 0, 5, 0, 0, 0, 6, 0, 0, 0] ++ List.replicate 40 0, true⟩, 0, (((((((((State.reset.setNat Reg.HIF_STAT 0x80000001).setNat (Reg.HIF_RING_CFG 0) 0x80000004).setNat (Reg.HIF_RING_CFG 12) 0x80000004).setNat (Reg.HIF_RING_BASE_LO 0) 0x10000).setNat (Reg.HIF_RING_BASE_LO 12) 0x20000).setNat Reg.HIF_WB_BASE_LO 0x30000).setNat Reg.HIF_DB_BASE_LO 0x40000).setNat (Reg.HIF_RING_HOSTIDX 0) 1).updRing 0 fun x => { x with queue := [⟨0, [3, 0, 0, 0, 7, 0, 0, 0, 0, 3, 2, 1, 77, 0, 0, 0, 5, 0, 0, 0, 6, 0, 0, 0] ++ List.replicate 40 0, true⟩] }), by decide⟩,
    ⟨0, ⟨0, [3, 0, 0, 0, 7, 0, 0, 0, 200] ++ List.replicate 55 0, true⟩, (((((((((State.reset.setNat Reg.HIF_STAT 0x80000001).setNat (Reg.HIF_RING_CFG 0) 0x80000004).setNat (Reg.HIF_RING_CFG 12) 0x80000004).setNat (Reg.HIF_RING_BASE_LO 0) 0x10000).setNat (Reg.HIF_RING_BASE_LO 12) 0x20000).setNat Reg.HIF_WB_BASE_LO 0x30000).setNat Reg.HIF_DB_BASE_LO 0x40000).setNat (Reg.HIF_RING_HOSTIDX 0) 1).updRing 0 fun x => { x with queue := [⟨0, [3, 0, 0, 0, 7, 0, 0, 0, 200] ++ List.replicate 55 0, true⟩] }), by decide⟩,
    ⟨0, ⟨true⟩, ⟨0, [5, 0, 0, 0, 7, 0, 0, 0, 1, 0, 0, 0, 0, 0, 20, 0, 2, 0, 0, 0, 0, 0, 0, 0, 170, 187] ++ List.replicate 38 0, true⟩, 1, 0, ((((((((((State.reset.setNat Reg.HIF_STAT 0x80000001).setNat (Reg.HIF_RING_CFG 0) 0x80000004).setNat (Reg.HIF_RING_CFG 12) 0x80000004).setNat (Reg.HIF_RING_BASE_LO 0) 0x10000).setNat (Reg.HIF_RING_BASE_LO 12) 0x20000).setNat Reg.HIF_WB_BASE_LO 0x30000).setNat Reg.HIF_DB_BASE_LO 0x40000).setNat (Reg.HIF_RING_HOSTIDX 0) 1).updRing 0 fun x => { x with queue := [⟨0, [5, 0, 0, 0, 7, 0, 0, 0, 1, 0, 0, 0, 0, 0, 20, 0, 2, 0, 0, 0, 0, 0, 0, 0, 170, 187] ++ List.replicate 38 0, true⟩] }).setNat (Reg.CAN_CTRL 1) 0x88000000).setNat (Reg.CAN_TXRING 1) 0, by decide⟩,
    ⟨0, ⟨0, [5, 0, 0, 0, 7, 0, 0, 0, 1, 0, 0, 0, 0, 0, 20, 0, 2, 0, 0, 0, 0, 0, 0, 0, 170, 187] ++ List.replicate 38 0, true⟩, 1, ((((((((((State.reset.setNat Reg.HIF_STAT 0x80000001).setNat (Reg.HIF_RING_CFG 0) 0x80000004).setNat (Reg.HIF_RING_CFG 12) 0x80000004).setNat (Reg.HIF_RING_BASE_LO 0) 0x10000).setNat (Reg.HIF_RING_BASE_LO 12) 0x20000).setNat Reg.HIF_WB_BASE_LO 0x30000).setNat Reg.HIF_DB_BASE_LO 0x40000).setNat (Reg.HIF_RING_HOSTIDX 0) 1).updRing 0 fun x => { x with queue := [⟨0, [5, 0, 0, 0, 7, 0, 0, 0, 1, 0, 0, 0, 0, 0, 20, 0, 2, 0, 0, 0, 0, 0, 0, 0, 170, 187] ++ List.replicate 38 0, true⟩] }).setNat (Reg.CAN_CTRL 1) 0x88000000).setNat (Reg.CAN_TXRING 1) 0 |>.setNat (Reg.CAN_CTRL 1) 0x08000000, by decide⟩,
    ⟨0, ⟨0, [7, 0, 0, 0, 7, 0, 0, 0, 0, 0, 0, 0, 4, 0, 0, 0, 0, 0, 0, 0, 0, 0, 0, 0, 0, 0, 5, 0, 0, 0, 0, 0] ++ List.replicate 32 0, true⟩, (((((((((State.reset.setNat Reg.HIF_STAT 0x80000001).setNat (Reg.HIF_RING_CFG 0) 0x80000004).setNat (Reg.HIF_RING_CFG 12) 0x80000004).setNat (Reg.HIF_RING_BASE_LO 0) 0x10000).setNat (Reg.HIF_RING_BASE_LO 12) 0x20000).setNat Reg.HIF_WB_BASE_LO 0x30000).setNat Reg.HIF_DB_BASE_LO 0x40000).setNat (Reg.HIF_RING_HOSTIDX 0) 1).updRing 0 fun x => { x with queue := [⟨0, [7, 0, 0, 0, 7, 0, 0, 0, 0, 0, 0, 0, 4, 0, 0, 0, 0, 0, 0, 0, 0, 0, 0, 0, 0, 0, 5, 0, 0, 0, 0, 0] ++ List.replicate 32 0, true⟩] }), by decide⟩,
    ⟨0, ⟨0, [7, 0, 0, 0, 7, 0, 0, 0, 0, 0, 0, 0, 4, 0, 0, 0, 0, 0, 0, 0, 0, 0, 0, 0, 0, 0, 5, 0, 0, 0, 0, 0] ++ List.replicate 32 0, true⟩, (((((((((State.reset.setNat Reg.HIF_STAT 0x80000001).setNat (Reg.HIF_RING_CFG 0) 0x80000004).setNat (Reg.HIF_RING_CFG 12) 0x80000004).setNat (Reg.HIF_RING_BASE_LO 0) 0x10000).setNat (Reg.HIF_RING_BASE_LO 12) 0x20000).setNat Reg.HIF_WB_BASE_LO 0x30000).setNat Reg.HIF_DB_BASE_LO 0x40000).setNat (Reg.HIF_RING_HOSTIDX 0) 1).updRing 0 fun x => { x with queue := [⟨0, [7, 0, 0, 0, 7, 0, 0, 0, 0, 0, 0, 0, 4, 0, 0, 0, 0, 0, 0, 0, 0, 0, 0, 0, 0, 0, 5, 0, 0, 0, 0, 0] ++ List.replicate 32 0, true⟩] }), by decide⟩⟩

set_option maxRecDepth 100000 in
theorem test_met_doorbells_complete :
    (∃ (s : State), s.cdRun ∧ s.barker ∧ s.barkerSt.reading = false) ∧
    (∃ (s : State), s.cdRun ∧ s.barker ∧ s.barkerSt.reading) ∧
    (∃ (s : State), s.cdRun ∧ s.bit Reg.HIF_STAT Fld.HIF_STAT_BME = false) ∧
    (∃ (s : State), s.cdRun ∧ s.bit Reg.HIF_CTRL Fld.HIF_CTRL_POLL_EN ∧ s.barkerSt.reading = false ∧ s.since s.barkerSt.pollAt (us (s.fld Reg.HIF_CTRL
      Fld.HIF_CTRL_POLL)) ∧ s.barker) ∧
    (∃ (ok : Bool) (s : State), s.cdRun ∧ s.barkerSt.reading ∧ (ok = false ∨ s.barker = false)) ∧
    (∃ (r : Ring) (v : Nat) (s : State), s.cdRun ∧ s.barkerSt.reading ∧ s.barker ∧ ((List.range 32).filter s.ringOn).head? = some r.val ∧ s.doorbell
      r.val = v ∧ s.tailOk r.val v ∧ s.bit (Reg.HIF_RING_STAT r.val) Fld.HIF_RING_STAT_FLUSHING = false) ∧
    (∃ (r : Ring) (v : Nat) (s : State), s.cdRun ∧ s.barkerSt.reading ∧ s.barker ∧ ((List.range 32).filter s.ringOn).head? = some r.val ∧ s.doorbell
      r.val = v ∧ s.tailOk r.val v = false ∧ s.bit (Reg.HIF_RING_STAT r.val) Fld.HIF_RING_STAT_STOPPED = false) ∧
    (∃ (r : Ring) (x : Nat) (s : State), s.cdRun ∧ Fld.HIF_RING_IRQ_EN.on (s.reg (Reg.HIF_RING_IRQ r.val)) ∧ Fld.HIF_RING_IRQ_TIMER.get (s.reg
      (Reg.HIF_RING_IRQ r.val)) ≠ 0 ∧ (s.ring r.val).irqSince = some x ∧ s.since x (us (Fld.HIF_RING_IRQ_TIMER.get (s.reg (Reg.HIF_RING_IRQ r.val)))) ∧
      s.bit Reg.HIF_STAT Fld.HIF_STAT_BME ∧ (s.reg (Reg.MSIX_CTRL (Fld.HIF_RING_IRQ_VECTOR.get (s.reg (Reg.HIF_RING_IRQ r.val))))).toNat % 2 = 0 ∧
      ((s.vec (Fld.HIF_RING_IRQ_VECTOR.get (s.reg (Reg.HIF_RING_IRQ r.val)))).last.all fun y => s.since y (us 1)) ∧ s.events = []) ∧
    (∃ (v : Fin 64) (s : State), s.cdRun ∧ (s.vec v.val).waiting ∧ ((s.vec v.val).last.all fun y => s.since y (us 1)) ∧ s.bit Reg.HIF_STAT
      Fld.HIF_STAT_BME ∧ (s.reg (Reg.MSIX_CTRL v.val)).toNat % 2 = 0 ∧ s.events = []) ∧
    (∃ (v : Fin 64) (s : State), s.cdRun ∧ (s.vec v.val).waiting ∧ ((s.vec v.val).last.all fun y => s.since y (us 1)) ∧ s.bit Reg.HIF_STAT
      Fld.HIF_STAT_BME ∧ (s.reg (Reg.MSIX_CTRL v.val)).toNat % 2 = 1) ∧
    (∃ (v : Fin 64) (s : State), s.cdRun ∧ (s.vec v.val).waiting ∧ ((s.vec v.val).last.all fun y => s.since y (us 1)) ∧ s.bit Reg.HIF_STAT
      Fld.HIF_STAT_BME = false) ∧
    (∃ (s : State), s.cdRun ∧ s.bit Reg.HIF_STAT Fld.HIF_STAT_LINKUP ∧ s.bit Reg.HIF_STAT Fld.HIF_STAT_BME = false) :=
  ⟨⟨((((((((State.reset.setNat Reg.HIF_STAT 0x80000001).setNat (Reg.HIF_RING_CFG 0) 0x80000004).setNat (Reg.HIF_RING_CFG 12) 0x80000004).setNat (Reg.HIF_RING_BASE_LO 0) 0x10000).setNat (Reg.HIF_RING_BASE_LO 12) 0x20000).setNat Reg.HIF_WB_BASE_LO 0x30000).setNat Reg.HIF_DB_BASE_LO 0x40000).setNat (Reg.HIF_RING_HOSTIDX 0) 1), by decide⟩,
    ⟨{ ((((((((State.reset.setNat Reg.HIF_STAT 0x80000001).setNat (Reg.HIF_RING_CFG 0) 0x80000004).setNat (Reg.HIF_RING_CFG 12) 0x80000004).setNat (Reg.HIF_RING_BASE_LO 0) 0x10000).setNat (Reg.HIF_RING_BASE_LO 12) 0x20000).setNat Reg.HIF_WB_BASE_LO 0x30000).setNat Reg.HIF_DB_BASE_LO 0x40000).setNat (Reg.HIF_RING_HOSTIDX 0) 1) with barkerSt := { reading := true } }, by decide⟩,
    ⟨State.reset, by decide⟩,
    ⟨(((((((((State.reset.setNat Reg.HIF_STAT 0x80000001).setNat (Reg.HIF_RING_CFG 0) 0x80000004).setNat (Reg.HIF_RING_CFG 12) 0x80000004).setNat (Reg.HIF_RING_BASE_LO 0) 0x10000).setNat (Reg.HIF_RING_BASE_LO 12) 0x20000).setNat Reg.HIF_WB_BASE_LO 0x30000).setNat Reg.HIF_DB_BASE_LO 0x40000).setNat (Reg.HIF_RING_HOSTIDX 0) 1).setNat Reg.HIF_CTRL 0x80000000), by decide⟩,
    ⟨false, { ((((((((State.reset.setNat Reg.HIF_STAT 0x80000001).setNat (Reg.HIF_RING_CFG 0) 0x80000004).setNat (Reg.HIF_RING_CFG 12) 0x80000004).setNat (Reg.HIF_RING_BASE_LO 0) 0x10000).setNat (Reg.HIF_RING_BASE_LO 12) 0x20000).setNat Reg.HIF_WB_BASE_LO 0x30000).setNat Reg.HIF_DB_BASE_LO 0x40000).setNat (Reg.HIF_RING_HOSTIDX 0) 1) with barkerSt := { reading := true } }, by decide⟩,
    ⟨0, 3, { (((((((((State.reset.setNat Reg.HIF_STAT 0x80000001).setNat (Reg.HIF_RING_CFG 0) 0x80000004).setNat (Reg.HIF_RING_CFG 12) 0x80000004).setNat (Reg.HIF_RING_BASE_LO 0) 0x10000).setNat (Reg.HIF_RING_BASE_LO 12) 0x20000).setNat Reg.HIF_WB_BASE_LO 0x30000).setNat Reg.HIF_DB_BASE_LO 0x40000).setNat (Reg.HIF_RING_HOSTIDX 0) 1).putHost 0x40000 [3]) with barkerSt := { reading := true } }, by decide⟩,
    ⟨0, 200, { (((((((((State.reset.setNat Reg.HIF_STAT 0x80000001).setNat (Reg.HIF_RING_CFG 0) 0x80000004).setNat (Reg.HIF_RING_CFG 12) 0x80000004).setNat (Reg.HIF_RING_BASE_LO 0) 0x10000).setNat (Reg.HIF_RING_BASE_LO 12) 0x20000).setNat Reg.HIF_WB_BASE_LO 0x30000).setNat Reg.HIF_DB_BASE_LO 0x40000).setNat (Reg.HIF_RING_HOSTIDX 0) 1).putHost 0x40000 [200]) with barkerSt := { reading := true } }, by decide⟩,
    ⟨3, 0, { ((((((((((State.reset.setNat Reg.HIF_STAT 0x80000001).setNat (Reg.HIF_RING_CFG 0) 0x80000004).setNat (Reg.HIF_RING_CFG 12) 0x80000004).setNat (Reg.HIF_RING_BASE_LO 0) 0x10000).setNat (Reg.HIF_RING_BASE_LO 12) 0x20000).setNat Reg.HIF_WB_BASE_LO 0x30000).setNat Reg.HIF_DB_BASE_LO 0x40000).setNat (Reg.HIF_RING_HOSTIDX 0) 1).setNat (Reg.HIF_RING_IRQ 3) 0x85000001).setNat (Reg.MSIX_CTRL 5) 0 |>.updRing 3 fun x => { x with irqSince := some 0 }) with now := 800 }, by decide⟩,
    ⟨5, { (((((((((State.reset.setNat Reg.HIF_STAT 0x80000001).setNat (Reg.HIF_RING_CFG 0) 0x80000004).setNat (Reg.HIF_RING_CFG 12) 0x80000004).setNat (Reg.HIF_RING_BASE_LO 0) 0x10000).setNat (Reg.HIF_RING_BASE_LO 12) 0x20000).setNat Reg.HIF_WB_BASE_LO 0x30000).setNat Reg.HIF_DB_BASE_LO 0x40000).setNat (Reg.HIF_RING_HOSTIDX 0) 1).setNat (Reg.MSIX_CTRL 5) 0 |>.updVec 5 fun x => { x with waiting := true, last := some 0 }) with now := 800 }, by decide⟩,
    ⟨5, { (((((((((State.reset.setNat Reg.HIF_STAT 0x80000001).setNat (Reg.HIF_RING_CFG 0) 0x80000004).setNat (Reg.HIF_RING_CFG 12) 0x80000004).setNat (Reg.HIF_RING_BASE_LO 0) 0x10000).setNat (Reg.HIF_RING_BASE_LO 12) 0x20000).setNat Reg.HIF_WB_BASE_LO 0x30000).setNat Reg.HIF_DB_BASE_LO 0x40000).setNat (Reg.HIF_RING_HOSTIDX 0) 1).setNat (Reg.MSIX_CTRL 5) 1 |>.updVec 5 fun x => { x with waiting := true, last := some 0 }) with now := 800 }, by decide⟩,
    ⟨5, { (State.reset.updVec 5 fun x => { x with waiting := true, last := some 0 }) with now := 800 }, by decide⟩,
    ⟨(State.reset.setNat Reg.HIF_STAT 1).updVec 5 fun m => { m with withheld := true }, by decide⟩⟩

set_option maxRecDepth 100000 in
theorem test_met_ring_control_completes :
    (∃ (r : Ring) (s : State), s.cdRun ∧ s.ringOn r.val = false ∧ s.mayEnable r.val = false) ∧
    (∃ (r : Ring) (s : State), s.cdRun ∧ s.ringOn r.val = false ∧ s.mayEnable r.val ∧ s.barker) ∧
    (∃ (r : Ring) (s : State), s.cdRun ∧ s.ringOn r.val = false ∧ s.mayEnable r.val ∧ s.barker = false) ∧
    (∃ (r : Ring) (s : State), s.cdRun ∧ s.ringOn r.val = false ∧ s.mayEnable r.val ∧ s.barker ∧ r.val < 12 ∧ (s.ring r.val).held = [] ∧ s.executing
      r.val = [] ∧ s.doorbell r.val = (s.wbWord r.val).1) ∧
    (∃ (r : Ring) (s : State), s.cdRun ∧ s.ringOn r.val = false ∧ s.mayEnable r.val ∧ s.barker ∧ 12 ≤ r.val ∧ r.val < 24 ∧ (s.wbWord r.val).2 = (s.reg
      Reg.HIF_EPOCH).toNat) ∧
    (∃ (r : Ring) (s : State), s.cdRun ∧ s.ringOn r.val ∧ 12 ≤ r.val) ∧
    (∃ (r : Ring) (s : State), s.cdRun ∧ s.ringOn r.val ∧ r.val < 12 ∧ s.boundTo r.val = none ∧ (s.ring r.val).waiting = none) ∧
    (∃ (r : Ring) (p : Fetched × Nat) (s : State), s.cdRun ∧ s.ringOn r.val ∧ r.val < 12 ∧ s.boundTo r.val = none ∧ (s.ring r.val).waiting = some p) ∧
    (∃ (s : State), s.cdRun) ∧
    (∃ (s : State), s.cdRun ∧ s.bit Reg.HIF_STAT Fld.HIF_STAT_LINKUP) ∧
    (∃ (s : State), s.cdRun ∧ s.bit Reg.HIF_STAT Fld.HIF_STAT_D3HOT = false) ∧
    (∃ (s : State), s.cdRun ∧ s.bit Reg.HIF_STAT Fld.HIF_STAT_D3HOT) :=
  ⟨⟨0, State.reset, by decide⟩,
    ⟨13, (((((((((State.reset.setNat Reg.HIF_STAT 0x80000001).setNat (Reg.HIF_RING_CFG 0) 0x80000004).setNat (Reg.HIF_RING_CFG 12) 0x80000004).setNat (Reg.HIF_RING_BASE_LO 0) 0x10000).setNat (Reg.HIF_RING_BASE_LO 12) 0x20000).setNat Reg.HIF_WB_BASE_LO 0x30000).setNat Reg.HIF_DB_BASE_LO 0x40000).setNat (Reg.HIF_RING_HOSTIDX 0) 1).setNat (Reg.HIF_RING_CFG 13) 4), by decide⟩,
    ⟨13, State.reset.setNat (Reg.HIF_RING_CFG 13) 4, by decide⟩,
    ⟨1, (((((((((State.reset.setNat Reg.HIF_STAT 0x80000001).setNat (Reg.HIF_RING_CFG 0) 0x80000004).setNat (Reg.HIF_RING_CFG 12) 0x80000004).setNat (Reg.HIF_RING_BASE_LO 0) 0x10000).setNat (Reg.HIF_RING_BASE_LO 12) 0x20000).setNat Reg.HIF_WB_BASE_LO 0x30000).setNat Reg.HIF_DB_BASE_LO 0x40000).setNat (Reg.HIF_RING_HOSTIDX 0) 1).setNat (Reg.HIF_RING_CFG 1) 4), by decide⟩,
    ⟨13, (((((((((State.reset.setNat Reg.HIF_STAT 0x80000001).setNat (Reg.HIF_RING_CFG 0) 0x80000004).setNat (Reg.HIF_RING_CFG 12) 0x80000004).setNat (Reg.HIF_RING_BASE_LO 0) 0x10000).setNat (Reg.HIF_RING_BASE_LO 12) 0x20000).setNat Reg.HIF_WB_BASE_LO 0x30000).setNat Reg.HIF_DB_BASE_LO 0x40000).setNat (Reg.HIF_RING_HOSTIDX 0) 1).setNat (Reg.HIF_RING_CFG 13) 4), by decide⟩,
    ⟨12, ((((((((State.reset.setNat Reg.HIF_STAT 0x80000001).setNat (Reg.HIF_RING_CFG 0) 0x80000004).setNat (Reg.HIF_RING_CFG 12) 0x80000004).setNat (Reg.HIF_RING_BASE_LO 0) 0x10000).setNat (Reg.HIF_RING_BASE_LO 12) 0x20000).setNat Reg.HIF_WB_BASE_LO 0x30000).setNat Reg.HIF_DB_BASE_LO 0x40000).setNat (Reg.HIF_RING_HOSTIDX 0) 1), by decide⟩,
    ⟨0, ((((((((State.reset.setNat Reg.HIF_STAT 0x80000001).setNat (Reg.HIF_RING_CFG 0) 0x80000004).setNat (Reg.HIF_RING_CFG 12) 0x80000004).setNat (Reg.HIF_RING_BASE_LO 0) 0x10000).setNat (Reg.HIF_RING_BASE_LO 12) 0x20000).setNat Reg.HIF_WB_BASE_LO 0x30000).setNat Reg.HIF_DB_BASE_LO 0x40000).setNat (Reg.HIF_RING_HOSTIDX 0) 2), by decide⟩,
    ⟨0, (⟨0, [], true⟩, 0), (((((((((State.reset.setNat Reg.HIF_STAT 0x80000001).setNat (Reg.HIF_RING_CFG 0) 0x80000004).setNat (Reg.HIF_RING_CFG 12) 0x80000004).setNat (Reg.HIF_RING_BASE_LO 0) 0x10000).setNat (Reg.HIF_RING_BASE_LO 12) 0x20000).setNat Reg.HIF_WB_BASE_LO 0x30000).setNat Reg.HIF_DB_BASE_LO 0x40000).setNat (Reg.HIF_RING_HOSTIDX 0) 2).updRing 0 fun x => { x with waiting := some (⟨0, [], true⟩, 0) }), by decide⟩,
    ⟨((((((((State.reset.setNat Reg.HIF_STAT 0x80000001).setNat (Reg.HIF_RING_CFG 0) 0x80000004).setNat (Reg.HIF_RING_CFG 12) 0x80000004).setNat (Reg.HIF_RING_BASE_LO 0) 0x10000).setNat (Reg.HIF_RING_BASE_LO 12) 0x20000).setNat Reg.HIF_WB_BASE_LO 0x30000).setNat Reg.HIF_DB_BASE_LO 0x40000).setNat (Reg.HIF_RING_HOSTIDX 0) 1), by decide⟩,
    ⟨((((((((State.reset.setNat Reg.HIF_STAT 0x80000001).setNat (Reg.HIF_RING_CFG 0) 0x80000004).setNat (Reg.HIF_RING_CFG 12) 0x80000004).setNat (Reg.HIF_RING_BASE_LO 0) 0x10000).setNat (Reg.HIF_RING_BASE_LO 12) 0x20000).setNat Reg.HIF_WB_BASE_LO 0x30000).setNat Reg.HIF_DB_BASE_LO 0x40000).setNat (Reg.HIF_RING_HOSTIDX 0) 1), by decide⟩,
    ⟨((((((((State.reset.setNat Reg.HIF_STAT 0x80000001).setNat (Reg.HIF_RING_CFG 0) 0x80000004).setNat (Reg.HIF_RING_CFG 12) 0x80000004).setNat (Reg.HIF_RING_BASE_LO 0) 0x10000).setNat (Reg.HIF_RING_BASE_LO 12) 0x20000).setNat Reg.HIF_WB_BASE_LO 0x30000).setNat Reg.HIF_DB_BASE_LO 0x40000).setNat (Reg.HIF_RING_HOSTIDX 0) 1), by decide⟩,
    ⟨(((((((((State.reset.setNat Reg.HIF_STAT 0x80000001).setNat (Reg.HIF_RING_CFG 0) 0x80000004).setNat (Reg.HIF_RING_CFG 12) 0x80000004).setNat (Reg.HIF_RING_BASE_LO 0) 0x10000).setNat (Reg.HIF_RING_BASE_LO 12) 0x20000).setNat Reg.HIF_WB_BASE_LO 0x30000).setNat Reg.HIF_DB_BASE_LO 0x40000).setNat (Reg.HIF_RING_HOSTIDX 0) 1).setBit Reg.HIF_STAT Fld.HIF_STAT_D3HOT true), by decide⟩⟩

set_option maxRecDepth 100000 in
theorem test_met_capture_completes :
    (∃ (r : Ring) (s : State), s.cdRun ∧ 28 ≤ r.val ∧ s.ringOn r.val ∧ 4096 ≤ (s.ring r.val).block.length) ∧
    (∃ (r : Ring) (s : State), s.cdRun ∧ 28 ≤ r.val ∧ s.ringOn r.val ∧ (s.ring r.val).block.length < 4096 ∧ ((s.ring r.val).block.length + 1 <
      s.blkSize r.val / 16 - 1 ∨ s.room r.val = false ∨ s.barker = false)) ∧
    (∃ (r : Ring) (s : State), s.cdRun ∧ 28 ≤ r.val ∧ s.ringOn r.val ∧ (s.ring r.val).block.length < 4096 ∧ (s.ring r.val).block.length + 1 = s.blkSize
      r.val / 16 - 1 ∧ s.room r.val ∧ s.barker) ∧
    (∃ (r : Ring) (x : Nat) (s : State), s.cdRun ∧ 28 ≤ r.val ∧ s.ringOn r.val ∧ (s.ring r.val).blockAt = some x ∧ s.since x (us (s.fld
      (Reg.HIF_CAP_CFG (r.val - 28)) Fld.HIF_CAP_CFG_FLUSH)) ∧ s.room r.val ∧ s.barker) :=
  ⟨⟨28, ((State.reset.setNat Reg.HIF_STAT 0x80000001).setNat (Reg.HIF_RING_CFG 28) 0x80000002).updRing 28 fun x => { x with block := List.replicate 4096 [] }, by decide⟩,
    ⟨28, ((State.reset.setNat Reg.HIF_STAT 0x80000001).setNat (Reg.HIF_RING_CFG 28) 0x80000002), by decide⟩,
    ⟨28, ((State.reset.setNat Reg.HIF_STAT 0x80000001).setNat (Reg.HIF_RING_CFG 28) 0x80000002).updRing 28 fun x => { x with block := List.replicate 254 [] }, by decide⟩,
    ⟨28, 0, { (((State.reset.setNat Reg.HIF_STAT 0x80000001).setNat (Reg.HIF_RING_CFG 28) 0x80000002).updRing 28 fun x => { x with block := [[1]], blockAt := some 0 }) with now := 80000000 }, by decide⟩⟩

set_option maxRecDepth 100000 in
theorem test_met_notices_complete :
    (∃ (p : Party) (u : Bool) (c : Chan) (s : State), s.cdRun ∧ s.reaches c.val (partyCode p) u = false) ∧
    (∃ (p : Party) (u : Bool) (c : Chan) (s : State), s.cdRun ∧ s.reaches c.val (partyCode p) u ∧ s.partyUp (s.endpoint c.val (!(s.sends c.val
      (partyCode p)))) ∧ (s.dir c.val (s.sends c.val (partyCode p))).busy = false ∧ s.endpoint c.val (!(s.sends c.val (partyCode p))) ≠ 6) ∧
    (∃ (p : Party) (u : Bool) (c : Chan) (s : State), s.cdRun ∧ s.reaches c.val (partyCode p) u ∧ s.partyUp (s.endpoint c.val (!(s.sends c.val
      (partyCode p)))) ∧ (s.dir c.val (s.sends c.val (partyCode p))).busy) ∧
    (∃ (u : Bool) (c : Chan) (s : State), s.cdRun ∧ s.reaches c.val 0 u ∧ s.partyUp (s.endpoint c.val (!(s.sends c.val 0))) = false) ∧
    (∃ (p : Party) (u : Bool) (c : Chan) (s : State), s.cdRun ∧ s.reaches c.val (partyCode p) u ∧ p ≠ .host ∧ s.partyUp (s.endpoint c.val (!(s.sends
      c.val (partyCode p)))) = false) ∧
    (∃ (p : Party) (u : Bool) (c : Chan) (v : Word) (s : State), s.cdRun ∧ s.reaches c.val (partyCode p) u ∧ (s.dir c.val (s.sends c.val (partyCode
      p))).busy = false ∧ s.endpoint c.val (!(s.sends c.val (partyCode p))) = 6 ∧ (v.toNat / 65536 = 0 ∨ 5 < v.toNat / 65536 ∨ v.toNat % 65536 ≠ 0)) ∧
    (∃ (p : Party) (u : Bool) (c : Chan) (s : State), s.cdRun ∧ s.reaches c.val (partyCode p) u = false) ∧
    (∃ (u : Bool) (c : Chan) (s : State), s.cdRun ∧ s.reaches c.val 0 u ∧ s.partyUp (s.endpoint c.val (!(s.sends c.val 0))) = false) ∧
    (∃ (p : Party) (u : Bool) (c : Chan) (s : State), s.cdRun ∧ s.reaches c.val (partyCode p) u ∧ (p ≠ .host ∨ s.partyUp (s.endpoint c.val (!(s.sends
      c.val (partyCode p))))) ∧ (s.dir c.val (!(s.sends c.val (partyCode p)))).valid ∧ s.events = []) ∧
    (∃ (p : Party) (u : Bool) (c : Chan) (s : State), s.cdRun ∧ s.reaches c.val (partyCode p) u = false) ∧
    (∃ (p : Party) (u : Bool) (c : Chan) (v : Word) (s : State), s.cdRun ∧ s.reaches c.val (partyCode p) u ∧ (s.dir c.val (!(s.sends c.val (partyCode
      p)))).valid ∧ v.toNat % 65536 ≤ 0x7FFF ∧ v.toNat / 65536 = (s.dir c.val (!(s.sends c.val (partyCode p)))).repoch) ∧
    (∃ (p : Party) (u : Bool) (c : Chan) (s : State), s.cdRun ∧ s.reaches c.val (partyCode p) u ∧ (s.dir c.val (!(s.sends c.val (partyCode p)))).valid
      = false) ∧
    (∃ (p : Party) (u : Bool) (c : Chan) (v : Word) (s : State), s.cdRun ∧ s.reaches c.val (partyCode p) u ∧ (s.dir c.val (!(s.sends c.val (partyCode
      p)))).valid ∧ 0x7FFF < v.toNat % 65536) ∧
    (∃ (p : Party) (u : Bool) (c : Chan) (v : Word) (s : State), s.cdRun ∧ s.reaches c.val (partyCode p) u ∧ (s.dir c.val (!(s.sends c.val (partyCode
      p)))).valid ∧ v.toNat % 65536 ≤ 0x7FFF ∧ v.toNat / 65536 ≠ (s.dir c.val (!(s.sends c.val (partyCode p)))).repoch) ∧
    (∃ (c : Chan) (d : Bool) (s : State), s.cdRun ∧ s.chanOn c.val ∧ (s.dir c.val d).busy ∧ s.since (s.dir c.val d).posted (us (100 * s.fld
      (Reg.MBX_CH_TO c.val) Fld.MBX_CH_TO_ACK_TO)) ∧ s.crossed c.val = false) ∧
    (∃ (c : Chan) (d : Bool) (s : State), s.cdRun ∧ (s.dir c.val d).busy ∧ s.since (s.dir c.val d).posted (us (100 * s.fld (Reg.MBX_CH_TO c.val)
      Fld.MBX_CH_TO_ACK_TO)) ∧ s.crossed c.val) ∧
    (∃ (c : Chan) (s : State), s.cdRun ∧ s.crossed c.val) :=
  ⟨⟨.host, false, 0, State.reset, by decide⟩,
    ⟨.lt 0, false, 0, (((State.reset.setNat (Reg.MBX_CH_CFG 0) 0x80120000).setNat (Reg.MBX_CH_TO 0) 0x20001).updTrip 4 fun r => { r with runs := true }), by decide⟩,
    ⟨.host, false, 0, ((State.reset.setNat (Reg.MBX_CH_CFG 0) 0x80700000).updDir 0 false fun n => { n with busy := true }), by decide⟩,
    ⟨false, 0, (State.reset.setNat (Reg.MBX_CH_CFG 0) 0x80100000), by decide⟩,
    ⟨.lt 0, false, 0, ((State.reset.setNat (Reg.MBX_CH_CFG 0) 0x80120000).setNat (Reg.MBX_CH_TO 0) 0x20001), by decide⟩,
    ⟨.mt, false, 9, 0x70000, State.reset, by decide⟩,
    ⟨.host, false, 0, State.reset, by decide⟩,
    ⟨false, 0, (State.reset.setNat (Reg.MBX_CH_CFG 0) 0x80100000), by decide⟩,
    ⟨.mt, false, 0, ((((State.reset.setNat (Reg.MBX_CH_CFG 0) 0x80120000).setNat (Reg.MBX_CH_TO 0) 0x20001).updTrip 4 fun r => { r with runs := true }).updDir 0 false fun n => { n with busy := true, valid := true, tag := 9, repoch := 3 }), by decide⟩,
    ⟨.host, false, 0, State.reset, by decide⟩,
    ⟨.mt, false, 0, 0x30005, ((((State.reset.setNat (Reg.MBX_CH_CFG 0) 0x80120000).setNat (Reg.MBX_CH_TO 0) 0x20001).updTrip 4 fun r => { r with runs := true }).updDir 0 false fun n => { n with busy := true, valid := true, tag := 9, repoch := 3 }), by decide⟩,
    ⟨.mt, false, 0, (((State.reset.setNat (Reg.MBX_CH_CFG 0) 0x80120000).setNat (Reg.MBX_CH_TO 0) 0x20001).updTrip 4 fun r => { r with runs := true }), by decide⟩,
    ⟨.mt, false, 0, 0x38005, ((((State.reset.setNat (Reg.MBX_CH_CFG 0) 0x80120000).setNat (Reg.MBX_CH_TO 0) 0x20001).updTrip 4 fun r => { r with runs := true }).updDir 0 false fun n => { n with busy := true, valid := true, tag := 9, repoch := 3 }), by decide⟩,
    ⟨.mt, false, 0, 0x40005, ((((State.reset.setNat (Reg.MBX_CH_CFG 0) 0x80120000).setNat (Reg.MBX_CH_TO 0) 0x20001).updTrip 4 fun r => { r with runs := true }).updDir 0 false fun n => { n with busy := true, valid := true, tag := 9, repoch := 3 }), by decide⟩,
    ⟨0, false, { ((((State.reset.setNat (Reg.MBX_CH_CFG 0) 0x80120000).setNat (Reg.MBX_CH_TO 0) 0x20001).updTrip 4 fun r => { r with runs := true }).updDir 0 false fun n => { n with busy := true, valid := true, tag := 9, repoch := 3 }) with now := 400000 }, by decide⟩,
    ⟨0, false, { (((((State.reset.setNat (Reg.MBX_CH_CFG 0) 0x80120000).setNat (Reg.MBX_CH_TO 0) 0x20001).updTrip 4 fun r => { r with runs := true }).updDir 0 false fun n => { n with busy := true, valid := true, tag := 9, repoch := 3 }).updDir 0 true fun n => { n with busy := true, valid := true }) with now := 400000 }, by decide⟩,
    ⟨0, { (((((State.reset.setNat (Reg.MBX_CH_CFG 0) 0x80120000).setNat (Reg.MBX_CH_TO 0) 0x20001).updTrip 4 fun r => { r with runs := true }).updDir 0 false fun n => { n with busy := true, valid := true, tag := 9, repoch := 3 }).updDir 0 true fun n => { n with busy := true, valid := true }) with now := 400000 }, by decide⟩⟩

set_option maxRecDepth 100000 in
theorem test_met_parties_complete :
    (∃ (s : State), s.cdRun) ∧
    (∃ (s : State), s.cdRun) ∧
    (∃ (s : State), s.cdRun) ∧
    (∃ (s : State), s.cdRun) ∧
    (∃ (s : State), s.cdRun) ∧
    (∃ (s : State), s.cdRun ∧ s.vioOk 0) ∧
    (∃ (s : State), s.cdRun ∧ s.vioOk 0 = false) ∧
    (∃ (s : State), s.cdRun) ∧
    (∃ (i : Fin 4) (s : State), s.cdRun ∧ (s.trip i.val).img = 1) ∧
    (∃ (i : Fin 4) (s : State), s.cdRun ∧ (s.trip i.val).img ≠ 1) ∧
    (∃ (s : State), s.cdRun) ∧
    (∃ (s : State), s.cdRun) ∧
    (∃ (c : Chan) (s : State), s.cdRun ∧ 8 ≤ c.val) ∧
    (∃ (c : Chan) (v : Word) (s : State), s.cdRun ∧ c.val < 8 ∧ s.locked = false ∧ (s.dir c.val false).busy = false ∧ (s.dir c.val true).busy = false ∧
      Fld.MBX_CH_CFG_EN.on v ∧ Fld.MBX_CH_CFG_EPA.get v ≠ Fld.MBX_CH_CFG_EPB.get v ∧ Fld.MBX_CH_CFG_EPA.get v ≠ 6 ∧ Fld.MBX_CH_CFG_EPB.get v ≠ 6 ∧ s.fld
      (Reg.MBX_CH_TO c.val) Fld.MBX_CH_TO_CROSS_TO ≠ 0 ∧ s.fld (Reg.MBX_CH_TO c.val) Fld.MBX_CH_TO_CROSS_TO < s.fld (Reg.MBX_CH_TO c.val)
      Fld.MBX_CH_TO_ACK_TO) ∧
    (∃ (c : Chan) (v : Word) (s : State), s.cdRun ∧ c.val < 8 ∧ s.locked = false ∧ (s.dir c.val false).busy = false ∧ (s.dir c.val true).busy = false ∧
      Fld.MBX_CH_CFG_EN.on v ∧ (Fld.MBX_CH_CFG_EPA.get v = Fld.MBX_CH_CFG_EPB.get v ∨ Fld.MBX_CH_CFG_EPA.get v = 6 ∨ Fld.MBX_CH_CFG_EPB.get v = 6)) ∧
    (∃ (c : Chan) (v : Word) (s : State), s.cdRun ∧ s.locked = false ∧ (s.dir c.val false).busy = false ∧ (s.dir c.val true).busy = false ∧
      Fld.MBX_CH_TO_ACK_TO.get v ≠ 0 ∧ Fld.MBX_CH_TO_CROSS_TO.get v ≠ 0) ∧
    (∃ (c : Chan) (b : Bool) (s : State), s.cdRun ∧ (c.val < 8 ∨ b) ∧ s.locked = false ∧ ((s.dir c.val false).busy ∨ (s.dir c.val true).busy)) ∧
    (∃ (c : Chan) (v : Word) (s : State), s.cdRun ∧ s.locked ∧ v ≠ s.reg (Reg.MBX_CH_TO c.val)) :=
  ⟨⟨((((((((State.reset.setNat Reg.HIF_STAT 0x80000001).setNat (Reg.HIF_RING_CFG 0) 0x80000004).setNat (Reg.HIF_RING_CFG 12) 0x80000004).setNat (Reg.HIF_RING_BASE_LO 0) 0x10000).setNat (Reg.HIF_RING_BASE_LO 12) 0x20000).setNat Reg.HIF_WB_BASE_LO 0x30000).setNat Reg.HIF_DB_BASE_LO 0x40000).setNat (Reg.HIF_RING_HOSTIDX 0) 1), by decide⟩,
    ⟨((((State.reset.setNat (Reg.MBX_CH_CFG 0) 0x80120000).setNat (Reg.MBX_CH_TO 0) 0x20001).updTrip 4 fun r => { r with runs := true }).updDir 0 false fun n => { n with busy := true, valid := true, tag := 9, repoch := 3 }), by decide⟩,
    ⟨((((State.reset.setNat (Reg.MBX_CH_CFG 0) 0x80120000).setNat (Reg.MBX_CH_TO 0) 0x20001).updTrip 4 fun r => { r with runs := true }).updDir 0 false fun n => { n with busy := true, valid := true, tag := 9, repoch := 3 }), by decide⟩,
    ⟨State.reset, by decide⟩,
    ⟨State.reset, by decide⟩,
    ⟨State.reset.setFld Reg.PWR_SUPSTAT ⟨3, 1⟩ 1, by decide⟩,
    ⟨State.reset, by decide⟩,
    ⟨((State.reset.setNat (Reg.MBX_CH_CFG 0) 0x80120000).setNat (Reg.MBX_CH_TO 0) 0x20001).updDir 0 false fun n => { n with busy := true, held := true }, by decide⟩,
    ⟨0, (((State.reset.setNat (Reg.MBX_CH_CFG 0) 0x80120000).setNat (Reg.MBX_CH_TO 0) 0x20001).updTrip 0 fun r => { r with img := 1 }).updDir 0 true fun n => { n with busy := true, held := true }, by decide⟩,
    ⟨0, State.reset, by decide⟩,
    ⟨State.reset, by decide⟩,
    ⟨State.reset, by decide⟩,
    ⟨9, State.reset, by decide⟩,
    ⟨0, 0x80210000, State.reset.setNat (Reg.MBX_CH_TO 0) 0x20001, by decide⟩,
    ⟨0, 0x80110000, State.reset, by decide⟩,
    ⟨0, 0x20001, State.reset, by decide⟩,
    ⟨0, true, ((((State.reset.setNat (Reg.MBX_CH_CFG 0) 0x80120000).setNat (Reg.MBX_CH_TO 0) 0x20001).updTrip 4 fun r => { r with runs := true }).updDir 0 false fun n => { n with busy := true, valid := true, tag := 9, repoch := 3 }), by decide⟩,
    ⟨0, 0x20001, State.reset.setBit Reg.GLB_COMLOCK Fld.GLB_COMLOCK_LOCKED true, by decide⟩⟩

set_option maxRecDepth 100000 in
theorem test_met_recorder_completes :
    (∃ (e : RecEntry) (l : List RecEntry) (s : State), s.recQueue = e :: l ∧ s.cdRun ∧ s.bit Reg.REC_STAT Fld.REC_STAT_FROZEN = false ∧
      s.power.storeHeld = false ∧ s.worn 2 = false) ∧
    (∃ (e : RecEntry) (l : List RecEntry) (s : State), s.recQueue = e :: l ∧ s.cdRun ∧ s.bit Reg.REC_STAT Fld.REC_STAT_FROZEN = false ∧
      s.power.storeHeld = false ∧ s.worn 2 ∧ e.kind = 2) ∧
    (∃ (e : RecEntry) (l : List RecEntry) (s : State), s.recQueue = e :: l ∧ s.cdRun ∧ s.bit Reg.REC_STAT Fld.REC_STAT_FROZEN = false ∧
      s.power.storeHeld = false ∧ s.worn 2 ∧ e.kind ≠ 2) ∧
    (∃ (s : State), s.cdRun ∧ s.bit Reg.REC_STAT Fld.REC_STAT_FROZEN = false) ∧
    (∃ (s : State), s.cdRun ∧ s.bit Reg.REC_STAT Fld.REC_STAT_FROZEN) ∧
    (∃ (s : State), s.cdRun ∧ s.bit Reg.REC_STAT Fld.REC_STAT_FROZEN) ∧
    (∃ (s : State), s.cdRun ∧ s.bit Reg.REC_STAT Fld.REC_STAT_FROZEN = false) ∧
    (∃ (s : State), s.cdRun ∧ s.bit Reg.REC_STAT Fld.REC_STAT_FROZEN ∧ s.since s.recst.frozenAt (secs (s.fld Reg.REC_CTRL Fld.REC_CTRL_FREEZE_TO))) ∧
    (∃ (p : Fin 32) (s : State), s.cdRun ∧ Fld.REC_P_CFG_EN.on (s.reg (Reg.REC_P_CFG p.val)) ∧ Fld.REC_P_CFG_SRC.get (s.reg (Reg.REC_P_CFG p.val)) = 3
      ∧ ((s.prof p.val).last.all fun x => s.since x (ms (Fld.REC_P_CFG_HOLDOFF.get (s.reg (Reg.REC_P_CFG p.val))))) ∧ s.bit Reg.REC_STAT
      Fld.REC_STAT_FROZEN = false ∧ s.recQueue.length < 256 ∧ s.worn 2 = false) ∧
    (∃ (p : Fin 32) (s : State), s.cdRun ∧ Fld.REC_P_CFG_EN.on (s.reg (Reg.REC_P_CFG p.val)) ∧ Fld.REC_P_CFG_SRC.get (s.reg (Reg.REC_P_CFG p.val)) = 3
      ∧ (s.bit Reg.REC_STAT Fld.REC_STAT_FROZEN ∨ 256 ≤ s.recQueue.length ∨ s.worn 2)) ∧
    (∃ (p : Fin 32) (s : State), s.cdRun ∧ (Fld.REC_P_CFG_EN.on (s.reg (Reg.REC_P_CFG p.val)) = false ∨ Fld.REC_P_CFG_SRC.get (s.reg (Reg.REC_P_CFG
      p.val)) ≠ 3)) :=
  ⟨⟨⟨1, 255, 5, 6, 7, 8, 0, 9, 10, 0, 0, [], []⟩, [], { State.reset with recQueue := [⟨1, 255, 5, 6, 7, 8, 0, 9, 10, 0, 0, [], []⟩] }, by decide⟩,
    ⟨⟨2, 3, 5, 6, 7, 8, 0, 9, 10, 0, 0, [], []⟩, [], { State.reset.setBit (Reg.REC_WEAR 2) Fld.REC_WEAR_WORN true with recQueue := [⟨2, 3, 5, 6, 7, 8, 0, 9, 10, 0, 0, [], []⟩] }, by decide⟩,
    ⟨⟨1, 255, 5, 6, 7, 8, 0, 9, 10, 0, 0, [], []⟩, [], { State.reset.setBit (Reg.REC_WEAR 2) Fld.REC_WEAR_WORN true with recQueue := [⟨1, 255, 5, 6, 7, 8, 0, 9, 10, 0, 0, [], []⟩] }, by decide⟩,
    ⟨State.reset, by decide⟩,
    ⟨(State.reset.setBit Reg.REC_STAT Fld.REC_STAT_FROZEN true), by decide⟩,
    ⟨(State.reset.setBit Reg.REC_STAT Fld.REC_STAT_FROZEN true), by decide⟩,
    ⟨State.reset, by decide⟩,
    ⟨{ (State.reset.setBit Reg.REC_STAT Fld.REC_STAT_FROZEN true) with now := 40000000000000 }, by decide⟩,
    ⟨5, State.reset.setNat (Reg.REC_P_CFG 5) 0x80000003, by decide⟩,
    ⟨5, (State.reset.setBit Reg.REC_STAT Fld.REC_STAT_FROZEN true).setNat (Reg.REC_P_CFG 5) 0x80000003, by decide⟩,
    ⟨5, State.reset, by decide⟩⟩

set_option maxRecDepth 100000 in
theorem test_met_copies_complete :
    (∃ (s : State), s.cdRun ∧ (s.fld Reg.REC_STAT Fld.REC_STAT_CAPSTATE = capIDLE ∨ s.fld Reg.REC_STAT Fld.REC_STAT_CAPSTATE = capDONE) ∧ s.waveFits ∧
      s.events = []) ∧
    (∃ (s : State), s.cdRun ∧ (s.fld Reg.REC_STAT Fld.REC_STAT_CAPSTATE = capIDLE ∨ s.fld Reg.REC_STAT Fld.REC_STAT_CAPSTATE = capDONE) ∧ s.waveFits =
      false) ∧
    (∃ (s : State), s.cdRun ∧ (s.fld Reg.REC_STAT Fld.REC_STAT_CAPSTATE = capARMED ∨ s.fld Reg.REC_STAT Fld.REC_STAT_CAPSTATE = capPOST)) ∧
    (∃ (s : State), s.cdRun ∧ s.fld Reg.REC_STAT Fld.REC_STAT_CAPSTATE = capPOST ∧ s.since s.recst.trigAt (ms (s.fld Reg.REC_CAP_WIN
      Fld.REC_CAP_WIN_POST))) ∧
    (∃ (s : State), s.cdRun ∧ s.recst.copying = none ∧ (s.reg Reg.REC_RD_LOG).toNat % 4 = 0) ∧
    (∃ (s : State), s.cdRun ∧ s.recst.copying = none ∧ (s.reg Reg.REC_RD_LOG).toNat % 4 = 1) ∧
    (∃ (s : State), s.cdRun ∧ s.recst.copying = none ∧ (s.reg Reg.REC_RD_LOG).toNat % 4 = 2) ∧
    (∃ (s : State), s.cdRun ∧ s.recst.copying = none ∧ (s.reg Reg.REC_RD_LOG).toNat % 4 = 3) ∧
    (∃ (s : State), s.cdRun ∧ s.recst.copying ≠ none) ∧
    (∃ (n : Nat) (s : State), s.recst.copying = some n ∧ s.cdRun) ∧
    (∃ (n : Nat) (e : RecEntry) (s : State), s.recst.copying = some n ∧ s.cdRun ∧ (s.reg Reg.REC_RD_LOG).toNat % 4 = 0 ∧ (s.recStore.filter fun e =>
      Nat.ble (s.reg64 Reg.REC_RD_FIRST_LO Reg.REC_RD_FIRST_HI) e.seq && Nat.ble e.seq n) = [e] ∧ (entryBytes e).length / 64 ≤ (s.reg
      Reg.REC_RD_MAX).toNat % 65536) ∧
    (∃ (s : State), s.cdRun ∧ s.recst.clearAuth = none) ∧
    (∃ (x k m : Nat) (s : State), s.cdRun ∧ s.recst.clearAuth = some (x, k, m) ∧ s.since x (secs 300 + 1) = false ∧ s.bit Reg.REC_STAT
      Fld.REC_STAT_FROZEN = false ∧ s.clearLog.length < 16384 ∧ s.worn 4 = false ∧ s.worn 2 = false) ∧
    (∃ (x k m : Nat) (s : State), s.cdRun ∧ s.recst.clearAuth = some (x, k, m) ∧ s.since x (secs 300 + 1) = false ∧ s.bit Reg.REC_STAT
      Fld.REC_STAT_FROZEN = false ∧ s.clearLog.length < 16384) ∧
    (∃ (x k m : Nat) (s : State), s.cdRun ∧ s.recst.clearAuth = some (x, k, m) ∧ s.since x (secs 300 + 1)) ∧
    (∃ (x k m : Nat) (s : State), s.cdRun ∧ s.recst.clearAuth = some (x, k, m) ∧ s.since x (secs 300 + 1) = false ∧ s.bit Reg.REC_STAT
      Fld.REC_STAT_FROZEN) :=
  ⟨⟨State.reset, by decide⟩,
    ⟨State.reset.setNat Reg.REC_CAP_SAR0 1 |>.setNat Reg.REC_CAP_WIN 0xFFFFFFFF, by decide⟩,
    ⟨State.reset.setFld Reg.REC_STAT Fld.REC_STAT_CAPSTATE capPOST, by decide⟩,
    ⟨{ (State.reset.setFld Reg.REC_STAT Fld.REC_STAT_CAPSTATE capPOST) with now := 40000000000000 }, by decide⟩,
    ⟨State.reset, by decide⟩,
    ⟨State.reset.setNat Reg.REC_RD_LOG 1, by decide⟩,
    ⟨State.reset.setNat Reg.REC_RD_LOG 2, by decide⟩,
    ⟨State.reset.setNat Reg.REC_RD_LOG 3, by decide⟩,
    ⟨{ State.reset with recst := { State.reset.recst with copying := some 3 } }, by decide⟩,
    ⟨3, { State.reset with recst := { State.reset.recst with copying := some 3 } }, by decide⟩,
    ⟨9, ⟨1, 255, 5, 6, 7, 8, 0, 9, 10, 0, 0, [], []⟩, { State.reset.setNat Reg.REC_RD_MAX 4 with recStore := [⟨1, 255, 5, 6, 7, 8, 0, 9, 10, 0, 0, [], []⟩], recst := { State.reset.recst with copying := some 9 } }, by decide⟩,
    ⟨State.reset, by decide⟩,
    ⟨0, 3, 5, { State.reset with recst := { State.reset.recst with clearAuth := some (0, 3, 5) } }, by decide⟩,
    ⟨0, 3, 5, { State.reset with recst := { State.reset.recst with clearAuth := some (0, 3, 5) } }, by decide⟩,
    ⟨0, 3, 5, { { State.reset with recst := { State.reset.recst with clearAuth := some (0, 3, 5) } } with now := 400000000000 }, by decide⟩,
    ⟨0, 3, 5, { State.reset with recst := { State.reset.recst with clearAuth := some (0, 3, 5) } }.setBit Reg.REC_STAT Fld.REC_STAT_FROZEN true, by decide⟩⟩

set_option maxRecDepth 100000 in
theorem test_met_runtime_blocks_complete :
    (∃ (who : Party) (n : Slot) (c : VimpCall) (k : Nat) (p : VimpPar) (s : State), s.cdRun ∧ n.val < s.variant.slots ∧ s.ownsSlotOf who n.val ∧
      s.clusterOf n.val = some k ∧ s.isGfi k ∧ (s.blk k).vimp = some p ∧ (s.blk k).share = 65536 ∧ magDq c.i ≤ p.iTh ∧ magDq c.i ≤ s.iMaxEff k p) ∧
    (∃ (who : Party) (n : Slot) (c : VimpCall) (k : Nat) (p : VimpPar) (s : State), s.cdRun ∧ n.val < s.variant.slots ∧ s.ownsSlotOf who n.val ∧
      s.clusterOf n.val = some k ∧ s.isGfi k ∧ (s.blk k).vimp = some p ∧ (s.blk k).share = 65536 ∧ p.xr = 0 ∧ p.iTh < magDq c.i ∧ magDq c.i ≤ s.iMaxEff
      k p) ∧
    (∃ (who : Party) (n : Slot) (c : VimpCall) (k : Nat) (p : VimpPar) (s : State), s.cdRun ∧ n.val < s.variant.slots ∧ s.ownsSlotOf who n.val ∧
      s.clusterOf n.val = some k ∧ s.isGfi k ∧ (s.blk k).vimp = some p ∧ (s.blk k).share = 65536 ∧ s.iMaxEff k p < magDq c.i ∧ bitOf ((s.cluster
      k).spActive.getD 4 0) 1 = false) ∧
    (∃ (who : Party) (n : Slot) (c : VimpCall) (k : Nat) (p : VimpPar) (s : State), s.cdRun ∧ n.val < s.variant.slots ∧ s.ownsSlotOf who n.val ∧
      s.clusterOf n.val = some k ∧ s.isGfi k ∧ (s.blk k).vimp = some p ∧ (s.blk k).share = 65536 ∧ s.iMaxEff k p < magDq c.i ∧ bitOf ((s.cluster
      k).spActive.getD 4 0) 1) ∧
    (∃ (who : Party) (n : Slot) (call : Option VimpCall) (k : Nat) (s : State), s.cdRun ∧ n.val < s.variant.slots ∧ s.ownsSlotOf who n.val ∧
      s.clusterOf n.val = some k ∧ ((s.blk k).vimp = none ∨ s.isGfi k = false ∨ call = none)) ∧
    (∃ (k : Clu) (u : GmuOut) (a b c : Nat) (p : RidePar) (s : State), s.cdRun ∧ k.val < s.variant.clusters ∧ s.isGfi k.val ∧ s.tb % 40000 = 0 ∧ u.mags
      = some (a, b, c) ∧ (s.blk k.val).ride = some p ∧ bitOf ((s.cluster k.val).spActive.getD 4 0) 0 ∧ p.cessLow ≤ (min a (min b c)) ∧ (max a (max b c))
      ≤ p.cessHigh ∧ (rideFinds p u.freq (min a (min b c)) (max a (max b c))).all (fun x => !x.1) ∧ ((s.blk k.val).st = .normal ∨ (s.blk k.val).st =
      .ride)) ∧
    (∃ (k : Clu) (u : GmuOut) (a b c : Nat) (p : RidePar) (s : State), s.cdRun ∧ k.val < s.variant.clusters ∧ s.isGfi k.val ∧ s.tb % 40000 = 0 ∧ u.mags
      = some (a, b, c) ∧ (s.blk k.val).ride = some p ∧ bitOf ((s.cluster k.val).spActive.getD 4 0) 0 ∧ p.cessLow ≤ (min a (min b c)) ∧ (max a (max b c))
      ≤ p.cessHigh ∧ (s.blk k.val).since = [] ∧ (rideFinds p u.freq (min a (min b c)) (max a (max b c))).all (fun x => !x.1 || 0 < x.2) ∧ (rideFinds p
      u.freq (min a (min b c)) (max a (max b c))).any (·.1) ∧ ((s.blk k.val).st = .normal ∨ (s.blk k.val).st = .ride)) ∧
    (∃ (k : Clu) (u : GmuOut) (a b c : Nat) (p : RidePar) (s : State), s.cdRun ∧ k.val < s.variant.clusters ∧ s.isGfi k.val ∧ s.tb % 40000 = 0 ∧ u.mags
      = some (a, b, c) ∧ (s.blk k.val).ride = some p ∧ bitOf ((s.cluster k.val).spActive.getD 4 0) 0 ∧ (s.blk k.val).since = [] ∧ (rideFinds p u.freq
      (min a (min b c)) (max a (max b c))).all (fun x => !x.1 || 0 < x.2) ∧ ((min a (min b c)) < p.cessLow ∨ p.cessHigh < (max a (max b c))) ∧
      p.cessMode = false ∧ (s.blk k.val).st ≠ .tripReq ∧ (s.blk k.val).st ≠ .cess) ∧
    (∃ (k : Clu) (u : GmuOut) (a b c : Nat) (p : RidePar) (s : State), s.cdRun ∧ k.val < s.variant.clusters ∧ s.isGfi k.val ∧ s.tb % 40000 = 0 ∧ u.mags
      = some (a, b, c) ∧ (s.blk k.val).ride = some p ∧ bitOf ((s.cluster k.val).spActive.getD 4 0) 0 ∧ (s.blk k.val).since = [] ∧ (rideFinds p u.freq
      (min a (min b c)) (max a (max b c))).all (fun x => !x.1 || 0 < x.2) ∧ ((min a (min b c)) < p.cessLow ∨ p.cessHigh < (max a (max b c))) ∧
      p.cessMode ∧ (s.blk k.val).st ≠ .tripReq ∧ (s.blk k.val).st ≠ .cess ∧ s.cstate k.val = csRUN ∧ (s.cluster k.val).pausing = false ∧ s.cluSwitching
      k.val ∧ (∀ n ∈ s.slotsOf k.val, s.sstate n ≠ 1)) ∧
    (∃ (k : Clu) (u : GmuOut) (a b c : Nat) (p : RidePar) (s : State), s.cdRun ∧ k.val < s.variant.clusters ∧ s.isGfi k.val ∧ s.tb % 40000 = 0 ∧ u.mags
      = some (a, b, c) ∧ (s.blk k.val).ride = some p ∧ bitOf ((s.cluster k.val).spActive.getD 4 0) 0 ∧ p.cessLow ≤ (min a (min b c)) ∧ (max a (max b c))
      ≤ p.cessHigh ∧ (s.blk k.val).since = [] ∧ (rideFinds p u.freq (min a (min b c)) (max a (max b c))).all (fun x => !x.1 || 0 < x.2) ∧ (s.blk
      k.val).st = .cess ∧ p.cessMode = false) ∧
    (∃ (k : Clu) (u : GmuOut) (a b c : Nat) (p : RidePar) (s : State), s.cdRun ∧ k.val < s.variant.clusters ∧ s.isGfi k.val ∧ s.tb % 40000 = 0 ∧ u.mags
      = some (a, b, c) ∧ (s.blk k.val).ride = some p ∧ bitOf ((s.cluster k.val).spActive.getD 4 0) 0 ∧ p.cessLow ≤ (min a (min b c)) ∧ (max a (max b c))
      ≤ p.cessHigh ∧ (s.blk k.val).since = [] ∧ (rideFinds p u.freq (min a (min b c)) (max a (max b c))).all (fun x => !x.1 || 0 < x.2) ∧ (s.blk
      k.val).st = .cess ∧ p.cessMode ∧ s.cstate k.val = csPAUSED) ∧
    (∃ (k : Clu) (u : GmuOut) (a b c : Nat) (p : RidePar) (x : Nat) (s : State), s.cdRun ∧ k.val < s.variant.clusters ∧ s.isGfi k.val ∧ s.tb % 40000 =
      0 ∧ u.mags = some (a, b, c) ∧ (s.blk k.val).ride = some p ∧ bitOf ((s.cluster k.val).spActive.getD 4 0) 0 ∧ p.cessLow ≤ (min a (min b c)) ∧ (max a
      (max b c)) ≤ p.cessHigh ∧ (s.blk k.val).since = [] ∧ (rideFinds p u.freq (min a (min b c)) (max a (max b c))).all (fun x => !x.1 || 0 < x.2) ∧
      (s.blk k.val).st = .recover ∧ p.cessMode = false ∧ (s.blk k.val).ramp + p.rate * (s.now - (s.blk k.val).lastAt) * 65536 / 40000000000 = x) ∧
    (∃ (k : Clu) (u : GmuOut) (a b c : Nat) (p : RidePar) (x d z : Nat) (l : List (Nat × Nat)) (s : State), s.cdRun ∧ k.val < s.variant.clusters ∧
      s.isGfi k.val ∧ s.tb % 40000 = 0 ∧ u.mags = some (a, b, c) ∧ (s.blk k.val).ride = some p ∧ bitOf ((s.cluster k.val).spActive.getD 4 0) 0 ∧ p.low =
      (x, d) :: l ∧ (min a (min b c)) < x ∧ (s.blk k.val).since.head? = some (some z) ∧ z + 400000 * d ≤ s.now ∧ (s.blk k.val).st ≠ .tripReq ∧ s.cstate
      k.val ∈ [csSTARTING, csRUN, csPAUSED] ∧ ((List.range 8).find? fun c => s.chanOn c && s.endpoint c false == 7 && s.endpoint c true == 1) = none) ∧
    (∃ (k : Clu) (u : GmuOut) (a b c : Nat) (p : RidePar) (x d z : Nat) (l : List (Nat × Nat)) (e : Fin 8) (s : State), s.cdRun ∧ k.val <
      s.variant.clusters ∧ s.isGfi k.val ∧ s.tb % 40000 = 0 ∧ u.mags = some (a, b, c) ∧ (s.blk k.val).ride = some p ∧ bitOf ((s.cluster
      k.val).spActive.getD 4 0) 0 ∧ p.low = (x, d) :: l ∧ (min a (min b c)) < x ∧ (s.blk k.val).since.head? = some (some z) ∧ z + 400000 * d ≤ s.now ∧
      (s.blk k.val).st ≠ .tripReq ∧ s.cstate k.val = csOFF ∧ ((List.range 8).find? fun c => s.chanOn c && s.endpoint c false == 7 && s.endpoint c true
      == 1) = some e.val ∧ (s.trip 4).runs ∧ (s.dir e.val false).busy = false) :=
  ⟨⟨.lt 0, 0, ⟨⟨300, 400⟩, ⟨16384, 7⟩⟩, 0, ⟨16384, 32768, 16384, 0⟩, (((State.reset.setFld (Reg.CLU_CFG 0) Fld.CLU_CFG_TYPE 1).setNat (Reg.CLU_SLOTS 0) 1).updBlk 0 fun b => { b with vimp := some ⟨16384, 32768, 16384, 0⟩ }), by decide⟩,
    ⟨.lt 0, 0, ⟨⟨18000, 3000⟩, ⟨16384, 7⟩⟩, 0, ⟨16384, 32768, 16384, 0⟩, (((State.reset.setFld (Reg.CLU_CFG 0) Fld.CLU_CFG_TYPE 1).setNat (Reg.CLU_SLOTS 0) 1).updBlk 0 fun b => { b with vimp := some ⟨16384, 32768, 16384, 0⟩ }), by decide⟩,
    ⟨.lt 0, 0, ⟨⟨40000, 3000⟩, ⟨16384, 7⟩⟩, 0, ⟨16384, 32768, 16384, 0⟩, (((State.reset.setFld (Reg.CLU_CFG 0) Fld.CLU_CFG_TYPE 1).setNat (Reg.CLU_SLOTS 0) 1).updBlk 0 fun b => { b with vimp := some ⟨16384, 32768, 16384, 0⟩ }), by decide⟩,
    ⟨.lt 0, 0, ⟨⟨-40000, 3000⟩, ⟨16384, 7⟩⟩, 0, ⟨16384, 32768, 16384, 0⟩, ((((State.reset.setFld (Reg.CLU_CFG 0) Fld.CLU_CFG_TYPE 1).setNat (Reg.CLU_SLOTS 0) 1).updBlk 0 fun b => { b with vimp := some ⟨16384, 32768, 16384, 0⟩ }).updCluster 0 fun x => { x with spActive := [0, 0, 0, 0, 2] }), by decide⟩,
    ⟨.lt 0, 0, none, 0, (((State.reset.setFld (Reg.CLU_CFG 0) Fld.CLU_CFG_TYPE 1).setNat (Reg.CLU_SLOTS 0) 1).updBlk 0 fun b => { b with vimp := some ⟨16384, 32768, 16384, 0⟩ }), by decide⟩,
    ⟨0, ⟨50000, 3, 7, 1, 2, some 77, some (1000, 1000, 1000)⟩, 1000, 1000, 1000, ⟨[(800, 100)], [(1200, 100)], 500, 1400, false, [(51000, 52000, 100)], 100⟩, ((((State.reset.setFld (Reg.CLU_CFG 0) Fld.CLU_CFG_TYPE 1).setNat (Reg.CLU_SLOTS 0) 1).updBlk 0 fun b => { b with ride := some ⟨[(800, 100)], [(1200, 100)], 500, 1400, false, [(51000, 52000, 100)], 100⟩, st := .ride }).updCluster 0 fun x => { x with spActive := [0, 0, 0, 0, 1] }), by decide⟩,
    ⟨0, ⟨50000, 3, 7, 1, 2, some 77, some (1000, 700, 1000)⟩, 1000, 700, 1000, ⟨[(800, 100)], [(1200, 100)], 500, 1400, false, [(51000, 52000, 100)], 100⟩, ((((State.reset.setFld (Reg.CLU_CFG 0) Fld.CLU_CFG_TYPE 1).setNat (Reg.CLU_SLOTS 0) 1).updBlk 0 fun b => { b with ride := some ⟨[(800, 100)], [(1200, 100)], 500, 1400, false, [(51000, 52000, 100)], 100⟩, st := .normal }).updCluster 0 fun x => { x with spActive := [0, 0, 0, 0, 1] }), by decide⟩,
    ⟨0, ⟨50000, 3, 7, 1, 2, some 77, some (1000, 300, 1000)⟩, 1000, 300, 1000, ⟨[(800, 100)], [(1200, 100)], 500, 1400, false, [(51000, 52000, 100)], 100⟩, (((((State.reset.setFld (Reg.CLU_CFG 0) Fld.CLU_CFG_TYPE 1).setNat (Reg.CLU_SLOTS 0) 1).updBlk 0 fun b => { b with ride := some ⟨[(800, 100)], [(1200, 100)], 500, 1400, false, [(51000, 52000, 100)], 100⟩, st := .normal }).updCluster 0 fun x => { x with spActive := [0, 0, 0, 0, 1] }).setNat (Reg.EDG_REF 0) 0x12345678), by decide⟩,
    ⟨0, ⟨50000, 3, 7, 1, 2, some 77, some (1000, 300, 1000)⟩, 1000, 300, 1000, ⟨[(800, 100)], [(1200, 100)], 500, 1400, true, [(51000, 52000, 100)], 100⟩, ((((((State.reset.setFld (Reg.CLU_CFG 0) Fld.CLU_CFG_TYPE 1).setNat (Reg.CLU_SLOTS 0) 1).setFld (Reg.CLU_STAT 0) Fld.CLU_STAT_CSTATE 2).setFld (Reg.EDG_STAT 0) Fld.EDG_STAT_SSTATE 2).updBlk 0 fun b => { b with ride := some ⟨[(800, 100)], [(1200, 100)], 500, 1400, true, [(51000, 52000, 100)], 100⟩, st := .normal }).updCluster 0 fun x => { x with spActive := [0, 0, 0, 0, 1] }), by decide⟩,
    ⟨0, ⟨50000, 3, 7, 1, 2, some 77, some (1000, 1000, 1000)⟩, 1000, 1000, 1000, ⟨[(800, 100)], [(1200, 100)], 500, 1400, false, [(51000, 52000, 100)], 100⟩, ((((State.reset.setFld (Reg.CLU_CFG 0) Fld.CLU_CFG_TYPE 1).setNat (Reg.CLU_SLOTS 0) 1).updBlk 0 fun b => { b with ride := some ⟨[(800, 100)], [(1200, 100)], 500, 1400, false, [(51000, 52000, 100)], 100⟩, st := .cess }).updCluster 0 fun x => { x with spActive := [0, 0, 0, 0, 1] }), by decide⟩,
    ⟨0, ⟨50000, 3, 7, 1, 2, some 77, some (1000, 1000, 1000)⟩, 1000, 1000, 1000, ⟨[(800, 100)], [(1200, 100)], 500, 1400, true, [(51000, 52000, 100)], 100⟩, (((((State.reset.setFld (Reg.CLU_CFG 0) Fld.CLU_CFG_TYPE 1).setNat (Reg.CLU_SLOTS 0) 1).setFld (Reg.CLU_STAT 0) Fld.CLU_STAT_CSTATE 3).updBlk 0 fun b => { b with ride := some ⟨[(800, 100)], [(1200, 100)], 500, 1400, true, [(51000, 52000, 100)], 100⟩, st := .cess }).updCluster 0 fun x => { x with spActive := [0, 0, 0, 0, 1] }), by decide⟩,
    ⟨0, ⟨50000, 3, 7, 1, 2, some 77, some (1000, 1000, 1000)⟩, 1000, 1000, 1000, ⟨[(800, 100)], [(1200, 100)], 500, 1400, false, [(51000, 52000, 100)], 100⟩, 65, { ((((State.reset.setFld (Reg.CLU_CFG 0) Fld.CLU_CFG_TYPE 1).setNat (Reg.CLU_SLOTS 0) 1).updBlk 0 fun b => { b with ride := some ⟨[(800, 100)], [(1200, 100)], 500, 1400, false, [(51000, 52000, 100)], 100⟩, st := .recover, ramp := 0 }).updCluster 0 fun x => { x with spActive := [0, 0, 0, 0, 1] }) with now := 400000 }, by decide⟩,
    ⟨0, ⟨50000, 3, 7, 1, 2, some 77, some (1000, 700, 1000)⟩, 1000, 700, 1000, ⟨[(800, 100)], [(1200, 100)], 500, 1400, false, [(51000, 52000, 100)], 100⟩, 800, 100, 0, [], { (((((State.reset.setFld (Reg.CLU_CFG 0) Fld.CLU_CFG_TYPE 1).setNat (Reg.CLU_SLOTS 0) 1).setFld (Reg.CLU_STAT 0) Fld.CLU_STAT_CSTATE 2).updBlk 0 fun b => { b with ride := some ⟨[(800, 100)], [(1200, 100)], 500, 1400, false, [(51000, 52000, 100)], 100⟩, st := .ride, since := [some 0, none, none] }).updCluster 0 fun x => { x with spActive := [0, 0, 0, 0, 1] }) with now := 40000000 }, by decide⟩,
    ⟨0, ⟨50000, 3, 7, 1, 2, some 77, some (1000, 700, 1000)⟩, 1000, 700, 1000, ⟨[(800, 100)], [(1200, 100)], 500, 1400, false, [(51000, 52000, 100)], 100⟩, 800, 100, 0, [], 3, { ((((((State.reset.setFld (Reg.CLU_CFG 0) Fld.CLU_CFG_TYPE 1).setNat (Reg.CLU_SLOTS 0) 1).setNat (Reg.MBX_CH_CFG 3) 0x80170000).updBlk 0 fun b => { b with ride := some ⟨[(800, 100)], [(1200, 100)], 500, 1400, false, [(51000, 52000, 100)], 100⟩, st := .ride, since := [some 0, none, none] }).updCluster 0 fun x => { x with spActive := [0, 0, 0, 0, 1] }).updTrip 4 fun r => { r with runs := true }) with now := 40000000 }, by decide⟩⟩
end

section
/-!
SUPPORT. Settles O6: every command answers a next state. The shared shapes of a meaning (`onlyIf`, `atReg`, `cluCommand`, `execFront`) answer one
each; a command that is of none of them outright chooses between them on a record of its unit or on an operand.
-/

namespace Sys2Proof.Machine

/-- The machine goes on after a meaning: neither a fault nor a refusal. -/
def Answers (r : Res) : Prop := ∃ t, r = .next t

@[simp] theorem answers_next (t : State) : Answers (.next t) := ⟨t, rfl⟩

@[simp] theorem answers_onlyIf (c : Bool) (s : State) (f : State → State) : Answers (onlyIf c s f) := by
  cases c
  · exact ⟨s, onlyIf_neg s f rfl⟩
  · exact ⟨_, onlyIf_pos s f rfl⟩

@[simp] theorem answers_atReg (a : Nat) (present ok : Bool) (s : State) (f : State → State) : Answers (atReg a present ok s f) := by
  unfold atReg
  split <;> exact answers_onlyIf _ _ _

@[simp] theorem answers_cluCommand (who : Party) (k : Nat) (s : State) (f : State → State) : Answers (cluCommand who k s f) :=
  answers_atReg _ _ _ _ _

@[simp] theorem answers_execFront (s : State) (r op : Nat) (good : Fetched → Bool) (act : State → Fetched → State) :
    Answers (s.execFront r op good act) := by
  unfold State.execFront
  split
  · exact answers_next _
  · exact answers_onlyIf _ _ _

/-- CAN_TX waits for a free buffer, so it asks the ring for its front only once it has found one. -/
theorem answers_execCanTx (r : Fin 12) (dma : DmaRes) (s : State) : Answers (execCanTx r dma s) := by
  unfold execCanTx
  split
  · exact answers_next _
  · dsimp only
    split
    · exact answers_next _
    · exact answers_execFront _ _ _ _ _

/-- A change of the phase count needs a request with its acting time and a slot at the position it names. -/
theorem answers_execPhaseCountChange (k : Clu) (s : State) : Answers (execPhaseCountChange k s) := by
  unfold execPhaseCountChange
  dsimp only
  split
  · split
    · exact answers_onlyIf _ _ _
    · exact answers_next _
  · exact answers_next _

/-- No command faults or is refused. -/
theorem exec_answers (i : Instr) (s : State) : Answers (exec i s) := by
  cases i with
  | canTx r dma => exact answers_execCanTx r dma s
  | phaseCountChange k => exact answers_execPhaseCountChange k s
  | deadlineFault | stall | dramUncorrectable | nonceExpiry | presenceTimeout | commissionSessionEnd | biasStartTimeout | offStateDiagDone
  | prechargeTCheck | prechargeTMax | prechargeOverlapEnd | slotStop | maxgapExpiry | gateEdge | softTurnoffStep2 | ilineReleaseGuardEnd
  | spPickup | alignmentLoss | taperDone | snTimeout | packPauseEnd | shedRequestTimeout | softStartAbort | softStartRetry | sweepPoint
  | sweepEnd | actingPoint | pairResetCheckEnd | hwThermalRelease | safeEntryExpiry | skewExpiry | recorderEntryWrite | copyDone
  | configImageApply | paramSetDelivery | holdupSequenceEnd | reservePowerDown | supplyReturn | loadBoundary | dsatDetect | linkLoss =>
    -- what the unit holds, or an operand, says whether the command applies at all
    simp only [exec, execDeadlineFault, execStall, execDramUncorrectable, execNonceExpiry, execPresenceTimeout, execCommissionSessionEnd,
      execBiasStartTimeout, execOffStateDiagDone, execPrechargeTCheck, execPrechargeTMax, execPrechargeOverlapEnd, execSlotStop,
      execMaxgapExpiry, execGateEdge, execSoftTurnoffStep2, execIlineReleaseGuardEnd, execSpPickup, execAlignmentLoss, execTaperDone,
      execSnTimeout, execPackPauseEnd, execShedRequestTimeout, execSoftStartAbort, execSoftStartRetry, execSweepPoint, execSweepEnd,
      execActingPoint, execPairResetCheckEnd, execHwThermalRelease, execSafeEntryExpiry, execSkewExpiry, execRecorderEntryWrite,
      execCopyDone, execConfigImageApply, execParamSetDelivery, execHoldupSequenceEnd, execReservePowerDown, execSupplyReturn,
      execLoadBoundary, execDsatDetect, execLinkLoss]
    split <;> simp only [answers_onlyIf, answers_next]
  | cmpaWrite | pe0Write | ownerRefWrite | clearHold | runDiag | adaptReset | clearFailed | regionRestart | npTargetWrite | spPost | start
  | stop | readmit | ssUnlatch | sweep | discharge | dischargeStop =>
    -- writes of registers that a variant may lack
    simp only [exec, execCmpaWrite, execPe0Write, execOwnerRefWrite, execClearHold, execRunDiag, execAdaptReset, execClearFailed,
      execRegionRestart, execNpTargetWrite, execSpPost, execStart, execStop, execReadmit, execSsUnlatch, execSweep, execDischarge,
      execDischargeStop, answers_atReg]
  | enable | disable | pause | resume | restart =>
    simp only [exec, execEnable, execDisable, execPause, execResume, execRestart, answers_cluCommand]
  | nop | regWrite | regRead | setpoint | ledgerRead =>
    -- the front descriptor of a ring
    simp only [exec, execNop, execRegWrite, execRegRead, execSetpoint, execLedgerRead, answers_execFront]
  | _ =>
    -- every other command acts under one condition
    simp only [exec,
      execIntervalClose, execJournalRecordWrite, execJobRelease, execCompletionWrite, execTightropeCfgWrite, execSlackWindowEnd,
      execSlackParamWrite, execLagTimeout, execAsyncInput, execCopyMemerr, execBulkCopyDone, execResyncPauseEnd, execFenceTest,
      execHaltRequest, execDebugRequest, execEndbg, execExdbg, execRejoinDbg, execNonceRead, execInstallCommissioningKey,
      execRevokeCommissioningKey, execCommission, execLockRelease, execRecorderClearAuth, execSlotOverride, execImageWrite,
      execFuseOwnerKeys, execAntirollbackAdvance, execMeasSelfTestDone, execBiasStart, execSafetyIoTestDone, execPrechargeStart,
      execPrechargeReading, execDiagComplete, execArm, execDisarm, execDiag, execReload, execSafe, execSetLock, execDerateExpiry,
      execCompareEdge, execSlotStart, execSinc2Value, execPcmDmax, execEdgePhaseEnd, execBiasExcursion, execBiasokReturn,
      execSoftTurnoffStep3, execIlineOff, execIlineRelease, execRegionMeasTimeout, execGmuUpdate, execSyncCycle, execLeaderLoss,
      execElectionWaitEnd, execIsolateExpiry, execRejoin, execAlignmentStep, execAlignmentLock, execBmuFrame, execBmuSilent,
      execChargeWindowEnd, execHeartbeat, execSnExit, execPackQualify, execPackChargeWindow, execPackChargeTimeout, execRemovalProbe,
      execPackRemoval, execSelfDischarge, execRetry, execRecharge, execCanEnable, execCanDisable, execReq, execAbort, execSleep, execWake,
      execRelease, execCanRxFrame, execCanRxError, execCanWakeEdge, execCanIntegrationDone, execCanTxEnd, execBusoffRecovery,
      execClusterInstant, execShedDecision, execDcSplitAck, execMpptUpdate, execPvHold, execPvTrack, execSampleArrival, execSarScan,
      execPairReset, execInputReset, execInputResetCheckEnd, execSinc3Record, execStuckRun, execPrecisionConversion, execReferenceCheck,
      execThermalReading, execHwThermalTrip, execSvrEnable, execSvrDisable, execSvrPeriod, execHiccupEnd, execSvrSsTimeout,
      execSvrRetryReset, execSvrOv, execSvrFltN, execSvrSyncLock, execSvrSyncLoss, execSvrShedDecision, execAuxdEnable, execAuxdDisable,
      execAuxdDutywWrite, execAuxdCarrierZero, execHallChange, execAuxdIlim, execAuxdTrip, execAuxdBstuv, execAuxdBstuvEnd, execVmSample,
      execVmholdEnd, execFbEdge, execObserverUpdate, execFbCfgWrite, execTxnBegin, execTxnStage, execTxnValidate, execTxnCommit,
      execTxnRollback, execTxnTimeout, execCommitTimeout, execRmDecision, execCoreRejoin, execCoreRejoinTimeout, execAliveWord,
      execAliveTimeout, execReturnFrame, execRetframeTimeout, execEremConfirmTimeout, execVlimComparatorTrip, execVlinkSample,
      execVlinkDiscrepancy, execComparatorTest, execSiSample, execSiDiscrepancy, execSoTestPulse, execSoPulseEnd, execSoReturnCheck,
      execSoShort, execSoXv, execResetReady, execResetPress, execResetRelease, execResetDiscrepancy, execResetStuck, execChkEntry,
      execHoldLines, execSoOff, execSafeRequest, execEndHold, execPtpStep, execPtpLock, execPtpHoldover, execAgeTestHoldoverLimit,
      execPortDown, execPortUp, execEthRxFrame, execSafetyCopy, execNetWdExpiry, execStatusFrame, execCaptureRecord, execCaptureFlush,
      execIrqTimer, execMsiHoldoffEnd, execRingEnable, execRingDisable, execFlr, execHostLinkDown, execPowerStateChange,
      execBusMasterEnable, execNudge, execDoorbellPoll, execDoorbellReadDone, execNoticePost, execRxTagRead, execNoticeAck,
      execCrossingTimeout, execAckTimeout, execPartyReset, execPartyUp, execMbxCfgWrite, execFreeze, execUnfreeze, execFreezeTimeout,
      execTrigger, execRearm, execCapturePostEnd, execCopy, execClear, execRegisterWrite, execBadAccess, execBar4Write, execBar4Read,
      execTbLoRead, execPtpSecLoRead, execCntsub, execTxnLand, execLoadConfigImage, execLoadLtImage, execConfigComplete,
      execTransactionPresent, execDescriptorFetch, execClockLoss, execClockReturn, execTbDeviationWindow, execVioEnterWindow,
      execVioLeaveWindow, execVauxALoss, execVauxARise, execVauxBLoss, execRingmasterAbsent, execVauxBRise, execRingmasterReady,
      execVauxBReturn, execVsoExcursion, execRailFault, execStoreRailReturn, execSupplyExcursion, execBootEntry, execSecureBootComplete,
      execLockoutRelease, answers_onlyIf]

/-- Settles O6: every meaning has one of the shared shapes, and each of them answers a next state. -/
theorem everyCommandAnswersNext : Obligations.EveryCommandAnswersNext := by
  unfold Obligations.EveryCommandAnswersNext
  exact exec_answers

end Sys2Proof.Machine
end

section
/-!
SUPPORT. Settles O13 and O15 and refutes O17: what a host write of a flag register leaves, reads after writes of the memories, and a host write that
reaches beyond its own register.
-/

namespace Sys2Proof.Machine

/-! ### Frames -/

/-- Delivery keeps to every frame. -/
theorem Only.settle {own : Nat → Prop} {s u : State} (h : Only own s u) : Only own s u.settle :=
  ⟨fun a hd ho => (u.settle_reg hd).trans (h.1 a hd ho),
    (Del.settle u).rest.trans ((congrArg (fun x : State => x.withDel u.settle) h.2).trans (s.withDel_withDel u u.settle))⟩

theorem Only.setReg (s : State) (a : Nat) (v : Word) : Only (fun x => x = a) s (s.setReg a v) :=
  ⟨fun _ _ ha => s.reg_setReg_other v ha, rfl⟩

theorem Only.setReg_same (s : State) (a : Nat) : Only (fun _ => False) s (s.setReg a (s.reg a)) := by
  refine ⟨fun x _ _ => ?_, rfl⟩
  rw [State.reg_setReg]
  split
  · rename_i h; rw [h]
  · rfl

/-- A host write of a BAR0 offset is a write on the register bus (R380, R446). -/
theorem exec_registerWrite (s : State) {off : Nat} (v : Word) (hrun : s.cdRun = true) (halign : off % 4 = 0) (hbar : off < 0x100000) :
    exec (.registerWrite off v) s = .next (s.busWrite .host off v).settle := by
  have h : exec (.registerWrite off v) s = onlyIf s.cdRun s fun s =>
      if off % 4 ≠ 0 then s.badAccess else if Nat.blt off 0x100000 then s.busWrite .host off v else s.bar2Write 0 false (off - 0x100000) v := rfl
  rw [h, onlyIf_pos _ _ hrun, if_neg (by omega), if_pos (by simpa using hbar)]

/-! ### A write of a register without RW and RWL bits -/

theorem State.lockHits_of_no_rwl (s : State) {r : RegRow} (a : Nat) (v : Word) (h : r.rwl = 0) : s.lockHits r a v = false := by
  simp [State.lockHits, h]

theorem State.gdvRewrite_outside (s : State) {a : Nat} (h : a < 0x18000 ∨ 0x1B000 ≤ a) : s.gdvRewrite a = s := by
  have h' : ¬(Nat.ble 0x18000 a && Nat.blt a 0x1B000) = true := by simp only [Bool.and_eq_true, Nat.ble_eq, Nat.blt_eq]; omega
  simp only [State.gdvRewrite, h', Bool.not_false, if_true]

theorem State.plainWrite_of_no_rw (s : State) {r : RegRow} {a : Nat} (v : Word) (hrw : r.rw = 0) (hrwl : r.rwl = 0)
    (ha : a < 0x18000 ∨ 0x1B000 ≤ a) : s.plainWrite r a v = s.setReg a (s.written r a v) := by
  have hm : r.cfgMask = 0 := by simp [RegRow.cfgMask, hrw, hrwl]
  simp only [State.plainWrite, s.lockHits_of_no_rwl a v hrwl, State.raiseIf, State.take, hm, Nat.and_zero, if_true, Bool.false_eq_true, if_false,
    State.gdvRewrite_outside _ ha]

theorem State.denied_of_no_rw (s : State) {r : RegRow} {a : Nat} (w : Word) (hrw : r.rw = 0) (hrwl : r.rwl = 0)
    (ha : a < 0x10000 ∨ 0x1B000 ≤ a) : s.denied r a w = none := by
  have hm : r.cfgMask = 0 := by simp [RegRow.cfgMask, hrw, hrwl]
  have h1 : ¬(Nat.ble 0x10000 a && Nat.blt a 0x16000) = true := by simp only [Bool.and_eq_true, Nat.ble_eq, Nat.blt_eq]; omega
  have h2 : ¬(Nat.ble 0x18000 a && Nat.blt a 0x1B000) = true := by simp only [Bool.and_eq_true, Nat.ble_eq, Nat.blt_eq]; omega
  simp only [State.denied, h1, h2, hm, Bool.false_eq_true, if_false, if_true, ite_self]

theorem View.active_outside (g : View) {a : Nat} (h : a < 0x20000 ∨ 0x29000 ≤ a) : View.active g a = true := by
  have h1 : ¬(Nat.ble 0x20000 a && Nat.blt a 0x26000) = true := by simp only [Bool.and_eq_true, Nat.ble_eq, Nat.blt_eq]; omega
  have h2 : ¬(Nat.ble 0x28000 a && Nat.blt a 0x28C00) = true := by simp only [Bool.and_eq_true, Nat.ble_eq, Nat.blt_eq]; omega
  simp only [View.active, h1, h2, Bool.false_eq_true, if_false]

/-- Bits of the complement of a word. -/
theorem testBit_complement {x : Nat} (hx : x < 2 ^ 32) (i : Nat) : (0xFFFFFFFF - x).testBit i = (decide (i < 32) && !x.testBit i) := by
  rw [show (0xFFFFFFFF : Nat) - x = 2 ^ 32 - (x + 1) by omega, Nat.testBit_two_pow_sub_succ hx]

theorem mergeBits_zero (old v : Word) : mergeBits 0 old v = old := by
  apply BitVec.eq_of_toNat_eq
  have hold : old.toNat &&& 0xFFFFFFFF = old.toNat := (Nat.and_two_pow_sub_one_eq_mod old.toNat 32).trans (Nat.mod_eq_of_lt old.isLt)
  simp [mergeBits, hold]

/-- A write of a register without RW and RWL bits clears the W1C bits where it writes 1 (R5). -/
theorem State.written_testBit (s : State) {r : RegRow} (a : Nat) (v : Word) (hrw : r.rw = 0) (hrwl : r.rwl = 0) (i : Nat) :
    (s.written r a v).toNat.testBit i = ((s.reg a).toNat.testBit i && !(v.toNat.testBit i && r.w1c.toNat.testBit i)) := by
  have hmask : (r.rw.toNat ||| (if s.locked then 0 else r.rwl.toNat)) = 0 := by simp [hrw, hrwl]
  have hclear : v.toNat &&& r.w1c.toNat < 2 ^ 32 := lt_of_le_of_lt Nat.and_le_left v.isLt
  have hbound : ¬i < 32 → (s.reg a).toNat.testBit i = false := fun hi =>
    Nat.testBit_lt_two_pow (lt_of_lt_of_le (s.reg a).isLt (Nat.pow_le_pow_right (by norm_num) (by omega)))
  rw [State.written, hmask, mergeBits_zero, BitVec.toNat_ofNat, Nat.testBit_mod_two_pow, Nat.testBit_and, testBit_complement hclear, Nat.testBit_and]
  by_cases hi : i < 32
  · simp [hi]
  · simp [hi, hbound hi]

/-! ### The flag registers of the GLB, CTU, PWR, THM, CLK and SAFE blocks -/

/-- Their flag sources. -/
def flagBlocks : List FlagSrc := [.glb, .ctu, .pwr, .pwrHu, .thm, .clk, .safe]

/-- They stand in every variant, and a write takes none of their bits. -/
theorem flagBlocks_row {src : FlagSrc} (hs : src ∈ flagBlocks) {r : RegRow} (hr : Reg.row src.addr = some r) :
    r.inst = .any ∧ r.rw = 0 ∧ r.rwl = 0 := by
  have hrows : ∀ src ∈ flagBlocks, (Reg.row src.addr).all fun r => r.inst == .any && (r.rw == 0 && r.rwl == 0) := by decide
  have hrow := hrows src hs
  rw [hr] at hrow
  simpa using hrow

theorem flagBlocks_addr : ∀ src ∈ flagBlocks, src.addr % 4 = 0 ∧ (src.addr < 0x6000 ∨ src.addr = Reg.SAFE_FLAGS) := by decide

theorem State.blockWrite_flags (s : State) (who : Party) {src : FlagSrc} (r : RegRow) (v : Word) (hs : src ∈ flagBlocks) :
    s.blockWrite who r src.addr v = s.ruledWrite r src.addr v := by
  simp only [flagBlocks, List.mem_cons, List.not_mem_nil, or_false] at hs
  rcases hs with rfl | rfl | rfl | rfl | rfl | rfl | rfl <;> rfl

theorem State.shaped_flags (s : State) {src : FlagSrc} (v : Word) (hs : src ∈ flagBlocks) : s.shaped src.addr v = v := by
  simp only [flagBlocks, List.mem_cons, List.not_mem_nil, or_false] at hs
  rcases hs with rfl | rfl | rfl | rfl | rfl | rfl | rfl <;> rfl

theorem State.busWrite_flags (s : State) (who : Party) {src : FlagSrc} {r : RegRow} (v : Word) (hs : src ∈ flagBlocks)
    (hr : Reg.row src.addr = some r) : s.busWrite who src.addr v = s.setReg src.addr (s.written r src.addr v) := by
  obtain ⟨hinst, hrw, hrwl⟩ := flagBlocks_row hs hr
  obtain ⟨-, haddr⟩ := flagBlocks_addr src hs
  have hlow : src.addr < 0x10000 ∨ 0x1B000 ≤ src.addr := by rw [Reg.SAFE_FLAGS] at haddr; omega
  have hgdv : src.addr < 0x18000 ∨ 0x1B000 ≤ src.addr := by omega
  have hpresent : r.present s.variant src.addr = true := by simp [RegRow.present, hinst]
  have hactive : View.active s.reg src.addr = true := View.active_outside _ (by rw [Reg.SAFE_FLAGS] at haddr; omega)
  have hmask : r.cfgMask = 0 := by simp [RegRow.cfgMask, hrw, hrwl]
  have hwrite : s.blockWrite who r src.addr v = s.setReg src.addr (s.written r src.addr v) := by
    rw [s.blockWrite_flags who r v hs, State.ruledWrite, s.shaped_flags v hs]
    simp [State.raiseIf, s.denied_of_no_rw _ hrw hrwl hlow, s.plainWrite_of_no_rw v hrw hrwl hgdv]
  simp only [State.busWrite, hr, hpresent, hactive, hmask, hwrite, Bool.and_self, if_true, Nat.and_zero]

/-- A host write of such a flag register is carried out by the access codes alone. -/
theorem exec_registerWrite_flags (s : State) {src : FlagSrc} {r : RegRow} (v : Word) (hs : src ∈ flagBlocks) (hr : Reg.row src.addr = some r)
    (hrun : s.cdRun = true) : exec (.registerWrite src.addr v) s = .next (s.setReg src.addr (s.written r src.addr v)).settle := by
  obtain ⟨halign, haddr⟩ := flagBlocks_addr src hs
  rw [exec_registerWrite s v hrun halign (by rw [Reg.SAFE_FLAGS] at haddr; omega), s.busWrite_flags .host v hs hr]

/-- A counter of these blocks lies below the registers that delivery writes. -/
theorem flagBlocks_counter_low : ∀ src ∈ flagBlocks, ∀ b : Fin 32, (src.counter b.val).all fun c => Nat.blt c.1 0x60000 := by decide

/-- The counters stand as they are where only the flag register is written (R448). -/
theorem State.count_settle_setReg (s : State) {src : FlagSrc} (w : Word) (b : Fin 32) (hs : src ∈ flagBlocks) :
    (s.setReg src.addr w).settle.count src b.val = s.count src b.val := by
  have hlow := flagBlocks_counter_low src hs b
  unfold State.count
  rcases hc : src.counter b.val with _ | ⟨a, lo⟩
  · rfl
  · rw [hc] at hlow
    exact State.fld_congr ((State.settle_reg_low _ (by simpa using hlow)).trans (s.reg_setReg_other w (src.counter_ne_addr b.val hc))) _

theorem State.reg_settle_setReg (s : State) {a : Nat} (w : Word) (ha : a < 0x60000) : (s.setReg a w).settle.reg a = w :=
  (State.settle_reg_low _ ha).trans (s.reg_setReg_same a w)

/-- Settles O13: the access codes alone decide, and no delivery reaches these registers. -/
theorem flagClearing : Obligations.FlagClearing := by
  unfold Obligations.FlagClearing
  refine ⟨fun src v s r hsrc hrun hr => ?_, fun v s hrun => ?_⟩
  · have hs : src ∈ flagBlocks := List.mem_of_mem_dropLast (l := flagBlocks) hsrc
    obtain ⟨-, hrw, hrwl⟩ := flagBlocks_row hs hr
    have haddr := (flagBlocks_addr src hs).2
    have hlow : src.addr < 0x60000 := by rw [Reg.SAFE_FLAGS] at haddr; omega
    refine ⟨_, exec_registerWrite_flags s v hs hr hrun, fun b => ?_, fun b => s.count_settle_setReg _ b hs, (Only.setReg s _ _).settle⟩
    rw [State.flag, s.reg_settle_setReg _ hlow, s.written_testBit _ v hrw hrwl, State.flag]
  · have hr : Reg.row FlagSrc.safe.addr = some ⟨0x48008, [], 0, 0, 0, 0, .any⟩ := by decide
    have hsame : s.written ⟨0x48008, [], 0, 0, 0, 0, .any⟩ FlagSrc.safe.addr v = s.reg FlagSrc.safe.addr := by
      apply BitVec.eq_of_toNat_eq
      apply Nat.eq_of_testBit_eq
      intro i
      rw [s.written_testBit _ v rfl rfl]
      simp
    refine ⟨_, exec_registerWrite_flags s v (by decide) hr hrun, ?_⟩
    rw [hsame]
    exact ⟨s.reg_settle_setReg _ (by decide), (Only.setReg_same s _).settle⟩

/-! ### Reads after writes of the memories -/

/-- A byte read at an offset that a byte string holds: the byte of the string, unless the read lies below its start. -/
theorem Cells.bytes_putBytes_of_some (m : Cells Byte) {a x : Nat} {l : List Byte} {b : Byte} (h : l[x - a]? = some b) :
    Cells.bytes (Cells.putBytes m a l) x 1 = if a ≤ x then [b] else Cells.bytes m x 1 := by
  simp only [Cells.bytes]
  split
  · rename_i hle
    rw [← Cells.get_putBytes_at l m a (x - a) b h, Nat.add_sub_cancel' hle]
  · rw [Cells.get_putBytes_other l m a x (by omega)]

/-- A byte read at an offset beyond a byte string is the old one. -/
theorem Cells.bytes_putBytes_of_none (m : Cells Byte) {a x : Nat} {l : List Byte} (h : l[x - a]? = none) :
    Cells.bytes (Cells.putBytes m a l) x 1 = Cells.bytes m x 1 := by
  rw [List.getElem?_eq_none_iff] at h
  simp only [Cells.bytes]
  by_cases hl : x < a
  · rw [Cells.get_putBytes_other l m a x (.inl hl)]
  · rw [Cells.get_putBytes_other l m a x (.inr (by omega))]

theorem State.wf_iff (s : State) : s.wf = true ↔ s.regsWf = true ∧ s.dramWf = true ∧ s.hostWf = true := by
  simp [State.wf, and_assoc]

/-- Settles O15: each memory is a sparse store, and a write of one leaves the canonical form of the others. -/
theorem memoriesReadBack : Obligations.MemoriesReadBack := by
  unfold Obligations.MemoriesReadBack
  refine ⟨fun s a x l => ?_, fun s a x l => ?_, fun s a x v => s.reg_setReg a x v, fun s a v l hwf => ?_⟩
  · split
    · exact Cells.bytes_putBytes_of_some _ ‹_›
    · exact Cells.bytes_putBytes_of_none _ ‹_›
  · split
    · exact Cells.bytes_putBytes_of_some _ ‹_›
    · exact Cells.bytes_putBytes_of_none _ ‹_›
  · obtain ⟨hregs, hdram, hhost⟩ := s.wf_iff.mp hwf
    exact ⟨(State.wf_iff _).mpr ⟨s.regs_wf_setReg a v hregs, hdram, hhost⟩, (State.wf_iff _).mpr ⟨hregs, s.dram_wf_putDram a l hdram, hhost⟩,
      (State.wf_iff _).mpr ⟨hregs, hdram, s.host_wf_putHost a l hhost⟩⟩

/-! ### A write of PWR_HU_CFG shows the pack again (R220) -/

/-- A hold-up pack in FAST with 360,000 mC in it, a tenth of the CAP of 1,000 mAh that PWR_HU_CFG holds, and PWR_HU_STAT.Q as it shows this. -/
def tenthPack : State := { State.reset.setFld Reg.PWR_HU_STAT Fld.PWR_HU_STAT_HSTATE 3 with pack := { q := 360000, restMv := 5000 } }.showPack

/-- The row of PWR_HU_CFG. -/
def packCfgRow : RegRow := ⟨0x2200, [], 0x1E010A, 0, 0xFF031F, 0, .any⟩

/-- A CAP of 2,000 mAh halves the charge shown. -/
theorem tenthPack_shows : tenthPack.fld Reg.PWR_HU_STAT Fld.PWR_HU_STAT_Q = 10 ∧
    (tenthPack.busWrite .host Reg.PWR_HU_CFG 0x1E0114).fld Reg.PWR_HU_STAT Fld.PWR_HU_STAT_Q = 5 := by decide

/-- Refutes O17 in its first clause: a host write that changes CAP in PWR_HU_CFG (0x2200) shows the charge in per cent of the new CAP in
PWR_HU_STAT, another register than the one written. -/
theorem not_hostAccessCompletes : ¬Obligations.HostAccessCompletes := by
  unfold Obligations.HostAccessCompletes
  rintro ⟨hwrite, -⟩
  obtain ⟨t, hexec, -, hframe, -⟩ := hwrite Reg.PWR_HU_CFG 0x1E0114 packCfgRow tenthPack (by decide) (by decide) (by decide) (by decide) (by decide)
    (by decide) (by decide) (by decide)
  rw [exec_registerWrite _ _ (by decide) (by decide) (by decide)] at hexec
  cases hexec
  have hsame := State.fld_congr (hframe Reg.PWR_HU_STAT (deliveryReg_low (by decide)) (by decide)) Fld.PWR_HU_STAT_Q
  rw [State.settle_fld_low _ _ (by decide), tenthPack_shows.1, tenthPack_shows.2] at hsame
  exact absurd hsame (by decide)

end Sys2Proof.Machine
end

section
/-!
SUPPORT. Refutes O21 and O42 in one clause each: a stall that is not noted, and a read error with a flag event still waiting.
-/

namespace Sys2Proof.Machine

/-! ### A stall at time 0 (R24) -/

/-- A stall of copy 0 at time 0 is noted as the pair (0, 0), which the file of fenced copies reads from any group without an entry and so does
not store. -/
theorem exec_stall_at_zero (g : Nat) (s : State) (hrun : s.cdRun = true) (hnow : s.now = 0) (hstalls : s.stalls = []) :
    ∃ t, exec (.stall (.control g) 0) s = .next t ∧ t.stalls = [] := by
  have hexec : exec (.stall (.control g) 0) s = onlyIf s.cdRun s fun s =>
      match (s.stalls.find? fun p => p.1 == (false, g)) with
      | some (_, c, t) =>
        if c != 0 && !s.since t (us 200) then s.cdSafe 0x0F
        else { s with stalls := File.set (0, 0) s.stalls (false, g) (0, s.now) }
      | none => { s with stalls := File.set (0, 0) s.stalls (false, g) (0, s.now) } := rfl
  refine ⟨_, hexec.trans (onlyIf_pos _ _ hrun), ?_⟩
  rw [State.settle_stalls, hstalls]
  simp [File.set, File.erase, hnow]

/-- Refutes O21 in its stall clause: right after reset, at time 0, a stall of copy 0 of a control group leaves no note. -/
theorem not_tightropeCompletes : ¬Obligations.TightropeCompletes := by
  unfold Obligations.TightropeCompletes
  rintro ⟨-, -, -, -, -, -, -, -, -, -, -, hstall, -⟩
  obtain ⟨t, hexec, hnoted, -⟩ := hstall 0 0 State.reset rfl rfl
  obtain ⟨u, hexec', hnone⟩ := exec_stall_at_zero 0 State.reset rfl rfl rfl
  cases hexec.symm.trans hexec'
  simp [hnone] at hnoted

/-! ### A read error in a step that still delivers an event (R28, R304, R434, R435) -/

/-- MT runs, channel 0 leads from the device to MT, profile 0 watches the loss flag of TD0 and notifies MT, and that flag's event waits. -/
def mtProfileDue : State :=
  { ((((State.reset.setNat (Reg.REC_P_CFG 0) 0x90000001).setNat (Reg.REC_P_SRC 0) Reg.CLK_FLAGS).setNat (Reg.REC_P_LEVEL 0) 1).setNat
      (Reg.MBX_CH_CFG 0) 0x80170000).updTrip 4 fun r => { r with runs := true } with
    events := [⟨FlagSrc.clk.num, Reg.CLK_FLAGS, 1⟩] }

/-- The notice of the profile is an asynchronous input of MT beside that of the read error. -/
theorem mtProfileDue_inputs :
    (mtProfileDue.trip 4).inputs.length = 0 ∧ ((mtProfileDue.asyncIn 4 0x101).settle.trip 4).inputs.length = 2 := by decide

/-- Refutes O42 in its last clause: a read error of MT is one input, but where a flag event still waits its delivery in the same step may add
another. -/
theorem not_debugCompletes : ¬Obligations.DebugCompletes := by
  unfold Obligations.DebugCompletes
  rintro ⟨-, -, -, -, -, -, -, -, -, -, -, -, -, -, -, -, hread⟩
  obtain ⟨t, hexec, hinputs, -⟩ := hread 4 mtProfileDue rfl
  have hexec' : exec (.dramUncorrectable (.triplet 4)) mtProfileDue = .next (mtProfileDue.asyncIn 4 0x101).settle := rfl
  cases hexec.symm.trans hexec'
  obtain ⟨hbefore, hafter⟩ := mtProfileDue_inputs
  exact absurd (hafter.symm.trans (hinputs.trans (congrArg (· + 1) hbefore))) (by decide)

end Sys2Proof.Machine
end

section
/-!
SUPPORT. Settles O8: fields and flags of one register, frames that follow one another, and what the end of a Tightrope job changes (R18–R22).
-/

namespace Sys2Proof.Machine

/-! ### Fields and flags of one register -/

theorem State.flag_congr {s t : State} {src : FlagSrc} (h : t.reg src.addr = s.reg src.addr) (b : Nat) : t.flag src b = s.flag src b := by
  rw [State.flag, State.flag, h]

/-- Setting a field leaves the flags beside it alone. -/
theorem State.flag_setFld_beside (s : State) (src : FlagSrc) (f : Field) (v b : Nat) (h : f.lo + f.len ≤ 32)
    (hb : b < f.lo ∨ f.lo + f.len ≤ b) : (s.setFld src.addr f v).flag src b = s.flag src b := by
  rw [State.flag, State.reg_setFld_same, Field.put_testBit f _ _ _ h, if_neg (by omega), State.flag]

theorem State.flag_setFld_other (s : State) {src : FlagSrc} {a : Nat} (f : Field) (v b : Nat) (h : src.addr ≠ a) :
    (s.setFld a f v).flag src b = s.flag src b := State.flag_congr (s.reg_setFld_other f v h) b

theorem State.reg_raise_unowned (s : State) {src : FlagSrc} {b a : Nat} (h : src.owns b a = false) : (s.raise src b).reg a = s.reg a := by
  simp only [FlagSrc.owns, Bool.or_eq_false_iff, beq_eq_false_iff_ne] at h
  refine s.raise_reg src b h.1 ?_
  rintro c lo hc rfl
  simp [hc] at h

theorem Only.raise (s : State) (src : FlagSrc) (b : Nat) : Only (fun a => src.owns b a) s (s.raise src b) :=
  ⟨fun _ _ h => s.reg_raise_unowned (by simpa using h), (s.raise_rest src b).trans (by rw [State.raise_rest]; rfl)⟩

/-- A command that raises a flag below the delivery registers leaves it set. -/
theorem State.flag_raise_settle (s : State) (src : FlagSrc) {b : Nat} (hb : b < 32) (h : src.addr < 0x60000) :
    (s.raise src b).settle.flag src b = true := by
  rw [State.flag_congr (State.settle_reg_low _ h), State.flag_raise _ _ _ hb]

theorem Only.mono {p q : Nat → Prop} {s t : State} (h : ∀ a, p a → q a) (hs : Only p s t) : Only q s t :=
  ⟨fun a hd ha => hs.1 a hd fun hp => ha (h a hp), hs.2⟩

theorem Only.trans {p : Nat → Prop} {s t u : State} (h1 : Only p s t) (h2 : Only p t u) : Only p s u :=
  ⟨fun a hd ha => (h2.1 a hd ha).trans (h1.1 a hd ha),
    h2.2.trans ((congrArg (fun x : State => x.withDel u) h1.2).trans (s.withDel_withDel t u))⟩

theorem Only.setFld (s : State) (a : Nat) (f : Field) (v : Nat) : Only (fun x => x = a) s (s.setFld a f v) := Only.setReg s a _

/-! ### Tightrope monitors (R18–R22) -/

section monitors
variable (s : State) (m : Nat)

theorem trReg_ne : Reg.CLK_TR_STAT m ≠ Reg.CLK_TR_CNT m ∧ Reg.CLK_TR_STAT m ≠ Reg.CLK_TR_CFG m ∧ Reg.CLK_TR_CNT m ≠ Reg.CLK_TR_CFG m := by
  simp only [Reg.CLK_TR_STAT, Reg.CLK_TR_CNT, Reg.CLK_TR_CFG]; omega

/-- STATE after the end of a job (R20, R21). -/
def State.endedState (s : State) (m : Nat) : Nat :=
  if s.bit (Reg.CLK_TR_CFG m) Fld.CLK_TR_CFG_PERIODIC then (if s.bit (Reg.CLK_TR_CFG m) Fld.CLK_TR_CFG_EN then 3 else 0) else 0

theorem State.endedState_ne : s.endedState m ≠ 2 := by
  unfold State.endedState; split <;> (try split) <;> decide

theorem State.trState_setTrState {v : Nat} (hv : v < 4) : (s.setTrState m v).trState m = v := by
  rw [State.setTrState, State.trState, State.fld_setFld_same _ _ _ _ (by decide)]
  exact Nat.mod_eq_of_lt hv

theorem State.trEnd_eq (fault : Bool) :
    s.trEnd m fault = (if s.bit (Reg.CLK_TR_CFG m) Fld.CLK_TR_CFG_PERIODIC then s.setBit (Reg.CLK_TR_STAT m) Fld.CLK_TR_STAT_ENDED_BY fault
      else (s.setBit (Reg.CLK_TR_STAT m) Fld.CLK_TR_STAT_ENDED_BY fault).setBit (Reg.CLK_TR_CFG m) Fld.CLK_TR_CFG_EN false).setTrState m (s.endedState m) := by
  have hcfg (f : Field) : (s.setBit (Reg.CLK_TR_STAT m) Fld.CLK_TR_STAT_ENDED_BY fault).bit (Reg.CLK_TR_CFG m) f = s.bit (Reg.CLK_TR_CFG m) f :=
    State.bit_congr (s.reg_setBit_other _ _ (trReg_ne m).2.1.symm) f
  simp only [State.trEnd, State.endedState, hcfg]
  split <;> rfl

theorem State.trEnd_trState (fault : Bool) : (s.trEnd m fault).trState m = s.endedState m := by
  rw [State.trEnd_eq, State.trState_setTrState _ _ (by unfold State.endedState; split <;> (try split) <;> decide)]

/-- What the end of a job leaves of CLK_TR_STAT: ENDED_BY, and every flag. -/
theorem State.trEnd_stat (fault : Bool) : (s.trEnd m fault).bit (Reg.CLK_TR_STAT m) Fld.CLK_TR_STAT_ENDED_BY = fault ∧
    ∀ b, 24 ≤ b → (s.trEnd m fault).flag (.clkTr m) b = s.flag (.clkTr m) b := by
  have hset := s.bit_setBit_same (Reg.CLK_TR_STAT m) Fld.CLK_TR_STAT_ENDED_BY fault (by decide) rfl
  have hflag (b : Nat) (hb : 24 ≤ b) : (s.setBit (Reg.CLK_TR_STAT m) Fld.CLK_TR_STAT_ENDED_BY fault).flag (.clkTr m) b = s.flag (.clkTr m) b :=
    s.flag_setFld_beside (.clkTr m) Fld.CLK_TR_STAT_ENDED_BY _ b (by decide) (.inr (by simp only [Fld.CLK_TR_STAT_ENDED_BY]; omega))
  have hstate (u : State) (b : Nat) (hb : 24 ≤ b) : (u.setTrState m (s.endedState m)).flag (.clkTr m) b = u.flag (.clkTr m) b :=
    u.flag_setFld_beside (.clkTr m) Fld.CLK_TR_STAT_STATE _ b (by decide) (.inr (by simp only [Fld.CLK_TR_STAT_STATE]; omega))
  rw [State.trEnd_eq]
  refine ⟨?_, fun b hb => ?_⟩
  · rw [State.setTrState, State.bit, State.fld_setFld_beside _ _ _ _ _ (by decide) (.inr (by decide))]
    split
    · exact hset
    · exact (State.bit_congr (State.reg_setBit_other _ _ _ (trReg_ne m).2.1) _).trans hset
  · rw [hstate _ b hb]
    split
    · exact hflag b hb
    · exact (State.flag_setFld_other _ (src := .clkTr m) _ _ b (trReg_ne m).2.1).trans (hflag b hb)

/-- The end of a job changes CLK_TR_STAT and CLK_TR_CFG of its monitor only. -/
theorem State.trEnd_frame (fault : Bool) : Only (fun a => a = Reg.CLK_TR_STAT m ∨ a = Reg.CLK_TR_CFG m) s (s.trEnd m fault) := by
  have hended := (Only.setFld s (Reg.CLK_TR_STAT m) Fld.CLK_TR_STAT_ENDED_BY (b2n fault)).mono
    (q := fun a => a = Reg.CLK_TR_STAT m ∨ a = Reg.CLK_TR_CFG m) fun _ h => .inl h
  rw [State.trEnd_eq]
  refine Only.trans ?_ ((Only.setFld _ (Reg.CLK_TR_STAT m) _ _).mono fun _ h => .inl h)
  split
  · exact hended
  · exact hended.trans ((Only.setFld _ (Reg.CLK_TR_CFG m) _ _).mono fun _ h => .inr h)

theorem State.noteSlack_eq (md : Bool) (slack : Nat) :
    s.noteSlack md slack = { s with slackCd := (s.noteSlack md slack).slackCd, slackMd := (s.noteSlack md slack).slackMd } := by
  cases md <;> rfl

theorem State.noteSlack_fld (md : Bool) (slack a : Nat) (f : Field) : (s.noteSlack md slack).fld a f = s.fld a f := by cases md <;> rfl

/-- A completion changes CLK_TR_CNT of its monitor and the slack window of its die only. -/
theorem State.trCompleted_frame (slack : Nat) :
    Only (fun a => a = Reg.CLK_TR_CNT m) { s with slackCd := (s.trCompleted m slack).slackCd, slackMd := (s.trCompleted m slack).slackMd }
      (s.trCompleted m slack) := by
  unfold State.trCompleted
  generalize min slack 65535 = shown
  generalize hdie : s.trDie m = md
  rw [State.noteSlack_eq]
  exact Only.setFld { s with slackCd := _, slackMd := _ } (Reg.CLK_TR_CNT m) Fld.CLK_TR_CNT_LAST_SLACK shown

theorem State.trCompleted_slack (slack : Nat) :
    (s.trCompleted m slack).fld (Reg.CLK_TR_CNT m) Fld.CLK_TR_CNT_LAST_SLACK = min slack 65535 := by
  rw [State.trCompleted, State.noteSlack_fld, State.fld_setFld_same _ _ _ _ (by decide)]
  exact Nat.mod_eq_of_lt (by simp only [Fld.CLK_TR_CNT_LAST_SLACK]; omega)

end monitors

/-- The conditions of R18 on a completion write. -/
def State.timely (s : State) (who : Party) (m : Nat) (v : Word) : Prop :=
  partyCode who = s.trOwner m ∧ s.trState m = 2 ∧ v.toNat % 65536 = s.fld (Reg.CLK_TR_STAT m) Fld.CLK_TR_STAT_SEQ ∧ (s.trmon m).jobRel ≤ s.tb ∧
    s.tb ≤ s.trDeadline m

/-- Monitors 0–31 do not take a write of the host (R22). -/
theorem hostMayComplete {who : Party} {m : Mon} (h : who ≠ .host ∨ 32 ≤ m.val) : (!(who == .host && Nat.blt m.val 32)) = true := by
  rcases h with h | h
  · cases who <;> simp_all
  · have hlt : Nat.blt m.val 32 = false := by rw [Bool.eq_false_iff, ne_eq, Nat.blt_eq]; omega
    simp [hlt]

theorem exec_completionWrite_timely {who : Party} {m : Mon} {v : Word} {s : State} (hrun : s.cdRun = true) (hwho : who ≠ .host ∨ 32 ≤ m.val)
    (h : s.timely who m.val v) :
    exec (.completionWrite who m v) s = .next ((s.trCompleted m.val (s.trDeadline m.val - s.tb)).trEnd m.val false).settle := by
  obtain ⟨howner, hstate, hseq, hrel, hdue⟩ := h
  have hexec : exec (.completionWrite who m v) s = execCompletionWrite who m v s := rfl
  rw [hexec, execCompletionWrite, onlyIf_pos _ _ (by rw [hrun, hostMayComplete hwho]; rfl)]
  simp [howner, hstate, hseq, hrel, hdue]

theorem exec_completionWrite_discarded {who : Party} {m : Mon} {v : Word} {s : State} (hrun : s.cdRun = true) (hwho : who ≠ .host ∨ 32 ≤ m.val)
    (hlate : s.trLate m.val (v.toNat % 65536) = none) (h : ¬s.timely who m.val v) :
    exec (.completionWrite who m v) s = .next (s.raise (.clkTr m.val) 24).settle := by
  have hexec : exec (.completionWrite who m v) s = execCompletionWrite who m v s := rfl
  rw [hexec, execCompletionWrite, onlyIf_pos _ _ (by rw [hrun, hostMayComplete hwho]; rfl)]
  have hok : (partyCode who == s.trOwner m.val && s.trState m.val == 2 && v.toNat % 65536 == s.fld (Reg.CLK_TR_STAT m.val) Fld.CLK_TR_STAT_SEQ &&
      Nat.ble (s.trmon m.val).jobRel s.tb && Nat.ble s.tb (s.trDeadline m.val)) = false := by
    rw [Bool.eq_false_iff]
    simpa [State.timely, and_assoc] using h
  simp only [hok, hlate, Bool.false_eq_true, if_false]
  cases partyCode who == s.trOwner m.val <;> rfl

theorem Only.slack {p : Nat → Prop} {s t : State} (h : Only p s t) : t.slackCd = s.slackCd ∧ t.slackMd = s.slackMd := by
  rw [h.2]; exact ⟨rfl, rfl⟩

theorem clkTr_low (m : Mon) : Reg.CLK_TR_STAT m.val < 0x60000 ∧ Reg.CLK_TR_CNT m.val < 0x60000 := by
  have := m.isLt
  simp only [Reg.CLK_TR_STAT, Reg.CLK_TR_CNT]; omega

/-- A timely completion ends the job (R18, R20, R26). -/
theorem completion_ends_job (s : State) (m : Mon) : let slack := s.trDeadline m.val - s.tb
    let t := ((s.trCompleted m.val slack).trEnd m.val false).settle
    t.trState m.val ≠ 2 ∧ t.bit (Reg.CLK_TR_STAT m.val) Fld.CLK_TR_STAT_ENDED_BY = false ∧
      t.fld (Reg.CLK_TR_CNT m.val) Fld.CLK_TR_CNT_LAST_SLACK = min slack 65535 ∧
      Only (fun a => a = Reg.CLK_TR_STAT m.val ∨ a = Reg.CLK_TR_CNT m.val ∨ a = Reg.CLK_TR_CFG m.val)
        { s with slackCd := t.slackCd, slackMd := t.slackMd } t ∧ t.flag (.clkTr m.val) 24 = s.flag (.clkTr m.val) 24 := by
  intro slack t
  obtain ⟨hstat, hcnt⟩ := clkTr_low m
  obtain ⟨hended, hflag⟩ := (s.trCompleted m.val slack).trEnd_stat m.val false
  have hend := (s.trCompleted m.val slack).trEnd_frame m.val false
  have hdone := s.trCompleted_frame m.val slack
  refine ⟨?_, ?_, ?_, ?_, ?_⟩
  · rw [State.trState, State.settle_fld_low _ _ hstat]
    exact (State.trEnd_trState _ _ _).trans_ne (State.endedState_ne _ _)
  · rw [State.settle_bit_low _ _ hstat, hended]
  · rw [State.settle_fld_low _ _ hcnt, State.fld_congr (hend.1 _ (deliveryReg_low hcnt) (by
      rintro (h | h)
      · exact (trReg_ne m.val).1 h.symm
      · exact (trReg_ne m.val).2.2 h)), State.trCompleted_slack]
  · have hslack : t.slackCd = (s.trCompleted m.val slack).slackCd ∧ t.slackMd = (s.trCompleted m.val slack).slackMd := by
      exact ⟨(State.settle_slackCd _).trans hend.slack.1, (State.settle_slackMd _).trans hend.slack.2⟩
    rw [hslack.1, hslack.2]
    exact ((hdone.mono fun a h => .inr (.inl h)).trans (hend.mono fun a h => h.imp_right .inr)).settle
  · rw [State.flag_congr (src := .clkTr m.val) (State.settle_reg_low _ hstat), hflag _ (le_refl _)]
    exact State.flag_congr (src := .clkTr m.val) (hdone.1 _ (deliveryReg_low hstat) (trReg_ne m.val).1) 24

/-- Settles O8: a timely completion runs the end of the job, every other one the occurrence of BADWR alone. -/
theorem completionWrites : Obligations.CompletionWrites := by
  unfold Obligations.CompletionWrites
  refine ⟨fun who m v s hrun hwho h => ⟨_, exec_completionWrite_timely hrun hwho h, completion_ends_job s m⟩,
    fun who m v s hrun hwho hlate h => ⟨_, exec_completionWrite_discarded hrun hwho hlate h, ?_, (Only.raise s _ _).settle⟩⟩
  exact s.flag_raise_settle _ (by decide) (clkTr_low m).1

end Sys2Proof.Machine
end

section
/-!
SUPPORT. Settles O2: the time, the command queue and the supplies are apart from every register, ring, recorder and transaction, so what runs
within a tick leaves them alone (R12, R14, R348).
-/

namespace Sys2Proof.Machine

/-- What no delivery, completion, transaction or unit that follows the device state changes. -/
def State.base (s : State) : Variant × Nat × Nat × Nat × List Instr × Bool × Bool × Power × Rm :=
  (s.variant, s.now, s.tb, s.ptp, s.pending, s.cdRun, s.rmRun, s.power, s.rm)

section updates
variable (s : State)

@[simp] theorem State.base_setReg (a : Nat) (v : Word) : (s.setReg a v).base = s.base := Prod.ext rfl rfl
@[simp] theorem State.base_setFld (a : Nat) (f : Field) (v : Nat) : (s.setFld a f v).base = s.base := Prod.ext rfl rfl
@[simp] theorem State.base_setBit (a : Nat) (f : Field) (v : Bool) : (s.setBit a f v).base = s.base := Prod.ext rfl rfl
@[simp] theorem State.base_setNat (a v : Nat) : (s.setNat a v).base = s.base := Prod.ext rfl rfl
@[simp] theorem State.base_setNat64 (a b v : Nat) : (s.setNat64 a b v).base = s.base := Prod.ext rfl rfl
@[simp] theorem State.base_updRing (r : Nat) (f : RingSt → RingSt) : (s.updRing r f).base = s.base := Prod.ext rfl rfl
@[simp] theorem State.base_updVec (r : Nat) (f : MsiVec → MsiVec) : (s.updVec r f).base = s.base := Prod.ext rfl rfl
@[simp] theorem State.base_updTxn (t : Nat) (f : Txn → Txn) : (s.updTxn t f).base = s.base := Prod.ext rfl rfl
@[simp] theorem State.base_updCan (x : Nat) (f : CanSt → CanSt) : (s.updCan x f).base = s.base := Prod.ext rfl rfl
@[simp] theorem State.base_updSys (f : SysBus → SysBus) : (s.updSys f).base = s.base := Prod.ext rfl rfl
@[simp] theorem State.base_putHost (a : Nat) (l : List Byte) : (s.putHost a l).base = s.base := Prod.ext rfl rfl
@[simp] theorem State.base_writeBack (r x : Nat) : (s.writeBack r x).base = s.base := Prod.ext rfl rfl
@[simp] theorem State.base_settle : s.settle.base = s.base := by simp [State.base]

/-- A change made for each element of a list keeps it where every one does. -/
theorem State.base_each {α : Type} {l : List α} {f : State → α → State} (h : ∀ u x, (f u x).base = u.base) : (s.each l f).base = s.base :=
  s.each_same State.base f l fun u x _ => h u x

@[simp] theorem State.base_raiseMask (src : FlagSrc) (m : Nat) : (s.raiseMask src m).base = s.base := by
  rw [State.raiseMask_rest]; rfl
@[simp] theorem State.base_raise (src : FlagSrc) (b : Nat) : (s.raise src b).base = s.base := s.base_raiseMask src _
@[simp] theorem State.base_raiseIf (c : Bool) (src : FlagSrc) (b : Nat) : (s.raiseIf c src b).base = s.base := by
  simp [State.raiseIf, apply_ite State.base]

end updates

/-! ### Rings -/

section rings
variable (s : State) (r : Nat)

@[simp] theorem State.base_message (v : Nat) : (s.message v).base = s.base := by
  unfold State.message
  repeat' split
  all_goals simp
@[simp] theorem State.base_moderate (b : Bool) : (s.moderate r b).base = s.base := by simp [State.moderate, apply_ite State.base]
@[simp] theorem State.base_produce (n : Nat) (b : Bool) (mk : Nat → Nat → List Byte) : (s.produce r n b mk).base = s.base := by simp [State.produce]
@[simp] theorem State.base_placeCompletion (n : Nat) (l : List Byte) (b : Bool) : (s.placeCompletion r n l b).base = s.base := by
  simp [State.placeCompletion, State.markDone]
@[simp] theorem State.base_completion (n op tag st why : Nat) (l : List Byte) (irq mine : Bool) :
    (s.completion r n op tag st why l irq mine).base = s.base := by simp [State.completion, apply_ite State.base]
@[simp] theorem State.base_ringError (st : Nat) : (s.ringError r st).base = s.base := by simp [State.ringError]
@[simp] theorem State.base_flushRange (h t st : Nat) : (s.flushRange r h t st).base = s.base :=
  s.base_each fun u i => by simp [State.flushOne]
@[simp] theorem State.base_stopRing : (s.stopRing r).base = s.base := by simp [State.stopRing, apply_ite State.base]
@[simp] theorem State.base_dropQueue : (s.dropQueue r).base = s.base := by simp [State.dropQueue]
@[simp] theorem State.base_flushDisabled : (s.flushDisabled r).base = s.base := by
  simp only [State.flushDisabled, State.base_setBit, State.base_setNat, State.base_flushRange]
  exact (State.base_each _ fun u i => by simp [State.flushOne]).trans (s.base_dropQueue r)
@[simp] theorem State.base_finish (f : Fetched) (st why : Nat) (l : List Byte) : (s.finish r f st why l).base = s.base := by
  simp [State.finish, apply_ite State.base]
@[simp] theorem State.base_popFront : (s.popFront r).base = s.base := Prod.ext rfl rfl

end rings

/-! ### Transactions -/

section transactions
variable (s : State)

@[simp] theorem State.base_lastTid (tid : Nat) : { s with lastTid := tid }.base = s.base := Prod.ext rfl rfl
@[simp] theorem State.base_freeTxn (t : Nat) : (s.freeTxn t).base = s.base := Prod.ext rfl rfl
@[simp] theorem State.base_setTxErr (t why off : Nat) : (s.setTxErr t why off).base = s.base := s.base_setNat _ _
@[simp] theorem State.base_setTxState (t v : Nat) : (s.setTxState t v).base = s.base := s.base_setFld _ _ _
@[simp] theorem State.base_touchTxn (t : Nat) : (s.touchTxn t).base = s.base := s.base_updTxn _ _
@[simp] theorem State.base_commitResult (t : Nat) (ok : Bool) (why off tc : Nat) : (s.commitResult t ok why off tc).base = s.base := by
  unfold State.commitResult
  repeat' split
  all_goals simp [apply_ite State.base]
@[simp] theorem State.base_txBegin : s.txBegin.1.base = s.base := by
  unfold State.txBegin
  split
  · rfl
  · split
    · rfl
    · simp
@[simp] theorem State.base_txStage (tid off : Nat) (v : Word) : (s.txStage tid off v).1.base = s.base := by
  unfold State.txStage
  simp only
  repeat' split
  all_goals simp
@[simp] theorem State.base_txValidate (tid : Nat) : (s.txValidate tid).1.base = s.base := by
  unfold State.txValidate
  repeat' split
  all_goals simp
@[simp] theorem State.base_txCommit (tid bnd k ptp : Nat) (ring : Option Nat) : (s.txCommit tid bnd k ptp ring).1.base = s.base := by
  unfold State.txCommit
  repeat' split
  all_goals simp [State.txCommitFails]
@[simp] theorem State.base_txRollback (tid : Nat) : (s.txRollback tid).1.base = s.base := by
  unfold State.txRollback
  repeat' split
  all_goals simp
/-- Staging several words one after another, stopping at the first failure. -/
theorem State.base_stageLoop (tid : Nat) (l : List Word) (acc : State × Nat × Nat) :
    (l.foldl (fun (acc : State × Nat × Nat) v =>
      let o := acc.2.2
      if acc.2.1 = 0 then
        let p := acc.1.txStage tid o v
        (p.1, p.2, if p.2 = 0 then o + 4 else o)
      else acc) acc).1.base = acc.1.base := by
  induction l generalizing acc with
  | nil => rfl
  | cons v l ih =>
    refine (ih _).trans ?_
    dsimp only
    split
    · exact acc.1.base_txStage tid _ v
    · rfl

@[simp] theorem State.base_stageAll (tid off : Nat) (l : List Word) : (s.stageAll tid off l).1.base = s.base := by
  unfold State.stageAll
  have hloop := State.base_stageLoop tid l (s, 0, off)
  dsimp only at hloop ⊢
  split
  · exact hloop
  · split
    · split <;> simp
    · rfl

end transactions

/-! ### Descriptors that execute at once -/

section descriptors
variable (s : State)

@[simp] theorem State.base_heartbeat (v : Word) : (s.heartbeat v).base = s.base := by
  unfold State.heartbeat
  split
  · simp
  · exact Prod.ext rfl rfl

@[simp] theorem State.base_finishTxn (r : Nat) (f : Fetched) (why off : Nat) : (s.finishTxn r f why off).base = s.base := by
  simp [State.finishTxn, apply_ite State.base]

@[simp] theorem State.base_txnDesc (r : Nat) (f : Fetched) : (s.txnDesc r f).base = s.base := by
  unfold State.txnDesc
  split <;> simp [apply_ite State.base]

@[simp] theorem State.base_heartbeatDesc (r : Nat) (f : Fetched) : (s.heartbeatDesc r f).base = s.base := by
  simp [State.heartbeatDesc, apply_ite State.base]

@[simp] theorem State.base_ownStep (r : Nat) : (s.ownStep r).base = s.base := by
  unfold State.ownStep
  split
  · rfl
  · split <;> simp [apply_ite State.base]

@[simp] theorem State.base_drainOwn (r : Nat) : (s.drainOwn r).base = s.base := s.base_each fun u _ => u.base_ownStep r

end descriptors

/-! ### The tick -/

section tick
variable (s : State)

@[simp] theorem State.base_canStart (x : Nat) : (s.canStart x).base = s.base := by
  unfold State.canStart
  split
  · split <;> simp
  · rfl

@[simp] theorem State.base_setAlign (v : Nat) : (s.setAlign v).base = s.base := by
  rw [State.setAlign, State.base_each _ fun u n => u.base_setBit _ _ _]
  simp

@[simp] theorem State.base_alignAlone : s.alignAlone.base = s.base := by simp [State.alignAlone, apply_ite State.base]

@[simp] theorem State.base_measureSelf : s.measureSelf.base = s.base := by
  have hdrawn (u : State) (a : Nat) : (u.drawn 32 fun v w => w.setNat a v).base = u.base := Prod.ext rfl rfl
  unfold State.measureSelf
  split
  · rfl
  · rw [State.base_each _ fun u n => hdrawn u _, hdrawn, hdrawn]

theorem State.countVb_clock :
    s.countVb.now = s.now ∧ s.countVb.tb = s.tb ∧ s.countVb.ptp = s.ptp ∧ s.countVb.pending = s.pending ∧ s.countVb.cdRun = s.cdRun := by
  unfold State.countVb
  split <;> exact ⟨rfl, rfl, rfl, rfl, rfl⟩

theorem State.base_eq_iff (t : State) : t.base = s.base ↔ t.variant = s.variant ∧ t.now = s.now ∧ t.tb = s.tb ∧ t.ptp = s.ptp ∧
    t.pending = s.pending ∧ t.cdRun = s.cdRun ∧ t.rmRun = s.rmRun ∧ t.power = s.power ∧ t.rm = s.rm := by simp [State.base]

/-- While the control die runs, what the units do within a tick leaves the counters where `countTb` puts them. -/
theorem State.tick_clock {u : State} (hu : ({ s with now := s.now + 1 } : State).countTb = u) (hcd : u.cdRun = true) :
    s.tick.now = u.now ∧ s.tick.tb = u.tb ∧ s.tick.ptp = u.ptp ∧ s.tick.pending = u.pending := by
  obtain ⟨-, anow, atb, aptp, apend, acd, -⟩ := (u.base_eq_iff _).1 u.base_alignAlone
  obtain ⟨vnow, vtb, vptp, vpend, vcd⟩ := u.alignAlone.countVb_clock
  have hunits : s.tick.base = u.alignAlone.countVb.base := by
    simp only [State.tick, hu]
    rw [if_pos (vcd.trans (acd.trans hcd)), State.base_settle, State.base_measureSelf, State.base_each _ fun u r => u.base_drainOwn r,
      State.base_each _ fun u x => u.base_canStart x]
  obtain ⟨-, tnow, ttb, tptp, tpend, -⟩ := (State.base_eq_iff _ _).1 hunits
  exact ⟨tnow.trans (vnow.trans anow), ttb.trans (vtb.trans atb), tptp.trans (vptp.trans aptp), tpend.trans (vpend.trans apend)⟩

/-- While the control die is down a tick counts the time, and Ringmaster's. -/
theorem State.tick_down (h : s.cdRun = false) : s.tick = ({ s with now := s.now + 1 } : State).countVb := by
  simp [State.tick, State.countTb, State.alignAlone, (State.countVb_clock _).2.2.2.2, h]

end tick

theorem step_tick {s : State} (h : s.pending = []) : step s = .next s.tick := by simp [step, h, idle]

/-- Settles O2: while the control die runs everything but `countTb` keeps the base; while it is down only `countVb` acts. -/
theorem tickCounts : Obligations.TickCounts := by
  refine ⟨fun s hp hcd hclk => ⟨s.tick, step_tick hp, ?_⟩, fun s hp hcd => ⟨s.tick, step_tick hp, ?_⟩⟩
  · have hcount : ({ s with now := s.now + 1 } : State).countTb = { s with now := s.now + 1, tb := s.tb + 1, ptp := s.ptp + s.ptpAdd } :=
      if_pos (by simp only [hcd, Bool.true_and, Bool.not_eq_true']; exact hclk)
    obtain ⟨hnow, htb, hptp, hpend⟩ := s.tick_clock hcount hcd
    exact ⟨hnow, htb, hptp, hpend.trans hp⟩
  · rw [s.tick_down hcd]
    by_cases hvb : s.power.vauxB = true <;> simp [State.countVb, State.updRm, hvb]

end Sys2Proof.Machine
end

section
/-!
SUPPORT. What the units that follow the device state change: registers of the peripherals and of the host side, and what those units hold
(R271, R282, R360, R376).
-/

namespace Sys2Proof.Machine

/-- A register of the auxiliary drives, the feedback interfaces or the service regulators, or of CAN, HIF, MBX, REC or DBG. -/
def periph (a : Nat) : Bool := (Nat.ble 0x38000 a && Nat.blt a 0x40000) || Nat.ble 0x58000 a

theorem periph_high {a : Nat} (h : 0x58000 ≤ a) : periph a = true := by simp [periph, h]

/-- The state without what the host side and the peripherals hold. -/
def State.core (s : State) : State × (Nat → Word) :=
  ({ s with regs := [], hostMem := [], events := [], recQueue := [], mbx := [], devQueue := [], msi := [], rings := [], profs := [],
            recst := {}, trips := [], svrs := [], auxs := [], cans := [] },
   fun a => if periph a then 0 else s.reg a)

section updates
variable (s : State)

theorem State.core_setReg {a : Nat} (v : Word) (h : periph a = true) : (s.setReg a v).core = s.core := by
  refine Prod.ext rfl (funext fun x => ?_)
  simp only [State.core]
  split
  · rfl
  · rename_i hx
    exact s.reg_setReg_other v (by rintro rfl; exact hx h)

@[simp] theorem State.core_setFld {a : Nat} (f : Field) (v : Nat) (h : periph a = true) : (s.setFld a f v).core = s.core := s.core_setReg _ h
@[simp] theorem State.core_setBit {a : Nat} (f : Field) (v : Bool) (h : periph a = true) : (s.setBit a f v).core = s.core := s.core_setReg _ h
@[simp] theorem State.core_setNat {a : Nat} (v : Nat) (h : periph a = true) : (s.setNat a v).core = s.core := s.core_setReg _ h
@[simp] theorem State.core_incFld {a : Nat} (f : Field) (h : periph a = true) : (s.incFld a f).core = s.core := s.core_setFld _ _ h
@[simp] theorem State.core_incSat {a : Nat} (h : periph a = true) : (s.incSat a).core = s.core := s.core_setNat _ h
@[simp] theorem State.core_updRing (r : Nat) (f : RingSt → RingSt) : (s.updRing r f).core = s.core := Prod.ext rfl rfl
@[simp] theorem State.core_updVec (v : Nat) (f : MsiVec → MsiVec) : (s.updVec v f).core = s.core := Prod.ext rfl rfl
@[simp] theorem State.core_updTrip (t : Nat) (f : TripSt → TripSt) : (s.updTrip t f).core = s.core := Prod.ext rfl rfl
@[simp] theorem State.core_updDir (c : Nat) (d : Bool) (f : NoticeDir → NoticeDir) : (s.updDir c d f).core = s.core := Prod.ext rfl rfl
@[simp] theorem State.core_updCan (x : Nat) (f : CanSt → CanSt) : (s.updCan x f).core = s.core := Prod.ext rfl rfl
@[simp] theorem State.core_updSvr (c : Nat) (f : Svr → Svr) : (s.updSvr c f).core = s.core := Prod.ext rfl rfl
@[simp] theorem State.core_updAux (i : Nat) (f : Aux → Aux) : (s.updAux i f).core = s.core := Prod.ext rfl rfl
@[simp] theorem State.core_putHost (a : Nat) (l : List Byte) : (s.putHost a l).core = s.core := Prod.ext rfl rfl
@[simp] theorem State.core_events (l : List FlagEvent) : { s with events := l }.core = s.core := Prod.ext rfl rfl
@[simp] theorem State.core_devQueue (l : List DevNotice) : { s with devQueue := l }.core = s.core := Prod.ext rfl rfl
@[simp] theorem State.core_recorder (q : List RecEntry) (r : RecSt) : { s with recQueue := q, recst := r }.core = s.core := Prod.ext rfl rfl

/-- A change made for each element of a list keeps it where every one does. -/
theorem State.core_each {α : Type} {l : List α} {f : State → α → State} (h : ∀ u x, x ∈ l → (f u x).core = u.core) : (s.each l f).core = s.core :=
  s.each_same State.core f l h

end updates

/-! ### Flags and the recorder -/

/-- The sources whose registers are CAN, HIF, MBX or REC. -/
def FlagSrc.hostSide : FlagSrc → Bool
  | .can _ | .hif | .mbx | .recd => true
  | _ => false

@[simp] theorem FlagSrc.hostSide_eq : (∀ x, (FlagSrc.can x).hostSide = true) ∧ FlagSrc.hif.hostSide = true ∧ FlagSrc.mbx.hostSide = true ∧
    FlagSrc.recd.hostSide = true := ⟨fun _ => rfl, rfl, rfl, rfl⟩

theorem FlagSrc.hostSide_addr {src : FlagSrc} (h : src.hostSide = true) : periph src.addr = true := by
  cases src <;> simp only [FlagSrc.hostSide, Bool.false_eq_true] at h <;> apply periph_high <;>
    simp only [FlagSrc.addr, Reg.CAN_FLAGS, Reg.HIF_FLAGS, Reg.MBX_FLAGS, Reg.REC_FLAGS] <;> omega

theorem FlagSrc.hostSide_counter {src : FlagSrc} (h : src.hostSide = true) {b a lo : Nat} (hc : src.counter b = some (a, lo)) : periph a = true := by
  cases src <;> simp only [FlagSrc.hostSide, Bool.false_eq_true] at h <;>
    simp only [FlagSrc.counter, FlagSrc.cnt0, Option.some.injEq, Prod.mk.injEq] at hc <;> apply periph_high <;> rw [← hc.1] <;>
    simp only [Reg.CAN_CNT0, Reg.HIF_CNT0, Reg.MBX_CNT0, Reg.REC_CNT0] <;> omega

section flags
variable (s : State)

theorem State.core_countFlag {src : FlagSrc} (b : Nat) (h : src.hostSide = true) : (s.countFlag src b).core = s.core := by
  unfold State.countFlag
  split
  · rename_i hc; exact s.core_incFld _ (src.hostSide_counter h hc)
  · rfl

theorem State.core_countAll {src : FlagSrc} (l : List Nat) (h : src.hostSide = true) : (s.countAll src l).core = s.core :=
  s.core_each fun u b _ => u.core_countFlag b h

@[simp] theorem State.core_raiseMask {src : FlagSrc} (m : Nat) (h : src.hostSide = true) : (s.raiseMask src m).core = s.core := by
  rw [State.raiseMask_eq, State.core_events, State.core_countAll _ _ h, State.core_setNat _ _ (src.hostSide_addr h)]
@[simp] theorem State.core_raise {src : FlagSrc} (b : Nat) (h : src.hostSide = true) : (s.raise src b).core = s.core := s.core_raiseMask _ h
@[simp] theorem State.core_raiseIf {src : FlagSrc} (c : Bool) (b : Nat) (h : src.hostSide = true) : (s.raiseIf c src b).core = s.core := by
  simp [State.raiseIf, apply_ite State.core, h]
@[simp] theorem State.core_asOne {src : FlagSrc} (b : Nat) (f : State → State) (h : src.hostSide = true) (hf : (f s).core = s.core) :
    (s.asOne src b f).core = s.core := by
  unfold State.asOne
  simp only
  split
  · rename_i hc; exact ((f s).core_setFld _ _ (src.hostSide_counter h hc)).trans hf
  · exact hf

@[simp] theorem State.core_enqueue (e : RecEntry) : (s.enqueue e).core = s.core :=
  (State.core_setFld _ _ _ (periph_high (by decide))).trans (s.core_recorder _ _)
@[simp] theorem State.core_endFreeze (b : Bool) : (s.endFreeze b).core = s.core :=
  (State.core_raiseIf _ _ _ rfl).trans (s.core_setBit _ _ (periph_high (by decide)))
@[simp] theorem State.core_systemEntry (kind src bits : Nat) (l : List Nat) : (s.systemEntry kind src bits l).core = s.core := by
  have hsupp : (s.incSat Reg.REC_SYSSUPP).core = s.core := s.core_incSat (periph_high (by decide))
  unfold State.systemEntry
  simp only
  split
  · exact hsupp
  · split <;> simp
@[simp] theorem State.core_record (src bits : Nat) (l : List Nat) : (s.record src bits l).core = s.core := s.core_systemEntry _ _ _ _

end flags

/-! ### Notices -/

section notices
variable (s : State)

theorem periph_mbx (c p : Nat) : periph (Reg.MBX_CH_STAT c) = true ∧ periph (Reg.MBX_EPOCH p) = true ∧ periph Reg.MBX_RXPEND = true ∧
    periph Reg.MBX_LAST = true := by
  simp only [Reg.MBX_CH_STAT, Reg.MBX_EPOCH]
  exact ⟨periph_high (by omega), periph_high (by omega), rfl, rfl⟩

@[simp] theorem State.core_asyncIn (t code : Nat) : (s.asyncIn t code).core = s.core := s.core_updTrip _ _
@[simp] theorem State.core_notify (code c f : Nat) : (s.notify code c f).core = s.core := by
  unfold State.notify
  split <;> simp
@[simp] theorem State.core_setChStat (c : Nat) (d b : Bool) : (s.setChStat c d b).core = s.core := s.core_setFld _ _ (periph_mbx c 0).1
@[simp] theorem State.core_present (c : Nat) (d : Bool) : (s.present c d).core = s.core := by
  simp [State.present, apply_ite State.core, periph_mbx c 0]
@[simp] theorem State.core_post (c : Nat) (d : Bool) (ptr tag : Nat) : (s.post c d ptr tag).core = s.core := by simp [State.post]
@[simp] theorem State.core_nextDevice (c : Nat) : (s.nextDevice c).core = s.core := by
  unfold State.nextDevice
  split <;> simp [apply_ite State.core]
@[simp] theorem State.core_setLastCode (c : Nat) (d : Bool) (v : Nat) : (s.setLastCode c d v).core = s.core :=
  s.core_setNat _ (periph_mbx c 0).2.2.2
@[simp] theorem State.core_endNotice (c : Nat) (d : Bool) (code ep own : Nat) (w : Bool) : (s.endNotice c d code ep own w).core = s.core := by
  simp [State.endNotice, apply_ite State.core, periph_mbx c 0]
@[simp] theorem State.core_tripFresh (t : Nat) : (s.tripFresh t).core = s.core := s.core_updTrip _ _
@[simp] theorem State.core_device (who block code st : Nat) : (s.device who block code st).core = s.core := by
  unfold State.device
  simp only
  split
  · simp
  · simp [apply_ite State.core]

@[simp] theorem State.core_resetParty (p : Nat) : (s.resetParty p).core = s.core := by
  have hepoch (v : Nat) : (s.setNat (Reg.MBX_EPOCH p) v).core = s.core := s.core_setNat _ (periph_mbx 0 p).2.1
  unfold State.resetParty
  simp only [apply_ite State.core, State.core_tripFresh, ite_self]
  refine (State.core_asOne _ _ _ rfl ?_).trans (hepoch _)
  refine State.core_each _ fun u c _ => State.core_each _ fun v d _ => ?_
  split
  · rfl
  · simp [apply_ite State.core]

end notices

/-! ### Rings -/

section rings
variable (s : State) (r : Nat)

@[simp] theorem periph_ring : periph (Reg.HIF_RING_STAT r) = true ∧ periph (Reg.HIF_RING_DEVIDX r) = true ∧ periph (Reg.HIF_RING_DONE r) = true := by
  simp only [Reg.HIF_RING_STAT, Reg.HIF_RING_DEVIDX, Reg.HIF_RING_DONE]
  exact ⟨periph_high (by omega), periph_high (by omega), periph_high (by omega)⟩
@[simp] theorem periph_PBA : periph (Reg.MSIX_PBA r) = true := periph_high (by simp only [Reg.MSIX_PBA]; omega)

@[simp] theorem State.core_writeBack (x : Nat) : (s.writeBack r x).core = s.core := s.core_putHost _ _
@[simp] theorem State.core_message (v : Nat) : (s.message v).core = s.core := by
  unfold State.message
  repeat' split
  all_goals simp
@[simp] theorem State.core_moderate (b : Bool) : (s.moderate r b).core = s.core := by simp [State.moderate, apply_ite State.core]
@[simp] theorem State.core_produce (n : Nat) (b : Bool) (mk : Nat → Nat → List Byte) : (s.produce r n b mk).core = s.core := by simp [State.produce]
@[simp] theorem State.core_placeCompletion (n : Nat) (l : List Byte) (b : Bool) : (s.placeCompletion r n l b).core = s.core := by
  simp [State.placeCompletion, State.markDone]
@[simp] theorem State.core_completion (n op tag st why : Nat) (l : List Byte) (irq mine : Bool) :
    (s.completion r n op tag st why l irq mine).core = s.core := by simp [State.completion, apply_ite State.core]
@[simp] theorem State.core_ringError (st : Nat) : (s.ringError r st).core = s.core := by
  have herr : periph Reg.HIF_ERRRING = true := rfl
  simp [State.ringError, herr]
@[simp] theorem State.core_flushRange (h t st : Nat) : (s.flushRange r h t st).core = s.core := s.core_each fun u i _ => by simp [State.flushOne]
@[simp] theorem State.core_stopRing : (s.stopRing r).core = s.core := by simp [State.stopRing, apply_ite State.core]
@[simp] theorem State.core_dropQueue : (s.dropQueue r).core = s.core := by simp [State.dropQueue]
@[simp] theorem State.core_flushDisabled : (s.flushDisabled r).core = s.core := by
  have hdrop : ((s.dropQueue r).each ((s.ring r).queue.map (·.index)) fun u i => u.flushOne r i csFLUSH_DISABLE).core = s.core :=
    (State.core_each _ fun u i _ => by simp [State.flushOne]).trans (s.core_dropQueue r)
  simp [State.flushDisabled, hdrop]
@[simp] theorem State.core_finish (f : Fetched) (st why : Nat) (l : List Byte) : (s.finish r f st why l).core = s.core := by
  simp [State.finish, apply_ite State.core]

end rings

/-! ### The units that follow the device state -/

section units
variable (s : State)

@[simp] theorem periph_can (x b : Nat) : periph (Reg.CAN_STAT x) = true ∧ periph (Reg.CAN_TB_STAT x b) = true := by
  simp only [Reg.CAN_STAT, Reg.CAN_TB_STAT]
  exact ⟨periph_high (by omega), periph_high (by omega)⟩

@[simp] theorem State.core_setCanState (x v : Nat) : (s.setCanState x v).core = s.core := s.core_setFld _ _ (periph_can x 0).1
@[simp] theorem State.core_setCanOwn (x b : Nat) (on : Bool) : (s.setCanOwn x b on).core = s.core := by simp [State.setCanOwn, periph_can x b]
@[simp] theorem State.core_canDescriptorEnds (x b out why : Nat) : (s.canDescriptorEnds x b out why).core = s.core := by
  unfold State.canDescriptorEnds
  simp only
  split <;> simp
@[simp] theorem State.core_canReturn (x b out : Nat) : (s.canReturn x b out).core = s.core := by
  simp [State.canReturn]
@[simp] theorem State.core_canStop (x : Nat) : (s.canStop x).core = s.core := by
  simp only [State.canStop, State.core_updCan, State.core_setCanState]
  exact s.core_each fun u b _ => u.core_canReturn x b _
@[simp] theorem State.core_canFollow : s.canFollow.core = s.core :=
  s.core_each fun u x _ => by simp [apply_ite State.core]

theorem periph_svr {c : Nat} (h : c < 4) : periph (Reg.SVR_STAT c) = true ∧ periph (Reg.SVR_CTRL c) = true := by
  simp [periph, Reg.SVR_STAT, Reg.SVR_CTRL]
  omega
theorem periph_aux {i : Nat} (h : i < 4) : periph (Reg.AUXD_STAT i) = true ∧ periph (Reg.AUXD_CTRL i) = true := by
  simp [periph, Reg.AUXD_STAT, Reg.AUXD_CTRL]
  omega

theorem State.core_svrOff {c : Nat} (h : c < 4) : (s.svrOff c).core = s.core := by
  simp [State.svrOff, State.setSvrState, periph_svr h]
theorem State.core_svrSoftStart {c : Nat} (h : c < 4) : (s.svrSoftStart c).core = s.core :=
  have hstat := (periph_svr h).1
  (State.core_updSvr _ _ _).trans ((State.core_setFld _ _ _ hstat).trans (s.core_setFld _ _ hstat))
theorem State.core_auxOff {i : Nat} (h : i < 4) : (s.auxOff i).core = s.core := by
  simp [State.auxOff, State.setAuxState, periph_aux h]
theorem State.core_auxStart {i : Nat} (h : i < 4) : (s.auxStart i).core = s.core := by
  simp [State.auxStart, State.setAuxState, periph_aux h]

@[simp] theorem State.core_svrFollow : s.svrFollow.core = s.core := by
  refine s.core_each fun u c hc => ?_
  have h := List.mem_range.1 hc
  repeat' split
  · rw [State.core_setBit _ _ _ (periph_svr h).2, u.core_svrOff h]
  · exact u.core_svrOff h
  · exact u.core_svrSoftStart h
  · rfl
@[simp] theorem State.core_auxFollow : s.auxFollow.core = s.core := by
  refine s.core_each fun u i hi => ?_
  have h := List.mem_range.1 hi
  repeat' split
  · rw [State.core_setBit _ _ _ (periph_aux h).2, u.core_auxOff h]
  · exact u.core_auxOff h
  · exact u.core_auxStart h
  · rfl
@[simp] theorem State.core_unitsFollow : s.unitsFollow.core = s.core := by simp [State.unitsFollow]

end units
end Sys2Proof.Machine
end

section
/-!
SUPPORT. The frame of the reactions of O20 and O22: what transactions, clusters, charge engines, the ledger and the transport change lies outside
the registers in which those statements read a fault, its demand and its reaction.
-/

namespace Sys2Proof.Machine

/-- The registers in which a fault shows: GLB_DEVSTATE, GLB_BOOTSTAT, GLB_GUARD, the supplies and the clocks, the driver dies, the flags and
invalid bits of MEAS, and the demands, outputs and lines of Ringmaster. -/
def guarded (a : Nat) : Bool :=
  decide (a = 0x20 ∨ a = 0x2C ∨ a = 0x40 ∨ (0x2000 ≤ a ∧ a < 0x2100) ∨ (0x4000 ≤ a ∧ a < 0x4030) ∨ (0x18000 ≤ a ∧ a < 0x1B000) ∨
    (0x30000 ≤ a ∧ a < 0x30030) ∨ a = 0x48004 ∨ a = 0x48028 ∨ a = 0x48038)

theorem unguarded {a : Nat} (h : ¬(a = 0x20 ∨ a = 0x2C ∨ a = 0x40 ∨ (0x2000 ≤ a ∧ a < 0x2100) ∨ (0x4000 ≤ a ∧ a < 0x4030) ∨
    (0x18000 ≤ a ∧ a < 0x1B000) ∨ (0x30000 ≤ a ∧ a < 0x30030) ∨ a = 0x48004 ∨ a = 0x48028 ∨ a = 0x48038)) : guarded a = false :=
  decide_eq_false h

theorem guarded_of_periph {a : Nat} (h : periph a = true) : guarded a = false := by
  simp only [periph, Bool.or_eq_true, Bool.and_eq_true, Nat.ble_eq, Nat.blt_eq] at h
  exact unguarded (by omega)

/-- What a fault and its reaction show: the base and the guarded registers. -/
def State.outer (s : State) : (Variant × Nat × Nat × Nat × List Instr × Bool × Bool × Power × Rm) × (Nat → Word) :=
  (s.base, fun a => if guarded a then s.reg a else 0)

theorem State.outer_of_core {s t : State} (h : t.core = s.core) : t.outer = s.outer := by
  refine Prod.ext (congrArg (fun c : State × (Nat → Word) => c.1.base) h) (funext fun a => ?_)
  have ha := congrFun (congrArg Prod.snd h) a
  simp only [State.core] at ha
  simp only [State.outer]
  by_cases hp : periph a = true
  · rw [guarded_of_periph hp]; rfl
  · rw [if_neg hp, if_neg hp] at ha
    rw [ha]

section updates
variable (s : State)

theorem State.outer_setReg {a : Nat} (v : Word) (h : guarded a = false) : (s.setReg a v).outer = s.outer := by
  refine Prod.ext (s.base_setReg a v) (funext fun x => ?_)
  simp only [State.outer]
  split
  · rename_i hx
    exact s.reg_setReg_other v (by rintro rfl; rw [h] at hx; cases hx)
  · rfl

@[simp] theorem State.outer_setFld {a : Nat} (f : Field) (v : Nat) (h : guarded a = false) : (s.setFld a f v).outer = s.outer := s.outer_setReg _ h
@[simp] theorem State.outer_setBit {a : Nat} (f : Field) (v : Bool) (h : guarded a = false) : (s.setBit a f v).outer = s.outer := s.outer_setReg _ h
@[simp] theorem State.outer_setNat {a : Nat} (v : Nat) (h : guarded a = false) : (s.setNat a v).outer = s.outer := s.outer_setReg _ h
@[simp] theorem State.outer_setNat64 {a b : Nat} (v : Nat) (ha : guarded a = false) (hb : guarded b = false) : (s.setNat64 a b v).outer = s.outer :=
  (State.outer_setNat _ _ hb).trans (s.outer_setNat _ ha)
@[simp] theorem State.outer_updEdge (n : Nat) (f : Edge → Edge) : (s.updEdge n f).outer = s.outer := Prod.ext rfl rfl
@[simp] theorem State.outer_updGate (n : Nat) (d : Side) (f : Gate → Gate) : (s.updGate n d f).outer = s.outer := by cases d <;> exact Prod.ext rfl rfl
@[simp] theorem State.outer_updDrv (n : Nat) (f : Drv → Drv) : (s.updDrv n f).outer = s.outer := Prod.ext rfl rfl
@[simp] theorem State.outer_updCluster (k : Nat) (f : Cluster → Cluster) : (s.updCluster k f).outer = s.outer := Prod.ext rfl rfl
@[simp] theorem State.outer_updRegion (g : Nat) (f : Region → Region) : (s.updRegion g f).outer = s.outer := Prod.ext rfl rfl
@[simp] theorem State.outer_updDc (k : Nat) (f : Dc → Dc) : (s.updDc k f).outer = s.outer := Prod.ext rfl rfl
@[simp] theorem State.outer_updChg (k : Nat) (f : Chg → Chg) : (s.updChg k f).outer = s.outer := Prod.ext rfl rfl
@[simp] theorem State.outer_updLdg (g : Nat) (f : Ldg → Ldg) : (s.updLdg g f).outer = s.outer := Prod.ext rfl rfl
@[simp] theorem State.outer_updMeas (f : Meas → Meas) : (s.updMeas f).outer = s.outer := Prod.ext rfl rfl
@[simp] theorem State.outer_updPack (f : Pack → Pack) : (s.updPack f).outer = s.outer := Prod.ext rfl rfl
@[simp] theorem State.outer_updStore (f : Store → Store) : (s.updStore f).outer = s.outer := Prod.ext rfl rfl
@[simp] theorem State.outer_updSnl (f : Snl → Snl) : (s.updSnl f).outer = s.outer := Prod.ext rfl rfl
@[simp] theorem State.outer_updSys (f : SysBus → SysBus) : (s.updSys f).outer = s.outer := Prod.ext rfl rfl
@[simp] theorem State.outer_updSvr (c : Nat) (f : Svr → Svr) : (s.updSvr c f).outer = s.outer := Prod.ext rfl rfl
@[simp] theorem State.outer_updRing (r : Nat) (f : RingSt → RingSt) : (s.updRing r f).outer = s.outer := Prod.ext rfl rfl
@[simp] theorem State.outer_updVec (v : Nat) (f : MsiVec → MsiVec) : (s.updVec v f).outer = s.outer := Prod.ext rfl rfl
@[simp] theorem State.outer_updTrip (t : Nat) (f : TripSt → TripSt) : (s.updTrip t f).outer = s.outer := Prod.ext rfl rfl
@[simp] theorem State.outer_txns (x : File Nat Txn) : { s with txns := x }.outer = s.outer := Prod.ext rfl rfl
@[simp] theorem State.outer_diag (x : Diag) : { s with diag := x }.outer = s.outer := Prod.ext rfl rfl
@[simp] theorem State.outer_snet (x : SafetyNet) : { s with snet := x }.outer = s.outer := Prod.ext rfl rfl
@[simp] theorem State.outer_recst (x : RecSt) : { s with recst := x }.outer = s.outer := Prod.ext rfl rfl
@[simp] theorem State.outer_auths (x : Auths) : { s with auths := x }.outer = s.outer := Prod.ext rfl rfl
@[simp] theorem State.outer_cmdWait (x : Option (Nat × Nat)) : { s with cmdWait := x }.outer = s.outer := Prod.ext rfl rfl
@[simp] theorem State.outer_draws (n : Nat) : { s with draws := n }.outer = s.outer := Prod.ext rfl rfl
@[simp] theorem State.outer_logSafety (c d k : Nat) : (s.logSafety c d k).outer = s.outer := Prod.ext rfl rfl
@[simp] theorem State.outer_record (src bits : Nat) (l : List Nat) : (s.record src bits l).outer = s.outer := State.outer_of_core (s.core_record _ _ _)
@[simp] theorem State.outer_endFreeze (b : Bool) : (s.endFreeze b).outer = s.outer := State.outer_of_core (s.core_endFreeze b)
@[simp] theorem State.outer_asyncIn (t code : Nat) : (s.asyncIn t code).outer = s.outer := State.outer_of_core (s.core_asyncIn _ _)
@[simp] theorem State.outer_device (who block code st : Nat) : (s.device who block code st).outer = s.outer :=
  State.outer_of_core (s.core_device _ _ _ _)
@[simp] theorem State.outer_resetParty (p : Nat) : (s.resetParty p).outer = s.outer := State.outer_of_core (s.core_resetParty p)
@[simp] theorem State.outer_finish (r : Nat) (f : Fetched) (st why : Nat) (l : List Byte) : (s.finish r f st why l).outer = s.outer :=
  State.outer_of_core (s.core_finish _ _ _ _ _)
@[simp] theorem State.outer_canFollow : s.canFollow.outer = s.outer := State.outer_of_core s.core_canFollow
@[simp] theorem State.outer_unitsFollow : s.unitsFollow.outer = s.outer := State.outer_of_core s.core_unitsFollow

/-- A change made for each element of a list keeps it where every one does. -/
theorem State.outer_each {α : Type} {l : List α} {f : State → α → State} (h : ∀ u x, x ∈ l → (f u x).outer = u.outer) :
    (s.each l f).outer = s.outer := s.each_same State.outer f l h

end updates

/-! ### Flags outside the guarded registers -/

/-- A source whose flags and counters are no guarded registers. -/
def FlagSrc.quiet (src : FlagSrc) : Prop := guarded src.addr = false ∧ ∀ b a lo, b < 32 → src.counter b = some (a, lo) → guarded a = false

section flags
variable (s : State) {src : FlagSrc}

@[simp] theorem State.outer_raiseMask (m : Nat) (h : src.quiet) : (s.raiseMask src m).outer = s.outer := by
  refine Prod.ext (s.base_raiseMask src m) (funext fun x => ?_)
  simp only [State.outer]
  split
  · rename_i hx
    refine s.raiseMask_reg src m (by rintro rfl; rw [h.1] at hx; cases hx) fun b hb _ a lo hc => ?_
    rintro rfl
    rw [h.2 b x lo hb hc] at hx
    cases hx
  · rfl

@[simp] theorem State.outer_raise (b : Nat) (h : src.quiet) : (s.raise src b).outer = s.outer := s.outer_raiseMask _ h
@[simp] theorem State.outer_raiseIf (c : Bool) (b : Nat) (h : src.quiet) : (s.raiseIf c src b).outer = s.outer := by
  simp [State.raiseIf, apply_ite State.outer, h]
theorem State.outer_asOne {b : Nat} (hb : b < 32) (f : State → State) (h : src.quiet) (hf : (f s).outer = s.outer) :
    (s.asOne src b f).outer = s.outer := by
  unfold State.asOne
  simp only
  split
  · rename_i hc; exact ((f s).outer_setFld _ _ (h.2 _ _ _ hb hc)).trans hf
  · exact hf

end flags

section sources
variable {k g p : Nat}

theorem FlagSrc.quiet.of_placed {src : FlagSrc} (hc : ∀ b, src.counter b = some (src.cnt0 + 4 * (b / 4), 8 * (b % 4)) ∨ src.counter b = none)
    (ha : guarded src.addr = false) (hr : ∀ i, i < 8 → guarded (src.cnt0 + 4 * i) = false) : src.quiet := by
  refine ⟨ha, fun b a lo hb h => ?_⟩
  rcases hc b with hb' | hb'
  · rw [hb'] at h
    rw [← (Prod.mk.inj (Option.some.inj h)).1]
    exact hr _ (by omega)
  · rw [hb'] at h
    cases h

@[simp] theorem FlagSrc.quiet_ctu : FlagSrc.ctu.quiet :=
  .of_placed (fun _ => .inl rfl) rfl fun i hi => unguarded (by simp only [FlagSrc.cnt0, Reg.CTU_CNT0]; omega)
@[simp] theorem FlagSrc.quiet_clu (h : k < 12) : (FlagSrc.clu k).quiet :=
  .of_placed (fun _ => .inl rfl) (unguarded (by simp only [FlagSrc.addr, Reg.CLU_FLAGS]; omega))
    fun i hi => unguarded (by simp only [FlagSrc.cnt0, Reg.CLU_CNT0]; omega)
@[simp] theorem FlagSrc.quiet_cluDc (h : k < 12) : (FlagSrc.cluDc k).quiet :=
  .of_placed (fun _ => .inl rfl) (unguarded (by simp only [FlagSrc.addr, Reg.CLU_DC_FLAGS]; omega))
    fun i hi => unguarded (by simp only [FlagSrc.cnt0, Reg.CLU_DC_CNT0]; omega)
@[simp] theorem FlagSrc.quiet_chg (h : k < 12) : (FlagSrc.chg k).quiet :=
  .of_placed (fun _ => .inl rfl) (unguarded (by simp only [FlagSrc.addr, Reg.CHG_FLAGS]; omega))
    fun i hi => unguarded (by simp only [FlagSrc.cnt0, Reg.CHG_CNT0]; omega)
@[simp] theorem FlagSrc.quiet_ldg (h : g < 2) : (FlagSrc.ldg g).quiet :=
  .of_placed (fun _ => .inl rfl) (unguarded (by simp only [FlagSrc.addr, Reg.LDG_FLAGS]; omega))
    fun i hi => unguarded (by simp only [FlagSrc.cnt0, Reg.LDG_CNT0]; omega)
@[simp] theorem FlagSrc.quiet_eth (p : Nat) : (FlagSrc.eth p).quiet :=
  .of_placed (fun _ => .inl rfl) (unguarded (by simp only [FlagSrc.addr, Reg.ETH_P_FLAGS]; omega))
    fun i hi => unguarded (by simp only [FlagSrc.cnt0, Reg.ETH_P_CNT0]; omega)
@[simp] theorem FlagSrc.quiet_svr {c : Nat} (h : c < 4) : (FlagSrc.svr c).quiet :=
  .of_placed (fun b => by by_cases hb : b = 8 <;> simp [FlagSrc.counter, FlagSrc.cnt0, hb])
    (unguarded (by simp only [FlagSrc.addr, Reg.SVR_FLAGS]; omega)) fun i hi => unguarded (by simp only [FlagSrc.cnt0, Reg.SVR_CNT0]; omega)
@[simp] theorem FlagSrc.quiet_chgSn : FlagSrc.chgSn.quiet :=
  .of_placed (fun _ => .inl rfl) rfl fun i hi => unguarded (by simp only [FlagSrc.cnt0, Reg.CHG_SN_CNT0]; omega)
@[simp] theorem FlagSrc.quiet_snl : FlagSrc.snl.quiet :=
  .of_placed (fun _ => .inl rfl) rfl fun i hi => unguarded (by simp only [FlagSrc.cnt0, Reg.ETH_SNL_CNT0]; omega)
@[simp] theorem FlagSrc.quiet_ptp : FlagSrc.ptp.quiet :=
  .of_placed (fun _ => .inl rfl) rfl fun i hi => unguarded (by simp only [FlagSrc.cnt0, Reg.ETH_PTP_CNT0]; omega)
@[simp] theorem FlagSrc.quiet_align : FlagSrc.align.quiet :=
  .of_placed (fun _ => .inl rfl) rfl fun i hi => unguarded (by simp only [FlagSrc.cnt0, Reg.EDG_ALIGN_CNT]; omega)

end sources
end Sys2Proof.Machine
end

section
/-!
SUPPORT. What transactions, clusters, charge engines, the ledger and the transport change keeps the outer state (R152, R212, R227, R353, R426).
-/

namespace Sys2Proof.Machine

/-- The cells whose addresses a condition keeps. -/
theorem Cells.get_filter_key {α : Type} (d : Nat → α) {p : Nat × α → Bool} (q : Nat → Bool) (hp : ∀ c, p c = q c.1) (m : Cells α) (a : Nat) :
    Cells.get d (m.filter p) a = if q a then Cells.get d m a else d a := by
  induction m with
  | nil => simp [Cells.get]
  | cons c m ih =>
    simp only [List.filter_cons, hp]
    by_cases hc : c.1 = a
    · subst hc
      by_cases hq : q c.1 = true
      · simp [hq, Cells.get]
      · rw [if_neg hq, ih]
        simp [hq]
    · by_cases hq : q c.1 = true
      · rw [if_pos hq, Cells.get, if_neg hc, ih, Cells.get, if_neg hc]
      · rw [if_neg hq, ih, Cells.get, if_neg hc]

/-! ### How many slots, clusters and regions there are (R1) -/

section sizes
variable (s : State)

theorem State.mem_slots {n : Nat} (h : n ∈ s.slots) : n < 24 := by
  have hn := List.mem_range.1 h
  cases hv : s.variant <;> simp only [hv, Variant.slots] at hn <;> omega
theorem State.mem_clus {k : Nat} (h : k ∈ s.clus) : k < 12 := by
  have hk := List.mem_range.1 h
  cases hv : s.variant <;> simp only [hv, Variant.clusters] at hk <;> omega
theorem State.mem_rgns {g : Nat} (h : g ∈ s.rgns) : g < 2 := by
  have hg := List.mem_range.1 h
  cases hv : s.variant <;> simp only [hv, Variant.regions] at hg <;> omega
theorem State.mem_slotsOf {k n : Nat} (h : n ∈ s.slotsOf k) : n < 24 := ((mem_bitsOf _ _ _).1 h).1
theorem State.clusterOf_lt {n k : Nat} (h : s.clusterOf n = some k) : k < 12 := s.mem_clus (List.mem_of_find?_eq_some h)

end sizes

/-! ### Transactions (R426) -/

section transactions
variable (s : State)

theorem unguarded_ctu {t : Nat} (h : t < 4) : guarded (Reg.CTU_T_STAT t) = false ∧ guarded (Reg.CTU_T_ERR t) = false :=
  ⟨unguarded (by simp only [Reg.CTU_T_STAT]; omega), unguarded (by simp only [Reg.CTU_T_ERR]; omega)⟩

theorem State.outer_commitResult (t : Nat) (ok : Bool) (why off tc : Nat) : (s.commitResult t ok why off tc).outer = s.outer := by
  have hres : guarded Reg.CTU_RES = false := rfl
  unfold State.commitResult
  repeat' split
  all_goals simp [apply_ite State.outer, hres]

theorem State.outer_failPending {t : Nat} (why off : Nat) (h : t < 4) : (s.failPending t why off).outer = s.outer := by
  obtain ⟨hstat, herr⟩ := unguarded_ctu h
  rw [State.failPending, State.outer_raiseMask _ _ FlagSrc.quiet_ctu, State.freeTxn, State.outer_txns, State.outer_setReg _ _ hstat,
    State.outer_commitResult, State.setTxErr, State.outer_setNat _ _ herr]

@[simp] theorem State.outer_conflictIf (p : Nat → Bool) : (s.conflictIf p).outer = s.outer := by
  refine State.outer_asOne _ (by omega) _ FlagSrc.quiet_ctu (State.outer_asOne _ (by omega) _ FlagSrc.quiet_ctu ?_)
  refine s.outer_each fun u t ht => ?_
  repeat' split
  · exact u.outer_failPending _ _ (List.mem_range.1 ht)
  all_goals rfl

end transactions

/-! ### Clusters (R150–R152, R201) -/

section clusters
variable (s : State) {k : Nat}

theorem unguarded_clu (h : k < 12) : guarded (Reg.CLU_STAT k) = false ∧ guarded (Reg.CLU_DC_STAT k) = false ∧
    guarded (Reg.CLU_DC_ILIM_EFF k) = false ∧ guarded (Reg.CLU_PV_VREF k) = false := by
  refine ⟨unguarded ?_, unguarded ?_, unguarded ?_, unguarded ?_⟩ <;>
    simp only [Reg.CLU_STAT, Reg.CLU_DC_STAT, Reg.CLU_DC_ILIM_EFF, Reg.CLU_PV_VREF] <;> omega

theorem unguarded_edg {n : Nat} (h : n < 24) : guarded (Reg.EDG_STAT n) = false ∧ guarded (Reg.EDG_PHASE n) = false ∧
    guarded (Reg.EDG_REF n) = false := by
  refine ⟨unguarded ?_, unguarded ?_, unguarded ?_⟩ <;> simp only [Reg.EDG_STAT, Reg.EDG_PHASE, Reg.EDG_REF] <;> omega

theorem unguarded_chg (h : k < 12) : guarded (Reg.CHG_STAT k) = false ∧ guarded (Reg.CHG_IREF k) = false ∧ guarded (Reg.CHG_BOUND k) = false := by
  refine ⟨unguarded ?_, unguarded ?_, unguarded ?_⟩ <;> simp only [Reg.CHG_STAT, Reg.CHG_IREF, Reg.CHG_BOUND] <;> omega

theorem State.outer_setCState (v : Nat) (h : k < 12) : (s.setCState k v).outer = s.outer := by
  simp [State.setCState, apply_ite State.outer, unguarded_clu h]

theorem State.outer_cluFollow (h : k < 12) : (s.cluFollow k).outer = s.outer := by
  simp [State.cluFollow, apply_ite State.outer, unguarded_clu h, State.outer_setCState _ _ h]

theorem State.outer_withdraw (h : k < 12) : (s.withdraw k).outer = s.outer := by simp [State.withdraw, unguarded_clu h]

theorem State.outer_writeMap : (s.writeMap k).outer = s.outer := by
  refine s.outer_each fun u p _ => ?_
  repeat' split
  · rfl
  · rename_i n hn
    exact u.outer_setNat _ (unguarded_edg (u.mem_slotsOf (List.mem_of_getElem? hn))).2.1
  · rfl

theorem State.outer_setActive (mask : Nat) (h : k < 12) : (s.setActive k mask).outer = s.outer := by
  simp [State.setActive, State.outer_writeMap, unguarded_clu h]

theorem State.outer_showIlim (h : k < 12) : (s.showIlim k).outer = s.outer := by
  simp [State.showIlim, apply_ite State.outer, unguarded_clu h]

@[simp] theorem State.outer_showIlims : s.showIlims.outer = s.outer := s.outer_each fun u _ hk => u.outer_showIlim (s.mem_clus hk)

@[simp] theorem State.outer_changeRecord (mask : Nat) : (s.changeRecord k mask).outer = s.outer := by simp [State.changeRecord]

theorem State.outer_endCharge (l : List Nat) (h : k < 12) : (s.endCharge k l).outer = s.outer := by
  unfold State.endCharge
  simp only
  split
  · rfl
  · obtain ⟨hstat, hiref, -⟩ := unguarded_chg h
    rw [State.outer_device, State.outer_record, State.outer_raiseMask _ _ (FlagSrc.quiet_chg h),
      State.outer_each _ fun u n hn => u.outer_setFld _ _ (unguarded_edg (State.mem_slotsOf _ hn)).2.2]
    simp [hstat, hiref]

theorem State.outer_endSweep (h : k < 12) : (s.endSweep k).outer = s.outer := by
  unfold State.endSweep
  split
  · simp [unguarded_clu h]
  · rfl

theorem State.outer_cancelRetry (h : k < 12) : (s.cancelRetry k).outer = s.outer := by simp [State.cancelRetry, unguarded_clu h]

theorem State.outer_leaveRun (why : Nat) (h : k < 12) : (s.leaveRun k why).outer = s.outer := by
  unfold State.leaveRun
  split
  · rfl
  · simp [unguarded_clu h, State.outer_endCharge _ _ h, State.outer_endSweep _ h, State.outer_withdraw _ h]

theorem State.outer_unstart (h : k < 12) : (s.unstart k).outer = s.outer := by
  simp [State.unstart, State.chgResult, apply_ite State.outer, unguarded_chg h, h]

theorem State.outer_showBounds (h : k < 12) : (s.showBounds k).outer = s.outer := by simp [State.showBounds, unguarded_chg h]

@[simp] theorem State.outer_setAlign (v : Nat) : (s.setAlign v).outer = s.outer := by
  have halign : guarded Reg.EDG_ALIGN_STAT = false := rfl
  rw [State.setAlign, State.outer_each _ fun u n hn => u.outer_setBit _ _ (unguarded_edg (State.mem_slots _ hn)).1]
  simp [halign]

end clusters

/-! ### The ledger (R227–R234) -/

section ledger
variable (s : State) {g : Nat}

theorem unguarded_ldg (h : g < 2) : guarded (Reg.LDG_STAT g) = false ∧ guarded (Reg.LDG_RES_Q g) = false ∧ guarded (Reg.LDG_RES_E g) = false ∧
    guarded (Reg.LDG_IVL_LO g) = false ∧ guarded (Reg.LDG_IVL_HI g) = false ∧ guarded (Reg.LDG_VLINK g) = false := by
  refine ⟨unguarded ?_, unguarded ?_, unguarded ?_, unguarded ?_, unguarded ?_, unguarded ?_⟩ <;>
    simp only [Reg.LDG_STAT, Reg.LDG_RES_Q, Reg.LDG_RES_E, Reg.LDG_IVL_LO, Reg.LDG_IVL_HI, Reg.LDG_VLINK] <;> omega

theorem unguarded_ldgCtr {i d : Nat} (h : g < 2) (hi : i < 52) (hd : d < 16) : guarded (ldgCtr g i + d) = false :=
  unguarded (by simp only [ldgCtr, Reg.LDG_A_INQ_LO]; omega)

theorem State.outer_showCounters (l : List Nat) (h : g < 2) : (s.showCounters g l).outer = s.outer := by
  refine s.outer_each fun u i hi => ?_
  have hi := List.mem_range.1 hi
  have h0 : guarded (ldgCtr g i) = false := unguarded_ldgCtr h hi (d := 0) (by omega)
  simp [h0, unguarded_ldgCtr h hi (d := 4), unguarded_ldgCtr h hi (d := 8)]

theorem State.outer_postResidual (h : g < 2) : (s.postResidual g).outer = s.outer := by
  unfold State.postResidual
  split
  · rfl
  · simp [apply_ite State.outer, unguarded_ldg h, h]

theorem State.outer_holdRecord (r : HeldRec) (h : g < 2) : (s.holdRecord g r).outer = s.outer := by simp [State.holdRecord, unguarded_ldg h, h]

theorem State.outer_closeOpen (kind tags : Nat) (acct : Option Nat) (gaps : List Nat) (peak : Nat) (early : Bool) (h : g < 2) :
    (s.closeOpen g kind tags acct gaps peak early).outer = s.outer := by
  simp [State.closeOpen, apply_ite State.outer, unguarded_ldg h, h, State.outer_holdRecord _ _ h, State.outer_showCounters _ _ h,
    State.outer_postResidual _ h]

theorem State.outer_closeInterval (kind tags : Nat) (acct : Option Nat) (gaps : List Nat) (early : Bool) (h : g < 2) :
    (s.closeInterval g kind tags acct gaps early).outer = s.outer := by
  unfold State.closeInterval
  split
  · simp [h]
  · exact s.outer_closeOpen _ _ _ _ _ _ h

@[simp] theorem State.outer_outageBegins : s.outageBegins.outer = s.outer := by
  refine s.outer_each fun u g hg => ?_
  have h := s.mem_rgns (List.mem_filter.1 (List.mem_filter.1 hg).1).1
  simp [State.outageOf, unguarded_ldg h, h, State.outer_closeInterval _ _ _ _ _ _ h]

@[simp] theorem State.outer_outageEnds : s.outageEnds.outer = s.outer := by
  refine (State.outer_each _ fun u g hg => ?_).trans (s.outer_updMeas _)
  have h := State.mem_rgns _ (List.mem_filter.1 hg).1
  simp only [State.outer_setBit _ _ _ (unguarded_ldg h).1, State.outer_updLdg]
  split
  · simp [apply_ite State.outer, State.outer_closeInterval _ _ _ _ _ _ h]
  · rfl

@[simp] theorem State.outer_ledgerLoss (pack : Bool) : (s.ledgerLoss pack).outer = s.outer := by
  refine s.outer_each fun u g hg => ?_
  have h := s.mem_rgns (List.mem_filter.1 hg).1
  simp only
  split <;> simp [State.outer_closeOpen _ _ _ _ _ _ _ h]

end ledger

/-! ### The transport and the host interface (R348, R353, R382) -/

section transport
variable (s : State)

@[simp] theorem unguarded_eth (p : Nat) : guarded (Reg.ETH_P_STAT p) = false := unguarded (by simp only [Reg.ETH_P_STAT]; omega)
@[simp] theorem unguarded_snl : guarded Reg.ETH_SNL_STAT = false ∧ guarded Reg.ETH_PTP_STAT = false ∧ guarded Reg.SAFE_NET = false ∧
    guarded Reg.ETH_SNL_LASTSEQ = false ∧ guarded Reg.ETH_SNL_AGE = false := ⟨rfl, rfl, rfl, rfl, rfl⟩

@[simp] theorem State.outer_declareLost (y : Nat) : (s.declareLost y).outer = s.outer := by
  simp [State.declareLost, apply_ite State.outer]
@[simp] theorem State.outer_showAgeOk : s.showAgeOk.outer = s.outer := by simp [State.showAgeOk]
@[simp] theorem State.outer_ptpMaster : s.ptpMaster.outer = s.outer := by simp [State.ptpMaster, State.drawn]
@[simp] theorem State.outer_decide (c : HeldCopy) (second : Bool) : (s.decide c second).outer = s.outer := s.outer_updSnl _

theorem State.outer_svrSyncLost {c : Nat} (h : c < 4) : (s.svrSyncLost c).outer = s.outer := by
  have hstat : guarded (Reg.SVR_STAT c) = false := unguarded (by simp only [Reg.SVR_STAT]; omega)
  simp [State.svrSyncLost, apply_ite State.outer, hstat, h]

@[simp] theorem State.outer_hifReset : s.hifReset.outer = s.outer := by
  have hhif : guarded Reg.HIF_EPOCH = false ∧ guarded Reg.HIF_STAT = false := ⟨rfl, rfl⟩
  have hfilter (b : Barker) : { s with regs := s.regs.filter fun c => Nat.blt c.1 0x60000 || (Nat.ble 0x61000 c.1 && Nat.blt c.1 0xFE000),
                                       barkerSt := b }.outer = s.outer := by
    refine Prod.ext rfl (funext fun a => ?_)
    simp only [State.outer, State.reg]
    split
    · rename_i hg
      simp only [guarded, decide_eq_true_eq] at hg
      rw [Cells.get_filter_key _ (fun x => Nat.blt x 0x60000 || (Nat.ble 0x61000 x && Nat.blt x 0xFE000)) fun _ => rfl,
        if_pos (by simp only [Bool.or_eq_true, Nat.blt_eq]; omega)]
    · rfl
  refine (State.outer_each _ fun u r _ => ?_).trans ((State.outer_each _ fun u v _ => u.outer_updVec v _).trans ?_)
  · simp [apply_ite State.outer, guarded_of_periph]
  · rw [State.outer_setNat _ _ hhif.2, State.outer_setReg _ _ hhif.1, hfilter]

end transport

/-! ### Ringmaster's state and the precharge (R77, R342) -/

section ringmaster
variable (s : State)

theorem unguarded_safe (w : Nat) : guarded Reg.SAFE_STAT = false ∧ guarded (Reg.SAFE_PAR w) = false ∧ guarded Reg.SAFE_CHK_CALC = false ∧
    guarded Reg.SAFE_CHK_CONF = false := ⟨rfl, unguarded (by simp only [Reg.SAFE_PAR]; omega), rfl, rfl⟩

@[simp] theorem State.outer_rmFollow : s.rmFollow.outer = s.outer := by simp [State.rmFollow, unguarded_safe 0]
@[simp] theorem State.outer_showCores : s.showCores.outer = s.outer := by simp [State.showCores, unguarded_safe 0]
@[simp] theorem State.outer_markGood (k : Nat) : (s.markGood k).outer = s.outer := by
  simp [State.markGood, State.updImage, apply_ite State.outer]
@[simp] theorem State.outer_preFail (g cause : Nat) : (s.preFail g cause).outer = s.outer := by
  have hpre : guarded (preStat g) = false := by unfold preStat; split <;> rfl
  simp [State.preFail, hpre]
@[simp] theorem State.outer_endCmd (res : Nat) : (s.endCmd res).outer = s.outer := by
  have hres : guarded Reg.GLB_DEVRESULT = false := rfl
  unfold State.endCmd
  split <;> simp [apply_ite State.outer, hres]
@[simp] theorem State.outer_setHstate (v : Nat) : (s.setHstate v).outer = s.outer := by
  have hstat : guarded Reg.PWR_HU_STAT = false := rfl
  simp [State.setHstate, hstat]
@[simp] theorem State.outer_rmLoads : s.rmLoads.outer = s.outer := by
  obtain ⟨-, -, hcalc, hconf⟩ := unguarded_safe 0
  simp only [State.rmLoads]
  split
  · exact s.outer_setNat _ hconf
  · refine (State.outer_setNat _ _ hcalc).trans (Eq.trans ?_ (s.outer_setNat (s.store.conf.getD 0) hconf))
    exact State.outer_each _ fun u w _ => u.outer_setReg _ (unguarded_safe w).2.1

end ringmaster
end Sys2Proof.Machine
end

section
/-!
SUPPORT. The frame of a reaction: what a safe stop, a package safe state and what follows them keep of a fault and of an earlier reaction.
-/

namespace Sys2Proof.Machine

/-! ### The relation -/

/-- What no reaction changes but the registers: the variant, the time, which dies run, the supplies, and of Ringmaster its start and its clock. -/
def State.still (s : State) : Variant × Nat × Bool × Bool × Power × Bool × Bool × Bool × Option Nat :=
  (s.variant, s.now, s.cdRun, s.rmRun, s.power, s.rm.ready, s.rm.failed, s.rm.td12Lost, s.rm.noImage)

/-- The registers that no reaction writes: GLB_BOOTSTAT, GLB_GUARD, the supplies, the clocks, the flags and invalid bits of MEAS. -/
def steady (a : Nat) : Prop :=
  a = 0x2C ∨ a = 0x40 ∨ (0x2000 ≤ a ∧ a < 0x2100) ∨ (0x4000 ≤ a ∧ a < 0x4030) ∨ (0x30000 ≤ a ∧ a < 0x30030)

/-- What a reaction sets and no later one takes back. -/
inductive Sign where
  | demand (b : Nat)
  | lines
  | outputs
  | halted
  | bias (n : Fin 24)
  | slotFlag (n : Fin 24)

/-- The register in which a sign stands. -/
def Sign.addr : Sign → Nat
  | .demand _ => Reg.SAFE_DEMAND
  | .lines => Reg.SAFE_LINES
  | .outputs => Reg.SAFE_SO
  | .halted => Reg.GLB_DEVSTATE
  | .bias n => Reg.GDV_STAT n
  | .slotFlag n => Reg.GDV_FLAGS n

/-- A sign read in its register: a demand latched, every line off, every output off, SAFE or LOCKOUT, H_BIAS, a bias fault. -/
def Sign.test : Sign → Word → Prop
  | .demand b, w => w.toNat.testBit b = true
  | .lines, w => w = 0
  | .outputs, w => Fld.SAFE_SO_ON.get w = 0
  | .halted, w => Fld.GLB_DEVSTATE_STATE.get w = stSAFE ∨ Fld.GLB_DEVSTATE_STATE.get w = stLOCKOUT
  | .bias _, w => Fld.GDV_STAT_H_BIAS.on w = true
  | .slotFlag _, w => w.toNat.testBit 3 = true

/-- A state shows a sign. -/
def State.shows (s : State) (o : Sign) : Prop := o.test (s.reg o.addr)

/-- From `s` to `t` a reaction has passed: it keeps what is still, the steady registers and every sign. -/
structure Reacts (s t : State) : Prop where
  still : t.still = s.still
  reg : ∀ a, steady a → t.reg a = s.reg a
  keeps : ∀ o, s.shows o → t.shows o

theorem Reacts.refl (s : State) : Reacts s s := ⟨rfl, fun _ _ => rfl, fun _ h => h⟩

theorem Reacts.trans {s t u : State} (h1 : Reacts s t) (h2 : Reacts t u) : Reacts s u :=
  ⟨h2.still.trans h1.still, fun a ha => (h2.reg a ha).trans (h1.reg a ha), fun o h => h2.keeps o (h1.keeps o h)⟩

theorem Reacts.ite {c : Prop} [Decidable c] {s t u : State} (ht : Reacts s t) (hu : Reacts s u) : Reacts s (if c then t else u) := by
  split
  · exact ht
  · exact hu

theorem Reacts.each {α : Type} {s : State} {l : List α} {f : State → α → State} (h : ∀ u x, x ∈ l → Reacts u (f u x)) : Reacts s (s.each l f) :=
  s.each_rel Reacts .refl .trans f l h

theorem guarded_of_steady {a : Nat} (h : steady a) : guarded a = true := by
  simp only [steady] at h
  exact decide_eq_true (by omega)

theorem guarded_gdv {a : Nat} (h : 0x18000 ≤ a ∧ a < 0x1B000) : guarded a = true := decide_eq_true (by omega)

theorem Sign.addr_guarded (o : Sign) : guarded o.addr = true := by
  cases o with
  | bias n => exact guarded_gdv (by simp only [Sign.addr, Reg.GDV_STAT]; omega)
  | slotFlag n => exact guarded_gdv (by simp only [Sign.addr, Reg.GDV_FLAGS]; omega)
  | _ => rfl

theorem State.reg_of_outer {s t : State} (h : t.outer = s.outer) {a : Nat} (ha : guarded a = true) : t.reg a = s.reg a := by
  have hr := congrFun (congrArg Prod.snd h) a
  simpa [State.outer, ha] using hr

theorem State.still_of_base {s t : State} (h : t.base = s.base) : t.still = s.still := by
  obtain ⟨hv, hn, -, -, -, hc, hr, hp, hrm⟩ := (s.base_eq_iff t).1 h
  simp only [State.still, hv, hn, hc, hr, hp, hrm]

/-- What keeps the outer state is no more than a reaction. -/
theorem Reacts.of_outer {s t : State} (h : t.outer = s.outer) : Reacts s t where
  still := State.still_of_base (congrArg Prod.fst h)
  reg a ha := State.reg_of_outer h (guarded_of_steady ha)
  keeps o ho := by rw [State.shows, State.reg_of_outer h o.addr_guarded]; exact ho

theorem Reacts.outer_right {s t u : State} (h : Reacts s t) (hu : u.outer = t.outer) : Reacts s u := h.trans (.of_outer hu)

/-! ### Writes of single registers -/

/-- A write outside the steady registers that takes back no sign. -/
theorem Reacts.setReg (s : State) {a : Nat} {v : Word} (ha : ¬steady a) (hv : ∀ o : Sign, o.addr = a → s.shows o → o.test v) :
    Reacts s (s.setReg a v) where
  still := State.still_of_base (s.base_setReg a v)
  reg x hx := s.reg_setReg_other v (by rintro rfl; exact ha hx)
  keeps o ho := by
    by_cases h : o.addr = a
    · subst h; rw [State.shows, s.reg_setReg_same]; exact hv o rfl ho
    · rw [State.shows, s.reg_setReg_other v h]; exact ho

/-- Each register of a sign holds that sign alone, SAFE_DEMAND one for each of its bits. -/
theorem Sign.of_addr {o : Sign} {a : Nat} (h : o.addr = a) :
    (a = 0x48004 ∧ ∃ b, o = .demand b) ∨ (a = 0x48038 ∧ o = .lines) ∨ (a = 0x48028 ∧ o = .outputs) ∨ (a = 0x20 ∧ o = .halted) ∨
      (∃ n : Fin 24, a = 0x18100 + 0x200 * n.val ∧ o = .bias n) ∨ (∃ n : Fin 24, a = 0x18104 + 0x200 * n.val ∧ o = .slotFlag n) := by
  subst h
  cases o <;> simp [Sign.addr, Reg.SAFE_DEMAND, Reg.SAFE_LINES, Reg.SAFE_SO, Reg.GLB_DEVSTATE, Reg.GDV_STAT, Reg.GDV_FLAGS]

section writes
variable (s : State)

/-- A register of no sign. -/
theorem Reacts.setReg_free {a : Nat} (v : Word) (ha : ¬steady a) (hs : a ≠ 0x48004 ∧ a ≠ 0x48038 ∧ a ≠ 0x48028 ∧ a ≠ 0x20)
    (hg : ∀ n : Fin 24, a ≠ 0x18100 + 0x200 * n.val ∧ a ≠ 0x18104 + 0x200 * n.val) : Reacts s (s.setReg a v) := by
  refine .setReg s ha fun o ho _ => ?_
  rcases Sign.of_addr ho with ⟨h, -⟩ | ⟨h, -⟩ | ⟨h, -⟩ | ⟨h, -⟩ | ⟨n, h, -⟩ | ⟨n, h, -⟩
  · exact absurd h hs.1
  · exact absurd h hs.2.1
  · exact absurd h hs.2.2.1
  · exact absurd h hs.2.2.2
  · exact absurd h (hg n).1
  · exact absurd h (hg n).2

/-- A demand register of which no bit falls. -/
theorem Reacts.setReg_demand {v : Word} (h : ∀ b, (s.reg Reg.SAFE_DEMAND).toNat.testBit b = true → v.toNat.testBit b = true) :
    Reacts s (s.setReg Reg.SAFE_DEMAND v) := by
  refine .setReg s (by simp only [steady, Reg.SAFE_DEMAND]; omega) fun o ho hs => ?_
  obtain ⟨-, b, rfl⟩ : Reg.SAFE_DEMAND = 0x48004 ∧ ∃ b, o = .demand b := by
    rcases Sign.of_addr ho with h | ⟨h, -⟩ | ⟨h, -⟩ | ⟨h, -⟩ | ⟨n, h, -⟩ | ⟨n, h, -⟩
    · exact h
    all_goals simp only [Reg.SAFE_DEMAND] at h; omega
  exact h b hs

/-- A write of the lines that releases none where all are off. -/
theorem Reacts.setReg_lines {v : Word} (h : s.reg Reg.SAFE_LINES = 0 → v = 0) : Reacts s (s.setReg Reg.SAFE_LINES v) := by
  refine .setReg s (by simp only [steady, Reg.SAFE_LINES]; omega) fun o ho hs => ?_
  obtain ⟨-, rfl⟩ : Reg.SAFE_LINES = 0x48038 ∧ o = .lines := by
    rcases Sign.of_addr ho with ⟨h, -⟩ | h | ⟨h, -⟩ | ⟨h, -⟩ | ⟨n, h, -⟩ | ⟨n, h, -⟩
    case inr.inl => exact h
    all_goals simp only [Reg.SAFE_LINES] at h; omega
  exact h hs

/-- A write of the outputs that energises none where all are off. -/
theorem Reacts.setReg_outputs {v : Word} (h : s.fld Reg.SAFE_SO Fld.SAFE_SO_ON = 0 → Fld.SAFE_SO_ON.get v = 0) :
    Reacts s (s.setReg Reg.SAFE_SO v) := by
  refine .setReg s (by simp only [steady, Reg.SAFE_SO]; omega) fun o ho hs => ?_
  obtain ⟨-, rfl⟩ : Reg.SAFE_SO = 0x48028 ∧ o = .outputs := by
    rcases Sign.of_addr ho with ⟨h, -⟩ | ⟨h, -⟩ | h | ⟨h, -⟩ | ⟨n, h, -⟩ | ⟨n, h, -⟩
    case inr.inr.inl => exact h
    all_goals simp only [Reg.SAFE_SO] at h; omega
  exact h hs

/-- SAFE or LOCKOUT. -/
def State.halted (s : State) : Prop := s.dev = stSAFE ∨ s.dev = stLOCKOUT

/-- A write of GLB_DEVSTATE that does not leave SAFE and LOCKOUT. -/
theorem Reacts.setReg_devstate {v : Word} (h : s.halted → Fld.GLB_DEVSTATE_STATE.get v = stSAFE ∨ Fld.GLB_DEVSTATE_STATE.get v = stLOCKOUT) :
    Reacts s (s.setReg Reg.GLB_DEVSTATE v) := by
  refine .setReg s (by simp only [steady, Reg.GLB_DEVSTATE]; omega) fun o ho hs => ?_
  obtain ⟨-, rfl⟩ : Reg.GLB_DEVSTATE = 0x20 ∧ o = .halted := by
    rcases Sign.of_addr ho with ⟨h, -⟩ | ⟨h, -⟩ | ⟨h, -⟩ | h | ⟨n, h, -⟩ | ⟨n, h, -⟩
    case inr.inr.inr.inl => exact h
    all_goals simp only [Reg.GLB_DEVSTATE] at h; omega
  exact h hs

/-- A write of the status of a slot that keeps H_BIAS. -/
theorem Reacts.setReg_gdvStat {n : Nat} {v : Word} (hn : n < 24) (h : s.bit (Reg.GDV_STAT n) Fld.GDV_STAT_H_BIAS = true → Fld.GDV_STAT_H_BIAS.on v = true) :
    Reacts s (s.setReg (Reg.GDV_STAT n) v) := by
  refine .setReg s (by simp only [steady, Reg.GDV_STAT]; omega) fun o ho hs => ?_
  obtain rfl : o = .bias ⟨n, hn⟩ := by
    simp only [Reg.GDV_STAT] at ho
    rcases Sign.of_addr ho with ⟨h, -⟩ | ⟨h, -⟩ | ⟨h, -⟩ | ⟨h, -⟩ | ⟨m, h, rfl⟩ | ⟨m, h, -⟩
    case inr.inr.inr.inr.inl => exact congrArg Sign.bias (Fin.ext (by simp only; omega))
    all_goals omega
  exact h hs

/-- A write of the flags of a slot that clears none. -/
theorem Reacts.setReg_gdvFlags {n : Nat} {v : Word} (hn : n < 24) (h : s.flag (.gdv n) 3 = true → v.toNat.testBit 3 = true) :
    Reacts s (s.setReg (Reg.GDV_FLAGS n) v) := by
  refine .setReg s (by simp only [steady, Reg.GDV_FLAGS]; omega) fun o ho hs => ?_
  obtain rfl : o = .slotFlag ⟨n, hn⟩ := by
    simp only [Reg.GDV_FLAGS] at ho
    rcases Sign.of_addr ho with ⟨h, -⟩ | ⟨h, -⟩ | ⟨h, -⟩ | ⟨h, -⟩ | ⟨m, h, -⟩ | ⟨m, h, rfl⟩
    case inr.inr.inr.inr.inr => exact congrArg Sign.slotFlag (Fin.ext (by simp only; omega))
    all_goals omega
  exact h hs

/-- A field of GLB_DEVSTATE beside STATE. -/
theorem Reacts.setFld_devstate (f : Field) (v : Nat) (h : f.lo + f.len ≤ 32) (hf : 4 ≤ f.lo) : Reacts s (s.setFld Reg.GLB_DEVSTATE f v) :=
  .setReg_devstate s fun hs => by rw [f.get_put_other Fld.GLB_DEVSTATE_STATE _ v h (.inl hf)]; exact hs

/-- A field of GDV_n_STAT beside H_BIAS. -/
theorem Reacts.setFld_gdvStat {n : Nat} (hn : n < 24) (f : Field) (v : Nat) (h : f.lo + f.len ≤ 32) (hf : f.lo + f.len ≤ 2 ∨ 3 ≤ f.lo) :
    Reacts s (s.setFld (Reg.GDV_STAT n) f v) :=
  .setReg_gdvStat s hn fun hs => by
    rw [Field.on, f.get_put_other Fld.GDV_STAT_H_BIAS _ v h hf.symm]
    exact hs

end writes
end Sys2Proof.Machine
end

section
/-!
SUPPORT. Every operation of the escalation ladder is a reaction (R64–R67, R130–R154).
-/

namespace Sys2Proof.Machine

/-! ### The device state and the slots -/

section slots
variable (s : State)

theorem Reacts.updRm (f : Rm → Rm)
    (h : (f s.rm).ready = s.rm.ready ∧ (f s.rm).failed = s.rm.failed ∧ (f s.rm).td12Lost = s.rm.td12Lost ∧ (f s.rm).noImage = s.rm.noImage) :
    Reacts s (s.updRm f) where
  still := by simp only [State.still, State.updRm, h]
  reg _ _ := rfl
  keeps _ ho := ho

theorem State.reacts_devDerate : Reacts s s.devDerate := .setFld_devstate s _ _ (by decide) (by decide)

/-- A device state is entered: SAFE and LOCKOUT are left for LOCKOUT and SAFE only. -/
theorem State.reacts_enter {v : Nat} (h : s.halted → v = stSAFE ∨ v = stLOCKOUT) : Reacts s (s.enter v) := by
  unfold State.enter
  split
  · exact .refl s
  · have hset : Reacts s (s.setDev v) := .setReg_devstate s fun hs => by
      rw [Field.get_put_same _ _ _ (by decide)]
      rcases h hs with rfl | rfl
      · exact .inl rfl
      · exact .inr rfl
    exact (hset.trans (State.reacts_devDerate _)).outer_right (by simp)

theorem State.reacts_runFollow : Reacts s s.runFollow := by
  unfold State.runFollow
  split
  · rename_i hd
    obtain ⟨hd, -⟩ : s.dev = stARMED ∧ _ := by simpa using hd
    exact s.reacts_enter fun hs => by rw [State.halted, hd] at hs; revert hs; decide
  · split
    · rename_i hd
      obtain ⟨hd, -⟩ : s.dev = stRUN ∧ _ := by simpa using hd
      exact s.reacts_enter fun hs => by rw [State.halted, hd] at hs; revert hs; decide
    · exact .refl s

variable {n : Nat} (hn : n < 24)
include hn

theorem State.reacts_setSState (v : Nat) : Reacts s (s.setSState n v) := by
  have hedg := (unguarded_edg hn).1
  unfold State.setSState
  split
  · exact .refl s
  · refine .trans (.of_outer ?_) (State.reacts_runFollow _)
    split
    · rename_i k hk
      rw [State.outer_cluFollow _ (State.clusterOf_lt _ hk)]
      simp [apply_ite State.outer, hedg]
    · simp [apply_ite State.outer, hedg]

theorem State.reacts_holdState : Reacts s (s.holdState n) := by
  unfold State.holdState
  exact .ite (.refl s) (.ite (s.reacts_setSState hn _) (.ite (s.reacts_setSState hn _) (.ite (s.reacts_setSState hn _) (.refl s))))

/-- A hold other than H_BIAS takes a value, or H_BIAS is set. -/
theorem State.reacts_setHold (f : Field) (on : Bool) (hf : f.lo + f.len ≤ 32) (hb : (f.lo + f.len ≤ 2 ∨ 3 ≤ f.lo) ∨ f = Fld.GDV_STAT_H_BIAS ∧ on = true) :
    Reacts s (s.setHold n f on) := by
  refine .trans ?_ (State.reacts_holdState _ hn)
  rcases hb with hb | ⟨rfl, rfl⟩
  · exact .setFld_gdvStat s hn f _ hf hb
  · exact .setReg_gdvStat s hn fun _ => by rw [Field.on, Field.get_put_same _ _ _ (by decide)]; rfl

theorem State.reacts_softOff : Reacts s (s.softOff n) := by
  unfold State.softOff
  refine .ite (.of_outer (by simp)) (.ite ?_ (.of_outer (by simp)))
  exact .trans (.of_outer (by simp)) (.setFld_gdvStat _ hn Fld.GDV_STAT_SOFT_ACTIVE _ (by decide) (by decide))

/-- A slot turned off and held with H_ORDER. -/
theorem State.reacts_order : Reacts s ((s.softOff n).setHold n Fld.GDV_STAT_H_ORDER true) :=
  (s.reacts_softOff hn).trans (State.reacts_setHold _ hn _ _ (by decide) (.inl (by decide)))

end slots

/-! ### Clusters -/

section clusters
variable (s : State) {k : Nat} (hk : k < 12)

include hk

theorem State.reacts_stopCluster (cause state : Nat) : Reacts s (s.stopCluster k cause state) := by
  have hrec : (if cause = scREGION || cause = scPACKAGE || cause = scFENCE then (s.record (Reg.CLU_STAT k) 1 [cause]).cancelRetry k
      else s.record (Reg.CLU_STAT k) 1 [cause]).outer = s.outer := by
    simp [apply_ite State.outer, State.outer_cancelRetry _ hk]
  unfold State.stopCluster
  refine .ite (.of_outer hrec) ?_
  refine .outer_right (.trans (.of_outer ?_) (.each fun u n hn => u.reacts_order (State.mem_slotsOf _ hn))) (State.outer_raise _ _ (FlagSrc.quiet_clu hk))
  rw [State.outer_setFld _ _ _ (unguarded_clu hk).1, State.outer_setCState _ _ hk, State.outer_updCluster, State.outer_leaveRun _ _ hk, hrec]

theorem State.reacts_safeStop (cause : Nat) : Reacts s (s.safeStop k cause) := s.reacts_stopCluster hk cause _

theorem State.reacts_derateEnter : Reacts s (s.derateEnter k) := by
  unfold State.derateEnter
  exact .ite (.refl s) (.trans (.of_outer (by simp [unguarded_clu hk, hk])) (State.reacts_devDerate _))

theorem State.reacts_deratePhase (on : Bool) : Reacts s (s.deratePhase k on) := by
  unfold State.deratePhase
  exact .ite (.refl s) (.ite (.trans (.of_outer (State.outer_updCluster _ _ _)) (State.reacts_derateEnter _ hk)) (.of_outer (State.outer_updCluster _ _ _)))

theorem State.reacts_phaseLost (n : Nat) : Reacts s (s.phaseLost k n) := by
  unfold State.phaseLost
  refine .ite (.refl s) ?_
  refine .trans ?_ (.ite (State.reacts_safeStop _ hk _) (.refl _))
  refine .trans (.of_outer ?_) (State.reacts_deratePhase _ hk _)
  simp [unguarded_clu hk, hk, State.outer_showIlim _ hk, State.outer_setActive _ _ hk, State.outer_withdraw _ hk]

end clusters

section faults
variable (s : State)

theorem State.reacts_phaseLostOf (n : Nat) : Reacts s (s.phaseLostOf n) := by
  unfold State.phaseLostOf
  split
  · rename_i k hk
    exact s.reacts_phaseLost (s.clusterOf_lt hk) n
  · exact .refl s

/-! ### Slot-local faults and the region reaction -/

/-- Flags of a slot raised, but for those that hold its counters. -/
theorem State.reacts_raise_gdv {n : Nat} (b : Nat) (hn : n < 24) : Reacts s (s.raise (.gdv n) b) := by
  have hset : Reacts s (s.setNat (Reg.GDV_FLAGS n) ((s.reg (Reg.GDV_FLAGS n)).toNat ||| 2 ^ b)) :=
    .setReg_gdvFlags s hn fun h => by
      rw [BitVec.toNat_ofNat, Nat.testBit_mod_two_pow, Nat.testBit_or]
      simp only [State.flag, FlagSrc.addr] at h
      simp [h]
  have hcount (u : State) (c : Nat) (hc : c < 32) : Reacts u (u.countFlag (.gdv n) c) :=
    .setReg_free u _ (by simp only [steady, FlagSrc.cnt0, Reg.GDV_CNT0]; omega) (by simp only [FlagSrc.cnt0, Reg.GDV_CNT0]; omega)
      fun m => by simp only [FlagSrc.cnt0, Reg.GDV_CNT0]; omega
  rw [State.raise, State.raiseMask_eq]
  exact (hset.trans (.each fun u c hc => hcount u c ((mem_bitsOf _ _ _).1 hc).1)).trans (.of_outer (Prod.ext rfl rfl))

theorem State.reacts_countFault {n : Nat} (hn : n < 24) : Reacts s (s.countFault n) := by
  unfold State.countFault
  have hcount : Reacts s (((s.setFld (Reg.GDV_STAT n) Fld.GDV_STAT_FCOUNT (min (s.fld (Reg.GDV_STAT n) Fld.GDV_STAT_FCOUNT + 1) 15)).updDrv n fun d =>
      { d with fcount := min (s.fld (Reg.GDV_STAT n) Fld.GDV_STAT_FCOUNT + 1) 15 }).logSafety 0x30
        (n * 256 + min (s.fld (Reg.GDV_STAT n) Fld.GDV_STAT_FCOUNT + 1) 15) 0) :=
    ((Reacts.setFld_gdvStat s hn Fld.GDV_STAT_FCOUNT _ (by decide) (by decide)).outer_right (State.outer_updDrv _ _ _)).outer_right
      (State.outer_logSafety _ _ _ _)
  refine .trans hcount (.ite ?_ (.refl _))
  refine .outer_right (.trans ?_ (State.reacts_raise_gdv _ _ hn)) (State.outer_logSafety _ _ _ _)
  exact .trans (.of_outer (State.outer_updDrv _ _ _)) (.ite (.refl _) (State.reacts_setHold _ hn _ _ (by decide) (.inl (by decide))))

/-- A slot with a slot-local fault: flag and entry, soft turn-off, hold. -/
def State.slotHeld (s : State) (n : Nat) (hold : Field) (flag : Nat) : State :=
  (((s.raise (.gdv n) flag).record (Reg.GDV_FLAGS n) (2 ^ flag) [n]).softOff n).setHold n hold true

/-- What the fault changes of the slot's diagnosis, and its count (R140). -/
def State.faultCounted (s : State) (n : Nat) (hold : Field) : State :=
  (s.updDrv n fun d =>
    { d with normalSince := d.normalSince && hold != Fld.GDV_STAT_H_DSAT,
             normalMoc := d.normalMoc && hold != Fld.GDV_STAT_H_MOC }).countFault n

/-- The reaction of the cluster of a slot to its fault, by type (R131). -/
def State.clusterFault (s : State) (n : Nat) : State :=
  match s.clusterOf n with
  | none => s
  | some k =>
    if s.isGfi k then s.safeStop k scSLOT
    else if s.ctype k = tyDLC && (s.slotsOf k).length = 1 then s.safeStop k scSLOT
    else s.phaseLost k n

theorem State.clusterFault_none {s : State} {n : Nat} (h : s.clusterOf n = none) : s.clusterFault n = s := by
  unfold State.clusterFault
  rw [h]

theorem State.clusterFault_some {s : State} {n k : Nat} (h : s.clusterOf n = some k) :
    s.clusterFault n = if s.isGfi k then s.safeStop k scSLOT
      else if s.ctype k = tyDLC && (s.slotsOf k).length = 1 then s.safeStop k scSLOT else s.phaseLost k n := by
  unfold State.clusterFault
  rw [h]

/-- A slot-local fault in its three steps. The functions are compared unapplied: applied, the kernel would evaluate the state whose cluster
is looked up. -/
theorem State.slotFault_fun : @State.slotFault = fun s n hold flag => ((s.slotHeld n hold flag).faultCounted n hold).clusterFault n := by
  delta State.slotFault
  funext s n hold flag
  delta State.slotHeld State.faultCounted
  dsimp only
  generalize State.countFault _ n = u
  cases h : u.clusterOf n with
  | none => exact (State.clusterFault_none h).symm
  | some k => exact (State.clusterFault_some h).symm

theorem State.reacts_clusterFault (n : Nat) : Reacts s (s.clusterFault n) := by
  cases h : s.clusterOf n with
  | none => rw [State.clusterFault_none h]; exact .refl s
  | some k =>
    have hk := s.clusterOf_lt h
    rw [State.clusterFault_some h]
    exact .ite (s.reacts_safeStop hk _) (.ite (s.reacts_safeStop hk _) (s.reacts_phaseLost hk n))

/-- What follows the hold of a slot-local fault. -/
theorem State.slotHeld_reacts {n : Nat} (hn : n < 24) (hold : Field) (flag : Nat) :
    Reacts (s.slotHeld n hold flag) (s.slotFault n hold flag) := by
  rw [State.slotFault_fun]
  exact .trans (.trans (.of_outer (State.outer_updDrv _ _ _)) (State.reacts_countFault _ hn)) (State.reacts_clusterFault _ n)

theorem State.reacts_regionReaction {g : Nat} (hg : g < 2) (rstate : Nat) : Reacts s (s.regionReaction g rstate) := by
  have hreg : guarded (Reg.CLU_REG_STAT g) = false := unguarded (by simp only [Reg.CLU_REG_STAT]; omega)
  unfold State.regionReaction
  refine .trans (.of_outer (by simp [apply_ite State.outer, hreg])) (.each fun u k hk => ?_)
  have hk := State.mem_clus _ (List.mem_filter.1 hk).1
  exact .ite (u.reacts_safeStop hk _) ((u.reacts_safeStop hk _).outer_right (State.outer_updCluster _ _ _))

end faults

/-! ### Ringmaster -/

section ringmaster
variable (s : State)

theorem State.reacts_linesOff (mask : Nat) : Reacts s (s.linesOff mask) := by
  unfold State.linesOff
  refine .outer_right (.trans (.of_outer (State.outer_each _ fun u n _ => State.outer_updDrv _ _ _)) (.setReg_lines _ fun h => ?_)) (State.outer_rmFollow _)
  have h0 : s.reg Reg.SAFE_LINES = 0 := by
    rw [← h]
    exact (State.reg_of_outer (State.outer_each _ fun u n _ => State.outer_updDrv _ _ _) rfl).symm
  rw [h0]
  simp

theorem State.reacts_outputsOff (mask : Nat) : Reacts s (s.outputsOff mask) := by
  unfold State.outputsOff
  refine .trans (.setReg_outputs s fun h => ?_) (.updRm _ _ ⟨rfl, rfl, rfl, rfl⟩)
  rw [h, Field.get_put_same _ _ _ (by decide)]
  simp

theorem State.reacts_latch (bits : Nat) : Reacts s (s.latch bits) := by
  unfold State.latch
  refine .trans (.setReg_demand s fun b hb => ?_) (.updRm _ _ ⟨rfl, rfl, rfl, rfl⟩)
  have hlt : b < 32 := by
    by_contra hge
    have hsmall : (s.reg Reg.SAFE_DEMAND).toNat < 2 ^ b := lt_of_lt_of_le (s.reg Reg.SAFE_DEMAND).isLt (Nat.pow_le_pow_right (by omega) (by omega))
    rw [Nat.testBit_lt_two_pow hsmall] at hb
    cases hb
  rw [BitVec.toNat_ofNat, Nat.testBit_mod_two_pow, Nat.testBit_or, hb]
  simp [hlt]

theorem State.reacts_causeGone (bits : Nat) : Reacts s (s.causeGone bits) := .updRm s _ ⟨rfl, rfl, rfl, rfl⟩

end ringmaster
end Sys2Proof.Machine
end

section
/-!
SUPPORT. The package safe state and what orders it: what it latches, that it ends in SAFE or LOCKOUT with lines and outputs off, and that every
reaction around it keeps that (R66, R81, R134, R311–R313, R319, R321).
-/

namespace Sys2Proof.Machine

/-! ### LOCKOUT and the count of SAFE entries -/

section lockout
variable (s : State)

@[simp] theorem State.outer_mtRestart : s.mtRestart.outer = s.outer := by simp [State.mtRestart]

theorem State.reacts_lockoutEntry (cause : Nat) : Reacts s (s.lockoutEntry cause) := by
  unfold State.lockoutEntry
  refine .trans ?_ (.of_outer ((State.outer_record _ _ _ _).trans (State.outer_mtRestart _)))
  refine .trans (.trans ?_ (State.reacts_linesOff _ _)) (State.reacts_outputsOff _ _)
  refine .trans ?_ (.of_outer ((State.outer_diag _ _).trans ((State.outer_setBit _ _ _ rfl).trans (State.outer_updStore _ _))))
  refine .trans (.trans ?_ (State.reacts_enter _ fun _ => .inr rfl)) (.setFld_devstate _ _ _ (by decide) (by decide))
  exact (Reacts.setFld_devstate s Fld.GLB_DEVSTATE_TRANS _ (by decide) (by decide)).outer_right (State.outer_endCmd _ _)

theorem State.reacts_countSafe : Reacts s s.countSafe := by
  unfold State.countSafe
  have hcount : Reacts s ((s.updStore fun p => { p with safeAt := p.safeAt ++ [s.rm.vbTicks] }).showSafeCnt) :=
    .trans (.of_outer (State.outer_updStore _ _)) (.setFld_devstate _ Fld.GLB_DEVSTATE_SAFE_CNT _ (by decide) (by decide))
  exact hcount.trans (.ite (State.reacts_lockoutEntry _ _) (.refl _))

end lockout

/-! ### The package safe state (R66) -/

section packageSafe
variable (s : State) (cause bits : Nat)

/-- What Ringmaster does of a package safe state: the demand latched, the entry, lines and outputs off. -/
def State.cutOff (s : State) (cause bits : Nat) : State :=
  let s := s.latch bits
  let s := if s.cdRun then s.record Reg.GLB_DEVSTATE stSAFE [cause] else s
  (s.linesOff 0xFFFFFF).outputsOff 0xFF

/-- What ends before SAFE is entered: slots and clusters, precharge and debug. -/
def State.allStop (s : State) (cause : Nat) : State :=
  let s := s.each s.slots fun u n => (u.softOff n).setHold n Fld.GDV_STAT_H_ORDER true
  let s := s.each (s.clus.filter fun k => s.ctype k != 0) fun u k => u.safeStop k scPACKAGE
  let s := s.each s.rgns fun u g => if u.preState g = 1 || u.preState g = 2 then u.preFail g cause else u
  { (s.setBit Reg.GLB_DEVSTATE Fld.GLB_DEVSTATE_TRANS false).setBit Reg.SAFE_STAT Fld.SAFE_STAT_ENDBG false with diag := {} }

/-- The entry of SAFE. -/
def State.safeEntry (s : State) (cause : Nat) : State :=
  (((s.enter stSAFE).setFld Reg.GLB_DEVSTATE Fld.GLB_DEVSTATE_CAUSE cause).endCmd rcSTATE).countSafe.rmFollow

theorem State.packageSafe_fun : @State.packageSafe = fun s cause bits =>
    if !(s.cutOff cause bits).cdRun || (s.cutOff cause bits).dev = stSAFE || (s.cutOff cause bits).dev = stLOCKOUT then (s.cutOff cause bits).rmFollow
    else ((s.cutOff cause bits).allStop cause).safeEntry cause := rfl

theorem State.reacts_cutOff : Reacts s (s.cutOff cause bits) := by
  unfold State.cutOff
  refine .trans (.trans ?_ (State.reacts_linesOff _ _)) (State.reacts_outputsOff _ _)
  exact (s.reacts_latch bits).trans (.ite (.of_outer (State.outer_record _ _ _ _)) (.refl _))

theorem State.reacts_allStop : Reacts s (s.allStop cause) := by
  unfold State.allStop
  refine .trans ?_ (.of_outer ((State.outer_diag _ _).trans (State.outer_setBit _ _ _ rfl)))
  refine .trans ?_ (.setFld_devstate _ _ _ (by decide) (by decide))
  refine .trans (.trans (.each fun u n hn => u.reacts_order (s.mem_slots hn)) (.each fun u k hk => ?_)) (.each fun u g _ => ?_)
  · exact u.reacts_safeStop (State.mem_clus _ (List.mem_filter.1 hk).1) _
  · exact .ite (.of_outer (u.outer_preFail g cause)) (.refl u)

theorem State.reacts_safeEntry : Reacts s (s.safeEntry cause) := by
  unfold State.safeEntry
  refine .outer_right (.trans (.outer_right ?_ (State.outer_endCmd _ _)) (State.reacts_countSafe _)) (State.outer_rmFollow _)
  exact (s.reacts_enter fun _ => .inl rfl).trans (.setFld_devstate _ _ _ (by decide) (by decide))

theorem State.reacts_packageSafe : Reacts s (s.packageSafe cause bits) := by
  rw [State.packageSafe_fun]
  exact (s.reacts_cutOff cause bits).trans (.ite (.of_outer (State.outer_rmFollow _)) ((State.reacts_allStop _ _).trans (State.reacts_safeEntry _ _)))

/-! What it brings about -/

theorem Reacts.cdRun {s t : State} (h : Reacts s t) : t.cdRun = s.cdRun := by
  have hs := h.still
  simp only [State.still, Prod.mk.injEq] at hs
  exact hs.2.2.1

theorem State.safeEntry_halted : (s.safeEntry cause).halted := by
  have hsafe : (s.enter stSAFE).halted := by
    unfold State.enter
    split
    · rename_i h; exact .inl h
    · have hset : (s.setDev stSAFE).halted := .inl (State.fld_setFld_same _ _ _ _ (by decide))
      exact (((State.reacts_devDerate _).outer_right (by simp)).keeps .halted hset)
  unfold State.safeEntry
  have hrest : Reacts (s.enter stSAFE) (((s.enter stSAFE).setFld Reg.GLB_DEVSTATE Fld.GLB_DEVSTATE_CAUSE cause).endCmd rcSTATE).countSafe.rmFollow :=
    ((((Reacts.setFld_devstate _ _ _ (by decide) (by decide)).outer_right (State.outer_endCmd _ _)).trans (State.reacts_countSafe _)).outer_right
      (State.outer_rmFollow _))
  exact hrest.keeps .halted hsafe

/-- While the control die runs the package safe state ends in SAFE or LOCKOUT. -/
theorem State.packageSafe_halted (h : s.cdRun = true) : (s.packageSafe cause bits).halted := by
  have hcd : (s.cutOff cause bits).cdRun = true := (s.reacts_cutOff cause bits).cdRun.trans h
  rw [State.packageSafe_fun]
  dsimp only
  split
  · rename_i hd
    simp only [hcd, Bool.not_true, Bool.false_or, Bool.or_eq_true, decide_eq_true_eq] at hd
    exact (Reacts.of_outer (State.outer_rmFollow _)).keeps .halted hd
  · exact State.safeEntry_halted _ _

theorem State.cutOff_reacts : Reacts (s.cutOff cause bits) (s.packageSafe cause bits) := by
  rw [State.packageSafe_fun]
  exact .ite (.of_outer (State.outer_rmFollow _)) ((State.reacts_allStop _ _).trans (State.reacts_safeEntry _ _))

/-- Every demand ordered is latched. -/
theorem State.packageSafe_demand {b : Nat} (hb : b < 32) (h : bits.testBit b = true) : (s.packageSafe cause bits).shows (.demand b) := by
  refine (State.cutOff_reacts s cause bits).keeps _ ?_
  have hlatch : (s.latch bits).shows (.demand b) := by
    show ((s.setNat Reg.SAFE_DEMAND ((s.reg Reg.SAFE_DEMAND).toNat ||| bits)).reg Reg.SAFE_DEMAND).toNat.testBit b = true
    rw [State.reg_setNat_same, BitVec.toNat_ofNat, Nat.testBit_mod_two_pow, Nat.testBit_or, h]
    simp [hb]
  unfold State.cutOff
  have hrest : Reacts (s.latch bits) (((if (s.latch bits).cdRun then (s.latch bits).record Reg.GLB_DEVSTATE stSAFE [cause] else s.latch bits).linesOff
      0xFFFFFF).outputsOff 0xFF) :=
    .trans (.trans (.ite (.of_outer (State.outer_record _ _ _ _)) (.refl _)) (State.reacts_linesOff _ _)) (State.reacts_outputsOff _ _)
  exact hrest.keeps _ hlatch

theorem State.linesOff_all : (s.linesOff 0xFFFFFF).shows .lines := by
  unfold State.linesOff
  refine (Reacts.of_outer (State.outer_rmFollow _)).keeps .lines ?_
  show (State.setNat _ Reg.SAFE_LINES _).reg Reg.SAFE_LINES = 0
  rw [State.reg_setNat_same]
  simp

theorem State.outputsOff_all : (s.outputsOff 0xFF).shows .outputs := by
  show (s.setFld Reg.SAFE_SO Fld.SAFE_SO_ON _).fld Reg.SAFE_SO Fld.SAFE_SO_ON = 0
  rw [State.fld_setFld_same _ _ _ _ (by decide)]
  simp

/-- Every line is off and every output de-energised. -/
theorem State.packageSafe_off : (s.packageSafe cause bits).shows .lines ∧ (s.packageSafe cause bits).shows .outputs := by
  have hcut : (s.cutOff cause bits).shows .lines ∧ (s.cutOff cause bits).shows .outputs := by
    unfold State.cutOff
    exact ⟨(State.reacts_outputsOff _ _).keeps .lines (State.linesOff_all _), State.outputsOff_all _⟩
  exact ⟨(State.cutOff_reacts s cause bits).keeps _ hcut.1, (State.cutOff_reacts s cause bits).keeps _ hcut.2⟩

theorem State.reacts_cdSafe : Reacts s (s.cdSafe cause) := (s.reacts_packageSafe _ _).trans (State.reacts_causeGone _ _)

theorem State.cdSafe_halted (h : s.cdRun = true) : (s.cdSafe cause).halted :=
  (State.reacts_causeGone _ _).keeps .halted (s.packageSafe_halted _ _ h)

end packageSafe

/-! ### The end of debug and of a session (R75, R83, R311–R313) -/

section sessions
variable (s : State)

theorem State.reacts_splitRule : Reacts s s.splitRule := by
  unfold State.splitRule
  exact .ite (.ite (s.reacts_packageSafe _ _) (s.reacts_linesOff _)) (.refl s)

theorem State.reacts_endEndbg : Reacts s s.endEndbg := by
  unfold State.endEndbg
  refine .ite (.trans ?_ (.ite (State.reacts_linesOff _ _) (.refl _))) (.refl s)
  exact .trans (.of_outer ((State.outer_showIlims _).trans ((State.outer_setBit _ _ _ rfl).trans (s.outer_setBit _ _ rfl)))) (State.reacts_splitRule _)

theorem State.reacts_debugEnds : Reacts s s.debugEnds := by
  unfold State.debugEnds
  refine .trans (.of_outer ?_) (State.reacts_endEndbg _)
  rw [State.outer_setFld _ _ _ rfl]
  exact s.outer_each fun u t _ => u.outer_updTrip _ _

theorem State.reacts_endOverride {n : Nat} (hn : n < 24) : Reacts s (s.endOverride n) := by
  have hdiag (u : State) : Reacts u (u.setBit (Reg.GDV_DIAG_RES n) Fld.GDV_DIAG_RES_OVERRIDE false) :=
    .setReg_free u _ (by simp only [steady, Reg.GDV_DIAG_RES]; omega) (by simp only [Reg.GDV_DIAG_RES]; omega)
      fun m => by simp only [Reg.GDV_DIAG_RES]; omega
  unfold State.endOverride
  refine .ite ?_ (.refl s)
  refine .trans (.trans ?_ (hdiag _)) (.ite (State.reacts_phaseLostOf _ _) (.refl _))
  exact (Reacts.trans (.of_outer (State.outer_updDrv _ _ _)) (.setFld_gdvStat _ hn _ _ (by decide) (by decide))).trans
    (.setFld_gdvStat _ hn _ _ (by decide) (by decide))

theorem State.reacts_endSession : Reacts s s.endSession := by
  unfold State.endSession
  refine .trans (.trans ?_ (.each fun u n hn => u.reacts_endOverride (State.mem_slots _ hn))) (State.reacts_debugEnds _)
  exact .trans (.of_outer (State.outer_auths _ _)) (.setFld_devstate _ _ _ (by decide) (by decide))

end sessions

/-! ### The host link, the transport, invalid inputs and Ringmaster's findings (R215, R247, R346, R354, R472) -/

section links
variable (s : State)

theorem State.reacts_enterFallback (cause : Nat) : Reacts s (s.enterFallback cause) := by
  unfold State.enterFallback
  refine .ite (.of_outer (State.outer_record _ _ _ _)) (.trans (.of_outer ?_) (.each fun u k hk => ?_))
  · rw [State.outer_record, State.outer_raise _ _ FlagSrc.quiet_chgSn, State.outer_snet, State.outer_setFld _ _ _ rfl, State.outer_setBit _ _ _ rfl]
  have hk := State.mem_clus _ hk
  have hfb : (u.setBit (Reg.CHG_STAT k) Fld.CHG_STAT_SN_FB true).outer = u.outer := u.outer_setBit _ _ (unguarded_chg hk).1
  refine .trans (.of_outer hfb) (.ite (.trans (.of_outer ?_) (.ite ?_ (.refl _))) (.refl _))
  · rw [State.outer_showBounds _ hk, State.outer_endCharge _ _ hk, State.outer_unstart _ hk]
  · exact .trans (.updRm _ _ ⟨rfl, rfl, rfl, rfl⟩) (State.reacts_outputsOff _ _)

theorem State.reacts_linkLost : Reacts s s.linkLost := by
  have hhif : guarded Reg.HIF_STAT = false := rfl
  unfold State.linkLost
  exact .trans (.of_outer (by simp [hhif])) (State.reacts_enterFallback _ _)

theorem State.reacts_restartWd : Reacts s s.restartWd := by
  unfold State.restartWd
  exact .trans (.trans (.updRm _ _ ⟨rfl, rfl, rfl, rfl⟩) (.of_outer (State.outer_setFld _ _ _ unguarded_snl.2.2.1)))
    (.ite (.of_outer (by simp)) (.refl _))

theorem State.reacts_candidate (c : HeldCopy) : Reacts s (s.candidate c) := by
  have hsafe (u : State) : Reacts u (u.raise .safe 5) := .of_outer (Prod.ext (u.base_raise _ _) (funext fun a => by
    simp only [State.outer]
    split
    · rename_i ha
      refine u.raise_reg .safe 5 (by rintro rfl; cases ha) fun x lo hx => ?_
      rintro rfl
      cases hx
      cases ha
    · rfl))
  obtain ⟨hstat, -, -, hseq, hage⟩ := unguarded_snl
  unfold State.candidate
  refine .ite (.refl s) (.ite (.of_outer (by simp)) (.ite (.of_outer (by simp)) (.ite (.of_outer (by simp)) ?_)))
  refine .trans (.trans (.of_outer ?_) (State.reacts_restartWd _))
    (.ite (State.reacts_causeGone _ _) (.trans (.of_outer (State.outer_raise _ _ FlagSrc.quiet_snl)) (.ite ?_ (.refl _))))
  · rw [State.outer_setBit _ _ _ hstat, State.outer_setBit _ _ _ hstat, State.outer_setNat _ _ hage, State.outer_setNat _ _ hseq]
  · exact (hsafe _).trans (State.reacts_packageSafe _ _ _)

theorem State.reacts_loneHeld : Reacts s s.loneHeld := by
  unfold State.loneHeld
  exact .ite (.each fun u c _ => .trans (.of_outer (State.outer_decide _ _ _)) (State.reacts_candidate _ c)) (.refl s)

/-- A change of a port that keeps the outer state. -/
theorem State.reacts_portChange (p : Nat) (f : State → State) (hf : (f s).outer = s.outer) : Reacts s (s.portChange p f) := by
  unfold State.portChange
  exact .trans (.of_outer hf) (.ite (.trans (.of_outer (by simp)) (State.reacts_loneHeld _)) (.refl _))

theorem State.reacts_intFollow : Reacts s s.intFollow := by
  unfold State.intFollow
  exact .ite (.refl s) (s.reacts_causeGone _)

theorem State.reacts_rmFinding : Reacts s s.rmFinding := (s.reacts_packageSafe _ _).trans (State.reacts_intFollow _)

theorem State.reacts_rmArm : Reacts s s.rmArm := by
  unfold State.rmArm
  exact .trans (.trans (.of_outer (State.outer_setBit _ _ _ rfl)) (.updRm _ _ ⟨rfl, rfl, rfl, rfl⟩)) (.of_outer (State.outer_markGood _ _))

theorem State.reacts_loadPars (l : List Word) : Reacts s (s.loadPars l) := by
  unfold State.loadPars
  refine .trans (.trans ?_ (.updRm _ _ ⟨rfl, rfl, rfl, rfl⟩)) (.ite (State.reacts_rmArm _) (.of_outer (State.outer_setBit _ _ _ rfl)))
  exact .of_outer ((State.outer_setNat _ _ rfl).trans (s.outer_each fun u w _ => u.outer_setReg _ (unguarded_safe w).2.1))

/-- The reactions of R247, once the inputs are marked. -/
def State.invalidReacts (s : State) (l : List SrcId) : State :=
  let s := s.each (s.clus.filter fun k => !s.cluIdle k && l.any fun x => s.usesSrc k x) fun u k => u.safeStop k scSTALE
  s.each (s.rgns.filter fun g => s.regionOn g && l.contains (sarSrc (s.fld (Reg.CLU_REG_VCFG g) Fld.CLU_REG_VCFG_SRC))) fun u g =>
    u.regionReaction g 3

/-- The inputs of a list marked invalid. -/
def State.markAll (s : State) (l : List SrcId) : State :=
  s.each l fun u x => (u.setInvalid x true).updMeas fun m => { m with marked := File.set 0 m.marked (srcNo x) u.now }

theorem State.markInvalid_eq (l : List SrcId) : s.markInvalid l = (s.markAll l).invalidReacts l := rfl

theorem State.reacts_invalidReacts (l : List SrcId) : Reacts s (s.invalidReacts l) := by
  unfold State.invalidReacts
  refine .trans (.each fun u k hk => ?_) (.each fun u g hg => ?_)
  · exact u.reacts_safeStop (s.mem_clus (List.mem_filter.1 hk).1) _
  · exact u.reacts_regionReaction (State.mem_rgns _ (List.mem_filter.1 hg).1) _

end links
end Sys2Proof.Machine
end

section
/-!
SUPPORT. Settles O20: the loss and the return of a timing domain (R12) and Ringmaster's measurement of TB (R13).
-/

namespace Sys2Proof.Machine

/-- A command carried out ends in the settled state of its effect. -/
theorem completes_onlyIf {i : Instr} {s : State} {c : Bool} {f : State → State} {p : State → Prop} (he : exec i s = onlyIf c s f) (hc : c = true)
    (hp : p (f s).settle) : Completes i s p := ⟨_, he.trans (onlyIf_pos s f hc), hp⟩

theorem putBit_div (v b : Nat) (on : Bool) : putBit v b on / 2 ^ b = v / 2 ^ (b + 1) * 2 + b2n on := by
  have hpos : 0 < 2 ^ b := Nat.two_pow_pos b
  have hsplit : putBit v b on = (v / 2 ^ (b + 1) * 2 + b2n on) * 2 ^ b + v % 2 ^ b := by
    simp only [putBit, Nat.pow_succ]; ring
  rw [hsplit, Nat.add_comm, Nat.add_mul_div_right _ _ hpos, Nat.div_eq_of_lt (Nat.mod_lt _ hpos), Nat.zero_add]

theorem bitOf_putBit_same (v b : Nat) (on : Bool) : bitOf (putBit v b on) b = on := by
  simp only [bitOf, putBit_div]
  cases on <;> simp [b2n, Nat.add_mod]

section settled
variable (s : State)

@[simp] theorem State.outer_settle : s.settle.outer = s.outer := by
  refine Prod.ext s.base_settle (funext fun a => ?_)
  simp only [State.outer]
  split
  · rename_i ha
    simp only [guarded, decide_eq_true_eq] at ha
    exact s.settle_reg_low (by omega)
  · rfl

theorem State.reacts_settle : Reacts s s.settle := .of_outer s.outer_settle

end settled

section reacts
variable {s t : State} (h : Reacts s t)
include h

theorem Reacts.power : t.power = s.power := by
  have hs := h.still
  simp only [State.still, Prod.mk.injEq] at hs
  exact hs.2.2.2.2.1

theorem Reacts.rmRun : t.rmRun = s.rmRun := by
  have hs := h.still
  simp only [State.still, Prod.mk.injEq] at hs
  exact hs.2.2.2.1

theorem Reacts.rm : t.rm.ready = s.rm.ready ∧ t.rm.failed = s.rm.failed ∧ t.rm.td12Lost = s.rm.td12Lost ∧ t.rm.noImage = s.rm.noImage := by
  have hs := h.still
  simp only [State.still, Prod.mk.injEq] at hs
  exact hs.2.2.2.2.2

end reacts

/-! ### Presence of a domain -/

/-- From `s` to `t` the presence of domain `d` stays as it is shown, and its flag set. -/
structure ClockKept (d : Nat) (s t : State) : Prop where
  power : t.power = s.power
  stat : t.fld Reg.CLK_STAT ⟨d, 1⟩ = s.fld Reg.CLK_STAT ⟨d, 1⟩
  flag : s.flag .clk d = true → t.flag .clk d = true

section clocks
variable {s : State} {d : Nat}

theorem ClockKept.trans {t u : State} (h1 : ClockKept d s t) (h2 : ClockKept d t u) : ClockKept d s u :=
  ⟨h2.power.trans h1.power, h2.stat.trans h1.stat, fun h => h2.flag (h1.flag h)⟩

theorem steady_clk : steady Reg.CLK_STAT ∧ steady Reg.CLK_FLAGS := by
  simp only [steady, Reg.CLK_STAT, Reg.CLK_FLAGS]; omega

theorem Reacts.clockKept {t : State} (h : Reacts s t) : ClockKept d s t :=
  ⟨h.power, State.fld_congr (h.reg _ steady_clk.1) _, fun hf => (State.flag_congr (src := .clk) (h.reg _ steady_clk.2) d).trans hf⟩

/-- Another bit of CLK_STAT. -/
theorem ClockKept.setFld_stat (f : Field) (v : Nat) (hf : f.lo + f.len ≤ 32) (hd : d + 1 ≤ f.lo ∨ f.lo + f.len ≤ d) :
    ClockKept d s (s.setFld Reg.CLK_STAT f v) where
  power := rfl
  stat := s.fld_setFld_beside Reg.CLK_STAT f ⟨d, 1⟩ v hf hd
  flag h := (State.flag_setFld_other s (src := .clk) f v d (by decide)).trans h

/-- The registers of the input flags and of the invalid inputs are no clock registers. -/
theorem ClockKept.of_low {t : State} (hp : t.power = s.power) (h : ∀ a, 0x4000 ≤ a → a < 0x4030 → t.reg a = s.reg a) : ClockKept d s t :=
  ⟨hp, State.fld_congr (h _ (by decide) (by decide)) _, fun hf => (State.flag_congr (src := .clk) (h _ (by decide) (by decide)) d).trans hf⟩

/-! ### Holdover of PTP (R12, R348) -/

/-- Holdover as entered, before its flags. -/
def State.holdoverSet (s : State) : State :=
  (((s.setBit Reg.ETH_PTP_STAT Fld.ETH_PTP_STAT_HOLDOVER true).setBit Reg.ETH_PTP_STAT Fld.ETH_PTP_STAT_LOCKED false).setFld
    Reg.ETH_PTP_STAT Fld.ETH_PTP_STAT_HO_TIME 0).ptpMaster

/-- What follows it besides the flag of TD8. -/
def State.holdoverShown (s : State) : State :=
  ((s.updSnl fun x => { x with hoAt := some s.now }).showAgeOk).raise .ptp 1

theorem State.enterHoldover_eq (s : State) : s.enterHoldover =
    if s.bit Reg.ETH_PTP_STAT Fld.ETH_PTP_STAT_HOLDOVER then s
    else (s.holdoverSet.setFld Reg.CLK_STAT ⟨8, 1⟩ 0).holdoverShown.raise .clk 8 := rfl

theorem State.outer_holdoverSet (s : State) : s.holdoverSet.outer = s.outer := by
  rw [State.holdoverSet, State.outer_ptpMaster, State.outer_setFld _ _ _ rfl, State.outer_setBit _ _ _ rfl, State.outer_setBit _ _ _ rfl]

theorem State.outer_holdoverShown (s : State) : s.holdoverShown.outer = s.outer := by
  rw [State.holdoverShown, State.outer_raise _ _ FlagSrc.quiet_ptp, State.outer_showAgeOk, State.outer_updSnl]

theorem ClockKept.raise (s : State) (b : Nat) (hd : d < 32) : ClockKept d s (s.raise .clk b) where
  power := by simp
  stat := State.fld_congr (s.raise_reg .clk b (by decide) fun a lo h => by
    simp only [FlagSrc.counter, FlagSrc.cnt0, Option.some.injEq, Prod.mk.injEq, Reg.CLK_CNT0] at h
    simp only [Reg.CLK_STAT]; omega) _
  flag h := s.flag_raise_mono .clk b d hd h

/-- Holdover of PTP keeps every other domain. -/
theorem ClockKept.enterHoldover (s : State) (hd : d < 32) (h8 : d ≠ 8) : ClockKept d s s.enterHoldover := by
  rw [State.enterHoldover_eq]
  split
  · exact (Reacts.refl s).clockKept
  · have hset : ClockKept d s (s.holdoverSet.setFld Reg.CLK_STAT ⟨8, 1⟩ 0) :=
      (Reacts.of_outer s.outer_holdoverSet).clockKept.trans (.setFld_stat _ _ (by decide) (by simp only; omega))
    exact (hset.trans (Reacts.of_outer (State.outer_holdoverShown _)).clockKept).trans (.raise _ 8 hd)

/-- A field of ETH_PTP_STAT beside HOLDOVER. -/
theorem State.holdover_setFld (s : State) (f : Field) (v : Nat) (hl : f.lo + f.len ≤ 32) (hf : f.lo + f.len ≤ 2 ∨ 3 ≤ f.lo) :
    (s.setFld Reg.ETH_PTP_STAT f v).bit Reg.ETH_PTP_STAT Fld.ETH_PTP_STAT_HOLDOVER = s.bit Reg.ETH_PTP_STAT Fld.ETH_PTP_STAT_HOLDOVER := by
  rw [State.bit, State.bit, s.fld_setFld_beside _ f Fld.ETH_PTP_STAT_HOLDOVER v hl hf.symm]

theorem State.holdover_ptpMaster (s : State) :
    s.ptpMaster.bit Reg.ETH_PTP_STAT Fld.ETH_PTP_STAT_HOLDOVER = s.bit Reg.ETH_PTP_STAT Fld.ETH_PTP_STAT_HOLDOVER := by
  obtain ⟨v, hv⟩ : ∃ v, s.ptpMaster = ({ s with draws := s.draws + 1 } : State).setFld Reg.ETH_PTP_STAT ⟨0, 1⟩ v := ⟨_, rfl⟩
  rw [hv, State.holdover_setFld _ ⟨0, 1⟩ v (by decide) (.inl (by decide))]
  rfl

theorem State.holdoverSet_bit (s : State) : s.holdoverSet.bit Reg.ETH_PTP_STAT Fld.ETH_PTP_STAT_HOLDOVER = true := by
  rw [State.holdoverSet, State.holdover_ptpMaster, State.holdover_setFld _ _ _ (by decide) (.inr (by decide)), State.setBit,
    State.holdover_setFld _ _ _ (by decide) (.inl (by decide))]
  exact s.bit_setBit_same _ _ _ (by decide) rfl

theorem State.reg_updSnl (s : State) (f : Snl → Snl) (a : Nat) : (s.updSnl f).reg a = s.reg a := rfl

/-- In holdover from then on. -/
theorem State.enterHoldover_bit (s : State) : s.enterHoldover.bit Reg.ETH_PTP_STAT Fld.ETH_PTP_STAT_HOLDOVER = true := by
  rw [State.enterHoldover_eq]
  by_cases h : s.bit Reg.ETH_PTP_STAT Fld.ETH_PTP_STAT_HOLDOVER = true
  · rw [if_pos h, h]
  · rw [if_neg h]
    refine (State.bit_congr ?_ _).trans s.holdoverSet_bit
    rw [State.reg_raise_unowned (src := .clk) (b := 8) _ rfl, State.holdoverShown, State.reg_raise_unowned (src := .ptp) (b := 1) _ rfl,
      State.showAgeOk, State.reg_setBit_other _ _ _ (by decide), State.reg_updSnl,
      State.reg_setFld_other _ _ _ (by decide)]

/-- The loss of PTP itself shows in CLK_STAT and CLK_FLAGS. -/
theorem State.enterHoldover_lost (s : State) (h : s.bit Reg.ETH_PTP_STAT Fld.ETH_PTP_STAT_HOLDOVER = false) :
    s.enterHoldover.power = s.power ∧ s.enterHoldover.fld Reg.CLK_STAT ⟨8, 1⟩ = 0 ∧ s.enterHoldover.flag .clk 8 = true := by
  have hset := Reacts.of_outer s.outer_holdoverSet
  have hshown := Reacts.of_outer (State.outer_holdoverShown (s.holdoverSet.setFld Reg.CLK_STAT ⟨8, 1⟩ 0))
  rw [State.enterHoldover_eq, if_neg (by simp [h])]
  refine ⟨?_, ?_, State.flag_raise _ _ _ (by decide)⟩
  · simp only [State.raise_power]
    exact hshown.power.trans hset.power
  · rw [State.fld_congr (State.reg_raise_unowned _ rfl), State.fld_congr (hshown.reg _ steady_clk.1), State.fld_setFld_same _ _ _ _ (by decide)]
    rfl

end clocks
end Sys2Proof.Machine
end

section
/-!
SUPPORT. Settles O20: the loss of a domain with its reaction (R12), domain by domain.
-/

namespace Sys2Proof.Machine

/-! ### The domain lost, before its reaction -/

/-- A domain lost: its presence cleared, and its flag set while the control die runs. -/
def State.clockGone (s : State) (d : Nat) : State := (s.setClock d false).raiseIf (s.cdRun && d != 8) .clk d

theorem exec_clockLoss (d : Fin 14) (groups : Fin 16) (s : State) : exec (.clockLoss d groups) s =
    onlyIf (s.clockWatched d.val && (d.val == 3 || !s.clockOut d.val)) s fun s => (s.clockGone d.val).clockReaction d.val groups.val := rfl

section gone
variable (s : State) (d : Nat)

theorem State.clockGone_power : (s.clockGone d).power = { s.power with clkLost := putBit s.power.clkLost d true } := by
  rw [State.clockGone, State.raiseIf_power]; rfl

theorem State.clockGone_cdRun : (s.clockGone d).cdRun = s.cdRun := by rw [State.clockGone, State.raiseIf_cdRun]; rfl

theorem State.clockGone_out : (s.clockGone d).clockOut d = true := by
  rw [State.clockOut, State.clockGone_power]; exact bitOf_putBit_same _ _ _

/-- Any register but CLK_STAT and the flag with its counter. -/
theorem State.clockGone_reg {a : Nat} (hs : a ≠ Reg.CLK_STAT) (ho : FlagSrc.clk.owns d a = false) : (s.clockGone d).reg a = s.reg a := by
  have hset : (s.setClock d false).reg a = s.reg a := s.reg_setFld_other _ _ hs
  rw [State.clockGone, State.raiseIf]
  split
  · rw [State.reg_raise_unowned _ ho, hset]
  · exact hset

theorem clk_owns {a : Nat} (h : ¬(0x4000 ≤ a ∧ a < 0x4030)) (hd : d < 14) : FlagSrc.clk.owns d a = false := by
  interval_cases d <;> simp [FlagSrc.owns, FlagSrc.addr, FlagSrc.counter, FlagSrc.cnt0, Reg.CLK_FLAGS, Reg.CLK_CNT0] <;> omega

theorem State.clockGone_stat (hd : d < 14) : (s.clockGone d).fld Reg.CLK_STAT ⟨d, 1⟩ = 0 := by
  have hset : (s.setClock d false).fld Reg.CLK_STAT ⟨d, 1⟩ = 0 := s.fld_setFld_same _ ⟨d, 1⟩ 0 (by simp only; omega)
  have ho : FlagSrc.clk.owns d Reg.CLK_STAT = false := by interval_cases d <;> rfl
  rw [State.clockGone, State.raiseIf]
  split
  · rw [State.fld_congr (State.reg_raise_unowned _ ho), hset]
  · exact hset

theorem State.clockGone_flag (hrun : s.cdRun = true) (hd : d < 14) (h8 : d ≠ 8) : (s.clockGone d).flag .clk d = true := by
  rw [State.clockGone, State.raiseIf, if_pos (by simp [hrun, h8])]
  exact State.flag_raise _ _ _ (by omega)

end gone

/-! ### Reactions -/

section reactions
variable (s : State) {d : Nat}

/-- Inputs marked invalid: the invalid bits alone among the registers. -/
theorem State.markAll_reg (l : List SrcId) {a : Nat} (ha : a < 0x30018 ∨ 0x30024 ≤ a) : (s.markAll l).reg a = s.reg a := by
  refine s.each_same (fun u => u.reg a) _ l fun u x _ => ?_
  show (u.setInvalid x true).reg a = u.reg a
  have hne : a ≠ Reg.MEAS_INVAL_SAR0 ∧ a ≠ Reg.MEAS_INVAL_SAR1 ∧ a ≠ Reg.MEAS_INVAL_MOD := by
    simp only [Reg.MEAS_INVAL_SAR0, Reg.MEAS_INVAL_SAR1, Reg.MEAS_INVAL_MOD]; omega
  obtain ⟨h0, h1, hm⟩ := hne
  cases x with
  | sar i =>
    simp only [State.setInvalid]
    split
    · exact u.reg_setFld_other _ _ h0
    · exact u.reg_setFld_other _ _ h1
  | mod i => exact u.reg_setFld_other _ _ hm
  | pm i => rfl

theorem State.markAll_power (l : List SrcId) : (s.markAll l).power = s.power := by
  refine s.each_same State.power _ l fun u x _ => ?_
  cases x with
  | sar i => simp only [State.setInvalid]; split <;> rfl
  | mod i => rfl
  | pm i => rfl

/-- The modulator inputs of the clocks that fail. -/
def mclkInputs (groups : Nat) : List SrcId := ((List.range 24).filter fun i => bitOf groups (i / 6)).map fun i => SrcId.mod (Fin.ofNat 24 i)

theorem State.clockReaction_mclk (groups : Nat) :
    s.clockReaction 3 groups = ((s.raise .meas 3).markAll (mclkInputs groups)).invalidReacts (mclkInputs groups) :=
  State.markInvalid_eq _ _

/-- TD12 noted as lost or present. -/
def State.setTd12 (s : State) (lost : Bool) : State := s.updRm fun r => { r with td12Lost := lost }

theorem State.clockReaction_td12 (groups : Nat) : s.clockReaction 12 groups = (s.setTd12 true).rmFinding := rfl

/-- The reactions that keep every clock register. -/
theorem State.reacts_clockReaction (groups : Nat) (hd : d < 14) (h : d ≠ 0 ∧ d ≠ 3 ∧ d ≠ 8 ∧ d ≠ 12) : Reacts s (s.clockReaction d groups) := by
  obtain ⟨h0, h3, h8, h12⟩ := h
  have hport (p : Nat) (hp : guarded (Reg.ETH_P_STAT p) = false) :
      Reacts s (s.portChange p fun u => u.setBit (Reg.ETH_P_STAT p) Fld.ETH_P_STAT_REFOK false) :=
    s.reacts_portChange p _ (s.outer_setBit _ _ hp)
  match d with
  | 1 => exact s.reacts_packageSafe _ _
  | 2 | 11 => exact s.reacts_cdSafe _
  | 4 => exact .of_outer s.outer_outageBegins
  | 5 => exact .ite s.reacts_linkLost (.refl s)
  | 6 => exact hport 0 rfl
  | 7 => exact hport 1 rfl
  | 9 => exact .of_outer s.outer_canFollow
  | 10 => exact .ite (.of_outer ((State.outer_raiseMask _ _ FlagSrc.quiet_align).trans (s.outer_setAlign 3))) (.refl s)
  | 13 => exact .of_outer (s.outer_each fun u c hc => u.outer_svrSyncLost (List.mem_range.1 hc))

/-- No reaction takes back the loss of its domain. -/
theorem ClockKept.clockReaction (groups : Nat) (hd : d < 14) (h8 : d ≠ 8) : ClockKept d s (s.clockReaction d groups) := by
  by_cases h0 : d = 0
  · subst h0
    have hhold : ClockKept 0 s (s.setBit Reg.CLK_STAT ⟨16, 1⟩ true) := .setFld_stat _ _ (by decide) (by decide)
    exact (hhold.trans (Reacts.of_outer (State.outer_record _ _ _ _)).clockKept).trans (ClockKept.enterHoldover _ (by omega) h8)
  by_cases h3 : d = 3
  · subst h3
    rw [State.clockReaction_mclk]
    have hflag : ClockKept 3 s (s.raise .meas 3) := .of_low (s.raise_power .meas 3) fun a hlo hhi => s.reg_raise_unowned (by
      simp [FlagSrc.owns, FlagSrc.addr, FlagSrc.counter, FlagSrc.cnt0, Reg.MEAS_FLAGS, Reg.MEAS_CNT0]; omega)
    have hmark : ClockKept 3 (s.raise .meas 3) ((s.raise .meas 3).markAll (mclkInputs groups)) :=
      .of_low (State.markAll_power _ _) fun a hlo hhi => State.markAll_reg _ _ (.inl (by omega))
    exact (hflag.trans hmark).trans (State.reacts_invalidReacts _ _).clockKept
  by_cases h12 : d = 12
  · subst h12
    rw [State.clockReaction_td12]
    have hlost : ClockKept 12 s (s.setTd12 true) := .of_low rfl fun _ _ _ => rfl
    exact hlost.trans (s.setTd12 true).reacts_rmFinding.clockKept
  exact (s.reacts_clockReaction groups hd ⟨h0, h3, h8, h12⟩).clockKept

end reactions
end Sys2Proof.Machine
end

section
/-!
SUPPORT. Settles O20: what the loss of the host link leaves in HIF_STAT (R12, R382).
-/

namespace Sys2Proof.Machine

/-- HIF_STAT, which no notice, entry or charge touches. -/
def State.link (s : State) : Word := s.reg Reg.HIF_STAT

/-- A source whose flags and counters stand beside HIF_STAT. -/
def FlagSrc.offLink (src : FlagSrc) : Prop := Reg.HIF_STAT ≠ src.addr ∧ ∀ b a lo, b < 32 → src.counter b = some (a, lo) → Reg.HIF_STAT ≠ a

theorem FlagSrc.offLink_mbx : FlagSrc.mbx.offLink := ⟨by decide, fun b a lo hb h => by
  simp only [FlagSrc.counter, FlagSrc.cnt0, Option.some.injEq, Prod.mk.injEq, Reg.MBX_CNT0] at h
  simp only [Reg.HIF_STAT]; omega⟩

theorem FlagSrc.offLink_recd : FlagSrc.recd.offLink := ⟨by decide, fun b a lo hb h => by
  simp only [FlagSrc.counter, FlagSrc.cnt0, Option.some.injEq, Prod.mk.injEq, Reg.REC_CNT0] at h
  simp only [Reg.HIF_STAT]; omega⟩

theorem FlagSrc.offLink_chgSn : FlagSrc.chgSn.offLink := ⟨by decide, fun b a lo hb h => by
  simp only [FlagSrc.counter, FlagSrc.cnt0, Option.some.injEq, Prod.mk.injEq, Reg.CHG_SN_CNT0] at h
  simp only [Reg.HIF_STAT]; omega⟩

theorem FlagSrc.offLink_chg {k : Nat} (hk : k < 12) : (FlagSrc.chg k).offLink := by
  refine ⟨by simp only [FlagSrc.addr, Reg.CHG_FLAGS, Reg.HIF_STAT]; omega, fun b a lo hb h => ?_⟩
  simp only [FlagSrc.counter, FlagSrc.cnt0, Option.some.injEq, Prod.mk.injEq, Reg.CHG_CNT0] at h
  simp only [Reg.HIF_STAT]; omega

section writes
variable (s : State)

theorem State.link_setReg {a : Nat} (v : Word) (h : Reg.HIF_STAT ≠ a) : (s.setReg a v).link = s.link := s.reg_setReg_other v h
@[simp] theorem State.link_setFld {a : Nat} (f : Field) (v : Nat) (h : Reg.HIF_STAT ≠ a) : (s.setFld a f v).link = s.link := s.link_setReg _ h
@[simp] theorem State.link_setBit {a : Nat} (f : Field) (v : Bool) (h : Reg.HIF_STAT ≠ a) : (s.setBit a f v).link = s.link := s.link_setReg _ h
@[simp] theorem State.link_setNat {a : Nat} (v : Nat) (h : Reg.HIF_STAT ≠ a) : (s.setNat a v).link = s.link := s.link_setReg _ h
@[simp] theorem State.link_updTrip (t : Nat) (f : TripSt → TripSt) : (s.updTrip t f).link = s.link := rfl
@[simp] theorem State.link_updDir (c : Nat) (d : Bool) (f : NoticeDir → NoticeDir) : (s.updDir c d f).link = s.link := rfl
@[simp] theorem State.link_updChg (k : Nat) (f : Chg → Chg) : (s.updChg k f).link = s.link := rfl
@[simp] theorem State.link_devQueue (l : List DevNotice) : ({ s with devQueue := l } : State).link = s.link := rfl

theorem State.link_each {α : Type} {l : List α} {f : State → α → State} (h : ∀ u x, x ∈ l → (f u x).link = u.link) : (s.each l f).link = s.link :=
  s.each_same State.link f l h

theorem State.link_raiseMask {src : FlagSrc} (m : Nat) (h : src.offLink) : (s.raiseMask src m).link = s.link :=
  s.raiseMask_reg src m h.1 fun b hb _ a lo hc => h.2 b a lo hb hc
theorem State.link_raise {src : FlagSrc} (b : Nat) (h : src.offLink) : (s.raise src b).link = s.link := s.link_raiseMask _ h
theorem State.link_raiseIf {src : FlagSrc} (c : Bool) (b : Nat) (h : src.offLink) : (s.raiseIf c src b).link = s.link := by
  unfold State.raiseIf
  split
  · exact s.link_raise b h
  · rfl

theorem State.link_asOne {src : FlagSrc} {b : Nat} (hb : b < 32) (f : State → State) (h : src.offLink) : (s.asOne src b f).link = (f s).link := by
  unfold State.asOne
  dsimp only
  split
  · rename_i hc
    exact (f s).link_setFld _ _ (h.2 b _ _ hb hc)
  · rfl

@[simp] theorem State.link_record (src bits : Nat) (l : List Nat) : (s.record src bits l).link = s.link := by
  have henqueue (e : RecEntry) : (s.enqueue e).link = s.link := State.link_setFld _ _ _ (by decide)
  unfold State.record State.systemEntry
  dsimp only
  split
  · exact s.link_setNat _ (by decide)
  · split
    · exact (State.link_raiseIf _ _ _ FlagSrc.offLink_recd).trans ((State.link_setBit _ _ _ (by decide)).trans (henqueue _))
    · exact henqueue _

end writes

/-! ### Notices -/

section notices
variable (s : State)

theorem link_mbx (c p : Nat) : Reg.HIF_STAT ≠ Reg.MBX_CH_STAT c ∧ Reg.HIF_STAT ≠ Reg.MBX_EPOCH p ∧ Reg.HIF_STAT ≠ Reg.MBX_RXPEND ∧
    Reg.HIF_STAT ≠ Reg.MBX_LAST := by
  simp only [Reg.HIF_STAT, Reg.MBX_CH_STAT, Reg.MBX_EPOCH, Reg.MBX_RXPEND, Reg.MBX_LAST]; omega

@[simp] theorem State.link_notify (code c f : Nat) : (s.notify code c f).link = s.link := by
  unfold State.notify
  split
  · exact s.link_raise _ FlagSrc.offLink_mbx
  · rfl
  · rfl
  · exact s.link_updTrip _ _
@[simp] theorem State.link_setChStat (c : Nat) (d b : Bool) : (s.setChStat c d b).link = s.link := s.link_setFld _ _ (link_mbx c 0).1
@[simp] theorem State.link_present (c : Nat) (d : Bool) : (s.present c d).link = s.link := by
  simp [State.present, apply_ite State.link, (link_mbx c 0).2.2.1]
@[simp] theorem State.link_post (c : Nat) (d : Bool) (ptr tag : Nat) : (s.post c d ptr tag).link = s.link := by simp [State.post]
@[simp] theorem State.link_nextDevice (c : Nat) : (s.nextDevice c).link = s.link := by
  unfold State.nextDevice
  split <;> simp [apply_ite State.link]
@[simp] theorem State.link_setLastCode (c : Nat) (d : Bool) (v : Nat) : (s.setLastCode c d v).link = s.link := s.link_setNat _ (link_mbx c 0).2.2.2
@[simp] theorem State.link_endNotice (c : Nat) (d : Bool) (code ep own : Nat) (w : Bool) : (s.endNotice c d code ep own w).link = s.link := by
  simp [State.endNotice, apply_ite State.link, (link_mbx c 0).2.2.1]
@[simp] theorem State.link_device (who block code st : Nat) : (s.device who block code st).link = s.link :=
  (Del.device s who block code st).reg _ (by simp only [deliveryReg, Reg.HIF_STAT]; decide)

/-- The host party resets. -/
theorem State.link_resetHost : (s.resetParty 0).link = s.link := by
  unfold State.resetParty
  dsimp only
  rw [if_neg (by decide), State.link_asOne _ (by decide) _ FlagSrc.offLink_mbx, State.link_each, s.link_setNat _ (link_mbx 0 0).2.1]
  intro u c _
  refine State.link_each _ fun v d _ => ?_
  split
  · rfl
  · simp [apply_ite State.link, State.link_raise _ _ FlagSrc.offLink_mbx]

end notices

/-! ### Fallback, and the loss of the link -/

section fallback
variable (s : State) {k : Nat} (hk : k < 12)

section engine
include hk

theorem link_chg : Reg.HIF_STAT ≠ Reg.CHG_STAT k ∧ Reg.HIF_STAT ≠ Reg.CHG_IREF k ∧ Reg.HIF_STAT ≠ Reg.CHG_BOUND k := by
  simp only [Reg.HIF_STAT, Reg.CHG_STAT, Reg.CHG_IREF, Reg.CHG_BOUND]; omega

theorem State.link_unstart : (s.unstart k).link = s.link := by
  have hstat := (link_chg hk).1
  unfold State.unstart
  split
  · rw [State.chgResult, State.link_raiseIf _ _ _ (FlagSrc.offLink_chg hk)]
    simp [hstat]
  · rfl

theorem State.link_endCharge (l : List Nat) : (s.endCharge k l).link = s.link := by
  obtain ⟨hstat, hiref, -⟩ := link_chg hk
  unfold State.endCharge
  dsimp only
  split
  · rfl
  · rw [State.link_device, State.link_record, State.link_raiseMask _ _ (FlagSrc.offLink_chg hk),
      State.link_each _ fun u n hn => u.link_setFld _ _ (by
        have hn := State.mem_slotsOf _ hn
        simp only [Reg.HIF_STAT, Reg.EDG_REF]; omega),
      State.link_setFld _ _ _ hiref, State.link_updChg, State.link_setBit _ _ _ hstat, State.link_setFld _ _ _ hstat, State.link_setFld _ _ _ hstat]

theorem State.link_showBounds : (s.showBounds k).link = s.link := by simp [State.showBounds, link_chg hk]

end engine

theorem State.link_enterFallback (cause : Nat) : (s.enterFallback cause).link = s.link := by
  have hout (u : State) (y : Nat) : (u.outputsOff y).link = u.link := u.link_setFld _ _ (by decide)
  have hupd (u : State) (f : Rm → Rm) : (u.updRm f).link = u.link := rfl
  have hsnet (u : State) (x : SafetyNet) : ({ u with snet := x } : State).link = u.link := rfl
  unfold State.enterFallback
  dsimp only
  split
  · exact s.link_record _ _ _
  · refine (State.link_each _ fun u k hk => ?_).trans ?_
    · have hk := State.mem_clus _ hk
      have hfb : (u.setBit (Reg.CHG_STAT k) Fld.CHG_STAT_SN_FB true).link = u.link := u.link_setBit _ _ (link_chg hk).1
      simp only [apply_ite State.link, hout, hupd, State.link_showBounds _ hk, State.link_endCharge _ hk, State.link_unstart _ hk, hfb, ite_self]
    · rw [State.link_record, State.link_raise _ _ FlagSrc.offLink_chgSn, hsnet, State.link_setFld _ _ _ (by decide), State.link_setBit _ _ _ (by decide)]

/-- The link lost: HIF_STAT is 0. -/
theorem State.linkLost_link : s.linkLost.link = 0 := by
  unfold State.linkLost
  rw [State.link_enterFallback, State.link_resetHost]
  exact State.reg_setNat_same _ _ _

end fallback
end Sys2Proof.Machine
end

section
/-!
SUPPORT. Settles O20 from the reactions of the single domains, their return (R12), and the windows of TB (R13).
-/

namespace Sys2Proof.Machine

theorem ClockKept.out {d : Nat} {s t : State} (h : ClockKept d s t) (x : Nat) : t.clockOut x = s.clockOut x := by
  rw [State.clockOut, State.clockOut, h.power]

theorem State.settle_clocks (s : State) (d : Nat) : ClockKept d s s.settle := s.reacts_settle.clockKept

/-- A sign that a command leaves stands in the settled state. -/
theorem State.settle_shows (s : State) (o : Sign) (h : s.shows o) : s.settle.shows o := s.reacts_settle.keeps o h

/-! ### The loss of a domain -/

section loss
variable {d : Fin 14} {groups : Fin 16} {s : State}

theorem clockLoss_completes {p : State → Prop} (hwatch : s.clockWatched d.val = true) (hin : d.val = 3 ∨ s.clockOut d.val = false)
    (hp : p ((s.clockGone d.val).clockReaction d.val groups.val).settle) : Completes (.clockLoss d groups) s p := by
  have hpresent : (d.val == 3 || !s.clockOut d.val) = true := by rcases hin with h | h <;> simp [h]
  exact completes_onlyIf (exec_clockLoss d groups s) (by rw [hwatch, hpresent]; rfl) hp

theorem State.clockWatched_of_cdRun (hrun : s.cdRun = true) (h : d.val ≠ 12 ∨ s.rmRun = true) : s.clockWatched d.val = true := by
  unfold State.clockWatched
  split
  · rename_i h12; exact h.resolve_left fun hn => hn h12
  · exact hrun

/-- Absent, in the state and in CLK_STAT, with its flag. -/
theorem clockLoss_shown (hrun : s.cdRun = true) (h8 : d.val ≠ 8) :
    let t := ((s.clockGone d.val).clockReaction d.val groups.val).settle
    t.clockOut d.val = true ∧ t.fld Reg.CLK_STAT ⟨d.val, 1⟩ = 0 ∧ t.flag .clk d.val = true := by
  intro t
  have hkept : ClockKept d.val (s.clockGone d.val) t := (ClockKept.clockReaction _ groups.val d.isLt h8).trans (State.settle_clocks _ _)
  exact ⟨(hkept.out _).trans (s.clockGone_out _), hkept.stat.trans (s.clockGone_stat _ d.isLt), hkept.flag (s.clockGone_flag _ hrun d.isLt h8)⟩

/-- PTP lost is PTP in holdover. -/
theorem ptpLoss_shown (hbit : s.bit Reg.ETH_PTP_STAT Fld.ETH_PTP_STAT_HOLDOVER = false) :
    let t := (s.clockGone 8).enterHoldover.settle
    t.clockOut 8 = true ∧ t.fld Reg.CLK_STAT ⟨8, 1⟩ = 0 ∧ t.flag .clk 8 = true ∧ t.bit Reg.ETH_PTP_STAT Fld.ETH_PTP_STAT_HOLDOVER = true := by
  intro t
  have hgone : (s.clockGone 8).bit Reg.ETH_PTP_STAT Fld.ETH_PTP_STAT_HOLDOVER = false :=
    (State.bit_congr (s.clockGone_reg 8 (by decide) rfl) _).trans hbit
  obtain ⟨hpower, hstat, hflag⟩ := (s.clockGone 8).enterHoldover_lost hgone
  have hkept := (s.clockGone 8).enterHoldover.settle_clocks 8
  have hout : (s.clockGone 8).enterHoldover.clockOut 8 = true := by
    rw [State.clockOut, hpower]; exact s.clockGone_out 8
  refine ⟨(hkept.out 8).trans hout, hkept.stat.trans hstat, hkept.flag hflag, ?_⟩
  exact (State.settle_bit_low _ _ (by decide)).trans (State.enterHoldover_bit _)

/-- TB runs on in holdover. -/
theorem tbLoss_shown : let t := ((s.clockGone 0).clockReaction 0 groups.val).settle
    t.fld Reg.CLK_STAT ⟨16, 1⟩ = 1 ∧ t.bit Reg.ETH_PTP_STAT Fld.ETH_PTP_STAT_HOLDOVER = true := by
  intro t
  have hset : ((s.clockGone 0).setBit Reg.CLK_STAT ⟨16, 1⟩ true).fld Reg.CLK_STAT ⟨16, 1⟩ = 1 := State.fld_setFld_same _ _ _ _ (by decide)
  have hkept : ClockKept 16 ((s.clockGone 0).setBit Reg.CLK_STAT ⟨16, 1⟩ true) t :=
    ((Reacts.of_outer (State.outer_record _ Reg.CLK_FLAGS 1 [0])).clockKept.trans (ClockKept.enterHoldover _ (by decide) (by decide))).trans
      (State.settle_clocks _ _)
  exact ⟨hkept.stat.trans hset, (State.settle_bit_low _ _ (by decide)).trans (State.enterHoldover_bit _)⟩

/-- The domains whose loss orders the package safe state. -/
theorem safeLoss_shown (hrun : s.cdRun = true) (hd : d.val = 1 ∨ d.val = 2 ∨ d.val = 11) :
    let t := ((s.clockGone d.val).clockReaction d.val groups.val).settle
    t.halted ∧ (d.val = 1 → t.shows (.demand 22)) := by
  intro t
  have hcd : (s.clockGone d.val).cdRun = true := (s.clockGone_cdRun _).trans hrun
  rcases hd with h | h | h
  · simp only [t, h] at hcd ⊢
    exact ⟨State.settle_shows _ .halted (State.packageSafe_halted _ 0x0E (2 ^ 22) hcd),
      fun _ => State.settle_shows _ _ (State.packageSafe_demand _ 0x0E (2 ^ 22) (by decide) (by decide))⟩
  · simp only [t, h] at hcd ⊢
    exact ⟨State.settle_shows _ .halted (State.cdSafe_halted _ 0x0F hcd), fun h => absurd h (by decide)⟩
  · simp only [t, h] at hcd ⊢
    exact ⟨State.settle_shows _ .halted (State.cdSafe_halted _ 0x0F hcd), fun h => absurd h (by decide)⟩

theorem State.invalid_setFld_mod (u : State) (i j : Fin 24) : (u.setFld Reg.MEAS_INVAL_MOD ⟨j.val, 1⟩ 1).invalid (.mod i) =
    (u.invalid (.mod i) || i == j) := by
  simp only [State.invalid, State.reg_setFld_same, bitOf_eq]
  rw [Field.put_testBit _ _ _ _ (by simp only; omega)]
  by_cases h : i = j
  · subst h; simp
  · have hne : i.val ≠ j.val := fun hv => h (Fin.ext hv)
    rw [if_neg (by simp only; omega)]
    simp [h]

/-- An input marked reads invalid. -/
theorem State.markAll_invalid (l : List SrcId) (i : Fin 24) (hi : s.invalid (.mod i) = true ∨ SrcId.mod i ∈ l) : (s.markAll l).invalid (.mod i) = true := by
  induction l generalizing s with
  | nil => exact hi.resolve_right List.not_mem_nil
  | cons x xs ih =>
    refine ih (s := (s.setInvalid x true).updMeas _) ?_
    show (s.setInvalid x true).invalid (.mod i) = true ∨ _
    cases x with
    | mod j =>
      show (s.setFld Reg.MEAS_INVAL_MOD ⟨j.val, 1⟩ 1).invalid (.mod i) = true ∨ _
      rw [State.invalid_setFld_mod]
      rcases hi with h | h
      · simp [h]
      · rcases List.mem_cons.1 h with h | h
        · cases h; simp
        · exact .inr h
    | sar j =>
      have hsar : (s.setInvalid (.sar j) true).invalid (.mod i) = s.invalid (.mod i) := by
        simp only [State.invalid, State.setInvalid]
        split <;> rw [State.reg_setFld_other _ _ _ (by decide)]
      rw [hsar]
      simpa using hi
    | pm j => exact (show s.invalid (.mod i) = true ∨ _ by simpa using hi)

theorem mem_mclkInputs {g : Nat} {i : Fin 24} (h : g.testBit (i.val / 6) = true) : SrcId.mod i ∈ mclkInputs g := by
  refine List.mem_map.2 ⟨i.val, List.mem_filter.2 ⟨List.mem_range.2 i.isLt, ?_⟩, ?_⟩
  · rw [bitOf_eq]; exact h
  · exact congrArg SrcId.mod (Fin.ext (Nat.mod_eq_of_lt i.isLt))

/-- The inputs of a modulator clock lost read invalid. -/
theorem mclkLoss_shown {i : Fin 24} (h : groups.val.testBit (i.val / 6) = true) :
    let t := ((s.clockGone 3).clockReaction 3 groups.val).settle
    t.invalid (.mod i) = true ∧ t.flag .meas 3 = true := by
  intro t
  have hmark := ((s.clockGone 3).raise .meas 3).markAll_invalid (mclkInputs groups.val) i (.inr (mem_mclkInputs h))
  have hreacts : Reacts (((s.clockGone 3).raise .meas 3).markAll (mclkInputs groups.val)) t := by
    simp only [t, State.clockReaction_mclk]
    exact (State.reacts_invalidReacts _ _).trans (State.reacts_settle _)
  constructor
  · simp only [State.invalid, hreacts.reg Reg.MEAS_INVAL_MOD (by simp only [steady, Reg.MEAS_INVAL_MOD]; omega)]
    exact hmark
  · rw [State.flag_congr (src := .meas) (hreacts.reg Reg.MEAS_FLAGS (by simp only [steady, Reg.MEAS_FLAGS]; omega)),
      State.flag_congr (src := .meas) (State.markAll_reg _ _ (.inl (by decide)))]
    exact State.flag_raise _ _ _ (by decide)

/-- The PCIe link is down. -/
theorem pcieLoss_shown (hlink : s.bit Reg.HIF_STAT Fld.HIF_STAT_LINKUP = true) :
    ((s.clockGone 5).clockReaction 5 groups.val).settle.reg Reg.HIF_STAT = 0 := by
  have hup : (s.clockGone 5).bit Reg.HIF_STAT Fld.HIF_STAT_LINKUP = true :=
    (State.bit_congr (s.clockGone_reg 5 (by decide) rfl) _).trans hlink
  rw [State.settle_reg _ (by simp only [deliveryReg, Reg.HIF_STAT]; decide), State.clockReaction, if_pos hup]
  exact State.linkLost_link _

theorem State.fld_updSys (u : State) (f : SysBus → SysBus) (a : Nat) (g : Field) : (u.updSys f).fld a g = u.fld a g := rfl

/-- A follower leaves alignment. -/
theorem syncLoss_shown (hon : s.sysOn = true) (hrole : s.role ≠ roLEADER)
    (hst : s.fld Reg.EDG_ALIGN_STAT Fld.EDG_ALIGN_STAT_STATE = 1 ∨ s.fld Reg.EDG_ALIGN_STAT Fld.EDG_ALIGN_STAT_STATE = 2) :
    let t := ((s.clockGone 10).clockReaction 10 groups.val).settle
    t.fld Reg.EDG_ALIGN_STAT Fld.EDG_ALIGN_STAT_STATE = 3 ∧ t.flag .align 2 = true := by
  intro t
  have hgone (a : Nat) (ha : 0x4030 ≤ a) : (s.clockGone 10).reg a = s.reg a :=
    s.clockGone_reg 10 (by simp only [Reg.CLK_STAT]; omega) (clk_owns 10 (by omega) (by decide))
  have hon' : (s.clockGone 10).sysOn = true := by
    rw [← hon, State.sysOn, State.sysOn, s.clockGone_cdRun, State.bit_congr (hgone _ (by decide))]
  have hrole' : (s.clockGone 10).role ≠ roLEADER := by rwa [State.role, State.fld_congr (hgone _ (by decide))]
  have hst' : (s.clockGone 10).fld Reg.EDG_ALIGN_STAT Fld.EDG_ALIGN_STAT_STATE = s.fld Reg.EDG_ALIGN_STAT Fld.EDG_ALIGN_STAT_STATE :=
    State.fld_congr (hgone _ (by decide)) _
  have hreact : (s.clockGone 10).clockReaction 10 groups.val = ((s.clockGone 10).setAlign 3).raise .align 2 := by
    show State.syncClockLost _ = State.raiseMask _ .align 4
    unfold State.syncClockLost
    rw [hst']
    rcases hst with h | h <;> simp [h, hon', hrole']
  have hset : ((s.clockGone 10).setAlign 3).fld Reg.EDG_ALIGN_STAT Fld.EDG_ALIGN_STAT_STATE = 3 := by
    unfold State.setAlign
    rw [State.fld_congr (State.each_same _ (fun u => u.reg Reg.EDG_ALIGN_STAT) _ _ fun u n hn => u.reg_setBit_other _ _ (by
      have := State.mem_slots _ hn
      simp only [Reg.EDG_ALIGN_STAT, Reg.EDG_STAT]; omega))]
    rw [State.fld_updSys, State.fld_setFld_same _ _ _ _ (by decide)]
    rfl
  simp only [t, hreact]
  constructor
  · rw [State.settle_fld_low _ _ (by decide), State.fld_congr (State.reg_raise_unowned (src := .align) (b := 2) (a := Reg.EDG_ALIGN_STAT) _ rfl), hset]
  · rw [State.flag_congr (src := .align) (State.settle_reg_low _ (by decide)), State.flag_raise _ _ _ (by decide)]

/-- Ringmaster's own clock. -/
theorem rmLoss_shown : let t := ((s.clockGone 12).clockReaction 12 groups.val).settle
    t.rm.td12Lost = true ∧ t.shows (.demand 25) ∧ t.shows .lines ∧ t.shows .outputs := by
  intro t
  have hreacts : Reacts ((s.clockGone 12).setTd12 true) t := by
    simp only [t, State.clockReaction_td12]
    exact (State.reacts_rmFinding _).trans (State.reacts_settle _)
  have hafter : Reacts (((s.clockGone 12).setTd12 true).packageSafe 0x0E dmINT) t := by
    simp only [t, State.clockReaction_td12]
    exact (State.reacts_intFollow _).trans (State.reacts_settle _)
  obtain ⟨hlines, houtputs⟩ := ((s.clockGone 12).setTd12 true).packageSafe_off 0x0E dmINT
  exact ⟨hreacts.rm.2.2.1, hafter.keeps _ (State.packageSafe_demand _ _ _ (by decide) (by decide)), hafter.keeps _ hlines, hafter.keeps _ houtputs⟩

end loss
end Sys2Proof.Machine
end

section
/-!
SUPPORT. Settles O20: the return of a domain (R12), the windows of TB (R13), and the statement from its parts.
-/

namespace Sys2Proof.Machine

/-! ### The return of a domain -/

/-- A domain present again; PTP shows it only when it locks (R348). -/
def State.clockBack (s : State) (d : Nat) : State :=
  if d = 8 then { s with power := { s.power with clkLost := putBit s.power.clkLost 8 false } } else s.setClock d true

theorem exec_clockReturn (d : Fin 14) (s : State) : exec (.clockReturn d) s =
    onlyIf ((d.val == 12 || s.cdRun) && s.clockOut d.val) s fun s => (s.clockBack d.val).clockResumes d.val := rfl

section back
variable (s : State) {d : Nat}

theorem State.clockBack_out : (s.clockBack d).clockOut d = false := by
  unfold State.clockBack
  split
  · rename_i h; subst h; exact bitOf_putBit_same _ _ _
  · exact bitOf_putBit_same _ _ _

theorem State.clockBack_stat (hd : d < 14) (h8 : d ≠ 8) : (s.clockBack d).fld Reg.CLK_STAT ⟨d, 1⟩ = 1 := by
  rw [State.clockBack, if_neg h8]
  exact s.fld_setFld_same _ ⟨d, 1⟩ 1 (by simp only; omega)

theorem State.clockResumes_td12 : s.clockResumes 12 = (s.setTd12 false).intFollow := rfl

/-- What resumes leaves the domain present. -/
theorem ClockKept.clockResumes (hd : d < 14) : ClockKept d s (s.clockResumes d) := by
  have hport (p : Nat) (hp : guarded (Reg.ETH_P_STAT p) = false) : Reacts s (s.setBit (Reg.ETH_P_STAT p) Fld.ETH_P_STAT_REFOK true) :=
    .of_outer (s.outer_setBit _ _ hp)
  have hsame : ClockKept d s s := (Reacts.refl s).clockKept
  match d with
  | 0 => exact .setFld_stat _ _ (by decide) (by decide)
  | 1 => exact (s.reacts_causeGone _).clockKept
  | 4 => exact (Reacts.of_outer s.outer_outageEnds).clockKept
  | 6 => exact (hport 0 rfl).clockKept
  | 7 => exact (hport 1 rfl).clockKept
  | 9 => exact (Reacts.of_outer s.outer_canFollow).clockKept
  | 12 =>
    have hback : ClockKept 12 s (s.setTd12 false) := .of_low rfl fun _ _ _ => rfl
    rw [State.clockResumes_td12]
    exact hback.trans (s.setTd12 false).reacts_intFollow.clockKept
  | 2 | 3 | 5 | 8 | 10 | 11 | 13 => exact hsame

end back

theorem clockReturn_shown (d : Fin 14) (s : State) : let t := ((s.clockBack d.val).clockResumes d.val).settle
    t.clockOut d.val = false ∧ (d.val ≠ 8 → t.fld Reg.CLK_STAT ⟨d.val, 1⟩ = 1) ∧ (d.val = 0 → t.fld Reg.CLK_STAT ⟨16, 1⟩ = 0) := by
  intro t
  have hkept : ClockKept d.val (s.clockBack d.val) t := (ClockKept.clockResumes _ d.isLt).trans (State.settle_clocks _ _)
  refine ⟨(hkept.out _).trans s.clockBack_out, fun h8 => hkept.stat.trans (s.clockBack_stat d.isLt h8), fun h0 => ?_⟩
  simp only [t, h0]
  rw [State.settle_fld_low _ _ (by decide)]
  exact State.fld_setFld_same _ _ _ _ (by decide)

theorem td12Return_shown (s : State) : let t := ((s.clockBack 12).clockResumes 12).settle
    t.clockOut 12 = false ∧ t.rm.td12Lost = false := by
  intro t
  have hreacts : Reacts ((s.clockBack 12).setTd12 false) t := by
    simp only [t, State.clockResumes_td12]
    exact (State.reacts_intFollow _).trans (State.reacts_settle _)
  exact ⟨(clockReturn_shown 12 s).1, hreacts.rm.2.2.1⟩

/-! ### The windows of TB -/

/-- A window shown, the `n`th beyond the limit. -/
def State.tbShown (s : State) (dev : Int) (n : Nat) : State :=
  (s.updRm fun r => { r with tbDev := n }).setNat Reg.CLK_TBDEV (n * 65536 + unsigned 16 (satI 16 dev))

/-- The run of windows judged. -/
def State.tbJudged (s : State) (dev : Int) (n : Nat) : State :=
  if n = 16 then ((s.tbShown dev n).raiseIf (s.cdRun && !s.clockOut 1) .clk 1).packageSafe 0x0E (2 ^ 22)
  else if n = 0 && !s.clockOut 1 then (s.tbShown dev n).causeGone (2 ^ 22)
  else s.tbShown dev n

theorem exec_tbDeviationWindow (dev : Int) (s : State) : exec (.tbDeviationWindow dev) s =
    onlyIf (s.rmRun && !s.rm.td12Lost) s fun s => s.tbJudged dev (if 5000 < dev ∨ dev < -5000 then min (s.rm.tbDev + 1) 255 else 0) := rfl

section windows
variable {dev : Int} {s : State}

/-- A window within the limit, or one beyond it as the `n`th of its run. -/
theorem tbWindow_completes {n : Nat} {p : State → Prop} (hrm : s.rmRun = true) (htd : s.rm.td12Lost = false)
    (hn : (if 5000 < dev ∨ dev < -5000 then min (s.rm.tbDev + 1) 255 else 0) = n) (hp : p (s.tbJudged dev n).settle) :
    Completes (.tbDeviationWindow dev) s p :=
  completes_onlyIf (exec_tbDeviationWindow dev s) (by rw [hrm, htd]; rfl) (by rw [hn]; exact hp)

theorem satI_small (h : -5000 ≤ dev ∧ dev ≤ 5000) : satI 16 dev = dev := by simp only [satI]; omega

theorem unsigned_lt (x : Int) : unsigned 16 x < 2 ^ 16 := by simp only [unsigned]; omega

theorem State.tbShown_frame (n : Nat) (r : Rm) : Only (fun a => a = Reg.CLK_TBDEV) { s with rm := r } { s.tbShown dev n with rm := r } :=
  Only.setReg { s with rm := r } Reg.CLK_TBDEV _

/-- A window within the limit. -/
theorem tbWithin_shown (h : -5000 ≤ dev ∧ dev ≤ 5000) : let t := (s.tbJudged dev 0).settle
    t.rm.tbDev = 0 ∧ t.reg Reg.CLK_TBDEV = BitVec.ofNat 32 (unsigned 16 dev) ∧ Only (fun a => a = Reg.CLK_TBDEV) { s with rm := t.rm } t := by
  have hset : (s.tbShown dev 0).reg Reg.CLK_TBDEV = BitVec.ofNat 32 (unsigned 16 dev) := by
    rw [State.tbShown, State.reg_setNat_same, satI_small h, Nat.zero_mul, Nat.zero_add]
  have hjudged : ∃ r : Rm, s.tbJudged dev 0 = { s.tbShown dev 0 with rm := r } ∧ r.tbDev = 0 := by
    unfold State.tbJudged
    rw [if_neg (by decide)]
    split
    · exact ⟨_, rfl, rfl⟩
    · exact ⟨_, rfl, rfl⟩
  obtain ⟨r, hr, h0⟩ := hjudged
  intro t
  have ht : t = ({ s.tbShown dev 0 with rm := r } : State).settle := congrArg State.settle hr
  have hrm : t.rm = r := by rw [ht, State.settle_rm]
  refine ⟨hrm ▸ h0, ?_, ?_⟩
  · rw [ht, State.settle_reg_low _ (by decide)]; exact hset
  · rw [hrm, ht]; exact (State.tbShown_frame 0 r).settle

/-- A window beyond the limit, before the sixteenth. -/
theorem tbBeyond_shown {n : Nat} (hn : 0 < n ∧ n < 16) : let t := (s.tbJudged dev n).settle
    t.rm.tbDev = n ∧ (t.reg Reg.CLK_TBDEV).toNat / 2 ^ 16 = n ∧ t.reg Reg.SAFE_DEMAND = s.reg Reg.SAFE_DEMAND ∧
      Only (fun a => a = Reg.CLK_TBDEV) { s with rm := t.rm } t := by
  have hjudged : s.tbJudged dev n = s.tbShown dev n := by
    have h0 : n ≠ 0 := by omega
    rw [State.tbJudged, if_neg (by omega), if_neg (by simp [h0])]
  simp only [hjudged, State.settle_rm]
  refine ⟨rfl, ?_, ?_, (State.tbShown_frame n _).settle⟩
  · rw [State.settle_reg_low _ (by decide), State.tbShown, State.reg_setNat_same, BitVec.toNat_ofNat]
    have := unsigned_lt (satI 16 dev)
    omega
  · exact (State.settle_reg_low _ (by decide)).trans (State.reg_setNat_other _ _ (by decide))

theorem State.tbJudged_sixteen : s.tbJudged dev 16 = ((s.tbShown dev 16).raiseIf (s.cdRun && !s.clockOut 1) .clk 1).packageSafe 0x0E (2 ^ 22) := rfl

/-- The sixteenth window is a demand and the loss of TD1. -/
theorem tbSixteenth_shown (hrun : s.cdRun = true) : let t := (s.tbJudged dev 16).settle
    t.shows (.demand 22) ∧ (s.clockOut 1 = false → t.flag .clk 1 = true) ∧ t.halted := by
  have hcd : ((s.tbShown dev 16).raiseIf (s.cdRun && !s.clockOut 1) .clk 1).cdRun = true := by rw [State.raiseIf_cdRun]; exact hrun
  rw [State.tbJudged_sixteen]
  refine ⟨State.settle_shows _ _ (State.packageSafe_demand _ _ _ (by decide) (by decide)), fun hin => ?_,
    State.settle_shows _ .halted (State.packageSafe_halted _ _ _ hcd)⟩
  refine (State.settle_clocks _ 1).flag ((State.reacts_packageSafe _ _ _).clockKept.flag ?_)
  rw [hrun, hin]
  exact State.flag_raise _ _ _ (by decide)

/-- Ringmaster alone cuts off. -/
theorem tbSixteenth_off : let t := (s.tbJudged dev 16).settle
    t.shows (.demand 22) ∧ t.shows .lines := by
  rw [State.tbJudged_sixteen]
  exact ⟨State.settle_shows _ _ (State.packageSafe_demand _ _ _ (by decide) (by decide)), State.settle_shows _ _ (State.packageSafe_off _ _ _).1⟩

theorem tbRun_beyond {n : Nat} (h : dev < -5000 ∨ 5000 < dev) (hn : s.rm.tbDev = n) (hlt : n < 16) :
    (if 5000 < dev ∨ dev < -5000 then min (s.rm.tbDev + 1) 255 else 0) = n + 1 := by rw [if_pos h.symm, hn]; omega

end windows

/-! ### The statement -/

theorem lines_zero {s : State} (h : s.shows .lines) : (s.reg Reg.SAFE_LINES).toNat = 0 := congrArg BitVec.toNat h

/-- Settles O20: each domain by its reaction, the windows of TB by the length of their run. -/
theorem clocksComplete : Obligations.ClocksComplete := by
  unfold Obligations.ClocksComplete
  refine ⟨?_, ?_, ?_, ?_, ?_, ?_, ?_, ?_, ?_, ?_, ?_, ?_, ?_, ?_⟩
  · intro d groups s hrun h8 h12 hin
    exact clockLoss_completes (State.clockWatched_of_cdRun hrun h12) hin (clockLoss_shown hrun h8)
  · intro d groups s hrun hd hin hbit
    obtain rfl : d = 8 := Fin.ext hd
    exact clockLoss_completes (State.clockWatched_of_cdRun hrun (.inl (by decide))) (.inr hin) (ptpLoss_shown hbit)
  · intro d groups s hrun hd hin
    obtain rfl : d = 0 := Fin.ext hd
    exact clockLoss_completes (State.clockWatched_of_cdRun hrun (.inl (by decide))) (.inr hin) tbLoss_shown
  · intro d groups s hrun hd hin
    exact clockLoss_completes (State.clockWatched_of_cdRun hrun (.inl (by omega))) (.inr hin) (safeLoss_shown hrun hd)
  · intro d groups i s hrun hd hg
    obtain rfl : d = 3 := Fin.ext hd
    exact clockLoss_completes (State.clockWatched_of_cdRun hrun (.inl (by decide))) (.inl rfl) (mclkLoss_shown hg)
  · intro d groups s hrun hd hin hlink
    obtain rfl : d = 5 := Fin.ext hd
    exact clockLoss_completes (State.clockWatched_of_cdRun hrun (.inl (by decide))) (.inr hin) (pcieLoss_shown hlink)
  · intro d groups s hrun hd hin hon hrole hst
    obtain rfl : d = 10 := Fin.ext hd
    exact clockLoss_completes (State.clockWatched_of_cdRun hrun (.inl (by decide))) (.inr hin) (syncLoss_shown hon hrole hst)
  · intro d groups s hrm hd hin
    obtain rfl : d = 12 := Fin.ext hd
    refine clockLoss_completes hrm (.inr hin) ?_
    obtain ⟨htd, hdemand, hlines, houtputs⟩ := rmLoss_shown (groups := groups) (s := s)
    exact ⟨htd, hdemand, lines_zero hlines, houtputs⟩
  · intro d s hrun hout
    exact completes_onlyIf (exec_clockReturn d s) (by rw [hrun, hout, Bool.or_true]; rfl) (clockReturn_shown d s)
  · intro d s hd hout
    obtain rfl : d = 12 := Fin.ext hd
    exact completes_onlyIf (exec_clockReturn 12 s) (by rw [show s.clockOut (12 : Fin 14).val = true from hout]; rfl) (td12Return_shown s)
  · intro dev s hrm htd hlo hhi
    exact tbWindow_completes hrm htd (if_neg (by omega)) (tbWithin_shown ⟨hlo, hhi⟩)
  · intro dev s hrm htd hdev hlt
    exact tbWindow_completes hrm htd (tbRun_beyond hdev rfl (by omega)) (tbBeyond_shown ⟨by omega, by omega⟩)
  · intro dev s hrun hrm htd hdev h15
    exact tbWindow_completes hrm htd (tbRun_beyond hdev h15 (by decide)) (tbSixteenth_shown hrun)
  · intro dev s _ hrm htd hdev h15
    refine tbWindow_completes hrm htd (tbRun_beyond hdev h15 (by decide)) ?_
    exact ⟨tbSixteenth_off.1, lines_zero tbSixteenth_off.2⟩

end Sys2Proof.Machine
end

section
/-!
SUPPORT. Settles O22: a supply outside its window and the condition SUPPLY_OUT (R34), the frames of the commands that report supplies, and what
the reactions leave of them.
-/

namespace Sys2Proof.Machine

/-! ### Single bits -/

theorem State.bit_eq_flag (s : State) (src : FlagSrc) (b : Nat) : s.bit src.addr ⟨b, 1⟩ = s.flag src b := by
  rw [State.flag, ← bitOf_eq, bitOf, State.bit, State.fld, Field.get]
  have := Nat.mod_two_eq_zero_or_one ((s.reg src.addr).toNat / 2 ^ b)
  rcases this with h | h <;> simp [h]

/-- The event of GLB_GUARD leaves its conditions alone. -/
theorem State.bit_raise_guard (s : State) {x : Nat} (hx : x < 8) : (s.raise .guard 8).bit Reg.GLB_GUARD ⟨x, 1⟩ = s.bit Reg.GLB_GUARD ⟨x, 1⟩ := by
  have hflag : (s.raise .guard 8).flag .guard x = s.flag .guard x := by
    rw [State.raise, State.flag_raiseMask _ _ _ _ (by omega), Nat.testBit_two_pow_of_ne (by omega), Bool.or_false]
  exact (State.bit_eq_flag _ .guard x).trans (hflag.trans (s.bit_eq_flag .guard x).symm)

theorem bitOf_ne_zero {v b : Nat} (h : bitOf v b = true) : (v != 0) = true := by
  cases v with
  | zero => rw [bitOf_eq, Nat.zero_testBit] at h; cases h
  | succ n => rfl

/-! ### SUPPLY_OUT (R34) -/

/-- Supply or rail `b` is outside its window and SUPPLY_OUT shows it. -/
def State.isOut (s : State) (b : Nat) : Prop := bitOf s.power.out b = true ∧ s.bit Reg.GLB_GUARD Fld.GLB_GUARD_SUPPLY_OUT = true

section out
variable (s : State) (b : Nat) (on : Bool)

/-- The supplies once `b` is noted. -/
def State.outPower (s : State) (b : Nat) (on : Bool) : Power := { s.power with out := putBit s.power.out b on }

theorem State.setOut_eq : s.setOut b on = State.setCond { s with power := s.outPower b on } 0 ((s.outPower b on).out != 0) := rfl

theorem Only.setCond (c : Nat) : Only (fun a => FlagSrc.guard.owns 8 a) s (s.setCond c on) := by
  unfold State.setCond State.raiseIf
  have hset : Only (fun a => FlagSrc.guard.owns 8 a) s (s.setBit Reg.GLB_GUARD ⟨c, 1⟩ on) :=
    (Only.setFld s Reg.GLB_GUARD ⟨c, 1⟩ (b2n on)).mono fun a h => by subst h; rfl
  dsimp only
  split
  · exact hset.trans (Only.raise _ _ _)
  · exact hset

/-- The condition is shown, whatever event its rise makes. -/
theorem State.setCond_bit (c : Nat) (hc : c < 8) : (s.setCond c on).bit Reg.GLB_GUARD ⟨c, 1⟩ = on := by
  have hset := s.bit_setBit_same Reg.GLB_GUARD ⟨c, 1⟩ on (by simp only; omega) rfl
  unfold State.setCond State.raiseIf
  dsimp only
  split
  · exact (State.bit_raise_guard _ hc).trans hset
  · exact hset

/-- Another condition stays as it is. -/
theorem State.setCond_other {c x : Nat} (hc : c < 8) (hx : x < 8) (h : x ≠ c) : (s.setCond c on).bit Reg.GLB_GUARD ⟨x, 1⟩ = s.bit Reg.GLB_GUARD ⟨x, 1⟩ := by
  have hset := s.bit_setBit_beside Reg.GLB_GUARD ⟨c, 1⟩ ⟨x, 1⟩ on (by simp only; omega) (by simp only; omega)
  unfold State.setCond State.raiseIf
  dsimp only
  split
  · exact (State.bit_raise_guard _ hx).trans hset
  · exact hset

theorem State.setOut_frame : Only (fun a => FlagSrc.guard.owns 8 a) { s with power := s.outPower b on } (s.setOut b on) := by
  rw [State.setOut_eq]; exact Only.setCond _ _ _

theorem State.setOut_power : (s.setOut b on).power = s.outPower b on := by rw [(s.setOut_frame b on).2]; rfl

theorem State.setOut_cdRun : (s.setOut b on).cdRun = s.cdRun := by rw [(s.setOut_frame b on).2]; rfl

theorem State.outPower_bit : bitOf (s.outPower b on).out b = on := bitOf_putBit_same _ _ _

theorem State.setOut_shown : (s.setOut b on).bit Reg.GLB_GUARD Fld.GLB_GUARD_SUPPLY_OUT = ((s.setOut b on).power.out != 0) := by
  rw [State.setOut_power, State.setOut_eq]; exact State.setCond_bit _ _ 0 (by decide)

theorem State.setOut_isOut : (s.setOut b true).isOut b := by
  have hout : bitOf (s.setOut b true).power.out b = true := by rw [State.setOut_power]; exact s.outPower_bit b true
  exact ⟨hout, (s.setOut_shown b true).trans (bitOf_ne_zero hout)⟩

end out

/-- The registers of GLB_GUARD's event. -/
theorem guard_owns {a : Nat} (h : a ≠ 0x40 ∧ a ≠ 0x44) : FlagSrc.guard.owns 8 a = false := by
  simp [FlagSrc.owns, FlagSrc.addr, FlagSrc.counter, Reg.GLB_GUARD, Reg.GLB_GUARD_CNT2]; omega

/-- The registers of a flag of PWR. -/
theorem pwr_owns {a b : Nat} (hb : b < 16) (h : ¬(0x2004 ≤ a ∧ a < 0x2028)) : FlagSrc.pwr.owns b a = false := by
  simp [FlagSrc.owns, FlagSrc.addr, FlagSrc.counter, FlagSrc.cnt0, Reg.PWR_FLAGS, Reg.PWR_CNT0]; omega

theorem State.setOut_reg (s : State) (b : Nat) (on : Bool) {a : Nat} (h : a ≠ 0x40 ∧ a ≠ 0x44) (ha : a < 0x60000) : (s.setOut b on).reg a = s.reg a :=
  (s.setOut_frame b on).1 a (deliveryReg_low ha) (by simp [guard_owns h])

/-! ### What follows a report -/

/-- From `s` to `t` what follows a report has passed: as a reaction, but PWR_SUPSTAT may show more. -/
structure Follows (s t : State) : Prop where
  still : t.still = s.still
  reg : ∀ a, steady a → a ≠ Reg.PWR_SUPSTAT → t.reg a = s.reg a
  keeps : ∀ o, s.shows o → t.shows o

theorem Reacts.follows {s t : State} (h : Reacts s t) : Follows s t := ⟨h.still, fun a ha _ => h.reg a ha, h.keeps⟩

theorem Follows.trans {s t u : State} (h1 : Follows s t) (h2 : Follows t u) : Follows s u :=
  ⟨h2.still.trans h1.still, fun a ha hne => (h2.reg a ha hne).trans (h1.reg a ha hne), fun o h => h2.keeps o (h1.keeps o h)⟩

theorem Follows.setSupstat (s : State) (f : Field) (v : Nat) : Follows s (s.setFld Reg.PWR_SUPSTAT f v) where
  still := rfl
  reg a _ hne := s.reg_setFld_other f v hne
  keeps o ho := by
    have hne : o.addr ≠ Reg.PWR_SUPSTAT := by
      cases o with
      | demand b => exact (by decide : Reg.SAFE_DEMAND ≠ Reg.PWR_SUPSTAT)
      | lines | outputs | halted => decide
      | bias n => simp only [Sign.addr, Reg.GDV_STAT, Reg.PWR_SUPSTAT]; omega
      | slotFlag n => simp only [Sign.addr, Reg.GDV_FLAGS, Reg.PWR_SUPSTAT]; omega
    rw [State.shows, s.reg_setFld_other f v hne]; exact ho

section follows
variable {s t : State} (h : Follows s t)
include h

theorem Follows.power : t.power = s.power := by
  have hs := h.still
  simp only [State.still, Prod.mk.injEq] at hs
  exact hs.2.2.2.2.1

theorem Follows.isOut {b : Nat} (hb : s.isOut b) : t.isOut b := by
  obtain ⟨hout, hcond⟩ := hb
  exact ⟨h.power ▸ hout, (State.bit_congr (h.reg Reg.GLB_GUARD (.inr (.inl rfl)) (by decide)) _).trans hcond⟩

theorem Follows.flag {b : Nat} (hf : s.flag .pwr b = true) : t.flag .pwr b = true :=
  (State.flag_congr (src := .pwr) (h.reg Reg.PWR_FLAGS (by simp only [steady, Reg.PWR_FLAGS]; omega) (by decide)) b).trans hf

end follows

theorem State.settle_follows (s : State) : Follows s s.settle := s.reacts_settle.follows

/-! ### A supply reported in PWR_SUPSTAT and PWR_FLAGS -/

/-- A supply shown as absent, with a flag. -/
def State.supplyFlag (s : State) (b flag : Nat) : State := (s.setFld Reg.PWR_SUPSTAT ⟨b, 1⟩ 0).raise .pwr flag

section report
variable (s : State) (b : Nat) {flag : Nat}

theorem State.supplyFlag_frame (flag : Nat) : Only (fun a => a = Reg.PWR_SUPSTAT ∨ FlagSrc.pwr.owns flag a) s (s.supplyFlag b flag) :=
  ((Only.setFld s Reg.PWR_SUPSTAT ⟨b, 1⟩ 0).mono fun _ h => .inl h).trans ((Only.raise _ .pwr flag).mono fun _ h => .inr h)

theorem State.supplyFlag_power (flag : Nat) : (s.supplyFlag b flag).power = s.power := by rw [(s.supplyFlag_frame b flag).2]; rfl

theorem State.supplyFlag_flag (hf : flag < 16) : (s.supplyFlag b flag).flag .pwr flag = true := State.flag_raise _ _ _ (by omega)

theorem State.supplyFlag_bit (hb : b < 32) (hf : flag < 16) : (s.supplyFlag b flag).bit Reg.PWR_SUPSTAT ⟨b, 1⟩ = false := by
  rw [State.supplyFlag, State.bit_congr (State.reg_raise_unowned _ (pwr_owns hf (by decide)))]
  exact s.bit_setBit_same _ ⟨b, 1⟩ false (by simp only; omega) rfl

theorem State.supplyFlag_isOut (hf : flag < 16) {x : Nat} (h : s.isOut x) : (s.supplyFlag b flag).isOut x := by
  obtain ⟨hout, hcond⟩ := h
  refine ⟨by rw [State.supplyFlag_power]; exact hout, ?_⟩
  rw [← hcond]
  exact State.bit_congr ((s.supplyFlag_frame b flag).1 _ (deliveryReg_low (by decide)) (by
    rintro (h | h)
    · exact absurd h (by decide)
    · rw [pwr_owns hf (by decide)] at h; cases h)) _

end report
end Sys2Proof.Machine
end

section
/-!
SUPPORT. Settles O22: how Ringmaster stops and starts (R56, R58, R68).
-/

namespace Sys2Proof.Machine

/-! ### Frames of two states that take the same parts -/

theorem Only.withPower {p : Nat → Prop} {s t : State} (h : Only p s t) (x : Power) : Only p { s with power := x } { t with power := x } :=
  ⟨h.1, congrArg (fun u : State => { u with power := x }) h.2⟩

theorem Only.withRm {p : Nat → Prop} {s t : State} (h : Only p s t) (r : Rm) (b : Bool) :
    Only p { s with rm := r, rmRun := b } { t with rm := r, rmRun := b } :=
  ⟨h.1, congrArg (fun u : State => { u with rm := r, rmRun := b }) h.2⟩

theorem Only.withDrvs {p : Nat → Prop} {s t : State} (h : Only p s t) (d : File Nat Drv) : Only p { s with drvs := d } { t with drvs := d } :=
  ⟨h.1, congrArg (fun u : State => { u with drvs := d }) h.2⟩

/-- A supply or rail noted after a command that keeps to its frame. -/
theorem Only.setOut {p : Nat → Prop} {s u : State} (h : Only p s u) (b : Nat) (on : Bool) :
    Only (fun a => p a ∨ FlagSrc.guard.owns 8 a) { s with power := (u.setOut b on).power } (u.setOut b on) := by
  rw [State.setOut_power]
  exact ((h.withPower _).mono fun _ => .inl).trans ((u.setOut_frame b on).mono fun _ => .inr)

/-! ### Ringmaster stops -/

/-- The registers in which the stop of Ringmaster shows. -/
def rmRegs (a : Nat) : Prop := a = Reg.SAFE_LINES ∨ a = Reg.SAFE_SO ∨ a = Reg.SAFE_STAT

section stops
variable (s : State)

theorem State.each_updDrv (l : List Nat) (f : State → Nat → Drv → Drv) : s.each l (fun u n => u.updDrv n (f u n)) =
    { s with drvs := (s.each l fun u n => u.updDrv n (f u n)).drvs } :=
  s.each_rel (fun u v => v = { u with drvs := v.drvs }) (fun _ => rfl) (fun h1 h2 => h2.trans (by rw [h1])) _ _ fun u n _ => rfl

/-- The lines written once the driver dies have taken note. -/
theorem Only.lines {D : State} (hD : D = { s with drvs := D.drvs }) (v : Nat) : Only rmRegs { s with drvs := D.drvs } (D.setNat Reg.SAFE_LINES v).rmFollow := by
  have hlines : Only rmRegs D (D.setNat Reg.SAFE_LINES v).rmFollow :=
    ((Only.setReg D Reg.SAFE_LINES _).mono fun _ => .inl).trans ((Only.setFld _ Reg.SAFE_STAT _ _).mono fun _ h => .inr (.inr h))
  exact hD ▸ hlines

theorem State.linesOff_frame (mask : Nat) : Only rmRegs { s with drvs := (s.linesOff mask).drvs } (s.linesOff mask) :=
  Only.lines s (s.each_updDrv _ _) _

/-- The stop of Ringmaster after its lines. -/
def State.rmStopped (s : State) : State :=
  ({ s.outputsOff 0xFF with rmRun := false }.updRm fun r => { vbTicks := r.vbTicks, failed := r.failed, noImage := r.noImage }).rmFollow

theorem State.rmStops_eq : s.rmStops = (s.linesOff 0xFFFFFF).rmStopped := rfl

theorem State.rmStopped_frame : Only rmRegs { s with rm := s.rmStopped.rm, rmRun := false } s.rmStopped :=
  ((Only.setFld { s with rm := s.rmStopped.rm, rmRun := false } Reg.SAFE_SO _ _).mono fun _ h => .inr (.inl h)).trans
    ((Only.setFld _ Reg.SAFE_STAT _ _).mono fun _ h => .inr (.inr h))

theorem State.rmStops_rmRun : s.rmStops.rmRun = false := rfl

/-- What stops on top of a command that keeps to its frame. -/
theorem Only.rmStops {p : Nat → Prop} {s u : State} (h : Only p s u) :
    Only (fun a => p a ∨ rmRegs a) { s with rm := u.rmStops.rm, rmRun := false, drvs := u.rmStops.drvs } u.rmStops := by
  rw [State.rmStops_eq]
  have hlines := ((h.withDrvs (u.linesOff 0xFFFFFF).drvs).mono fun _ => .inl).trans
    ((u.linesOff_frame 0xFFFFFF).mono (q := fun a => p a ∨ rmRegs a) fun _ => .inr)
  have hstop := (u.linesOff 0xFFFFFF).rmStopped_frame.mono (q := fun a => p a ∨ rmRegs a) fun _ => .inr
  have hdrvs : (u.linesOff 0xFFFFFF).rmStopped.drvs = (u.linesOff 0xFFFFFF).drvs := by rw [(u.linesOff 0xFFFFFF).rmStopped_frame.2]; rfl
  rw [hdrvs]
  exact (hlines.withRm _ _).trans hstop

/-- Every line is off and every output de-energised. -/
theorem State.rmStops_off : s.rmStops.shows .lines ∧ s.rmStops.shows .outputs := by
  have hlines : ((s.linesOff 0xFFFFFF).outputsOff 0xFF).shows .lines := (State.reacts_outputsOff _ _).keeps .lines (s.linesOff_all)
  have houtputs := (s.linesOff 0xFFFFFF).outputsOff_all
  rw [State.rmStops_eq, State.rmStopped]
  exact ⟨(Reacts.of_outer (State.outer_rmFollow _)).keeps .lines hlines, (Reacts.of_outer (State.outer_rmFollow _)).keeps .outputs houtputs⟩

theorem Only.refl (p : Nat → Prop) : Only p s s := ⟨fun _ _ _ => rfl, rfl⟩

theorem State.rmStops_frame :
    Only rmRegs { s with rm := s.rmStops.rm, rmRun := false, drvs := s.rmStops.drvs } s.rmStops :=
  ((Only.refl s fun _ => False).rmStops).mono fun _ h => h.resolve_left id

theorem State.rmStops_power : s.rmStops.power = s.power := by rw [s.rmStops_frame.2]; rfl

theorem State.rmStops_reg {a : Nat} (h : ¬rmRegs a) (ha : a < 0x60000) : s.rmStops.reg a = s.reg a := s.rmStops_frame.1 a (deliveryReg_low ha) h

theorem State.rmStops_isOut {b : Nat} (h : s.isOut b) : s.rmStops.isOut b := by
  obtain ⟨hout, hcond⟩ := h
  refine ⟨by rw [s.rmStops_power]; exact hout, (State.bit_congr (s.rmStops_reg ?_ (by decide)) _).trans hcond⟩
  simp only [rmRegs, Reg.GLB_GUARD, Reg.SAFE_LINES, Reg.SAFE_SO, Reg.SAFE_STAT]; omega

end stops

/-! ### Ringmaster starts -/

section starts
variable (s : State)

/-- The SAFE block. -/
def safeBlock (a : Nat) : Prop := 0x48000 ≤ a ∧ a < 0x50000

theorem State.rmStarts_reg (a : Nat) : s.rmStarts.reg a = if Nat.blt a 0x48000 || Nat.ble 0x50000 a then s.reg a else Reg.resetOf s.variant a :=
  Cells.get_filter_key _ (fun x => Nat.blt x 0x48000 || Nat.ble 0x50000 x) (fun _ => rfl) s.regs a

theorem State.rmStarts_safe {a : Nat} (h : safeBlock a) : s.rmStarts.reg a = Reg.resetOf s.variant a := by
  obtain ⟨hlo, hhi⟩ := h
  rw [State.rmStarts_reg, if_neg (by simp only [Bool.or_eq_true, Nat.blt_eq, Nat.ble_eq]; omega)]

theorem State.rmStarts_frame : Only safeBlock { s with power := s.rmStarts.power, rm := s.rmStarts.rm, rmRun := s.rmStarts.rmRun } s.rmStarts := by
  refine ⟨fun a _ ha => ?_, rfl⟩
  rw [State.rmStarts_reg, if_pos (by simp only [safeBlock] at ha; simp only [Bool.or_eq_true, Nat.blt_eq, Nat.ble_eq]; omega)]
  rfl

/-- Ringmaster signals ready or failed. -/
def State.rmSignals (s : State) (selfTest : Bool) : State :=
  { s with rmRun := selfTest }.updRm fun r => { r with ready := true, failed := !selfTest, aliveAt := s.now }

theorem State.rmUp_eq (selfTest : Bool) : s.rmUp selfTest =
    let u := (s.rmSignals selfTest).rmLoads.showCores
    let u := if selfTest && !u.power.vso then u.packageSafe 0x0E (2 ^ 20) else u
    if selfTest && u.cdRun && u.dev != stBOOT && !u.store.pars.isEmpty then (u.loadPars u.store.pars).rmFollow else u.rmFollow := rfl

theorem State.rmSignals_reacts (selfTest : Bool) : Reacts (s.rmSignals selfTest) (s.rmUp selfTest) := by
  rw [State.rmUp_eq]
  have hvso (u : State) : Reacts u (if selfTest && !u.power.vso then u.packageSafe 0x0E (2 ^ 20) else u) := .ite (u.reacts_packageSafe _ _) (.refl u)
  have hpars (u : State) : Reacts u (if selfTest && u.cdRun && u.dev != stBOOT && !u.store.pars.isEmpty then (u.loadPars u.store.pars).rmFollow
      else u.rmFollow) := .ite ((u.reacts_loadPars _).outer_right (State.outer_rmFollow _)) (.of_outer u.outer_rmFollow)
  exact (Reacts.of_outer ((State.outer_showCores _).trans (State.outer_rmLoads _))).trans ((hvso _).trans (hpars _))

/-! The boot of its image -/

/-- The state with other registers, another Ringmaster and other supplies. -/
def State.restarted (s : State) (c : Cells Word) (b : Bool) (r : Rm) (p : Power) : State := { s with regs := c, rmRun := b, rm := r, power := p }

/-- A trial mark removed. -/
def State.unmark (s u : State) (k : Nat) (b : Bool) : State := if s.lostTrial k b then u.updImage k b fun c => { c with trial := false } else u

/-- The verdict on a copy. -/
def copyVerdict (v : Verdicts) (b : Bool) : Bool := if b then v.b else v.a

/-- The choice of the copy to boot. -/
def State.bootFrom (s : State) (k : Nat) (v : Verdicts) (removed : Bool) : State × Option (Bool × Bool) :=
  let due := s.dueCopy k
  let start (s : State) (b : Bool) : State := s.updImage k b fun c => { c with ran := true }
  if s.imgOk k due (copyVerdict v due) then (start s due, some (due, removed))
  else
    let s := s.updImage k due fun c => { c with trial := false }
    if s.imgOk k (!due) (copyVerdict v (!due)) then (start s (!due), some (!due, true)) else (s, none)

theorem State.bootKind_eq (v : Verdicts) :
    s.bootKind 0 v = (s.unmark (s.unmark s 0 false) 0 true).bootFrom 0 v (s.lostTrial 0 false || s.lostTrial 0 true || false) := rfl

section restarted
variable (c : Cells Word) (b : Bool) (r : Rm) (p : Power)

theorem State.unmark_restarted (u : State) (k : Nat) (x : Bool) :
    (s.restarted c b r p).unmark (u.restarted c b r p) k x = (s.unmark u k x).restarted c b r p := by
  unfold State.unmark
  rw [apply_ite fun z : State => z.restarted c b r p]
  rfl

theorem State.bootFrom_restarted (k : Nat) (v : Verdicts) (removed : Bool) :
    ((s.restarted c b r p).bootFrom k v removed).2 = (s.bootFrom k v removed).2 := by
  unfold State.bootFrom
  dsimp only
  rw [apply_ite Prod.snd, apply_ite Prod.snd, apply_ite Prod.snd, apply_ite Prod.snd]
  rfl

/-- The boot of Ringmaster does not depend on its state. -/
theorem State.bootKind_restarted (v : Verdicts) : ((s.restarted c b r p).bootKind 0 v).2 = (s.bootKind 0 v).2 := by
  rw [State.bootKind_eq, State.bootKind_eq, State.unmark_restarted, State.unmark_restarted, State.bootFrom_restarted]
  rfl

end restarted

/-- From `s` to `u` the store alone changes. -/
def State.storeOnly (s u : State) : Prop := u = { s with store := u.store }

theorem State.storeOnly_updImage {s u : State} (h : s.storeOnly u) (k : Nat) (b : Bool) (f : ImgCopy → ImgCopy) : s.storeOnly (u.updImage k b f) := by
  unfold State.storeOnly at h ⊢
  exact congrArg (fun x : State => { x with store := (u.updImage k b f).store }) h

theorem State.storeOnly_unmark {s u : State} (x : State) (h : s.storeOnly u) (k : Nat) (b : Bool) : s.storeOnly (x.unmark u k b) := by
  unfold State.unmark
  split
  · exact State.storeOnly_updImage h _ _ _
  · exact h

/-- The boot of Ringmaster changes the store alone. -/
theorem State.storeOnly_bootKind (v : Verdicts) : s.storeOnly (s.bootKind 0 v).1 := by
  rw [State.bootKind_eq]
  have hu : s.storeOnly (s.unmark (s.unmark s 0 false) 0 true) := State.storeOnly_unmark s (State.storeOnly_unmark s (u := s) (Eq.refl s) 0 false) 0 true
  unfold State.bootFrom
  dsimp only
  split
  · dsimp only
    exact State.storeOnly_updImage hu 0 _ _
  · split
    · dsimp only
      exact State.storeOnly_updImage (State.storeOnly_updImage hu 0 _ _) 0 _ _
    · dsimp only
      exact State.storeOnly_updImage hu 0 _ _

end starts
end Sys2Proof.Machine
end

section
/-!
SUPPORT. Settles O22: the boot of Ringmaster's image (R68–R71), the loss of VAUX_A (R54, R55) and what a crossed threshold brings (R51–R58).
-/

namespace Sys2Proof.Machine

/-! ### Ringmaster's image -/

section boots
variable (s : State) {v : Verdicts} {selfTest b fell : Bool}

theorem State.storeOnly_rest {s u : State} (h : s.storeOnly u) : u.power = s.power ∧ u.rmRun = s.rmRun := by
  unfold State.storeOnly at h
  rw [h]
  exact ⟨rfl, rfl⟩

/-- The image noted that Ringmaster has booted. -/
def State.noteImage (s : State) (b fell : Bool) : State :=
  ((s.setBit Reg.GLB_BOOTSTAT Fld.GLB_BOOTSTAT_RM_IMG b).setBit Reg.GLB_BOOTSTAT Fld.GLB_BOOTSTAT_FALLBACK fell).updRm fun r => { r with noImage := none }

/-- No image of Ringmaster boots. -/
def State.noteImageless (s : State) (why : Nat) : State := (s.updRm fun r => { r with ready := true, noImage := some why }).rmFollow

theorem State.rmBoots_fun : @State.rmBoots = fun s v selfTest =>
    match (s.bootKind 0 v).2 with
    | some (b, fell) => ((s.bootKind 0 v).1.noteImage b fell).rmUp selfTest
    | none => (s.bootKind 0 v).1.noteImageless ((s.bootKind 0 v).1.noBootCause 0 v) := rfl

theorem State.rmBoots_some (h : (s.bootKind 0 v).2 = some (b, fell)) : s.rmBoots v selfTest = ((s.bootKind 0 v).1.noteImage b fell).rmUp selfTest := by
  rw [State.rmBoots_fun]
  dsimp only
  rw [h]

theorem State.rmBoots_none (h : (s.bootKind 0 v).2 = none) :
    s.rmBoots v selfTest = (s.bootKind 0 v).1.noteImageless ((s.bootKind 0 v).1.noBootCause 0 v) := by
  rw [State.rmBoots_fun]
  dsimp only
  rw [h]

theorem State.bit_updRm (f : Rm → Rm) (a : Nat) (g : Field) : (s.updRm f).bit a g = s.bit a g := rfl

theorem State.noteImage_bit (b fell : Bool) : (s.noteImage b fell).bit Reg.GLB_BOOTSTAT Fld.GLB_BOOTSTAT_RM_IMG = b := by
  rw [State.noteImage, State.bit_updRm, State.bit_setBit_beside _ _ Fld.GLB_BOOTSTAT_FALLBACK _ _ (by decide) (by decide),
    State.bit_setBit_same _ _ _ _ (by decide) rfl]

/-- Ringmaster up with an image noted. -/
theorem State.rmUp_shown (b fell selfTest : Bool) : let t := (s.noteImage b fell).rmUp selfTest
    t.power = s.power ∧ t.rm.ready = true ∧ t.rmRun = selfTest ∧ t.rm.failed = !selfTest ∧ t.bit Reg.GLB_BOOTSTAT Fld.GLB_BOOTSTAT_RM_IMG = b := by
  have hreacts := (s.noteImage b fell).rmSignals_reacts selfTest
  obtain ⟨hready, hfailed, -, -⟩ := hreacts.rm
  exact ⟨hreacts.power, hready, hreacts.rmRun, hfailed, (State.bit_congr (hreacts.reg _ (.inl rfl)) _).trans (s.noteImage_bit b fell)⟩

/-- Ringmaster up from a copy. -/
theorem State.rmBoots_up (h : (s.bootKind 0 v).2 = some (b, fell)) : let t := s.rmBoots v selfTest
    t.power = s.power ∧ t.rm.ready = true ∧ t.rmRun = selfTest ∧ t.rm.failed = !selfTest ∧ t.bit Reg.GLB_BOOTSTAT Fld.GLB_BOOTSTAT_RM_IMG = b := by
  obtain ⟨hpower, hrest⟩ := (s.bootKind 0 v).1.rmUp_shown b fell selfTest
  rw [s.rmBoots_some h]
  exact ⟨hpower.trans (State.storeOnly_rest (s.storeOnly_bootKind v)).1, hrest⟩

theorem State.noteImageless_frame {s u : State} (h : s.storeOnly u) (why : Nat) : Only (fun a => a = Reg.SAFE_STAT)
    { s with store := (u.noteImageless why).store, rm := (u.noteImageless why).rm } (u.noteImageless why) := by
  have hbase : (u.updRm fun r => { r with ready := true, noImage := some why }) =
      { s with store := (u.noteImageless why).store, rm := (u.noteImageless why).rm } :=
    congrArg (fun x : State => { x with rm := (u.noteImageless why).rm }) h
  rw [← hbase]
  exact Only.setFld _ _ _ _

/-- Ringmaster without an image. -/
theorem State.rmBoots_imageless (h : (s.bootKind 0 v).2 = none) : let t := s.rmBoots v selfTest
    t.power = s.power ∧ t.rm.ready = true ∧ t.rm.noImage.isSome = true ∧ t.rmRun = s.rmRun ∧
      Only (fun a => a = Reg.SAFE_STAT) { s with store := t.store, rm := t.rm } t := by
  have hstore := s.storeOnly_bootKind v
  rw [s.rmBoots_none h]
  generalize (s.bootKind 0 v).1 = u at hstore ⊢
  exact ⟨(State.storeOnly_rest hstore).1, rfl, rfl, (State.storeOnly_rest hstore).2, State.noteImageless_frame hstore _⟩

end boots

/-! ### The loss of VAUX_A -/

section loss
variable (s : State) (pack : Bool)

/-- The sequence begins, with the pack or without. -/
def State.lossBegins (s : State) (pack : Bool) : State := s.updPower fun p => { p with lossAt := some s.now, onPack := pack }

/-- A freeze and a COPY end. -/
def State.recorderEnds (s : State) : State :=
  let s := if s.bit Reg.REC_STAT Fld.REC_STAT_FROZEN then s.endFreeze false else s
  { s with recst := { s.recst with copying := none } }

/-- The sequence after the package safe state. -/
def State.lossWrites (s : State) (pack : Bool) : State :=
  let s := if pack then s.record Reg.PWR_FLAGS 1 (1 :: s.noticesHeld) else s
  let s := s.ledgerLoss pack
  let s := { s.endSession with auths := {} }
  if pack then (s.setBit Reg.PWR_SUPSTAT Fld.PWR_SUPSTAT_ON_HOLDUP true).setHstate 7 else s

theorem State.vauxALost_fun : @State.vauxALost = fun s =>
    if s.vauxAUnder.power.lossAt.isSome then s.vauxAUnder
    else ((((s.vauxAUnder.lossBegins (!s.vauxAUnder.bit Reg.GLB_GUARD ⟨2, 1⟩)).recorderEnds.packageSafe 0x16 dmCD).causeGone dmCD).lossWrites
      (!s.vauxAUnder.bit Reg.GLB_GUARD ⟨2, 1⟩)) := rfl

theorem State.recorderEnds_reacts : Reacts s s.recorderEnds := by
  unfold State.recorderEnds
  exact .trans (.ite (.of_outer (s.outer_endFreeze false)) (.refl s)) (.of_outer (State.outer_recst _ _))

theorem State.lossWrites_follows : Follows s (s.lossWrites pack) := by
  have hhold (u : State) : Follows u ((u.setBit Reg.PWR_SUPSTAT Fld.PWR_SUPSTAT_ON_HOLDUP true).setHstate 7) :=
    (Follows.setSupstat u _ _).trans (Reacts.of_outer (State.outer_setHstate _ 7)).follows
  have hend (u : State) : Follows u (if pack then (u.setBit Reg.PWR_SUPSTAT Fld.PWR_SUPSTAT_ON_HOLDUP true).setHstate 7 else u) := by
    split
    · exact hhold u
    · exact (Reacts.refl u).follows
  have hrec : Reacts s (if pack then s.record Reg.PWR_FLAGS 1 (1 :: s.noticesHeld) else s) := .ite (.of_outer (s.outer_record _ _ _)) (.refl s)
  unfold State.lossWrites
  exact (((hrec.outer_right (State.outer_ledgerLoss _ _)).trans (State.reacts_endSession _)).outer_right (State.outer_auths _ _)).follows.trans (hend _)

/-- The undervoltage as reported. -/
theorem State.vauxAUnder_eq : s.vauxAUnder = (State.supplyFlag { s with power := { s.power with vauxA := false } } 0 0).setOut 0 true := rfl

theorem State.vauxAUnder_isOut : s.vauxAUnder.isOut 0 := State.setOut_isOut _ 0

theorem State.vauxAUnder_power : s.vauxAUnder.power = { s.power with vauxA := false, out := putBit s.power.out 0 true } := by
  rw [State.vauxAUnder_eq, State.setOut_power, State.outPower, State.supplyFlag_power]

theorem State.vauxAUnder_flag : s.vauxAUnder.flag .pwr 0 = true := by
  rw [State.vauxAUnder_eq, State.flag_congr (src := .pwr) (State.setOut_reg _ _ _ (by decide) (by decide))]
  exact State.supplyFlag_flag _ _ (by decide)

theorem State.vauxAUnder_cdRun : s.vauxAUnder.cdRun = s.cdRun := by
  rw [State.vauxAUnder_eq, State.setOut_cdRun, (State.supplyFlag_frame _ 0 0).2]; rfl

/-- HOLDUP_LOW is as before. -/
theorem State.vauxAUnder_holdup : s.vauxAUnder.bit Reg.GLB_GUARD ⟨2, 1⟩ = s.bit Reg.GLB_GUARD Fld.GLB_GUARD_HOLDUP_LOW := by
  rw [State.vauxAUnder_eq, State.setOut_eq, State.setCond_other _ _ (by decide) (by decide) (by decide)]
  refine State.bit_congr ((State.supplyFlag_frame { s with power := { s.power with vauxA := false } } 0 0).1 _ (deliveryReg_low (by decide)) ?_) _
  rintro (h | h)
  · exact absurd h (by decide)
  · exact absurd h (by decide)

/-- The sequence follows its beginning. -/
theorem State.vauxALost_follows (h : s.power.lossAt = none) : let u := s.vauxAUnder.lossBegins (!s.bit Reg.GLB_GUARD Fld.GLB_GUARD_HOLDUP_LOW)
    Follows u s.vauxALost ∧ (s.cdRun = true → s.vauxALost.halted) := by
  intro u
  have hnone : s.vauxAUnder.power.lossAt.isSome = false := by rw [State.vauxAUnder_power, h]; rfl
  have heq : s.vauxALost = ((u.recorderEnds.packageSafe 0x16 dmCD).causeGone dmCD).lossWrites (!s.bit Reg.GLB_GUARD Fld.GLB_GUARD_HOLDUP_LOW) := by
    rw [State.vauxALost_fun]
    dsimp only
    rw [hnone, State.vauxAUnder_holdup]
    rfl
  have hafter : Follows (u.recorderEnds.packageSafe 0x16 dmCD) s.vauxALost := by
    rw [heq]; exact (State.reacts_causeGone _ _).follows.trans (State.lossWrites_follows _ _)
  refine ⟨((u.recorderEnds_reacts.trans (State.reacts_packageSafe _ _ _)).follows).trans hafter, fun hrun => hafter.keeps .halted ?_⟩
  exact State.packageSafe_halted _ _ _ (u.recorderEnds_reacts.cdRun.trans (s.vauxAUnder_cdRun.trans hrun))

theorem State.vauxALost_isOut : s.vauxALost.isOut 0 := by
  by_cases h : s.power.lossAt = none
  · exact (s.vauxALost_follows h).1.isOut s.vauxAUnder_isOut
  · have hsome : s.vauxAUnder.power.lossAt.isSome = true := by rw [State.vauxAUnder_power]; exact Option.isSome_iff_ne_none.2 h
    rw [State.vauxALost_fun]
    dsimp only
    rw [if_pos hsome]
    exact s.vauxAUnder_isOut

end loss
end Sys2Proof.Machine
end

section
/-!
SUPPORT. Settles O22: the commands that report a supply, a bank or a rail, and what each leaves (R34, R50–R59).
-/

namespace Sys2Proof.Machine

/-! ### A supply or rail noted -/

/-- A supply or rail noted, with the condition of R34 while the control die runs. -/
def State.outNoted (s : State) (b : Nat) (on : Bool) : State := if s.cdRun then s.setOut b on else s.supplyLevel b on id

section noted
variable (s : State) (b : Nat) (on : Bool)

theorem State.outNoted_run (h : s.cdRun = true) : s.outNoted b on = s.setOut b on := if_pos h

theorem State.outNoted_frame : Only (fun a => FlagSrc.guard.owns 8 a) { s with power := s.outPower b on } (s.outNoted b on) := by
  unfold State.outNoted
  split
  · exact s.setOut_frame b on
  · exact Only.refl { s with power := s.outPower b on } _

theorem State.outNoted_power : (s.outNoted b on).power = s.outPower b on := by rw [(s.outNoted_frame b on).2]; rfl

theorem State.outNoted_isOut (h : s.cdRun = true) : (s.outNoted b true).isOut b := by
  rw [s.outNoted_run b true h]
  exact s.setOut_isOut b

end noted

/-! ### Ringmaster stopped -/

/-- What a command that stops Ringmaster leaves. -/
theorem rmStops_shown {p : Nat → Prop} {s u : State} (h : Only p { s with power := u.power } u) : let t := u.rmStops.settle
    t.power = u.power ∧ t.rmRun = false ∧ t.reg Reg.SAFE_LINES = 0 ∧ t.fld Reg.SAFE_SO Fld.SAFE_SO_ON = 0 ∧ Only (fun a => p a ∨ rmRegs a)
      { s with power := t.power, rm := t.rm, rmRun := t.rmRun, drvs := t.drvs } t := by
  obtain ⟨hlines, houtputs⟩ := u.rmStops_off
  dsimp only
  rw [State.settle_power, State.settle_rm, State.settle_rmRun, State.settle_drvs, State.rmStops_power, State.rmStops_rmRun]
  exact ⟨rfl, rfl, State.settle_shows _ .lines hlines, State.settle_shows _ .outputs houtputs, h.rmStops.settle⟩

/-! ### VAUX_B (R56) -/

section vauxB
variable (s : State)

/-- VAUX_B below its threshold, as the supervision shows it. -/
def State.vauxBUnder (s : State) : State :=
  let s := s.updPower fun p => { p with vauxB := false }
  if s.cdRun then (s.supplyFlag 1 2).setOut 1 true else s

theorem State.vauxBLost_eq : s.vauxBLost = if !s.power.vauxB then s else s.vauxBUnder.rmStops := rfl

theorem State.vauxBUnder_frame : Only (fun a => (a = Reg.PWR_SUPSTAT ∨ FlagSrc.pwr.owns 2 a) ∨ FlagSrc.guard.owns 8 a) { s with power := s.vauxBUnder.power }
    s.vauxBUnder := by
  by_cases h : s.cdRun = true
  · have hu : s.vauxBUnder = ((s.updPower fun p => { p with vauxB := false }).supplyFlag 1 2).setOut 1 true := if_pos h
    rw [hu]
    exact (State.supplyFlag_frame (s.updPower fun p => { p with vauxB := false }) 1 2).setOut 1 true
  · have hu : s.vauxBUnder = s.updPower fun p => { p with vauxB := false } := if_neg h
    rw [hu]
    exact Only.refl _ _

theorem State.vauxBUnder_run (h : s.cdRun = true) : s.vauxBUnder.isOut 1 ∧ s.vauxBUnder.flag .pwr 2 = true := by
  have hu : s.vauxBUnder = ((s.updPower fun p => { p with vauxB := false }).supplyFlag 1 2).setOut 1 true := if_pos h
  rw [hu]
  refine ⟨State.setOut_isOut _ _, ?_⟩
  rw [State.flag_congr (src := .pwr) (State.setOut_reg _ _ _ (by decide) (by decide))]
  exact State.supplyFlag_flag _ _ (by decide)

theorem State.vauxBUnder_power : s.vauxBUnder.power.vauxB = false := by
  unfold State.vauxBUnder
  dsimp only
  split
  · rw [State.setOut_power, State.outPower, State.supplyFlag_power]; rfl
  · rfl

end vauxB

/-! ### I/O banks (R52) -/

section banks
variable (s : State) (x : Fin 6)

/-- What a bank's units and the host link do once it has left its window. -/
theorem State.vioLeave_reacts : Reacts (s.supplyFlag (3 + x.val) (6 + x.val)) (s.vioLeave x.val) := by
  have hlink (u : State) : Reacts u (if x.val = 0 && u.bit Reg.HIF_STAT Fld.HIF_STAT_LINKUP then u.linkLost else u) := .ite u.reacts_linkLost (.refl u)
  exact (hlink _).outer_right (State.outer_unitsFollow _)

/-- Only the units of the banks follow. -/
theorem State.unitsFollow_frame : Only (fun a => (0x38000 ≤ a ∧ a < 0x40000) ∨ 0x58000 ≤ a)
    { s with svrs := s.unitsFollow.svrs, auxs := s.unitsFollow.auxs, cans := s.unitsFollow.cans } s.unitsFollow := by
  have hcore := s.core_unitsFollow
  generalize s.unitsFollow = t at hcore ⊢
  constructor
  · intro a _ ha
    have hp : periph a = false := by
      rw [Bool.eq_false_iff, ne_eq]
      simp only [periph, Bool.or_eq_true, Bool.and_eq_true, Nat.ble_eq, Nat.blt_eq]
      omega
    have hreg := congrFun (congrArg Prod.snd hcore) a
    have heq : t.reg a = s.reg a := by simpa [State.core, hp] using hreg
    exact heq
  · exact congrArg (fun c : State × (Nat → Word) =>
      { c.1 with regs := t.regs, hostMem := t.hostMem, events := t.events, recQueue := t.recQueue, mbx := t.mbx, devQueue := t.devQueue,
                 msi := t.msi, rings := t.rings, profs := t.profs, recst := t.recst, trips := t.trips, svrs := t.svrs, auxs := t.auxs,
                 cans := t.cans }) hcore

theorem State.vioEntered_frame : let u := s.setFld Reg.PWR_SUPSTAT ⟨3 + x.val, 1⟩ 1
    Only (fun a => a = Reg.PWR_SUPSTAT ∨ (0x38000 ≤ a ∧ a < 0x40000) ∨ 0x58000 ≤ a)
      { s with svrs := u.unitsFollow.svrs, auxs := u.unitsFollow.auxs, cans := u.unitsFollow.cans } u.unitsFollow := by
  intro u
  have hset := Only.setFld { s with svrs := u.unitsFollow.svrs, auxs := u.unitsFollow.auxs, cans := u.unitsFollow.cans } Reg.PWR_SUPSTAT
    ⟨3 + x.val, 1⟩ 1
  exact (hset.mono fun _ => .inl).trans (u.unitsFollow_frame.mono fun _ => .inr)

end banks

/-! ### Excursions (R34, R50, R51) -/

section excursion
variable (s : State) (sup : Supply) (above beyond : Bool)

/-- An excursion noted, and in the safety log where the reading is above its absolute maximum. -/
def State.excursionNoted (s : State) (sup : Supply) (beyond : Bool) : State :=
  (if beyond && s.supervised sup then s.logSafety 0x50 (supplyBit sup) 0 else s).outNoted (supplyBit sup) true

/-- What a crossed threshold brings. -/
def State.crossing (s : State) (sup : Supply) (above : Bool) : State :=
  match sup with
  | .vauxA =>
    if !s.cdRun then s.updPower fun p => { p with vauxA := p.vauxA && above }
    else if above then s.supplyFlag 0 1
    else if s.power.vauxA then s.vauxALost else s
  | .vauxB => if !above then s.vauxBLost else if s.cdRun then s.supplyFlag 1 3 else s
  | .vso =>
    let s := s.updPower fun p => { p with vso := false }
    if s.rmRun then s.vsoOut above else s
  | .vio x => if s.cdRun && s.vioOk x.val then s.vioLeave x.val else s

theorem exec_supplyExcursion (crossed : Bool) : exec (.supplyExcursion sup above crossed beyond) s =
    onlyIf true s fun s => if !crossed then s.excursionNoted sup beyond else (s.excursionNoted sup beyond).crossing sup above := rfl

/-- The safety log after an excursion. -/
def State.excursionLog (s : State) (sup : Supply) (beyond : Bool) : List SafetyEntry :=
  if beyond && s.supervised sup then s.safetyLog ++ [⟨0x50, supplyBit sup, 0⟩] else s.safetyLog

theorem State.excursionNoted_eq : s.excursionNoted sup beyond =
    State.outNoted { s with safetyLog := s.excursionLog sup beyond } (supplyBit sup) true := by
  unfold State.excursionNoted State.excursionLog
  split <;> rfl

theorem State.excursionNoted_frame : Only (fun a => FlagSrc.guard.owns 8 a)
    { s with power := s.outPower (supplyBit sup) true, safetyLog := s.excursionLog sup beyond } (s.excursionNoted sup beyond) := by
  rw [State.excursionNoted_eq]
  exact State.outNoted_frame { s with safetyLog := s.excursionLog sup beyond } (supplyBit sup) true

theorem State.excursionNoted_isOut (h : s.cdRun = true) : (s.excursionNoted sup beyond).isOut (supplyBit sup) := by
  rw [State.excursionNoted_eq]
  exact State.outNoted_isOut { s with safetyLog := s.excursionLog sup beyond } _ h

/-! No reaction hides that the supply is outside its window. -/

theorem State.vsoOut_run (h : s.cdRun = true) :
    s.vsoOut above = ((s.supplyFlag 2 (if above then 5 else 4)).setOut 2 true).packageSafe 0x0E (2 ^ 20) := by
  unfold State.vsoOut; rw [if_pos h]; rfl

theorem State.vsoOut_isOut (h : s.cdRun = true) : (s.vsoOut above).isOut 2 := by
  rw [s.vsoOut_run above h]
  exact (State.reacts_packageSafe _ _ _).follows.isOut (State.setOut_isOut _ _)

theorem State.vauxBLost_isOut (hrun : s.cdRun = true) (h : s.isOut 1) : s.vauxBLost.isOut 1 := by
  rw [State.vauxBLost_eq]
  split
  · exact h
  · exact State.rmStops_isOut _ (s.vauxBUnder_run hrun).1

theorem State.crossing_isOut (hrun : s.cdRun = true) (h : s.isOut (supplyBit sup)) : (s.crossing sup above).isOut (supplyBit sup) := by
  cases sup with
  | vauxA =>
    simp only [State.crossing, hrun, Bool.not_true, Bool.false_eq_true, if_false]
    split
    · exact State.supplyFlag_isOut _ _ (by decide) h
    · split
      · exact s.vauxALost_isOut
      · exact h
  | vauxB =>
    simp only [State.crossing, hrun, if_true]
    split
    · exact s.vauxBLost_isOut hrun h
    · exact State.supplyFlag_isOut _ _ (by decide) h
  | vso =>
    simp only [State.crossing]
    split
    · exact State.vsoOut_isOut _ _ hrun
    · exact h
  | vio x =>
    simp only [State.crossing]
    split
    · exact (s.vioLeave_reacts x).follows.isOut (State.supplyFlag_isOut _ _ (by omega) h)
    · exact h

end excursion
end Sys2Proof.Machine
end

section
/-!
SUPPORT. Settles O22: returns, rail faults, power-downs (R53–R59), and the statement from its parts.
-/

namespace Sys2Proof.Machine

/-! ### Reports without a reaction (R51) -/

section report
variable (s : State) (b : Nat) {flag : Nat}

/-- A supply noted, shown as absent and flagged. -/
theorem reported_shown (hb : b < 32) (hf : flag < 16) : let t := ((s.setOut b true).supplyFlag b flag).settle
    t.flag .pwr flag = true ∧ t.bit Reg.PWR_SUPSTAT ⟨b, 1⟩ = false ∧
      Only (fun a => a = Reg.PWR_SUPSTAT ∨ FlagSrc.pwr.owns flag a ∨ FlagSrc.guard.owns 8 a) { s with power := t.power } t := by
  have hframe : Only (fun a => a = Reg.PWR_SUPSTAT ∨ FlagSrc.pwr.owns flag a ∨ FlagSrc.guard.owns 8 a) { s with power := s.outPower b true }
      ((s.setOut b true).supplyFlag b flag) :=
    ((s.setOut_frame b true).mono fun _ h => .inr (.inr h)).trans ((State.supplyFlag_frame _ b flag).mono fun _ h => h.imp_right .inl)
  have hpower : ((s.setOut b true).supplyFlag b flag).power = s.outPower b true := by rw [State.supplyFlag_power, State.setOut_power]
  dsimp only
  rw [State.settle_power, hpower]
  refine ⟨(State.settle_follows _).flag (State.supplyFlag_flag _ _ hf), ?_, hframe.settle⟩
  rw [State.settle_bit_low _ _ (by decide)]
  exact State.supplyFlag_bit _ _ hb hf

end report

/-! ### Returns (R34, R56, R57) -/

section back
variable (s : State)

/-- A supply shown in PWR_SUPSTAT while the control die runs. -/
def State.lamp (s : State) (b : Nat) (on : Bool) : State := if s.cdRun then s.setFld Reg.PWR_SUPSTAT ⟨b, 1⟩ (b2n on) else s

/-- What the return of a supply shows. -/
def State.returned (s : State) : Supply → State
  | .vauxA => s.lamp 0 s.power.vauxA
  | .vauxB => s.lamp 1 s.power.vauxB
  | .vso => ((s.updPower fun p => { p with vso := true }).lamp 2 true).causeGone (2 ^ 20)
  | .vio _ => s

theorem exec_supplyReturn (sup : Supply) : exec (.supplyReturn (.supply sup)) s =
    onlyIf true s fun s => (s.outNoted (supplyBit sup) false).returned sup := rfl

theorem Only.withPowerRm {p : Nat → Prop} {s t : State} (h : Only p s t) (x : Power) (r : Rm) :
    Only p { s with power := x, rm := r } { t with power := x, rm := r } :=
  ⟨h.1, congrArg (fun u : State => { u with power := x, rm := r }) h.2⟩

theorem State.lamp_eq (b : Nat) (on : Bool) (h : s.cdRun = true) : s.lamp b on = s.setFld Reg.PWR_SUPSTAT ⟨b, 1⟩ (b2n on) := if_pos h

theorem State.returned_vso (h : s.cdRun = true) : s.returned .vso =
    ((s.updPower fun p => { p with vso := true }).setFld Reg.PWR_SUPSTAT ⟨2, 1⟩ 1).causeGone (2 ^ 20) :=
  congrArg (fun u : State => u.causeGone (2 ^ 20)) (State.lamp_eq (s.updPower fun p => { p with vso := true }) 2 true h)

/-- The return shows in PWR_SUPSTAT alone and leaves what is outside its window. -/
theorem State.returned_shown (sup : Supply) (h : s.cdRun = true) : let t := s.returned sup
    t.power.out = s.power.out ∧ t.reg Reg.GLB_GUARD = s.reg Reg.GLB_GUARD ∧ (sup = .vso → t.bit Reg.PWR_SUPSTAT Fld.PWR_SUPSTAT_VSO_OK = true) ∧
      Only (fun a => a = Reg.PWR_SUPSTAT) { s with power := t.power, rm := t.rm } t := by
  cases sup with
  | vauxA =>
    rw [State.returned, s.lamp_eq _ _ h]
    exact ⟨rfl, s.reg_setFld_other _ _ (by decide), nofun, Only.setFld _ _ _ _⟩
  | vauxB =>
    rw [State.returned, s.lamp_eq _ _ h]
    exact ⟨rfl, s.reg_setFld_other _ _ (by decide), nofun, Only.setFld _ _ _ _⟩
  | vso =>
    rw [s.returned_vso h]
    refine ⟨rfl, s.reg_setFld_other _ _ (by decide), fun _ => ?_, ?_⟩
    · rw [State.causeGone, State.bit_updRm]
      exact State.bit_setBit_same _ _ ⟨2, 1⟩ true (by decide) rfl
    · exact Only.setFld ({ s with power := { s.power with vso := true }, rm := _ } : State) Reg.PWR_SUPSTAT ⟨2, 1⟩ 1
  | vio x => exact ⟨rfl, rfl, nofun, Only.refl _ _⟩

theorem supplyReturn_shown (sup : Supply) (h : s.cdRun = true) : let t := ((s.outNoted (supplyBit sup) false).returned sup).settle
    bitOf t.power.out (supplyBit sup) = false ∧ t.bit Reg.GLB_GUARD Fld.GLB_GUARD_SUPPLY_OUT = (t.power.out != 0) ∧
      (sup = .vso → t.bit Reg.PWR_SUPSTAT Fld.PWR_SUPSTAT_VSO_OK = true) ∧
      Only (fun a => a = Reg.PWR_SUPSTAT ∨ FlagSrc.guard.owns 8 a) { s with power := t.power, rm := t.rm } t := by
  rw [s.outNoted_run _ _ h]
  obtain ⟨hout, hguard, hvso, hframe⟩ := (s.setOut (supplyBit sup) false).returned_shown sup ((s.setOut_cdRun _ _).trans h)
  dsimp only
  rw [State.settle_power, State.settle_rm, hout]
  refine ⟨?_, ?_, fun hs => ?_, ?_⟩
  · rw [State.setOut_power]; exact s.outPower_bit _ _
  · rw [State.settle_bit_low _ _ (by decide), State.bit_congr hguard]; exact s.setOut_shown _ _
  · rw [State.settle_bit_low _ _ (by decide)]; exact hvso hs
  · exact ((((s.setOut_frame (supplyBit sup) false).withPowerRm _ _).mono fun _ => .inr).trans (hframe.mono fun _ => .inl)).settle

/-- A driver die's rail is back. -/
theorem railReturn_shown (b : Nat) : let t := (s.setOut b false).settle
    bitOf t.power.out b = false ∧ t.bit Reg.GLB_GUARD Fld.GLB_GUARD_SUPPLY_OUT = (t.power.out != 0) ∧
      Only (fun a => FlagSrc.guard.owns 8 a) { s with power := t.power } t := by
  dsimp only
  rw [State.settle_power, State.settle_bit_low _ _ (by decide)]
  refine ⟨?_, s.setOut_shown b false, ?_⟩
  · rw [State.setOut_power]; exact s.outPower_bit _ _
  · rw [State.setOut_power]; exact (s.setOut_frame b false).settle

/-- Ringmaster's own rail is back. -/
def State.rmRailBack (s : State) : State :=
  let s := s.outNoted 37 false
  if s.power.vauxB && !s.rmRun && !s.rm.ready then s.rmStarts else s

theorem exec_rmRailReturn : exec (.supplyReturn (.rail .ringmaster)) s = onlyIf (s.cdRun || true) s State.rmRailBack := rfl

theorem rmRailReturn_shown (hvb : s.power.vauxB = true) (hrun : s.rmRun = false) (hready : s.rm.ready = false) : let t := s.rmRailBack.settle
    bitOf t.power.out 37 = false ∧ t.rm.relAt = some s.now ∧ t.power.vauxB = true := by
  have hframe := (s.outNoted_frame 37 false).2
  have hcond : ((s.outNoted 37 false).power.vauxB && !(s.outNoted 37 false).rmRun && !(s.outNoted 37 false).rm.ready) = true := by
    have hrest : (s.outNoted 37 false).rmRun = s.rmRun ∧ (s.outNoted 37 false).rm = s.rm := by rw [hframe]; exact ⟨rfl, rfl⟩
    rw [s.outNoted_power, hrest.1, hrest.2, hrun, hready, State.outPower, hvb]; rfl
  have hback : s.rmRailBack = (s.outNoted 37 false).rmStarts := if_pos hcond
  have hnow : (s.outNoted 37 false).now = s.now := by rw [hframe]; rfl
  dsimp only
  rw [State.settle_power, State.settle_rm, hback]
  refine ⟨?_, congrArg some hnow, rfl⟩
  have hout : (s.outNoted 37 false).rmStarts.power.out = (s.outNoted 37 false).power.out := rfl
  rw [hout, s.outNoted_power]
  exact s.outPower_bit _ _

end back
end Sys2Proof.Machine
end

section
/-!
SUPPORT. Settles O22: VAUX_A and VAUX_B rising, falling and returning, the power-downs, VSO and the rails (R53–R59), and the statement.
-/

namespace Sys2Proof.Machine

theorem steady_supstat : steady Reg.PWR_SUPSTAT := .inr (.inr (.inl (by decide)))

/-! ### VAUX_A (R53–R55) -/

section vauxA
variable (s : State)

/-- VAUX_A above its rising threshold. -/
def State.vauxARisen (s : State) : State :=
  let s := s.updPower fun p => { p with vauxA := true, seqErr := p.seqErr || !p.vauxB }
  if s.cdRun then s.setFld Reg.PWR_SUPSTAT ⟨0, 1⟩ 1 else s

theorem vauxARise_shown : let t := s.vauxARisen.settle
    t.power.vauxA = true ∧ t.power.seqErr = (s.power.seqErr || !s.power.vauxB) ∧
      (s.cdRun = true → t.bit Reg.PWR_SUPSTAT Fld.PWR_SUPSTAT_VAUXA_OK = true) ∧ Only (fun a => a = Reg.PWR_SUPSTAT) { s with power := t.power } t := by
  dsimp only
  rw [State.settle_power, State.settle_bit_low _ _ (by decide)]
  by_cases h : s.cdRun = true
  · have hrisen : s.vauxARisen = (s.updPower fun p => { p with vauxA := true, seqErr := p.seqErr || !p.vauxB }).setFld Reg.PWR_SUPSTAT ⟨0, 1⟩ 1 :=
      if_pos h
    rw [hrisen]
    exact ⟨rfl, rfl, fun _ => State.bit_setBit_same _ _ ⟨0, 1⟩ true (by decide) rfl, (Only.setFld _ _ _ _).settle⟩
  · have hrisen : s.vauxARisen = s.updPower fun p => { p with vauxA := true, seqErr := p.seqErr || !p.vauxB } := if_neg h
    rw [hrisen]
    exact ⟨rfl, rfl, fun hrun => absurd hrun h, (Only.refl _ _).settle⟩

/-- The loss of VAUX_A begins its sequence. -/
theorem vauxALoss_shown (hrun : s.cdRun = true) (h : s.power.lossAt = none) : let t := s.vauxALost.settle
    t.power.vauxA = false ∧ t.power.lossAt = some s.now ∧ t.power.onPack = (!s.bit Reg.GLB_GUARD Fld.GLB_GUARD_HOLDUP_LOW) ∧ t.flag .pwr 0 = true ∧
      t.halted := by
  obtain ⟨hfollows, hhalted⟩ := s.vauxALost_follows h
  have hall := hfollows.trans s.vauxALost.settle_follows
  have hpower := hall.power
  dsimp only
  have hnow : s.vauxAUnder.now = s.now := by
    rw [State.vauxAUnder_eq, (State.setOut_frame _ 0 true).2, (State.supplyFlag_frame _ 0 0).2]; rfl
  rw [hpower]
  refine ⟨?_, congrArg some hnow, rfl, hall.flag s.vauxAUnder_flag, State.settle_shows _ .halted (hhalted hrun)⟩
  have hunder : (s.vauxAUnder.lossBegins (!s.bit Reg.GLB_GUARD Fld.GLB_GUARD_HOLDUP_LOW)).power.vauxA = s.vauxAUnder.power.vauxA := rfl
  rw [hunder, State.vauxAUnder_power]

/-- The dies powered down. -/
theorem dieDown_shown (held : Bool) : let t := (s.dieDown held).settle
    t.cdRun = false ∧ t.recQueue = [] ∧ t.power.lossAt = none ∧ t.power.holdupRun = held := by
  have hsettle : (s.dieDown held).settle = { s.dieDown held with events := [] } := rfl
  rw [hsettle]
  exact ⟨rfl, rfl, rfl, rfl⟩

theorem exec_reservePowerDown {t : Nat} (h : s.power.lossAt = some t) : exec .reservePowerDown s =
    onlyIf (s.cdRun && !s.power.onPack && ((s.rgns.all fun g => (s.ldg g).held.isEmpty) || s.since t (ms 1))) s fun s => s.dieDown false := by
  have hexec : exec .reservePowerDown s = execReservePowerDown s := rfl
  rw [hexec, execReservePowerDown, h]

theorem exec_holdupSequenceEnd {t : Nat} (h : s.power.lossAt = some t) : exec .holdupSequenceEnd s =
    onlyIf (s.cdRun && s.power.onPack && (s.lossWritten || s.since t (ms 50))) s fun s => s.dieDown true := by
  have hexec : exec .holdupSequenceEnd s = execHoldupSequenceEnd s := rfl
  rw [hexec, execHoldupSequenceEnd, h]

end vauxA

/-! ### VAUX_B (R56, R68) -/

section vauxB
variable (s : State)

/-- VAUX_B above its threshold. -/
def State.vauxBRisen (s : State) : State :=
  let s := s.rmStarts
  if s.cdRun then s.setFld Reg.PWR_SUPSTAT ⟨1, 1⟩ 1 else s

theorem State.vauxBRisen_cases : s.vauxBRisen = s.rmStarts.setFld Reg.PWR_SUPSTAT ⟨1, 1⟩ 1 ∨ s.vauxBRisen = s.rmStarts := by
  unfold State.vauxBRisen
  dsimp only
  split
  · exact .inl rfl
  · exact .inr rfl

theorem vauxBRise_shown : let t := s.vauxBRisen.settle
    t.power.vauxB = true ∧ t.rmRun = false ∧ t.rm.ready = false ∧ t.rm.relAt = some s.now ∧
      (∀ a, 0x48000 ≤ a → a < 0x50000 → t.reg a = Reg.resetOf s.variant a) ∧
      Only (fun a => safeBlock a ∨ a = Reg.PWR_SUPSTAT) { s with power := t.power, rm := t.rm, rmRun := t.rmRun } t := by
  have hstarts : Only (fun a => safeBlock a ∨ a = Reg.PWR_SUPSTAT) { s with power := s.rmStarts.power, rm := s.rmStarts.rm, rmRun := s.rmStarts.rmRun }
      s.rmStarts := s.rmStarts_frame.mono fun _ => .inl
  dsimp only
  rw [State.settle_power, State.settle_rm, State.settle_rmRun]
  rcases s.vauxBRisen_cases with h | h <;> rw [h]
  · refine ⟨rfl, rfl, rfl, rfl, fun a hlo hhi => ?_, (hstarts.trans ((Only.setFld _ _ _ _).mono fun _ => .inr)).settle⟩
    rw [State.settle_reg_low _ (by omega), State.reg_setFld_other _ _ _ (by simp only [Reg.PWR_SUPSTAT]; omega)]
    exact s.rmStarts_safe ⟨hlo, hhi⟩
  · refine ⟨rfl, rfl, rfl, rfl, fun a hlo hhi => ?_, hstarts.settle⟩
    rw [State.settle_reg_low _ (by omega)]
    exact s.rmStarts_safe ⟨hlo, hhi⟩

/-- Ringmaster restarted while the control die runs. -/
def State.rmRestarted (s : State) : State := s.rmStarts.setFld Reg.PWR_SUPSTAT ⟨1, 1⟩ 1

theorem exec_vauxBReturn (v : Verdicts) (selfTest : Bool) : exec (.vauxBReturn v selfTest) s =
    onlyIf (s.cdRun && s.rmRail && !s.rmRun && !s.rm.ready) s fun s => s.rmRestarted.rmBoots v selfTest := rfl

theorem State.rmRestarted_eq : s.rmRestarted = s.restarted s.rmRestarted.regs s.rmRestarted.rmRun s.rmRestarted.rm s.rmRestarted.power := rfl

/-- The restart chooses the same copy. -/
theorem State.bootKind_rmRestarted (v : Verdicts) : (s.rmRestarted.bootKind 0 v).2 = (s.bootKind 0 v).2 := by
  rw [State.rmRestarted_eq]
  exact s.bootKind_restarted _ _ _ _ v

theorem settle_booted {u : State} {v : Verdicts} {selfTest b fell : Bool} (h : (u.bootKind 0 v).2 = some (b, fell)) : let t := (u.rmBoots v selfTest).settle
    t.power = u.power ∧ t.rm.ready = true ∧ t.rmRun = selfTest ∧ t.rm.failed = !selfTest ∧ t.bit Reg.GLB_BOOTSTAT Fld.GLB_BOOTSTAT_RM_IMG = b := by
  dsimp only
  rw [State.settle_power, State.settle_rm, State.settle_rmRun, State.settle_bit_low _ _ (by decide)]
  exact u.rmBoots_up h

theorem settle_imageless {u : State} {v : Verdicts} {selfTest : Bool} (h : (u.bootKind 0 v).2 = none) : let t := (u.rmBoots v selfTest).settle
    t.power = u.power ∧ t.rm.ready = true ∧ t.rm.noImage.isSome = true ∧ t.rmRun = u.rmRun ∧
      Only (fun a => a = Reg.SAFE_STAT) { u with store := t.store, rm := t.rm } t := by
  dsimp only
  obtain ⟨hpower, hready, himage, hrun, hframe⟩ := u.rmBoots_imageless (selfTest := selfTest) h
  rw [State.settle_power, State.settle_rm, State.settle_rmRun, State.settle_store]
  exact ⟨hpower, hready, himage, hrun, hframe.settle⟩

/-- VAUX_B lost. -/
theorem vauxBLoss_shown : let t := s.vauxBUnder.rmStops.settle
    t.power.vauxB = false ∧ t.rmRun = false ∧ t.reg Reg.SAFE_LINES = 0 ∧ t.fld Reg.SAFE_SO Fld.SAFE_SO_ON = 0 ∧
      (s.cdRun = true → t.flag .pwr 2 = true) ∧ Only (fun a => a = Reg.SAFE_LINES ∨ a = Reg.SAFE_SO ∨ a = Reg.SAFE_STAT ∨ a = Reg.PWR_SUPSTAT ∨
      FlagSrc.pwr.owns 2 a ∨ FlagSrc.guard.owns 8 a) { s with power := t.power, rm := t.rm, rmRun := t.rmRun, drvs := t.drvs } t := by
  obtain ⟨hpower, hrun, hlines, houtputs, hframe⟩ := rmStops_shown s.vauxBUnder_frame
  refine ⟨(congrArg Power.vauxB hpower).trans s.vauxBUnder_power, hrun, hlines, houtputs, fun h => ?_, hframe.mono fun a ha => ?_⟩
  · have hstop : s.vauxBUnder.rmStops.reg Reg.PWR_FLAGS = s.vauxBUnder.reg Reg.PWR_FLAGS :=
      State.rmStops_reg _ (by simp [rmRegs, Reg.PWR_FLAGS, Reg.SAFE_LINES, Reg.SAFE_SO, Reg.SAFE_STAT]) (by decide)
    exact (State.settle_follows _).flag ((State.flag_congr (src := .pwr) hstop 2).trans (s.vauxBUnder_run h).2)
  · simp only [rmRegs] at ha
    tauto

end vauxB

/-! ### I/O banks (R52) -/

section banks
variable (s : State) (x : Fin 6)

/-- A bank in its window. -/
theorem vioEnter_shown : let t := (s.setFld Reg.PWR_SUPSTAT ⟨3 + x.val, 1⟩ 1).unitsFollow.settle
    t.vioOk x.val = true ∧ Only (fun a => a = Reg.PWR_SUPSTAT ∨ (0x38000 ≤ a ∧ a < 0x40000) ∨ 0x58000 ≤ a)
      { s with svrs := t.svrs, auxs := t.auxs, cans := t.cans } t := by
  have hset : (s.setFld Reg.PWR_SUPSTAT ⟨3 + x.val, 1⟩ 1).vioOk x.val = true := s.bit_setBit_same _ ⟨3 + x.val, 1⟩ true (by simp only; omega) rfl
  have hreacts := (Reacts.of_outer (State.outer_unitsFollow (s.setFld Reg.PWR_SUPSTAT ⟨3 + x.val, 1⟩ 1))).trans (State.reacts_settle _)
  dsimp only
  rw [State.settle_svrs, State.settle_auxs, State.settle_cans]
  exact ⟨(State.bit_congr (hreacts.reg Reg.PWR_SUPSTAT steady_supstat) _).trans hset, (s.vioEntered_frame x).settle⟩

/-- A bank out of its window. -/
theorem vioLeave_shown : let t := (s.vioLeave x.val).settle
    t.vioOk x.val = false ∧ t.flag .pwr (6 + x.val) = true := by
  have hreacts := (s.vioLeave_reacts x).trans (State.reacts_settle _)
  refine ⟨(State.bit_congr (hreacts.reg Reg.PWR_SUPSTAT steady_supstat) _).trans (s.supplyFlag_bit _ (by omega) (by omega)), ?_⟩
  exact hreacts.follows.flag (s.supplyFlag_flag _ (by omega))

end banks

/-! ### VSO and the internal rails (R57, R59) -/

section rails
variable (s : State)

/-- VSO outside its window, as Ringmaster finds it. -/
def State.vsoLevel (s : State) : State := s.supplyLevel 2 true fun p => { p with vso := false }

theorem exec_vsoExcursion (above : Bool) : exec (.vsoExcursion above) s =
    onlyIf true s fun s => if s.vsoLevel.rmRun then s.vsoLevel.vsoOut above else s.vsoLevel := rfl

/-- A VSO excursion is a demand. -/
theorem vsoOut_shown (above : Bool) (h : s.cdRun = true) : let t := (s.vsoOut above).settle
    t.flag .pwr (if above then 5 else 4) = true ∧ t.bit Reg.PWR_SUPSTAT Fld.PWR_SUPSTAT_VSO_OK = false ∧ t.shows (.demand 20) ∧ t.halted := by
  have hflag : (if above then 5 else 4) < 16 := by split <;> decide
  have hrun : ((s.supplyFlag 2 (if above then 5 else 4)).setOut 2 true).cdRun = true := by
    rw [State.setOut_cdRun, (State.supplyFlag_frame _ 2 _).2]; exact h
  have hreacts := (State.reacts_packageSafe ((s.supplyFlag 2 (if above then 5 else 4)).setOut 2 true) 0x0E (2 ^ 20)).trans (State.reacts_settle _)
  dsimp only
  rw [s.vsoOut_run above h]
  refine ⟨hreacts.follows.flag ?_, ?_, State.settle_shows _ _ (State.packageSafe_demand _ _ _ (by decide) (by decide)),
    State.settle_shows _ .halted (State.packageSafe_halted _ _ _ hrun)⟩
  · rw [State.flag_congr (src := .pwr) (State.setOut_reg _ _ _ (by decide) (by decide))]
    exact State.supplyFlag_flag _ _ hflag
  · rw [State.bit_congr (hreacts.reg Reg.PWR_SUPSTAT steady_supstat),
      State.bit_congr (State.setOut_reg _ _ _ (by decide) (by decide))]
    exact State.supplyFlag_bit _ _ (by decide) hflag

/-- A rail of the dies that makes the control die enter SAFE. -/
theorem railSafe_shown (b : Nat) (h : s.cdRun = true) : let t := ((s.setOut b true).cdSafe 0x0F).settle
    bitOf t.power.out b = true ∧ t.halted := by
  have hreacts := ((s.setOut b true).reacts_cdSafe 0x0F).trans (State.reacts_settle _)
  exact ⟨(hreacts.follows.isOut (s.setOut_isOut b)).1, State.settle_shows _ .halted (State.cdSafe_halted _ _ ((s.setOut_cdRun b true).trans h))⟩

/-- The control die's own rail. -/
theorem controlRail_shown (h : s.cdRun = true) : let t := (((s.setOut 9 true).raise .pwr 15).cdSafe 0x0F).settle
    t.flag .pwr 15 = true ∧ bitOf t.power.out 9 = true ∧ t.halted := by
  have hreacts := (((s.setOut 9 true).raise .pwr 15).reacts_cdSafe 0x0F).trans (State.reacts_settle _)
  have hrun : ((s.setOut 9 true).raise .pwr 15).cdRun = true := by rw [State.raise_cdRun, State.setOut_cdRun]; exact h
  refine ⟨hreacts.follows.flag (State.flag_raise _ _ _ (by decide)), ?_, State.settle_shows _ .halted (State.cdSafe_halted _ _ hrun)⟩
  rw [hreacts.power, State.raise_power]
  exact (s.setOut_isOut 9).1

/-- The store rail holds its writes. -/
theorem storeRail_shown : let t := (s.setOut 12 true).holdStore.settle
    bitOf t.power.out 12 = true ∧ t.power.storeHeld = true ∧ Only (fun a => FlagSrc.guard.owns 8 a) { s with power := t.power } t := by
  dsimp only
  rw [State.settle_power]
  exact ⟨(s.setOut_isOut 12).1, rfl, ((s.setOut_frame 12 true).withPower _).settle⟩

/-- The store rail is back. -/
theorem storeReturn_shown : let t := s.storeBack.settle
    t.power.storeHeld = false ∧ bitOf t.power.out 12 = false ∧ Only (fun a => FlagSrc.guard.owns 8 a) { s with power := t.power } t := by
  have hback : s.storeBack = State.setOut { s with power := { s.power with storeHeld := false, stored := none } } 12 false := rfl
  have hframe := State.setOut_frame { s with power := { s.power with storeHeld := false, stored := none } } 12 false
  dsimp only
  rw [State.settle_power, hback, State.setOut_power]
  exact ⟨rfl, State.outPower_bit _ _ _, hframe.settle⟩

/-- A slot held by a bias fault. -/
theorem slotHeld_shown {n : Nat} (hn : n < 24) : let t := s.slotHeld n Fld.GDV_STAT_H_BIAS 3
    t.shows (.slotFlag ⟨n, hn⟩) ∧ t.shows (.bias ⟨n, hn⟩) := by
  have hraised : (s.raise (.gdv n) 3).shows (.slotFlag ⟨n, hn⟩) := State.flag_raise s (.gdv n) 3 (by decide)
  have hoff : Reacts (s.raise (.gdv n) 3) (((s.raise (.gdv n) 3).record (Reg.GDV_FLAGS n) (2 ^ 3) [n]).softOff n) :=
    (Reacts.of_outer (State.outer_record _ _ _ _)).trans (State.reacts_softOff _ hn)
  unfold State.slotHeld
  generalize ((s.raise (.gdv n) 3).record (Reg.GDV_FLAGS n) (2 ^ 3) [n]).softOff n = u at hoff ⊢
  have hbias : (u.setBit (Reg.GDV_STAT n) Fld.GDV_STAT_H_BIAS true).shows (.bias ⟨n, hn⟩) := u.bit_setBit_same _ _ true (by decide) rfl
  exact ⟨(u.reacts_setHold hn _ _ (by decide) (.inr ⟨rfl, rfl⟩)).keeps _ (hoff.keeps _ hraised), (State.reacts_holdState _ hn).keeps _ hbias⟩

/-- A driver die's rail. -/
theorem driverRail_shown (n : Slot) : let t := ((s.setOut (13 + n.val) true).slotFault n.val Fld.GDV_STAT_H_BIAS 3).settle
    bitOf t.power.out (13 + n.val) = true ∧ t.flag (.gdv n.val) 3 = true ∧ t.bit (Reg.GDV_STAT n.val) Fld.GDV_STAT_H_BIAS = true := by
  have hheld : Reacts (s.setOut (13 + n.val) true) ((s.setOut (13 + n.val) true).slotHeld n.val Fld.GDV_STAT_H_BIAS 3) := by
    unfold State.slotHeld
    exact (((State.reacts_raise_gdv _ 3 n.isLt).outer_right (State.outer_record _ _ _ _)).trans (State.reacts_softOff _ n.isLt)).trans
      (State.reacts_setHold _ n.isLt _ _ (by decide) (.inr ⟨rfl, rfl⟩))
  have hrest := ((s.setOut (13 + n.val) true).slotHeld_reacts n.isLt Fld.GDV_STAT_H_BIAS 3).trans (State.reacts_settle _)
  obtain ⟨hflag, hbias⟩ := slotHeld_shown (s.setOut (13 + n.val) true) n.isLt
  exact ⟨((hheld.trans hrest).follows.isOut (s.setOut_isOut _)).1, hrest.keeps _ hflag, hrest.keeps _ hbias⟩

/-- Ringmaster's own rail. -/
theorem rmRail_shown : let t := (s.outNoted 37 true).rmStops.settle
    bitOf t.power.out 37 = true ∧ t.rmRun = false ∧ t.reg Reg.SAFE_LINES = 0 ∧ t.fld Reg.SAFE_SO Fld.SAFE_SO_ON = 0 ∧
      Only (fun a => a = Reg.SAFE_LINES ∨ a = Reg.SAFE_SO ∨ a = Reg.SAFE_STAT ∨ FlagSrc.guard.owns 8 a)
        { s with power := t.power, rm := t.rm, rmRun := t.rmRun, drvs := t.drvs } t := by
  have hnoted : Only (fun a => FlagSrc.guard.owns 8 a) { s with power := (s.outNoted 37 true).power } (s.outNoted 37 true) := by
    rw [s.outNoted_power]; exact s.outNoted_frame 37 true
  obtain ⟨hpower, hrun, hlines, houtputs, hframe⟩ := rmStops_shown hnoted
  refine ⟨?_, hrun, hlines, houtputs, hframe.mono fun a ha => ?_⟩
  · rw [hpower, s.outNoted_power]; exact s.outPower_bit 37 true
  · simp only [rmRegs] at ha
    tauto

end rails

/-! ### Excursions past a threshold (R51) -/

section thresholds
variable (s : State)

theorem State.excursionNoted_plain (sup : Supply) : s.excursionNoted sup false = s.outNoted (supplyBit sup) true := rfl

/-- With the dies down VAUX_A is noted as absent. -/
theorem State.crossing_down (h : s.cdRun = false) :
    (s.excursionNoted .vauxA false).crossing .vauxA false = { s with power := { s.outPower 0 true with vauxA := false } } := by
  have hnoted : s.outNoted 0 true = { s with power := s.outPower 0 true } := if_neg (by simp [h])
  rw [State.excursionNoted_plain]
  simp only [supplyBit, hnoted, State.crossing, h, Bool.not_false, if_true, State.updPower, Bool.and_false]

theorem State.crossing_vauxA_above (h : s.cdRun = true) : (s.excursionNoted .vauxA false).crossing .vauxA true = (s.setOut 0 true).supplyFlag 0 1 := by
  have hrun := (s.setOut_cdRun 0 true).trans h
  rw [State.excursionNoted_plain, s.outNoted_run _ _ h]
  simp only [supplyBit, State.crossing, hrun, Bool.not_true, Bool.false_eq_true, if_false, if_true]

theorem State.crossing_vauxB_above (h : s.cdRun = true) : (s.excursionNoted .vauxB false).crossing .vauxB true = (s.setOut 1 true).supplyFlag 1 3 := by
  have hrun := (s.setOut_cdRun 1 true).trans h
  rw [State.excursionNoted_plain, s.outNoted_run _ _ h]
  simp only [supplyBit, State.crossing, hrun, Bool.not_true, Bool.false_eq_true, if_false, if_true]

end thresholds

/-! ### The statement -/

/-- Settles O22: each supply, bank and rail by what its command leaves. -/
theorem suppliesComplete : Obligations.SuppliesComplete := by
  unfold Obligations.SuppliesComplete
  refine ⟨?_, ?_, ?_, ?_, ?_, ?_, ?_, ?_, ?_, ?_, ?_, ?_, ?_, ?_, ?_, ?_, ?_, ?_, ?_, ?_, ?_, ?_, ?_, ?_, ?_, ?_, ?_, ?_, ?_, ?_⟩
  · intro sup above crossed beyond s hrun
    refine completes_onlyIf (exec_supplyExcursion s sup above beyond crossed) rfl (State.settle_follows _ |>.isOut ?_)
    have hnoted := s.excursionNoted_isOut sup beyond hrun
    have hcd : (s.excursionNoted sup beyond).cdRun = true := by rw [(s.excursionNoted_frame sup beyond).2]; exact hrun
    split
    · exact hnoted
    · exact State.crossing_isOut _ _ _ hcd hnoted
  · intro sup above beyond s hrun
    refine completes_onlyIf (exec_supplyExcursion s sup above beyond false) rfl ?_
    have hframe := s.excursionNoted_frame sup beyond
    have hpower : (s.excursionNoted sup beyond).power = s.outPower (supplyBit sup) true := by rw [hframe.2]; rfl
    have hlog : (s.excursionNoted sup beyond).safetyLog = s.excursionLog sup beyond := by rw [hframe.2]; rfl
    obtain ⟨hout, hcond⟩ := (State.settle_follows _).isOut (s.excursionNoted_isOut sup beyond hrun)
    refine ⟨hout, hcond, (State.settle_safetyLog _).trans hlog, ?_⟩
    simp only [Bool.not_false, if_true, State.settle_power, State.settle_safetyLog, hpower, hlog]
    exact hframe.settle
  · intro s hrun
    refine completes_onlyIf (exec_supplyExcursion s .vauxA false false true) rfl ?_
    simp only [Bool.not_true, Bool.false_eq_true, if_false, s.crossing_down hrun, State.settle_power]
    exact ⟨trivial, (Only.refl _ _).settle⟩
  · intro s hrun
    refine completes_onlyIf (exec_supplyExcursion s .vauxA true false true) rfl ?_
    simp only [Bool.not_true, Bool.false_eq_true, if_false, s.crossing_vauxA_above hrun]
    exact reported_shown s 0 (by decide) (by decide)
  · intro s hrun
    refine completes_onlyIf (exec_supplyExcursion s .vauxB true false true) rfl ?_
    simp only [Bool.not_true, Bool.false_eq_true, if_false, s.crossing_vauxB_above hrun]
    exact reported_shown s 1 (by decide) (by decide)
  · intro sup s hrun
    exact completes_onlyIf (exec_supplyReturn s sup) rfl (supplyReturn_shown s sup hrun)
  · intro n s hrun
    have hexec : exec (.supplyReturn (.rail (.driver n))) s = onlyIf (s.cdRun || false) s fun s => s.outNoted (13 + n.val) false := rfl
    refine completes_onlyIf hexec (by rw [hrun]; rfl) ?_
    rw [s.outNoted_run _ _ hrun]
    exact railReturn_shown s (13 + n.val)
  · intro s hvb hrun hready
    exact completes_onlyIf (exec_rmRailReturn s) (Bool.or_true _) (rmRailReturn_shown s hvb hrun hready)
  · intro x s hrun hvio
    have hexec : exec (.vioEnterWindow x) s =
        onlyIf (s.cdRun && !s.vioOk x.val) s fun s => (s.setFld Reg.PWR_SUPSTAT ⟨3 + x.val, 1⟩ 1).unitsFollow := rfl
    exact completes_onlyIf hexec (by rw [hrun, hvio]; rfl) (vioEnter_shown s x)
  · intro x s hrun hvio
    have hexec : exec (.vioLeaveWindow x) s = onlyIf (s.cdRun && s.vioOk x.val) s fun s => s.vioLeave x.val := rfl
    exact completes_onlyIf hexec (by rw [hrun, hvio]; rfl) (vioLeave_shown s x)
  · intro s hvb
    have hexec : exec .vauxBRise s = onlyIf (!s.power.vauxB) s State.vauxBRisen := rfl
    exact completes_onlyIf hexec (by rw [hvb]; rfl) (vauxBRise_shown s)
  · intro v selfTest b fell s hvb hrail hready hboot
    have hexec : exec (.ringmasterReady v selfTest) s = onlyIf (s.power.vauxB && s.rmRail && !s.rm.ready) s fun s => s.rmBoots v selfTest := rfl
    exact completes_onlyIf hexec (by rw [hvb, hrail, hready]; rfl) (settle_booted hboot).2
  · intro v selfTest s hvb hrail hready hboot
    have hexec : exec (.ringmasterReady v selfTest) s = onlyIf (s.power.vauxB && s.rmRail && !s.rm.ready) s fun s => s.rmBoots v selfTest := rfl
    exact completes_onlyIf hexec (by rw [hvb, hrail, hready]; rfl) (settle_imageless hboot).2
  · intro s hva
    have hexec : exec .vauxARise s = onlyIf (!s.power.vauxA) s State.vauxARisen := rfl
    exact completes_onlyIf hexec (by rw [hva]; rfl) (vauxARise_shown s)
  · intro s hrun hva hloss
    have hexec : exec .vauxALoss s =
        onlyIf s.power.vauxA s fun s => if s.cdRun then s.vauxALost else s.supplyLevel 0 true fun p => { p with vauxA := false } := rfl
    refine completes_onlyIf hexec hva ?_
    simp only [hrun, if_true]
    exact vauxALoss_shown s hrun hloss
  · intro t0 s hrun hloss hpack hwritten
    refine completes_onlyIf (exec_reservePowerDown s hloss) ?_ (dieDown_shown s false)
    rw [hrun, hpack]
    simpa using hwritten
  · intro t0 s hrun hloss hpack hwritten
    refine completes_onlyIf (exec_holdupSequenceEnd s hloss) ?_ (dieDown_shown s true)
    rw [hrun, hpack]
    simpa using hwritten
  · intro s hvb
    have hexec : exec .vauxBLoss s = onlyIf s.power.vauxB s State.vauxBLost := rfl
    refine completes_onlyIf hexec hvb ?_
    rw [s.vauxBLost_eq, if_neg (by simp [hvb])]
    exact vauxBLoss_shown s
  · intro s hrun hrm hready
    have hexec : exec .ringmasterAbsent s = onlyIf (s.cdRun && !s.rmRun && !s.rm.ready) s fun s => s.packageSafe 0x15 0 := rfl
    refine completes_onlyIf hexec (by rw [hrun, hrm, hready]; rfl) ?_
    exact State.settle_shows _ .halted (s.packageSafe_halted 0x15 0 hrun)
  · intro v selfTest b fell s hrun hrail hrm hready hboot
    refine completes_onlyIf (exec_vauxBReturn s v selfTest) (by rw [hrun, hrail, hrm, hready]; rfl) ?_
    obtain ⟨hpower, hrest⟩ := settle_booted (selfTest := selfTest) ((s.bootKind_rmRestarted v).trans hboot)
    exact ⟨congrArg Power.vauxB hpower, hrest⟩
  · intro v selfTest s hrun hrail hrm hready hboot
    refine completes_onlyIf (exec_vauxBReturn s v selfTest) (by rw [hrun, hrail, hrm, hready]; rfl) ?_
    obtain ⟨hpower, hup, himage, hdown, -⟩ := settle_imageless (selfTest := selfTest) ((s.bootKind_rmRestarted v).trans hboot)
    exact ⟨congrArg Power.vauxB hpower, hup, himage, hdown⟩
  · intro above s hrun hrm
    refine completes_onlyIf (exec_vsoExcursion s above) rfl ?_
    have hlevel : s.vsoLevel.rmRun = true := hrm
    simp only [hlevel, if_true]
    exact vsoOut_shown s.vsoLevel above hrun
  · intro above s hrm
    refine completes_onlyIf (exec_vsoExcursion s above) rfl ?_
    have hlevel : s.vsoLevel.rmRun = false := hrm
    simp only [hlevel, Bool.false_eq_true, if_false, State.settle_power]
    exact ⟨rfl, (Only.refl _ _).settle⟩
  · intro s hrun
    have hexec : exec (.railFault .control) s = onlyIf (s.cdRun || false) s fun s => ((s.setOut 9 true).raise .pwr 15).cdSafe 0x0F := rfl
    exact completes_onlyIf hexec (by rw [hrun]; rfl) (controlRail_shown s hrun)
  · intro s hrun
    have hexec : exec (.railFault .measurement) s = onlyIf (s.cdRun || false) s fun s => (s.setOut 10 true).cdSafe 0x0F := rfl
    exact completes_onlyIf hexec (by rw [hrun]; rfl) (railSafe_shown s 10 hrun)
  · intro s hrun
    have hexec : exec (.railFault .dram) s = onlyIf (s.cdRun || false) s fun s => (s.setOut 11 true).cdSafe 0x0F := rfl
    exact completes_onlyIf hexec (by rw [hrun]; rfl) (railSafe_shown s 11 hrun)
  · intro s hrun
    have hexec : exec (.railFault .store) s = onlyIf (s.cdRun || false) s fun s => (s.setOut 12 true).holdStore := rfl
    exact completes_onlyIf hexec (by rw [hrun]; rfl) (storeRail_shown s)
  · intro n s hrun hn
    have hexec : exec (.railFault (.driver n)) s = onlyIf (s.cdRun || false) s fun s =>
        if Nat.blt n.val s.variant.slots then (s.setOut (13 + n.val) true).slotFault n.val Fld.GDV_STAT_H_BIAS 3 else s := rfl
    refine completes_onlyIf hexec (by rw [hrun]; rfl) ?_
    rw [if_pos (by simpa using hn)]
    exact driverRail_shown s n
  · intro s
    have hexec : exec (.railFault .ringmaster) s = onlyIf (s.cdRun || true) s fun s => (s.outNoted 37 true).rmStops := rfl
    exact completes_onlyIf hexec (Bool.or_true _) (rmRail_shown s)
  · intro s hrun hheld
    have hexec : exec .storeRailReturn s = onlyIf (s.cdRun && s.power.storeHeld) s State.storeBack := rfl
    exact completes_onlyIf hexec (by rw [hrun, hheld]; rfl) (storeReturn_shown s)

end Sys2Proof.Machine
end

section
/-!
SUPPORT. Settles O7: the conditions of the commands name the die that carries them out, so that none holds while it is stopped (R56, R58, R68).
-/

namespace Sys2Proof.Machine

/-- `onlyIf` as the choice that it is, so that a meaning of one condition unifies with it whatever its effect. -/
theorem ite_next_of_eq_false {c : Bool} {s : State} {r : Res} (h : c = false) : (if c then r else .next s) = .next s := by
  rw [h]; rfl

/-! ### The control die -/

section controlDie
variable {s : State} (h : s.cdRun = false)
include h

/-! What the conditions of the commands ask beside `cdRun` itself. -/

theorem State.mdRun_stopped : s.mdRun = false := by simp [State.mdRun, h]
theorem State.preRuns_stopped : s.preRuns = false := by simp [State.preRuns, h]
theorem State.sysOn_stopped : s.sysOn = false := by simp [State.sysOn, h]
theorem State.hearsBus_stopped : s.hearsBus = false := by simp [State.hearsBus, State.sysOn_stopped h]
theorem State.mayCommand_stopped (who : Party) (k : Nat) : s.mayCommand who k = false := by simp [State.mayCommand, h]
theorem State.pvOwner_stopped (who : Party) (k : Nat) : s.pvOwner who k = false := by simp [State.pvOwner, h]

/-- Neither a register that the variant has nor one that it lacks is written. -/
theorem atReg_stopped {a : Nat} {present ok : Bool} {f : State → State} (hok : ok = false) : atReg a present ok s f = .next s := by
  unfold atReg
  split
  · exact onlyIf_neg s f hok
  · exact onlyIf_neg s _ h

theorem execFront_stopped (r op : Nat) (good : Fetched → Bool) (act : State → Fetched → State) : s.execFront r op good act = .next s := by
  unfold State.execFront
  split
  · rfl
  · exact onlyIf_neg s _ (by simp only [h, Bool.false_and])

theorem execCanTx_stopped (r : Fin 12) (dma : DmaRes) : execCanTx r dma s = .next s := by
  unfold execCanTx
  split
  · rfl
  · dsimp only
    split
    · rfl
    · exact execFront_stopped h _ _ _ _

theorem execPhaseCountChange_stopped (k : Clu) : execPhaseCountChange k s = .next s := by
  unfold execPhaseCountChange
  dsimp only
  split
  · split
    · exact onlyIf_neg s _ (by simp only [h, Bool.false_and])
    · rfl
  · rfl

/-- The control die carries out every command but those of `withoutControlDie`. -/
theorem exec_stopped (i : Instr) (hi : withoutControlDie i = false) : exec i s = .next s := by
  cases i with
  | aliveTimeout | bootEntry | clockLoss | clockReturn | commissionSessionEnd | comparatorTest | coreRejoin | coreRejoinTimeout
  | eremConfirmTimeout | nonceExpiry | presenceTimeout | railFault | resetDiscrepancy | resetPress | resetReady | resetRelease | resetStuck
  | retframeTimeout | returnFrame | ringmasterReady | rmDecision | safeEntryExpiry | siDiscrepancy | siSample | soPulseEnd | soReturnCheck
  | soShort | soTestPulse | soXv | supplyExcursion | supplyReturn | tbDeviationWindow | vauxALoss | vauxARise | vauxBLoss | vauxBRise
  | vlimComparatorTrip | vlinkDiscrepancy | vlinkSample | vsoExcursion =>
    -- these may act without it
    cases hi
  | canTx r dma => exact execCanTx_stopped h r dma
  | phaseCountChange k => exact execPhaseCountChange_stopped h k
  | nop | regWrite | regRead | setpoint | ledgerRead =>
    -- the front descriptor of a ring
    simp only [exec]
    exact execFront_stopped h _ _ _ _
  | cmpaWrite | pe0Write | ownerRefWrite | clearHold | runDiag | adaptReset | clearFailed | regionRestart | npTargetWrite | spPost | start
  | stop | readmit | ssUnlatch | sweep | discharge | dischargeStop | enable | disable | pause | resume | restart =>
    -- writes of registers that a variant may lack
    exact atReg_stopped h (by simp only [h, State.mayCommand_stopped h, Bool.false_and])
  | deadlineFault | stall | dramUncorrectable | biasStartTimeout | offStateDiagDone | prechargeTCheck | prechargeTMax | prechargeOverlapEnd
  | slotStop | maxgapExpiry | gateEdge | softTurnoffStep2 | ilineReleaseGuardEnd | spPickup | alignmentLoss | taperDone | snTimeout
  | packPauseEnd | shedRequestTimeout | softStartAbort | softStartRetry | sweepPoint | sweepEnd | actingPoint | pairResetCheckEnd
  | hwThermalRelease | skewExpiry | recorderEntryWrite | copyDone | configImageApply | paramSetDelivery | holdupSequenceEnd
  | reservePowerDown | loadBoundary | dsatDetect | linkLoss =>
    -- what the unit holds, or an operand, chooses between conditions that each ask for the die
    simp only [exec, execDeadlineFault, execStall, execDramUncorrectable, execBiasStartTimeout, execOffStateDiagDone, execPrechargeTCheck,
      execPrechargeTMax, execPrechargeOverlapEnd, execSlotStop, execMaxgapExpiry, execGateEdge, execSoftTurnoffStep2,
      execIlineReleaseGuardEnd, execSpPickup, execAlignmentLoss, execTaperDone, execSnTimeout, execPackPauseEnd, execShedRequestTimeout,
      execSoftStartAbort, execSoftStartRetry, execSweepPoint, execSweepEnd, execActingPoint, execPairResetCheckEnd, execHwThermalRelease,
      execSkewExpiry, execRecorderEntryWrite, execCopyDone, execConfigImageApply, execParamSetDelivery, execHoldupSequenceEnd,
      execReservePowerDown, execLoadBoundary, execDsatDetect, execLinkLoss]
    split <;> simp only [↓onlyIf_neg, h, State.mdRun_stopped h, State.preRuns_stopped h, State.sysOn_stopped h, Bool.false_and]
  | _ =>
    -- every other command acts under one condition, which asks for the die first
    exact ite_next_of_eq_false (by simp only [h, State.mdRun_stopped h, State.preRuns_stopped h, State.sysOn_stopped h, State.hearsBus_stopped h,
      State.pvOwner_stopped h, Bool.false_and])

end controlDie

/-! ### Ringmaster -/

section ringmaster
variable {s : State} (h : s.rmRun = false)
include h

theorem State.vlimOn_stopped (g : Nat) : s.vlimOn g = false := by simp [State.vlimOn, h]
theorem State.siOn_stopped (x : Nat) : s.siOn x = false := by simp [State.siOn, h]

/-- Ringmaster carries out every command of `ofRingmaster`. -/
theorem exec_rmStopped (i : Instr) (hi : ofRingmaster i = true) : exec i s = .next s := by
  cases i with
  | paramSetDelivery | safeEntryExpiry | skewExpiry =>
    -- the stored image, the open entries and the held copies say whether the command applies at all
    simp only [exec, execParamSetDelivery, execSafeEntryExpiry, execSkewExpiry]
    split <;> simp only [↓onlyIf_neg, h, Bool.false_and, Bool.and_false]
  | aliveTimeout | aliveWord | chkEntry | comparatorTest | coreRejoin | coreRejoinTimeout | endHold | eremConfirmTimeout | holdLines
  | netWdExpiry | resetDiscrepancy | resetPress | resetReady | resetRelease | resetStuck | retframeTimeout | returnFrame | rmDecision
  | safeRequest | safetyCopy | safetyIoTestDone | siDiscrepancy | siSample | soOff | soPulseEnd | soReturnCheck | soShort | soTestPulse
  | soXv | statusFrame | tbDeviationWindow | vlimComparatorTrip | vlinkDiscrepancy | vlinkSample =>
    exact ite_next_of_eq_false (by simp only [h, State.vlimOn_stopped h, State.siOn_stopped h, Bool.false_and, Bool.and_false])
  | _ => cases hi

end ringmaster

/-- Settles O7: each die by the conditions of the commands that it carries out. -/
theorem stoppedDiesDoNothing : Obligations.StoppedDiesDoNothing :=
  ⟨fun i _ hi h => exec_stopped h i hi, fun i _ hi h => exec_rmStopped h i hi⟩

end Sys2Proof.Machine
end

section
/-!
SUPPORT. Settles O3: right after reset every register stands at its Reset column, so that each unit shows what that column says (R65, R451).
-/

namespace Sys2Proof.Machine

/-- The identification and the secure channels apart, a register enters BOOT at the value of its row. -/
theorem Reg.resetOf_of_row {v : Variant} {a : Nat} {r : RegRow} (hr : Reg.row a = some r) (hp : r.present v a = true) (hid : a ≠ Reg.GLB_IDENT)
    (hsec : ¬(0x68080 ≤ a ∧ a < 0x68100)) : Reg.resetOf v a = r.reset := by
  have hsec' : (Nat.ble 0x68080 a && Nat.blt a 0x68100 && (a % 0x10 == 0)) = false := by
    rw [Bool.eq_false_iff]
    simp only [ne_eq, Bool.and_eq_true, Nat.ble_eq, Nat.blt_eq]
    exact fun h => hsec h.1
  unfold Reg.resetOf
  rw [if_neg hid, hsec', hr]
  simp [hp]

theorem State.reset_reg (a : Nat) : State.reset.reg a = Reg.resetOf .v7624 a := rfl

/-- Settles O3: the single registers by computation, the rest of the map by its rows. -/
theorem resetState : Obligations.ResetState := by
  unfold Obligations.ResetState
  refine ⟨by decide, fun a r hr hp hsec => ?_, by decide, by decide, by decide, fun _ _ => ⟨rfl, rfl⟩⟩
  by_cases hid : a = Reg.GLB_IDENT
  · subst hid
    have hrow : (Reg.row Reg.GLB_IDENT).map RegRow.reset = some (State.reset.reg Reg.GLB_IDENT) := by decide
    rw [hr] at hrow
    exact (Option.some.inj hrow).symm
  · rw [State.reset_reg]
    exact Reg.resetOf_of_row hr hp hid hsec

end Sys2Proof.Machine
end

section
/-!
SUPPORT. Refutes O23, O25 and O45 in one clause each: a driven gate that step 2 of DIAG turns off with the last bias start, a diagnosis that
watches the link voltage of a precharge reading, and a notice that ends with its refusal.
-/

namespace Sys2Proof.Machine

/-! ### A package safe state from the last bias start (R74, R133) -/

theorem State.settle_gate_high (s : State) (n : Nat) : s.settle.gate n .high = s.gate n .high := by
  simp only [State.gate, State.settle_gatesH]

/-- Step 2 of DIAG on an IVX-7608 before its last slot: every slot is marked failed, and slot 0 is the one cluster. The high channel of slot 7 is
driven. -/
def lastBiasDue : State :=
  { ((State.reset.setDev stDIAG).setNat (Reg.CLU_CFG 0) 1).setNat (Reg.CLU_SLOTS 0) 1 with
    variant := .v7608, now := ms 1, diag := { step := 2, slot := 7, biasAt := some 0 }, gatesH := [(7, { phase := 3 })],
    drvs := (List.range 8).map fun n => (n, { marked := true }) }

/-- The channel as the bias start leaves it. -/
def lastBiasGate : Gate := (lastBiasDue.gate 7 .high).startBias lastBiasDue.now (lastBiasDue.bit (Reg.GDV_STAT 7) (biasOk .high))

/-- Slot 7 after its bias start. -/
def lastBiasStarted : State :=
  { (lastBiasDue.updGate 7 .high fun _ => lastBiasGate).updGate 7 .low fun g =>
      g.startBias lastBiasDue.now (lastBiasDue.bit (Reg.GDV_STAT 7) (biasOk .low)) with
    diag := { step := 2, slot := 8, biasAt := some lastBiasDue.now } }

theorem exec_biasStart_last : exec (.biasStart 7) lastBiasDue = .next lastBiasStarted.biasFollow.settle := rfl

theorem lastBiasGate_phase : lastBiasGate.phase = 3 := by decide

set_option maxRecDepth 20000 in
/-- SAFE with cause 0x06 turns the driven channel off softly. -/
theorem lastBias_softOff : (lastBiasStarted.biasFollow.gate 7 .high).phase = 21 := by decide

/-- Refutes O23 in its second clause of BIAS_START: the bias start of the last slot ends step 2, and where every slot of a cluster is marked failed
the package safe state of cause 0x06 follows in the same command and begins the soft turn-off of the channels just started. -/
theorem not_bootAndDiagComplete : ¬Obligations.BootAndDiagComplete := by
  unfold Obligations.BootAndDiagComplete
  rintro ⟨-, -, -, -, -, -, -, -, hbias, -⟩
  obtain ⟨t, hexec, hgate, -⟩ := hbias 7 0 lastBiasDue rfl (by decide) rfl rfl (by decide) rfl (by decide)
  obtain rfl := Host.Outcome.next.inj (exec_biasStart_last.symm.trans hexec)
  have hphase : (lastBiasStarted.biasFollow.gate 7 .high).phase = lastBiasGate.phase := 
    congrArg Gate.phase ((State.settle_gate_high _ _).symm.trans hgate)
  exact absurd (lastBias_softOff.symm.trans (hphase.trans lastBiasGate_phase)) (by decide)

/-! ### A diagnosis that runs in the region of a precharge (R143) -/

/-- Region 0 in precharge towards 2047 V, and an off-state diagnosis of slot 0 of its one cluster, begun at 0 V. -/
def diagnosedRegion : State :=
  { ((((State.reset.setDev stDIAG).setNat (Reg.SAFE_PAR 24) (2 ^ 30 + 2047)).setNat (Reg.CLU_CFG 0) 1).setNat (Reg.CLU_SLOTS 0) 1).setFld
      Reg.SAFE_PRE0_STAT Fld.SAFE_PRE_STATE 1 with
    diag := { step := 5 }, regions := [(0, { tp := some 0 })], drvs := [(0, { diagAt := some 0 })] }

theorem exec_reading_diagnosed : exec (.prechargeReading 0 10000) diagnosedRegion = .next (diagnosedRegion.setVLink 0 10000).settle := rfl

/-- The diagnosis notes that the link voltage has moved. -/
theorem diagnosedRegion_moves : (diagnosedRegion.drv 0).diagMoved = false ∧ ((diagnosedRegion.setVLink 0 10000).drv 0).diagMoved = true := by decide

/-- Refutes O25 in its clause of a reading below PRE_V_DONE: it shows the voltage, and the off-state diagnoses that run in the region take note of
it as well (R143). -/
theorem not_prechargeCompletes : ¬Obligations.PrechargeCompletes := by
  unfold Obligations.PrechargeCompletes
  rintro ⟨-, hreading, -⟩
  obtain ⟨t, hexec, -, -, -, hrest⟩ := hreading 0 10000 0 diagnosedRegion (by decide) (by decide) rfl (by decide) (by decide)
  cases exec_reading_diagnosed.symm.trans hexec
  have hdrvs : (diagnosedRegion.setVLink 0 10000).drvs = diagnosedRegion.drvs := by
    rw [← State.settle_drvs (diagnosedRegion.setVLink 0 10000), hrest]
    rfl
  have hmoved : ((diagnosedRegion.setVLink 0 10000).drv 0).diagMoved = (diagnosedRegion.drv 0).diagMoved :=
    congrArg (fun m => (File.get ({} : Drv) m 0).diagMoved) hdrvs
  rw [diagnosedRegion_moves.1, diagnosedRegion_moves.2] at hmoved
  cases hmoved

/-! ### A refused check entry whose notice is presented (R413, R419) -/

/-- A COMMISSION session, and a notice of CHK_ENTRY on channel 8. -/
def entryPresented : State :=
  { (State.reset.setBit Reg.GLB_DEVSTATE Fld.GLB_DEVSTATE_COMMISSION true).setNat (Reg.MBX_CH_STAT 8) 1 with
    mbx := [((8, false), { busy := true, valid := true, tag := 0x10000 })] }

/-- The refusal before its acknowledgement. -/
def entryRefused : State := (entryPresented.raise .safe 14).logSafety 0x22 5 entryPresented.sessionKey

theorem exec_chkEntry_presented : exec (.chkEntry 8 5) entryPresented = .next (entryRefused.rmAck 8 1 1).settle := rfl

/-- The acknowledgement ends the notice, so that channel 8 is no longer busy. -/
theorem entryPresented_ends : entryPresented.reg (Reg.MBX_CH_STAT 8) = 1 ∧ (entryRefused.rmAck 8 1 1).reg (Reg.MBX_CH_STAT 8) = 0 := by decide

/-- Refutes O45 in its clause of an entry that does not match: Ringmaster acknowledges the notice of the request, which clears the busy bit of
its channel in MBX_CH8_STAT. -/
theorem not_safetyRequestsComplete : ¬Obligations.SafetyRequestsComplete := by
  unfold Obligations.SafetyRequestsComplete
  rintro ⟨-, -, -, -, hentry, -⟩
  obtain ⟨t, hexec, -, -, hframe⟩ := hentry 8 5 entryPresented rfl rfl (.inl rfl) (by decide) rfl (by decide)
  cases exec_chkEntry_presented.symm.trans hexec
  have hdel : ¬deliveryReg (Reg.MBX_CH_STAT 8) := by simp only [deliveryReg, Reg.MBX_CH_STAT]; omega
  have hsame : (entryRefused.rmAck 8 1 1).reg (Reg.MBX_CH_STAT 8) = entryPresented.reg (Reg.MBX_CH_STAT 8) :=
    (State.settle_reg _ hdel).symm.trans (hframe.1 _ hdel (by decide))
  rw [entryPresented_ends.1, entryPresented_ends.2] at hsame
  exact absurd hsame (by decide)

end Sys2Proof.Machine
end

section
/-!
SUPPORT. What the operations below the escalation ladder keep of the authorisations, the persistent store, Ringmaster's start and the two
registers in which the device state and the commissioning lock stand (R65, R83, R85).
-/

namespace Sys2Proof.Machine

/-- GLB_DEVSTATE and GLB_COMLOCK. -/
def credReg (a : Nat) : Bool := decide (a = 0x20 ∨ a = 0x30)

theorem credReg_upper {a : Nat} (h : 0x34 ≤ a) : credReg a = false := decide_eq_false (by omega)

/-- Whether Ringmaster started, the authorisations, the persistent store, GLB_DEVSTATE and GLB_COMLOCK. -/
def State.held (s : State) : (Bool × Bool × Option Nat) × Auths × Store × Word × Word :=
  ((s.rmRun, s.rm.failed, s.rm.noImage), s.auths, s.store, s.reg Reg.GLB_DEVSTATE, s.reg Reg.GLB_COMLOCK)

theorem State.held_eq {s t : State} (hrun : t.rmRun = s.rmRun) (hrm : t.rm.failed = s.rm.failed ∧ t.rm.noImage = s.rm.noImage)
    (hauths : t.auths = s.auths) (hstore : t.store = s.store) (hdev : t.reg Reg.GLB_DEVSTATE = s.reg Reg.GLB_DEVSTATE)
    (hlock : t.reg Reg.GLB_COMLOCK = s.reg Reg.GLB_COMLOCK) : t.held = s.held := by
  simp only [State.held, hrun, hrm, hauths, hstore, hdev, hlock]

theorem State.of_held {s t : State} (h : t.held = s.held) : t.rmRun = s.rmRun ∧ t.rm.failed = s.rm.failed ∧ t.rm.noImage = s.rm.noImage ∧
    t.auths = s.auths ∧ t.store = s.store ∧ t.reg Reg.GLB_DEVSTATE = s.reg Reg.GLB_DEVSTATE ∧ t.reg Reg.GLB_COMLOCK = s.reg Reg.GLB_COMLOCK := by
  simpa only [State.held, Prod.mk.injEq, and_assoc] using h

theorem State.held_of_core {s t : State} (h : t.core = s.core) : t.held = s.held := by
  have hreg (a : Nat) (ha : periph a = false) : t.reg a = s.reg a := by
    have hr := congrFun (congrArg Prod.snd h) a
    simpa [State.core, ha] using hr
  exact State.held_eq (congrArg (·.1.rmRun) h) ⟨congrArg (·.1.rm.failed) h, congrArg (·.1.rm.noImage) h⟩
    (congrArg (·.1.auths) h) (congrArg (·.1.store) h) (hreg _ rfl) (hreg _ rfl)

section updates
variable (s : State)

theorem State.held_setReg {a : Nat} (v : Word) (h : credReg a = false) : (s.setReg a v).held = s.held := by
  simp only [credReg, decide_eq_false_iff_not, not_or] at h
  exact State.held_eq rfl ⟨rfl, rfl⟩ rfl rfl (s.reg_setReg_other v (Ne.symm h.1)) (s.reg_setReg_other v (Ne.symm h.2))

@[simp] theorem State.held_setFld {a : Nat} (f : Field) (v : Nat) (h : credReg a = false) : (s.setFld a f v).held = s.held := s.held_setReg _ h
@[simp] theorem State.held_setBit {a : Nat} (f : Field) (v : Bool) (h : credReg a = false) : (s.setBit a f v).held = s.held := s.held_setReg _ h
@[simp] theorem State.held_setNat {a : Nat} (v : Nat) (h : credReg a = false) : (s.setNat a v).held = s.held := s.held_setReg _ h
@[simp] theorem State.held_setNat64 {a b : Nat} (v : Nat) (ha : credReg a = false) (hb : credReg b = false) : (s.setNat64 a b v).held = s.held :=
  (State.held_setNat _ _ hb).trans (s.held_setNat _ ha)
@[simp] theorem State.held_updEdge (n : Nat) (f : Edge → Edge) : (s.updEdge n f).held = s.held := Prod.ext rfl rfl
@[simp] theorem State.held_updGate (n : Nat) (d : Side) (f : Gate → Gate) : (s.updGate n d f).held = s.held := by cases d <;> exact Prod.ext rfl rfl
@[simp] theorem State.held_updDrv (n : Nat) (f : Drv → Drv) : (s.updDrv n f).held = s.held := Prod.ext rfl rfl
@[simp] theorem State.held_updCluster (k : Nat) (f : Cluster → Cluster) : (s.updCluster k f).held = s.held := Prod.ext rfl rfl
@[simp] theorem State.held_updRegion (g : Nat) (f : Region → Region) : (s.updRegion g f).held = s.held := Prod.ext rfl rfl
@[simp] theorem State.held_updDc (k : Nat) (f : Dc → Dc) : (s.updDc k f).held = s.held := Prod.ext rfl rfl
@[simp] theorem State.held_updChg (k : Nat) (f : Chg → Chg) : (s.updChg k f).held = s.held := Prod.ext rfl rfl
@[simp] theorem State.held_updLdg (g : Nat) (f : Ldg → Ldg) : (s.updLdg g f).held = s.held := Prod.ext rfl rfl
@[simp] theorem State.held_updRing (r : Nat) (f : RingSt → RingSt) : (s.updRing r f).held = s.held := Prod.ext rfl rfl
@[simp] theorem State.held_updTrip (t : Nat) (f : TripSt → TripSt) : (s.updTrip t f).held = s.held := Prod.ext rfl rfl
@[simp] theorem State.held_txns (x : File Nat Txn) : { s with txns := x }.held = s.held := Prod.ext rfl rfl
@[simp] theorem State.held_diag (x : Diag) : { s with diag := x }.held = s.held := Prod.ext rfl rfl
@[simp] theorem State.held_recst (x : RecSt) : { s with recst := x }.held = s.held := Prod.ext rfl rfl
@[simp] theorem State.held_cmdWait (x : Option (Nat × Nat)) : { s with cmdWait := x }.held = s.held := Prod.ext rfl rfl
@[simp] theorem State.held_logSafety (c d k : Nat) : (s.logSafety c d k).held = s.held := Prod.ext rfl rfl
@[simp] theorem State.held_record (src bits : Nat) (l : List Nat) : (s.record src bits l).held = s.held :=
  State.held_of_core (s.core_record _ _ _)
@[simp] theorem State.held_systemEntry (kind src bits : Nat) (l : List Nat) : (s.systemEntry kind src bits l).held = s.held :=
  State.held_of_core (s.core_systemEntry _ _ _ _)
@[simp] theorem State.held_asyncIn (t code : Nat) : (s.asyncIn t code).held = s.held := State.held_of_core (s.core_asyncIn _ _)
@[simp] theorem State.held_device (who block code st : Nat) : (s.device who block code st).held = s.held :=
  State.held_of_core (s.core_device _ _ _ _)
@[simp] theorem State.held_resetParty (p : Nat) : (s.resetParty p).held = s.held := State.held_of_core (s.core_resetParty p)
@[simp] theorem State.held_finish (r : Nat) (f : Fetched) (st why : Nat) (l : List Byte) : (s.finish r f st why l).held = s.held :=
  State.held_of_core (s.core_finish _ _ _ _ _)
@[simp] theorem State.held_unitsFollow : s.unitsFollow.held = s.held := State.held_of_core s.core_unitsFollow

/-- A change made for each element of a list keeps it where every one does. -/
theorem State.held_each {α : Type} {l : List α} {f : State → α → State} (h : ∀ u x, x ∈ l → (f u x).held = u.held) :
    (s.each l f).held = s.held :=
  s.each_same State.held f l h

end updates

/-! ### Registers and flags -/

@[simp] theorem credReg_low : credReg Reg.GLB_DEVRESULT = false ∧ credReg Reg.GLB_GUARD = false := ⟨rfl, rfl⟩

@[simp] theorem credReg_units (x : Nat) : credReg (Reg.CLU_STAT x) = false ∧ credReg (Reg.CLU_DC_STAT x) = false ∧
    credReg (Reg.CLU_DC_ILIM_EFF x) = false ∧ credReg (Reg.CLU_PV_VREF x) = false ∧ credReg (Reg.CHG_STAT x) = false ∧
    credReg (Reg.CHG_IREF x) = false ∧ credReg (Reg.LDG_STAT x) = false ∧ credReg (Reg.LDG_RES_Q x) = false ∧ credReg (Reg.LDG_RES_E x) = false ∧
    credReg (Reg.LDG_IVL_LO x) = false ∧ credReg (Reg.LDG_IVL_HI x) = false ∧ credReg (Reg.LDG_VLINK x) = false := by
  simp only [Reg.CLU_STAT, Reg.CLU_DC_STAT, Reg.CLU_DC_ILIM_EFF, Reg.CLU_PV_VREF, Reg.CHG_STAT, Reg.CHG_IREF, Reg.LDG_STAT, Reg.LDG_RES_Q,
    Reg.LDG_RES_E, Reg.LDG_IVL_LO, Reg.LDG_IVL_HI, Reg.LDG_VLINK]
  refine ⟨credReg_upper ?_, credReg_upper ?_, credReg_upper ?_, credReg_upper ?_, credReg_upper ?_, credReg_upper ?_, credReg_upper ?_,
    credReg_upper ?_, credReg_upper ?_, credReg_upper ?_, credReg_upper ?_, credReg_upper ?_⟩ <;> omega

@[simp] theorem credReg_slot (n : Nat) : credReg (Reg.EDG_STAT n) = false ∧ credReg (Reg.EDG_PHASE n) = false ∧ credReg (Reg.EDG_REF n) = false ∧
    credReg (Reg.GDV_STAT n) = false ∧ credReg (Reg.GDV_DIAG_RES n) = false := by
  simp only [Reg.EDG_STAT, Reg.EDG_PHASE, Reg.EDG_REF, Reg.GDV_STAT, Reg.GDV_DIAG_RES]
  refine ⟨credReg_upper ?_, credReg_upper ?_, credReg_upper ?_, credReg_upper ?_, credReg_upper ?_⟩ <;> omega

@[simp] theorem credReg_upperUnits : credReg Reg.CTU_RES = false ∧ credReg Reg.SAFE_STAT = false ∧ credReg Reg.SAFE_SO = false ∧
    credReg Reg.SAFE_LINES = false ∧ credReg Reg.DBG_STAT = false ∧ credReg Reg.PWR_SUPSTAT = false ∧ credReg Reg.THM_STAT = false ∧
    credReg Reg.REC_SYSSUPP = false := by decide

@[simp] theorem credReg_preStat (g : Nat) : credReg (preStat g) = false := by unfold preStat; split <;> rfl

theorem FlagSrc.addr_upper {src : FlagSrc} (h : src ≠ .glb) : 0x34 ≤ src.addr := by
  cases src with
  | glb => exact absurd rfl h
  | _ =>
    simp only [FlagSrc.addr, Reg.GLB_GUARD, Reg.CTU_FLAGS, Reg.PWR_FLAGS, Reg.PWR_HU_FLAGS, Reg.THM_FLAGS, Reg.CLK_FLAGS, Reg.CLK_TR_STAT,
      Reg.EDG_FLAGS, Reg.EDG_ALIGN_FLAGS, Reg.GDV_FLAGS, Reg.CLU_FLAGS, Reg.CLU_DC_FLAGS, Reg.CLU_SYS_FLAGS, Reg.CHG_FLAGS, Reg.CHG_SN_FLAGS,
      Reg.LDG_FLAGS, Reg.MEAS_FLAGS, Reg.AUXD_FLAGS, Reg.FB_FLAGS, Reg.SVR_FLAGS, Reg.TRP_FLAGS, Reg.SAFE_FLAGS, Reg.ETH_P_FLAGS,
      Reg.ETH_PTP_FLAGS, Reg.ETH_SNL_FLAGS, Reg.CAN_FLAGS, Reg.HIF_FLAGS, Reg.MBX_FLAGS, Reg.REC_FLAGS, Reg.DBG_FLAGS]
    omega

theorem FlagSrc.cnt0_upper {src : FlagSrc} (h : src ≠ .glb) : 0x34 ≤ src.cnt0 := by
  cases src with
  | glb => exact absurd rfl h
  | _ =>
    simp only [FlagSrc.cnt0, Reg.CTU_CNT0, Reg.PWR_CNT0, Reg.PWR_HU_CNT0, Reg.THM_CNT0, Reg.CLK_CNT0, Reg.CLK_TR_CNT, Reg.EDG_CNT0,
      Reg.EDG_ALIGN_CNT, Reg.GDV_CNT0, Reg.CLU_CNT0, Reg.CLU_DC_CNT0, Reg.CLU_SYS_CNT0, Reg.CHG_CNT0, Reg.CHG_SN_CNT0, Reg.LDG_CNT0,
      Reg.MEAS_CNT0, Reg.AUXD_CNT0, Reg.FB_CNT0, Reg.SVR_CNT0, Reg.TRP_CNT0, Reg.SAFE_CNT0, Reg.ETH_P_CNT0, Reg.ETH_PTP_CNT0,
      Reg.ETH_SNL_CNT0, Reg.CAN_CNT0, Reg.HIF_CNT0, Reg.MBX_CNT0, Reg.REC_CNT0, Reg.DBG_CNT0]
    omega

/-- A counter stands in the registers that begin at `cnt0`, GLB_GUARD's above it. -/
theorem FlagSrc.cnt0_le_counter {src : FlagSrc} {b a lo : Nat} (h : src.counter b = some (a, lo)) : src.cnt0 ≤ a := by
  unfold FlagSrc.counter at h
  split at h
  case h_5 =>
    rw [← (Prod.mk.inj (Option.some.inj h)).1]
    exact Nat.le_add_right _ _
  all_goals
    split_ifs at h
    all_goals
      rw [← (Prod.mk.inj (Option.some.inj h)).1]
      simp [FlagSrc.cnt0, Reg.GLB_GUARD_CNT2]

section flags
variable (s : State) {src : FlagSrc} (h : src ≠ .glb)
include h

@[simp] theorem State.held_raiseMask (m : Nat) : (s.raiseMask src m).held = s.held := by
  have hreg (a : Nat) (ha : a < 0x34) : (s.raiseMask src m).reg a = s.reg a :=
    s.raiseMask_reg src m (Nat.ne_of_lt (Nat.lt_of_lt_of_le ha (FlagSrc.addr_upper h))) fun b _ _ x lo hc =>
      Nat.ne_of_lt (Nat.lt_of_lt_of_le ha ((FlagSrc.cnt0_upper h).trans (FlagSrc.cnt0_le_counter hc)))
  exact State.held_eq (by simp) (by simp) (by simp) (by simp) (hreg _ (by decide)) (hreg _ (by decide))

@[simp] theorem State.held_raise (b : Nat) : (s.raise src b).held = s.held := s.held_raiseMask h _
@[simp] theorem State.held_raiseIf (c : Bool) (b : Nat) : (s.raiseIf c src b).held = s.held := by
  unfold State.raiseIf
  split
  · exact s.held_raise h b
  · rfl

theorem State.held_asOne (b : Nat) (f : State → State) (hf : (f s).held = s.held) : (s.asOne src b f).held = s.held := by
  unfold State.asOne
  simp only
  split
  · rename_i hc
    exact (State.held_setFld _ _ _ (credReg_upper ((FlagSrc.cnt0_upper h).trans (FlagSrc.cnt0_le_counter hc)))).trans hf
  · exact hf

end flags

end Sys2Proof.Machine
end

section
/-!
SUPPORT. What transactions, clusters, charge engines, the ledger and Ringmaster's own operations change keeps authorisations, store and lock.
-/

namespace Sys2Proof.Machine

/-! ### Transactions, clusters and slots -/

section clusters
variable (s : State) {k : Nat}

theorem State.held_commitResult (t : Nat) (ok : Bool) (why off tc : Nat) : (s.commitResult t ok why off tc).held = s.held := by
  unfold State.commitResult
  repeat' split
  all_goals simp [apply_ite State.held]

theorem State.held_failPending (t why off : Nat) : (s.failPending t why off).held = s.held := by
  have herr : credReg (Reg.CTU_T_ERR t) = false := credReg_upper (by simp only [Reg.CTU_T_ERR]; omega)
  have hstat : credReg (Reg.CTU_T_STAT t) = false := credReg_upper (by simp only [Reg.CTU_T_STAT]; omega)
  rw [State.failPending, State.held_raiseMask _ (by decide), State.freeTxn, State.held_txns, State.held_setReg _ _ hstat,
    State.held_commitResult, State.setTxErr, State.held_setNat _ _ herr]

@[simp] theorem State.held_conflictIf (p : Nat → Bool) : (s.conflictIf p).held = s.held := by
  refine State.held_asOne _ (by decide) _ _ (State.held_asOne _ (by decide) _ _ (s.held_each fun u t _ => ?_))
  repeat' split
  · exact u.held_failPending _ _ _
  all_goals rfl

@[simp] theorem State.held_setCState (v : Nat) : (s.setCState k v).held = s.held := by simp [State.setCState, apply_ite State.held]
@[simp] theorem State.held_cluFollow : (s.cluFollow k).held = s.held := by simp [State.cluFollow, apply_ite State.held]
@[simp] theorem State.held_withdraw : (s.withdraw k).held = s.held := by simp [State.withdraw]
@[simp] theorem State.held_writeMap : (s.writeMap k).held = s.held := by
  refine s.held_each fun u p _ => ?_
  repeat' split
  all_goals simp
@[simp] theorem State.held_setActive (mask : Nat) : (s.setActive k mask).held = s.held := by simp [State.setActive]
@[simp] theorem State.held_showIlim : (s.showIlim k).held = s.held := by simp [State.showIlim, apply_ite State.held]
@[simp] theorem State.held_showIlims : s.showIlims.held = s.held := s.held_each fun u k _ => u.held_showIlim (k := k)
@[simp] theorem State.held_changeRecord (mask : Nat) : (s.changeRecord k mask).held = s.held := by simp [State.changeRecord]
@[simp] theorem State.held_endCharge (l : List Nat) : (s.endCharge k l).held = s.held := by
  unfold State.endCharge
  simp only
  split
  · rfl
  · rw [State.held_device, State.held_record, State.held_raiseMask _ (by simp),
      State.held_each _ fun u n _ => u.held_setFld _ _ (credReg_slot n).2.2.1]
    simp
@[simp] theorem State.held_endSweep : (s.endSweep k).held = s.held := by
  unfold State.endSweep
  split <;> simp
@[simp] theorem State.held_cancelRetry : (s.cancelRetry k).held = s.held := by simp [State.cancelRetry]
@[simp] theorem State.held_leaveRun (why : Nat) : (s.leaveRun k why).held = s.held := by
  unfold State.leaveRun
  split <;> simp
@[simp] theorem State.held_softOff (n : Nat) : (s.softOff n).held = s.held := by simp [State.softOff, apply_ite State.held]

end clusters

/-! ### The ledger -/

section ledger
variable (s : State) {g : Nat}

@[simp] theorem State.held_showCounters (l : List Nat) : (s.showCounters g l).held = s.held := by
  refine s.held_each fun u i _ => ?_
  have hctr (d : Nat) : credReg (ldgCtr g i + d) = false := credReg_upper (by simp only [ldgCtr, Reg.LDG_A_INQ_LO]; omega)
  have h0 : credReg (ldgCtr g i) = false := hctr 0
  simp [hctr, h0]
@[simp] theorem State.held_postResidual : (s.postResidual g).held = s.held := by
  unfold State.postResidual
  split
  · rfl
  · simp [apply_ite State.held]
@[simp] theorem State.held_holdRecord (r : HeldRec) : (s.holdRecord g r).held = s.held := by simp [State.holdRecord]
@[simp] theorem State.held_closeOpen (kind tags : Nat) (acct : Option Nat) (gaps : List Nat) (peak : Nat) (early : Bool) :
    (s.closeOpen g kind tags acct gaps peak early).held = s.held := by simp [State.closeOpen, apply_ite State.held]
@[simp] theorem State.held_closeInterval (kind tags : Nat) (acct : Option Nat) (gaps : List Nat) (early : Bool) :
    (s.closeInterval g kind tags acct gaps early).held = s.held := by
  unfold State.closeInterval
  split <;> simp

end ledger

/-! ### Ringmaster -/

section ringmaster
variable (s : State)

@[simp] theorem State.held_rmFollow : s.rmFollow.held = s.held := by simp [State.rmFollow]
@[simp] theorem State.held_linesOff (mask : Nat) : (s.linesOff mask).held = s.held := by
  rw [State.linesOff, State.held_rmFollow, State.held_setNat _ _ (by decide)]
  exact s.held_each fun u n _ => u.held_updDrv _ _
@[simp] theorem State.held_outputsOff (mask : Nat) : (s.outputsOff mask).held = s.held := s.held_setFld _ _ (by decide)
@[simp] theorem State.held_latch (bits : Nat) : (s.latch bits).held = s.held := s.held_setNat _ (by decide)
@[simp] theorem State.held_preFail (g cause : Nat) : (s.preFail g cause).held = s.held := by simp [State.preFail]
@[simp] theorem State.held_mtRestart : s.mtRestart.held = s.held := by simp [State.mtRestart]
@[simp] theorem State.held_endCmd (res : Nat) : (s.endCmd res).held = s.held := by
  unfold State.endCmd
  split <;> simp [apply_ite State.held]

end ringmaster
end Sys2Proof.Machine
end

section
/-!
SUPPORT. Every operation of the escalation ladder keeps the authorisations, the session bit and the commissioning lock (R65–R67, R81, R83, R85).
-/

namespace Sys2Proof.Machine

/-- The authorisations, the lock and its count in the store, the session bit, and the lock as GLB_COMLOCK shows it. -/
def State.creds (s : State) : Auths × Bool × Nat × Bool × Word :=
  (s.auths, s.store.locked, s.store.lockCnt, s.commissioning, s.reg Reg.GLB_COMLOCK)

theorem State.creds_of_held {s t : State} (h : t.held = s.held) : t.creds = s.creds := by
  obtain ⟨-, -, -, hauths, hstore, hdev, hlock⟩ := State.of_held h
  simp only [State.creds, State.commissioning, State.bit, State.fld, hauths, hstore, hdev, hlock]

section ladder
variable (s : State)

theorem State.creds_each {α : Type} {l : List α} {f : State → α → State} (h : ∀ u x, (f u x).creds = u.creds) : (s.each l f).creds = s.creds :=
  s.each_same State.creds f l fun u x _ => h u x

theorem State.creds_ite {c : Prop} [Decidable c] {s t u : State} (ht : t.creds = s.creds) (hu : u.creds = s.creds) :
    (if c then t else u).creds = s.creds := by
  split
  · exact ht
  · exact hu

/-- A field of GLB_DEVSTATE beside COMMISSION. -/
theorem State.creds_setFld_devstate (f : Field) (v : Nat) (h : f.lo + f.len ≤ 32) (hf : f.lo + f.len ≤ 6 ∨ 7 ≤ f.lo) :
    (s.setFld Reg.GLB_DEVSTATE f v).creds = s.creds := by
  have hbit : (s.setFld Reg.GLB_DEVSTATE f v).commissioning = s.commissioning := by
    simp only [State.commissioning, State.bit]
    rw [s.fld_setFld_beside _ f Fld.GLB_DEVSTATE_COMMISSION v h hf.symm]
  have hlock : (s.setFld Reg.GLB_DEVSTATE f v).reg Reg.GLB_COMLOCK = s.reg Reg.GLB_COMLOCK := s.reg_setFld_other f v (by decide)
  simp only [State.creds, hbit, hlock, State.setFld_auths, State.setFld_store]

/-- A change of the store beside the lock. -/
theorem State.creds_updStore (f : Store → Store) (h : (f s.store).locked = s.store.locked ∧ (f s.store).lockCnt = s.store.lockCnt) :
    (s.updStore f).creds = s.creds := by
  simp only [State.creds, State.updStore, h]
  rfl

theorem State.creds_devDerate : s.devDerate.creds = s.creds := s.creds_setFld_devstate _ _ (by decide) (by decide)

theorem State.creds_enter (v : Nat) : (s.enter v).creds = s.creds := by
  unfold State.enter
  refine State.creds_ite rfl ((State.creds_of_held ((State.held_unitsFollow _).trans (State.held_conflictIf _ _))).trans ?_)
  exact (State.creds_devDerate _).trans (s.creds_setFld_devstate Fld.GLB_DEVSTATE_STATE v (by decide) (by decide))

theorem State.creds_runFollow : s.runFollow.creds = s.creds := by
  unfold State.runFollow
  exact State.creds_ite (s.creds_enter _) (State.creds_ite (s.creds_enter _) rfl)

theorem State.creds_setSState (n v : Nat) : (s.setSState n v).creds = s.creds := by
  unfold State.setSState
  refine State.creds_ite rfl ((State.creds_runFollow _).trans (State.creds_of_held ?_))
  split <;> simp [apply_ite State.held]

theorem State.creds_holdState (n : Nat) : (s.holdState n).creds = s.creds := by
  unfold State.holdState
  exact State.creds_ite rfl (State.creds_ite (s.creds_setSState _ _) (State.creds_ite (s.creds_setSState _ _)
    (State.creds_ite (s.creds_setSState _ _) rfl)))

theorem State.creds_order (n : Nat) : ((s.softOff n).setHold n Fld.GDV_STAT_H_ORDER true).creds = s.creds :=
  (State.creds_holdState _ n).trans (State.creds_of_held (by simp))

theorem State.creds_stopCluster (k cause state : Nat) : (s.stopCluster k cause state).creds = s.creds := by
  unfold State.stopCluster
  refine State.creds_ite (State.creds_of_held (by simp [apply_ite State.held])) ?_
  refine (State.creds_of_held (State.held_raise _ (by simp) _)).trans ((State.creds_each _ fun u n => u.creds_order n).trans (State.creds_of_held ?_))
  simp [apply_ite State.held]

theorem State.creds_safeStop (k cause : Nat) : (s.safeStop k cause).creds = s.creds := s.creds_stopCluster k cause _

theorem State.creds_deratePhase (k : Nat) (on : Bool) : (s.deratePhase k on).creds = s.creds := by
  have henter (u : State) : (u.derateEnter k).creds = u.creds := by
    unfold State.derateEnter
    exact State.creds_ite rfl ((State.creds_devDerate _).trans (State.creds_of_held (by simp)))
  unfold State.deratePhase
  exact State.creds_ite rfl (State.creds_ite ((henter _).trans (State.creds_of_held (State.held_updCluster _ _ _)))
    (State.creds_of_held (State.held_updCluster _ _ _)))

theorem State.creds_phaseLost (k n : Nat) : (s.phaseLost k n).creds = s.creds := by
  unfold State.phaseLost
  refine State.creds_ite rfl ?_
  have hlost (u : State) (c : Bool) (h : u.creds = s.creds) : (if c then u.safeStop k scDC else u).creds = s.creds :=
    State.creds_ite ((u.creds_safeStop _ _).trans h) h
  exact hlost _ _ ((State.creds_deratePhase _ _ _).trans (State.creds_of_held (by simp)))

theorem State.creds_phaseLostOf (n : Nat) : (s.phaseLostOf n).creds = s.creds := by
  unfold State.phaseLostOf
  split
  · exact s.creds_phaseLost _ _
  · rfl

/-! ### SAFE and LOCKOUT -/

theorem State.creds_lockoutEntry (cause : Nat) : (s.lockoutEntry cause).creds = s.creds := by
  unfold State.lockoutEntry
  refine (State.creds_of_held ((State.held_record _ _ _ _).trans ((State.held_mtRestart _).trans ((State.held_outputsOff _ _).trans
    ((State.held_linesOff _ _).trans ((State.held_diag _ _).trans (State.held_setBit _ _ _ (by decide)))))))).trans ?_
  refine (State.creds_updStore _ _ ⟨rfl, rfl⟩).trans ?_
  refine (State.creds_setFld_devstate _ _ _ (by decide) (by decide)).trans ((State.creds_enter _ _).trans ?_)
  exact (State.creds_of_held (State.held_endCmd _ _)).trans (s.creds_setFld_devstate Fld.GLB_DEVSTATE_TRANS _ (by decide) (by decide))

theorem State.creds_countSafe : s.countSafe.creds = s.creds := by
  have hcount : ((s.updStore fun p => { p with safeAt := p.safeAt ++ [s.rm.vbTicks] }).showSafeCnt).creds = s.creds :=
    (State.creds_setFld_devstate _ Fld.GLB_DEVSTATE_SAFE_CNT _ (by decide) (by decide)).trans (s.creds_updStore _ ⟨rfl, rfl⟩)
  unfold State.countSafe
  exact State.creds_ite ((State.creds_lockoutEntry _ _).trans hcount) hcount

theorem State.creds_allStop (cause : Nat) : (s.allStop cause).creds = s.creds := by
  unfold State.allStop
  refine (State.creds_of_held ((State.held_diag _ _).trans (State.held_setBit _ _ _ (by decide)))).trans ?_
  refine (State.creds_setFld_devstate _ _ _ (by decide) (by decide)).trans ((State.creds_each _ fun u g => ?_).trans
    ((State.creds_each _ fun u k => u.creds_safeStop k _).trans (s.creds_each fun u n => u.creds_order n)))
  exact State.creds_ite (State.creds_of_held (u.held_preFail g cause)) rfl

theorem State.creds_packageSafe (cause bits : Nat) : (s.packageSafe cause bits).creds = s.creds := by
  have hcut : (s.cutOff cause bits).creds = s.creds := State.creds_of_held (by simp [State.cutOff, apply_ite State.held])
  have hentry (u : State) : (u.safeEntry cause).creds = u.creds := by
    unfold State.safeEntry
    refine (State.creds_of_held (State.held_rmFollow _)).trans ((State.creds_countSafe _).trans ?_)
    refine (State.creds_of_held (State.held_endCmd _ _)).trans ?_
    exact (State.creds_setFld_devstate _ _ _ (by decide) (by decide)).trans (u.creds_enter _)
  rw [State.packageSafe_fun]
  exact State.creds_ite ((State.creds_of_held (State.held_rmFollow _)).trans hcut) ((hentry _).trans ((State.creds_allStop _ _).trans hcut))

/-! ### The end of debug and of overrides -/

theorem State.creds_splitRule : s.splitRule.creds = s.creds := by
  unfold State.splitRule
  exact State.creds_ite (State.creds_ite (s.creds_packageSafe _ _) (State.creds_of_held (s.held_linesOff _))) rfl

theorem State.creds_endEndbg : s.endEndbg.creds = s.creds := by
  have hoff (u : State) (h : u.creds = s.creds) : (if u.dev = stSTANDBY then u.linesOff 0xFFFFFF else u).creds = s.creds :=
    State.creds_ite ((State.creds_of_held (u.held_linesOff _)).trans h) h
  unfold State.endEndbg
  exact State.creds_ite (hoff _ ((State.creds_splitRule _).trans (State.creds_of_held (by simp)))) rfl

theorem State.creds_debugEnds : s.debugEnds.creds = s.creds := by
  unfold State.debugEnds
  refine (State.creds_endEndbg _).trans (State.creds_of_held ((State.held_setFld _ _ _ (by decide)).trans ?_))
  exact s.held_each fun u t _ => u.held_updTrip _ _

theorem State.creds_endOverride (n : Nat) : (s.endOverride n).creds = s.creds := by
  have hlost (u : State) (c : Bool) (h : u.creds = s.creds) : (if c then u.phaseLostOf n else u).creds = s.creds :=
    State.creds_ite ((u.creds_phaseLostOf n).trans h) h
  unfold State.endOverride
  exact State.creds_ite (hlost _ _ (State.creds_of_held (by simp))) rfl

/-- The end of a session ends it, and keeps the lock. -/
theorem State.creds_endSession : s.endSession.creds =
    (({ s with auths := { s.auths with session := none } } : State).setBit Reg.GLB_DEVSTATE Fld.GLB_DEVSTATE_COMMISSION false).creds := by
  unfold State.endSession
  exact (State.creds_debugEnds _).trans (State.creds_each _ fun u n => u.creds_endOverride n)

end ladder
end Sys2Proof.Machine
end

section
/-!
SUPPORT. Settles O24: each state command enters the state that it names and shows its result; its refusals change nothing else (R65, R66, R79,
R85, R86).
-/

namespace Sys2Proof.Machine

/-! ### The result of a command (R86) -/

section results
variable (s : State) (cmd res : Nat)

theorem State.cmdResult_result (hr : res < 256) : (s.cmdResult cmd res).fld Reg.GLB_DEVRESULT Fld.GLB_DEVRESULT_RESULT = res := by
  simp only [State.cmdResult, State.fld, State.reg_setNat_same, Field.get, Fld.GLB_DEVRESULT_RESULT, BitVec.toNat_ofNat]
  omega

theorem State.cmdResult_reg {a : Nat} (h : a ≠ Reg.GLB_DEVRESULT) : (s.cmdResult cmd res).reg a = s.reg a := s.reg_setNat_other _ h

theorem State.cmdResult_only : Only (fun a => a = Reg.GLB_DEVRESULT) s (s.cmdResult cmd res) := Only.setReg s _ _

theorem State.cmdResult_settle_result (hr : res < 256) :
    (s.cmdResult cmd res).settle.fld Reg.GLB_DEVRESULT Fld.GLB_DEVRESULT_RESULT = res :=
  (State.settle_fld_low _ _ (by decide)).trans (s.cmdResult_result cmd res hr)

theorem State.cmdResult_settle_reg {a : Nat} (ha : a < 0x60000) (h : a ≠ Reg.GLB_DEVRESULT) : (s.cmdResult cmd res).settle.reg a = s.reg a :=
  (State.settle_reg_low _ ha).trans (s.cmdResult_reg cmd res h)

theorem State.cmdResult_settle_dev : (s.cmdResult cmd res).settle.dev = s.dev :=
  State.fld_congr (s.cmdResult_settle_reg cmd res (by decide) (by decide)) _

end results

/-! ### The device state that a command enters (R65) -/

section states
variable (s : State)

theorem State.dev_of_held {s t : State} (h : t.held = s.held) : t.dev = s.dev := by
  obtain ⟨-, -, -, -, -, hreg, -⟩ := State.of_held h
  exact State.fld_congr hreg _

theorem State.dev_enter {v : Nat} (hv : v < 16) : (s.enter v).dev = v := by
  unfold State.enter
  split
  · assumption
  · calc ((((s.setDev v).devDerate).conflictIf fun _ => true).unitsFollow).dev
        = ((s.setDev v).devDerate).dev := State.dev_of_held ((State.held_unitsFollow _).trans (State.held_conflictIf _ _))
      _ = (s.setDev v).dev := State.fld_setFld_beside _ _ _ _ _ (by decide) (by decide)
      _ = v := (State.fld_setFld_same _ _ _ _ (by decide)).trans (Nat.mod_eq_of_lt hv)

theorem State.held_rmEvaluate : s.rmEvaluate.held = s.held := by
  have heach (u : State) (l : List Nat) :
      (u.each l fun w n => w.updDrv n fun d => { d with lineOffAt := none, lineOnAt := some w.now }).held = u.held :=
    u.held_each fun w n _ => w.held_updDrv _ _
  simp [State.rmEvaluate, State.rmDecide, heach]

theorem State.held_startNetWd : s.startNetWd.held = s.held := by
  have hrm (u : State) : (u.updRm fun r => { r with netAt := s.now }).held = u.held := Prod.ext rfl rfl
  unfold State.startNetWd
  split
  · exact (hrm _).trans (State.held_setBit _ _ _ (by decide))
  · rfl

theorem State.armNow_dev : s.armNow.dev = stARMED :=
  (State.dev_of_held ((State.held_rmEvaluate _).trans (State.held_startNetWd _))).trans (s.dev_enter (by decide))

/-- With lines and outputs off a state shows neither. -/
theorem State.linesOutputsOff_shows : ((s.linesOff 0xFFFFFF).outputsOff 0xFF).shows .lines ∧ ((s.linesOff 0xFFFFFF).outputsOff 0xFF).shows .outputs :=
  ⟨(State.reacts_outputsOff _ _).keeps .lines (State.linesOff_all _), State.outputsOff_all _⟩

theorem State.linesOff_diag (mask : Nat) : (s.linesOff mask).diag = s.diag :=
  (congrArg State.diag (s.linesOff_frame mask).2).trans rfl

/-- The state in which DIAG is entered, before lines and outputs go off. -/
def State.diagEntered (s : State) : State :=
  let s := if s.dev = stSAFE then s.releaseOrders else s
  let s := s.each s.rgns State.resetPre
  let s := s.each s.slots fun u n => u.updDrv n fun d => { d with marked := false, pendDiag := false, diagAt := none }
  { s.enter stDIAG with diag := { step := 1, slot := 0 } }

theorem State.enterDiag_eq : s.enterDiag = (s.diagEntered.linesOff 0xFFFFFF).outputsOff 0xFF := rfl

theorem State.diagEntered_dev : s.diagEntered.dev = stDIAG := State.dev_enter _ (by decide)

theorem State.enterDiag_diag : s.enterDiag.diag.step = 1 := by
  have houtputs (u : State) : (u.outputsOff 0xFF).diag = u.diag := rfl
  rw [State.enterDiag_eq, houtputs, State.linesOff_diag]
  rfl

end states

/-! ### The commands -/

/-- The lock set by SET_LOCK, before the session ends. -/
def State.lockSet (s : State) : State :=
  (s.updStore fun p => { p with locked := true, ever := true, lockCnt := min (s.store.lockCnt + 1) 255 }).setNat Reg.GLB_COMLOCK
    (min (s.store.lockCnt + 1) 255 * 256 + 3)

theorem State.lockSet_locked (s : State) : s.lockSet.locked = true := by
  simp only [State.lockSet, State.locked, State.bit, State.fld, State.reg_setNat_same, Field.get, Fld.GLB_COMLOCK_LOCKED, BitVec.toNat_ofNat,
    bne_iff_ne]
  omega

section commands
variable {s : State}

/-- A command outside a transition takes its own arm (R66). -/
theorem State.devCmd_idle (h : s.bit Reg.GLB_DEVSTATE Fld.GLB_DEVSTATE_TRANS = false) : s.devCmd 1 = s.doArm ∧ s.devCmd 2 = s.doDisarm ∧
    s.devCmd 3 = s.doDiag ∧ s.devCmd 4 = s.doReload ∧ s.devCmd 6 = s.doSetLock := by
  simp [State.devCmd, h]

variable (hrun : s.cdRun = true) (htrans : s.bit Reg.GLB_DEVSTATE Fld.GLB_DEVSTATE_TRANS = false)

section idle
include hrun htrans

theorem arm_enters (hok : s.armOk = true) (hlow : s.lowPower = false) :
    Completes .arm s fun t => t.dev = stARMED ∧ t.fld Reg.GLB_DEVRESULT Fld.GLB_DEVRESULT_RESULT = rcDONE := by
  have harm : s.doArm = s.armNow.cmdResult 1 rcDONE := by simp [State.doArm, hok, hlow]
  obtain ⟨hcmd, -⟩ := State.devCmd_idle htrans
  refine completes_onlyIf (f := fun s => s.devCmd 1) rfl hrun ?_
  rw [hcmd, harm]
  exact ⟨(State.cmdResult_settle_dev _ _ _).trans s.armNow_dev, State.cmdResult_settle_result _ _ _ (by decide)⟩

theorem arm_refused (hok : s.armOk = false) :
    Completes .arm s fun t => t.fld Reg.GLB_DEVRESULT Fld.GLB_DEVRESULT_RESULT = rcCOND ∧ Only (fun a => a = Reg.GLB_DEVRESULT) s t := by
  have harm : s.doArm = s.cmdResult 1 rcCOND := by simp [State.doArm, hok]
  obtain ⟨hcmd, -⟩ := State.devCmd_idle htrans
  refine completes_onlyIf (f := fun s => s.devCmd 1) rfl hrun ?_
  rw [hcmd, harm]
  exact ⟨State.cmdResult_settle_result _ _ _ (by decide), (State.cmdResult_only _ _ _).settle⟩

theorem disarm_enters (hdev : s.dev = stARMED) :
    Completes .disarm s fun t => t.dev = stSTANDBY ∧ t.fld Reg.GLB_DEVRESULT Fld.GLB_DEVRESULT_RESULT = rcDONE := by
  have hdisarm : s.doDisarm = ((s.enter stSTANDBY).rmEvaluate).cmdResult 2 rcDONE := if_pos hdev
  obtain ⟨-, hcmd, -⟩ := State.devCmd_idle htrans
  refine completes_onlyIf (f := fun s => s.devCmd 2) rfl hrun ?_
  rw [hcmd, hdisarm]
  refine ⟨(State.cmdResult_settle_dev _ _ _).trans ((State.dev_of_held (State.held_rmEvaluate _)).trans (s.dev_enter (by decide))), ?_⟩
  exact State.cmdResult_settle_result _ _ _ (by decide)

theorem diag_enters (hdev : s.dev = stSTANDBY) (hlow : s.lowPower = false) :
    Completes .diag s fun t => t.dev = stDIAG ∧ t.diag.step = 1 ∧ t.reg Reg.SAFE_LINES = 0 ∧
      t.fld Reg.GLB_DEVRESULT Fld.GLB_DEVRESULT_RESULT = rcDONE := by
  have hdiag : s.doDiag = s.enterDiag.cmdResult 3 rcDONE := by simp [State.doDiag, hdev, hlow]
  have hoff := State.linesOutputsOff_shows s.diagEntered
  have hentered : s.enterDiag.dev = stDIAG :=
    (State.dev_of_held ((State.held_outputsOff _ _).trans (State.held_linesOff _ _))).trans s.diagEntered_dev
  obtain ⟨-, -, hcmd, -⟩ := State.devCmd_idle htrans
  refine completes_onlyIf (f := fun s => s.devCmd 3) rfl hrun ?_
  rw [hcmd, hdiag]
  refine ⟨(State.cmdResult_settle_dev _ _ _).trans hentered, ?_, (State.cmdResult_settle_reg _ _ _ (by decide) (by decide)).trans hoff.1,
    State.cmdResult_settle_result _ _ _ (by decide)⟩
  rw [State.settle_diag]
  exact s.enterDiag_diag

theorem reload_enters (hdev : s.dev = stSTANDBY) :
    Completes .reload s fun t => t.dev = stCONFIG ∧ t.reg Reg.SAFE_LINES = 0 ∧ t.fld Reg.SAFE_SO Fld.SAFE_SO_ON = 0 ∧
      t.fld Reg.GLB_DEVRESULT Fld.GLB_DEVRESULT_RESULT = rcDONE := by
  obtain ⟨u, hreload⟩ : ∃ u : State, s.doReload = (((u.enter stCONFIG).linesOff 0xFFFFFF).outputsOff 0xFF).cmdResult 4 rcDONE :=
    ⟨_, if_pos hdev⟩
  have hoff := State.linesOutputsOff_shows (u.enter stCONFIG)
  have hentered : (((u.enter stCONFIG).linesOff 0xFFFFFF).outputsOff 0xFF).dev = stCONFIG :=
    (State.dev_of_held ((State.held_outputsOff _ _).trans (State.held_linesOff _ _))).trans (u.dev_enter (by decide))
  obtain ⟨-, -, -, hcmd, -⟩ := State.devCmd_idle htrans
  refine completes_onlyIf (f := fun s => s.devCmd 4) rfl hrun ?_
  rw [hcmd, hreload]
  exact ⟨(State.cmdResult_settle_dev _ _ _).trans hentered, (State.cmdResult_settle_reg _ _ _ (by decide) (by decide)).trans hoff.1,
    (State.fld_congr (State.cmdResult_settle_reg _ _ _ (by decide) (by decide)) _).trans hoff.2, State.cmdResult_settle_result _ _ _ (by decide)⟩

theorem setLock_locks (hdev : s.dev = stSTANDBY) (htxn : s.noTxn = true) (hconf : s.store.conf.isSome = true)
    (hchk : s.bit Reg.SAFE_STAT Fld.SAFE_STAT_CHK_OK = true) :
    Completes .setLock s fun t => t.locked ∧ t.store.locked ∧ t.store.lockCnt = min (s.store.lockCnt + 1) 255 ∧
      t.fld Reg.GLB_DEVRESULT Fld.GLB_DEVRESULT_RESULT = rcDONE := by
  have hlock : s.doSetLock = s.lockSet.endSession.cmdResult 6 rcDONE := by simp [State.doSetLock, State.lockSet, hdev, htxn, hconf, hchk]
  have hcreds := s.lockSet.creds_endSession
  simp only [State.creds, Prod.mk.injEq] at hcreds
  obtain ⟨-, hlocked, hcnt, -, hreg⟩ := hcreds
  obtain ⟨-, -, -, -, hcmd⟩ := State.devCmd_idle htrans
  refine completes_onlyIf (f := fun s => s.devCmd 6) rfl hrun ?_
  rw [hcmd, hlock]
  refine ⟨?_, ?_, ?_, State.cmdResult_settle_result _ _ _ (by decide)⟩
  · have hshown : (s.lockSet.endSession.cmdResult 6 rcDONE).settle.reg Reg.GLB_COMLOCK = s.lockSet.reg Reg.GLB_COMLOCK :=
      (State.cmdResult_settle_reg _ _ _ (by decide) (by decide)).trans (hreg.trans (State.reg_setFld_other _ _ _ (by decide)))
    exact (State.bit_congr hshown _).trans s.lockSet_locked
  · rw [State.settle_store]
    exact hlocked
  · rw [State.settle_store]
    exact hcnt

end idle

/-! SAFE, in a transition and outside one (R66) -/

include hrun

theorem safe_enters (hdev : s.dev ≠ stLOCKOUT) :
    Completes .safe s fun t => (t.dev = stSAFE ∨ t.dev = stLOCKOUT) ∧ t.reg Reg.SAFE_LINES = 0 ∧
      t.fld Reg.GLB_DEVRESULT Fld.GLB_DEVRESULT_RESULT = rcDONE := by
  have hsafe : s.devCmd 5 = (s.cdSafe 0x0C).cmdResult 5 rcDONE := by simp [State.devCmd, State.doSafe, hdev]
  have hlines : (s.cdSafe 0x0C).shows .lines := (State.reacts_causeGone _ _).keeps .lines (s.packageSafe_off 0x0C dmCD).1
  refine completes_onlyIf (f := fun s => s.devCmd 5) rfl hrun ?_
  rw [hsafe]
  refine ⟨?_, (State.cmdResult_settle_reg _ _ _ (by decide) (by decide)).trans hlines, State.cmdResult_settle_result _ _ _ (by decide)⟩
  rw [State.cmdResult_settle_dev]
  exact s.cdSafe_halted 0x0C hrun

theorem safe_refused (hdev : s.dev = stLOCKOUT) :
    Completes .safe s fun t => t.fld Reg.GLB_DEVRESULT Fld.GLB_DEVRESULT_RESULT = rcSTATE ∧ Only (fun a => a = Reg.GLB_DEVRESULT) s t := by
  have hsafe : s.devCmd 5 = s.cmdResult 5 rcSTATE := by simp [State.devCmd, State.doSafe, hdev]
  refine completes_onlyIf (f := fun s => s.devCmd 5) rfl hrun ?_
  rw [hsafe]
  exact ⟨State.cmdResult_settle_result _ _ _ (by decide), (State.cmdResult_only _ _ _).settle⟩

end commands

/-! ### The end of a derating (R67) -/

section derating
variable (s : State) (k : Nat)

theorem Only.delivered {p q : Nat → Prop} {s t : State} (h : ∀ a, p a → deliveryReg a) (hs : Only p s t) : Only q s t :=
  ⟨fun a hd _ => hs.1 a hd fun hp => hd (h a hp), hs.2⟩

theorem deliveryReg_rec : deliveryReg Reg.REC_STAT ∧ ∀ a, FlagSrc.recd.owns 3 a = true → deliveryReg a := by
  refine ⟨by simp [deliveryReg, Reg.REC_STAT], fun a ha => ?_⟩
  simp only [FlagSrc.owns, FlagSrc.addr, FlagSrc.counter, FlagSrc.cnt0, Reg.REC_FLAGS, Reg.REC_CNT0, Option.any_some, Bool.or_eq_true,
    beq_iff_eq] at ha
  simp only [deliveryReg]
  omega

theorem Only.enqueue (q : Nat → Prop) (e : RecEntry) : Only q s (s.enqueue e) := by
  refine Only.delivered (p := fun a => a = Reg.REC_STAT) (fun a ha => ha ▸ deliveryReg_rec.1) ⟨fun _ _ ha => ?_, rfl⟩
  exact State.reg_setFld_other _ _ _ ha

theorem Only.endFreeze (q : Nat → Prop) : Only q s (s.endFreeze true) := by
  have hraise : s.endFreeze true = (s.setBit Reg.REC_STAT Fld.REC_STAT_FROZEN false).raise .recd 3 := by
    simp [State.endFreeze, State.raiseIf]
  have hstat : Only q s (s.setBit Reg.REC_STAT Fld.REC_STAT_FROZEN false) :=
    Only.delivered (p := fun a => a = Reg.REC_STAT) (fun a ha => ha ▸ deliveryReg_rec.1) (Only.setFld s _ _ _)
  rw [hraise]
  exact hstat.trans (Only.delivered deliveryReg_rec.2 (Only.raise _ .recd 3))

/-- A system entry of the recorder, or one suppressed (R432, R443). -/
theorem Only.record (src bits : Nat) (l : List Nat) : Only (fun a => a = Reg.REC_SYSSUPP) s (s.record src bits l) := by
  unfold State.record State.systemEntry
  simp only
  split
  · exact Only.setReg s _ _
  · split
    · exact (Only.enqueue s _ _).trans (Only.endFreeze _ _)
    · exact Only.enqueue s _ _

theorem Only.clusters {p : Nat → Prop} {s t : State} (h : Only p s t) : t.clusters = s.clusters := by rw [h.2]; rfl

/-- What DERATE_EXPIRY may write beside the cluster. -/
def derateRegs (k a : Nat) : Prop := a = Reg.CLU_STAT k ∨ a = Reg.CLU_DC_ILIM_EFF k ∨ a = Reg.GLB_DEVSTATE ∨ a = Reg.REC_SYSSUPP

/-- DERATE of a cluster cleared, recorded and shown by the device. -/
def State.derateCleared : State := ((s.setBit (Reg.CLU_STAT k) Fld.CLU_STAT_DERATE false).record (Reg.CLU_STAT k) 8 [k, 0]).devDerate

theorem Only.derateCleared : Only (derateRegs k) s (s.derateCleared k) := by
  have hbit : Only (derateRegs k) s (s.setBit (Reg.CLU_STAT k) Fld.CLU_STAT_DERATE false) := (Only.setFld s _ _ _).mono fun _ h => .inl h
  have hrec (u : State) : Only (derateRegs k) u (u.record (Reg.CLU_STAT k) 8 [k, 0]) := (Only.record u _ _ _).mono fun _ h => .inr (.inr (.inr h))
  have hdev (u : State) : Only (derateRegs k) u u.devDerate := (Only.setFld u _ _ _).mono fun _ h => .inr (.inr (.inl h))
  exact (hbit.trans (hrec _)).trans (hdev _)

theorem Only.showIlim : Only (derateRegs k) s (s.showIlim k) := by
  unfold State.showIlim
  split
  · exact (Only.setFld s _ _ _).mono fun _ h => .inr (.inl h)
  · exact Only.refl s _

theorem State.derateCleared_bit (hk : k < 12) : (s.derateCleared k).bit (Reg.CLU_STAT k) Fld.CLU_STAT_DERATE = false := by
  have hstat : periph (Reg.CLU_STAT k) = false := Bool.eq_false_iff.2 fun h => by
    simp only [periph, Reg.CLU_STAT, Bool.or_eq_true, Bool.and_eq_true, Nat.ble_eq, Nat.blt_eq] at h
    omega
  have hrec (u : State) : (u.record (Reg.CLU_STAT k) 8 [k, 0]).reg (Reg.CLU_STAT k) = u.reg (Reg.CLU_STAT k) := by
    have h := congrFun (congrArg Prod.snd (u.core_record (Reg.CLU_STAT k) 8 [k, 0])) (Reg.CLU_STAT k)
    simpa [State.core, hstat] using h
  have hdev (u : State) : u.devDerate.reg (Reg.CLU_STAT k) = u.reg (Reg.CLU_STAT k) :=
    State.reg_setFld_other _ _ _ (by simp only [Reg.CLU_STAT, Reg.GLB_DEVSTATE]; omega)
  exact (State.bit_congr ((hdev _).trans (hrec _)) _).trans (State.bit_setBit_same _ _ _ _ (by decide) rfl)

theorem State.showIlim_bit : (s.showIlim k).bit (Reg.CLU_STAT k) Fld.CLU_STAT_DERATE = s.bit (Reg.CLU_STAT k) Fld.CLU_STAT_DERATE := by
  unfold State.showIlim
  split
  · exact State.bit_congr (State.reg_setFld_other _ _ _ (by simp only [Reg.CLU_STAT, Reg.CLU_DC_ILIM_EFF]; omega)) _
  · rfl

end derating

theorem derateExpiry_clears {s : State} (k : Clu) (hrun : s.cdRun = true) (hbit : s.bit (Reg.CLU_STAT k.val) Fld.CLU_STAT_DERATE = true)
    (hact : (s.cluster k.val).derating = false) (hage : ((s.cluster k.val).derAt.all fun x => s.since x (secs 1)) = true) :
    Completes (.derateExpiry k) s fun t => t.bit (Reg.CLU_STAT k.val) Fld.CLU_STAT_DERATE = false ∧
      Only (derateRegs k.val) { s with clusters := t.clusters } t := by
  have hclear : (s.bit (Reg.CLU_STAT k.val) Fld.CLU_STAT_DERATE && !(s.cluster k.val).derating && s.secondAfter (s.cluster k.val).derAt) = true := by
    simp [hbit, hact, State.secondAfter, hage]
  obtain ⟨f, hexec⟩ : ∃ f, execDerateExpiry k s = onlyIf s.cdRun s fun u => ((u.updCluster k.val f).derateCleared k.val).showIlim k.val := by
    refine ⟨fun c => { c with derScale := c.derScale && !((s.cluster k.val).derScale && !(s.cluster k.val).derThermal &&
      s.secondAfter (s.cluster k.val).scaleAt), derAt := none }, ?_⟩
    simp only [execDerateExpiry, hclear, Bool.true_or, Bool.and_true, if_true]
    rfl
  refine completes_onlyIf hexec hrun ⟨?_, ?_⟩
  · exact (State.settle_bit_low _ _ (by simp only [Reg.CLU_STAT]; omega)).trans ((State.showIlim_bit _ _).trans (State.derateCleared_bit _ _ k.isLt))
  · have honly := ((Only.derateCleared (s.updCluster k.val f) k.val).trans (Only.showIlim _ k.val)).settle
    rwa [honly.clusters]

/-- Settles O24: a clause for each command and each refusal. -/
theorem stateCommandsComplete : Obligations.StateCommandsComplete := by
  unfold Obligations.StateCommandsComplete
  exact ⟨fun _ hrun htrans hok hlow => arm_enters hrun htrans hok hlow, fun _ hrun htrans hok => arm_refused hrun htrans hok,
    fun _ hrun htrans hdev => disarm_enters hrun htrans hdev, fun _ hrun htrans hdev hlow => diag_enters hrun htrans hdev hlow,
    fun _ hrun htrans hdev => reload_enters hrun htrans hdev, fun _ hrun hdev => safe_enters hrun hdev, fun _ hrun hdev => safe_refused hrun hdev,
    fun _ hrun htrans hdev htxn hconf hchk => setLock_locks hrun htrans hdev htxn hconf hchk,
    fun k _ hrun hbit hact hage => derateExpiry_clears k hrun hbit hact hage⟩

end Sys2Proof.Machine
end

section
/-!
SUPPORT. Settles O26: keys, nonces and authorisations, the images and what a COMMISSION session permits (R69, R70, R75, R82, R83, R85, R441).
-/

namespace Sys2Proof.Machine

/-! ### The nonce and the keys (R83) -/

section keys
variable {s : State}

/-- A command that changes the authorisations alone among what is no register. -/
theorem Only.auths {p : Nat → Prop} {u : State} (h : Only p { s with auths := u.auths } u) : Only p { s with auths := u.settle.auths } u.settle := by
  rw [State.settle_auths]
  exact h.settle

/-- A frame keeps the store, the authorisations and the safety log. -/
theorem Only.kept {p : Nat → Prop} {t u : State} (h : Only p t u) :
    u.settle.store = t.store ∧ u.settle.auths = t.auths ∧ u.settle.safetyLog = t.safetyLog := by
  rw [State.settle_store, State.settle_auths, State.settle_safetyLog, h.2]
  exact ⟨rfl, rfl, rfl⟩

/-- A command that changes the store alone among what is no register. -/
theorem Only.store {p : Nat → Prop} {f : Store → Store} {u : State} (h : Only p (s.updStore f) u) :
    Only p { s with store := u.settle.store } u.settle := by
  rw [h.kept.1]
  exact h.settle

theorem Only.logSafety {p : Nat → Prop} {t u : State} (h : Only p t u) (code data key : Nat) :
    Only p (t.logSafety code data key) (u.logSafety code data key) :=
  ⟨h.1, (congrArg (fun x => x.logSafety code data key) h.2).trans rfl⟩

/-- One that changes the store and adds to the safety log. -/
theorem Only.storeLog {p : Nat → Prop} {f : Store → Store} {code data key : Nat} {u : State}
    (h : Only p ((s.updStore f).logSafety code data key) u) :
    Only p { s with store := u.settle.store, safetyLog := u.settle.safetyLog } u.settle := by
  rw [h.kept.1, h.kept.2.2]
  exact h.settle

theorem nonceRead_issues (nonce : Nat) (hrun : s.cdRun = true) :
    Completes (.nonceRead nonce) s fun t => t.auths.nonce = some (nonce % 2 ^ 128, s.now) ∧ Only (fun _ => False) { s with auths := t.auths } t := by
  refine completes_onlyIf (f := fun s => { s with auths := { s.auths with nonce := some (nonce % 2 ^ 128, s.now) } }) rfl hrun ⟨?_, ?_⟩
  · rw [State.settle_auths]
  · exact Only.auths (Only.refl _ _)

theorem nonceExpiry_ends {n t0 : Nat} (hn : s.auths.nonce = some (n, t0)) (hage : s.since t0 (secs 300) = true) :
    Completes .nonceExpiry s fun t => t.auths.nonce = none ∧ Only (fun _ => False) { s with auths := t.auths } t := by
  have hexec : execNonceExpiry s = onlyIf (s.since t0 (secs 300)) s State.useNonce := by simp only [execNonceExpiry, hn]
  refine completes_onlyIf hexec hage ⟨?_, ?_⟩
  · rw [State.settle_auths]
    rfl
  · exact Only.auths (Only.refl s.useNonce _)

theorem presenceTimeout_ends {key t0 : Nat} (hi : s.auths.install = some (key, t0)) (hage : s.since t0 (secs 60) = true) :
    Completes .presenceTimeout s fun t => t.auths.install = none ∧ Only (fun _ => False) { s with auths := t.auths } t := by
  have hexec : execPresenceTimeout s = onlyIf (s.since t0 (secs 60)) s fun s => { s with auths := { s.auths with install := none } } := by
    simp only [execPresenceTimeout, hi]
  refine completes_onlyIf hexec hage ⟨?_, ?_⟩
  · rw [State.settle_auths]
  · exact Only.auths (Only.refl _ _)

theorem installKey_requests (key : Nat) (hrun : s.cdRun = true) (hkeys : s.store.keys = []) :
    Completes (.installCommissioningKey key) s fun t =>
      t.auths.install = some (key, s.now) ∧ t.store.keys = [] ∧ Only (fun _ => False) { s with auths := t.auths } t := by
  have hexec : execInstallCommissioningKey key s =
      onlyIf s.cdRun s fun _ => { s with auths := { s.auths with install := some (key, s.now) } } := by
    simp [execInstallCommissioningKey, onlyIf, hkeys]
  refine completes_onlyIf hexec hrun ⟨?_, ?_, ?_⟩
  · rw [State.settle_auths]
  · rw [State.settle_store]
    exact hkeys
  · exact Only.auths (Only.refl _ _)

theorem installKey_installs {key k : Nat} (hrun : s.cdRun = true) (hkeys : s.store.keys ≠ []) (hcom : s.commissioning = true)
    (hfree : s.freeKey = some k) :
    Completes (.installCommissioningKey key) s fun t =>
      t.store.keys = s.store.keys ++ [(k, key, false)] ∧ t.bit Reg.GLB_BOOTSTAT Fld.GLB_BOOTSTAT_FIRST_KEY = false ∧
      Only (fun a => a = Reg.GLB_BOOTSTAT) { s with store := t.store, safetyLog := t.safetyLog } t := by
  have hexec : execInstallCommissioningKey key s = onlyIf s.cdRun s fun _ => ((s.updStore fun p =>
      { p with keys := p.keys ++ [(k, key, false)] }).setBit Reg.GLB_BOOTSTAT Fld.GLB_BOOTSTAT_FIRST_KEY false).logSafety 0x10 k s.sessionKey := by
    simp [execInstallCommissioningKey, onlyIf, hkeys, hcom, State.installKey, hfree, State.sessionKey]
  refine completes_onlyIf hexec hrun ⟨?_, ?_, ?_⟩
  · rw [State.settle_store]
    rfl
  · rw [State.settle_bit_low _ _ (by decide), State.logSafety_bit]
    exact State.bit_setBit_same _ _ _ _ (by decide) rfl
  · exact Only.storeLog ((Only.setFld _ _ _ _).logSafety _ _ _)

theorem revokeKey_revokes (slot : Fin 4) (hrun : s.cdRun = true) (hcom : s.commissioning = true)
    (hkey : (s.store.keys.any fun e => e.1 == slot.val) = true) :
    Completes (.revokeCommissioningKey slot) s fun t =>
      (t.store.keys.all fun e => e.1 != slot.val || e.2.2) ∧ Only (fun _ => False) { s with store := t.store, safetyLog := t.safetyLog } t := by
  refine completes_onlyIf (f := fun s => (s.updStore fun p => { p with keys := p.keys.map fun e =>
    if e.1 = slot.val then (e.1, e.2.1, true) else e }).logSafety 0x11 slot.val s.sessionKey) rfl (by simp [hrun, hcom, hkey]) ⟨?_, ?_⟩
  · rw [State.settle_store, List.all_eq_true]
    intro e he
    obtain ⟨x, -, rfl⟩ := List.mem_map.1 he
    by_cases hx : x.1 = slot.val <;> simp [hx]
  · exact Only.storeLog (Only.refl _ _)

end keys

/-! ### Authorisations (R83, R85, R441) -/

section authorised
variable {s : State} (x : Auth)

/-- A command under an authorisation that verifies uses the nonce and carries out its grant. -/
theorem completes_withAuth {i : Instr} {c : Bool} {f : State → State} {p : State → Prop} (he : exec i s = onlyIf c s fun s => s.withAuth x f)
    (hc : c = true) (hok : s.authOk x = true) (hp : p (f s.useNonce).settle) : Completes i s p := by
  have hgrant : s.withAuth x f = f s.useNonce := if_pos hok
  exact completes_onlyIf he hc (by rwa [hgrant])

theorem commission_opens (hrun : s.cdRun = true) (hlock : s.locked = false) (hok : s.authOk x = true) :
    Completes (.commission x) s fun t => t.auths.session = some (x.key.val, s.now) ∧ t.auths.nonce = none ∧ t.commissioning ∧
      Only (fun a => a = Reg.GLB_DEVSTATE ∨ a = Reg.DBG_STAT) { s with auths := t.auths } t := by
  refine completes_withAuth x (f := fun s =>
    (({ s with auths := { s.auths with session := some (x.key.val, s.now) } } : State).setBit Reg.GLB_DEVSTATE
      Fld.GLB_DEVSTATE_COMMISSION true).setFld Reg.DBG_STAT ⟨0, 1⟩ 1) rfl (by simp [hrun, hlock]) hok ⟨?_, ?_, ?_, ?_⟩
  · rw [State.settle_auths]
    rfl
  · rw [State.settle_auths]
    rfl
  · exact (State.settle_bit_low _ _ (by decide)).trans ((State.bit_congr (State.reg_setFld_other _ _ _ (by decide)) _).trans
      (State.bit_setBit_same _ _ _ _ (by decide) rfl))
  · refine Only.auths ⟨fun a _ ha => ?_, rfl⟩
    exact (State.reg_setFld_other _ _ _ fun h => ha (.inr h)).trans (State.reg_setFld_other _ _ _ fun h => ha (.inl h))

theorem lockRelease_releases (hrun : s.cdRun = true) (hlock : s.locked = true) (hok : s.authOk x = true) :
    Completes (.lockRelease x) s fun t => t.locked = false ∧ t.store.locked = false ∧ t.auths.nonce = none ∧
      Only (fun a => a = Reg.GLB_COMLOCK) { s with store := t.store, auths := t.auths, safetyLog := t.safetyLog } t := by
  refine completes_withAuth x (f := fun s => ((s.updStore fun p => { p with locked := false }).setBit Reg.GLB_COMLOCK
    Fld.GLB_COMLOCK_LOCKED false).logSafety 0x12 0 x.key.val) rfl (by simp [hrun, hlock]) hok ⟨?_, ?_, ?_, ?_⟩
  · rw [State.locked, State.settle_bit_low _ _ (by decide), State.logSafety_bit]
    exact State.bit_setBit_same _ _ _ _ (by decide) rfl
  · rw [State.settle_store]
    rfl
  · rw [State.settle_auths]
    rfl
  · have honly : Only (fun a => a = Reg.GLB_COMLOCK) ((s.useNonce.updStore fun p => { p with locked := false }).logSafety 0x12 0 x.key.val)
        (((s.useNonce.updStore fun p => { p with locked := false }).setBit Reg.GLB_COMLOCK Fld.GLB_COMLOCK_LOCKED false).logSafety
          0x12 0 x.key.val) :=
      (Only.setFld _ _ _ _).logSafety _ _ _
    obtain ⟨hstore, hauths, hlog⟩ := honly.kept
    rw [hstore, hauths, hlog]
    exact honly.settle

theorem State.settle_clearAuth (u : State) : u.settle.recst.clearAuth = u.recst.clearAuth := by
  obtain ⟨_, _, _, hrecst⟩ := (Del.settle u).recst
  rw [hrecst]

theorem recorderClearAuth_permits (hrun : s.cdRun = true) (hok : s.authOk x = true) :
    Completes (.recorderClearAuth x) s fun t => t.recst.clearAuth = some (s.now, x.key.val, x.nonce) ∧ t.auths.nonce = none ∧
      Only (fun _ => False) { s with auths := t.auths } t := by
  refine completes_withAuth x (f := fun s => { s with recst := { s.recst with clearAuth := some (s.now, x.key.val, x.nonce) } }) rfl hrun hok
    ⟨?_, ?_, ?_⟩
  · rw [State.settle_clearAuth]
    rfl
  · rw [State.settle_auths]
    rfl
  · exact Only.auths ⟨fun _ _ _ => rfl, rfl⟩

theorem commissionSessionEnd_ends {k t0 : Nat} (hs : s.auths.session = some (k, t0)) (hage : s.since t0 (secs 28800) = true) :
    Completes .commissionSessionEnd s fun t => t.auths.session = none ∧ t.commissioning = false := by
  have hexec : execCommissionSessionEnd s = onlyIf (s.since t0 (secs 28800)) s State.endSession := by simp only [execCommissionSessionEnd, hs]
  have hcreds := s.creds_endSession
  simp only [State.creds, Prod.mk.injEq] at hcreds
  obtain ⟨hauths, -, -, hcom, -⟩ := hcreds
  refine completes_onlyIf hexec hage ⟨?_, ?_⟩
  · rw [State.settle_auths, hauths]
    rfl
  · exact (State.settle_bit_low _ _ (by decide)).trans (hcom.trans (State.bit_setBit_same _ _ _ _ (by decide) rfl))

end authorised

/-! ### Owner keys, images and overrides (R69, R70, R75) -/

section images
variable {s : State}

theorem fuseOwnerKeys_fuses (slot : Fin 2) (hash : Nat) (hrun : s.cdRun = true) (hcom : s.commissioning = true)
    (hfree : (s.store.owner.any fun p => p.1 == 2 + slot.val) = false) :
    Completes (.fuseOwnerKeys slot hash) s fun t =>
      t.store.owner = s.store.owner ++ [(2 + slot.val, hash)] ∧ Only (fun _ => False) { s with store := t.store } t := by
  refine completes_onlyIf (f := fun s => s.updStore fun p => { p with owner := p.owner ++ [(2 + slot.val, hash)] }) rfl
    (by simp only [hrun, hcom, hfree]; rfl) ⟨?_, ?_⟩
  · rw [State.settle_store]
    rfl
  · exact Only.store (Only.refl _ _)

theorem Only.showRollback (u : State) : Only (fun a => a = Reg.GLB_BOOTSTAT ∨ a = Reg.GLB_BOOTSTAT_LT) u u.showRollback :=
  (((Only.setFld u _ _ _).mono fun _ h => .inl h).trans ((Only.setFld _ _ _ _).mono fun _ h => .inl h)).trans
    ((Only.setReg _ _ _).mono fun _ h => .inr h)

theorem antirollback_advances (kind : ImgKind) (hrun : s.cdRun = true) (hcom : s.commissioning = true) (hboot : s.hasBooted (kindNo kind) = true) :
    Completes (.antirollbackAdvance kind) s fun t =>
      t.rollback (kindNo kind) = max (s.rollback (kindNo kind)) (min (s.image (kindNo kind) (s.bootedCopy (kindNo kind))).ver 96) ∧
      Only (fun a => a = Reg.GLB_BOOTSTAT ∨ a = Reg.GLB_BOOTSTAT_LT) { s with store := t.store } t := by
  refine completes_onlyIf (f := fun s => (s.updStore fun p => { p with
    rollback := File.set 0 p.rollback (kindNo kind)
      (max (s.rollback (kindNo kind)) (min (s.image (kindNo kind) (s.bootedCopy (kindNo kind))).ver 96)) }).showRollback) rfl
    (by simp only [hrun, hcom, hboot]; rfl) ⟨?_, ?_⟩
  · rw [State.rollback, State.settle_store]
    exact File.get_set_same _ _ _ _
  · exact Only.store (Only.showRollback _)

theorem State.settle_image (u : State) (k : Nat) (b : Bool) : u.settle.image k b = u.image k b := by
  rw [State.image, State.settle_store]
  rfl

theorem State.image_updImage_same (u : State) (k : Nat) (b : Bool) (f : ImgCopy → ImgCopy) : (u.updImage k b f).image k b = f (u.image k b) :=
  File.get_set_same _ _ _ _

theorem State.image_updImage_other (u : State) (k : Nat) {b c : Bool} (f : ImgCopy → ImgCopy) (h : c ≠ b) :
    (u.updImage k b f).image k c = u.image k c :=
  File.get_set_other _ _ _ (by simpa using h)

theorem imageWrite_writes (kind : ImgKind) (ver : Nat) (fw : Word) (sigOk : Bool) (hrun : s.cdRun = true) (hmt : (s.trip 4).runs = true) :
    Completes (.imageWrite kind ver fw sigOk) s fun t =>
      t.image (kindNo kind) (s.image (kindNo kind) false).good =
        { present := true, ver, fw, trial := sigOk && Nat.ble (s.rollback (kindNo kind)) ver && (Nat.blt (kindNo kind) 2 || s.ownerKey) } ∧
      t.image (kindNo kind) (!(s.image (kindNo kind) false).good) = s.image (kindNo kind) (!(s.image (kindNo kind) false).good) ∧
      Only (fun _ => False) { s with store := t.store } t := by
  refine completes_onlyIf (f := fun s => s.updImage (kindNo kind) (s.image (kindNo kind) false).good fun _ =>
    { present := true, ver, fw, trial := sigOk && Nat.ble (s.rollback (kindNo kind)) ver && (Nat.blt (kindNo kind) 2 || s.ownerKey) }) rfl
    (by simp [hrun, hmt]) ⟨?_, ?_, ?_⟩
  · exact (State.settle_image _ _ _).trans (State.image_updImage_same _ _ _ _)
  · exact (State.settle_image _ _ _).trans (State.image_updImage_other _ _ _ (by simp))
  · exact Only.store (Only.refl _ _)

/-- The driver die of a slot under an override, which notes the value of H_DIAG that it suspends. -/
def State.dieOverridden (s : State) (n : Nat) : State :=
  s.updDrv n fun d => { d with override := true, diagHeld := Fld.GDV_STAT_H_DIAG.on (s.reg (Reg.GDV_STAT n)) }

/-- H_FAILED and H_DIAG of a slot cleared under an override, which GDV_n_DIAG_RES shows. -/
def State.holdsSuspended (s : State) (n : Nat) : State :=
  ((s.setBit (Reg.GDV_STAT n) Fld.GDV_STAT_H_FAILED false).setBit (Reg.GDV_STAT n) Fld.GDV_STAT_H_DIAG false).setBit (Reg.GDV_DIAG_RES n)
    Fld.GDV_DIAG_RES_OVERRIDE true

theorem Only.holdsSuspended (u : State) (n : Nat) : Only (fun a => a = Reg.GDV_STAT n ∨ a = Reg.GDV_DIAG_RES n) u (u.holdsSuspended n) :=
  (((Only.setFld u _ _ _).mono fun _ h => .inl h).trans ((Only.setFld _ _ _ _).mono fun _ h => .inl h)).trans
    ((Only.setFld _ _ _ _).mono fun _ h => .inr h)

theorem State.holdsSuspended_bits (u : State) (n : Nat) : (u.holdsSuspended n).bit (Reg.GDV_STAT n) Fld.GDV_STAT_H_FAILED = false ∧
    (u.holdsSuspended n).bit (Reg.GDV_STAT n) Fld.GDV_STAT_H_DIAG = false ∧
    (u.holdsSuspended n).bit (Reg.GDV_DIAG_RES n) Fld.GDV_DIAG_RES_OVERRIDE = true := by
  have hres (v : State) (f : Field) :
      (v.setBit (Reg.GDV_DIAG_RES n) Fld.GDV_DIAG_RES_OVERRIDE true).bit (Reg.GDV_STAT n) f = v.bit (Reg.GDV_STAT n) f :=
    State.bit_congr (State.reg_setFld_other _ _ _ (by simp only [Reg.GDV_STAT, Reg.GDV_DIAG_RES]; omega)) f
  refine ⟨(hres _ _).trans ?_, (hres _ _).trans (State.bit_setBit_same _ _ _ _ (by decide) rfl), State.bit_setBit_same _ _ _ _ (by decide) rfl⟩
  exact (State.bit_setBit_beside _ _ _ _ _ (by decide) (by decide)).trans (State.bit_setBit_same _ _ _ _ (by decide) rfl)

theorem slotOverride_suspends (n : Slot) (hrun : s.cdRun = true) (hcom : s.commissioning = true) (hn : n.val < s.variant.slots)
    (hover : (s.drv n.val).override = false)
    (hfail : (s.drv n.val).marked = true ∨ s.bit (Reg.GDV_STAT n.val) Fld.GDV_STAT_H_FAILED = true ∨
      s.bit (Reg.GDV_STAT n.val) Fld.GDV_STAT_H_DIAG = true) :
    Completes (.slotOverride n) s fun t => (t.drv n.val).override ∧ t.bit (Reg.GDV_STAT n.val) Fld.GDV_STAT_H_FAILED = false ∧
      t.bit (Reg.GDV_STAT n.val) Fld.GDV_STAT_H_DIAG = false ∧ t.bit (Reg.GDV_DIAG_RES n.val) Fld.GDV_DIAG_RES_OVERRIDE ∧
      Only (fun a => a = Reg.GDV_STAT n.val ∨ a = Reg.GDV_DIAG_RES n.val) { s with drvs := t.drvs, safetyLog := t.safetyLog } t := by
  have hcond : (s.cdRun && s.commissioning && Nat.blt n.val s.variant.slots && !(s.drv n.val).override &&
      ((s.drv n.val).marked || Fld.GDV_STAT_H_FAILED.on (s.reg (Reg.GDV_STAT n.val)) ||
        Fld.GDV_STAT_H_DIAG.on (s.reg (Reg.GDV_STAT n.val)))) = true := by
    simp only [State.bit, State.fld] at hfail
    simpa [hrun, hcom, hn, hover, Field.on, or_assoc] using hfail
  have hexec : exec (.slotOverride n) s = onlyIf _ s fun s =>
      ((s.dieOverridden n.val).holdsSuspended n.val).logSafety 0x13 n.val s.sessionKey := rfl
  obtain ⟨hfailed, hdiag, hres⟩ := (s.dieOverridden n.val).holdsSuspended_bits n.val
  have honly := (Only.holdsSuspended (s.dieOverridden n.val) n.val).logSafety 0x13 n.val s.sessionKey
  have hlow : Reg.GDV_STAT n.val < 0x60000 ∧ Reg.GDV_DIAG_RES n.val < 0x60000 := by
    simp only [Reg.GDV_STAT, Reg.GDV_DIAG_RES]
    omega
  have hdrvs : (((s.dieOverridden n.val).holdsSuspended n.val).logSafety 0x13 n.val s.sessionKey).settle.drvs = (s.dieOverridden n.val).drvs :=
    (State.settle_drvs _).trans rfl
  refine completes_onlyIf hexec hcond ⟨?_, ?_, ?_, ?_, ?_⟩
  · rw [State.drv, hdrvs]
    exact congrArg Drv.override (State.drv_updDrv_same s n.val _)
  · rw [State.settle_bit_low _ _ hlow.1, State.logSafety_bit]
    exact hfailed
  · rw [State.settle_bit_low _ _ hlow.1, State.logSafety_bit]
    exact hdiag
  · rw [State.settle_bit_low _ _ hlow.2, State.logSafety_bit]
    exact hres
  · obtain ⟨-, -, hlog⟩ := honly.kept
    rw [hdrvs, hlog]
    exact honly.settle

end images
end Sys2Proof.Machine
end

section
/-!
SUPPORT. Entry to BOOT: what is loaded, reported and made up for on the way keeps Ringmaster's start, the LOCKOUT record and the state BOOT
(R65, R81, R82, R451).
-/

namespace Sys2Proof.Machine

/-- What the cause check of BOOT reads, and the device state. -/
def State.bootView (s : State) : Bool × Bool × Option Nat × Option Nat × Nat := (s.rmRun, s.rm.failed, s.rm.noImage, s.store.lockout, s.dev)

theorem State.bootView_of_held {s t : State} (h : t.held = s.held) : t.bootView = s.bootView := by
  have hdev := State.dev_of_held h
  obtain ⟨hrun, hfailed, himg, -, hstore, -⟩ := State.of_held h
  simp only [State.bootView, hrun, hfailed, himg, hstore, hdev]

section recorder
variable (s : State)

@[simp] theorem State.held_incSat {a : Nat} (h : credReg a = false) : (s.incSat a).held = s.held := s.held_setNat _ h
@[simp] theorem State.held_breachWaits (src : Nat) (l : List Nat) : (s.breachWaits src l).held = s.held := Prod.ext rfl rfl
@[simp] theorem State.held_breach (src : Nat) (l : List Nat) : (s.breach src l).held = s.held := by
  unfold State.breach
  repeat' split
  all_goals simp
@[simp] theorem State.held_breachDue : s.breachDue.held = s.held := by
  unfold State.breachDue
  repeat' split
  all_goals simp
@[simp] theorem State.held_setCond (b : Nat) (on : Bool) : (s.setCond b on).held = s.held := by simp [State.setCond]
@[simp] theorem State.held_showPack : s.showPack.held = s.held :=
  (State.held_setCond _ _ _).trans (s.held_setFld _ _ rfl)
@[simp] theorem State.held_showRollback : s.showRollback.held = s.held :=
  (State.held_setNat _ _ rfl).trans ((State.held_setFld _ _ _ rfl).trans (s.held_setFld _ _ rfl))
theorem State.held_breachIf (c : Prop) [Decidable c] (src : Nat) (l : List Nat) : (if c then s.breach src l else s).held = s.held := by
  split <;> simp
@[simp] theorem State.held_showWorn : s.showWorn.held = s.held := s.held_each fun _ _ _ => by simp

@[simp] theorem State.held_ledgerBoot : s.ledgerBoot.held = s.held := by
  have hlost (v : State) (g : Nat) (l : List Nat) : (v.each l fun w i => (w.breach (Reg.LDG_STAT g) [g, i]).raise (.ldg g) 7).held = v.held :=
    v.held_each fun w i _ => by simp
  refine s.held_each fun u g _ => ?_
  dsimp only
  split <;> simp [apply_ite State.held, hlost]

@[simp] theorem State.held_ledgerDown : s.ledgerDown.held = s.held := s.held_each fun u _ _ => u.held_updLdg _ _

end recorder

/-! ### The steps of BOOT -/

section steps
variable (s old : State)

theorem State.bootView_each {α : Type} {l : List α} {f : State → α → State} (h : ∀ u x, (f u x).bootView = u.bootView) :
    (s.each l f).bootView = s.bootView := s.each_same State.bootView f l fun u x _ => h u x

theorem State.bootView_bootTrials : s.bootTrials.bootView = s.bootView := by
  have himage (u : State) (k : Nat) (b : Bool) (f : ImgCopy → ImgCopy) : (u.updImage k b f).bootView = u.bootView := Prod.ext rfl rfl
  have htrip (u : State) (k : Nat) (f : TripSt → TripSt) : (u.updTrip k f).bootView = u.bootView := State.bootView_of_held (u.held_updTrip k f)
  unfold State.bootTrials
  refine (State.bootView_each _ fun u b => ?_).trans (s.bootView_each fun u k => u.bootView_each fun w b => ?_)
  · split
    · exact himage _ _ _ _
    · rfl
  · split
    · exact (htrip _ _ _).trans (himage _ _ _ _)
    · rfl

theorem State.held_bootThermal (cycled : Bool) : (s.bootThermal old cycled).held = s.held := by
  simp [State.bootThermal, apply_ite State.held]

/-- A field written beside the device state. -/
theorem State.bootView_setFld (a : Nat) (f : Field) (v : Nat) (hdev : (s.setFld a f v).dev = s.dev) : (s.setFld a f v).bootView = s.bootView := by
  simp only [State.bootView, hdev, State.setFld_rmRun, State.setFld_rm, State.setFld_store]

theorem State.bootView_setFld_comlock (f : Field) (v : Nat) : (s.setFld Reg.GLB_COMLOCK f v).bootView = s.bootView :=
  s.bootView_setFld _ f v (State.fld_congr (s.reg_setFld_other f v (by decide)) _)

theorem State.bootView_showSafeCnt : s.showSafeCnt.bootView = s.bootView :=
  s.bootView_setFld _ _ _ (s.fld_setFld_beside _ _ _ _ (by decide) (by decide))

/-- The commissioning lock loaded from the store. -/
def State.lockLoaded (s : State) : State :=
  ((s.setBit Reg.GLB_COMLOCK Fld.GLB_COMLOCK_LOCKED s.store.locked).setBit Reg.GLB_COMLOCK Fld.GLB_COMLOCK_EVER_LOCKED s.store.ever).setFld
    Reg.GLB_COMLOCK Fld.GLB_COMLOCK_LOCK_CNT s.store.lockCnt

/-- The boot status: Ringmaster's copy, the first key, the anti-rollback counters. -/
def State.imagesLoaded (s old : State) : State :=
  let rmImg := old.bit Reg.GLB_BOOTSTAT Fld.GLB_BOOTSTAT_RM_IMG
  let s := (s.setBit Reg.GLB_BOOTSTAT Fld.GLB_BOOTSTAT_RM_IMG rmImg).setBit Reg.GLB_BOOTSTAT Fld.GLB_BOOTSTAT_FIRST_KEY s.store.keys.isEmpty
  let s := (s.setBit Reg.GLB_BOOTSTAT Fld.GLB_BOOTSTAT_FALLBACK
    (old.bit Reg.GLB_BOOTSTAT Fld.GLB_BOOTSTAT_FALLBACK && !s.rm.noImage.isSome)).showRollback
  if s.rm.ready && s.rm.noImage.isNone then s.setNat Reg.GLB_FWVER_RM (s.image 0 rmImg).fwver else s

/-- The fault counts of the slots. -/
def State.faultsLoaded (s : State) : State :=
  s.each s.slots fun u n =>
    (u.setFld (Reg.GDV_STAT n) Fld.GDV_STAT_FCOUNT (u.drv n).fcount).setBit (Reg.GDV_STAT n) Fld.GDV_STAT_H_FAILED (u.drv n).failed

theorem State.bootLoads_eq : s.bootLoads old =
    (((((s.lockLoaded.imagesLoaded old).setNat Reg.HIF_EPOCH ((old.reg Reg.HIF_EPOCH).toNat + 1)).faultsLoaded.setNat64 Reg.REC_SEQ_LO Reg.REC_SEQ_HI
      (old.reg64 Reg.REC_SEQ_LO Reg.REC_SEQ_HI)).setNat64 Reg.REC_OLDEST_LO Reg.REC_OLDEST_HI
      (old.reg64 Reg.REC_OLDEST_LO Reg.REC_OLDEST_HI)).showPack).showSafeCnt := rfl

theorem State.held_imagesLoaded : (s.imagesLoaded old).held = s.held := by
  have hshown (u : State) (c : Bool) (v : Nat) (h : u.held = s.held) : (if c then u.setNat Reg.GLB_FWVER_RM v else u).held = s.held := by
    split
    · exact (u.held_setNat _ rfl).trans h
    · exact h
  refine hshown _ _ _ ((State.held_showRollback _).trans ((State.held_setBit _ _ _ rfl).trans ?_))
  exact (State.held_setBit _ _ _ rfl).trans (s.held_setBit _ _ rfl)

theorem State.held_faultsLoaded : s.faultsLoaded.held = s.held := s.held_each fun u n _ => by simp

theorem State.bootView_bootLoads : (s.bootLoads old).bootView = s.bootView := by
  have hlock : s.lockLoaded.bootView = s.bootView :=
    (State.bootView_setFld_comlock _ _ _).trans ((State.bootView_setFld_comlock _ _ _).trans (s.bootView_setFld_comlock _ _))
  rw [State.bootLoads_eq, State.bootView_showSafeCnt]
  refine Eq.trans (State.bootView_of_held ?_) hlock
  rw [State.held_showPack, State.held_setNat64 _ _ rfl rfl, State.held_setNat64 _ _ rfl rfl, State.held_faultsLoaded, State.held_setNat _ _ rfl,
    State.held_imagesLoaded]

theorem State.held_bootReports : (s.bootReports old).held = s.held := by
  simp [State.bootReports, apply_ite State.held]

theorem State.held_bootLost (last : Nat) : (s.bootLost last).held = s.held := by simp [State.bootLost, apply_ite State.held]

theorem State.held_breachesDue : s.breachesDue.held = s.held := s.held_each fun u _ _ => u.held_breachDue

theorem State.held_jobsLost : (s.jobsLost old).held = s.held := by
  refine s.held_each fun u p _ => (State.held_breachIf _ _ _ _).trans ?_
  split
  · exact u.held_breach _ _
  · rfl

theorem State.held_noticesLost : (s.noticesLost old).held = s.held := by
  unfold State.noticesLost
  split
  · rfl
  · exact s.held_each fun u p _ => u.held_breachIf _ _ _

end steps

/-! ### The end of BOOT entry -/

section boot
variable (s : State) (cycled : Bool) (b : BootIn)

/-- The dies just out of reset, MODID sampled. -/
def State.bootStarted : State := { s.bootFresh with cdRun := true, modid := b.modid.val }

/-- BOOT before its causes are checked. -/
def State.bootChecked : State :=
  let u := ((s.bootStarted b).bootTrials.setFld Reg.CLU_SYS_STAT Fld.CLU_SYS_STAT_MODID b.modid.val).bootThermal s cycled
  let u := ((((u.bootLoads s).bootReports s).bootLost s.recst.issued).breachesDue.jobsLost s).noticesLost s
  ((((u.raise .chgSn 0).record Reg.CHG_SN_STAT 1 [1]).linesOff 0xFFFFFF).outputsOff 0xFF).rmFollow.ledgerBoot

/-- The last step of BOOT entry: a reserved pin found driven, a cause of LOCKOUT, or neither (R43, R65, R71). -/
def State.bootEnds (s : State) (b : BootIn) : State :=
  if b.pinFault then (s.setBit Reg.GLB_IDENT Fld.GLB_IDENT_PINFAULT true).raise .glb 3
  else match s.bootCause b.lockOk with
    | some c => s.lockoutEntry c
    | none => s

theorem State.bootNow_eq : s.bootNow cycled b = (s.bootChecked cycled b).bootEnds b := rfl

theorem State.bootStarted_dev : (s.bootStarted b).dev = stBOOT := by
  have hreg : (s.bootStarted b).reg Reg.GLB_DEVSTATE = Reg.resetOf s.variant Reg.GLB_DEVSTATE :=
    (Cells.get_filter_key _ keptAtBoot (fun _ => rfl) s.regs Reg.GLB_DEVSTATE).trans (if_neg (by decide))
  have hreset : Fld.GLB_DEVSTATE_STATE.get (Reg.resetOf s.variant Reg.GLB_DEVSTATE) = stBOOT := by cases s.variant <;> decide
  rw [State.dev, State.fld, hreg]
  exact hreset

theorem State.bootStarted_view : (s.bootStarted b).bootView = (s.rmRun, s.rm.failed, s.rm.noImage, s.store.lockout, stBOOT) := by
  rw [State.bootView, s.bootStarted_dev b]
  rfl

theorem State.bootChecked_view : (s.bootChecked cycled b).bootView = (s.rmRun, s.rm.failed, s.rm.noImage, s.store.lockout, stBOOT) := by
  have hstart (u : State) : ((u.bootTrials.setFld Reg.CLU_SYS_STAT Fld.CLU_SYS_STAT_MODID b.modid.val).bootThermal s cycled).bootView = u.bootView :=
    (State.bootView_of_held ((State.held_bootThermal _ _ _).trans (State.held_setFld _ _ _ rfl))).trans u.bootView_bootTrials
  have hmade (u : State) : ((((((u.bootReports s).bootLost s.recst.issued).breachesDue.jobsLost s).noticesLost s).raise .chgSn 0).record
      Reg.CHG_SN_STAT 1 [1]).held = u.held := by
    rw [State.held_record, State.held_raise _ (by decide), State.held_noticesLost, State.held_jobsLost, State.held_breachesDue, State.held_bootLost,
      State.held_bootReports]
  have hends (u : State) : (((u.linesOff 0xFFFFFF).outputsOff 0xFF).rmFollow.ledgerBoot).held = u.held := by
    rw [State.held_ledgerBoot, State.held_rmFollow, State.held_outputsOff, State.held_linesOff]
  unfold State.bootChecked
  exact (State.bootView_of_held ((hends _).trans (hmade _))).trans ((State.bootView_bootLoads _ _).trans ((hstart _).trans (s.bootStarted_view b)))

theorem State.lockoutEntry_dev (cause : Nat) : (s.lockoutEntry cause).dev = stLOCKOUT := by
  have hstore (u : State) (f : Store → Store) : (u.updStore f).dev = u.dev := rfl
  unfold State.lockoutEntry
  refine (State.dev_of_held ((State.held_record _ _ _ _).trans ((State.held_mtRestart _).trans ((State.held_outputsOff _ _).trans
    ((State.held_linesOff _ _).trans ((State.held_diag _ _).trans (State.held_setBit _ _ _ (by decide)))))))).trans ?_
  exact (hstore _ _).trans ((State.fld_setFld_beside _ _ _ _ _ (by decide) (by decide)).trans (State.dev_enter _ (by decide)))

/-- The causes that the check of BOOT finds are those of the state before. -/
theorem State.bootChecked_cause (ok : Bool) : (s.bootChecked cycled b).bootCause ok = s.bootCause ok := by
  have hview := s.bootChecked_view cycled b
  simp only [State.bootView, Prod.mk.injEq] at hview
  obtain ⟨-, hfailed, himg, hlockout, -⟩ := hview
  simp only [State.bootCause, hfailed, himg, hlockout]

theorem State.bootNow_ends : (s.bootNow cycled b).rmRun = s.rmRun ∧
    ((s.bootNow cycled b).dev = stBOOT ∨ (s.bootNow cycled b).dev = stLOCKOUT) ∧
    (b.pinFault = true ∨ s.bootCause b.lockOk = none → (s.bootNow cycled b).dev = stBOOT ∧ (s.bootNow cycled b).store.lockout = s.store.lockout) := by
  have hview := s.bootChecked_view cycled b
  have hcause := s.bootChecked_cause cycled b b.lockOk
  rw [State.bootNow_eq]
  generalize s.bootChecked cycled b = u at hview hcause
  simp only [State.bootView, Prod.mk.injEq] at hview
  obtain ⟨hrun, -, -, hlockout, hdev⟩ := hview
  unfold State.bootEnds
  split
  · have hglb (v : State) : (v.raise .glb 3).dev = v.dev := State.fld_congr (v.reg_raise_unowned (by decide)) _
    have hpin : (u.setBit Reg.GLB_IDENT Fld.GLB_IDENT_PINFAULT true).dev = u.dev := State.fld_congr (State.reg_setFld_other _ _ _ (by decide)) _
    have hboot := (hglb _).trans (hpin.trans hdev)
    exact ⟨(State.raise_rmRun _ _ _).trans hrun, .inl hboot, fun _ => ⟨hboot, (congrArg Store.lockout (State.raise_store _ _ _)).trans hlockout⟩⟩
  · rename_i hpin
    split
    · rename_i c hc
      refine ⟨(State.reacts_lockoutEntry _ _).rmRun.trans hrun, .inr (State.lockoutEntry_dev _ _), fun h => ?_⟩
      rcases h with h | h
      · exact absurd h hpin
      · rw [← hcause, hc] at h
        cases h
    · exact ⟨hrun, .inl hdev, fun _ => ⟨hdev, hlockout⟩⟩

end boot
end Sys2Proof.Machine
end

section
/-!
SUPPORT. Settles O26: the release of LOCKOUT (R66, R81, R82).
-/

namespace Sys2Proof.Machine

section release
variable (s : State) (x : Auth) (selfTest : Bool) (b : BootIn)

/-- LOCKOUT released for a cause of the lock record, which is then written anew (R82). -/
def State.relocks : Bool := s.store.lockout.getD 0 == 0x12

/-- The record cleared and logged, and Ringmaster's self-test repeated. -/
def State.selfTested : State :=
  let u := s.updStore fun p =>
    { p with lockout := none, locked := p.locked || s.relocks, ever := p.ever || s.relocks,
             lockCnt := if s.relocks then min (p.lockCnt + 1) 255 else p.lockCnt }
  (u.logSafety 0x14 (s.store.lockout.getD 0) x.key.val).updRm fun r => { r with failed := r.ready && !selfTest }

/-- LOCKOUT released: the ledger is down, and Ringmaster runs where it passed its self-test and has an image. -/
def State.lockoutCleared : State :=
  { (s.selfTested x selfTest).ledgerDown with rmRun := s.rm.ready && selfTest && s.rm.noImage.isNone }

theorem exec_lockoutRelease : exec (.lockoutRelease x selfTest b) s =
    onlyIf (s.cdRun && s.dev == stLOCKOUT && s.power.vauxA && s.power.lossAt.isNone) s fun s => s.withAuth x fun s =>
      (s.lockoutCleared x selfTest).bootNow false { b with lockOk := b.lockOk || s.relocks } := rfl

/-- No cause of LOCKOUT is left where the self-test passes, an image is there and the lock record holds or is renewed. -/
theorem State.lockoutCleared_cause (htest : selfTest = true) (himg : s.rm.noImage = none) (hlock : b.lockOk = true ∨ s.store.lockout = some 18) :
    (s.lockoutCleared x selfTest).bootCause (b.lockOk || s.relocks) = none := by
  obtain ⟨-, hfailed, hnoImage, -, hstore, -⟩ := State.of_held (State.held_ledgerDown (s.selfTested x selfTest))
  have hok : (b.lockOk || s.relocks) = true := by
    rcases hlock with h | h
    · rw [h, Bool.true_or]
    · simp [State.relocks, h]
  have hrm : (s.selfTested x selfTest).rm.failed = false ∧ (s.selfTested x selfTest).rm.noImage = none :=
    ⟨by simp [State.selfTested, State.updRm, htest], himg⟩
  have hcleared : (s.selfTested x selfTest).store.lockout = none := rfl
  simp only [State.bootCause, State.lockoutCleared, hstore, hcleared, hfailed, hnoImage, hrm, hok]

theorem State.lockoutCleared_lockout : (s.lockoutCleared x selfTest).store.lockout = none := by
  obtain ⟨-, -, -, -, hstore, -⟩ := State.of_held (State.held_ledgerDown (s.selfTested x selfTest))
  exact (congrArg Store.lockout hstore).trans rfl

variable {s} in
theorem lockoutRelease_boots (hrun : s.cdRun = true) (hdev : s.dev = stLOCKOUT) (hvaux : s.power.vauxA = true) (hloss : s.power.lossAt = none)
    (hok : s.authOk x = true) :
    Completes (.lockoutRelease x selfTest b) s fun t =>
      t.rmRun = (s.rm.ready && selfTest && s.rm.noImage.isNone) ∧ (t.dev = stBOOT ∨ t.dev = stLOCKOUT) ∧
      (selfTest → s.rm.noImage = none → b.pinFault ∨ b.lockOk ∨ s.store.lockout = some 18 → t.dev = stBOOT ∧ t.store.lockout = none) := by
  refine completes_withAuth x (exec_lockoutRelease s x selfTest b) (by simp [hrun, hdev, hvaux, hloss]) hok ?_
  have hends := (s.useNonce.lockoutCleared x selfTest).bootNow_ends false { b with lockOk := b.lockOk || s.useNonce.relocks }
  generalize hboot : (s.useNonce.lockoutCleared x selfTest).bootNow false { b with lockOk := b.lockOk || s.useNonce.relocks } = u at hends
  obtain ⟨hrm, hstate, hfree⟩ := hends
  have hudev : u.settle.dev = u.dev := u.settle_fld_low _ (by decide)
  rw [hudev, State.settle_rmRun, State.settle_store]
  refine ⟨hrm, hstate, fun htest himg hcause => ?_⟩
  obtain ⟨hbootDev, hlockout⟩ := hfree (hcause.imp_right fun h => s.useNonce.lockoutCleared_cause x selfTest b htest himg h)
  exact ⟨hbootDev, hlockout.trans (State.lockoutCleared_lockout _ _ _)⟩

end release

/-- Settles O26: a clause for each authorisation and each change that it permits. -/
theorem authorityCompletes : Obligations.AuthorityCompletes := by
  unfold Obligations.AuthorityCompletes
  exact ⟨fun nonce _ hrun => nonceRead_issues nonce hrun, fun _ _ _ hn hage => nonceExpiry_ends hn hage,
    fun key _ hrun hkeys => installKey_requests key hrun hkeys, fun _ _ _ hrun hkeys hcom hfree => installKey_installs hrun hkeys hcom hfree,
    fun slot _ hrun hcom hkey => revokeKey_revokes slot hrun hcom hkey, fun _ _ _ hi hage => presenceTimeout_ends hi hage,
    fun x _ hrun hlock hok => commission_opens x hrun hlock hok, fun _ _ _ hs hage => commissionSessionEnd_ends hs hage,
    fun x _ hrun hlock hok => lockRelease_releases x hrun hlock hok,
    fun x selfTest b _ hrun hdev hvaux hloss hok => lockoutRelease_boots x selfTest b hrun hdev hvaux hloss hok,
    fun x _ hrun hok => recorderClearAuth_permits x hrun hok, fun slot hash _ hrun hcom hfree => fuseOwnerKeys_fuses slot hash hrun hcom hfree,
    fun kind _ hrun hcom hboot => antirollback_advances kind hrun hcom hboot,
    fun kind ver fw sigOk _ hrun hmt => imageWrite_writes kind ver fw sigOk hrun hmt,
    fun n _ hrun hcom hn hover hfail => slotOverride_suspends n hrun hcom hn hover hfail⟩

end Sys2Proof.Machine
end

section
/-!
SUPPORT. Refutes O27, O32 and O34 in one clause each: a pulse that is dropped where the pattern leaves its channel, a sample that arrives once
TB has outgrown the 48 bits of its stamp, and a leader that loses its status slot together with segment A.
-/

namespace Sys2Proof.Machine

/-! ### A pulse that has not left yet (R95, R96) -/

/-- Slot 0 switches in programmed-edge mode under MODE DROP with MINP 5. The turn-on of its high channel still waits on the edge link, and the
programmed set calls for no channel. -/
def waitingPulse : State :=
  { (((State.reset.setFld (Reg.EDG_CTRL 0) Fld.EDG_CTRL_MODE 1).setFld (Reg.EDG_MINPULSE 0) Fld.EDG_MINPULSE_MINP 5).setFld (Reg.EDG_STAT 0)
      Fld.EDG_STAT_SSTATE 2).setBit (Reg.EDG_STAT 0) Fld.EDG_STAT_HS_ON true with
    edges := [(0, { pat := 2, called := 2, tOnH := 8, cmds := [⟨true, true, 8⟩] })] }

theorem exec_compareEdge_waiting : exec (.compareEdge 0 0) waitingPulse = .next (waitingPulse.patternChange 0 0 0).settle := rfl

/-- The drop is counted in byte 3 of EDG_0_CNT0. -/
theorem waitingPulse_drops : waitingPulse.reg (Reg.EDG_CNT0 0) = 0 ∧
    (waitingPulse.patternChange 0 0 0).reg (Reg.EDG_CNT0 0) = 0x01000000 := by decide

/-- Refutes O27 in its second clause: where the turn-on of the channel that the pattern leaves has not left yet, the pulse is not issued (R96), which
counts flag 3 and not flag 4 alone. -/
theorem not_edgeEngineCompletes : ¬Obligations.EdgeEngineCompletes := by
  unfold Obligations.EdgeEngineCompletes
  rintro ⟨-, hoff, -⟩
  obtain ⟨t, hexec, -, -, hframe⟩ := hoff 0 0 waitingPulse rfl (by decide) (by decide) (by decide) (by decide) (by decide) (by decide) rfl
  cases exec_compareEdge_waiting.symm.trans hexec
  have hsame : (waitingPulse.patternChange 0 0 0).reg (Reg.EDG_CNT0 0) = waitingPulse.reg (Reg.EDG_CNT0 0) :=
    (State.settle_reg_low _ (by decide)).symm.trans (hframe.1 (Reg.EDG_CNT0 0) (deliveryReg_low (by decide)) (by decide))
  rw [waitingPulse_drops.1, waitingPulse_drops.2] at hsame
  exact absurd hsame (by decide)

/-! ### A sample after TB has passed 2^44 ticks (R102, R104) -/

/-- Cluster 0 is of type SDC without port-open supervision, and TB has run for 2^44 ticks, some 12 hours. -/
def longRunning : State :=
  { (State.reset.setFld (Reg.CLU_CFG 0) Fld.CLU_CFG_TYPE tySDC).setBit (Reg.CLU_DC_CFG 0) Fld.CLU_DC_CFG_OPEN_EN false with tb := 2 ^ 44 }

/-- A record of SAR input 0 stamped now: the low 48 bits of TB in fine steps are 0. -/
def wrappedSample : Sample := { src := .sar 0, stamp := 0, code := 0, ovr := false, xcf := false }

/-- It reaches the port under its full stamp. -/
def fullSample : Sample := { wrappedSample with stamp := 2 ^ 48 }

theorem exec_sampleArrival_wrapped : exec (.sampleArrival wrappedSample) longRunning =
    .next (longRunning.portSample 0 fullSample true true).settle := by
  have hslots : (longRunning.assigned.filter fun n => longRunning.slotSrc n == wrappedSample.src) = [] := by decide
  have hregions : (longRunning.rgns.filter fun g => sarSrc (longRunning.fld (Reg.CLU_REG_VCFG g) Fld.CLU_REG_VCFG_SRC) == wrappedSample.src &&
      longRunning.fld (Reg.CLU_REG_VCFG g) Fld.CLU_REG_VCFG_SCALE != 0) = [] := by decide
  have hneutral : (longRunning.clus.filter fun k => longRunning.ctype k == tyGFI3 &&
      sarSrc (longRunning.fld (Reg.CLU_NPSRC k) Fld.CLU_NPSRC_SAR) == wrappedSample.src) = [] := by decide
  have hphased : longRunning.clus.filter longRunning.isPhased = [0] := by decide
  have hinput : (sarSrc (longRunning.fld (Reg.CLU_DC_PSRC 0) Fld.CLU_DC_PSRC_CH) == wrappedSample.src) = true := by decide
  have houtput : (sarSrc (longRunning.fld (Reg.CLU_DC_VSRC 0) Fld.CLU_DC_VSRC_CH) == wrappedSample.src) = true := by decide
  have hstamp : longRunning.fullStamp wrappedSample.stamp = 2 ^ 48 := by decide
  have hruns : (longRunning.cdRun && !longRunning.invalid wrappedSample.src) = true := by decide
  change execSampleArrival _ _ = _
  simp only [execSampleArrival, onlyIf_pos _ _ hruns, hslots, hregions, hneutral, hphased, hinput, houtput, hstamp,
    State.each, List.foldl_nil, List.foldl_cons, Bool.or_self, if_true]
  rfl

theorem longRunning_sample : ((longRunning.portSample 0 fullSample true true).dc 0).ps = [(2 ^ 48, 0)] := by decide

/-- Refutes O32 in its second clause: the stamp of a record has 48 bits and is extended by TB before the sample is kept (R102). -/
theorem not_dcPhasesComplete : ¬Obligations.DcPhasesComplete := by
  unfold Obligations.DcPhasesComplete
  rintro ⟨-, hport, -⟩
  obtain ⟨t, hexec, hps, -⟩ := hport wrappedSample 0 true true longRunning rfl (by decide) (by decide) (by decide) (by decide) (by decide)
    (by decide) (by decide) (by decide)
  cases exec_sampleArrival_wrapped.symm.trans hexec
  have hkept : (longRunning.portSample 0 fullSample true true).settle.dc 0 = (longRunning.portSample 0 fullSample true true).dc 0 := by
    simp only [State.dc, State.settle_dcs]
  have hshort := (congrArg Dc.ps hkept).symm.trans (hps rfl).1
  rw [longRunning_sample] at hshort
  exact absurd hshort (by decide)

/-! ### A leader that reads neither segment A nor its slot (R171, R175) -/

/-- Module 0 leads, and in the cycle before its segment A, and in the round before its status slot, failed read-back. -/
def deafLeader : State :=
  { (State.reset.setBit Reg.CLU_SYS_CFG Fld.CLU_SYS_CFG_SYS_EN true).setFld Reg.CLU_SYS_STAT Fld.CLU_SYS_STAT_SSTATE roLEADER with
    sys := { rbA := 1, rbC := 1 } }

/-- A cycle in which the bus carries nothing. -/
def silentCycle : SyncIn := { segA := none, segB := none, segC := none, own := (⟨false, 0, 0, 0⟩, ⟨false, 0, 0, 0⟩), share := (0, 0) }

/-- What the module makes of the cycle. -/
def deafened : State :=
  let s := deafLeader.updSys fun y =>
    { y with outA := some (deafLeader.formA 0), outB := some (formB silentCycle.own), outC := some (deafLeader.formC (0, 0)) }
  ((((s.readBackA false).readBackC false).noHeader.staleSlot none).shareCycle false none).shareCycle true none

set_option maxRecDepth 20000 in
theorem exec_syncCycle_silent : exec (.syncCycle silentCycle) deafLeader = .next deafened.settle := by
  rfl

theorem deafened_role : deafened.role = roFENCED := by decide

/-- Refutes O34 in its clause of a leader that cannot read itself back: in the cycle that also names the module's own status slot, a second failed
read-back of that slot fences the module (R171), so that it does not go on listening. -/
theorem not_systemBusCompletes : ¬Obligations.SystemBusCompletes := by
  unfold Obligations.SystemBusCompletes
  rintro ⟨-, -, -, -, -, -, -, hlead, -⟩
  obtain ⟨t, hexec, hrole, -⟩ := hlead silentCycle deafLeader (by decide) (by decide) rfl rfl (by decide)
  cases exec_syncCycle_silent.symm.trans hexec
  have hkept : deafened.settle.role = deafened.role := State.settle_fld_low _ _ (by decide)
  exact absurd (deafened_role.symm.trans (hkept.symm.trans hrole)) (by decide)

end Sys2Proof.Machine
end

section
/-!
SUPPORT. The driver die of a slot (R98, R121–R131): the frame of what changes only the records of the slots and registers, and what the edges, the
plateau and the soft turn-off make of a channel.
-/

namespace Sys2Proof.Machine

/-! ### The frame of the slots' records -/

/-- The state `s` with the edge engines and the driver dies of `t`. -/
def State.withSlots (s t : State) : State := { s with edges := t.edges, gatesH := t.gatesH, gatesL := t.gatesL, drvs := t.drvs }

/-- From `s` to `t` nothing changes but registers of `own`, the records of the slots and what delivery brings. -/
def SlotOnly (own : Nat → Prop) (s t : State) : Prop := Only own (s.withSlots t) t

namespace SlotOnly

variable {p q : Nat → Prop} {s t u : State}

theorem mono (h : ∀ a, p a → q a) (hs : SlotOnly p s t) : SlotOnly q s t := Only.mono h hs

theorem trans (h1 : SlotOnly p s t) (h2 : SlotOnly p t u) : SlotOnly p s u :=
  have hslots : Only p (s.withSlots u) (t.withSlots u) := ⟨h1.1, congrArg (fun x : State => x.withSlots u) h1.2⟩
  hslots.trans h2

theorem ite {c : Prop} [Decidable c] (ht : SlotOnly p s t) (hu : SlotOnly p s u) : SlotOnly p s (if c then t else u) := by
  split
  · exact ht
  · exact hu

/-- What keeps to a frame without the records of the slots. -/
theorem of_only (h : Only p s t) : SlotOnly p s t := by
  have hsame : s.withSlots t = s := by rw [h.2]; rfl
  rw [SlotOnly, hsame]
  exact h

theorem settle (h : SlotOnly p s t) : SlotOnly p s t.settle := by
  have hsame : s.withSlots t.settle = s.withSlots t := by simp only [State.withSlots, State.settle_edges, State.settle_gatesH, State.settle_gatesL,
    State.settle_drvs]
  rw [SlotOnly, hsame]
  exact Only.settle h

theorem refl (p : Nat → Prop) (s : State) : SlotOnly p s s := of_only (Only.refl s p)

theorem updEdge (p : Nat → Prop) (s : State) (n : Nat) (f : Edge → Edge) : SlotOnly p s (s.updEdge n f) := ⟨fun _ _ _ => rfl, rfl⟩

theorem updGate (p : Nat → Prop) (s : State) (n : Nat) (d : Side) (f : Gate → Gate) : SlotOnly p s (s.updGate n d f) := by
  cases d <;> exact ⟨fun _ _ _ => rfl, rfl⟩

theorem updDrv (p : Nat → Prop) (s : State) (n : Nat) (f : Drv → Drv) : SlotOnly p s (s.updDrv n f) := ⟨fun _ _ _ => rfl, rfl⟩

theorem setBit (s : State) (a : Nat) (f : Field) (v : Bool) : SlotOnly (fun x => x = a) s (s.setBit a f v) := of_only (Only.setFld s a f _)

theorem raise (s : State) (src : FlagSrc) (b : Nat) : SlotOnly (fun a => src.owns b a) s (s.raise src b) := of_only (Only.raise s src b)

/-! The frames of the statements, which name the records that change -/

theorem edgesGates (h : SlotOnly p s t) (hd : t.drvs = s.drvs) : Only p { s with edges := t.edges, gatesH := t.gatesH, gatesL := t.gatesL } t := by
  rw [SlotOnly, State.withSlots, hd] at h
  exact h

theorem gatesDrvs (h : SlotOnly p s t) (he : t.edges = s.edges) : Only p { s with gatesH := t.gatesH, gatesL := t.gatesL, drvs := t.drvs } t := by
  rw [SlotOnly, State.withSlots, he] at h
  exact h

theorem gates (h : SlotOnly p s t) (he : t.edges = s.edges) (hd : t.drvs = s.drvs) : Only p { s with gatesH := t.gatesH, gatesL := t.gatesL } t := by
  rw [SlotOnly, State.withSlots, he, hd] at h
  exact h

end SlotOnly

/-! ### Records after delivery and after a write of another record -/

section records
variable (s : State) (n : Nat)

theorem State.settle_gate (d : Side) : s.settle.gate n d = s.gate n d := by
  cases d
  · exact s.settle_gate_high n
  · simp only [State.gate, State.settle_gatesL]
theorem State.settle_drv : s.settle.drv n = s.drv n := by rw [State.drv, State.settle_drvs]; rfl
theorem State.settle_edge : s.settle.edge n = s.edge n := by rw [State.edge, State.settle_edges]; rfl

theorem State.gate_updGate_otherSide (d : Side) (f : Gate → Gate) : (s.updGate n d f).gate n (otherSide d) = s.gate n (otherSide d) := by
  cases d <;> rfl

@[simp] theorem State.gate_setBit (a : Nat) (f : Field) (v : Bool) (d : Side) : (s.setBit a f v).gate n d = s.gate n d := by cases d <;> rfl
@[simp] theorem State.gate_setNat (a v : Nat) (d : Side) : (s.setNat a v).gate n d = s.gate n d := by cases d <;> rfl
@[simp] theorem State.gate_incFld (a : Nat) (f : Field) (d : Side) : (s.incFld a f).gate n d = s.gate n d := by cases d <;> rfl
@[simp] theorem State.gate_raiseMask (src : FlagSrc) (m : Nat) (d : Side) : (s.raiseMask src m).gate n d = s.gate n d := by
  rw [State.raiseMask_rest]
  cases d <;> rfl
@[simp] theorem State.gate_raise (src : FlagSrc) (b : Nat) (d : Side) : (s.raise src b).gate n d = s.gate n d := s.gate_raiseMask n src _ d
@[simp] theorem State.gate_updDrv (m : Nat) (f : Drv → Drv) (d : Side) : (s.updDrv m f).gate n d = s.gate n d := by cases d <;> rfl
@[simp] theorem State.gate_updEdge (m : Nat) (f : Edge → Edge) (d : Side) : (s.updEdge m f).gate n d = s.gate n d := by cases d <;> rfl

theorem gdvReg_low (h : n < 24) : Reg.GDV_STAT n < 0x60000 ∧ Reg.GDV_CTRL n < 0x60000 ∧ Reg.GDV_FLAGS n < 0x60000 := by
  simp only [Reg.GDV_STAT, Reg.GDV_CTRL, Reg.GDV_FLAGS]
  omega

theorem State.settle_gdvFlag (h : n < 24) (b : Nat) : s.settle.flag (.gdv n) b = s.flag (.gdv n) b :=
  State.flag_congr (src := .gdv n) (State.settle_reg_low s (gdvReg_low n h).2.2) b

end records

/-! ### Edges (R98, R121) -/

section edges
variable (s : State) (n : Nat) (d : Side)

theorem State.beginEdge_frame (rising : Bool) : SlotOnly (fun a => a = Reg.GDV_STAT n) s (s.beginEdge n d rising) := by
  unfold State.beginEdge
  exact .ite (((SlotOnly.updGate _ s n d _).trans (.setBit _ _ _ _)).trans (.setBit _ _ _ _)) ((SlotOnly.updGate _ s n d _).trans (.setBit _ _ _ _))

/-- An edge begins in the record of its channel alone. -/
theorem State.beginEdge_records (rising : Bool) : (s.beginEdge n d rising).edges = s.edges ∧ (s.beginEdge n d rising).drvs = s.drvs := by
  cases d <;> cases rising <;> exact ⟨rfl, rfl⟩

/-- The turn-off command keeps its time through the edge that it begins. -/
theorem State.beginEdge_offAt (rising : Bool) : ((s.beginEdge n d rising).gate n d).offAt = (s.gate n d).offAt := by
  cases rising <;> simp [State.beginEdge]

/-- A turn-on is in its first phase, or in the one phase of step-current mode. -/
theorem State.beginEdge_on : ((s.beginEdge n d true).gate n d).isOn = true ∧ ((s.beginEdge n d true).gate n d).rising = true ∧
    ((s.beginEdge n d true).gate n d).onSince = s.now := by
  refine ⟨?_, by simp [State.beginEdge], by simp [State.beginEdge]⟩
  simp only [State.beginEdge, if_true, State.gate_setBit, State.gate_updGate_same, Gate.isOn]
  split <;> rfl

/-- A turn-off command reaches the driver die. -/
def State.turnedOff (s : State) (n : Nat) (d : Side) : State :=
  let s := s.updGate n d fun g => { g with offAt := s.tbFine }
  if (s.gate n d).isOn && (s.drv n).softAt.isNone then s.beginEdge n d false else s

theorem State.turnedOff_frame : SlotOnly (fun a => a = Reg.GDV_STAT n) s (s.turnedOff n d) := by
  unfold State.turnedOff
  exact .ite ((SlotOnly.updGate _ s n d _).trans (State.beginEdge_frame _ n d false)) (.updGate _ s n d _)

theorem State.turnedOff_records : (s.turnedOff n d).edges = s.edges ∧ (s.turnedOff n d).drvs = s.drvs := by
  unfold State.turnedOff
  dsimp only
  split
  · obtain ⟨hedges, hdrvs⟩ := State.beginEdge_records (s.updGate n d fun g => { g with offAt := s.tbFine }) n d false
    exact ⟨hedges.trans (s.updGate_edges n d _), hdrvs.trans (s.updGate_drvs n d _)⟩
  · exact ⟨s.updGate_edges n d _, s.updGate_drvs n d _⟩

theorem State.turnedOff_offAt : ((s.turnedOff n d).gate n d).offAt = s.tbFine := by
  unfold State.turnedOff
  dsimp only
  split
  · exact (State.beginEdge_offAt _ n d false).trans (congrArg Gate.offAt (s.gate_updGate_same n d _))
  · exact congrArg Gate.offAt (s.gate_updGate_same n d _)

/-- A turn-on command reaches the driver die. -/
def State.turnedOn (s : State) (n : Nat) (d : Side) : State :=
  let o := s.gate n (otherSide d)
  if o.conducts || (o.offAt != 0 && Nat.blt s.tbFine (o.offAt + 96)) then s.refuseEdge n 1
  else if s.holdBits n != 0 || (s.drv n).guardEnd.isSome || (s.drv n).softAt.isSome || (s.gate n d).isOn then s
  else s.beginEdge n d true

/-- The next edge command of a slot is taken from its link. -/
def State.edgeTaken (s : State) (n : Nat) (rest : List EdgeCmd) : State := s.updEdge n fun e => { e with cmds := rest }

theorem exec_gateEdge {n : Slot} {c : EdgeCmd} {rest : List EdgeCmd} (h : (s.edge n.val).cmds = c :: rest) :
    exec (.gateEdge n) s = onlyIf (s.cdRun && Nat.ble c.time s.tbFine) s fun s =>
      if c.on then (s.edgeTaken n.val rest).turnedOn n.val (if c.high then .high else .low)
      else (s.edgeTaken n.val rest).turnedOff n.val (if c.high then .high else .low) := by
  change execGateEdge n s = _
  unfold execGateEdge
  dsimp only
  rw [h]
  rfl

theorem State.edgeTaken_cmds (rest : List EdgeCmd) : ((s.edgeTaken n rest).edge n).cmds = rest := congrArg Edge.cmds (s.edge_updEdge_same n _)

end edges

/-- An edge command that turns its channel off is carried out. -/
theorem gateEdge_turnsOff {s : State} (n : Slot) {c : EdgeCmd} {rest : List EdgeCmd} (hrun : s.cdRun = true) (hcmds : (s.edge n.val).cmds = c :: rest)
    (htime : c.time ≤ s.tbFine) (hoff : c.on = false) :
    Completes (.gateEdge n) s fun t =>
      (t.edge n.val).cmds = rest ∧ (t.gate n.val (if c.high then .high else .low)).offAt = s.tbFine ∧ Only (fun a => a = Reg.GDV_STAT n.val)
      { s with edges := t.edges, gatesH := t.gatesH, gatesL := t.gatesL } t := by
  refine completes_onlyIf (exec_gateEdge s hcmds) (by simp [hrun, htime]) ?_
  simp only [hoff, Bool.false_eq_true, if_false]
  generalize (if c.high then Side.high else Side.low) = d
  obtain ⟨hedges, hdrvs⟩ := (s.edgeTaken n.val rest).turnedOff_records n.val d
  refine ⟨?_, ?_, ?_⟩
  · rw [State.settle_edge, State.edge, hedges]
    exact s.edgeTaken_cmds n.val rest
  · rw [State.settle_gate]
    exact State.turnedOff_offAt _ n.val d
  · exact (((SlotOnly.updEdge _ s _ _).trans (State.turnedOff_frame _ n.val d)).settle).edgesGates ((State.settle_drvs _).trans hdrvs)

/-- A turn-on command that nothing bars begins its edge. -/
theorem gateEdge_turnsOn {s : State} (n : Slot) {c : EdgeCmd} {rest : List EdgeCmd} (hrun : s.cdRun = true) (hcmds : (s.edge n.val).cmds = c :: rest)
    (htime : c.time ≤ s.tbFine) (hon : c.on = true) (hother : (s.gate n.val (if c.high then .low else .high)).conducts = false)
    (hoffAt : (s.gate n.val (if c.high then .low else .high)).offAt = 0) (hholds : s.holdBits n.val = 0) (hguard : (s.drv n.val).guardEnd = none)
    (hsoft : (s.drv n.val).softAt = none) (hidle : (s.gate n.val (if c.high then .high else .low)).isOn = false) :
    Completes (.gateEdge n) s fun t =>
      (t.edge n.val).cmds = rest ∧ (t.gate n.val (if c.high then .high else .low)).isOn ∧ (t.gate n.val (if c.high then .high else .low)).rising ∧
      (t.gate n.val (if c.high then .high else .low)).onSince = s.now ∧ Only (fun a => a = Reg.GDV_STAT n.val)
      { s with edges := t.edges, gatesH := t.gatesH, gatesL := t.gatesL } t := by
  have hside : (if c.high then Side.low else Side.high) = otherSide (if c.high then .high else .low) := by cases c.high <;> rfl
  rw [hside] at hother hoffAt
  refine completes_onlyIf (exec_gateEdge s hcmds) (by simp [hrun, htime]) ?_
  simp only [hon, if_true]
  generalize (if c.high then Side.high else Side.low) = d at *
  have hbegins : (s.edgeTaken n.val rest).turnedOn n.val d = (s.edgeTaken n.val rest).beginEdge n.val d true := by
    have hbits : (s.edgeTaken n.val rest).holdBits n.val = 0 := hholds
    have hdrv : (s.edgeTaken n.val rest).drv n.val = s.drv n.val := rfl
    have hgate (x : Side) : (s.edgeTaken n.val rest).gate n.val x = s.gate n.val x := s.gate_updEdge n.val _ _ x
    simp [State.turnedOn, hgate, hdrv, hother, hoffAt, hbits, hguard, hsoft, hidle]
  obtain ⟨hedges, hdrvs⟩ := (s.edgeTaken n.val rest).beginEdge_records n.val d true
  obtain ⟨hisOn, hrising, hsince⟩ := (s.edgeTaken n.val rest).beginEdge_on n.val d
  rw [hbegins]
  refine ⟨?_, ?_, ?_, ?_, ?_⟩
  · rw [State.settle_edge, State.edge, hedges]
    exact s.edgeTaken_cmds n.val rest
  · rw [State.settle_gate]; exact hisOn
  · rw [State.settle_gate]; exact hrising
  · rw [State.settle_gate]; exact hsince
  · exact (((SlotOnly.updEdge _ s _ _).trans (State.beginEdge_frame _ n.val d true)).settle).edgesGates ((State.settle_drvs _).trans hdrvs)

end Sys2Proof.Machine
end

section
/-!
SUPPORT. The phases of an edge, its report and the soft turn-off of a slot (R121–R123, R127, R129, R131, R136).
-/

namespace Sys2Proof.Machine

/-! ### The end of phase 1 (R121, R123) -/

section phases
variable (s : State) (n : Nat) (d : Side)

/-- A channel is in phase 1 of an edge. -/
def Gate.inFirst (g : Gate) : Bool := g.phase == 1 || g.phase == 11

/-- The end of a phase that is named may come now. -/
def State.phaseFits (s : State) (n : Nat) (d : Side) (how : PhaseEnd) (dur : Nat) : Bool :=
  let g := s.gate n d
  let span := (s.now - g.since) * 16
  let second := (g.phase == 2 || g.phase == 12) && Nat.blt span (dur + 16) && Nat.blt dur (span + 16)
  match how with
  | .vth => g.inFirst
  | .tmax => (g.inFirst && s.since g.since (profPreTmax.get g.prof)) || (second && !g.stepEdge && s.since g.since (profTmax.get g.prof))
  | .transEnd => second
  | .noTrans => second && !g.stepEdge && s.since g.since 12
  | .off => g.phase == 13

/-- Phase 1 of an edge ends, at its limit or before. -/
def State.firstPhaseEnds (s : State) (n : Nat) (d : Side) (lim : Bool) : State :=
  (s.updGate n d fun g => { g with phase := g.phase + 1, since := s.now, preLim := lim }).raiseIf lim (.gdv n) 11

/-- What the end of a phase does. -/
def State.phaseEnded (s : State) (n : Nat) (d : Side) (how : PhaseEnd) (dvdt dur : Nat) : State :=
  if how = .off then s.gateOff n d else if (s.gate n d).inFirst then s.firstPhaseEnds n d (how == .tmax) else s.endPlateau n d how dvdt dur

theorem State.firstPhaseEnds_gate (lim : Bool) : ((s.firstPhaseEnds n d lim).gate n d).phase = (s.gate n d).phase + 1 ∧
    ((s.firstPhaseEnds n d lim).gate n d).since = s.now ∧ ((s.firstPhaseEnds n d lim).gate n d).preLim = lim := by
  have hgate : (s.firstPhaseEnds n d lim).gate n d = { s.gate n d with phase := (s.gate n d).phase + 1, since := s.now, preLim := lim } := by
    cases lim <;> simp [State.firstPhaseEnds, State.raiseIf]
  rw [hgate]
  exact ⟨rfl, rfl, rfl⟩

theorem State.firstPhaseEnds_flag : (s.firstPhaseEnds n d true).flag (.gdv n) 11 = true := by
  simp only [State.firstPhaseEnds, State.raiseIf, if_true]
  exact State.flag_raise _ _ 11 (by decide)

theorem State.firstPhaseEnds_records (lim : Bool) : (s.firstPhaseEnds n d lim).edges = s.edges ∧ (s.firstPhaseEnds n d lim).drvs = s.drvs := by
  unfold State.firstPhaseEnds
  rw [State.raiseIf_rest]
  exact ⟨s.updGate_edges n d _, s.updGate_drvs n d _⟩

theorem State.firstPhaseEnds_frame : SlotOnly (fun _ => False) s (s.firstPhaseEnds n d false) ∧
    SlotOnly (fun a => (FlagSrc.gdv n).owns 11 a) s (s.firstPhaseEnds n d true) := by
  simp only [State.firstPhaseEnds, State.raiseIf, Bool.false_eq_true, if_false, if_true]
  exact ⟨.updGate _ s n d _, (SlotOnly.updGate _ s n d _).trans (.raise _ _ 11)⟩

theorem execEdgePhaseEnd_fun : execEdgePhaseEnd = fun n d how dvdt dur s =>
    onlyIf (s.cdRun && s.phaseFits n.val d how dur) s fun s => s.phaseEnded n.val d how dvdt dur := rfl

/-- The cases in which a phase ends, and what its end does. -/
theorem exec_edgePhaseEnd (n : Slot) (how : PhaseEnd) (dvdt dur : Nat) : exec (.edgePhaseEnd n d how dvdt dur) s =
    onlyIf (s.cdRun && s.phaseFits n.val d how dur) s fun s => s.phaseEnded n.val d how dvdt dur := by
  change execEdgePhaseEnd n d how dvdt dur s = _
  rw [execEdgePhaseEnd_fun]

theorem completes_firstPhaseEnds {n : Slot} {how : PhaseEnd} {dvdt dur : Nat} {p : State → Prop} (hrun : s.cdRun = true)
    (hphase : (s.gate n.val d).phase = 1 ∨ (s.gate n.val d).phase = 11)
    (hhow : how = .vth ∨ how = .tmax ∧ s.since (s.gate n.val d).since (profPreTmax.get (s.gate n.val d).prof) = true)
    (hp : p (s.firstPhaseEnds n.val d (how == .tmax)).settle) : Completes (.edgePhaseEnd n d how dvdt dur) s p := by
  have hfirst : (s.gate n.val d).inFirst = true := by simpa [Gate.inFirst] using hphase
  refine completes_onlyIf (exec_edgePhaseEnd s d n how dvdt dur) ?_ ?_
  · rcases hhow with rfl | ⟨rfl, hsince⟩ <;> simp [State.phaseFits, *]
  · have hoff : how ≠ .off := by rcases hhow with rfl | ⟨rfl, -⟩ <;> decide
    simpa only [State.phaseEnded, if_neg hoff, if_pos hfirst] using hp

end phases

/-! ### The edge report (R127, R146) -/

theorem adapt_adj_le (a : Word) (p m : Nat) : (adapt a p m).2 ≤ 3 := by
  unfold adapt
  dsimp only
  split_ifs <;> simp

section report
variable {dvdt dur code adj : Nat} (h : adj ≤ 3) (notrans pltLim preLim step : Bool)
include h

/-- The report of an edge names the slope and the duration of its plateau, and what ended it. -/
theorem reportWord_fields : reportWord dvdt dur code adj notrans pltLim preLim step < 2 ^ 32 ∧
    reportWord dvdt dur code adj notrans pltLim preLim step / 2 ^ 24 = min dvdt 255 ∧
    reportWord dvdt dur code adj notrans pltLim preLim step / 2 ^ 12 % 2 ^ 12 = min dur 4095 ∧
    reportWord dvdt dur code adj notrans pltLim preLim step / 16 % 2 = b2n notrans ∧
    reportWord dvdt dur code adj notrans pltLim preLim step / 8 % 2 = b2n pltLim := by
  have hbit (b : Bool) : b2n b ≤ 1 := by cases b <;> decide
  have hnt := hbit notrans
  have hlim := hbit pltLim
  have hpre := hbit preLim
  have hstep := hbit step
  unfold reportWord
  omega

end report

/-! ### The end of phase 2 (R121, R122, R125) -/

section plateau
variable (s : State) (n : Nat) (d : Side) (how : PhaseEnd) (dvdt dur : Nat)

/-- The plateau code after the edge, and ADJ. -/
def State.plateauStep (s : State) (n : Nat) (d : Side) (how : PhaseEnd) (dvdt : Nat) : Nat × Nat :=
  let g := s.gate n d
  let p := s.plateau n d g.rising
  let a := s.reg (adaptReg n d g.rising)
  if g.stepEdge || how == .noTrans || how == .tmax || !adEN.on a then (p, 0) else adapt a p dvdt

/-- The report word of the edge. -/
def State.plateauWord (s : State) (n : Nat) (d : Side) (how : PhaseEnd) (dvdt dur : Nat) : Nat :=
  reportWord dvdt dur (s.gate n d).code (s.plateauStep n d how dvdt).2 (how == .noTrans) (how == .tmax) (s.gate n d).preLim (s.gate n d).stepEdge

/-- The flags of the plateau: ended by its limit, without a transition, held at a bound. -/
def plateauMask (how : PhaseEnd) (step : Bool) (adj : Nat) : Nat :=
  (if how == .tmax && !step then 2 ^ 10 else 0) + (if how == .noTrans && !step then 2 ^ 9 else 0) + (if adj = 3 then 2 ^ 8 else 0)

/-- The edge is reported: its register and its record. -/
def State.plateauReported (s : State) (n : Nat) (d : Side) (how : PhaseEnd) (dvdt dur : Nat) : State :=
  (s.setNat (repReg n d (s.gate n d).rising) (s.plateauWord n d how dvdt dur)).waveOther n 0x10 n Reg.REC_CAP_EREP n (s.gate n d).edgeAt
    (s.plateauWord n d how dvdt dur) ((match d with | .high => 0 | .low => 1) + (if (s.gate n d).rising then 0 else 2)) 0

/-- A step of the adaptation is counted and kept. -/
def State.plateauAdapted (s : State) (n : Nat) (d : Side) (r : Nat × Nat) : State :=
  let s := if r.2 = 1 then s.incFld (adjReg n d) ⟨0, 16⟩ else if r.2 = 2 then s.incFld (adjReg n d) ⟨16, 16⟩ else s
  if r.2 = 1 || r.2 = 2 then s.updGate n d fun g => if g.rising then { g with pOn := some r.1 } else { g with pOff := some r.1 } else s

/-- The channel leaves its plateau for phase 3, or is off where a turn-off has one phase. -/
def State.plateauLeft (s : State) (n : Nat) (d : Side) (ends : Bool) : State :=
  if ends then s.gateOff n d else s.updGate n d fun g => { g with phase := if g.rising then 3 else 13, since := s.now }

/-- The end of phase 2 in its steps. The functions are compared unapplied: applied, the kernel would evaluate the report. -/
theorem State.endPlateau_fun : @State.endPlateau = fun s n d how dvdt dur =>
    (((s.plateauReported n d how dvdt dur).raiseMask (.gdv n)
      (plateauMask how (s.gate n d).stepEdge (s.plateauStep n d how dvdt).2)).plateauAdapted n d (s.plateauStep n d how dvdt)).plateauLeft n d
        (!(s.gate n d).rising && (s.gate n d).stepEdge) := rfl

theorem State.plateauStep_adj : (s.plateauStep n d how dvdt).2 ≤ 3 := by
  unfold State.plateauStep
  dsimp only
  split
  · exact Nat.zero_le 3
  · exact adapt_adj_le _ _ _

/-- A plateau that its limit or the lack of a transition ended adapts nothing. -/
theorem State.plateauStep_limited (h : how = .tmax ∨ how = .noTrans) : (s.plateauStep n d how dvdt).2 = 0 := by
  rcases h with rfl | rfl <;> simp [State.plateauStep]

theorem plateauMask_lt (how : PhaseEnd) (step : Bool) (adj : Nat) : plateauMask how step adj < 2 ^ 11 := by
  unfold plateauMask
  split <;> split <;> split <;> decide

/-! The record of an edge changes nothing of the slots and no register but REC_CAP_TRIG -/

theorem State.wave_gate (sel bit stamp : Nat) (rec : List Byte) : (s.wave sel bit stamp rec).gate n d = s.gate n d := by
  unfold State.wave
  dsimp only
  split
  · split <;> cases d <;> rfl
  · rfl
theorem State.wave_now (sel bit stamp : Nat) (rec : List Byte) : (s.wave sel bit stamp rec).now = s.now := by
  unfold State.wave
  dsimp only
  split
  · split <;> rfl
  · rfl
theorem State.wave_reg (sel bit stamp : Nat) (rec : List Byte) {a : Nat} (h : a ≠ Reg.REC_CAP_TRIG) : (s.wave sel bit stamp rec).reg a = s.reg a := by
  unfold State.wave
  dsimp only
  split
  · split
    · exact State.reg_setNat_other _ _ h
    · rfl
  · rfl

section waveOther
variable (src kind key sel bit stamp word b7 last : Nat)

theorem State.waveOther_gate : (s.waveOther src kind key sel bit stamp word b7 last).gate n d = s.gate n d := by
  unfold State.waveOther
  rw [State.wave_gate]
  cases d <;> rfl
theorem State.waveOther_now : (s.waveOther src kind key sel bit stamp word b7 last).now = s.now := by
  unfold State.waveOther
  rw [State.wave_now]
theorem State.waveOther_reg {a : Nat} (h : a ≠ Reg.REC_CAP_TRIG) : (s.waveOther src kind key sel bit stamp word b7 last).reg a = s.reg a := by
  unfold State.waveOther
  rw [State.wave_reg _ _ _ _ _ h]
  rfl

end waveOther

theorem State.plateauReported_gate : (s.plateauReported n d how dvdt dur).gate n d = s.gate n d := by
  unfold State.plateauReported
  rw [State.waveOther_gate, State.gate_setNat]
theorem State.plateauReported_now : (s.plateauReported n d how dvdt dur).now = s.now := by
  unfold State.plateauReported
  rw [State.waveOther_now, State.setNat_now]

theorem repReg_bounds (rising : Bool) : 0x18120 + 0x200 * n ≤ repReg n d rising ∧ repReg n d rising < 0x18130 + 0x200 * n := by
  cases d <;> cases rising <;> simp only [repReg, Reg.GDV_REP_ON_H, Reg.GDV_REP_OFF_H, Reg.GDV_REP_ON_L, Reg.GDV_REP_OFF_L] <;> omega
theorem repReg_low (hn : n < 24) (rising : Bool) : repReg n d rising < 0x60000 := lt_of_lt_of_le (repReg_bounds n d rising).2 (by omega)
theorem adjReg_bounds : 0x18130 + 0x200 * n ≤ adjReg n d := by
  cases d <;> simp only [adjReg, Reg.GDV_ADJ_H, Reg.GDV_ADJ_L] <;> omega

theorem State.plateauReported_reg (hn : n < 24) :
    (s.plateauReported n d how dvdt dur).reg (repReg n d (s.gate n d).rising) = BitVec.ofNat 32 (s.plateauWord n d how dvdt dur) := by
  have hne : repReg n d (s.gate n d).rising ≠ Reg.REC_CAP_TRIG := Nat.ne_of_lt ((repReg_low n d hn _).trans (by decide))
  unfold State.plateauReported
  rw [State.waveOther_reg _ _ _ _ _ _ _ _ _ _ hne, State.reg_setNat_same]

theorem State.plateauAdapted_reg (r : Nat × Nat) {a : Nat} (h : a < 0x18130 + 0x200 * n) : (s.plateauAdapted n d r).reg a = s.reg a := by
  have hadj := adjReg_bounds n d
  have hne : a ≠ adjReg n d := by omega
  unfold State.plateauAdapted
  dsimp only
  split_ifs <;> simp [State.incFld, State.reg_setFld_other _ _ _ hne]

theorem State.plateauAdapted_gate (r : Nat × Nat) : ((s.plateauAdapted n d r).gate n d).rising = (s.gate n d).rising := by
  unfold State.plateauAdapted
  dsimp only
  split_ifs <;> simp [apply_ite Gate.rising]

theorem State.plateauAdapted_now (r : Nat × Nat) : (s.plateauAdapted n d r).now = s.now := by
  unfold State.plateauAdapted
  rw [apply_ite State.now, State.updGate_now, ite_self, apply_ite State.now, apply_ite State.now, State.incFld_now, State.incFld_now, ite_self,
    ite_self]

theorem State.plateauLeft_reg (ends : Bool) {a : Nat} (h : a ≠ Reg.GDV_STAT n) : (s.plateauLeft n d ends).reg a = s.reg a := by
  unfold State.plateauLeft
  split
  · rw [State.gateOff, State.reg_setBit_other _ _ _ h, State.updGate_reg]
  · exact s.updGate_reg n d _ a

theorem State.plateauLeft_gate (ends : Bool) :
    ((s.plateauLeft n d ends).gate n d).phase = (if ends then 0 else if (s.gate n d).rising then 3 else 13) ∧
    ((s.plateauLeft n d ends).gate n d).since = s.now := by
  cases ends <;> simp [State.plateauLeft, State.gateOff]

/-! What the end of phase 2 leaves -/

theorem State.endPlateau_gate : ((s.endPlateau n d how dvdt dur).gate n d).phase =
      (if (s.gate n d).rising then 3 else if (s.gate n d).stepEdge then 0 else 13) ∧
    ((s.endPlateau n d how dvdt dur).gate n d).since = s.now := by
  rw [State.endPlateau_fun]
  refine ⟨(State.plateauLeft_gate _ n d _).1.trans ?_, (State.plateauLeft_gate _ n d _).2.trans ?_⟩
  · rw [State.plateauAdapted_gate, State.gate_raiseMask, State.plateauReported_gate]
    cases (s.gate n d).rising <;> simp
  · rw [State.plateauAdapted_now, State.raiseMask_now, State.plateauReported_now]

theorem State.endPlateau_report (hn : n < 24) :
    (s.endPlateau n d how dvdt dur).reg (repReg n d (s.gate n d).rising) = BitVec.ofNat 32 (s.plateauWord n d how dvdt dur) := by
  have hrep := repReg_bounds n d (s.gate n d).rising
  rw [State.endPlateau_fun, State.plateauLeft_reg _ _ _ _ (by simp only [Reg.GDV_STAT]; omega), State.plateauAdapted_reg _ _ _ _ hrep.2,
    State.raiseMask_reg, State.plateauReported_reg _ _ _ _ _ _ hn]
  · simp only [FlagSrc.addr, Reg.GDV_FLAGS]
    omega
  · intro b _ hb a lo hc
    have hb11 : b < 11 := by
      by_contra hge
      have hlt := lt_of_lt_of_le (plateauMask_lt how (s.gate n d).stepEdge (s.plateauStep n d how dvdt).2)
        (Nat.pow_le_pow_right (by decide : 2 > 0) (Nat.le_of_not_lt hge))
      rw [Nat.testBit_lt_two_pow hlt] at hb
      cases hb
    rw [← (Prod.mk.inj (Option.some.inj hc)).1]
    simp only [FlagSrc.cnt0, Reg.GDV_CNT0]
    omega

/-- The fields of the report as the register shows them. -/
theorem State.endPlateau_fields (hn : n < 24) :
    ((s.endPlateau n d how dvdt dur).reg (repReg n d (s.gate n d).rising)).toNat / 2 ^ 24 = min dvdt 255 ∧
    ((s.endPlateau n d how dvdt dur).reg (repReg n d (s.gate n d).rising)).toNat / 2 ^ 12 % 2 ^ 12 = min dur 4095 ∧
    ((s.endPlateau n d how dvdt dur).reg (repReg n d (s.gate n d).rising)).toNat / 16 % 2 = b2n (how == .noTrans) ∧
    ((s.endPlateau n d how dvdt dur).reg (repReg n d (s.gate n d).rising)).toNat / 8 % 2 = b2n (how == .tmax) := by
  obtain ⟨hlt, hfields⟩ := reportWord_fields (dvdt := dvdt) (dur := dur) (code := (s.gate n d).code) (s.plateauStep_adj n d how dvdt)
    (how == .noTrans) (how == .tmax) (s.gate n d).preLim (s.gate n d).stepEdge
  have hword : ((s.endPlateau n d how dvdt dur).reg (repReg n d (s.gate n d).rising)).toNat = s.plateauWord n d how dvdt dur := by
    rw [s.endPlateau_report n d how dvdt dur hn, BitVec.toNat_ofNat]
    exact Nat.mod_eq_of_lt hlt
  rw [hword]
  exact hfields

/-- A plateau flag stays through adaptation and the phase that follows. -/
theorem State.endPlateau_flag {b : Nat} (hb : b < 32) (hm : (plateauMask how (s.gate n d).stepEdge (s.plateauStep n d how dvdt).2).testBit b = true) :
    (s.endPlateau n d how dvdt dur).flag (.gdv n) b = true := by
  have hraised : ((s.plateauReported n d how dvdt dur).raiseMask (.gdv n)
      (plateauMask how (s.gate n d).stepEdge (s.plateauStep n d how dvdt).2)).flag (.gdv n) b = true := by
    rw [State.flag_raiseMask _ _ _ _ hb, hm, Bool.or_true]
  rw [State.endPlateau_fun, ← hraised]
  refine State.flag_congr ?_ b
  exact (State.plateauLeft_reg _ _ _ _ (by simp [FlagSrc.addr, Reg.GDV_FLAGS, Reg.GDV_STAT])).trans
    (State.plateauAdapted_reg _ _ _ _ (by simp only [FlagSrc.addr, Reg.GDV_FLAGS]; omega))

end plateau

/-- Phase 2 of an edge may end as named: by the transition, or, of an edge with phases, by its limit or for want of a transition; and the duration
that is reported fits the time that has passed. -/
structure State.PlateauEnds (s : State) (n : Nat) (d : Side) (how : PhaseEnd) (dur : Nat) : Prop where
  phase : (s.gate n d).phase = 2 ∨ (s.gate n d).phase = 12
  long : (s.now - (s.gate n d).since) * 16 < dur + 16
  short : dur < (s.now - (s.gate n d).since) * 16 + 16
  cause : how = .transEnd ∨ (s.gate n d).stepEdge = false ∧
    (how = .tmax ∧ s.since (s.gate n d).since (profTmax.get (s.gate n d).prof) = true ∨ how = .noTrans ∧ s.since (s.gate n d).since 12 = true)

theorem completes_endPlateau {s : State} {n : Slot} {d : Side} {how : PhaseEnd} {dvdt dur : Nat} {p : State → Prop} (hrun : s.cdRun = true)
    (hends : s.PlateauEnds n.val d how dur) (hp : p (s.endPlateau n.val d how dvdt dur).settle) : Completes (.edgePhaseEnd n d how dvdt dur) s p := by
  obtain ⟨hphase, hlong, hshort, hcause⟩ := hends
  have hfirst : (s.gate n.val d).inFirst = false := by rcases hphase with h | h <;> simp [Gate.inFirst, h]
  have hsecond : ((s.gate n.val d).phase == 2 || (s.gate n.val d).phase == 12) = true := by simpa using hphase
  refine completes_onlyIf (exec_edgePhaseEnd s d n how dvdt dur) ?_ ?_
  · rcases hcause with rfl | ⟨hstep, ⟨rfl, hsince⟩ | ⟨rfl, hsince⟩⟩ <;> simp [State.phaseFits, *]
  · have hoff : how ≠ .off := by rcases hcause with rfl | ⟨-, ⟨rfl, -⟩ | ⟨rfl, -⟩⟩ <;> decide
    simpa only [State.phaseEnded, if_neg hoff, hfirst, Bool.false_eq_true, if_false] using hp

end Sys2Proof.Machine
end

section
/-!
SUPPORT. The clauses of O28 on the phases of an edge and on the two steps that end a soft turn-off (R121–R123, R127, R129, R131, R136).
-/

namespace Sys2Proof.Machine

/-! ### The phases of an edge -/

section phases
variable {s : State} (n : Slot) (d : Side) (dvdt dur : Nat) (hrun : s.cdRun = true)
include hrun

theorem edgePhaseEnd_vth (hphase : (s.gate n.val d).phase = 1 ∨ (s.gate n.val d).phase = 11) :
    Completes (.edgePhaseEnd n d .vth dvdt dur) s fun t =>
      (t.gate n.val d).phase = (s.gate n.val d).phase + 1 ∧ (t.gate n.val d).since = s.now ∧ (t.gate n.val d).preLim = false ∧ Only (fun _
      => False) { s with gatesH := t.gatesH, gatesL := t.gatesL } t := by
  refine completes_firstPhaseEnds s d hrun hphase (.inl rfl) ?_
  change (fun t : State => _) (s.firstPhaseEnds n.val d false).settle
  obtain ⟨hnext, hsince, hlim⟩ := s.firstPhaseEnds_gate n.val d false
  obtain ⟨hedges, hdrvs⟩ := s.firstPhaseEnds_records n.val d false
  simp only [State.settle_gate]
  exact ⟨hnext, hsince, hlim,
    (s.firstPhaseEnds_frame n.val d).1.settle.gates ((State.settle_edges _).trans hedges) ((State.settle_drvs _).trans hdrvs)⟩

theorem edgePhaseEnd_preTmax (hphase : (s.gate n.val d).phase = 1 ∨ (s.gate n.val d).phase = 11)
    (hlate : s.since (s.gate n.val d).since (profPreTmax.get (s.gate n.val d).prof) = true) :
    Completes (.edgePhaseEnd n d .tmax dvdt dur) s fun t =>
      (t.gate n.val d).phase = (s.gate n.val d).phase + 1 ∧ (t.gate n.val d).preLim ∧ t.flag (.gdv n.val) 11 ∧ Only (fun a => (FlagSrc.gdv
      n.val).owns 11 a) { s with gatesH := t.gatesH, gatesL := t.gatesL } t := by
  refine completes_firstPhaseEnds s d hrun hphase (.inr ⟨rfl, hlate⟩) ?_
  change (fun t : State => _) (s.firstPhaseEnds n.val d true).settle
  obtain ⟨hnext, -, hlim⟩ := s.firstPhaseEnds_gate n.val d true
  obtain ⟨hedges, hdrvs⟩ := s.firstPhaseEnds_records n.val d true
  simp only [State.settle_gate]
  refine ⟨hnext, hlim, ?_,
    (s.firstPhaseEnds_frame n.val d).2.settle.gates ((State.settle_edges _).trans hedges) ((State.settle_drvs _).trans hdrvs)⟩
  rw [State.settle_gdvFlag _ _ n.isLt]
  exact s.firstPhaseEnds_flag n.val d

/-- Where phase 2 ends, the channel goes on, and its report stands in the register of the channel and direction. -/
theorem edgePhaseEnd_second {how : PhaseEnd} {p : State → Prop} (hends : s.PlateauEnds n.val d how dur)
    (hp : ∀ t : State, (t.gate n.val d).phase = (if (s.gate n.val d).rising then 3 else if (s.gate n.val d).stepEdge then 0 else 13) →
      (t.gate n.val d).since = s.now →
      (∀ b, b < 32 → (plateauMask how (s.gate n.val d).stepEdge (s.plateauStep n.val d how dvdt).2).testBit b = true →
        t.flag (.gdv n.val) b = true) →
      (t.reg (repReg n.val d (s.gate n.val d).rising)).toNat / 2 ^ 24 = min dvdt 255 →
      (t.reg (repReg n.val d (s.gate n.val d).rising)).toNat / 2 ^ 12 % 2 ^ 12 = min dur 4095 →
      (t.reg (repReg n.val d (s.gate n.val d).rising)).toNat / 16 % 2 = b2n (how == .noTrans) →
      (t.reg (repReg n.val d (s.gate n.val d).rising)).toNat / 8 % 2 = b2n (how == .tmax) → p t) :
    Completes (.edgePhaseEnd n d how dvdt dur) s p := by
  refine completes_endPlateau hrun hends ?_
  obtain ⟨hnext, hsince⟩ := s.endPlateau_gate n.val d how dvdt dur
  obtain ⟨hslope, hspan, hnt, hlim⟩ := s.endPlateau_fields n.val d how dvdt dur n.isLt
  rw [← State.settle_gate] at hnext hsince
  rw [← State.settle_reg_low _ (repReg_low n.val d n.isLt _)] at hslope hspan hnt hlim
  refine hp _ hnext hsince (fun b hb hm => ?_) hslope hspan hnt hlim
  rw [State.settle_gdvFlag _ _ n.isLt]
  exact s.endPlateau_flag n.val d how dvdt dur hb hm

theorem edgePhaseEnd_transEnd (hphase : (s.gate n.val d).phase = 2 ∨ (s.gate n.val d).phase = 12)
    (hlong : (s.now - (s.gate n.val d).since) * 16 < dur + 16) (hshort : dur < (s.now - (s.gate n.val d).since) * 16 + 16) :
    Completes (.edgePhaseEnd n d .transEnd dvdt dur) s fun t =>
      (t.gate n.val d).phase = (if (s.gate n.val d).rising then 3 else if (s.gate n.val d).stepEdge then 0 else 13) ∧ (t.gate n.val d).since
      = s.now ∧ (t.reg (repReg n.val d (s.gate n.val d).rising)).toNat / 2 ^ 24 = min dvdt 255 ∧ (t.reg (repReg n.val d (s.gate n.val
      d).rising)).toNat / 2 ^ 12 % 2 ^ 12 = min dur 4095 :=
  edgePhaseEnd_second n d dvdt dur hrun ⟨hphase, hlong, hshort, .inl rfl⟩ fun _ hnext hsince _ hslope hspan _ _ => ⟨hnext, hsince, hslope, hspan⟩

theorem edgePhaseEnd_pltTmax (hphase : (s.gate n.val d).phase = 2 ∨ (s.gate n.val d).phase = 12) (hstep : (s.gate n.val d).stepEdge = false)
    (hlong : (s.now - (s.gate n.val d).since) * 16 < dur + 16) (hshort : dur < (s.now - (s.gate n.val d).since) * 16 + 16)
    (hlate : s.since (s.gate n.val d).since (profTmax.get (s.gate n.val d).prof) = true) :
    Completes (.edgePhaseEnd n d .tmax dvdt dur) s fun t =>
      (t.gate n.val d).phase = (if (s.gate n.val d).rising then 3 else 13) ∧ t.flag (.gdv n.val) 10 ∧ (t.reg (repReg n.val d (s.gate n.val
      d).rising)).toNat / 8 % 2 = 1 := by
  refine edgePhaseEnd_second n d dvdt dur hrun ⟨hphase, hlong, hshort, .inr ⟨hstep, .inl ⟨rfl, hlate⟩⟩⟩ fun t hnext _ hflags _ _ _ hlim => ?_
  rw [hstep] at hnext hflags
  refine ⟨hnext, hflags 10 (by decide) ?_, hlim⟩
  rw [s.plateauStep_limited n.val d _ dvdt (.inl rfl)]
  decide

theorem edgePhaseEnd_noTrans (hphase : (s.gate n.val d).phase = 2 ∨ (s.gate n.val d).phase = 12) (hstep : (s.gate n.val d).stepEdge = false)
    (hlong : (s.now - (s.gate n.val d).since) * 16 < dur + 16) (hshort : dur < (s.now - (s.gate n.val d).since) * 16 + 16)
    (hlate : s.since (s.gate n.val d).since 12 = true) :
    Completes (.edgePhaseEnd n d .noTrans dvdt dur) s fun t =>
      (t.gate n.val d).phase = (if (s.gate n.val d).rising then 3 else 13) ∧ t.flag (.gdv n.val) 9 ∧ (t.reg (repReg n.val d (s.gate n.val
      d).rising)).toNat / 16 % 2 = 1 := by
  refine edgePhaseEnd_second n d dvdt dur hrun ⟨hphase, hlong, hshort, .inr ⟨hstep, .inr ⟨rfl, hlate⟩⟩⟩ fun t hnext _ hflags _ _ hnt _ => ?_
  rw [hstep] at hnext hflags
  refine ⟨hnext, hflags 9 (by decide) ?_, hnt⟩
  rw [s.plateauStep_limited n.val d _ dvdt (.inr rfl)]
  decide

end phases

/-! ### A channel is off (R129) -/

section off
variable (s : State) (n : Nat) (d : Side)

theorem clampField_bit : (clampField d).lo + (clampField d).len ≤ 32 ∧ (clampField d).len = 1 := by cases d <;> decide

theorem State.gateOff_frame : SlotOnly (fun a => a = Reg.GDV_STAT n) s (s.gateOff n d) := (SlotOnly.updGate _ s n d _).trans (.setBit _ _ _ _)

theorem State.gateOff_records : (s.gateOff n d).edges = s.edges ∧ (s.gateOff n d).drvs = s.drvs := ⟨s.updGate_edges n d _, s.updGate_drvs n d _⟩

theorem State.gateOff_phase : ((s.gateOff n d).gate n d).phase = 0 := by simp [State.gateOff]

theorem State.gateOff_other : (s.gateOff n d).gate n (otherSide d) = s.gate n (otherSide d) :=
  (State.gate_setBit _ _ _ _ _ _).trans (s.gate_updGate_otherSide n d _)

theorem State.gateOff_clamp : (s.gateOff n d).bit (Reg.GDV_STAT n) (clampField d) = s.bit (Reg.GDV_CTRL n) (mclampField d) := by
  obtain ⟨hfits, hone⟩ := clampField_bit d
  exact State.bit_setBit_same _ _ _ _ hfits hone

end off

theorem edgePhaseEnd_off {s : State} (n : Slot) (d : Side) (dvdt dur : Nat) (hrun : s.cdRun = true) (hphase : (s.gate n.val d).phase = 13) :
    Completes (.edgePhaseEnd n d .off dvdt dur) s fun t =>
      (t.gate n.val d).phase = 0 ∧ t.bit (Reg.GDV_STAT n.val) (clampField d) = s.bit (Reg.GDV_CTRL n.val) (mclampField d) ∧ Only (fun a => a =
      Reg.GDV_STAT n.val) { s with gatesH := t.gatesH, gatesL := t.gatesL } t := by
  refine completes_onlyIf (exec_edgePhaseEnd s d n .off dvdt dur) (by simp [State.phaseFits, hrun, hphase]) ?_
  rw [State.phaseEnded, if_pos rfl]
  obtain ⟨hedges, hdrvs⟩ := s.gateOff_records n.val d
  refine ⟨?_, ?_, (s.gateOff_frame n.val d).settle.gates ((State.settle_edges _).trans hedges) ((State.settle_drvs _).trans hdrvs)⟩
  · rw [State.settle_gate]; exact s.gateOff_phase n.val d
  · rw [State.settle_bit_low _ _ (gdvReg_low n.val n.isLt).1]; exact s.gateOff_clamp n.val d

/-! ### Step 2 of a soft turn-off (R131) -/

section second
variable (s : State) (n : Nat)

/-- A channel in step 1 begins step 2. -/
def State.stepTwo (s : State) (n : Nat) (d : Side) : State :=
  s.updGate n d fun g => if g.phase = 21 then { g with phase := 22, since := s.now } else g

theorem State.stepTwo_phase (d : Side) : ((s.stepTwo n d).gate n d).phase = if (s.gate n d).phase = 21 then 22 else (s.gate n d).phase := by
  simp [State.stepTwo, apply_ite Gate.phase]

theorem State.stepTwo_other (d : Side) : (s.stepTwo n d).gate n (otherSide d) = s.gate n (otherSide d) := s.gate_updGate_otherSide n d _

theorem State.stepTwo_now (d : Side) : (s.stepTwo n d).now = s.now := s.updGate_now n d _

theorem State.softSecond_eq (l : List Side) : s.softSecond n l =
    if ((s.each l fun u d => u.stepTwo n d).gate n .high).phase == 21 || ((s.each l fun u d => u.stepTwo n d).gate n .low).phase == 21 then
      s.each l fun u d => u.stepTwo n d
    else (s.each l fun u d => u.stepTwo n d).updDrv n fun d => { d with softStep2 := some (s.each l fun u d => u.stepTwo n d).now } := rfl

theorem State.stepTwo_frame (p : Nat → Prop) (l : List Side) : SlotOnly p s (s.each l fun u d => u.stepTwo n d) :=
  s.each_rel (SlotOnly p) (.refl p) .trans _ l fun u d _ => .updGate p u n d _

theorem State.stepTwo_edges (l : List Side) : (s.each l fun u d => u.stepTwo n d).edges = s.edges :=
  s.each_same State.edges _ l fun u d _ => u.updGate_edges n d _

theorem State.softSecond_frame (l : List Side) : SlotOnly (fun _ => False) s (s.softSecond n l) := by
  rw [State.softSecond_eq]
  exact .ite (s.stepTwo_frame n _ l) ((s.stepTwo_frame n _ l).trans (.updDrv _ _ _ _))

theorem State.softSecond_edges (l : List Side) : (s.softSecond n l).edges = s.edges := by
  rw [State.softSecond_eq, apply_ite State.edges, State.updDrv_edges, ite_self, State.stepTwo_edges]

theorem State.softSecond_gate (l : List Side) (d : Side) : (s.softSecond n l).gate n d = (s.each l fun u d => u.stepTwo n d).gate n d := by
  rw [State.softSecond_eq, apply_ite (State.gate · n d), State.gate_updDrv, ite_self]

/-- The two channels of the slot begin step 2. -/
theorem State.softSecond_both : ((s.softSecond n [.high, .low]).drv n).softStep2 = some s.now ∧
    ((s.softSecond n [.high, .low]).gate n .high).phase = (if (s.gate n .high).phase = 21 then 22 else (s.gate n .high).phase) ∧
    ((s.softSecond n [.high, .low]).gate n .low).phase = (if (s.gate n .low).phase = 21 then 22 else (s.gate n .low).phase) := by
  have hhigh : (((s.stepTwo n .high).stepTwo n .low).gate n .high).phase = if (s.gate n .high).phase = 21 then 22 else (s.gate n .high).phase :=
    (congrArg Gate.phase (State.stepTwo_other _ n .low)).trans (s.stepTwo_phase n .high)
  have hlow : (((s.stepTwo n .high).stepTwo n .low).gate n .low).phase = if (s.gate n .low).phase = 21 then 22 else (s.gate n .low).phase := by
    rw [State.stepTwo_phase, show (s.stepTwo n .high).gate n .low = s.gate n .low from s.stepTwo_other n .high]
  refine ⟨?_, (congrArg Gate.phase (s.softSecond_gate n _ .high)).trans hhigh, (congrArg Gate.phase (s.softSecond_gate n _ .low)).trans hlow⟩
  have hboth : ((((s.stepTwo n .high).stepTwo n .low).gate n .high).phase == 21 ||
      (((s.stepTwo n .high).stepTwo n .low).gate n .low).phase == 21) = false := by
    rw [hhigh, hlow]
    simp only [Bool.or_eq_false_iff, beq_eq_false_iff_ne]
    constructor <;> split <;> omega
  rw [State.softSecond_eq, State.each_cons, State.each_cons, State.each_nil, hboth, if_neg Bool.false_ne_true, State.drv_updDrv_same,
    State.stepTwo_now, State.stepTwo_now]

end second

theorem softTurnoffStep2_slot {s : State} (n : Slot) {t0 : Nat} (hrun : s.cdRun = true) (hsoft : (s.drv n.val).softAt = some t0)
    (hfirst : (s.drv n.val).softStep2 = none) (htime : s.since t0 (s.drv n.val).softT = true) :
    Completes (.softTurnoffStep2 n none) s fun t =>
      (t.drv n.val).softStep2 = some s.now ∧ ((s.gate n.val .high).phase = 21 → (t.gate n.val .high).phase = 22) ∧ ((s.gate n.val .low).phase = 21 →
      (t.gate n.val .low).phase = 22) ∧ Only (fun _ => False) { s with gatesH := t.gatesH, gatesL := t.gatesL, drvs := t.drvs } t := by
  have hexec : exec (.softTurnoffStep2 n none) s =
      onlyIf (s.cdRun && (s.drv n.val).softStep2.isNone && (s.drv n.val).softAt.any fun t => s.since t (s.drv n.val).softT) s fun s =>
        s.softSecond n.val [.high, .low] := rfl
  obtain ⟨hstep, hhigh, hlow⟩ := s.softSecond_both n.val
  refine completes_onlyIf hexec (by simp [hrun, hsoft, hfirst, htime]) ⟨?_, fun h => ?_, fun h => ?_, ?_⟩
  · rw [State.settle_drv]; exact hstep
  · rw [State.settle_gate, hhigh, if_pos h]
  · rw [State.settle_gate, hlow, if_pos h]
  · exact (s.softSecond_frame n.val _).settle.gatesDrvs ((State.settle_edges _).trans (s.softSecond_edges n.val _))

theorem softTurnoffStep2_channel {s : State} (n : Slot) (d : Side) (hrun : s.cdRun = true) (hsoft : (s.drv n.val).softAt = some s.now)
    (hphase : (s.gate n.val d).phase = 21) :
    Completes (.softTurnoffStep2 n (some d)) s fun t =>
      (t.gate n.val d).phase = 22 ∧ (t.gate n.val (otherSide d)).phase = (s.gate n.val (otherSide d)).phase ∧ Only (fun _ => False)
      { s with gatesH := t.gatesH, gatesL := t.gatesL, drvs := t.drvs } t := by
  have hexec : exec (.softTurnoffStep2 n (some d)) s = onlyIf (s.cdRun && s.softNow n.val && (s.gate n.val d).phase == 21) s fun s =>
      s.softSecond n.val [d] := rfl
  refine completes_onlyIf hexec (by simp [hrun, State.softNow, hsoft, hphase]) ⟨?_, ?_, ?_⟩
  · rw [State.settle_gate, State.softSecond_gate, State.each_cons, State.each_nil, State.stepTwo_phase, if_pos hphase]
  · rw [State.settle_gate, State.softSecond_gate, State.each_cons, State.each_nil, State.stepTwo_other]
  · exact (s.softSecond_frame n.val _).settle.gatesDrvs ((State.settle_edges _).trans (s.softSecond_edges n.val _))

/-! ### Step 3 of a soft turn-off (R131, R136) -/

section third
variable (s : State) (n : Nat) (d : Side) (below : Bool)

/-- A channel in step 2 is off, or the sink of phase 3 takes over. -/
def State.channelClosed (s : State) (n : Nat) (below : Bool) (d : Side) : State :=
  if (s.gate n d).phase = 22 then
    let s := s.updGate n d fun g => { g with phase := 13, since := s.now, offAt := s.tbFine }
    if below then s.gateOff n d else s
  else s

theorem State.channelClosed_frame : SlotOnly (fun a => a = Reg.GDV_STAT n) s (s.channelClosed n below d) :=
  .ite (.ite ((SlotOnly.updGate _ s n d _).trans (State.gateOff_frame _ n d)) (.updGate _ s n d _)) (.refl _ s)

theorem State.channelClosed_records : (s.channelClosed n below d).edges = s.edges ∧ (s.channelClosed n below d).drvs = s.drvs := by
  unfold State.channelClosed
  dsimp only
  split
  · split
    · obtain ⟨hedges, hdrvs⟩ := State.gateOff_records (s.updGate n d fun g => { g with phase := 13, since := s.now, offAt := s.tbFine }) n d
      exact ⟨hedges.trans (s.updGate_edges n d _), hdrvs.trans (s.updGate_drvs n d _)⟩
    · exact ⟨s.updGate_edges n d _, s.updGate_drvs n d _⟩
  · exact ⟨rfl, rfl⟩

theorem State.channelClosed_phase (h : (s.gate n d).phase = 22) : ((s.channelClosed n below d).gate n d).phase = if below then 0 else 13 := by
  simp only [State.channelClosed, if_pos h]
  cases below
  · simp
  · exact State.gateOff_phase _ n d

theorem State.channelClosed_other : (s.channelClosed n below d).gate n (otherSide d) = s.gate n (otherSide d) := by
  unfold State.channelClosed
  dsimp only
  split
  · split
    · exact (State.gateOff_other _ n d).trans (s.gate_updGate_otherSide n d _)
    · exact s.gate_updGate_otherSide n d _
  · rfl

/-- Both channels of the slot leave step 2. -/
def State.bothClosed (s : State) (n : Nat) (below : Bool) : State := (s.channelClosed n below .high).channelClosed n below .low

/-- The soft turn-off is noted as ended. -/
def State.softNoted (s : State) (n : Nat) : State :=
  ((s.setBit (Reg.GDV_STAT n) Fld.GDV_STAT_SOFT_ACTIVE false).raise (.gdv n) 6).updDrv n fun d =>
    { d with softAt := none, softStep2 := none, openAfter := false }

theorem execSoftTurnoffStep3_fun : execSoftTurnoffStep3 = fun n below s =>
    onlyIf (s.cdRun && (s.drv n.val).softStep2.any fun t => below || s.since t 400) s fun s =>
      if ((((s.bothClosed n.val below).setBit (Reg.GDV_STAT n.val) Fld.GDV_STAT_SOFT_ACTIVE false).raise (.gdv n.val) 6).drv n.val).openAfter then
        ((s.bothClosed n.val below).softNoted n.val).openEnergy n.val
      else (s.bothClosed n.val below).softNoted n.val := rfl

theorem State.bothClosed_records : (s.bothClosed n below).edges = s.edges ∧ (s.bothClosed n below).drvs = s.drvs := by
  obtain ⟨hedges, hdrvs⟩ := s.channelClosed_records n .high below
  obtain ⟨hedges', hdrvs'⟩ := (s.channelClosed n below .high).channelClosed_records n .low below
  exact ⟨hedges'.trans hedges, hdrvs'.trans hdrvs⟩

theorem State.bothClosed_frame : SlotOnly (fun a => a = Reg.GDV_STAT n) s (s.bothClosed n below) :=
  (s.channelClosed_frame n .high below).trans (State.channelClosed_frame _ n .low below)

theorem State.bothClosed_phase (h : (s.gate n d).phase = 22) : ((s.bothClosed n below).gate n d).phase = if below then 0 else 13 := by
  unfold State.bothClosed
  cases d
  · exact (congrArg Gate.phase (State.channelClosed_other _ n .low below)).trans (s.channelClosed_phase n .high below h)
  · refine State.channelClosed_phase _ n .low below ?_
    rw [show (s.channelClosed n below .high).gate n .low = s.gate n .low from s.channelClosed_other n .high below]
    exact h

/-- The status of a slot is none of the registers of its flags. -/
theorem gdvStat_unowned (b : Nat) : (FlagSrc.gdv n).owns b (Reg.GDV_STAT n) = false := by
  simp only [FlagSrc.owns, FlagSrc.addr, FlagSrc.counter, FlagSrc.cnt0, Option.any_some, Reg.GDV_STAT, Reg.GDV_FLAGS, Reg.GDV_CNT0,
    Bool.or_eq_false_iff, beq_eq_false_iff_ne]
  omega

theorem State.softNoted_frame : SlotOnly (fun a => a = Reg.GDV_STAT n ∨ (FlagSrc.gdv n).owns 6 a = true) s (s.softNoted n) :=
  (((SlotOnly.setBit s _ _ _).mono fun _ => .inl).trans ((SlotOnly.raise _ _ 6).mono fun _ => .inr)).trans (.updDrv _ _ n _)

theorem State.softNoted_drv : ((s.softNoted n).drv n).softAt = none ∧ ((s.softNoted n).drv n).softStep2 = none := by
  rw [State.softNoted, State.drv_updDrv_same]
  exact ⟨rfl, rfl⟩

theorem State.softNoted_edges : (s.softNoted n).edges = s.edges := State.raise_edges _ _ _

theorem State.softNoted_gate : (s.softNoted n).gate n d = s.gate n d := by
  rw [State.softNoted, State.gate_updDrv, State.gate_raise, State.gate_setBit]

theorem State.softNoted_inactive : (s.softNoted n).bit (Reg.GDV_STAT n) Fld.GDV_STAT_SOFT_ACTIVE = false :=
  (State.bit_congr (State.reg_raise_unowned _ (gdvStat_unowned n 6)) _).trans (s.bit_setBit_same _ _ _ (by decide) rfl)

theorem State.softNoted_flag : (s.softNoted n).flag (.gdv n) 6 = true := State.flag_raise _ _ 6 (by decide)

theorem State.openEnergy_frame : SlotOnly (fun a => a = Reg.GDV_STAT n ∨ (FlagSrc.gdv n).owns 7 a = true) s (s.openEnergy n) :=
  .ite (.refl _ s) (((SlotOnly.setBit s _ _ _).mono fun _ => .inl).trans ((SlotOnly.raise _ _ 7).mono fun _ => .inr))

theorem State.openEnergy_records : (s.openEnergy n).edges = s.edges ∧ (s.openEnergy n).drvs = s.drvs := by
  unfold State.openEnergy
  split
  · exact ⟨rfl, rfl⟩
  · exact ⟨State.raise_edges _ _ _, State.raise_drvs _ _ _⟩

theorem State.openEnergy_gate : (s.openEnergy n).gate n d = s.gate n d := by
  rw [State.openEnergy, apply_ite (State.gate · n d), State.gate_raise, State.gate_setBit, ite_self]

theorem State.openEnergy_removed : (s.openEnergy n).bit (Reg.GDV_STAT n) Fld.GDV_STAT_EREMOVED = true := by
  unfold State.openEnergy
  split
  · assumption
  · exact (State.bit_congr (State.reg_raise_unowned _ (gdvStat_unowned n 7)) _).trans (s.bit_setBit_same _ _ _ (by decide) rfl)

theorem State.openEnergy_beside (f : Field)
    (h : f.lo + f.len ≤ Fld.GDV_STAT_EREMOVED.lo ∨ Fld.GDV_STAT_EREMOVED.lo + Fld.GDV_STAT_EREMOVED.len ≤ f.lo) :
    (s.openEnergy n).bit (Reg.GDV_STAT n) f = s.bit (Reg.GDV_STAT n) f := by
  unfold State.openEnergy
  split
  · rfl
  · exact (State.bit_congr (State.reg_raise_unowned _ (gdvStat_unowned n 7)) _).trans (s.bit_setBit_beside _ _ f _ (by decide) h)

theorem State.openEnergy_flag {b : Nat} (hb : b < 32) (h : s.flag (.gdv n) b = true) : (s.openEnergy n).flag (.gdv n) b = true := by
  unfold State.openEnergy
  split
  · exact h
  · refine State.flag_raise_mono _ _ 7 b hb ((State.flag_congr ?_ b).trans h)
    exact State.reg_setBit_other _ _ _ (by simp [FlagSrc.addr, Reg.GDV_FLAGS, Reg.GDV_STAT])

end third

theorem softTurnoffStep3_ends {s : State} (n : Slot) (below : Bool) {t0 : Nat} (hrun : s.cdRun = true) (hstep : (s.drv n.val).softStep2 = some t0)
    (htime : below = true ∨ s.since t0 400 = true) :
    Completes (.softTurnoffStep3 n below) s fun t =>
      (t.drv n.val).softAt = none ∧ (t.drv n.val).softStep2 = none ∧ t.bit (Reg.GDV_STAT n.val) Fld.GDV_STAT_SOFT_ACTIVE = false ∧ t.flag (.gdv n.val) 6
      ∧ ((s.gate n.val .high).phase = 22 → (t.gate n.val .high).phase = (if below then 0 else 13)) ∧ ((s.gate n.val .low).phase = 22 → (t.gate n.val
      .low).phase = (if below then 0 else 13)) ∧ ((s.drv n.val).openAfter → t.bit (Reg.GDV_STAT n.val) Fld.GDV_STAT_EREMOVED) ∧ Only (fun a => a =
      Reg.GDV_STAT n.val ∨ (FlagSrc.gdv n.val).owns 6 a ∨ (FlagSrc.gdv n.val).owns 7 a)
      { s with gatesH := t.gatesH, gatesL := t.gatesL, drvs := t.drvs } t := by
  obtain ⟨hedges, hdrvs⟩ := s.bothClosed_records n.val below
  have hopen : ((((s.bothClosed n.val below).setBit (Reg.GDV_STAT n.val) Fld.GDV_STAT_SOFT_ACTIVE false).raise (.gdv n.val) 6).drv n.val).openAfter =
      (s.drv n.val).openAfter := by
    rw [State.drv, State.raise_drvs, State.setBit_drvs, hdrvs]
    rfl
  have hexec : exec (.softTurnoffStep3 n below) s = onlyIf (s.cdRun && (s.drv n.val).softStep2.any fun t => below || s.since t 400) s fun s =>
      if ((((s.bothClosed n.val below).setBit (Reg.GDV_STAT n.val) Fld.GDV_STAT_SOFT_ACTIVE false).raise (.gdv n.val) 6).drv n.val).openAfter then
        ((s.bothClosed n.val below).softNoted n.val).openEnergy n.val
      else (s.bothClosed n.val below).softNoted n.val := by
    change execSoftTurnoffStep3 n below s = _
    rw [execSoftTurnoffStep3_fun]
  refine completes_onlyIf hexec (by simpa [hrun, hstep] using htime) ?_
  rw [hopen]
  generalize hu : (s.bothClosed n.val below).softNoted n.val = u
  have hframe : SlotOnly (fun a => a = Reg.GDV_STAT n.val ∨ (FlagSrc.gdv n.val).owns 6 a ∨ (FlagSrc.gdv n.val).owns 7 a) s u := by
    rw [← hu]
    refine ((s.bothClosed_frame n.val below).mono fun _ => .inl).trans ((State.softNoted_frame _ n.val).mono fun a h => ?_)
    exact h.imp_right .inl
  have huedges : u.edges = s.edges := by rw [← hu, State.softNoted_edges, hedges]
  obtain ⟨hsoftAt, hsoftStep⟩ : (u.drv n.val).softAt = none ∧ (u.drv n.val).softStep2 = none := by
    rw [← hu]
    exact State.softNoted_drv _ n.val
  have hinactive : u.bit (Reg.GDV_STAT n.val) Fld.GDV_STAT_SOFT_ACTIVE = false := by rw [← hu]; exact State.softNoted_inactive _ n.val
  have hflag : u.flag (.gdv n.val) 6 = true := by rw [← hu]; exact State.softNoted_flag _ n.val
  have hphase (d : Side) (h : (s.gate n.val d).phase = 22) : (u.gate n.val d).phase = if below then 0 else 13 := by
    rw [← hu, State.softNoted_gate]
    exact s.bothClosed_phase n.val d below h
  simp only [State.settle_drv, State.settle_gate, State.settle_bit_low _ _ (gdvReg_low n.val n.isLt).1, State.settle_gdvFlag _ _ n.isLt]
  obtain ⟨hoedges, hodrvs⟩ := u.openEnergy_records n.val
  cases hafter : (s.drv n.val).openAfter with
  | false =>
    simp only [Bool.false_eq_true, if_false, false_implies, true_and]
    exact ⟨hsoftAt, hsoftStep, hinactive, hflag, hphase .high, hphase .low, hframe.settle.gatesDrvs ((State.settle_edges _).trans huedges)⟩
  | true =>
    simp only [if_true, true_implies, State.openEnergy_gate]
    have hdrv : (u.openEnergy n.val).drv n.val = u.drv n.val := by rw [State.drv, hodrvs]; rfl
    rw [hdrv]
    refine ⟨hsoftAt, hsoftStep, (u.openEnergy_beside n.val _ (by decide)).trans hinactive, u.openEnergy_flag n.val (by decide) hflag, hphase .high,
      hphase .low, u.openEnergy_removed n.val, ?_⟩
    refine (hframe.trans ((u.openEnergy_frame n.val).mono fun a h => ?_)).settle.gatesDrvs ((State.settle_edges _).trans (hoedges.trans huedges))
    exact h.imp_right .inr

end Sys2Proof.Machine
end

section
/-!
SUPPORT. What the escalation ladder keeps of a fault of a slot: the flags of the edge engines and the driver dies, the status of the driver dies, and
what their detectors report (R120, R130, R139).
-/

namespace Sys2Proof.Machine

/-! ### What the detectors of the slots report -/

/-- The registers of the driver dies and the flags of the edge engines. -/
def sensedReg (a : Nat) : Bool := decide ((0x10000 ≤ a ∧ a < 0x16000 ∧ a % 0x400 = 0x104) ∨ (0x18000 ≤ a ∧ a < 0x1B000))

theorem sensedReg_lower {a : Nat} (h : a < 0x10000) : sensedReg a = false := decide_eq_false (by omega)
theorem sensedReg_upper {a : Nat} (h : 0x1B000 ≤ a) : sensedReg a = false := decide_eq_false (by omega)

theorem sensedReg_of_periph {a : Nat} (h : periph a = true) : sensedReg a = false := by
  simp only [periph, Bool.or_eq_true, Bool.and_eq_true, Nat.ble_eq, Nat.blt_eq] at h
  exact sensedReg_upper (by omega)

theorem sensedReg_slot (n : Fin 24) :
    sensedReg (Reg.EDG_FLAGS n) = true ∧ sensedReg (Reg.GDV_STAT n) = true ∧ sensedReg (Reg.GDV_FLAGS n) = true := by
  simp only [Reg.EDG_FLAGS, Reg.GDV_STAT, Reg.GDV_FLAGS]
  refine ⟨decide_eq_true ?_, decide_eq_true ?_, decide_eq_true ?_⟩ <;> omega

/-- What the desaturation comparator and the bias supervision of a channel report. -/
def Gate.senses (g : Gate) : Bool × Bool × Option Nat := (g.dsatUp, g.armed, g.railIn)

/-- What the channels and the edge links report, and the registers in which a fault of a slot shows. -/
def State.sensed (s : State) : (Nat → Side → Bool × Bool × Option Nat) × (Nat → Bool) × (Nat → Word) :=
  (fun n d => (s.gate n d).senses, fun n => (s.drv n).linkUp, fun a => if sensedReg a then s.reg a else 0)

theorem State.sensed_eq {s t : State} (hgate : ∀ n d, (t.gate n d).senses = (s.gate n d).senses) (hlink : ∀ n, (t.drv n).linkUp = (s.drv n).linkUp)
    (hreg : ∀ a, sensedReg a = true → t.reg a = s.reg a) : t.sensed = s.sensed := by
  refine Prod.ext (funext fun n => funext fun d => hgate n d) (Prod.ext (funext hlink) (funext fun a => ?_))
  simp only [State.sensed]
  split
  · rename_i h; exact hreg a h
  · rfl

theorem State.reg_of_sensed {s t : State} (h : t.sensed = s.sensed) {a : Nat} (ha : sensedReg a = true) : t.reg a = s.reg a := by
  have hr := congrFun (congrArg (·.2.2) h) a
  simpa [State.sensed, ha] using hr

theorem State.sensed_of_core {s t : State} (h : t.core = s.core) : t.sensed = s.sensed := by
  refine State.sensed_eq (fun n d => ?_) (fun n => ?_) fun a ha => ?_
  · have hhigh : t.gatesH = s.gatesH := congrArg (·.1.gatesH) h
    have hlow : t.gatesL = s.gatesL := congrArg (·.1.gatesL) h
    simp only [State.gate, hhigh, hlow]
  · have hdrvs : t.drvs = s.drvs := congrArg (·.1.drvs) h
    simp only [State.drv, hdrvs]
  · have hp : periph a = false := by
      by_contra hne
      rw [sensedReg_of_periph (by simpa using hne)] at ha
      cases ha
    simpa [State.core, hp] using congrFun (congrArg Prod.snd h) a

section updates
variable (s : State)

theorem State.sensed_setReg {a : Nat} (v : Word) (h : sensedReg a = false) : (s.setReg a v).sensed = s.sensed :=
  State.sensed_eq (fun _ d => by cases d <;> rfl) (fun _ => rfl) fun x hx => s.reg_setReg_other v (by rintro rfl; rw [h] at hx; cases hx)

@[simp] theorem State.sensed_setFld {a : Nat} (f : Field) (v : Nat) (h : sensedReg a = false) : (s.setFld a f v).sensed = s.sensed :=
  s.sensed_setReg _ h
@[simp] theorem State.sensed_setBit {a : Nat} (f : Field) (v : Bool) (h : sensedReg a = false) : (s.setBit a f v).sensed = s.sensed :=
  s.sensed_setReg _ h
@[simp] theorem State.sensed_setNat {a : Nat} (v : Nat) (h : sensedReg a = false) : (s.setNat a v).sensed = s.sensed := s.sensed_setReg _ h

/-- What changes neither channels nor driver dies nor registers. -/
theorem State.sensed_records {s t : State} (hh : t.gatesH = s.gatesH) (hl : t.gatesL = s.gatesL) (hd : t.drvs = s.drvs) (hr : t.reg = s.reg) :
    t.sensed = s.sensed :=
  State.sensed_eq (fun _ d => by cases d <;> simp only [State.gate, hh, hl]) (fun _ => by simp only [State.drv, hd]) fun a _ => congrFun hr a

@[simp] theorem State.sensed_updEdge (n : Nat) (f : Edge → Edge) : (s.updEdge n f).sensed = s.sensed := State.sensed_records rfl rfl rfl rfl
@[simp] theorem State.sensed_updCluster (k : Nat) (f : Cluster → Cluster) : (s.updCluster k f).sensed = s.sensed :=
  State.sensed_records rfl rfl rfl rfl
@[simp] theorem State.sensed_updRegion (g : Nat) (f : Region → Region) : (s.updRegion g f).sensed = s.sensed := State.sensed_records rfl rfl rfl rfl
@[simp] theorem State.sensed_updDc (k : Nat) (f : Dc → Dc) : (s.updDc k f).sensed = s.sensed := State.sensed_records rfl rfl rfl rfl
@[simp] theorem State.sensed_updChg (k : Nat) (f : Chg → Chg) : (s.updChg k f).sensed = s.sensed := State.sensed_records rfl rfl rfl rfl
@[simp] theorem State.sensed_updRing (r : Nat) (f : RingSt → RingSt) : (s.updRing r f).sensed = s.sensed := State.sensed_records rfl rfl rfl rfl
@[simp] theorem State.sensed_updTrip (t : Nat) (f : TripSt → TripSt) : (s.updTrip t f).sensed = s.sensed := State.sensed_records rfl rfl rfl rfl
@[simp] theorem State.sensed_updRm (f : Rm → Rm) : (s.updRm f).sensed = s.sensed := State.sensed_records rfl rfl rfl rfl
@[simp] theorem State.sensed_updStore (f : Store → Store) : (s.updStore f).sensed = s.sensed := State.sensed_records rfl rfl rfl rfl
@[simp] theorem State.sensed_txns (x : File Nat Txn) : { s with txns := x }.sensed = s.sensed := State.sensed_records rfl rfl rfl rfl
@[simp] theorem State.sensed_diag (x : Diag) : { s with diag := x }.sensed = s.sensed := State.sensed_records rfl rfl rfl rfl
@[simp] theorem State.sensed_cmdWait (x : Option (Nat × Nat)) : { s with cmdWait := x }.sensed = s.sensed := State.sensed_records rfl rfl rfl rfl
@[simp] theorem State.sensed_logSafety (c d k : Nat) : (s.logSafety c d k).sensed = s.sensed := State.sensed_records rfl rfl rfl rfl
@[simp] theorem State.sensed_record (src bits : Nat) (l : List Nat) : (s.record src bits l).sensed = s.sensed :=
  State.sensed_of_core (s.core_record _ _ _)
@[simp] theorem State.sensed_asyncIn (t code : Nat) : (s.asyncIn t code).sensed = s.sensed := State.sensed_of_core (s.core_asyncIn _ _)
@[simp] theorem State.sensed_device (who block code st : Nat) : (s.device who block code st).sensed = s.sensed :=
  State.sensed_of_core (s.core_device _ _ _ _)
@[simp] theorem State.sensed_resetParty (p : Nat) : (s.resetParty p).sensed = s.sensed := State.sensed_of_core (s.core_resetParty p)
@[simp] theorem State.sensed_finish (r : Nat) (f : Fetched) (st why : Nat) (l : List Byte) : (s.finish r f st why l).sensed = s.sensed :=
  State.sensed_of_core (s.core_finish _ _ _ _ _)
@[simp] theorem State.sensed_unitsFollow : s.unitsFollow.sensed = s.sensed := State.sensed_of_core s.core_unitsFollow

/-- A change of a driver die that says nothing of its edge link. -/
theorem State.sensed_updDrv (n : Nat) (f : Drv → Drv) (h : (f (s.drv n)).linkUp = (s.drv n).linkUp) : (s.updDrv n f).sensed = s.sensed := by
  refine State.sensed_eq (fun m d => by rw [State.gate_updDrv]) (fun m => ?_) fun _ _ => rfl
  by_cases hm : m = n
  · rw [hm, State.drv_updDrv_same, h]
  · rw [State.drv_updDrv_other _ _ hm]

/-- A change of a channel that its detectors do not see. -/
theorem State.sensed_updGate (n : Nat) (d : Side) (f : Gate → Gate) (h : (f (s.gate n d)).senses = (s.gate n d).senses) :
    (s.updGate n d f).sensed = s.sensed := by
  refine State.sensed_eq (fun m e => ?_) (fun m => by cases d <;> rfl) fun a _ => s.updGate_reg n d f a
  by_cases hm : m = n ∧ e = d
  · obtain ⟨rfl, rfl⟩ := hm
    rw [State.gate_updGate_same, h]
  · have hother : (s.updGate n d f).gate m e = s.gate m e := by
      cases d <;> cases e <;> simp only [and_true, and_false, reduceCtorEq, not_false_eq_true] at hm
      · exact File.get_set_other _ _ _ hm
      · rfl
      · rfl
      · exact File.get_set_other _ _ _ hm
    rw [hother]

/-- A change made for each element of a list keeps it where every one does. -/
theorem State.sensed_each {α : Type} {l : List α} {f : State → α → State} (h : ∀ u x, x ∈ l → (f u x).sensed = u.sensed) :
    (s.each l f).sensed = s.sensed := s.each_same State.sensed f l h

theorem State.sensed_ite {c : Prop} [Decidable c] {s t u : State} (ht : t.sensed = s.sensed) (hu : u.sensed = s.sensed) :
    (if c then t else u).sensed = s.sensed := by
  split
  · exact ht
  · exact hu

end updates

/-! ### Registers and flags beside them -/

/-- A source whose flags and counters stand apart from the slots. -/
def FlagSrc.distant (src : FlagSrc) : Prop :=
  sensedReg src.addr = false ∧ ∀ b a lo, b < 32 → src.counter b = some (a, lo) → sensedReg a = false

@[simp] theorem FlagSrc.distant_ctu : FlagSrc.ctu.distant :=
  ⟨rfl, fun b a lo hb h => by
    rw [← (Prod.mk.inj (Option.some.inj h)).1]
    exact sensedReg_lower (by simp only [FlagSrc.cnt0, Reg.CTU_CNT0]; omega)⟩

@[simp] theorem FlagSrc.distant_cluster (k : Nat) : (FlagSrc.clu k).distant ∧ (FlagSrc.cluDc k).distant ∧ (FlagSrc.chg k).distant := by
  refine ⟨⟨sensedReg_upper ?_, fun b a lo _ h => ?_⟩, ⟨sensedReg_upper ?_, fun b a lo _ h => ?_⟩, ⟨sensedReg_upper ?_, fun b a lo _ h => ?_⟩⟩
  case refine_2 | refine_4 | refine_6 =>
    rw [← (Prod.mk.inj (Option.some.inj h)).1]
    refine sensedReg_upper ?_
    simp only [FlagSrc.cnt0, Reg.CLU_CNT0, Reg.CLU_DC_CNT0, Reg.CHG_CNT0]
    omega
  all_goals
    simp only [FlagSrc.addr, Reg.CLU_FLAGS, Reg.CLU_DC_FLAGS, Reg.CHG_FLAGS]
    omega

section flags
variable (s : State) {src : FlagSrc} (h : src.distant)
include h

@[simp] theorem State.sensed_raiseMask (m : Nat) : (s.raiseMask src m).sensed = s.sensed := by
  refine State.sensed_eq (fun n d => by rw [State.gate_raiseMask]) (fun n => by simp only [State.drv, State.raiseMask_drvs]) fun a ha => ?_
  refine s.raiseMask_reg src m (by rintro rfl; rw [h.1] at ha; cases ha) fun b hb _ x lo hc => ?_
  rintro rfl
  rw [h.2 b a lo hb hc] at ha
  cases ha

@[simp] theorem State.sensed_raise (b : Nat) : (s.raise src b).sensed = s.sensed := s.sensed_raiseMask h _

theorem State.sensed_asOne {b : Nat} (hb : b < 32) (f : State → State) (hf : (f s).sensed = s.sensed) : (s.asOne src b f).sensed = s.sensed := by
  unfold State.asOne
  simp only
  split
  · rename_i hc; exact ((f s).sensed_setFld _ _ (h.2 _ _ _ hb hc)).trans hf
  · exact hf

end flags

/-! ### Transactions, clusters and charges (R150, R152, R201, R212, R426) -/

section clusters
variable (s : State) (k : Nat)

theorem State.sensed_commitResult (t : Nat) (ok : Bool) (why off tc : Nat) : (s.commitResult t ok why off tc).sensed = s.sensed := by
  have hres : sensedReg Reg.CTU_RES = false := rfl
  unfold State.commitResult
  repeat' split
  all_goals simp [apply_ite State.sensed, hres]

theorem State.sensed_failPending {t : Nat} (why off : Nat) (h : t < 4) : (s.failPending t why off).sensed = s.sensed := by
  have hstat : sensedReg (Reg.CTU_T_STAT t) = false := sensedReg_lower (by simp only [Reg.CTU_T_STAT]; omega)
  have herr : sensedReg (Reg.CTU_T_ERR t) = false := sensedReg_lower (by simp only [Reg.CTU_T_ERR]; omega)
  rw [State.failPending, State.sensed_raiseMask _ FlagSrc.distant_ctu, State.freeTxn, State.sensed_txns, State.sensed_setReg _ _ hstat,
    State.sensed_commitResult, State.setTxErr, State.sensed_setNat _ _ herr]

@[simp] theorem State.sensed_conflictIf (p : Nat → Bool) : (s.conflictIf p).sensed = s.sensed := by
  refine State.sensed_asOne _ FlagSrc.distant_ctu (by omega) _ (State.sensed_asOne _ FlagSrc.distant_ctu (by omega) _ ?_)
  refine s.sensed_each fun u t ht => ?_
  repeat' split
  · exact u.sensed_failPending _ _ (List.mem_range.1 ht)
  all_goals rfl

@[simp] theorem sensedReg_cluster : sensedReg (Reg.CLU_STAT k) = false ∧ sensedReg (Reg.CLU_DC_STAT k) = false ∧
    sensedReg (Reg.CLU_DC_ILIM_EFF k) = false ∧ sensedReg (Reg.CLU_PV_VREF k) = false ∧ sensedReg (Reg.CHG_STAT k) = false ∧
    sensedReg (Reg.CHG_IREF k) = false := by
  simp only [Reg.CLU_STAT, Reg.CLU_DC_STAT, Reg.CLU_DC_ILIM_EFF, Reg.CLU_PV_VREF, Reg.CHG_STAT, Reg.CHG_IREF]
  refine ⟨sensedReg_upper ?_, sensedReg_upper ?_, sensedReg_upper ?_, sensedReg_upper ?_, sensedReg_upper ?_, sensedReg_upper ?_⟩ <;> omega

theorem sensedReg_edge {n : Nat} (h : n < 24) : sensedReg (Reg.EDG_STAT n) = false ∧ sensedReg (Reg.EDG_PHASE n) = false ∧
    sensedReg (Reg.EDG_REF n) = false := by
  simp only [Reg.EDG_STAT, Reg.EDG_PHASE, Reg.EDG_REF]
  refine ⟨decide_eq_false ?_, decide_eq_false ?_, decide_eq_false ?_⟩ <;> omega

@[simp] theorem State.sensed_setCState (v : Nat) : (s.setCState k v).sensed = s.sensed := by simp [State.setCState, apply_ite State.sensed]
@[simp] theorem State.sensed_cluFollow : (s.cluFollow k).sensed = s.sensed := by simp [State.cluFollow, apply_ite State.sensed]
@[simp] theorem State.sensed_withdraw : (s.withdraw k).sensed = s.sensed := by simp [State.withdraw]
@[simp] theorem State.sensed_writeMap : (s.writeMap k).sensed = s.sensed := by
  refine s.sensed_each fun u p _ => ?_
  repeat' split
  · rfl
  · rename_i n hn
    exact u.sensed_setNat _ (sensedReg_edge (u.mem_slotsOf (List.mem_of_getElem? hn))).2.1
  · rfl
@[simp] theorem State.sensed_setActive (mask : Nat) : (s.setActive k mask).sensed = s.sensed := by simp [State.setActive]
@[simp] theorem State.sensed_showIlim : (s.showIlim k).sensed = s.sensed := by simp [State.showIlim, apply_ite State.sensed]
@[simp] theorem State.sensed_changeRecord (mask : Nat) : (s.changeRecord k mask).sensed = s.sensed := by simp [State.changeRecord]
@[simp] theorem State.sensed_endCharge (l : List Nat) : (s.endCharge k l).sensed = s.sensed := by
  unfold State.endCharge
  simp only
  split
  · rfl
  · rw [State.sensed_device, State.sensed_record, State.sensed_raiseMask _ (FlagSrc.distant_cluster k).2.2,
      State.sensed_each _ fun u n hn => u.sensed_setFld _ _ (sensedReg_edge (State.mem_slotsOf _ hn)).2.2]
    simp
@[simp] theorem State.sensed_endSweep : (s.endSweep k).sensed = s.sensed := by
  unfold State.endSweep
  split <;> simp
@[simp] theorem State.sensed_cancelRetry : (s.cancelRetry k).sensed = s.sensed := by simp [State.cancelRetry]
@[simp] theorem State.sensed_leaveRun (why : Nat) : (s.leaveRun k why).sensed = s.sensed := by
  unfold State.leaveRun
  split <;> simp

theorem State.sensed_devDerate : s.devDerate.sensed = s.sensed := s.sensed_setBit _ _ rfl

theorem State.sensed_deratePhase (on : Bool) : (s.deratePhase k on).sensed = s.sensed := by
  have henter (u : State) : (u.derateEnter k).sensed = u.sensed := by
    unfold State.derateEnter
    exact State.sensed_ite rfl ((State.sensed_devDerate _).trans (by simp))
  unfold State.deratePhase
  exact State.sensed_ite rfl (State.sensed_ite ((henter _).trans (s.sensed_updCluster _ _)) (s.sensed_updCluster _ _))

end clusters

/-! ### The states of the device and of a slot (R65, R150) -/

section states
variable (s : State)

theorem State.sensed_enter (v : Nat) : (s.enter v).sensed = s.sensed := by
  unfold State.enter
  refine State.sensed_ite rfl ((State.sensed_unitsFollow _).trans ((State.sensed_conflictIf _ _).trans ((State.sensed_devDerate _).trans ?_)))
  exact s.sensed_setFld _ _ rfl

theorem State.sensed_runFollow : s.runFollow.sensed = s.sensed := by
  unfold State.runFollow
  exact State.sensed_ite (s.sensed_enter _) (State.sensed_ite (s.sensed_enter _) rfl)

variable {n : Nat} (hn : n < 24)
include hn

theorem State.sensed_setSState (v : Nat) : (s.setSState n v).sensed = s.sensed := by
  have hedg := (sensedReg_edge hn).1
  unfold State.setSState
  refine State.sensed_ite rfl ((State.sensed_runFollow _).trans ?_)
  split <;> simp [apply_ite State.sensed, hedg]

theorem State.sensed_holdState : (s.holdState n).sensed = s.sensed := by
  unfold State.holdState
  exact State.sensed_ite rfl (State.sensed_ite (s.sensed_setSState hn _) (State.sensed_ite (s.sensed_setSState hn _)
    (State.sensed_ite (s.sensed_setSState hn _) rfl)))

end states

/-! ### Ringmaster, SAFE and LOCKOUT (R66, R81, R136) -/

section ringmaster
variable (s : State)

@[simp] theorem sensedReg_safe : sensedReg Reg.SAFE_STAT = false ∧ sensedReg Reg.SAFE_LINES = false ∧ sensedReg Reg.SAFE_SO = false ∧
    sensedReg Reg.SAFE_DEMAND = false ∧ sensedReg Reg.GLB_DEVSTATE = false ∧ sensedReg Reg.GLB_DEVRESULT = false := by decide

@[simp] theorem State.sensed_rmFollow : s.rmFollow.sensed = s.sensed := by simp [State.rmFollow]
@[simp] theorem State.sensed_linesOff (mask : Nat) : (s.linesOff mask).sensed = s.sensed := by
  rw [State.linesOff, State.sensed_rmFollow, State.sensed_setNat _ _ (by decide)]
  exact s.sensed_each fun u n _ => u.sensed_updDrv n _ rfl
@[simp] theorem State.sensed_outputsOff (mask : Nat) : (s.outputsOff mask).sensed = s.sensed :=
  (State.sensed_updRm _ _).trans (s.sensed_setFld _ _ (by decide))
@[simp] theorem State.sensed_latch (bits : Nat) : (s.latch bits).sensed = s.sensed := (State.sensed_updRm _ _).trans (s.sensed_setNat _ (by decide))
@[simp] theorem State.sensed_preFail (g cause : Nat) : (s.preFail g cause).sensed = s.sensed := by
  have hpre : sensedReg (preStat g) = false := by unfold preStat; split <;> rfl
  simp [State.preFail, hpre]
@[simp] theorem State.sensed_mtRestart : s.mtRestart.sensed = s.sensed := by simp [State.mtRestart]
@[simp] theorem State.sensed_endCmd (res : Nat) : (s.endCmd res).sensed = s.sensed := by
  unfold State.endCmd
  split <;> simp [apply_ite State.sensed]

theorem State.sensed_lockoutEntry (cause : Nat) : (s.lockoutEntry cause).sensed = s.sensed := by
  unfold State.lockoutEntry
  rw [State.sensed_record, State.sensed_mtRestart, State.sensed_outputsOff, State.sensed_linesOff, State.sensed_diag, State.sensed_setBit _ _ _ rfl,
    State.sensed_updStore, State.sensed_setFld _ _ _ rfl, State.sensed_enter, State.sensed_endCmd, State.sensed_setBit _ _ _ rfl]

theorem State.sensed_countSafe : s.countSafe.sensed = s.sensed := by
  have hcount : ((s.updStore fun p => { p with safeAt := p.safeAt ++ [s.rm.vbTicks] }).showSafeCnt).sensed = s.sensed :=
    (State.sensed_setFld _ _ _ rfl).trans (s.sensed_updStore _)
  unfold State.countSafe
  exact State.sensed_ite ((State.sensed_lockoutEntry _ _).trans hcount) hcount

theorem State.sensed_safeEntry (cause : Nat) : (s.safeEntry cause).sensed = s.sensed := by
  unfold State.safeEntry
  rw [State.sensed_rmFollow, State.sensed_countSafe, State.sensed_endCmd, State.sensed_setFld _ _ _ rfl, State.sensed_enter]

theorem State.sensed_cutOff (cause bits : Nat) : (s.cutOff cause bits).sensed = s.sensed := by
  unfold State.cutOff
  rw [State.sensed_outputsOff, State.sensed_linesOff]
  exact State.sensed_ite ((State.sensed_record _ _ _ _).trans (s.sensed_latch bits)) (s.sensed_latch bits)

theorem State.sensed_diagNext (n : Nat) : (s.diagNext n).sensed = s.sensed := by
  unfold State.diagNext
  split
  · exact (State.sensed_diag _ _).trans (s.sensed_updDrv _ _ rfl)
  · exact s.sensed_diag _

end ringmaster
end Sys2Proof.Machine
end

section
/-!
SUPPORT. Every operation of the escalation ladder keeps what shows a fault of a slot: its flags, its holds, and what its detectors report
(R118, R120, R130–R140).
-/

namespace Sys2Proof.Machine

/-! ### The relation -/

/-- The holds that the detectors of a slot set. -/
def detectorHolds : List Field := [Fld.GDV_STAT_H_DSAT, Fld.GDV_STAT_H_BIAS, Fld.GDV_STAT_H_LINK]

/-- From one status of a driver die to another no hold of a detector falls and BIASOK stays. -/
structure StatKept (v w : Word) : Prop where
  holds : ∀ f ∈ detectorHolds, f.on v = true → f.on w = true
  rails : ∀ d, (biasOk d).on w = (biasOk d).on v

/-- From `s` to `t` an operation has passed that takes back nothing of a fault of a slot. -/
structure SlotsKept (s t : State) : Prop where
  gates : ∀ n d, (t.gate n d).senses = (s.gate n d).senses
  links : ∀ n, (t.drv n).linkUp = (s.drv n).linkUp
  edges : ∀ n : Fin 24, t.reg (Reg.EDG_FLAGS n) = s.reg (Reg.EDG_FLAGS n)
  flags : ∀ (n : Fin 24) (b : Nat), s.flag (.gdv n) b = true → t.flag (.gdv n) b = true
  stat : ∀ n : Fin 24, StatKept (s.reg (Reg.GDV_STAT n)) (t.reg (Reg.GDV_STAT n))

theorem StatKept.of_eq {v w : Word} (h : w = v) : StatKept v w := h ▸ ⟨fun _ _ => id, fun _ => rfl⟩

theorem StatKept.trans {u v w : Word} (h1 : StatKept u v) (h2 : StatKept v w) : StatKept u w :=
  ⟨fun f hf h => h2.holds f hf (h1.holds f hf h), fun d => (h2.rails d).trans (h1.rails d)⟩

namespace SlotsKept

variable {s t u : State}

/-- What the detectors and their registers do not see. -/
theorem of_sensed (h : t.sensed = s.sensed) : SlotsKept s t where
  gates n d := congrFun (congrFun (congrArg (·.1) h) n) d
  links n := congrFun (congrArg (·.2.1) h) n
  edges n := State.reg_of_sensed h (sensedReg_slot n).1
  flags n b hb := (State.flag_congr (src := .gdv n) (State.reg_of_sensed h (sensedReg_slot n).2.2) b).trans hb
  stat n := .of_eq (State.reg_of_sensed h (sensedReg_slot n).2.1)

theorem refl (s : State) : SlotsKept s s := .of_sensed rfl

theorem trans (h1 : SlotsKept s t) (h2 : SlotsKept t u) : SlotsKept s u where
  gates n d := (h2.gates n d).trans (h1.gates n d)
  links n := (h2.links n).trans (h1.links n)
  edges n := (h2.edges n).trans (h1.edges n)
  flags n b h := h2.flags n b (h1.flags n b h)
  stat n := (h1.stat n).trans (h2.stat n)

theorem ite {c : Prop} [Decidable c] (ht : SlotsKept s t) (hu : SlotsKept s u) : SlotsKept s (if c then t else u) := by
  split
  · exact ht
  · exact hu

theorem each {α : Type} {l : List α} {f : State → α → State} (h : ∀ v x, x ∈ l → SlotsKept v (f v x)) : SlotsKept s (s.each l f) :=
  s.each_rel SlotsKept .refl .trans f l h

theorem settle (h : SlotsKept s t) : SlotsKept s t.settle where
  gates n d := by rw [State.settle_gate]; exact h.gates n d
  links n := by rw [State.settle_drv]; exact h.links n
  edges n := (State.settle_reg_low _ (by simp only [Reg.EDG_FLAGS]; omega)).trans (h.edges n)
  flags n b hb := (State.settle_gdvFlag _ _ n.isLt b).trans (h.flags n b hb)
  stat n := (h.stat n).trans (.of_eq (State.settle_reg_low _ (gdvReg_low _ n.isLt).1))

/-- A hold of a detector stays set. -/
theorem hold (h : SlotsKept s t) (n : Fin 24) {f : Field} (hf : f ∈ detectorHolds) (hs : s.bit (Reg.GDV_STAT n) f = true) :
    t.bit (Reg.GDV_STAT n) f = true := (h.stat n).holds f hf hs

/-- BIASOK stays as it is. -/
theorem biasOk (h : SlotsKept s t) (n : Fin 24) (d : Side) : t.bit (Reg.GDV_STAT n) (biasOk d) = s.bit (Reg.GDV_STAT n) (biasOk d) :=
  (h.stat n).rails d

theorem dsatUp (h : SlotsKept s t) (n : Nat) (d : Side) : (t.gate n d).dsatUp = (s.gate n d).dsatUp := congrArg (·.1) (h.gates n d)
theorem armed (h : SlotsKept s t) (n : Nat) (d : Side) : (t.gate n d).armed = (s.gate n d).armed := congrArg (·.2.1) (h.gates n d)
theorem railIn (h : SlotsKept s t) (n : Nat) (d : Side) : (t.gate n d).railIn = (s.gate n d).railIn := congrArg (·.2.2) (h.gates n d)

end SlotsKept

/-! ### The status and the flags of a driver die -/

/-- Two fields of a register beside each other. -/
def Field.besides (f g : Field) : Bool := decide (g.lo + g.len ≤ f.lo ∨ f.lo + f.len ≤ g.lo)

/-- A field of the status that may be set: it is a hold of a detector or beside each of them, and it is not BIASOK. -/
def settable (f : Field) : Bool :=
  decide (f.lo + f.len ≤ 32) && detectorHolds.all (fun g => decide (f = g) || f.besides g) && f.besides Fld.GDV_STAT_BIASOK_H &&
    f.besides Fld.GDV_STAT_BIASOK_L

/-- A field of the status that may take any value: it is beside each hold of a detector and BIASOK. -/
def unwatched (f : Field) : Bool := settable f && !detectorHolds.contains f

theorem Field.on_put_besides {f g : Field} (w : Word) (v : Nat) (hf : f.lo + f.len ≤ 32) (h : f.besides g = true) : g.on (f.put w v) = g.on w := by
  rw [Field.on, f.get_put_other g w v hf (by simpa [Field.besides] using h)]
  rfl

theorem settable_iff {f : Field} (h : settable f = true) : f.lo + f.len ≤ 32 ∧ (∀ g ∈ detectorHolds, f = g ∨ f.besides g = true) ∧
    ∀ d, f.besides (biasOk d) = true := by
  simp only [settable, Bool.and_eq_true, decide_eq_true_eq, List.all_eq_true, Bool.or_eq_true] at h
  obtain ⟨⟨⟨hfits, hholds⟩, hhigh⟩, hlow⟩ := h
  exact ⟨hfits, hholds, fun d => by cases d; exacts [hhigh, hlow]⟩

theorem detectorHold_len {f : Field} (h : f ∈ detectorHolds) : f.len = 1 := by
  simp only [detectorHolds, List.mem_cons, List.not_mem_nil, or_false] at h
  rcases h with rfl | rfl | rfl <;> rfl

/-- A field that may be set is set. -/
theorem StatKept.put_set {f : Field} (h : settable f = true) (w : Word) : StatKept w (f.put w 1) := by
  obtain ⟨hfits, hholds, hrails⟩ := settable_iff h
  refine ⟨fun g hg hon => ?_, fun d => f.on_put_besides w 1 hfits (hrails d)⟩
  rcases hholds g hg with rfl | hbeside
  · rw [Field.on, Field.get_put_same _ _ _ hfits, detectorHold_len hg]
    rfl
  · rw [f.on_put_besides w 1 hfits hbeside]
    exact hon

/-- A field beside what is kept takes a value. -/
theorem StatKept.put_unwatched {f : Field} (h : unwatched f = true) (w : Word) (v : Nat) : StatKept w (f.put w v) := by
  simp only [unwatched, Bool.and_eq_true, Bool.not_eq_true', List.contains_eq_mem, decide_eq_false_iff_not] at h
  obtain ⟨hset, hnone⟩ := h
  obtain ⟨hfits, hholds, hrails⟩ := settable_iff hset
  refine ⟨fun g hg hon => ?_, fun d => f.on_put_besides w v hfits (hrails d)⟩
  rcases hholds g hg with rfl | hbeside
  · exact absurd hg hnone
  · rw [f.on_put_besides w v hfits hbeside]
    exact hon

section statuses
variable (s : State) (n : Nat)

theorem SlotsKept.setReg_stat {v : Word} (h : StatKept (s.reg (Reg.GDV_STAT n)) v) : SlotsKept s (s.setReg (Reg.GDV_STAT n) v) where
  gates m d := by cases d <;> rfl
  links _ := rfl
  edges m := s.reg_setReg_other v (by simp only [Reg.EDG_FLAGS, Reg.GDV_STAT]; omega)
  flags m b hb := by
    refine (State.flag_congr (src := .gdv m) (s.reg_setReg_other v ?_) b).trans hb
    simp only [FlagSrc.addr, Reg.GDV_FLAGS, Reg.GDV_STAT]
    omega
  stat m := by
    by_cases hm : Reg.GDV_STAT m = Reg.GDV_STAT n
    · rw [hm, State.reg_setReg_same]; exact h
    · exact .of_eq (s.reg_setReg_other v hm)

theorem SlotsKept.setFld_unwatched {f : Field} (v : Nat) (h : unwatched f = true) : SlotsKept s (s.setFld (Reg.GDV_STAT n) f v) :=
  .setReg_stat s n (.put_unwatched h _ v)

theorem SlotsKept.setBit_set {f : Field} (h : settable f = true) : SlotsKept s (s.setBit (Reg.GDV_STAT n) f true) :=
  .setReg_stat s n (.put_set h _)

/-- A flag of a driver die is raised. -/
theorem SlotsKept.raise_gdv {b : Nat} (hb : b < 32) : SlotsKept s (s.raise (.gdv n) b) where
  gates m d := by rw [State.gate_raise]
  links m := by rw [State.drv, State.raise_drvs]; rfl
  edges m := by
    refine s.raise_reg (.gdv n) b (by simp only [FlagSrc.addr, Reg.EDG_FLAGS, Reg.GDV_FLAGS]; omega) fun a lo hc => ?_
    rw [← (Prod.mk.inj (Option.some.inj hc)).1]
    simp only [FlagSrc.cnt0, Reg.EDG_FLAGS, Reg.GDV_CNT0]
    omega
  flags m c hc := by
    by_cases hm : m.val = n
    · subst hm
      have hlt : c < 32 := by
        by_contra hge
        have hsmall : (s.reg (FlagSrc.gdv m).addr).toNat < 2 ^ c :=
          lt_of_lt_of_le (s.reg _).isLt (Nat.pow_le_pow_right (by omega) (Nat.le_of_not_lt hge))
        rw [State.flag, Nat.testBit_lt_two_pow hsmall] at hc
        cases hc
      exact s.flag_raise_mono _ b c hlt hc
    · refine (State.flag_congr (src := .gdv m) (s.raise_reg (.gdv n) b ?_ fun a lo ha => ?_) c).trans hc
      · simp only [FlagSrc.addr, Reg.GDV_FLAGS]
        omega
      · rw [← (Prod.mk.inj (Option.some.inj ha)).1]
        simp only [FlagSrc.addr, FlagSrc.cnt0, Reg.GDV_FLAGS, Reg.GDV_CNT0]
        omega
  stat m := by
    refine .of_eq (s.raise_reg (.gdv n) b (by simp only [FlagSrc.addr, Reg.GDV_STAT, Reg.GDV_FLAGS]; omega) fun a lo hc => ?_)
    rw [← (Prod.mk.inj (Option.some.inj hc)).1]
    simp only [FlagSrc.cnt0, Reg.GDV_STAT, Reg.GDV_CNT0]
    omega

end statuses

/-! ### Slots and clusters (R131, R134, R135, R140, R152) -/

section ladder
variable (s : State)

theorem State.slotsKept_softOff (n : Nat) : SlotsKept s (s.softOff n) := by
  have hstep (g : Gate) : (if g.driven then { g with phase := 21, since := s.now } else g).senses = g.senses := by split <;> rfl
  unfold State.softOff
  refine .ite (.of_sensed (s.sensed_updEdge _ _)) (.ite (.trans (.of_sensed ?_) (.setBit_set _ n (by decide))) (.of_sensed (s.sensed_updEdge _ _)))
  rw [State.sensed_updDrv _ _ _ rfl, State.sensed_updGate, State.sensed_updGate, State.sensed_updEdge]
  · exact hstep _
  · exact hstep _

theorem State.slotsKept_setHold {n : Nat} (hn : n < 24) {f : Field} (hf : settable f = true) : SlotsKept s (s.setHold n f true) :=
  (SlotsKept.setBit_set s n hf).trans (.of_sensed (State.sensed_holdState _ hn))

theorem State.slotsKept_order {n : Nat} (hn : n < 24) : SlotsKept s ((s.softOff n).setHold n Fld.GDV_STAT_H_ORDER true) :=
  (s.slotsKept_softOff n).trans (State.slotsKept_setHold _ hn (by decide))

theorem State.slotsKept_stopCluster (k cause state : Nat) : SlotsKept s (s.stopCluster k cause state) := by
  have hnoted : (if cause = scREGION || cause = scPACKAGE || cause = scFENCE then (s.record (Reg.CLU_STAT k) 1 [cause]).cancelRetry k
      else s.record (Reg.CLU_STAT k) 1 [cause]).sensed = s.sensed := by
    simp [apply_ite State.sensed]
  unfold State.stopCluster
  refine .ite (.of_sensed hnoted) ?_
  refine .trans (.trans (.of_sensed ?_) (.each fun u n hn => u.slotsKept_order (State.mem_slotsOf _ hn)))
    (.of_sensed (State.sensed_raise _ (FlagSrc.distant_cluster k).1 _))
  rw [State.sensed_setFld _ _ _ (sensedReg_cluster k).1, State.sensed_setCState, State.sensed_updCluster, State.sensed_leaveRun, hnoted]

theorem State.slotsKept_safeStop (k cause : Nat) : SlotsKept s (s.safeStop k cause) := s.slotsKept_stopCluster k cause _

theorem State.slotsKept_safeStopOf (n cause : Nat) : SlotsKept s (s.safeStopOf n cause) := by
  unfold State.safeStopOf
  split
  · exact s.slotsKept_safeStop _ _
  · exact .refl s

theorem State.slotsKept_phaseLost (k n : Nat) : SlotsKept s (s.phaseLost k n) := by
  unfold State.phaseLost
  refine .ite (.refl s) (.trans (.of_sensed ?_) (.ite (State.slotsKept_safeStop _ k _) (.refl _)))
  rw [State.sensed_deratePhase]
  simp

theorem State.slotsKept_phaseLostOf (n : Nat) : SlotsKept s (s.phaseLostOf n) := by
  unfold State.phaseLostOf
  split
  · exact s.slotsKept_phaseLost _ _
  · exact .refl s

/-! ### Slot-local faults -/

theorem State.slotsKept_countFault {n : Nat} (hn : n < 24) : SlotsKept s (s.countFault n) := by
  have hcount : SlotsKept s (((s.setFld (Reg.GDV_STAT n) Fld.GDV_STAT_FCOUNT (min (s.fld (Reg.GDV_STAT n) Fld.GDV_STAT_FCOUNT + 1) 15)).updDrv n fun d =>
      { d with fcount := min (s.fld (Reg.GDV_STAT n) Fld.GDV_STAT_FCOUNT + 1) 15 }).logSafety 0x30
        (n * 256 + min (s.fld (Reg.GDV_STAT n) Fld.GDV_STAT_FCOUNT + 1) 15) 0) :=
    (SlotsKept.setFld_unwatched s n _ (by decide)).trans (.of_sensed ((State.sensed_logSafety _ _ _ _).trans (State.sensed_updDrv _ _ _ rfl)))
  unfold State.countFault
  refine .trans hcount (.ite (.trans (.trans ?_ (.raise_gdv _ n (by decide))) (.of_sensed (State.sensed_logSafety _ _ _ _))) (.refl _))
  exact .trans (.of_sensed (State.sensed_updDrv _ n (fun d => { d with failed := true }) rfl))
    (.ite (.refl _) (State.slotsKept_setHold _ hn (by decide)))

theorem State.slotsKept_clusterFault (n : Nat) : SlotsKept s (s.clusterFault n) := by
  cases h : s.clusterOf n with
  | none => rw [State.clusterFault_none h]; exact .refl s
  | some k =>
    rw [State.clusterFault_some h]
    exact .ite (s.slotsKept_safeStop k _) (.ite (s.slotsKept_safeStop k _) (s.slotsKept_phaseLost k n))

/-- What follows the hold of a slot-local fault. -/
theorem State.slotHeld_kept {n : Nat} (hn : n < 24) (hold : Field) (flag : Nat) : SlotsKept (s.slotHeld n hold flag) (s.slotFault n hold flag) := by
  rw [State.slotFault_fun]
  exact .trans (.trans (.of_sensed (State.sensed_updDrv _ _ _ rfl)) (State.slotsKept_countFault _ hn)) (State.slotsKept_clusterFault _ n)

/-- What follows the flag of a slot-local fault. -/
theorem State.slotFault_after_flag {n : Nat} (hn : n < 24) {hold : Field} (flag : Nat) (hh : settable hold = true) :
    SlotsKept (s.raise (.gdv n) flag) (s.slotFault n hold flag) := by
  refine .trans ?_ (s.slotHeld_kept hn hold flag)
  exact .trans (.trans (.of_sensed (State.sensed_record _ _ _ _)) (State.slotsKept_softOff _ n)) (State.slotsKept_setHold _ hn hh)

theorem State.slotsKept_slotFault {n : Nat} (hn : n < 24) {hold : Field} {flag : Nat} (hh : settable hold = true) (hf : flag < 32) :
    SlotsKept s (s.slotFault n hold flag) := (SlotsKept.raise_gdv s n hf).trans (s.slotFault_after_flag hn flag hh)

/-- A slot-local fault shows its flag. -/
theorem State.slotFault_flag (n : Fin 24) {hold : Field} {flag : Nat} (hh : settable hold = true) (hf : flag < 32) :
    (s.slotFault n hold flag).flag (.gdv n) flag = true :=
  (s.slotFault_after_flag n.isLt flag hh).flags n flag (s.flag_raise _ _ hf)

/-- A hold that is set shows. -/
theorem State.setHold_set {n : Fin 24} {f : Field} (hf : f ∈ detectorHolds) : (s.setHold n f true).bit (Reg.GDV_STAT n) f = true := by
  have hfits : f.lo + f.len ≤ 32 := by
    simp only [detectorHolds, List.mem_cons, List.not_mem_nil, or_false] at hf
    rcases hf with rfl | rfl | rfl <;> decide
  refine (SlotsKept.of_sensed (State.sensed_holdState _ n.isLt)).hold n hf ?_
  exact s.bit_setBit_same _ f true hfits (detectorHold_len hf)

/-- A slot-local fault that a detector found shows its hold. -/
theorem State.slotFault_hold (n : Fin 24) {hold : Field} (flag : Nat) (hh : hold ∈ detectorHolds) :
    (s.slotFault n hold flag).bit (Reg.GDV_STAT n) hold = true :=
  (s.slotHeld_kept n.isLt hold flag).hold n hh (State.setHold_set _ hh)

/-! ### The package safe state and the diagnosis of BOOT (R66, R74) -/

theorem State.slotsKept_allStop (cause : Nat) : SlotsKept s (s.allStop cause) := by
  unfold State.allStop
  refine .trans ?_ (.of_sensed ((State.sensed_diag _ _).trans ((State.sensed_setBit _ _ _ rfl).trans (State.sensed_setBit _ _ _ rfl))))
  refine .trans (.trans (.each fun u n hn => u.slotsKept_order (s.mem_slots hn)) (.each fun u k _ => u.slotsKept_safeStop k _)) (.each fun u g _ => ?_)
  exact .ite (.of_sensed (u.sensed_preFail g cause)) (.refl u)

theorem State.slotsKept_packageSafe (cause bits : Nat) : SlotsKept s (s.packageSafe cause bits) := by
  rw [State.packageSafe_fun]
  refine .trans (.of_sensed (s.sensed_cutOff cause bits)) (.ite (.of_sensed (State.sensed_rmFollow _)) ?_)
  exact .trans (State.slotsKept_allStop _ cause) (.of_sensed (State.sensed_safeEntry _ cause))

theorem State.slotsKept_biasFollow : SlotsKept s s.biasFollow := by
  unfold State.biasFollow
  refine .ite (.ite ?_ (.of_sensed (s.sensed_diagNext 0))) (.refl s)
  exact .trans (s.slotsKept_packageSafe _ _) (.of_sensed (State.sensed_updRm _ _))

end ladder
end Sys2Proof.Machine
end

section
/-!
SUPPORT. Settles O28: the edges of a driver die, what its detectors find, and its soft turn-off (R87, R98, R118, R120, R121, R130, R131, R136).
-/

namespace Sys2Proof.Machine

section detection
variable {s : State} (n : Slot) (d : Side) (hrun : s.cdRun = true)
include hrun

/-- A turn-on command beside a channel that conducts is refused (R98): its flag stays through the safe stop that a limit of refusals orders. -/
theorem gateEdge_refused {c : EdgeCmd} {rest : List EdgeCmd} (hcmds : (s.edge n.val).cmds = c :: rest) (htime : c.time ≤ s.tbFine) (hon : c.on = true)
    (hother : (s.gate n.val (if c.high then .low else .high)).conducts = true) :
    Completes (.gateEdge n) s fun t => t.flag (.edg n.val) 1 := by
  have hside : (if c.high then Side.low else Side.high) = otherSide (if c.high then .high else .low) := by cases c.high <;> rfl
  rw [hside] at hother
  refine completes_onlyIf (exec_gateEdge s hcmds) (by simp [hrun, htime]) ?_
  simp only [hon, if_true]
  generalize (if c.high then Side.high else Side.low) = d at *
  have hrefused : (s.edgeTaken n.val rest).turnedOn n.val d = (s.edgeTaken n.val rest).refuseEdge n.val 1 := by
    have hgate : (s.edgeTaken n.val rest).gate n.val (otherSide d) = s.gate n.val (otherSide d) := s.gate_updEdge n.val _ _ _
    simp [State.turnedOn, hgate, hother]
  rw [hrefused]
  have haddr : (FlagSrc.edg n.val).addr < 0x60000 := by simp only [FlagSrc.addr, Reg.EDG_FLAGS]; omega
  rw [State.flag_congr (State.settle_reg_low _ haddr)]
  have hcounted : (((s.edgeTaken n.val rest).raise (.edg n.val) 1).incSat (Reg.EDG_ILK_TOT n.val)).flag (.edg n.val) 1 = true := by
    refine (State.flag_congr (State.reg_setNat_other _ _ ?_) 1).trans (State.flag_raise _ _ 1 (by decide))
    simp [FlagSrc.addr, Reg.EDG_FLAGS, Reg.EDG_ILK_TOT]
  unfold State.refuseEdge
  dsimp only
  split
  · refine (State.flag_congr ((State.slotsKept_safeStopOf _ n.val _).edges n) 1).trans ?_
    exact State.flag_raise_mono _ _ 2 1 (by decide) hcounted
  · exact hcounted

theorem dsatDetect_above (hen : (s.reg (dsatReg n.val d)).toNat / 2 ^ 31 = 1)
    (hon : (s.gate n.val d).isOn = true ∨ (s.gate n.val d).phase = 21 ∧ s.softNow n.val = true)
    (htime : s.since (s.gate n.val d).onSince ((s.reg (dsatReg n.val d)).toNat / 2 ^ 16 % 1024 + 4 * ((s.reg (dsatReg n.val d)).toNat % 8)) = true) :
    Completes (.dsatDetect n d true) s fun t =>
      t.flag (.gdv n.val) (if isHigh d then 0 else 1) ∧ t.bit (Reg.GDV_STAT n.val) Fld.GDV_STAT_H_DSAT ∧ (t.gate n.val d).dsatUp := by
  have hexec : exec (.dsatDetect n d true) s = onlyIf (s.cdRun && (s.reg (dsatReg n.val d)).toNat / 2 ^ 31 == 1 &&
      ((s.gate n.val d).isOn || ((s.gate n.val d).phase == 21 && s.softNow n.val)) && s.since (s.gate n.val d).onSince
        ((s.reg (dsatReg n.val d)).toNat / 2 ^ 16 % 1024 + 4 * ((s.reg (dsatReg n.val d)).toNat % 8))) s fun s =>
      (s.updGate n.val d fun g => { g with dsatUp := true }).slotFault n.val Fld.GDV_STAT_H_DSAT (if isHigh d then 0 else 1) := rfl
  have hflag : (if isHigh d then 0 else 1) < 32 := by cases d <;> decide
  have hcond : ((s.gate n.val d).isOn || ((s.gate n.val d).phase == 21 && s.softNow n.val)) = true := by simpa using hon
  refine completes_onlyIf hexec (by simp only [hrun, hen, hcond, htime]; rfl) ⟨?_, ?_, ?_⟩
  · rw [State.settle_gdvFlag _ _ n.isLt]
    exact State.slotFault_flag _ n (by decide) hflag
  · rw [State.settle_bit_low _ _ (gdvReg_low n.val n.isLt).1]
    exact State.slotFault_hold _ n _ (by decide)
  · rw [State.settle_gate, (State.slotsKept_slotFault _ n.isLt (by decide) hflag).dsatUp, State.gate_updGate_same]

theorem dsatDetect_below : Completes (.dsatDetect n d false) s fun t =>
    (t.gate n.val d).dsatUp = false ∧ Only (fun _ => False) { s with gatesH := t.gatesH, gatesL := t.gatesL } t := by
  have hexec : exec (.dsatDetect n d false) s = onlyIf s.cdRun s fun s => s.updGate n.val d fun g => { g with dsatUp := false } := rfl
  refine completes_onlyIf hexec hrun ⟨?_, ?_⟩
  · rw [State.settle_gate, State.gate_updGate_same]
  · exact (SlotOnly.updGate _ s n.val d _).settle.gates ((State.settle_edges _).trans (s.updGate_edges n.val d _))
      ((State.settle_drvs _).trans (s.updGate_drvs n.val d _))

theorem linkLoss_lost (hn : n.val < s.variant.slots) : Completes (.linkLoss n false) s fun t =>
    t.flag (.gdv n.val) 5 ∧ t.bit (Reg.GDV_STAT n.val) Fld.GDV_STAT_H_LINK ∧ (t.drv n.val).linkUp = false := by
  have hexec : exec (.linkLoss n false) s = onlyIf (s.cdRun && Nat.blt n.val s.variant.slots) s fun s =>
      (s.updDrv n.val fun d => { d with linkUp := false }).slotFault n.val Fld.GDV_STAT_H_LINK 5 := rfl
  refine completes_onlyIf hexec (by simp [hrun, hn]) ⟨?_, ?_, ?_⟩
  · rw [State.settle_gdvFlag _ _ n.isLt]
    exact State.slotFault_flag _ n (by decide) (by decide)
  · rw [State.settle_bit_low _ _ (gdvReg_low n.val n.isLt).1]
    exact State.slotFault_hold _ n _ (by decide)
  · rw [State.settle_drv, (State.slotsKept_slotFault _ n.isLt (by decide) (by decide)).links, State.drv_updDrv_same]

theorem linkLoss_back (hdown : (s.drv n.val).linkUp = false) : Completes (.linkLoss n true) s fun t =>
    (t.drv n.val).linkUp ∧ (t.drv n.val).linkSince = s.now ∧ Only (fun _ => False) { s with drvs := t.drvs } t := by
  have hexec : exec (.linkLoss n true) s = onlyIf (s.cdRun && !(s.drv n.val).linkUp) s fun s =>
      s.updDrv n.val fun d => { d with linkUp := true, linkSince := s.now } := rfl
  have hframe : Only (fun _ => False) { s with drvs := (s.updDrv n.val fun d => { d with linkUp := true, linkSince := s.now }).drvs }
      (s.updDrv n.val fun d => { d with linkUp := true, linkSince := s.now }) := Only.refl _ _
  refine completes_onlyIf hexec (by simp [hrun, hdown]) ⟨?_, ?_, ?_⟩
  · rw [State.settle_drv, State.drv_updDrv_same]
  · rw [State.settle_drv, State.drv_updDrv_same]
  · rw [State.settle_drvs]
    exact hframe.settle

end detection

/-! ### The rails of a channel (R120) -/

section rails
variable (s : State) (n : Nat) (d : Side)

theorem biasOk_bit : (biasOk d).lo + (biasOk d).len ≤ 32 ∧ (biasOk d).len = 1 := by cases d <;> decide

/-- The rails of a channel have left their windows. -/
def State.railsOut (s : State) (n : Nat) (d : Side) : State :=
  (s.setBit (Reg.GDV_STAT n) (biasOk d) false).updGate n d fun g => { g with railIn := none }

theorem State.railsOut_biasOk : (s.railsOut n d).bit (Reg.GDV_STAT n) (biasOk d) = false := by
  obtain ⟨hfits, hone⟩ := biasOk_bit d
  exact (State.updGate_bit _ n d _ _ _).trans (s.bit_setBit_same _ _ false hfits hone)

/-- The rails of a channel have been inside their windows for long enough. -/
def State.railsBack (s : State) (n : Nat) (d : Side) : State :=
  (s.setBit (Reg.GDV_STAT n) (biasOk d) true).updGate n d fun g => { g with armed := true, suspended := false, railIn := some s.now }

theorem State.railsBack_biasOk : (s.railsBack n d).bit (Reg.GDV_STAT n) (biasOk d) = true := by
  obtain ⟨hfits, hone⟩ := biasOk_bit d
  exact (State.updGate_bit _ n d _ _ _).trans (s.bit_setBit_same _ _ true hfits hone)

/-- An excursion that is no fault raises its flag, and is recorded during a soft turn-off. -/
def State.excursionFlagged (s : State) (n flag : Nat) : State :=
  let s := s.raise (.gdv n) flag
  if (s.drv n).softAt.isSome then s.record (Reg.GDV_FLAGS n) (2 ^ flag) [n] else s

theorem State.excursionFlagged_kept {flag : Nat} : SlotsKept (s.raise (.gdv n) flag) (s.excursionFlagged n flag) :=
  .ite (.of_sensed (State.sensed_record _ _ _ _)) (.refl _)

/-- What an excursion leads to, by whether it is a fault. -/
def State.excursionActs (s : State) (n flag : Nat) : State :=
  if s.switching n || s.softNow n then s.slotFault n Fld.GDV_STAT_H_BIAS flag else (s.excursionFlagged n flag).quietHold n Fld.GDV_STAT_H_BIAS

theorem execBiasExcursion_fun : execBiasExcursion = fun n d s => onlyIf (s.cdRun && (s.gate n.val d).armed) s fun s =>
    (s.railsOut n.val d).excursionActs n.val (if isHigh d then 3 else 4) := rfl

/-- An excursion shows its flag and H_BIAS, and takes nothing back. -/
theorem State.excursionActs_shows (n : Fin 24) {flag : Nat} (hf : flag < 32) : SlotsKept s (s.excursionActs n flag) ∧
    (s.excursionActs n flag).flag (.gdv n) flag = true ∧ (s.excursionActs n flag).bit (Reg.GDV_STAT n) Fld.GDV_STAT_H_BIAS = true := by
  unfold State.excursionActs
  split
  · exact ⟨s.slotsKept_slotFault n.isLt (by decide) hf, s.slotFault_flag n (by decide) hf, s.slotFault_hold n flag (by decide)⟩
  · have hkept : SlotsKept (s.raise (.gdv n) flag) ((s.excursionFlagged n flag).quietHold n Fld.GDV_STAT_H_BIAS) :=
      ((s.excursionFlagged_kept n.val).trans (State.slotsKept_setHold _ n.isLt (by decide))).trans (State.slotsKept_phaseLostOf _ n.val)
    refine ⟨(SlotsKept.raise_gdv s n.val hf).trans hkept, hkept.flags n flag (s.flag_raise _ _ hf), ?_⟩
    exact (State.slotsKept_phaseLostOf _ n.val).hold n (by decide) (State.setHold_set _ (by decide))

end rails

section bias
variable {s : State} (n : Slot) (d : Side) (hrun : s.cdRun = true)
include hrun

theorem biasExcursion_acts (harmed : (s.gate n.val d).armed = true) : Completes (.biasExcursion n d) s fun t =>
    t.flag (.gdv n.val) (if isHigh d then 3 else 4) ∧ t.bit (Reg.GDV_STAT n.val) Fld.GDV_STAT_H_BIAS ∧ t.bit (Reg.GDV_STAT n.val) (biasOk d) =
      false := by
  have hexec : exec (.biasExcursion n d) s = onlyIf (s.cdRun && (s.gate n.val d).armed) s fun s =>
      (s.railsOut n.val d).excursionActs n.val (if isHigh d then 3 else 4) := by
    change execBiasExcursion n d s = _
    rw [execBiasExcursion_fun]
  have hflag : (if isHigh d then 3 else 4) < 32 := by cases d <;> decide
  obtain ⟨hkept, hraised, hheld⟩ := (s.railsOut n.val d).excursionActs_shows n hflag
  refine completes_onlyIf hexec (by simp [hrun, harmed]) ⟨?_, ?_, ?_⟩
  · rw [State.settle_gdvFlag _ _ n.isLt]; exact hraised
  · rw [State.settle_bit_low _ _ (gdvReg_low n.val n.isLt).1]; exact hheld
  · rw [hkept.settle.biasOk n d]; exact s.railsOut_biasOk n.val d

theorem biasokReturn_arms (hbias : (s.gate n.val d).bias.isSome = true) (hout : s.bit (Reg.GDV_STAT n.val) (biasOk d) = false) :
    Completes (.biasokReturn n d) s fun t =>
      t.bit (Reg.GDV_STAT n.val) (biasOk d) ∧ (t.gate n.val d).armed ∧ (t.gate n.val d).railIn = some s.now := by
  have hexec : exec (.biasokReturn n d) s =
      onlyIf (s.cdRun && (s.gate n.val d).bias.isSome && !s.bit (Reg.GDV_STAT n.val) (biasOk d)) s fun s => (s.railsBack n.val d).biasFollow := rfl
  have hkept := ((s.railsBack n.val d).slotsKept_biasFollow).settle
  refine completes_onlyIf hexec (by simp [hrun, hbias, hout]) ⟨?_, ?_, ?_⟩
  · rw [hkept.biasOk n d]; exact s.railsBack_biasOk n.val d
  · rw [hkept.armed]; exact congrArg Gate.armed (State.gate_updGate_same _ n.val d _)
  · rw [hkept.railIn]; exact congrArg Gate.railIn (State.gate_updGate_same _ n.val d _)

end bias

/-- Settles O28: a command for each clause; the faults keep their flag and their hold through the reaction of the cluster. -/
theorem gateEdgesComplete : Obligations.GateEdgesComplete := by
  unfold Obligations.GateEdgesComplete
  exact ⟨fun n _ _ _ hrun hcmds htime hoff => gateEdge_turnsOff n hrun hcmds htime hoff,
    fun n _ _ _ hrun hcmds htime hon hother hoffAt hholds hguard hsoft hidle =>
      gateEdge_turnsOn n hrun hcmds htime hon hother hoffAt hholds hguard hsoft hidle,
    fun n _ _ _ hrun hcmds htime hon hother => gateEdge_refused n hrun hcmds htime hon hother,
    fun n d dvdt dur _ hrun hphase => edgePhaseEnd_vth n d dvdt dur hrun hphase,
    fun n d dvdt dur _ hrun hphase hlate => edgePhaseEnd_preTmax n d dvdt dur hrun hphase hlate,
    fun n d dvdt dur _ hrun hphase hlong hshort => edgePhaseEnd_transEnd n d dvdt dur hrun hphase hlong hshort,
    fun n d dvdt dur _ hrun hphase hstep hlong hshort hlate => edgePhaseEnd_pltTmax n d dvdt dur hrun hphase hstep hlong hshort hlate,
    fun n d dvdt dur _ hrun hphase hstep hlong hshort hlate => edgePhaseEnd_noTrans n d dvdt dur hrun hphase hstep hlong hshort hlate,
    fun n d dvdt dur _ hrun hphase => edgePhaseEnd_off n d dvdt dur hrun hphase,
    fun n d _ hrun hen hon htime => dsatDetect_above n d hrun hen hon htime,
    fun n d _ hrun => dsatDetect_below n d hrun,
    fun n _ hrun hn => linkLoss_lost n hrun hn,
    fun n _ hrun hdown => linkLoss_back n hrun hdown,
    fun n d _ hrun harmed => biasExcursion_acts n d hrun harmed,
    fun n d _ hrun hbias hout => biasokReturn_arms n d hrun hbias hout,
    fun n _ _ hrun hsoft hfirst htime => softTurnoffStep2_slot n hrun hsoft hfirst htime,
    fun n d _ hrun hsoft hphase => softTurnoffStep2_channel n d hrun hsoft hphase,
    fun n below _ _ hrun hstep htime => softTurnoffStep3_ends n below hrun hstep htime⟩

end Sys2Proof.Machine
end

section
/-!
SUPPORT. What the release of a hold and the loss of a phase keep of the driver dies: their records, but for a soft turn-off, and the count of
slot-local faults with H_FAILED (R100, R131, R135, R139, R140).
-/

namespace Sys2Proof.Machine

/-! ### The records of the driver dies -/

section records
variable (s : State)

/-- The host side and the peripherals hold nothing of a driver die. -/
theorem State.drvs_of_core {s t : State} (h : t.core = s.core) : t.drvs = s.drvs := congrArg (·.1.drvs) h

@[simp] theorem State.record_drvs (src bits : Nat) (l : List Nat) : (s.record src bits l).drvs = s.drvs :=
  State.drvs_of_core (s.core_record src bits l)

theorem State.asOne_drvs (src : FlagSrc) (b : Nat) (f : State → State) (h : (f s).drvs = s.drvs) : (s.asOne src b f).drvs = s.drvs := by
  unfold State.asOne
  dsimp only
  split
  · exact (State.setFld_drvs _ _ _ _).trans h
  · exact h

theorem State.finish_drvs (r : Nat) (f : Fetched) (st why : Nat) (l : List Byte) : (s.finish r f st why l).drvs = s.drvs :=
  State.drvs_of_core (s.core_finish r f st why l)

theorem State.commitResult_drvs (t : Nat) (ok : Bool) (why off tc : Nat) : (s.commitResult t ok why off tc).drvs = s.drvs := by
  unfold State.commitResult
  dsimp only
  split
  · split
    · rw [apply_ite State.drvs, State.finish_drvs, State.finish_drvs, ite_self, State.updRing_drvs]
    · rfl
  · rw [apply_ite State.drvs, State.setFld_drvs, State.setFld_drvs, ite_self]

theorem State.freeTxn_drvs (t : Nat) : (s.freeTxn t).drvs = s.drvs := rfl

theorem State.failPending_drvs (t why off : Nat) : (s.failPending t why off).drvs = s.drvs := by
  rw [State.failPending, State.raiseMask_drvs, State.freeTxn_drvs, State.commitResult_drvs, State.setTxErr, State.setNat_drvs]

@[simp] theorem State.conflictIf_drvs (p : Nat → Bool) : (s.conflictIf p).drvs = s.drvs := by
  refine State.asOne_drvs _ _ _ _ (State.asOne_drvs _ _ _ _ (s.each_same State.drvs _ _ fun u t _ => ?_))
  repeat' split
  · exact u.failPending_drvs _ _ _
  all_goals rfl

/-! Clusters and the device state -/

section clusters
variable (k : Nat)

@[simp] theorem State.setCState_drvs (v : Nat) : (s.setCState k v).drvs = s.drvs := by simp [State.setCState, apply_ite State.drvs]
@[simp] theorem State.cluFollow_drvs : (s.cluFollow k).drvs = s.drvs := by simp [State.cluFollow, apply_ite State.drvs]
@[simp] theorem State.withdraw_drvs : (s.withdraw k).drvs = s.drvs := rfl
@[simp] theorem State.showIlim_drvs : (s.showIlim k).drvs = s.drvs := by simp [State.showIlim, apply_ite State.drvs]
@[simp] theorem State.changeRecord_drvs (mask : Nat) : (s.changeRecord k mask).drvs = s.drvs := rfl
@[simp] theorem State.cancelRetry_drvs : (s.cancelRetry k).drvs = s.drvs := rfl

theorem State.writeMap_drvs : (s.writeMap k).drvs = s.drvs := by
  refine s.each_same State.drvs _ _ fun u p _ => ?_
  repeat' split
  all_goals rfl

@[simp] theorem State.setActive_drvs (mask : Nat) : (s.setActive k mask).drvs = s.drvs := by
  rw [State.setActive, State.writeMap_drvs, State.setFld_drvs, State.setFld_drvs]

theorem State.device_drvs (who block code st : Nat) : (s.device who block code st).drvs = s.drvs :=
  State.drvs_of_core (s.core_device who block code st)

theorem State.endCharge_drvs (l : List Nat) : (s.endCharge k l).drvs = s.drvs := by
  unfold State.endCharge
  dsimp only
  split
  · rfl
  · rw [State.device_drvs, State.record_drvs, State.raiseMask_drvs, State.each_same _ State.drvs _ _ fun u n _ => State.setFld_drvs u _ _ _,
      State.setFld_drvs, State.updChg_drvs, State.setBit_drvs, State.setFld_drvs, State.setFld_drvs]

theorem State.endSweep_drvs : (s.endSweep k).drvs = s.drvs := by
  unfold State.endSweep
  split <;> rfl

@[simp] theorem State.leaveRun_drvs (why : Nat) : (s.leaveRun k why).drvs = s.drvs := by
  unfold State.leaveRun
  dsimp only
  split
  · rfl
  · exact (State.endCharge_drvs _ k _).trans ((State.endSweep_drvs _ k).trans (s.withdraw_drvs k))

@[simp] theorem State.deratePhase_drvs (on : Bool) : (s.deratePhase k on).drvs = s.drvs := by
  have henter (u : State) : (u.derateEnter k).drvs = u.drvs := by simp [State.derateEnter, State.devDerate, apply_ite State.drvs]
  simp [State.deratePhase, henter, apply_ite State.drvs]

end clusters

theorem State.setDev_drvs (v : Nat) : (s.setDev v).drvs = s.drvs := rfl

theorem State.enter_drvs (v : Nat) : (s.enter v).drvs = s.drvs := by
  unfold State.enter
  split
  · rfl
  · rw [State.drvs_of_core (State.core_unitsFollow _), State.conflictIf_drvs, State.devDerate, State.setBit_drvs, State.setDev_drvs]

theorem State.runFollow_drvs : s.runFollow.drvs = s.drvs := by simp [State.runFollow, State.enter_drvs, apply_ite State.drvs]

theorem State.setSState_drvs (n v : Nat) : (s.setSState n v).drvs = s.drvs := by
  unfold State.setSState
  dsimp only
  split
  · rfl
  · rw [State.runFollow_drvs]
    split <;> simp [apply_ite State.drvs]

theorem State.holdState_drvs (n : Nat) : (s.holdState n).drvs = s.drvs := by simp [State.holdState, State.setSState_drvs, apply_ite State.drvs]

end records

/-! ### A hold that takes a value (R100, R138) -/

section hold
variable (s : State) {n : Nat} (f : Field) (on : Bool)

theorem State.setHold_drvs : (s.setHold n f on).drvs = s.drvs := State.holdState_drvs _ n

theorem State.setHold_drv (m : Nat) : (s.setHold n f on).drv m = s.drv m := by rw [State.drv, State.setHold_drvs]; rfl

variable (hn : n < 24)
include hn

theorem State.holdState_now : (s.holdState n).now = s.now := congrArg (·.2.1) (s.reacts_holdState hn).still

theorem State.setHold_now : (s.setHold n f on).now = s.now := State.holdState_now _ hn

/-- The state of the slot follows beside the status of its driver die. -/
theorem State.setHold_stat : (s.setHold n f on).reg (Reg.GDV_STAT n) = (s.setBit (Reg.GDV_STAT n) f on).reg (Reg.GDV_STAT n) :=
  State.reg_of_sensed (State.sensed_holdState _ hn) (sensedReg_slot ⟨n, hn⟩).2.1

theorem State.setHold_bit_same (hf : f.lo + f.len ≤ 32) (hone : f.len = 1) : (s.setHold n f on).bit (Reg.GDV_STAT n) f = on :=
  (State.bit_congr (s.setHold_stat f on hn) f).trans (s.bit_setBit_same _ f on hf hone)

theorem State.setHold_bit_beside {g : Field} (hf : f.lo + f.len ≤ 32) (hg : g.lo + g.len ≤ f.lo ∨ f.lo + f.len ≤ g.lo) :
    (s.setHold n f on).bit (Reg.GDV_STAT n) g = s.bit (Reg.GDV_STAT n) g :=
  (State.bit_congr (s.setHold_stat f on hn) g).trans (s.bit_setBit_beside _ f g on hf hg)

theorem State.setHold_fld_beside {g : Field} (hf : f.lo + f.len ≤ 32) (hg : g.lo + g.len ≤ f.lo ∨ f.lo + f.len ≤ g.lo) :
    (s.setHold n f on).fld (Reg.GDV_STAT n) g = s.fld (Reg.GDV_STAT n) g :=
  (State.fld_congr (s.setHold_stat f on hn) g).trans (s.fld_setFld_beside _ f g _ hf hg)

theorem State.setHold_senses (m : Nat) (d : Side) : ((s.setHold n f on).gate m d).senses = (s.gate m d).senses := by
  have hfollowed := congrFun (congrFun (congrArg (·.1) (State.sensed_holdState (s.setBit (Reg.GDV_STAT n) f on) hn)) m) d
  exact hfollowed.trans (congrArg Gate.senses (s.gate_setBit m _ f on d))

end hold

/-! ### Failed slots (R140) -/

/-- From `s` to `t` no slot fails and none is cleared: H_FAILED and FCOUNT stay, in the record of each driver die and in its status. -/
structure FailuresKept (s t : State) : Prop where
  failed : ∀ n, (t.drv n).failed = (s.drv n).failed
  fcount : ∀ n, (t.drv n).fcount = (s.drv n).fcount
  count : ∀ n : Fin 24, t.fld (Reg.GDV_STAT n) Fld.GDV_STAT_FCOUNT = s.fld (Reg.GDV_STAT n) Fld.GDV_STAT_FCOUNT
  hold : ∀ n : Fin 24, t.bit (Reg.GDV_STAT n) Fld.GDV_STAT_H_FAILED = s.bit (Reg.GDV_STAT n) Fld.GDV_STAT_H_FAILED

namespace FailuresKept

variable {s t u : State}

theorem refl (s : State) : FailuresKept s s := ⟨fun _ => rfl, fun _ => rfl, fun _ => rfl, fun _ => rfl⟩

theorem trans (h1 : FailuresKept s t) (h2 : FailuresKept t u) : FailuresKept s u where
  failed n := (h2.failed n).trans (h1.failed n)
  fcount n := (h2.fcount n).trans (h1.fcount n)
  count n := (h2.count n).trans (h1.count n)
  hold n := (h2.hold n).trans (h1.hold n)

theorem ite {c : Prop} [Decidable c] (ht : FailuresKept s t) (hu : FailuresKept s u) : FailuresKept s (if c then t else u) := by
  split
  · exact ht
  · exact hu

/-- What the detectors do not see and what keeps the records of the driver dies. -/
theorem of_sensed (h : t.sensed = s.sensed) (hd : t.drvs = s.drvs) : FailuresKept s t where
  failed n := by simp only [State.drv, hd]
  fcount n := by simp only [State.drv, hd]
  count n := State.fld_congr (State.reg_of_sensed h (sensedReg_slot n).2.1) _
  hold n := State.bit_congr (State.reg_of_sensed h (sensedReg_slot n).2.1) _

/-- A field of the status beside FCOUNT and H_FAILED. -/
theorem setBit (s : State) (n : Nat) {f : Field} (v : Bool) (hf : f.lo + f.len ≤ 32) (hc : f.besides Fld.GDV_STAT_FCOUNT = true)
    (hh : f.besides Fld.GDV_STAT_H_FAILED = true) : FailuresKept s (s.setBit (Reg.GDV_STAT n) f v) := by
  simp only [Field.besides, decide_eq_true_eq] at hc hh
  refine ⟨fun _ => rfl, fun _ => rfl, fun m => ?_, fun m => ?_⟩ <;> by_cases hm : Reg.GDV_STAT m = Reg.GDV_STAT n
  · rw [hm]; exact s.fld_setFld_beside _ f _ _ hf hc
  · exact s.fld_setFld_other f _ _ hm
  · rw [hm]; exact s.bit_setBit_beside _ f _ v hf hh
  · exact State.bit_congr (s.reg_setBit_other f v hm) _

theorem updDrv (s : State) (n : Nat) (f : Drv → Drv) (hfailed : (f (s.drv n)).failed = (s.drv n).failed)
    (hcount : (f (s.drv n)).fcount = (s.drv n).fcount) : FailuresKept s (s.updDrv n f) := by
  refine ⟨fun m => ?_, fun m => ?_, fun _ => rfl, fun _ => rfl⟩ <;> by_cases hm : m = n
  · rw [hm, State.drv_updDrv_same, hfailed]
  · rw [State.drv_updDrv_other _ _ hm]
  · rw [hm, State.drv_updDrv_same, hcount]
  · rw [State.drv_updDrv_other _ _ hm]

theorem updEdge (s : State) (n : Nat) (f : Edge → Edge) : FailuresKept s (s.updEdge n f) :=
  ⟨fun _ => rfl, fun _ => rfl, fun _ => rfl, fun _ => rfl⟩

theorem updGate (s : State) (n : Nat) (d : Side) (f : Gate → Gate) : FailuresKept s (s.updGate n d f) := by
  cases d <;> exact ⟨fun _ => rfl, fun _ => rfl, fun _ => rfl, fun _ => rfl⟩

end FailuresKept

section ladder
variable (s : State)

theorem State.failuresKept_softOff (n : Nat) : FailuresKept s (s.softOff n) := by
  unfold State.softOff
  refine .ite (.updEdge _ _ _) (.ite ?_ (.updEdge _ _ _))
  exact ((((FailuresKept.updEdge s n _).trans (.updGate _ n _ _)).trans (.updGate _ n _ _)).trans (.updDrv _ n _ rfl rfl)).trans
    (.setBit _ n _ (by decide) (by decide) (by decide))

theorem State.failuresKept_setHold {n : Nat} (hn : n < 24) {f : Field} (v : Bool) (hf : f.lo + f.len ≤ 32)
    (hc : f.besides Fld.GDV_STAT_FCOUNT = true) (hh : f.besides Fld.GDV_STAT_H_FAILED = true) : FailuresKept s (s.setHold n f v) :=
  (FailuresKept.setBit s n v hf hc hh).trans (.of_sensed (State.sensed_holdState _ hn) (State.holdState_drvs _ n))

theorem State.failuresKept_order {n : Nat} (hn : n < 24) : FailuresKept s ((s.softOff n).setHold n Fld.GDV_STAT_H_ORDER true) :=
  (s.failuresKept_softOff n).trans (State.failuresKept_setHold _ hn _ (by decide) (by decide) (by decide))

theorem State.failuresKept_orderSlots (k : Nat) : FailuresKept s (s.orderSlots k) :=
  s.each_rel FailuresKept .refl .trans _ _ fun u _ hn => u.failuresKept_order (State.mem_slotsOf _ hn)

/-- A safe stop of a cluster orders its slots off and fails none. -/
theorem State.failuresKept_safeStop (k cause : Nat) : FailuresKept s (s.safeStop k cause) := by
  have hnoted : FailuresKept s (if cause = scREGION || cause = scPACKAGE || cause = scFENCE then
      (s.record (Reg.CLU_STAT k) 1 [cause]).cancelRetry k else s.record (Reg.CLU_STAT k) 1 [cause]) :=
    .of_sensed (by simp [apply_ite State.sensed]) (by rw [apply_ite State.drvs, State.cancelRetry_drvs, ite_self, State.record_drvs])
  have hraise (u : State) : FailuresKept u (u.raise (.clu k) 0) :=
    .of_sensed (u.sensed_raise (FlagSrc.distant_cluster k).1 0) (u.raise_drvs (.clu k) 0)
  unfold State.safeStop State.stopCluster
  refine .ite hnoted (.trans (.trans (hnoted.trans (.of_sensed ?_ ?_)) (State.failuresKept_orderSlots _ k)) (hraise _))
  · rw [State.sensed_setFld _ _ _ (sensedReg_cluster k).1, State.sensed_setCState, State.sensed_updCluster, State.sensed_leaveRun]
  · rw [State.setFld_drvs, State.setCState_drvs, State.updCluster_drvs, State.leaveRun_drvs]

/-- A phase that is lost fails no slot. -/
theorem State.failuresKept_phaseLost (k n : Nat) : FailuresKept s (s.phaseLost k n) := by
  unfold State.phaseLost
  refine .ite (.refl s) (.trans (.of_sensed ?_ ?_) (.ite (State.failuresKept_safeStop _ k _) (.refl _)))
  · rw [State.sensed_deratePhase]
    simp
  · rw [State.deratePhase_drvs, State.record_drvs, State.changeRecord_drvs, State.raise_drvs, State.showIlim_drvs, State.setActive_drvs,
      State.setFld_drvs, State.withdraw_drvs]

theorem State.failuresKept_phaseLostOf (n : Nat) : FailuresKept s (s.phaseLostOf n) := by
  unfold State.phaseLostOf
  split
  · exact s.failuresKept_phaseLost _ _
  · exact .refl s

end ladder
end Sys2Proof.Machine
end

section
/-!
SUPPORT. Settles O29: the interlock lines of the driver dies and the slot commands (R126, R136, R137, R139, R140, R144, R146).
-/

namespace Sys2Proof.Machine

/-! ### Interlock lines (R136, R137) -/

section lines
variable {s : State} (n : Slot)

/-- A slot whose line is at its off level is turned off and held, and no guard time of an earlier release goes on. -/
def State.lineHeld (s : State) (n : Nat) : State := ((s.softOff n).setHold n Fld.GDV_STAT_H_ILINE true).updDrv n fun d => { d with guardEnd := none }

theorem State.lineHeld_holds (s : State) : (s.lineHeld n.val).bit (Reg.GDV_STAT n.val) Fld.GDV_STAT_H_ILINE = true ∧
    ((s.lineHeld n.val).drv n.val).guardEnd = none := by
  refine ⟨?_, by rw [State.lineHeld, State.drv_updDrv_same]⟩
  rw [State.lineHeld, State.updDrv_bit, State.setHold_bit_same _ _ _ n.isLt (by decide) rfl]

theorem ilineOff_holds (hrun : s.cdRun = true) (hn : n.val < s.variant.slots) (hline : bitOf (s.reg Reg.SAFE_LINES).toNat n.val = false)
    (hfree : s.bit (Reg.GDV_STAT n.val) Fld.GDV_STAT_H_ILINE = false) :
    Completes (.ilineOff n) s fun t =>
      t.bit (Reg.GDV_STAT n.val) Fld.GDV_STAT_H_ILINE ∧ (t.bit (Reg.GDV_STAT n.val) Fld.GDV_STAT_EREMOVED ∨ (t.drv n.val).openAfter) ∧ (t.drv
      n.val).guardEnd = none := by
  have hexec : exec (.ilineOff n) s = onlyIf (s.cdRun && Nat.blt n.val s.variant.slots && !bitOf (s.reg Reg.SAFE_LINES).toNat n.val &&
      !s.bit (Reg.GDV_STAT n.val) Fld.GDV_STAT_H_ILINE) s fun s =>
        if ((s.lineHeld n.val).drv n.val).softAt.isSome then (s.lineHeld n.val).updDrv n.val fun d => { d with openAfter := true }
        else (s.lineHeld n.val).openEnergy n.val := rfl
  obtain ⟨hheld, hguard⟩ := State.lineHeld_holds n s
  refine completes_onlyIf hexec (by simp [hrun, hn, hline, hfree]) ?_
  simp only [State.settle_bit_low _ _ (gdvReg_low n.val n.isLt).1, State.settle_drv]
  generalize s.lineHeld n.val = u at hheld hguard ⊢
  split
  · refine ⟨hheld, .inr ?_, ?_⟩ <;> rw [State.drv_updDrv_same]
    exact hguard
  · refine ⟨(u.openEnergy_beside n.val _ (by decide)).trans hheld, .inl (u.openEnergy_removed n.val), ?_⟩
    rw [State.drv, (u.openEnergy_records n.val).2]
    exact hguard

/-- The line is released: the energy switch closes and the hold ends. -/
def State.lineFreed (s : State) (n : Nat) : State :=
  (s.setBit (Reg.GDV_STAT n) Fld.GDV_STAT_EREMOVED false).setHold n Fld.GDV_STAT_H_ILINE false

theorem ilineRelease_guards (hrun : s.cdRun = true) (hline : bitOf (s.reg Reg.SAFE_LINES).toNat n.val = true)
    (hheld : s.bit (Reg.GDV_STAT n.val) Fld.GDV_STAT_H_ILINE = true) :
    Completes (.ilineRelease n) s fun t =>
      t.bit (Reg.GDV_STAT n.val) Fld.GDV_STAT_H_ILINE = false ∧ t.bit (Reg.GDV_STAT n.val) Fld.GDV_STAT_EREMOVED = false ∧
      (t.drv n.val).guardEnd = some (s.now + us 10) := by
  have hexec : exec (.ilineRelease n) s = onlyIf (s.cdRun && bitOf (s.reg Reg.SAFE_LINES).toNat n.val &&
      s.bit (Reg.GDV_STAT n.val) Fld.GDV_STAT_H_ILINE) s fun s => (s.lineFreed n.val).updDrv n.val fun d =>
        { d with guardEnd := some ((s.lineFreed n.val).now + us 10), openAfter := false, lineOffAt := none } := rfl
  refine completes_onlyIf hexec (by simp [hrun, hline, hheld]) ?_
  simp only [State.settle_bit_low _ _ (gdvReg_low n.val n.isLt).1, State.settle_drv, State.updDrv_bit, State.drv_updDrv_same]
  refine ⟨State.setHold_bit_same _ _ false n.isLt (by decide) rfl, ?_, ?_⟩
  · rw [State.lineFreed, State.setHold_bit_beside _ _ _ n.isLt (by decide) (by decide), State.bit_setBit_same _ _ _ _ (by decide) rfl]
  · rw [State.lineFreed, State.setHold_now _ _ _ n.isLt, State.setBit_now]

theorem ilineReleaseGuardEnd_ends {t0 : Nat} (hrun : s.cdRun = true) (hguard : (s.drv n.val).guardEnd = some t0) (htime : t0 ≤ s.now) :
    Completes (.ilineReleaseGuardEnd n) s fun t =>
      (t.drv n.val).guardEnd = none ∧ Only (fun _ => False) { s with drvs := t.drvs } t := by
  have hexec : exec (.ilineReleaseGuardEnd n) s =
      onlyIf (s.cdRun && Nat.ble t0 s.now) s fun s => s.updDrv n.val fun d => { d with guardEnd := none } := by
    change execIlineReleaseGuardEnd n s = _
    unfold execIlineReleaseGuardEnd
    dsimp only
    rw [hguard]
  refine completes_onlyIf hexec (by simp [hrun, htime]) ⟨?_, ?_⟩
  · rw [State.settle_drv, State.drv_updDrv_same]
  · rw [State.settle_drvs]
    exact (Only.refl _ _).settle

end lines

/-! ### The result of a slot command (R146) -/

/-- A command of a register that the variant has is carried out where its condition holds. -/
theorem completes_atReg {i : Instr} {s : State} {a : Nat} {present ok : Bool} {f : State → State} {p : State → Prop}
    (he : exec i s = atReg a present ok s f) (hpresent : present = true) (hok : ok = true) (hp : p (f s).settle) : Completes i s p :=
  completes_onlyIf (he.trans (if_pos hpresent)) hok hp

section results
variable (s : State) (n : Nat)

theorem State.gdvResult_done : s.gdvResult n rcDONE = s.setFld (Reg.GDV_STAT n) Fld.GDV_STAT_CMDRES rcDONE := by
  rw [State.gdvResult, State.raiseIf, if_neg (by decide)]

theorem State.gdvResult_cond : s.gdvResult n rcCOND = (s.setFld (Reg.GDV_STAT n) Fld.GDV_STAT_CMDRES rcCOND).raise (.gdv n) 14 := by
  rw [State.gdvResult, State.raiseIf, if_pos (by decide)]

theorem State.gdvResult_stat (res : Nat) :
    (s.gdvResult n res).reg (Reg.GDV_STAT n) = (s.setFld (Reg.GDV_STAT n) Fld.GDV_STAT_CMDRES res).reg (Reg.GDV_STAT n) := by
  unfold State.gdvResult State.raiseIf
  split
  · exact State.reg_raise_unowned _ (gdvStat_unowned n 14)
  · rfl

theorem State.gdvResult_shown {res : Nat} (h : res < 256) : (s.gdvResult n res).fld (Reg.GDV_STAT n) Fld.GDV_STAT_CMDRES = res :=
  (State.fld_congr (s.gdvResult_stat n res) _).trans ((s.fld_setFld_same _ _ _ (by decide)).trans (Nat.mod_eq_of_lt h))

/-- The fields of the status below the result. -/
theorem State.gdvResult_fld (res : Nat) {f : Field} (h : f.lo + f.len ≤ 24) :
    (s.gdvResult n res).fld (Reg.GDV_STAT n) f = s.fld (Reg.GDV_STAT n) f :=
  (State.fld_congr (s.gdvResult_stat n res) _).trans (s.fld_setFld_beside _ _ _ _ (by decide) (.inl h))

theorem State.gdvResult_bit (res : Nat) {f : Field} (h : f.lo + f.len ≤ 24) :
    (s.gdvResult n res).bit (Reg.GDV_STAT n) f = s.bit (Reg.GDV_STAT n) f := by
  rw [State.bit, s.gdvResult_fld n res h]
  rfl

theorem State.gate_setFld (a : Nat) (f : Field) (v : Nat) (d : Side) : (s.setFld a f v).gate n d = s.gate n d := by cases d <;> rfl

theorem State.gdvResult_gate (res : Nat) (d : Side) : (s.gdvResult n res).gate n d = s.gate n d := by
  rw [State.gdvResult, State.raiseIf, apply_ite (State.gate · n d), State.gate_raise, ite_self, State.gate_setFld]

theorem State.gdvResult_drvs (res : Nat) : (s.gdvResult n res).drvs = s.drvs := by rw [State.gdvResult, State.raiseIf_drvs, State.setFld_drvs]

end results

/-! ### CLEAR_HOLD (R139) -/

/-- The holds that CLEAR_HOLD may end. -/
def clearableHolds : List Field := [Fld.GDV_STAT_H_DSAT, Fld.GDV_STAT_H_MOC, Fld.GDV_STAT_H_BIAS, Fld.GDV_STAT_H_LINK]

theorem clearableHolds_fit {f : Field} (hf : f ∈ clearableHolds) : f.lo + f.len ≤ 32 ∧ f.len = 1 ∧ f.besides Fld.GDV_STAT_BIASOK_H = true ∧
    f.besides Fld.GDV_STAT_BIASOK_L = true ∧ ∀ g ∈ clearableHolds, f = g ∨ f.besides g = true := by
  simp only [clearableHolds, List.mem_cons, List.not_mem_nil, or_false] at hf
  rcases hf with rfl | rfl | rfl | rfl <;> decide

/-- A hold ends where its condition is gone. -/
def State.holdCleared (s : State) (n : Nat) (f : Field) : State := if s.bit (Reg.GDV_STAT n) f && s.holdGone n f then s.setHold n f false else s

/-- The holds of a list, one after the other. -/
def State.holdsCleared (s : State) (n : Nat) (l : List Field) : State := l.foldl (fun u f => u.holdCleared n f) s

theorem State.holdsCleared_cons (s : State) (n : Nat) (f : Field) (l : List Field) :
    s.holdsCleared n (f :: l) = (s.holdCleared n f).holdsCleared n l := rfl

section clearing
variable (s : State) {n : Nat} (hn : n < 24)
include hn

/-- The end of a hold makes no difference to the conditions of the others. -/
theorem State.holdGone_setHold {f : Field} (hf : f ∈ clearableHolds) (on : Bool) (g : Field) :
    (s.setHold n f on).holdGone n g = s.holdGone n g := by
  obtain ⟨hfits, -, hhigh, hlow, -⟩ := clearableHolds_fit hf
  simp only [Field.besides, decide_eq_true_eq] at hhigh hlow
  have hsince (t d : Nat) : (s.setHold n f on).since t d = s.since t d := by simp only [State.since, State.setHold_now _ _ _ hn]
  have hdsat (d : Side) : ((s.setHold n f on).gate n d).dsatUp = (s.gate n d).dsatUp := congrArg (·.1) (s.setHold_senses f on hn n d)
  simp only [State.holdGone, State.setHold_bit_beside _ _ _ hn hfits hhigh, State.setHold_bit_beside _ _ _ hn hfits hlow, State.setHold_drv, hsince,
    hdsat]

theorem State.holdGone_holdCleared {f : Field} (hf : f ∈ clearableHolds) (g : Field) : (s.holdCleared n f).holdGone n g = s.holdGone n g := by
  unfold State.holdCleared
  split
  · exact s.holdGone_setHold hn hf false g
  · rfl

theorem State.holdCleared_same {f : Field} (hf : f ∈ clearableHolds) (hgone : s.holdGone n f = true) :
    (s.holdCleared n f).bit (Reg.GDV_STAT n) f = false := by
  obtain ⟨hfits, hone, -⟩ := clearableHolds_fit hf
  unfold State.holdCleared
  split
  · exact s.setHold_bit_same f false hn hfits hone
  · rename_i hkept
    simpa [hgone] using hkept

/-- No hold is set by the end of another. -/
theorem State.holdCleared_clear {f g : Field} (hf : f ∈ clearableHolds) (hg : g ∈ clearableHolds) (hclear : s.bit (Reg.GDV_STAT n) g = false) :
    (s.holdCleared n f).bit (Reg.GDV_STAT n) g = false := by
  obtain ⟨hfits, hone, -, -, hbeside⟩ := clearableHolds_fit hf
  unfold State.holdCleared
  split
  · rcases hbeside g hg with rfl | hbeside
    · exact s.setHold_bit_same f false hn hfits hone
    · exact (s.setHold_bit_beside f false hn hfits (by simpa [Field.besides] using hbeside)).trans hclear
  · exact hclear

theorem State.holdsCleared_clear {g : Field} (hg : g ∈ clearableHolds) {l : List Field} (hl : ∀ f ∈ l, f ∈ clearableHolds)
    (hclear : s.bit (Reg.GDV_STAT n) g = false) : (s.holdsCleared n l).bit (Reg.GDV_STAT n) g = false := by
  induction l generalizing s with
  | nil => exact hclear
  | cons f l ih =>
    rw [State.holdsCleared_cons]
    exact ih _ (fun x hx => hl x (List.mem_cons_of_mem f hx)) (s.holdCleared_clear hn (hl f List.mem_cons_self) hg hclear)

/-- Each hold of the list whose condition is gone ends. -/
theorem State.holdsCleared_gone {g : Field} {l : List Field} (hl : ∀ f ∈ l, f ∈ clearableHolds) (hg : g ∈ l) (hgone : s.holdGone n g = true) :
    (s.holdsCleared n l).bit (Reg.GDV_STAT n) g = false := by
  induction l generalizing s with
  | nil => cases hg
  | cons f l ih =>
    have hf : f ∈ clearableHolds := hl f List.mem_cons_self
    have hrest : ∀ x ∈ l, x ∈ clearableHolds := fun x hx => hl x (List.mem_cons_of_mem f hx)
    rw [State.holdsCleared_cons]
    rcases List.mem_cons.1 hg with rfl | hmem
    · exact State.holdsCleared_clear _ hn hf hrest (s.holdCleared_same hn hf hgone)
    · exact ih _ hrest hmem ((s.holdGone_holdCleared hn hf g).trans hgone)

end clearing

/-! ### Adapted codes and failed slots (R126, R140) -/

section failed
variable (s : State)

/-- The adapted codes of both channels return to PLT_INIT. -/
def State.unadapted (s : State) (n : Nat) : State :=
  (s.updGate n .high fun g => { g with pOn := none, pOff := none }).updGate n .low fun g => { g with pOn := none, pOff := none }

theorem State.unadapted_codes (n : Nat) : (((s.unadapted n).gate n .high).pOn = none ∧ ((s.unadapted n).gate n .high).pOff = none) ∧
    ((s.unadapted n).gate n .low).pOn = none ∧ ((s.unadapted n).gate n .low).pOff = none := by
  have hhigh : (s.unadapted n).gate n .high = { s.gate n .high with pOn := none, pOff := none } :=
    (State.gate_updGate_otherSide _ n .low _).trans (s.gate_updGate_same n .high _)
  rw [hhigh, State.unadapted, State.gate_updGate_same]
  exact ⟨⟨rfl, rfl⟩, rfl, rfl⟩

theorem State.unadapted_frame (n : Nat) : SlotOnly (fun a => a = Reg.GDV_STAT n) s (s.unadapted n) :=
  (SlotOnly.updGate _ s n .high _).trans (.updGate _ _ n .low _)

/-- H_FAILED of a slot is cleared with its count of faults. -/
def State.failureCleared (s : State) (n : Nat) : State :=
  ((s.updDrv n fun d => { d with failed := false, fcount := 0 }).setFld (Reg.GDV_STAT n) Fld.GDV_STAT_FCOUNT 0).setHold n Fld.GDV_STAT_H_FAILED false

theorem State.failureCleared_shows (n : Slot) :
    ((s.failureCleared n.val).drv n.val).failed = false ∧ ((s.failureCleared n.val).drv n.val).fcount = 0 ∧
    (s.failureCleared n.val).fld (Reg.GDV_STAT n.val) Fld.GDV_STAT_FCOUNT = 0 ∧
    (s.failureCleared n.val).bit (Reg.GDV_STAT n.val) Fld.GDV_STAT_H_FAILED = false := by
  have hdrv : (s.failureCleared n.val).drv n.val = { s.drv n.val with failed := false, fcount := 0 } := by
    rw [State.drv, State.failureCleared, State.setHold_drvs, State.setFld_drvs]
    exact s.drv_updDrv_same n.val _
  rw [hdrv, State.failureCleared, State.setHold_fld_beside _ _ _ n.isLt (by decide) (by decide), State.fld_setFld_same _ _ _ _ (by decide),
    State.setHold_bit_same _ _ _ n.isLt (by decide) rfl]
  exact ⟨rfl, rfl, rfl, rfl⟩

/-- A cleared slot waits for a diagnosis, out of the phases of its cluster, and the safety log shows it. -/
def State.rediagnosed (s : State) (n : Nat) : State :=
  let s := s.setDiagHold n true
  let s := if s.bit (Reg.GDV_STAT n) Fld.GDV_STAT_H_DIAG then s.phaseLostOf n else s
  s.logSafety 0x32 n s.sessionKey

theorem State.failuresKept_rediagnosed (n : Nat) : FailuresKept s (s.rediagnosed n) := by
  have hheld : FailuresKept s (s.setDiagHold n true) := by
    unfold State.setDiagHold
    exact .ite (.updDrv _ _ _ rfl rfl) (.setBit _ _ _ (by decide) (by decide) (by decide))
  have hlogged (u : State) (key : Nat) : FailuresKept u (u.logSafety 0x32 n key) := .of_sensed (u.sensed_logSafety 0x32 n key) rfl
  exact (hheld.trans (.ite (State.failuresKept_phaseLostOf _ n) (.refl _))).trans (hlogged _ _)

end failed

/-! ### The slot commands (R126, R139, R140, R144) -/

section commands
variable {s : State} (n : Slot) (hrun : s.cdRun = true) (hn : n.val < s.variant.slots)
include hrun hn

/-- CLEAR_HOLD of the host or of the owning triplet. -/
theorem completes_clearHold {who : Party} {p : State → Prop}
    (hwho : who = .host ∨ (s.clusterOf n.val).any (fun k => s.ownerCode k == partyCode who) = true)
    (hp : p (s.cmdClearHold n.val).settle) : Completes (.clearHold who n) s p := by
  have hexec : exec (.clearHold who n) s = atReg (Reg.GDV_CMD n.val) (Nat.blt n.val s.variant.slots) (s.cdRun && s.ownsSlot who n.val) s
      fun s => s.cmdClearHold n.val := rfl
  exact completes_atReg hexec (by simpa using hn) (by simpa [hrun, State.ownsSlot, State.ownsSlotOf] using hwho) hp

theorem clearHold_clears {who : Party} (hwho : who = .host ∨ (s.clusterOf n.val).any (fun k => s.ownerCode k == partyCode who) = true)
    (hidle : s.switching n.val = false) (hfailed : s.bit (Reg.GDV_STAT n.val) Fld.GDV_STAT_H_FAILED = false) {f : Field} (hf : f ∈ clearableHolds)
    (hgone : s.holdGone n.val f = true) : Completes (.clearHold who n) s fun t => t.bit (Reg.GDV_STAT n.val) f = false := by
  have hcmd : s.cmdClearHold n.val = if (s.holdsCleared n.val clearableHolds).holdBits n.val % 16 = 0 then
      (s.holdsCleared n.val clearableHolds).gdvResult n.val rcDONE
      else (s.holdsCleared n.val clearableHolds).gdvResult n.val rcCOND := by
    rw [State.cmdClearHold, if_neg (by simp [hidle, hfailed])]
    rfl
  have hbelow : f.lo + f.len ≤ 24 := by
    simp only [clearableHolds, List.mem_cons, List.not_mem_nil, or_false] at hf
    rcases hf with rfl | rfl | rfl | rfl <;> decide
  refine completes_clearHold n hrun hn hwho ?_
  rw [State.settle_bit_low _ _ (gdvReg_low n.val n.isLt).1, hcmd, apply_ite (State.bit · _ _), State.gdvResult_bit _ _ _ hbelow,
    State.gdvResult_bit _ _ _ hbelow, ite_self]
  exact s.holdsCleared_gone n.isLt (fun _ => id) hf hgone

theorem clearHold_refused {who : Party} (hwho : who = .host ∨ (s.clusterOf n.val).any (fun k => s.ownerCode k == partyCode who) = true)
    (hbarred : s.switching n.val = true ∨ s.bit (Reg.GDV_STAT n.val) Fld.GDV_STAT_H_FAILED = true) :
    Completes (.clearHold who n) s fun t =>
      t.fld (Reg.GDV_STAT n.val) Fld.GDV_STAT_CMDRES = rcCOND ∧ t.flag (.gdv n.val) 14 ∧ Only (fun a => a = Reg.GDV_STAT n.val ∨ (FlagSrc.gdv
      n.val).owns 14 a) s t := by
  have hcmd : s.cmdClearHold n.val = s.gdvResult n.val rcCOND := if_pos (by simpa using hbarred)
  refine completes_clearHold n hrun hn hwho ?_
  rw [hcmd]
  refine ⟨?_, ?_, Only.settle ?_⟩
  · rw [State.settle_fld_low _ _ (gdvReg_low n.val n.isLt).1, State.gdvResult_shown _ _ (by decide)]
  · rw [State.settle_gdvFlag _ _ n.isLt, State.gdvResult_cond, State.flag_raise _ _ _ (by decide)]
  · rw [State.gdvResult_cond]
    exact ((Only.setFld _ _ _ _).mono fun _ => .inl).trans ((Only.raise _ _ _).mono fun _ => .inr)

/-- RUN_DIAG in a state that permits it starts an off-state diagnosis (R144). -/
theorem runDiag_starts (hstate : (s.dev = stSTANDBY ∨ s.dev = stARMED) ∧ s.switching n.val = false ∨
      s.dev = stRUN ∧ (s.sstate n.val = 3 ∨ s.sstate n.val = 4) ∧ (s.clusterOf n.val).any (fun k => !s.isGfi k) = true)
    (hidle : (s.drv n.val).diagAt = none) :
    Completes (.runDiag n) s fun t =>
      (t.drv n.val).diagAt = some s.now ∧ (t.drv n.val).diagV = s.diagLink n.val ∧ t.fld (Reg.GDV_STAT n.val) Fld.GDV_STAT_CMDRES = rcDONE ∧
      Only (fun a => a = Reg.GDV_STAT n.val) { s with drvs := t.drvs } t := by
  have hexec : exec (.runDiag n) s = atReg (Reg.GDV_CMD n.val) (Nat.blt n.val s.variant.slots) s.cdRun s fun s => s.cmdRunDiag n.val := rfl
  have hmay : ((s.dev == stSTANDBY || s.dev == stARMED) && !s.switching n.val ||
      (s.dev == stRUN && (s.sstate n.val == 3 || s.sstate n.val == 4) && (s.clusterOf n.val).any fun k => !s.isGfi k)) = true := by
    simpa only [Bool.or_eq_true, Bool.and_eq_true, beq_iff_eq, Bool.not_eq_true', and_assoc] using hstate
  have hcmd : s.cmdRunDiag n.val = (s.startDiag n.val).gdvResult n.val rcDONE := by
    rw [State.cmdRunDiag, if_neg (by simp [hmay]), if_neg (by simp [hidle])]
  refine completes_atReg hexec (by simpa using hn) hrun ?_
  rw [hcmd, State.settle_drv, State.settle_drvs, State.drv, State.gdvResult_drvs,
    State.settle_fld_low _ _ (gdvReg_low n.val n.isLt).1, State.gdvResult_shown _ _ (by decide)]
  have hdrv : (s.startDiag n.val).drv n.val =
      { s.drv n.val with diagAt := some s.now, diagV := s.diagLink n.val, diagMoved := false, diagAbort := false } :=
    State.drv_updDrv_same _ _ _
  refine ⟨congrArg Drv.diagAt hdrv, congrArg Drv.diagV hdrv, rfl, Only.settle ?_⟩
  rw [State.gdvResult_done]
  exact Only.setFld (s.startDiag n.val) _ _ _

theorem adaptReset_resets : Completes (.adaptReset n) s fun t =>
    (t.gate n.val .high).pOn = none ∧ (t.gate n.val .high).pOff = none ∧ (t.gate n.val .low).pOn = none ∧ (t.gate n.val .low).pOff = none ∧
    t.fld (Reg.GDV_STAT n.val) Fld.GDV_STAT_CMDRES = rcDONE ∧ Only (fun a => a = Reg.GDV_STAT n.val)
      { s with gatesH := t.gatesH, gatesL := t.gatesL } t := by
  have hexec : exec (.adaptReset n) s = atReg (Reg.GDV_CMD n.val) (Nat.blt n.val s.variant.slots) s.cdRun s fun s =>
      (s.unadapted n.val).gdvResult n.val rcDONE := rfl
  obtain ⟨⟨hhighOn, hhighOff⟩, hlowOn, hlowOff⟩ := s.unadapted_codes n.val
  have hframe : SlotOnly (fun a => a = Reg.GDV_STAT n.val) s ((s.unadapted n.val).gdvResult n.val rcDONE) := by
    rw [State.gdvResult_done]
    exact (State.unadapted_frame s n.val).trans (.of_only (Only.setFld _ _ _ _))
  refine completes_atReg hexec (by simpa using hn) hrun ?_
  simp only [State.settle_gate, State.gdvResult_gate]
  refine ⟨hhighOn, hhighOff, hlowOn, hlowOff, ?_, hframe.settle.gates ?_ ?_⟩
  · rw [State.settle_fld_low _ _ (gdvReg_low n.val n.isLt).1, State.gdvResult_shown _ _ (by decide)]
  · rw [State.settle_edges, State.gdvResult_done, State.setFld_edges, State.unadapted, State.updGate_edges, State.updGate_edges]
  · rw [State.settle_drvs, State.gdvResult_drvs, State.unadapted, State.updGate_drvs, State.updGate_drvs]

theorem clearFailed_clears (hsession : s.commissioning = true) (hidle : s.switching n.val = false) :
    Completes (.clearFailed n) s fun t =>
      (t.drv n.val).failed = false ∧ (t.drv n.val).fcount = 0 ∧ t.fld (Reg.GDV_STAT n.val) Fld.GDV_STAT_FCOUNT = 0 ∧ t.bit (Reg.GDV_STAT n.val)
      Fld.GDV_STAT_H_FAILED = false ∧ t.fld (Reg.GDV_STAT n.val) Fld.GDV_STAT_CMDRES = rcDONE := by
  have hexec : exec (.clearFailed n) s = atReg (Reg.GDV_CMD n.val) (Nat.blt n.val s.variant.slots) s.cdRun s fun s => s.cmdClearFailed n.val := rfl
  have hcmd : s.cmdClearFailed n.val = ((s.failureCleared n.val).rediagnosed n.val).gdvResult n.val rcDONE := by
    rw [State.cmdClearFailed, if_neg (by simp [hsession, hidle])]
    rfl
  obtain ⟨hfailed, hcount, hshown, hhold⟩ := s.failureCleared_shows n
  have hkept := State.failuresKept_rediagnosed (s.failureCleared n.val) n.val
  generalize (s.failureCleared n.val).rediagnosed n.val = u at hcmd hkept
  refine completes_atReg hexec (by simpa using hn) hrun ?_
  have hlow := (gdvReg_low n.val n.isLt).1
  rw [hcmd, State.settle_drv, State.drv, State.gdvResult_drvs, State.settle_fld_low _ _ hlow, State.settle_fld_low _ _ hlow,
    State.settle_bit_low _ _ hlow, State.gdvResult_fld _ _ _ (by decide), State.gdvResult_bit _ _ _ (by decide),
    State.gdvResult_shown _ _ (by decide)]
  exact ⟨(hkept.failed n.val).trans hfailed, (hkept.fcount n.val).trans hcount, (hkept.count n).trans hshown, (hkept.hold n).trans hhold, rfl⟩

end commands

/-- Settles O29: a command for each clause; the conditions of the holds outlast the release of the other holds, and no phase that is lost on the way
fails a slot again. -/
theorem gateHoldsComplete : Obligations.GateHoldsComplete := by
  unfold Obligations.GateHoldsComplete
  exact ⟨fun n _ hrun hn hline hfree => ilineOff_holds n hrun hn hline hfree,
    fun n _ hrun hline hheld => ilineRelease_guards n hrun hline hheld,
    fun n _ _ hrun hguard htime => ilineReleaseGuardEnd_ends n hrun hguard htime,
    fun _ n _ _ hrun hn hwho hidle hfailed hf hgone => clearHold_clears n hrun hn hwho hidle hfailed hf hgone,
    fun _ n _ hrun hn hwho hbarred => clearHold_refused n hrun hn hwho hbarred,
    fun n _ hrun hn hstate hidle => runDiag_starts n hrun hn hstate hidle,
    fun n _ hrun hn => adaptReset_resets n hrun hn,
    fun n _ hrun hn hsession hidle => clearFailed_clears n hrun hn hsession hidle⟩

end Sys2Proof.Machine
end

section
/-!
SUPPORT. A trip request of RIDE that finds no channel to the MT triplet, and yet sends its notice: stopping the cluster ends the waiting COMMIT of a
transaction that holds one of its registers, and the completion sets the channel up (R166, R397, R418).
-/

namespace Sys2Proof.Machine

/-- A RIDE block with one point below the nominal voltage, whose time of 100 × 10 ms is over. -/
def overdueRide : Blk :=
  { ride := some { low := [(800, 100)], high := [], cessLow := 500, cessHigh := 1400, cessMode := false, bands := [], rate := 100 }, st := .ride,
    since := [some 0] }

/-- Cluster 0 runs as a grid inverter with that block. Transaction 0 is pending with a staged register of the cluster; its COMMIT waits in ring 1016,
whose device index stands in MBX_CH1_CFG and whose host index stands in MBX_CH1_TO. -/
def waitingCommit : State :=
  let clustered := (((State.reset.setFld (Reg.CLU_CFG 0) Fld.CLU_CFG_TYPE tyGFI2).setFld (Reg.CLU_STAT 0) Fld.CLU_STAT_CSTATE csRUN).updBlk 0
    fun _ => overdueRide).updCluster 0 fun x => { x with spActive := [0, 0, 0, 0, 1] }
  let staged := (clustered.setFld (Reg.CTU_T_STAT 0) Fld.CTU_T_STAT_STATE 3).updTxn 0 fun x =>
    { x with staged := [(Reg.CLU_CFG 0, 0)], ring := some 1016 }
  let flushing := (staged.updRing 1016 fun r => { r with waiting := some ({ index := 0, bytes := [], ok := true }, 0) }).setFld (Reg.HIF_RING_STAT 1016)
    Fld.HIF_RING_STAT_FLUSHING 1
  { (flushing.setReg (Reg.MBX_CH_TO 1) 0x80170000).setReg (Reg.MBX_CH_CFG 1) 0x8016FFFF with now := 40000000 }

/-- A phase below the point of the block. -/
def sagged : GmuOut := { freq := 50000, rocof := 0, angle := 0, pos := 0, neg := 0, zc := some 0, mags := some (1000, 700, 1000) }

/-- What the call of RIDE makes of it. -/
def tripRequested : State := (waitingCommit.gmuUpdate 0 sagged).rideCall 0 sagged.mags

theorem exec_gmuUpdate_sagged : exec (.gmuUpdate 0 sagged) waitingCommit = .next tripRequested.settle := rfl

/-- No channel to MT stands before the stop; the stop of the cluster has set one up. -/
theorem waitingCommit_channel :
    ((List.range 8).find? fun c => waitingCommit.chanOn c && waitingCommit.endpoint c false == 7 && waitingCommit.endpoint c true == 1) = none ∧
    tripRequested.reg (Reg.MBX_CH_CFG 1) = 0x80170000 := by decide +kernel

/-- MT does not run, so that its notice is dropped without DEVQOVF (R416). -/
theorem tripRequested_silent : tripRequested.settle.flag .mbx 12 = false := by decide +kernel

/-- Refutes O58 in its clause of a trip request without a channel to MT: the stop of the cluster fails a pending transaction, and the completion of
its COMMIT, which waits in a ring, can set a channel to MT up before the notice of the request looks for one. -/
theorem not_runtimeBlocksComplete : ¬Obligations.RuntimeBlocksComplete := by
  unfold Obligations.RuntimeBlocksComplete
  rintro ⟨-, -, -, -, -, -, -, -, -, -, -, -, htrip, -⟩
  obtain ⟨t, hexec, -, -, -, hflag⟩ := htrip 0 sagged 1000 700 1000 _ 800 100 0 [] waitingCommit rfl (by decide) (by decide) (by decide) rfl rfl
    (by decide) rfl (by decide) rfl (by decide) (by decide) (by decide) waitingCommit_channel.1
  have ht : t = tripRequested.settle := (Host.Outcome.next.inj (exec_gmuUpdate_sagged.symm.trans hexec)).symm
  rw [ht] at hflag
  exact absurd (tripRequested_silent.symm.trans hflag) (by decide)

end Sys2Proof.Machine
end

section
/-!
SUPPORT. The registers of a cluster that one command shows by itself: the target of the neutral point, the setpoint exchange and the grid measurement
(R159–R163).
-/

namespace Sys2Proof.Machine

/-! ### Frames that name one record -/

section frames
variable {p : Nat → Prop} {s t : State}

theorem Only.withClusters (h : Only p s t) (x : File Nat Cluster) : Only p { s with clusters := x } { t with clusters := x } :=
  ⟨h.1, congrArg (fun u : State => { u with clusters := x }) h.2⟩

theorem Only.withGmus (h : Only p s t) (x : File Nat Gmu) : Only p { s with gmus := x } { t with gmus := x } :=
  ⟨h.1, congrArg (fun u : State => { u with gmus := x }) h.2⟩

theorem Only.setNat (s : State) (a v : Nat) : Only (fun x => x = a) s (s.setNat a v) := Only.setReg s a _

/-- What keeps to a frame leaves a register outside it alone, through delivery too. -/
theorem Only.low_reg (h : Only p s t) {a : Nat} (hlow : a < 0x60000) (ha : ¬p a) : t.reg a = s.reg a := h.1 a (deliveryReg_low hlow) ha

theorem Only.records (h : Only p s t) : t.clusters = s.clusters ∧ t.blks = s.blks ∧ t.gmus = s.gmus := by
  rw [h.2]
  exact ⟨rfl, rfl, rfl⟩

end frames

theorem State.raiseIf_true (s : State) (src : FlagSrc) (b : Nat) : s.raiseIf true src b = s.raise src b := rfl

/-- A flag of a cluster has its register and its counter beside CLU_k_CNT0. -/
theorem clu_owns {k b a : Nat} (h : (FlagSrc.clu k).owns b a = true) : a = Reg.CLU_FLAGS k ∨ a = Reg.CLU_CNT0 k + 4 * (b / 4) := by
  simp only [FlagSrc.owns, FlagSrc.addr, FlagSrc.counter, FlagSrc.cnt0, Option.any_some, Bool.or_eq_true, beq_iff_eq] at h
  exact h.imp_right Eq.symm

/-! ### The target of the neutral point (R159) -/

theorem signed_mod (v : Nat) : signed 16 (v % 2 ^ 16) = signed 16 v := by simp only [signed, Nat.mod_mod]

theorem npTargetWrite_shows {who : Party} (k : Clu) (v : Int) {s : State} (hrun : s.cdRun = true) (hk : k.val < s.variant.clusters)
    (htype : s.ctype k.val = tyGFI3) (howner : s.ownerCode k.val = partyCode who) :
    Completes (.npTargetWrite who k v) s fun t =>
      signed 16 (t.fld (Reg.CLU_NPTGT k.val) Fld.CLU_NPTGT_NP_TARGET) = signed 16 (unsigned 16 v) ∧ Only (fun a => a = Reg.CLU_NPTGT k.val) s t := by
  have hexec : exec (.npTargetWrite who k v) s = atReg (Reg.CLU_NPTGT k.val) (Nat.blt k.val s.variant.clusters)
      (s.cdRun && s.ctype k.val == tyGFI3 && s.ownerCode k.val == partyCode who) s fun s =>
        s.setFld (Reg.CLU_NPTGT k.val) Fld.CLU_NPTGT_NP_TARGET (unsigned 16 v) := rfl
  refine completes_atReg hexec (by simpa using hk) (by simp [hrun, htype, howner]) ⟨?_, (Only.setFld _ _ _ _).settle⟩
  rw [State.settle_fld_low _ _ (by simp only [Reg.CLU_NPTGT]; omega), State.fld_setFld_same _ _ _ _ (by decide)]
  exact signed_mod _

/-! ### The setpoint exchange (R162, R163) -/

section setpoints
variable {s : State} (k : Clu) (hrun : s.cdRun = true)
include hrun

theorem spPost_posts (v : Word) (hk : k.val < s.variant.clusters) :
    Completes (.spPost k v) s fun t =>
      (t.cluster k.val).spPend = some (v.toNat % 65536) ∧ (t.cluster k.val).spPendSet = ((List.range 16).map fun i => (s.reg (Reg.CLU_SP k.val
      i)).toNat) ∧ (t.cluster k.val).spFrom = s.tb ∧ t.fld (Reg.CLU_SP_ACK k.val) spPosted = v.toNat % 65536 ∧ ((s.cluster k.val).spPend.isSome → t.flag
      (.clu k.val) 3) ∧ Only (fun a => a = Reg.CLU_SP_ACK k.val ∨ (FlagSrc.clu k.val).owns 3 a) { s with clusters := t.clusters } t := by
  have hexec : exec (.spPost k v) s = atReg (Reg.CLU_SP_POST k.val) (Nat.blt k.val s.variant.clusters) s.cdRun s fun s =>
      s.postSetpoints k.val v.toNat := rfl
  obtain ⟨f, hpost, hpend, hset, hfrom⟩ : ∃ f : Cluster → Cluster, s.postSetpoints k.val v.toNat =
      ((s.raiseIf (s.cluster k.val).spPend.isSome (.clu k.val) 3).updCluster k.val f).setFld (Reg.CLU_SP_ACK k.val) spPosted v.toNat ∧
      (∀ c, (f c).spPend = some (v.toNat % 65536)) ∧
      (∀ c, (f c).spPendSet = (List.range 16).map fun i => (s.reg (Reg.CLU_SP k.val i)).toNat) ∧ ∀ c, (f c).spFrom = s.tb :=
    ⟨_, rfl, fun _ => rfl, fun _ => rfl, fun _ => State.raiseIf_tb _ _ _ _⟩
  have hraised : Only (fun a => a = Reg.CLU_SP_ACK k.val ∨ (FlagSrc.clu k.val).owns 3 a) s
      (s.raiseIf (s.cluster k.val).spPend.isSome (.clu k.val) 3) := by
    unfold State.raiseIf
    split
    · exact (Only.raise s _ _).mono fun _ => .inr
    · exact Only.refl s _
  have hflag : (s.cluster k.val).spPend.isSome = true → (s.raiseIf (s.cluster k.val).spPend.isSome (.clu k.val) 3).flag (.clu k.val) 3 = true := by
    intro h
    rw [h, State.raiseIf_true]
    exact s.flag_raise _ _ (by decide)
  generalize s.raiseIf (s.cluster k.val).spPend.isSome (.clu k.val) 3 = u at hpost hraised hflag
  have hack : Reg.CLU_SP_ACK k.val < 0x60000 := by simp only [Reg.CLU_SP_ACK]; omega
  have hcluster : ((u.updCluster k.val f).setFld (Reg.CLU_SP_ACK k.val) spPosted v.toNat).settle.cluster k.val = f (u.cluster k.val) := by
    rw [State.cluster, State.settle_clusters, State.setFld_clusters]
    exact u.cluster_updCluster_same _ _
  refine completes_atReg hexec (by simpa using hk) hrun ?_
  rw [hpost, hcluster, State.settle_clusters, State.setFld_clusters]
  refine ⟨hpend _, hset _, hfrom _, ?_, fun h => ?_, Only.settle ?_⟩
  · rw [State.settle_fld_low _ _ hack, State.fld_setFld_same _ _ _ _ (by decide)]
    rfl
  · have hbeside : (FlagSrc.clu k.val).addr ≠ Reg.CLU_SP_ACK k.val := by simp only [FlagSrc.addr, Reg.CLU_FLAGS, Reg.CLU_SP_ACK]; omega
    rw [State.flag_congr (src := .clu k.val) (State.settle_reg_low _ (by simp only [FlagSrc.addr, Reg.CLU_FLAGS]; omega)),
      State.flag_setFld_other _ _ _ _ hbeside]
    exact hflag h
  · exact (hraised.withClusters _).trans ((Only.setFld _ _ _ _).mono fun _ => .inl)

theorem spPickup_activates (q z : Nat) (hpend : (s.cluster k.val).spPend = some q)
    (hz : gridAfter (s.anchor k.val * 16) (s.cluTsw k.val) (((s.cluster k.val).spFrom + 16) * 16) = z) (hdue : z ≤ s.tbFine) :
    Completes (.spPickup k) s fun t =>
      (t.cluster k.val).spPend = none ∧ (t.cluster k.val).spActive = (s.cluster k.val).spPendSet ∧ t.fld (Reg.CLU_SP_ACK k.val) spPicked = q % 65536 ∧
      t.reg (Reg.CLU_SP_TIME k.val) = BitVec.ofNat 32 (z / 16) ∧ Only (fun a => a = Reg.CLU_SP_ACK k.val ∨ a = Reg.CLU_SP_TIME k.val)
      { s with clusters := t.clusters } t := by
  let active : Cluster → Cluster := fun c => { c with spPend := none, spActive := c.spPendSet }
  have hexec : exec (.spPickup k) s = onlyIf (s.cdRun && Nat.ble z s.tbFine) s fun s =>
      ((s.updCluster k.val active).setFld (Reg.CLU_SP_ACK k.val) spPicked q).setNat (Reg.CLU_SP_TIME k.val) (z / 16) := by
    change execSpPickup k s = _
    rw [execSpPickup, ← hz]
    simp only [hpend]
    rfl
  have hregs : Reg.CLU_SP_ACK k.val < 0x60000 ∧ Reg.CLU_SP_TIME k.val < 0x60000 ∧ Reg.CLU_SP_ACK k.val ≠ Reg.CLU_SP_TIME k.val := by
    simp only [Reg.CLU_SP_ACK, Reg.CLU_SP_TIME]
    omega
  obtain ⟨hack, htime, hbeside⟩ := hregs
  have hcluster : (((s.updCluster k.val active).setFld (Reg.CLU_SP_ACK k.val) spPicked q).setNat (Reg.CLU_SP_TIME k.val) (z / 16)).settle.cluster
      k.val = active (s.cluster k.val) := by
    rw [State.cluster, State.settle_clusters, State.setNat_clusters, State.setFld_clusters]
    exact s.cluster_updCluster_same _ _
  refine completes_onlyIf hexec (by simp [hrun, hdue]) ?_
  rw [hcluster, State.settle_clusters, State.setNat_clusters, State.setFld_clusters]
  refine ⟨rfl, rfl, ?_, ?_, Only.settle ?_⟩
  · rw [State.settle_fld_low _ _ hack, State.fld_congr (State.reg_setNat_other _ _ hbeside), State.fld_setFld_same _ _ _ _ (by decide)]
    rfl
  · rw [State.settle_reg_low _ htime, State.reg_setNat_same]
  · exact ((Only.setFld (s.updCluster k.val active) _ _ _).mono fun _ => .inl).trans ((Only.setNat _ _ _).mono fun _ => .inr)

end setpoints

/-! ### The grid measurement (R160, R161) -/

section measurement

/-- The frequency lies inside the range of R160. -/
def gmuInRange (u : GmuOut) : Bool := Nat.ble 40000 u.freq && Nat.ble u.freq 70000

/-- The frequency is shown, or its flag set. -/
def State.gmuFreq (s : State) (k : Nat) (u : GmuOut) : State :=
  (if gmuInRange u then s.setNat (Reg.CLU_GMU_FREQ k) u.freq else s).raiseIf (!gmuInRange u) (.clu k) 6

/-- Rate of change, sequence components and angle are shown. -/
def State.gmuVector (s : State) (k : Nat) (u : GmuOut) : State :=
  ((s.setNat (Reg.CLU_GMU_ROCOF k) (satS16 u.rocof)).setNat (Reg.CLU_GMU_SEQ k) (u.neg % 65536 * 65536 + u.pos % 65536)).setNat (Reg.CLU_GMU_ANGLE k)
    (u.angle % 65536)

/-- The jump of the angle against the last update. -/
def State.phaseJump (s : State) (k : Nat) (u : GmuOut) : Int :=
  match (s.gmu k).angle with
  | none => 0
  | some a => signed 16 (unsigned 16 ((u.angle : Int) - a - divNear (u.freq * 65536) 10000000))

/-- A jump beyond a threshold is shown and recorded. -/
def State.gmuJump (s : State) (k th : Nat) (jump : Int) : State :=
  if Nat.blt (th * 65536) (jump.natAbs * 1440) then
    ((s.setNat (Reg.CLU_GMU_PJ k) (satS16 (divNear (jump * 36000) 65536))).raise (.clu k) 4).record (Reg.CLU_FLAGS k) 16
      [k, unsigned 16 (divNear (jump * 36000) 65536), s.ptpSec, s.ptpNsWord]
  else s

/-- The time of a zero crossing is shown. -/
def State.gmuCrossing (s : State) (k z : Nat) : State :=
  ((s.setNat64 (Reg.CLU_GMU_ZC_LO k) (Reg.CLU_GMU_ZC_HI k) z).setNat (Reg.CLU_GMU_ZC_PTPS k) (s.ptpAt z / ptpSecond)).setNat (Reg.CLU_GMU_ZC_PTPN k)
    (s.ptpAt z % ptpSecond / 2 ^ 32 + (if ((s.setNat64 (Reg.CLU_GMU_ZC_LO k) (Reg.CLU_GMU_ZC_HI k) z).setNat (Reg.CLU_GMU_ZC_PTPS k)
      (s.ptpAt z / ptpSecond)).bit Reg.ETH_PTP_STAT Fld.ETH_PTP_STAT_HOLDOVER then 2 ^ 31 else 0))

/-- The outputs but for a zero crossing. -/
def State.gmuShown (s : State) (k : Nat) (u : GmuOut) : State :=
  ((s.gmuFreq k u).gmuVector k u).gmuJump k (Fld.CLU_GMU_CFG_PJ_TH.get (s.reg (Reg.CLU_GMU_CFG k))) ((s.gmuFreq k u).phaseJump k u)

/-- Two periods have passed without a zero crossing. -/
def State.gmuMissed (s : State) (k : Nat) (cfg : Word) : Bool :=
  Nat.ble ((s.gmu k).lastZc + if Fld.CLU_GMU_CFG_NOM.on cfg then 13333333 else 16000000) s.tb

section equations
variable (s : State) (k : Nat) (u : GmuOut)

theorem State.gmuUpdate_crossing {z : Nat} (h : u.zc = some z) :
    s.gmuUpdate k u = ((s.gmuShown k u).gmuCrossing k z).updGmu k fun _ => { angle := some u.angle, freq := u.freq, lastZc := z / 16 } := by
  obtain ⟨freq, rocof, angle, pos, neg, zc, mags⟩ := u
  subst h
  rfl

theorem State.gmuUpdate_none (h : u.zc = none) : ∃ (miss : Bool) (x : Gmu → Nat), s.gmuUpdate k u =
    ((s.gmuShown k u).updGmu k fun m => { angle := some u.angle, freq := u.freq, lastZc := x m }).raiseIf miss (.clu k) 5 := by
  refine ⟨(s.gmuShown k u).gmuMissed k (s.reg (Reg.CLU_GMU_CFG k)),
    fun m => if (s.gmuShown k u).gmuMissed k (s.reg (Reg.CLU_GMU_CFG k)) then (s.gmuShown k u).tb else m.lastZc, ?_⟩
  obtain ⟨freq, rocof, angle, pos, neg, zc, mags⟩ := u
  subst h
  rfl

end equations

end measurement

end Sys2Proof.Machine
end

section
/-!
SUPPORT. An update of the grid measurement (R160, R161): what each of its stages leaves alone, and what the whole of it shows.
-/

namespace Sys2Proof.Machine

/-! ### The frames of the stages -/

section stages
variable (s : State) (k : Nat) (u : GmuOut)

theorem Only.raiseIf (c : Bool) (src : FlagSrc) (b : Nat) : Only (fun a => src.owns b a) s (s.raiseIf c src b) := by
  cases c
  · exact Only.refl s _
  · exact Only.raise s src b

/-- The registers of the rate, the sequence components and the angle. -/
def gmuVectorRegs (k a : Nat) : Prop := a = Reg.CLU_GMU_ROCOF k ∨ a = Reg.CLU_GMU_SEQ k ∨ a = Reg.CLU_GMU_ANGLE k

/-- The registers of a phase jump: its size, its flag and the counter of recorder entries. -/
def gmuJumpRegs (k a : Nat) : Prop := a = Reg.CLU_GMU_PJ k ∨ (FlagSrc.clu k).owns 4 a = true ∨ a = Reg.REC_SYSSUPP

/-- The registers of a zero crossing. -/
def gmuCrossingRegs (k a : Nat) : Prop :=
  a = Reg.CLU_GMU_ZC_LO k ∨ a = Reg.CLU_GMU_ZC_HI k ∨ a = Reg.CLU_GMU_ZC_PTPS k ∨ a = Reg.CLU_GMU_ZC_PTPN k

theorem State.gmuFreq_good (h : gmuInRange u = true) : s.gmuFreq k u = s.setNat (Reg.CLU_GMU_FREQ k) u.freq := by
  simp [State.gmuFreq, State.raiseIf, h]

theorem State.gmuFreq_bad (h : gmuInRange u = false) : s.gmuFreq k u = s.raise (.clu k) 6 := by
  simp [State.gmuFreq, State.raiseIf, h]

theorem State.gmuVector_frame : Only (gmuVectorRegs k) s (s.gmuVector k u) :=
  (((Only.setNat s _ _).mono fun _ => .inl).trans ((Only.setNat _ _ _).mono fun _ h => .inr (.inl h))).trans
    ((Only.setNat _ _ _).mono fun _ h => .inr (.inr h))

theorem State.gmuJump_frame (th : Nat) (jump : Int) : Only (gmuJumpRegs k) s (s.gmuJump k th jump) := by
  unfold State.gmuJump
  split
  · exact (((Only.setNat s _ _).mono fun _ => .inl).trans ((Only.raise _ _ _).mono fun _ h => .inr (.inl h))).trans
      ((Only.record _ _ _ _).mono fun _ h => .inr (.inr h))
  · exact Only.refl s _

theorem State.gmuCrossing_frame (z : Nat) : Only (gmuCrossingRegs k) s (s.gmuCrossing k z) :=
  ((((Only.setNat s _ _).mono fun _ => .inl).trans ((Only.setNat _ _ _).mono fun _ h => .inr (.inl h))).trans
    ((Only.setNat _ _ _).mono fun _ h => .inr (.inr (.inl h)))).trans ((Only.setNat _ _ _).mono fun _ h => .inr (.inr (.inr h)))

/-- A flag that is set stays set at a phase jump. -/
theorem State.flag_gmuJump (s : State) (k : Clu) (th : Nat) (jump : Int) {b : Nat} (hb : b < 32) (h : s.flag (.clu k.val) b = true) :
    (s.gmuJump k.val th jump).flag (.clu k.val) b = true := by
  have hflags : (FlagSrc.clu k.val).addr < 0x60000 ∧ (FlagSrc.clu k.val).addr ≠ Reg.CLU_GMU_PJ k.val := by
    simp only [FlagSrc.addr, Reg.CLU_FLAGS, Reg.CLU_GMU_PJ]
    omega
  obtain ⟨hlow, hsize⟩ := hflags
  unfold State.gmuJump
  split
  · rw [State.flag_congr ((Only.record _ _ _ _).low_reg hlow (by simp only [FlagSrc.addr, Reg.CLU_FLAGS, Reg.REC_SYSSUPP]; omega))]
    exact State.flag_raise_mono _ _ _ _ hb ((State.flag_congr (s.reg_setNat_other _ hsize) _).trans h)
  · exact h

/-! ### What is shown -/

/-- Frequency, sequence components and angle lie beside the registers of a phase jump and of a zero crossing. -/
theorem gmuShown_apart {k : Clu} {a : Nat} (h : a = Reg.CLU_GMU_FREQ k.val ∨ a = Reg.CLU_GMU_SEQ k.val ∨ a = Reg.CLU_GMU_ANGLE k.val) :
    a < 0x60000 ∧ ¬gmuJumpRegs k.val a ∧ ¬gmuCrossingRegs k.val a := by
  refine ⟨?_, ?_, ?_⟩
  · simp only [Reg.CLU_GMU_FREQ, Reg.CLU_GMU_SEQ, Reg.CLU_GMU_ANGLE] at h
    omega
  · rintro (hjump | hjump | hjump)
    · simp only [Reg.CLU_GMU_FREQ, Reg.CLU_GMU_SEQ, Reg.CLU_GMU_ANGLE, Reg.CLU_GMU_PJ] at h hjump
      omega
    · have := clu_owns hjump
      simp only [Reg.CLU_GMU_FREQ, Reg.CLU_GMU_SEQ, Reg.CLU_GMU_ANGLE, Reg.CLU_FLAGS, Reg.CLU_CNT0] at h this
      omega
    · simp only [Reg.CLU_GMU_FREQ, Reg.CLU_GMU_SEQ, Reg.CLU_GMU_ANGLE, Reg.REC_SYSSUPP] at h hjump
      omega
  · simp only [gmuCrossingRegs, Reg.CLU_GMU_FREQ, Reg.CLU_GMU_SEQ, Reg.CLU_GMU_ANGLE, Reg.CLU_GMU_ZC_LO, Reg.CLU_GMU_ZC_HI, Reg.CLU_GMU_ZC_PTPS,
      Reg.CLU_GMU_ZC_PTPN] at h ⊢
    omega

end stages

section updates
variable {s : State} {k : Clu} {u : GmuOut}

theorem State.rideCall_idle {k : Nat} {mags : Option (Nat × Nat × Nat)}
    (h : mags = none ∨ (s.blk k).ride = none ∨ bitOf ((s.cluster k).spActive.getD 4 0) 0 = false) : s.rideCall k mags = s := by
  unfold State.rideCall
  rcases h with h | h | h
  · rw [h]
  · rw [h]
    split
    · simp_all
    · rfl
  · split
    · exact if_neg (by rw [h]; exact Bool.false_ne_true)
    · rfl

theorem gmuShown_keeps (v : State) {a : Nat} (h : a = Reg.CLU_GMU_FREQ k.val ∨ a = Reg.CLU_GMU_SEQ k.val ∨ a = Reg.CLU_GMU_ANGLE k.val) (th : Nat)
    (jump : Int) : (v.gmuJump k.val th jump).reg a = v.reg a :=
  (v.gmuJump_frame k.val th jump).low_reg (gmuShown_apart h).1 (gmuShown_apart h).2.1

/-- The registers of a measurement whose frequency lies in range. -/
theorem gmuShown_reg (hfreq : gmuInRange u = true) :
    (s.gmuShown k.val u).reg (Reg.CLU_GMU_FREQ k.val) = BitVec.ofNat 32 u.freq ∧
      (s.gmuShown k.val u).reg (Reg.CLU_GMU_SEQ k.val) = BitVec.ofNat 32 (u.neg % 65536 * 65536 + u.pos % 65536) ∧
      (s.gmuShown k.val u).reg (Reg.CLU_GMU_ANGLE k.val) = BitVec.ofNat 32 (u.angle % 65536) := by
  have hbeside : Reg.CLU_GMU_SEQ k.val ≠ Reg.CLU_GMU_ANGLE k.val ∧ ¬gmuVectorRegs k.val (Reg.CLU_GMU_FREQ k.val) := by
    simp only [gmuVectorRegs, Reg.CLU_GMU_FREQ, Reg.CLU_GMU_ROCOF, Reg.CLU_GMU_SEQ, Reg.CLU_GMU_ANGLE]
    omega
  refine ⟨?_, ?_, ?_⟩
  · rw [State.gmuShown, gmuShown_keeps _ (.inl rfl), (State.gmuVector_frame _ _ _).low_reg (gmuShown_apart (.inl rfl)).1 hbeside.2,
      State.gmuFreq_good _ _ _ hfreq, State.reg_setNat_same]
  · rw [State.gmuShown, gmuShown_keeps _ (.inr (.inl rfl)), State.gmuVector, State.reg_setNat_other _ _ hbeside.1, State.reg_setNat_same]
  · rw [State.gmuShown, gmuShown_keeps _ (.inr (.inr rfl)), State.gmuVector, State.reg_setNat_same]

/-- The registers of a measurement but for a zero crossing. -/
theorem gmuShown_frame {p : Nat → Prop} (hfreq : Only p s (s.gmuFreq k.val u)) :
    Only (fun a => p a ∨ gmuVectorRegs k.val a ∨ gmuJumpRegs k.val a) s (s.gmuShown k.val u) :=
  ((hfreq.mono fun _ => .inl).trans ((State.gmuVector_frame _ _ _).mono fun _ h => .inr (.inl h))).trans
    ((State.gmuJump_frame _ _ _ _).mono fun _ h => .inr (.inr h))

end updates

end Sys2Proof.Machine
end

section
/-! SUPPORT. The commands of O31 on the grid measurement, and REGION_RESTART where it is refused (R154, R160, R161). -/

namespace Sys2Proof.Machine

theorem gmuInRange_eq_false {u : GmuOut} (h : u.freq < 40000 ∨ 70000 < u.freq) : gmuInRange u = false := by
  rw [gmuInRange, Bool.and_eq_false_iff]
  exact h.imp (fun h => Bool.eq_false_iff.mpr fun hle => absurd (Nat.le_of_ble_eq_true hle) (by omega)) fun h => Bool.eq_false_iff.mpr
    fun hle => absurd (Nat.le_of_ble_eq_true hle) (by omega)

/-- The frequency lies beside the flags of its cluster and their counters. -/
theorem freq_apart (k : Clu) {b : Nat} (hb : b < 8) : ¬(FlagSrc.clu k.val).owns b (Reg.CLU_GMU_FREQ k.val) = true := fun h => by
  have haddr := clu_owns h
  simp only [Reg.CLU_GMU_FREQ, Reg.CLU_FLAGS, Reg.CLU_CNT0] at haddr
  omega

/-- A measurement whose frequency is out of range sets its flag and leaves the frequency as it was. -/
theorem gmuShown_outOfRange {s : State} {k : Clu} {u : GmuOut} (h : gmuInRange u = false) :
    Only (fun a => (FlagSrc.clu k.val).owns 6 a = true ∨ gmuVectorRegs k.val a ∨ gmuJumpRegs k.val a) s (s.gmuShown k.val u) ∧
      (s.gmuShown k.val u).flag (.clu k.val) 6 = true ∧
      (s.gmuShown k.val u).reg (Reg.CLU_GMU_FREQ k.val) = s.reg (Reg.CLU_GMU_FREQ k.val) := by
  have hshown := gmuShown_frame (s := s) (k := k) (u := u) (p := fun a => (FlagSrc.clu k.val).owns 6 a = true)
    (by rw [State.gmuFreq_bad _ _ _ h]; exact Only.raise s _ _)
  have hbeside : (FlagSrc.clu k.val).addr < 0x60000 ∧ ¬gmuVectorRegs k.val (FlagSrc.clu k.val).addr ∧
      ¬gmuVectorRegs k.val (Reg.CLU_GMU_FREQ k.val) := by
    simp only [gmuVectorRegs, FlagSrc.addr, Reg.CLU_FLAGS, Reg.CLU_GMU_FREQ, Reg.CLU_GMU_ROCOF, Reg.CLU_GMU_SEQ, Reg.CLU_GMU_ANGLE]
    omega
  obtain ⟨hlow, hflags, hfreq⟩ := hbeside
  refine ⟨hshown, State.flag_gmuJump _ k _ _ (by decide) ?_, hshown.low_reg (gmuShown_apart (.inl rfl)).1 ?_⟩
  · rw [State.flag_congr ((State.gmuVector_frame _ _ _).low_reg hlow hflags), State.gmuFreq_bad _ _ _ h]
    exact s.flag_raise _ _ (by decide)
  · rintro (hown | hown | hown)
    · exact freq_apart k (by decide) hown
    · exact hfreq hown
    · exact (gmuShown_apart (.inl rfl)).2.1 hown

section updates
variable {s : State} {k : Clu} {u : GmuOut} (hrun : s.cdRun = true) (hk : k.val < s.variant.clusters) (hgfi : s.isGfi k.val = true)
  (htime : s.tb % 40000 = 0)
  (hidle : u.mags = none ∨ (s.blk k.val).ride = none ∨ bitOf ((s.cluster k.val).spActive.getD 4 0) 0 = false)
include hrun hk hgfi htime hidle

/-- An update whose measurement makes no call of RIDE. -/
theorem completes_gmuUpdate {p : Nat → Prop} {v : State} (hv : s.gmuUpdate k.val u = v) (hframe : Only p { s with gmus := v.gmus } v)
    {r : State → Prop}
    (hr : ∀ t : State, (∀ a, a < 0x60000 → t.reg a = v.reg a) → t.gmu k.val = v.gmu k.val → Only p { s with gmus := t.gmus } t → r t) :
    Completes (.gmuUpdate k u) s r := by
  have hexec : exec (.gmuUpdate k u) s = onlyIf (s.cdRun && Nat.blt k.val s.variant.clusters && s.isGfi k.val && s.tb % 40000 == 0) s
      fun s => (s.gmuUpdate k.val u).rideCall k.val u.mags := rfl
  obtain ⟨hclusters, hblks, -⟩ := hframe.records
  have hcall : v.rideCall k.val u.mags = v := State.rideCall_idle (by rwa [State.blk, State.cluster, hclusters, hblks])
  refine completes_onlyIf hexec (by simp [hrun, hk, hgfi, htime]) ?_
  rw [hv, hcall]
  refine hr _ (fun a ha => State.settle_reg_low _ ha) (by rw [State.gmu, State.settle_gmus, State.gmu]) ?_
  rw [State.settle_gmus]
  exact hframe.settle

theorem gmuUpdate_shows {z : Nat} (hlow : 40000 ≤ u.freq) (hhigh : u.freq ≤ 70000) (hzc : u.zc = some z) :
    Completes (.gmuUpdate k u) s fun t =>
      t.reg (Reg.CLU_GMU_FREQ k.val) = BitVec.ofNat 32 u.freq ∧ t.reg (Reg.CLU_GMU_SEQ k.val) = BitVec.ofNat 32 (u.neg % 65536 * 65536 + u.pos % 65536)
      ∧ t.reg (Reg.CLU_GMU_ANGLE k.val) = BitVec.ofNat 32 (u.angle % 65536) ∧ t.reg (Reg.CLU_GMU_ZC_LO k.val) = BitVec.ofNat 32 z ∧ t.gmu k.val = ⟨some
      u.angle, u.freq, z / 16⟩ ∧ Only (fun a => a ∈ [Reg.CLU_GMU_FREQ k.val, Reg.CLU_GMU_ROCOF k.val, Reg.CLU_GMU_SEQ k.val, Reg.CLU_GMU_ANGLE k.val,
      Reg.CLU_GMU_PJ k.val, Reg.CLU_GMU_ZC_LO k.val, Reg.CLU_GMU_ZC_HI k.val, Reg.CLU_GMU_ZC_PTPS k.val, Reg.CLU_GMU_ZC_PTPN k.val] ∨ (FlagSrc.clu
      k.val).owns 4 a ∨ a = Reg.REC_SYSSUPP) { s with gmus := t.gmus } t := by
  have hrange : gmuInRange u = true := by simp [gmuInRange, hlow, hhigh]
  have hframe := ((gmuShown_frame (k := k) (p := fun a => a = Reg.CLU_GMU_FREQ k.val)
    (by rw [State.gmuFreq_good _ _ _ hrange]; exact Only.setNat s _ _)).mono (fun _ => Or.inl)).trans
      (((s.gmuShown k.val u).gmuCrossing_frame k.val z).mono fun _ => Or.inr)
  obtain ⟨hfreq, hseq, hangle⟩ := gmuShown_reg (s := s) (k := k) hrange
  have hcrossing {a : Nat} (ha : a = Reg.CLU_GMU_FREQ k.val ∨ a = Reg.CLU_GMU_SEQ k.val ∨ a = Reg.CLU_GMU_ANGLE k.val) :
      ((s.gmuShown k.val u).gmuCrossing k.val z).reg a = (s.gmuShown k.val u).reg a :=
    (State.gmuCrossing_frame _ _ _).low_reg (gmuShown_apart ha).1 (gmuShown_apart ha).2.2
  have hzcReg : ((s.gmuShown k.val u).gmuCrossing k.val z).reg (Reg.CLU_GMU_ZC_LO k.val) = BitVec.ofNat 32 z := by
    have hapart : Reg.CLU_GMU_ZC_LO k.val ≠ Reg.CLU_GMU_ZC_HI k.val ∧ Reg.CLU_GMU_ZC_LO k.val ≠ Reg.CLU_GMU_ZC_PTPS k.val ∧
        Reg.CLU_GMU_ZC_LO k.val ≠ Reg.CLU_GMU_ZC_PTPN k.val := by
      simp only [Reg.CLU_GMU_ZC_LO, Reg.CLU_GMU_ZC_HI, Reg.CLU_GMU_ZC_PTPS, Reg.CLU_GMU_ZC_PTPN]
      omega
    rw [State.gmuCrossing, State.reg_setNat_other _ _ hapart.2.2, State.reg_setNat_other _ _ hapart.2.1, State.setNat64,
      State.reg_setNat_other _ _ hapart.1, State.reg_setNat_same]
  refine completes_gmuUpdate hrun hk hgfi htime hidle (s.gmuUpdate_crossing k.val u hzc) ((hframe.mono ?_).withGmus _) fun t hreg hgmu hrest =>
    ⟨?_, ?_, ?_, ?_, hgmu.trans (State.gmu_updGmu_same _ _ _), hrest⟩
  · rintro a ((rfl | hvector | rfl | hjump | rfl) | hcross)
    · exact .inl (by simp)
    · exact .inl (by rcases hvector with rfl | rfl | rfl <;> simp)
    · exact .inl (by simp)
    · exact .inr (.inl hjump)
    · exact .inr (.inr rfl)
    · exact .inl (by rcases hcross with rfl | rfl | rfl | rfl <;> simp)
  · rw [hreg _ (gmuShown_apart (.inl rfl)).1]
    exact (hcrossing (.inl rfl)).trans hfreq
  · rw [hreg _ (gmuShown_apart (.inr (.inl rfl))).1]
    exact (hcrossing (.inr (.inl rfl))).trans hseq
  · rw [hreg _ (gmuShown_apart (.inr (.inr rfl))).1]
    exact (hcrossing (.inr (.inr rfl))).trans hangle
  · rw [hreg _ (by simp only [Reg.CLU_GMU_ZC_LO]; omega)]
    exact hzcReg

theorem gmuUpdate_outOfRange (hfreq : u.freq < 40000 ∨ 70000 < u.freq) (hzc : u.zc = none) :
    Completes (.gmuUpdate k u) s fun t =>
      t.reg (Reg.CLU_GMU_FREQ k.val) = s.reg (Reg.CLU_GMU_FREQ k.val) ∧ t.flag (.clu k.val) 6 ∧ (t.gmu k.val).angle = some u.angle ∧ Only (fun a => a ∈
      [Reg.CLU_GMU_ROCOF k.val, Reg.CLU_GMU_SEQ k.val, Reg.CLU_GMU_ANGLE k.val, Reg.CLU_GMU_PJ k.val] ∨ (FlagSrc.clu k.val).owns 4 a ∨ (FlagSrc.clu
      k.val).owns 5 a ∨ (FlagSrc.clu k.val).owns 6 a ∨ a = Reg.REC_SYSSUPP) { s with gmus := t.gmus } t := by
  have hrange : gmuInRange u = false := gmuInRange_eq_false hfreq
  obtain ⟨miss, x, hupdate⟩ := s.gmuUpdate_none k.val u hzc
  obtain ⟨hframe, hflag, hreg⟩ := gmuShown_outOfRange (s := s) (k := k) hrange
  obtain ⟨w, hw, hlast, hwReg, hwFrame⟩ : ∃ w : State,
      (s.gmuShown k.val u).updGmu k.val (fun m => { angle := some u.angle, freq := u.freq, lastZc := x m }) = w ∧
      (w.gmu k.val).angle = some u.angle ∧ (∀ a, w.reg a = (s.gmuShown k.val u).reg a) ∧
      Only (fun a => (FlagSrc.clu k.val).owns 6 a = true ∨ gmuVectorRegs k.val a ∨ gmuJumpRegs k.val a) { s with gmus := w.gmus } w :=
    ⟨_, rfl, congrArg Gmu.angle (State.gmu_updGmu_same _ _ _), fun _ => rfl, hframe.withGmus _⟩
  rw [hw] at hupdate
  have hgmus : (w.raiseIf miss (.clu k.val) 5).gmus = w.gmus := by rw [State.raiseIf_rest]; rfl
  have hraise := Only.raiseIf w miss (.clu k.val) 5
  have hall := (hwFrame.mono fun _ => Or.inl).trans (hraise.mono fun _ => Or.inr)
  rw [← hgmus] at hall
  refine completes_gmuUpdate hrun hk hgfi htime hidle hupdate (hall.mono ?_) fun t ht hgmu hrest => ⟨?_, ?_, ?_, hrest⟩
  · rintro a ((hrange | hvector | rfl | hjump | rfl) | hmiss)
    · exact .inr (.inr (.inr (.inl hrange)))
    · exact .inl (by rcases hvector with rfl | rfl | rfl <;> simp)
    · exact .inl (by simp)
    · exact .inr (.inl hjump)
    · exact .inr (.inr (.inr (.inr rfl)))
    · exact .inr (.inr (.inl hmiss))
  · rw [ht _ (gmuShown_apart (.inl rfl)).1, hraise.low_reg (gmuShown_apart (.inl rfl)).1 (freq_apart k (by decide)), hwReg, hreg]
  · rw [State.flag_congr (src := .clu k.val) (ht _ (by simp only [FlagSrc.addr, Reg.CLU_FLAGS]; omega))]
    exact State.flag_raiseIf_mono _ _ _ _ _ (by decide) ((State.flag_congr (hwReg _) _).trans hflag)
  · rw [hgmu, State.gmu, hgmus]
    exact hlast

end updates

end Sys2Proof.Machine
end

section
/-! SUPPORT. A link-voltage region: a silent source where no cluster stands in the region, and REGION_RESTART where it is refused (R154). -/

namespace Sys2Proof.Machine

theorem regStat_low (g : Rgn) : Reg.CLU_REG_STAT g.val < 0x60000 ∧ Reg.CLU_REG_STAT g.val ≠ Reg.REC_SYSSUPP := by
  simp only [Reg.CLU_REG_STAT, Reg.REC_SYSSUPP]
  omega

/-! ### The reaction of a region (R154) -/

/-- The state of a region is shown and its entry recorded. -/
def State.regionShown (s : State) (g rstate : Nat) : State :=
  (if s.fld (Reg.CLU_REG_STAT g) Fld.CLU_REG_STAT_RSTATE = 0 then s.setFld (Reg.CLU_REG_STAT g) Fld.CLU_REG_STAT_RSTATE rstate else s).record
    (Reg.CLU_REG_STAT g) rstate [g]

/-- A region stops a cluster that stands in it and is not a DC link. -/
def State.regionStops (s : State) (g k : Nat) : Bool := s.ctype k != 0 && s.ctype k != tyDLC && s.regionOf k == g

/-- The stop of one cluster by its region. -/
def State.regionStop (s : State) (k : Nat) : State :=
  if s.cstate k = csSAFE_STOPPED || s.cstate k = csFENCED then s.safeStop k scREGION
  else (s.safeStop k scREGION).updCluster k fun c => { c with byRegion := true }

/-- The region's source is lost. -/
def State.regionLost (s : State) (g : Nat) : State := s.updRegion g fun r => { r with lost := true, insideAt := none }

theorem State.regionReaction_eq (s : State) (g rstate : Nat) : s.regionReaction g rstate =
    (s.regionShown g rstate).each ((s.regionShown g rstate).clus.filter ((s.regionShown g rstate).regionStops g)) State.regionStop := rfl

theorem State.regionShown_frame (s : State) (g rstate : Nat) :
    Only (fun a => a = Reg.CLU_REG_STAT g ∨ a = Reg.REC_SYSSUPP) s (s.regionShown g rstate) := by
  unfold State.regionShown
  split
  · exact ((Only.setFld s _ _ _).mono fun _ => .inl).trans ((Only.record _ _ _ _).mono fun _ => .inr)
  · exact (Only.record s _ _ _).mono fun _ => .inr

/-- A region in which no cluster stands has none to stop. -/
theorem State.regionReaction_empty (s : State) (g : Rgn) (rstate : Nat) (hempty : ∀ k ∈ s.clus, s.ctype k = 0 ∨ s.regionOf k ≠ g.val) :
    s.regionReaction g.val rstate = s.regionShown g.val rstate := by
  have hframe := s.regionShown_frame g.val rstate
  have hclus : (s.regionShown g.val rstate).clus = s.clus := by rw [hframe.2]; rfl
  have hnone : s.clus.filter ((s.regionShown g.val rstate).regionStops g.val) = [] := by
    refine List.filter_eq_nil_iff.mpr fun k hk => ?_
    have hcfg : (s.regionShown g.val rstate).reg (Reg.CLU_CFG k) = s.reg (Reg.CLU_CFG k) := by
      have := s.mem_clus hk
      refine hframe.low_reg ?_ ?_ <;> simp only [Reg.CLU_CFG, Reg.CLU_REG_STAT, Reg.REC_SYSSUPP] <;> omega
    rw [State.regionStops, State.ctype, State.regionOf, State.fld_congr hcfg, State.fld_congr hcfg]
    rcases hempty k hk with h | h <;> simp only [State.ctype, State.regionOf] at h <;> simp [h]
  rw [State.regionReaction_eq, hclus, hnone, State.each_nil]

section commands
variable {s : State} (g : Rgn) (hrun : s.cdRun = true) (hg : g.val < s.variant.regions)
include hrun hg

theorem completes_regionMeasTimeout {p : State → Prop} (hon : s.regionOn g.val = true) (hlost : (s.region g.val).lost = false)
    (hsince : s.since (s.region g.val).sampleAt 4000 = true)
    (hp : p ((s.regionLost g.val).regionReaction g.val 3).settle) :
    Completes (.regionMeasTimeout g) s p := by
  have hexec : exec (.regionMeasTimeout g) s = onlyIf (s.cdRun && Nat.blt g.val s.variant.regions && s.regionOn g.val &&
      !(s.region g.val).lost && s.since (s.region g.val).sampleAt 4000) s
      fun s => (s.regionLost g.val).regionReaction g.val 3 := rfl
  exact completes_onlyIf hexec (by simp [hrun, hg, hon, hlost, hsince]) hp

theorem regionMeasTimeout_alone (hopen : s.fld (Reg.CLU_REG_STAT g.val) Fld.CLU_REG_STAT_RSTATE = 0) (hlost : (s.region g.val).lost = false)
    (hsince : s.since (s.region g.val).sampleAt 4000 = true) (hempty : ∀ k ∈ s.clus, s.ctype k = 0 ∨ s.regionOf k ≠ g.val) :
    Completes (.regionMeasTimeout g) s fun t =>
      t.fld (Reg.CLU_REG_STAT g.val) Fld.CLU_REG_STAT_RSTATE = 3 ∧ (t.region g.val).lost ∧ (t.region g.val).insideAt = none ∧ Only (fun a => a =
      Reg.CLU_REG_STAT g.val ∨ a = Reg.REC_SYSSUPP) { s with regions := t.regions } t := by
  have hon : s.regionOn g.val = true := by rw [State.regionOn, hopen]; rfl
  have hshown : (s.regionLost g.val).regionReaction g.val 3 = (s.regionLost g.val).regionShown g.val 3 := State.regionReaction_empty _ g 3 hempty
  have hopen' : (s.regionLost g.val).fld (Reg.CLU_REG_STAT g.val) Fld.CLU_REG_STAT_RSTATE = 0 := hopen
  have hframe := (s.regionLost g.val).regionShown_frame g.val 3
  have hregions : ((s.regionLost g.val).regionShown g.val 3).regions = (s.regionLost g.val).regions := by rw [hframe.2]; rfl
  have hregion : ((s.regionLost g.val).regionShown g.val 3).settle.region g.val = { s.region g.val with lost := true, insideAt := none } := by
    rw [State.region, State.settle_regions, hregions]
    exact s.region_updRegion_same _ _
  refine completes_regionMeasTimeout g hrun hg hon hlost hsince ?_
  rw [hshown, hregion, State.settle_regions, hregions]
  refine ⟨?_, rfl, rfl, Only.settle hframe⟩
  rw [State.settle_fld_low _ _ (regStat_low g).1, State.regionShown, if_pos hopen',
    State.fld_congr ((Only.record _ _ _ _).low_reg (regStat_low g).1 (regStat_low g).2), State.fld_setFld_same _ _ _ _ (by decide)]
  rfl

theorem completes_regionRestart {p : State → Prop} (hp : p (s.cmdRegionRestart g.val).settle) : Completes (.regionRestart g) s p := by
  have hexec : exec (.regionRestart g) s = atReg (Reg.CLU_REG_CMD g.val) (Nat.blt g.val s.variant.regions) s.cdRun s
      fun s => s.cmdRegionRestart g.val := rfl
  exact completes_atReg hexec (by simpa using hg) hrun hp

theorem regionRestart_refused (hbarred : s.regionOn g.val = false ∨ s.regionSwitching g.val = true ∨ (s.region g.val).insideAt = none) :
    Completes (.regionRestart g) s fun t =>
      t.fld (Reg.CLU_REG_STAT g.val) Fld.CLU_REG_STAT_CMDRES = rcCOND ∧ Only (fun a => a = Reg.CLU_REG_STAT g.val) s t := by
  have hcmd : s.cmdRegionRestart g.val = s.setFld (Reg.CLU_REG_STAT g.val) Fld.CLU_REG_STAT_CMDRES rcCOND := by
    rw [State.cmdRegionRestart]
    rcases hbarred with h | h | h <;> simp [h]
  refine completes_regionRestart g hrun hg ?_
  rw [hcmd]
  refine ⟨?_, (Only.setFld _ _ _ _).settle⟩
  rw [State.settle_fld_low _ _ (regStat_low g).1, State.fld_setFld_same _ _ _ _ (by decide)]
  rfl

end commands

end Sys2Proof.Machine
end

section
/-!
SUPPORT. What the starts and stops of clusters and slots write among the registers of the slots, the driver dies, the clusters and the regions, and
what they leave alone (R100, R101, R150–R154, R201, R426).
-/

namespace Sys2Proof.Machine

/-- The registers of the slots, the driver dies, the clusters and the regions. -/
def plantReg (a : Nat) : Prop := 0x10000 ≤ a ∧ a < 0x28000

/-- From `s` to `t` the plant moves in the registers of `own` alone: the variant and the regions stay as they were, and no cluster comes to be
paused, or marked as stopped by its region. -/
structure Moves (own : Nat → Prop) (s t : State) : Prop where
  reg : ∀ a, plantReg a → ¬own a → t.reg a = s.reg a
  variant : t.variant = s.variant
  regions : t.regions = s.regions
  calm : ∀ k, (s.cluster k).pausing = false → (t.cluster k).pausing = false
  unmarked : ∀ k, (s.cluster k).byRegion = false → (t.cluster k).byRegion = false

section relation
variable {own p : Nat → Prop} {s t u : State}

theorem Moves.refl (s : State) : Moves own s s := ⟨fun _ _ _ => rfl, rfl, rfl, fun _ h => h, fun _ h => h⟩

theorem Moves.trans (h1 : Moves own s t) (h2 : Moves own t u) : Moves own s u :=
  ⟨fun a hp ha => (h2.reg a hp ha).trans (h1.reg a hp ha), h2.variant.trans h1.variant, h2.regions.trans h1.regions,
    fun k h => h2.calm k (h1.calm k h), fun k h => h2.unmarked k (h1.unmarked k h)⟩

theorem Moves.mono (h : Moves own s t) (hp : ∀ a, own a → p a) : Moves p s t :=
  ⟨fun a hplant ha => h.reg a hplant fun ho => ha (hp a ho), h.variant, h.regions, h.calm, h.unmarked⟩

theorem Moves.ite {c : Prop} [Decidable c] (ht : Moves own s t) (hu : Moves own s u) : Moves own s (if c then t else u) := by
  split
  · exact ht
  · exact hu

theorem Moves.each {α : Type} {l : List α} {f : State → α → State} (h : ∀ u x, x ∈ l → Moves own u (f u x)) : Moves own s (s.each l f) :=
  s.each_rel (Moves own) .refl .trans f l h

/-- What changes neither registers nor clusters nor regions. -/
theorem Moves.of_same (hregs : t.regs = s.regs) (hvariant : t.variant = s.variant) (hregions : t.regions = s.regions)
    (hclusters : t.clusters = s.clusters) : Moves own s t where
  reg a _ _ := by rw [State.reg, State.reg, hregs, hvariant]
  variant := hvariant
  regions := hregions
  calm k h := by rwa [State.cluster, hclusters]
  unmarked k h := by rwa [State.cluster, hclusters]

theorem Moves.of_core (h : t.core = s.core) : Moves own s t where
  reg a hp _ := by
    have hhost : periph a = false := by
      refine Bool.eq_false_iff.mpr fun hhost => ?_
      simp only [plantReg, periph, Bool.or_eq_true, Bool.and_eq_true, Nat.ble_eq, Nat.blt_eq] at hp hhost
      omega
    have hr := congrFun (congrArg Prod.snd h) a
    simpa [State.core, hhost] using hr
  variant := congrArg (·.1.variant) h
  regions := congrArg (·.1.regions) h
  calm k hk := (congrArg (fun c : State × (Nat → Word) => (c.1.cluster k).pausing) h).trans hk
  unmarked k hk := (congrArg (fun c : State × (Nat → Word) => (c.1.cluster k).byRegion) h).trans hk

theorem Moves.setReg (s : State) {a : Nat} (v : Word) (h : own a ∨ ¬plantReg a) : Moves own s (s.setReg a v) :=
  ⟨fun _ hp ho => s.reg_setReg_other v (by rintro rfl; exact h.elim ho fun hn => hn hp), rfl, rfl, fun _ hk => hk, fun _ hk => hk⟩
theorem Moves.setFld (s : State) {a : Nat} (f : Field) (v : Nat) (h : own a ∨ ¬plantReg a) : Moves own s (s.setFld a f v) := .setReg s _ h
theorem Moves.setBit (s : State) {a : Nat} (f : Field) (v : Bool) (h : own a ∨ ¬plantReg a) : Moves own s (s.setBit a f v) := .setReg s _ h
theorem Moves.setNat (s : State) {a : Nat} (v : Nat) (h : own a ∨ ¬plantReg a) : Moves own s (s.setNat a v) := .setReg s _ h

theorem Moves.updCluster (s : State) (k : Nat) {f : Cluster → Cluster} (hpause : ∀ c, c.pausing = false → (f c).pausing = false)
    (hmark : ∀ c, c.byRegion = false → (f c).byRegion = false) : Moves own s (s.updCluster k f) := by
  refine ⟨fun _ _ _ => rfl, rfl, rfl, fun j hj => ?_, fun j hj => ?_⟩ <;> by_cases h : j = k
  · subst h
    rw [State.cluster_updCluster_same]
    exact hpause _ hj
  · rwa [State.cluster_updCluster_other _ _ h]
  · subst h
    rw [State.cluster_updCluster_same]
    exact hmark _ hj
  · rwa [State.cluster_updCluster_other _ _ h]

theorem Moves.asOne {src : FlagSrc} {b : Nat} {f : State → State} (hsrc : ∀ a lo, src.counter b = some (a, lo) → ¬plantReg a) (h : Moves own s (f s)) :
    Moves own s (s.asOne src b f) := by
  unfold State.asOne
  simp only
  split
  · rename_i hc
    exact h.trans (.setFld _ _ _ (.inr (hsrc _ _ hc)))
  · exact h

theorem Moves.raiseMask (s : State) {src : FlagSrc} (m : Nat) (haddr : own src.addr ∨ ¬plantReg src.addr)
    (hcnt : ∀ b a lo, b < 32 → src.counter b = some (a, lo) → own a ∨ ¬plantReg a) : Moves own s (s.raiseMask src m) where
  reg a hp ho := s.raiseMask_reg src m (by rintro rfl; exact haddr.elim ho fun hn => hn hp) fun b hb _ x lo hc => by
    rintro rfl
    exact (hcnt b a lo hb hc).elim ho fun hn => hn hp
  variant := by rw [State.raiseMask_rest]; rfl
  regions := by rw [State.raiseMask_rest]; rfl
  calm k h := by
    rw [State.raiseMask_rest]
    exact h
  unmarked k h := by
    rw [State.raiseMask_rest]
    exact h

end relation

/-! ### Transactions (R426) -/

section transactions
variable {own : Nat → Prop} (s : State)

theorem ctu_apart : ¬plantReg FlagSrc.ctu.addr ∧ ∀ b a lo, b < 32 → FlagSrc.ctu.counter b = some (a, lo) → ¬plantReg a := by
  refine ⟨by simp [plantReg, FlagSrc.addr, Reg.CTU_FLAGS], fun b a lo hb h => ?_⟩
  rw [← (Prod.mk.inj (Option.some.inj h)).1]
  simp only [plantReg, FlagSrc.cnt0, Reg.CTU_CNT0]
  omega

theorem State.moves_commitResult (t : Nat) (ok : Bool) (why off tc : Nat) : Moves own s (s.commitResult t ok why off tc) := by
  have hres : ¬plantReg Reg.CTU_RES := by simp [plantReg, Reg.CTU_RES]
  unfold State.commitResult
  split
  · split
    · exact .ite (.of_core (by simp)) (.of_core (by simp))
    · exact .refl s
  · exact .ite ((Moves.setFld s _ _ (.inr hres)).trans (.setFld _ _ _ (.inr hres))) (.refl s)

theorem State.moves_failPending {t : Nat} (why off : Nat) (h : t < 4) : Moves own s (s.failPending t why off) := by
  have hslot : ¬plantReg (Reg.CTU_T_STAT t) ∧ ¬plantReg (Reg.CTU_T_ERR t) := by
    simp only [plantReg, Reg.CTU_T_STAT, Reg.CTU_T_ERR]
    omega
  have hfree (u : State) : Moves own u (u.freeTxn t) := (Moves.setReg u 0 (.inr hslot.1)).trans (.of_same rfl rfl rfl rfl)
  exact (((Moves.setNat s _ (.inr hslot.2)).trans (State.moves_commitResult _ _ _ _ _ _)).trans (hfree _)).trans
    (.raiseMask _ _ (.inr ctu_apart.1) fun b a lo hb hc => .inr (ctu_apart.2 b a lo hb hc))

theorem State.moves_conflictIf (p : Nat → Bool) : Moves own s (s.conflictIf p) := by
  refine .asOne (fun a lo => ctu_apart.2 3 a lo (by omega)) (.asOne (fun a lo => ctu_apart.2 1 a lo (by omega)) (.each fun u t ht => ?_))
  refine .ite ?_ (.refl u)
  split
  · exact u.moves_failPending _ _ (List.mem_range.1 ht)
  · exact .refl u

end transactions

/-! ### The states of clusters, slots and the device (R65, R100, R150) -/

/-- The registers in which the states of the slots and clusters stand. -/
def stateRegs (a : Nat) : Prop := (0x10000 ≤ a ∧ a < 0x16000 ∧ a % 0x400 = 0x100) ∨ (0x20000 ≤ a ∧ a < 0x26000 ∧ a % 0x800 = 0x14)

theorem stateRegs_clu {k : Nat} (h : k < 12) : stateRegs (Reg.CLU_STAT k) := by
  simp only [stateRegs, Reg.CLU_STAT]
  omega

theorem stateRegs_edg {n : Nat} (h : n < 24) : stateRegs (Reg.EDG_STAT n) := by
  simp only [stateRegs, Reg.EDG_STAT]
  omega

section states
variable {own : Nat → Prop} (s : State) {n k : Nat}

theorem State.moves_setCState (v : Nat) (h : own (Reg.CLU_STAT k)) : Moves own s (s.setCState k v) :=
  .ite (.refl s) ((Moves.setFld s _ _ (.inl h)).trans (State.moves_conflictIf _ _))

theorem State.moves_cluFollow (h : own (Reg.CLU_STAT k)) : Moves own s (s.cluFollow k) := by
  have hcount (v : Nat) : Moves own s (s.setFld (Reg.CLU_STAT k) Fld.CLU_STAT_NSW v) := .setFld s _ _ (.inl h)
  have hpause (u : State) : Moves own u (u.updCluster k fun c => { c with pausing := false }) := .updCluster u k (fun _ _ => rfl) fun _ h => h
  unfold State.cluFollow
  exact .ite ((hcount _).trans (State.moves_setCState _ _ h)) (.ite ((hcount _).trans (State.moves_setCState _ _ h))
    (.ite (((hcount _).trans (hpause _)).trans (State.moves_setCState _ _ h)) (hcount _)))

theorem State.moves_enter (v : Nat) : Moves own s (s.enter v) := by
  have hdev : ¬plantReg Reg.GLB_DEVSTATE := by simp [plantReg, Reg.GLB_DEVSTATE]
  exact .ite (.refl s) ((((Moves.setFld s _ _ (.inr hdev)).trans (.setBit _ _ _ (.inr hdev))).trans (State.moves_conflictIf _ _)).trans
    (.of_core (State.core_unitsFollow _)))

theorem State.moves_runFollow : Moves own s s.runFollow := .ite (s.moves_enter _) (.ite (s.moves_enter _) (.refl s))

/-- The state of a slot shown, and nothing that follows it. -/
def State.showSState (s : State) (n v : Nat) : State :=
  let s := s.setFld (Reg.EDG_STAT n) Fld.EDG_STAT_SSTATE v
  if v = 2 then s
  else ((s.setBit (Reg.EDG_STAT n) Fld.EDG_STAT_HS_ON false).setBit (Reg.EDG_STAT n) Fld.EDG_STAT_LS_ON false).setBit (Reg.EDG_STAT n)
    Fld.EDG_STAT_LOOP_ACTIVE false

theorem State.setSState_cases (n v : Nat) : s.setSState n v = s ∨ s.setSState n v = (s.showSState n v).runFollow ∨
    ∃ j, (s.showSState n v).clusterOf n = some j ∧ s.setSState n v = ((s.showSState n v).cluFollow j).runFollow := by
  unfold State.setSState
  split
  · exact .inl rfl
  · dsimp only
    split
    · rename_i j hj
      exact .inr (.inr ⟨j, hj, rfl⟩)
    · exact .inr (.inl rfl)

theorem State.moves_showSState (v : Nat) (h : own (Reg.EDG_STAT n)) : Moves own s (s.showSState n v) := by
  have hbit (u : State) (f : Field) : Moves own u (u.setBit (Reg.EDG_STAT n) f false) := .setBit u f false (.inl h)
  have hshown : Moves own s (s.setFld (Reg.EDG_STAT n) Fld.EDG_STAT_SSTATE v) := .setFld s _ _ (.inl h)
  exact .ite hshown (((hshown.trans (hbit _ _)).trans (hbit _ _)).trans (hbit _ _))

theorem State.moves_setSState (v : Nat) (h : n < 24) : Moves stateRegs s (s.setSState n v) := by
  have hshown := s.moves_showSState v (stateRegs_edg h)
  rcases s.setSState_cases n v with hsame | hnone | ⟨j, hj, hfollow⟩
  · rw [hsame]
    exact .refl s
  · rw [hnone]
    exact hshown.trans (State.moves_runFollow _)
  · rw [hfollow]
    exact (hshown.trans (State.moves_cluFollow _ (stateRegs_clu (State.clusterOf_lt _ hj)))).trans (State.moves_runFollow _)

/-! ### Starts and stops of slots (R88–R90, R101) -/

/-- The registers that starts and stops write beside those of the states: the phases, the sweep reference and the current limit of a cluster, its anchor,
and the angles and references of its slots. -/
def sideRegs (a : Nat) : Prop :=
  (0x20000 ≤ a ∧ a < 0x26000 ∧ (a % 0x800 = 0x14C ∨ a % 0x800 = 8 ∨ a % 0x800 = 0xC ∨ a % 0x800 = 0x164 ∨ a % 0x800 = 0x20C)) ∨
    (0x10000 ≤ a ∧ a < 0x16000 ∧ (a % 0x400 = 8 ∨ a % 0x400 = 0x28))

theorem sideRegs_clu {k : Nat} (h : k < 12) : sideRegs (Reg.CLU_DC_STAT k) ∧ sideRegs (Reg.CLU_ANCHOR_LO k) ∧ sideRegs (Reg.CLU_ANCHOR_HI k) ∧
    sideRegs (Reg.CLU_DC_ILIM_EFF k) ∧ sideRegs (Reg.CLU_PV_VREF k) := by
  simp only [sideRegs, Reg.CLU_DC_STAT, Reg.CLU_ANCHOR_LO, Reg.CLU_ANCHOR_HI, Reg.CLU_DC_ILIM_EFF, Reg.CLU_PV_VREF]
  omega

theorem sideRegs_edg {n : Nat} (h : n < 24) : sideRegs (Reg.EDG_PHASE n) ∧ sideRegs (Reg.EDG_REF n) := by
  simp only [sideRegs, Reg.EDG_PHASE, Reg.EDG_REF]
  omega

theorem State.moves_writeMap (k : Nat) : Moves sideRegs s (s.writeMap k) := by
  refine .each fun u p _ => .ite (.refl u) ?_
  split
  · rename_i n hn
    exact .setNat u _ (.inl (sideRegs_edg (u.mem_slotsOf (List.mem_of_getElem? hn))).1)
  · exact .refl u

theorem State.moves_newCarrier (n z : Nat) : Moves sideRegs s (s.newCarrier n z) := by
  unfold State.newCarrier
  split
  · rename_i k _ hk
    obtain ⟨-, hlo, hhi, -⟩ := sideRegs_clu (s.clusterOf_lt hk)
    have hedge : Moves sideRegs s (s.updEdge n fun e => { e with carrierOld := none }) := .of_same rfl rfl rfl rfl
    refine .ite (.trans ?_ (State.moves_writeMap _ _)) (.refl s)
    exact .ite hedge ((hedge.trans (.setNat _ _ (.inl hlo))).trans (.setNat _ _ (.inl hhi)))
  · exact .of_same rfl rfl rfl rfl

theorem State.moves_endDischarges (n : Nat) : Moves sideRegs s (s.endDischarges n) := by
  unfold State.endDischarges
  split
  · exact .each fun u j hj => .setBit u _ _ (.inl (sideRegs_clu (s.mem_clus (List.mem_of_mem_filter hj))).1)
  · exact .refl s

/-- What the start of a slot does before its state changes. -/
def State.startPrelude (s : State) (n : Nat) (resume : Bool) : State :=
  let s := (s.endDischarges n).newCarrier n s.tbFine
  let w := s.carrier n
  let z := gridBefore (s.origin n) (tswOf w) s.tbFine
  let s := s.updEdge n fun e =>
    { e with startFrom := s.tb, resume, stopTo := none, perStart := z, prevStart := z - tswOf w, perDelta := 0,
             peakNext := isTriangle w && Nat.blt s.tbFine (z + ptOf w) }
  s.updDrv n fun d => { d with diagAbort := d.diagAt.isSome }

theorem State.orderStart_eq (n : Nat) (resume : Bool) : s.orderStart n resume = (s.startPrelude n resume).setSState n 1 := rfl

theorem State.moves_startPrelude (n : Nat) (resume : Bool) : Moves sideRegs s (s.startPrelude n resume) :=
  ((s.moves_endDischarges n).trans (State.moves_newCarrier _ n _)).trans (.of_same rfl rfl rfl rfl)

theorem State.moves_orderStop (v : Nat) (h : n < 24) : Moves stateRegs s (s.orderStop n v) :=
  .ite (.of_same rfl rfl rfl rfl) (.ite (s.moves_setSState v h) (.refl s))

end states

/-! ### What a start makes afresh and a stop ends (R152, R184, R188, R201, R212) -/

section clusters
variable {own : Nat → Prop} (s : State) {k : Nat} (h : k < 12)

theorem chg_apart (k : Nat) : ¬plantReg (Reg.CHG_STAT k) ∧ ¬plantReg (Reg.CHG_IREF k) ∧ ¬plantReg (FlagSrc.chg k).addr ∧
    ∀ b a lo, b < 32 → (FlagSrc.chg k).counter b = some (a, lo) → ¬plantReg a := by
  refine ⟨?_, ?_, ?_, fun b a lo _ h => ?_⟩
  case refine_4 =>
    rw [← (Prod.mk.inj (Option.some.inj h)).1]
    simp only [plantReg, FlagSrc.cnt0, Reg.CHG_CNT0]
    omega
  all_goals
    simp only [plantReg, FlagSrc.addr, Reg.CHG_STAT, Reg.CHG_IREF, Reg.CHG_FLAGS]
    omega

theorem State.moves_endCharge (k : Nat) (l : List Nat) : Moves sideRegs s (s.endCharge k l) := by
  obtain ⟨hstat, hiref, hflags, hcnt⟩ := chg_apart k
  have hstatus (u : State) (f : Field) (v : Nat) : Moves sideRegs u (u.setFld (Reg.CHG_STAT k) f v) := .setFld u f v (.inr hstat)
  have hrecord (u : State) (f : Chg → Chg) : Moves sideRegs u (u.updChg k f) := .of_same rfl rfl rfl rfl
  have hcurrent (u : State) : Moves sideRegs u (u.setFld (Reg.CHG_IREF k) Fld.CHG_IREF_I_REF 0) := .setFld u _ _ (.inr hiref)
  have hrefs (u : State) : Moves sideRegs u (u.each (u.slotsOf k) fun u n => u.setFld (Reg.EDG_REF n) Fld.EDG_REF_IREF 0) :=
    .each fun v n hn => .setFld v _ _ (.inl (sideRegs_edg (u.mem_slotsOf hn)).2)
  have hflagged (u : State) (m : Nat) : Moves sideRegs u (u.raiseMask (.chg k) m) :=
    .raiseMask u m (.inr hflags) fun b a lo hb hc => .inr (hcnt b a lo hb hc)
  have hnotice (u : State) (src bits : Nat) (m : List Nat) (who block code st : Nat) :
      Moves sideRegs u ((u.record src bits m).device who block code st) := .of_core (by simp)
  unfold State.endCharge
  refine .ite (.refl s) (.trans ?_ (hnotice _ _ _ _ _ _ _ _))
  exact (((((hstatus s _ _).trans (hstatus _ _ _)).trans (hstatus _ _ _)).trans ((hrecord _ _).trans (hcurrent _))).trans (hrefs _)).trans
    (hflagged _ _)

include h

theorem State.moves_endSweep : Moves sideRegs s (s.endSweep k) := by
  obtain ⟨hstat, -, -, -, hvref⟩ := sideRegs_clu h
  unfold State.endSweep
  split
  · exact ((Moves.setNat s _ (.inl hvref)).trans (.setBit _ _ _ (.inl hstat))).trans (.of_same rfl rfl rfl rfl)
  · exact .refl s

theorem State.moves_dropSweep : Moves sideRegs s (s.dropSweep k) := by
  unfold State.dropSweep
  split
  · exact (s.moves_endSweep h).trans (.of_same rfl rfl rfl rfl)
  · exact .refl s

theorem State.moves_withdraw : Moves sideRegs s (s.withdraw k) :=
  (Moves.setBit s _ _ (.inl (sideRegs_clu h).1)).trans (.of_same rfl rfl rfl rfl)

theorem State.moves_cancelRetry : Moves sideRegs s (s.cancelRetry k) :=
  (Moves.setBit s _ _ (.inl (sideRegs_clu h).1)).trans (.of_same rfl rfl rfl rfl)

theorem State.moves_leaveRun (why : Nat) : Moves sideRegs s (s.leaveRun k why) := by
  have hstatus (u : State) (f : Field) (v : Nat) : Moves sideRegs u (u.setFld (Reg.CLU_DC_STAT k) f v) := .setFld u f v (.inl (sideRegs_clu h).1)
  have hrecord (u : State) (f : Dc → Dc) : Moves sideRegs u (u.updDc k f) := .of_same rfl rfl rfl rfl
  have hends := ((s.moves_withdraw h).trans (State.moves_endSweep _ h)).trans (State.moves_endCharge _ k [why])
  unfold State.leaveRun
  exact .ite (.refl s) (((hends.trans (hstatus _ _ _)).trans (hstatus _ _ _)).trans (hrecord _ _))

theorem State.moves_showIlim : Moves sideRegs s (s.showIlim k) := .ite (.setFld s _ _ (.inl (sideRegs_clu h).2.2.2.1)) (.refl s)

theorem State.moves_freshPhases : Moves sideRegs s (s.freshPhases k) := by
  have hstatus (u : State) (f : Field) (v : Nat) : Moves sideRegs u (u.setFld (Reg.CLU_DC_STAT k) f v) := .setFld u f v (.inl (sideRegs_clu h).1)
  have hrecord (u : State) (f : Dc → Dc) : Moves sideRegs u (u.updDc k f) := .of_same rfl rfl rfl rfl
  have hcause (u : State) (x : Option Nat) :
      Moves sideRegs u (u.updCluster k fun c => { c with derPhase := false, derAt := if c.derPhase then x else c.derAt }) :=
    .updCluster u k (fun _ hc => hc) fun _ hc => hc
  have hderate (u : State) : Moves sideRegs u (u.deratePhase k false) := by
    unfold State.deratePhase
    simp only [Bool.false_or, Bool.false_eq_true, if_false]
    exact .ite (.refl u) (hcause u _)
  have hactive (u : State) (m : Nat) : Moves sideRegs u (u.setActive k m) :=
    ((hstatus u _ _).trans (hstatus _ _ _)).trans (State.moves_writeMap _ k)
  unfold State.freshPhases
  exact (((((hstatus s _ _).trans (hactive _ _)).trans (hderate _)).trans (hrecord _ _)).trans (hstatus _ _ _)).trans (State.moves_showIlim _ h)

end clusters

end Sys2Proof.Machine
end

section
/-! SUPPORT. Holds, RESTART's release of them and the cluster safe stop as moves of the plant (R138, R151, R152, R154). -/

namespace Sys2Proof.Machine

/-- The registers of the slot and cluster states and of the driver dies. -/
def holdRegs (a : Nat) : Prop := stateRegs a ∨ (0x18000 ≤ a ∧ a < 0x1B000)

section holds
variable (s : State) {n : Nat} (h : n < 24)
include h

theorem holdRegs_gdv : holdRegs (Reg.GDV_STAT n) := by
  simp only [holdRegs, Reg.GDV_STAT]
  omega

theorem State.moves_setHold (f : Field) (on : Bool) : Moves holdRegs s (s.setHold n f on) := by
  have hstate (u : State) (v : Nat) : Moves holdRegs u (u.setSState n v) := (u.moves_setSState v h).mono fun _ => .inl
  refine (Moves.setBit s f on (.inl (holdRegs_gdv h))).trans ?_
  exact .ite (.refl _) (.ite (hstate _ _) (.ite (hstate _ _) (.ite (hstate _ _) (.refl _))))

theorem State.moves_softOff : Moves holdRegs s (s.softOff n) := by
  have hedge (u : State) (f : Edge → Edge) : Moves holdRegs u (u.updEdge n f) := .of_same rfl rfl rfl rfl
  have hgate (u : State) (d : Side) (f : Gate → Gate) : Moves holdRegs u (u.updGate n d f) := by
    cases d <;> exact .of_same rfl rfl rfl rfl
  have hdrv (u : State) (f : Drv → Drv) : Moves holdRegs u (u.updDrv n f) := .of_same rfl rfl rfl rfl
  have hstat (u : State) (f : Field) (on : Bool) : Moves holdRegs u (u.setBit (Reg.GDV_STAT n) f on) := .setBit u f on (.inl (holdRegs_gdv h))
  unfold State.softOff
  exact .ite (hedge s _) (.ite ((((hedge s _).trans (hgate _ _ _)).trans (hgate _ _ _)).trans ((hdrv _ _).trans (hstat _ _ _))) (hedge s _))

end holds

section clusters
variable (s : State) {k : Nat} (h : k < 12)
include h

theorem State.moves_clearOrders : Moves holdRegs s (s.clearOrders k) := by
  have hrelease : Moves holdRegs s (s.each (s.slotsOf k) fun u n => u.setHold n Fld.GDV_STAT_H_ORDER false) :=
    .each fun u n hn => u.moves_setHold (s.mem_slotsOf hn) _ _
  have hmark (u : State) : Moves holdRegs u (u.updCluster k fun c => { c with byRegion := false }) := .updCluster u k (fun _ hc => hc) fun _ _ => rfl
  exact (hrelease.trans (hmark _)).trans (State.moves_setCState _ _ (.inl (stateRegs_clu h)))

/-- A safe stop, whatever registers it writes. -/
theorem State.moves_safeStop (cause : Nat) : Moves (fun _ => True) s (s.safeStop k cause) := by
  have hany {own : Nat → Prop} {u v : State} (hm : Moves own u v) : Moves (fun _ => True) u v := hm.mono fun _ _ => trivial
  have hentry (u : State) : Moves (fun _ => True) u (u.record (Reg.CLU_STAT k) 1 [cause]) := .of_core (by simp)
  have hmark (u : State) : Moves (fun _ => True) u (u.updCluster k fun c => { c with pausing := false, byRegion := false, byShare := false }) :=
    .updCluster u k (fun _ _ => rfl) fun _ _ => rfl
  have hcause (u : State) (v : Nat) : Moves (fun _ => True) u (u.setFld (Reg.CLU_STAT k) Fld.CLU_STAT_CAUSE v) := .setFld u _ _ (.inl trivial)
  have horders (u : State) : Moves (fun _ => True) u (u.orderSlots k) :=
    .each fun v n hn => hany ((v.moves_softOff (u.mem_slotsOf hn)).trans (State.moves_setHold _ (u.mem_slotsOf hn) _ _))
  have hflag (u : State) : Moves (fun _ => True) u (u.raise (.clu k) 0) := .raiseMask u _ (.inl trivial) fun _ _ _ _ _ => .inl trivial
  have hretry (u : State) : Moves (fun _ => True) u
      (if cause = scREGION || cause = scPACKAGE || cause = scFENCE then u.cancelRetry k else u) := .ite (hany (u.moves_cancelRetry h)) (.refl u)
  unfold State.safeStop State.stopCluster
  refine .ite ((hentry s).trans (hretry _)) ?_
  exact (((((hentry s).trans (hretry _)).trans (hany (State.moves_leaveRun _ h _))).trans ((hmark _).trans (State.moves_setCState _ _ trivial))).trans
    (hcause _ _)).trans ((horders _).trans (hflag _))

end clusters

/-- The reaction of a region leaves the records of the regions alone. -/
theorem State.regionReaction_regions (s : State) (g rstate : Nat) : (s.regionReaction g rstate).regions = s.regions := by
  have hstop (u : State) (k : Nat) (hk : k < 12) : (u.regionStop k).regions = u.regions := by
    unfold State.regionStop
    split
    · exact (u.moves_safeStop hk _).regions
    · exact (u.moves_safeStop hk _).regions
  have hshown : (s.regionShown g rstate).regions = s.regions := by rw [(s.regionShown_frame g rstate).2]; rfl
  rw [State.regionReaction_eq]
  exact (State.each_same _ State.regions _ _ fun u k hk => hstop u k (State.mem_clus _ (List.mem_of_mem_filter hk))).trans hshown

/-- A cluster that its region stopped waits for the restart of the region. -/
def State.regionStopped (s : State) (g k : Nat) : Bool := (s.cluster k).byRegion && s.regionOf k == g && s.cstate k == csSAFE_STOPPED

/-- The region is open again and its clusters released. -/
def State.regionReleased (s : State) (g : Nat) : State :=
  let s := s.setFld (Reg.CLU_REG_STAT g) Fld.CLU_REG_STAT_RSTATE 0
  s.each (s.clus.filter (s.regionStopped g)) State.clearOrders

theorem State.cmdRegionRestart_accepted (s : State) {g t0 : Nat} (hon : s.regionOn g = true) (hquiet : s.regionSwitching g = false)
    (hinside : (s.region g).insideAt = some t0) (hsince : s.since t0 (ms 10) = true) :
    s.cmdRegionRestart g = (s.regionReleased g).setFld (Reg.CLU_REG_STAT g) Fld.CLU_REG_STAT_CMDRES rcDONE := by
  unfold State.cmdRegionRestart
  simp only [hinside, hon, hquiet, hsince, Bool.not_false, Bool.and_self, if_true]
  rfl

theorem State.moves_regionReleased (s : State) (g : Nat) :
    Moves holdRegs (s.setFld (Reg.CLU_REG_STAT g) Fld.CLU_REG_STAT_RSTATE 0) (s.regionReleased g) :=
  .each fun u _ hk => u.moves_clearOrders (State.mem_clus _ (List.mem_of_mem_filter hk))

section commands
variable {s : State} (g : Rgn) (hrun : s.cdRun = true) (hg : g.val < s.variant.regions)
include hrun hg

theorem regionMeasTimeout_lost (hon : s.regionOn g.val = true) (hlost : (s.region g.val).lost = false)
    (hsince : s.since (s.region g.val).sampleAt 4000 = true) :
    Completes (.regionMeasTimeout g) s fun t => (t.region g.val).lost ∧ (t.region g.val).insideAt = none := by
  have hregion : ((s.regionLost g.val).regionReaction g.val 3).settle.region g.val = { s.region g.val with lost := true, insideAt := none } := by
    rw [State.region, State.settle_regions, State.regionReaction_regions]
    exact s.region_updRegion_same _ _
  refine completes_regionMeasTimeout g hrun hg hon hlost hsince ?_
  rw [hregion]
  exact ⟨rfl, rfl⟩

theorem regionRestart_restarts {t0 : Nat} (hon : s.regionOn g.val = true) (hquiet : s.regionSwitching g.val = false)
    (hinside : (s.region g.val).insideAt = some t0) (hsince : s.since t0 (ms 10) = true) :
    Completes (.regionRestart g) s fun t =>
      t.fld (Reg.CLU_REG_STAT g.val) Fld.CLU_REG_STAT_RSTATE = 0 ∧ t.fld (Reg.CLU_REG_STAT g.val) Fld.CLU_REG_STAT_CMDRES = rcDONE := by
  have hapart : plantReg (Reg.CLU_REG_STAT g.val) ∧ ¬holdRegs (Reg.CLU_REG_STAT g.val) := by
    simp only [plantReg, holdRegs, stateRegs, Reg.CLU_REG_STAT]
    omega
  refine completes_regionRestart g hrun hg ?_
  rw [s.cmdRegionRestart_accepted hon hquiet hinside hsince, State.settle_fld_low _ _ (regStat_low g).1,
    State.settle_fld_low _ _ (regStat_low g).1, State.fld_setFld_same _ _ _ _ (by decide),
    State.fld_setFld_beside _ _ _ _ _ (by decide) (by decide), State.fld_congr ((s.moves_regionReleased g.val).reg _ hapart.1 hapart.2),
    State.fld_setFld_same _ _ _ _ (by decide)]
  exact ⟨rfl, rfl⟩

end commands

/-- Settles O31: a command for each clause; the records of the regions stand outside what a safe stop writes, and the state of a region outside what
the release of the holds writes. -/
theorem regionsAndGridComplete : Obligations.RegionsAndGridComplete := by
  unfold Obligations.RegionsAndGridComplete
  exact ⟨fun g _ hrun hg hopen hlost hsince hempty => regionMeasTimeout_alone g hrun hg hopen hlost hsince hempty,
    fun g _ hrun hg hon hlost hsince => regionMeasTimeout_lost g hrun hg hon hlost hsince,
    fun g _ _ hrun hg hon hquiet hinside hsince => regionRestart_restarts g hrun hg hon hquiet hinside hsince,
    fun g _ hrun hg hbarred => regionRestart_refused g hrun hg hbarred,
    fun _ k v _ hrun hk htype howner => npTargetWrite_shows k v hrun hk htype howner,
    fun _ _ _ _ hrun hk hgfi htime hlow hhigh hzc hidle => gmuUpdate_shows hrun hk hgfi htime hidle hlow hhigh hzc,
    fun _ _ _ hrun hk hgfi htime hfreq hzc hidle => gmuUpdate_outOfRange hrun hk hgfi htime hidle hfreq hzc,
    fun k v _ hrun hk => spPost_posts k hrun v hk,
    fun k q z _ hrun hpend hz hdue => spPickup_activates k hrun q z hpend hz hdue⟩

end Sys2Proof.Machine
end

section
/-! SUPPORT. The state of a cluster as its slots start and stop (R100, R101, R150). -/

namespace Sys2Proof.Machine

theorem plantReg_clu {k : Nat} (h : k < 12) : plantReg (Reg.CLU_CFG k) ∧ plantReg (Reg.CLU_SLOTS k) ∧ plantReg (Reg.CLU_STAT k) ∧
    plantReg (Reg.CLU_DC_STAT k) := by
  simp only [plantReg, Reg.CLU_CFG, Reg.CLU_SLOTS, Reg.CLU_STAT, Reg.CLU_DC_STAT]
  omega

theorem plantReg_edg {n : Nat} (h : n < 24) : plantReg (Reg.EDG_STAT n) ∧ plantReg (Reg.EDG_CTRL n) := by
  simp only [plantReg, Reg.EDG_STAT, Reg.EDG_CTRL]
  omega

/-- Configuration and slots of a cluster lie beside the states, and its phases too. -/
theorem stateRegs_apart (k : Nat) : ¬stateRegs (Reg.CLU_CFG k) ∧ ¬stateRegs (Reg.CLU_SLOTS k) ∧ ¬stateRegs (Reg.CLU_DC_STAT k) := by
  simp only [stateRegs, Reg.CLU_CFG, Reg.CLU_SLOTS, Reg.CLU_DC_STAT]
  omega

/-- Configuration, slots and state of a cluster lie beside what starts and stops write of it. -/
theorem sideRegs_apart (k : Nat) : ¬sideRegs (Reg.CLU_CFG k) ∧ ¬sideRegs (Reg.CLU_SLOTS k) ∧ ¬sideRegs (Reg.CLU_STAT k) := by
  simp only [sideRegs, Reg.CLU_CFG, Reg.CLU_SLOTS, Reg.CLU_STAT]
  omega

section readings
variable {s t : State} {k : Nat}

theorem State.ctype_congr (h : t.reg (Reg.CLU_CFG k) = s.reg (Reg.CLU_CFG k)) : t.ctype k = s.ctype k := State.fld_congr h _
theorem State.isPhased_congr (h : t.reg (Reg.CLU_CFG k) = s.reg (Reg.CLU_CFG k)) : t.isPhased k = s.isPhased k := by
  rw [State.isPhased, State.isPhased, State.ctype_congr h]
theorem State.slotsOf_congr (h : t.reg (Reg.CLU_SLOTS k) = s.reg (Reg.CLU_SLOTS k)) : t.slotsOf k = s.slotsOf k := by
  rw [State.slotsOf, State.slotsOf, h]
theorem State.cstate_congr (h : t.reg (Reg.CLU_STAT k) = s.reg (Reg.CLU_STAT k)) : t.cstate k = s.cstate k := State.fld_congr h _

/-- A cluster switches by the states of its slots. -/
theorem State.cluSwitching_congr (hslots : t.reg (Reg.CLU_SLOTS k) = s.reg (Reg.CLU_SLOTS k))
    (hstat : ∀ n, n < 24 → t.reg (Reg.EDG_STAT n) = s.reg (Reg.EDG_STAT n)) : t.cluSwitching k = s.cluSwitching k := by
  have hsame (n : Nat) (hn : n ∈ s.slotsOf k) : t.switching n = s.switching n := by
    rw [State.switching, State.switching, State.sstate, State.sstate, State.fld_congr (hstat n (s.mem_slotsOf hn))]
  rw [State.cluSwitching, State.cluSwitching, State.slotsOf_congr hslots, Bool.eq_iff_iff, List.any_eq_true, List.any_eq_true]
  exact exists_congr fun n => and_congr_right fun hn => by rw [hsame n hn]

end readings

/-! ### One step of a cluster -/

/-- What following the slots can make of the state of a cluster: a start without phases ends in RUN, a stop in OFF, a pause in PAUSED. -/
def CluStep (k : Nat) (s t : State) : Prop :=
  t.cstate k = s.cstate k ∨ (s.cstate k = csSTARTING ∧ s.isPhased k = false ∧ t.cstate k = csRUN) ∨
    (s.cstate k = csSTOPPING ∧ t.cstate k = csOFF) ∨ (s.cstate k = csRUN ∧ (s.cluster k).pausing = true ∧ t.cstate k = csPAUSED)

section steps
variable {s t u : State} {k : Nat}

theorem CluStep.right (h : CluStep k s t) (hu : u.cstate k = t.cstate k) : CluStep k s u := by rwa [CluStep, hu]

theorem CluStep.left (h : CluStep k t u) (hstate : t.cstate k = s.cstate k) (htype : t.isPhased k = s.isPhased k)
    (hpause : (s.cluster k).pausing = false → (t.cluster k).pausing = false) : CluStep k s u := by
  rw [CluStep, hstate, htype] at h
  refine h.imp_right (Or.imp_right (Or.imp_right fun ⟨hrun, hpauses, hpaused⟩ => ⟨hrun, ?_, hpaused⟩))
  cases hs : (s.cluster k).pausing with
  | false => exact absurd ((hpause hs).symm.trans hpauses) Bool.false_ne_true
  | true => rfl

/-- A step after a move that leaves the configuration and the state of the cluster as they are. -/
theorem CluStep.after {own : Nat → Prop} (hk : k < 12) (hm : Moves own s t) (hcfg : ¬own (Reg.CLU_CFG k)) (hstat : ¬own (Reg.CLU_STAT k))
    (h : CluStep k t u) : CluStep k s u :=
  h.left (State.cstate_congr (hm.reg _ (plantReg_clu hk).2.2.1 hstat)) (State.isPhased_congr (hm.reg _ (plantReg_clu hk).1 hcfg)) (hm.calm k)

theorem State.setCState_cstate (s : State) {v : Nat} (hk : k < 12) (hv : v < 8) : (s.setCState k v).cstate k = v := by
  unfold State.setCState
  split
  · assumption
  · rw [State.cstate_congr ((State.moves_conflictIf (own := fun _ => False) _ _).reg _ (plantReg_clu hk).2.2.1 id), State.cstate,
      State.fld_setFld_same _ _ _ _ (by decide)]
    exact Nat.mod_eq_of_lt hv

/-- A grid inverter or a DC link has no phases that shed. -/
theorem State.isPhased_of_starts (h : s.isGfi k || s.ctype k == tyDLC) : s.isPhased k = false := by
  simp only [State.isGfi, State.isPhased, Bool.or_eq_true, beq_iff_eq, tyGFI3, tyGFI2, tyDLC, tySDC, tyPVC] at h ⊢
  rcases h with (h | h) | h <;> simp [h]

/-- The states that follow the slots `sl` of a cluster, once they are counted. -/
def State.cluNext (s : State) (k : Nat) (sl : List Nat) : State :=
  let en := sl.filter fun n => s.bit (Reg.EDG_CTRL n) Fld.EDG_CTRL_EN
  if s.cstate k = csSTARTING && (s.isGfi k || s.ctype k == tyDLC) && !en.isEmpty && en.all (fun n => s.sstate n == 2) then s.setCState k csRUN
  else if s.cstate k = csSTOPPING && !s.cluSwitching k then s.setCState k csOFF
  else if s.cstate k = csRUN && (s.cluster k).pausing && !s.cluSwitching k then
    (s.updCluster k fun c => { c with pausing := false }).setCState k csPAUSED
  else s

/-- The switching slots of a cluster counted. -/
def State.counted (s : State) (k : Nat) : State := s.setFld (Reg.CLU_STAT k) Fld.CLU_STAT_NSW ((s.slotsOf k).countP s.switching)

theorem State.cluFollow_eq (s : State) (k : Nat) : s.cluFollow k = (s.counted k).cluNext k (s.slotsOf k) := rfl

theorem State.counted_cstate (s : State) (k : Nat) : (s.counted k).cstate k = s.cstate k := s.fld_setFld_beside _ _ _ _ (by decide) (by decide)

theorem State.counted_isPhased (s : State) (k : Nat) : (s.counted k).isPhased k = s.isPhased k :=
  State.isPhased_congr (s.reg_setFld_other _ _ (by simp only [Reg.CLU_CFG, Reg.CLU_STAT]; omega))

theorem State.counted_cluSwitching (s : State) (k : Nat) : (s.counted k).cluSwitching k = s.cluSwitching k :=
  State.cluSwitching_congr (s.reg_setFld_other _ _ (by simp only [Reg.CLU_SLOTS, Reg.CLU_STAT]; omega)) fun _ _ =>
    s.reg_setFld_other _ _ (by simp only [Reg.EDG_STAT, Reg.CLU_STAT]; omega)

theorem State.cluNext_step (s : State) (sl : List Nat) (hk : k < 12) : CluStep k s (s.cluNext k sl) := by
  unfold State.cluNext
  dsimp only
  split
  · rename_i hstarts
    simp only [Bool.and_eq_true, decide_eq_true_eq] at hstarts
    obtain ⟨⟨⟨hstart, htype⟩, -⟩, -⟩ := hstarts
    exact .inr (.inl ⟨hstart, State.isPhased_of_starts htype, s.setCState_cstate hk (by decide)⟩)
  · split
    · rename_i hstops
      simp only [Bool.and_eq_true, decide_eq_true_eq] at hstops
      exact .inr (.inr (.inl ⟨hstops.1, s.setCState_cstate hk (by decide)⟩))
    · split
      · rename_i hpauses
        simp only [Bool.and_eq_true, decide_eq_true_eq] at hpauses
        exact .inr (.inr (.inr ⟨hpauses.1.1, hpauses.1.2, State.setCState_cstate _ hk (by decide)⟩))
      · exact .inl rfl

theorem State.cluFollow_step (s : State) (hk : k < 12) : CluStep k s (s.cluFollow k) := by
  rw [State.cluFollow_eq]
  exact ((s.counted k).cluNext_step _ hk).left (s.counted_cstate k) (s.counted_isPhased k) id

/-- A cluster whose stop has come to its last slot is OFF. -/
theorem State.cluFollow_off {s : State} (hk : k < 12) (hstops : s.cstate k = csSTOPPING) (hquiet : s.cluSwitching k = false) :
    (s.cluFollow k).cstate k = csOFF := by
  rw [← s.counted_cstate k] at hstops
  rw [← s.counted_cluSwitching k] at hquiet
  have hnext : (s.counted k).cluNext k (s.slotsOf k) = (s.counted k).setCState k csOFF := by
    simp [State.cluNext, hstops, hquiet, csSTOPPING, csSTARTING]
  rw [State.cluFollow_eq, hnext]
  exact State.setCState_cstate _ hk (by decide)

/-- A cluster in RUN that switches stays in RUN. -/
theorem State.cluFollow_run {s : State} (hrun : s.cstate k = csRUN) (hswitch : s.cluSwitching k = true) : s.cluFollow k = s.counted k := by
  rw [← s.counted_cstate k] at hrun
  rw [← s.counted_cluSwitching k] at hswitch
  rw [State.cluFollow_eq]
  simp [State.cluNext, hrun, hswitch, csRUN, csSTARTING, csSTOPPING]

/-- Another cluster is not concerned. -/
theorem State.cluFollow_other (s : State) {j : Nat} (hk : k < 12) (hjk : j ≠ k) : (s.cluFollow j).cstate k = s.cstate k := by
  have hbeside : ¬Reg.CLU_STAT k = Reg.CLU_STAT j := by simp only [Reg.CLU_STAT]; omega
  exact State.cstate_congr ((State.moves_cluFollow (own := fun a => a = Reg.CLU_STAT j) s rfl).reg _ (plantReg_clu hk).2.2.1 hbeside)

theorem State.runFollow_cstate (s : State) (hk : k < 12) : s.runFollow.cstate k = s.cstate k :=
  State.cstate_congr ((State.moves_runFollow (own := fun _ => False) s).reg _ (plantReg_clu hk).2.2.1 id)

/-- The state of a slot changes: its cluster makes one step at most. -/
theorem State.setSState_step (s : State) (n v : Nat) (hk : k < 12) : CluStep k s (s.setSState n v) := by
  have hcfg : ¬Reg.CLU_CFG k = Reg.EDG_STAT n ∧ ¬Reg.CLU_STAT k = Reg.EDG_STAT n := by
    simp only [Reg.CLU_CFG, Reg.CLU_STAT, Reg.EDG_STAT]
    omega
  have hshown {t : State} (h : CluStep k (s.showSState n v) t) : CluStep k s t :=
    h.after hk (s.moves_showSState (own := fun a => a = Reg.EDG_STAT n) v rfl) hcfg.1 hcfg.2
  rcases s.setSState_cases n v with hsame | hnone | ⟨j, -, hfollow⟩
  · rw [hsame]
    exact .inl rfl
  · rw [hnone]
    exact hshown (.inl (State.runFollow_cstate _ hk))
  · rw [hfollow]
    refine CluStep.right (hshown ?_) (State.runFollow_cstate _ hk)
    by_cases hjk : j = k
    · subst hjk
      exact State.cluFollow_step _ hk
    · exact .inl (State.cluFollow_other _ hk hjk)

/-- The start of a slot is ordered: a cluster makes one step at most. -/
theorem State.orderStart_step (s : State) (n : Nat) (resume : Bool) (hk : k < 12) : CluStep k s (s.orderStart n resume) := by
  exact (State.setSState_step _ n 1 hk).after hk (s.moves_startPrelude n resume) (sideRegs_apart k).1 (sideRegs_apart k).2.2

end steps

end Sys2Proof.Machine
end

section
/-! SUPPORT. The result of a cluster command, and the commands that are refused or meet no cluster (R2, R151, R446). -/

namespace Sys2Proof.Machine

/-! ### Results -/

section results
variable (s : State) (k : Clu)

theorem cluStat_low : Reg.CLU_STAT k.val < 0x60000 ∧ (FlagSrc.clu k.val).addr < 0x60000 ∧ Reg.CLU_STAT k.val ≠ (FlagSrc.clu k.val).addr ∧
    ¬(FlagSrc.clu k.val).owns 7 (Reg.CLU_STAT k.val) = true := by
  refine ⟨?_, ?_, ?_, fun h => ?_⟩
  case refine_4 =>
    have := clu_owns h
    simp only [Reg.CLU_STAT, Reg.CLU_FLAGS, Reg.CLU_CNT0] at this
    omega
  all_goals
    simp only [Reg.CLU_STAT, FlagSrc.addr, Reg.CLU_FLAGS]
    omega

theorem State.cluResult_done (k : Nat) : s.cluResult k rcDONE = s.setFld (Reg.CLU_STAT k) Fld.CLU_STAT_CMDRES rcDONE := by
  simp [State.cluResult, State.raiseIf]

theorem State.cluResult_refused (k : Nat) {res : Nat} (h : res ≠ rcDONE) :
    s.cluResult k res = (s.setFld (Reg.CLU_STAT k) Fld.CLU_STAT_CMDRES res).raise (.clu k) 7 := by
  simp [State.cluResult, State.raiseIf, h]

/-- DONE is shown, and nothing else. -/
theorem cluResult_done_shown : (s.cluResult k.val rcDONE).settle.fld (Reg.CLU_STAT k.val) Fld.CLU_STAT_CMDRES = rcDONE ∧
    (s.cluResult k.val rcDONE).settle.cstate k.val = s.cstate k.val ∧ (s.cluResult k.val rcDONE).settle.clusters = s.clusters ∧
    (s.cluResult k.val rcDONE).settle.edges = s.edges ∧
    ∀ a, a < 0x60000 → a ≠ Reg.CLU_STAT k.val → (s.cluResult k.val rcDONE).settle.reg a = s.reg a := by
  rw [State.cluResult_done]
  refine ⟨?_, ?_, by rw [State.settle_clusters, State.setFld_clusters], by rw [State.settle_edges, State.setFld_edges], fun a hlow ha => ?_⟩
  · rw [State.settle_fld_low _ _ (cluStat_low k).1, State.fld_setFld_same _ _ _ _ (by decide)]
    rfl
  · have hstate := State.settle_fld_low (s.setFld (Reg.CLU_STAT k.val) Fld.CLU_STAT_CMDRES rcDONE) Fld.CLU_STAT_CSTATE (cluStat_low k).1
    exact hstate.trans (s.fld_setFld_beside _ _ _ _ (by decide) (by decide))
  · rw [State.settle_reg_low _ hlow, State.reg_setFld_other _ _ _ ha]

/-- A refusal is shown with CMDERR, and nothing else. -/
theorem cluResult_refused_shown {res : Nat} (hdone : res ≠ rcDONE) (hres : res < 256) :
    (s.cluResult k.val res).settle.fld (Reg.CLU_STAT k.val) Fld.CLU_STAT_CMDRES = res ∧ (s.cluResult k.val res).settle.flag (.clu k.val) 7 = true ∧
      Only (fun a => a = Reg.CLU_STAT k.val ∨ (FlagSrc.clu k.val).owns 7 a) s (s.cluResult k.val res).settle := by
  obtain ⟨hlow, hflags, -, hbeside⟩ := cluStat_low k
  rw [s.cluResult_refused k.val hdone]
  refine ⟨?_, State.flag_raise_settle _ _ (by decide) hflags, ?_⟩
  · rw [State.settle_fld_low _ _ hlow, State.fld_congr (State.reg_raise_unowned _ (by simpa using hbeside)),
      State.fld_setFld_same _ _ _ _ (by decide)]
    exact Nat.mod_eq_of_lt hres
  · exact Only.settle (((Only.setFld s _ _ _).mono fun _ => .inl).trans ((Only.raise _ _ _).mono fun _ => .inr))

end results

/-! ### Commands -/

section commands
variable {s : State} {who : Party} {k : Clu} {i : Instr} {f : State → State}

theorem mayCommand_low (hmay : s.mayCommand who k.val = true) : k.val < s.variant.clusters := by
  simp only [State.mayCommand, Bool.and_eq_true, Nat.blt_eq] at hmay
  exact hmay.1.2

theorem completes_cluCommand {p : State → Prop} (he : exec i s = cluCommand who k.val s f) (hmay : s.mayCommand who k.val = true)
    (hp : p (f s).settle) : Completes i s p :=
  completes_atReg he (by simpa using mayCommand_low hmay) hmay hp

/-- A command that ends with DONE in a state `u`. -/
theorem completes_done {p : State → Prop} {u : State} (he : exec i s = cluCommand who k.val s f) (hmay : s.mayCommand who k.val = true)
    (hf : f s = u.cluResult k.val rcDONE)
    (hp : ∀ t : State, t.fld (Reg.CLU_STAT k.val) Fld.CLU_STAT_CMDRES = rcDONE → t.cstate k.val = u.cstate k.val → t.clusters = u.clusters →
      t.edges = u.edges → (∀ a, a < 0x60000 → a ≠ Reg.CLU_STAT k.val → t.reg a = u.reg a) → p t) : Completes i s p := by
  obtain ⟨hres, hstate, hclusters, hedges, hreg⟩ := cluResult_done_shown u k
  exact completes_cluCommand he hmay (by rw [hf]; exact hp _ hres hstate hclusters hedges hreg)

theorem completes_refused {res : Nat} (he : exec i s = cluCommand who k.val s f) (hmay : s.mayCommand who k.val = true)
    (hf : f s = s.cluResult k.val res) (hdone : res ≠ rcDONE) (hres : res < 256) : Completes i s fun t =>
      t.fld (Reg.CLU_STAT k.val) Fld.CLU_STAT_CMDRES = res ∧ t.flag (.clu k.val) 7 ∧ Only (fun a => a = Reg.CLU_STAT k.val ∨ (FlagSrc.clu
      k.val).owns 7 a) s t :=
  completes_cluCommand he hmay (by rw [hf]; exact cluResult_refused_shown s k hdone hres)

/-- A command to a cluster that the variant lacks. -/
theorem completes_absent (he : exec i s = cluCommand who k.val s f) (hrun : s.cdRun = true) (hk : s.variant.clusters ≤ k.val) :
    Completes i s fun t => t.flag .glb 0 ∧ t.reg Reg.GLB_UNIMPL_ADDR = BitVec.ofNat 32 (Reg.CLU_CMD k.val) ∧
      Only (fun a => a = Reg.GLB_UNIMPL_ADDR ∨ FlagSrc.glb.owns 0 a) s t := by
  have habsent : Nat.blt k.val s.variant.clusters = false := by
    rw [Bool.eq_false_iff, ne_eq, Nat.blt_eq]
    omega
  have haddr : Reg.CLU_CMD k.val % 2 ^ 20 = Reg.CLU_CMD k.val := Nat.mod_eq_of_lt (by simp only [Reg.CLU_CMD]; omega)
  have hwrite : exec i s = onlyIf s.cdRun s fun s => s.unimplemented (Reg.CLU_CMD k.val) :=
    he.trans (if_neg (by rw [habsent]; exact Bool.false_ne_true))
  refine completes_onlyIf hwrite hrun ⟨State.flag_raise_settle _ .glb (by decide) (by decide), ?_, ?_⟩
  · rw [State.settle_reg_low _ (by decide), State.unimplemented, State.reg_raise_unowned _ (by decide), haddr, State.reg_setNat_same]
  · exact Only.settle (((Only.setNat s _ _).mono fun _ => .inl).trans ((Only.raise _ _ _).mono fun _ => .inr))

theorem State.cluExec_busy {k : Nat} (hrun : s.cstate k = csRUN) (hpause : (s.cluster k).pausing = true) :
    s.cluExec k f = s.cluResult k rcBUSY := if_pos ⟨hrun, hpause⟩

theorem State.cluExec_free {k : Nat} (hfree : s.cstate k = csRUN → (s.cluster k).pausing = false) : s.cluExec k f = f s :=
  if_neg fun h => Bool.false_ne_true ((hfree h.1).symm.trans h.2)

/-! ### Refusals by the state of the cluster -/

theorem cmdEnable_refused {k : Nat} (hfree : s.cstate k = csRUN → (s.cluster k).pausing = false)
    (hstate : (s.dev ≠ stARMED ∧ s.dev ≠ stRUN) ∨ s.cstate k ≠ csOFF) : s.cmdEnable k = s.cluResult k rcSTATE := by
  have hbarred : (!(s.dev == stARMED || s.dev == stRUN) || s.cstate k != csOFF) = true := by
    rcases hstate with ⟨harmed, hrun⟩ | hoff
    · simp [harmed, hrun]
    · simp [hoff]
  rw [State.cmdEnable, State.cluExec_free hfree]
  exact if_pos hbarred

theorem cmdDisable_refused {k : Nat} (hstate : s.cstate k ∉ [csSTARTING, csRUN, csPAUSED, csPORT_OPEN]) :
    s.cmdDisable k = s.cluResult k rcSTATE := by
  simp only [List.mem_cons, List.not_mem_nil, or_false, not_or] at hstate
  obtain ⟨hstarting, hrun, hpaused, hopen⟩ := hstate
  rw [State.cmdDisable, State.cluExec_free fun h => absurd h hrun]
  simp [hstarting, hrun, hpaused, hopen]

theorem cmdPause_refused {k : Nat} (owner : Bool) (hstate : s.cstate k ≠ csRUN) : s.cmdPause k owner = s.cluResult k rcSTATE := by
  rw [State.cmdPause, State.cluExec_free fun h => absurd h hstate]
  simp [hstate]

theorem cmdResume_refused {k : Nat} (owner : Bool) (hfree : s.cstate k = csRUN → (s.cluster k).pausing = false) (hstate : s.cstate k ≠ csPAUSED) :
    s.cmdResume k owner = s.cluResult k rcSTATE := by
  rw [State.cmdResume, State.cluExec_free hfree]
  simp [hstate]

theorem cmdRestart_refused {k : Nat} (hfree : s.cstate k = csRUN → (s.cluster k).pausing = false) (hstate : s.cstate k ≠ csSAFE_STOPPED) :
    s.cmdRestart k = s.cluResult k rcSTATE := by
  rw [State.cmdRestart, State.cluExec_free hfree]
  simp [hstate]

end commands

end Sys2Proof.Machine
end

section
/-! SUPPORT. The cluster commands that are carried out: ENABLE, DISABLE, PAUSE, RESUME and RESTART (R101, R150, R151, R195, R201). -/

namespace Sys2Proof.Machine

/-! ### A change made for each slot -/

/-- What each change makes of its own element holds of all of them in the end, where no change undoes it and an invariant is kept. -/
theorem State.each_all {α : Type} (I : State → Prop) (P : α → State → Prop) (f : State → α → State) :
    ∀ (l : List α) (s : State), I s → (∀ u x, x ∈ l → I u → I (f u x) ∧ P x (f u x)) → (∀ u x y, x ∈ l → I u → P y u → P y (f u x)) →
      ∀ x ∈ l, P x (s.each l f)
  | [], _, _, _, _ => by simp
  | x :: l, s, hs, hset, hkeep => by
    have hx := hset s x (by simp) hs
    intro y hy
    rcases List.mem_cons.1 hy with rfl | hy
    · exact (State.each_inv (f s y) (fun u => I u ∧ P y u) f l hx fun u z hz hu =>
        ⟨(hset u z (by simp [hz]) hu.1).1, hkeep u z y (by simp [hz]) hu.1 hu.2⟩).2
    · exact State.each_all I P f l (f s x) hx.1 (fun u z hz => hset u z (by simp [hz])) (fun u z w hz => hkeep u z w (by simp [hz])) y hy

/-- The registers of the slot and cluster states, and those that starts and stops write beside them. -/
def orderRegs (a : Nat) : Prop := stateRegs a ∨ sideRegs a

theorem orderRegs_apart (k : Nat) : ¬orderRegs (Reg.CLU_CFG k) ∧ ¬orderRegs (Reg.CLU_SLOTS k) :=
  ⟨not_or.2 ⟨(stateRegs_apart k).1, (sideRegs_apart k).1⟩, not_or.2 ⟨(stateRegs_apart k).2.1, (sideRegs_apart k).2.1⟩⟩

theorem ctrl_apart (n : Nat) : ¬stateRegs (Reg.EDG_CTRL n) ∧ ¬orderRegs (Reg.EDG_CTRL n) := by
  simp only [orderRegs, stateRegs, sideRegs, Reg.EDG_CTRL]
  omega

section slots
variable (s : State) {n : Nat}

theorem State.moves_orderStart (resume : Bool) (h : n < 24) : Moves orderRegs s (s.orderStart n resume) := by
  rw [State.orderStart_eq]
  exact ((s.moves_startPrelude n resume).mono fun _ => .inr).trans ((State.moves_setSState _ 1 h).mono fun _ => .inl)

/-- EN takes a value on each slot of a list, whatever follows on its slot beside EDG_n_CTRL. -/
theorem State.each_enabled {l : List Nat} {g : State → Nat → State} (on : Bool) (hl : ∀ n ∈ l, n < 24)
    (hg : ∀ u n, n ∈ l → Moves orderRegs u (g u n)) :
    ∀ n, n ∈ l → (s.each l fun u n => g (u.setBit (Reg.EDG_CTRL n) Fld.EDG_CTRL_EN on) n).bit (Reg.EDG_CTRL n) Fld.EDG_CTRL_EN = on := by
  intro n hn
  have hkeeps (u : State) (x n : Nat) (hx : x ∈ l) (hn : n ∈ l) :
      (g u x).bit (Reg.EDG_CTRL n) Fld.EDG_CTRL_EN = u.bit (Reg.EDG_CTRL n) Fld.EDG_CTRL_EN :=
    State.bit_congr ((hg u x hx).reg _ (plantReg_edg (hl n hn)).2 (ctrl_apart n).2) _
  have hsame (u : State) (x : Nat) : (u.setBit (Reg.EDG_CTRL x) Fld.EDG_CTRL_EN on).bit (Reg.EDG_CTRL x) Fld.EDG_CTRL_EN = on :=
    u.bit_setBit_same _ _ _ (by decide) rfl
  refine State.each_all (fun _ => True) (fun n u => n ∈ l → u.bit (Reg.EDG_CTRL n) Fld.EDG_CTRL_EN = on) _ l s trivial
    (fun u x hx _ => ⟨trivial, fun _ => (hkeeps _ x x hx hx).trans (hsame u x)⟩) (fun u x n hx _ hn hmem => (hkeeps _ x n hx hmem).trans ?_) n hn hn
  by_cases h : n = x
  · subst h
    exact hsame u n
  · have hother : Reg.EDG_CTRL n ≠ Reg.EDG_CTRL x := by simp only [Reg.EDG_CTRL]; omega
    exact (State.bit_congr (u.reg_setBit_other _ _ hother) _).trans (hn hmem)

end slots

/-! ### ENABLE (R150, R151, R184, R188) -/

/-- A cluster that has started and whose phases shed or not: it is STARTING, or without phases also RUN or PAUSED. -/
def Started (phased : Bool) (k : Nat) (s : State) : Prop :=
  s.isPhased k = phased ∧ (s.cstate k = csSTARTING ∨ phased = false ∧ (s.cstate k = csRUN ∨ s.cstate k = csPAUSED))

theorem Started.step {phased : Bool} {k : Nat} {s t : State} (hs : Started phased k s) (hstep : CluStep k s t) (htype : t.isPhased k = s.isPhased k) :
    Started phased k t := by
  obtain ⟨hphased, hstate⟩ := hs
  refine ⟨htype.trans hphased, ?_⟩
  rcases hstep with hsame | ⟨-, hnone, hrun⟩ | ⟨hstops, -⟩ | ⟨hrun, -, hpaused⟩
  · rwa [hsame]
  · exact .inr ⟨hphased.symm.trans hnone, .inl hrun⟩
  · rw [hstops] at hstate
    simp [csSTOPPING, csSTARTING, csRUN, csPAUSED] at hstate
  · rw [hrun] at hstate
    rcases hstate with h | ⟨hnone, -⟩
    · exact absurd h (by decide)
    · exact .inr ⟨hnone, .inr hpaused⟩

section enable
variable (s : State) {k : Nat} (hk : k < 12)

/-- The blocks and phases of a cluster as its start makes them. -/
def State.prepared (s : State) (k : Nat) : State :=
  let s := s.updBlk k fun b => { b with st := .normal, since := [], ramp := 65536, lastAt := s.now }
  if s.isGfi k then s else (s.freshPhases k).updChg k fun c =>
    { c with sinceEn := false, wait := c.wait.map fun x => (x.1, x.2.1, false) }

/-- One slot enabled and its start ordered. -/
def State.slotStart (s : State) (n : Nat) : State := (s.setBit (Reg.EDG_CTRL n) Fld.EDG_CTRL_EN true).orderStart n false

theorem State.startCluster_eq : s.startCluster k =
    (((s.prepared k).setCState k csSTARTING).each (((s.prepared k).setCState k csSTARTING).slotsOf k) State.slotStart).cluFollow k := rfl

theorem Started.slotStart {phased : Bool} {u : State} {n : Nat} (hn : n < 24) (hk : k < 12) (hu : Started phased k u) :
    Started phased k (u.slotStart n) := by
  have hbit : Moves (fun a => a = Reg.EDG_CTRL n) u (u.setBit (Reg.EDG_CTRL n) Fld.EDG_CTRL_EN true) := .setBit u _ _ (.inl rfl)
  have hapart : ¬Reg.CLU_CFG k = Reg.EDG_CTRL n ∧ ¬Reg.CLU_STAT k = Reg.EDG_CTRL n := by
    simp only [Reg.CLU_CFG, Reg.CLU_STAT, Reg.EDG_CTRL]
    omega
  refine hu.step ((State.orderStart_step _ n false hk).after hk hbit hapart.1 hapart.2) (State.isPhased_congr ?_)
  exact ((State.moves_orderStart _ false hn).reg _ (plantReg_clu hk).1 (orderRegs_apart k).1).trans
    (hbit.reg _ (plantReg_clu hk).1 hapart.1)

include hk

theorem State.moves_prepared : Moves sideRegs s (s.prepared k) := by
  have hblk (u : State) (f : Blk → Blk) : Moves sideRegs u (u.updBlk k f) := .of_same rfl rfl rfl rfl
  have hchg (u : State) (f : Chg → Chg) : Moves sideRegs u (u.updChg k f) := .of_same rfl rfl rfl rfl
  exact .ite (hblk s _) (((hblk s _).trans (State.moves_freshPhases _ hk)).trans (hchg _ _))

/-- The cluster as its slots start: its configuration is kept and it is STARTING. -/
theorem State.starting_keeps : ((s.prepared k).setCState k csSTARTING).slotsOf k = s.slotsOf k ∧
    Started (s.isPhased k) k ((s.prepared k).setCState k csSTARTING) := by
  have hmoves : Moves orderRegs s ((s.prepared k).setCState k csSTARTING) :=
    ((s.moves_prepared hk).mono fun _ => .inr).trans (State.moves_setCState _ _ (.inl (stateRegs_clu hk)))
  exact ⟨State.slotsOf_congr (hmoves.reg _ (plantReg_clu hk).2.1 (orderRegs_apart k).2),
    State.isPhased_congr (hmoves.reg _ (plantReg_clu hk).1 (orderRegs_apart k).1), .inl (State.setCState_cstate _ hk (by decide))⟩

theorem State.startCluster_started : Started (s.isPhased k) k (s.startCluster k) := by
  obtain ⟨hslots, hstarting⟩ := s.starting_keeps hk
  have hstarted := State.each_inv _ (Started (s.isPhased k) k) State.slotStart (((s.prepared k).setCState k csSTARTING).slotsOf k) hstarting
    fun u n hn hu => hu.slotStart (State.mem_slotsOf _ hn) hk
  rw [State.startCluster_eq]
  exact hstarted.step (State.cluFollow_step _ hk) (State.isPhased_congr
    ((State.moves_cluFollow _ (stateRegs_clu hk)).reg _ (plantReg_clu hk).1 (stateRegs_apart k).1))

theorem State.startCluster_enabled {n : Nat} (hn : n ∈ s.slotsOf k) : (s.startCluster k).bit (Reg.EDG_CTRL n) Fld.EDG_CTRL_EN = true := by
  rw [State.startCluster_eq, (s.starting_keeps hk).1]
  refine (State.bit_congr ((State.moves_cluFollow _ (stateRegs_clu hk)).reg _ (plantReg_edg (s.mem_slotsOf hn)).2 (ctrl_apart n).1) _).trans ?_
  exact State.each_enabled _ true (fun m hm => s.mem_slotsOf hm) (fun u m hm => u.moves_orderStart false (s.mem_slotsOf hm)) n hn

end enable

section commands
variable {s : State} {who : Party} {k : Clu} (hmay : s.mayCommand who k.val = true)
include hmay

theorem enable_starts (hdev : s.dev = stARMED ∨ s.dev = stRUN) (hoff : s.cstate k.val = csOFF) (hok : s.enableOk k.val = true) :
    Completes (.enable who k) s fun t =>
      t.fld (Reg.CLU_STAT k.val) Fld.CLU_STAT_CMDRES = rcDONE ∧ t.cstate k.val ≠ csOFF ∧ (s.isPhased k.val → t.cstate k.val = csSTARTING) ∧ (∀ n ∈
      s.slotsOf k.val, t.bit (Reg.EDG_CTRL n) Fld.EDG_CTRL_EN) := by
  have hcmd : s.cmdEnable k.val = (s.startCluster k.val).cluResult k.val rcDONE := by
    rw [State.cmdEnable, State.cluExec_free fun h => absurd (hoff.symm.trans h) (by decide)]
    rcases hdev with h | h <;> simp [h, hoff, hok]
  refine completes_done (f := fun s => s.cmdEnable k.val) rfl hmay hcmd fun t hres hstate _ _ hreg => ⟨hres, ?_, fun hphased => ?_, fun n hn => ?_⟩
  · rw [hstate]
    rcases (s.startCluster_started k.isLt).2 with h | ⟨-, h | h⟩ <;> rw [h] <;> decide
  · rw [hstate]
    rcases (s.startCluster_started k.isLt).2 with h | ⟨hnone, -⟩
    · exact h
    · exact absurd (hphased.symm.trans hnone) (by decide)
  · have hctrl : Reg.EDG_CTRL n < 0x60000 ∧ Reg.EDG_CTRL n ≠ Reg.CLU_STAT k.val := by
      have := s.mem_slotsOf hn
      simp only [Reg.EDG_CTRL, Reg.CLU_STAT]
      omega
    exact (State.bit_congr (hreg _ hctrl.1 hctrl.2) _).trans (s.startCluster_enabled k.isLt hn)

end commands

end Sys2Proof.Machine
end

section
/-! SUPPORT. DISABLE, PAUSE, RESUME and RESTART where they are carried out (R151, R193, R195, R201). -/

namespace Sys2Proof.Machine

/-! ### DISABLE -/

section disable
variable (s : State) {k : Nat} (hk : k < 12)

/-- The cluster as it leaves its running states. -/
def State.left (s : State) (k : Nat) : State := (s.leaveRun k 0x0C).updCluster k fun c => { c with pausing := false }

/-- One slot disabled and its stop ordered. -/
def State.slotStop (s : State) (n : Nat) : State := (s.setBit (Reg.EDG_CTRL n) Fld.EDG_CTRL_EN false).orderStop n 0

/-- The cluster as its slots stop. -/
def State.stopping (s : State) (k : Nat) : State :=
  ((s.left k).setCState k csSTOPPING).each (((s.left k).setCState k csSTOPPING).slotsOf k) State.slotStop

theorem State.stopNormal_eq : s.stopNormal k = (s.stopping k).cluFollow k := rfl

theorem State.left_calm : ((s.left k).cluster k).pausing = false := by
  rw [State.left, State.cluster_updCluster_same]

/-- What a DC cluster ends as it leaves its running states. -/
theorem State.leaveRun_eq (why : Nat) (hgfi : s.isGfi k = false) (htype : s.ctype k ≠ 0) : s.leaveRun k why =
    (((((s.withdraw k).endSweep k).endCharge k [why]).setBit (Reg.CLU_DC_STAT k) Fld.CLU_DC_STAT_DISCH_ACT false).setFld (Reg.CLU_DC_STAT k)
      Fld.CLU_DC_STAT_PLAUS_RUN 0).updDc k fun d => { d with ssAt := none, ssV0 := none, ovl := 0, dlcOn := false } :=
  if_neg (by simp [hgfi, htype])

/-- A cluster with phases or a DC link leaves no discharge running. -/
theorem State.left_discharge (htype : s.isPhased k = true ∨ s.ctype k = tyDLC) :
    (s.left k).bit (Reg.CLU_DC_STAT k) Fld.CLU_DC_STAT_DISCH_ACT = false := by
  have hdc : s.isGfi k = false ∧ s.ctype k ≠ 0 := by
    simp only [State.isPhased, State.isGfi, Bool.or_eq_true, beq_iff_eq, tySDC, tyPVC, tyDLC, tyGFI3, tyGFI2] at htype ⊢
    rcases htype with (h | h) | h <;> simp [h]
  have hends (u : State) : ((u.setBit (Reg.CLU_DC_STAT k) Fld.CLU_DC_STAT_DISCH_ACT false).setFld (Reg.CLU_DC_STAT k) Fld.CLU_DC_STAT_PLAUS_RUN 0).bit
      (Reg.CLU_DC_STAT k) Fld.CLU_DC_STAT_DISCH_ACT = false := by
    rw [State.bit, State.fld_setFld_beside _ _ _ _ _ (by decide) (by decide)]
    exact u.bit_setBit_same _ _ _ (by decide) rfl
  have hrecords (u : State) (f : Dc → Dc) (g : Cluster → Cluster) :
      ((u.updDc k f).updCluster k g).bit (Reg.CLU_DC_STAT k) Fld.CLU_DC_STAT_DISCH_ACT = u.bit (Reg.CLU_DC_STAT k) Fld.CLU_DC_STAT_DISCH_ACT := rfl
  rw [State.left, State.leaveRun_eq _ _ hdc.1 hdc.2, hrecords]
  exact hends _

/-- EDG_n_CTRL of the slots. -/
def ctrlRegs (a : Nat) : Prop := 0x10000 ≤ a ∧ a < 0x16000 ∧ a % 0x400 = 0

theorem ctrlRegs_ctrl {n : Nat} (hn : n < 24) : ctrlRegs (Reg.EDG_CTRL n) := by
  simp only [ctrlRegs, Reg.EDG_CTRL]
  omega

theorem ctrlRegs_apart (n k : Nat) : ¬ctrlRegs (Reg.EDG_STAT n) ∧ ¬ctrlRegs (Reg.CLU_STAT k) ∧ ¬ctrlRegs (Reg.CLU_SLOTS k) := by
  simp only [ctrlRegs, Reg.EDG_STAT, Reg.CLU_STAT, Reg.CLU_SLOTS]
  omega

/-- Stopping the slots writes EDG_n_CTRL and the states. -/
def stopRegs (a : Nat) : Prop := stateRegs a ∨ ctrlRegs a

theorem State.moves_slotStop {n : Nat} (hn : n < 24) : Moves stopRegs s (s.slotStop n) := by
  exact (Moves.setBit s _ _ (.inl (.inr (ctrlRegs_ctrl hn)))).trans ((State.moves_orderStop _ 0 hn).mono fun _ => .inl)

/-- A slot at rest has nothing to stop. -/
theorem State.slotStop_resting {n : Nat} (hrest : s.sstate n = 0 ∨ 3 < s.sstate n) :
    s.slotStop n = s.setBit (Reg.EDG_CTRL n) Fld.EDG_CTRL_EN false := by
  have hapart : Reg.EDG_STAT n ≠ Reg.EDG_CTRL n := by simp only [Reg.EDG_STAT, Reg.EDG_CTRL]; omega
  have hstate : (s.setBit (Reg.EDG_CTRL n) Fld.EDG_CTRL_EN false).sstate n = s.sstate n := State.fld_congr (s.reg_setBit_other _ _ hapart) _
  unfold State.slotStop State.orderStop
  rw [hstate, if_neg (by omega), if_neg (by simp only [Bool.or_eq_true, decide_eq_true_eq]; omega)]

include hk

theorem State.moves_left : Moves sideRegs s (s.left k) := by
  have hcalm (u : State) : Moves sideRegs u (u.updCluster k fun c => { c with pausing := false }) := .updCluster u k (fun _ _ => rfl) fun _ h => h
  exact (s.moves_leaveRun hk _).trans (hcalm _)

theorem State.moves_stopNormal : Moves stopRegs (s.left k) (s.stopNormal k) := by
  have hstate {u v : State} (h : Moves stateRegs u v) : Moves stopRegs u v := h.mono fun _ => .inl
  have hslots (u : State) : Moves stopRegs u (u.each (u.slotsOf k) State.slotStop) := .each fun v n hn => v.moves_slotStop (u.mem_slotsOf hn)
  rw [State.stopNormal_eq]
  exact ((hstate (State.moves_setCState _ _ (stateRegs_clu hk))).trans (hslots _)).trans (hstate (State.moves_cluFollow _ (stateRegs_clu hk)))

/-- A cluster whose slots rest is OFF at once. -/
theorem State.stopNormal_resting (hrest : ∀ n ∈ s.slotsOf k, s.sstate n = 0 ∨ 3 < s.sstate n) : (s.stopNormal k).cstate k = csOFF := by
  have hmoves : Moves (fun a => sideRegs a ∨ a = Reg.CLU_STAT k) s ((s.left k).setCState k csSTOPPING) :=
    ((s.moves_left hk).mono fun _ => .inl).trans (State.moves_setCState _ _ (.inr rfl))
  have hslots : ((s.left k).setCState k csSTOPPING).slotsOf k = s.slotsOf k :=
    State.slotsOf_congr (hmoves.reg _ (plantReg_clu hk).2.1 fun h => h.elim (sideRegs_apart k).2.1 fun h => by
      simp only [Reg.CLU_SLOTS, Reg.CLU_STAT] at h; omega)
  have hstate (n : Nat) (hn : n < 24) : ((s.left k).setCState k csSTOPPING).reg (Reg.EDG_STAT n) = s.reg (Reg.EDG_STAT n) :=
    hmoves.reg _ (plantReg_edg hn).1 (by simp only [sideRegs, Reg.EDG_STAT, Reg.CLU_STAT]; omega)
  have hstops := (s.left k).setCState_cstate (k := k) (v := csSTOPPING) hk (by decide)
  rw [State.stopNormal_eq, State.stopping, hslots]
  generalize (s.left k).setCState k csSTOPPING = u at hstate hslots hstops
  have hloop := State.each_inv u (Moves ctrlRegs u) State.slotStop (s.slotsOf k) (.refl u) fun v n hn hv => by
    have hkept : v.sstate n = s.sstate n := State.fld_congr ((hv.reg _ (plantReg_edg (s.mem_slotsOf hn)).1 (ctrlRegs_apart n k).1).trans
      (hstate n (s.mem_slotsOf hn))) _
    rw [v.slotStop_resting (by rw [hkept]; exact hrest n hn)]
    exact hv.trans (.setBit v _ _ (.inl (ctrlRegs_ctrl (s.mem_slotsOf hn))))
  refine State.cluFollow_off hk ((State.cstate_congr (hloop.reg _ (plantReg_clu hk).2.2.1 (ctrlRegs_apart 0 k).2.1)).trans hstops) ?_
  rw [State.cluSwitching_congr (s := u) (hloop.reg _ (plantReg_clu hk).2.1 (ctrlRegs_apart 0 k).2.2) fun n hn =>
    hloop.reg _ (plantReg_edg hn).1 (ctrlRegs_apart n k).1, State.cluSwitching, hslots, List.any_eq_false]
  intro n hn
  have hkept : u.sstate n = s.sstate n := State.fld_congr (hstate n (s.mem_slotsOf hn)) _
  have hrests := hrest n hn
  rw [← hkept] at hrests
  simp only [State.switching, Bool.or_eq_true, beq_iff_eq]
  omega

end disable

end Sys2Proof.Machine
end

section
/-! SUPPORT. The commands DISABLE, PAUSE, RESUME and RESTART, and O30 (R151, R193, R195, R201). -/

namespace Sys2Proof.Machine

/-! ### DISABLE -/

section disable
variable {s : State} {who : Party} {k : Clu} (hmay : s.mayCommand who k.val = true)
  (hfree : s.cstate k.val = csRUN → (s.cluster k.val).pausing = false)
  (hstate : s.cstate k.val ∈ [csSTARTING, csRUN, csPAUSED, csPORT_OPEN])

include hfree hstate in
theorem cmdDisable_stops : s.cmdDisable k.val = (s.stopNormal k.val).cluResult k.val rcDONE := by
  simp only [List.mem_cons, List.not_mem_nil, or_false] at hstate
  rw [State.cmdDisable, State.cluExec_free hfree]
  exact if_pos (by simpa [or_assoc] using hstate)

include hmay hfree hstate

theorem disable_stops (hrest : ∀ n ∈ s.slotsOf k.val, s.sstate n = 0 ∨ 3 < s.sstate n) :
    Completes (.disable who k) s fun t => t.fld (Reg.CLU_STAT k.val) Fld.CLU_STAT_CMDRES = rcDONE ∧ t.cstate k.val = csOFF :=
  completes_done (f := fun s => s.cmdDisable k.val) rfl hmay (cmdDisable_stops hfree hstate) fun _ hres hoff _ _ _ =>
    ⟨hres, hoff.trans (s.stopNormal_resting k.isLt hrest)⟩

theorem disable_ends :
    Completes (.disable who k) s fun t =>
      t.fld (Reg.CLU_STAT k.val) Fld.CLU_STAT_CMDRES = rcDONE ∧ (t.cluster k.val).pausing = false ∧ (s.isPhased k.val ∨ s.ctype k.val = tyDLC → t.bit
      (Reg.CLU_DC_STAT k.val) Fld.CLU_DC_STAT_DISCH_ACT = false) := by
  have hmoves := s.moves_stopNormal k.isLt
  have hdc : Reg.CLU_DC_STAT k.val < 0x60000 ∧ Reg.CLU_DC_STAT k.val ≠ Reg.CLU_STAT k.val ∧ ¬stopRegs (Reg.CLU_DC_STAT k.val) := by
    simp only [stopRegs, stateRegs, ctrlRegs, Reg.CLU_DC_STAT, Reg.CLU_STAT]
    omega
  obtain ⟨hlow, hbeside, hapart⟩ := hdc
  refine completes_done (f := fun s => s.cmdDisable k.val) rfl hmay (cmdDisable_stops hfree hstate) fun t hres _ hclusters _ hreg =>
    ⟨hres, ?_, fun htype => ?_⟩
  · rw [State.cluster, hclusters]
    exact hmoves.calm _ (s.left_calm)
  · exact (State.bit_congr ((hreg _ hlow hbeside).trans (hmoves.reg _ (plantReg_clu k.isLt).2.2.2 hapart)) _).trans (s.left_discharge htype)

end disable

/-! ### PAUSE -/

section pause
variable {s : State} {who : Party} {k : Clu}

/-- The cluster as its pause is ordered. -/
def State.pausingFrom (s : State) (k : Nat) : State := (s.dropSweep k).updCluster k fun c => { c with pausing := true }

/-- The slots of a cluster ordered to pause. -/
def State.pauseOrders (s : State) (k : Nat) : State :=
  s.each ((s.slotsOf k).filter s.switching) fun u n => u.orderStop n 3

/-- A slot that switches is ordered to stop at its next carrier point. -/
theorem State.orderStop_switching (s : State) {n : Nat} (v : Nat) (h : s.sstate n = 2) :
    ∃ f : Edge → Edge, s.orderStop n v = s.updEdge n f ∧ ∀ e, ((f e).stopTo.map (·.2)) = some v :=
  ⟨_, if_pos h, fun _ => rfl⟩

/-- The orders of a pause change the edge records alone, each in the slot that it is for. -/
theorem State.pauseOrders_edges (s : State) (k : Nat) (hstart : ∀ n ∈ s.slotsOf k, s.sstate n ≠ 1) :
    s.pauseOrders k = { s with edges := (s.pauseOrders k).edges } ∧
      ∀ n ∈ s.slotsOf k, s.sstate n = 2 → (((s.pauseOrders k).edge n).stopTo.map (·.2)) = some 3 := by
  have hswitching (n : Nat) (hn : n ∈ (s.slotsOf k).filter s.switching) : s.sstate n = 2 := by
    obtain ⟨hmem, hsw⟩ := List.mem_filter.1 hn
    simp only [State.switching, Bool.or_eq_true, beq_iff_eq] at hsw
    exact hsw.resolve_left (hstart n hmem)
  have hstep (u : State) (n : Nat) (hn : n ∈ (s.slotsOf k).filter s.switching) (hu : u = { s with edges := u.edges }) :
      ∃ f : Edge → Edge, u.orderStop n 3 = u.updEdge n f ∧ ∀ e, ((f e).stopTo.map (·.2)) = some 3 :=
    u.orderStop_switching 3 (by rw [hu]; exact hswitching n hn)
  have hkeep (u : State) (n : Nat) (f : Edge → Edge) (hu : u = { s with edges := u.edges }) :
      u.updEdge n f = { s with edges := (u.updEdge n f).edges } := by
    conv_lhs => rw [hu]
    rfl
  refine ⟨State.each_inv _ (fun u => u = { s with edges := u.edges }) _ _ rfl fun u n hn hu => ?_, fun n hn h2 => ?_⟩
  · obtain ⟨f, hf, -⟩ := hstep u n hn hu
    rw [hf]
    exact hkeep u n f hu
  · refine State.each_all (fun u => u = { s with edges := u.edges }) (fun n u => ((u.edge n).stopTo.map (·.2)) = some 3) _ _ s rfl
      (fun u x hx hu => ?_) (fun u x y hx hu hy => ?_) n (List.mem_filter.2 ⟨hn, by simp [State.switching, h2]⟩)
    · obtain ⟨f, hf, hstop⟩ := hstep u x hx hu
      rw [hf, State.edge_updEdge_same]
      exact ⟨hkeep u x f hu, hstop _⟩
    · obtain ⟨f, hf, hstop⟩ := hstep u x hx hu
      rw [hf]
      by_cases hyx : y = x
      · subst hyx
        rw [State.edge_updEdge_same]
        exact hstop _
      · rwa [State.edge_updEdge_other _ _ hyx]

/-- What a pause leaves as it was before its slots stop. -/
theorem State.pausingFrom_keeps (s : State) {k : Nat} (hk : k < 12) : (s.pausingFrom k).slotsOf k = s.slotsOf k ∧
    (∀ n ∈ s.slotsOf k, (s.pausingFrom k).sstate n = s.sstate n) ∧ (s.pausingFrom k).cstate k = s.cstate k ∧
    (s.pausingFrom k).cluSwitching k = s.cluSwitching k ∧ ((s.pausingFrom k).cluster k).pausing = true := by
  have hreg (a : Nat) (hp : plantReg a) (ha : ¬sideRegs a) : (s.pausingFrom k).reg a = s.reg a := (s.moves_dropSweep hk).reg a hp ha
  have hslots := hreg _ (plantReg_clu hk).2.1 (sideRegs_apart k).2.1
  have hedge (n : Nat) (hn : n < 24) : (s.pausingFrom k).reg (Reg.EDG_STAT n) = s.reg (Reg.EDG_STAT n) :=
    hreg _ (plantReg_edg hn).1 (by simp only [sideRegs, Reg.EDG_STAT]; omega)
  exact ⟨State.slotsOf_congr hslots, fun n hn => State.fld_congr (hedge n (s.mem_slotsOf hn)) _,
    State.cstate_congr (hreg _ (plantReg_clu hk).2.2.1 (sideRegs_apart k).2.2), State.cluSwitching_congr hslots hedge,
    by rw [State.pausingFrom, State.cluster_updCluster_same]⟩

theorem pause_orders (hmay : s.mayCommand who k.val = true) (howner : who ≠ .host) (hrun : s.cstate k.val = csRUN)
    (hcalm : (s.cluster k.val).pausing = false) (hswitch : s.cluSwitching k.val = true) (hstart : ∀ n ∈ s.slotsOf k.val, s.sstate n ≠ 1) :
    Completes (.pause who k) s fun t =>
      t.fld (Reg.CLU_STAT k.val) Fld.CLU_STAT_CMDRES = rcDONE ∧ (t.cluster k.val).pausing ∧ t.cstate k.val = csRUN ∧ ∀ n ∈ s.slotsOf k.val, s.sstate n =
      2 → ((t.edge n).stopTo.map (·.2)) = some 3 := by
  have hcmd : s.cmdPause k.val (who != .host) = (((s.pausingFrom k.val).pauseOrders k.val).cluFollow k.val).cluResult k.val rcDONE := by
    rw [State.cmdPause, State.cluExec_free fun _ => hcalm]
    simp only [hrun, howner, bne_self_eq_false, Bool.false_eq_true, if_false, Bool.not_eq_true', bne_eq_false_iff_eq]
    rfl
  obtain ⟨hslots, hsstate, hstate, hsw, hmark⟩ := s.pausingFrom_keeps k.isLt
  obtain ⟨hedges, hstops⟩ := (s.pausingFrom k.val).pauseOrders_edges k.val (by rw [hslots]; exact fun n hn => by rw [hsstate n hn]; exact hstart n hn)
  have hrunning : ((s.pausingFrom k.val).pauseOrders k.val).cstate k.val = csRUN := by rw [hedges]; exact hstate.trans hrun
  have hswitching : ((s.pausingFrom k.val).pauseOrders k.val).cluSwitching k.val = true := by rw [hedges]; exact hsw.trans hswitch
  have hpausing : (((s.pausingFrom k.val).pauseOrders k.val).cluster k.val).pausing = true := by rw [hedges]; exact hmark
  rw [State.cluFollow_run hrunning hswitching] at hcmd
  refine completes_done (f := fun s => s.cmdPause k.val (who != .host)) rfl hmay hcmd fun t hres hcstate hclusters hedge _ =>
    ⟨hres, ?_, hcstate.trans ((State.counted_cstate _ _).trans hrunning), fun n hn h2 => ?_⟩
  · rw [State.cluster, hclusters]
    exact hpausing
  · rw [State.edge, hedge]
    exact hstops n (by rw [hslots]; exact hn) (by rw [hsstate n hn]; exact h2)

end pause

/-! ### RESUME -/

section resume
variable {s : State} {who : Party} {k : Clu}

/-- A cluster in RUN that is not being paused stays so as its slots start. -/
theorem State.orderStart_running {u : State} {k n : Nat} (hk : k < 12) (hn : n < 24)
    (hu : u.cstate k = csRUN ∧ (u.cluster k).pausing = false) :
    (u.orderStart n true).cstate k = csRUN ∧ ((u.orderStart n true).cluster k).pausing = false := by
  refine ⟨?_, (u.moves_orderStart true hn).calm k hu.2⟩
  rcases u.orderStart_step n true hk with hsame | ⟨hstarts, -⟩ | ⟨hstops, -⟩ | ⟨-, hpause, -⟩
  · exact hsame.trans hu.1
  · exact absurd (hu.1.symm.trans hstarts) (by decide)
  · exact absurd (hu.1.symm.trans hstops) (by decide)
  · exact absurd (hu.2.symm.trans hpause) (by decide)

/-- The slots that RESUME starts. -/
def State.resumes (s : State) (k n : Nat) : Bool :=
  (s.sstate n == 3 || s.sstate n == 0) && s.bit (Reg.EDG_CTRL n) Fld.EDG_CTRL_EN && (s.isGfi k || bitOf (s.activeMask k) (s.posOf k n))

/-- A cluster resumed. -/
def State.resumed (s : State) (k : Nat) : State :=
  (s.setCState k csRUN).each (((s.setCState k csRUN).slotsOf k).filter ((s.setCState k csRUN).resumes k)) fun u n => u.orderStart n true

theorem resume_runs (hmay : s.mayCommand who k.val = true) (howner : who ≠ .host) (hpaused : s.cstate k.val = csPAUSED)
    (hcalm : (s.cluster k.val).pausing = false) :
    Completes (.resume who k) s fun t => t.fld (Reg.CLU_STAT k.val) Fld.CLU_STAT_CMDRES = rcDONE ∧ t.cstate k.val = csRUN := by
  have hcmd : s.cmdResume k.val (who != .host) = (s.resumed k.val).cluResult k.val rcDONE := by
    rw [State.cmdResume, State.cluExec_free fun h => absurd (hpaused.symm.trans h) (by decide)]
    simp only [hpaused, howner, bne_self_eq_false, Bool.false_eq_true, if_false, Bool.not_eq_true', bne_eq_false_iff_eq]
    rfl
  have hrunning : (s.resumed k.val).cstate k.val = csRUN ∧ ((s.resumed k.val).cluster k.val).pausing = false :=
    State.each_inv _ (fun u => u.cstate k.val = csRUN ∧ (u.cluster k.val).pausing = false) _ _
      ⟨s.setCState_cstate k.isLt (by decide), (s.moves_setCState (own := fun _ => True) csRUN trivial).calm _ hcalm⟩
      fun u n hn hu => State.orderStart_running k.isLt (State.mem_slotsOf _ (List.mem_of_mem_filter hn)) hu
  exact completes_done (f := fun s => s.cmdResume k.val (who != .host)) rfl hmay hcmd fun _ hres hstate _ _ _ => ⟨hres, hstate.trans hrunning.1⟩

end resume

/-! ### RESTART -/

section restart
variable {s : State} {who : Party} {k : Clu}

theorem clearOrders_off (s : State) {k : Nat} (hk : k < 12) : (s.clearOrders k).cstate k = csOFF ∧ ((s.clearOrders k).cluster k).byRegion = false := by
  have hmark (u : State) : ((u.updCluster k fun c => { c with byRegion := false }).cluster k).byRegion = false := by
    rw [State.cluster_updCluster_same]
  exact ⟨State.setCState_cstate _ hk (by decide), (State.moves_setCState (own := fun _ => True) _ csOFF trivial).unmarked k (hmark _)⟩

theorem restart_clears (hmay : s.mayCommand who k.val = true) (hstopped : s.cstate k.val = csSAFE_STOPPED)
    (hretry : s.bit (Reg.CLU_DC_STAT k.val) Fld.CLU_DC_STAT_RETRY_PEND = false)
    (hlatch : s.bit (Reg.CLU_DC_STAT k.val) Fld.CLU_DC_STAT_SS_LATCH = false) (hgone : s.stopCauseGone k.val = true) :
    Completes (.restart who k) s fun t =>
      t.fld (Reg.CLU_STAT k.val) Fld.CLU_STAT_CMDRES = rcDONE ∧ t.cstate k.val = csOFF ∧ (t.cluster k.val).byRegion = false := by
  have hcmd : s.cmdRestart k.val = (s.clearOrders k.val).cluResult k.val rcDONE := by
    rw [State.cmdRestart, State.cluExec_free fun h => absurd (hstopped.symm.trans h) (by decide)]
    simp [hstopped, hretry, hlatch, hgone]
  obtain ⟨hoff, hmark⟩ := clearOrders_off s k.isLt
  exact completes_done (f := fun s => s.cmdRestart k.val) rfl hmay hcmd fun _ hres hstate hclusters _ _ =>
    ⟨hres, hstate.trans hoff, by rw [State.cluster, hclusters]; exact hmark⟩

end restart

/-- Settles O30: the clauses of a command carried out, by what a step of its cluster can make of CSTATE (`CluStep`) and the frame of its orders
(`Moves`); the refused ones by one lemma each, and those to an absent cluster by `completes_absent`. -/
theorem clusterCommandsComplete : Obligations.ClusterCommandsComplete := by
  unfold Obligations.ClusterCommandsComplete
  have hstate : rcSTATE ≠ rcDONE ∧ rcSTATE < 256 := by decide
  have hbusy : rcBUSY ≠ rcDONE ∧ rcBUSY < 256 := by decide
  exact ⟨fun _ _ _ hmay hdev hoff hok => enable_starts hmay hdev hoff hok,
    fun _ k _ hmay hbarred hfree => completes_refused (f := fun s => s.cmdEnable k.val) rfl hmay (cmdEnable_refused hfree hbarred) hstate.1 hstate.2,
    fun _ _ _ hmay hfree hstate hrest => disable_stops hmay hfree hstate hrest,
    fun _ _ _ hmay hfree hstate => disable_ends hmay hfree hstate,
    fun _ k _ hmay hbarred => completes_refused (f := fun s => s.cmdDisable k.val) rfl hmay (cmdDisable_refused hbarred) hstate.1 hstate.2,
    fun _ _ _ hmay howner hrun hcalm hswitch hstart => pause_orders hmay howner hrun hcalm hswitch hstart,
    fun who k _ hmay hbarred => completes_refused (f := fun s => s.cmdPause k.val (who != .host)) rfl hmay (cmdPause_refused _ hbarred) hstate.1 hstate.2,
    fun _ _ _ hmay howner hpaused hcalm => resume_runs hmay howner hpaused hcalm,
    fun who k _ hmay hfree hbarred => completes_refused (f := fun s => s.cmdResume k.val (who != .host)) rfl hmay (cmdResume_refused _ hfree hbarred)
      hstate.1 hstate.2,
    fun _ _ _ hmay hstopped hretry hlatch hgone => restart_clears hmay hstopped hretry hlatch hgone,
    fun _ k _ hmay hfree hbarred => completes_refused (f := fun s => s.cmdRestart k.val) rfl hmay (cmdRestart_refused hfree hbarred) hstate.1 hstate.2,
    fun _ k _ hmay hrun hpause => completes_refused (f := fun s => s.cmdEnable k.val) rfl hmay (State.cluExec_busy hrun hpause) hbusy.1 hbusy.2,
    fun _ k _ hmay hrun hpause => completes_refused (f := fun s => s.cmdDisable k.val) rfl hmay (State.cluExec_busy hrun hpause) hbusy.1 hbusy.2,
    fun who k _ hmay hrun hpause => completes_refused (f := fun s => s.cmdPause k.val (who != .host)) rfl hmay (State.cluExec_busy hrun hpause)
      hbusy.1 hbusy.2,
    fun who k _ hmay hrun hpause => completes_refused (f := fun s => s.cmdResume k.val (who != .host)) rfl hmay (State.cluExec_busy hrun hpause)
      hbusy.1 hbusy.2,
    fun _ k _ hmay hrun hpause => completes_refused (f := fun s => s.cmdRestart k.val) rfl hmay (State.cluExec_busy hrun hpause) hbusy.1 hbusy.2,
    fun who k _ hrun hk => completes_absent (who := who) (f := fun s => s.cmdEnable k.val) rfl hrun hk,
    fun who k _ hrun hk => completes_absent (who := who) (f := fun s => s.cmdDisable k.val) rfl hrun hk,
    fun who k _ hrun hk => completes_absent (who := who) (f := fun s => s.cmdPause k.val (who != .host)) rfl hrun hk,
    fun who k _ hrun hk => completes_absent (who := who) (f := fun s => s.cmdResume k.val (who != .host)) rfl hrun hk,
    fun who k _ hrun hk => completes_absent (who := who) (f := fun s => s.cmdRestart k.val) rfl hrun hk⟩

end Sys2Proof.Machine
end
